-- ==== Sys2Proof/Word.lean ====
section
/-! DEFINITION. The words of control space, flits and lines, and the keyed tables the state is made of.
Multi-byte quantities are little-endian (R15); a line is 64 bytes with byte 0 at the lowest address. -/

namespace Sys2Proof

abbrev Byte := BitVec 8
abbrev Word16 := BitVec 16
abbrev Word32 := BitVec 32
abbrev Word64 := BitVec 64
/-- A 64-byte line; byte b is bits [8b + 7 : 8b] (R15). -/
abbrev Line := BitVec 512
/-- A SHA-384 digest of a public key, byte 0 at bits [7:0] (R406, R418). -/
abbrev Digest := BitVec 384
/-- A count of ticks of the 1 GHz domain: one tick is 1 ns (R16, R39). -/
abbrev Tick := Nat

/-- A sparse table: keys strictly rising, an absent key stands for the table's own default entry. -/
abbrev Tab (α : Type) := List (Nat × α)

end Sys2Proof
end

