-- ==== Sys2Proof/Config/Types.lean ====
section
/-! DEFINITION. The data that commands carry: what a unit, a partner or the world presents to the base.
Indices (station, site, link, ...) are natural numbers; WellFormed checks their ranges. -/

namespace Sys2Proof

/-- The three members of the family (R5). -/
inductive Variant where
  | s3 | s6 | s12
deriving DecidableEq, Repr

/-- The kinds of station (R26). -/
inductive StationKind where
  | ss | ms | xs | ws
deriving DecidableEq, Repr

/-- A path into control space (R443): an SPDM session, a die's sideband, a die's MGT slots. -/
inductive Path where
  | session (n : Nat)
  | sideband (site : Nat)
  | mgt (site : Nat)
deriving DecidableEq, Repr

/-- The roles of R417; `none` is an access without a role. -/
inductive Role where
  | none | operator | installer | maker
deriving DecidableEq, Repr

/-- What a decoder found in a flit, a pool line or a millpond line (R136, R172, R253): by its outcome, where a millpond access
names the word of its line that failed, or by the symbols in error with their places, from which the outcome follows, and
whether the stack's own ECC reported an error (R134). -/
inductive Verdict where
  | clean
  | corrected (word : Nat)
  | uncorrectable (word : Nat)
  | symbols (onDie : Bool) (errs : List (Nat × Byte))
deriving DecidableEq, Repr

/-- An access of a crew core to a scratchpad word (R176): the core, the bank's core, the word in the bank, the value of a write,
and the bits of the stored word that are in error when it is read. -/
structure CrewAccess where
  core : Nat
  bank : Nat
  word : Nat
  write : Option Word64 := none
  bits : Nat := 0
deriving DecidableEq, Repr

/-- What becomes of a sluice flit at its receiving port (R50, R62). -/
inductive SluiceVerdict where
  | good | uncorrectable | stageMiss
deriving DecidableEq, Repr

/-- The 128-bit fault message of R373. -/
structure FaultMsg where
  block : BitVec 4
  inst : BitVec 6
  kind : BitVec 8
  sev : BitVec 2
  first : Bool := false
  suppressed : Bool := false
  cleared : Bool := false
  injected : Bool := false
  addr : BitVec 48 := 0
  time : BitVec 56 := 0
deriving DecidableEq, Repr

/-- The fields of a preamble flit (R49); received, as one of the two flits decodes. -/
structure Preamble where
  pass : Word32
  frame : BitVec 18
  preambleNo : Bool := false
  node : Word16
  source : BitVec 6
  plane : BitVec 3
  reelId : Word16
  feed : Byte := 0
  /-- CHECK, the CRC-32 of bytes 20 to 35 -/
  check : Word32
deriving DecidableEq, Repr

/-- One station's slack measurements for one frame (R60). -/
structure SlackSample where
  station : Nat
  frameSlack : Nat
  stageSlack : Nat
  prepared : Bool
deriving DecidableEq, Repr

/-- What the world gives a frame boundary: the slack measurements, and the read-stream lines that the stack did not
deliver in time (station, selector, lines missing; R80) or delivered with errors (line of the pool; R137). Log entry 24 (DESIGN CHOICE). -/
structure FrameEnv where
  slack : List SlackSample := []
  fetchShort : List (Nat × Nat × Nat) := []
  fetchErrs : List (Nat × Verdict) := []
deriving DecidableEq, Repr

/-- One slot of a flit with its descriptor (R256). -/
structure Slot where
  cls : BitVec 3
  op : BitVec 5
  tag : BitVec 12 := 0
  fence : Bool := false
  last : Bool := false
  poison : Bool := false
  /-- descriptor bit 23, reserved -/
  reserved : Bool := false
  data : Line := 0
deriving DecidableEq, Repr

/-- A flit (R252, R255): the four slots, an unoccupied one absent. -/
structure Flit where
  type : BitVec 4 := 1
  seq : BitVec 12 := 0
  ack : BitVec 8 := 0
  nak : Bool := false
  rerouted : Bool := false
  origin : BitVec 6 := 0
  cred : List Nat := []
  slots : List (Option Slot) := []
deriving DecidableEq, Repr

/-- The memory operations of R124. -/
inductive MemOp where
  | load | store | addI64 | addF32x2 | swap | cas | maxI64 | minI64 | maxF32x2 | minF32x2
deriving DecidableEq, Repr

/-- The units of a node that issue memory requests (R108, R156). -/
inductive Requester where
  | site (n : Nat) (module : Nat)
  | grip (g : Nat)
  | millstone (w : Nat)
  | engine
  | remote (node : Nat) (xs : Nat)
deriving DecidableEq, Repr

/-- A memory request as its requester gives it to its station (R125, R126). -/
structure IssueReq where
  who : Requester
  op : MemOp
  addr : Word64
  tag : BitVec 12 := 0
  mask : Word64 := 0
  operand : Word64 := 0
  compare : Word64 := 0
  data : Line := 0
  poison : Bool := false
  fence : Bool := false
  job : Nat := 0
deriving DecidableEq, Repr

/-- A memory request as it reaches its home: the request, its response buffer with the reserved slot and the slot's
generation (R145), and the requesting node. A buffer is a station 0 to 35, grip g as 36 + g, or the blocking engine as
52. For a request of another node the buffer is the external station it came in on and the slot is its flow tag. -/
structure MemReq where
  req : IssueReq
  buf : Nat
  slot : Nat := 0
  gen : BitVec 8 := 0
  node : Word16 := 0
deriving DecidableEq, Repr

/-- A response as it reaches its requester's response buffer (R127, R128, R145). -/
structure MemRsp where
  buf : Nat
  slot : Nat
  gen : BitVec 8
  data : Line := 0
  poison : Bool := false
  result : Word64 := 0
  status : BitVec 8 := 0
deriving DecidableEq, Repr

/-- A failing lane of a stack (R139). -/
inductive StackLaneEvent where
  | lane (lane : Nat) (spareLeft : Bool)
  | channelTraining (channel : Nat)
deriving DecidableEq, Repr

/-- The fields of a region entry (R153). -/
structure RegionFields where
  node : Word16
  base : Word32
  blocks : BitVec 24
  job : Byte
  mode : BitVec 2
  threshold : Byte
deriving DecidableEq, Repr

/-- The fields of a watch (R188, R191). -/
structure WatchFields where
  word : BitVec 24
  threshold : Word64
  step : Word32
  mode : BitVec 2
  site : BitVec 4
  tag : Word16
deriving DecidableEq, Repr

/-- A COL_HDR command (R205). -/
structure ColHdr where
  context : Nat
  member : Nat
  part : Nat
  count : Nat
  run : Byte
  chunk : Nat
  line : Nat
deriving DecidableEq, Repr

/-- What the margin monitor makes of a lane in a trim interval (R246): the taps it moves toward, and the eye it sees. -/
structure LaneTrim where
  module : Nat
  lane : Nat
  delay : Nat
  thr : Nat
  width : Nat
  height : Nat
deriving DecidableEq, Repr

/-- A message that the base sends on a site's sideband (R273). -/
inductive SbKind where
  | hello | cap | capEnd | agreed | agreedEnd | resend | regRsp | repair | repairDone | narrow | moduleOff | pause | powerLimit
  | pace | slewGrant | fenceNotice
deriving DecidableEq, Repr

/-- A sideband message of the base: its kind and its fields, in the order of the table of R273; the last field of PAUSE is the tick
of the window boundary. -/
structure SbMsg where
  kind : SbKind
  vals : List Nat
deriving DecidableEq, Repr

/-- How a lane, half or module came out of site training (R242 to R244). Log entry 24 (DESIGN CHOICE). -/
structure TrainResult where
  answered : Bool := true
  clockFail : Option Nat := none
  /-- lanes that failed the lane test at any rate: (module, lane), lane 64 to 67 a spare -/
  failed : List (Nat × Nat) := []
  /-- centred taps: (rate, module, lane, delay, threshold) -/
  taps : List (Nat × Nat × Nat × Nat × Nat) := []
deriving DecidableEq, Repr

/-- A receiver that asks for replay (R104, R265, R286): a D2B module of a site, a lane of a pod link, a wavelength of a
millrace pair. -/
inductive RetryPort where
  | site (n module : Nat)
  | lane (link lane : Nat)
  | lambda (src dst l : Nat)
deriving DecidableEq, Repr

/-- A LANE_MAP command (R289). -/
structure LaneMapCmd where
  lanes : Word16
  epoch : Word16
  ackEpoch : Word16
  lane : BitVec 4
  cause : BitVec 4
  ack : Bool
deriving DecidableEq, Repr

/-- A ROUTE command (R289). -/
structure RouteCmd where
  destNode : Word16
  srcNode : Word16
  destXs : BitVec 3
  srcXs : BitVec 3
  job : Byte
  cls : BitVec 3
  fseq : Word32
deriving DecidableEq, Repr

/-- A FLOW_ACK command (R289). -/
structure FlowAckCmd where
  destNode : Word16
  srcNode : Word16
  destXs : BitVec 3
  srcXs : BitVec 3
  job : Byte
  cls : BitVec 3
  fack : Word32
  window : Word16
deriving DecidableEq, Repr

/-- A LINK_HELLO command (R289). -/
structure LinkHelloCmd where
  node : Word16
  isSwitch : Bool
  xs : BitVec 3
  link : BitVec 6
  rev : Byte
deriving DecidableEq, Repr

/-- A TIME command (R289). -/
structure TimeCmd where
  resp : Bool
  locked : Bool
  hops : Byte
  sourceNode : Word16
  priority : Byte
  residence : Word16
  t3 : Word64
deriving DecidableEq, Repr

/-- A link command on its way to a lane (R289, R309): a TIME response keeps the tick of the timecode at which its request came. -/
inductive LinkOut where
  | hello (c : LinkHelloCmd)
  | laneMap (c : LaneMapCmd)
  | flowAck (c : FlowAckCmd)
  | route (r : RouteCmd)
  | timeRequest (c : TimeCmd)
  | timeResponse (c : TimeCmd) (t2 : Word64)
deriving DecidableEq, Repr

/-- A forwarded message (R304). -/
structure FwdMsg where
  destNode : Word16
  srcNode : Word16
  site : Nat
  down : Bool
  hops : Nat
  msg : BitVec 4
  lines : List Line
deriving DecidableEq, Repr

/-- A SIGNAL command position (R258). -/
structure SignalPos where
  value : Word64
  sites : BitVec 12
  tag : Word16
  node : Word16
deriving DecidableEq, Repr

/-- A flag that a laser module sets (R318). -/
inductive LaserFlag where
  | leftReady | laneLost (lane : Nat) | alarm | warning
deriving DecidableEq, Repr

/-- The result of a re-sweep (R329). -/
inductive ResweepResult where
  | locked (coarse : Nat)
  | failed
deriving DecidableEq, Repr

/-- A PACE_NOTICE (R365). -/
structure PaceMsg where
  podJob : Word32
  slowdown : Nat
  source : Word16
  seq : Word16
  cause : Byte
deriving DecidableEq, Repr

/-- A CLAIM_NOTICE (R395). -/
structure ClaimMsg where
  mask : Word64
  window : BitVec 4
  claimed : Word16
  newNode : Word16
  epoch : Byte
  time : Word64
deriving DecidableEq, Repr

/-- A MIR_HEARTBEAT (R392). -/
structure HeartbeatMsg where
  node : Word16
  role : BitVec 2
  forerunner : Bool
  epoch : Byte
  confirmed : Word32
  released : Word32
  config : Word16
deriving DecidableEq, Repr

/-- The identity of a mirrored access's requester (R392). -/
structure MirIdent where
  node : Word16
  job : Byte
  flowTag : BitVec 12
deriving DecidableEq, Repr

/-- A MIR_STORE as the stand-in receives it (R392). -/
structure MirStoreMsg where
  mseq : Nat
  offset : Nat
  mask : Word64
  ident : MirIdent
  data : Line
deriving DecidableEq, Repr

/-- A MIR_WORD as the stand-in receives it (R392). -/
structure MirWordMsg where
  mseq : Nat
  offset : Nat
  value : Word64
  result : Word64
  ident : MirIdent
deriving DecidableEq, Repr

/-- A mirrored store or atomic that arrived ahead of an earlier one (R392). -/
inductive MirIn where
  | store (m : MirStoreMsg)
  | word (m : MirWordMsg)
deriving DecidableEq, Repr

/-- A state record copied to the stand-in (R391). -/
inductive MirStateRec where
  | region (entry : Nat) (f : RegionFields)
  | checkpoint (ctx : Nat) (line : Nat) (data : Line)
  | log (index : Nat) (data : Line)
deriving DecidableEq, Repr

/-- A unit identifier's parts (R380): TYPE and INDEX; the 32-bit identifier is INDEX * 16 + TYPE. -/
structure UnitId where
  type : Nat
  index : Nat
deriving DecidableEq, Repr

/-- One route table entry (R306). -/
structure RouteEntry where
  kind : Nat := 0
  level : Nat := 0
  localXs : Byte := 0
  remoteXs : Byte := 0
  nextHop : Word16 := 0
  reserved : Bool := false
deriving DecidableEq, Repr

/-- The pair section of a script (R390). -/
structure PairCfg where
  partner : Word16
  linkA : Nat
  linkB : Nat
  forerunner : Bool
  scriptLead : Bool
  window : BitVec 4
  mask : Word64
  audience : List Nat
  stateBase : BitVec 21
deriving DecidableEq, Repr

/-- VSITE limits of one site (R239, R251). -/
structure VsiteLimits where
  min : Nat := 0
  max : Nat := 90
  start : Nat := 40
deriving DecidableEq, Repr

/-- One trim record of a tunable element (R337). -/
structure TrimRec where
  coarse : BitVec 5 := 0
  fine : BitVec 12 := 0
  bias : BitVec 6 := 0
  detThr : BitVec 6 := 0
  tiaOff : BitVec 6 := 0
  valid : Bool := false
deriving DecidableEq, Repr

/-- A warm-trim image (R337); `valid` is the outcome of FORMAT, SERIAL and the three CRCs. Log entry 64 (DEDUCED). -/
structure WarmImage where
  valid : Bool := false
  generation : Word32 := 0
  savedAt : Word64 := 0
  tempSaved : Int := 0
  elems : Tab TrimRec := []
  /-- site-interface taps: delay * 32 + threshold, by ((3 * site + rate) * 32 + module) * 69 + lane -/
  taps : Tab Nat := []
  /-- elements that are not listed stand at the default trims with VALID set -/
  rest : Bool := false
deriving DecidableEq, Repr

/-- The decoded content of a script (R406, R407); an absent section is `none`. -/
structure Script where
  sequence : Word32
  serial : Word64
  variant : Variant
  installerSigned : Bool
  node : Word16
  priority : Byte := 255
  operatorAnchors : List Digest := []
  owners : Option (List (Nat × Nat)) := none
  home : Option (List Nat) := none
  memTimeout : Nat := 64
  replicaGib : Nat := 0
  reserveBase : Nat := 520
  reserveStack : Nat := 38
  fallback : Nat := 4866
  rackEid : Byte := 0
  siteCaps : List Nat := []
  sitePmax : List Nat := []
  vsite : List VsiteLimits := []
  blkDispatch : Word32 := 0x4000
  gafCtrl : Word32 := 3
  clapMode : Nat := 0
  clapOffset : Int := 0
  drainFirst : Bool := false
  routeId : Word32 := 0
  route : Option (Tab RouteEntry) := none
  pair : Option PairCfg := none
  lasers : Option (List (Nat × Nat × Nat)) := none
  podId : Word32 := 0
  expect : Word64 := 0
  sweep : List Nat := []
  warmTrim : Bool := false
  warmPreferred : Bool := false
  /-- the section headers and bodies with POD set, in increasing TYPE, unpadded (R431) -/
  podBytes : List Byte := []
  /-- the warm-trim section's image (R335) -/
  warm : Option WarmImage := none
  tsiFreeze : Bool := false
  focFreeze : Bool := false
deriving DecidableEq, Repr

/-- A script copy as boot phase 4 or a check finds it: its decoded content when its framing decodes, and the outcome of
the checks the model does not compute (R408, R409): the signature, and reserved values of encodings.
Log entry 24 (DESIGN CHOICE). -/
structure ScriptCopy where
  content : Option Script
  framingOk : Bool := true
  signatureOk : Bool := true
  podFlagsOk : Bool := true
  reservedOk : Bool := true
  warmFormatOk : Bool := true
deriving DecidableEq, Repr

/-- A firmware image's header as the base finds it (R436), with the outcome of its signatures. Log entry 24 (DESIGN CHOICE). -/
structure ImageCheck where
  tagsOk : Bool := true
  signaturesOk : Bool := true
  variantOk : Bool := true
  steppingOk : Bool := true
deriving DecidableEq, Repr

/-- A role certificate presented in a KEY_EXCHANGE (R418): its role, the SERIAL it names, its key's digest and that of the
anchor at which its chain ends, and the outcome of the checks of its form and signatures. Log entry 24 (DESIGN CHOICE). -/
structure Certificate where
  role : Role
  serial : Word64
  keyDigest : Digest
  anchor : Digest
  chainOk : Bool
  selfSigned : Bool
deriving DecidableEq, Repr

/-- The SPDM requests that the base supports inside or before a session (R419); `other` is any other request. -/
inductive SpdmReq where
  | getVersion | getCapabilities | negotiateAlgorithms | getDigests | getCertificate | challenge | getMeasurements
  | finish | heartbeat | keyUpdate | other
deriving DecidableEq, Repr

/-- An instruction of the test access port (R483). -/
inductive TapInstr where
  | bypass | idcode | samplePreload | other (code : Nat)
deriving DecidableEq, Repr

/-- The reading of one voted item's copies (R386, R387). -/
inductive VoteResult where
  | agree | scrubbed | lost
deriving DecidableEq, Repr

end Sys2Proof
end

