-- ==== Sys2Proof/Syntax.lean ====
section
/-! DEFINITION. The commands of the block: one constructor for each row of the table of steps, with what the sender
presents in its operands. A constructor's comment cites the rule that governs the row. -/

namespace Sys2Proof

/-- The commands. -/
inductive Instr where
  /-- TIMECODE_TICK, R39. -/
  | timecodeTick (crew : List CrewAccess)
  /-- TIME_CORRECTION_STEP, R44. -/
  | timeCorrectionStep (plus : Bool)
  /-- REFCLK_LOSS, R40. -/
  | refclkLoss
  /-- REFCLK_HOLDOVER_EXPIRY, R40. -/
  | refclkHoldoverExpiry
  /-- STITCH_REMEASURE, R42. -/
  | stitchRemeasure (skews : List (Nat × Nat))
  /-- FRAME_BOUNDARY, R47. -/
  | frameBoundary (env : FrameEnv)
  /-- PREAMBLE_RECEIVED, R50. -/
  | preambleReceived (station plane : Nat) (p0 p1 : Option Preamble)
  /-- SPLICE, R51. -/
  | splice
  /-- SWAP_ARM, R53. -/
  | swapArm (p : Path)
  /-- SWAP_CANCEL, R100. -/
  | swapCancel (p : Path)
  /-- REEL_START, R54. -/
  | reelStart (p : Path)
  /-- REEL_STOP, R54. -/
  | reelStop (p : Path)
  /-- CLAPPER_PULSE, R56. -/
  | clapperPulse
  /-- CLAPPER_WINDOW_CLOSE, R58. -/
  | clapperWindowClose
  /-- FOLLOW_FIRST_PASS, R59. -/
  | followFirstPass
  /-- CLAPPER_START_TIMEOUT, R59. -/
  | clapperStartTimeout
  /-- SLACK_SHORT_TIMEOUT, R61. -/
  | slackShortTimeout (station : Nat)
  /-- TC_PAUSE_REQ, R64. -/
  | tcPauseReq (p : Path) (station rate : Nat)
  /-- PAUSE_WINDOW_START, R63. -/
  | pauseWindowStart (station : Nat)
  /-- PAUSE_COMPLETE, R63. -/
  | pauseComplete (station : Nat)
  /-- PAUSE_TIMEOUT, R66. -/
  | pauseTimeout (station : Nat)
  /-- SLUICE_FLIT_RECEIVE, R86. -/
  | sluiceFlitReceive (station plane : Nat) (v : SluiceVerdict)
  /-- SITE_STREAM_FORWARD, R85. -/
  | siteStreamForward (station selector : Nat)
  /-- REEL_STORE_WRITE, R93. -/
  | reelStoreWrite (p : Path) (addr : Nat) (data : Word32)
  /-- REEL_CHECK, R93. -/
  | reelCheck (p : Path)
  /-- REEL_CHECK_COMPLETE, R94. -/
  | reelCheckComplete
  /-- REEL_CLEAR, R93. -/
  | reelClear (p : Path)
  /-- DRAIN_END, R100. -/
  | drainEnd
  /-- MILLRACE_FLIT_SEND, R109. -/
  | millraceFlitSend (src dst lambda : Nat)
  /-- MILLRACE_FLIT_RECEIVE, R104. -/
  | millraceFlitReceive (src dst lambda : Nat) (v : Verdict)
  /-- SELF_DELIVERY, R490. -/
  | selfDelivery (station cls : Nat)
  /-- MILLRACE_LAMBDA_OUT, R117. -/
  | millraceLambdaOut (station lambda : Nat)
  /-- SPARE_REMAP_COMPLETE, R118. -/
  | spareRemapComplete (src dst : Nat)
  /-- PEAK_CLEAR_SELECTED, R120. -/
  | peakClearSelected (p : Path)
  /-- PEAK_CLEAR_ALL, R120. -/
  | peakClearAll (p : Path)
  /-- MEM_REQUEST_ISSUE, R141. -/
  | memRequestIssue (r : IssueReq)
  /-- LOAD, R128. -/
  | load (q : MemReq) (v : Verdict)
  /-- STORE, R129. -/
  | store (q : MemReq) (v : Verdict)
  /-- STORE_DATA, R126. -/
  | storeData (site module : Nat) (tag : BitVec 12) (data : Line) (poison : Bool)
  /-- ADD_I64, R130. -/
  | addI64 (q : MemReq) (v : Verdict)
  /-- ADD_F32X2, R130. -/
  | addF32x2 (q : MemReq) (v : Verdict)
  /-- SWAP, R130. -/
  | swap (q : MemReq) (v : Verdict)
  /-- CAS, R130. -/
  | cas (q : MemReq) (v : Verdict)
  /-- MAX_I64, R130. -/
  | maxI64 (q : MemReq) (v : Verdict)
  /-- MIN_I64, R130. -/
  | minI64 (q : MemReq) (v : Verdict)
  /-- MAX_F32X2, R130. -/
  | maxF32x2 (q : MemReq) (v : Verdict)
  /-- MIN_F32X2, R130. -/
  | minF32x2 (q : MemReq) (v : Verdict)
  /-- LOAD_DATA, R128. -/
  | loadData (r : MemRsp)
  /-- ACK, R127. -/
  | ack (r : MemRsp)
  /-- TIMEOUT_SWEEP, R143. -/
  | timeoutSweep
  /-- PATROL_SCRUB, R138. -/
  | patrolScrub (ms : Nat) (line : Nat) (v : Verdict)
  /-- STACK_LANE_FAIL, R139. -/
  | stackLaneFail (ms : Nat) (ev : StackLaneEvent)
  /-- EPOCH_END, R158. -/
  | epochEnd
  /-- BLOCK_FETCH_RESPONSE, R157. -/
  | blockFetchResponse (slot line : Nat) (data : Line) (poison failed : Bool)
  /-- REGION_DECLARE, R153. -/
  | regionDeclare (p : Path) (entry : Nat) (f : RegionFields)
  /-- REGION_RELEASE, R155. -/
  | regionRelease (p : Path) (entry : Nat)
  /-- REGION_RELEASE_COMPLETE, R155. -/
  | regionReleaseComplete (entry : Nat)
  /-- GRIP_DESCRIPTOR_START, R184. -/
  | gripDescriptorStart (g : Nat)
  /-- DESCRIPTOR_COMPLETE, R183. -/
  | descriptorComplete (queue number : Nat)
  /-- QUEUE_ENABLE, R179. -/
  | queueEnable (p : Path) (queue base job : Nat)
  /-- QUEUE_DISABLE, R179. -/
  | queueDisable (p : Path) (queue : Nat)
  /-- QUEUE_RESET, R179. -/
  | queueReset (p : Path) (queue : Nat)
  /-- WATCH_ARM, R188. -/
  | watchArm (p : Path) (slot : Nat) (f : WatchFields)
  /-- WATCH_NOTICE, R190. -/
  | watchNotice (slot : Nat)
  /-- COL_HDR, R205. -/
  | colHdr (ws source : Nat) (h : ColHdr)
  /-- COL_LINE, R205. -/
  | colLine (ws source : Nat) (data : Line) (poison : Bool)
  /-- GROUP_FINISH, R206. -/
  | groupFinish (ctx chunk group : Nat)
  /-- CHUNK_COMPLETE, R220. -/
  | chunkComplete (ctx : Nat)
  /-- DUE_TICK, R222. -/
  | dueTick (ctx member : Nat)
  /-- LATE_LIMIT_EXPIRY, R223. -/
  | lateLimitExpiry (ctx member : Nat)
  /-- LANE_RATE_MEASURE, R194. -/
  | laneRateMeasure (ws rate : Nat)
  /-- CONTEXT_SETUP, R203. -/
  | contextSetup (p : Path) (ctx : Nat)
  /-- CONTEXT_ABORT, R203. -/
  | contextAbort (p : Path) (ctx : Nat)
  /-- CONTEXT_FREE, R203. -/
  | contextFree (p : Path) (ctx : Nat)
  /-- CONTEXT_CONSTANTS, R218. -/
  | contextConstants (p : Path) (ctx : Nat) (ks : List Word32)
  /-- SITE_POWER_UP, R241. -/
  | sitePowerUp (site : Nat)
  /-- VSITE_REQ, R239. -/
  | vsiteReq (site code : Nat)
  /-- VSITE_STEP, R239. -/
  | vsiteStep (site : Nat)
  /-- SITE_OVERVOLT, R240. -/
  | siteOvervolt (site : Nat)
  /-- SITE_UNDERVOLT, R240. -/
  | siteUndervolt (site : Nat)
  /-- SITE_OVERCURRENT, R240. -/
  | siteOvercurrent (site : Nat)
  /-- TSI_POWER_BUMP_FAIL, R240. -/
  | tsiPowerBumpFail (site group : Nat)
  /-- SITE_TRAINING, R242. -/
  | siteTraining (site : Nat) (res : TrainResult)
  /-- TRIM_INTERVAL, R246. -/
  | trimInterval (site : Nat) (moves : List LaneTrim)
  /-- TSI_LANE_TAP_WRITE, R246. -/
  | tsiLaneTapWrite (p : Path) (site module lane delay threshold : Nat)
  /-- TSI_TRIM_FREEZE, R246. -/
  | tsiTrimFreeze (p : Path) (site : Nat) (on : Bool)
  /-- LANE_FAILING, R248. -/
  | laneFailing (site module lane : Nat) (stuck : Bool)
  /-- SPARE_COMPARE_DONE, R248. -/
  | spareCompareDone (site module : Nat)
  /-- TSI_FLIT_RECEIVE, R265. -/
  | tsiFlitReceive (site module : Nat) (flit : Flit) (errs : List (Nat × Byte))
  /-- NAK_TIMEOUT, R265. -/
  | nakTimeout (port : RetryPort)
  /-- HOPPER_RELEASE, R270. -/
  | hopperRelease (site module : Nat)
  /-- SIGNAL, R258. -/
  | signal (site : Nat) (pos : SignalPos)
  /-- STREAM_LINE, R259. -/
  | streamLine (site stream : Nat) (data : Line) (poison : Bool)
  /-- STREAM_CREDIT, R259. -/
  | streamCredit (site stream lines : Nat) (revoke : Bool)
  /-- HELLO_ACK, R273. -/
  | helloAck (site : Nat) (revision : Byte)
  /-- CAP, R276. -/
  | cap (site word : Nat) (value : Word32)
  /-- CAP_END, R276. -/
  | capEnd (site : Nat)
  /-- RESEND, R272. -/
  | resend (site : Nat)
  /-- REG_READ, R446. -/
  | regRead (site : Nat) (addr : Nat) (tag : Byte)
  /-- REG_WRITE, R446. -/
  | regWrite (site : Nat) (addr : Nat) (tag : Byte) (data : Word32)
  /-- TEMP, R274. -/
  | temp (site : Nat) (t : Int)
  /-- LANE_FAIL, R247. -/
  | laneFail (site module lane : Nat)
  /-- PAUSE_REQ, R273. -/
  | pauseReq (site rate : Nat)
  /-- SLEW_REQ, R363. -/
  | slewReq (site delta window : Nat) (tag : Byte)
  /-- MODULE_OFF_ACK, R267. -/
  | moduleOffAck (site module seq : Nat)
  /-- SIDEBAND_LOST, R274. -/
  | sidebandLost (site : Nat)
  /-- POD_FLIT_RECEIVE, R286. -/
  | podFlitReceive (link lane : Nat) (flit : Flit) (errs : List (Nat × Byte))
  /-- LINK_TRAINING, R290. -/
  | linkTraining (link : Nat) (lanes : Word16)
  /-- LINK_HELLO, R291. -/
  | linkHello (link : Nat) (cmd : LinkHelloCmd)
  /-- LANE_DROP, R294. -/
  | laneDrop (link lane : Nat) (cause : Nat)
  /-- LANE_MAP, R294. -/
  | laneMap (link : Nat) (cmd : LaneMapCmd)
  /-- LANE_MAP_RETRY, R294. -/
  | laneMapRetry (link : Nat)
  /-- ROUTE, R289. -/
  | route (link lane : Nat) (r : RouteCmd) (opens : Bool)
  /-- FLOW_ACK, R298. -/
  | flowAck (link : Nat) (fa : FlowAckCmd)
  /-- FLOW_OPEN, R296. -/
  | flowOpen (xs node job cls : Nat)
  /-- FLOW_ACK_TIMER, R298. -/
  | flowAckTimer (flow : Nat)
  /-- FWD_MESSAGE, R305. -/
  | fwdMessage (xs job : Nat) (m : FwdMsg)
  /-- TIME_REQUEST_SEND, R309. -/
  | timeRequestSend (link : Nat)
  /-- TIME, R309. -/
  | time (link : Nat) (cmd : TimeCmd)
  /-- TIME_LINK_TIMEOUT, R311. -/
  | timeLinkTimeout (link : Nat)
  /-- POD_RT_CHECK, R307. -/
  | podRtCheck (p : Path)
  /-- ROUTE_CHECK_COMPLETE, R307. -/
  | routeCheckComplete
  /-- POD_RT_SWAP, R308. -/
  | podRtSwap (p : Path)
  /-- POD_RT_CANCEL, R314. -/
  | podRtCancel (p : Path)
  /-- POD_RT_COPY, R314. -/
  | podRtCopy (p : Path)
  /-- ROUTE_DRAIN_END, R308. -/
  | routeDrainEnd
  /-- QUARANTINE_EVAL, R313. -/
  | quarantineEval
  /-- QUARANTINE_TIMEOUT, R313. -/
  | quarantineTimeout (link : Nat)
  /-- POD_QUAR_CLEAR, R313. -/
  | podQuarClear (p : Path)
  /-- LS_INT, R318. -/
  | lsInt (module : Nat) (flag : LaserFlag)
  /-- LASER_MODULE_POLL, R318. -/
  | laserModulePoll (module : Nat) (flags : List LaserFlag)
  /-- FOCUS_UPDATE, R323. -/
  | focusUpdate (e : Nat) (delta : Int)
  /-- FOCUS_LOCK_LOST, R325. -/
  | focusLockLost (e : Nat)
  /-- FOCUS_SEARCH_TIMEOUT, R325. -/
  | focusSearchTimeout (e : Nat)
  /-- FOCUS_RANGE, R325. -/
  | focusRange (e : Nat)
  /-- IDENTITY_CHECK, R328. -/
  | identityCheck (e : Nat) (tone : Nat) (ok : Bool)
  /-- RESWEEP_COMPLETE, R329. -/
  | resweepComplete (e : Nat) (res : ResweepResult)
  /-- HEADROOM_EVAL, R330. -/
  | headroomEval (unit : Nat)
  /-- FEED_LOW, R331. -/
  | feedLow (feed : Nat) (offsets : List Int) (line power : Nat)
  /-- FOCUS_TRIM_INTERVAL, R334. -/
  | focusTrimInterval (unit : Nat) (moves : List (Nat × Nat × Nat × Nat))
  /-- FOC_TRIM_FREEZE, R334. -/
  | focTrimFreeze (p : Path) (on : Bool)
  /-- WARM_SAVE, R338. -/
  | warmSave (p : Path)
  /-- WARM_SAVE_COMPLETE, R338. -/
  | warmSaveComplete (ok : Bool)
  /-- SENSOR_SAMPLE, R340. -/
  | sensorSample (readings : List (Nat × Int))
  /-- SENSOR_FAIL, R342. -/
  | sensorFail (sensor : Nat)
  /-- THERMTRIP_RELEASE, R346. -/
  | thermtripRelease
  /-- COOLANT_STOP, R347. -/
  | coolantStop
  /-- COOLANT_RESTART, R347. -/
  | coolantRestart
  /-- WARMUP_END, R344. -/
  | warmupEnd
  /-- LOW_TEMP_RETURN, R343. -/
  | lowTempReturn (station : Nat)
  /-- THROTTLE_STEP, R352. -/
  | throttleStep
  /-- STACK_TEMP_READ, R348. -/
  | stackTempRead (ms : Nat) (temp : Int)
  /-- TEMP_CEILING_STEP, R349. -/
  | tempCeilingStep (site : Nat)
  /-- SITE_OVERTEMP, R349. -/
  | siteOvertemp (site : Nat)
  /-- GAFFER_EVALUATION, R350. -/
  | gafferEvaluation
  /-- GAFFER_DIVIDE, R359. -/
  | gafferDivide
  /-- LIMIT_CHECK, R360. -/
  | limitCheck (site : Nat)
  /-- CLAMP_RELEASE, R360. -/
  | clampRelease (site : Nat)
  /-- VMILL_RAISE_STEP, R361. -/
  | vmillRaiseStep
  /-- VMILL_LOWER_STEP, R361. -/
  | vmillLowerStep
  /-- PMBUS_FAIL, R361. -/
  | pmbusFail
  /-- PMBUS_ALERT, R474. -/
  | pmbusAlert
  /-- SITE_POWER_SAMPLE, R362. -/
  | sitePowerSample (site power millivolts : Nat)
  /-- SLEW_GUARD_END, R362. -/
  | slewGuardEnd (site : Nat)
  /-- BUDGET_GRANT, R355. -/
  | budgetGrant (eid id watts expiry : Nat)
  /-- BUDGET_QUERY, R354. -/
  | budgetQuery (eid : Nat)
  /-- BUDGET_EXPIRY, R355. -/
  | budgetExpiry
  /-- BUDGET_EXCESS_RELEASE, R356. -/
  | budgetExcessRelease
  /-- BUDGET_RELEASE_ACK, R356. -/
  | budgetReleaseAck (eid id : Nat)
  /-- BUDGET_RELEASE_RETRY, R356. -/
  | budgetReleaseRetry
  /-- PACE_NOTICE, R366. -/
  | paceNotice (m : PaceMsg)
  /-- PACE_NOTICE_TIMER, R365. -/
  | paceNoticeTimer (job : Nat)
  /-- PACE_NOTICE_EXPIRY, R366. -/
  | paceNoticeExpiry (job : Nat)
  /-- ENERGY_ATTRIBUTION, R370. -/
  | energyAttribution (readings : List (Nat × Nat))
  /-- FAULT_MESSAGE, R381. -/
  | faultMessage (m : Option FaultMsg)
  /-- FENCE_RETRY, R383. -/
  | fenceRetry (unit : UnitId)
  /-- RETRY_COMPLETE, R383. -/
  | retryComplete (unit : UnitId) (ok : Bool)
  /-- FLT_FENCE_CLEAR, R384. -/
  | fltFenceClear (p : Path) (unit : UnitId)
  /-- FLT_ALERT_ACK, R377. -/
  | fltAlertAck (p : Path)
  /-- FLT_FIRST_CLEAR, R376. -/
  | fltFirstClear (p : Path)
  /-- FLT_OUTTAKE_UNFREEZE, R376. -/
  | fltOuttakeUnfreeze (p : Path)
  /-- VOTE_SCRUB, R386. -/
  | voteScrub (results : List (Nat × VoteResult))
  /-- CREW_WATCHDOG, R379. -/
  | crewWatchdog (core : Nat)
  /-- FAULT_INJECT, R388. -/
  | faultInject (p : Path) (m : FaultMsg)
  /-- HEARTBEAT_SEND, R393. -/
  | heartbeatSend
  /-- MIR_HEARTBEAT, R393. -/
  | mirHeartbeat (link : Nat) (hb : HeartbeatMsg)
  /-- PAIR_LINK_SILENCE, R393. -/
  | pairLinkSilence (link : Nat)
  /-- PAIR_SILENCE, R394. -/
  | pairSilence
  /-- CLAIM_NOTICE, R396. -/
  | claimNotice (n : ClaimMsg)
  /-- CLAIM_ATOMIC_WINDOW_END, R394. -/
  | claimAtomicWindowEnd
  /-- CLAIM_RECORD_CLEAR, R397. -/
  | claimRecordClear
  /-- CLAIM_REPEAT, R395. -/
  | claimRepeat
  /-- PAIR_SOLO_TIMEOUT, R398. -/
  | pairSoloTimeout
  /-- MIR_STORE, R392. -/
  | mirStore (m : MirStoreMsg)
  /-- MIR_WORD, R392. -/
  | mirWord (m : MirWordMsg)
  /-- MIR_CONFIRM, R392. -/
  | mirConfirm (mseq : Nat)
  /-- MIR_STATE, R391. -/
  | mirState (r : MirStateRec)
  /-- MIR_RESYNC, R399. -/
  | mirResync (offset : Nat) (d0 d1 d2 : Line)
  /-- RESYNC_COMPLETE, R399. -/
  | resyncComplete
  /-- PAIR_HANDOVER, R400. -/
  | pairHandover (p : Path)
  /-- POWER_UP, R475. -/
  | powerUp (ms : Nat) (coolant : Bool)
  /-- RESET_ASSERT, R477. -/
  | resetAssert (pin : Nat)
  /-- BOOT_PHASE_2, R175. -/
  | bootPhase2
  /-- BOOT_PHASE_3, R440. -/
  | bootPhase3 (a b : ImageCheck)
  /-- BOOT_PHASE_4, R409. -/
  | bootPhase4 (install : Bool) (c0 c1 : ScriptCopy)
  /-- BOOT_PHASE_5, R41. -/
  | bootPhase5 (stitches : List Int) (skews : List Int)
  /-- BOOT_PHASE_6, R318. -/
  | bootPhase6 (absent failed : List Nat) (levels : List (Nat × Nat × Nat))
  /-- BOOT_PHASE_7, R335. -/
  | bootPhase7 (found : List (Nat × Option Nat × TrimRec)) (lost : List (Nat × Nat))
  /-- BOOT_PHASE_8, R135. -/
  | bootPhase8 (failed : List (Nat × Nat))
  /-- BOOT_PHASE_9, R242. -/
  | bootPhase9
  /-- BOOT_PHASE_10, R290. -/
  | bootPhase10
  /-- BOOT_PHASE_11, R414. -/
  | bootPhase11
  /-- RESTART, R416. -/
  | restart (p : Path)
  /-- DARK, R415. -/
  | dark (p : Path)
  /-- WAKE, R415. -/
  | wake (p : Path)
  /-- SCRIPT_CHECK, R411. -/
  | scriptCheck (p : Path)
  /-- SCRIPT_CHECK_COMPLETE, R411. -/
  | scriptCheckComplete (c : ScriptCopy)
  /-- FLASH_READ_PAGE, R405. -/
  | flashReadPage (p : Path)
  /-- FLASH_PROGRAM, R405. -/
  | flashProgram (p : Path)
  /-- FLASH_ERASE, R405. -/
  | flashErase (p : Path)
  /-- FLASH_OP_COMPLETE, R405. -/
  | flashOpComplete (ok : Bool)
  /-- KEY_EXCHANGE, R420. -/
  | keyExchange (eid via : Nat) (cert : Certificate)
  /-- END_SESSION, R420. -/
  | endSession (n : Nat)
  /-- SESSION_HEARTBEAT_MISS, R420. -/
  | sessionHeartbeatMiss (n : Nat)
  /-- SPDM_REQUEST, R419. -/
  | spdmRequest (n : Option Nat) (req : SpdmReq)
  /-- ROLE_REENROL_ARM, R421. -/
  | roleReenrolArm (p : Path)
  /-- FAC_MODE_ENTER, R422. -/
  | facModeEnter (p : Path) (install : Bool)
  /-- JOB_START, R427. -/
  | jobStart (p : Path) (j : Nat)
  /-- JOB_END, R428. -/
  | jobEnd (p : Path) (j : Nat)
  /-- JOB_END_COMPLETE, R428. -/
  | jobEndComplete (j : Nat)
  /-- JOB_CLEAR, R427. -/
  | jobClear (p : Path) (j : Nat)
  /-- AUDIT_ARCHIVE, R430. -/
  | auditArchive (ok : Bool)
  /-- CONTINUITY_SWEEP, R433. -/
  | continuitySweep
  /-- CONTINUITY, R434. -/
  | continuity (node : Word16) (digest : Word64) (selfMatch : Bool)
  /-- CONTINUITY_PARTNER_SILENCE, R434. -/
  | continuityPartnerSilence (partner : Nat)
  /-- UPD_BEGIN, R438. -/
  | updBegin (n : Nat) (image version : Word32) (svn pieces : Nat) (key : List Byte) (ok : Bool)
  /-- UPD_PIECE, R438. -/
  | updPiece (n : Nat) (image : Word32) (index : Nat) (data tag : List Byte) (tagOk ok : Bool)
  /-- UPD_QUERY, R437. -/
  | updQuery (n : Nat)
  /-- UPD_ABORT, R437. -/
  | updAbort (n : Nat) (image : Word32)
  /-- UPD_ACTIVATE, R439. -/
  | updActivate (p : Path)
  /-- UPD_CTRL_ABORT, R442. -/
  | updCtrlAbort (p : Path)
  /-- ACTIVATION_COMPLETE, R439. -/
  | activationComplete (c : ImageCheck)
  /-- CS_READ, R444. -/
  | csRead (session : Nat) (addr count : Nat)
  /-- CS_WRITE, R444. -/
  | csWrite (session : Nat) (addr : Nat) (data : List Word32)
  /-- MGT_CS_READ, R445. -/
  | mgtCsRead (site : Nat) (addr : Nat) (tag : BitVec 12)
  /-- MGT_CS_WRITE, R445. -/
  | mgtCsWrite (site : Nat) (addr : Nat) (tag : BitVec 12) (data : Word32)
  /-- SPDM_FRAG, R445. -/
  | spdmFrag (site msg line length : Nat) (data : List Line)
  /-- REGISTER_WRITE, R448. -/
  | registerWrite (p : Path) (addr : Nat) (data : Word32)
  /-- RC_READ, R448. -/
  | rcRead (p : Path) (addr : Nat)
  /-- LO_READ_LATCH, R451. -/
  | loReadLatch (p : Path) (addr : Nat)
  /-- SLATE_COMMIT, R453. -/
  | slateCommit (p : Path) (addr : Nat) (data : Word32)
  /-- SLATE_APPLY, R454. -/
  | slateApply
  /-- DAILY, R460. -/
  | daily
  /-- TSI_CLOCK_FAIL, R249. -/
  | tsiClockFail (site module : Nat)
  /-- NARROWING_COMPLETE, R248. -/
  | narrowingComplete (site module : Nat)
  /-- SITE_RATE_FALLBACK_END, R243. -/
  | siteRateFallbackEnd (site notInFlit : Nat)
  /-- MEM_RATE_FALLBACK_DONE, R139. -/
  | memRateFallbackDone (ms : Nat) (ok : Bool)
  /-- SIDEBAND_WORD_ERROR, R272. -/
  | sidebandWordError (site : Nat)
  /-- VDD_IO_REMOVED, R376. -/
  | vddIoRemoved
  /-- ENTDAA, R481. -/
  | entdaa (address : Nat)
  /-- TAP_INSTRUCTION, R483. -/
  | tapInstruction (ir : TapInstr)
  /-- POD_FLIT_SEND, R287. -/
  | podFlitSend (link lane : Nat)
deriving DecidableEq, Repr

end Sys2Proof
end

