-- ==== Sys2Proof/Decode.lean ====
section
/-! DEFINITION. The decoder over the table's bits: no row of the table gives any, so no word spells a command. The encodings
of flits, slots and command positions are read in Machine/SlotCodec.lean. -/

namespace Sys2Proof

/-- The command that a word of the table spells: no row has bits. -/
def decodeTableWord (_nbits _w : Nat) : Option Instr := none

end Sys2Proof
end

