-- ==== Sys2Proof/Machine/Codes.lean ====
section
/-! DEFINITION. The codes of the base: byte strings, CRC-32, SHA-256, the Reed–Solomon code of lines and flits, and the
layout of a flit (R15, R49, R136, R252 to R256, R431). -/

namespace Sys2Proof.Machine

open Sys2Proof

/-! ### Byte strings -/

/-- Bytes of a number, most significant first. -/
def beBytes (n v : Nat) : List Byte := ((List.range n).map (fun i => BitVec.ofNat 8 (v / 256 ^ i))).reverse

/-- Bytes of a number, least significant first (R15). -/
def leBytes (n v : Nat) : List Byte := (List.range n).map (fun i => BitVec.ofNat 8 (v / 256 ^ i))

/-- The number that bytes spell, least significant first (R15). -/
def leNat : List Byte → Nat
  | [] => 0
  | b :: t => b.toNat + 256 * leNat t

/-- The number that bytes spell, most significant first. -/
def beNat (bs : List Byte) : Nat := leNat bs.reverse

/-- Zeros, and the first n bytes of a list padded with zeros. -/
def zeroBytes (n : Nat) : List Byte := List.replicate n 0
def padBytes (n : Nat) (bs : List Byte) : List Byte := (bs.take n) ++ zeroBytes (n - bs.length)

/-! ### CRC-32 with the IEEE 802.3 polynomial -/

def crcBits : Nat → Word32 → Word32
  | 0, c => c
  | n + 1, c => crcBits n (if c.getLsbD 0 then (c >>> 1) ^^^ 0xEDB88320#32 else c >>> 1)
def crcByte (c : Word32) (b : Byte) : Word32 := crcBits 8 (c ^^^ b.setWidth 32)
def crc32 (bs : List Byte) : Word32 := ~~~ (bs.foldl crcByte 0xFFFFFFFF#32)

/-! ### SHA-256 (R431), from the words of FIPS 180-4: constants as roots of primes -/

/-- The first 64 primes. -/
def shaPrimes : List Nat :=
  (List.range 312).filter (fun n => decide (2 ≤ n) && (List.range n).all (fun d => decide (d < 2) || n % d != 0))

/-- The largest number of n bits above `acc` whose power e does not exceed a bound. -/
def rootUnder (e bound : Nat) : Nat → Nat → Nat
  | 0, acc => acc
  | n + 1, acc => rootUnder e bound n (if (acc + 2 ^ n) ^ e ≤ bound then acc + 2 ^ n else acc)

/-- 32 bits of the fractional part of the e-th root of a number. -/
def rootFraction (e p : Nat) : Word32 := BitVec.ofNat 32 (rootUnder e (p * 2 ^ (32 * e)) 37 0)

def shaRoundConst (t : Nat) : Word32 := rootFraction 3 (shaPrimes.getD t 0)
def shaStart : List Word32 := (shaPrimes.take 8).map (rootFraction 2)

/-- The word that follows sixteen words of the schedule. -/
def shaNextWord (w : List Word32) : Word32 :=
  let x := w.getD 1 0
  let y := w.getD 14 0
  (y.rotateRight 17 ^^^ y.rotateRight 19 ^^^ y >>> 10) + w.getD 9 0 + (x.rotateRight 7 ^^^ x.rotateRight 18 ^^^ x >>> 3) + w.getD 0 0

/-- Rounds from t on: `w` is the schedule from word t, and the eight working words stand as two rows of four. -/
def shaRounds : Nat → Nat → List Word32 → List Word32 → List Word32 → List Word32
  | 0, _, _, top, low => top ++ low
  | n + 1, t, w, top, low =>
    let (a, e) := (top.getD 0 0, low.getD 0 0)
    let choice := low.getD 2 0 ^^^ (e &&& (low.getD 1 0 ^^^ low.getD 2 0))
    let major := (a &&& top.getD 1 0) ||| (top.getD 2 0 &&& (a ||| top.getD 1 0))
    let mix := shaRoundConst t + w.getD 0 0 + low.getD 3 0 + choice + (e.rotateRight 6 ^^^ e.rotateRight 11 ^^^ e.rotateRight 25)
    let up := mix + major + (a.rotateRight 2 ^^^ a.rotateRight 13 ^^^ a.rotateRight 22)
    shaRounds n (t + 1) (w.drop 1 ++ [shaNextWord w]) (up :: top.take 3) ((top.getD 3 0 + mix) :: low.take 3)

/-- One block of 64 bytes folded into the eight words. -/
def shaFold (h : List Word32) (block : List Byte) : List Word32 :=
  let w := (List.range 16).map (fun k => BitVec.ofNat 32 (beNat ((block.drop (4 * k)).take 4)))
  List.zipWith (· + ·) h (shaRounds 64 0 w (h.take 4) (h.drop 4))

/-- The message with its padding: a 1 bit, zeros, and its length in bits. -/
def shaPadded (m : List Byte) : List Byte := m ++ [0x80] ++ zeroBytes ((119 - m.length % 64) % 64) ++ beBytes 8 (8 * m.length)

/-- The 32 bytes of SHA-256. -/
def sha256 (m : List Byte) : List Byte :=
  let p := shaPadded m
  (((List.range (p.length / 64)).foldl (fun h k => shaFold h ((p.drop (64 * k)).take 64)) shaStart).map (fun w => beBytes 4 w.toNat)).flatten

/-! ### The Reed–Solomon code over GF(2⁸) (R136, R253) -/

/-- Multiply by α, a root of x⁸ + x⁴ + x³ + x² + 1. -/
def gfDouble (a : Byte) : Byte := if a.getLsbD 7 then (a <<< 1) ^^^ 0x1D#8 else a <<< 1

def gfPow : Nat → Byte
  | 0 => 1
  | n + 1 => gfDouble (gfPow n)

/-- The n low bits of b, most significant first, times a. -/
def gfMulBits (a b : Byte) : Nat → Byte
  | 0 => 0
  | n + 1 => (if b.getLsbD n then gfShift a n else 0) ^^^ gfMulBits a b n
where
  gfShift (a : Byte) : Nat → Byte
    | 0 => a
    | k + 1 => gfDouble (gfShift a k)

def gfMul (a b : Byte) : Byte := gfMulBits a b 8

/-- The generator (x − α)(x − α²)(x − α³) below x³: its coefficients of x², x and 1 (R136). -/
def rsGenerator : List Byte :=
  [gfPow 1 ^^^ gfPow 2 ^^^ gfPow 3, gfPow 3 ^^^ gfPow 4 ^^^ gfPow 5, gfPow 6]

/-- The three check symbols of data symbols, the first symbol the highest power. Log entry 95 (DESIGN CHOICE). -/
def rsCheck (data : List Byte) : List Byte :=
  data.foldl (fun r d =>
    let f := d ^^^ r.getD 0 0
    List.zipWith (· ^^^ ·) (r.drop 1 ++ [0]) (rsGenerator.map (gfMul f))) [0, 0, 0]

/-- Syndrome j of symbols in error, by place in a codeword of n symbols. -/
def rsSyndrome (n j : Nat) (errs : List (Nat × Byte)) : Byte :=
  errs.foldl (fun acc e => acc ^^^ gfMul e.2 (gfPow ((j * (n - 1 - e.1)) % 255))) 0

/-- What the decoder makes of a codeword (R136, R253): no error found, one symbol corrected, or an error it cannot correct. -/
inductive RsResult where
  | clean
  | fix (place : Nat) (value : Byte)
  | fail
deriving DecidableEq, Repr

/-- Decode a codeword of n symbols from its symbols in error: a single error of value e at power p has the syndromes
e α^p, e α^2p and e α^3p (R136, R253). -/
def rsDecode (n : Nat) (errs : List (Nat × Byte)) : RsResult :=
  let s1 := rsSyndrome n 1 errs
  let s2 := rsSyndrome n 2 errs
  let s3 := rsSyndrome n 3 errs
  if s1 = 0 ∧ s2 = 0 ∧ s3 = 0 then .clean
  else
    match (List.range n).find? (fun i =>
      let x := gfPow (n - 1 - i)
      s1 != 0 && gfMul s1 x == s2 && gfMul s2 x == s3) with
    | some i => .fix i (gfMul s1 (gfPow (255 - (n - 1 - i) % 255)))
    | none => .fail

/-- The symbols still wrong after the decoder has done its part: none unless more than one symbol was in error. -/
def rsResidue (n : Nat) (errs : List (Nat × Byte)) : List (Nat × Byte) :=
  match rsDecode n errs with
  | .fix i v => if errs = [(i, v)] then [] else (i, v) :: errs
  | _ => errs

/-! ### The line code (R136) -/

/-- The 68 symbols of a stored line: its bytes, the metadata byte with POISON in bit 0, and the check symbols. -/
def lineSymbols (l : Line) (poison : Bool) : List Byte :=
  let data := leBytes 64 l.toNat ++ [if poison then 1 else 0]
  data ++ rsCheck data

/-- The 32 metadata bits of a stored line: the metadata byte lowest, then check symbols 65 to 67 (R136). -/
def lineMeta (l : Line) (poison : Bool) : Word32 := BitVec.ofNat 32 (leNat ((lineSymbols l poison).drop 64))

/-! ### The layout of a flit (R252 to R256) -/

/-- A slot descriptor of 24 bits (R256). -/
def descriptorNat (x : Slot) : Nat :=
  x.cls.toNat + 2 ^ 3 * x.op.toNat + 2 ^ 8 * x.tag.toNat + 2 ^ 20 * x.fence.toNat + 2 ^ 21 * x.last.toNat + 2 ^ 22 * x.poison.toNat +
    2 ^ 23 * x.reserved.toNat

/-- The flit header of 64 bits (R255). -/
def headerNat (f : Flit) : Nat :=
  let occ := ((List.range 4).map (fun i => if (f.slots.getD i none).isSome then 2 ^ i else 0)).sum
  let cred := ((List.range 7).map (fun c => f.cred.getD c 0 % 16 * 2 ^ (4 * c))).sum
  f.type.toNat + 2 ^ 4 * occ + 2 ^ 8 * f.seq.toNat + 2 ^ 20 * f.ack.toNat + 2 ^ 28 * f.nak.toNat + 2 ^ 29 * f.rerouted.toNat +
    2 ^ 30 * f.origin.toNat + 2 ^ 36 * cred

/-- Check symbols of the four codewords of logical bytes 0 to 275, interleaved: byte b is symbol b / 4 of codeword b mod 4
(R253). -/
def flitChecks (data : List Byte) : List Byte :=
  let checks := (List.range 4).map (fun c => rsCheck ((List.range 69).map (fun k => data.getD (4 * k + c) 0)))
  (List.range 12).map (fun b => (checks.getD (b % 4) []).getD (b / 4) 0)

/-- The 288 bytes of a flit in their logical layout (R252). -/
def flitImage (f : Flit) : List Byte :=
  let slots := (List.range 4).map (fun i => f.slots.getD i none)
  let data := leBytes 8 (headerNat f) ++ (slots.map (fun x => leBytes 3 ((x.map descriptorNat).getD 0))).flatten ++
    (slots.map (fun x => leBytes 64 ((x.map (·.data.toNat)).getD 0))).flatten
  data ++ flitChecks data

/-- The slot that a descriptor and its 64 bytes give (R256). -/
def slotOfNat (d : Nat) (line : Nat) : Slot :=
  { cls := BitVec.ofNat 3 d, op := BitVec.ofNat 5 (d / 2 ^ 3), tag := BitVec.ofNat 12 (d / 2 ^ 8), fence := d.testBit 20
    last := d.testBit 21, poison := d.testBit 22, reserved := d.testBit 23, data := BitVec.ofNat 512 line }

/-- The flit that 288 bytes hold (R252, R255, R256). -/
def flitOfImage (bs : List Byte) : Flit :=
  let h := leNat (bs.take 8)
  { type := BitVec.ofNat 4 h, seq := BitVec.ofNat 12 (h / 2 ^ 8), ack := BitVec.ofNat 8 (h / 2 ^ 20), nak := h.testBit 28
    rerouted := h.testBit 29, origin := BitVec.ofNat 6 (h / 2 ^ 30)
    cred := (List.range 7).map (fun c => h / 2 ^ (36 + 4 * c) % 16)
    slots := (List.range 4).map (fun i =>
      if h.testBit (4 + i) then
        some (slotOfNat (leNat ((bs.drop (8 + 3 * i)).take 3)) (leNat ((bs.drop (20 + 64 * i)).take 64)))
      else none) }

/-- The byte errors of one codeword of a flit, as symbols in error. -/
def codewordErrs (errs : List (Nat × Byte)) (c : Nat) : List (Nat × Byte) :=
  (errs.filter (fun e => e.1 % 4 == c)).map (fun e => (e.1 / 4, e.2))

/-- A codeword of the flit has an error that it cannot correct (R253). -/
def flitUncorrectable (errs : List (Nat × Byte)) : Bool :=
  (List.range 4).any (fun c => rsDecode 72 (codewordErrs errs c) == .fail)

/-- The bytes that the codewords correct, with their error values (R253, R254). -/
def flitCorrected (errs : List (Nat × Byte)) : List (Nat × Byte) :=
  (List.range 4).filterMap (fun c => match rsDecode 72 (codewordErrs errs c) with
    | .fix i v => some (4 * i + c, v)
    | _ => none)

/-- The bytes still wrong after correction. -/
def flitResidue (errs : List (Nat × Byte)) : List (Nat × Byte) :=
  ((List.range 4).map (fun c => (rsResidue 72 (codewordErrs errs c)).map (fun e => (4 * e.1 + c, e.2)))).flatten

/-- Add error values to bytes. -/
def addErrors (bs : List Byte) (errs : List (Nat × Byte)) : List Byte :=
  errs.foldl (fun xs e => xs.set e.1 (xs.getD e.1 0 ^^^ e.2)) bs

/-- The flit that the receiver reads: what was sent, where the correction leaves nothing wrong (R253). -/
def flitDecoded (f : Flit) (errs : List (Nat × Byte)) : Flit :=
  if flitResidue errs = [] then f else flitOfImage (addErrors (flitImage f) (flitResidue errs))

/-! ### The preamble (R49) -/

/-- Bytes 20 to 35 of a preamble flit. -/
def preambleFields (p : Preamble) : List Byte :=
  leBytes 4 p.pass.toNat ++ leBytes 4 (p.frame.toNat + 2 ^ 18 * p.preambleNo.toNat) ++ leBytes 2 p.node.toNat ++ leBytes 1 p.source.toNat ++
    leBytes 1 p.plane.toNat ++ leBytes 2 p.reelId.toNat ++ leBytes 1 p.feed.toNat ++ zeroBytes 1

/-- The 288 bytes of a preamble flit (R49): type 2, no descriptors, the fields and CHECK, and the check symbols. -/
def preambleImage (p : Preamble) : List Byte :=
  let data := leBytes 8 2 ++ zeroBytes 12 ++ preambleFields p ++ leBytes 4 p.check.toNat ++ zeroBytes 236
  data ++ flitChecks data

/-- A flit with a verdict does not decode (R104, R253). -/
def flitBad : Verdict → Bool
  | .uncorrectable _ => true
  | .symbols _ errs => flitUncorrectable errs
  | _ => false

end Sys2Proof.Machine
end

