-- ==== Sys2Proof/Machine/State/Boot.lean ====
section
/-! DEFINITION. The state of boot, the script, the flash window and field update (chapter 15). -/

namespace Sys2Proof.Machine

open Sys2Proof

/-- A firmware slot record (R440): 0 empty, 1 receiving, 2 complete, 3 verified, 4 failed. -/
structure FwSlot where
  image : Word32 := 0
  version : Word32 := 0
  svn : Nat := 0
  pieces : Nat := 0
  st : Nat := 0
  attempts : Nat := 0
  /-- pieces held -/
  got : List Nat := []
  /-- the ephemeral key and the wrapped content key, as in UPD_BEGIN -/
  key : List Byte := []
deriving DecidableEq, Repr

/-- Boot (R403 to R416, R436 to R442). Log entry 17 (DESIGN CHOICE). -/
structure Boot where
  /-- the boot phase in progress, 12 once phase 11 has ended; 0 before power-up -/
  phase : Nat := 0
  ready : Bool := false
  dark : Bool := false
  kind : Nat := 0
  warm : Bool := false
  copy : Nat := 0
  fellBack : Bool := false
  slot : Nat := 0
  phaseStart : Tick := 0
  phaseMs : Tab Nat := []
  /-- the script in use -/
  script : Option Script := none
  checkSt : Nat := 0
  checkCopy : Nat := 0
  checkItem : Nat := 0
  /-- the paths that asked for the check and for the activation that run (R429) -/
  checkPath : Option Path := none
  actPath : Option Path := none
  /-- INSTALL_EN as sampled at the end of phase 4, with no installer or a re-enrolment armed (R421) -/
  enrolOpen : Bool := false
  /-- FIRMWARE_FALLBACK is due after READY (R440) -/
  fallbackDue : Bool := false
  /-- bytes programmed and sectors erased since the base last wrote what it keeps there, by offset (R404): an unlisted byte
  of the warm-trim area is that of the base's own copy, one of the boot header that of the slot records, any other 0xFF -/
  flash : Tab (Option Byte) := []
  /-- the flash runs in octal DDR mode, else in the single-data-rate mode of its power-up; the tick at which its reset pulse ends
  (R480) -/
  flashDdr : Bool := false
  xspiRise : Option Tick := none
  flashAddr : Word32 := 0
  flashBuf : Tab Word32 := []
  flashBusy : Bool := false
  flashRefused : Bool := false
  flashError : Bool := false
  /-- the flash operation that runs: 2 program, 3 erase -/
  flashOp : Nat := 0
  /-- the page or sector that it works on, and the page it programs -/
  flashAt : Nat := 0
  flashData : Tab Word32 := []
  /-- the slot records (R440); the part leaves the factory with a verified image in the A-roll -/
  slots : Tab FwSlot := [(0, { pieces := 1, st := 3 })]
  /-- rewrites of the boot header -/
  headers : Nat := 0
  preferred : Nat := 0
  /-- the slot being received or latest received -/
  updSlot : Nat := 1
  updSt : Nat := 0
  /-- the slot that activation verifies -/
  activating : Option Nat := none
  rollback : Nat := 0
deriving DecidableEq, Repr

end Sys2Proof.Machine
end

