-- ==== Sys2Proof/Machine/State/Control.lean ====
section
/-! DEFINITION. The state of the control-space paths, slates, latches, telemetry and identity (chapter 16), of the
pins (chapter 17), and the messages that leave the base. -/

namespace Sys2Proof.Machine

open Sys2Proof

/-- The slates of R452. -/
inductive Slate where
  | tcClapper | blkRegion | grpWatch | grpQueue (queue : Nat) | mstContext | tsiVoltage (site : Nat) | focTrim | gafSiteCap
  | gafJobCap | roleJob | bootExpected
deriving DecidableEq, Repr

/-- The values a path has staged for a slate (R453): register addresses with their words. -/
structure Staged where
  path : Path
  slate : Slate
  vals : List (Nat × Word32)
deriving DecidableEq, Repr

/-- A committed set (R453, R454): the slate, the entry its selector named at the commit, the values, the tick at which
the commit completed, and the path that committed it. -/
structure CommitSet where
  path : Path
  slate : Slate
  sel : Nat
  vals : List (Nat × Word32)
  tick : Tick
  /-- role and key of the committing path, for the audit entries of the set (R429) -/
  role : Nat := 0
  key : Word32 := 0
deriving DecidableEq, Repr

/-- An SPDM message in MGT slots, as far as its lines have come (R445). -/
structure Frag where
  site : Nat
  msg : Nat
  length : Nat
  got : Tab (Option Line) := []
deriving DecidableEq, Repr

/-- Control-space access state (R443 to R455). Log entry 17 (DESIGN CHOICE). -/
structure Csp where
  staged : List Staged := []
  committed : List CommitSet := []
  /-- _HI latches (R451): path, address of the _HI half, value -/
  latches : List (Path × Nat × Word32) := []
  /-- the values of RW selector registers, by address -/
  sel : Tab Word32 := []
  /-- values in effect of slate fields that the base keeps as written (R453), by address * 4096 + entry -/
  effect : Tab Word32 := []
  /-- latest REG_RSP to each site: tag, write flag and data (R446) -/
  lastRsp : Tab (Option (Byte × Bool × Word32)) := []
  /-- SPDM messages whose fragments have not all come (R445) -/
  frags : List Frag := []
deriving DecidableEq, Repr

/-- Telemetry (R460, R461). Log entry 17 (DESIGN CHOICE). -/
structure Tel where
  head : Nat := 0
  seq : Word64 := 0
  missed : Word32 := 0
  /-- whole milliseconds of the timecode at which a daily was begun (R46) -/
  done : Nat := 0
deriving DecidableEq, Repr

/-- Identity and capability (R457 to R459). -/
structure IdSt where
  /-- node number, from the script -/
  node : Word16 := 0
  fwVersion : Word32 := 0
  capGen : Word32 := 0
  /-- ID_CAP_kk as last written -/
  cap : Tab Word32 := []
deriving DecidableEq, Repr

/-- Pins of chapter 17: inputs as sampled, outputs as driven. True is a high level. Log entry 17 (DESIGN CHOICE). -/
structure Pins where
  porN : Bool := false
  pwrgd : Bool := false
  coolantOk : Bool := false
  installEn : Bool := false
  thermtripN : Bool := true
  faultN : Bool := false
  alertN : Bool := true
  lsEn : Bool := false
  clapOut : Bool := false
  lsIntN : Bool := true
  pmbAlertN : Bool := true
  /-- the XSPI pins are driven, not at high impedance (R403, R477), and the flash's reset (R480) -/
  xspiDriven : Bool := false
  xspiResetN : Bool := true
  /-- SITE_RST_N levels that are high, by site -/
  siteRstHigh : List Nat := []
  /-- the I3C dynamic address, once assigned (R481) -/
  i3cAddress : Option Nat := none
  /-- the instruction in force at the test access port (R483) -/
  tap : TapInstr := .idcode
deriving DecidableEq, Repr

/-- What the base sends out of the module, beside the flits of its links: a clapper pulse, a message handed to a site's sideband
and the words that its windows carry,
an answer on a control-space path, a message to the rack, a command on a pod link, and SPDM answers.
Log entry 15 (DESIGN CHOICE). -/
inductive OutMsg where
  | clapPulse (at_ : Tick)
  | preamble (station plane : Nat) (p0 p1 : Preamble)
  | sideband (site : Nat) (kind : SbKind) (vals : List Nat)
  | sbWord (site : Nat) (word : BitVec 24)
  | control (p : Path) (write : Bool) (words : List Word32)
  | mgtRsp (site : Nat) (tag : Nat) (data : Word32)
  | rack (eid : Nat) (name : String) (vals : List Nat)
  | podCmd (link : Nat) (name : String) (vals : List Nat)
  | siteFlit (site module : Nat) (f : Flit)
  | podFlit (link lane : Nat) (f : Flit)
  | spdm (n : Nat) (name : String) (vals : List Nat)
  | update (session : Nat) (name : String) (vals : List Nat)
  | pmbus (addr : Nat) (cmd : String) (vals : List Nat)
  | tdo (ir : TapInstr) (data : BitVec 32)
deriving DecidableEq, Repr

end Sys2Proof.Machine
end

