-- ==== Sys2Proof/Machine/State/Fault.lean ====
section
/-! DEFINITION. The state of the fault collector, the fence map, the voted store and the stand-in pair (chapter 14). -/

namespace Sys2Proof.Machine

open Sys2Proof

/-- The fault kinds of R379. -/
inductive FaultKind where
  | partnerProtocol | laneDrop | linkDown | linkMiswired | linkQuarantine | fwdRouteError | siteProtocol
  | tsiLaneRepaired | moduleNarrowed | tsiModuleOff | tsiRateFallback | tsiTrainFail | tsiClockFail
  | tsiSidebandLost | millraceLambdaOut | millracePairDown | preambleLost | frameSourceMismatch
  | landingOverrun | drainDiscard
  | focusLost | focusRange | wrongLock | headroomLow | headroomHigh | feedLow | feedLost | laserModule
  | remoteTimeout | targetFenced | lineUncorrectable | memLaneRepaired | memChannelFail | memRateFallback
  | bankCorrected | bankUncorrectable | copyQueueOverrun | gripError
  | millstoneSlow | millstoneError | collectiveIncomplete
  | thermalWarning | thermalThrottle | thermalTrip | coolantStop | lowTemp | sensorFail | sensorDisagree
  | stackHot | stackOvertemp | siteHot | siteOvertemp | siteOverLimit | slewViolation | budgetShort
  | budgetExpired | pmbusFail | siteOvervolt | siteUndervolt | siteOvercurrent | tsiPowerBumpFail
  | slackShort | slackMiss
  | refclkLost | timecodeAlign | timeTransferLost | clapperLost | unitFenced | unitRestored | recoveryLimit
  | voteScrubbed | voteLost | crewFault | continuityMismatch | scriptInvalid | firmwareFallback
  | updateRejected | auditArchiveFail
  | pairLinkDown | pairHeartbeatLost | pairClaim | pairYield | pairSolo | pairSplit | pairResyncDone
  | pairConfigMismatch
  | fuseError | factoryMode
deriving DecidableEq, Repr

/-- The state of a fence-map entry (R402, FLT_FENCE_INFO): 1 fenced, 2 retrying, 3 held under R384. -/
inductive FenceState where
  | fenced | retrying | held
deriving DecidableEq, Repr

/-- An entry of the fence map (R381, R402). Log entry 74 (DEDUCED). -/
structure FenceEntry where
  unit : UnitId
  st : FenceState := .fenced
  /-- the kind that caused the fence -/
  kind : Byte := 0
  /-- the tick of the last message of severity degraded or higher that names the unit (R383) -/
  quietFrom : Tick := 0
  /-- the retry does not wait for the quiet period (R332) -/
  atOnce : Bool := false
deriving DecidableEq, Repr

/-- The last message sent under a rate rule, and whether messages were kept back since (R374). -/
structure RateRec where
  last : Option Tick := none
  kept : Bool := false
  count : Nat := 0
deriving DecidableEq, Repr

/-- The fault collector (R376 to R387, R402). Log entry 17 (DESIGN CHOICE). -/
structure Flt where
  /-- messages on the handshake fault network, oldest first (R373) -/
  net : List FaultMsg := []
  /-- first-error capture, always-on (R376) -/
  first : Option FaultMsg := none
  /-- outtake ring of 32 entries, always-on: the entry written at an index (R376) -/
  ring : Tab (Option FaultMsg) := []
  head : Nat := 0
  frozen : Bool := false
  /-- a start has copied the frozen ring to the audit ring (R376) -/
  copied : Bool := false
  /-- messages of each of the 256 kinds, saturating, always-on (R376) -/
  counts : Tab Word32 := []
  pending : Bool := false
  fatal : Bool := false
  /-- safe state (R378) -/
  safe : Bool := false
  /-- the fence map of 614 entries (R381); an absent entry is free -/
  map : Tab (Option FenceEntry) := []
  /-- ticks of a unit's retries in the last 24 h, newest first, by unit identifier (R383) -/
  recoveries : Tab (List Tick) := []
  /-- rate rules: the last message sent per rule and source (R374) -/
  rate : Tab RateRec := []
  /-- conditions that stand (R374): kind, place, and the address that was raised -/
  standing : List (FaultKind × Nat × Nat) := []
  /-- port-frames discarded per receive port, ticks (R381) -/
  portDiscards : Tab (List Tick) := []
  /-- slack misses per station, ticks (R381) -/
  slackMisses : Tab (List Tick) := []
  /-- uncorrectable words per bank, ticks (R172, R381) -/
  bankWords : Tab (List Tick) := []
  /-- VOTE_SCRUBBED events since power-up, saturating (R402) -/
  scrubs : Word16 := 0
  /-- items scrubbed since the last read of FLT_VOTE_STATUS (R402) -/
  items : BitVec 7 := 0
deriving DecidableEq, Repr

/-- The role in a pair (R402, PAIR_STATE.ROLE). -/
inductive PairRole where
  | none | lead | standIn | resync | leadSolo | claiming | yielded
deriving DecidableEq, Repr

/-- Work at the lead that waits for confirmation (R392): the line it touched and the response it holds. -/
structure MirPending where
  mseq : Nat
  line : Nat
  rsp : Option MemRsp
  req : MemReq
deriving DecidableEq, Repr

/-- An entry of the stand-in's record (R397). -/
structure MirRecord where
  mseq : Nat
  ident : MirIdent
  result : Option Word64
deriving DecidableEq, Repr

/-- An entry of the claim table (R396). -/
structure ClaimEntry where
  msg : ClaimMsg
  /-- the tick at which held atomics are sent: 20 us after the claim -/
  holdUntil : Tick
  held : List IssueReq := []
  /-- the atomic window of the claim has not ended here -/
  isOpen : Bool := true
deriving DecidableEq, Repr

/-- The stand-in pair (R390 to R402). Log entry 17 (DESIGN CHOICE). -/
structure PairSt where
  cfg : Option PairCfg := none
  role : PairRole := .none
  epoch : Byte := 0
  linkUp : Bool × Bool := (false, false)
  lastHb : Tick × Tick := (0, 0)
  /-- the partner's configuration disagrees (R390) -/
  mismatch : Bool := false
  nextBeat : Tick := 0
  /-- latest MSEQ sent or applied -/
  mseq : Nat := 0
  /-- the lead's RELEASED: every ACK up to this has been sent; on the stand-in the last one received -/
  released : Nat := 0
  /-- RELEASED values sent in the last 16 us with their ticks (R397) -/
  releasedSent : List (Tick × Nat) := []
  /-- highest MSEQ confirmed (lead) or applied without a gap (stand-in) -/
  confirmed : Nat := 0
  /-- applied or unconfirmed work, oldest first (R392) -/
  work : List MirPending := []
  /-- loads that wait for a line's confirmation, and work that waits for RELEASED (R392, R397) -/
  waiting : List MemReq := []
  /-- at the stand-in: mirrored work ahead of a gap (R392), work applied above the last RELEASED, and after a claim the
  record (R397) -/
  early : List MirIn := []
  log : List MirRecord := []
  record : List MirRecord := []
  /-- tick of this module's claim -/
  claimAt : Option Tick := none
  claimTime : Word64 := 0
  /-- atomics held back for 20 us from the claim (R394) -/
  heldAtomics : List MemReq := []
  /-- tick at which silence on both links was detected (R393) -/
  silentAt : Option Tick := none
  /-- this module serves alone since (R401) -/
  soloFrom : Tick := 0
  /-- resynchronisation pointer: lines of the set already sent or written (R399) -/
  resyncLines : Nat := 0
  resyncing : Bool := false
  hbMiss : Word32 := 0
  /-- state records that the lead has still to send (R391) -/
  outbox : List MirStateRec := []
  /-- state records kept for the lead in the range PAIR_STATE_BASE (R391) -/
  copies : List MirStateRec := []
  /-- the claim table (R396), by entry number -/
  claims : Tab (Option ClaimEntry) := []
  nextRepeat : Tick := 0
deriving DecidableEq, Repr

end Sys2Proof.Machine
end

