-- ==== Sys2Proof/Machine/State/Focus.lean ====
section
/-! DEFINITION. The state of the laser feeds, the tunable elements and the warm-trim area (chapter 12). -/

namespace Sys2Proof.Machine

open Sys2Proof

/-- A tunable element (R321 to R329, R339). The default is an element that phase 7 left locked. -/
structure Elem where
  /-- 1 acquiring, 2 locked, 3 out of service -/
  st : Nat := 2
  cause : Nat := 0
  trim : TrimRec := {}
  fine : Int := 0
  target : Option TrimRec := none
  /-- strongest tone at the last check; none where it was the element's own -/
  tone : Option Nat := none
  toneOk : Bool := true
  /-- the last sweep ran downward; SWEEP_DOWN shows the direction of the next (R329, R339) -/
  sweptDown : Bool := false
  /-- ticks and amounts of FINE's movement in the last 10 µs (R324) -/
  moved : List (Tick × Nat) := []
  /-- the search of R325 began -/
  search : Option Tick := none
  /-- failed checks in a row since the last quiet-period retry (R329) -/
  failed : Nat := 0
  /-- last trim step (R334) -/
  stepAt : Option Tick := none
deriving DecidableEq, Repr

/-- A feed (R315, R331, R332, R339). -/
structure Feed where
  role : Nat := 3
  /-- every line is within R316 -/
  lit : Bool := false
  low : Bool := false
  lost : Bool := false
  marked : Bool := false
  weakest : Nat := 0
  line : Nat := 0
deriving DecidableEq, Repr

/-- Heater headroom of a focus unit (R330, R339). -/
structure Headroom where
  median : Nat := 0
  /-- medians of the last second, newest first, with their ticks -/
  history : List (Tick × Nat) := []
  low : Bool := false
  high : Bool := false
  clear : Nat := 0
deriving DecidableEq, Repr

/-- The focus units (R315 to R339). Log entry 17 (DESIGN CHOICE). -/
structure Foc where
  start : Nat := 0
  focused : Bool := false
  freeze : Bool := false
  fallbacks : Nat := 0
  ms : Nat := 0
  elems : Tab Elem := []
  feeds : Tab Feed := []
  head : Tab Headroom := []
  source : Nat := 0
  saving : Bool := false
  saveFailed : Bool := false
  generation : Nat := 0
  wrongLocks : Word32 := 0
  lockLost : Word32 := 0
  failovers : Word32 := 0
  /-- laser modules ready -/
  ready : List Nat := []
  /-- modules that assert the wired-OR interrupt (R318) -/
  asserting : List Nat := []
  /-- warm-trim copies in flash and the copy that a save writes (R337, R338) -/
  copyA : WarmImage := {}
  copyB : WarmImage := {}
  writing : Nat := 0
deriving DecidableEq, Repr

end Sys2Proof.Machine
end

