-- ==== Sys2Proof/Machine/State/Memory.lean ====
section
/-! DEFINITION. The state of the millrace (chapter 04), the memory stations (05), the blocking engine (06), and the
millpond, grips and watches (07). -/

namespace Sys2Proof.Machine

open Sys2Proof

/-- What a millrace message carries (R105). -/
inductive Payload where
  | req (q : MemReq)
  | loadData (r : MemRsp)
  | ack (r : MemRsp)
  | signal (p : SignalPos)
  | watchNotice (site : Nat) (value : Word64) (slot : Nat) (tag : Word16)
  | copyNotice (site : Nat) (queue : Nat) (status : Nat) (number : Nat) (tag : Word16)
  | pace (m : PaceMsg)
  | claim (m : ClaimMsg)
  | col (node : Word16) (h : ColHdr) (lines : List (Line × Bool))
  | colHdr (h : ColHdr)
  | colLine (data : Line) (poison : Bool)
  /-- the header of a forwarded message with its number of lines, and one line of it; `id` tells the messages apart -/
  | fwdHdr (id lines : Nat) (m : FwdMsg)
  | fwdLine (id index : Nat) (last : Bool) (data : Line)
  | mgtRead (site module addr : Nat) (tag : BitVec 12)
  | mgtWrite (site module addr : Nat) (tag : BitVec 12) (data : Word32)
  | mirStore (m : MirStoreMsg)
  | mirWord (m : MirWordMsg)
  | mirConfirm (mseq : Nat)
  | raw (s : Slot)
deriving DecidableEq, Repr

/-- A message in a class queue, in flight or in a receive buffer: its slots use credits (R106), its payload bytes are
counted (R119); `mc` lists the destinations of a multicast and `grp` tells multicasts apart (R115), and `paid` says that its
credits are held. -/
structure MrMsg where
  pay : Payload
  slots : Nat := 1
  bytes : Nat := 16
  fence : Bool := false
  job : Nat := 0
  no : Nat := 0
  mc : List Nat := []
  grp : Nat := 0
  paid : Bool := false
  /-- the other node, where the payload does not name it, and the site that a SIGNAL comes from (R258) -/
  node : Word16 := 0
  source : Nat := 0
  /-- the receiving flow and the FSEQ values of the slots it came in (R298) -/
  flow : Option (Nat × List Word32) := none
deriving DecidableEq, Repr

/-- A message whose credits have not returned (R107, R113): class, slots, job, and the flow slots that it delivers. -/
structure CreditNote where
  cls : Nat
  slots : Nat
  job : Nat
  flow : Option (Nat × List Word32) := none
deriving DecidableEq, Repr

/-- A millrace flit (R103, R104): its sequence number on its wavelength (none for an idle flit, TYPE 0 under R255; a flit with
a number has TYPE 1), its messages with their classes, the acknowledgements (wavelength, next sequence number expected, nak)
of the reverse pair, the credits returned, and how often it was replayed (R117). Log entry 12 (DESIGN CHOICE). -/
structure MrFlit where
  /-- TYPE (R255): 0 idle, 1 data -/
  type : BitVec 4 := 1
  seq : Option Nat
  msgs : List (Nat × MrMsg)
  acks : List (Nat × Nat × Bool) := []
  credits : List (Nat × Nat) := []
  replays : Nat := 0
deriving DecidableEq, Repr

/-- One transmit wavelength of a station (R104, R117). -/
structure Lambda where
  out : Bool := false
  nextSeq : Nat := 0
  unacked : List MrFlit := []
  chan : List MrFlit := []
  expect : Nat := 0
  nak : Bool := false
  /-- tick of the last NAK with no progress since (R104, R265) -/
  nakAt : Option Tick := none
  /-- the tick from which it takes its next flit (R103) -/
  busyUntil : Tick := 0
  uncorr : List Tick := []
deriving DecidableEq, Repr

/-- A forwarded message whose header has reached its delivery point, and the line that comes next (R304): the delivering
station, the source station of its slots, its flow's node and job at an external station, and its MSG number there. -/
structure FwdIn where
  dst : Nat
  src : Nat
  id : Nat
  node : Word16 := 0
  job : Nat := 0
  msg : BitVec 4 := 0
  next : Nat := 0
deriving DecidableEq, Repr

/-- A station's spare wavelength (R118): the destination of the pair it serves or is being remapped to. -/
structure Spare where
  dest : Option Nat := none
  remapping : Option Tick := none
deriving DecidableEq, Repr

/-- A station's millrace counters (R119). -/
structure MrCount where
  txFlits : Word64 := 0
  rxFlits : Word64 := 0
  txBytes : Word64 := 0
  rxBytes : Word64 := 0
  peak : Tab Word16 := []
  stall : Tab Word64 := []
deriving DecidableEq, Repr

/-- The millrace (R102 to R120). Pairs are keyed source * 36 + destination; pair and class as pair * 8 + class.
Log entry 17 (DESIGN CHOICE). -/
structure Mrc where
  queues : Tab (List MrMsg) := []
  /-- messages of a removed wavelength, sent again first; their credits are held -/
  resend : Tab (List (Nat × MrMsg)) := []
  /-- credits in use at the sender -/
  used : Tab Nat := []
  /-- credits freed at the receiver and not yet returned -/
  freed : Tab Nat := []
  /-- jobs of the messages whose credits have not returned, per pair (R113) -/
  jobs : Tab (List CreditNote) := []
  rx : Tab (List MrMsg) := []
  /-- by station * 96 + wavelength -/
  lambdas : Tab Lambda := []
  /-- rotation of the classes per pair (R109) -/
  turn : Tab Nat := []
  /-- rotation of the wavelengths per pair (R103) -/
  lamTurn : Tab Nat := []
  /-- forwarded messages that are being delivered (R304) -/
  fwdIn : List FwdIn := []
  spares : Tab Spare := []
  /-- pairs down (R118) -/
  down : List Nat := []
  remapCount : Word32 := 0
  lambdaOutCount : Word32 := 0
  count : Tab MrCount := []
  nextNo : Nat := 0
deriving DecidableEq, Repr

/-- A memory station (R134 to R147). -/
structure MsSt where
  /-- 0 not trained, 1 in service, 2 in memory pause, 3 fenced -/
  st : Nat := 0
  rate : Nat := 0
  lanesRepaired : Nat := 0
  fallback : Bool := false
  /-- stack lanes that wait for a memory pause to be repaired (R139) -/
  repairs : Nat := 0
  poisonHome : Bool := false
  corr : Word32 := 0
  uncorr : Word32 := 0
  combStores : Word32 := 0
  combAdds : Word32 := 0
  combPeak : Word32 := 0
  /-- the ordering queue: accesses that have reached the delivery point, oldest first (R131, R133) -/
  queue : List MemReq := []
  /-- error reports of the stack's own ECC (R134) -/
  onDie : Word32 := 0
  /-- the next line of the patrol scrub and the line read and not yet written back (R138) -/
  scrubNext : Nat := 0
  scrubPasses : Word16 := 0
  /-- every line of the stack is stored with POISON set unless listed in flips (R140) -/
  allPoison : Bool := false
deriving DecidableEq, Repr

/-- An outstanding request in a response slot (R108, R143, R145). -/
structure Outst where
  req : IssueReq
  gen : BitVec 8
  /-- the tick at which it left its station (R143) -/
  sent : Option Tick
  node : Word16
  station : Nat
  /-- the region entry that a load matched and its block (R155, R156) -/
  region : Option Nat := none
  /-- a replica slot serves it -/
  replica : Option Nat := none
deriving DecidableEq, Repr

/-- A request that waits for a response slot (R108), with the way it goes: its node, the station it goes to, whether over the
millrace, the region entry and the replica slot that it matched. -/
structure HeldReq where
  req : IssueReq
  node : Word16
  dst : Nat
  onMillrace : Bool
  region : Option Nat := none
  replica : Option Nat := none
deriving DecidableEq, Repr

/-- Memory (R121 to R147): bytes by node offset, the pool from 0 and the millpond from 0x4000_0000_0000.
Log entry 17 (DESIGN CHOICE). -/
structure Mem where
  cells : List Host.Cell := []
  /-- pool lines (offset over 64) whose POISON differs from their station's default (R137, R140) -/
  flips : Tab Bool := []
  /-- symbols in error of a stored pool line, by place (R136), until it is written again -/
  symErrs : Tab (List (Nat × Byte)) := []
  /-- uncorrectable millpond words by word index (R172) -/
  badWords : Tab Bool := []
  addressable : Nat := 0
  cleared : Bool := false
  timeoutUs : Nat := 64
  /-- the home table of the script, or none for the default (R149) -/
  home : Option (List Nat) := none
  stations : Tab MsSt := []
  violations : Word32 := 0
  failures : Word32 := 0
  lateRsp : Word32 := 0
  /-- outstanding requests, by buffer * 8192 + slot -/
  slots : Tab (Option Outst) := []
  /-- generations by buffer * 8192 + slot (R145) -/
  gens : Tab Byte := []
  /-- requests that wait for a response slot (R108) -/
  held : List HeldReq := []
  /-- response slots of a station that MGT requests hold, from its buffer's end (R108), and MGT requests that wait for one:
  their site and message -/
  mgtSlots : Tab Nat := []
  mgtHeld : List (Nat × MrMsg) := []
  /-- store commands from a site module that wait for their data (R126): site, module, request -/
  storeWait : List (Nat × Nat × IssueReq) := []
  nextSweep : Tick := 0
  /-- the number of the next free value (R182) -/
  freeCtr : Nat := 0
deriving DecidableEq, Repr

/-- A region entry (R153 to R155). -/
structure Region where
  st : Nat := 0
  reason : Nat := 0
  node : Word16 := 0
  base : Word32 := 0
  blocks : Nat := 0
  job : Nat := 0
  mode : Nat := 0
  threshold : Nat := 0
  /-- first epoch in which touches count (R158) -/
  fromEpoch : Nat := 0
deriving DecidableEq, Repr

/-- A replica slot in use (R157): the region, the block (node, offset [47:16]), its state and the lines received. -/
structure Replica where
  region : Nat
  /-- the number of the fetch that filled it; its loads carry the number -/
  id : Nat := 0
  node : Word16
  block : Nat
  valid : Bool := false
  issued : Nat := 0
  got : List Nat := []
deriving DecidableEq, Repr

/-- The blocking engine (R153 to R164). Log entry 17 (DESIGN CHOICE). -/
structure Blk where
  dispatch : Word32 := 0x4000
  replicaGib : Nat := 0
  regions : Tab Region := []
  replicas : Tab (Option Replica) := []
  /-- fetches waiting, in block order: region, node, block -/
  waiting : List (Nat × Nat × Nat) := []
  /-- slots of fetches in flight, in the order they started -/
  flight : List Nat := []
  /-- the number of the next fetch -/
  nextFetch : Nat := 0
  /-- touches per block of the epoch: node, block, region, count (R158) -/
  tracker : List (Nat × Nat × Nat × Nat) := []
  /-- blocks first touched while the tracker was full (R158): node, block -/
  untracked : List (Nat × Nat) := []
  epochDone : Nat := 0
  /-- epoch ends since power-up or wake: a full epoch has passed once there are two (R163) -/
  fullEpochs : Nat := 0
  /-- ticks-weighted pending descriptors per grip in this epoch and the last (R161) -/
  gripSum : Tab Nat := []
  gripMean : Tab Nat := []
  mstSum : Tab Nat := []
  mstMean : Tab Nat := []
  hits : Word32 := 0
  touches : Word32 := 0
  fetched : Word32 := 0
  full : Word32 := 0
  dropped : Word32 := 0
  trackFull : Word32 := 0
deriving DecidableEq, Repr

/-- The millpond banks (R165 to R176, R191). Log entry 17 (DESIGN CHOICE). -/
structure Mpd where
  /-- owner kind and station by bank, from the script; none for the default (R166) -/
  owners : Option (List (Nat × Nat)) := none
  cleared : Bool := false
  clearing : Bool := false
  fenced : List Nat := []
  corr : Tab Word32 := []
  uncorr : Tab Word32 := []
  /-- ticks in which a DMA access waited for the owner, by bank -/
  dmaWait : Tab Word64 := []
  /-- banks whose owner has used them since the latest tick (R167) -/
  ownerUse : List Nat := []
  fencedDiscard : Word32 := 0
  /-- the crew cores' scratchpads: bytes by core * 2^19 + offset, and their uncorrectable words by core * 2^16 + word (R176) -/
  scratch : List Host.Cell := []
  scratchBad : Tab Bool := []
  crewCorr : Tab Word16 := []
  crewUncorr : Tab Word16 := []
  /-- what the cores read in the latest turn: the core, the word's number, its value, or none for an uncorrectable one -/
  crewRead : List (Nat × Nat × Option Word64) := []
deriving DecidableEq, Repr

/-- A watch slot (R188, R189): 0 off, 1 armed, 2 fired and disarmed, 3 stopped. -/
structure Watch where
  st : Nat := 0
  word : Nat := 0
  threshold : Word64 := 0
  step : Word32 := 0
  mode : Nat := 0
  site : Nat := 0
  tag : Word16 := 0
  /-- the VALUE of the notice that waits -/
  notice : Option Word64 := none
  /-- notices of the slot's earlier watches that still wait: word, site, tag, VALUE -/
  old : List (Nat × Nat × Word16 × Word64) := []
deriving DecidableEq, Repr

/-- A copy queue (R177 to R179): 0 disabled, 1 running, 2 error. -/
structure CopyQueue where
  base : Nat := 0
  job : Nat := 0
  st : Nat := 0
  reason : Nat := 0
deriving DecidableEq, Repr

/-- A copy descriptor (R180). -/
structure CopyDesc where
  src : Word64
  dst : Word64
  rowLines : Nat
  rows : Nat
  srcStride : Nat
  dstStride : Nat
  counter : Word64
  increment : Word64
  fence : Bool
  notify : Bool
  count : Bool
  stream : Nat
  pin : Option Nat
  notifySite : Nat
  tag : Word16
  /-- a field outside R180's ranges -/
  badField : Bool
deriving DecidableEq, Repr

/-- Where a descriptor stands: sent to a grip, running, waiting for its counter add. -/
inductive DescState where
  | pending | running | adding
deriving DecidableEq, Repr

/-- A descriptor taken by the dispatcher (R178, R184). -/
structure Desc where
  queue : Nat
  number : Nat
  /-- its number among all descriptors taken, which its accesses carry, and the job that its queue was bound to -/
  id : Nat := 0
  job : Nat := 0
  d : CopyDesc
  grip : Nat
  st : DescState := .pending
  /-- the sluice path with its feed's station and selector (R185) -/
  sluice : Option (Nat × Nat) := none
  /-- source loads issued, lines handed on, lines acknowledged or landed -/
  issued : Nat := 0
  placed : Nat := 0
  done : Nat := 0
  failed : Bool := false
  lost : Bool := false
  discarded : Bool := false
  /-- the ring number after the last line placed on the sluice path -/
  ringEnd : Nat := 0
  /-- the tick from which the descriptor is complete on the sluice path (R186) -/
  landedAt : Option Tick := none
  /-- lines loaded and waiting, in row order: line number, data, poison -/
  buffer : List (Nat × Line × Bool) := []
deriving DecidableEq, Repr

/-- Grips, copy queues and watches (R177 to R191). Log entry 17 (DESIGN CHOICE). -/
structure Grp where
  watches : Tab Watch := []
  queues : Tab CopyQueue := []
  /-- descriptors taken and not complete, in the order taken -/
  descs : List Desc := []
  nextDesc : Nat := 0
  coalesced : Word32 := 0
deriving DecidableEq, Repr

end Sys2Proof.Machine
end

