-- ==== Sys2Proof/Machine/State/Mill.lean ====
section
/-! DEFINITION. The state of the millstones and of the collective contexts (chapter 08). The context table and the program
store are words of the reel store's window (R89, R202) and lie in the sluice's store. -/

namespace Sys2Proof.Machine

open Sys2Proof

/-- What a member has given to one chunk (R204 to R206, R209, R212): its lines by place, its exponent lines by group, the
groups of which an exponent line carried POISON, those of which a line was discarded, whether it is given up, and the frame number of its due tick once that is known.
Log entry 38 (DEDUCED). -/
structure Member where
  lines : Tab (Option (Line × Bool)) := []
  exps : Tab (Option Line) := []
  expPoison : List Nat := []
  lost : List Nat := []
  gone : Bool := false
  due : Option Nat := none
  dueSeen : Bool := false
deriving DecidableEq, Repr

/-- A chunk of a context: open to contributions, or closed and not yet delivered (R206, R213, R219, R220).
Log entry 38 (DEDUCED). -/
structure Chunk where
  /-- number of the chunk since set-up: run × CHUNKS + chunk -/
  no : Nat
  members : Tab Member := []
  /-- exponents agreed over the pod, by group (R226) -/
  agreed : Tab (Option Line) := []
  agreedPoison : List Nat := []
  /-- local members whose contributions the accumulator holds, by group (R206) -/
  acc : Tab (List Nat) := []
  /-- groups whose local exponents have gone to the owner -/
  expSent : List Nat := []
  /-- groups whose local partial has gone to the owner, and the frame number of the last one -/
  partialSent : Nat := 0
  partialAt : Option Nat := none
  /-- frame number in which the first node partial arrived (R227) -/
  firstPartial : Option Nat := none
  /-- result lines received from the owner, by place -/
  result : Tab (Option (Line × Bool)) := []
  closed : Bool := false
  finished : Nat := 0
  status : Nat := 0
  missing : List Nat := []
  missingDest : List Nat := []
  /-- the whole chunk is delivered as error lines (R223, R227) -/
  poisoned : Bool := false
  /-- counted in MST_CTX_LATE -/
  lated : Bool := false
  /-- stores of results and streams not yet acknowledged -/
  stores : Nat := 0
  /-- ring numbers of the chunk's first scheduled result line and after its last one, and the tick from which a scheduled plan is
  done -/
  ringStart : Option Nat := none
  ringEnd : Option Nat := none
  sentAt : Option Tick := none
deriving DecidableEq, Repr

/-- A chunk of a member that waited at its due tick (R222, R364): member, chunk, tick, and its lateness once it is known. -/
structure LateRec where
  member : Nat
  no : Nat
  at_ : Tick
  late : Option Nat := none
deriving DecidableEq, Repr

/-- A collective context (R203): 0 free, 1 ready, 2 running, 3 fenced. -/
structure MstCtx where
  st : Nat := 0
  mill : Nat := 0
  reason : Nat := 0
  run : Word64 := 0
  /-- K0 to K7 for runs that begin from now on, and of the runs that are open (R218) -/
  ks : List Word32 := []
  runKs : Tab (List Word32) := []
  /-- lines landed for each member since set-up, and chunks that a member completed by COL lines (R204) -/
  pos : Tab Nat := []
  colDone : Tab (List Nat) := []
  /-- lines of the input buffer in use: chunk, member and line, by place (R208, R212) -/
  held : Tab (Option (Nat × Nat × Nat)) := []
  /-- oldest chunk that takes contributions -/
  base : Nat := 0
  chunks : List Chunk := []
  /-- scheduled lines by run * 16 + member since the run opened (R222) -/
  sched : Tab Nat := []
  /-- frame numbers in which that count reached the member's first chunk of the run, its second, and so on -/
  reached : Tab (List Nat) := []
  late : Word32 := 0
  /-- ticks at which the latest 8 runs opened, with their numbers, newest first, and what was late in them (R364) -/
  opens : List (Nat × Tick) := []
  lates : List LateRec := []
  /-- what the completion record gathers over the run (R221) -/
  status : Nat := 0
  incomplete : Nat := 0
  missing : List Nat := []
  missingDest : List Nat := []
  /-- the last COLLECTIVE_INCOMPLETE (R221) -/
  lastIncomplete : Option Tick := none
deriving DecidableEq, Repr

/-- A store that a millstone has still to issue (R217, R219): its context, chunk, address, line and POISON. -/
structure MstStore where
  ctx : Nat
  no : Nat
  addr : Word64
  data : Line
  poison : Bool
deriving DecidableEq, Repr

/-- A stream line that a millstone has asked for or holds (R217). -/
structure MstFetch where
  ctx : Nat
  no : Nat
  addr : Word64
  got : Option (Line × Bool) := none
deriving DecidableEq, Repr

/-- The millstones (R192 to R228). Log entry 17 (DESIGN CHOICE). -/
structure Mst where
  ctxs : Tab MstCtx := []
  /-- the header whose lines come next, and the number of them placed, by millstone * 36 + source station (R205) -/
  hdr : Tab (Option (ColHdr × Nat)) := []
  stores : List MstStore := []
  fetches : List MstFetch := []
  discards : Word32 := 0
  incompletes : Word32 := 0
  /-- element operations per millstone (R193) -/
  ops : Tab Word64 := []
  /-- measured lane rate in units of 10 M element operations per second (R194) -/
  rate : Tab Byte := []
deriving DecidableEq, Repr

end Sys2Proof.Machine
end

