-- ==== Sys2Proof/Machine/State/Pod.lean ====
section
/-! DEFINITION. The state of the pod links, the flows, the route tables and time transfer (chapter 11). -/

namespace Sys2Proof.Machine

open Sys2Proof

/-- A lane of a link (R286 to R289): its receive sequence, the run that its slots belong to with the FSEQ of the next slot,
and its send sequence with the replay buffer. -/
structure PodLane where
  expect : Nat := 0
  nak : Bool := false
  nakAt : Option Tick := none
  run : Option RouteCmd := none
  runSeq : Word32 := 0
  /-- the run is discarded (R312) -/
  runBad : Bool := false
  nextSeq : Nat := 0
  held : List Flit := []
  naks : Nat := 0
  txRun : Option RouteCmd := none
  txSeq : Word32 := 0
  /-- uncorrectable flits and corrected symbols within the last millisecond, by tick (R293) -/
  uncorr : List Tick := []
  /-- the tick from which it takes its next flit (R287) -/
  busyUntil : Tick := 0
  corr : List (Tick × Nat) := []
deriving DecidableEq, Repr

/-- A LANE_MAP exchange that has not completed (R294). -/
structure LaneExch where
  epoch : Nat
  lanes : Word16
  lane : Nat
  cause : Nat
  sent : Tick
  /-- the partner's LANES, once its message of this epoch has come -/
  theirs : Option Word16 := none
  answered : Bool := false
deriving DecidableEq, Repr

/-- Time transfer on a link (R309 to R311). -/
structure PodTime where
  t1 : Option Word64 := none
  sentAt : Option Tick := none
  /-- the latest offsets, newest first, at most 16, in units of 1/2 ns -/
  offsets : List Int := []
  lastValid : Option Tick := none
  locked : Bool := false
  source : Word16 := 0xFFFF
  priority : Nat := 255
  hops : Nat := 0
deriving DecidableEq, Repr

/-- A pod link (R290 to R295, R312 to R314): 0 down, 1 training, 2 up, 3 quarantined, 4 miswired, 5 fenced. -/
structure PodLink where
  st : Nat := 0
  map : Word16 := 0
  epoch : Nat := 0
  exch : Option LaneExch := none
  /-- lanes that wait for the next exchange: lane and cause, 0 for a lane that rejoins -/
  drops : List (Nat × Nat) := []
  partnerNode : Word16 := 0
  partnerSwitch : Bool := false
  partnerXs : Nat := 0
  partnerLink : Nat := 0
  hello : Bool := false
  lastLane : Nat := 0
  lastCause : Nat := 0
  viol : Word32 := 0
  /-- ticks of violations within the last second, newest first, at most 1,001 kept -/
  violAt : List Tick := []
  /-- slots sent by the partner, and by this side, against link credits, and credits freed and not returned, by class -/
  theirUsed : Tab Nat := []
  ourUsed : Tab Nat := []
  owe : Tab Nat := []
  /-- link commands that wait for a lane, of one lane or of any (R289, R294), and the lane that takes the next turn (R287) -/
  cmds : List (Option Nat × LinkOut) := []
  laneTurn : Nat := 0
  lanes : Tab PodLane := []
  time : PodTime := {}
  txFlits : Word64 := 0
  rxFlits : Word64 := 0
  txBytes : Word64 := 0
  rxBytes : Word64 := 0
  peak : Tab Word16 := []
  stall : Tab Word64 := []
deriving DecidableEq, Repr

/-- A flow tag (R301): the requesting station's buffer, the response slot and its generation. -/
structure FlowTag where
  buf : Nat
  slot : Nat
  gen : BitVec 8
deriving DecidableEq, Repr

/-- Where a slot of a sending flow is: not yet sent, in a flit that a lane (link * 16 + lane) holds, or accepted by the
partner (R286, R295). A `seq` of 4,096 says that the lane has sent its ROUTE and sends the slot in its next flit. -/
inductive SlotPlace where
  | waiting
  | inFlit (lane seq : Nat)
  | accepted
deriving DecidableEq, Repr

/-- A slot of a flow with its FSEQ; `no` is its place over all flows (R300). -/
structure FlowSlot where
  fseq : Word32
  slot : Slot
  job : Nat := 0
  no : Nat := 0
  place : SlotPlace := .waiting
  /-- a line of an egress stream, which travels in a stream flit (R85, R255) -/
  stream : Bool := false
deriving DecidableEq, Repr

/-- A sending flow (R296 to R298): 0 opening, 1 open, 2 closed by its receiver. -/
structure TxFlow where
  /-- context number, 0 to 4,095 -/
  ctx : Nat := 0
  node : Word16
  job : Nat
  cls : Nat
  xs : Nat
  remoteXs : Nat
  next : Word32 := 0
  fack : Word32 := 0
  window : Nat := 0
  slots : List FlowSlot := []
  tags : Tab (Option FlowTag) := []
  rtt : Nat := 0
  openAt : Option Tick := none
  st : Nat := 0
  lastUse : Tick := 0
  pinned : Bool := false
deriving DecidableEq, Repr

/-- A receiving flow (R296, R298, R299). -/
structure RxFlow where
  ctx : Nat := 0
  node : Word16
  job : Nat
  cls : Nat
  /-- external station here, and that of the sender -/
  xs : Nat
  srcXs : Nat
  fack : Word32 := 0
  window : Nat := 8
  /-- its credits are withdrawn by a drain of the sluice tables: the window shown is what it holds (R100) -/
  stopped : Bool := false
  /-- FSEQ values accepted at or above FACK, and those of them delivered -/
  seen : List Word32 := []
  delivered : List Word32 := []
  /-- messages of a slot that are still to be delivered beside the last one -/
  parts : List (Word32 × Nat) := []
  /-- FACK or WINDOW has changed since the last FLOW_ACK, and its tick -/
  dirty : Bool := false
  lastAck : Tick := 0
  lastUse : Tick := 0
  /-- slots that wait for the rest of their message: store commands, collective headers, forwarded messages -/
  waiting : List (Word32 × Slot) := []
deriving DecidableEq, Repr

/-- A message that waits at an external station for a context of its flow (R302); `no` is its place over all flows (R300). -/
structure PodWait where
  st : Nat
  cls : Nat
  node : Word16
  job : Nat
  slots : List Slot
  no : Nat := 0
deriving DecidableEq, Repr

/-- The pod side (R284 to R314). Log entry 17 (DESIGN CHOICE). -/
structure Pod where
  links : Tab PodLink := []
  tx : List TxFlow := []
  rx : List RxFlow := []
  /-- messages that wait for a context (R302) -/
  waiting : List PodWait := []
  nextNo : Nat := 0
  /-- flow served last, by link: the rotation of sending -/
  turn : Tab Nat := []
  laneDrops : Word32 := 0
  evict : Word32 := 0
  dup : Word32 := 0
  fwdDiscard : Word32 := 0
  route : Tab RouteEntry := []
  routeNext : Tab RouteEntry := []
  rtSt : Nat := 0
  rtReason : Nat := 0
  rtNode : Nat := 0
  drainEnd : Tick := 0
  drainNodes : List Nat := []
  priority : Nat := 255
  upstream : Option Nat := none
  isSource : Bool := false
  locked : Bool := false
  hops : Nat := 0
  medianOffset : Int := 0
deriving DecidableEq, Repr

end Sys2Proof.Machine
end

