-- ==== Sys2Proof/Machine/State/Power.lean ====
section
/-! DEFINITION. The state of temperature sensing, the hardware stops and the gaffer (chapter 13). -/

namespace Sys2Proof.Machine

open Sys2Proof

/-- Temperature and the hardware stops (R340 to R348, R372). Temperatures are in units of 1/16 °C.
Log entry 17 (DESIGN CHOICE). -/
structure Thm where
  /-- latest reading by sensor; none before the first sample -/
  sens : Tab (Option Int) := []
  /-- since when a sensor differs from its station's median by more than 6 °C -/
  devSince : Tab (Option Tick) := []
  /-- sensors whose latest sample stood at 108 °C or more -/
  hot : List Nat := []
  level : Nat := 0
  warmup : Bool := false
  restarted : Bool := false
  /-- since when every sensor is below 75 °C -/
  coolSince : Option Tick := none
  /-- trips within 24 h, newest first (always-on) -/
  trips : List Tick := []
  tripLocked : Bool := false
  /-- latest stop: 0 trip, 1 coolant; the station and reading of the latest trip -/
  cause : Nat := 0
  tripStation : Nat := 0
  tripTemp : Int := 0
  /-- a trip, or a coolant stop, holds the base -/
  tripped : Bool := false
  coolStop : Bool := false
  /-- the restart that follows a trip has still to report it again (R346) -/
  again : Bool := false
  /-- since when a station fenced for LOW_TEMP is at 12 °C or more -/
  lowOk : Tab (Option Tick) := []
  lowSt : List Nat := []
  stackTemp : Tab Int := []
  /-- 0 normal, 1 hot, 2 fenced -/
  stackSt : Tab Nat := []
  lastSample : Option Tick := none
deriving DecidableEq, Repr

/-- What the gaffer keeps of a site (R349 to R366, R372). -/
structure SitePow where
  /-- latest LIMIT sent -/
  limit : Nat := 0
  /-- installer site cap and site PMAX, from the script -/
  cap : Nat := 1023
  pmax : Nat := 0
  clamped : Bool := false
  guardEnd : Option Tick := none
  /-- TEMP ceiling in 1/100 W; none while it stands at PMAX; its latest step -/
  tempCeil : Option Nat := none
  tempAt : Option Tick := none
  /-- since when TEMP is at TJMAX + 10 °C or more, and below TJMAX − 2 °C -/
  hotSince : Option Tick := none
  coolSince : Option Tick := none
  /-- pace-follow: demand when it began and the slowdown in force, 0.1 % -/
  pace : Option (Nat × Nat) := none
  /-- demand before the limit fell below it (R364); 0 while the limit is at the demand or above -/
  demand : Nat := 0
  /-- f(n) in 1/100,000 (R350) -/
  factor : Nat := 100000
  /-- the end of a POWER_LIMIT that has still to be checked; a higher limit that waits 50 µs after the last lower one -/
  limitAt : Option Tick := none
  /-- the POWER_LIMIT has still to leave, and is then to be checked -/
  checkDue : Bool := false
  waitLimit : Option (Nat × Tick) := none
  /-- latest power sample, and those since the latest 10 µs mean -/
  sampleAt : Option Tick := none
  samples : List Nat := []
  /-- 10 µs means of the last 1 ms, newest first; breaks are judged over those from slewFrom on -/
  means : List (Tick × Nat) := []
  slewFrom : Tick := 0
  /-- since when the mean is at or below 0.95 LIMIT under a clamp -/
  lowSince : Option Tick := none
  /-- a slew grant: DELTA, end of its window -/
  grant : Option (Int × Tick) := none
  breaks : List Tick := []
  viol : Word32 := 0
deriving DecidableEq, Repr

/-- A pace notice in force (R366). -/
structure PaceIn where
  job : Word32
  source : Word16
  seq : Word16
  slowdown : Nat
  at_ : Tick
deriving DecidableEq, Repr

/-- What the gaffer sends for a job (R365, R366): its latest notice, and the slowdown last told to the local dies. -/
structure PaceOut where
  lastSent : Option Tick := none
  sentValue : Nat := 0
  seq : Word16 := 0
  told : Nat := 0
deriving DecidableEq, Repr

/-- A release that waits for its acknowledgement (R356). -/
structure Release where
  id : Word32
  released : Nat
  kept : Nat
  reason : Nat
  sent : Tick
  tries : Nat := 1
deriving DecidableEq, Repr

/-- The gaffer (R350 to R372). Log entry 17 (DESIGN CHOICE). -/
structure Gaf where
  budget : Nat := 4866
  grantId : Word32 := 0
  expiry : Option Tick := none
  reserveBase : Nat := 520
  reserveStack : Nat := 38
  fallback : Nat := 4866
  rackEid : Nat := 0
  ctrl : Word32 := 3
  /-- VDD_MILL set-point, mV -/
  vmill : Nat := 720
  lastRaise : Option Tick := none
  lastLower : Option Tick := none
  pmbusFail : Bool := false
  /-- allocation under R358 in 1/100 W, and power freed by pace-follow that no release has given back (R366) -/
  alloc : Nat := 0
  withheld : Nat := 0
  /-- module power over the last 1 ms, W -/
  measured : Nat := 0
  /-- the module throttle factor in millionths, and its latest step -/
  f : Nat := 1000000
  fStep : Option Tick := none
  evalDone : Nat := 0
  /-- since when the budget exceeds the allocation by 50 W or more -/
  excessSince : Option Tick := none
  release : Option Release := none
  /-- job caps in W; 0xFFF, the default, means none -/
  jobCap : Tab Nat := []
  /-- share given to a job, W -/
  jobShare : Tab Nat := []
  sites : Tab SitePow := []
  paceIn : List PaceIn := []
  paceOut : Tab PaceOut := []
  /-- per focus unit, since when its implied ring temperature is too high; fields where SENSOR_DISAGREE stands (R351) -/
  disagreeSince : Tab (Option Tick) := []
  disagree : List Nat := []
  energy : Tab Word64 := []
  /-- lines read and written, and payload bytes, per tag in this millisecond (R370) -/
  lines : Tab Nat := []
  bytes : Tab Nat := []
  energyDone : Nat := 0
deriving DecidableEq, Repr

end Sys2Proof.Machine
end

