-- ==== Sys2Proof/Machine/State/Role.lean ====
section
/-! DEFINITION. The state of sessions, the job table, the audit ring and continuity (chapter 15). -/

namespace Sys2Proof.Machine

open Sys2Proof

/-- An SPDM session (R420, R442). -/
structure Session where
  role : Role
  eid : Nat := 0
  /-- 0 the management bus, 1 + site a local site die's slots -/
  via : Nat := 0
  keyDigest : Digest := 0
  lastBeat : Tick := 0
deriving DecidableEq, Repr

/-- The states of a job (R427). -/
inductive JobState where
  | free | defined | running | ending
deriving DecidableEq, Repr

/-- A job-table entry (R425, R427): the 128-byte record as 32 words by index, its state and the latest REASON. -/
structure Job where
  words : Tab Word32 := []
  st : JobState := .free
  reason : Nat := 0
  tag : Nat := 0
deriving DecidableEq, Repr

/-- An audit entry (R429). -/
structure AuditEntry where
  time : Word64 := 0
  seq : Word32 := 0
  role : Nat := 0
  session : Nat := 255
  action : Nat := 0
  object : Word32 := 0
  detail : Word64 := 0
  key : Word32 := 0
deriving DecidableEq, Repr

/-- A continuity partner (R433, R434). -/
structure ContPartner where
  node : Word16
  st : Nat := 0
  bad : Nat := 0
  good : Nat := 0
  last : Tick := 0
deriving DecidableEq, Repr

/-- Roles, jobs, audit and continuity (R417 to R435, R442). Log entry 17 (DESIGN CHOICE). -/
structure RoleSt where
  sessions : Tab (Option Session) := []
  /-- enrolled installer keys in one-time cells, oldest first (R421) -/
  enrolled : List Digest := []
  reenrolArmed : Bool := false
  facActive : Bool := false
  jobs : Tab Job := []
  /-- the audit ring by entry number modulo 1,024 -/
  audit : Tab (Option AuditEntry) := []
  auditHead : Nat := 0
  auditSeq : Word32 := 0
  archived : Word32 := 0
  auditLost : Word32 := 0
  archiveTries : Nat := 0
  archiveWait : Tick := 0
  digest : Word64 := 0
  digestNext : Word64 := 0
  expect : Word64 := 0
  expectAlt : Word64 := 0
  routeIdNext : Word32 := 0
  routeId : Word32 := 0
  partners : Tab (Option ContPartner) := []
  sweep : Nat := 0
  contDone : Nat := 0
deriving DecidableEq, Repr

end Sys2Proof.Machine
end

