-- ==== Sys2Proof/Machine/State/Site.lean ====
section
/-! DEFINITION. The state of the site interfaces (chapters 09 and 10). -/

namespace Sys2Proof.Machine

open Sys2Proof

/-- A site module (R248 to R251): 0 off, 1 full, 2 narrowed, 3 training or retraining. -/
structure SiteMod where
  st : Nat := 0
  half : Nat := 0
  /-- lane replaced by S0 to S3, 0x7F unused -/
  spares : List Nat := [0x7F, 0x7F, 0x7F, 0x7F]
  /-- spares that failed -/
  dead : List Nat := []
  /-- the swap in progress: lane and spare 0 to 3 -/
  repair : Option (Nat × Nat) := none
  /-- failing lanes that wait to be handled (R250) -/
  failing : List Nat := []
  /-- the half that a narrowing in progress keeps -/
  narrowing : Option Nat := none
deriving DecidableEq, Repr

/-- A flit in an outbound hopper (R270): its slots, a stream flit or not, the origin of rerouted slots (R267, R268), and its
place in the order of the site's flits (R269). -/
structure HopEntry where
  slots : List Slot
  stream : Bool := false
  origin : Option Nat := none
  no : Nat := 0
deriving DecidableEq, Repr

/-- The link layer of D2B module k and its B2D partner 32 + k (R261 to R270). -/
structure SiteLink where
  /-- next SEQ expected from the die, a NAK to set, and the tick of the last NAK with no progress since -/
  expect : Nat := 0
  nak : Bool := false
  nakAt : Option Tick := none
  /-- slots of each class the die has sent against the base's credits, and credits freed and not returned -/
  dieUsed : Tab Nat := []
  owe : Tab Nat := []
  /-- toward the die: next SEQ, the replay buffer, NAKs without progress, slots sent against the die's credits -/
  nextSeq : Nat := 0
  held : List Flit := []
  /-- places of the held flits in the order of the site's flits (R269) -/
  heldNo : List Nat := []
  naks : Nat := 0
  used : Tab Nat := []
  hopper : List HopEntry := []
  /-- the inbound hopper: accepted flits with TYPE and ORIGIN, whose slots have not been handed on (R67, R111) -/
  inbound : List Flit := []
  /-- the B2D module is off and the die's MODULE_OFF_ACK has not come (R267) -/
  offWait : Bool := false
deriving DecidableEq, Repr

/-- The negotiated and protocol state of a site (R275 to R278, R283). -/
structure SiteNeg where
  revision : Nat := 0
  done : Bool := false
  accepted : Bool := false
  legacy : Bool := false
  newer : Bool := false
  aligned : Bool := false
  /-- the revision in HELLO_ACK -/
  ackRev : Byte := 0
  lastTemp : Int := 0
  /-- last TEMP, or the end of negotiation: the sideband's silence counts from it (R249, R274) -/
  lastTempAt : Option Tick := none
  base : Tab Word32 := []
  die : Tab Word32 := []
  /-- indices that the die sent -/
  dieSent : List Nat := []
  agreed : Tab Word32 := []
  unsupported : Word32 := 0
deriving DecidableEq, Repr

/-- The RC counters of a site (R251, R283). -/
structure SiteCount where
  swaps : Nat := 0
  narrows : Nat := 0
  offs : Nat := 0
  corr : Word32 := 0
  uncorr : Word32 := 0
  naks : Nat := 0
  replays : Nat := 0
  malformed : Word32 := 0
  overrun : Word32 := 0
  streamDiscard : Word32 := 0
  peakIn : Nat := 0
  peakOut : Nat := 0
  resendSent : Nat := 0
  resendGot : Nat := 0
deriving DecidableEq, Repr

/-- The base's side of a site's sideband (R271, R272): since when SB_CLK runs, the messages that wait, the longer message in
progress with its words still to send, and the message of the word in its latest window. -/
structure Sideband where
  start : Option Tick := none
  queue : List SbMsg := []
  cur : Option (SbMsg × List (BitVec 24)) := none
  sent : Option SbMsg := none
deriving DecidableEq, Repr

/-- A site (R239 to R251): 0 absent, 1 powered down, 2 training, 3 in service, 4 in site pause, 5 fenced.
Log entry 17 (DESIGN CHOICE). -/
structure SiteSt where
  st : Nat := 0
  rate : Nat := 0
  /-- the rate to which an unfinished pause returns (R243) -/
  oldRate : Nat := 0
  /-- tick at which a pause fell back (R243) -/
  fallbackAt : Option Tick := none
  cause : Nat := 0
  causeModule : Nat := 0
  causeGroup : Nat := 0
  /-- the cause is that of a fence now taking effect -/
  causeNew : Bool := false
  vset : Nat := 0
  vreq : Nat := 0
  lastStep : Option Tick := none
  limits : VsiteLimits := {}
  mv : Word16 := 0
  current : Word16 := 0
  on : Bool := false
  /-- VSIO is on (R241) -/
  vsio : Bool := false
  overvolt : Bool := false
  undervolt : Bool := false
  clamped : Bool := false
  groupFail : Bool := false
  group : Nat := 0
  freeze : Bool := false
  lastTrim : Option Tick := none
  mods : Tab SiteMod := []
  links : Tab SiteLink := []
  /-- delay * 32 + threshold, by rate * 8192 + module * 128 + lane -/
  taps : Tab Nat := []
  /-- targets written by host software, by module * 128 + lane -/
  targets : Tab (Option Nat) := []
  laneErr : Tab Word32 := []
  /-- ticks of the latest symbols attributed to a lane, at most 257 of the last 1 ms (R247) -/
  laneTimes : Tab (List Tick) := []
  /-- eye width and height as last measured, by module * 128 + lane -/
  margin : Tab (Option (Nat × Nat)) := []
  neg : SiteNeg := {}
  sb : Sideband := {}
  count : SiteCount := {}
  /-- stream credits held by the die, and granted by the die, by STREAM_ID (R259) -/
  streamIn : Tab Nat := []
  streamOut : Tab Nat := []
  nextNo : Nat := 0
  /-- what waits at the station for a place in an outbound hopper, with the origin of its request (R67, R268) -/
  wait : List (Option Nat × HopEntry) := []
  /-- forwarded messages that the die has begun: header and lines by message number (R304) -/
  fwd : Tab (Option Slot × Tab (Option Line)) := []
deriving DecidableEq, Repr

end Sys2Proof.Machine
end

