-- ==== Sys2Proof/Machine/State/Timecode.lean ====
section
/-! DEFINITION. The state of the timecode, the reel sequencer, the clapper, slack and pauses (chapter 02), and of the
sluice matrix (chapter 03). -/

namespace Sys2Proof.Machine

open Sys2Proof

/-- TC_REEL_STATUS.STATE (R70). -/
inductive ReelState where
  | noReel | running | stopping | waiting
deriving DecidableEq, Repr

/-- TC_CLAP_STATUS.STATE (R70). -/
inductive ClapState where
  | off | acquiring | locked | lost
deriving DecidableEq, Repr

/-- The state of a station's pause (R63 to R66). -/
inductive PauseState where
  | none | scheduled | running | draining
deriving DecidableEq, Repr

/-- A pause at a station: the tick of its first boundary, the tick its window ends, the rate asked for, the site-lane
pause of a narrowing or the rate change of a die's request. -/
structure Pause where
  st : PauseState := .none
  rate : Nat := 0
  start : Tick := 0
  windowEnd : Tick := 0
deriving DecidableEq, Repr

/-- One frame's measurement of a slack monitor (R60): its tick, frame slack, stage slack, and whether slack was low. -/
structure SlackRec where
  tick : Tick
  frame : Nat
  stage : Nat
  low : Bool
deriving DecidableEq, Repr

/-- TC_SLACK_nn (R70), with the tick since which slack is low (R61). -/
structure Slack where
  /-- the measurements of the last millisecond, newest first -/
  recs : List SlackRec := []
  lowSince : Option Tick := none
  /-- slack stays low with VDD_MILL at its maximum since (R61) -/
  maxSince : Option Tick := none
deriving DecidableEq, Repr

/-- The timecode, reel sequencer, clapper, slack and pauses (R38 to R70). Log entry 17 (DESIGN CHOICE). -/
structure Tc where
  timecode : Word64 := 0
  fieldsAligned : Bool := false
  podSync : Bool := false
  holdover : Bool := false
  maxSkew : Byte := 0
  /-- phase correction of each field in 1/16 ns, held in the voted store (R42) -/
  phase : Tab Int := []
  plusSteps : Word16 := 0
  minusSteps : Word16 := 0
  lastStep : Option Tick := none
  /-- the pod's time less this module's, still to be removed in single steps (R45) -/
  diff : Int := 0
  /-- the timecode is held or doubled at the next tick by a correction step (R44) -/
  stepDue : Int := 0
  refclkLost : Option Tick := none
  nextStitch : Tick := 0
  reel : ReelState := .noReel
  swapArm : Bool := false
  armTick : Tick := 0
  /-- completion tick of the next slot's checks -/
  checkTick : Tick := 0
  swapDeferred : Bool := false
  lastRefused : Bool := false
  startRefused : Bool := false
  activeSlot : Nat := 0
  /-- the active slot holds the reel that STOP or the dark state last ended (R54) -/
  kept : Bool := false
  passStart : Tick := 0
  /-- frames of the pass begun so far -/
  frame : Nat := 0
  /-- the splice interval that ends the pass now running (R51, R56) -/
  spliceLen : Nat := 16
  /-- number of the splice that began the pass now running; splice 0 begins the first pass after a start -/
  spliceNo : Nat := 0
  /-- ticks of the latest splices, by splice number -/
  spliceTicks : Tab Tick := []
  passCount : Word32 := 0
  spliceTime : Word64 := 0
  /-- multiples of 2,048 of the timecode passed with no reel active (R454, R46) -/
  idleDone : Nat := 0
  /-- frames begun since power-up, of reels and of 2,048-tick intervals without one (R222) -/
  frameNo : Nat := 0
  /-- tick of the latest frame boundary -/
  lastBoundary : Tick := 0
  clapMode : Nat := 0
  clapOffset : Int := 0
  clapState : ClapState := .off
  run : Nat := 0
  lastOffset : Int := 0
  viol : Word32 := 0
  /-- splices whose window has had its first pulse and has not closed (R57) -/
  clapSeen : List Nat := []
  /-- the splice whose window closes next (R57) -/
  closeNo : Nat := 0
  /-- the tick at which the pulse on CLAP_OUT ends (R55) -/
  clapFall : Option Tick := none
  /-- c_k of splice k, for the pass that splice begins (R56) -/
  pulls : Tab Int := []
  /-- in-window pulses in a row in the lost state (R58) -/
  relock : Nat := 0
  /-- a START waits for a pulse since (R59) -/
  startWait : Option Tick := none
  /-- the tick at which the first pass begins (R59) -/
  firstPass : Option Tick := none
  pauses : Tab Pause := []
  pauseState : Nat := 0
  pauseStation : Nat := 0
  pauseReason : Nat := 0
  pauseStart : Word64 := 0
  slack : Tab Slack := []
deriving DecidableEq, Repr

/-- The next slot (R93). -/
inductive SlotState where
  | empty | loading | checking | passed | refused
deriving DecidableEq, Repr

/-- SLU_SWAP_STATUS.STATE (R100). -/
inductive SwapState where
  | none | draining | waiting | refused
deriving DecidableEq, Repr

/-- The lines of a feed's ring, or of a read stream or millstone output (R79, R80): the number of the first line held,
and the lines held with their poison bits. -/
structure Ring where
  start : Nat := 0
  lines : List (Line × Bool) := []
deriving DecidableEq, Repr

/-- A feed selector (R79, R83, R87): the number of the next line to send, the owed count, and for a read stream the
number of the next line of the range to fetch. -/
structure FeedSt where
  taken : Nat := 0
  owed : Nat := 0
  fetch : Nat := 0
  /-- places in the range of the lines a read stream holds, and the pointer it shows -/
  idx : List Nat := []
  ptr : Nat := 0
deriving DecidableEq, Repr

/-- A landing selector (R83, R85): the write pointer, the lines landed and the lines forwarded since it started. -/
structure LandSt where
  ptr : Nat := 0
  landed : Nat := 0
  fwd : Nat := 0
  /-- counts of lines landed at which a frame with LAST ended, not yet forwarded (R256) -/
  lastAt : List Nat := []
deriving DecidableEq, Repr

/-- A circuit lit in the frame that runs (R72, R73): source, plane, feed, the targets that are not fenced, and the
flags of the transmit half. -/
structure Circuit where
  src : Nat
  plane : Nat
  feed : Nat
  targets : List Nat
  last : Bool
  ctx : Bool
deriving DecidableEq, Repr

/-- A sluice data flit on its way to a receive port (R86): its source, the number of its frame, its lines, the receive half of
the target's entry, and whether it is the last of its frame. -/
structure AirFlit where
  src : Nat
  frame : Nat := 0
  lines : List (Line × Bool)
  land : Nat
  ordered : Bool
  count : Bool
  last : Bool
  ctx : Bool
  final : Bool
  accepted : Bool := false
  judged : Bool := false
deriving DecidableEq, Repr

/-- The sluice matrix (R71 to R101). Log entry 17 (DESIGN CHOICE). -/
structure Slu where
  /-- the reel store 0x40_0000 to 0x5F_FFFF and 0x70_0000 to 0x7F_FFFF, by word address over 4 -/
  store : Tab Word32 := []
  next : SlotState := .empty
  ckHeader : Bool := false
  ckCode : Nat := 0
  ckRecord : Nat := 0
  ckStation : Nat := 0
  ckPlane : Nat := 0
  swap : SwapState := .none
  reason : Nat := 0
  drainEnd : Tick := 0
  /-- the end of the drain, from which the swap may take effect -/
  drained : Tick := 0
  tableMode : Bool := false
  affected : List Nat := []
  /-- stations darkened by a fence (R96, R97), until the splice after the fence is lifted -/
  dark : List Nat := []
  /-- ports (station * 16 + direction * 8 + plane) and planes that act as dark until a splice (R95, R97) -/
  darkPorts : List Nat := []
  darkPlanes : List Nat := []
  drainDiscard : Word32 := 0
  overrunCount : Word32 := 0
  frameDiscard : Word32 := 0
  /-- rings by station * 65536 + RING_BASE, or + 32768 + selector for feeds without a ring -/
  rings : Tab Ring := []
  /-- by station * 256 + selector -/
  feeds : Tab FeedSt := []
  lands : Tab LandSt := []
  /-- circuits lit in the current frame -/
  lit : List Circuit := []
  /-- receive ports whose preamble of the current frame has been judged -/
  judged : List Nat := []
  /-- the tick at which a feed failover's gap in the light of a field's sluice role ends, by field (R331) -/
  gapUntil : Tab Tick := []
  /-- flits on their way, by receiving station * 8 + plane -/
  air : Tab (List AirFlit) := []
  /-- lines landed so far of the frame that a port receives -/
  frameLanded : Tab Nat := []
  /-- sluice data flits sent and landed per station (R461) -/
  sent : Tab Word64 := []
  received : Tab Word64 := []
deriving DecidableEq, Repr

end Sys2Proof.Machine
end

