-- ==== Sys2Proof/Machine/State.lean ====
section
/-! DEFINITION. The state of one base module, its queue of waiting commands, the reasons a step can stop, and the state
right after reset. -/

namespace Sys2Proof.Machine

open Sys2Proof

/-- What fuses and assembly fix for one part (R1, R5, R24, R457). Log entry 16 (DESIGN CHOICE). -/
structure Part where
  variant : Variant := .s12
  stackGib : Nat := 48
  /-- sites that carry a spacer (R24) -/
  spacers : List Nat := []
  serial : Word64 := 0
  enterprise : Word32 := 0
  /-- digest of the maker anchor, in the factory fuses (R417) -/
  makerAnchor : Digest := 0
  /-- spare columns in use, by bank (R174) -/
  spareCols : Tab Byte := []
  /-- a fuse array passes its own check (R379) -/
  fusesOk : Bool := true
deriving DecidableEq, Repr

/-- The state of the base. -/
structure State where
  part : Part := {}
  /-- ticks of the 1 GHz domain since power-up; no correction step changes it (R39) -/
  now : Tick := 0
  pending : List Instr := []
  tc : Tc := {}
  slu : Slu := {}
  mrc : Mrc := {}
  mem : Mem := {}
  blk : Blk := {}
  mpd : Mpd := {}
  grp : Grp := {}
  mst : Mst := {}
  /-- the site interfaces, by site -/
  tsi : Tab SiteSt := []
  pod : Pod := {}
  foc : Foc := {}
  thm : Thm := {}
  gaf : Gaf := {}
  flt : Flt := {}
  pair : PairSt := {}
  role : RoleSt := {}
  boot : Boot := {}
  csp : Csp := {}
  tel : Tel := {}
  ident : IdSt := {}
  pins : Pins := {}
  /-- messages sent out of the module, newest first: the model's own record of its outputs -/
  out : List OutMsg := []
deriving DecidableEq, Repr

/-- The reasons for a fault of a step. No command of this block raises one: every command has an effect in the manual. -/
inductive Fault where
  /-- Raised by no command. Safe: it would stop a run. -/
  | none
deriving DecidableEq, Repr

/-- The reasons for a refusal. -/
inductive Refusal where
  /-- Raised by the dispatch for a command that has no meaning yet. Safe: it stops the run. -/
  | notModelled (mnemonic : String)
deriving DecidableEq, Repr

/-- The state right after reset. Log entries 16 (DESIGN CHOICE), 17 (DESIGN CHOICE). -/
def State.reset : State := {}

end Sys2Proof.Machine
end

