-- ==== Sys2Proof/Machine/Ops.lean ====
section
/-! DEFINITION. The operations that every family shares: sparse tables, saturating counters, lines and bytes, and the
one canonical form of memory. -/

namespace Sys2Proof.Machine

open Sys2Proof

/-- The answer of a meaning. -/
abbrev Out := Host.Outcome State Fault Refusal

/-- The entry of a table at a key; an absent key reads as the table's default. Log entry 10 (DESIGN CHOICE). -/
def tget {α : Type} (d : α) : Tab α → Nat → α
  | [], _ => d
  | (k, v) :: t, i => if i = k then v else if i < k then d else tget d t i

/-- Write an entry and keep the keys rising and the default unlisted. Log entry 10 (DESIGN CHOICE). -/
def tset {α : Type} [DecidableEq α] (d : α) : Tab α → Nat → α → Tab α
  | [], i, v => if v = d then [] else [(i, v)]
  | (k, w) :: t, i, v =>
    if i < k then (if v = d then (k, w) :: t else (i, v) :: (k, w) :: t)
    else if i = k then (if v = d then t else (i, v) :: t)
    else (k, w) :: tset d t i v

/-- Change an entry by a function. Log entry 10 (DESIGN CHOICE). -/
def tupd {α : Type} [DecidableEq α] (d : α) (t : Tab α) (i : Nat) (f : α → α) : Tab α :=
  tset d t i (f (tget d t i))

/-- Add to a 32-bit counter that saturates. -/
def sat32 (w : Word32) (n : Nat) : Word32 :=
  if w.toNat + n ≥ 2 ^ 32 then BitVec.allOnes 32 else w + BitVec.ofNat 32 n

/-- Add to a 16-bit counter that saturates. -/
def sat16 (w : Word16) (n : Nat) : Word16 :=
  if w.toNat + n ≥ 2 ^ 16 then BitVec.allOnes 16 else w + BitVec.ofNat 16 n

/-- Byte i of a line (R15). -/
def lineByte (l : Line) (i : Nat) : Byte := l.extractLsb' (8 * i) 8

/-- 64-bit word k of a line. -/
def lineWord (l : Line) (k : Nat) : Word64 := l.extractLsb' (64 * k) 64

/-- 32-bit lane k of a line. -/
def lineWord32 (l : Line) (k : Nat) : Word32 := l.extractLsb' (32 * k) 32

/-- A line from its 64 bytes. -/
def lineOfBytes (f : Nat → Byte) : Line :=
  (List.range 64).foldl (fun acc i => acc ||| ((f i).setWidth 512 <<< (8 * i))) 0

/-- A line from sixteen 32-bit lanes. -/
def lineOfWords32 (f : Nat → Word32) : Line :=
  (List.range 16).foldl (fun acc i => acc ||| ((f i).setWidth 512 <<< (32 * i))) 0

/-- The error line: 64 bytes of 0xFF. -/
def errorLine : Line := BitVec.allOnes 512

/-- The slack measurements of the last millisecond (R62). -/
def slackRecent (s : State) (k : Slack) : List SlackRec := k.recs.filter (fun r => decide (s.now < r.tick + 1000000))

/-- The smallest of some numbers that fits a field; 0 with none. -/
def fieldMin (bits : Nat) (xs : List Nat) : Nat := if xs.isEmpty then 0 else xs.foldl min (2 ^ bits - 1)

/-- STAGE_MIN of a station (R70). -/
def slackStage (s : State) (st : Nat) : Nat := fieldMin 8 ((slackRecent s (tget {} s.tc.slack st)).map (·.stage))

/-! ### Changing one part of the state -/

def modTc (f : Tc → Tc) (s : State) : State := { s with tc := f s.tc }
def modSlu (f : Slu → Slu) (s : State) : State := { s with slu := f s.slu }
def modMrc (f : Mrc → Mrc) (s : State) : State := { s with mrc := f s.mrc }
def modMem (f : Mem → Mem) (s : State) : State := { s with mem := f s.mem }
def modBlk (f : Blk → Blk) (s : State) : State := { s with blk := f s.blk }
def modMpd (f : Mpd → Mpd) (s : State) : State := { s with mpd := f s.mpd }
def modGrp (f : Grp → Grp) (s : State) : State := { s with grp := f s.grp }
def modMst (f : Mst → Mst) (s : State) : State := { s with mst := f s.mst }
def modPod (f : Pod → Pod) (s : State) : State := { s with pod := f s.pod }
def modFoc (f : Foc → Foc) (s : State) : State := { s with foc := f s.foc }
def modThm (f : Thm → Thm) (s : State) : State := { s with thm := f s.thm }
def modGaf (f : Gaf → Gaf) (s : State) : State := { s with gaf := f s.gaf }
def modFlt (f : Flt → Flt) (s : State) : State := { s with flt := f s.flt }
def modPair (f : PairSt → PairSt) (s : State) : State := { s with pair := f s.pair }
def modRole (f : RoleSt → RoleSt) (s : State) : State := { s with role := f s.role }
def modBoot (f : Boot → Boot) (s : State) : State := { s with boot := f s.boot }
def modCsp (f : Csp → Csp) (s : State) : State := { s with csp := f s.csp }
def modTel (f : Tel → Tel) (s : State) : State := { s with tel := f s.tel }
def modIdent (f : IdSt → IdSt) (s : State) : State := { s with ident := f s.ident }
def modPins (f : Pins → Pins) (s : State) : State := { s with pins := f s.pins }

/-- A site, and a change of one. -/
def siteOf (s : State) (n : Nat) : SiteSt := tget {} s.tsi n
/-- A site's regulator delivers VSITE: safe state holds every one off (R378). -/
def siteOn (s : State) (n : Nat) : Bool := !s.flt.safe && (siteOf s n).on
def modSite (n : Nat) (f : SiteSt → SiteSt) (s : State) : State := { s with tsi := tupd {} s.tsi n f }

/-- Send a message out of the module. Log entry 15 (DESIGN CHOICE). -/
def emit (m : OutMsg) (s : State) : State := { s with out := m :: s.out }

/-- The value in effect of a slate field that the base keeps as written (R453), by address and entry. -/
def effKey (a sel : Nat) : Nat := a * 4096 + sel
def effectOf (s : State) (a sel : Nat) : Nat := (tget 0 s.csp.effect (effKey a sel)).toNat
def setEffect (a sel v : Nat) (s : State) : State :=
  modCsp (fun c => { c with effect := tset 0 c.effect (effKey a sel) (BitVec.ofNat 32 v) }) s

/-! ### Memory cells -/

/-- What an unlisted address reads as: every start clears the pool and the millpond to zero (R135, R175).
Log entry 9 (DESIGN CHOICE). -/
def memDefault : Byte := 0

/-- One byte of memory. Log entry 9 (DESIGN CHOICE). -/
def cellGet : List Host.Cell → Nat → Byte
  | [], _ => memDefault
  | (k, v) :: t, a => if a = k then v else if a < k then memDefault else cellGet t a

/-- Write one byte and keep the canonical form. Log entry 9 (DESIGN CHOICE). -/
def cellSet : List Host.Cell → Nat → Byte → List Host.Cell
  | [], a, b => if b = memDefault then [] else [(a, b)]
  | (k, v) :: t, a, b =>
    if a < k then (if b = memDefault then (k, v) :: t else (a, b) :: (k, v) :: t)
    else if a = k then (if b = memDefault then t else (a, b) :: t)
    else (k, v) :: cellSet t a b

/-- The keys rise strictly from a bound and no entry holds the default. -/
def cellsFrom : Nat → List Host.Cell → Bool
  | _, [] => true
  | lo, (k, v) :: t => decide (lo ≤ k) && decide (v ≠ memDefault) && cellsFrom (k + 1) t

/-- The canonical form of memory. Log entry 9 (DESIGN CHOICE). -/
def Memory.wf (c : List Host.Cell) : Bool := cellsFrom 0 c

/-- A line of memory at a node offset that is a multiple of 64. -/
def lineGet (c : List Host.Cell) (a : Nat) : Line := lineOfBytes (fun i => cellGet c (a + i))

/-- Write bytes n − 1 down to 0 of a line where the mask selects them. -/
def lineSetN (a : Nat) (mask : Word64) (l : Line) : Nat → List Host.Cell → List Host.Cell
  | 0, c => c
  | n + 1, c =>
    lineSetN a mask l n (if mask.getLsbD n then cellSet c (a + n) (lineByte l n) else c)

/-- Write the masked bytes of a line (R129). -/
def lineSet (c : List Host.Cell) (a : Nat) (mask : Word64) (l : Line) : List Host.Cell := lineSetN a mask l 64 c

/-- The full mask. -/
def fullMask : Word64 := BitVec.allOnes 64

/-- The aligned 8-byte word at an offset. -/
def wordGet (c : List Host.Cell) (a : Nat) : Word64 :=
  (List.range 8).foldl (fun acc i => acc ||| ((cellGet c (a + i)).setWidth 64 <<< (8 * i))) 0

/-- Write bytes n − 1 down to 0 of a word. -/
def wordSetN (a : Nat) (w : Word64) : Nat → List Host.Cell → List Host.Cell
  | 0, c => c
  | n + 1, c => wordSetN a w n (cellSet c (a + n) (w.extractLsb' (8 * n) 8))

/-- Write the aligned 8-byte word at an offset. -/
def wordSet (c : List Host.Cell) (a : Nat) (w : Word64) : List Host.Cell := wordSetN a w 8 c

/-- Remove every cell of an address range. -/
def cellsClear (c : List Host.Cell) (lo hi : Nat) : List Host.Cell :=
  c.filter (fun p => decide (p.1 < lo) || decide (hi ≤ p.1))

/-- Removing a range of keys from a table. -/
def tclear {α : Type} (t : Tab α) (lo hi : Nat) : Tab α :=
  t.filter (fun p => decide (p.1 < lo) || decide (hi ≤ p.1))

/-! ### Bit fields of control words -/

/-- Field [lo + n − 1 : lo] of a word as a number. -/
def fld {w : Nat} (x : BitVec w) (lo n : Nat) : Nat := (x.toNat / 2 ^ lo) % 2 ^ n

/-- Bit i of a word. -/
def bit {w : Nat} (x : BitVec w) (i : Nat) : Bool := x.getLsbD i

/-- A number placed at bit lo of a 32-bit word, n bits wide. -/
def put (lo n v : Nat) : Word32 := BitVec.ofNat 32 ((v % 2 ^ n) * 2 ^ lo)

/-- A Boolean as a bit. -/
def b2n (b : Bool) : Nat := if b then 1 else 0

/-- A signed field of n bits as an integer. -/
def sgn (n v : Nat) : Int := if v % 2 ^ n < 2 ^ (n - 1) then (v % 2 ^ n : Nat) else ((v % 2 ^ n : Nat) : Int) - 2 ^ n

/-- An integer as an n-bit two's-complement number. -/
def uns (n : Nat) (v : Int) : Nat := (v % (2 ^ n : Nat)).toNat

/-- Clamp an integer into a range. -/
def clampI (lo hi v : Int) : Int := if v < lo then lo else if hi < v then hi else v

/-- Where the two copies of the warm-trim area lie in the flash, and their size (R337). -/
def warmA : Nat := 0x2900000
def warmB : Nat := 0x2980000
def warmSize : Nat := 0x80000

/-- A list in increasing order. -/
def insertI (x : Int) : List Int → List Int
  | [] => [x]
  | y :: t => if x ≤ y then x :: y :: t else y :: insertI x t
def sortI (xs : List Int) : List Int := xs.foldr insertI []

/-- The sum of the middle two of a list in increasing order, the middle one counted twice where there is one. -/
def middle2 (xs : List Int) : Int := xs.getD ((xs.length - 1) / 2) 0 + xs.getD (xs.length / 2) 0

/-- The median of a list: the middle one, or the mean of the middle two. -/
def medianI (xs : List Int) : Int := middle2 (sortI xs) / 2

end Sys2Proof.Machine
end

