-- ==== Sys2Proof/Machine/Float.lean ====
section
/-! DEFINITION. binary32 arithmetic with round to nearest even, subnormals kept and one NaN (R130, R196). -/

namespace Sys2Proof.Machine

open Sys2Proof

/-- The NaN that every operation writes (R130). Log entry 18 (DEDUCED). -/
def canonNaN : Word32 := 0x7FC00000

def f32Exp (x : Word32) : Nat := fld x 23 8
def f32Frac (x : Word32) : Nat := fld x 0 23
def f32Neg (x : Word32) : Bool := bit x 31
def f32IsNaN (x : Word32) : Bool := f32Exp x == 255 && f32Frac x != 0
def f32IsInf (x : Word32) : Bool := f32Exp x == 255 && f32Frac x == 0
def f32IsZero (x : Word32) : Bool := f32Exp x == 0 && f32Frac x == 0

/-- The magnitude of a finite number in units of 2^-149. -/
def f32Mag (x : Word32) : Nat :=
  if f32Exp x = 0 then f32Frac x else (2 ^ 23 + f32Frac x) * 2 ^ (f32Exp x - 1)

/-- A finite number in units of 2^-149. -/
def f32Int (x : Word32) : Int := if f32Neg x then - (f32Mag x : Int) else f32Mag x

/-- Sign, exponent and fraction put together. -/
def f32Pack (neg : Bool) (e f : Nat) : Word32 :=
  BitVec.ofNat 32 ((b2n neg) * 2 ^ 31 + e * 2 ^ 23 + f)

def f32Inf (neg : Bool) : Word32 := f32Pack neg 255 0
def f32Zero (neg : Bool) : Word32 := f32Pack neg 0 0

/-- Round a magnitude n / 2^k to an integer, nearest even; `sticky` says that a nonzero tail lies below n. -/
def roundShift (n k : Nat) (sticky : Bool) : Nat :=
  if k = 0 then n
  else
    let q := n / 2 ^ k
    let r := n % 2 ^ k
    let half := 2 ^ (k - 1)
    if r > half || (r == half && (sticky || q % 2 == 1)) then q + 1 else q

/-- The binary32 number nearest to ± n × 2^(e − 149), ties to even; `sticky` as above. -/
def f32Round (neg : Bool) (n : Nat) (e : Int) (sticky : Bool) : Word32 :=
  if n = 0 then f32Zero neg
  else
    -- the exponent of the last place kept: at least 0 in units of 2^-149
    let top : Int := (Nat.log2 n : Int) + e
    let lsb : Int := if top < 24 then 0 else top - 23
    let k : Int := lsb - e
    let q := if k ≤ 0 then n * 2 ^ (- k).toNat else roundShift n k.toNat sticky
    -- a carry out of the 24 bits moves to the next binade
    let q' := if q ≥ 2 ^ 24 then q / 2 else q
    let l' := if q ≥ 2 ^ 24 then lsb + 1 else lsb
    if q' < 2 ^ 23 then f32Pack neg 0 q'
    else if l' + 1 ≥ 255 then f32Inf neg
    else f32Pack neg (l' + 1).toNat (q' - 2 ^ 23)

/-- Addition. Log entry 18 (DEDUCED). -/
def f32Add (x y : Word32) : Word32 :=
  if f32IsNaN x || f32IsNaN y then canonNaN
  else if f32IsInf x then (if f32IsInf y && (f32Neg x != f32Neg y) then canonNaN else x)
  else if f32IsInf y then y
  else
    let s := f32Int x + f32Int y
    if s = 0 then f32Zero (f32Neg x && f32Neg y)
    else f32Round (decide (s < 0)) s.natAbs 0 false

/-- Multiplication. Log entry 18 (DEDUCED). -/
def f32Mul (x y : Word32) : Word32 :=
  let neg := f32Neg x != f32Neg y
  if f32IsNaN x || f32IsNaN y then canonNaN
  else if f32IsInf x || f32IsInf y then
    (if f32IsZero x || f32IsZero y then canonNaN else f32Inf neg)
  else f32Round neg (f32Mag x * f32Mag y) (-149) false

/-- Fused multiply and add with one rounding. Log entry 18 (DEDUCED). -/
def f32Fma (x y z : Word32) : Word32 :=
  let neg := f32Neg x != f32Neg y
  if f32IsNaN x || f32IsNaN y || f32IsNaN z then canonNaN
  else if f32IsInf x || f32IsInf y then
    (if f32IsZero x || f32IsZero y then canonNaN
     else if f32IsInf z && (f32Neg z != neg) then canonNaN else f32Inf neg)
  else if f32IsInf z then z
  else
    let p : Int := (f32Mag x * f32Mag y : Nat)
    let p := if neg then - p else p
    let s := p + f32Int z * 2 ^ 149
    if s = 0 then f32Zero (neg && f32Neg z)
    else f32Round (decide (s < 0)) s.natAbs (-149) false

def f32Negate (x : Word32) : Word32 := x ^^^ 0x80000000#32

/-- The order of the numbers, −0 below +0. -/
def f32Key (x : Word32) : Int := if f32Neg x then - ((fld x 0 31 : Nat) : Int) - 1 else (fld x 0 31 : Nat)

/-- IEEE 754-2019 maximum and minimum. -/
def f32Max (x y : Word32) : Word32 :=
  if f32IsNaN x || f32IsNaN y then canonNaN else if f32Key x < f32Key y then y else x

def f32Min (x y : Word32) : Word32 :=
  if f32IsNaN x || f32IsNaN y then canonNaN else if f32Key y < f32Key x then y else x

/-- An operation on the two halves of a word, independently. -/
def halves (f : Word32 → Word32 → Word32) (x y : Word64) : Word64 :=
  (f (x.extractLsb' 32 32) (y.extractLsb' 32 32)) ++ (f (x.extractLsb' 0 32) (y.extractLsb' 0 32))

/-- The value that an atomic writes, from the old word, its operand and its compare value (R130). -/
def atomicNew (op : MemOp) (old operand compare : Word64) : Word64 :=
  match op with
  | .addI64 => old + operand
  | .addF32x2 => halves f32Add old operand
  | .swap => operand
  | .cas => if old = compare then operand else old
  | .maxI64 => if old.slt operand then operand else old
  | .minI64 => if operand.slt old then operand else old
  | .maxF32x2 => halves f32Max old operand
  | .minF32x2 => halves f32Min old operand
  | .load => old
  | .store => old

end Sys2Proof.Machine
end

