-- ==== Sys2Proof/Config.lean ====
section
/-! DEFINITION. What the manual leaves open, as constants without a body: nothing can be proved about their values.
Each is named in an assumption row of notes/assumptions. -/

namespace Sys2Proof.Config

/-- The data of a line that the manual calls unspecified (R182), the n-th one asked for. Log entry 19 (DESIGN CHOICE). -/
opaque freeLine : Nat → BitVec 512

/-- A 64-bit value that the manual does not state, the n-th one asked for. Log entry 19 (DESIGN CHOICE). -/
opaque freeWord : Nat → BitVec 64

/-- CONFIG of a heartbeat, the CRC-16 of the mirrored set, the audience and the mode (R392): the manual does not give the
bytes it runs over. Log entry 19 (DESIGN CHOICE). -/
opaque pairCrc : List Nat → BitVec 16

/-- The first missing piece of an image of which every piece is held (R437, R442), from its number of pieces.
Log entry 19 (DESIGN CHOICE). -/
opaque noMissing : Nat → BitVec 13

/-- SEQUENCE of a copy of the boot header after a number of rewrites (R440): the manual does not say which copy a rewrite
writes first, nor where the count starts. Log entry 19 (DESIGN CHOICE). -/
opaque headerSeq : Nat → Nat → BitVec 32

/-- The shared exponent of an MX block that holds an infinity, from the exponent of its largest finite magnitude (R197 and
R215 give none). Log entry 19 (DESIGN CHOICE). -/
opaque mxInfExponent : Int → Int

/-- The bits of an element of an MX block whose scale byte is 0xFF (R197 gives the scale byte only), from the bits that
the element would have without the NaN. Log entry 19 (DESIGN CHOICE). -/
opaque mxNanElement : Nat → Nat

/-- The local members that another node counted in its partial (R213's mean divides by the members counted over the pod; no message
carries a node's count), by context, chunk and node. Log entry 19 (DESIGN CHOICE). -/
opaque remoteMembers : Nat → Nat → Nat → Nat

/-- SHA-384 of the firmware image of a version (R419): the image is outside the model. Log entry 24 (DESIGN CHOICE). -/
opaque firmwareDigest : BitVec 32 → BitVec 384

/-- SHA-384 of the script with a sequence number for a module (R419): the model holds a script's fields, not its bytes.
Log entry 24 (DESIGN CHOICE). -/
opaque scriptDigest : BitVec 32 → BitVec 64 → BitVec 384

/-- Avkeist's manufacturer identity under JEDEC JEP106 (R483), which the manual does not give. Log entry 19 (DESIGN CHOICE). -/
opaque makerJedec : BitVec 11

end Sys2Proof.Config
end

