-- ==== Sys2Proof/Machine/Number.lean ====
section
/-! DEFINITION. The number formats of the millstones: exact values, rounding into a format, packing in lines, and the
operations of fused programs that round an irrational result (R196 to R198, R215). -/

namespace Sys2Proof.Machine

open Sys2Proof

/-- An exact value: a NaN, an infinity, or ± n / d × 2^e. -/
inductive Val where
  | nan
  | inf (neg : Bool)
  | num (neg : Bool) (n d : Nat) (e : Int)
deriving DecidableEq, Repr

def Val.zero : Val := .num false 0 1 0

/-- The value of a binary32 number. -/
def valOfF32 (x : Word32) : Val :=
  if f32IsNaN x then .nan else if f32IsInf x then .inf (f32Neg x) else .num (f32Neg x) (f32Mag x) 1 (-149)

/-- The value of an integer times 2^e. -/
def valOfInt (i e : Int) : Val := .num (decide (i < 0)) i.natAbs 1 e

/-- The value divided by a count (R213). -/
def valDiv (v : Val) (k : Nat) : Val :=
  match v with
  | .num g n d e => .num g n (d * k) e
  | w => w

/-- Floor of the base-2 logarithm of n / d × 2^e, n and d not 0. -/
def valLog2 (n d : Nat) (e : Int) : Int :=
  let a := Nat.log2 n
  let b := Nat.log2 d
  let k : Int := (a : Int) - b
  -- n / d lies in [2^(k-1), 2^(k+1))
  let low := if b ≤ a then decide (d * 2 ^ (a - b) ≤ n) else decide (d ≤ n * 2 ^ (b - a))
  (if low then k else k - 1) + e

/-- Rounding: to nearest, ties to even, or stochastic with a 24-bit value (R198). -/
inductive Rounding where
  | even
  | stoch (r : Nat)
deriving DecidableEq, Repr

/-- The magnitude n / d × 2^e rounded to a whole number of units of 2^u. -/
def roundUnits (m : Rounding) (n d : Nat) (e u : Int) : Nat :=
  let num := if u ≤ e then n * 2 ^ (e - u).toNat else n
  let den := if u ≤ e then d else d * 2 ^ (u - e).toNat
  match m with
  | .even =>
    let q := num / den
    let r := num % den
    if 2 * r > den || (2 * r == den && q % 2 == 1) then q + 1 else q
  | .stoch r => (num * 2 ^ 24 + r * den) / (den * 2 ^ 24)

/-- A binary floating format: mantissa bits, exponent of the unit of its subnormals, its largest exponent field and the
largest fraction there, whether it has infinities, the bits of its NaN (none in the formats without one). -/
structure FloatFmt where
  width : Nat
  mb : Nat
  unit : Int
  emax : Nat
  fmax : Nat
  hasInf : Bool
  nanBits : Option Nat
deriving DecidableEq, Repr

def fmtFP32 : FloatFmt := { width := 32, mb := 23, unit := -149, emax := 254, fmax := 8388607, hasInf := true, nanBits := some 0x7FC00000 }
def fmtBF16 : FloatFmt := { width := 16, mb := 7, unit := -133, emax := 254, fmax := 127, hasInf := true, nanBits := some 0x7FC0 }
def fmtFP16 : FloatFmt := { width := 16, mb := 10, unit := -24, emax := 30, fmax := 1023, hasInf := true, nanBits := some 0x7E00 }
def fmtE4M3 : FloatFmt := { width := 8, mb := 3, unit := -9, emax := 15, fmax := 6, hasInf := false, nanBits := some 0x7F }
def fmtE5M2 : FloatFmt := { width := 8, mb := 2, unit := -16, emax := 30, fmax := 3, hasInf := true, nanBits := some 0x7F }
def fmtE3M2 : FloatFmt := { width := 6, mb := 2, unit := -4, emax := 7, fmax := 3, hasInf := false, nanBits := none }
def fmtE2M3 : FloatFmt := { width := 6, mb := 3, unit := -3, emax := 3, fmax := 7, hasInf := false, nanBits := none }
def fmtE2M1 : FloatFmt := { width := 4, mb := 1, unit := -1, emax := 3, fmax := 1, hasInf := false, nanBits := none }

/-- Bits of a number of a format; `sat` forces saturation, as the MX formats do (R197). The flag says that it saturated. -/
def encodeFloat (f : FloatFmt) (sat : Bool) (m : Rounding) (v : Val) : Nat × Bool :=
  let sbit (neg : Bool) : Nat := if neg then 2 ^ (f.width - 1) else 0
  let big := f.emax * 2 ^ f.mb + f.fmax
  let overflow (neg : Bool) : Nat × Bool :=
    if f.hasInf && !sat then (sbit neg + (f.emax + 1) * 2 ^ f.mb, false) else (sbit neg + big, true)
  match v with
  | .nan => (f.nanBits.getD 0, false)
  | .inf neg => overflow neg
  | .num neg n d e =>
    if n = 0 then (sbit neg, false)
    else
      let u := max (valLog2 n d e - f.mb) f.unit
      let q := roundUnits m n d e u
      let c := decide (2 ^ (f.mb + 1) ≤ q)
      let q' := if c then q / 2 else q
      let u' := if c then u + 1 else u
      let code := if q' < 2 ^ f.mb then q' else (u' - f.unit + 1).toNat * 2 ^ f.mb + (q' - 2 ^ f.mb)
      if code > big then overflow neg else (sbit neg + code, false)

/-- The value of a bit pattern of a format. -/
def decodeFloat (f : FloatFmt) (x : Nat) : Val :=
  let neg := decide (2 ^ (f.width - 1) ≤ x % 2 ^ f.width)
  let mag := x % 2 ^ (f.width - 1)
  let e := mag / 2 ^ f.mb
  let fr := mag % 2 ^ f.mb
  let big := f.emax * 2 ^ f.mb + f.fmax
  if mag > big then (if f.hasInf && mag == (f.emax + 1) * 2 ^ f.mb then .inf neg else .nan)
  else if e = 0 then .num neg fr 1 f.unit
  else .num neg (2 ^ f.mb + fr) 1 (f.unit + ((e : Int) - 1))

/-- A value rounded to an integer of n bits, saturated (R197); a NaN gives zero. Log entry 40 (DEDUCED). -/
def encodeInt (n : Nat) (m : Rounding) (v : Val) : Int × Bool :=
  let hi : Int := 2 ^ (n - 1) - 1
  let lo : Int := - 2 ^ (n - 1)
  match v with
  | .nan => (0, false)
  | .inf neg => (if neg then lo else hi, true)
  | .num neg a d e =>
    let q : Int := roundUnits m a d e 0
    let q := if neg then - q else q
    if q > hi then (hi, true) else if q < lo then (lo, true) else (q, false)

/-! ### The format codes (R196) -/

def isMX (c : Nat) : Bool := decide (5 ≤ c ∧ c ≤ 10)
def isIntFmt (c : Nat) : Bool := decide (11 ≤ c ∧ c ≤ 13)

/-- Element bits of a format code. -/
def fmtWidth : Nat → Nat
  | 0 => 32 | 1 => 16 | 2 => 16 | 3 => 8 | 4 => 8 | 5 => 8 | 6 => 8 | 7 => 6 | 8 => 6 | 9 => 4 | 10 => 8
  | 11 => 8 | 12 => 32 | 13 => 64 | 14 => 48 | 15 => 64 | _ => 32

/-- Element lines of a group, and all its lines. -/
def elemLines (c : Nat) : Nat := 4 * fmtWidth c
def groupLines (c : Nat) : Nat := elemLines c + (if isMX c then 1 else 0)

/-- The element format of a floating code. -/
def elemFmt : Nat → FloatFmt
  | 0 => fmtFP32 | 1 => fmtBF16 | 2 => fmtFP16 | 3 => fmtE4M3 | 4 => fmtE5M2 | 5 => fmtE4M3 | 6 => fmtE5M2
  | 7 => fmtE3M2 | 8 => fmtE2M3 | 9 => fmtE2M1 | _ => fmtFP32

/-- Exponent of the largest normal number of an MX element format (R215). -/
def mxEmax : Nat → Int
  | 5 => 8 | 6 => 15 | 7 => 4 | 8 => 2 | 9 => 2 | _ => 6

/-- Bits of element n of a group given as its lines. -/
def groupBits (c : Nat) (ls : List Line) (n : Nat) : Nat :=
  let w := fmtWidth c
  let per := 512 / w
  -- a width that does not divide 512 packs across lines of the group in 6-bit steps: 85 elements would leave two bits,
  -- so the group's element bits run on from line to line
  if 512 % w = 0 then fld (ls.getD (n / per) 0) (w * (n % per)) w
  else
    let lo := w * n
    let a := fld (ls.getD (lo / 512) 0) (lo % 512) (min w (512 - lo % 512))
    let taken := min w (512 - lo % 512)
    a + (if taken < w then fld (ls.getD (lo / 512 + 1) 0) 0 (w - taken) * 2 ^ taken else 0)

/-- The E8M0 scale byte of a block of a group (R196): byte b of the scale line. -/
def scaleByte (c : Nat) (ls : List Line) (b : Nat) : Nat := fld (ls.getD (elemLines c) 0) (8 * b) 8

/-- A value scaled by a power of two. -/
def valScale (v : Val) (k : Int) : Val :=
  match v with
  | .num g n d e => .num g n d (e + k)
  | w => w

/-- Element n of a group on entry (R197): an exact value of binary32 for the floating and MX formats, an integer for the
others. -/
def groupVal (c : Nat) (ls : List Line) (n : Nat) : Val :=
  let x := groupBits c ls n
  if isIntFmt c then valOfInt (sgn (fmtWidth c) x) 0
  else if c = 14 ∨ c = 15 then valOfInt (sgn (fmtWidth c) x) 0
  else if isMX c then
    let sb := scaleByte c ls (n / 32)
    if sb = 255 then .nan
    else
      let v := if c = 10 then valOfInt (sgn 8 x) (-6) else decodeFloat (elemFmt c) x
      match valScale v ((sb : Int) - 127) with
      | .num g m d e => if m ≠ 0 ∧ valLog2 m d e ≥ 128 then .inf g else .num g m d e
      | w => w
  else decodeFloat (elemFmt c) x

/-- A value rounded once to binary32, nearest even. -/
def f32Of (v : Val) : Word32 := BitVec.ofNat 32 (encodeFloat fmtFP32 false .even v).1

/-- A group's lines from the bits of its elements. Log entry 40 (DEDUCED). -/
def packBits (c : Nat) (xs : List Nat) : List Line :=
  let w := fmtWidth c
  let whole : Nat := (xs.zip (List.range xs.length)).foldl (fun acc p => acc + (p.1 % 2 ^ w) * 2 ^ (w * p.2)) 0
  (List.range (elemLines c)).map (fun i => BitVec.ofNat 512 (whole / 2 ^ (512 * i)))

/-- The shared exponent of a block of 32 values (R215). -/
def blockExponent (c : Nat) (vs : List Val) : Int :=
  let logs := vs.filterMap (fun v => match v with
    | .num _ n d e => if n = 0 then none else some (valLog2 n d e)
    | _ => none)
  let top : Int := logs.foldl max (-150)
  let e := if vs.any (fun v => match v with | .inf _ => true | _ => false) then Config.mxInfExponent top
    else if logs.isEmpty then -127 else top - mxEmax c
  clampI (-127) 127 e

/-- A block quantised to an MX format (R196, R197, R215): its element bits, its scale byte, and whether one saturated.
Log entry 40 (DEDUCED). -/
def quantBlock (c : Nat) (ms : List Rounding) (vs : List Val) : List Nat × Nat × Bool :=
  let e := blockExponent c vs
  let nan := vs.contains .nan
  let q := (vs.zip ms).map (fun p =>
    let x := valScale p.1 (-e)
    if c = 10 then
      let r := encodeInt 8 p.2 (valScale x 6)
      (uns 8 r.1, r.2)
    else encodeFloat (elemFmt c) true p.2 x)
  let bits := q.map (·.1)
  (if nan then bits.map Config.mxNanElement else bits, if nan then 255 else (e + 127).toNat, q.any (·.2))

/-- Consecutive blocks of 32. -/
def blocks32 {α : Type} : Nat → List α → List (List α)
  | 0, _ => []
  | n + 1, l => l.take 32 :: blocks32 n (l.drop 32)

/-- A group of 2,048 values converted into a format with one rounding each: its lines, and whether one saturated (R196,
R197). Log entry 40 (DEDUCED). -/
def packGroup (c : Nat) (ms : List Rounding) (vs : List Val) : List Line × Bool :=
  if isMX c then
    let bs := ((blocks32 64 vs).zip (blocks32 64 ms)).map (fun p => quantBlock c p.2 p.1)
    let scale : Nat := (bs.zip (List.range bs.length)).foldl (fun acc p => acc + p.1.2.1 * 2 ^ (8 * p.2)) 0
    (packBits c ((bs.map (·.1)).flatten) ++ [BitVec.ofNat 512 scale], bs.any (fun b => b.2.2))
  else if isIntFmt c || decide (c = 14 ∨ c = 15) then
    let q := (vs.zip ms).map (fun p => encodeInt (fmtWidth c) p.2 p.1)
    (packBits c (q.map (fun r => uns (fmtWidth c) r.1)), q.any (·.2))
  else
    let q := (vs.zip ms).map (fun p => encodeFloat (elemFmt c) false p.2 p.1)
    (packBits c (q.map (·.1)), q.any (·.2))

/-- A block of values rounded to a format and held as values, and whether one saturated (R197, R215: CVT, SRND, MXQ).
Log entry 40 (DEDUCED). -/
def convBlock (c : Nat) (ms : List Rounding) (vs : List Val) : List Val × Bool :=
  if isMX c then
    let (bits, sb, sat) := quantBlock c ms vs
    (bits.map (fun x =>
      if sb = 255 then .nan
      else valScale (if c = 10 then valOfInt (sgn 8 x) (-6) else decodeFloat (elemFmt c) x) ((sb : Int) - 127)), sat)
  else if isIntFmt c then
    let q := (vs.zip ms).map (fun p => encodeInt (fmtWidth c) p.2 p.1)
    (q.map (fun r => valOfInt r.1 0), q.any (·.2))
  else
    let q := (vs.zip ms).map (fun p => encodeFloat (elemFmt c) false p.2 p.1)
    (q.map (fun r => decodeFloat (elemFmt c) r.1), q.any (·.2))

/-! ### Stochastic rounding (R198) -/

/-- The 24-bit value of the context's generator for an element. -/
def stochR (seed : Word64) (run index : Nat) : Nat :=
  let z := seed ^^^ (BitVec.ofNat 64 run <<< 40) ^^^ BitVec.ofNat 64 index
  let z := (z ^^^ (z >>> 30)) * 0xBF58476D1CE4E5B9#64
  let z := (z ^^^ (z >>> 27)) * 0x94D049BB133111EB#64
  let z := z ^^^ (z >>> 31)
  fld z 40 24

/-! ### Operations that round an irrational result (R215) -/

/-- Integer square root, one bit at a time from bit k − 1 down. -/
def isqrtBits (n : Nat) : Nat → Nat → Nat
  | 0, r => r
  | k + 1, r =>
    let t := r + 2 ^ k
    isqrtBits n k (if t * t ≤ n then t else r)

def isqrt (n : Nat) : Nat := isqrtBits n (Nat.log2 n / 2 + 1) 0

/-- 1 / A, rounded once. -/
def f32Recip (x : Word32) : Word32 :=
  if f32IsNaN x then canonNaN
  else if f32IsInf x then f32Zero (f32Neg x)
  else if f32IsZero x then f32Inf (f32Neg x)
  else f32Of (.num (f32Neg x) 1 (f32Mag x) 149)

/-- 1 / √A: the integer root with the tail as a last odd bit, rounded once. Log entry 18 (DEDUCED). -/
def f32Rsqrt (x : Word32) : Word32 :=
  if f32IsNaN x then canonNaN
  else if f32IsZero x then f32Inf (f32Neg x)
  else if f32Neg x then canonNaN
  else if f32IsInf x then f32Zero false
  else
    -- A = m × 2^-149, so 1/√A = √(2^149 / m) = √(2^(149 + 351) / m) / 2^(351/2); 500 is even
    let m := f32Mag x * 2
    let q := 2 ^ 500 / m
    let r := isqrt q
    let exact := decide (r * r * m = 2 ^ 500)
    f32Of (.num false (2 * r + (if exact then 0 else 1)) 1 (150 / 2 - 250 - 1))

/-- Bits of 2^f for the fraction f / 2^n: the product of the roots of two of its set bits, to 256 places. -/
def exp2Frac (n f : Nat) : Nat → Nat → Nat → Nat
  | 0, _, acc => acc
  | k + 1, root, acc =>
    -- root = 2^(2^-(i)) for i = n − k
    let bitSet := f / 2 ^ k % 2 == 1
    let acc := if bitSet then acc * root / 2 ^ 256 else acc
    exp2Frac n f k (isqrt (root * 2 ^ 256)) acc

/-- 2^A. Log entry 18 (DEDUCED). -/
def f32Exp2 (x : Word32) : Word32 :=
  if f32IsNaN x then canonNaN
  else if f32IsInf x then (if f32Neg x then f32Zero false else f32Inf false)
  else
    let v := f32Int x
    let i := v / 2 ^ 149
    let f := (v % 2 ^ 149).toNat
    if f = 0 then (if i > 200 then f32Inf false else f32Of (.num false 1 1 i))
    else if i > 200 then f32Inf false
    else if i < -300 then f32Of (.num false 1 1 (-300))
    else
      let p := exp2Frac 149 f 149 (isqrt (2 * 2 ^ 512)) (2 ^ 256)
      f32Of (.num false (2 * p + 1) 1 (i - 257))

/-- Binary places of log₂ y, y in [1, 2) with 512 places: n of them. -/
def log2Bits : Nat → Nat → Nat → Nat
  | 0, _, acc => acc
  | n + 1, y, acc =>
    let z := y * y / 2 ^ 512
    if z ≥ 2 ^ 513 then log2Bits n (z / 2) (2 * acc + 1) else log2Bits n z (2 * acc)

/-- log₂ A. Log entry 18 (DEDUCED). -/
def f32Log2 (x : Word32) : Word32 :=
  if f32IsNaN x then canonNaN
  else if f32IsZero x then f32Inf true
  else if f32Neg x then canonNaN
  else if f32IsInf x then f32Inf false
  else
    let m := f32Mag x
    let k := Nat.log2 m
    let i : Int := (k : Int) - 149
    if m = 2 ^ k then f32Of (valOfInt i 0)
    else
      let f := log2Bits 200 (m * 2 ^ (512 - k)) 0
      -- i + f / 2^200 with a tail below
      f32Of (valOfInt ((i * 2 ^ 200 + (f : Int)) * 2 + 1) (-201))

/-- |A|. -/
def f32Abs (x : Word32) : Word32 := if f32IsNaN x then canonNaN else x &&& 0x7FFFFFFF#32

/-- −A, and A − B. -/
def f32Neg' (x : Word32) : Word32 := if f32IsNaN x then canonNaN else f32Negate x
def f32Sub (x y : Word32) : Word32 := if f32IsNaN y then canonNaN else f32Add x (f32Negate y)

/-- B where A ≥ +0, else C; −0 and NaN select C. -/
def f32Select (a b c : Word32) : Word32 :=
  let r := if !f32IsNaN a && !f32Neg a then b else c
  if f32IsNaN r then canonNaN else r

end Sys2Proof.Machine
end

