-- ==== Sys2Proof/Machine/Topology.lean ====
section
/-! DEFINITION. The station grid and what each variant carries (R5 to R7, R24 to R29), the units' identifiers (R380),
and the millrace allocation (R102). -/

namespace Sys2Proof.Machine

open Sys2Proof

/-- The stations in index order: kind and number (R25). -/
def grid : List (StationKind × Nat) :=
  [(.ms, 0), (.ss, 0), (.xs, 0), (.xs, 2), (.ss, 3), (.ms, 6)] ++
  [(.ms, 1), (.ws, 0), (.ss, 1), (.ss, 4), (.ws, 1), (.ms, 7)] ++
  [(.ms, 2), (.ss, 2), (.xs, 1), (.xs, 3), (.ss, 5), (.ms, 8)] ++
  [(.ms, 3), (.ss, 6), (.xs, 4), (.xs, 6), (.ss, 9), (.ms, 9)] ++
  [(.ms, 4), (.ws, 2), (.ss, 7), (.ss, 10), (.ws, 3), (.ms, 10)] ++
  [(.ms, 5), (.ss, 8), (.xs, 5), (.xs, 7), (.ss, 11), (.ms, 11)]

/-- Kind and number of a station. -/
def kindOf (st : Nat) : StationKind × Nat := grid.getD st (.ms, 0)

/-- Row 0 to 5 (A to F) and column 0 to 5 of a station. -/
def rowOf (st : Nat) : Nat := st / 6
def colOf (st : Nat) : Nat := st % 6

/-- The field of a station: NW 0, NE 1, SW 2, SE 3 (R27). -/
def fieldOf (st : Nat) : Nat := (if rowOf st ≥ 3 then 2 else 0) + (if colOf st ≥ 3 then 1 else 0)

/-- The station of a kind and number. -/
def stationOf (k : StationKind) (n : Nat) : Nat := grid.findIdx (fun p => p == (k, n))

def ssOf (n : Nat) : Nat := stationOf .ss n
def msOf (n : Nat) : Nat := stationOf .ms n
def xsOf (n : Nat) : Nat := stationOf .xs n
def wsOf (n : Nat) : Nat := stationOf .ws n

/-- Fields of a variant (R6). -/
def fieldsOf : Variant → List Nat
  | .s3 => [0]
  | .s6 => [0, 1]
  | .s12 => [0, 1, 2, 3]

/-- The variant carries a station (R6). Log entry 16 (DESIGN CHOICE). -/
def hasStation (v : Variant) (st : Nat) : Bool := decide (st < 36) && (fieldsOf v).contains (fieldOf st)

def hasSite (v : Variant) (n : Nat) : Bool := decide (n < 12) && hasStation v (ssOf n)
def hasMs (v : Variant) (n : Nat) : Bool := decide (n < 12) && hasStation v (msOf n)
def hasXs (v : Variant) (n : Nat) : Bool := decide (n < 8) && hasStation v (xsOf n)
def hasWs (v : Variant) (n : Nat) : Bool := decide (n < 4) && hasStation v (wsOf n)
def hasLink (v : Variant) (l : Nat) : Bool := decide (l < 48) && hasXs v (l / 6)
def hasGrip (v : Variant) (g : Nat) : Bool := decide (g < 16) && (fieldsOf v).contains (g / 4)
def hasBank (v : Variant) (b : Nat) : Bool := decide (b < 32) && (fieldsOf v).contains (b / 8)

/-- Flow contexts and collective contexts of a variant (R5). -/
def flowCount (v : Variant) : Nat := 1024 * (fieldsOf v).length
def ctxCount (v : Variant) : Nat := 128 * (fieldsOf v).length

/-- Every station, and the memory stations in increasing number, that the variant carries. -/
def stations (v : Variant) : List Nat := (List.range 36).filter (hasStation v)
def memStations (v : Variant) : List Nat := (List.range 12).filter (hasMs v)

/-- A site that the variant carries and that holds no spacer (R24). Log entry 16 (DESIGN CHOICE). -/
def sitePresent (p : Part) (n : Nat) : Bool := hasSite p.variant n && !p.spacers.contains n

/-! ### Unit identifiers (R380) -/

def uLane (site module lane : Nat) : UnitId := ⟨0, site + module * 16 + lane * 1024⟩
def uModule (site module : Nat) : UnitId := ⟨1, site + module * 16⟩
def uSite (site : Nat) : UnitId := ⟨2, site⟩
def uLambda (st l : Nat) : UnitId := ⟨3, st + l * 64⟩
def uPair (src dst : Nat) : UnitId := ⟨4, src + dst * 64⟩
def uPort (st plane dir : Nat) : UnitId := ⟨5, st + plane * 64 + dir * 512⟩
def uPlane (p : Nat) : UnitId := ⟨6, p⟩
def uStation (st : Nat) : UnitId := ⟨7, st⟩
def uMem (m : Nat) : UnitId := ⟨8, m⟩
def uPodLane (link lane : Nat) : UnitId := ⟨9, link + lane * 64⟩
def uLink (link : Nat) : UnitId := ⟨10, link⟩
def uMill (w : Nat) : UnitId := ⟨11, w⟩
def uGrip (g : Nat) : UnitId := ⟨12, g⟩
def uBank (b : Nat) : UnitId := ⟨13, b⟩
def uFeed (f : Nat) : UnitId := ⟨14, f⟩
def uElem (e : Nat) : UnitId := ⟨15, e * 4⟩
def uSensor (k : Nat) : UnitId := ⟨15, 1 + k * 4⟩
def uCore (c : Nat) : UnitId := ⟨15, 2 + c * 4⟩

/-- The 32-bit identifier. -/
def unitWord (u : UnitId) : Word32 := BitVec.ofNat 32 (u.index * 16 + u.type)

/-- The unit that a 32-bit word names. -/
def unitOfWord (w : Word32) : UnitId := ⟨fld w 0 4, fld w 4 24⟩

/-! ### Millrace wavelengths (R102) -/

/-- Wavelengths of an ordered pair by the kinds of its stations (R102). -/
def lambdaCount : StationKind → StationKind → Nat
  | .ss, .ms => 6 | .ss, _ => 1
  | .ms, .ss => 6 | .ms, _ => 1
  | .xs, .ss => 2 | .xs, .ms => 4 | .xs, .xs => 1 | .xs, .ws => 4
  | .ws, .ss => 3 | .ws, .ms => 2 | .ws, .xs => 4 | .ws, .ws => 1

/-- Wavelengths assigned to a pair; none to the own station (R490). Log entry 11 (PRESUMED). -/
def assigned (src dst : Nat) : Nat :=
  if src = dst then 0 else lambdaCount (kindOf src).1 (kindOf dst).1

/-- First transmit wavelength of the pair's own: the pairs of a station take its wavelengths by increasing destination.
Log entry 11 (PRESUMED). -/
def lambdaBase (src dst : Nat) : Nat := ((List.range dst).map (assigned src)).sum

/-- The pair's own wavelengths. Log entry 11 (PRESUMED). -/
def lambdasOf (src dst : Nat) : List Nat := (List.range (assigned src dst)).map (· + lambdaBase src dst)

/-- The destination of an assigned wavelength. -/
def lambdaDest (src l : Nat) : Option Nat := (List.range 36).find? (fun d => (lambdasOf src d).contains l)

/-- Key of an ordered pair, and of a pair and class. -/
def pairKey (src dst : Nat) : Nat := src * 36 + dst
def pcKey (src dst cls : Nat) : Nat := pairKey src dst * 8 + cls

end Sys2Proof.Machine
end

