-- ==== Sys2Proof/Machine/Reel.lean ====
section
/-! DEFINITION. The formats of the reel store: header, frame records and entries, feed and landing tables, switch-state
records (R73 to R78, R81, R89 to R92). -/

namespace Sys2Proof.Machine

open Sys2Proof

/-- The 32-bit word of the reel store at a control-space address. -/
def storeWord (s : State) (a : Nat) : Word32 := tget 0 s.slu.store (a / 4)

def storeByte (s : State) (a : Nat) : Nat := fld (storeWord s a) (8 * (a % 4)) 8
def storeHalf (s : State) (a : Nat) : Nat := fld (storeWord s a) (8 * (a % 4)) 16
def store64 (s : State) (a : Nat) : Nat := (storeWord s a).toNat + 2 ^ 32 * (storeWord s (a + 4)).toNat

/-- Record area and tables area of a slot (R89). -/
def recBase (slot : Nat) : Nat := 0x400000 + 0x100000 * slot
def tabBase (slot : Nat) : Nat := 0x700000 + 0x80000 * slot

/-! ### Header (R90) -/

def hdrFormat (s : State) (slot : Nat) : Nat := storeHalf s (tabBase slot)
def hdrReelId (s : State) (slot : Nat) : Nat := storeHalf s (tabBase slot + 2)
def hdrLog2 (s : State) (slot : Nat) : Nat := storeByte s (tabBase slot + 4)
def hdrCount (s : State) (slot : Nat) : Nat := storeHalf s (tabBase slot + 8)
def hdrBytes (s : State) (slot : Nat) : Nat := (storeWord s (tabBase slot + 12)).toNat
def hdrFeatures (s : State) (slot n : Nat) : Word32 := storeWord s (tabBase slot + 16 + 4 * n)

/-- Frame length of a slot's reel in ticks (R47). -/
def frameLen (s : State) (slot : Nat) : Nat := 2 ^ hdrLog2 s slot

/-- Line capacity of a plane port in one frame (R48): four lines for each data flit that ends before the boundary. -/
def lineCapacity (len : Nat) : Nat := 4 * ((7 * (len - 8)) / 9 - 2)

/-! ### Frame records (R91) -/

/-- A frame record: its address, PRESENT, FRAMES, ENTRIES and the bytes that are zero. -/
structure Rec where
  addr : Nat
  present : Nat
  frames : Nat
  entries : Nat
  zero : Nat
deriving DecidableEq, Repr

/-- Bits set among the lowest n of a number. -/
def popcount (x : Nat) : Nat → Nat
  | 0 => 0
  | n + 1 => popcount x n + x / 2 ^ n % 2

def readRec (s : State) (a : Nat) : Rec :=
  let w (k : Nat) : Nat := (storeWord s (a + 4 * k)).toNat
  { addr := a
    present := w 0 + 2 ^ 32 * w 1 + 2 ^ 64 * w 2 + 2 ^ 96 * w 3 + 2 ^ 128 * w 4 + 2 ^ 160 * w 5 + 2 ^ 192 * (w 6 % 2 ^ 24)
    frames := w 6 / 2 ^ 24
    entries := w 7 % 2 ^ 16
    zero := w 7 / 2 ^ 16 }

/-- The records of a slot, n of them from an address on. -/
def readRecs (s : State) : Nat → Nat → List Rec
  | 0, _ => []
  | n + 1, a =>
    let r := readRec s a
    r :: readRecs s n (a + 32 + 8 * popcount r.present 216)

def records (s : State) (slot : Nat) : List Rec := readRecs s (min (hdrCount s slot) 1024) (recBase slot)

/-- Frames in one pass (R51). -/
def passFrames (s : State) (slot : Nat) : Nat := ((records s slot).map (·.frames)).sum

/-- The record of frame k of a pass, and the frame's place within it. -/
def locate : List Rec → Nat → Option (Rec × Nat)
  | [], _ => none
  | r :: t, k => if k < r.frames then some (r, k) else locate t (k - r.frames)

/-! ### Frame entries (R74 to R76) -/

/-- A frame entry; an absent one is idle with LAND 0 and no flags (R91). -/
structure Entry where
  v : Bool := true
  kind : Nat := 0
  dest : Nat := 0
  mask : Nat := 0
  feed : Nat := 0
  land : Nat := 0
  lines : Nat := 0
  rep : Nat := 0
  flags : Nat := 0
deriving DecidableEq, Repr

def decodeEntry (w : Nat) : Entry :=
  { v := w / 2 ^ 63 % 2 == 1, kind := w / 2 ^ 60 % 8, dest := w / 2 ^ 54 % 64, mask := w / 2 ^ 48 % 64
    feed := w / 2 ^ 40 % 256, land := w / 2 ^ 32 % 256, lines := w / 2 ^ 16 % 65536, rep := w / 2 ^ 8 % 256, flags := w % 256 }

def Entry.ordered (e : Entry) : Bool := e.flags % 2 == 1
def Entry.count (e : Entry) : Bool := e.flags / 2 % 2 == 1
def Entry.last (e : Entry) : Bool := e.flags / 4 % 2 == 1
def Entry.ctx (e : Entry) : Bool := e.flags / 8 % 2 == 1

/-- Kinds: 0 idle, 1 unicast, 2 row multicast, 3 column multicast, 4 retake, 5 dark (R74). -/
def Entry.sends (e : Entry) : Bool := e.kind == 1 || e.kind == 2 || e.kind == 3 || e.kind == 4

/-- The entry that a record stores for a station and plane. -/
def recEntry (s : State) (r : Rec) (st plane : Nat) : Entry :=
  let b := 6 * st + plane
  if r.present / 2 ^ b % 2 = 1 then decodeEntry (store64 s (r.addr + 32 + 8 * popcount r.present b)) else {}

/-- The transmit half acts in the first 1 + REPEAT frames of its record and as idle after (R77). -/
def actingEntry (s : State) (r : Rec) (j st plane : Nat) : Entry :=
  let e := recEntry s r st plane
  if j ≤ e.rep || e.kind == 5 then e else { e with kind := 0, dest := 0, mask := 0, feed := 0, lines := 0, flags := e.flags % 4 }

/-- The entry that acts at a station and plane in frame k of a slot's reel. -/
def entryAt (s : State) (slot k st plane : Nat) : Entry :=
  match locate (records s slot) k with
  | some (r, j) => actingEntry s r j st plane
  | none => {}

/-- The stations that an entry sends to (R73, R74). -/
def targetsOf (e : Entry) : List Nat :=
  if e.kind = 1 ∨ e.kind = 4 then [e.dest]
  else if e.kind = 2 then ((List.range 6).filter (fun c => e.mask / 2 ^ c % 2 == 1)).map (fun c => 6 * e.dest + c)
  else if e.kind = 3 then ((List.range 6).filter (fun r => e.mask / 2 ^ r % 2 == 1)).map (fun r => 6 * r + e.dest)
  else []

/-! ### Feed and landing tables (R78, R81) -/

/-- A feed table entry. -/
structure FeedDef where
  kind : Nat := 0
  ringBase : Nat := 0
  ringLines : Nat := 0
  readers : Nat := 0
  stream : Nat := 0
  flow : Nat := 0
  baseLine : Nat := 0
  length : Nat := 0
  stride : Nat := 0
  context : Nat := 0
  raw : Nat := 0
deriving DecidableEq, Repr

def store128 (s : State) (a : Nat) : Nat := store64 s a + 2 ^ 64 * store64 s (a + 8)

def feedDef (s : State) (slot st sel : Nat) : FeedDef :=
  let x := store128 s (tabBase slot + 0x1000 + 0x1000 * st + 16 * sel)
  let f (lo n : Nat) : Nat := x / 2 ^ lo % 2 ^ n
  { kind := f 124 4, ringBase := f 0 14, ringLines := f 14 15, readers := f 29 3, stream := f 32 12, flow := f 44 12
    baseLine := f 0 42, length := f 42 32, stride := f 74 24, context := f 0 9, raw := x }

/-- A landing table entry. -/
structure LandDef where
  kind : Nat := 0
  counter : Nat := 0
  ringBase : Nat := 0
  ringLines : Nat := 0
  stream : Nat := 0
  flow : Nat := 0
  baseLine : Nat := 0
  length : Nat := 0
  stride : Nat := 0
  millLine : Nat := 0
  lines : Nat := 0
  context : Nat := 0
  member : Nat := 0
  raw : Nat := 0
deriving DecidableEq, Repr

def landDef (s : State) (slot st sel : Nat) : LandDef :=
  let x := store128 s (tabBase slot + 0x25000 + 0x1000 * st + 16 * sel)
  let f (lo n : Nat) : Nat := x / 2 ^ lo % 2 ^ n
  { kind := f 124 4, counter := f 96 24, ringBase := f 0 21, ringLines := f 21 21, stream := f 42 12, flow := f 54 12
    baseLine := f 0 42, length := f 42 32, stride := f 74 22, millLine := f 0 21, lines := f 21 21
    context := f 0 9, member := f 9 13, raw := x }

/-- The switch-state code of a stage output (R92): 0 row stage r output c, 1 column stage c output r. -/
def switchCode (s : State) (slot recIdx plane kind a b : Nat) : Nat :=
  let base := tabBase slot + 0x49000 + 216 * recIdx + 36 * plane + 18 * kind
  let nib := 6 * a + b
  storeByte s (base + nib / 2) / 16 ^ (nib % 2) % 16

/-! ### Landings and flits in the air -/

def landKey (st sel : Nat) : Nat := st * 256 + sel
def landSt (s : State) (st sel : Nat) : LandSt := tget {} s.slu.lands (landKey st sel)
def modLand (st sel : Nat) (f : LandSt → LandSt) (s : State) : State :=
  modSlu (fun u => { u with lands := tupd {} u.lands (landKey st sel) f }) s

/-- LAST returns the pointer of a memory write range or a millpond range to its first line, whatever became of the frame's
lines (R83). -/
def landReturn (st sel : Nat) (s : State) : State :=
  let k := (landDef s s.tc.activeSlot st sel).kind
  if k = 2 ∨ k = 3 then modLand st sel (fun y => { y with ptr := 0 }) s else s

/-- Discard flits on their way to a receive port (R50, R95, R331). -/
def dropAir (st plane : Nat) (gone : AirFlit → Bool) (s : State) : State :=
  let key := st * 8 + plane
  let fs := (tget [] s.slu.air key).filter gone
  let s := modSlu (fun u => { u with air := tupd [] u.air key (·.filter (fun f => !gone f)) }) s
  fs.foldl (fun s f => if f.last && f.final then landReturn st f.land s else s) s

/-- The port-frames of a field's sluice role that overlap a gap in its light are discarded at their receivers and counted
(R331): those of frame `no`, unless nothing of them is left in the air. -/
def gapDrop (field no : Nat) (s : State) : State :=
  (s.slu.lit.filter (fun c => fieldOf c.src == field)).foldl (fun s c =>
    c.targets.foldl (fun s t =>
      let key := t * 8 + c.plane
      let mine (f : AirFlit) : Bool := f.src == c.src && f.frame == no
      if (tget [] s.slu.air key).any mine then
        modSlu (fun u => { u with
          judged := if u.judged.contains key then u.judged else key :: u.judged
          frameLanded := tset 0 u.frameLanded key 0
          frameDiscard := u.frameDiscard + 1 }) (dropAir t c.plane mine s)
      else s) s) s

/-! ### Rings (R79) -/

def feedKey (st sel : Nat) : Nat := st * 256 + sel

/-- The output space of a context at a millstone station (R219). -/
def outKey (st ctx : Nat) : Nat := st * 65536 + 49152 + ctx

/-- The ring of a feed: shared by RING_BASE for streams, by the context for millstone output (R219), the feed's own
otherwise. -/
def ringKey (st sel : Nat) (d : FeedDef) : Nat :=
  if d.kind = 1 ∨ d.kind = 4 ∨ d.kind = 5 then st * 65536 + d.ringBase
  else if d.kind = 3 then outKey st d.context
  else st * 65536 + 32768 + sel

/-- Place lines in a ring where it has room; what does not fit waits with its producer (R79). -/
def ringPush (key cap : Nat) (x : Line × Bool) (s : State) : Option State :=
  let r := tget {} s.slu.rings key
  if r.lines.length < cap then
    some (modSlu (fun u => { u with rings := tset {} u.rings key { r with lines := r.lines ++ [x] } }) s)
  else none

/-- A reel is active: running, or stopping at the next splice (R54). -/
def reelActive (s : State) : Bool := s.tc.reel == .running || s.tc.reel == .stopping

/-- Admission to the feeds of a station is stopped by a drain, from the arm to the splice (R100). -/
def admissionStopped (s : State) (st : Nat) : Bool :=
  s.slu.tableMode && (s.slu.swap == .draining || s.slu.swap == .waiting) && s.slu.affected.contains st

/-- The feeds of the active reel of a kind at a station, by stream identifier. -/
def streamFeed (s : State) (kind st stream : Nat) : Option Nat :=
  if reelActive s then
    (List.range 256).find? (fun sel =>
      let d := feedDef s s.tc.activeSlot st sel
      d.kind == kind && d.stream == stream)
  else none

end Sys2Proof.Machine
end

