-- ==== Sys2Proof/Machine/Ctx.lean ====
section
/-! DEFINITION. Context records and programs as the reel store's window holds them (R199 to R202, R207, R209, R214). -/

namespace Sys2Proof.Machine

open Sys2Proof

def ctxAt (s : State) (c : Nat) : MstCtx := tget {} s.mst.ctxs c
def modCtx (c : Nat) (f : MstCtx → MstCtx) (s : State) : State :=
  modMst (fun m => { m with ctxs := tupd {} m.ctxs c f }) s

/-- Address of byte k of a context's record. -/
def ctxBase (c : Nat) : Nat := 0x680000 + 256 * c

/-- A stream descriptor: base, format, valid. -/
structure StreamDef where
  base : Word64
  fmt : Nat
  valid : Bool
deriving DecidableEq, Repr

/-- A context record (R199). -/
structure CtxRec where
  op : Nat
  operator : Nat
  reduction : Nat
  stoch : Bool
  late : Nat
  inFmt : Nat
  wireFmt : Nat
  outFmt : Nat
  mill : Nat
  pin : Bool
  sched : Bool
  mem : Bool
  prog : Option Nat
  sites : List Nat
  nodes : Nat
  self : Nat
  root : Nat
  lateFrames : Nat
  groups : Nat
  chunks : Nat
  job : Nat
  inBuf : Nat
  inLines : Nat
  acc : Nat
  accLines : Nat
  nodeTable : Nat
  statusLine : Nat
  resultBase : Word64
  counter : Word64
  seed : Word64
  ins : List StreamDef
  outs : List StreamDef
  ks : List Word32
deriving DecidableEq, Repr

def ctxByte (s : State) (c k : Nat) : Nat := storeByte s (ctxBase c + k)
def ctxHalf (s : State) (c k : Nat) : Nat := storeHalf s (ctxBase c + k)
def ctxWord (s : State) (c k : Nat) : Nat := (storeWord s (ctxBase c + k)).toNat
def ctxDouble (s : State) (c k : Nat) : Word64 := BitVec.ofNat 64 (store64 s (ctxBase c + k))

def streamAt (s : State) (c k : Nat) : StreamDef :=
  { base := ctxDouble s c k, fmt := ctxByte s c (k + 8) % 16, valid := ctxByte s c (k + 9) % 2 == 1 }

def recOf (s : State) (c : Nat) : CtxRec :=
  { op := ctxByte s c 0 % 16
    operator := ctxByte s c 1 % 4
    reduction := ctxByte s c 1 / 4 % 4
    stoch := ctxByte s c 1 / 16 % 2 == 1
    late := ctxByte s c 1 / 32 % 4
    inFmt := ctxByte s c 2
    wireFmt := ctxByte s c 3
    outFmt := ctxByte s c 4
    mill := ctxByte s c 5 % 4
    pin := ctxByte s c 5 / 4 % 2 == 1
    sched := ctxByte s c 5 / 8 % 2 == 1
    mem := ctxByte s c 5 / 16 % 2 == 1
    prog := if ctxHalf s c 6 / 32768 = 1 then some (ctxHalf s c 6 % 1024) else none
    sites := (List.range 12).filter (fun n => ctxHalf s c 8 / 2 ^ n % 2 == 1)
    nodes := ctxHalf s c 10 % 8192
    self := ctxHalf s c 12 % 4096
    root := ctxHalf s c 14 % 8192
    lateFrames := ctxHalf s c 16
    groups := ctxHalf s c 18
    chunks := ctxWord s c 20 % 2 ^ 24
    job := ctxByte s c 24
    inBuf := ctxWord s c 32 % 2 ^ 21
    inLines := ctxWord s c 36 % 2 ^ 22
    acc := ctxWord s c 40 % 2 ^ 21
    accLines := ctxWord s c 44 % 2 ^ 22
    nodeTable := ctxWord s c 48 % 2 ^ 21
    statusLine := ctxWord s c 52 % 2 ^ 21
    resultBase := ctxDouble s c 56
    counter := ctxDouble s c 64
    seed := ctxDouble s c 72
    ins := (List.range 4).map (fun k => streamAt s c (96 + 16 * k))
    outs := (List.range 4).map (fun k => streamAt s c (160 + 16 * k))
    ks := (List.range 8).map (fun k => storeWord s (ctxBase c + 224 + 4 * k)) }

/-- The bits of the record that must be zero are zero (R199). -/
def ctxZeroOk (s : State) (c : Nat) : Bool :=
  let z (k : Nat) : Bool := ctxByte s c k == 0
  decide (ctxByte s c 0 < 16 ∧ ctxByte s c 1 < 128 ∧ ctxByte s c 5 < 32 ∧ ctxHalf s c 6 / 1024 % 32 = 0 ∧ ctxHalf s c 8 < 4096
    ∧ ctxHalf s c 10 < 8192 ∧ ctxHalf s c 12 < 4096 ∧ ctxHalf s c 14 < 8192 ∧ ctxWord s c 20 < 2 ^ 24)
  && decide (ctxWord s c 32 < 2 ^ 21 ∧ ctxWord s c 36 < 2 ^ 22 ∧ ctxWord s c 40 < 2 ^ 21 ∧ ctxWord s c 44 < 2 ^ 22
    ∧ ctxWord s c 48 < 2 ^ 21 ∧ ctxWord s c 52 < 2 ^ 21)
  && (List.range 7).all (fun k => z (25 + k)) && (List.range 16).all (fun k => z (80 + k))
  && (List.range 8).all (fun q => let b := 96 + 16 * q
      decide (ctxByte s c (b + 8) < 16 ∧ ctxByte s c (b + 9) < 2 ∧ ctxByte s c b % 64 = 0) && (List.range 6).all (fun k => z (b + 10 + k)))

/-- Operations that combine (R200). -/
def CtxRec.combines (r : CtxRec) : Bool := r.op == 0 || r.op == 1 || r.op == 4

/-- Picture lock in effect: the fraction bits, 31 or 47 (R209). -/
def CtxRec.lock (r : CtxRec) : Option Nat :=
  if r.combines && !isIntFmt r.inFmt && (r.operator == 0 || r.operator == 3) then
    (if r.reduction = 1 then some 31 else if r.reduction = 2 then some 47 else none)
  else none

/-- Groups in the result of a chunk: all-to-all staging holds a part for each destination (R201). -/
def CtxRec.outGroups (r : CtxRec) : Nat := if r.op = 5 then r.groups * r.sites.length else r.groups

/-- Lines of one member's contribution to a chunk (R204). -/
def CtxRec.perChunk (r : CtxRec) : Nat := r.groups * groupLines r.inFmt

/-- Lines of an accumulator slot (R213). -/
def CtxRec.slotLines (r : CtxRec) : Nat :=
  r.groups * (match r.lock with
    | some 31 => 192
    | some _ => 256
    | none => if isIntFmt r.inFmt then 256 else 128)

/-- The owner node of a chunk (R226). -/
def CtxRec.owner (r : CtxRec) (no : Nat) : Nat := no % max 1 r.chunks % max 1 r.nodes

/-- The node that ROOT lies at: a local index means this node (R203). -/
def CtxRec.rootNode (r : CtxRec) : Nat := if r.root < 12 then r.self else r.root - 12

/-- Local members that contribute to a chunk (R200). -/
def CtxRec.locals (r : CtxRec) (no : Nat) : List Nat :=
  let c := no % max 1 r.chunks
  if r.op = 2 then (if c % max 1 r.nodes = r.self then [c / max 1 r.nodes % max 1 r.sites.length] else [])
  else if r.op = 3 then (if r.root < 12 then [r.root] else if r.root - 12 = r.self then [0] else [])
  else List.range r.sites.length

/-- Node members whose partial the owner combines (R226). -/
def CtxRec.partners (r : CtxRec) (no : Nat) : List Nat :=
  if r.nodes ≤ 1 then []
  else if r.op = 2 then [r.owner no]
  else if r.op = 3 then [r.rootNode]
  else List.range r.nodes

/-- A node's result: this node, with the node index, outputs the result of a chunk (R200, R226). -/
def CtxRec.delivers (r : CtxRec) (no : Nat) : Bool :=
  if r.nodes ≤ 1 then true
  else if r.op = 1 then r.owner no == r.self
  else if r.op = 4 then r.rootNode == r.self
  else true

/-- The other nodes that the owner sends the result to (R226). -/
def CtxRec.receivers (r : CtxRec) (no : Nat) : List Nat :=
  if r.nodes ≤ 1 || decide (r.op = 1) then []
  else (if r.op = 4 then [r.rootNode] else List.range r.nodes).filter (· ≠ r.owner no)

/-- Contexts that are not free. -/
def liveCtxs (s : State) : List Nat := s.mst.ctxs.filterMap (fun p => if p.2.st != 0 then some p.1 else none)

/-- COL slots that one context reserves for a pair of stations (R207). -/
def colOfCtx (r : CtxRec) (w src dst : Nat) : Nat :=
  if dst = wsOf w then
    (match kindOf src with
     | (.ss, n) => if r.sites.contains n then 8 else 0
     | (.xs, _) => if r.nodes > 1 then 32 else 0
     | _ => 0)
  else if src = wsOf w ∧ (kindOf dst).1 = .xs ∧ r.nodes > 1 then 32 else 0

/-- COL slots that a pair holds: the sum over the contexts not free (R106, R207). -/
def colReserved (s : State) (src dst : Nat) : Nat :=
  ((liveCtxs s).map (fun c => colOfCtx (recOf s c) (ctxAt s c).mill src dst)).sum

/-! ### Programs (R214 to R216) -/

/-- An operation of a program. -/
structure POp where
  op : Nat
  dst : Nat
  a : Nat
  b : Nat
  c : Nat
  fmt : Nat
  target : Nat
  low : Nat
deriving DecidableEq, Repr

def decodePOp (w : Nat) : POp :=
  { op := w / 2 ^ 58 % 64, dst := w / 2 ^ 54 % 16, a := w / 2 ^ 48 % 64, b := w / 2 ^ 42 % 64, c := w / 2 ^ 36 % 64
    fmt := w / 2 ^ 32 % 16, target := w / 2 ^ 29 % 8, low := w % 2 ^ 29 }

def progBase (p : Nat) : Nat := 0x600000 + 512 * p

def progOps (s : State) (p : Nat) : List POp :=
  (List.range (min 32 (storeHalf s (progBase p)))).map (fun k => decodePOp (store64 s (progBase p + 64 + 8 * k)))

/-- Operands that an opcode reads: 1, 2 or 3 of A, B and C. -/
def arity (op : Nat) : Nat :=
  if op = 1 ∨ op = 2 ∨ op = 3 ∨ op = 5 ∨ op = 6 then 2
  else if op = 4 ∨ op = 0x0D ∨ op = 0x0E then 3
  else 1

def POp.operands (o : POp) : List Nat := [o.a, o.b, o.c].take (arity o.op)

def operandCode (x : Nat) : Bool := decide (x ≤ 20 ∨ (24 ≤ x ∧ x ≤ 31))

/-- A program's operations may use no reserved code and leave unused fields zero (R216). -/
def popOk (o : POp) : Bool :=
  decide (1 ≤ o.op ∧ o.op ≤ 0x12) && operandCode o.a && operandCode o.b && operandCode o.c && decide (o.target ≤ 4)
    && decide (o.fmt ≤ 13) && decide (o.low = 0)
    && (decide (2 ≤ arity o.op) || o.b == 0) && (decide (3 ≤ arity o.op) || o.c == 0)
    && (o.op != 0x12 || o.dst == 0)
    && (o.op == 0x0F || o.op == 0x10 || o.op == 0x11 || o.fmt == 0)
    && (o.op == 0x12 || o.target == 0)
    && (o.op != 0x11 || isMX o.fmt)

/-- No register is read before it is written (R216). -/
def readsOk : List Nat → List POp → Bool
  | _, [] => true
  | w, o :: t =>
    o.operands.all (fun x => decide (16 ≤ x) || w.contains x) && readsOk (if o.op = 0x12 then w else o.dst :: w) t

/-- The program checks of R216 for a context. -/
def progOk (s : State) (r : CtxRec) : Bool :=
  match r.prog with
  | none => true
  | some p =>
    let n := storeHalf s (progBase p)
    let ops := progOps s p
    let stores := (ops.filter (fun o => o.op == 0x12)).map (·.target)
    decide (1 ≤ n ∧ n ≤ 32) && ops.all popOk && readsOk [] ops
      && (List.range 62).all (fun k => storeByte s (progBase p + 2 + k) == 0)
      && (List.range 448).all (fun k => decide (k < 8 * n) || storeByte s (progBase p + 64 + k) == 0)
      && ops.all (fun o => o.operands.all (fun x => !(decide (17 ≤ x ∧ x ≤ 20)) || ((r.ins.getD (x - 17) ⟨0, 0, false⟩).valid)))
      && stores.all (fun t => decide (4 ≤ t) || ((r.outs.getD t ⟨0, 0, false⟩).valid))
      && decide (stores.eraseDups.length = stores.length) && r.op != 5

end Sys2Proof.Machine
end

