-- ==== Sys2Proof/Machine/Raise.lean ====
section
/-! DEFINITION. Raising a fault message (R373 to R379): its code, severity and source block, the rate rules, conditions
that stand, safe state, and what the fence map says of a unit. -/

namespace Sys2Proof.Machine

open Sys2Proof

/-- The code of a kind (R379). -/
def kindCode : FaultKind → Nat
  | .partnerProtocol => 0x00 | .laneDrop => 0x01 | .linkDown => 0x02 | .linkMiswired => 0x03
  | .linkQuarantine => 0x04 | .fwdRouteError => 0x05 | .siteProtocol => 0x06 | .tsiLaneRepaired => 0x07
  | .moduleNarrowed => 0x08 | .tsiModuleOff => 0x09 | .tsiRateFallback => 0x0A | .tsiTrainFail => 0x0B
  | .tsiClockFail => 0x0C | .tsiSidebandLost => 0x0D | .millraceLambdaOut => 0x0E | .millracePairDown => 0x0F
  | .preambleLost => 0x10 | .frameSourceMismatch => 0x11 | .landingOverrun => 0x12 | .drainDiscard => 0x13
  | .focusLost => 0x20 | .focusRange => 0x21 | .wrongLock => 0x22 | .headroomLow => 0x23 | .headroomHigh => 0x24
  | .feedLow => 0x25 | .feedLost => 0x26 | .laserModule => 0x27
  | .remoteTimeout => 0x40 | .targetFenced => 0x41 | .lineUncorrectable => 0x42 | .memLaneRepaired => 0x43
  | .memChannelFail => 0x44 | .memRateFallback => 0x45 | .bankCorrected => 0x46 | .bankUncorrectable => 0x47
  | .copyQueueOverrun => 0x48 | .gripError => 0x49
  | .millstoneSlow => 0x60 | .millstoneError => 0x61 | .collectiveIncomplete => 0x62
  | .thermalWarning => 0x80 | .thermalThrottle => 0x81 | .thermalTrip => 0x82 | .coolantStop => 0x83
  | .lowTemp => 0x84 | .sensorFail => 0x85 | .sensorDisagree => 0x86 | .stackHot => 0x87
  | .stackOvertemp => 0x88 | .siteHot => 0x89 | .siteOvertemp => 0x8A | .siteOverLimit => 0x8B
  | .slewViolation => 0x8C | .budgetShort => 0x8D | .budgetExpired => 0x8E | .pmbusFail => 0x8F
  | .siteOvervolt => 0x90 | .siteUndervolt => 0x91 | .siteOvercurrent => 0x92 | .tsiPowerBumpFail => 0x93
  | .slackShort => 0x94 | .slackMiss => 0x95
  | .refclkLost => 0xA0 | .timecodeAlign => 0xA1 | .timeTransferLost => 0xA2 | .clapperLost => 0xA3
  | .unitFenced => 0xA4 | .unitRestored => 0xA5 | .recoveryLimit => 0xA6 | .voteScrubbed => 0xA7
  | .voteLost => 0xA8 | .crewFault => 0xA9 | .continuityMismatch => 0xAA | .scriptInvalid => 0xAB
  | .firmwareFallback => 0xAC | .updateRejected => 0xAD | .auditArchiveFail => 0xAE
  | .pairLinkDown => 0xC0 | .pairHeartbeatLost => 0xC1 | .pairClaim => 0xC2 | .pairYield => 0xC3
  | .pairSolo => 0xC4 | .pairSplit => 0xC5 | .pairResyncDone => 0xC6 | .pairConfigMismatch => 0xC7
  | .fuseError => 0xE0 | .factoryMode => 0xE1

/-- The severity of a kind (R379): 0 corrected, 1 degraded, 2 fenced, 3 fatal. -/
def kindSev : FaultKind → Nat
  | .partnerProtocol | .tsiLaneRepaired | .drainDiscard | .memLaneRepaired | .bankCorrected | .thermalWarning
  | .unitRestored | .voteScrubbed | .updateRejected | .pairResyncDone | .factoryMode => 0
  | .linkDown | .tsiTrainFail | .tsiClockFail | .tsiSidebandLost | .millracePairDown | .feedLost | .memChannelFail
  | .gripError | .millstoneError | .lowTemp | .stackOvertemp | .siteOvertemp | .siteOvervolt | .tsiPowerBumpFail
  | .unitFenced | .recoveryLimit | .crewFault | .pairSplit => 2
  | .thermalTrip | .coolantStop | .refclkLost | .timecodeAlign | .voteLost | .scriptInvalid | .fuseError => 3
  | _ => 1

/-- A message of a kind from a block and its unit (R373, R375). -/
def mkMsg (s : State) (k : FaultKind) (block inst addr : Nat) : FaultMsg :=
  { block := BitVec.ofNat 4 block
    inst := BitVec.ofNat 6 inst
    kind := BitVec.ofNat 8 (kindCode k)
    sev := BitVec.ofNat 2 (kindSev k)
    addr := BitVec.ofNat 48 addr
    time := s.tc.timecode.setWidth 56 }

/-- The 128 bits of a message (R373). -/
def faultWord (m : FaultMsg) : BitVec 128 :=
  BitVec.ofNat 128 (m.block.toNat * 2 ^ 124 + m.inst.toNat * 2 ^ 118 + m.kind.toNat * 2 ^ 110 + m.sev.toNat * 2 ^ 108
    + (b2n m.first + 2 * b2n m.suppressed + 4 * b2n m.cleared + 8 * b2n m.injected) * 2 ^ 104
    + m.addr.toNat * 2 ^ 56 + m.time.toNat)

/-- Put a message on the handshake fault network (R373). Log entry 5 (DESIGN CHOICE). -/
def sendFault (m : FaultMsg) (s : State) : State := { s with flt := { s.flt with net := s.flt.net ++ [m] } }

/-- Safe state (R378, R377): the sites' resets low, LS_EN low and FAULT_N low. The rest of what R378 stops, the meanings
read from the SAFE bit. Log entry 6 (DEDUCED). -/
def enterSafe (s : State) : State :=
  { s with
    flt := { s.flt with safe := true, fatal := true }
    pins := { s.pins with siteRstHigh := [], lsEn := false, faultN := false } }

/-- Raise a message; a fatal one brings safe state at once (R378). Log entries 5 (DESIGN CHOICE), 6 (DEDUCED). -/
def raise (k : FaultKind) (block inst addr : Nat) (s : State) : State :=
  let t := sendFault (mkMsg s k block inst addr) s
  if kindSev k = 3 then enterSafe t else t

/-- The key of a rate rule: the kind and the place it counts at. -/
def rateKey (k : FaultKind) (place : Nat) : Nat := kindCode k + 256 * place

/-- Raise a message under a rate rule of at most one in `gap` ticks for a place; SUPPRESSED tells of those kept back since
(R374). -/
def raiseRated (k : FaultKind) (place gap block inst addr : Nat) (s : State) : State :=
  let r := tget {} s.flt.rate (rateKey k place)
  let due := match r.last with
    | none => true
    | some t => decide (t + gap ≤ s.now)
  if due then
    let m := { mkMsg s k block inst addr with suppressed := r.kept }
    sendFault m { s with flt := { s.flt with
      rate := tset {} s.flt.rate (rateKey k place) { last := some s.now, kept := false } } }
  else
    { s with flt := { s.flt with rate := tset {} s.flt.rate (rateKey k place) { r with kept := true } } }

/-- The message of a condition that stands at a place (R374): its address, once it was raised. -/
def standAddr (s : State) (k : FaultKind) (inst : Nat) : Option Nat :=
  (s.flt.standing.find? (fun p => p.1 == k && p.2.1 == inst)).map (fun p => p.2.2)

/-- A condition that stands begins (R374): one message, and none while it stands. -/
def standBegin (k : FaultKind) (block inst addr : Nat) (s : State) : State :=
  match standAddr s k inst with
  | some _ => s
  | none => raise k block inst addr { s with flt := { s.flt with standing := (k, inst, addr) :: s.flt.standing } }

/-- A condition that stood ends (R374): a second message of the same kind and address, with CLEARED and severity 0. -/
def standEnd (k : FaultKind) (block inst : Nat) (s : State) : State :=
  match standAddr s k inst with
  | some addr =>
    sendFault { mkMsg s k block inst addr with sev := 0, cleared := true }
      { s with flt := { s.flt with standing := s.flt.standing.filter (fun p => !(p.1 == k && p.2.1 == inst)) } }
  | none => s

/-- A condition of this kind stands anywhere. -/
def stands (s : State) (k : FaultKind) : Bool := s.flt.standing.any (fun p => p.1 == k)

/-! ### The fence map -/

/-- The entry of a unit. -/
def fenceOf (s : State) (u : UnitId) : Option FenceEntry :=
  (s.flt.map.filterMap (fun p => p.2)).find? (fun e => e.unit == u)

/-- A unit is in the fence map in any state (R381). -/
def fenced (s : State) (u : UnitId) : Bool := (fenceOf s u).isSome

def stationFenced (s : State) (st : Nat) : Bool := fenced s (uStation st)

/-- A site is fenced, alone or by its station (R382). -/
def siteFenced (s : State) (n : Nat) : Bool := fenced s (uSite n) || stationFenced s (ssOf n)

/-- A memory station is fenced, alone or by its station (R382). -/
def memFenced (s : State) (m : Nat) : Bool := fenced s (uMem m) || stationFenced s (msOf m)

def linkFenced (s : State) (l : Nat) : Bool := fenced s (uLink l) || stationFenced s (xsOf (l / 6))
def millFenced (s : State) (w : Nat) : Bool := fenced s (uMill w) || stationFenced s (wsOf w)
def gripFenced (s : State) (g : Nat) : Bool := fenced s (uGrip g)
def bankFenced (s : State) (b : Nat) : Bool := fenced s (uBank b)

/-- A site that carries a spacer keeps its station dark (R24). -/
def spacerDark (s : State) (st : Nat) : Bool := match kindOf st with
  | (.ss, n) => s.part.spacers.contains n
  | _ => false

/-- A station of the variant whose wavelengths carry traffic (R6, R24). -/
def stationLit (s : State) (st : Nat) : Bool := hasStation s.part.variant st && !spacerDark s st

/-- A site is in the variant, carries a die and is not fenced. -/
def siteUp (s : State) (n : Nat) : Bool := sitePresent s.part n && !siteFenced s n

end Sys2Proof.Machine
end

