-- ==== Sys2Proof/Machine/FocusBase.lean ====
section
/-! DEFINITION. Which tunable elements exist, which feed lights them, and which serve (R315, R319 to R321, R326). -/

namespace Sys2Proof.Machine

open Sys2Proof

/-- Feed roles: 0 sluice, 1 millrace, 2 pod, 3 standby. The default role of a feed is that of its position (R315). -/
def feedOf (s : State) (k : Nat) : Feed := tget {} s.foc.feeds k
def modFeedSt (k : Nat) (f : Feed → Feed) (s : State) : State := modFoc (fun x => { x with feeds := tupd {} x.feeds k f }) s

/-- The feed that plays a role in a field, when it is not lost. -/
def roleFeed (s : State) (field role : Nat) : Option Nat :=
  ((List.range 4).map (· + 4 * field)).find? (fun k => (feedOf s k).role == role && !(feedOf s k).lost)

/-- What an element is (R321). -/
inductive ElemKind where
  | sluMod (plane line : Nat)
  | sluDrop (plane line : Nat)
  | mrMod (lambda : Nat)
  | mrDrop (source lambda : Nat)
  | spareWatch (source : Nat)
  | cell (stage : Nat)
  | podMod (link lane : Nat)
  | podDrop (link lane : Nat)
  | marker (feed line : Nat)
deriving DecidableEq, Repr

/-- Rows and columns of a variant, and the first one it carries. -/
def gridRows : Variant → Nat
  | .s12 => 6
  | _ => 3
def gridCols : Variant → Nat
  | .s3 => 3
  | _ => 6

/-- Stages hosted at a station, row stages first: their planes (R320). -/
def rowStages (v : Variant) (st : Nat) : List Nat :=
  (List.range 6).filter (fun p => decide (p % gridCols v = colOf st))
def colStages (v : Variant) (st : Nat) : List Nat :=
  (List.range 6).filter (fun p => decide (p % gridRows v = rowOf st))

/-- Cells of a stage of a size (R320). -/
def cellsOf (size : Nat) : Nat := if size = 6 then 21 else 3

/-- The i-th millrace drop ring of a station: assigned rings by source and wavelength, then spare-watch rings. -/
def dropElem (st i : Nat) : Option ElemKind :=
  let per := (List.range 36).map (fun x => (lambdasOf x st).map (fun l => ElemKind.mrDrop x l))
  let watch := ((List.range 36).filter (· ≠ st)).map (fun x => ElemKind.spareWatch x)
  (per.flatten ++ watch)[i]?

/-- What local index i of a focus unit is (R321). -/
def elemKind (v : Variant) (e : Nat) : Option ElemKind :=
  let st := e / 1024
  let i := e % 1024
  if !hasStation v st then none
  else if i < 96 then some (.sluMod (i / 16) (i % 16))
  else if 128 ≤ i ∧ i < 224 then some (.sluDrop ((i - 128) / 16) (i % 16))
  else if 256 ≤ i ∧ i < 352 then some (.mrMod (i - 256))
  else if 384 ≤ i ∧ i < 542 then
    (match dropElem st (i - 384) with
     | some (.mrDrop x l) => if hasStation v x then some (.mrDrop x l) else none
     | some (.spareWatch x) => if hasStation v x then some (.spareWatch x) else none
     | _ => none)
  else if 576 ≤ i ∧ i < 618 then
    let rows := (rowStages v st).map (fun p => List.replicate (cellsOf (gridCols v)) p)
    let cols := (colStages v st).map (fun p => List.replicate (cellsOf (gridRows v)) p)
    ((rows.flatten ++ cols.flatten)[i - 576]?).map .cell
  else
    match kindOf st with
    | (.xs, x) =>
      if 640 ≤ i ∧ i < 736 then some (.podMod (6 * x + (i - 640) / 16) (i % 16))
      else if 768 ≤ i ∧ i < 864 then some (.podDrop (6 * x + (i - 768) / 16) (i % 16))
      else if 896 ≤ i ∧ i < 928 then some (.marker (4 * (x / 2) + 2 * (x % 2) + (i - 896) / 16) (i % 16))
      else none
    | _ => none

/-- The field and the role whose feed lights an element of a station (R315): a modulator's own, and for a millrace drop ring
that of its source. A sluice or pod drop ring takes light from many. -/
def elemRole (st : Nat) : ElemKind → Option (Nat × Nat)
  | .sluMod _ _ => some (fieldOf st, 0)
  | .mrMod _ => some (fieldOf st, 1)
  | .podMod _ _ => some (fieldOf st, 2)
  | .mrDrop x _ | .spareWatch x => some (fieldOf x, 1)
  | _ => none

/-- An element is dark for want of feed light (R339). -/
def elemDark (s : State) (st : Nat) (k : ElemKind) : Bool :=
  match k with
  | .marker f _ => (feedOf s f).lost && !(feedOf s f).lit
  | _ => match elemRole st k with
    | some (f, r) => (roleFeed s f r).isNone
    | none => false

def elemOf (s : State) (e : Nat) : Elem := tget {} s.foc.elems e
def modElem (e : Nat) (f : Elem → Elem) (s : State) : State := modFoc (fun x => { x with elems := tupd {} x.elems e f }) s

/-- The state of an element (R339): 0 absent, 1 acquiring, 2 locked, 3 out of service, 4 dark for want of feed light. -/
def elemState (s : State) (e : Nat) : Nat :=
  match elemKind s.part.variant e with
  | none => 0
  | some k =>
    let x := elemOf s e
    if x.st = 3 then 3
    else if elemDark s (e / 1024) k then 4
    else if s.foc.focused then x.st else 1

/-- An element is in service. -/
def elemOk (s : State) (e : Nat) : Bool := elemState s e == 2

/-- The focus unit that hosts a feed's markers (R320). -/
def feedUnit (k : Nat) : Nat := xsOf (2 * (k / 4) + (k % 4) / 2)

end Sys2Proof.Machine
end

