-- ==== Sys2Proof/Machine/SidebandWords.lean ====
section
/-! DEFINITION. The words of the sideband (R271 to R273): the table of messages, their payload, the 24-bit words, and the word
that the base's next window carries. -/

namespace Sys2Proof.Machine

open Sys2Proof

/-- A row of the table of messages: TYPE, the continuation words, and the place and width of each payload field. -/
structure SbRow where
  type : Nat
  more : Nat
  fields : List (Nat × Nat)
deriving DecidableEq, Repr

/-- The messages that the base sends (R273). -/
def sbRow : SbKind → SbRow
  | .hello => { type := 0x01, more := 0, fields := [(0, 8)] }
  | .cap => { type := 0x03, more := 2, fields := [(0, 5), (5, 32)] }
  | .capEnd => { type := 0x04, more := 0, fields := [(0, 5)] }
  | .agreed => { type := 0x05, more := 2, fields := [(0, 5), (5, 32), (37, 1)] }
  | .agreedEnd => { type := 0x06, more := 0, fields := [(0, 1)] }
  | .resend => { type := 0x07, more := 0, fields := [] }
  | .regRsp => { type := 0x0A, more := 2, fields := [(0, 8), (8, 1), (9, 32)] }
  | .repair => { type := 0x20, more := 0, fields := [(0, 6), (6, 6), (12, 1)] }
  | .repairDone => { type := 0x21, more := 0, fields := [(0, 6), (6, 6), (12, 1)] }
  | .narrow => { type := 0x22, more := 0, fields := [(0, 6), (6, 1)] }
  | .moduleOff => { type := 0x23, more := 1, fields := [(0, 6), (6, 12)] }
  | .pause => { type := 0x24, more := 1, fields := [(0, 2), (2, 1), (3, 4), (7, 20)] }
  | .powerLimit => { type := 0x25, more := 0, fields := [(0, 10)] }
  | .pace => { type := 0x26, more := 0, fields := [(0, 10)] }
  | .slewGrant => { type := 0x27, more := 1, fields := [(0, 10), (10, 10), (20, 4)] }
  | .fenceNotice => { type := 0x28, more := 0, fields := [(0, 4)] }

/-- The payload P of a message: each field at its place, every other bit zero (R273). -/
def sbPayload (m : SbMsg) : Nat := (((sbRow m.kind).fields.zip m.vals).map (fun f => f.2 % 2 ^ f.1.2 * 2 ^ f.1.1)).sum

/-- Even parity over bits 23 to 1 of a word whose bit 0 is zero (R271). -/
def sbParity (w : BitVec 24) : BitVec 24 := (List.range 24).foldl (fun p i => if w.getLsbD i then p ^^^ 1 else p) 0

/-- A word with V set: FIRST, its 21 bits of data, and its parity (R271). -/
def sbWord (first : Bool) (data : Nat) : BitVec 24 :=
  let w := BitVec.ofNat 24 (2 ^ 23 + 2 ^ 22 * first.toNat + 2 * (data % 2 ^ 21))
  w ||| sbParity w

/-- The words of a message: the first with TYPE, MORE and P[12:0], then 21 bits of P each (R271, R272). -/
def sbWords (m : SbMsg) : List (BitVec 24) :=
  let r := sbRow m.kind
  let p := sbPayload m
  sbWord true (r.type * 2 ^ 15 + r.more * 2 ^ 13 + p % 2 ^ 13) ::
    (List.range r.more).map (fun k => sbWord false (p / 2 ^ (21 * (k + 1) - 8)))

/-- Ticks of a frame of 50 SB_CLK periods, and of a window of 24 (R271). -/
def sbFrame : Nat := 500
def sbWindow : Nat := 240

/-- The messages that go ahead of the base's others (R272). -/
def sbUrgent (m : SbMsg) : Bool := match m.kind with
  | .repair | .repairDone | .narrow | .moduleOff | .fenceNotice => true
  | _ => false

/-- A message as it is sent from a window that begins now: PAUSE counts SB_CLK periods from its own end (R273). -/
def sbResolve (now : Tick) (m : SbMsg) : SbMsg :=
  match m.kind, m.vals with
  | .pause, [rate, 1, reason, t] => { m with vals := [rate, 1, reason, (t - (now + sbFrame + sbWindow)) / 10] }
  | _, _ => m

/-- The message of one word that takes the next window whatever is in progress: RESEND, then one that goes ahead of others; the
second word of PAUSE follows its first (R272, R273). Log entry 97 (DESIGN CHOICE). -/
def sbFast (b : Sideband) : Option SbMsg :=
  (b.queue.find? (fun m => m.kind == .resend)).orElse fun _ =>
    match b.cur with
    | some (m, _) => if m.kind = .pause then none else b.queue.find? (fun x => sbUrgent x && (sbRow x.kind).more == 0)
    | none => b.queue.find? (fun x => sbUrgent x && (sbRow x.kind).more == 0)

/-- Begin a message in a window. -/
def sbBegin (now : Tick) (m : SbMsg) (b : Sideband) : Option (BitVec 24) × Sideband :=
  let ws := sbWords (sbResolve now m)
  let b := { b with queue := b.queue.erase m, sent := some m }
  (ws.head?, if ws.length ≤ 1 then b else { b with cur := some (m, ws.drop 1) })

/-- The word of the base's next window, none where it is empty (R271, R272). -/
def sbNext (now : Tick) (b : Sideband) : Option (BitVec 24) × Sideband :=
  match sbFast b with
  | some m => sbBegin now m b
  | none =>
    match b.cur with
    | some (m, w :: rest) => (some w, { b with cur := if rest.isEmpty then none else some (m, rest), sent := some m })
    | some (_, []) => (none, { b with cur := none, sent := none })
    | none =>
      match (b.queue.find? sbUrgent).orElse fun _ => b.queue.head? with
      | some m => sbBegin now m b
      | none => (none, { b with sent := none })

/-- The message of the latest window goes again from its first word (R272). -/
def sbAgain (b : Sideband) : Sideband :=
  match b.sent with
  | none => b
  | some m =>
    { b with
      queue := m :: b.queue.filter (· ≠ m)
      cur := match b.cur with
        | some (x, ws) => if x = m then none else some (x, ws)
        | none => none }

end Sys2Proof.Machine
end

