-- ==== Sys2Proof/Machine/SiteBase.lean ====
section
/-! DEFINITION. What other families see of a site interface: its modules, agreed features and payload, the outbound
hoppers and the stream credits (R243, R249, R259, R261, R267, R268, R275, R458). -/

namespace Sys2Proof.Machine

open Sys2Proof

def modOf (s : State) (n m : Nat) : SiteMod := tget {} (siteOf s n).mods m
def modMod (n m : Nat) (f : SiteMod → SiteMod) (s : State) : State := modSite n (fun x => { x with mods := tupd {} x.mods m f }) s
def linkOf (s : State) (n k : Nat) : SiteLink := tget {} (siteOf s n).links k
def modLink (n k : Nat) (f : SiteLink → SiteLink) (s : State) : State := modSite n (fun x => { x with links := tupd {} x.links k f }) s
def modNeg (n : Nat) (f : SiteNeg → SiteNeg) (s : State) : State := modSite n (fun x => { x with neg := f x.neg }) s
def modCount (n : Nat) (f : SiteCount → SiteCount) (s : State) : State := modSite n (fun x => { x with count := f x.count }) s

/-- The flit as it leaves now: with the current ACK and NAK of its side (R266). Log entry 50 (DEDUCED). -/
def stamp (l : SiteLink) (f : Flit) : Flit := { f with ack := BitVec.ofNat 8 (l.expect + 255), nak := l.nak }

/-- Flits that a B2D module holds go again, in order; a NAK that waits stands in the first of them alone (R248, R265, R266).
Log entry 50 (DEDUCED). -/
def resendHeld (n k : Nat) (s : State) : State :=
  let l := linkOf s n k
  match l.held with
  | [] => s
  | f :: rest =>
    let s := emit (.siteFlit n (32 + k) (stamp l f)) s
    let s := rest.foldl (fun s g => emit (.siteFlit n (32 + k) (stamp { l with nak := false } g)) s) s
    let s := modLink n k (fun y => { y with nak := false }) s
    if l.nak then modCount n (fun z => { z with naks := min 65535 (z.naks + 1) }) s else s

/-- A module carries traffic: full or narrowed (R249). -/
def modUp (s : State) (n m : Nat) : Bool := (modOf s n m).st == 1 || (modOf s n m).st == 2

/-- A module takes new flits: it carries traffic and is not being narrowed (R248). -/
def modTakes (s : State) (n m : Nat) : Bool := modUp s n m && (modOf s n m).narrowing.isNone

/-- Modules of a direction in service; d2b is direction false. Log entry 44 (DESIGN CHOICE). -/
def upModules (s : State) (n : Nat) (b2d : Bool) : List Nat :=
  ((List.range 32).map (fun k => if b2d then 32 + k else k)).filter (modUp s n)

/-- Agreed capability word, zero before negotiation (R275). Log entry 92 (DEDUCED). -/
def agreedWord (s : State) (n w : Nat) : Word32 := if (siteOf s n).neg.done then tget 0 (siteOf s n).neg.agreed w else 0

def siteFeatures (s : State) (n : Nat) : Word32 := agreedWord s n 2
def sitePoison (s : State) (n : Nat) : Bool := bit (siteFeatures s n) 0
def agreedPmax (s : State) (n : Nat) : Nat := fld (agreedWord s n 5) 0 10
def agreedPidle (s : State) (n : Nat) : Nat := fld (agreedWord s n 5) 10 10

/-- A rate code is negotiated: 0 is 8 Gb/s, 1 is 4, 2 is 2 (R64, R275). -/
def siteRateOk (s : State) (n rate : Nat) : Bool := decide (rate < 3) && bit (agreedWord s n 1) (2 - rate)

/-- A module of the site swaps a lane or narrows (R64). -/
def siteBusy (s : State) (n : Nat) : Bool := (siteOf s n).mods.any (fun p => p.2.repair.isSome || p.2.narrowing.isSome)

/-- Payload of a direction in GB/s, rounded down: 256 bytes in 36 unit intervals of each full module (R248, R458). -/
def sitePayload (s : State) (n : Nat) (b2d : Bool) : Nat :=
  let halves := ((upModules s n b2d).map (fun m => if (modOf s n m).st = 1 then 2 else 1)).sum
  halves * 256 / (9 * 2 ^ (siteOf s n).rate)

/-- Lines that a direction carries in a frame of a length (R94, R278). -/
def siteLines (s : State) (n : Nat) (b2d : Bool) (len : Nat) : Nat := sitePayload s n b2d * len / 64

/-- Credits of a class that the die grants a module (R261). -/
def dieGrant (s : State) (n cls : Nat) : Nat :=
  let w := tget 0 (siteOf s n).neg.die 7
  if cls = 0 then 2 else if cls = 1 then 8 else if cls = 3 then fld w 8 8
  else if cls = 4 then (if bit (siteFeatures s n) 8 then fld w 16 8 else 0) else 0

/-- Credits of a class that the base grants a module (R261, word 7 of the base). -/
def baseGrant (cls : Nat) : Nat :=
  if cls = 0 then 2 else if cls = 1 then 8 else if cls = 2 then 32 else if cls = 4 then 16 else if cls = 5 then 16 else 0

/-- Of some modules the first with the shortest hopper. -/
def shortest (s : State) (n : Nat) (ks : List Nat) : Option Nat :=
  ks.foldl (fun a k => match a with
    | none => some k
    | some j => if (linkOf s n k).hopper.length < (linkOf s n j).hopper.length then some k else some j) none

/-- The B2D module that takes a flit: the partner of the origin while it is in service (R268), else the module in service
with the shortest hopper, one being narrowed only where no other is left. Log entry 44 (DESIGN CHOICE). -/
def pickModule (s : State) (n : Nat) (origin : Option Nat) : Option Nat :=
  let ups := (upModules s n true).map (· - 32)
  let any := (shortest s n (ups.filter (fun k => modTakes s n (32 + k)))).orElse fun _ => shortest s n ups
  match origin with
  | some k => if ups.contains k then some k else any
  | none => any

/-- The hopper that takes the next flit has one of its 96 places free (R67). -/
def siteRoom (s : State) (n : Nat) (origin : Option Nat) : Bool :=
  match pickModule s n origin with
  | some k => decide ((linkOf s n k).hopper.length < 96)
  | none => false

/-- Put a flit in the outbound hopper of a link (R270). Log entry 43 (DEDUCED). -/
def hopperPut (n k : Nat) (e : HopEntry) (s : State) : State :=
  let no := (siteOf s n).nextNo
  let s := modLink n k (fun l => { l with hopper := l.hopper ++ [{ e with no := no }] }) (modSite n (fun x => { x with nextNo := no + 1 }) s)
  modCount n (fun c => { c with peakOut := max c.peakOut (min 96 (linkOf s n k).hopper.length) }) s

/-- A flit toward the die takes a place in the outbound hopper of its module, or waits at the station for one: nothing is lost
(R67). An answer travels on the partner of its request's module, or REROUTED on another (R268). A site with no module in
service takes nothing. -/
def hopperOffer (n : Nat) (origin : Option Nat) (e : HopEntry) (s : State) : State :=
  match pickModule s n origin with
  | none => s
  | some k =>
    if (linkOf s n k).hopper.length < 96 then
      hopperPut n k { e with origin := match origin with | some o => if o = k then none else some o | none => none } s
    else modSite n (fun x => { x with wait := x.wait ++ [(origin, e)] }) s

/-- A slot toward a site die. -/
def siteDeliver (n : Nat) (origin : Option Nat) (x : Slot) (s : State) : State := hopperOffer n origin { slots := [x] } s

/-- What waits at the station takes the places that are free (R67). -/
def fillHoppers (n : Nat) (s : State) : State :=
  (siteOf s n).wait.foldl (fun s w => hopperOffer n w.1 w.2 s) (modSite n (fun x => { x with wait := [] }) s)

/-- A line of a site stream toward the die, against a credit that the die has granted (R259). -/
def siteStreamOut (n stream : Nat) (x : Line × Bool) (last : Bool) (s : State) : Option State :=
  let have_ := tget 0 (siteOf s n).streamOut stream
  match pickModule s n none with
  | none => none
  | some k =>
    if have_ = 0 ∨ 96 ≤ (linkOf s n k).hopper.length then none
    else
      let slot : Slot := { cls := 0, op := 0, tag := BitVec.ofNat 12 stream, last := last, poison := x.2 && sitePoison s n, data := x.1 }
      some (hopperPut n k { slots := [slot], stream := true }
        (modSite n (fun y => { y with streamOut := tset 0 y.streamOut stream (have_ - 1) }) s))

/-- A stream credit command toward the die (R259). -/
def creditSlot (stream lines : Nat) (revoke : Bool) : Slot :=
  { cls := 0, op := 1, data := BitVec.ofNat 512 (stream + 2 ^ 15 + lines * 2 ^ 16 + b2n revoke * 2 ^ 48) }

def sendCredit (n stream lines : Nat) (revoke : Bool) (s : State) : State :=
  if (upModules s n true).isEmpty then s
  else
    hopperOffer n none { slots := [creditSlot stream lines revoke], stream := true }
      (modSite n (fun y => { y with streamIn := tset 0 y.streamIn stream ((if revoke then 0 else tget 0 y.streamIn stream) + lines) }) s)

/-- Withdraw the credits that the die of a station holds (R100, R259). -/
def revokeStreams (st : Nat) (s : State) : State :=
  match kindOf st with
  | (.ss, n) => (siteOf s n).streamIn.foldl (fun s p => sendCredit n p.1 0 true s) s
  | _ => s

/-- A message for a site die is handed to its sideband, where it waits for its windows (R272). -/
def sideband (n : Nat) (kind : SbKind) (vals : List Nat) (s : State) : State :=
  emit (.sideband n kind vals) (modSite n (fun x => { x with
    sb := if x.sb.start.isSome then { x.sb with queue := x.sb.queue ++ [{ kind := kind, vals := vals }] } else x.sb }) s)

/-- A POWER_LIMIT ends with the window that carries its word; the gaffer checks the site 50 µs later (R360). -/
def limitEnds (n : Nat) (b : Sideband) (s : State) : State :=
  if (b.sent.map (·.kind)) = some .powerLimit ∧ (tget {} s.gaf.sites n).checkDue = true then
    modGaf (fun g => { g with sites := tupd {} g.sites n (fun p => { p with checkDue := false, limitAt := some (s.now + sbWindow) }) }) s
  else s

/-- The base's window of a site's sideband begins: HELLO until the die has aligned, else the next word (R271, R272). -/
def sbTick (n : Nat) (s : State) : State :=
  let x := siteOf s n
  match x.sb.start with
  | none => s
  | some t =>
    if (s.now - t) % sbFrame ≠ 0 then s
    else
      let r := if x.neg.aligned then sbNext s.now x.sb
        else (let m : SbMsg := { kind := .hello, vals := [0x21] }
              ((sbWords m).head?, { x.sb with sent := some m }))
      let s := limitEnds n r.2 (modSite n (fun y => { y with sb := r.2 }) s)
      match r.1 with
      | some w => emit (.sbWord n w) s
      | none => s

def sbTicks (s : State) : State := (List.range 12).foldl (fun s n => sbTick n s) s

/-- Power a site down (R241): reset low, regulators off, VSIO on; its modules stop, and what waits for the die is gone. -/
def sitePowerDown (n st : Nat) (s : State) : State :=
  let s := modSite n (fun x => { x with
    st := st
    on := false
    vset := 0
    mv := 0
    current := 0
    undervolt := false
    clamped := false
    sb := {}
    mods := []
    links := []
    streamIn := []
    streamOut := []
    fwd := []
    wait := []
    fallbackAt := none
    neg := { base := x.neg.base, lastTemp := x.neg.lastTemp } }) s
  modPins (fun p => { p with siteRstHigh := p.siteRstHigh.filter (· ≠ n) })
    { s with
      mem := { s.mem with storeWait := s.mem.storeWait.filter (fun w => w.1 != n) }
      csp := { s.csp with
      staged := s.csp.staged.filter (fun x => x.path != .sideband n && x.path != .mgt n)
      latches := s.csp.latches.filter (fun x => x.1 != .sideband n && x.1 != .mgt n)
      lastRsp := tset none s.csp.lastRsp n none
      frags := s.csp.frags.filter (fun x => x.site != n) } }

/-- A site's own reason for its fence (R251). -/
def siteCause (n cause m g : Nat) (s : State) : State :=
  modSite n (fun x => { x with cause := cause, causeModule := m, causeGroup := g, causeNew := true }) s

end Sys2Proof.Machine
end

