-- ==== Sys2Proof/Machine/PodBase.lean ====
section
/-! DEFINITION. What other families see of the pod: the route table, a flow's station, the sending flows (R296 to R298,
R301, R306). -/

namespace Sys2Proof.Machine

open Sys2Proof

def podLink (s : State) (l : Nat) : PodLink := tget {} s.pod.links l
def modPodLink (l : Nat) (f : PodLink → PodLink) (s : State) : State := modPod (fun p => { p with links := tupd {} p.links l f }) s
def podLane (s : State) (l w : Nat) : PodLane := tget {} (podLink s l).lanes w
def modPodLane (l w : Nat) (f : PodLane → PodLane) (s : State) : State := modPodLink l (fun x => { x with lanes := tupd {} x.lanes w f }) s

/-- The active route table entry of a node, and its KIND (R306). -/
def routeOf (s : State) (node : Nat) : RouteEntry := tget {} s.pod.route node
def nodeKind (s : State) (node : Word16) : Nat := (routeOf s node.toNat).kind

/-- A link carries flows (R290, R297, R313). -/
def linkUp (s : State) (l : Nat) : Bool := (podLink s l).st == 2 && !linkFenced s l

/-- Links in service of external station number x. -/
def xsLinks (s : State) (x : Nat) : List Nat := ((List.range 6).map (· + 6 * x)).filter (linkUp s)

/-- Numbers of the set bits of a station mask. -/
def maskSet (m : Byte) : List Nat := (List.range 8).filter (fun k => bit m k)

/-- The hash of a flow (R297). -/
def flowHash (node job cls : Nat) : Nat := ((node ^^^ (job * 256)) * 0x9E37 + cls) % 2 ^ 16

def txFlow (s : State) (node : Word16) (job cls : Nat) : Option TxFlow :=
  s.pod.tx.find? (fun f => f.node == node && f.job == job && f.cls == cls)

def modTx (node : Word16) (job cls : Nat) (f : TxFlow → TxFlow) (s : State) : State :=
  modPod (fun p => { p with tx := p.tx.map (fun x => if x.node == node && x.job == job && x.cls == cls then f x else x) }) s

/-- Change a receiving flow. -/
def modRx (ctx : Nat) (f : RxFlow → RxFlow) (s : State) : State :=
  modPod (fun p => { p with rx := p.rx.map (fun x => if x.ctx = ctx then f x else x) }) s

/-- The number of the external station that a flow takes, if one of its set has a link up (R297). -/
def flowXsNo (s : State) (node : Word16) (job cls : Nat) : Option Nat :=
  let set := (maskSet (routeOf s node.toNat).localXs).filter (fun x => hasXs s.part.variant x && !(xsLinks s x).isEmpty)
  match txFlow s node job cls with
  | some f => if set.contains f.xs then some f.xs
      else (match set.find? (fun x => decide (f.xs < x)) with
        | some x => some x
        | none => set.head?)
  | none => set[flowHash node.toNat job cls % max 1 set.length]?

def flowXs (s : State) (node : Word16) (job cls : Nat) : Option Nat := (flowXsNo s node job cls).map xsOf

/-- The remote station of a new flow (R297). -/
def flowRemote (s : State) (node : Word16) (job cls : Nat) : Nat :=
  let set := maskSet (routeOf s node.toNat).remoteXs
  set.getD (flowHash node.toNat job cls / 256 % max 1 set.length) 0

/-- The longest measured round trip of the flows at a list of stations (R100). -/
def flowRtt (s : State) (sts : List Nat) : Nat :=
  ((s.pod.tx.filter (fun f => sts.contains (xsOf f.xs))).map (·.rtt)).foldl max 0

/-- Link credits of a class (R288): those of MIR on a pair link alone. -/
def linkCap (s : State) (l cls : Nat) : Nat :=
  if cls = 0 then 32 else if cls = 1 then 64 else if cls < 6 then 512
  else if cls = 6 then (match s.pair.cfg with
    | some c => if l = c.linkA ∨ l = c.linkB then 64 else 0
    | none => 0)
  else 0

/-- Slots of a class that wait for a link: those of its station's flows that no flit holds. -/
def podDepth (s : State) (l cls : Nat) : Nat :=
  ((s.pod.tx.filter (fun f => f.xs == l / 6 && f.cls == cls)).map (fun f => f.slots.countP (fun x => x.place == .waiting))).sum

/-- The peak depth of the links of external station x follows their depth, saturating at 16 bits. -/
def podPeak (x cls : Nat) (s : State) : State :=
  let d := BitVec.ofNat 16 (min 65535 (podDepth s (6 * x) cls))
  ((List.range 6).map (· + 6 * x)).foldl (fun s l =>
    if (tget 0 (podLink s l).peak cls).toNat < d.toNat then modPodLink l (fun y => { y with peak := tset 0 y.peak cls d }) s else s) s

/-- The peaks of the pod links start again from the depths now (R120, R314). -/
def clearPodPeaks (s : State) : State :=
  modPod (fun q => { q with links := q.links.map (fun l => (l.1, { l.2 with
    peak := (List.range 7).foldl (fun t c => tset 0 t c (BitVec.ofNat 16 (min 65535 (podDepth s l.1 c)))) [] })) }) s

/-- A fenced slot waits until FACK has passed every earlier slot that its job sent to its node, those that wait for a context
among them (R300). -/
def flowFenceOk (s : State) (f : TxFlow) (x : FlowSlot) : Bool :=
  !x.slot.fence || (s.pod.tx.all (fun g => !(g.node == f.node && g.job == f.job) || g.slots.all (fun y => decide (x.no ≤ y.no))) &&
    s.pod.waiting.all (fun w => !(w.node == f.node && w.job == f.job) || decide (x.no ≤ w.no)))

/-- A slot may be sent: it waits, within the window of its open flow, and no fence holds it (R298, R300). -/
def sendable (s : State) (f : TxFlow) (x : FlowSlot) : Bool :=
  f.st == 1 && x.place == .waiting && decide ((x.fseq - f.fack).toNat < f.window) && flowFenceOk s f x

/-- A class waits for a link credit at a link in a tick (R314). -/
def podStall (s : State) : State :=
  let keys := ((s.pod.links.filter (fun p => linkUp s p.1)).map (fun p =>
    ((List.range 7).filter (fun c => decide (linkCap s p.1 c ≤ tget 0 p.2.ourUsed c) &&
      s.pod.tx.any (fun f => f.xs == p.1 / 6 && f.cls == c && f.slots.any (fun x => !x.stream && sendable s f x)))).map
      (fun c => (p.1, c)))).flatten
  keys.foldl (fun s k => modPodLink k.1 (fun x => { x with stall := tupd 0 x.stall k.2 (· + 1) }) s) s

/-- Add slots to a sending flow: each takes the next FSEQ (R298). -/
def flowPut (f : TxFlow) (slots : List Slot) (s : State) : State :=
  let n := s.pod.nextNo
  let add := (slots.zip (List.range slots.length)).map (fun p =>
    ({ fseq := f.next + BitVec.ofNat 32 p.2, slot := p.1, job := f.job, no := n + p.2 } : FlowSlot))
  podPeak f.xs f.cls (modTx f.node f.job f.cls (fun x => { x with
    next := x.next + BitVec.ofNat 32 slots.length
    slots := x.slots ++ add
    lastUse := s.now })
    (modPod (fun p => { p with nextNo := n + slots.length }) s))

/-- Slots wait at an external station for a context of their flow (R302), in their place over all flows (R300). -/
def podWait (st : Nat) (node : Word16) (job cls : Nat) (slots : List Slot) (s : State) : State :=
  modPod (fun p => { p with
    waiting := p.waiting ++ [{ st := st, cls := cls, node := node, job := job, slots := slots, no := p.nextNo }]
    nextNo := p.nextNo + 1 }) s

/-- Send slots to a node: on its flow, or they wait for one at the external station (R296, R302). -/
def podSend (st : Nat) (node : Word16) (job cls : Nat) (slots : List Slot) (s : State) : State :=
  match txFlow s node job cls with
  | some f => flowPut f slots s
  | none => podWait st node job cls slots s

end Sys2Proof.Machine
end

