-- ==== Sys2Proof/Machine/SlotCodec.lean ====
section
/-! DEFINITION. The slots of the pod links and the site interface: writing and reading command positions (R125 to R127,
R190, R205, R256, R258, R304, R365, R395, R433). A line placed at bit 128 · i holds command position i. -/

namespace Sys2Proof.Machine

open Sys2Proof

/-- Field [lo + n − 1 : lo] of command position i (R252, R256). -/
def pfld (x : Slot) (i lo n : Nat) : Nat := fld x.data (128 * i + lo) n

/-- A number placed in a line at command position i, bit lo. -/
def pput (i lo v : Nat) : Line := BitVec.ofNat 512 (v * 2 ^ (128 * i + lo))

/-- The opcode of a request (R124). -/
def opCode : MemOp → Nat
  | .load => 0 | .store => 1 | .addI64 => 4 | .addF32x2 => 5 | .swap => 6 | .cas => 7
  | .maxI64 => 8 | .minI64 => 9 | .maxF32x2 => 10 | .minF32x2 => 11

def opOfCode (c : Nat) : Option MemOp :=
  if c = 0 then some .load else if c = 1 then some .store else if c = 4 then some .addI64 else if c = 5 then some .addF32x2
  else if c = 6 then some .swap else if c = 7 then some .cas else if c = 8 then some .maxI64 else if c = 9 then some .minI64
  else if c = 10 then some .maxF32x2 else if c = 11 then some .minF32x2 else none

/-- A request as one slot, with a store's data slot after it (R125, R126). -/
def reqSlots (r : IssueReq) (tag : BitVec 12) : List Slot :=
  let a := r.addr.toNat / 2 * 2 + 1
  let second := if r.op = .store then r.mask.toNat else if r.op = .cas then r.compare.toNat else r.operand.toNat
  let d := pput 0 0 a ||| pput 0 64 (if r.op = .load then 0 else second) |||
    (if r.op = .cas then pput 1 0 r.operand.toNat else 0)
  let cmd : Slot := { cls := 2, op := BitVec.ofNat 5 (opCode r.op), tag := tag, fence := r.fence, data := d }
  if r.op = .store then [cmd, { cls := 2, op := 2, tag := tag, data := r.data, poison := r.poison }] else [cmd]

/-- The commands of a REQ slot at some positions: position, V, and the request with tag t + i (R125, R126). -/
def reqsAt (who : Requester) (op : MemOp) (x : Slot) (ps : List Nat) : List (Nat × IssueReq) :=
  let one (i : Nat) : Nat × IssueReq :=
    let a := BitVec.ofNat 64 (pfld x i 0 64 / 2 * 2)
    let b := BitVec.ofNat 64 (pfld x i 64 64)
    (i, { who := who, op := op, addr := a, tag := x.tag + BitVec.ofNat 12 i, fence := x.fence
          mask := if op = .store then b else 0
          operand := if op = .cas then BitVec.ofNat 64 (pfld x (i + 1) 0 64) else if op = .store ∨ op = .load then 0 else b
          compare := if op = .cas then b else 0 })
  (ps.filter (fun i => pfld x i 0 1 = 1)).map one

/-- The commands of a REQ slot in the positions that its opcode gives them (R125, R126). -/
def slotReqs (who : Requester) (op : MemOp) (x : Slot) : List (Nat × IssueReq) :=
  reqsAt who op x (if op = .cas then [0, 2] else if op = .store then [0, 1, 2] else [0, 1, 2, 3])

/-- An ACK command position, and the answers in an ACK slot: tag, RESULT, STATUS (R127). -/
def ackPos (i : Nat) (tag : BitVec 12) (result : Word64) (status : Nat) : Line :=
  pput i 0 result.toNat ||| pput i 64 (tag.toNat + 2 ^ 15) ||| pput i 80 status

def ackSlot (tag : BitVec 12) (result : Word64) (status : Nat) : Slot :=
  { cls := 3, op := 1, data := ackPos 0 tag result status }

def slotAcks (x : Slot) : List (BitVec 12 × Word64 × Nat) :=
  ((List.range 4).filter (fun i => pfld x i 79 1 = 1)).map (fun i =>
    (BitVec.ofNat 12 (pfld x i 64 12), BitVec.ofNat 64 (pfld x i 0 64), pfld x i 80 8))

/-- An ACK slot keeps its form: its tag is zero, and each answer's zero bits and STATUS are (R127). -/
def ackOk (x : Slot) : Bool :=
  x.tag == 0 && (List.range 4).all (fun i => pfld x i 79 1 = 0 ||
    decide (pfld x i 76 3 = 0 ∧ pfld x i 88 40 = 0 ∧ pfld x i 80 8 < 3))

/-- A signal's position (R258). -/
def signalSlot (p : SignalPos) (source : Nat) : Slot :=
  { cls := 1, op := 0
    data := pput 0 0 p.value.toNat ||| pput 0 64 (p.sites.toNat + 2 ^ 15) ||| pput 0 80 p.tag.toNat ||| pput 0 96 p.node.toNat
      ||| pput 0 112 source }

/-- The signals of a slot, by position, with the sending site that SOURCE names. -/
def slotSignals (x : Slot) : List (SignalPos × Nat) :=
  ((List.range 4).filter (fun i => pfld x i 79 1 = 1)).map (fun i =>
    ({ value := BitVec.ofNat 64 (pfld x i 0 64), sites := BitVec.ofNat 12 (pfld x i 64 12), tag := BitVec.ofNat 16 (pfld x i 80 16)
       node := BitVec.ofNat 16 (pfld x i 96 16) }, pfld x i 112 4))

/-- A position of a SIGNAL slot keeps its zero bits: the sender writes SOURCE as zero (R258). -/
def signalOk (x : Slot) : Bool :=
  (List.range 4).all (fun i => pfld x i 79 1 = 0 || decide (pfld x i 76 3 = 0 ∧ pfld x i 112 16 = 0))

/-- PACE_NOTICE (R365). -/
def paceSlot (m : PaceMsg) : Slot :=
  { cls := 1, op := 10
    data := pput 0 0 m.podJob.toNat ||| pput 0 32 m.slowdown ||| pput 0 48 m.source.toNat ||| pput 0 64 (2 ^ 15)
      ||| pput 0 80 m.seq.toNat ||| pput 0 96 m.cause.toNat }

def slotPace (x : Slot) : Option PaceMsg :=
  if pfld x 0 79 1 = 0 then none
  else some { podJob := BitVec.ofNat 32 (pfld x 0 0 32), slowdown := pfld x 0 32 16, source := BitVec.ofNat 16 (pfld x 0 48 16)
              seq := BitVec.ofNat 16 (pfld x 0 80 16), cause := BitVec.ofNat 8 (pfld x 0 96 8) }

/-- CLAIM_NOTICE (R395). -/
def claimSlot (m : ClaimMsg) : Slot :=
  { cls := 1, op := 11
    data := pput 0 0 m.mask.toNat ||| pput 0 64 (m.window.toNat + 2 ^ 15) ||| pput 0 80 m.claimed.toNat ||| pput 0 96 m.newNode.toNat
      ||| pput 0 112 m.epoch.toNat ||| pput 1 0 m.time.toNat }

def slotClaim (x : Slot) : Option ClaimMsg :=
  if pfld x 0 79 1 = 0 then none
  else some { mask := BitVec.ofNat 64 (pfld x 0 0 64), window := BitVec.ofNat 4 (pfld x 0 64 4), claimed := BitVec.ofNat 16 (pfld x 0 80 16)
              newNode := BitVec.ofNat 16 (pfld x 0 96 16), epoch := BitVec.ofNat 8 (pfld x 0 112 8), time := BitVec.ofNat 64 (pfld x 1 0 64) }

/-- A collective header and its lines (R205). -/
def colSlots (h : ColHdr) (lines : List (Line × Bool)) : List Slot :=
  let d := pput 0 0 h.context ||| pput 0 16 h.member ||| pput 0 32 (h.part + 4 * h.count) ||| pput 0 40 h.run.toNat
    ||| pput 0 64 h.chunk ||| pput 0 96 h.line
  { cls := 5, op := 0, data := d } :: lines.map (fun x => { cls := 5, op := 1, data := x.1, poison := x.2 })

def slotColHdr (x : Slot) : ColHdr :=
  { context := pfld x 0 0 9, member := pfld x 0 16 13, part := pfld x 0 32 2, count := pfld x 0 34 2, run := BitVec.ofNat 8 (pfld x 0 40 8)
    chunk := pfld x 0 64 24, line := pfld x 0 96 32 }

/-- A header keeps its zero bits, and COUNT is 1 to 3. Log entry 46 (DEDUCED). -/
def colHdrOk (x : Slot) : Bool :=
  decide (pfld x 0 9 7 = 0 ∧ pfld x 0 29 3 = 0 ∧ pfld x 0 36 4 = 0 ∧ pfld x 0 48 16 = 0 ∧ pfld x 0 88 8 = 0 ∧ 1 ≤ pfld x 0 34 2
    ∧ x.data.toNat < 2 ^ 128)

/-- The header of a forwarded message of n lines, one of its lines, and the whole message as its slots (R304).
Log entry 61 (DEDUCED). -/
def fwdHead (m : FwdMsg) (n : Nat) : Slot :=
  let d := pput 0 0 m.destNode.toNat ||| pput 0 16 m.srcNode.toNat ||| pput 0 32 (m.site + 16 * b2n m.down) ||| pput 0 40 m.hops
    ||| pput 0 48 n ||| pput 0 64 m.msg.toNat
  { cls := 4, op := 0, data := d }

def fwdLine (msg : BitVec 4) (i : Nat) (last : Bool) (data : Line) : Slot :=
  { cls := 4, op := 1, tag := BitVec.ofNat 12 (msg.toNat * 256 + i % 256), last := last, data := data }

def fwdSlots (m : FwdMsg) : List Slot :=
  fwdHead m m.lines.length ::
    (m.lines.zip (List.range m.lines.length)).map (fun p => fwdLine m.msg p.2 (p.2 + 1 == m.lines.length) p.1)

def slotFwd (x : Slot) (lines : List Line) : FwdMsg :=
  { destNode := BitVec.ofNat 16 (pfld x 0 0 16), srcNode := BitVec.ofNat 16 (pfld x 0 16 16), site := pfld x 0 32 4
    down := pfld x 0 36 1 == 1, hops := pfld x 0 40 8, msg := BitVec.ofNat 4 (pfld x 0 64 4), lines := lines }

def fwdLines (x : Slot) : Nat := pfld x 0 48 16
def fwdHdrOk (x : Slot) : Bool :=
  decide (1 ≤ fwdLines x ∧ fwdLines x ≤ 256 ∧ pfld x 0 37 3 = 0 ∧ pfld x 0 68 60 = 0 ∧ x.data.toNat < 2 ^ 128)

/-- CONTINUITY (R433). -/
def continuitySlot (node : Word16) (sweep : Nat) (selfMatch : Bool) (digest : Word64) : Slot :=
  { cls := 0, op := 0x1A
    data := pput 0 0 node.toNat ||| pput 0 16 (sweep % 65536) ||| pput 0 32 (b2n selfMatch) ||| pput 0 63 1 ||| pput 0 64 digest.toNat }

/-- A ROUTE command (R289). -/
def routeSlot (r : RouteCmd) : Slot :=
  { cls := 0, op := 0x1F
    data := pput 0 0 r.destNode.toNat ||| pput 0 16 r.srcNode.toNat ||| pput 0 32 (r.destXs.toNat + 8 * r.srcXs.toNat)
      ||| pput 0 40 r.job.toNat ||| pput 0 48 r.cls.toNat ||| pput 0 63 1 ||| pput 0 64 r.fseq.toNat }

def slotRoute (x : Slot) : RouteCmd :=
  { destNode := BitVec.ofNat 16 (pfld x 0 0 16), srcNode := BitVec.ofNat 16 (pfld x 0 16 16), destXs := BitVec.ofNat 3 (pfld x 0 32 3)
    srcXs := BitVec.ofNat 3 (pfld x 0 35 3), job := BitVec.ofNat 8 (pfld x 0 40 8), cls := BitVec.ofNat 3 (pfld x 0 48 3)
    fseq := BitVec.ofNat 32 (pfld x 0 64 32) }

/-- A link command of position i of an MGT slot (R289). -/
def slotFlowAck (x : Slot) (i : Nat) : FlowAckCmd :=
  { destNode := BitVec.ofNat 16 (pfld x i 0 16), srcNode := BitVec.ofNat 16 (pfld x i 16 16), destXs := BitVec.ofNat 3 (pfld x i 32 3)
    srcXs := BitVec.ofNat 3 (pfld x i 35 3), job := BitVec.ofNat 8 (pfld x i 40 8), cls := BitVec.ofNat 3 (pfld x i 48 3)
    fack := BitVec.ofNat 32 (pfld x i 64 32), window := BitVec.ofNat 16 (pfld x i 96 16) }

def slotLaneMap (x : Slot) (i : Nat) : LaneMapCmd :=
  { lanes := BitVec.ofNat 16 (pfld x i 0 16), epoch := BitVec.ofNat 16 (pfld x i 16 16), ackEpoch := BitVec.ofNat 16 (pfld x i 32 16)
    lane := BitVec.ofNat 4 (pfld x i 48 4), cause := BitVec.ofNat 4 (pfld x i 52 4), ack := pfld x i 56 1 == 1 }

def slotHello (x : Slot) (i : Nat) : LinkHelloCmd :=
  { node := BitVec.ofNat 16 (pfld x i 0 16), isSwitch := pfld x i 16 1 == 1, xs := BitVec.ofNat 3 (pfld x i 17 3)
    link := BitVec.ofNat 6 (pfld x i 32 6), rev := BitVec.ofNat 8 (pfld x i 48 8) }

def slotTime (x : Slot) (i : Nat) : TimeCmd :=
  { resp := pfld x i 0 1 == 1, locked := pfld x i 1 1 == 1, hops := BitVec.ofNat 8 (pfld x i 8 8)
    sourceNode := BitVec.ofNat 16 (pfld x i 16 16), priority := BitVec.ofNat 8 (pfld x i 32 8)
    residence := BitVec.ofNat 16 (pfld x i 40 16), t3 := BitVec.ofNat 64 (pfld x i 64 64) }

/-- The slots of link commands, one command to a slot, in position 0 (R289). -/
def flowAckSlot (a : FlowAckCmd) : Slot :=
  { cls := 0, op := 0x1D
    data := pput 0 0 a.destNode.toNat ||| pput 0 16 a.srcNode.toNat ||| pput 0 32 (a.destXs.toNat + 8 * a.srcXs.toNat)
      ||| pput 0 40 a.job.toNat ||| pput 0 48 a.cls.toNat ||| pput 0 63 1 ||| pput 0 64 a.fack.toNat ||| pput 0 96 a.window.toNat }

def laneMapSlot (c : LaneMapCmd) : Slot :=
  { cls := 0, op := 0x1C
    data := pput 0 0 c.lanes.toNat ||| pput 0 16 c.epoch.toNat ||| pput 0 32 c.ackEpoch.toNat
      ||| pput 0 48 (c.lane.toNat + 16 * c.cause.toNat) ||| pput 0 56 (c.ack.toNat + 2 ^ 7) }

def helloSlot (c : LinkHelloCmd) : Slot :=
  { cls := 0, op := 0x1B
    data := pput 0 0 c.node.toNat ||| pput 0 16 (c.isSwitch.toNat + 2 * c.xs.toNat) ||| pput 0 32 c.link.toNat
      ||| pput 0 48 c.rev.toNat ||| pput 0 63 1 }

def timeSlot (c : TimeCmd) : Slot :=
  { cls := 0, op := 0x1E
    data := pput 0 0 (c.resp.toNat + 2 * c.locked.toNat) ||| pput 0 8 c.hops.toNat ||| pput 0 16 c.sourceNode.toNat
      ||| pput 0 32 c.priority.toNat ||| pput 0 40 c.residence.toNat ||| pput 0 63 1 ||| pput 0 64 c.t3.toNat }

/-- A link command as it is serialised at a timecode: TIME takes its T3, and a response its RESIDENCE (R289, R309). -/
def linkOutSlot (now : Word64) : LinkOut → Slot
  | .hello c => helloSlot c
  | .laneMap c => laneMapSlot c
  | .flowAck c => flowAckSlot c
  | .route r => routeSlot r
  | .timeRequest c => timeSlot { c with t3 := now }
  | .timeResponse c t2 => timeSlot { c with t3 := now, residence := (now - t2).setWidth 16 }

/-- The name and values of a link command. -/
def linkOutVals : LinkOut → String × List Nat
  | .hello c => ("LINK_HELLO", [c.node.toNat, c.isSwitch.toNat, c.xs.toNat, c.link.toNat, c.rev.toNat])
  | .laneMap c => ("LANE_MAP", [c.lanes.toNat, c.epoch.toNat, c.ackEpoch.toNat, c.lane.toNat, c.cause.toNat, c.ack.toNat])
  | .flowAck a => ("FLOW_ACK", [a.destNode.toNat, a.srcNode.toNat, a.destXs.toNat, a.srcXs.toNat, a.job.toNat, a.cls.toNat, a.fack.toNat,
      a.window.toNat])
  | .route r => ("ROUTE", [r.destNode.toNat, r.srcNode.toNat, r.destXs.toNat, r.srcXs.toNat, r.job.toNat, r.cls.toNat, r.fseq.toNat])
  | .timeRequest c | .timeResponse c _ => ("TIME", [c.resp.toNat, c.locked.toNat, c.hops.toNat, c.sourceNode.toNat, c.priority.toNat])

/-- V of position i of an MGT command (R289, R445). -/
def mgtV (x : Slot) (i : Nat) : Bool := pfld x i 63 1 == 1

/-- CS_RSP (R445). -/
def csRspSlot (tag : BitVec 12) (data : Word32) : Slot :=
  { cls := 0, op := 2, data := pput 0 0 data.toNat ||| pput 0 63 1 ||| pput 0 64 (tag.toNat + 2 ^ 15) }

end Sys2Proof.Machine
end

