-- ==== Sys2Proof/Machine/Hooks.lean ====
section
/-! DEFINITION. What the millrace and memory need of the pod: a message at an external station enters its flow (R296). -/

namespace Sys2Proof.Machine

open Sys2Proof

/-- VDD_MILL stands at its maximum of 0.85 V (R61, R361). -/
def vmillAtMax (s : State) : Bool := decide (850 ≤ s.gaf.vmill)

/-- A flow tag is free, or its request has failed and the response slot's generation has advanced (R301). -/
def tagFree (s : State) (f : TxFlow) (i : Nat) : Bool :=
  match tget none f.tags i with
  | none => true
  | some t => tget 0 s.mem.gens (t.buf * 8192 + t.slot) != t.gen

/-- The least free flow tag of a flow (R301). -/
def freeTag (s : State) (f : TxFlow) : Nat → Nat → Option Nat
  | 0, _ => none
  | fuel + 1, i => if tagFree s f i then some i else freeTag s f fuel (i + 1)

/-- The flow that a request to a claimed node takes its tags from (R396): the one of the node that its address names. -/
def tagFlow (s : State) (f : TxFlow) (named : Nat) : TxFlow :=
  match txFlow s (BitVec.ofNat 16 named) f.job 2 with
  | some g => g
  | none => f

/-- A request takes a flow tag and joins its flow (R301); with no tag free it waits. -/
def flowReq (f : TxFlow) (q : MemReq) (s : State) : Option State :=
  let g := tagFlow s f (q.req.addr.toNat / 2 ^ 48)
  -- a request sent again keeps its flow tag (R396)
  let kept := (g.tags.find? (fun p => p.2 == some { buf := q.buf, slot := q.slot, gen := q.gen })).map (·.1)
  match kept.orElse fun _ => freeTag s g 4096 0 with
  | none => none
  | some t =>
    some (flowPut f (reqSlots q.req (BitVec.ofNat 12 t))
      (modTx g.node g.job g.cls (fun x => { x with tags := tset none x.tags t (some { buf := q.buf, slot := q.slot, gen := q.gen }) }) s))

/-- The node that a message at an external station goes to; a request's is the one that its response slot notes. -/
def xsNode (s : State) (m : MrMsg) : Word16 :=
  match m.pay with
  | .req q => (match tget none s.mem.slots (q.buf * 8192 + q.slot) with
      | some o => o.node
      | none => m.node)
  | .signal p => p.node
  | .col node _ _ => node
  | _ => m.node

/-- The slots of a message without a flow tag of its own. Log entry 61 (DEDUCED). -/
def xsSlots (m : MrMsg) : List Slot :=
  match m.pay with
  | .loadData r => [{ cls := 3, op := 0, tag := BitVec.ofNat 12 r.slot, data := r.data, poison := r.poison }]
  | .ack r => [ackSlot (BitVec.ofNat 12 r.slot) r.result r.status.toNat]
  | .signal p => [signalSlot p m.source]
  | .pace p => [paceSlot p]
  | .claim c => [claimSlot c]
  | .col _ h lines => colSlots h lines
  | .raw x => [x]
  | _ => []

/-- The fence flag of a message stands on its first slot (R300). -/
def fenceFirst (fence : Bool) : List Slot → List Slot
  | [] => []
  | x :: t => { x with fence := fence } :: t

/-- The name and values of a mirrored message on a pair link (R392). -/
def mirValues : Payload → Option (String × List Nat)
  | .mirStore m => some ("MIR_STORE", [m.mseq, m.offset, m.mask.toNat, m.ident.node.toNat, m.ident.job.toNat, m.ident.flowTag.toNat, m.data.toNat])
  | .mirWord m => some ("MIR_WORD", [m.mseq, m.offset, m.value.toNat, m.result.toNat, m.ident.node.toNat, m.ident.job.toNat, m.ident.flowTag.toNat])
  | .mirConfirm n => some ("MIR_CONFIRM", [n])
  | _ => none

/-- The pair link of a station, if it is up and MIR credits are left (R288). -/
def mirLink (s : State) (st n : Nat) : Option Nat :=
  match s.pair.cfg with
  | none => none
  | some c => [c.linkA, c.linkB].find? (fun l => xsOf (l / 6) == st && (podLink s l).st == 2 && decide (tget 0 (podLink s l).ourUsed 6 + n ≤ 64))

/-- Admission to a node's flows stands still in a drain of the route tables (R308). Log entry 60 (DEDUCED). -/
def routeHeld (s : State) (node : Word16) : Bool :=
  (s.pod.rtSt == 4 || s.pod.rtSt == 5) && s.pod.drainNodes.contains node.toNat

/-- MSG numbers in use in a flow: of the slots that FACK has not passed, and of messages whose lines are still to come; the
number that the next message takes (R304). -/
def msgNo (x : Slot) : BitVec 4 := BitVec.ofNat 4 (if x.op = 0 then pfld x 0 64 4 else x.tag.toNat / 256)
def fwdMsgs (s : State) (f : TxFlow) : List (BitVec 4) :=
  (((f.slots.map (·.slot)).filter (fun x => x.cls == 4)).map msgNo ++
    (s.mrc.fwdIn.filter (fun r => r.dst == xsOf f.xs && r.node == f.node && r.job == f.job)).map (·.msg)).eraseDups
def nextMsg (s : State) (f : TxFlow) : BitVec 4 :=
  let used := fwdMsgs s f
  let from_ := used.getLast?.elim 0 (· + 1)
  (((List.range 16).map (fun i => from_ + BitVec.ofNat 4 i)).find? (fun k => !used.contains k)).getD 0

/-- Accept a message at an external station: into its flow, or onto the pair link; none while it must wait (R296, R302). -/
def xsAccept (st cls : Nat) (m : MrMsg) (s : State) : Option State :=
  if cls = 6 then
    match mirValues m.pay, mirLink s st m.slots with
    | some v, some l =>
      some (emit (.podCmd l v.1 v.2) (modPodLink l (fun x => { x with ourUsed := tupd 0 x.ourUsed 6 (· + m.slots) }) s))
    | _, _ => none
  else if routeHeld s (xsNode s m) then none
  else
    match txFlow s (xsNode s m) m.job cls with
    | none => none
    | some f =>
      match m.pay with
      | .req q => flowReq f q s
      | _ => some (flowPut f (fenceFirst m.fence (xsSlots m)) s)

/-- Forward a line of an egress stream on its flow (R85): a stream slot that takes the next FSEQ of the context that the
landing names; it waits while the window is used up. -/
def flowStreamOut (st flow stream : Nat) (x : Line × Bool) (last : Bool) (s : State) : Option State :=
  match s.pod.tx.find? (fun f => f.ctx == flow && xsOf f.xs == st && f.st == 1) with
  | none => none
  | some f =>
    if f.window ≤ (f.next - f.fack).toNat ∨ routeHeld s f.node = true then none
    else
      let slot : Slot := { cls := 0, op := 0, tag := BitVec.ofNat 12 stream, last := last, poison := x.2, data := x.1 }
      let n := s.pod.nextNo
      some (podPeak f.xs f.cls (modTx f.node f.job f.cls (fun y => { y with
        next := y.next + 1
        slots := y.slots ++ [{ fseq := f.next, slot := slot, job := f.job, no := n, stream := true }]
        lastUse := s.now })
        (modPod (fun p => { p with nextNo := n + 1 }) s)))

end Sys2Proof.Machine
end

