-- ==== Sys2Proof/Machine/Enqueue.lean ====
section
/-! DEFINITION. Class queues, credits and receive buffers of the millrace (R105 to R109, R113, R115, R490). -/

namespace Sys2Proof.Machine

open Sys2Proof

/-- Class codes (R105). -/
def cMGT : Nat := 0
def cSIG : Nat := 1
def cREQ : Nat := 2
def cRSP : Nat := 3
def cFWD : Nat := 4
def cCOL : Nat := 5
def cMIR : Nat := 6

/-- A transmit wavelength, and a station's spare. -/
def lamOf (s : State) (src l : Nat) : Lambda := tget {} s.mrc.lambdas (src * 96 + l)
def spareOf (s : State) (src : Nat) : Spare := tget {} s.mrc.spares src

/-- Slots of one class waiting at a station's egress (R119). -/
def depthOf (s : State) (src cls : Nat) : Nat :=
  (s.mrc.queues.filterMap (fun p =>
    if p.1 / 8 / 36 = src ∧ p.1 % 8 = cls then some ((p.2.map (·.slots)).sum) else none)).sum

/-- The station's peak depth follows its depth, saturating at 16 bits. -/
def notePeak (src cls : Nat) (s : State) : State :=
  let d := depthOf s src cls
  let c := tget {} s.mrc.count src
  let old := (tget 0 c.peak cls).toNat
  if d ≤ old then s
  else { s with mrc := { s.mrc with
    count := tset {} s.mrc.count src { c with peak := tset 0 c.peak cls (BitVec.ofNat 16 (min d 65535)) } } }

/-- An ordered pair takes nothing: it is fenced, or one of its stations is (R382). -/
def pairFenced (s : State) (src dst : Nat) : Bool :=
  src != dst && (fenced s (uPair src dst) || stationFenced s src || stationFenced s dst)

/-- The pair's wavelengths carry traffic: both stations are of the variant and hold no spacer (R6, R24). -/
def pairLit (s : State) (src dst : Nat) : Bool := src == dst || (stationLit s src && stationLit s dst)

/-- Put a message in its class queue at the source station (R109); on a fenced pair it is discarded (R382), and toward a
station that has no die or is not of the variant nothing is sent (R24). -/
def sendMsg (src dst cls : Nat) (m : MrMsg) (s : State) : State :=
  if pairFenced s src dst || !pairLit s src dst then s
  else
    let m := { m with no := s.mrc.nextNo }
    notePeak src cls { s with mrc := { s.mrc with
      nextNo := s.mrc.nextNo + 1
      queues := tupd [] s.mrc.queues (pcKey src dst cls) (· ++ [m]) } }

/-- Send one SIG or COL message to several stations: the own station's copy by R490, the rest as a multicast (R115). -/
def sendMulti (src : Nat) (dsts : List Nat) (cls : Nat) (m : MrMsg) (s : State) : State :=
  let others := dsts.filter (fun d => d != src && !pairFenced s src d && pairLit s src d)
  let s := if dsts.contains src then sendMsg src src cls m s else s
  match others with
  | [] => s
  | [d] => sendMsg src d cls m s
  | ds =>
    let g := s.mrc.nextNo + 1
    ds.foldl (fun s d => sendMsg src d cls { m with mc := ds, grp := g } s) s

/-- Wavelengths of a pair in service, its own ones (R117). -/
def lambdasIn (s : State) (src dst : Nat) : List Nat :=
  (lambdasOf src dst).filter (fun l => !(tget {} s.mrc.lambdas (src * 96 + l)).out)

/-- The slots reserved for a pair and class (R106); a pair to the own station has the amounts of a pair of one wavelength
(R490). The COL pool is what the contexts reserve, given by the caller's sum. -/
def reserved (src dst cls colSlots : Nat) : Nat :=
  let w := if src = dst then 1 else assigned src dst
  if cls = cMGT then 2 else if cls = cSIG then 8 else if cls = cREQ then 24 * w else if cls = cRSP then 24 * w
  else if cls = cFWD then 16 * w else if cls = cCOL then colSlots else if cls = cMIR then 4 else 0

/-- Credits that a sender holds for a pair and class (R106). -/
def creditsOf (s : State) (src dst cls : Nat) : Nat :=
  reserved src dst cls (colReserved s src dst) - tget 0 s.mrc.used (pcKey src dst cls)

/-- Take credits for a message and note its job (R113). -/
def takeCredits (src dst cls : Nat) (m : MrMsg) (s : State) : State :=
  { s with mrc := { s.mrc with
    used := tupd 0 s.mrc.used (pcKey src dst cls) (· + m.slots)
    jobs := tupd [] s.mrc.jobs (pairKey src dst) (· ++ [{ cls := cls, slots := m.slots, job := m.job, flow := m.flow }]) } }

/-- Take n slots of a class away from the notes of a pair, oldest first. -/
def dropNotes (cls : Nat) : Nat → List CreditNote → List CreditNote
  | _, [] => []
  | n, x :: t =>
    if n = 0 then x :: t
    else if x.cls = cls then (if x.slots ≤ n then dropNotes cls (n - x.slots) t else { x with slots := x.slots - n } :: t)
    else x :: dropNotes cls n t

/-- The flow slots that n returned credits deliver. -/
def doneFlows (cls : Nat) : Nat → List CreditNote → List (Nat × List Word32)
  | _, [] => []
  | n, x :: t =>
    if n = 0 then []
    else if x.cls = cls then (if x.slots ≤ n then x.flow.toList ++ doneFlows cls (n - x.slots) t else [])
    else doneFlows cls n t

/-- Slots of a receiving flow are delivered: FACK passes those with no gap below them (R298). -/
def advanceFack (f : RxFlow) : Nat → Word32 → Word32
  | 0, k => k
  | fuel + 1, k => if f.delivered.contains k then advanceFack f fuel (k + 1) else k

/-- A slot that became n messages is delivered with the last of them. -/
def flowParts (ctx : Nat) (seqs : List Word32) (n : Nat) (s : State) : State :=
  if n ≤ 1 then s
  else modPod (fun p => { p with
    rx := p.rx.map (fun f => if f.ctx = ctx then { f with parts := f.parts ++ seqs.map (fun q => (q, n - 1)) } else f) }) s

/-- Take one message of a slot from those still to be delivered; with none left the slot itself is. -/
def takePart (a : List (Word32 × Nat) × List Word32) (q : Word32) : List (Word32 × Nat) × List Word32 :=
  match a.1.find? (fun p => p.1 == q) with
  | none => (a.1, a.2 ++ [q])
  | some p => (if p.2 ≤ 1 then a.1.erase p else (q, p.2 - 1) :: a.1.erase p, a.2)

def flowDelivered (ctx : Nat) (seqs : List Word32) (s : State) : State :=
  modPod (fun p => { p with
    rx := p.rx.map (fun f =>
      if f.ctx = ctx then
        let r := seqs.foldl takePart (f.parts, [])
        let f : RxFlow := { f with parts := r.1, delivered := f.delivered ++ r.2 }
        let k := advanceFack f f.delivered.length f.fack
        let live (x : Word32) : Bool := decide ((x - k).toNat < 2 ^ 31)
        { f with
          fack := k
          delivered := f.delivered.filter live
          seen := f.seen.filter live
          dirty := f.dirty || k != f.fack
          lastUse := s.now }
      else f) }) s

/-- Credits return to the sender (R107). -/
def returnCredits (src dst cls n : Nat) (s : State) : State :=
  let notes := tget [] s.mrc.jobs (pairKey src dst)
  let s := { s with mrc := { s.mrc with
    used := tupd 0 s.mrc.used (pcKey src dst cls) (· - n)
    jobs := tset [] s.mrc.jobs (pairKey src dst) (dropNotes cls n notes) } }
  (doneFlows cls n notes).foldl (fun s d => flowDelivered d.1 d.2 s) s

/-- A slot leaves a receive buffer: its credit waits for the next flit of the reverse pair (R107); on the own station it
returns at once (R490). -/
def freeSlots (src dst cls n : Nat) (s : State) : State :=
  if src = dst then returnCredits src dst cls n s
  else { s with mrc := { s.mrc with freed := tupd 0 s.mrc.freed (pcKey src dst cls) (· + n) } }

/-- A fenced message may leave: every earlier message of its job on the pair has left, and the credits of all of them
have returned (R113). -/
def fenceFree (s : State) (src dst : Nat) (m : MrMsg) : Bool :=
  !m.fence ||
    ((tget [] s.mrc.jobs (pairKey src dst)).all (fun e => e.job != m.job) &&
     (List.range 7).all (fun c => (tget [] s.mrc.queues (pcKey src dst c)).all
       (fun x => decide (m.no ≤ x.no) || x.job != m.job)))

/-- The copy of a multicast that waits toward a destination (R115). -/
def copyOf (s : State) (src cls g d : Nat) : Option MrMsg :=
  (tget [] s.mrc.queues (pcKey src d cls)).find? (fun x => x.grp == g && !x.paid)

/-- A multicast can leave: toward every destination that is left its pair is not down, a credit is held and its fence is free
(R113, R115, R118). -/
def launchable (s : State) (src cls : Nat) (m : MrMsg) : Bool :=
  m.mc.all (fun d =>
    !s.mrc.down.contains (pairKey src d) && decide (m.slots ≤ creditsOf s src d cls) &&
      (match copyOf s src cls m.grp d with
       | some x => fenceFree s src d x
       | none => false))

/-- A multicast that has reached the head of one of its queues and is not launched keeps another message of its class from
leaving toward any of its destinations, but for an earlier multicast and for an earlier message of its job that it is fenced
behind (R113, R115). Log entry 94 (DESIGN CHOICE). -/
def barred (s : State) (src dst cls : Nat) (m : MrMsg) : Bool :=
  (List.range 36).any (fun d =>
    match tget [] s.mrc.queues (pcKey src d cls) with
    | h :: _ => h.grp != 0 && !h.paid && h.mc.contains dst && h.grp != m.grp && !(m.grp != 0 && decide (m.grp < h.grp)) &&
        !(h.fence && h.job == m.job && (match copyOf s src cls h.grp dst with
          | some x => decide (m.no < x.no)
          | none => false))
    | [] => false)

/-- Launch a multicast: take the credits of every destination at once; each copy leaves next on its pair (R115). -/
def launch (src cls : Nat) (m : MrMsg) (s : State) : State :=
  m.mc.foldl (fun s d =>
    match copyOf s src cls m.grp d with
    | some x =>
      let s := takeCredits src d cls x s
      { s with mrc := { s.mrc with
        queues := tupd [] s.mrc.queues (pcKey src d cls) (fun q => { x with mc := [], paid := true } :: q.erase x) } }
    | none => s) s

/-- The head of a class queue can leave now: its credits held or to be had, its fence free, no multicast before it. -/
def headReady (s : State) (src dst cls : Nat) : Bool :=
  match tget [] s.mrc.queues (pcKey src dst cls) with
  | [] => false
  | h :: _ =>
    h.paid || (!barred s src dst cls h && (if h.grp = 0 then fenceFree s src dst h && decide (h.slots ≤ creditsOf s src dst cls)
      else launchable s src cls h))

/-- The head of a class queue waits for lack of a credit (R119). -/
def headStalled (s : State) (src dst cls : Nat) : Bool :=
  match tget [] s.mrc.queues (pcKey src dst cls) with
  | [] => false
  | h :: _ => !h.paid && ((if h.grp = 0 then [dst] else h.mc).any (fun d => decide (creditsOf s src d cls < h.slots)))

/-- The station of a response buffer (R108, R157, R184). -/
def bufStation (b : Nat) : Nat := if b < 36 then b else if b < 52 then wsOf ((b - 36) / 4) else wsOf 0

/-- A request of this node leaves its station: its timeout runs from now (R143). -/
def stampReq (src : Nat) (m : MrMsg) (s : State) : State :=
  match m.pay with
  | .req q =>
    if bufStation q.buf = src ∧ q.node = s.ident.node then
      match tget none s.mem.slots (q.buf * 8192 + q.slot) with
      | some o =>
        if o.gen = q.gen ∧ o.sent = none then
          modMem (fun x => { x with slots := tset none x.slots (q.buf * 8192 + q.slot) (some { o with sent := some s.now }) }) s
        else s
      | none => s
    else s
  | _ => s

/-- Take the head of a class queue with its credits. -/
def takeHead (src dst cls : Nat) (s : State) : Option MrMsg × State :=
  let s := match tget [] s.mrc.queues (pcKey src dst cls) with
    | h :: _ => if h.paid || h.grp = 0 then s else launch src cls h s
    | [] => s
  match tget [] s.mrc.queues (pcKey src dst cls) with
  | [] => (none, s)
  | h :: t =>
    let s := if h.paid then s else takeCredits src dst cls h s
    (some { h with paid := true },
      stampReq src h { s with mrc := { s.mrc with queues := tset [] s.mrc.queues (pcKey src dst cls) t } })

/-- Send a forwarded message: its header and its lines are slots of their own, each under its credit (R105, R106, R304).
Log entry 61 (DEDUCED). -/
def sendFwd (src dst job : Nat) (node : Word16) (fence : Bool) (m : FwdMsg) (s : State) : State :=
  let id := s.mrc.nextNo
  let n := m.lines.length
  (m.lines.zip (List.range n)).foldl (fun s p =>
      sendMsg src dst cFWD { pay := .fwdLine id p.2 (p.2 + 1 == n) p.1, bytes := 64, job := job, node := node } s)
    (sendMsg src dst cFWD { pay := .fwdHdr id n { m with lines := [] }, bytes := 16, fence := fence, job := job, node := node } s)

/-- Put a message in the receive buffer of its class. -/
def putRx (src dst cls : Nat) (m : MrMsg) (s : State) : State :=
  { s with mrc := { s.mrc with rx := tupd [] s.mrc.rx (pcKey src dst cls) (· ++ [m]) } }

/-- The first message in a receive buffer of a destination and class that satisfies a test: its source and the buffer
without it. Log entry 13 (DESIGN CHOICE). -/
def findRx (s : State) (dst cls : Nat) (p : Payload → Bool) : Option (Nat × MrMsg) :=
  (List.range 36).findSome? (fun src =>
    ((tget [] s.mrc.rx (pcKey src dst cls)).find? (fun m => p m.pay)).map (fun m => (src, m)))

/-- Take that message out of its buffer and free its credits. -/
def takeRx (dst cls : Nat) (src : Nat) (m : MrMsg) (s : State) : State :=
  freeSlots src dst cls m.slots
    { s with mrc := { s.mrc with rx := tupd [] s.mrc.rx (pcKey src dst cls) (·.erase m) } }

end Sys2Proof.Machine
end

