-- ==== Sys2Proof/Machine/Jobs.lean ====
section
/-! DEFINITION. What the job table says (R425, R426): a job's sites, stations, members and access windows. -/

namespace Sys2Proof.Machine

open Sys2Proof

def jobOf (s : State) (j : Nat) : Job := tget {} s.role.jobs j

/-- Word k (bytes 4k to 4k + 3) of a job record. -/
def jobWord (s : State) (j k : Nat) : Word32 := tget 0 (jobOf s j).words k

def jobPod (s : State) (j : Nat) : Word32 := jobWord s j 0
def jobSites (s : State) (j : Nat) : List Nat := (List.range 12).filter (fun n => bit (jobWord s j 1) n)
def jobWeight (s : State) (j : Nat) : Nat := fld (jobWord s j 1) 16 8
/-- [0] SYNC, [2:1] PACE_FOLLOW, [3] SITE_OPERATOR. -/
def jobFlags (s : State) (j : Nat) : Nat := fld (jobWord s j 1) 24 8
def jobSync (s : State) (j : Nat) : Bool := jobFlags s j % 2 == 1
def jobPaceFollow (s : State) (j : Nat) : Nat := jobFlags s j / 2 % 4
def jobSiteOperator (s : State) (j : Nat) : Bool := jobFlags s j / 8 % 2 == 1

/-- The stations a job owns: the SS stations of its sites and those of STATIONS, bytes 8 to 12 (R426). -/
def jobStations (s : State) (j : Nat) : List Nat :=
  ((jobSites s j).map ssOf ++
    (List.range 36).filter (fun k => if k < 32 then bit (jobWord s j 2) k else bit (jobWord s j 3) (k - 32))).eraseDups

def jobFirst (s : State) (j : Nat) : Nat := fld (jobWord s j 4) 0 16
def jobLast (s : State) (j : Nat) : Nat := fld (jobWord s j 4) 16 16
def jobStride (s : State) (j : Nat) : Nat := fld (jobWord s j 5) 0 16

/-- A node is a member of a job: first, first + stride, ... up to last. -/
def jobMember (s : State) (j node : Nat) : Bool :=
  let st := max 1 (jobStride s j)
  decide (jobFirst s j ≤ node ∧ node ≤ jobLast s j ∧ (node - jobFirst s j) % st = 0)

/-- Window k of a job covers a node and an offset, with WRITE where it is asked for (R425, R426). -/
def windowCovers (s : State) (j k node off : Nat) (write : Bool) : Bool :=
  let a := jobWord s j (8 + 3 * k)
  let b := (jobWord s j (9 + 3 * k)).toNat
  let c := jobWord s j (10 + 3 * k)
  decide (fld a 0 16 ≤ node ∧ node ≤ fld a 16 16 ∧ b * 65536 ≤ off ∧ off < (b + fld c 0 25) * 65536)
    && (!write || bit c 25)

/-- A request is within a job's windows (R426). Log entry 32 (DEDUCED). -/
def allowed (s : State) (j node off : Nat) (write : Bool) : Bool :=
  ((jobOf s j).st == .running || (jobOf s j).st == .ending) &&
    (List.range 8).any (fun k => windowCovers s j k node off write)

def jobRunning (s : State) (j : Nat) : Bool := (jobOf s j).st == .running

/-- The running jobs. -/
def runningJobs (s : State) : List Nat := (List.range 256).filter (jobRunning s)

/-- The running job of a site. -/
def jobOfSite (s : State) (n : Nat) : Option Nat := (runningJobs s).find? (fun j => (jobSites s j).contains n)

/-- A running job owns a station. -/
def stationOwned (s : State) (st : Nat) : Bool := (runningJobs s).any (fun j => (jobStations s j).contains st)

/-! ### Traffic by energy tag (R369, R370) -/

/-- The energy tag of a job; 0 where no job accounts for the traffic. -/
def jobTag (s : State) (j : Nat) : Nat := if (jobOf s j).st == .running || (jobOf s j).st == .ending then (jobOf s j).tag else 0

/-- The tag of the running job that owns a station. -/
def ownerTag (s : State) (st : Nat) : Nat :=
  match (runningJobs s).find? (fun j => (jobStations s j).contains st) with
  | some j => jobTag s j
  | none => 0

/-- Lines read or written at a memory station, and payload bytes through a station port, of a tag in this millisecond. -/
def noteLines (tag n : Nat) (s : State) : State := modGaf (fun g => { g with lines := tupd 0 g.lines tag (· + n) }) s
def noteBytes (tag n : Nat) (s : State) : State := modGaf (fun g => { g with bytes := tupd 0 g.bytes tag (· + n) }) s

end Sys2Proof.Machine
end

