-- ==== Sys2Proof/Machine/MemOps.lean ====
section
/-! DEFINITION. The address map, the home hash, poison, and the writes that pool and millpond take from every source
(R121, R122, R135 to R137, R148 to R150, R165, R171, R172, R188, R189). -/

namespace Sys2Proof.Machine

open Sys2Proof

def millBase : Nat := 0x400000000000
def setBase : Nat := 0x410000000000
def clrBase : Nat := 0x420000000000
def millSize : Nat := 0x8000000

/-- What an offset of this node is (R122), with the byte offset inside it. -/
inductive Zone where
  | pool (off : Nat)
  | mill (o : Nat)
  | bitSet (o : Nat)
  | bitClear (o : Nat)
  | unmapped
deriving DecidableEq, Repr

/-- Node number and offset of a pod address (R121), bit 0 cleared (R125). -/
def addrNode (a : Word64) : Nat := fld a 48 16
def addrOff (a : Word64) : Nat := fld a 0 48 / 2 * 2

/-- The bank of a millpond offset (R165). -/
def bankAt (o : Nat) : Nat := o / 0x400000 % 32

/-- The zone of an offset; `inner` admits the replica pool for the base's own accesses (R159). -/
def zoneOf (s : State) (inner : Bool) (off : Nat) : Zone :=
  let top := s.mem.addressable + (if inner then s.blk.replicaGib else 0)
  if off / 2 ^ 30 < top then .pool off
  else if millBase ≤ off ∧ off < millBase + millSize ∧ hasBank s.part.variant (bankAt (off - millBase)) = true then .mill (off - millBase)
  else if setBase ≤ off ∧ off < setBase + millSize ∧ hasBank s.part.variant (bankAt (off - setBase)) = true then .bitSet (off - setBase)
  else if clrBase ≤ off ∧ off < clrBase + millSize ∧ hasBank s.part.variant (bankAt (off - clrBase)) = true then .bitClear (off - clrBase)
  else .unmapped

/-! ### Line homes (R148 to R150) -/

/-- Step 5 of R148: the home-table entry of a pool line. -/
def homeIndex (off : Nat) : Nat :=
  let l := off / 64 % 2 ^ 34
  let b := l / 256
  let t := b % 3
  let x := ((l / 2 ^ 8 % 256) ^^^ (l / 2 ^ 16 % 256)) ^^^ ((l / 2 ^ 24 % 256) ^^^ (l / 2 ^ 32 % 4))
  let f := (l % 256) ^^^ x
  256 * t + f

/-- The memory station that entry i names (R149). -/
def homeEntry (s : State) (i : Nat) : Nat :=
  match s.mem.home with
  | some t => t.getD i 0
  | none =>
    let ms := memStations s.part.variant
    ms.getD (i % ms.length) 0

/-- The entry's position among its station's entries (R149). -/
def homeRank (s : State) (i : Nat) : Nat := ((List.range i).filter (fun k => homeEntry s k == homeEntry s i)).length

def homeOf (s : State) (off : Nat) : Nat := homeEntry s (homeIndex off)

/-- Local line of a pool line in its station's stack (R150). -/
def localLine (s : State) (off : Nat) : Nat :=
  let l := off / 64 % 2 ^ 34
  768 / (memStations s.part.variant).length * (l / 256 / 3) + homeRank s (homeIndex off)

/-- The pool offset of a local line of a station: the inverse of R150 within one group of 768 lines. -/
def offsetOfLocal (s : State) (m : Nat) (line : Nat) : Nat :=
  let per := 768 / (memStations s.part.variant).length
  let grp := line / per
  let lines := (List.range 768).map (fun k => grp * 768 + k)
  match lines.find? (fun l => homeOf s (l * 64) == m && localLine s (l * 64) == line) with
  | some l => l * 64
  | none => 0

/-! ### Memory stations -/

def msSt (s : State) (m : Nat) : MsSt := tget {} s.mem.stations m
def modMs (m : Nat) (f : MsSt → MsSt) (s : State) : State :=
  modMem (fun x => { x with stations := tupd {} x.stations m f }) s

/-- Installed capacity in service, in GiB (R147). -/
def installedGib (s : State) : Nat :=
  s.part.stackGib * ((memStations s.part.variant).filter (fun m => (msSt s m).st != 0 && !memFenced s m)).length

/-- POISON of a pool line (R137, R140). Log entry 9 (DESIGN CHOICE). -/
def poisonOf (s : State) (off : Nat) : Bool :=
  (msSt s (homeOf s off)).allPoison != tget false s.mem.flips (off / 64)

/-- Store a line's POISON bit. -/
def setPoison (off : Nat) (p : Bool) (s : State) : State :=
  let dflt := (msSt s (homeOf s off)).allPoison
  modMem (fun m => { m with flips := tset false m.flips (off / 64) (p != dflt) }) s

/-- Lines now stored with POISON set at a station (R147). -/
def poisonLines (s : State) (m : Nat) : Nat :=
  let n := (s.mem.flips.filter (fun p => homeOf s (p.1 * 64) == m)).length
  if (msSt s m).allPoison then s.part.stackGib * 2 ^ 24 - n else n

/-- Write a pool line (R129, R137): a full mask sets POISON to the slot's flag, a partial one leaves it. A write stores a valid
line code. -/
def poolWrite (off : Nat) (mask : Word64) (data : Line) (poison : Bool) (s : State) : State :=
  let s := modMem (fun m => { m with cells := lineSet m.cells off mask data, symErrs := tset [] m.symErrs (off / 64) [] }) s
  if mask = fullMask then setPoison off poison s else s

/-! ### Millpond words and watches -/

/-- A millpond word is uncorrectable (R172). Log entry 9 (DESIGN CHOICE). -/
def wordBad (s : State) (w : Nat) : Bool := tget false s.mem.badWords w

/-- Some word of a millpond line is uncorrectable. -/
def lineBad (s : State) (o : Nat) : Bool := (List.range 8).any (fun k => wordBad s (o / 8 + k))

def millWord (s : State) (w : Nat) : Word64 := wordGet s.mem.cells (millBase + 8 * w)
def millLine (s : State) (o : Nat) : Line := lineGet s.mem.cells (millBase + o)

/-- The words of a line that a mask touches, and those it covers whole. -/
def touched (mask : Word64) : List Nat := (List.range 8).filter (fun k => mask.extractLsb' (8 * k) 8 != 0)
def covered (mask : Word64) : List Nat := (List.range 8).filter (fun k => mask.extractLsb' (8 * k) 8 == 0xFF)

/-- A watch fires with a value (R188, R189). Log entry 37 (DEDUCED). -/
def fireWatch (slot : Nat) (v : Word64) (s : State) : State :=
  let w := tget {} s.grp.watches slot
  let again := w.notice.isSome
  modGrp (fun g => { g with
    coalesced := if again then sat32 g.coalesced 1 else g.coalesced
    watches := tset {} g.watches slot { w with
      notice := some v
      st := if w.mode = 2 then 1 else 2
      threshold := if w.mode = 2 then w.threshold + w.step.setWidth 64 else w.threshold } }) s

/-- Evaluate every armed watch on a word after a write (R188). -/
def evalWatches (w : Nat) (s : State) : State :=
  let v := millWord s w
  let hit := s.grp.watches.filter (fun p => p.2.st == 1 && p.2.word == w && decide (p.2.threshold.toNat ≤ v.toNat))
  hit.foldl (fun s p => fireWatch p.1 v s) s

/-- Write the masked bytes of a millpond line (R170, R172): a word written whole becomes correctable again, unless the
store carries the poison flag with a full mask (R137). Watches see each word touched. -/
def millWrite (o : Nat) (mask : Word64) (data : Line) (poison : Bool) (s : State) : State :=
  let bad := poison && mask == fullMask
  let s := modMem (fun m => { m with
    cells := lineSet m.cells (millBase + o) mask data
    badWords := (covered mask).foldl (fun t k => tset false t (o / 8 + k) bad) m.badWords }) s
  (touched mask).foldl (fun s k => evalWatches (o / 8 + k) s) s

/-- Write one millpond word. -/
def millWordWrite (w : Nat) (v : Word64) (s : State) : State :=
  let s := modMem (fun m => { m with
    cells := wordSet m.cells (millBase + 8 * w) v
    badWords := tset false m.badWords w false }) s
  evalWatches w s

/-- A word of the range that only the base writes: the dailies (R460). -/
def dailyRange (o : Nat) : Bool := decide (0x1F00000 ≤ o ∧ o < 0x2000000)

/-- Count corrected and uncorrectable words of a bank (R172, R191). -/
def bankCorrected (o : Nat) (s : State) : State :=
  raise .bankCorrected 6 (bankAt o) (millBase + o)
    (modMpd (fun m => { m with corr := tupd 0 m.corr (bankAt o) (sat32 · 1) }) s)

def bankUncorrectable (o : Nat) (s : State) : State :=
  raise .bankUncorrectable 6 (bankAt o) (millBase + o)
    (modFlt (fun f => { f with
      bankWords := tupd [] f.bankWords (bankAt o) (fun l => s.now :: l.filter (fun t => decide (s.now < t + 1000000000))) })
      (modMpd (fun m => { m with uncorr := tupd 0 m.uncorr (bankAt o) (sat32 · 1) }) s))

/-- A unit of the base meets the words of a millpond line that it reads: each uncorrectable one is an event (R172). -/
def millMeet (o : Nat) (s : State) : State :=
  ((List.range 8).filter (fun k => wordBad s (o / 8 + k))).foldl (fun s k => bankUncorrectable (o / 64 * 64 + 8 * k) s) s

/-- A line as a unit of the base reads it: the error line where its bank is fenced or a word of it is uncorrectable
(R172, R173). -/
def unitLine (s : State) (o : Nat) : Line × Bool :=
  if bankFenced s (bankAt o) || lineBad s o then (errorLine, true) else (millLine s o, false)

/-- That line, and the events that its bad words are. -/
def unitRead (o : Nat) (s : State) : (Line × Bool) × State :=
  (unitLine s o, if bankFenced s (bankAt o) then s else millMeet o s)

/-- The owner of a bank: kind and station (R166). -/
def bankOwner (s : State) (b : Nat) : Nat × Nat :=
  match s.mpd.owners with
  | some t => t.getD b (0, 0)
  | none =>
    let f := b / 8
    let i := b % 8
    if i < 3 then (1, ssOf (3 * f + i)) else if i < 5 then (1, xsOf (2 * f + i - 3))
    else if i = 5 then (2, 0) else if i = 6 then (3, 0) else (4, 0)

/-- A unit uses a bank: where it is the owner, DMA accesses wait in this tick (R167). The rule gives turns, not ticks: here a
DMA access waits in a tick in which the owner has used its bank. Log entry 96 (DESIGN CHOICE). -/
def ownerTurn (kind station b : Nat) (s : State) : State :=
  if bankOwner s b == (kind, if kind = 1 then station else 0) then
    modMpd (fun m => { m with ownerUse := if m.ownerUse.contains b then m.ownerUse else b :: m.ownerUse }) s
  else s

/-- Bits in error in word k of a line. -/
def wordErrors (errs : List (Nat × Byte)) (k : Nat) : Nat :=
  ((errs.filter (fun e => e.1 / 8 == k)).map (fun e => popcount e.2.toNat 8)).sum

/-- What the (72,64) code of a millpond access found (R172): a corrected word is written back, an uncorrectable one stays so.
Log entry 14 (DESIGN CHOICE). -/
def millCheck (o : Nat) (v : Verdict) (s : State) : State :=
  let bad (k : Nat) (s : State) : State := modMem (fun m => { m with badWords := tset false m.badWords (o / 8 + k % 8) true }) s
  match v with
  | .clean => s
  | .corrected k => bankCorrected (o + 8 * (k % 8)) s
  | .uncorrectable k => bad k s
  | .symbols _ errs => (List.range 8).foldl (fun s k =>
      if wordErrors errs k = 0 then s else if wordErrors errs k = 1 then bankCorrected (o + 8 * k) s else bad k s) s

/-- Channel and pseudo-channel of a local line (R150). -/
def lineChannel (l : Nat) : Nat := (l % 32) ^^^ (l / 256 % 32)
def linePseudoChannel (l : Nat) : Nat := l / 32 % 2

/-- What the line code makes of a codeword's symbols in error (R136, R137). -/
def lineOutcome : Verdict → Verdict
  | .symbols _ errs => (match rsDecode 68 errs with
      | .clean => .clean
      | .fix i _ => .corrected i
      | .fail => .uncorrectable 0)
  | v => v

/-- The symbols of a stored line that are in error when it is read: those that the stack presents now stay until the line is
written again, and the reports of its own ECC are counted (R134). -/
def stackRead (off : Nat) (v : Verdict) (s : State) : Verdict × State :=
  match v with
  | .symbols d errs =>
    (v, modMem (fun m => { m with symErrs := tset [] m.symErrs (off / 64) errs })
      (if d then modMs (homeOf s off) (fun m => { m with onDie := sat32 m.onDie 1 }) s else s))
  | .clean => (.symbols false (tget [] s.mem.symErrs (off / 64)), s)
  | v => (v, s)

/-- What the line code of a pool read found (R137): a corrected line is counted, an uncorrectable one is stored back with
POISON set. The outcome by symbols is computed (R136); one given as such is taken. Log entry 14 (DESIGN CHOICE). -/
def poolCheck (off : Nat) (v : Verdict) (s : State) : State :=
  let r := stackRead off v s
  let s := r.2
  match lineOutcome r.1 with
  | .uncorrectable _ =>
    if poisonOf s off then s
    else
      raise .lineUncorrectable 2 (homeOf s off) off
        (modMem (fun m => { m with symErrs := tset [] m.symErrs (off / 64) [] })
          (setPoison off true (modMs (homeOf s off) (fun m => { m with uncorr := sat32 m.uncorr 1 }) s)))
  | .corrected _ => modMs (homeOf s off) (fun m => { m with corr := sat32 m.corr 1 }) s
  | _ => s

/-- The line that a checked pool read returns: what is stored, with the symbols in error that the decoder has not put right, as
where three or more look like another codeword (R136). -/
def readLine (s : State) (off : Nat) : Line :=
  let l := lineGet s.mem.cells off
  match tget [] s.mem.symErrs (off / 64) with
  | [] => l
  | errs => ((rsResidue 68 errs).filter (fun e => decide (e.1 < 64))).foldl (fun (l : Line) (e : Nat × Byte) => l ^^^ (BitVec.setWidth 512 e.2 <<< (8 * e.1))) l

/-- A pool read (R137): the line, or the error line with POISON. -/
def poolRead (off : Nat) (v : Verdict) (s : State) : (Line × Bool) × State :=
  let s := poolCheck off v s
  (if poisonOf s off then (errorLine, true) else (readLine s off, false), s)

/-- A read whose line is written back after it: the corrected line with a valid line code (R137, R138). -/
def poolMend (off : Nat) (v : Verdict) (s : State) : State :=
  let s := poolCheck off v s
  match tget [] s.mem.symErrs (off / 64) with
  | [] => s
  | _ => modMem (fun m => { m with cells := lineSet m.cells off fullMask (readLine s off), symErrs := tset [] m.symErrs (off / 64) [] }) s

/-- Take the next free value (R182). Log entries 19 (DESIGN CHOICE), 36 (DEDUCED). -/
def nextFree (s : State) : Nat × State := (s.mem.freeCtr, modMem (fun m => { m with freeCtr := m.freeCtr + 1 }) s)

end Sys2Proof.Machine
end

