-- ==== Sys2Proof/Machine/Digest.lean ====
section
/-! DEFINITION. The continuity digest: SHA-256 over the canonical form (R431). -/

namespace Sys2Proof.Machine

open Sys2Proof

/-- The canonical form with a REEL_ID (R431). Log entry 93 (DEDUCED). -/
def canonical (s : State) (reelId : Nat) : List Byte :=
  let v := match s.part.variant with | .s3 => 3 | .s6 => 6 | .s12 => 12
  leBytes 2 1 ++ leBytes 1 v ++ leBytes 1 0xB0 ++ leBytes 1 s.part.stackGib ++ leBytes 4 s.ident.fwVersion.toNat ++
    (match s.boot.script with | some x => x.podBytes | none => []) ++
    (List.range 768).map (fun i => BitVec.ofNat 8 (homeEntry s i)) ++ leBytes 4 s.role.routeId.toNat ++ leBytes 2 reelId

/-- Digest bytes 0 to 7 as a little-endian number. Log entry 93 (DEDUCED). -/
def digestValue (s : State) (reelId : Nat) : Word64 := BitVec.ofNat 64 (leNat ((sha256 (canonical s reelId)).take 8))

/-- The module's own state is matched (R432). -/
def selfMatched (s : State) : Bool := s.role.digest == s.role.expect || s.role.digest == s.role.expectAlt

/-- CONTINUITY_MISMATCH, at most once per second (R434). Log entry 82 (DEDUCED). -/
def contMismatch (s : State) : State := raiseRated .continuityMismatch 0 1000000000 10 8 0 s

/-- A change of the digest or of its expected values; the own state leaving matched is told once READY (R434, R435). -/
def contChange (f : RoleSt → RoleSt) (s : State) : State :=
  let t := modRole f s
  if s.boot.ready && selfMatched s && !selfMatched t then contMismatch t else t

/-- The digest with the reel of a slot active, and with the reel that is active now. -/
def digestOf (s : State) (slot : Nat) : Word64 := digestValue s (hdrReelId s slot)
/-- The digest over the state as it is, with the REEL_ID of the reel that runs (R431, R432). Log entry 93 (DEDUCED). -/
def digestNow (s : State) : Word64 := digestValue s (if reelActive s then hdrReelId s s.tc.activeSlot else 0)

end Sys2Proof.Machine
end

