-- ==== Sys2Proof/Machine/Millrace.lean ====
section
/-! DEFINITION. The millrace: sending and receiving flits, losing a wavelength, the spare, peak clears (chapter 04). -/

namespace Sys2Proof.Machine

open Sys2Proof

/-- The local index of a station's drop ring for an assigned wavelength of a source, and of its spare-watch ring (R321). -/
def dropRing (src dst l : Nat) : Nat :=
  dst * 1024 + 384 + ((List.range src).map (fun x => assigned x dst)).sum + (l - lambdaBase src dst)
def spareRing (src dst : Nat) : Nat :=
  dst * 1024 + 384 + ((List.range 36).map (fun x => assigned x dst)).sum + (if src < dst then src else src - 1)
/-- The modulator of a transmit wavelength (R321). -/
def mrModulator (src l : Nat) : Nat := src * 1024 + 256 + l

/-- The destination's spare-watch ring for the source is in service (R118). -/
def spareOk (s : State) (src dst : Nat) : Bool := elemOk s (spareRing src dst) && elemOk s (mrModulator src 95)

/-- A station waits in a pause that runs (R65). A memory station that retrains at 4.0 Gb/s after a pause that timed out serves
accesses (R139). Log entry 94 (DESIGN CHOICE). -/
def pausedNow (s : State) (st : Nat) : Bool := (tget {} s.tc.pauses st).st == .running

/-- A station stands still: its memory stack is in self-refresh and the memory station stopped, in safe state (R345, R378), in the
dark state (R415), and through a pause (R65, R139). Reset ends it with the rest (R477). -/
def stationRests (s : State) (st : Nat) : Bool := s.flt.safe || s.boot.dark || pausedNow s st

/-- A wavelength carries the pair: one of its own in service, or the spare remapped to it. -/
def carries (s : State) (src dst l : Nat) : Bool :=
  if pairFenced s src dst || !pairLit s src dst then false
  else if l = 95 then
    let sp := spareOf s src
    sp.dest == some dst && sp.remapping.isNone && !(lamOf s src 95).out
  else (lambdasIn s src dst).contains l

/-- The slot that a signal or notice fills on a site interface (R190, R258). -/
def sigSlot (own : Word16) : MrMsg → Option Slot
  | { pay := .signal p, source := k, .. } => some (signalSlot p k)
  | { pay := .watchNotice _ v slot tag, .. } =>
    some { cls := 1, op := 8, data := pput 0 0 v.toNat ||| pput 0 64 (slot + 2 ^ 15) ||| pput 0 80 tag.toNat }
  | { pay := .copyNotice _ q st n tag, .. } =>
    some { cls := 1, op := 9, data := pput 0 0 (q + st * 2 ^ 8 + n % 2 ^ 48 * 2 ^ 16) ||| pput 0 64 (2 ^ 15) ||| pput 0 80 tag.toNat }
  | _ => none

/-- The forwarded message that is being delivered at a station: the one that a slot belongs to, or any. -/
def fwdRec (s : State) (dst src id : Nat) : Option FwdIn :=
  s.mrc.fwdIn.find? (fun r => r.dst == dst && r.src == src && r.id == id)
def fwdBusy (s : State) (dst : Nat) : Bool := s.mrc.fwdIn.any (fun r => r.dst == dst)

/-- The next line of a message has been delivered, or its last. -/
def fwdStep (r : FwdIn) (last : Bool) (s : State) : State :=
  modMrc (fun m => { m with
    fwdIn := if last then m.fwdIn.erase r else m.fwdIn.map (fun x => if x == r then { r with next := r.next + 1 } else x) }) s

/-- A slot of a forwarded message enters the send queue of its flow, in order (R113, R304); none while it waits. -/
def fwdToFlow (dst src : Nat) (m : MrMsg) (s : State) : Option State :=
  if routeHeld s m.node then none
  else
    match txFlow s m.node m.job 4, m.pay with
    | some f, .fwdHdr id n w =>
      if (fwdMsgs s f).length < 16 then
        let k := nextMsg s f
        some (flowPut f (fenceFirst m.fence [fwdHead { w with msg := k } n])
          (modMrc (fun c => { c with fwdIn := c.fwdIn ++ [{ dst := dst, src := src, id := id, node := m.node, job := m.job, msg := k }] }) s))
      else none
    | some f, .fwdLine id i last data =>
      (match fwdRec s dst src id with
       | some r => if r.next = i then some (fwdStep r last (flowPut f [fwdLine r.msg i last data] s)) else none
       | none => none)
    | _, _ => none

/-- A slot of a forwarded message enters an outbound hopper of its site, in order, one message after another (R304, R305).
Log entry 61 (DEDUCED). -/
def fwdToSite (dst src n : Nat) (m : MrMsg) (s : State) : Option State :=
  if !siteUp s n then
    match m.pay with
    | .fwdHdr .. | .fwdLine .. => some (modMrc (fun c => { c with fwdIn := c.fwdIn.filter (fun r => r.dst != dst) }) s)
    | _ => none
  else if !siteRoom s n none then none
  else
    match m.pay with
    | .fwdHdr id k w =>
      if fwdBusy s dst then none
      else some (modMrc (fun c => { c with fwdIn := c.fwdIn ++ [{ dst := dst, src := src, id := id, msg := w.msg }] })
        (siteDeliver n none { fwdHead w k with fence := m.fence } s))
    | .fwdLine id i last data =>
      (match fwdRec s dst src id with
       | some r => if r.next = i then some (fwdStep r last (siteDeliver n none (fwdLine r.msg i last data) s)) else none
       | none => none)
    | _ => none

/-- Deliver a message that needs no command of its own: a SIG or FWD slot into the hopper of its site (R113), anything at an
external station into its flow. The state without the message in the buffer, when it was taken. -/
def autoDeliver (src dst cls : Nat) (m : MrMsg) (s : State) : State :=
  match (kindOf dst).1 with
  | .xs => (match if cls = cFWD then fwdToFlow dst src m s else xsAccept dst cls m s with
      | some t => takeRx dst cls src m t
      | none => s)
  | .ss =>
    let n := (kindOf dst).2
    if cls = cSIG then
      match sigSlot s.ident.node m with
      | some x =>
        if !siteUp s n then takeRx dst cls src m s
        else if siteRoom s n none then takeRx dst cls src m (siteDeliver n none { x with fence := m.fence } s) else s
      | none => s
    else if cls = cFWD then (match fwdToSite dst src n m s with
      | some t => takeRx dst cls src m t
      | none => s)
    else s
  | _ => s

/-- Deliver what a receive buffer holds, in order, as often as one of its messages may make room for another. -/
def drainRx (src dst cls : Nat) : Nat → State → State
  | 0, s => s
  | fuel + 1, s =>
    let q := tget [] s.mrc.rx (pcKey src dst cls)
    let t := q.foldl (fun s m => autoDeliver src dst cls m s) s
    if (tget [] t.mrc.rx (pcKey src dst cls)).length = q.length then t else drainRx src dst cls fuel t

/-- Requests in a memory station's receive buffers reach its delivery point while the ordering queue has one of its 512 places
free (R113, R133); the peak of its depth follows (R147). -/
def combAdmit (home : Nat) (s : State) : State :=
  let (_, m) := kindOf home
  (List.range 36).foldl (fun s src =>
    (tget [] s.mrc.rx (pcKey src home cREQ)).foldl (fun s x =>
      match x.pay with
      | .req q =>
        let st : MsSt := tget {} s.mem.stations m
        let n := st.queue.length + 1
        if 512 < n then s
        else
          takeRx home cREQ src x (modMem (fun y => { y with
            stations := tset {} y.stations m { st with
              queue := st.queue ++ [q]
              combPeak := if st.combPeak.toNat < n then BitVec.ofNat 32 n else st.combPeak } }) s)
      | _ => s) s) s

/-- Place a message in its buffer and deliver it where no command does. Collective data at a millstone stands there as its
header and its lines (R205). -/
def arrive (src dst cls : Nat) (m : MrMsg) (s : State) : State :=
  match m.pay, (kindOf dst).1 with
  | .col _ h lines, .ws =>
    lines.foldl (fun s x => putRx src dst cls { m with pay := .colLine x.1 x.2, slots := 1 } s)
      (putRx src dst cls { m with pay := .colHdr h, slots := 1 } s)
  | _, _ =>
    let s := putRx src dst cls m s
    if cls = cREQ ∧ (kindOf dst).1 = .ms then combAdmit dst s
    else if cls = cFWD then drainRx src dst cls (tget [] s.mrc.rx (pcKey src dst cls)).length s else autoDeliver src dst cls m s

/-- The rotation of R109 step 2. Log entry 12 (DESIGN CHOICE). -/
def rotation : List Nat := [3, 2, 4, 5, 0, 6]

/-- SIG first, in arrival order (R109 step 1). -/
def fillSig (src dst : Nat) : Nat → Nat → List (Nat × MrMsg) → State → Nat × List (Nat × MrMsg) × State
  | 0, rem, acc, s => (rem, acc, s)
  | fuel + 1, rem, acc, s =>
    match tget [] s.mrc.queues (pcKey src dst cSIG) with
    | h :: _ =>
      if headReady s src dst cSIG && decide (h.slots ≤ rem) then
        match takeHead src dst cSIG s with
        | (some m, t) => fillSig src dst fuel (rem - m.slots) (acc ++ [(cSIG, m)]) t
        | (none, t) => (rem, acc, t)
      else (rem, acc, s)
    | [] => (rem, acc, s)

/-- The other classes in rotation (R109 step 2), from the class after the one taken last, until six classes in a row give
nothing. A class gives one slot a turn, or the slots of a message whose slots share a flit (R126, R205). The rotation, what the
flit holds, and the state. Log entry 12 (DESIGN CHOICE). -/
def fillRot (src dst : Nat) : Nat → Nat → Nat → List (Nat × MrMsg) → State → Nat × List (Nat × MrMsg) × State
  | 0, turn, _, acc, s => (turn, acc, s)
  | fuel + 1, turn, rem, acc, s =>
    let ready (k : Nat) : Bool :=
      let cls := rotation.getD ((turn + k) % 6) 3
      headReady s src dst cls && (match tget [] s.mrc.queues (pcKey src dst cls) with
        | h :: _ => decide (h.slots ≤ rem)
        | [] => false)
    match (List.range 6).find? ready with
    | none => (turn, acc, s)
    | some k =>
      let cls := rotation.getD ((turn + k) % 6) 3
      match takeHead src dst cls s with
      | (some m, t) => fillRot src dst fuel ((turn + k + 1) % 6) (rem - m.slots) (acc ++ [(cls, m)]) t
      | (none, t) => (turn, acc, t)

/-- Messages of a removed wavelength that fit, first (R117). -/
def fillResend : Nat → List (Nat × MrMsg) → List (Nat × MrMsg) × List (Nat × MrMsg)
  | _, [] => ([], [])
  | rem, (c, m) :: t =>
    if m.slots ≤ rem then
      let r := fillResend (rem - m.slots) t
      ((c, m) :: r.1, r.2)
    else ([], (c, m) :: t)

/-- Payload bytes of messages through a station port, by tag (R370). -/
def portBytes (ms : List (Nat × MrMsg)) (s : State) : State :=
  ms.foldl (fun s m => if m.2.bytes = 0 then s else noteBytes (jobTag s m.2.job) m.2.bytes s) s

/-- Count a flit sent or received at a station (R119). -/
def countTx (st bytes : Nat) (s : State) : State :=
  modMrc (fun m => { m with
    count := tupd {} m.count st (fun c => { c with txFlits := c.txFlits + 1, txBytes := c.txBytes + BitVec.ofNat 64 bytes }) }) s
def countRx (st bytes : Nat) (s : State) : State :=
  modMrc (fun m => { m with
    count := tupd {} m.count st (fun c => { c with rxFlits := c.rxFlits + 1, rxBytes := c.rxBytes + BitVec.ofNat 64 bytes }) }) s

/-- What a flit of src→dst tells the other side: the state of each wavelength of the reverse pair, and the credits freed
(R104, R107). Log entry 12 (DESIGN CHOICE). -/
def ackList (s : State) (src dst : Nat) : List (Nat × Nat × Bool) :=
  ((lambdasOf dst src) ++ [95]).filterMap (fun l =>
    let x := lamOf s dst l
    if l = 95 ∧ (spareOf s dst).dest ≠ some src then none else some (l, x.expect, x.nak))

/-- The credits that a flit returns: up to 15 of a class (R107, R255). -/
def creditList (s : State) (src dst : Nat) : List (Nat × Nat) :=
  (List.range 7).filterMap (fun c =>
    let n := min 15 (tget 0 s.mrc.freed (pcKey dst src c))
    if n = 0 then none else some (c, n))

/-- Credits and acknowledgements of a header have gone out. -/
def clearHeader (src dst : Nat) (credits : List (Nat × Nat)) (acks : List (Nat × Nat × Bool)) (s : State) : State :=
  let fr := credits.foldl (fun t c => tupd 0 t (pcKey dst src c.1) (· - c.2)) s.mrc.freed
  let ls := acks.foldl (fun t a => tupd {} t (dst * 96 + a.1) (fun x => { x with nak := false })) s.mrc.lambdas
  { s with mrc := { s.mrc with freed := fr, lambdas := ls } }

/-- Ticks that a flit occupies its wavelength: 20.57 ns, in whole ticks (R103). Log entry 12 (DESIGN CHOICE). -/
def flitTicks : Nat := 21

/-- The wavelength that takes the pair's next flit: the free ones of those in service take turns (R103). -/
def dueLambda (s : State) (src dst : Nat) : Option Nat :=
  let free := (lambdasOf src dst ++ [95]).filter (fun l => carries s src dst l && decide ((lamOf s src l).busyUntil ≤ s.now))
  (free.find? (fun l => decide (tget 0 s.mrc.lamTurn (pairKey src dst) ≤ l))).orElse fun _ => free.head?

/-- Put a flit on a wavelength, which it occupies. -/
def putFlit (src dst l : Nat) (f : MrFlit) (s : State) : State :=
  modMrc (fun m => { m with
    lamTurn := tset 0 m.lamTurn (pairKey src dst) (l + 1)
    lambdas := tupd {} m.lambdas (src * 96 + l) (fun y =>
      if f.type = 0 then { y with chan := y.chan ++ [f], busyUntil := s.now + flitTicks }
      else { y with nextSeq := (y.nextSeq + 1) % 4096, unacked := y.unacked ++ [f], chan := y.chan ++ [f]
                    busyUntil := s.now + flitTicks }) }) s

/-- Send the next flit of a pair on the wavelength that is due (R103, R104, R109): with all 16 places of its replay buffer
taken an idle flit, which carries acknowledgements alone; a sequenced flit also returns credits. Log entry 12 (DESIGN CHOICE). -/
def millraceSend (src dst l : Nat) (s : State) : State :=
  let x := lamOf s src l
  if s.flt.safe || src == dst || dueLambda s src dst != some l || pausedNow s src || pausedNow s dst then s
  else if 16 ≤ x.unacked.length then
    let acks := ackList s src dst
    putFlit src dst l { type := 0, seq := none, msgs := [], acks := acks } (clearHeader src dst [] acks s)
  else
    let (again, left) := fillResend 4 (tget [] s.mrc.resend (pairKey src dst))
    let s1 := { s with mrc := { s.mrc with resend := tset [] s.mrc.resend (pairKey src dst) left } }
    let used := (again.map (fun m => m.2.slots)).sum
    let (rem, acc, s2) := fillSig src dst 4 (4 - used) again s1
    let (turn, acc, s3) := fillRot src dst 4 (tget 0 s2.mrc.turn (pairKey src dst)) rem acc s2
    let acks := ackList s3 src dst
    let credits := creditList s3 src dst
    if acc.isEmpty && credits.isEmpty then
      putFlit src dst l { type := 0, seq := none, msgs := [], acks := acks } (clearHeader src dst [] acks s3)
    else
      let f : MrFlit := { seq := some x.nextSeq, msgs := acc, acks := acks, credits := credits }
      let s4 := modMrc (fun m => { m with turn := tset 0 m.turn (pairKey src dst) turn })
        (putFlit src dst l f (clearHeader src dst credits acks s3))
      portBytes acc (countTx src ((acc.map (fun m => m.2.bytes)).sum) s4)

def execMillraceFlitSend (src dst lambda : Nat) (s : State) : Out := .next (millraceSend src dst lambda s)

/-- The pair has lost its last wavelength: the source's spare serves it if it is free and its ring is in service, else
the pair is down (R118). -/
def lastLost (src dst : Nat) (s : State) : State :=
  let sp := spareOf s src
  if sp.dest.isNone && spareOk s src dst && !(lamOf s src 95).out then
    { s with mrc := { s.mrc with spares := tset {} s.mrc.spares src { dest := some dst, remapping := some s.now } } }
  else
    raise .millracePairDown 0 src (dst * 2 ^ 11)
      (modMrc (fun m => { m with
        down := if m.down.contains (pairKey src dst) then m.down else pairKey src dst :: m.down }) s)

/-- The flits of a wavelength's replay buffer that its receiver has not accepted. -/
def notAccepted (x : Lambda) : List MrFlit :=
  x.unacked.filter (fun f => match f.seq with
    | some q => decide ((q + 4096 - x.expect) % 4096 < 2048)
    | none => false)

/-- What a removed wavelength's replay buffer holds goes again on the pair's other wavelengths, and the credits that its
headers return too (R117, R118). The receiver knows the flits that it has accepted, so that no message is delivered
twice. Log entry 94 (DESIGN CHOICE). -/
def resendFrom (src dst : Nat) (x : Lambda) (s : State) : State :=
  let fs := notAccepted x
  modMrc (fun m => { m with
    resend := tupd [] m.resend (pairKey src dst) (· ++ (fs.map (·.msgs)).flatten)
    freed := ((fs.map (·.credits)).flatten).foldl (fun t c => tupd 0 t (pcKey dst src c.1) (· + c.2)) m.freed }) s

/-- Remove a wavelength from its pair's stripe (R117): its replay buffer goes to the pair's other wavelengths. -/
def lambdaOut (src l : Nat) (s : State) : State :=
  let x := lamOf s src l
  let dst := if l = 95 then (spareOf s src).dest else lambdaDest src l
  if x.out then s
  else
    let s1 := { s with mrc := { s.mrc with
      lambdas := tset {} s.mrc.lambdas (src * 96 + l) { out := true }
      lambdaOutCount := s.mrc.lambdaOutCount + 1 } }
    match dst with
    | none => raise .millraceLambdaOut 0 src (l * 16) s1
    | some d =>
      let s2 := modMrc (fun m => { m with spares := if l = 95 then tset {} m.spares src {} else m.spares }) (resendFrom src d x s1)
      let s3 := raise .millraceLambdaOut 0 src (l * 16 + d * 2 ^ 11) s2
      if (lambdasIn s3 src d).isEmpty && (spareOf s3 src).dest != some d then lastLost src d s3 else s3

def execMillraceLambdaOut (station lambda : Nat) (s : State) : Out :=
  .next (if lambda < 96 ∧ station < 36 then lambdaOut station lambda s else s)

/-- Take the acknowledgements of a flit received at `me` about wavelengths of me→peer (R104). -/
def applyAcks (me peer : Nat) (acks : List (Nat × Nat × Bool)) (s : State) : State :=
  acks.foldl (fun s a =>
    let k := me * 96 + a.1
    let x := lamOf s me a.1
    let gone (f : MrFlit) : Bool := match f.seq with
      | some q => decide ((a.2.1 + 4096 - q) % 4096 ≥ 1 ∧ (a.2.1 + 4096 - q) % 4096 ≤ 2048)
      | none => true
    let un := x.unacked.filter (fun f => !gone f)
    if a.2.2 && !un.isEmpty then
      -- a flit was lost: send again from the first one that is not acknowledged
      let again := un.map (fun f => { f with replays := f.replays + 1 })
      let s := modMrc (fun m => { m with lambdas := tset {} m.lambdas k { x with unacked := again, chan := again } }) s
      if again.any (fun f => decide (4 ≤ f.replays)) then lambdaOut me a.1 s else s
    else modMrc (fun m => { m with lambdas := tset {} m.lambdas k { x with unacked := un } }) s) s

/-- Receive the next flit on a wavelength (R104, R107, R117): every flit that decodes brings its acknowledgements, the next one
in sequence its credits and messages. Log entry 47 (DEDUCED). -/
def millraceReceive (src dst l : Nat) (v : Verdict) (s : State) : State :=
  let k := src * 96 + l
  let x := lamOf s src l
  let put (y : Lambda) (s : State) : State := modMrc (fun m => { m with lambdas := tset {} m.lambdas k y }) s
  match x.chan with
  | [] => s
  | f :: rest =>
    if s.flt.safe || !carries s src dst l then s
    else
      if flitBad v then
        let un := s.now :: (x.uncorr.filter (fun t => decide (s.now < t + 1000000)))
        let s1 := put { x with chan := rest, uncorr := un, nak := true, nakAt := x.nakAt.orElse fun _ => some s.now } s
        if un.length > 16 then lambdaOut src l s1 else s1
      else
        match f.seq with
        | none => applyAcks dst src f.acks (put { x with chan := rest } s)
        | some q =>
          if q ≠ x.expect then
            -- a flit already received is discarded; one beyond the next tells of a loss
            let ahead := decide ((q + 4096 - x.expect) % 4096 < 2048)
            applyAcks dst src f.acks
              (put { x with chan := rest, nak := x.nak || ahead, nakAt := if ahead then x.nakAt.orElse fun _ => some s.now else x.nakAt } s)
          else
            let s1 := put { x with chan := rest, expect := (q + 1) % 4096, nakAt := none } s
            let s2 := f.credits.foldl (fun s c => returnCredits dst src c.1 c.2 s) s1
            let s3 := applyAcks dst src f.acks s2
            let s4 := portBytes f.msgs (countRx dst ((f.msgs.map (fun m => m.2.bytes)).sum) s3)
            f.msgs.foldl (fun s m => arrive src dst m.1 m.2 s) s4

def execMillraceFlitReceive (src dst lambda : Nat) (v : Verdict) (s : State) : Out :=
  .next (millraceReceive src dst lambda v s)

/-- A message to the own station passes to its receive buffer (R490). -/
def selfDeliver (st cls : Nat) (s : State) : State :=
  if headReady s st st cls && !s.flt.safe then
    match takeHead st st cls s with
    | (some m, t) => arrive st st cls m t
    | (none, t) => t
  else s

def execSelfDelivery (station cls : Nat) (s : State) : Out := .next (selfDeliver station cls s)

/-- The remap to the spare completes, within 3 µs (R118). -/
def spareRemapDone (src dst : Nat) (s : State) : State :=
  let sp := spareOf s src
  if sp.dest == some dst && sp.remapping.isSome then
    { s with mrc := { s.mrc with
      spares := tset {} s.mrc.spares src { dest := some dst, remapping := none }
      remapCount := s.mrc.remapCount + 1 } }
  else s

def execSpareRemapComplete (src dst : Nat) (s : State) : Out := .next (spareRemapDone src dst s)

/-- Clear the peak depths of a station: the peak starts again from the depth now (R119). -/
def clearPeak (st : Nat) (s : State) : State :=
  let c := tget {} s.mrc.count st
  let pk := (List.range 7).foldl (fun t k => tset 0 t k (BitVec.ofNat 16 (min (depthOf s st k) 65535))) []
  { s with mrc := { s.mrc with count := tset {} s.mrc.count st { c with peak := pk } } }

def clearPeaks (s : State) : State := (List.range 36).foldl (fun s st => clearPeak st s) s

/-- A wavelength returns to its stripe; a spare that served the pair goes idle (R118). -/
def lambdaBack (src l : Nat) (s : State) : State :=
  match lambdaDest src l with
  | none => { s with mrc := { s.mrc with lambdas := tset {} s.mrc.lambdas (src * 96 + l) {} } }
  | some d =>
    let onSpare := (spareOf s src).dest == some d
    let s1 := if onSpare then resendFrom src d (lamOf s src 95) s else s
    modMrc (fun m => { m with
      lambdas := (let t := tset {} m.lambdas (src * 96 + l) {}
                  if onSpare then tset {} t (src * 96 + 95) {} else t)
      spares := if onSpare then tset {} m.spares src {} else m.spares
      down := m.down.filter (· ≠ pairKey src d) }) s1

end Sys2Proof.Machine
end

