-- ==== Sys2Proof/Machine/Copy.lean ====
section
/-! DEFINITION. Copy queues, descriptors and the choice of a grip (R161, R163, R177 to R186). -/

namespace Sys2Proof.Machine

open Sys2Proof

def queueOf (s : State) (q : Nat) : CopyQueue := tget {} s.grp.queues q
def modQueue (q : Nat) (f : CopyQueue → CopyQueue) (s : State) : State :=
  modGrp (fun g => { g with queues := tupd {} g.queues q f }) s

/-- The queue, not disabled, whose control line is a millpond line (R177). -/
def queueAtLine (s : State) (line : Nat) : Option Nat :=
  (s.grp.queues.find? (fun p => p.2.st != 0 && p.2.base == line)).map (·.1)

/-- Word k of a queue's control line, and as the dispatcher reads it (R172). -/
def ctlWord (s : State) (q k : Nat) : Word64 := millWord s ((queueOf s q).base * 8 + k)
def ctlRead (s : State) (q k : Nat) : Word64 := lineWord (unitLine s (64 * (queueOf s q).base)).1 k
def setCtl (q k : Nat) (v : Word64) (s : State) : State := millWordWrite ((queueOf s q).base * 8 + k) v s

/-- The layout of R180. -/
def decodeDesc (l : Line) : CopyDesc :=
  let w (k : Nat) : Word64 := lineWord l k
  { src := w 0, dst := w 1
    rowLines := fld (w 2) 0 25, rows := fld (w 2) 32 25
    srcStride := fld (w 3) 0 32, dstStride := fld (w 3) 32 32
    counter := w 4, increment := w 5
    fence := bit (w 6) 0, notify := bit (w 6) 1, count := bit (w 6) 2
    stream := fld (w 6) 16 12
    pin := if bit (w 6) 36 then some (fld (w 6) 32 4) else none
    notifySite := fld (w 6) 40 4
    tag := BitVec.ofNat 16 (fld (w 6) 48 16)
    badField := fld (w 0) 0 6 != 0 || fld (w 1) 0 6 != 0 || fld (w 2) 25 7 != 0 || fld (w 2) 57 7 != 0
      || fld (w 2) 0 25 == 0 || decide (fld (w 2) 0 25 > 2 ^ 24) || fld (w 2) 32 25 == 0 || decide (fld (w 2) 32 25 > 2 ^ 24)
      || fld (w 4) 0 3 != 0 || fld (w 6) 3 13 != 0 || fld (w 6) 28 4 != 0 || fld (w 6) 37 3 != 0
      || fld (w 6) 44 4 != 0 || w 7 != 0 }

/-- Lines that a descriptor moves. -/
def descLines (d : CopyDesc) : Nat := d.rowLines * d.rows

/-- A pod address is a millpond address of some node. -/
def isMillAddr (a : Word64) : Bool :=
  decide (millBase ≤ fld a 0 48 ∧ fld a 0 48 < millBase + millSize)

/-- A descriptor is malformed (R181). Log entry 35 (DEDUCED). -/
def malformed (s : State) (d : CopyDesc) : Bool :=
  d.badField || decide (descLines d > 2 ^ 24) || (d.count && !isMillAddr d.counter)
    || (d.notify && !hasSite s.part.variant d.notifySite)
    || (match d.pin with
        | some g => !hasGrip s.part.variant g
        | none => false)

/-- Pod address of the i-th line a descriptor reads, and writes (R180). -/
def srcLine (d : CopyDesc) (i : Nat) : Word64 :=
  d.src + BitVec.ofNat 64 (64 * (i / d.rowLines * d.srcStride + i % d.rowLines))
def dstLine (d : CopyDesc) (i : Nat) : Word64 :=
  d.dst + BitVec.ofNat 64 (64 * (i / d.rowLines * d.dstStride + i % d.rowLines))

/-- Descriptors sent to a grip and not complete. -/
def gripPending (s : State) (g : Nat) : Nat := (s.grp.descs.filter (fun x => x.grip == g)).length

/-- The first of a list with the least key. Log entry 34 (DEDUCED). -/
def argmin (f : Nat → Nat) : List Nat → Option Nat
  | [] => none
  | a :: t =>
    match argmin f t with
    | none => some a
    | some b => if f b < f a then some b else some a

/-- The grip for a descriptor (R161, R163): its pin, else proximity or load; a fenced grip is passed over. -/
def chooseGrip (s : State) (d : CopyDesc) (submitter : Nat) : Nat :=
  let up := (List.range 16).filter (fun g => hasGrip s.part.variant g && !gripFenced s g)
  let field := if isMillAddr d.src && decide (addrNode d.src = s.ident.node.toNat)
    then bankAt (fld d.src 0 48 - millBase) / 8 else fieldOf submitter
  let byPolicy : Nat :=
    if bit s.blk.dispatch 0 && decide (1 < s.blk.fullEpochs) then
      (argmin (fun g => tget 0 s.blk.gripMean g) up).getD 0
    else
      let near := up.filter (fun g => g / 4 == field)
      if !near.isEmpty && !(near.all (fun g => decide (gripPending s g > fld s.blk.dispatch 8 8))) then
        (argmin (gripPending s) near).getD 0
      else (argmin (gripPending s) up).getD (4 * field)
  match d.pin with
  | some g => if up.contains g then g else byPolicy
  | none => byPolicy

/-- What an access of a descriptor carries to name it. -/
def descKey (d : Desc) : Word64 := BitVec.ofNat 64 d.id

/-- Take n descriptors in order from HEAD on (R178); a slot with an uncorrectable word reads as the error line. -/
def takeDescs (q submitter : Nat) : Nat → State → State
  | 0, s => s
  | n + 1, s =>
    let head := (ctlWord s q 1).toNat
    let r := unitRead (64 * ((queueOf s q).base + 1 + head % 256)) s
    let s := r.2
    let d := decodeDesc r.1.1
    let x : Desc := { queue := q, number := head, id := s.grp.nextDesc, job := (queueOf s q).job, d := d, grip := chooseGrip s d submitter }
    takeDescs q submitter n (setCtl q 1 (BitVec.ofNat 64 (head + 1))
      (modGrp (fun g => { g with descs := g.descs ++ [x], nextDesc := g.nextDesc + 1 }) s))

/-- The doorbell of a queue (R178, R179). -/
def doorbell (q submitter : Nat) (s : State) : State :=
  if (queueOf s q).st ≠ 1 then s
  else
    let n := (ctlRead s q 0 - ctlRead s q 1).toNat
    let s := millMeet (64 * (queueOf s q).base) s
    if n > 256 then
      raise .copyQueueOverrun 5 (4 * (q / 16)) (q + 2 ^ 8 * ((ctlWord s q 1).toNat % 2 ^ 40))
        (modQueue q (fun x => { x with st := 2, reason := 3 }) s)
    else takeDescs q submitter n s

/-- The line a store may change in a queue's control line: word 0 alone (R178). -/
def queueMask (s : State) (o : Nat) (mask : Word64) : Word64 :=
  if (queueAtLine s (o / 64)).isSome then mask &&& 0xFF#64 else mask

/-- After a write to a millpond line, the doorbell it may be (R178). -/
def afterMill (o : Nat) (mask : Word64) (submitter : Nat) (s : State) : State :=
  match queueAtLine s (o / 64) with
  | some q => if mask &&& 0xFF#64 ≠ 0 then doorbell q submitter s else s
  | none => s

/-- The base adds one to a word of a queue's control line (R183): an atomic at its bank, which an uncorrectable word fails
(R172). -/
def ctlCount (q k : Nat) (s : State) : State :=
  let w := (queueOf s q).base * 8 + k
  if wordBad s w then bankUncorrectable (8 * w) s else millWordWrite w (millWord s w + 1) s

/-- A bank atomic by one of the base's units on a counter word (R84, R172, R173, R178, R183, R187): its status, FAILED_FENCED on a
fenced bank and on an uncorrectable word. The dailies' range takes none (R460); in a queue's control line word 0 is the
doorbell and the others do not change. -/
def counterAdd (w : Nat) (n : Word64) (submitter : Nat) (s : State) : Nat × State :=
  if bankFenced s (bankAt (8 * w)) then (2, s)
  else if dailyRange (8 * w) then (0, s)
  else if wordBad s w then (2, bankUncorrectable (8 * w) s)
  else match queueAtLine s (w / 8) with
    | some q => (0, if w % 8 = 0 then doorbell q submitter (millWordWrite w (millWord s w + n) s) else s)
    | none => (0, millWordWrite w (millWord s w + n) s)

end Sys2Proof.Machine
end

