-- ==== Sys2Proof/Machine/PairOps.lean ====
section
/-! DEFINITION. What the stand-in pair does to an access at its home (R390 to R392, R394, R397, R398). -/

namespace Sys2Proof.Machine

open Sys2Proof

/-- An offset lies in the mirrored set (R390). -/
def inSet (s : State) (off : Nat) : Bool :=
  match s.pair.cfg with
  | none => false
  | some c => decide (off / 2 ^ 36 = c.window.toNat) && c.mask.getLsbD (off / 2 ^ 30 % 64)

/-- The pair mirrors state records as well as memory and logs: it is in native mode (R391, R400). -/
def pairNative (s : State) : Bool := match s.pair.cfg with
  | none => false
  | some c => !c.forerunner

/-- The node number under which the set is reached: that of the module that the scripts make lead (R390, R394). -/
def setNode (s : State) : Nat :=
  match s.pair.cfg with
  | none => s.ident.node.toNat
  | some c => if c.scriptLead then s.ident.node.toNat else c.partner.toNat

/-- The roles that answer for the set (R394, R398, R402). -/
def servesSet (s : State) : Bool :=
  match s.pair.role with
  | .lead | .leadSolo | .claiming => true
  | _ => false

/-- The least RELEASED sent in the last 16 µs (R397). -/
def leastReleased (s : State) : Nat :=
  (s.pair.releasedSent.filter (fun p => decide (s.now < p.1 + 16000))).foldl (fun a p => min a p.2) s.pair.released

/-- The lead may send one more mirrored message (R397). -/
def mirrorRoom (s : State) : Bool := decide (s.pair.mseq + 1 < leastReleased s + 8192)

/-- A pool access at this home is mirrored: the lead of a standing pair, in the set (R392). -/
def mirrored (s : State) (off : Nat) : Bool := s.pair.role == .lead && inSet s off

/-- Who asked, as the record keeps it (R392). -/
def identOf (q : MemReq) : MirIdent := { node := q.node, job := BitVec.ofNat 8 q.req.job, flowTag := BitVec.ofNat 12 q.slot }

/-- The external station of the pair link in use. -/
def pairXs (s : State) : Nat :=
  match s.pair.cfg with
  | none => 0
  | some c => if s.pair.linkUp.1 || !s.pair.linkUp.2 then xsOf (c.linkA / 6) else xsOf (c.linkB / 6)

/-- Place of an offset's line in the set, granule by granule (R399), and the lines of the set. -/
def setPos (s : State) (off : Nat) : Nat :=
  match s.pair.cfg with
  | none => 0
  | some c => ((List.range (off / 2 ^ 30 % 64)).filter (fun g => c.mask.getLsbD g)).length * 2 ^ 24 + off / 64 % 2 ^ 24
def setLines (s : State) : Nat :=
  match s.pair.cfg with
  | none => 0
  | some c => ((List.range 64).filter (fun g => c.mask.getLsbD g)).length * 2 ^ 24

/-- The offset of a place in the set. -/
def setOffset (s : State) (pos : Nat) : Nat :=
  match s.pair.cfg with
  | none => 0
  | some c => c.window.toNat * 2 ^ 36 + (((List.range 64).filter (fun g => c.mask.getLsbD g)).getD (pos / 2 ^ 24) 0) * 2 ^ 30 + 64 * (pos % 2 ^ 24)

/-- A line behind the resynchronisation pointer, or any line when no resynchronisation runs (R399). -/
def behindPointer (s : State) (off : Nat) : Bool := !s.pair.resyncing || decide (setPos s off < s.pair.resyncLines)

/-- Send a mirrored store or atomic in class MIR and hold its ACK until it is confirmed (R392). -/
def mirror (home : Nat) (q : MemReq) (off : Nat) (rsp : MemRsp) (s : State) : State :=
  let n := s.pair.mseq + 1
  let pay := if q.req.op = .store
    then Payload.mirStore { mseq := n, offset := off, mask := q.req.mask, ident := identOf q, data := q.req.data }
    else Payload.mirWord { mseq := n, offset := off, value := wordGet s.mem.cells off, result := rsp.result, ident := identOf q }
  let m : MrMsg := { pay := pay, slots := if q.req.op = .store then 2 else 1, bytes := if q.req.op = .store then 96 else 32 }
  sendMsg home (pairXs s) cMIR m
    (modPair (fun p => { p with
      mseq := n
      work := p.work ++ [{ mseq := n, line := off / 64, rsp := some rsp, req := q }] }) s)

/-- A line holds a store or atomic that is not confirmed (R392). -/
def unconfirmed (s : State) (off : Nat) : Bool := s.pair.work.any (fun w => w.line == off / 64)

/-- The record entry that answers a request sent again after the claim (R397). -/
def recordOf (s : State) (q : MemReq) : Option MirRecord := s.pair.record.find? (fun r => r.ident == identOf q)

end Sys2Proof.Machine
end

