-- ==== Sys2Proof/Machine/Memory.lean ====
section
/-! DEFINITION. Loads, stores and atomics: issuing a request, serving it at its home, its response, its failure, the
patrol scrub (chapter 05), with the replicas that a load may meet (R156 to R160). -/

namespace Sys2Proof.Machine

open Sys2Proof

/-- A requester's station and its response buffer (R108). -/
def reqStation : Requester → Nat
  | .site n _ => ssOf n
  | .grip g => wsOf (g / 4)
  | .millstone w => wsOf w
  | .engine => wsOf 0
  | .remote _ x => xsOf x

def reqBuf : Requester → Nat
  | .site n _ => ssOf n
  | .grip g => 36 + g
  | .millstone w => wsOf w
  | .engine => 52
  | .remote _ x => xsOf x

/-- Lines of a response buffer (R108, R157, R184). -/
def bufCap (b : Nat) : Nat :=
  if b < 36 then (match (kindOf b).1 with | .ss => 8192 | .xs => 8192 | .ws => 1024 | .ms => 512)
  else if b < 52 then 8192 else 4096

def slotKey (b k : Nat) : Nat := b * 8192 + k
def outst (s : State) (b k : Nat) : Option Outst := tget none s.mem.slots (slotKey b k)

def isAtomic (o : MemOp) : Bool := o != .load && o != .store

/-- The lowest free slot of a buffer from i on. Log entry 33 (DESIGN CHOICE). -/
def firstFree (s : State) (b : Nat) : Nat → Nat → Option Nat
  | 0, _ => none
  | fuel + 1, i => if (outst s b i).isNone then some i else firstFree s b fuel (i + 1)

/-- A requester as the source of a fault message (R142, R144, R375): block and unit. -/
def faultSource : Requester → Nat × Nat
  | .site n _ => (0, ssOf n)
  | .grip g => (5, g)
  | .millstone w => (4, w)
  | .engine => (0, wsOf 0)
  | .remote _ x => (0, xsOf x)

/-- The job of a requester: a site's running job, else what its unit says. -/
def reqJob (s : State) (r : IssueReq) : Option Nat :=
  match r.who with
  | .site n _ => jobOfSite s n
  | .engine => none
  | _ => some r.job

/-- A replica slot holds the block, valid or in flight. -/
def replicaHeld (s : State) (node block : Nat) : Bool :=
  s.blk.replicas.any (fun p => match p.2 with
    | some x => decide (x.node.toNat = node ∧ x.block = block)
    | none => false)

/-- The engine is suspended while a local memory station is fenced (R160). -/
def suspended (s : State) : Bool := (memStations s.part.variant).any (memFenced s)

/-- Lowest free replica slot. -/
def freeReplica (s : State) : Nat → Nat → Option Nat
  | 0, _ => none
  | fuel + 1, i => if (tget none s.blk.replicas i).isNone then some i else freeReplica s fuel (i + 1)

/-- Start a fetch of a block, or let it wait for one of the 64 places, or count it in BLK_FULL for want of a slot
(R157, R159). Log entry 33 (DESIGN CHOICE). -/
def startFetch (region node block : Nat) (s : State) : State :=
  if suspended s || replicaHeld s node block || s.blk.waiting.any (fun w => w.2.1 == node && w.2.2 == block) then s
  else if s.blk.flight.length ≥ 64 then
    modBlk (fun b => { b with waiting := (b.waiting ++ [(region, node, block)]).mergeSort (fun x y => decide (x.2.2 ≤ y.2.2)) }) s
  else
    match freeReplica s (s.blk.replicaGib * 16384) 0 with
    | none => modBlk (fun b => { b with full := b.full + 1 }) s
    | some j =>
      modBlk (fun b => { b with
        replicas := tset none b.replicas j (some { region := region, id := b.nextFetch, node := BitVec.ofNat 16 node, block := block })
        nextFetch := b.nextFetch + 1
        flight := b.flight ++ [j] }) s

/-- Places are free again: the waiting fetches start, in block order (R157). -/
def startWaiting : Nat → State → State
  | 0, s => s
  | n + 1, s => match s.blk.waiting with
    | [] => s
    | w :: t =>
      if s.blk.flight.length ≥ 64 then s
      else startWaiting n (startFetch w.1 w.2.1 w.2.2 (modBlk (fun b => { b with waiting := t }) s))

/-- Drop the replica of a slot and count it (R160). -/
def dropReplica (j : Nat) (s : State) : State :=
  modBlk (fun b => { b with
    replicas := tset none b.replicas j none
    flight := b.flight.filter (· ≠ j)
    dropped := b.dropped + 1 }) s

/-- A replica slot still holds a block, valid (R156). -/
def replicaStands (s : State) (j node block : Nat) : Bool :=
  match tget none s.blk.replicas j with
  | some x => x.valid && decide (x.node.toNat = node ∧ x.block = block)
  | none => false

/-- What names a fetch at the response of one of its loads: its number and its replica slot. -/
def fetchKey (j : Nat) (x : Replica) : Word64 := BitVec.ofNat 64 (x.id * 2 ^ 20 + j)

/-- A fetched line reaches its replica slot (R157, R160): a failed or poisoned one abandons the fetch. A line of a fetch that has
been abandoned or released changes nothing. -/
def fetchLine (key : Word64) (line : Nat) (data : Line) (bad : Bool) (s : State) : State :=
  let j := key.toNat % 2 ^ 20
  match tget none s.blk.replicas j with
  | none => s
  | some x =>
    if x.valid || fetchKey j x != key then s
    else if bad then startWaiting s.blk.waiting.length (dropReplica j s)
    else
      let off := s.mem.addressable * 2 ^ 30 + 65536 * j + 64 * line
      let got := if x.got.contains line then x.got else line :: x.got
      let done := decide (got.length = 1024)
      let s := poolWrite off fullMask data false s
      let s := modBlk (fun b => { b with
        replicas := tset none b.replicas j (some { x with got := if done then [] else got, valid := done })
        flight := if done then b.flight.filter (· ≠ j) else b.flight
        fetched := if done then b.fetched + 1 else b.fetched }) s
      if done then startWaiting s.blk.waiting.length s else s

/-- Steps 2 and 3 of R183: the control line, and the notice from the WS station of the bank's field (R190). -/
def finishDesc (d : Desc) (status : Nat) (s : State) : State :=
  let base := (queueOf s d.queue).base
  let o := 64 * base
  let s := modGrp (fun g => { g with descs := g.descs.erase d }) s
  let s := if bankFenced s (bankAt o) then s
    else
      let s := ctlCount d.queue 2 s
      if status = 0 then s
      else setCtl d.queue 4 (BitVec.ofNat 64 (d.d.tag.toNat + status * 2 ^ 16 + d.number % 2 ^ 32 * 2 ^ 32))
        (ctlCount d.queue 3 s)
  if d.d.notify && hasSite s.part.variant d.d.notifySite then
    sendMsg (wsOf (bankAt o / 8)) (ssOf d.d.notifySite) cSIG
      { pay := .copyNotice d.d.notifySite d.queue status d.number d.d.tag, job := d.job } s
  else s

/-- Hand an answer to its requester: a site's slot in its module's hopper, a grip's line or acknowledgement, with its
counter add the end of its descriptor (R183), a millstone's line, a line of a fetch of the engine. -/
def deliver (r : IssueReq) (a : MemRsp) (s : State) : State :=
  match r.who with
  | .site n m =>
    if r.op = .load then
      siteDeliver n (some m) { cls := 3, op := 0, tag := r.tag, data := a.data, poison := a.poison && sitePoison s n } s
    else siteDeliver n (some m) (ackSlot r.tag a.result a.status.toNat) s
  | .grip _ =>
    -- the compare field names the descriptor and the operand its line
    if isAtomic r.op then
      match s.grp.descs.find? (fun d => d.st == .adding && descKey d == r.compare) with
      | some d => finishDesc d 0 s
      | none => s
    else
    modGrp (fun g => { g with
      descs := g.descs.map (fun d =>
        if descKey d = r.compare then
          if r.op = .load then { d with buffer := d.buffer ++ [(r.operand.toNat, a.data, a.poison)], failed := d.failed || a.poison }
          else { d with done := d.done + 1, failed := d.failed || a.status != 0 }
        else d) }) s
  | .millstone _ =>
    -- the compare field names the context and the chunk
    let c := fld r.compare 48 16
    let no := fld r.compare 0 48
    modMst (fun m =>
      if r.op = .load then { m with
        fetches := m.fetches.map (fun f =>
          if f.ctx == c && f.no == no && f.addr == r.addr then { f with got := some (a.data, a.poison) } else f) }
      else { m with
        ctxs := tupd {} m.ctxs c (fun x => { x with
          chunks := x.chunks.map (fun h => if h.no = no then
            { h with stores := h.stores - 1, status := if a.status = 0 then h.status else h.status ||| 4 } else h) }) }) s
  | .engine => fetchLine r.compare r.operand.toNat a.data (a.poison || a.status != 0) s
  | .remote _ _ => s

/-- A violation (R141): zeros, DONE, nothing written, nothing reported. Log entry 32 (DEDUCED). -/
def violate (r : IssueReq) (s : State) : State :=
  deliver r { buf := reqBuf r.who, slot := 0, gen := 0 }
    (modMem (fun m => { m with violations := sat32 m.violations 1 }) s)

/-- Count a failure and report it under the rate rule (R144); a grip, a millstone and the engine each count as a requesting
station of their own. Log entry 94 (DESIGN CHOICE). -/
def failAccess (r : IssueReq) (k : FaultKind) (s : State) : State :=
  let src := faultSource r.who
  raiseRated k (reqBuf r.who * 65536 + addrNode r.addr) 1000000 src.1 src.2 (addrOff r.addr)
    (modMem (fun m => { m with failures := sat32 m.failures 1 }) s)

/-- A failed access as its requester sees it (R142): the error line, or the status with RESULT all ones. -/
def failAnswer (r : IssueReq) (status : Nat) : MemRsp :=
  { buf := reqBuf r.who, slot := 0, gen := 0, data := errorLine, poison := true
    result := BitVec.allOnes 64, status := BitVec.ofNat 8 status }

/-- Fail a request that has not left (R142). -/
def failNow (r : IssueReq) (status : Nat) (k : FaultKind) (s : State) : State :=
  deliver r (failAnswer r status) (failAccess r k s)

/-- The address of a request is misaligned (R125). -/
def misaligned (r : IssueReq) : Bool :=
  match r.op with
  | .load | .store => fld r.addr 1 5 != 0
  | _ => fld r.addr 1 2 != 0

/-- An entry of the region table covers a node's offset in one of the given states (R153, R155). -/
def regionAt (s : State) (node off : Nat) (states : List Nat) : Option Nat :=
  (s.blk.regions.find? (fun p => states.contains p.2.st && decide (p.2.node.toNat = node ∧
    p.2.base.toNat * 65536 ≤ off ∧ off < (p.2.base.toNat + p.2.blocks) * 65536))).map (·.1)

/-- The claim that stands for an address (R396). -/
def claimOf (s : State) (node off : Nat) : Option (Nat × ClaimEntry) :=
  s.pair.claims.findSome? (fun p => match p.2 with
    | some e => if e.msg.claimed.toNat = node ∧ off / 2 ^ 36 = e.msg.window.toNat ∧ e.msg.mask.getLsbD (off / 2 ^ 30 % 64) = true
        then some (p.1, e) else none
    | none => none)

/-- The station of a local request's home (R148, R168); `none` for an unmapped offset. -/
def homeStation (s : State) (inner : Bool) (off : Nat) : Option Nat :=
  match zoneOf s inner off with
  | .pool o => some (msOf (homeOf s o))
  | .mill o | .bitSet o | .bitClear o => some (wsOf (bankAt o / 8))
  | .unmapped => none

/-- The unit reaches the bank directly, without the millrace (R168). Log entry 13 (DESIGN CHOICE). -/
def direct (s : State) (who : Requester) (off : Nat) : Bool :=
  match zoneOf s false off with
  | .mill o | .bitSet o | .bitClear o =>
    (match who with
     | .grip g => g / 4 == bankAt o / 8
     | .millstone w => w == bankAt o / 8
     | _ => false)
  | _ => false

/-- The lowest response slot that a request may take; MGT requests hold theirs from the end of their station's buffer (R108).
Log entry 33 (DESIGN CHOICE). -/
def freeSlot (s : State) (b : Nat) : Option Nat := firstFree s b (bufCap b - tget 0 s.mem.mgtSlots b) 0

/-- Reserve a response slot and send the request on its way (R108, R143, R145): to its home station, or to the external
station of its flow. A requester with no free slot holds the request. -/
def sendReq (r : IssueReq) (node : Word16) (dst : Nat) (onMillrace : Bool) (region replica : Option Nat) (s : State) : State :=
  let b := reqBuf r.who
  if onMillrace && pairFenced s (reqStation r.who) dst then failNow r 2 .targetFenced s
  else
  match freeSlot s b with
  | none =>
    modMem (fun m => { m with
      held := m.held ++ [{ req := r, node := node, dst := dst, onMillrace := onMillrace, region := region, replica := replica }] }) s
  | some k =>
    let g := tget 0 s.mem.gens (slotKey b k)
    let o : Outst := { req := r, gen := g, sent := if onMillrace then none else some s.now, node := node, station := dst, region := region, replica := replica }
    let s := modMem (fun m => { m with slots := tset none m.slots (slotKey b k) (some o) }) s
    let q : MemReq := { req := r, buf := b, slot := k, gen := g, node := s.ident.node }
    let m : MrMsg := { pay := .req q, slots := if r.op = .store then 2 else 1, bytes := if r.op = .store then 80 else 16,
                       fence := r.fence && replica.isNone, job := r.job }
    if onMillrace then sendMsg (reqStation r.who) dst cREQ m s else s

/-- A local request: failed at once on a fenced home, answered as a violation on an unmapped offset, else sent (R142). -/
def issueLocal (r : IssueReq) (node : Word16) (inner : Bool) (region replica : Option Nat) (s : State) : State :=
  let off := addrOff r.addr
  let dead := match zoneOf s inner off with
    | .pool o => memFenced s (homeOf s o) || (msSt s (homeOf s o)).poisonHome
    | .mill o | .bitSet o | .bitClear o => bankFenced s (bankAt o)
    | .unmapped => false
  if dead then failNow r 2 .targetFenced s
  else
    match homeStation s inner off with
    | none => violate r s
    | some h => sendReq r node h (!direct s r.who off) region replica s

/-- A remote request goes to the external station of its flow, or fails where no link is live (R123, R142). -/
def issueRemote (r : IssueReq) (node : Word16) (region : Option Nat) (s : State) : State :=
  match flowXs s node r.job cREQ with
  | none => failNow r 1 .remoteTimeout s
  | some x => sendReq r node x true region none s

/-- The valid replica of a block (R156, R157). -/
def replicaFor (s : State) (node off : Nat) : Option Nat :=
  s.blk.replicas.findSome? (fun p => match p.2 with
    | some x => if x.valid && decide (x.node.toNat = node ∧ x.block = off / 65536) then some p.1 else none
    | none => none)

/-- Count a touch of a block (R156 to R158). -/
def touch (region : Nat) (e : Region) (node off : Nat) (s : State) : State :=
  let s := modBlk (fun b => { b with touches := sat32 b.touches 1 }) s
  let block := off / 65536
  if e.mode = 1 then startFetch region node block s
  else if e.mode = 2 && decide (e.fromEpoch ≤ s.blk.epochDone) then
    if s.blk.tracker.any (fun t => t.1 == node && t.2.1 == block) then
      modBlk (fun b => { b with tracker := b.tracker.map (fun t =>
        if t.1 == node && t.2.1 == block then (t.1, t.2.1, t.2.2.1, t.2.2.2 + 1) else t) }) s
    else if s.blk.untracked.contains (node, block) then s
    else if s.blk.tracker.length ≥ 16384 then
      modBlk (fun b => { b with trackFull := b.trackFull + 1, untracked := (node, block) :: b.untracked }) s
    else modBlk (fun b => { b with tracker := b.tracker ++ [(node, block, region, 1)] }) s
  else s

/-- Issue a request: its checks, the claims, the replicas, then its home or its flow (R141, R156, R396). -/
def issueMem (r0 : IssueReq) (s : State) : State :=
  let r := { r0 with job := (reqJob s r0).getD 0 }
  let node := addrNode r.addr
  let off := addrOff r.addr
  let write := r.op != .load
  let own := s.ident.node.toNat
  let inner := r.who == .engine
  let granted := inner || (match reqJob s r0 with
    | some j => allowed s j node off write
    | none => false)
  let stage := decide (node = own) || nodeKind s (BitVec.ofNat 16 node) == 1
  if misaligned r || !granted || !stage || (write && (regionAt s node off [1, 2]).isSome) then violate r s
  else
    match claimOf s node off with
    | some (i, e) =>
      if isAtomic r.op && decide (s.now < e.holdUntil) then
        modPair (fun p => { p with claims := tset none p.claims i (some { e with held := e.held ++ [r] }) }) s
      else if e.msg.newNode.toNat = own then issueLocal r (BitVec.ofNat 16 own) false none none s
      else issueRemote r e.msg.newNode none s
    | none =>
      if node = own then issueLocal r (BitVec.ofNat 16 own) inner none none s
      else
        match (if write then none else regionAt s node off [1]) with
        | none => issueRemote r (BitVec.ofNat 16 node) none s
        | some g =>
          match (if suspended s then none else replicaFor s node off) with
          | some j =>
            let a := BitVec.ofNat 64 (own * 2 ^ 48 + s.mem.addressable * 2 ^ 30 + 65536 * j + off % 65536)
            let s := modBlk (fun b => { b with hits := sat32 b.hits 1 }) s
            issueLocal { r with addr := a, data := r.addr.setWidth 512 } (BitVec.ofNat 16 own) true (some g) (some j) s
          | none =>
            let e := tget {} s.blk.regions g
            issueRemote r (BitVec.ofNat 16 node) (some g) (if e.mode = 0 then s else touch g e node off s)

/-- The request that a grip may issue next (R184, R185): the next source load of its running descriptor in row order, or
the store of a line it has loaded. Log entry 13 (DESIGN CHOICE). -/
def gripNext (s : State) (g : Nat) (r : IssueReq) : Option IssueReq :=
  s.grp.descs.findSome? (fun d =>
    if d.grip == g && d.st == .running && !malformed s d.d then
      let j := d.job
      let key := descKey d
      if r.op = .load then
        if d.issued < descLines d.d ∧ r.addr = srcLine d.d d.issued then
          some { r with operand := BitVec.ofNat 64 d.issued, compare := key, job := j, tag := 0, fence := false }
        else none
      else if r.op = .store ∧ d.sluice.isNone = true then
        (d.buffer.find? (fun b => dstLine d.d b.1 == r.addr)).map (fun b =>
          { r with operand := BitVec.ofNat 64 b.1, compare := key, job := j, mask := fullMask, data := b.2.1, poison := b.2.2, tag := 0,
                   fence := false })
      else none
    else none)

/-- Mark what a grip has issued. -/
def gripIssued (g : Nat) (r : IssueReq) (s : State) : State :=
  modGrp (fun x => { x with
    descs := x.descs.map (fun d =>
      if d.grip == g && d.st == .running && r.compare == descKey d then
        if r.op = .load then { d with issued := d.issued + 1 }
        else { d with placed := d.placed + 1, buffer := d.buffer.filter (fun b => b.1 != r.operand.toNat) }
      else d) }) s

/-- The load that the engine issues next: the next line of the first fetch in flight with lines left (R157).
Log entry 13 (DESIGN CHOICE). -/
def engineNext (s : State) : Option (Nat × Replica) :=
  s.blk.flight.findSome? (fun j => match tget none s.blk.replicas j with
    | some x => if x.issued < 1024 then some (j, x) else none
    | none => none)

/-! ### At the home -/

/-- Answer a request from its home (R128, R129): on the millrace to the requester's station, or to that of
the answer's flow (R301), or directly. -/
def respond (home : Nat) (q : MemReq) (a : MemRsp) (s : State) : State :=
  let pay := if q.req.op = .load then Payload.loadData a else Payload.ack a
  let dst := if q.node == s.ident.node then bufStation q.buf else (flowXs s q.node q.req.job cRSP).getD (bufStation q.buf)
  let m : MrMsg := { pay := pay, slots := 1, bytes := if q.req.op = .load then 64 else 16, job := q.req.job, node := q.node }
  if q.node == s.ident.node && direct s q.req.who (addrOff q.req.addr) then putRx home dst cRSP { m with slots := 0 } s
  else sendMsg home dst cRSP m s

def rspOf (q : MemReq) : MemRsp := { buf := q.buf, slot := q.slot, gen := q.gen }

/-- Fail a request at its home (R140, R142). -/
def failHome (home : Nat) (q : MemReq) (s : State) : State :=
  respond home q { rspOf q with data := errorLine, poison := true, result := BitVec.allOnes 64, status := 2 } s

/-- Answer a request at its home as a violation (R141). -/
def violateHome (home : Nat) (q : MemReq) (s : State) : State :=
  respond home q (rspOf q) (modMem (fun m => { m with violations := sat32 m.violations 1 }) s)

/-- The home holds the request: it is at the front of a memory station's ordering queue, in a millpond bank's receive buffer, or
its unit reaches the bank directly and its slot is outstanding. The state with the request taken out.
Log entry 13 (DESIGN CHOICE). -/
def accept (home : Nat) (q : MemReq) (s : State) : Option State :=
  match kindOf home with
  | (.ms, m) =>
    (match (msSt s m).queue with
     | x :: _ => if x = q then some (combAdmit home (modMs m (fun y => { y with queue := y.queue.tail }) s)) else none
     | [] => none)
  | _ =>
    match findRx s home cREQ (fun p => p == .req q) with
    | some (src, m) => some (takeRx home cREQ src m s)
    | none =>
      if q.node == s.ident.node && direct s q.req.who (addrOff q.req.addr) then
        match outst s q.buf q.slot with
        | some o => if o.req == q.req && o.gen == q.gen then some s else none
        | none => none
      else none

/-- The replica pool is reached only by the base's own redirected loads (R159). -/
def innerReq (s : State) (q : MemReq) : Bool :=
  q.node == s.ident.node && (match outst s q.buf q.slot with
    | some o => o.replica.isSome
    | none => false)

/-- The station at which a request is served: for an unmapped offset the station it came in on. -/
def serveStation (s : State) (q : MemReq) : Nat :=
  (homeStation s (innerReq s q) (addrOff q.req.addr)).getD (bufStation q.buf)

/-- A load that met the error line in a replica goes to the home, and the block is dropped if it still stands (R160). -/
def reissueReplica (q : MemReq) (j : Nat) (s : State) : State :=
  let a : Word64 := q.req.data.setWidth 64
  let s := if replicaStands s j (addrNode a) (addrOff a / 65536) then dropReplica j s else s
  match outst s q.buf q.slot with
  | none => s
  | some o =>
    let r := { q.req with addr := a, data := 0 }
    let node := BitVec.ofNat 16 (addrNode r.addr)
    match flowXs s node r.job cREQ with
    | none => respond (bufStation q.buf) q { rspOf q with data := errorLine, poison := true, result := BitVec.allOnes 64, status := 1 } s
    | some x =>
      if pairFenced s (bufStation q.buf) x then
        respond (bufStation q.buf) q { rspOf q with data := errorLine, poison := true, result := BitVec.allOnes 64, status := 2 } s
      else
      let s := modMem (fun m => { m with
        slots := tset none m.slots (slotKey q.buf q.slot) (some { o with req := r, node := node, station := x, replica := none }) }) s
      sendMsg (bufStation q.buf) x cREQ { pay := .req { q with req := r }, job := r.job } s

/-- What a home does with an access to the mirrored set before it serves it (R391, R394, R398): serve, refuse as a
violation, hold back an atomic of an open claim window, wait, or drop. An access to a line waits behind one that waits for the
same line (R131). -/
inductive SetRule where
  | serve | violation | drop | hold | wait
deriving DecidableEq, Repr

def setRule (s : State) (q : MemReq) (off : Nat) : SetRule :=
  let node := addrNode q.req.addr
  if !inSet s off || s.pair.role == .none then (if node = s.ident.node.toNat then .serve else .violation)
  else if node = setNode s then
    if servesSet s then
      if s.pair.role == .claiming && isAtomic q.req.op then .hold
      else if s.pair.waiting.any (fun w => addrOff w.req.addr / 64 == off / 64) then .wait
      else if s.pair.role == .lead && q.req.op == .load && unconfirmed s off then .wait
      else if s.pair.role == .lead && q.req.op != .load && !mirrorRoom s then .wait
      else .serve
    else .drop
  else if node = s.ident.node.toNat then .violation
  else .violation

/-- Serve a load (R128, R137, R156, R160, R171 to R173). -/
def loadAt (home : Nat) (q : MemReq) (v : Verdict) (s : State) : Zone → State
  | .unmapped => violateHome home q s
  | .pool o =>
    if memFenced s (homeOf s o) || (msSt s (homeOf s o)).poisonHome then failHome home q s
    else
      let x := poolRead o v s
      let s := noteLines (jobTag s q.req.job) 1 x.2
      if x.1.2 then
        match (match outst s q.buf q.slot with | some x => if q.node == s.ident.node then x.replica else none | none => none) with
        | some j => reissueReplica q j s
        | none => respond home q { rspOf q with data := errorLine, poison := true } s
      else respond home q { rspOf q with data := x.1.1 } s
  | .mill o | .bitSet o | .bitClear o =>
    if bankFenced s (bankAt o) then failHome home q s
    else
      let s := millCheck o v s
      if lineBad s o then respond home q { rspOf q with data := errorLine, poison := true } (millMeet o s)
      else respond home q { rspOf q with data := millLine s o } s

def serveLoad (home : Nat) (q : MemReq) (v : Verdict) (s : State) : State :=
  loadAt home q v s (zoneOf s (innerReq s q) (addrOff q.req.addr))

/-- The acknowledgement of a store or atomic, held for confirmation where the set is mirrored (R392). -/
def acknowledge (home : Nat) (q : MemReq) (off : Nat) (a : MemRsp) (s : State) : State :=
  if mirrored s off && behindPointer s off then mirror home q off a s else respond home q a s

/-- The home region rule of R154: the declaring node's own range takes no store. -/
def stillsHome (s : State) (off : Nat) : Bool := (regionAt s s.ident.node.toNat off [1, 2]).isSome

/-- The address names this node. -/
def ownAddr (s : State) (q : MemReq) : Bool := decide (addrNode q.req.addr = s.ident.node.toNat)

/-- Count a store or an add at the combiner (R132, R147); these two wrap, and the counts of corrected and uncorrectable lines and
of late responses saturate. Log entry 94 (DESIGN CHOICE). -/
def combStore (m : Nat) (s : State) : State := modMs m (fun x => { x with combStores := x.combStores + 1 }) s
def combAdd (m : Nat) (s : State) : State := modMs m (fun x => { x with combAdds := x.combAdds + 1 }) s

/-- Serve a store (R129, R137, R154, R171 to R173, R178). -/
def storeAt (home : Nat) (q : MemReq) (v : Verdict) (s : State) : Zone → State
  | .unmapped => violateHome home q s
  | .pool o =>
    if ownAddr s q && stillsHome s o then violateHome home q s
    else if memFenced s (homeOf s o) || (msSt s (homeOf s o)).poisonHome then failHome home q s
    else if q.req.mask = 0 then respond home q (rspOf q) s
    else
      let s := if q.req.mask = fullMask then s else poolMend o v s
      acknowledge home q o (rspOf q)
        (combStore (homeOf s o) (noteLines (jobTag s q.req.job) 1 (poolWrite o q.req.mask q.req.data q.req.poison s)))
  | .mill o =>
    if bankFenced s (bankAt o) then failHome home q s
    else if dailyRange o then violateHome home q s
    else
      let mask := queueMask s o q.req.mask
      let s := if mask = fullMask then s else millCheck o v s
      let s := if mask = 0 then s else millWrite o mask q.req.data q.req.poison s
      respond home q (rspOf q) (afterMill o mask (bufStation q.buf) s)
  | .bitSet o =>
    if bankFenced s (bankAt o) then failHome home q s
    else if dailyRange o then violateHome home q s
    else
      let mask := queueMask s o q.req.mask
      let s := millCheck o v s
      let s := if mask = 0 then s else millWrite o mask (millLine s o ||| q.req.data) false s
      respond home q (rspOf q) (afterMill o mask (bufStation q.buf) s)
  | .bitClear o =>
    if bankFenced s (bankAt o) then failHome home q s
    else if dailyRange o then violateHome home q s
    else
      let mask := queueMask s o q.req.mask
      let s := millCheck o v s
      let s := if mask = 0 then s else millWrite o mask (millLine s o &&& ~~~ q.req.data) false s
      respond home q (rspOf q) (afterMill o mask (bufStation q.buf) s)

def serveStore (home : Nat) (q : MemReq) (v : Verdict) (s : State) : State :=
  storeAt home q v s (zoneOf s false (addrOff q.req.addr))

/-- MAX and MIN act in the millpond alone (R130). -/
def millOnly : MemOp → Bool
  | .maxI64 | .minI64 | .maxF32x2 | .minF32x2 => true
  | _ => false

def isAdd : MemOp → Bool
  | .addI64 | .addF32x2 => true
  | _ => false

/-- The adds of a receive buffer that are pending to a word together with one being served: those of its kind, up to the first
other access to the word's line (R132, R170). -/
def addRun (q : MemReq) : List MrMsg → List (MrMsg × MemReq)
  | [] => []
  | m :: t => match m.pay with
    | .req x =>
      if x.req.op == q.req.op && addrOff x.req.addr == addrOff q.req.addr && addrNode x.req.addr == addrNode q.req.addr then
        (m, x) :: addRun q t
      else if addrOff x.req.addr / 64 == addrOff q.req.addr / 64 then []
      else addRun q t
    | _ => addRun q t

/-- The pending adds that share one write with an add at a bank, at most 63 more (R170); they are summed in the order of their
sources' stations. Log entry 96 (DESIGN CHOICE). -/
def pendingAdds (s : State) (home : Nat) (q : MemReq) : List (Nat × MrMsg × MemReq) :=
  if isAdd q.req.op then
    (((List.range 36).map (fun src => (addRun q (tget [] s.mrc.rx (pcKey src home cREQ))).map (fun x => (src, x.1, x.2)))).flatten).take 63
  else []

/-- An atomic at a bank with the adds pending beside it: each is answered with the word as the ones before it left it, and the
last value is what the one write stores (R130, R170). -/
def runAtomics (home : Nat) : List MemReq → Word64 → State → Word64 × State
  | [], v, s => (v, s)
  | q :: t, v, s =>
    runAtomics home t (atomicNew q.req.op v q.req.operand q.req.compare) (respond home q { rspOf q with result := v } s)

def millAtomic (home : Nat) (q : MemReq) (o : Nat) (s : State) : State :=
  let more := pendingAdds s home q
  let s := more.foldl (fun s x => takeRx home cREQ x.1 x.2.1 s) s
  let r := runAtomics home (q :: more.map (·.2.2)) (millWord s (o / 8)) s
  match queueAtLine s (o / 64) with
  | none => millWordWrite (o / 8) r.1 r.2
  | some k => doorbell k (bufStation q.buf) (millWordWrite (o / 8) r.1 r.2)

/-- Serve an atomic (R130, R137, R141, R170, R172, R178). -/
def atomicAt (home : Nat) (q : MemReq) (v : Verdict) (s : State) : Zone → State
  | .unmapped => violateHome home q s
  | .bitSet _ | .bitClear _ => violateHome home q s
  | .pool o =>
    if millOnly q.req.op || (ownAddr s q && stillsHome s o) then violateHome home q s
    else if memFenced s (homeOf s o) || (msSt s (homeOf s o)).poisonHome then failHome home q s
    else
      let s := noteLines (jobTag s q.req.job) 1 (poolMend (o / 64 * 64) v s)
      if poisonOf s o then failHome home q s
      else
        let old := wordGet s.mem.cells o
        let new := atomicNew q.req.op old q.req.operand q.req.compare
        let s := modMem (fun m => { m with cells := wordSet m.cells o new }) s
        let s := if isAdd q.req.op then combAdd (homeOf s o) s else s
        acknowledge home q o { rspOf q with result := old } s
  | .mill o =>
    if bankFenced s (bankAt o) then failHome home q s
    else if dailyRange o then violateHome home q s
    else
      let s := millCheck (o / 64 * 64) v s
      if wordBad s (o / 8) then failHome home q (bankUncorrectable o s)
      else
        if (queueAtLine s (o / 64)).isSome && decide (o / 8 % 8 ≠ 0) then respond home q { rspOf q with result := millWord s (o / 8) } s
        else millAtomic home q o s

def serveAtomic (home : Nat) (q : MemReq) (v : Verdict) (s : State) : State :=
  atomicAt home q v s (zoneOf s false (addrOff q.req.addr))

/-- A unit that reaches a bank directly takes its turn there (R167, R168). -/
def bankTurn (q : MemReq) (s : State) : State :=
  if q.node == s.ident.node && direct s q.req.who (addrOff q.req.addr) then
    match zoneOf s false (addrOff q.req.addr) with
    | .mill o | .bitSet o | .bitClear o => ownerTurn (match q.req.who with | .grip _ => 3 | _ => 2) 0 (bankAt o) s
    | _ => s
  else s

/-- Serve a request by its opcode. -/
def serveOp (home : Nat) (q : MemReq) (v : Verdict) (s : State) : State :=
  let s := bankTurn q s
  match q.req.op with
  | .load => serveLoad home q v s
  | .store => serveStore home q v s
  | _ => serveAtomic home q v s

/-- Serve a request that its home holds: the record of a claim answers one sent again (R397), the set's rule, then the
operation. -/
def serve (home : Nat) (q : MemReq) (v : Verdict) (s : State) : State :=
  let off := addrOff q.req.addr
  match (if q.req.op == .load then none else recordOf s q) with
  | some r =>
    respond home q { rspOf q with result := r.result.getD 0 }
      (modPair (fun p => { p with record := p.record.erase r }) s)
  | none =>
    match setRule s q off with
    | .serve => serveOp home q v s
    | .violation => violateHome home q s
    | .drop => s
    | .hold => modPair (fun p => { p with heldAtomics := p.heldAtomics ++ [q] }) s
    | .wait => modPair (fun p => { p with waiting := p.waiting ++ [q] }) s

/-- A request reaches its home's ordering point. It waits while the millpond's clear runs (R175), while its station is
paused (R65), and in safe state and in the dark state no access is taken (R378, R415). -/
def reach (op : MemOp) (q : MemReq) (v : Verdict) (s : State) : State :=
  let home := serveStation s q
  let clearing := match zoneOf s (innerReq s q) (addrOff q.req.addr) with
    | .mill _ | .bitSet _ | .bitClear _ => !s.mpd.cleared
    | _ => false
  if q.req.op ≠ op || clearing || stationRests s home then s
  else
    match accept home q s with
    | none => s
    | some t => serve home q v t

def execLoad (q : MemReq) (v : Verdict) (s : State) : Out := .next (reach .load q v s)
def execStore (q : MemReq) (v : Verdict) (s : State) : Out := .next (reach .store q v s)
def execAddI64 (q : MemReq) (v : Verdict) (s : State) : Out := .next (reach .addI64 q v s)
def execAddF32x2 (q : MemReq) (v : Verdict) (s : State) : Out := .next (reach .addF32x2 q v s)
def execSwap (q : MemReq) (v : Verdict) (s : State) : Out := .next (reach .swap q v s)
def execCas (q : MemReq) (v : Verdict) (s : State) : Out := .next (reach .cas q v s)
def execMaxI64 (q : MemReq) (v : Verdict) (s : State) : Out := .next (reach .maxI64 q v s)
def execMinI64 (q : MemReq) (v : Verdict) (s : State) : Out := .next (reach .minI64 q v s)
def execMaxF32x2 (q : MemReq) (v : Verdict) (s : State) : Out := .next (reach .maxF32x2 q v s)
def execMinF32x2 (q : MemReq) (v : Verdict) (s : State) : Out := .next (reach .minF32x2 q v s)

/-! ### Responses -/

/-- A request that was held for want of a response slot goes its way: a load to its replica, or to the home when the replica
has gone since (R108, R156, R160). -/
def sendHeld (h : HeldReq) (s : State) : State :=
  match h.replica with
  | none => sendReq h.req h.node h.dst h.onMillrace h.region none s
  | some j =>
    let a : Word64 := h.req.data.setWidth 64
    if replicaStands s j (addrNode a) (addrOff a / 65536) then sendReq h.req h.node h.dst h.onMillrace h.region h.replica s
    else issueRemote { h.req with addr := a, data := 0 } (BitVec.ofNat 16 (addrNode a)) h.region s

/-- An MGT request that expects an answer takes a response slot of its station's buffer, or waits for one (R108). -/
def sendMgt (n : Nat) (m : MrMsg) (s : State) : State :=
  let st := ssOf n
  let k := tget 0 s.mem.mgtSlots st
  if k < bufCap st ∧ (outst s st (bufCap st - 1 - k)).isNone = true then
    sendMsg st st cMGT m (modMem (fun x => { x with mgtSlots := tset 0 x.mgtSlots st (k + 1) }) s)
  else modMem (fun x => { x with mgtHeld := x.mgtHeld ++ [(n, m)] }) s

/-- A response slot of a buffer has become free: the first MGT request and the first memory request that wait for it go on.
Log entry 33 (DESIGN CHOICE). -/
def retryHeld (b : Nat) (s : State) : State :=
  let s := match s.mem.mgtHeld.find? (fun r => ssOf r.1 == b) with
    | none => s
    | some r => sendMgt r.1 r.2 (modMem (fun m => { m with mgtHeld := m.mgtHeld.erase r }) s)
  match (if (freeSlot s b).isNone then none else s.mem.held.find? (fun r => reqBuf r.req.who == b)) with
  | none => s
  | some r => sendHeld r (modMem (fun m => { m with held := m.held.erase r }) s)

/-- The answer of an MGT request has left its response slot (R108). -/
def releaseMgt (n : Nat) (s : State) : State :=
  retryHeld (ssOf n) (modMem (fun m => { m with mgtSlots := tupd 0 m.mgtSlots (ssOf n) (· - 1) }) s)

/-- Release a response slot: its generation advances (R145), and what waits for the buffer goes on.
Log entry 33 (DESIGN CHOICE). -/
def releaseSlot (b k : Nat) (s : State) : State :=
  retryHeld b (modMem (fun m => { m with
    slots := tset none m.slots (slotKey b k) none
    gens := tupd 0 m.gens (slotKey b k) (· + 1) }) s)

/-- A response meets its slot (R145): a stale generation is discarded and counted; else the slot is released, a failure is
reported at the requester (R142, R144), and the answer is handed over. Log entry 13 (DESIGN CHOICE). -/
def complete (a : MemRsp) (s : State) : State :=
  match outst s a.buf a.slot with
  | none => modMem (fun m => { m with lateRsp := sat32 m.lateRsp 1 }) s
  | some o =>
    if o.gen ≠ a.gen then modMem (fun m => { m with lateRsp := sat32 m.lateRsp 1 }) s
    else
      let remote := o.node != s.ident.node
      let failed := a.status ≠ 0 ∨ (remote = true ∧ a.poison = true)
      let s := if failed then failAccess o.req (if a.status = 1 then .remoteTimeout else .targetFenced) s else s
      releaseSlot a.buf a.slot (deliver o.req a s)

/-- A response reaches its requester's station (R113, R128). -/
def rspArrive (isLoad : Bool) (a : MemRsp) (s : State) : State :=
  let st := bufStation a.buf
  match findRx s st cRSP (fun p => p == (if isLoad then .loadData a else .ack a)) with
  | none => s
  | some (src, m) => if s.flt.safe then s else complete a (takeRx st cRSP src m s)

/-- Fail one request whose timeout has passed (R142, R143). Log entry 4 (DESIGN CHOICE). -/
def expire (b k : Nat) (s : State) : State :=
  match outst s b k with
  | none => s
  | some o =>
    releaseSlot b k (failNow o.req 1 .remoteTimeout s)

/-- The 1 µs sweep (R143). -/
def sweep (s : State) : State :=
  if s.now < s.mem.nextSweep then s
  else
    let old := s.mem.slots.filterMap (fun p => match p.2 with
      | some o => (match o.sent with
          | some t => if t + s.mem.timeoutUs * 1000 ≤ s.now then some p.1 else none
          | none => none)
      | none => none)
    old.foldl (fun s k => expire (k / 8192) (k % 8192) s)
      (modMem (fun m => { m with nextSweep := (s.now / 1000 + 1) * 1000 }) s)

def execTimeoutSweep (s : State) : Out := .next (sweep s)

/-- The data of a store command from a site (R126): the first waiting command of the module with that tag issues. -/
def storeData (site module : Nat) (tag : BitVec 12) (data : Line) (s : State) : State :=
  match s.mem.storeWait.find? (fun w => w.1 == site && w.2.1 == module && w.2.2.tag == tag) with
  | none => s
  | some w =>
    issueMem { w.2.2 with data := data, poison := false }
      (modMem (fun m => { m with storeWait := m.storeWait.erase w }) s)

def execStoreData (site module : Nat) (tag : BitVec 12) (data : Line) (poison : Bool) (s : State) : Out :=
  .next (if s.flt.safe then s else storeData site module tag data s)

/-- Lines of a station's stack. -/
def stackLines (s : State) : Nat := s.part.stackGib * 2 ^ 24

/-- The patrol scrub reads the next line of a station (R138), after the accesses to that line at the ordering point; a corrected
line is written back. -/
def patrolScrub (ms line : Nat) (v : Verdict) (s : State) : State :=
  let x := msSt s ms
  let queued := x.queue.any (fun q => homeOf s (addrOff q.req.addr) == ms && localLine s (addrOff q.req.addr) == line)
  if s.flt.safe || !hasMs s.part.variant ms || x.st != 1 || memFenced s ms || line ≠ x.scrubNext || queued then s
  else
    let s := if s.mem.symErrs.isEmpty && v == .clean then s else poolMend (offsetOfLocal s ms line) v s
    if line + 1 ≥ stackLines s then modMs ms (fun x => { x with scrubNext := 0, scrubPasses := x.scrubPasses + 1 }) s
    else modMs ms (fun x => { x with scrubNext := line + 1 }) s

def execPatrolScrub (ms : Nat) (line : Nat) (v : Verdict) (s : State) : Out := .next (patrolScrub ms line v s)

/-- A class stalls at a station in a tick when the head of one of its queues lacks a credit, or a request of it lacks a
response slot (R108, R119). -/
def stallTick (s : State) : State :=
  let heads := s.mrc.queues.filterMap (fun p =>
    let src := p.1 / 8 / 36
    let dst := p.1 / 8 % 36
    let cls := p.1 % 8
    if headStalled s src dst cls then some (src * 8 + cls) else none)
  let held := s.mem.held.map (fun r => reqStation r.req.who * 8 + cREQ) ++ s.mem.mgtHeld.map (fun r => ssOf r.1 * 8 + cMGT)
  let keys := (heads ++ held).eraseDups
  keys.foldl (fun s k => modMrc (fun m => { m with
    count := tupd {} m.count (k / 8) (fun c => { c with stall := tupd 0 c.stall (k % 8) (· + 1) }) }) s) s

end Sys2Proof.Machine
end

