-- ==== Sys2Proof/Machine/Roles.lean ====
section
/-! DEFINITION. What a path into control space may do (R378, R415, R420, R422 to R424, R447 to R449). -/

namespace Sys2Proof.Machine

open Sys2Proof

/-- The roles of register fields (R449). -/
inductive Right where
  | o | i | m
deriving DecidableEq, Repr

/-- The role that a path holds: its session's, or an operator's for a site whose running job sets SITE_OPERATOR (R424).
Log entry 20 (DEDUCED). -/
def pathRole (s : State) : Path → Role
  | .session n => (match tget none s.role.sessions n with
      | some x => x.role
      | none => .none)
  | .sideband site | .mgt site => (match jobOfSite s site with
      | some j => if jobSiteOperator s j && !siteFenced s site then .operator else .none
      | none => .none)

/-- A path holds a field's role (R422, R423, R449). Log entry 20 (DEDUCED). -/
def holds (s : State) (p : Path) (r : Right) : Bool :=
  match pathRole s p with
  | .none => false
  | .operator => r == .o
  | .installer => r == .o || r == .i
  | .maker => r == .o || s.role.facActive

/-- Control space takes a write to an ordinary register: boot phase 4 has ended (R447), and neither safe state nor the dark
state holds it back (R378, R463). Log entries 1 (DESIGN CHOICE), 83 (DEDUCED). -/
def csOpen (s : State) : Bool := decide (5 ≤ s.boot.phase) && !s.flt.safe && !s.boot.dark

/-- A write of a field of a role takes effect from a path. Log entry 7 (DEDUCED). -/
def mayWrite (s : State) (p : Path) (r : Right) : Bool := csOpen s && holds s p r

/-- A session's number in audit entries (R429). -/
def auditSession : Path → Nat
  | .session n => n
  | _ => 255

/-- The 32 bytes of an entry (R429). -/
def auditWord (e : AuditEntry) : BitVec 256 :=
  BitVec.ofNat 256 (e.time.toNat + e.seq.toNat * 2 ^ 64 + e.role % 256 * 2 ^ 96 + e.session % 256 * 2 ^ 104 + e.action % 65536 * 2 ^ 112
    + e.object.toNat * 2 ^ 128 + e.detail.toNat * 2 ^ 160 + e.key.toNat * 2 ^ 224)

/-- An entry number of the ring as it reads. -/
def auditAt (s : State) (k : Nat) : BitVec 256 := match tget none s.role.audit k with
  | some e => auditWord e
  | none => 0

/-- Line k of the ring, two entries: what the lead of a pair copies to its stand-in (R391). -/
def auditLine (s : State) (k : Nat) : Line := (auditAt s (2 * k)).setWidth 512 ||| ((auditAt s (2 * k + 1)).setWidth 512 <<< 256)

/-- A log line joins what the lead has still to send (R391). -/
def mirrorLog (index : Nat) (data : Line) (s : State) : State :=
  if s.pair.role == .lead && !s.pair.resyncing then modPair (fun p => { p with outbox := p.outbox ++ [.log index data] }) s else s

/-- Write an entry, with its time and number; a full ring overwrites the oldest not archived (R429, R430). -/
def pushAudit (x : AuditEntry) (s : State) : State :=
  let e := { x with time := s.tc.timecode, seq := s.role.auditSeq }
  let lost := decide (1024 ≤ (s.role.auditSeq - s.role.archived).toNat)
  let k := s.role.auditHead / 2
  let t := modRole (fun r => { r with
    audit := tset none r.audit r.auditHead (some e)
    auditHead := (r.auditHead + 1) % 1024
    auditSeq := r.auditSeq + 1
    archived := if lost then r.archived + 1 else r.archived
    auditLost := if lost then sat32 r.auditLost 1 else r.auditLost }) s
  mirrorLog (8 + k) (auditLine t k) t

/-- An entry of the base that carries a value in KEY (R429). -/
def auditKeyed (action : Nat) (object : Word32) (detail : Word64) (key : Word32) (s : State) : State :=
  pushAudit { action := action, object := object, detail := detail, key := key } s

/-- Write the entry of an action that a path asks for, or of the base (R429). Log entry 84 (DEDUCED). -/
def audit (p : Option Path) (action : Nat) (object : Word32) (detail : Word64) (s : State) : State :=
  let role := match p with
    | none => 0
    | some p => (match pathRole s p with | .none => 0 | .operator => 1 | .installer => 2 | .maker => 3)
  let key := match p with
    | some (.session n) => (match tget none s.role.sessions n with
        | some x => x.keyDigest.setWidth 32
        | none => 0)
    | _ => 0
  pushAudit { role := role, session := (match p with | some p => auditSession p | none => 255)
              action := action, object := object, detail := detail, key := key } s

/-- A write of a field of role I: it takes effect and is audited (R429). Log entries 7 (DEDUCED), 84 (DEDUCED). -/
def iWrite (p : Path) (addr data : Nat) (f : State → State) (s : State) : State :=
  if mayWrite s p .i then audit (some p) 0x10 (BitVec.ofNat 32 addr) (BitVec.ofNat 64 data) (f s) else s

end Sys2Proof.Machine
end

