-- ==== Sys2Proof/Machine/Placement.lean ====
section
/-! DEFINITION. Stills regions, the blocking engine's epochs and fetches (chapter 06). -/

namespace Sys2Proof.Machine

open Sys2Proof

def regionOf (s : State) (i : Nat) : Region := tget {} s.blk.regions i

/-- Two block ranges of one node overlap. -/
def overlaps (f : RegionFields) (e : Region) : Bool :=
  e.node == f.node && decide (f.base.toNat < e.base.toNat + e.blocks ∧ e.base.toNat < f.base.toNat + f.blocks.toNat)

/-- The REASON for which a declaration is refused; 0 none (R153, R164). Log entry 32 (DEDUCED). -/
def declareReason (s : State) (i : Nat) (f : RegionFields) : Nat :=
  if !jobRunning s f.job.toNat then 1
  else if f.base.toNat + f.blocks.toNat > 2 ^ 24 then 2
  else if s.blk.regions.any (fun p => p.2.st == 1 && overlaps f p.2) then 3
  else if (regionOf s i).st ≠ 0 then 4
  else 0

/-- A region's range lies in the mirrored set (R391). -/
def regionInSet (s : State) (e : Region) : Bool :=
  decide (e.node.toNat = setNode s) && inSet s (e.base.toNat * 65536) && inSet s ((e.base.toNat + e.blocks) * 65536 - 1)

/-- Declare a region in an entry, when its slate takes effect (R153, R154, R158). -/
def declareRegion (i : Nat) (f : RegionFields) (s : State) : State :=
  let why := declareReason s i f
  if why ≠ 0 then modBlk (fun b => { b with regions := tupd {} b.regions i (fun e => { e with reason := why }) }) s
  else
    let e : Region := { st := 1, reason := 0, node := f.node, base := f.base, blocks := f.blocks.toNat, job := f.job.toNat, mode := f.mode.toNat,
                        threshold := f.threshold.toNat, fromEpoch := s.tc.timecode.toNat / 1000000 + 1 }
    let t := modBlk (fun b => { b with regions := tset {} b.regions i e }) s
    if s.pair.role == .lead && pairNative s && !s.pair.resyncing && regionInSet s e then
      modPair (fun p => { p with outbox := p.outbox ++ [.region i f] }) t
    else t

/-- The fields lie in their ranges (R153, R454): MODE 3 is reserved, BLOCKS starts at 1, THRESHOLD at 1 in counted mode. -/
def regionLegal (f : RegionFields) : Bool :=
  decide (f.mode.toNat < 3 ∧ 1 ≤ f.blocks.toNat) && (f.mode.toNat != 2 || decide (1 ≤ f.threshold.toNat))

/-- The slate's fields in effect for an entry (R164, R453). -/
def regionEffect (i : Nat) (f : RegionFields) (s : State) : State :=
  setEffect 0x070044 i (f.node.toNat + 2 ^ 16 * f.job.toNat) (setEffect 0x070048 i f.base.toNat
    (setEffect 0x07004C i f.blocks.toNat (setEffect 0x070050 i (f.mode.toNat + 256 * f.threshold.toNat) s)))

/-- Release a region: its replicas and waiting fetches go, other fetches take their places, and loads that matched it drain
(R155, R157, R160). -/
def releaseRegion (i : Nat) (s : State) : State :=
  if (regionOf s i).st ≠ 1 then s
  else
    let s := modBlk (fun b => { b with
      regions := tupd {} b.regions i (fun e => { e with st := 2 })
      replicas := b.replicas.filter (fun p => match p.2 with | some x => x.region != i | none => false)
      flight := b.flight.filter (fun j => match tget none b.replicas j with | some x => x.region != i | none => false)
      waiting := b.waiting.filter (fun w => w.1 != i)
      tracker := b.tracker.filter (fun t => t.2.2.1 != i) }) s
    startWaiting s.blk.waiting.length s

/-- Loads that matched a region and have not completed (R155). -/
def regionLoads (s : State) (i : Nat) : Bool := s.mem.slots.any (fun p => match p.2 with
  | some o => o.region == some i
  | none => false)

def releaseDone (i : Nat) (s : State) : State :=
  if (regionOf s i).st = 2 ∧ regionLoads s i = false then
    modBlk (fun b => { b with regions := tset {} b.regions i {} }) s
  else s

def execRegionDeclare (p : Path) (entry : Nat) (f : RegionFields) (s : State) : Out :=
  .next (if mayWrite s p .o && decide (entry < 256) && regionLegal f then declareRegion entry f (regionEffect entry f s) else s)

def execRegionRelease (p : Path) (entry : Nat) (s : State) : Out :=
  .next (if mayWrite s p .o && decide (entry < 256) then releaseRegion entry s else s)

def execRegionReleaseComplete (entry : Nat) (s : State) : Out := .next (releaseDone entry s)

/-- Start the fetches of the blocks that reached their thresholds, in block order (R157). -/
def countedFetches (s : State) : State :=
  let ready := (s.blk.tracker.filter (fun t => decide ((regionOf s t.2.2.1).st = 1 ∧ (regionOf s t.2.2.1).threshold ≤ t.2.2.2))).mergeSort
    (fun a b => decide (a.2.1 ≤ b.2.1))
  ready.foldl (fun s t => startFetch t.2.2.1 t.1 t.2.1 s) s

/-- An epoch ends at a whole multiple of 1,000,000 of the timecode (R46, R158, R161, R163).
Log entries 4 (DESIGN CHOICE), 34 (DEDUCED). -/
def epochEnd (s : State) : State :=
  let e := s.tc.timecode.toNat / 1000000
  if s.flt.safe || decide (e ≤ s.blk.epochDone) then s
  else
    let s := countedFetches s
    modBlk (fun b => { b with
      tracker := []
      untracked := []
      epochDone := e
      fullEpochs := b.fullEpochs + 1
      gripMean := b.gripSum, gripSum := []
      mstMean := b.mstSum, mstSum := [] }) s

def execEpochEnd (s : State) : Out := .next (epochEnd s)

/-- A response to a fetch load reaches the engine (R157, R160). -/
def blockResponse (j line : Nat) (data : Line) (poison failed : Bool) (s : State) : State :=
  let hit := s.mem.slots.findSome? (fun p => match p.2 with
    | some o => if o.req.who == .engine && o.req.compare.toNat % 2 ^ 20 == j && o.req.operand == BitVec.ofNat 64 line
        then some (p.1, o) else none
    | none => none)
  match hit with
  | none => s
  | some (k, o) =>
    let s := if failed || poison then failAccess o.req .targetFenced s else s
    releaseSlot (k / 8192) (k % 8192)
      (deliver o.req { buf := k / 8192, slot := k % 8192, gen := o.gen, data := data, poison := poison || failed } s)

def execBlockFetchResponse (slot line : Nat) (data : Line) (poison failed : Bool) (s : State) : Out :=
  .next (if s.flt.safe then s else blockResponse slot line data poison failed s)

/-- A local memory station is fenced: every replica is dropped (R160). -/
def dropAllReplicas (s : State) : State :=
  s.blk.replicas.foldl (fun s p => dropReplica p.1 s) (modBlk (fun b => { b with waiting := [] }) s)

/-- Sums of the epoch, tick by tick: pending descriptors per grip (R161). Log entry 34 (DEDUCED). -/
def gripTick (s : State) : State :=
  let gs := (s.grp.descs.map (·.grip)).eraseDups
  gs.foldl (fun s g => modBlk (fun b => { b with gripSum := tupd 0 b.gripSum g (· + gripPending s g) }) s) s

end Sys2Proof.Machine
end

