-- ==== Sys2Proof/Machine/Millpond.lean ====
section
/-! DEFINITION. Bank owners, copy queues, grips and watches (chapter 07). -/

namespace Sys2Proof.Machine

open Sys2Proof

/-- The ring of a queue lies in one bank owned by its field's grip group (R177). -/
def ringLegal (s : State) (q base : Nat) : Bool :=
  let b := base / 65536
  decide (base + 256 < 2 ^ 21 ∧ (base + 256) / 65536 = b ∧ b / 8 = q / 16 ∧ (bankOwner s b).1 = 3) && hasBank s.part.variant b

/-- Enable a queue (R179). -/
def enableQueue (q base job : Nat) (s : State) : State :=
  let x := queueOf s q
  if x.st ≠ 0 then s
  else
    let s := modQueue q (fun x => { x with base := base, job := job }) s
    if !ringLegal s q base then modQueue q (fun x => { x with reason := 1 }) s
    else if !jobRunning s job then modQueue q (fun x => { x with reason := 2 }) s
    else modQueue q (fun x => { x with st := 1, reason := 0 }) (millWrite (64 * base) fullMask 0 false s)

/-- Disable a queue: descriptors taken and not started complete as DISCARDED (R179, R183). -/
def disableQueue (q : Nat) (s : State) : State :=
  if (queueOf s q).st = 0 then s
  else
    modGrp (fun g => { g with
      descs := g.descs.map (fun d => if d.queue = q ∧ d.st = .pending then { d with discarded := true } else d) })
      (modQueue q (fun x => { x with st := 0 }) s)

/-- Leave the error state (R179). -/
def resetQueue (q : Nat) (s : State) : State :=
  if (queueOf s q).st ≠ 2 then s
  else modQueue q (fun x => { x with st := 1, reason := 0 }) (millWrite (64 * (queueOf s q).base) fullMask 0 false s)

/-- Fields of BASE and JOB take effect only while the queue is disabled (R179). -/
def queueFields (queue base job : Nat) (s : State) : State :=
  if (queueOf s queue).st = 0 then setEffect (0x091000 + 16 * queue) 0 base (setEffect (0x091004 + 16 * queue) 0 job s) else s

def execQueueEnable (p : Path) (queue base job : Nat) (s : State) : Out :=
  .next (if mayWrite s p .o && decide (queue < 64) then
      enableQueue queue base job (queueFields queue base job (setEffect (0x091008 + 16 * queue) 0 1 s))
    else s)
def execQueueDisable (p : Path) (queue : Nat) (s : State) : Out :=
  .next (if mayWrite s p .o && decide (queue < 64) then disableQueue queue (setEffect (0x091008 + 16 * queue) 0 0 s) else s)
def execQueueReset (p : Path) (queue : Nat) (s : State) : Out :=
  .next (if mayWrite s p .o && decide (queue < 64) then resetQueue queue s else s)

/-- The path of a descriptor: the grip-stream feed of its STREAM in the active reel, else the millrace (R185). -/
def sluicePath (s : State) (d : CopyDesc) : Option (Nat × Nat) :=
  if d.stream = 0 then none
  else (List.range 36).findSome? (fun st => (streamFeed s 5 st d.stream).map (fun sel => (st, sel)))

/-- A running descriptor has issued its last source load (R184). -/
def issuedAll (s : State) (d : Desc) : Bool := malformed s d.d || decide (descLines d.d ≤ d.issued) || d.lost

/-- The grip starts its next descriptor (R182, R184, R185). -/
def gripStart (g : Nat) (s : State) : State :=
  if gripFenced s g || s.flt.safe || s.grp.descs.any (fun d => d.grip == g && d.st == .running && !issuedAll s d) then s
  else
    match s.grp.descs.find? (fun d => d.grip == g && d.st == .pending && !d.discarded) with
    | none => s
    | some d =>
      if d.d.fence && s.grp.descs.any (fun e => e.queue == d.queue && decide (e.id < d.id)) then s
      else
        let path := if malformed s d.d then none else sluicePath s d.d
        modGrp (fun x => { x with
          descs := x.descs.map (fun e => if e == d then { e with st := .running, sluice := path } else e) }) s

def execGripDescriptorStart (g : Nat) (s : State) : Out := .next (gripStart g s)

/-- The completion status of a descriptor (R183). Log entry 35 (DEDUCED). -/
def descStatus (s : State) (d : Desc) : Nat :=
  if d.discarded then 4 else if malformed s d.d then 2 else if d.lost then 3
  else if d.failed || gripFenced s d.grip then 1 else 0

/-- A descriptor is done with its lines (R183, R186). Log entry 35 (DEDUCED). -/
def descReady (s : State) (d : Desc) : Bool :=
  d.discarded ||
    (d.st == .running &&
      (malformed s d.d || d.lost || gripFenced s d.grip ||
        (match d.sluice with
         | none => decide (descLines d.d ≤ d.done)
         | some _ => (match d.landedAt with
            | some t => decide (t ≤ s.now)
            | none => false))))

/-- A descriptor completes (R183): the counter add first, which a counter beyond the grip's field must have acknowledged; one
outside the job's windows is a violation (R179), and one that fails raises its fault (R144, R173). -/
def descComplete (queue number : Nat) (s : State) : State :=
  match s.grp.descs.find? (fun d => d.queue == queue && d.number == number && descReady s d) with
  | none => s
  | some d =>
    if s.flt.safe then s
    else
      let st := descStatus s d
      if st = 0 ∧ d.d.count = true then
        let node := addrNode d.d.counter
        let off := addrOff d.d.counter
        let r : IssueReq := { who := .grip d.grip, op := .addI64, addr := d.d.counter, operand := d.d.increment, job := d.job,
                              compare := descKey d }
        if !allowed s d.job node off true then
          finishDesc d st (modMem (fun m => { m with violations := sat32 m.violations 1 }) s)
        else if node = s.ident.node.toNat && direct s (.grip d.grip) off then
          let w := (off - millBase) / 8
          let (x, s) := counterAdd w d.d.increment (wsOf (d.grip / 4)) (ownerTurn 3 0 (bankAt (8 * w)) s)
          finishDesc d st (if x = 0 then s else failAccess r .targetFenced s)
        else
          issueMem r (modGrp (fun g => { g with
            descs := g.descs.map (fun e => if e == d then { e with st := .adding } else e) }) s)
      else finishDesc d st s

def execDescriptorComplete (queue number : Nat) (s : State) : Out := .next (descComplete queue number s)

/-- Lines of a sluice-path descriptor move from its buffer to its ring in row order while the ring has room (R185). -/
def gripRing (d : Desc) : Nat → State → Desc × State
  | 0, s => (d, s)
  | fuel + 1, s =>
    match d.sluice, d.buffer.find? (fun b => b.1 == d.placed) with
    | some (st, sel), some b =>
      let f := feedDef s s.tc.activeSlot st sel
      let key := ringKey st sel f
      (match (if admissionStopped s st then none else ringPush key f.ringLines (b.2.1, b.2.2) s) with
       | none => (d, s)
       | some t =>
         let r := tget {} t.slu.rings key
         gripRing { d with placed := d.placed + 1, buffer := d.buffer.filter (· ≠ b), ringEnd := r.start + r.lines.length } fuel t)
    | _, _ => (d, s)

/-- Every running sluice-path descriptor places what it can. -/
def gripFlow (s : State) : State :=
  (s.grp.descs.filter (fun d => d.st == .running && d.sluice.isSome && !d.lost)).foldl (fun s d =>
    let (e, t) := gripRing d d.buffer.length s
    modGrp (fun g => { g with descs := g.descs.map (fun x => if x == d then e else x) }) t) s

def execLoadData (r : MemRsp) (s : State) : Out := .next (gripFlow (rspArrive true r s))
def execAck (r : MemRsp) (s : State) : Out := .next (rspArrive false r s)

/-- The notices of a watch slot that wait, oldest first: word, site, tag, VALUE. -/
def watchNotices (s : State) (slot : Nat) : List (Nat × Nat × Word16 × Word64) :=
  let w := tget {} s.grp.watches slot
  w.old ++ (match w.notice with
    | some v => [(w.word, w.site, w.tag, v)]
    | none => [])

/-- Arm, rearm or turn off a watch when its slate takes effect (R188, R189); a notice of the slot's earlier watch goes on waiting
as it is. -/
def armWatch (slot : Nat) (f : WatchFields) (s : State) : State :=
  let w := f.word.toNat
  let off := f.mode.toNat = 0
  let stopped := bankFenced s (bankAt (8 * w))
  let x : Watch := { st := if off then 0 else if stopped then 3 else 1, word := w, threshold := f.threshold, step := f.step,
                     mode := f.mode.toNat, site := f.site.toNat, tag := f.tag,
                     old := watchNotices s slot }
  let s := modGrp (fun g => { g with watches := tset {} g.watches slot x }) s
  if x.st = 1 ∧ f.threshold.toNat ≤ (millWord s w).toNat then fireWatch slot (millWord s w) s else s

/-- MODE 3 and sites beyond 11 are out of range (R191, R454). -/
def watchLegal (f : WatchFields) : Bool := decide (f.mode.toNat < 3 ∧ f.site.toNat < 12)

def execWatchArm (p : Path) (slot : Nat) (f : WatchFields) (s : State) : Out :=
  .next (if mayWrite s p .o && decide (slot < 1024) && watchLegal f then armWatch slot f s else s)

/-- A waiting notice leaves the WS station of its bank's field once it holds a SIG credit (R189, R190).
Log entry 37 (DEDUCED). -/
def watchNotice (slot : Nat) (s : State) : State :=
  let w := tget {} s.grp.watches slot
  match watchNotices s slot with
  | [] => s
  | (word, site, tag, v) :: _ =>
    let src := wsOf (bankAt (8 * word) / 8)
    let dst := ssOf site
    if s.flt.safe || decide (creditsOf s src dst cSIG = 0) || !(tget [] s.mrc.queues (pcKey src dst cSIG)).isEmpty then s
    else
      sendMsg src dst cSIG { pay := .watchNotice site v slot tag }
        (modGrp (fun g => { g with
          watches := tset {} g.watches slot (if w.old.isEmpty then { w with notice := none } else { w with old := w.old.tail }) }) s)

def execWatchNotice (slot : Nat) (s : State) : Out := .next (watchNotice slot s)

/-- The watches on a bank stop while it is fenced and resume when it returns (R189). -/
def stopWatches (b : Nat) (s : State) : State :=
  modGrp (fun g => { g with
    watches := g.watches.map (fun p => if p.2.st = 1 ∧ bankAt (8 * p.2.word) = b then (p.1, { p.2 with st := 3 }) else p) }) s
def resumeWatches (b : Nat) (s : State) : State :=
  modGrp (fun g => { g with
    watches := g.watches.map (fun p => if p.2.st = 3 ∧ bankAt (8 * p.2.word) = b then (p.1, { p.2 with st := 1 }) else p) }) s

/-- Every millpond word and every scratchpad word is cleared with a valid code (R175). -/
def millClear (s : State) : State :=
  modMpd (fun m => { m with cleared := true, clearing := false, scratch := [], scratchBad := [] })
    (modMem (fun m => { m with cells := cellsClear m.cells millBase (millBase + millSize), badWords := [] }) s)

/-! ### DMA accesses that wait, and the crew scratchpads -/

/-- A DMA access to a bank stands at its WS station. -/
def dmaWaits (s : State) (b : Nat) : Bool :=
  (List.range 36).any (fun src => (tget [] s.mrc.rx (pcKey src (wsOf (b / 8)) cREQ)).any (fun m => match m.pay with
    | .req q => (match zoneOf s false (addrOff q.req.addr) with
        | .mill o | .bitSet o | .bitClear o => bankAt o == b
        | _ => false)
    | _ => false))

/-- A tick passes at the banks: a DMA access waited where the owner used its bank (R167, R191). Log entry 96 (DESIGN CHOICE). -/
def dmaTick (s : State) : State :=
  let bs := s.mpd.ownerUse.filter (dmaWaits s)
  modMpd (fun m => { m with ownerUse := [], dmaWait := bs.foldl (fun t b => tupd 0 t b (· + 1)) m.dmaWait }) s

/-- A core of the variant that is not fenced. -/
def coreUp (s : State) (c : Nat) : Bool := (fieldsOf s.part.variant).contains (c / 8) && !fenced s (uCore c)

/-- The (72,64) code of a scratchpad word (R172, R176): one bit in error is corrected and counted; a word with two or more is
counted and stays uncorrectable until it is written, and CREW_FAULT is raised where its own core met it (R379).
Log entry 96 (DESIGN CHOICE). -/
def crewAccess (a : CrewAccess) (s : State) : State :=
  let k := a.bank * 65536 + a.word
  if !coreUp s a.core || !coreUp s a.bank || a.core / 8 != a.bank / 8 || decide (65536 ≤ a.word) then s
  else
    match a.write with
    | some v => modMpd (fun m => { m with scratch := wordSet m.scratch (8 * k) v, scratchBad := tset false m.scratchBad k false }) s
    | none =>
      if tget false s.mpd.scratchBad k || decide (2 ≤ a.bits) then
        let t := modMpd (fun m => { m with
          scratchBad := tset false m.scratchBad k true
          crewUncorr := tupd 0 m.crewUncorr (a.bank / 8) (sat16 · 1)
          crewRead := m.crewRead ++ [(a.core, k, none)] }) s
        if a.core = a.bank then
          let (n, t) := nextFree t
          raise .crewFault 12 a.core (Config.freeWord n).toNat t
        else t
      else
        modMpd (fun m => { m with
          crewCorr := if a.bits = 0 then m.crewCorr else tupd 0 m.crewCorr (a.bank / 8) (sat16 · 1)
          crewRead := m.crewRead ++ [(a.core, k, some (wordGet m.scratch (8 * k)))] }) s

/-- A turn of the scratchpads (R167, R175, R176): each owner's accesses, then those of the other cores of its cluster. The accesses
come from the cores' firmware, which this model does not hold. Log entry 96 (DESIGN CHOICE). -/
def crewTurn (xs : List CrewAccess) (s : State) : State :=
  if xs.isEmpty || !s.mpd.cleared then s
  else
    (xs.filter (fun a => a.core == a.bank) ++ xs.filter (fun a => a.core != a.bank)).foldl (fun s a => crewAccess a s)
      (modMpd (fun m => { m with crewRead := [] }) s)

end Sys2Proof.Machine
end

