-- ==== Sys2Proof/Machine/Mill.lean ====
section
/-! DEFINITION. Contributions to the collective contexts: the scoreboard, landings, COL lines, late members, exponents
(R200 to R213, R222 to R227). -/

namespace Sys2Proof.Machine

open Sys2Proof

/-- Element operations of a millstone (R193). -/
def mstOps (w n : Nat) (s : State) : State :=
  modMst (fun m => { m with ops := tupd 0 m.ops w (· + BitVec.ofNat 64 n) }) s

/-- Lines discarded by the scoreboard (R204, R205, R223). -/
def mstDiscard (n : Nat) (s : State) : State := modMst (fun m => { m with discards := sat32 m.discards n }) s

def chunkAt (s : State) (c no : Nat) : Option Chunk := (ctxAt s c).chunks.find? (fun h => h.no == no)
def modChunk (c no : Nat) (f : Chunk → Chunk) (s : State) : State :=
  modCtx c (fun x => { x with chunks := x.chunks.map (fun h => if h.no = no then f h else h) }) s

def memAt (h : Chunk) (m : Nat) : Member := tget {} h.members m
def modMember (m : Nat) (f : Member → Member) (h : Chunk) : Chunk := { h with members := tupd {} h.members m f }

/-- Lines per group of a member's contribution: a local member sends in IN_FMT, a node in WIRE_FMT (R204, R226). -/
def lpgOf (r : CtxRec) (m : Nat) : Nat := if m < 12 then groupLines r.inFmt else groupLines r.wireFmt

/-- The lines of a group of a member are all there. -/
def gotGroup (r : CtxRec) (h : Chunk) (m g : Nat) : Bool :=
  (List.range (lpgOf r m)).all (fun k => (tget none (memAt h m).lines (g * lpgOf r m + k)).isSome)

/-- A member is counted complete for a group (R206, R212). -/
def memberGroup (r : CtxRec) (h : Chunk) (m g : Nat) : Bool := gotGroup r h m g && !(memAt h m).lost.contains g

/-- A member is counted complete for a chunk, its exponents with it (R209, R222). -/
def memberDone (r : CtxRec) (h : Chunk) (m : Nat) : Bool :=
  (List.range r.groups).all (memberGroup r h m) &&
    (r.lock.isNone || decide (12 ≤ m) || (List.range r.groups).all (fun g => (tget none (memAt h m).exps g).isSome))

/-- The local members, and the other nodes, still counted in a chunk. -/
def counted (r : CtxRec) (h : Chunk) : List Nat := (r.locals h.no).filter (fun m => !(memAt h m).gone)
def countedNodes (r : CtxRec) (h : Chunk) : List Nat := (r.partners h.no).filter (fun k => k == r.self || !(memAt h (12 + k)).gone)

/-- Bytewise maximum of exponent lines (R210). -/
def maxLine (ls : List Line) : Line := lineOfBytes (fun b => BitVec.ofNat 8 ((ls.map (fun l => (lineByte l b).toNat)).foldl max 0))

/-- The node's own agreed exponents of a group (R209, R226). -/
def localExp (r : CtxRec) (h : Chunk) (g : Nat) : Option Line :=
  let ls := (counted r h).map (fun m => tget none (memAt h m).exps g)
  if ls.all (·.isSome) then some (maxLine (ls.filterMap id)) else none

/-- The exponents that data of a group is aligned to (R209, R226). -/
def agreedAt (r : CtxRec) (h : Chunk) (g : Nat) : Option Line :=
  if r.nodes ≤ 1 then localExp r h g else tget none h.agreed g

/-- A line of a member's group waits in the input buffer (R208, R212). -/
def waitsIn (r : CtxRec) (h : Chunk) (m g : Nat) : Bool :=
  match r.lock with
  | some _ => decide (m < 12) && (agreedAt r h g).isNone
  | none =>
    r.combines &&
      (if m < 12 then (counted r h).any (fun k => decide (k < m) && !gotGroup r h k g)
       else (countedNodes r h).any (fun k => decide (k < m - 12) &&
         (if k = r.self then !((counted r h).all (fun i => gotGroup r h i g)) else !gotGroup r h (12 + k) g)))

/-- Lines that wait in a context's input buffer, and the lowest free place of it (R208, R212). Log entry 38 (DEDUCED). -/
def heldLines (s : State) (c : Nat) : Nat := (ctxAt s c).held.length
def bufPlace (s : State) (c : Nat) : Nat :=
  let q := (ctxAt s c).held
  ((List.range (q.length + 1)).find? (fun i => (tget none q i).isNone)).getD q.length

/-! ### What a reel schedules for a context (R162, R222) -/

/-- Lines that frame k of the active reel schedules for a member, retakes apart. -/
def schedLines (s : State) (c m k : Nat) : Nat :=
  if reelActive s then
    ((List.range 216).map (fun i =>
      let st := i / 6
      let p := i % 6
      let e := entryAt s s.tc.activeSlot k st p
      if (e.kind == 1 || e.kind == 2 || e.kind == 3) && e.ctx && (targetsOf e).any (fun t =>
          let d := landDef s s.tc.activeSlot t (entryAt s s.tc.activeSlot k t p).land
          d.kind == 4 && d.context == c && d.member == m) then e.lines else 0)).sum
  else 0

/-- The reel schedules a frame for the member. -/
def schedAny (s : State) (c m : Nat) : Bool :=
  reelActive s && (List.range (passFrames s s.tc.activeSlot)).any (fun k => decide (0 < schedLines s c m k))

/-- Chunks of a run to which a local member contributes, and the number in the run of the i-th. -/
def perRun (r : CtxRec) (m : Nat) : Nat :=
  if r.op = 2 then
    let first := r.self + r.nodes * m
    if first < r.chunks then (r.chunks - 1 - first) / (r.nodes * max 1 r.sites.length) + 1 else 0
  else if r.op = 3 then (if (r.locals 0).contains m then r.chunks else 0)
  else r.chunks
def nthOfRun (r : CtxRec) (m i : Nat) : Nat := if r.op = 2 then r.self + r.nodes * (m + r.sites.length * i) else i

/-- The number of a member's j-th contribution since set-up, as a chunk. -/
def chunkOf (r : CtxRec) (m j : Nat) : Nat := j / max 1 (perRun r m) * r.chunks + nthOfRun r m (j % max 1 (perRun r m))

/-- Count lines that a frame schedules for a member in a run, with the frames in which its chunks are reached (R222). -/
def schedAdd (c run m n : Nat) (s : State) : State :=
  let r := recOf s c
  let k := run * 16 + m
  modCtx c (fun x =>
    let total := tget 0 x.sched k + n
    let old := tget [] x.reached k
    let due := min (perRun r m) (total / max 1 r.perChunk)
    { x with
      sched := tset 0 x.sched k total
      reached := tset [] x.reached k (old ++ List.replicate (due - old.length) s.tc.frameNo) }) s

/-- The due ticks of the open chunks that the counts give (R222). -/
def setDues (c : Nat) (s : State) : State :=
  let r := recOf s c
  (ctxAt s c).chunks.foldl (fun s h =>
    let run := h.no / max 1 r.chunks
    (r.locals h.no).foldl (fun s m =>
      let j := ((List.range (h.no - run * r.chunks)).filter (fun i => (r.locals (run * r.chunks + i)).contains m)).length
      match (memAt h m).due, (tget [] (ctxAt s c).reached (run * 16 + m))[j]? with
      | none, some f => modChunk c h.no (modMember m (fun y => { y with due := some f })) s
      | _, _ => s) s) s

/-- The contexts that a slot's reel names in millstone input-slot landings, and in output feeds, with their millstones
(R78, R81, R162). -/
def reelLands (s : State) (slot : Nat) : List (Nat × Nat) :=
  (((List.range 4).map (fun w => (List.range 256).filterMap (fun sel =>
    let d := landDef s slot (wsOf w) sel
    if d.kind = 4 then some (d.context, w) else none))).flatten).eraseDups
def reelOuts (s : State) (slot : Nat) : List (Nat × Nat) :=
  (((List.range 4).map (fun w => (List.range 256).filterMap (fun sel =>
    let d := feedDef s slot (wsOf w) sel
    if d.kind = 3 then some (d.context, w) else none))).flatten).eraseDups

/-- The active and the next reel, as slots. -/
def reelSlots (s : State) : List Nat :=
  (if reelActive s then [s.tc.activeSlot] else []) ++ (if s.slu.next == .passed then [1 - s.tc.activeSlot] else [])

def reelNames (s : State) (c : Nat) : Bool := (reelSlots s).any (fun k => (reelLands s k ++ reelOuts s k).any (fun p => p.1 == c))

/-! ### Sending to other nodes (R226) -/

/-- Send lines of a part of a chunk to a node of the collective: up to three lines a message (R205). -/
def sendCol (c no node part : Nat) : Nat → Nat → List (Line × Bool) → State → State
  | 0, _, _, s => s
  | fuel + 1, k, xs, s =>
    match xs with
    | [] => s
    | _ =>
      let r := recOf s c
      let (t, s) := unitRead (64 * (r.nodeTable + node / 8)) s
      let e := lineWord t.1 (node % 8)
      let dst : Word16 := e.setWidth 16
      let ls := xs.take 3
      let h : ColHdr := { context := fld e 16 9, member := 12 + r.self, part := part, count := ls.length
                          run := BitVec.ofNat 8 (no / max 1 r.chunks), chunk := no % max 1 r.chunks, line := k }
      let w := wsOf (ctxAt s c).mill
      let s := match flowXs s dst r.job cCOL with
        | some x => sendMsg w x cCOL { pay := .col dst h ls, slots := 1 + ls.length, bytes := 16 + 64 * ls.length, job := r.job } s
        | none => s
      sendCol c no node part fuel (k + 3) (xs.drop 3) s

def sendPart (c no node part k : Nat) (xs : List (Line × Bool)) (s : State) : State := sendCol c no node part (xs.length + 1) k xs s

/-! ### Progress -/

/-- Give a member up in a chunk (R223). -/
def giveUp (c no m : Nat) (s : State) : State :=
  let pol := (recOf s c).late
  modChunk c no (fun h =>
    let h := modMember m (fun x => { x with gone := true }) h
    { h with
      status := h.status ||| 1
      missing := (m :: h.missing).eraseDups
      poisoned := h.poisoned || pol == 1 }) s

/-- An exponent line of a group, from a member or agreed over the pod; POISON makes the group's result error lines (R209, R221). -/
def takeExp (g : Nat) (x : Line × Bool) (y : Member) : Member :=
  { y with exps := tset none y.exps g (some x.1), expPoison := if x.2 then g :: y.expPoison else y.expPoison }
def takeAgreed (g : Nat) (x : Line × Bool) (h : Chunk) : Chunk :=
  { h with agreed := tset none h.agreed g (some x.1), agreedPoison := if x.2 then g :: h.agreedPoison else h.agreedPoison }

/-- An exponent line of one of these members carried POISON. -/
def expBad (h : Chunk) (ms : List Nat) (g : Nat) : Bool := ms.any (fun m => (memAt h m).expPoison.contains g)

/-- Exponents that became complete at this node go to the owner; at the owner the pod's agreed ones go to every node
(R226 phases 1 and 2). -/
def pumpExps (c : Nat) (s : State) : State :=
  let r := recOf s c
  if r.lock.isNone || decide (r.nodes ≤ 1) then s
  else
    (ctxAt s c).chunks.foldl (fun s h0 =>
      (List.range r.groups).foldl (fun s g =>
        match chunkAt s c h0.no with
        | none => s
        | some h =>
          let own := r.owner h.no == r.self
          let s := if h.expSent.contains g || !(r.partners h.no).contains r.self then s
            else match localExp r h g with
              | none => s
              | some l =>
                let bad := expBad h (counted r h) g
                let s := modChunk c h.no (fun h => { h with expSent := g :: h.expSent }) s
                if own then modChunk c h.no (modMember (12 + r.self) (takeExp g (l, bad))) s
                else sendPart c h.no (r.owner h.no) 0 g [(l, bad)] s
          match chunkAt s c h.no with
          | none => s
          | some h =>
            if own && (tget none h.agreed g).isNone then
              let ls := (countedNodes r h).map (fun k => tget none (memAt h (12 + k)).exps g)
              if ls.all (·.isSome) then
                let l := maxLine (ls.filterMap id)
                let bad := expBad h ((countedNodes r h).map (· + 12)) g
                let s := modChunk c h.no (takeAgreed g (l, bad)) s
                ((List.range r.nodes).filter (· ≠ r.self)).foldl (fun s k => sendPart c h.no k 2 g [(l, bad)] s) s
              else s
            else s) s) s

/-- Every member still counted is complete for the chunk. -/
def chunkFull (r : CtxRec) (h : Chunk) : Bool :=
  (counted r h).all (memberDone r h) &&
    (r.owner h.no != r.self || (countedNodes r h).all (fun k => k == r.self || memberDone r h (12 + k)))

/-- Close the oldest chunks that are complete (R206). -/
def closeDone (c : Nat) : Nat → State → State
  | 0, s => s
  | fuel + 1, s =>
    match chunkAt s c (ctxAt s c).base with
    | none => s
    | some h =>
      if h.closed || chunkFull (recOf s c) h then
        closeDone c fuel (modCtx c (fun x => { x with base := x.base + 1 }) (modChunk c h.no (fun h => { h with closed := true }) s))
      else s

/-- Members whose due tick the reel does not give are due when the first member's contribution completes (R222). -/
def dueByFirst (c no : Nat) (s : State) : State :=
  match chunkAt s c no with
  | none => s
  | some h =>
    let r := recOf s c
    if (r.locals no).any (memberDone r h) then
      (r.locals no).foldl (fun s m =>
        if (memAt h m).due.isNone && !schedAny s c m then
          modChunk c no (modMember m (fun x => { x with due := some s.tc.frameNo })) s
        else s) s
    else s

/-- What was late has come, or is given up: its lateness is known (R364). Log entry 69 (DEDUCED). -/
def lateSettle (c : Nat) (s : State) : State :=
  let open_ (x : LateRec) : Bool := match chunkAt s c x.no with
    | some h => !h.closed && !(memAt h x.member).gone && !memberDone (recOf s c) h x.member
    | none => false
  modCtx c (fun t => { t with
    lates := t.lates.map (fun x => if x.late = none ∧ open_ x = false then { x with late := some (s.now - x.at_) } else x) }) s

/-- Lines of the input buffer whose turn has come, or whose chunk or member is gone, leave it: what is read back is what the
member gave (R172, R208, R212). Log entry 38 (DEDUCED). -/
def releaseHeld (c : Nat) (s : State) : State :=
  let r := recOf s c
  (ctxAt s c).held.foldl (fun s p =>
    let free (s : State) : State := modCtx c (fun t => { t with held := tset none t.held p.1 none }) s
    match p.2 with
    | none => s
    | some (no, m, k) =>
      match chunkAt s c no with
      | none => free s
      | some h =>
        if (memAt h m).gone then free s
        else if waitsIn r h m (k / max 1 (lpgOf r m)) then s
        else
          let q := unitRead (64 * (r.inBuf + p.1)) s
          free (modChunk c no (modMember m (fun y =>
            { y with lines := tset none y.lines k ((tget none y.lines k).map (fun x => (q.1.1, x.2 || q.1.2))) })) q.2)) s

/-- What follows a contribution, a fence or a late member. -/
def mstProgress (c no : Nat) (s : State) : State := lateSettle c (closeDone c 4 (releaseHeld c (pumpExps c (dueByFirst c no s))))

/-- A chunk as it opens: members of fenced sites are late (R223). -/
def freshChunk (s : State) (c no : Nat) : Chunk :=
  let r := recOf s c
  let gone := (r.locals no).filter (fun m => siteFenced s (r.sites.getD m 12))
  gone.foldl (fun h m =>
    { modMember m (fun x => { x with gone := true }) h with
      status := h.status ||| 1, missing := m :: h.missing, poisoned := h.poisoned || r.late == 1 }) { no := no }

/-- Open the chunks from the oldest up to a number; a run opens with its first chunk (R203, R218, R222).
Log entry 38 (DEDUCED). -/
def openTo (c no : Nat) : Nat → State → State
  | 0, s => s
  | fuel + 1, s =>
    let x := ctxAt s c
    let next := match x.chunks.getLast? with
      | some h => max (h.no + 1) x.base
      | none => x.base
    if next > no then s
    else
      let r := recOf s c
      let run := next / max 1 r.chunks
      let fresh := (x.runKs.all (fun p => p.1 != run))
      let s := modCtx c (fun x => { x with
        st := 2
        chunks := x.chunks ++ [freshChunk s c next]
        runKs := if fresh then x.runKs ++ [(run, x.ks)] else x.runKs
        opens := if fresh then (run, s.now) :: x.opens.take 7 else x.opens
        lates := if fresh then x.lates.filter (fun l => decide (run < l.no / max 1 r.chunks + 8)) else x.lates }) s
      let s := if fresh then (List.range r.sites.length).foldl (fun s m => schedAdd c run m (schedLines s c m (s.tc.frame - 1)) s) s else s
      let s := setDues c s
      openTo c no fuel s

/-- A contribution two chunks beyond the oldest open one completes that one at once (R213). -/
def overtake (c no : Nat) : Nat → State → State
  | 0, s => s
  | fuel + 1, s =>
    let x := ctxAt s c
    if no < x.base + 2 then s
    else
      let s := openTo c x.base 4 s
      let s := match chunkAt s c x.base with
        | none => s
        | some h =>
          let r := recOf s c
          let lost := (counted r h).filter (fun m => !memberDone r h m) ++
            (if r.owner h.no = r.self then
              ((countedNodes r h).filter (fun k => k != r.self && !memberDone r h (12 + k))).map (· + 12) else [])
          modChunk c h.no (fun h => { h with closed := true, status := h.status ||| 0x101 })
            (lost.foldl (fun s m => modChunk c h.no (fun h =>
              { modMember m (fun y => { y with gone := true }) h with missing := (m :: h.missing).eraseDups }) s) s)
      overtake c no fuel (modCtx c (fun x => { x with base := x.base + 1 }) s)

/-- A member contributes to a chunk at this node. -/
def contributes (r : CtxRec) (no m : Nat) : Bool :=
  if m < 12 then (r.locals no).contains m
  else r.owner no == r.self && (r.partners no).contains (m - 12) && decide (m - 12 ≠ r.self)

/-- Make the chunk open for a contribution, or answer that it takes none. -/
def ready (c no m : Nat) (s : State) : Option Chunk × State :=
  let s := openTo c no 4 (overtake c no (no + 1) s)
  if no < (ctxAt s c).base then (none, s)
  else
    match chunkAt s c no with
    | none => (none, s)
    | some h =>
      if h.closed || (memAt h m).gone || !contributes (recOf s c) no m then (none, s) else (some h, s)

/-- Place line k of a member's contribution to a chunk (R204 to R206, R212, R223). Log entry 38 (DEDUCED). -/
def placeLine (c no m k : Nat) (x : Line × Bool) (s : State) : State :=
  match ready c no m s with
  | (none, s) => mstDiscard 1 s
  | (some h, s) =>
    let r := recOf s c
    let lpg := max 1 (lpgOf r m)
    let g := k / lpg
    if g ≥ r.groups then mstDiscard 1 s
    else
      let waits := waitsIn r h m g
      let place := bufPlace s c
      if waits && decide (r.inLines ≤ place) then
        modChunk c no (fun h =>
          { modMember m (fun y => { y with lines := tset none y.lines k (some (0, false)), lost := (g :: y.lost).eraseDups }) h with
            status := h.status ||| 0x200 }) s
      else
        let before := gotGroup r h m g
        let s := modChunk c no (fun h =>
          { modMember m (fun y => { y with lines := tset none y.lines k (some x) }) h with
            firstPartial := if 12 ≤ m ∧ h.firstPartial = none then some s.tc.frameNo else h.firstPartial }) s
        let o := 64 * (r.inBuf + place)
        let s := if waits then
            let s := modCtx c (fun t => { t with held := tset none t.held place (some (no, m, k)) }) (ownerTurn 2 0 (bankAt o) s)
            if bankFenced s (bankAt o) then s else millWrite o fullMask x.1 false s
          else s
        let s := match chunkAt s c no with
          | some h => if !before && memberGroup r h m g then mstOps (ctxAt s c).mill 2048 s else s
          | none => s
        mstProgress c no s

/-- Where the next line that lands for a member belongs: chunks that COL lines have completed take none (R204). -/
def landPos (r : CtxRec) (done : List Nat) (m : Nat) : Nat → Nat → Nat
  | 0, p => p
  | n + 1, p => if done.contains (chunkOf r m (p / r.perChunk)) then landPos r done m n ((p / r.perChunk + 1) * r.perChunk) else p

/-- A member that COL lines have made complete for a chunk takes no landing line for it (R204). -/
def colComplete (c no m : Nat) (s : State) : State :=
  match chunkAt s c no with
  | none => s
  | some h =>
    if decide (m < 12) && (List.range (recOf s c).groups).all (gotGroup (recOf s c) h m) && !(tget [] (ctxAt s c).colDone m).contains no then
      modCtx c (fun t => { t with colDone := tupd [] t.colDone m (no :: ·) }) s
    else s

/-- Lines land at a millstone input slot (R204): in landing order they belong to the member's oldest chunk that is incomplete; lines
for a chunk given up count against it (R223). -/
def mstLand (c m : Nat) (xs : List (Line × Bool)) (s : State) : State :=
  xs.foldl (fun s x =>
    let r := recOf s c
    let t := ctxAt s c
    let per := perRun r m
    if t.st = 0 ∨ t.st = 3 ∨ r.sites.length ≤ m ∨ per = 0 ∨ r.perChunk = 0 then mstDiscard 1 s
    else
      let done := tget [] t.colDone m
      let p := landPos r done m done.length (tget 0 t.pos m)
      placeLine c (chunkOf r m (p / r.perChunk)) m (p % r.perChunk) x
        (modCtx c (fun t => { t with pos := tset 0 t.pos m (p + 1) }) s)) s

/-- A target of a multicast is dark (R96, R224): for a result, in the chunks whose lines the frame sends, given by their ring
numbers; for a contribution, in the oldest chunk. -/
def mstDark (c st : Nat) (span : Option (Nat × Nat)) (s : State) : State :=
  let mark (h : Chunk) : Chunk := { h with status := h.status ||| 2, missingDest := (st :: h.missingDest).eraseDups }
  match span with
  | some (a, b) =>
    modCtx c (fun x => { x with chunks := x.chunks.map (fun h => match h.ringStart, h.ringEnd with
      | some p, some q => if p < b ∧ a < q then mark h else h
      | _, _ => h) }) s
  | none =>
    match (ctxAt s c).chunks.head? with
    | some h => modChunk c h.no mark s
    | none => modCtx c (fun x =>
        if x.st = 0 then x else { x with status := x.status ||| 2, missingDest := (st :: x.missingDest).eraseDups }) s

/-- A context exists at a millstone. -/
def ctxMillstone (s : State) (c : Nat) : Option Nat := if (ctxAt s c).st = 0 then none else some (ctxAt s c).mill

/-! ### COL data (R205) -/

/-- The run that a header names among the open ones. -/
def openRun (s : State) (c : Nat) (run : Byte) : Option Nat :=
  let x := ctxAt s c
  let r := recOf s c
  ((x.base / max 1 r.chunks) :: x.runKs.map (·.1)).eraseDups.find? (fun q => BitVec.ofNat 8 q == run)

/-- Place one COL line by its header (R205, R226, R227). -/
def placeCol (h : ColHdr) (i : Nat) (x : Line × Bool) (s : State) : State :=
  let c := h.context
  let t := ctxAt s c
  let r := recOf s c
  let k := h.line + i
  match (if t.st = 1 ∨ t.st = 2 then openRun s c h.run else none) with
  | none => mstDiscard 1 s
  | some run =>
    let no := run * r.chunks + h.chunk
    if h.chunk ≥ r.chunks then mstDiscard 1 s
    else if h.part = 1 then colComplete c no h.member (placeLine c no h.member k x s)
    else if h.part = 0 then
      match (if r.lock.isSome && decide (k < r.groups) then ready c no h.member s else (none, s)) with
      | (none, s) => mstDiscard 1 s
      | (some _, s) =>
        mstProgress c no (mstOps t.mill 64
          (modChunk c no (modMember h.member (takeExp k x)) s))
    else
      let s := openTo c no 4 (overtake c no (no + 1) s)
      match chunkAt s c no with
      | none => mstDiscard 1 s
      | some y =>
        if r.owner no = r.self ∨ h.member ≠ 12 + r.owner no ∨ y.poisoned = true then mstDiscard 1 s
        else if h.part = 2 then
          if k < r.groups then
            mstProgress c no (modChunk c no (takeAgreed k x) s)
          else mstDiscard 1 s
        else if r.delivers no && decide (k < r.outGroups * groupLines r.outFmt) then
          mstProgress c no (modChunk c no (fun y => { y with result := tset none y.result k (some x) }) s)
        else mstDiscard 1 s

def colKey (w src : Nat) : Nat := w * 36 + src

/-- A COL_HDR at a millstone: its lines follow (R205). -/
def colHdr (w src : Nat) (h : ColHdr) (s : State) : State :=
  match (tget [] s.mrc.rx (pcKey src (wsOf w) cCOL)).head? with
  | some m =>
    if s.flt.safe || m.pay != .colHdr h then s
    else modMst (fun x => { x with hdr := tset none x.hdr (colKey w src) (some (h, 0)) }) (takeRx (wsOf w) cCOL src m s)
  | none => s

def execColHdr (ws source : Nat) (h : ColHdr) (s : State) : Out := .next (colHdr ws source h s)

/-- A COL_LINE after its header (R205). -/
def colLine (w src : Nat) (data : Line) (poison : Bool) (s : State) : State :=
  match (tget [] s.mrc.rx (pcKey src (wsOf w) cCOL)).head?, tget none s.mst.hdr (colKey w src) with
  | some m, some (h, i) =>
    if s.flt.safe || m.pay != .colLine data poison then s
    else
      let s := modMst (fun x => { x with
        hdr := tset none x.hdr (colKey w src) (if i + 1 = h.count then none else some (h, i + 1)) })
        (takeRx (wsOf w) cCOL src m s)
      if millFenced s w then mstDiscard 1 s else placeCol h i (data, poison) s
  | _, _ => s

def execColLine (ws source : Nat) (data : Line) (poison : Bool) (s : State) : Out := .next (colLine ws source data poison s)

/-! ### Due ticks and late members (R222, R223, R227) -/

/-- A frame begins: count the lines it schedules, and find the members due at its end (R222). -/
def mstFrame (s : State) : State :=
  (liveCtxs s).foldl (fun s c =>
    let runs := (ctxAt s c).runKs.map (·.1)
    let t := (List.range (recOf s c).sites.length).foldl (fun s m =>
      let n := schedLines s c m (s.tc.frame - 1)
      if n = 0 then s else runs.foldl (fun s run => schedAdd c run m n s) s) s
    if runs.isEmpty then s else setDues c t) s

/-- The length of the frame that runs: the active reel's, or 2,048 without one. -/
def curFrameLen (s : State) : Nat := if reelActive s then frameLen s s.tc.activeSlot else 2048

/-- Frame number f has ended. -/
def frameEnded (s : State) (f : Nat) : Bool :=
  decide (f < s.tc.frameNo) || (f == s.tc.frameNo && decide (s.tc.lastBoundary + curFrameLen s ≤ s.now))

/-- A chunk that waits at a due tick counts once in MST_CTX_LATE (R222). Log entry 69 (DEDUCED). -/
def markLate (c no : Nat) (s : State) : State :=
  modCtx c (fun x => { x with late := sat32 x.late 1 }) (modChunk c no (fun h => { h with lated := true }) s)

/-- What waits at a due tick is reported to the gaffer with its member (R222, R364). -/
def reportLate (c no m : Nat) (at_ : Tick) (late : Option Nat) (s : State) : State :=
  modCtx c (fun x => { x with lates := { member := m, no := no, at_ := at_, late := late } :: x.lates }) s

/-- The due tick of a member's chunk (R222): that of its oldest chunk whose due tick has come and was not yet looked at.
Log entry 39 (DEDUCED). -/
def dueTick (c m : Nat) (s : State) : State :=
  let r := recOf s c
  match (ctxAt s c).chunks.find? (fun h => (memAt h m).due.isSome && !(memAt h m).dueSeen) with
  | none => s
  | some h =>
    let f := (memAt h m).due.getD 0
    let sched := schedAny s c m
    if s.flt.safe || (sched && !frameEnded s f) then s
    else
      let s := modChunk c h.no (modMember m (fun y => { y with dueSeen := true })) s
      if !h.closed && !memberDone r h m && !(memAt h m).gone then
        let s := reportLate c h.no m s.now none s
        if h.lated then s else markLate c h.no s
      else s

/-- The late limit of a member passes (R222, R223, R227). Log entry 39 (DEDUCED). -/
def lateLimit (c m : Nat) (s : State) : State :=
  let r := recOf s c
  if s.flt.safe then s
  else if m < 12 then
    match (ctxAt s c).chunks.find? (fun h => !h.closed && (memAt h m).due.isSome && !(memAt h m).gone && !memberDone r h m &&
        frameEnded s ((memAt h m).due.getD 0 + r.lateFrames)) with
    | some h => if r.late = 2 then s else mstProgress c h.no (giveUp c h.no m s)
    | none => s
  else
    match (ctxAt s c).chunks.find? (fun h => !h.closed && r.owner h.no == r.self && contributes r h.no m && !(memAt h m).gone &&
        !memberDone r h m && (match h.firstPartial with | some f => frameEnded s (f + r.lateFrames) | none => false)) with
    | some h =>
      if r.late = 2 then s
      else
        let d := r.lateFrames * curFrameLen s
        mstProgress c h.no (reportLate c h.no m (s.now - d) (some d) (giveUp c h.no m s))
    | none =>
      match (ctxAt s c).chunks.find? (fun h => r.owner h.no != r.self && m == 12 + r.owner h.no && r.delivers h.no &&
          decide (h.finished < r.outGroups) && !h.poisoned && decide (h.partialSent = r.groups) &&
          (match h.partialAt with | some f => frameEnded s (f + r.lateFrames) | none => false)) with
      | some h =>
        closeDone c 4
          (modChunk c h.no (fun h => { h with status := h.status ||| 1, missing := (m :: h.missing).eraseDups, poisoned := true, closed := true }) s)
      | none => s

/-- A site is fenced: its member is late for every open chunk (R223). -/
def mstSiteFenced (n : Nat) (s : State) : State :=
  (liveCtxs s).foldl (fun s c =>
    let r := recOf s c
    match r.sites.findIdx? (· == n) with
    | none => s
    | some m =>
      (ctxAt s c).chunks.foldl (fun s h =>
        if !h.closed && contributes r h.no m && !(memAt h m).gone && !memberDone r h m
          then mstProgress c h.no (giveUp c h.no m s) else s) s) s

end Sys2Proof.Machine
end

