-- ==== Sys2Proof/Machine/Collect.lean ====
section
/-! DEFINITION. Collective contexts from reduction to delivery: finishing a group, programs, streams, results, completion
records, set-up, abort and free (R194, R197 to R203, R208 to R221, R225, R226). -/

namespace Sys2Proof.Machine

open Sys2Proof

/-! ### Reduction (R208 to R211, R213) -/

/-- The lines of a member's group in order, and whether one carries poison. -/
def memberLines (r : CtxRec) (h : Chunk) (m g : Nat) : List (Line × Bool) :=
  (List.range (lpgOf r m)).map (fun k => (tget none (memAt h m).lines (g * lpgOf r m + k)).getD (0, false))

def memberVals (r : CtxRec) (h : Chunk) (m g : Nat) : List Val :=
  let ls := (memberLines r h m g).map (·.1)
  (List.range 2048).map (groupVal (if m < 12 then r.inFmt else r.wireFmt) ls)

/-- The integer of an integer value. -/
def valInt : Val → Int
  | .num neg n _ _ => if neg then - (n : Int) else n
  | _ => 0

/-- A signed 64-bit number, wrapping. -/
def wrap64 (i : Int) : Int := sgn 64 (uns 64 i)

/-- Combine two elements in binary32 or as integers (R208). -/
def combine (operator : Nat) (ints wrap : Bool) (a b : Val) : Val :=
  if ints then
    let x := valInt a
    let y := valInt b
    valOfInt (if operator = 1 then max x y else if operator = 2 then min x y else if wrap then wrap64 (x + y) else x + y) 0
  else
    let x := f32Of a
    let y := f32Of b
    valOfF32 (if operator = 1 then f32Max x y else if operator = 2 then f32Min x y else f32Add x y)

/-- Fold columns of elements in order; nothing for no column. -/
def combineAll (operator : Nat) (ints wrap : Bool) : List (List Val) → Option (List Val)
  | [] => none
  | a :: t => some (t.foldl (fun acc c => List.zipWith (combine operator ints wrap) acc c) a)

/-- An element as a fixed-point integer of its block (R211), and whether it saturated, which an infinity in a block agreed at 0xFF
does not. Log entry 40 (DEDUCED). -/
def fixedOf (frac : Nat) (agreed : Nat) (v : Val) : Int × Bool :=
  let top : Int := 2 ^ frac - 1
  match v with
  | .nan => (0, false)
  | .inf neg => (if neg then - top else top, agreed != 255)
  | .num neg n d e =>
    let q : Int := roundUnits .even n d e ((agreed : Int) - 127 - frac)
    if q > top then (if neg then - top else top, true) else (if neg then - q else q, false)

/-- The exponent byte of element i's block. -/
def agreedByte (l : Line) (i : Nat) : Nat := (lineByte l (i / 32)).toNat

/-- The format and the lines of a group's accumulator: the slot of the chunk, in chunk order through the runs (R213). -/
def accFmt (r : CtxRec) : Nat := match r.lock with
  | some 31 => 14
  | some _ => 15
  | none => if isIntFmt r.inFmt then 13 else 0
def accLine (r : CtxRec) (no g k : Nat) : Nat := r.acc + no % 2 * r.slotLines + g * groupLines (accFmt r) + k

/-- What the accumulator holds of a group, with the local members in it; nothing where one of them is no longer counted, whose part
cannot be taken out again. Log entry 38 (DEDUCED). -/
def accVals (s : State) (r : CtxRec) (h : Chunk) (g : Nat) : Option (List Nat × List Val) :=
  let ms := tget [] h.acc g
  if ms.isEmpty || !ms.all (counted r h).contains then none
  else
    let ls := (List.range (groupLines (accFmt r))).map (fun k => (unitLine s (64 * accLine r h.no g k)).1)
    some (ms, (List.range 2048).map (groupVal (accFmt r) ls))

/-- A member's elements of a group as the accumulator adds them, and whether one saturated (R208, R211). -/
def memberTerms (r : CtxRec) (h : Chunk) (g m : Nat) : List Val × Bool :=
  match r.lock with
  | some frac =>
    let l := (agreedAt r h g).getD 0
    let xs := ((memberVals r h m g).zip (List.range 2048)).map (fun p => fixedOf frac (agreedByte l p.2) p.1)
    (xs.map (fun x => valOfInt x.1 0), xs.any (·.2))
  | none => (memberVals r h m g, false)

/-- The sum, maximum or minimum of a group over local members: what the accumulator holds, and the others in order (R206, R208,
R211). -/
def accSum (s : State) (r : CtxRec) (h : Chunk) (g : Nat) (ms : List Nat) : Option (List Val) × Bool :=
  let a := accVals s r h g
  let held := (a.map (·.1)).getD []
  let cols := (ms.filter (fun m => !held.contains m)).map (memberTerms r h g)
  let vs := (a.map (·.2)).toList ++ cols.map (·.1)
  (if r.lock.isSome then combineAll 0 true false vs else combineAll r.operator (isIntFmt r.inFmt) true vs, cols.any (·.2))

/-- A node's partial of a group over its local members (R208, R211, R226): nothing where none is counted. The flag says
that an element saturated. Log entry 39 (DEDUCED). -/
def localPartial (s : State) (r : CtxRec) (h : Chunk) (g : Nat) : Option (List Val) × Bool :=
  if r.combines then accSum s r h g (counted r h)
  else ((counted r h).head?.map (fun m => memberVals r h m g), false)

/-- Local members whose contributions to a group can be combined now: in schedule order those whose turn has come, in picture lock
all that are there once the exponents are agreed (R206, R208, R212). -/
def accReady (r : CtxRec) (h : Chunk) (g : Nat) : List Nat :=
  if !r.combines then []
  else match r.lock with
    | some _ => if (agreedAt r h g).isSome then (counted r h).filter (fun m => memberGroup r h m g) else []
    | none => (counted r h).takeWhile (fun m => memberGroup r h m g)

/-- Write the accumulator of a group at the end of a frame that has brought contributions to it (R206).
Log entry 38 (DEDUCED). -/
def accWrite (c : Nat) (h : Chunk) (g : Nat) (s : State) : State :=
  let r := recOf s c
  let ms := accReady r h g
  if ms.isEmpty || ms == tget [] h.acc g then s
  else
    match accSum s r h g ms with
    | (none, _) => s
    | (some vs, sat) =>
      let ls := (packGroup (accFmt r) (List.replicate 2048 .even) vs).1
      let s := (ls.zip (List.range ls.length)).foldl (fun s p =>
        let o := 64 * accLine r h.no g p.2
        if bankFenced s (bankAt o) || dailyRange o then s else millWrite o fullMask p.1 false (ownerTurn 2 0 (bankAt o) s)) s
      modChunk c h.no (fun h => { h with acc := tset [] h.acc g ms, status := if sat then h.status ||| 8 else h.status }) s

/-- The accumulators at the end of a frame: each element's is written at most once, for all that the frame brought (R206). -/
def accFrame (s : State) : State :=
  (liveCtxs s).foldl (fun s c =>
    (ctxAt s c).chunks.foldl (fun s h =>
      (List.range (recOf s c).groups).foldl (fun s g => if g < max h.finished h.partialSent then s else accWrite c h g s) s) s) s

/-- The partial as it travels: rounded into WIRE_FMT (R197, R226). -/
def evens : List Rounding := List.replicate 2048 .even
def wireLines (r : CtxRec) (vs : List Val) : List Line := (packGroup r.wireFmt evens vs).1

/-- The reduction of a group at its owner, before the mean: the values, the members counted, a saturation. How many members another
node counted no message tells: a free value, at most its twelve sites. Log entry 39 (DEDUCED). -/
def reduceGroup (s : State) (c : Nat) (r : CtxRec) (h : Chunk) (g : Nat) : Option (List Val) × Nat × Bool :=
  let own := localPartial s r h g
  if r.nodes ≤ 1 then (own.1, (counted r h).length, own.2)
  else
    let ks := countedNodes r h
    let cols := ks.filterMap (fun k =>
      if k = r.self then own.1.map (fun vs =>
        let ls := wireLines r vs
        (List.range 2048).map (groupVal r.wireFmt ls))
      else some (memberVals r h (12 + k) g))
    let n := (ks.map (fun k => if k = r.self then (counted r h).length else min 12 (Config.remoteMembers c h.no k))).sum
    if r.combines then (combineAll r.operator (isIntFmt r.inFmt || r.lock.isSome) r.lock.isNone cols, n, own.2)
    else (cols.head?, n, own.2)

/-- The reduced value of each element (R210, R213), and whether a block was agreed at 0xFF. -/
def reduced (r : CtxRec) (h : Chunk) (g : Nat) (vs : List Val) (n : Nat) : List Val × Bool :=
  let mean (v : Val) : Val := if r.combines ∧ r.operator = 3 then valDiv v (max 1 n) else v
  match r.lock with
  | none => (vs.map mean, false)
  | some frac =>
    let l := (agreedAt r h g).getD 0
    ((vs.zip (List.range 2048)).map (fun p =>
      let b := agreedByte l p.2
      if b = 255 then .nan else if b = 0 then Val.zero else mean (valScale p.1 ((b : Int) - 127 - frac))),
     (List.range 64).any (fun b => (lineByte l b).toNat == 255))

/-! ### Programs (R215 to R217) -/

/-- The registers of a block of 32 elements. -/
abbrev VRegs := Tab (List Word32)

/-- What a program sees of a block: RED, the streams S0 to S3, the constants, and the number of the block's first element
for stochastic rounding. -/
structure ProgIn where
  red : List Word32
  ins : List (List Word32)
  ks : List Word32
  seed : Word64
  run : Nat
  index : Nat
deriving DecidableEq, Repr

def operandVals (p : ProgIn) (v : VRegs) (x : Nat) : List Word32 :=
  if x < 16 then tget [] v x
  else if x = 16 then p.red
  else if x ≤ 20 then p.ins.getD (x - 17) []
  else List.replicate 32 (p.ks.getD (x - 24) 0)

def zip3 (f : Word32 → Word32 → Word32 → Word32) (a b c : List Word32) : List Word32 :=
  List.zipWith (fun x y => f x y.1 y.2) a (b.zip c)

/-- One operation on a block, and whether a conversion saturated (R197, R215). -/
def popBlock (p : ProgIn) (v : VRegs) (o : POp) : List Word32 × Bool :=
  let a := operandVals p v o.a
  let b := operandVals p v o.b
  let c := operandVals p v o.c
  let stoch := (List.range 32).map (fun i => Rounding.stoch (stochR p.seed p.run (p.index + i)))
  let conv (ms : List Rounding) : List Word32 × Bool :=
    let q := convBlock o.fmt ms (a.map valOfF32)
    (q.1.map f32Of, q.2)
  match o.op with
  | 0x0F => conv (List.replicate 32 .even)
  | 0x10 => conv stoch
  | 0x11 => conv (List.replicate 32 .even)
  | k => (match k with
  | 0x01 => List.zipWith f32Add a b
  | 0x02 => List.zipWith f32Sub a b
  | 0x03 => List.zipWith f32Mul a b
  | 0x04 => zip3 f32Fma a b c
  | 0x05 => List.zipWith f32Max a b
  | 0x06 => List.zipWith f32Min a b
  | 0x07 => a.map f32Abs
  | 0x08 => a.map f32Neg'
  | 0x09 => a.map f32Recip
  | 0x0A => a.map f32Rsqrt
  | 0x0B => a.map f32Exp2
  | 0x0C => a.map f32Log2
  | 0x0D => zip3 (fun x y z => f32Min (f32Max x y) z) a b c
  | 0x0E => zip3 f32Select a b c
  | _ => a, false)

/-- Run a program on a block: its stores by target, and whether a conversion saturated. -/
def progBlock (p : ProgIn) : List POp → VRegs → Tab (List Word32) → Bool → Tab (List Word32) × Bool
  | [], _, out, sat => (out, sat)
  | o :: t, v, out, sat =>
    let x := popBlock p v o
    if o.op = 0x12 then progBlock p t v (tset [] out o.target x.1) (sat || x.2) else progBlock p t (tset [] v o.dst x.1) out (sat || x.2)

/-- Run a program on a group: the elements stored to each target, and whether a conversion saturated. -/
def progGroup (ops : List POp) (ks : List Word32) (seed : Word64) (run index : Nat) (red : List Word32)
    (ins : List (List Word32)) : Tab (List Word32) × Bool :=
  let outs := (List.range 64).map (fun b =>
    progBlock { red := (red.drop (32 * b)).take 32, ins := ins.map (fun x => (x.drop (32 * b)).take 32), ks := ks, seed := seed
                run := run, index := index + 32 * b } ops [] [] false)
  ((List.range 5).foldl (fun t k =>
    if ops.any (fun o => o.op == 0x12 && o.target == k) then tset [] t k ((outs.map (fun o => tget [] o.1 k)).flatten) else t) [],
   outs.any (·.2))

/-! ### Streams and stores -/

/-- A bank that the context's millstone reaches directly (R168, R217). -/
def ownMill (s : State) (w : Nat) (a : Word64) : Option Nat :=
  if addrNode a ≠ s.ident.node.toNat then none
  else match zoneOf s false (addrOff a) with
    | .mill o => if bankAt o / 8 = w then some o else none
    | _ => none

/-- First element of a group in the collective buffer, and in this node's share of a stream (R198, R217). -/
def bufIndex (r : CtxRec) (no g : Nat) : Nat := (no % max 1 r.chunks * r.outGroups + g) * 2048
def streamIndex (r : CtxRec) (no g : Nat) : Nat :=
  if r.nodes ≤ 1 then bufIndex r no g else (no % max 1 r.chunks / r.nodes * r.groups + g) * 2048

/-- Address of line k of a stream's group. -/
def streamAddr (r : CtxRec) (d : StreamDef) (no g k : Nat) : Word64 :=
  d.base + BitVec.ofNat 64 (64 * (streamIndex r no g / 2048 * groupLines d.fmt + k))

/-- The addresses of the stream lines that a group needs (R217). -/
def streamNeeds (s : State) (r : CtxRec) (no g : Nat) : List Word64 :=
  match r.prog with
  | none => []
  | some p =>
    let used := (List.range 4).filter (fun k => (progOps s p).any (fun o => o.operands.contains (17 + k)))
    (used.map (fun k =>
      let d := r.ins.getD k ⟨0, 0, false⟩
      (List.range (groupLines d.fmt)).map (streamAddr r d no g))).flatten

/-- A stream line: a bank of the millstone's field directly, another from what has been loaded. -/
def streamLine (s : State) (c no : Nat) (a : Word64) : Option (Line × Bool) :=
  match ownMill s (ctxAt s c).mill a with
  | some o => some (unitLine s o)
  | none => (s.mst.fetches.find? (fun f => f.ctx == c && f.no == no && f.addr == a)).bind (·.got)

/-- A millstone's direct access to a fenced bank raises TARGET_FENCED with the millstone as requester (R173). -/
def mstFails (w job : Nat) (op : MemOp) (a : Word64) (s : State) : State :=
  failAccess { who := .millstone w, op := op, addr := a, job := job } .targetFenced s

/-- The events of a stream line that a millstone reads in its field (R172, R173). -/
def meetLine (w job : Nat) (a : Word64) (s : State) : State :=
  match ownMill s w a with
  | some o => if bankFenced s (bankAt o) then mstFails w job .load a s else millMeet o (ownerTurn 2 0 (bankAt o) s)
  | none => s

/-- A line that a millstone writes: directly in its field's banks, else by a store that waits to be issued (R217, R219,
R220). -/
def mstWrite (c no : Nat) (a : Word64) (x : Line × Bool) (s : State) : State :=
  match ownMill s (ctxAt s c).mill a with
  | some o =>
    if bankFenced s (bankAt o) || dailyRange o then
      let s := if bankFenced s (bankAt o) then mstFails (ctxAt s c).mill (recOf s c).job .store a s else s
      modChunk c no (fun h => { h with status := h.status ||| 4 }) s
    else
      let m := queueMask s o fullMask
      afterMill o m (wsOf (ctxAt s c).mill) (millWrite o m x.1 x.2 (ownerTurn 2 0 (bankAt o) s))
  | none =>
    modChunk c no (fun h => { h with stores := h.stores + 1 })
      (modMst (fun m => { m with stores := m.stores ++ [{ ctx := c, no := no, addr := a, data := x.1, poison := x.2 }] }) s)

/-- The request that a millstone may issue next (R108, R217, R219): a store that waits, or a load of a stream line that the
next group of one of its contexts needs. Log entry 13 (DESIGN CHOICE). -/
def mstNext (s : State) (w : Nat) (r : IssueReq) : Option IssueReq :=
  let key (c no : Nat) : Word64 := BitVec.ofNat 64 (c * 2 ^ 48 + no)
  if r.op = .store then
    (s.mst.stores.find? (fun x => x.addr == r.addr && (ctxAt s x.ctx).mill == w)).map (fun x =>
      { who := .millstone w, op := .store, addr := x.addr, mask := fullMask, data := x.data, poison := x.poison
        job := (recOf s x.ctx).job, compare := key x.ctx x.no })
  else if r.op = .load then
    (liveCtxs s).findSome? (fun c =>
      if (ctxAt s c).mill ≠ w then none
      else
        (ctxAt s c).chunks.findSome? (fun h =>
          let q := recOf s c
          if h.finished < q.outGroups ∧ (streamNeeds s q h.no h.finished).contains r.addr = true ∧ ownMill s w r.addr = none
              ∧ s.mst.fetches.all (fun f => !(f.ctx == c && f.no == h.no && f.addr == r.addr)) = true then
            some { who := .millstone w, op := .load, addr := r.addr, job := q.job, compare := key c h.no }
          else none))
  else none

/-- Note what a millstone has issued. -/
def mstIssued (r : IssueReq) (s : State) : State :=
  let c := fld r.compare 48 16
  let no := fld r.compare 0 48
  if r.op = .store then
    modMst (fun m => { m with stores := m.stores.eraseP (fun x => x.ctx == c && x.no == no && x.addr == r.addr) }) s
  else modMst (fun m => { m with fetches := m.fetches ++ [{ ctx := c, no := no, addr := r.addr }] }) s

/-! ### Finishing a group (R206, R213, R219, R226) -/

/-- Lines in the output space of a millstone station (R219). Log entry 41 (DEDUCED). -/
def outHeld (s : State) (w : Nat) : Nat :=
  ((s.slu.rings.filter (fun p => p.1 / 65536 == wsOf w && decide (49152 ≤ p.1 % 65536))).map (fun p => p.2.lines.length)).sum

/-- An output feed of the active slot's reel at a millstone station names a context (R78, R100). -/
def outFeed (s : State) (w c : Nat) : Bool :=
  (List.range 256).any (fun sel =>
    let d := feedDef s s.tc.activeSlot (wsOf w) sel
    d.kind == 3 && d.context == c)

/-- The output space takes n more lines of a context (R79, R219): an output feed of the reel names the context, and no drain
stops admission; else the results wait in the lanes (R100). Log entry 41 (DEDUCED). -/
def outRoom (s : State) (w c n : Nat) : Bool :=
  decide (outHeld s w + n ≤ 16384) && outFeed s w c && !admissionStopped s (wsOf w)

/-- Deliver a result group by the plans of this node (R219). -/
def planGroup (c no g : Nat) (xs : List (Line × Bool)) (s : State) : State :=
  let r := recOf s c
  let w := (ctxAt s c).mill
  let key := outKey (wsOf w) c
  let s := if r.sched then
      let s := modSlu (fun u => { u with rings := tupd {} u.rings key (fun q => { q with lines := q.lines ++ xs }) }) s
      let q : Ring := tget {} s.slu.rings key
      let n := q.start + q.lines.length
      modChunk c no (fun h => { h with ringStart := some (h.ringStart.getD (n - xs.length)), ringEnd := some n }) s
    else s
  if r.mem then
    let base := (no % max 1 r.chunks * r.outGroups + g) * groupLines r.outFmt
    (xs.zip (List.range xs.length)).foldl (fun s p =>
      mstWrite c no (r.resultBase + BitVec.ofNat 64 (64 * (base + p.2))) p.1 s) s
  else s

/-- Mark a group finished; streams it loaded are dropped. -/
def groupDone (c no : Nat) (s : State) : State :=
  modMst (fun m => { m with fetches := m.fetches.filter (fun f => !(f.ctx == c && f.no == no)) })
    (modChunk c no (fun h => { h with finished := h.finished + 1 }) s)

/-- Result lines of a group that is error lines (R221, R223). -/
def errorGroup (r : CtxRec) : List (Line × Bool) := List.replicate (groupLines r.outFmt) (errorLine, true)

/-- Result group g of all-to-all staging: the member and its source group (R201). -/
def stageOf (r : CtxRec) (g : Nat) : Nat × Nat :=
  let l := max 1 r.sites.length
  let p := r.groups / l
  let q := g / max 1 p
  (q % l, q / l * p + g % max 1 p)

/-- The roundings of a group's elements into OUT_FMT (R198, R199). -/
def outRounding (r : CtxRec) (run index : Nat) : List Rounding :=
  if r.stoch then (List.range 2048).map (fun i => .stoch (stochR r.seed run (index + i))) else evens

/-- A group is complete at this node, so that it can be finished (R206, R209, R226). -/
def groupReady (r : CtxRec) (h : Chunk) (g : Nat) : Bool :=
  if r.op = 5 then
    let (m, k) := stageOf r g
    (memAt h m).gone || memberGroup r h m k
  else
    (counted r h).all (fun m => memberGroup r h m g) && (r.lock.isNone || (agreedAt r h g).isSome) &&
      (r.owner h.no != r.self || (countedNodes r h).all (fun k => k == r.self || memberGroup r h (12 + k) g))

/-- The poison of the lines that the local members, or the agreed exponents, give a group (R221). -/
def localPoison (r : CtxRec) (h : Chunk) (g : Nat) : Bool :=
  h.agreedPoison.contains g || expBad h (counted r h) g || (counted r h).any (fun m => (memberLines r h m g).any (·.2))

/-- The poison of the lines that a group is made of (R221). -/
def groupPoison (r : CtxRec) (h : Chunk) (g : Nat) : Bool :=
  if r.op = 5 then
    let (m, k) := stageOf r g
    !(memAt h m).gone && (memberLines r h m k).any (·.2)
  else
    localPoison r h g ||
      (r.nodes > 1 && (expBad h ((countedNodes r h).map (· + 12)) g ||
        (countedNodes r h).any (fun k => k != r.self && (memberLines r h (12 + k) g).any (·.2))))

/-- The result of a group at its owner: its lines, the status bits it sets, and what the program stored to its streams. -/
def ownerResult (s : State) (c : Nat) (r : CtxRec) (h : Chunk) (g : Nat) : List (Line × Bool) × Nat × List (Nat × List Line) :=
  let run := h.no / max 1 r.chunks
  let idx := bufIndex r h.no g
  let ks := tget (ctxAt s c).ks (ctxAt s c).runKs run
  let ms := outRounding r run idx
  let needs := (streamNeeds s r h.no g).map (fun a => (streamLine s c h.no a).getD (errorLine, true))
  let poison := groupPoison r h g || needs.any (·.2)
  let out (vs : List Val) (bits : Nat) (outs : List (Nat × List Line)) : List (Line × Bool) × Nat × List (Nat × List Line) :=
    let (ls, sat) := packGroup r.outFmt ms vs
    (ls.map (fun l => (l, false)), bits ||| (if sat then 8 else 0), outs)
  if h.poisoned then (errorGroup r, if poison then 0x20 else 0, [])
  else if poison then (errorGroup r, 0x20, [])
  else if r.op = 5 then
    let (m, k) := stageOf r g
    if (memAt h m).gone then (errorGroup r, 0, [])
    else out (memberVals r h m k) 0 []
  else
    match reduceGroup s c r h g with
    | (none, _, _) => (errorGroup r, 0, [])
    | (some vs, n, sat) =>
      let (red, nonfin) := reduced r h g vs n
      let bits := (if sat then 8 else 0) ||| (if nonfin then 0x10 else 0)
      match r.prog with
      | none => out red bits []
      | some p =>
        let ops := progOps s p
        let ins := (List.range 4).map (fun k =>
          let d := r.ins.getD k ⟨0, 0, false⟩
          if ops.any (fun o => o.operands.contains (17 + k)) then
            let ls := (List.range (groupLines d.fmt)).map (fun j => ((streamLine s c h.no (streamAddr r d h.no g j)).getD (0, false)).1)
            (List.range 2048).map (fun i => f32Of (groupVal d.fmt ls i))
          else [])
        let red32 := red.map f32Of
        let (st, sat3) := progGroup ops ks r.seed run idx red32 ins
        let res := tget [] st 4
        let outs := (List.range 4).filterMap (fun k =>
          let vs := tget [] st k
          if vs.isEmpty then none
          else some (k, packGroup (r.outs.getD k ⟨0, 0, false⟩).fmt evens (vs.map valOfF32)))
        let sat2 := outs.any (fun o => o.2.2)
        out ((if res.isEmpty then red32 else res).map valOfF32) (bits ||| (if sat2 || sat3 then 8 else 0)) (outs.map (fun o => (o.1, o.2.1)))

/-- The owner finishes a group, whose operations count where it is not made error lines (R193): result, streams, its own plan, and the result for the other nodes (R213 to R219, R226). -/
def ownerFinish (c : Nat) (h : Chunk) (s : State) : State :=
  let r := recOf s c
  let g := h.finished
  let w := (ctxAt s c).mill
  let (xs, bits, outs) := ownerResult s c r h g
  let s := (streamNeeds s r h.no g).foldl (fun s a => meetLine w r.job a s) s
  let s := modChunk c h.no (fun h => { h with status := h.status ||| bits }) s
  let s := if xs.any (·.2) then s
    else mstOps w (2048 * (1 + (match r.prog with | some p => (progOps s p).length | none => 0))) s
  let s := outs.foldl (fun s o =>
    let d := r.outs.getD o.1 ⟨0, 0, false⟩
    (o.2.zip (List.range o.2.length)).foldl (fun s p => mstWrite c h.no (streamAddr r d h.no g p.2) (p.1, false) s) s) s
  let s := if r.delivers h.no then planGroup c h.no g xs s else s
  let s := (r.receivers h.no).foldl (fun s k => sendPart c h.no k 3 (g * groupLines r.outFmt) xs s) s
  groupDone c h.no s

/-- Another node sends its partial of a group to the owner (R226 phase 3): error lines where a line of it carried POISON or its
policy makes the chunk error lines (R221, R223). A node that counts no member has no partial to send, and the owner finds it
late. Log entry 39 (DEDUCED). -/
def partialFinish (c : Nat) (h : Chunk) (s : State) : State :=
  let r := recOf s c
  let g := h.partialSent
  let (vs, sat) := localPartial s r h g
  let poison := localPoison r h g
  let xs : List (Line × Bool) := match vs with
    | none => []
    | some vs => if poison || h.poisoned then List.replicate (groupLines r.wireFmt) (errorLine, true)
        else (wireLines r vs).map (fun l => (l, false))
  let s := modChunk c h.no (fun h => { h with
    partialSent := g + 1
    partialAt := some s.tc.frameNo
    status := h.status ||| (if sat then 8 else 0) ||| (if poison then 0x20 else 0) }) s
  sendPart c h.no (r.owner h.no) 1 (g * groupLines r.wireFmt) xs s

/-- This node sends a partial for the chunk. -/
def sendsPartial (r : CtxRec) (no : Nat) : Bool :=
  decide (1 < r.nodes) && r.owner no != r.self && (r.partners no).contains r.self

/-- The result lines of a group from the owner, when they are all there, or error lines for a chunk given up (R226,
R227). -/
def receivedGroup (r : CtxRec) (h : Chunk) (g : Nat) : Option (List (Line × Bool)) :=
  let n := groupLines r.outFmt
  if h.poisoned then some (errorGroup r)
  else
    let ls := (List.range n).map (fun k => tget none h.result (g * n + k))
    if ls.all (·.isSome) then some (ls.filterMap id) else none

/-- A complete group is finished (R206): groups in order, chunks in order. Log entry 41 (DEDUCED). -/
def groupFinish (c chunk group : Nat) (s : State) : State :=
  let r := recOf s c
  let x := ctxAt s c
  let w := x.mill
  if s.flt.safe || x.st ≠ 2 || millFenced s w then s
  else
    let room := !r.sched || outRoom s w c (groupLines r.outFmt)
    match x.chunks.find? (fun h => decide (h.finished < r.outGroups) || (sendsPartial r h.no && decide (h.partialSent < r.groups))) with
    | none => s
    | some h =>
      if chunk ≠ h.no % max 1 r.chunks then s
      else if r.owner h.no = r.self ∨ r.nodes ≤ 1 then
        if group = h.finished ∧ groupReady r h group = true ∧ room = true
            ∧ (streamNeeds s r h.no group).all (fun a => (streamLine s c h.no a).isSome) = true then ownerFinish c h s
        else s
      else if sendsPartial r h.no && group == h.partialSent && decide (h.partialSent < r.groups) && groupReady r h group then
        partialFinish c h s
      else if r.delivers h.no && group == h.finished && room then
        match receivedGroup r h group with
        | some xs => groupDone c h.no (planGroup c h.no group xs s)
        | none => s
      else s

def execGroupFinish (ctx chunk group : Nat) (s : State) : Out := .next (groupFinish ctx chunk group s)

/-- Scheduled plans whose last result line a frame has sent are done 16 ticks after its end (R220). -/
def mstSent (frameEnd : Tick) (s : State) : State :=
  (liveCtxs s).foldl (fun s c =>
    let q : Ring := tget {} s.slu.rings (outKey (wsOf (ctxAt s c).mill) c)
    modCtx c (fun x => { x with chunks := x.chunks.map (fun h =>
      match h.ringEnd with
      | some n => if n ≤ q.start ∧ h.sentAt.isNone = true ∧ h.finished = (recOf s c).outGroups
          then { h with sentAt := some (frameEnd + 16) } else h
      | none => h) }) s) s

/-! ### Completion (R220, R221) -/

/-- Byte b of the completion record. -/
def recordByte (x : MstCtx) (time : Word64) (b : Nat) : Byte :=
  if b < 8 then x.run.extractLsb' (8 * b) 8
  else if b < 12 then BitVec.ofNat 8 (x.status / 2 ^ (8 * (b - 8)))
  else if b < 16 then BitVec.ofNat 8 (x.incomplete / 2 ^ (8 * (b - 12)))
  else if b < 24 then time.extractLsb' (8 * (b - 16)) 8
  else if b < 32 then BitVec.ofNat 8 (((List.range 8).map (fun i => if x.missingDest.contains (8 * (b - 24) + i) then 2 ^ i else 0)).sum)
  else if 64 ≤ b ∧ b < 578 then BitVec.ofNat 8 (((List.range 8).map (fun i => if x.missing.contains (8 * (b - 64) + i) then 2 ^ i else 0)).sum)
  else 0

/-- Streams or result of a context lie in the mirrored set of a native pair (R391, R400). -/
def ctxMirrored (s : State) (r : CtxRec) : Bool :=
  s.pair.role == .lead && pairNative s &&
    ((r.mem && inSet s (addrOff r.resultBase)) || (r.ins ++ r.outs).any (fun d => d.valid && inSet s (addrOff d.base)))

/-- Write the completion record of the run that ends, and begin the next (R221, R391). -/
def runRecord (c : Nat) (s : State) : State :=
  let r := recOf s c
  let x := ctxAt s c
  let line (i : Nat) : Line := lineOfBytes (fun b => recordByte x s.tc.timecode (64 * i + b))
  let s1 := (List.range 12).foldl (fun s i =>
    let o := 64 * (r.statusLine + i)
    if bankFenced s (bankAt o) || dailyRange o then s else millWrite o fullMask (line i) false s) s
  let s2 := if x.status = 0 then s1
    else
      let s := modMst (fun m => { m with incompletes := sat32 m.incompletes 1 }) s1
      raiseRated .collectiveIncomplete c 1000000 4 x.mill c s
  let s3 := if ctxMirrored s r then
      (List.range 12).foldl (fun s i => modPair (fun p => { p with outbox := p.outbox ++ [.checkpoint c i (line i)] }) s) s2
    else s2
  modCtx c (fun y => { y with
    run := y.run + 1
    status := 0, incomplete := 0, missing := [], missingDest := []
    runKs := y.runKs.filter (fun p => decide (p.1 ≠ x.run.toNat))
    sched := y.sched.filter (fun p => decide (p.1 / 16 ≠ x.run.toNat))
    reached := y.reached.filter (fun p => decide (p.1 / 16 ≠ x.run.toNat)) }) s3

/-- A chunk is delivered: the record for a run's last one, then COUNTER (R220). -/
def deliverChunk (c : Nat) (h : Chunk) (last : Bool) (s : State) : State :=
  let r := recOf s c
  let s := modCtx c (fun x => { x with
    chunks := x.chunks.filter (fun y => y.no != h.no)
    status := x.status ||| h.status
    incomplete := x.incomplete + (if h.status = 0 then 0 else 1)
    missing := (h.missing ++ x.missing).eraseDups
    missingDest := (h.missingDest ++ x.missingDest).eraseDups }) s
  let s := if last then runRecord c s else s
  let w := (ctxAt s c).mill
  let add := counterAdd (fld r.counter 0 27 / 8) 1 (wsOf w) (ownerTurn 2 0 (bankAt (fld r.counter 0 27)) s)
  let s := if add.1 = 0 then add.2 else mstFails w r.job .addI64 r.counter add.2
  modCtx c (fun x => if x.chunks.isEmpty && x.st == 2 then { x with st := if last then 1 else 2 } else x) s

/-- Everything that the chunk's plans wait for is done (R220). -/
def chunkDelivered (s : State) (r : CtxRec) (h : Chunk) : Bool :=
  decide (h.stores = 0) && (!sendsPartial r h.no || decide (h.partialSent = r.groups) || h.poisoned) &&
    (!(r.delivers h.no || r.owner h.no == r.self) || decide (h.finished = r.outGroups)) &&
    (match h.ringEnd, h.sentAt with
     | none, _ => true
     | some _, some t => decide (t ≤ s.now)
     | some _, none => false)

/-- The oldest chunk of a context is delivered (R220). Log entry 41 (DEDUCED). -/
def chunkComplete (c : Nat) (s : State) : State :=
  let r := recOf s c
  match (ctxAt s c).chunks with
  | [] => s
  | h :: _ =>
    if s.flt.safe || !h.closed || !chunkDelivered s r h then s
    else deliverChunk c h (h.no % max 1 r.chunks + 1 == r.chunks) s

def execChunkComplete (ctx : Nat) (s : State) : Out := .next (chunkComplete ctx s)

/-- Deliver the open chunks with a status bit: the last one of each run ends the run. -/
def endChunks (c bit : Nat) : List Chunk → State → State
  | [], s => s
  | h :: t, s =>
    let r := recOf s c
    let last := match t with
      | [] => true
      | g :: _ => g.no / max 1 r.chunks != h.no / max 1 r.chunks
    endChunks c bit t (deliverChunk c { h with status := h.status ||| bit } last s)

/-- The open chunks complete at once with a status bit, and every run in progress ends with its record; a run of which no chunk is
open ends too (R203, R221, R225). Log entry 39 (DEDUCED). -/
def endRun (c bit : Nat) (s : State) : State :=
  let r := recOf s c
  let x := ctxAt s c
  let run := match x.chunks.getLast? with
    | some l => l.no / max 1 r.chunks + 1
    | none => x.base / max 1 r.chunks + 1
  let s := if x.chunks.isEmpty then runRecord c (modCtx c (fun y => { y with status := y.status ||| bit }) s)
    else endChunks c bit x.chunks s
  modMst (fun m => { m with
    stores := m.stores.filter (fun y => y.ctx != c)
    fetches := m.fetches.filter (fun y => y.ctx != c) })
    (modSlu (fun u => { u with rings := tupd {} u.rings (outKey (wsOf x.mill) c) (fun q => { start := q.start + q.lines.length }) })
      (modCtx c (fun y => { y with
        base := run * r.chunks
        pos := (List.range r.sites.length).foldl (fun t m => tset 0 t m (run * perRun r m * r.perChunk)) []
        colDone := [], held := [], runKs := [], sched := [], reached := [] }) s))

/-! ### Set-up, abort, free (R162, R203, R207, R216, R218) -/

/-- A range of millpond lines lies in banks of the millstone (R166, R203). -/
def mstOwns (s : State) (w first n : Nat) : Bool :=
  decide (first + n ≤ 2 ^ 21) && (List.range 32).all (fun b =>
    decide (n = 0 ∨ b < first / 65536 ∨ (first + n - 1) / 65536 < b) || ((bankOwner s b).1 == 2 && b / 8 == w))

/-- The codes and ranges of R199 to R201 and R209 (reason 1). -/
def codesOk (s : State) (c : Nat) (r : CtxRec) : Bool :=
  let l := r.sites.length
  let wire := match r.lock with
    | some 31 => r.wireFmt == 14
    | some _ => r.wireFmt == 15
    | none => if isIntFmt r.inFmt then r.wireFmt == 13 else r.wireFmt == 0 || r.wireFmt == 1
  ctxZeroOk s c && decide (r.op ≤ 5 ∧ r.reduction ≠ 3 ∧ r.late ≠ 3 ∧ r.inFmt ≤ 13 ∧ r.outFmt ≤ 13) && wire
    && decide (1 ≤ r.nodes ∧ r.nodes ≤ 4096 ∧ r.self < r.nodes ∧ 1 ≤ l ∧ 1 ≤ r.lateFrames ∧ 1 ≤ r.groups ∧ 1 ≤ r.chunks)
    && (decide (r.op ≠ 3 ∧ r.op ≠ 4) || decide (r.root < l ∨ (12 ≤ r.root ∧ r.root < 12 + r.nodes)))
    && (r.ins ++ r.outs).all (fun d => !d.valid || decide (d.fmt ≤ 10))
    && (decide (r.op ≠ 5) || decide (r.nodes = 1 ∧ r.groups % l = 0))
    && (!r.pin || hasWs s.part.variant r.mill)

/-- The choice of a millstone without a pin or a landing (R162, R163): most member sites in its field, then the lowest mean
of contexts under the load policy, then the lowest index. Every millstone reaches the same sites with as many circuits.
Log entry 42 (DEDUCED). -/
def chooseMill (s : State) (r : CtxRec) : Nat :=
  let all := (List.range 4).filter (hasWs s.part.variant)
  let up := all.filter (fun w => !millFenced s w)
  let ws := if up.isEmpty then all else up
  let mine (w : Nat) : Nat := (r.sites.filter (fun n => fieldOf (ssOf n) == w)).length
  let load := bit s.blk.dispatch 1 && decide (1 < s.blk.fullEpochs)
  (argmin (fun w => (12 - mine w) * 2 ^ 40 + (if load then tget 0 s.blk.mstMean w else 0)) ws).getD 0

/-- The millstone that a context is bound to (R162). Log entry 42 (DEDUCED). -/
def bindTo (s : State) (c : Nat) (r : CtxRec) : Nat :=
  if r.pin then r.mill
  else match (reelSlots s).findSome? (fun k => ((reelLands s k).find? (fun p => p.1 == c)).map (·.2)) with
    | some w => w
    | none => chooseMill s r

/-- The COL pools keep room for the context (R207). Log entry 42 (DEDUCED). -/
def colRoom (s : State) (r : CtxRec) (w : Nat) : Bool :=
  let into (dst : Nat) : Nat := ((List.range 36).map (fun src => colReserved s src dst + colOfCtx r w src dst)).sum
  decide (into (wsOf w) ≤ 2048) &&
    (decide (r.nodes ≤ 1) || (List.range 8).all (fun x => !hasXs s.part.variant x || decide (into (xsOf x) ≤ 2048)))

/-- The set-up checks in their order: the first reason, or 0 (R203). -/
def setupReason (s : State) (c : Nat) (r : CtxRec) (w : Nat) : Nat :=
  let own := s.ident.node.toNat
  let here (a : Word64) : Bool := addrNode a == own
  let co := fld r.counter 0 48
  if !codesOk s c r then 1
  else if !progOk s r then 2
  else if r.pin && (reelSlots s).any (fun k => (reelLands s k).any (fun p => p.1 == c && p.2 != r.mill)) then 3
  else if !(mstOwns s w r.inBuf r.inLines && mstOwns s w r.acc r.accLines && mstOwns s w r.statusLine 12
      && (decide (r.nodes ≤ 1) || mstOwns s w r.nodeTable ((r.nodes + 7) / 8))
      && here r.counter && decide (millBase ≤ co ∧ co < millBase + millSize ∧ co % 8 = 0) && mstOwns s w ((co - millBase) / 64) 1
      && decide (2 * r.slotLines ≤ r.accLines)
      && (!r.sched || decide (2 * r.outGroups * groupLines r.outFmt ≤ 16384))
      && (r.ins ++ r.outs).all (fun d => !d.valid || here d.base)
      && (!r.mem || here r.resultBase)) then 4
  else if !(jobRunning s r.job && r.sites.all (fun n => siteUp s n)) then 5
  else if !colRoom s r w then 6
  else if (ctxAt s c).st ≠ 0 then 8
  else 0

/-- Set a context up (R203). -/
def ctxSetup (c : Nat) (s : State) : State :=
  let r := recOf s c
  let w := bindTo s c r
  let n := setupReason s c r w
  if n ≠ 0 then modCtx c (fun x => { x with reason := n }) s
  else modCtx c (fun _ => { st := if millFenced s w then 3 else 1, mill := w, ks := r.ks }) s

/-- Free a context: credits withdrawn (R203). -/
def ctxDrop (c : Nat) (s : State) : State :=
  let x := ctxAt s c
  modMst (fun m => { m with
    stores := m.stores.filter (fun y => y.ctx != c)
    fetches := m.fetches.filter (fun y => y.ctx != c) })
    (modSlu (fun u => { u with rings := tset {} u.rings (outKey (wsOf x.mill) c) {} }) (modCtx c (fun _ => {}) s))

/-- A context is aborted (R203). Log entry 39 (DEDUCED). -/
def ctxAbort (c : Nat) (s : State) : State :=
  let x := ctxAt s c
  if x.st = 2 then modCtx c (fun y => { y with st := 1 }) (endRun c 0x40 s) else s

def ctxFree (c : Nat) (s : State) : State :=
  let x := ctxAt s c
  if x.st = 0 then s
  else if reelNames s c then modCtx c (fun y => { y with reason := 7 }) s
  else ctxDrop c (if x.st = 2 then endRun c 0x40 s else s)

/-- The owning job ends (R203, R428). -/
def ctxJobEnds (j : Nat) (s : State) : State :=
  ((liveCtxs s).filter (fun c => (recOf s c).job == j)).foldl (fun s c =>
    ctxDrop c (if (ctxAt s c).st = 2 then endRun c 0x40 s else s)) s

/-- New constants for the runs that begin from now on (R218). -/
def ctxConstants (c : Nat) (ks : List Word32) (s : State) : State :=
  modCtx c (fun x => if x.st = 0 then x else { x with ks := (ks ++ x.ks.drop ks.length).take 8 }) s

def execContextSetup (p : Path) (ctx : Nat) (s : State) : Out :=
  .next (if mayWrite s p .o && decide (ctx < ctxCount s.part.variant) then ctxSetup ctx s else s)
def execContextAbort (p : Path) (ctx : Nat) (s : State) : Out :=
  .next (if mayWrite s p .o && decide (ctx < ctxCount s.part.variant) then ctxAbort ctx s else s)
def execContextFree (p : Path) (ctx : Nat) (s : State) : Out :=
  .next (if mayWrite s p .o && decide (ctx < ctxCount s.part.variant) then ctxFree ctx s else s)
def execContextConstants (p : Path) (ctx : Nat) (ks : List Word32) (s : State) : Out :=
  .next (if mayWrite s p .o && decide (ctx < ctxCount s.part.variant) then ctxConstants ctx ks s else s)

/-- A millstone is fenced: the contexts bound to it (R225). -/
def mstFence (w : Nat) (s : State) : State :=
  ((liveCtxs s).filter (fun c => (ctxAt s c).mill == w)).foldl (fun s c =>
    modCtx c (fun x => { x with st := 3 }) (if (ctxAt s c).st = 2 then endRun c 0x80 s else s)) s

/-- It is back in service (R225). -/
def mstReturn (w : Nat) (s : State) : State :=
  ((liveCtxs s).filter (fun c => (ctxAt s c).mill == w && (ctxAt s c).st == 3)).foldl (fun s c =>
    modCtx c (fun x => { x with st := 1 }) s) s

/-- Contexts bound to a millstone. -/
def boundTo (s : State) (w : Nat) : Nat := ((liveCtxs s).filter (fun c => (ctxAt s c).mill == w)).length

/-- Sums of the epoch, tick by tick: contexts per millstone (R162). Log entry 34 (DEDUCED). -/
def mstTick (s : State) : State :=
  (List.range 4).foldl (fun s w =>
    if boundTo s w = 0 then s else modBlk (fun b => { b with mstSum := tupd 0 b.mstSum w (· + boundTo s w) }) s) s

end Sys2Proof.Machine
end

