-- ==== Sys2Proof/Machine/Sluice.lean ====
section
/-! DEFINITION. Frames on the sluice matrix: feeds, circuits, preambles, landings, the reel store, swaps and drains
(chapter 03, R47 to R50). -/

namespace Sys2Proof.Machine

open Sys2Proof

/-- A station's ports are dark by a fence: its own, its site's or its millstone's (R95, R225, R382). -/
def fenceDark (s : State) (st : Nat) : Bool :=
  stationFenced s st || (match kindOf st with
    | (.ss, n) => fenced s (uSite n)
    | (.ws, w) => fenced s (uMill w)
    | _ => false)

def portKey (st dir plane : Nat) : Nat := st * 16 + dir * 8 + plane

/-- The port acts as dark in the running reel (R24, R95, R97). -/
def portDark (s : State) (st dir plane : Nat) : Bool :=
  s.slu.dark.contains st || s.slu.darkPorts.contains (portKey st dir plane) || s.slu.darkPlanes.contains plane
    || spacerDark s st || !hasStation s.part.variant st

/-- Fences take hold at a frame boundary (R95, R382). -/
def darken (s : State) : State :=
  let sts := (List.range 36).filter (fun st => s.slu.dark.contains st || fenceDark s st)
  let ports := ((List.range 36).map (fun st => (List.range 12).map (fun k => (st, k / 6, k % 6)))).flatten
  let dp := (ports.filter (fun p => fenced s (uPort p.1 p.2.2 p.2.1))).map (fun p => portKey p.1 p.2.1 p.2.2)
  let pl := (List.range 6).filter (fun p => s.slu.darkPlanes.contains p || fenced s (uPlane p))
  modSlu (fun u => { u with dark := sts, darkPorts := (u.darkPorts ++ dp).eraseDups, darkPlanes := pl }) s

/-- At a splice the entries of units no longer fenced act as written again (R97). -/
def undarken (s : State) : State :=
  let ports := ((List.range 36).map (fun st => (List.range 12).map (fun k => (st, k / 6, k % 6)))).flatten
  modSlu (fun u => { u with
    dark := u.dark.filter (fenceDark s)
    darkPorts := (ports.filter (fun p => u.darkPorts.contains (portKey p.1 p.2.1 p.2.2) && fenced s (uPort p.1 p.2.2 p.2.1))).map
      (fun p => portKey p.1 p.2.1 p.2.2)
    darkPlanes := u.darkPlanes.filter (fun p => fenced s (uPlane p)) }) s

/-! ### Feeds -/

def feedSt (s : State) (st sel : Nat) : FeedSt := tget {} s.slu.feeds (feedKey st sel)
def modFeed (st sel : Nat) (f : FeedSt → FeedSt) (s : State) : State :=
  modSlu (fun u => { u with feeds := tupd {} u.feeds (feedKey st sel) f }) s

/-- The lines that a feed holds and has not sent (R79). -/
def feedHeld (s : State) (st sel : Nat) (d : FeedDef) : List (Line × Bool) :=
  let r : Ring := tget {} s.slu.rings (ringKey st sel d)
  r.lines.drop ((feedSt s st sel).taken - r.start)

/-- A feed's pointer as a ring number: a millstone output selector that starts late starts at the first line held. -/
def feedPos (s : State) (st sel : Nat) (d : FeedDef) : Nat :=
  let r : Ring := tget {} s.slu.rings (ringKey st sel d)
  max (feedSt s st sel).taken r.start

/-- Selectors of a station that share a ring (R79). -/
def ringReaders (s : State) (slot st sel : Nat) (d : FeedDef) : List Nat :=
  if d.kind = 1 ∨ d.kind = 4 ∨ d.kind = 5 then
    (List.range 256).filter (fun x => ringKey st x (feedDef s slot st x) == ringKey st sel d &&
      ((feedDef s slot st x).kind == 1 || (feedDef s slot st x).kind == 4 || (feedDef s slot st x).kind == 5))
  else if d.kind = 3 then
    (List.range 256).filter (fun x => (feedDef s slot st x).kind == 3 && (feedDef s slot st x).context == d.context)
  else [sel]

/-- Release the lines of a ring that every pointer has passed (R79). -/
def ringRelease (slot st sel : Nat) (d : FeedDef) (s : State) : State :=
  let passed := (ringReaders s slot st sel d).map (fun x => feedPos s st x d)
  let least := passed.foldl min (feedPos s st sel d)
  modSlu (fun u => { u with
    rings := tupd {} u.rings (ringKey st sel d) (fun r => { start := max r.start least, lines := r.lines.drop (least - r.start) }) }) s

/-- Take n lines from a feed: its pointer passes them (R79, R83). Log entry 27 (DEDUCED). -/
def feedTake (slot st sel : Nat) (d : FeedDef) (n : Nat) (s : State) : List (Line × Bool) × State :=
  let got := (feedHeld s st sel d).take n
  let pos := feedPos s st sel d
  let s := modFeed st sel (fun f =>
    { f with
      taken := pos + got.length
      idx := f.idx.drop got.length
      ptr := if d.kind = 2 then (match (f.idx.take got.length).getLast? with
          | some i => (i + 1) % max 1 d.length
          | none => f.ptr)
        else (pos + got.length) % (if d.ringLines = 0 then 2 ^ 24 else d.ringLines) }) s
  (got, ringRelease slot st sel d s)

/-- The pod offset of place i of a range (R78, R81). -/
def rangeOffset (base stride i : Nat) : Nat := 64 * ((base + i * stride) % 2 ^ 34)

/-- The first place from i on, of those left, that is homed at a memory station (R80, R82). -/
def nextHomed (s : State) (m base stride len : Nat) : Nat → Nat → Option Nat
  | 0, _ => none
  | fuel + 1, i =>
    let i := if i ≥ len then 0 else i
    if homeOf s (rangeOffset base stride i) = m then some i else nextHomed s m base stride len fuel (i + 1)

/-- A read stream fetches n lines of its range from the stack (R80). -/
def fetchLines (errs : List (Nat × Verdict)) (st sel m : Nat) (d : FeedDef) : Nat → State → State
  | 0, s => s
  | n + 1, s =>
    match nextHomed s m d.baseLine d.stride d.length d.length (feedSt s st sel).fetch with
    | none => s
    | some i =>
      let off := rangeOffset d.baseLine d.stride i
      let x := poolRead off (((errs.find? (fun e => e.1 == off / 64)).map (·.2)).getD .clean) s
      let s := modSlu (fun u => { u with
        rings := tupd {} u.rings (ringKey st sel d) (fun r => { r with lines := r.lines ++ [x.1] }) }) x.2
      let s := noteLines (ownerTag s st) 1 s
      fetchLines errs st sel m d n (modFeed st sel (fun f => { f with fetch := (i + 1) % max 1 d.length, idx := f.idx ++ [i] }) s)

/-- Lines that the entries of a station's planes in frame k ask of a feed. -/
def linesAsked (s : State) (slot k st sel : Nat) : Nat :=
  ((List.range 6).map (fun p =>
    let e := entryAt s slot k st p
    if e.sends && e.feed == sel then e.lines else 0)).sum

/-- Fetch for the frame that comes next: the LINES of every plane that names the feed, less the lines held, less those the
stack did not deliver (R80). Log entry 27 (DEDUCED). -/
def fetchFrame (slot k : Nat) (short : List (Nat × Nat × Nat)) (errs : List (Nat × Verdict)) (s : State) : State :=
  (memStations s.part.variant).foldl (fun s m =>
    let st := msOf m
    if memFenced s m || admissionStopped s st || (msSt s m).st = 2 then s
    else
      let sels := (((List.range 6).map (fun p => entryAt s slot k st p)).filter (·.sends)).map (·.feed)
      sels.eraseDups.foldl (fun s sel =>
        let d := feedDef s slot st sel
        if d.kind == 2 then
          let lost := ((short.filter (fun x => x.1 == st && x.2.1 == sel)).map (fun x => x.2.2)).sum
          fetchLines errs st sel m d (linesAsked s slot k st sel - (feedHeld s st sel d).length - lost) s
        else s) s) s

/-! ### A frame -/

/-- Data flits of a list of lines: four slots each; the last one closes the frame. -/
def chunk4 : Nat → List (Line × Bool) → List (List (Line × Bool))
  | 0, _ => []
  | _, [] => [[]]
  | n + 1, l => if l.length ≤ 4 then [l] else l.take 4 :: chunk4 n (l.drop 4)

/-- Put a frame's flits on the way to a receive port (R86): the target's own receive half acts (R75).
Log entry 27 (DEDUCED). -/
def launchFlits (slot k src plane : Nat) (e : Entry) (lines : List (Line × Bool)) (dst : Nat) (s : State) : State :=
  let t := entryAt s slot k dst plane
  let cs := chunk4 (lines.length + 1) lines
  let fl := (cs.zip (List.range cs.length)).map (fun c =>
    ({ src := src, frame := s.tc.frameNo, lines := c.1, land := t.land, ordered := t.ordered, count := t.count, last := e.last, ctx := e.ctx
       final := c.2 + 1 == cs.length } : AirFlit))
  modSlu (fun u => { u with air := tupd [] u.air (dst * 8 + plane) (· ++ fl) }) s

/-- The owed count of a feed grows by n, saturating (R87). -/
def owe (st sel n : Nat) (s : State) : State := modFeed st sel (fun f => { f with owed := min 65535 (f.owed + n) }) s

/-- The contexts that an entry's feed, or the landings of its targets, name (R76, R96). -/
def ctxsNamed (s : State) (slot k plane : Nat) (e : Entry) (d : FeedDef) : List Nat :=
  if d.kind = 3 then [d.context]
  else ((targetsOf e).filterMap (fun t =>
    let l := landDef s slot t (entryAt s slot k t plane).land
    if l.kind = 4 then some l.context else none)).eraseDups

/-- The two preamble flits that a lit port sends (R49). -/
def preambleFlit (s : State) (slot k st plane feed : Nat) (no : Bool) : Preamble :=
  let p : Preamble := { pass := s.tc.passCount, frame := BitVec.ofNat 18 k, preambleNo := no, node := s.ident.node
                        source := BitVec.ofNat 6 st, plane := BitVec.ofNat 3 plane, reelId := BitVec.ofNat 16 (hdrReelId s slot)
                        feed := BitVec.ofNat 8 feed, check := 0 }
  { p with check := crc32 (preambleFields p) }

/-- LAST returns a memory read stream to its first line after the frame (R83). -/
def readReturn (slot : Nat) (c : Circuit) (s : State) : State :=
  let d := feedDef s slot c.src c.feed
  if c.last && d.kind == 2 then
    modSlu (fun u => { u with
      rings := tupd {} u.rings (ringKey c.src c.feed d) (fun _ => { start := (feedSt s c.src c.feed).taken, lines := [] }) })
      (modFeed c.src c.feed (fun f => { f with fetch := 0, idx := [], ptr := 0 }) s)
  else s

/-- Transmit at one port in frame k (R79, R87, R95, R96). -/
def transmit (slot k st plane : Nat) (missed : List Nat) (s : State) : State :=
  let e := entryAt s slot k st plane
  if !e.sends then s
  else
    let d := feedDef s slot st e.feed
    let dark := portDark s st 0 plane || missed.contains st
    let alive := (targetsOf e).filter (fun t => !portDark s t 1 plane)
    let lostTargets := (targetsOf e).filter (fun t => portDark s t 1 plane)
    let held := (feedHeld s st e.feed d).length
    let pos := feedPos s st e.feed d
    let span := if d.kind = 3 then some (pos, pos + min e.lines held) else none
    let s := if e.ctx && !dark && (e.kind == 2 || e.kind == 3) then
        (ctxsNamed s slot k plane e d).foldl (fun s c => lostTargets.foldl (fun s t => mstDark c t span s) s) s else s
    if dark || alive.isEmpty then
      if e.ctx && e.kind != 4 then owe st e.feed e.lines s else s
    else
      let owed := (feedSt s st e.feed).owed
      let n := if e.kind = 4 then min owed (min e.lines held) else min e.lines held
      if e.kind = 4 ∧ owed = 0 then s
      else
        let (got, s) := feedTake slot st e.feed d n s
        let s := if e.kind = 4 then modFeed st e.feed (fun f => { f with owed := f.owed - n }) s
          else if e.ctx then owe st e.feed (e.lines - n) s else s
        let flits := (n + 3) / 4
        let s := if n = 0 then s else noteBytes (ownerTag s st) (64 * n) s
        let s := modSlu (fun u => { u with
          lit := u.lit ++ [{ src := st, plane := plane, feed := e.feed, targets := alive, last := e.last, ctx := e.ctx }]
          sent := tupd 0 u.sent st (· + BitVec.ofNat 64 flits) }) s
        let s := emit (.preamble st plane (preambleFlit s slot k st plane e.feed false) (preambleFlit s slot k st plane e.feed true)) s
        alive.foldl (fun s t => if missed.contains t then s else launchFlits slot k st plane e got t s) s

/-- Slack is low for a frame length (R60). -/
def slackThreshold (len : Nat) : Nat := (len * 15 + 99) / 100

/-- Take one station's slack measurements for the frame (R60, R70). -/
def slackMeasure (len : Nat) (x : SlackSample) (s : State) : State :=
  if pausedNow s x.station then s
  else
    let low := decide (x.frameSlack < slackThreshold len ∨ x.stageSlack < 15)
    let s := if low then s else standEnd .slackShort 0 x.station s
    modTc (fun t => { t with
      slack := tupd {} t.slack x.station (fun k =>
        { recs := { tick := s.now, frame := x.frameSlack, stage := x.stageSlack, low := low } :: slackRecent s k
          lowSince := if low then (match k.lowSince with | some t => some t | none => some s.now) else none
          maxSince := if low && vmillAtMax s then (match k.maxSince with | some t => some t | none => some s.now) else none }) }) s

/-- A slack miss at a station (R62, R381). -/
def slackMissAt (st : Nat) (s : State) : State :=
  raise .slackMiss 0 st 0
    (modFlt (fun f => { f with
      slackMisses := tupd [] f.slackMisses st (fun l => s.now :: l.filter (fun t => decide (s.now < t + 10000000))) }) s)

/-- Grip descriptors whose last line this frame sends complete 16 ticks after the frame ends (R186). -/
def gripSent (frameEnd : Tick) (s : State) : State :=
  modGrp (fun g => { g with
    descs := g.descs.map (fun d =>
      match d.sluice with
      | some (st, sel) =>
        let r := tget {} s.slu.rings (ringKey st sel (feedDef s s.tc.activeSlot st sel))
        if d.st = .running ∧ d.placed = descLines d.d ∧ d.ringEnd ≤ r.start ∧ d.landedAt.isNone = true
          then { d with landedAt := some (frameEnd + 16) } else d
      | none => d) }) s

/-- The push streams that the active reel gives a station: STREAM_ID, selector and feed (R78). -/
def pushFeeds (s : State) (st : Nat) : List (Nat × Nat × FeedDef) :=
  if !reelActive s then []
  else (List.range 256).filterMap (fun sel =>
    let d := feedDef s s.tc.activeSlot st sel
    if d.kind = 1 then some (d.stream, sel, d) else none)

/-- Stream credits of a site (R259): those of streams that the reel lacks are revoked, and the places that a ring has free
beyond the credits held are granted while admission runs. -/
def syncSite (n : Nat) (s : State) : State :=
  let st := ssOf n
  let fs := pushFeeds s st
  let s := (siteOf s n).streamIn.foldl (fun s p => if fs.any (fun f => f.1 == p.1) then s else sendCredit n p.1 0 true s) s
  if admissionStopped s st || (siteOf s n).st != 3 || !bit (siteFeatures s n) 5 then s
  else
    fs.foldl (fun s f =>
      let r : Ring := tget {} s.slu.rings (ringKey st f.2.1 f.2.2)
      let free := f.2.2.ringLines - r.lines.length
      let have_ := tget 0 (siteOf s n).streamIn f.1
      if have_ < free then sendCredit n f.1 (free - have_) false s else s) s

def syncStreams (s : State) : State := (List.range 12).foldl (fun s n => if siteUp s n then syncSite n s else s) s

/-- A line of an egress stream enters the ring of its feed (R78, R85): the feed names its flow's context and its stream; a line
that no feed takes is discarded as its flow's other slots are not, uncounted. -/
def streamIn (x ctx : Nat) (seq : Word32) (y : Slot) (s : State) : State :=
  let st := xsOf x
  let slot := s.tc.activeSlot
  let sel := if reelActive s then (List.range 256).find? (fun k =>
      let d := feedDef s slot st k
      d.kind == 4 && d.flow == ctx && d.stream == y.tag.toNat) else none
  match sel with
  | none => flowDelivered ctx [seq] s
  | some k =>
    let d := feedDef s slot st k
    -- an earlier line of the stream that waits goes first
    let behind := s.pod.rx.any (fun f => f.ctx == ctx && f.waiting.any (fun w =>
      w.2.cls == 0 && w.2.tag == y.tag && decide ((seq - w.1).toNat < 2 ^ 31)))
    match (if behind || admissionStopped s st then none else ringPush (ringKey st k d) d.ringLines (y.data, y.poison) s) with
    | some t => flowDelivered ctx [seq] t
    | none => modRx ctx (fun f => { f with waiting := f.waiting ++ [(seq, y)] }) s

/-- Stream lines that waited for a place in their ring take those that the frame has freed. -/
def streamDrain (s : State) : State :=
  s.pod.rx.foldl (fun s f =>
    (f.waiting.filter (fun w => w.2.cls == 0)).foldl (fun s w =>
      streamIn f.xs f.ctx w.1 w.2 (modRx f.ctx (fun g => { g with waiting := g.waiting.erase w }) s)) s) s

/-- Frame k of the active reel begins (R47, R51, R60, R62, R79, R80, R87, R95). -/
def beginFrame (env : FrameEnv) (s : State) : State :=
  let slot := s.tc.activeSlot
  let len := frameLen s slot
  let k := s.tc.frame
  let start := s.tc.passStart + k * len
  let missed := (env.slack.filter (fun x => !x.prepared)).map (·.station)
  let s := darken s
  let s := missed.foldl (fun s st => slackMissAt st s) s
  let s := env.slack.foldl (fun s x => slackMeasure len x s) s
  let s := modSlu (fun u => { u with lit := [], judged := [] }) s
  let s := (stations s.part.variant).foldl (fun s st =>
    (List.range 6).foldl (fun s p => transmit slot k st p missed s) s) s
  let s := s.slu.lit.foldl (fun s c => readReturn slot c s) s
  let s := (fieldsOf s.part.variant).foldl (fun s f => if start < tget 0 s.slu.gapUntil f then gapDrop f s.tc.frameNo s else s) s
  let s := mstSent (start + len) (gripFlow (gripSent (start + len) s))
  let n := passFrames s slot
  let s := accFrame s
  let s := fetchFrame slot (if k + 1 < n then k + 1 else 0) env.fetchShort env.fetchErrs s
  streamDrain (syncStreams (mstFrame (modTc (fun t => { t with frame := k + 1, frameNo := t.frameNo + 1, lastBoundary := start }) s)))

/-- A frame boundary: of the active reel when its tick has come, else at whole multiples of 2,048 of the timecode (R454).
Log entry 28 (DEDUCED). -/
def frameBoundary (env : FrameEnv) (s : State) : State :=
  if s.flt.safe then s
  else if reelActive s then
    if s.tc.frame < passFrames s s.tc.activeSlot ∧ s.tc.passStart + s.tc.frame * frameLen s s.tc.activeSlot ≤ s.now
      then beginFrame env s else s
  else if s.tc.idleDone < s.tc.timecode.toNat / 2048 then
    mstFrame (modTc (fun t => { t with idleDone := t.timecode.toNat / 2048, frameNo := t.frameNo + 1, lastBoundary := s.now }) (accFrame s))
  else s

def execFrameBoundary (env : FrameEnv) (s : State) : Out := .next (frameBoundary env s)

/-! ### Preambles and landings -/

/-- The circuit that lights a receive port in the frame that runs. -/
def litAt (s : State) (st plane : Nat) : Option Circuit :=
  s.slu.lit.find? (fun c => c.plane == plane && c.targets.contains st)

/-- What the active reel routes to a port (R50), with a source that missed its frame included. -/
def routedTo (s : State) (st plane : Nat) : Option Nat :=
  match litAt s st plane with
  | some c => some c.src
  | none =>
    let slot := s.tc.activeSlot
    let k := s.tc.frame - 1
    (stations s.part.variant).find? (fun x =>
      let e := entryAt s slot k x plane
      e.sends && e.kind != 4 && (targetsOf e).contains st && !portDark s x 0 plane)

/-- A receive port is fenced, alone or with its station or plane: flits still on their way to it are lost (R95). -/
def rxFenced (s : State) (st plane : Nat) : Bool := fenceDark s st || fenced s (uPort st plane 1) || fenced s (uPlane plane)

/-- A preamble agrees with what the active reel routes to the port (R49, R50). -/
def preambleAgrees (s : State) (src plane : Nat) (p : Preamble) : Bool :=
  p.check == crc32 (preambleFields p) && p.pass == s.tc.passCount && decide (p.frame.toNat = s.tc.frame - 1 ∧ p.source.toNat = src ∧ p.plane.toNat = plane
    ∧ p.reelId.toNat = hdrReelId s s.tc.activeSlot) && p.node == s.ident.node

/-- A receiving port accepts or discards the frame (R50). Where one decoded preamble agrees and the other disagrees, the frame
is accepted and nothing is raised. Log entry 94 (DESIGN CHOICE). -/
def preambleReceived (st plane : Nat) (p0 p1 : Option Preamble) (s : State) : State :=
  let key := st * 8 + plane
  if s.flt.safe || !reelActive s || decide (s.tc.frame = 0) || s.slu.judged.contains key || portDark s st 1 plane then s
  else if rxFenced s st plane then
    modSlu (fun u => { u with judged := key :: u.judged }) (dropAir st plane (fun f => !f.judged) s)
  else
    match routedTo s st plane with
    | none => s
    | some src =>
      let ps := [p0, p1].filterMap id
      let agrees := ps.any (preambleAgrees s src plane)
      let s := modSlu (fun u => { u with judged := key :: u.judged }) s
      if agrees then
        modSlu (fun u => { u with
          air := tupd [] u.air key (·.map (fun f => if f.judged then f else { f with judged := true, accepted := true })) }) s
      else
        let s := modSlu (fun u => { u with frameDiscard := u.frameDiscard + 1 }) (dropAir st plane (fun f => !f.judged) s)
        let s := modFlt (fun f => { f with
          portDiscards := tupd [] f.portDiscards key (fun l => s.now :: l.filter (fun t => decide (s.now < t + 1000000))) }) s
        if ps.isEmpty then raise .preambleLost 0 st (plane + 8) s else raise .frameSourceMismatch 0 st (plane + 8) s

def execPreambleReceived (station plane : Nat) (p0 p1 : Option Preamble) (s : State) : Out :=
  .next (preambleReceived station plane p0 p1 s)

/-- A landing's millpond ring, range or counter lies in a fenced bank (R173). -/
def landFenced (s : State) (d : LandDef) : Bool :=
  ((d.kind == 1 || d.kind == 5) && bankFenced s (bankAt (64 * d.ringBase))) ||
  (d.kind == 3 && bankFenced s (bankAt (64 * d.millLine))) || bankFenced s (bankAt (8 * d.counter))

/-- Report lost ring lines, at most once per millisecond per station with the count since (R85). -/
def overrun (st n : Nat) (s : State) : State :=
  let key := rateKey .landingOverrun st
  let r := tget {} s.flt.rate key
  let total := r.count + n
  let s := modSlu (fun u => { u with overrunCount := u.overrunCount + BitVec.ofNat 32 n }) s
  let due := match r.last with
    | none => true
    | some t => decide (t + 1000000 ≤ s.now)
  if due then
    sendFault { mkMsg s .landingOverrun 0 st (2 ^ 24 * min total (2 ^ 24 - 1)) with suppressed := r.kept }
      (modFlt (fun f => { f with rate := tset {} f.rate key { last := some s.now, kept := false, count := 0 } }) s)
  else modFlt (fun f => { f with rate := tset {} f.rate key { r with kept := true, count := total } }) s

/-- Land one line; the number of lines landed, 0 or 1 (R82, R83, R85, R173, R460). Log entry 27 (DEDUCED). -/
def landLine (st sel : Nat) (d : LandDef) (x : Line × Bool) (s : State) : Nat × State :=
  let l := landSt s st sel
  if d.kind = 1 ∨ d.kind = 5 then
    let o := 64 * (d.ringBase + l.ptr)
    let s := if dailyRange o then s else millWrite o fullMask x.1 x.2 s
    let full := decide (d.ringLines ≤ l.landed - l.fwd)
    let s := modLand st sel (fun y => { y with
      ptr := (y.ptr + 1) % max 1 d.ringLines, landed := y.landed + 1, fwd := if full then y.fwd + 1 else y.fwd }) s
    (1, if full then overrun st 1 s else s)
  else if d.kind = 2 then
    let m := (kindOf st).2
    match nextHomed s m d.baseLine d.stride d.length d.length l.ptr with
    | none => (0, s)
    | some i =>
      let s := modLand st sel (fun y => { y with ptr := (i + 1) % max 1 d.length, landed := y.landed + 1 }) s
      let off := rangeOffset d.baseLine d.stride i
      (1, if memFenced s m then s else noteLines (ownerTag s st) 1 (poolWrite off fullMask x.1 x.2 s))
  else if d.kind = 3 then
    let o := 64 * (d.millLine + l.ptr)
    let s := if dailyRange o then s else millWrite o fullMask x.1 x.2 s
    (1, modLand st sel (fun y => { y with ptr := (y.ptr + 1) % max 1 d.lines, landed := y.landed + 1 }) s)
  else (0, s)

/-- Land the lines of a flit: millstone input takes them as they come (R84, R86). -/
def landLines (st sel : Nat) (d : LandDef) (xs : List (Line × Bool)) (s : State) : Nat × State :=
  if landFenced s d then (0, modMpd (fun m => { m with fencedDiscard := m.fencedDiscard + BitVec.ofNat 32 xs.length }) s)
  else if d.kind = 4 then (xs.length, mstLand d.context d.member xs s)
  else
    let s := if d.kind = 1 ∨ d.kind = 5 then ownerTurn 1 st (bankAt (64 * d.ringBase)) s
      else if d.kind = 3 then ownerTurn 1 st (bankAt (64 * d.millLine)) s else s
    xs.foldl (fun a x =>
    let r := landLine st sel d x a.2
    (a.1 + r.1, r.2)) (0, s)

/-- The next data flit of a receive port is checked and landed (R62, R76, R83, R84, R86, R95). A frame is that of one port:
where two planes land at one landing in one frame, each port's lines are counted, and ORDERED without COUNT adds one, for that
port. Log entry 94 (DESIGN CHOICE). -/
def sluiceFlit (st plane : Nat) (v : SluiceVerdict) (s : State) : State :=
  let key := st * 8 + plane
  match tget [] s.slu.air key with
  | [] => s
  | f :: rest =>
    if s.flt.safe || !f.accepted then s
    else
      let s := modSlu (fun u => { u with air := tset [] u.air key rest }) s
      let d := landDef s s.tc.activeSlot st f.land
      let (n, s) := if v = .good ∧ rxFenced s st plane = false then landLines st f.land d f.lines s else (0, s)
      let s := if v = .stageMiss then slackMissAt st s else s
      let s := if n = 0 then s else noteBytes (ownerTag s st) (64 * n) s
      let s := if n = 0 then s else modSlu (fun u => { u with received := tupd 0 u.received st (· + 1) }) s
      let total := tget 0 s.slu.frameLanded key + n
      let s := if f.count && !f.ordered && decide (0 < n) then (counterAdd d.counter (BitVec.ofNat 64 n) st (ownerTurn 1 st (bankAt (8 * d.counter)) s)).2 else s
      let s := modSlu (fun u => { u with frameLanded := tset 0 u.frameLanded key (if f.final then 0 else total) }) s
      if f.final then
        let s := if f.ordered && decide (0 < total) then
            (counterAdd d.counter (BitVec.ofNat 64 (if f.count then total else 1)) st (ownerTurn 1 st (bankAt (8 * d.counter)) s)).2 else s
        if f.last && (d.kind == 2 || d.kind == 3) then landReturn st f.land s
        else if f.last && (d.kind == 1 || d.kind == 5) then modLand st f.land (fun y => { y with lastAt := y.lastAt ++ [y.landed] }) s
        else s
      else s

def execSluiceFlitReceive (station plane : Nat) (v : SluiceVerdict) (s : State) : Out := .next (sluiceFlit station plane v s)

/-- Forward the next line of a site or egress stream in landing order (R85). -/
def streamForward (st sel : Nat) (s : State) : State :=
  let d := landDef s s.tc.activeSlot st sel
  let l := landSt s st sel
  if s.flt.safe || decide (l.landed ≤ l.fwd) then s
  else
    let o := 64 * (d.ringBase + l.fwd % max 1 d.ringLines)
    let (x, s) := unitRead o s
    let last := l.lastAt.contains (l.fwd + 1)
    let r := if d.kind = 1 then siteStreamOut (kindOf st).2 d.stream x last s
      else if d.kind = 5 then flowStreamOut st d.flow d.stream x last s else none
    match r with
    | none => s
    | some t => modLand st sel (fun y => { y with fwd := y.fwd + 1, lastAt := y.lastAt.filter (fun k => decide (y.fwd + 1 < k)) }) t

def execSiteStreamForward (station selector : Nat) (s : State) : Out := .next (streamForward station selector s)

/-! ### The reel store and the checks -/

/-- The slot that a reel-store address belongs to, and whether the address is reserved (R89). -/
def slotOfAddr (a : Nat) : Option Nat :=
  if 0x400000 ≤ a ∧ a < 0x500000 then some 0
  else if 0x500000 ≤ a ∧ a < 0x600000 then some 1
  else if 0x700000 ≤ a ∧ a < 0x77F000 then some 0
  else if 0x780000 ≤ a ∧ a < 0x7FF000 then some 1
  else none

/-- Withdraw an armed swap (R100). -/
def withdraw (s : State) : State :=
  let armed := s.slu.swap == .draining || s.slu.swap == .waiting
  let s := modTc (fun t => { t with swapArm := false, swapDeferred := false }) s
  if armed then modSlu (fun u => { u with swap := .none, reason := 3 }) s else s

/-- Write a word of the next slot (R93). -/
def reelWrite (a : Nat) (w : Word32) (s : State) : State :=
  match slotOfAddr a with
  | none => s
  | some k =>
    if k = s.tc.activeSlot ∨ a % 4 ≠ 0 then s
    else
      let s := match s.slu.next with
        | .checking | .passed | .refused => withdraw s
        | _ => s
      modSlu (fun u => { u with store := tset 0 u.store (a / 4) w, next := .loading }) s

def execReelStoreWrite (p : Path) (addr : Nat) (data : Word32) (s : State) : Out :=
  .next (if mayWrite s p .o then reelWrite addr data s else s)

/-- SLU_LOAD_CTRL.CHECK (R93). -/
def reelCheck (s : State) : State :=
  if s.slu.next = .loading then modSlu (fun u => { u with next := .checking }) s else s

def execReelCheck (p : Path) (s : State) : Out := .next (if mayWrite s p .o then reelCheck s else s)

/-- SLU_LOAD_CTRL.CLEAR (R93). Log entry 26 (DEDUCED). -/
def reelClear (s : State) : State := modSlu (fun u => { u with next := .empty }) (withdraw s)

def execReelClear (p : Path) (s : State) : Out := .next (if mayWrite s p .o then reelClear s else s)

/-- A failure of the checks (R94, R101). -/
structure CheckFail where
  header : Bool := false
  code : Nat
  record : Nat := 0
  station : Nat := 0
  plane : Nat := 0
deriving DecidableEq, Repr

/-- Positions of a record in the order of R94: stations in increasing index, planes in increasing order. -/
def ports : List (Nat × Nat) := ((List.range 36).map (fun st => (List.range 6).map (fun p => (st, p)))).flatten

/-- Check 5 on the header (R90, R94). -/
def headerOk (s : State) (slot : Nat) : Bool :=
  let b := tabBase slot
  hdrFormat s slot == 1 && decide (9 ≤ hdrLog2 s slot ∧ hdrLog2 s slot ≤ 13 ∧ 1 ≤ hdrCount s slot ∧ hdrCount s slot ≤ 1024 ∧ hdrBytes s slot ≤ 1048576)
    && storeByte s (b + 5) == 0 && storeHalf s (b + 6) == 0 && storeHalf s (b + 10) == 0
    && decide (hdrBytes s slot = ((records s slot).map (fun r => 32 + 8 * popcount r.present 216)).sum)
    && (s.slu.store.all (fun x => !(decide ((b + 64) / 4 ≤ x.1 ∧ x.1 < (b + 0x1000) / 4)) || x.2 == 0))

/-- The raw entry keeps the format of R74, R75, R77, R48 (check 5). A DEST out of its range, and a nonzero MASK or DEST of a
kind that has none, fail this check too, which R94 does not name for them. Log entry 94 (DESIGN CHOICE). -/
def entryFormat (s : State) (slot : Nat) (r : Rec) (st p : Nat) : Bool :=
  let e := recEntry s r st p
  let target := ports.any (fun x => x.2 == p && (let f := recEntry s r x.1 p; f.sends && (targetsOf f).contains st))
  let stored := decide (r.present / 2 ^ (6 * st + p) % 2 = 1)
  !stored ||
    (e.v && decide (e.kind ≤ 5 ∧ e.flags < 16 ∧ e.lines ≤ lineCapacity (frameLen s slot) ∧ e.rep ≤ 254)
      && (decide (e.rep + 1 ≤ r.frames))
      && (if e.kind = 0 ∨ e.kind = 5 then decide (e.dest = 0 ∧ e.mask = 0) else true)
      && (if e.kind = 1 ∨ e.kind = 4 then decide (e.mask = 0 ∧ e.dest < 36) else true)
      && (if e.kind = 2 ∨ e.kind = 3 then decide (e.dest < 6) else true)
      && (target || decide (e.land = 0 ∧ e.flags % 4 = 0)))

/-- A record keeps its format (check 5). -/
def recFormat (r : Rec) : Bool :=
  decide (1 ≤ r.frames) && decide (r.entries = popcount r.present 216) && r.zero == 0

/-- The entries of a record that may light a port at some frame: by station and plane. -/
def lights (s : State) (r : Rec) (p : Nat) : List (Nat × Entry) :=
  (List.range 36).filterMap (fun st =>
    let e := recEntry s r st p
    if e.sends then some (st, e) else none)

/-- Row-stage outputs and column-stage outputs that an entry uses: (stage kind, stage, output) (R72, R73). -/
def outputsOf (st : Nat) (e : Entry) : List (Nat × Nat × Nat) :=
  let r := rowOf st
  (targetsOf e).foldl (fun acc t =>
    let a := [(0, r, colOf t), (1, colOf t, rowOf t)].filter (fun x => !acc.contains x)
    acc ++ a) []

/-- Check 1 for one port: its outputs are its own, and the switch-state record drives them from it (R72, R92). -/
def stageOk (s : State) (slot recIdx : Nat) (r : Rec) (st p : Nat) : Bool :=
  let e := recEntry s r st p
  if !e.sends then true
  else
    let mine := outputsOf st e
    let others := ((lights s r p).filter (fun x => x.1 != st)).map (fun x => (x.1, x.2))
    let clash := others.any (fun x => decide (min x.2.rep e.rep + 1 > 0) && (outputsOf x.1 x.2).any (fun o => mine.contains o))
    !clash && mine.all (fun o =>
      switchCode s slot recIdx p o.1 o.2.1 o.2.2 == (if o.1 = 0 then colOf st else rowOf st))

/-- Outputs that no entry uses carry 0xF (R92). -/
def unusedOk (s : State) (slot recIdx : Nat) (r : Rec) (p : Nat) : Bool :=
  let used := ((lights s r p).map (fun x => outputsOf x.1 x.2)).flatten
  (List.range 72).all (fun k =>
    let o := (k / 36, k / 6 % 6, k % 6)
    used.contains o || switchCode s slot recIdx p o.1 o.2.1 o.2.2 == 15)

/-- Check 2: a legal split, no dark target, never its own source (R73, R74). -/
def splitOk (s : State) (r : Rec) (st p : Nat) : Bool :=
  let e := recEntry s r st p
  if !e.sends then true
  else
    let ts := targetsOf e
    (if e.kind = 2 ∨ e.kind = 3 then decide (2 ≤ ts.length) else true) && !ts.contains st
      && ts.all (fun t => (recEntry s r t p).kind != 5)

/-- A context that the variant has and whose members are all present (R5, R7, R24). -/
def ctxNamable (s : State) (c : Nat) : Bool := decide (c < ctxCount s.part.variant) && (recOf s c).sites.all (sitePresent s.part)

/-- A feed entry is defined, fits its station and names only what is present (R7, R78, R79). -/
def feedOk (s : State) (slot st sel : Nat) : Bool :=
  let d := feedDef s slot st sel
  let k := kindOf st
  let rds := ringReaders s slot st sel d
  let ring := decide (1 ≤ d.ringLines ∧ d.ringLines ≤ 16384 ∧ d.ringBase + d.ringLines ≤ 16384 ∧ 1 ≤ d.readers ∧ d.readers ≤ 6) &&
    decide (rds.length = d.readers) && rds.all (fun x =>
      let y := feedDef s slot st x
      y.ringLines == d.ringLines && y.readers == d.readers && y.stream == d.stream)
  if d.kind = 1 then k.1 == .ss && sitePresent s.part k.2 && ring
  else if d.kind = 2 then k.1 == .ms && decide (1 ≤ d.stride)
  else if d.kind = 3 then k.1 == .ws && ctxNamable s d.context && (match ctxMillstone s d.context with | some w => w == k.2 | none => true)
  else if d.kind = 4 then k.1 == .xs && ring && decide (d.flow < flowCount s.part.variant)
  else if d.kind = 5 then ring
  else false

/-- A landing entry is defined, fits its station and stays in one bank of its owner (R7, R81, R82): the counter of a memory
write range or a millstone slot counts where an entry uses it. -/
def landOk (s : State) (slot st sel : Nat) (counts : Bool) : Bool :=
  let d := landDef s slot st sel
  let k := kindOf st
  let cb := bankAt (8 * d.counter)
  let owned (b : Nat) : Bool := bankOwner s b == (1, st)
  let inBank (first n : Nat) : Bool := decide (1 ≤ n ∧ n ≤ 65536 ∧ first / 65536 = (first + n - 1) / 65536) && owned (first / 65536)
    && decide (cb = first / 65536)
  if d.kind = 1 then k.1 == .ss && sitePresent s.part k.2 && inBank d.ringBase d.ringLines
  else if d.kind = 2 then k.1 == .ms && decide (1 ≤ d.stride) && (!counts || owned cb)
  else if d.kind = 3 then inBank d.millLine d.lines
  else if d.kind = 4 then k.1 == .ws && ctxNamable s d.context && (!counts || owned cb) &&
    (match ctxMillstone s d.context with | some w => w == k.2 | none => true)
  else if d.kind = 5 then k.1 == .xs && decide (d.flow < flowCount s.part.variant) && inBank d.ringBase d.ringLines
  else false

/-- Places where a record lands a context at a millstone, with the port (R162): context, millstone, port. -/
def ctxLands (s : State) (slot : Nat) (r : Rec) : List (Nat × Nat × Nat) :=
  ports.filterMap (fun x =>
    let l := landDef s slot x.1 (recEntry s r x.1 x.2).land
    if (lights s r x.2).any (fun y => (targetsOf y.2).contains x.1) && l.kind == 4 then some (l.context, (kindOf x.1).2, 6 * x.1 + x.2)
    else none)

/-- Every landing of the reel that names a context lies at one station (R162, check 3): the port at which one does not is the
one that comes after the first place, in the order of the search. -/
def ctxPlaceOk (s : State) (slot : Nat) (before : List (Nat × Nat × Nat)) (r : Rec) (st p : Nat) : Bool :=
  let here := ctxLands s slot r
  (here.filter (fun x => x.2.2 == 6 * st + p)).all (fun x =>
    (before ++ here.filter (fun y => decide (y.2.2 < x.2.2))).all (fun y => y.1 != x.1 || y.2.1 == x.2.1))

/-- Check 3 for one port (R7, R24, R82, R87, R94). Log entry 25 (DEDUCED). -/
def tablesOk (s : State) (slot : Nat) (r : Rec) (st p : Nat) : Bool :=
  let e := recEntry s r st p
  let isTarget := (lights s r p).any (fun x => (targetsOf x.2).contains st)
  let here := hasStation s.part.variant st && !spacerDark s st
  let txOk := if !e.sends then true
    else here && feedOk s slot st e.feed && (targetsOf e).all (fun t => hasStation s.part.variant t && !spacerDark s t)
      && (if e.kind = 4 then e.ctx && (landDef s slot e.dest (recEntry s r e.dest p).land).kind == 4 else true)
      && (if e.ctx then
            ((feedDef s slot st e.feed).kind == 3) ||
              (targetsOf e).any (fun t => (landDef s slot t (recEntry s r t p).land).kind == 4) else true)
  let rxOk := if isTarget then here && landOk s slot st e.land (decide (e.flags % 4 ≠ 0)) else true
  let stored := decide (r.present / 2 ^ (6 * st + p) % 2 = 1)
  txOk && rxOk && (!stored || hasStation s.part.variant st)

/-- The lines pushed from, and landed to, a site in one frame of a record (check 4). Log entry 25 (DEDUCED). -/
def siteLoad (s : State) (slot : Nat) (r : Rec) (j n : Nat) : Nat × Nat :=
  let st := ssOf n
  let out := ((List.range 6).map (fun p =>
    let e := actingEntry s r j st p
    if e.sends && (feedDef s slot st e.feed).kind == 1 then e.lines else 0)).sum
  let inn := ((List.range 6).map (fun p =>
    (((lights s r p).filter (fun x => decide (j ≤ x.2.rep) && (targetsOf x.2).contains st)).map (fun x => x.2.lines)).sum)).sum
  (out, inn)

/-- Check 4 for one record. Log entry 25 (DEDUCED). -/
def bandwidthOk (s : State) (slot : Nat) (r : Rec) (n : Nat) : Bool :=
  if !sitePresent s.part n then true
  else
    let len := frameLen s slot
    (List.range (min r.frames 256)).all (fun j =>
      let x := siteLoad s slot r j n
      decide (x.1 ≤ siteLines s n false len ∧ x.2 ≤ siteLines s n true len))

/-- Sites in the order of their stations (R94). -/
def sitesByStation : List Nat := (List.range 36).filterMap (fun st => match kindOf st with
  | (.ss, n) => some n
  | _ => none)

/-- The first failure of a record, in the order 5, 1, 2, 3, 4 (R94). An unused output that is not 0xF belongs to no entry: it
shows at station 0. Log entries 25 (DEDUCED), 94 (DESIGN CHOICE). -/
def recFail (s : State) (slot idx : Nat) (before : List (Nat × Nat × Nat)) (r : Rec) : Option CheckFail :=
  let find (code : Nat) (ok : Nat → Nat → Bool) : Option CheckFail :=
    (ports.find? (fun x => !ok x.1 x.2)).map (fun x => { code := code, record := idx, station := x.1, plane := x.2 })
  if !recFormat r then some { code := 5, record := idx }
  else (find 5 (entryFormat s slot r)).orElse fun _ =>
    (find 1 (fun st p => stageOk s slot idx r st p && (st != 0 || unusedOk s slot idx r p))).orElse fun _ =>
    (find 2 (splitOk s r)).orElse fun _ =>
    (find 3 (fun st p => tablesOk s slot r st p && ctxPlaceOk s slot before r st p)).orElse fun _ =>
    (sitesByStation.find? (fun n => !bandwidthOk s slot r n)).map
      (fun n => { code := 4, record := idx, station := ssOf n })

/-- The first failure of the records in frame order (R94). -/
def recsFail (s : State) (slot : Nat) : Nat → List (Nat × Nat × Nat) → List Rec → Option CheckFail
  | _, _, [] => none
  | k, before, r :: t => (recFail s slot k before r).orElse fun _ => recsFail s slot (k + 1) (before ++ ctxLands s slot r) t

/-- The first failure that the order of search meets (R94). Log entry 25 (DEDUCED). -/
def checkReel (s : State) (slot : Nat) : Option CheckFail :=
  if !headerOk s slot then some { header := true, code := 5 }
  else
    match sitesByStation.find? (fun n =>
        let f := hdrFeatures s slot n
        f != 0 && (!sitePresent s.part n || (f &&& ~~~ siteFeatures s n) != 0)) with
    | some n => some { header := true, code := 4, station := ssOf n }
    | none =>
      recsFail s slot 0 [] (records s slot)

/-- Frames k at which two reels' entries are compared (R98). -/
def framesOf (s : State) (slot : Nat) : Nat := passFrames s slot

/-- What an entry does in a frame, without the REPEAT that the record stores (R98). -/
def actsAs (s : State) (slot k st p : Nat) : Entry := { entryAt s slot k st p with rep := 0 }

/-- A station's entries, feed table or landing table differ between two slots (R98). -/
def stationDiffers (s : State) (a b st : Nat) : Bool :=
  let tables := (List.range 256).any (fun x =>
    (feedDef s a st x).raw != (feedDef s b st x).raw || (landDef s a st x).raw != (landDef s b st x).raw)
  let shape := frameLen s a != frameLen s b || framesOf s a != framesOf s b
  let uses (slot : Nat) : Bool := (records s slot).any (fun r => (List.range 6).any (fun p =>
    let e := recEntry s r st p
    e.sends || e.kind == 5))
  if tables then true
  else if shape then uses a || uses b
  else (List.range (framesOf s a)).any (fun k => (List.range 6).any (fun p => actsAs s a k st p != actsAs s b k st p))

/-- The affected stations of a swap (R98). -/
def affectedBy (s : State) (a b : Nat) : List Nat :=
  let diff := (List.range 36).filter (stationDiffers s a b)
  let hit (slot : Nat) : List Nat := ((records s slot).map (fun r => ((List.range 6).map (fun p =>
    ((lights s r p).filter (fun x => diff.contains x.1)).map (fun x => targetsOf x.2))).flatten.flatten)).flatten
  (List.range 36).filter (fun st => diff.contains st || (hit a).contains st || (hit b).contains st)

/-- The checks of the next slot complete (R93, R94, R98, R429). -/
def checkDone (s : State) : State :=
  if s.slu.next ≠ .checking then s
  else
    let slot := 1 - s.tc.activeSlot
    match checkReel s slot with
    | some f =>
      modTc (fun t => { t with lastRefused := true, swapArm := false })
        (modSlu (fun u => { u with
          next := .refused, ckHeader := f.header, ckCode := f.code, ckRecord := f.record, ckStation := f.station, ckPlane := f.plane }) s)
    | none =>
      let aff := affectedBy s s.tc.activeSlot slot
      let dg := digestOf s slot
      let s := modSlu (fun u => { u with
        next := .passed, ckHeader := false, ckCode := 0, ckRecord := 0, ckStation := 0, ckPlane := 0, affected := aff }) s
      let s := modTc (fun t => { t with lastRefused := false, checkTick := s.now }) s
      audit none 3 (BitVec.ofNat 32 (hdrReelId s slot)) dg (modRole (fun r => { r with digestNext := dg }) s)

def execReelCheckComplete (s : State) : Out := .next (checkDone s)

/-! ### Swaps -/

/-- SWAP_CANCEL (R53, R100). -/
def execSwapCancel (p : Path) (s : State) : Out :=
  .next (if mayWrite s p .o then
    (if s.slu.swap = .draining ∨ s.slu.swap = .waiting then withdraw s else s) else s)

/-- The feed selectors of a station with lines held (R100). -/
def feedsHolding (s : State) (st : Nat) : List Nat :=
  (List.range 256).filter (fun sel =>
    let d := feedDef s s.tc.activeSlot st sel
    d.kind != 0 && !(feedHeld s st sel d).isEmpty)

/-- The feed's entry is the same in both slots (R83). -/
def sameFeed (s : State) (st sel : Nat) : Bool := (feedDef s 0 st sel).raw == (feedDef s 1 st sel).raw
def sameLand (s : State) (st sel : Nat) : Bool := (landDef s 0 st sel).raw == (landDef s 1 st sel).raw

/-- Discard what an affected station's changed feeds still hold and report the count (R100 step 3): a line of a shared ring
counts once for each selector that has still to send it. Log entry 94 (DESIGN CHOICE). -/
def drainStation (st : Nat) (s : State) : State :=
  let sels := (feedsHolding s st).filter (fun sel => !sameFeed s st sel)
  let n := (sels.map (fun sel => (feedHeld s st sel (feedDef s s.tc.activeSlot st sel)).length)).sum
  let s := sels.foldl (fun s sel =>
    let d := feedDef s s.tc.activeSlot st sel
    (feedTake s.tc.activeSlot st sel d (feedHeld s st sel d).length s).2) s
  if n = 0 then s
  else raise .drainDiscard 0 st (2 ^ 24 * min n (2 ^ 24 - 1))
    (modSlu (fun u => { u with drainDiscard := u.drainDiscard + BitVec.ofNat 32 n }) s)

/-- The drain ends (R100 step 3). Log entry 4 (DESIGN CHOICE). -/
def drainEnd (s : State) : State :=
  if s.slu.swap ≠ .draining then s
  else if s.slu.affected.all (fun st => (feedsHolding s st).isEmpty) || decide (s.slu.drainEnd ≤ s.now) then
    modSlu (fun u => { u with swap := .waiting, drained := s.now }) (s.slu.affected.foldl (fun s st => drainStation st s) s)
  else s

def execDrainEnd (s : State) : Out := .next (drainEnd s)

/-- Feeds and landings whose entries changed start again (R83); a descriptor whose feed left the reel is lost (R186). -/
def carryOver (s : State) : State :=
  let keepF (k : Nat) : Bool := sameFeed s (k / 256) (k % 256)
  let keepL (k : Nat) : Bool := sameLand s (k / 256) (k % 256)
  let oldSlot := s.tc.activeSlot
  let kept : List Nat := (((List.range 36).map (fun st => (List.range 256).filterMap (fun sel =>
    let d := feedDef s oldSlot st sel
    if d.kind != 0 && sameFeed s st sel then some (ringKey st sel d) else none))).flatten).eraseDups
  let s := modGrp (fun g => { g with
    descs := g.descs.map (fun d => match d.sluice with
      | some (st, sel) => if d.st = .running ∧ sameFeed s st sel = false ∧ d.landedAt.isNone = true then { d with lost := true } else d
      | none => d) }) s
  modSlu (fun u => { u with
    feeds := u.feeds.filter (fun x => keepF x.1)
    lands := u.lands.filter (fun x => keepL x.1)
    rings := u.rings.filterMap (fun x =>
      if kept.contains x.1 then some x
      else if 49152 ≤ x.1 % 65536 then some (x.1, { start := x.2.start + x.2.lines.length, lines := [] })
      else none) }) s

/-- The slots exchange roles (R53, R93, R100). -/
def exchange (s : State) : State :=
  let s := carryOver s
  let new := 1 - s.tc.activeSlot
  let s := modTc (fun t => { t with activeSlot := new, swapArm := false, swapDeferred := false, kept := false, passCount := 0 }) s
  let s := modSlu (fun u => { u with next := .empty, swap := .none, reason := 0 }) s
  contChange (fun r => { r with digest := digestOf s new }) s

end Sys2Proof.Machine
end

