-- ==== Sys2Proof/Machine/Cap.lean ====
section
/-! DEFINITION. The capability words (R458, R459). -/

namespace Sys2Proof.Machine

open Sys2Proof

/-- A mask of the units up to n that satisfy a test. -/
def maskOf (n : Nat) (f : Nat → Bool) : Nat := ((List.range n).map (fun k => if f k then 2 ^ k else 0)).sum

/-- Pool sizes in GiB: addressable, and installed in the stations now in service (R122). -/
def poolInstalled (s : State) : Nat := ((memStations s.part.variant).filter (fun m => !memFenced s m)).length * s.part.stackGib

/-- A crew core of the variant is not fenced. -/
def crewUp (s : State) (c : Nat) : Bool := (fieldsOf s.part.variant).contains (c / 8) && !fenced s (uCore c)

/-- Ordered pairs that are down (R118, R382). -/
def downPairs (s : State) : Nat :=
  let sts := stations s.part.variant
  ((sts.map (fun a => sts.filter (fun b => a != b && (s.mrc.down.contains (pairKey a b) || pairFenced s a b)))).flatten).length

/-- Capability word k as in service now (R458). -/
def capWord (s : State) (k : Nat) : Word32 :=
  let v := s.part.variant
  BitVec.ofNat 32 (
    if k = 0 then maskOf 12 (siteUp s)
    else if k = 1 then maskOf 12 (fun m => hasMs v m && !memFenced s m)
    else if k = 2 then maskOf 8 (fun x => hasXs v x && !stationFenced s (xsOf x)) + 256 * ((List.range 48).filter (linkUp s)).length
    else if k = 3 then maskOf 4 (fun w => hasWs v w && !millFenced s w) + 16 * maskOf 16 (fun g => hasGrip v g && !gripFenced s g)
    else if k = 4 then maskOf 6 (fun p => !fenced s (uPlane p)) + 256 * ((List.range 32).filter (crewUp s)).length
    else if k = 5 then maskOf 32 (fun b => hasBank v b && !bankFenced s b)
    else if k = 6 then maskOf 16 (fun f => (fieldsOf v).contains (f / 4) && !(feedOf s f).lost && !fenced s (uFeed f))
    else if k = 7 then s.mem.addressable % 65536 + 65536 * poolInstalled s
    else if k = 8 then flowCount v + 8192 * ctxCount v
    else if k = 9 then 4 * ((List.range 32).filter (fun b => hasBank v b && !bankFenced s b)).length + 65536 * (downPairs s)
    else if 10 ≤ k ∧ k < 22 then
      (if siteUp s (k - 10) then sitePayload s (k - 10) false % 2048 + 2048 * (sitePayload s (k - 10) true % 2048) else 0)
    else 0)

/-- Capability word k as built (R458). -/
def builtWord (s : State) (k : Nat) : Word32 :=
  let v := s.part.variant
  let fields := (fieldsOf v).length
  BitVec.ofNat 32 (
    if k = 0 then maskOf 12 (hasSite v)
    else if k = 1 then maskOf 12 (hasMs v)
    else if k = 2 then maskOf 8 (hasXs v) + 256 * ((List.range 48).filter (hasLink v)).length
    else if k = 3 then maskOf 4 (hasWs v) + 16 * maskOf 16 (hasGrip v)
    else if k = 4 then 63 + 256 * (8 * fields)
    else if k = 5 then maskOf 32 (hasBank v)
    else if k = 6 then maskOf 16 (fun f => (fieldsOf v).contains (f / 4))
    else if k = 7 then (memStations v).length * s.part.stackGib * 65537
    else if k = 8 then flowCount v + 8192 * ctxCount v
    else if k = 9 then 32 * fields
    else if 10 ≤ k ∧ k < 22 then (if hasSite v (k - 10) then 1820 + 2048 * 1820 else 0)
    else 0)

/-- Rewrite the words that an event changed, and advance the generation by one if any changed (R459). -/
def capUpdate (s : State) : State :=
  let ws := (List.range 22).map (fun k => (k, capWord s k))
  let new : Tab Word32 := ws.foldl (fun t p => tset 0 t p.1 p.2) s.ident.cap
  if new = s.ident.cap then s
  else modIdent (fun i => { i with cap := new, capGen := i.capGen + 1 }) s

end Sys2Proof.Machine
end

