-- ==== Sys2Proof/Machine/PodLink.lean ====
section
/-! DEFINITION. Pod links: violations, the lane maps, link training, quarantine and a link's fall (R290 to R297, R312,
R313). -/

namespace Sys2Proof.Machine

open Sys2Proof

/-- A command of a link is handed to some of its lanes, `none` being whichever sends next; it takes no credit (R288, R289).
Log entry 52 (DESIGN CHOICE). -/
def linkCmd (l : Nat) (lanes : List (Option Nat)) (c : LinkOut) (s : State) : State :=
  emit (.podCmd l (linkOutVals c).1 (linkOutVals c).2)
    (modPodLink l (fun x => { x with cmds := x.cmds ++ lanes.map (fun w => (w, c)) }) s)

/-- Lanes of a 16-bit map. -/
def lanesIn (m : Word16) : List Nat := (List.range 16).filter (fun w => bit m w)
def laneBit (w : Nat) : Word16 := BitVec.ofNat 16 (2 ^ w)

/-- The link has lanes in flit mode. Log entry 1 (DESIGN CHOICE). -/
def linkLive (s : State) (l : Nat) : Bool :=
  decide (l < 48 ∧ 1 ≤ (podLink s l).st ∧ (podLink s l).st ≤ 4) && !s.flt.safe && !(lanesIn (podLink s l).map).isEmpty

/-- ADDRESS of a pod link's message (R375). -/
def linkAddr (s : State) (l lane cause : Nat) : Nat := lane + cause * 16 + (podLink s l).partnerNode.toNat * 256

/-- A partner protocol violation: counted for its link, and logged at most once per millisecond (R312).
Log entry 55 (DEDUCED). -/
def podViolation (l : Nat) (s : State) : State :=
  raiseRated .partnerProtocol l 1000000 3 l (linkAddr s l 0 0)
    (modPodLink l (fun x => { x with viol := sat32 x.viol 1, violAt := (s.now :: x.violAt).take 1001 }) s)

/-- An open request, or another end-to-end or hello command, of a flit that a dropped lane held goes again; a TIME is lost, and
LANE_MAP is on every other lane (R294, R295). -/
def cmdAgain (s : State) (y : Slot) : Option LinkOut :=
  if y.cls ≠ 0 then none
  else if y.op = 0x1B then some (.hello (slotHello y 0))
  else if y.op = 0x1D then some (.flowAck (slotFlowAck y 0))
  else if y.op = 0x1F then
    let r := slotRoute y
    (match txFlow s r.destNode r.job.toNat r.cls.toNat with
     | some f => if f.st = 0 ∧ f.next - BitVec.ofNat 32 f.slots.length = r.fseq then some (.route r) else none
     | none => none)
  else none

/-- The slots of flits that a lane has not had acknowledged are to be sent again, and the credits that their headers return
(R295). Log entry 94 (DESIGN CHOICE). -/
def laneMoved (l w : Nat) (s : State) : State :=
  let held := (podLane s l w).held
  let again := ((held.map (fun f => f.slots.filterMap id)).flatten).filterMap (cmdAgain s)
  let s := modPodLink l (fun x => { x with
    cmds := again.map (fun c => (none, c)) ++ x.cmds.filter (fun c => c.1 != some w)
    owe := held.foldl (fun t f => (List.range 7).foldl (fun t c => tupd 0 t c (· + f.cred.getD c 0)) t) x.owe }) s
  modPodLane l w (fun _ => {})
    (modPod (fun p => { p with
      tx := p.tx.map (fun f => { f with
        slots := f.slots.map (fun x => match x.place with
          | .inFlit k _ => if k = l * 16 + w then { x with place := .waiting } else x
          | _ => x) }) }) s)

/-- Flows whose station has no link left take the next station of their set, and send again from FACK (R297). -/
def moveFlows (s : State) : State :=
  s.pod.tx.foldl (fun s f =>
    if (xsLinks s f.xs).isEmpty || !(maskSet (routeOf s f.node.toNat).localXs).contains f.xs then
      match flowXsNo s f.node f.job f.cls with
      | some x => if x = f.xs then s
          else modTx f.node f.job f.cls (fun y => { y with xs := x, slots := y.slots.map (fun z => { z with place := .waiting }) }) s
      | none => s
    else s) s

/-- A link goes down (R290, R295): what its lanes held goes to other links. Log entry 57 (DEDUCED). -/
def linkDrop (l : Nat) (s : State) : State :=
  let s := (List.range 16).foldl (fun s w => laneMoved l w s) s
  let s := modPodLink l (fun x => { x with
    st := 0
    map := 0
    epoch := 0
    exch := none
    drops := []
    hello := false
    theirUsed := []
    ourUsed := []
    owe := []
    cmds := []
    time := {} }) s
  capUpdate (moveFlows s)

def linkDown (l : Nat) (s : State) : State :=
  let a := linkAddr s l 0 0
  raise .linkDown 3 l a (linkDrop l s)

/-- A LANE_MAP command. -/
def mapCmd (lanes : Word16) (epoch ack lane cause : Nat) (isAck : Bool) : LinkOut :=
  .laneMap { lanes := lanes, epoch := BitVec.ofNat 16 epoch, ackEpoch := BitVec.ofNat 16 ack, lane := BitVec.ofNat 4 lane
             cause := BitVec.ofNat 4 cause, ack := isAck }

/-- Send the LANE_MAP of the exchange that runs, in the next flit of every other lane of the map (R294). -/
def sendLaneMap (l : Nat) (e : LaneExch) (s : State) : State :=
  linkCmd l (((lanesIn ((podLink s l).map &&& e.lanes)).filter (fun w => w != e.lane)).map some) (mapCmd e.lanes e.epoch 0 e.lane e.cause false) s

/-- Begin an exchange for a lane that drops, or with cause 0 for one that rejoins (R294, R295). -/
def startExch (l w cause : Nat) (s : State) : State :=
  let x := podLink s l
  let lanes := if cause = 0 then x.map ||| laneBit w else x.map &&& ~~~ (laneBit w)
  let e : LaneExch := { epoch := x.epoch + 1, lanes := lanes, lane := w, cause := cause, sent := s.now }
  sendLaneMap l e (modPodLink l (fun y => { y with exch := some e }) s)

/-- What this side itself sees calls for a drop with a cause of R293: 3 corrected symbols, 4 uncorrectable flits, 5 NAKs. The events of
causes 1 and 2 come from outside. -/
def dropSeen (s : State) (l w cause : Nat) : Bool :=
  let x := podLane s l w
  if cause = 3 then decide (8192 < ((x.corr.filter (fun t => decide (s.now < t.1 + 1000000))).map (·.2)).sum)
  else if cause = 4 then decide (16 < (x.uncorr.filter (fun t => decide (s.now < t + 1000000))).length)
  else if cause = 5 then decide (8 ≤ x.naks)
  else decide (cause = 1 ∨ cause = 2)

/-- The side that detects a drop stops sending on the lane and starts the exchange, or joins the one that runs (R293, R294,
R295). Log entry 57 (DEDUCED). -/
def laneDrop (l w cause : Nat) (s : State) : State :=
  let x := podLink s l
  if !linkLive s l || !bit x.map w || decide (16 ≤ w) || x.drops.any (fun d => d.1 == w && d.2 != 0) then s
  else
    match x.exch with
    | none => startExch l w cause (laneMoved l w s)
    | some e =>
      if !bit e.lanes w then s
      else if e.cause ≠ 0 ∧ e.answered = false ∧ e.theirs.isNone = true then
        let e := { e with lanes := e.lanes &&& ~~~ (laneBit w), sent := s.now }
        sendLaneMap l e (modPodLink l (fun y => { y with exch := some e }) (laneMoved l w s))
      else modPodLink l (fun y => { y with drops := y.drops ++ [(w, cause)] }) (laneMoved l w s)

def execLaneDrop (link lane : Nat) (cause : Nat) (s : State) : Out :=
  .next (if dropSeen s link lane cause then laneDrop link lane cause s else s)

/-- A dropped lane that passed its test again rejoins through an exchange in which LANES gains its bit (R295). -/
def laneRejoin (l w : Nat) (s : State) : State :=
  let x := podLink s l
  if !linkLive s l || bit x.map w then s
  else if x.exch.isSome then modPodLink l (fun y => { y with drops := y.drops ++ [(w, 0)] }) s
  else startExch l w 0 s

/-- The lane takes no further flit: it has dropped at this side and the agreed map does not say so yet. -/
def laneStopped (x : PodLink) (w : Nat) : Bool :=
  x.drops.any (fun d => d.1 == w && d.2 != 0) || (match x.exch with
    | some e => !bit e.lanes w
    | none => false)

/-- The agreed map takes effect (R294, R295). Log entry 57 (DEDUCED). -/
def mapAgreed (l : Nat) (agreed : Word16) (epoch lane cause : Nat) (s : State) : State :=
  let old := (podLink s l).map
  let lost := lanesIn (old &&& ~~~ agreed)
  let gained := lanesIn (agreed &&& ~~~ old)
  let s := modPodLink l (fun x => { x with map := agreed, epoch := epoch, exch := none }) s
  let s := gained.foldl (fun s w => modPodLane l w (fun _ => {}) s) s
  let s := lost.foldl (fun s w =>
    raise .laneDrop 3 l (linkAddr s l w cause)
      (modPod (fun p => { p with laneDrops := sat32 p.laneDrops 1 })
        (modPodLink l (fun x => { x with lastLane := w, lastCause := cause }) (laneMoved l w s)))) s
  if (lanesIn agreed).length < 4 then linkDown l s
  else
    match (podLink s l).drops.filter (fun d => (d.2 == 0) != bit agreed d.1) with
    | [] => modPodLink l (fun x => { x with drops := [] }) s
    | d :: t => startExch l d.1 d.2 (modPodLink l (fun x => { x with drops := t }) s)

/-- Lanes that this side can offer: those of the map and those whose fence a retry ends, less the ones it has dropped. -/
def ownLanes (s : State) (l : Nat) : Word16 :=
  let x := podLink s l
  ((List.range 16).filter (fun w => (bit x.map w || !fenced s (uPodLane l w) || (match fenceOf s (uPodLane l w) with
    | some e => e.st == .retrying
    | none => false)) && !laneStopped x w)).foldl (fun a w => a ||| laneBit w) 0

/-- LANE_MAP is received (R294). Log entry 57 (DEDUCED). -/
def laneMap (l : Nat) (c : LaneMapCmd) (s : State) : State :=
  let x := podLink s l
  let reply (lanes : Word16) (s : State) : State :=
    linkCmd l [none] (mapCmd lanes c.epoch.toNat c.epoch.toNat c.lane.toNat c.cause.toNat true) s
  if !linkLive s l then s
  else if c.ack then
    match x.exch with
    | none => s
    | some e =>
      if c.ackEpoch.toNat = e.epoch then mapAgreed l (e.lanes &&& c.lanes) e.epoch e.lane e.cause s else s
  else if c.epoch.toNat < x.epoch then s
  else if c.epoch.toNat = x.epoch then
    if x.st = 1 then
      -- step 3 of training: the map is the AND of the two sides' lanes
      let m := x.map &&& c.lanes
      if (lanesIn m).length < 4 then linkDown l s else modPodLink l (fun y => { y with map := m }) s
    else reply x.map s
  else
    match x.exch with
    | some e =>
      if c.epoch.toNat = e.epoch then
        let agreed := e.lanes &&& c.lanes
        mapAgreed l agreed e.epoch e.lane e.cause (reply e.lanes s)
      else s
    | none =>
      let own := ownLanes s l
      mapAgreed l (own &&& c.lanes) c.epoch.toNat c.lane.toNat c.cause.toNat (reply own s)

def execLaneMap (link : Nat) (cmd : LaneMapCmd) (s : State) : Out := .next (laneMap link cmd s)

/-- No answer within 5 µs: LANE_MAP goes again (R294). -/
def laneMapRetry (l : Nat) (s : State) : State :=
  match (podLink s l).exch with
  | none => s
  | some e =>
    if !linkLive s l || decide (s.now < e.sent + 5000) then s
    else sendLaneMap l e (modPodLink l (fun x => { x with exch := some { e with sent := s.now } }) s)

def execLaneMapRetry (link : Nat) (s : State) : Out := .next (laneMapRetry link s)

/-! ### Training -/

/-- A link is being retried, alone or by its station (R383). -/
def linkRetrying (s : State) (l : Nat) : Bool :=
  match (fenceOf s (uLink l)).orElse fun _ => fenceOf s (uStation (xsOf (l / 6))) with
  | some e => e.st == .retrying
  | none => false

/-- Steps 1 to 4 of training (R290): LANE_MAP goes out on the lanes that passed, at EPOCH 1, whose AND with the partner's is the map,
and LINK_HELLO; the link is up once the partner's has come. -/
def linkTraining (l : Nat) (lanes : Word16) (s : State) : State :=
  let x := podLink s l
  let fit := (!linkFenced s l && decide (x.st ≤ 1)) || linkRetrying s l
  if s.flt.safe || s.boot.dark || !hasLink s.part.variant l || decide (s.boot.phase < 10) || !fit then s
  else if (lanesIn lanes).length < 4 then linkDown l s
  else
    let s := modPodLink l (fun y => { y with
      st := 1
      map := lanes
      epoch := 1
      exch := none
      drops := []
      hello := false
      theirUsed := []
      ourUsed := []
      owe := []
      cmds := []
      laneTurn := 0
      lanes := []
      time := {} }) s
    linkCmd l [none] (.hello { node := s.ident.node, isSwitch := false, xs := BitVec.ofNat 3 (l / 6), link := BitVec.ofNat 6 l, rev := 0x10 })
      (linkCmd l ((lanesIn lanes).map some) (mapCmd lanes 1 0 0 0 false) s)

def execLinkTraining (link : Nat) (lanes : Word16) (s : State) : Out := .next (linkTraining link lanes s)

/-- A partner identifies itself: a switch, a module of stage 1, or a miswired link (R291). -/
def linkHello (l : Nat) (c : LinkHelloCmd) (s : State) : State :=
  if !linkLive s l then s
  else
    let s := modPodLink l (fun x => { x with
      partnerNode := c.node
      partnerSwitch := c.isSwitch
      partnerXs := c.xs.toNat
      partnerLink := c.link.toNat
      hello := true }) s
    let bad := !c.isSwitch && (nodeKind s c.node != 1 || c.node == s.ident.node)
    if bad then
      raise .linkMiswired 3 l (linkAddr s l 0 0) (capUpdate (moveFlows (modPodLink l (fun x => { x with st := 4 }) s)))
    else if (podLink s l).st = 3 then s
    else capUpdate (moveFlows (modPodLink l (fun x => { x with st := 2 }) s))

def execLinkHello (link : Nat) (cmd : LinkHelloCmd) (s : State) : Out := .next (linkHello link cmd s)

/-! ### Quarantine -/

/-- Each millisecond: a link with more than 1,000 violations in the last 10⁹ ticks is quarantined (R313). -/
def quarantineEval (s : State) : State :=
  if s.flt.safe then s
  else (List.range 48).foldl (fun s l =>
    let x := podLink s l
    let n := (x.violAt.filter (fun t => decide (s.now < t + 1000000000))).length
    if x.st = 2 ∧ 1000 < n then
      standBegin .linkQuarantine 3 l (linkAddr s l 0 0) (capUpdate (moveFlows (modPodLink l (fun y => { y with st := 3 }) s)))
    else s) s

def execQuarantineEval (s : State) : Out := .next (quarantineEval s)

/-- A quarantine ends; the violations that brought it no longer count. Log entry 58 (DEDUCED). -/
def quarantineEnd (l : Nat) (s : State) : State :=
  if (podLink s l).st ≠ 3 then s
  else standEnd .linkQuarantine 3 l
    (capUpdate (moveFlows (modPodLink l (fun x => { x with st := 2, violAt := [] }) s)))

/-- 10 s without a violation (R313). -/
def quarantineTimeout (l : Nat) (s : State) : State :=
  let quiet := match (podLink s l).violAt with
    | [] => true
    | t :: _ => decide (t + 10000000000 ≤ s.now)
  if s.flt.safe || !quiet then s else quarantineEnd l s

def execQuarantineTimeout (link : Nat) (s : State) : Out := .next (quarantineTimeout link s)

/-- POD_QUAR_CLEAR ends the quarantine of the link that POD_LINK_SEL names (R313, R314). -/
def execPodQuarClear (p : Path) (s : State) : Out :=
  .next (iWrite p 0x0C0018 1 (quarantineEnd ((tget 0 s.csp.sel 0x0C0004).toNat % 64)) s)

end Sys2Proof.Machine
end

