-- ==== Sys2Proof/Machine/PodFlow.lean ====
section
/-! DEFINITION. Flow contexts, windows and forwarded messages (R296 to R305). -/

namespace Sys2Proof.Machine

open Sys2Proof

/-- The link that carries a station's end-to-end commands. -/
def xsLink (s : State) (x : Nat) : Option Nat := (xsLinks s x).head?

/-- Contexts in use. -/
def ctxsUsed (s : State) : List Nat := s.pod.tx.map (·.ctx) ++ s.pod.rx.map (·.ctx)

/-- Slots of an ingress pool (R299). -/
def poolCap (cls : Nat) : Nat :=
  if cls = 2 ∨ cls = 3 ∨ cls = 4 ∨ cls = 5 then 32768 else if cls = 0 ∨ cls = 1 then 1024 else if cls = 6 then 256 else 0

/-- What a pool still has to grant, less the flow itself. -/
def poolLeft (s : State) (x cls ctx : Nat) : Nat :=
  poolCap cls - (((s.pod.rx.filter (fun f => f.xs == x && f.cls == cls && f.ctx != ctx)).map (·.window)).sum)

def rxFlow (s : State) (node : Word16) (job cls : Nat) : Option RxFlow :=
  s.pod.rx.find? (fun f => f.node == node && f.job == job && f.cls == cls)

/-- Send FLOW_ACK of a receiving flow (R298). -/
def sendFlowAck (f : RxFlow) (window : Nat) (s : State) : State :=
  match xsLink s f.xs with
  | none => s
  | some l =>
    modRx f.ctx (fun x => { x with dirty := false, lastAck := s.now })
      (linkCmd l [none] (.flowAck { destNode := f.node, srcNode := s.ident.node, destXs := BitVec.ofNat 3 f.srcXs, srcXs := BitVec.ofNat 3 f.xs
                                    job := BitVec.ofNat 8 f.job, cls := BitVec.ofNat 3 f.cls, fack := f.fack
                                    window := BitVec.ofNat 16 window }) s)

/-- The window that FLOW_ACK shows: of a flow without credits, the slots in hand (R100, R298). -/
def shownWindow (f : RxFlow) : Nat := if f.stopped then f.seen.length else f.window

/-- An open request (R296): a ROUTE that no slot follows, with the FSEQ at which the flow will send. -/
def openRequest (f : TxFlow) (s : State) : State :=
  match xsLink s f.xs with
  | none => s
  | some l =>
    modTx f.node f.job f.cls (fun x => { x with openAt := some s.now, st := 0 })
      (linkCmd l [none] (.route { destNode := f.node, srcNode := s.ident.node, destXs := BitVec.ofNat 3 f.remoteXs, srcXs := BitVec.ofNat 3 f.xs
                                  job := BitVec.ofNat 8 f.job, cls := BitVec.ofNat 3 f.cls, fseq := f.next }) s)

/-! ### Contexts -/

/-- The least recently used idle context (R302): its number, and whether it receives. One that takes a forwarded message is not
idle. -/
def idleCtx (s : State) : Option (Nat × Bool) :=
  let busy (f : TxFlow) : Bool := f.cls == 4 && s.mrc.fwdIn.any (fun r => r.dst == xsOf f.xs && r.node == f.node && r.job == f.job)
  let txs := (s.pod.tx.filter (fun f => f.slots.isEmpty && !f.pinned && !busy f)).map (fun f => (f.ctx, f.lastUse, false))
  let rxs := (s.pod.rx.filter (fun f => f.seen.isEmpty && f.waiting.isEmpty)).map (fun f => (f.ctx, f.lastUse, true))
  ((txs ++ rxs).foldl (fun (a : Option (Nat × Nat × Bool)) c => match a with
    | none => some c
    | some b => if c.2.1 < b.2.1 then some c else some b) none).map (fun c => (c.1, c.2.2))

/-- Close an idle context (R302): a receiving one tells its sender with WINDOW 0. -/
def evict (c : Nat × Bool) (s : State) : State :=
  let s := if c.2 then
      (match s.pod.rx.find? (fun f => f.ctx == c.1) with
       | some f => sendFlowAck f 0 s
       | none => s)
    else s
  modPod (fun p => { p with
    tx := p.tx.filter (fun f => f.ctx != c.1)
    rx := p.rx.filter (fun f => f.ctx != c.1)
    evict := sat32 p.evict 1 }) s

/-- A context number for a new flow: the lowest free one, or that of an evicted idle context; none while all are busy. -/
def takeCtx (s : State) : Option (Nat × State) :=
  let used := ctxsUsed s
  match (List.range (flowCount s.part.variant)).find? (fun k => !used.contains k) with
  | some k => some (k, s)
  | none => (idleCtx s).map (fun c => (c.1, evict c s))

/-- Messages that wait at an external station enter their flows as these take them. -/
def drainXs (st cls : Nat) (s : State) : State :=
  (List.range 36).foldl (fun s src =>
    drainRx src st cls (tget [] s.mrc.rx (pcKey src st cls)).length s) s

/-- Slots that wait for a context of a flow (R302). -/
def waitsFor (node : Word16) (job cls : Nat) (w : PodWait) : Bool := w.cls == cls && w.node == node && w.job == job

/-- A message for a flow that has no context waits at an external station. -/
def flowWanted (s : State) (x : Nat) (node : Word16) (job cls : Nat) : Bool :=
  s.pod.waiting.any (fun w => waitsFor node job cls w && w.st == xsOf x) ||
    (List.range 36).any (fun src => (tget [] s.mrc.rx (pcKey src (xsOf x) cls)).any (fun m => xsNode s m == node && m.job == job))

/-- Slots that wait for a context join the flow, a forwarded message while fewer than 16 are in flight (R304). -/
def joinWaiting (node : Word16) (job cls : Nat) (s : State) : State :=
  (s.pod.waiting.filter (waitsFor node job cls)).foldl (fun s w =>
    match txFlow s node job cls with
    | none => s
    | some f =>
      let xs := w.slots
      let take (s : State) : State := modPod (fun p => { p with waiting := p.waiting.erase w }) s
      match xs with
      | [] => take s
      | h :: t =>
        if h.cls = 4 then
          if (fwdMsgs s f).length < 16 then
            let m := slotFwd h (t.map (·.data))
            flowPut f (fenceFirst h.fence (fwdSlots { m with msg := nextMsg s f })) (take s)
          else s
        else flowPut f xs (take s)) s

/-- FLOW_OPEN (R296, R302): a sending context is allocated, sends its open request, and takes what waits for it.
Log entry 53 (DEDUCED). -/
def flowOpen (x : Nat) (node : Word16) (job cls : Nat) (s : State) : State :=
  if s.flt.safe || !hasXs s.part.variant x || nodeKind s node != 1 || (txFlow s node job cls).isSome ||
      decide (7 ≤ cls ∨ 256 ≤ job) || !flowWanted s x node job cls || (xsLinks s x).isEmpty then s
  else
    match takeCtx s with
    | none => s
    | some (c, s) =>
      let pinned := match s.pair.cfg with
        | some p => p.audience.contains node.toNat
        | none => false
      let f : TxFlow := { ctx := c, node := node, job := job, cls := cls, xs := x, remoteXs := flowRemote s node job cls
                          lastUse := s.now, pinned := pinned }
      drainXs (xsOf x) cls (joinWaiting node job cls (openRequest f (modPod (fun p => { p with tx := p.tx ++ [f] }) s)))

def execFlowOpen (xs node job cls : Nat) (s : State) : Out := .next (flowOpen xs (BitVec.ofNat 16 node) job cls s)

/-- A receiving context opens at the FSEQ of an open request (R296), or at the first run of a flow: a window of 8 slots
(R299). Log entry 53 (DEDUCED). -/
def rxOpen (x : Nat) (r : RouteCmd) (s : State) : Option State :=
  match takeCtx s with
  | none => none
  | some (c, s) =>
    let f : RxFlow := { ctx := c, node := r.srcNode, job := r.job.toNat, cls := r.cls.toNat, xs := x, srcXs := r.srcXs.toNat
                        fack := r.fseq, window := min 8 (poolLeft s x r.cls.toNat c), dirty := true, lastAck := s.now, lastUse := s.now }
    some (sendFlowAck f f.window (modPod (fun p => { p with rx := p.rx ++ [f] }) s))

/-- A run that R312 discards whole: its ROUTE names another destination, or a source that may not send here. -/
def routeBad (s : State) (l : Nat) (r : RouteCmd) : Bool :=
  r.destNode != s.ident.node || nodeKind s r.srcNode != 1 ||
    (!(podLink s l).partnerSwitch && r.srcNode != (podLink s l).partnerNode)

/-- ROUTE (R289, R296, R312): it applies to the slots that follow on its lane. One that no slot follows opens its flow at its
FSEQ. Log entry 53 (DEDUCED). -/
def route (l w : Nat) (r : RouteCmd) (opens : Bool) (s : State) : State :=
  let x := podLink s l
  if !linkLive s l || decide (16 ≤ w) || !bit x.map w || x.st == 4 then s
  else if r.cls.toNat = 7 then podViolation l s
  else if routeBad s l r then
    podViolation l (modPodLane l w (fun y => { y with run := some r, runSeq := r.fseq, runBad := true }) s)
  else
    let set (bad : Bool) (s : State) : State := modPodLane l w (fun y => { y with run := some r, runSeq := r.fseq, runBad := bad }) s
    match rxFlow s r.srcNode r.job.toNat r.cls.toNat with
    | none => (match rxOpen (l / 6) r s with
        | some t => set false t
        | none => set true s)
    | some f =>
      if opens && f.seen.isEmpty && f.waiting.isEmpty then
        let f' : RxFlow := { f with fack := r.fseq, delivered := [], srcXs := r.srcXs.toNat, xs := l / 6 }
        set false (sendFlowAck f' (shownWindow f') (modRx f.ctx (fun _ => f') s))
      else set false s

def execRoute (link lane : Nat) (r : RouteCmd) (opens : Bool) (s : State) : Out := .next (route link lane r opens s)

/-- FLOW_ACK (R298, R302): FACK passes what the receiver has delivered, and the window is the receiver's. WINDOW 0 with
nothing outstanding closes the receiver's context. Log entry 53 (DEDUCED). -/
def flowAck (l : Nat) (a : FlowAckCmd) (s : State) : State :=
  if !linkLive s l || (podLink s l).st == 4 then s
  else
    match (if a.destNode == s.ident.node then txFlow s a.srcNode a.job.toNat a.cls.toNat else none) with
    | none => podViolation l s
    | some f =>
      let ahead := decide ((a.fack - f.fack).toNat < 2 ^ 31)
      let fack := if ahead then a.fack else f.fack
      let rest := f.slots.filter (fun x => decide ((x.fseq - fack).toNat < 2 ^ 31))
      let closed := decide (a.window.toNat = 0) && rest.all (fun x => x.place == .waiting)
      let s := modTx f.node f.job f.cls (fun x => { x with
        fack := fack
        window := a.window.toNat
        slots := rest
        st := if closed then 2 else 1
        rtt := match f.openAt with
          | some t => s.now - t
          | none => x.rtt
        openAt := none
        lastUse := s.now }) s
      let s := if closed && !rest.isEmpty then
          (match txFlow s f.node f.job f.cls with
           | some g => openRequest { g with next := g.next - BitVec.ofNat 32 rest.length } s
           | none => s)
        else s
      drainXs (xsOf f.xs) f.cls (joinWaiting f.node f.job f.cls s)

/-- Flows that wait for a context take one that has become idle (R302). -/
def openWaiting (s : State) : State :=
  s.pod.waiting.foldl (fun s w =>
    match (kindOf w.st) with
    | (.xs, x) => if (txFlow s w.node w.job w.cls).isNone then flowOpen x w.node w.job w.cls s else s
    | _ => s) s

def execFlowAck (link : Nat) (fa : FlowAckCmd) (s : State) : Out := .next (openWaiting (flowAck link fa s))

/-- The window that a receiver grants next (R299): doubled while the backlog fills half of it, up to 16,384 slots and what
the pool holds. Log entry 53 (DEDUCED). -/
def nextWindow (s : State) (f : RxFlow) : Nat :=
  let want := if f.window ≤ 2 * f.seen.length then min 16384 (2 * f.window) else f.window
  min (max 8 want) (poolLeft s f.xs f.cls f.ctx)

/-- A feed of an affected external station takes lines of a flow while a drain stops admission (R100). -/
def flowStopped (s : State) (f : RxFlow) : Bool :=
  admissionStopped s (xsOf f.xs) &&
    (List.range 256).any (fun k =>
      let d := feedDef s s.tc.activeSlot (xsOf f.xs) k
      d.kind == 4 && d.flow == f.ctx)

/-- FLOW_ACK at least once per microsecond while FACK or WINDOW has changed, at once where the window reaches zero (R298). -/
def flowAckTimer (c : Nat) (s : State) : State :=
  match s.pod.rx.find? (fun f => f.ctx == c) with
  | none => s
  | some f =>
    let stop := flowStopped s f
    let win := if stop then f.window else nextWindow s f
    if s.flt.safe || !(f.dirty || win != f.window || stop != f.stopped) || (decide (s.now < f.lastAck + 1000) && decide (shownWindow { f with window := win, stopped := stop } ≠ 0)) then s
    else
      let g : RxFlow := { f with window := win, stopped := stop }
      sendFlowAck f (shownWindow g) (modRx c (fun _ => g) s)

/-- A drain begins: the ingress flows of the affected stations lose their credits at once (R100). A window once granted still
bounds the slots on their way. Log entry 94 (DESIGN CHOICE). -/
def stopFlows (s : State) : State :=
  s.pod.rx.foldl (fun s f =>
    if flowStopped s f && !f.stopped then
      let g : RxFlow := { f with stopped := true }
      sendFlowAck f (shownWindow g) (modRx f.ctx (fun _ => g) s)
    else s) s

def execFlowAckTimer (flow : Nat) (s : State) : Out := .next (flowAckTimer flow s)

/-! ### Forwarded messages -/

/-- A hop to a node is up (R306). -/
def hopUp (s : State) (n : Nat) : Bool :=
  let own := s.ident.node.toNat
  let a := (routeOf s n).level
  let b := (routeOf s own).level
  decide (b < a) || (decide (a = b) && decide (own < n))

/-- A site takes forwarded messages (R305). -/
def siteTakesFwd (s : State) (n : Nat) : Bool := siteUp s n && bit (siteFeatures s n) 8

def fwdDiscard (s : State) : State := modPod (fun p => { p with fwdDiscard := sat32 p.fwdDiscard 1 }) s

/-- Send a message toward a hop's FWD flow from a station: on the flow that its external station holds, over the millrace
where that is another station. Log entry 61 (DEDUCED). -/
def fwdSend (st : Nat) (hop job : Nat) (fence : Bool) (m : FwdMsg) (s : State) : State :=
  let node := BitVec.ofNat 16 hop
  let here : Option Nat := match kindOf st with
    | (.xs, x) => if bit (routeOf s hop).localXs x && !(xsLinks s x).isEmpty && (txFlow s node job 4).isNone then some x else none
    | _ => none
  match here.orElse fun _ => flowXsNo s node job 4 with
  | none => podWait st node job 4 (fenceFirst fence (fwdSlots m)) s
  | some x =>
    if xsOf x = st then
      joinWaiting node job 4 (podWait st node job 4 (fenceFirst fence (fwdSlots m)) s)
    else sendFwd st (xsOf x) job node fence m s

/-- Handle a message by the route entry of its destination (R305). -/
def fwdRoute (st job : Nat) (fence : Bool) (m : FwdMsg) (s : State) : State :=
  let e := routeOf s m.destNode.toNat
  if e.kind = 3 then
    if m.site < 12 ∧ siteTakesFwd s m.site = true then
      sendFwd st (ssOf m.site) job 0 fence m s
    else fwdDiscard s
  else if e.kind = 1 ∨ e.kind = 2 then
    let hop := if e.kind = 1 then m.destNode.toNat else e.nextHop.toNat
    let up := hopUp s hop
    if 8 < m.hops + 1 ∨ (up = true ∧ m.down = true) then raise .fwdRouteError 0 st 0 (fwdDiscard s)
    else fwdSend st hop job fence { m with hops := m.hops + 1, down := m.down || (decide (e.kind = 2) && !up) } s
  else fwdDiscard s

/-- FWD_MESSAGE: a whole forwarded message at the external station that received it. -/
def execFwdMessage (xs job : Nat) (m : FwdMsg) (s : State) : Out :=
  .next (if s.flt.safe || !hasXs s.part.variant xs || decide (m.lines.isEmpty = true ∨ 256 < m.lines.length) then s
    else fwdRoute (xsOf xs) job false m s)

end Sys2Proof.Machine
end

