-- ==== Sys2Proof/Machine/Continuity.lean ====
section
/-! DEFINITION. Continuity messages and the state of the sweep partners (R433 to R435). -/

namespace Sys2Proof.Machine

open Sys2Proof

def partnerAt (s : State) (i : Nat) : Option ContPartner := tget none s.role.partners i
def modPartner (i : Nat) (f : ContPartner → ContPartner) (s : State) : State :=
  modRole (fun r => { r with partners := tupd none r.partners i (fun o => o.map f) }) s

/-- One CONTINUITY message goes to each partner on its MGT flow (R433). Log entry 58 (DEDUCED). -/
def contSend (s : State) : State :=
  let x := continuitySlot s.ident.node s.role.sweep (selfMatched s) s.role.digest
  let s := s.role.partners.foldl (fun s p => match p.2 with
    | none => s
    | some c => (match flowXs s c.node 0 x.cls.toNat with
        | some st => podSend st c.node 0 x.cls.toNat [x] s
        | none => s)) s
  modRole (fun r => { r with sweep := (r.sweep + 1) % 65536 }) s

/-- Sweeps due so far: the timecode less the node's offset, in whole seconds (R433, R46). -/
def sweepsDue (s : State) : Nat :=
  let off := s.ident.node.toNat % 1000 * 1000
  if s.tc.timecode.toNat < off then 0 else (s.tc.timecode.toNat - off) / 1000000000

def execContinuitySweep (s : State) : Out :=
  .next (if !s.boot.ready || s.flt.safe || s.boot.dark || decide (sweepsDue s ≤ s.role.contDone) then s
    else contSend (modRole (fun r => { r with contDone := sweepsDue s }) s))

/-- A partner's message (R434): two in a row that carry neither expected value, or SELF_MATCH 0, make it mismatched; two that
do neither make it matched again. Log entry 82 (DEDUCED). -/
def contMessage (node : Word16) (digest : Word64) (match_ : Bool) (s : State) : State :=
  match s.role.partners.find? (fun p => (p.2.map (fun c => c.node == node)).getD false) with
  | none => s
  | some (i, some c) =>
    let bad := !match_ || !(digest == s.role.expect || digest == s.role.expectAlt)
    let b := if bad then min 2 (c.bad + 1) else 0
    let g := if bad then 0 else min 2 (c.good + 1)
    let st := if c.st = 2 then (if g = 2 then 1 else 2) else if b = 2 then 2 else 1
    let t := modPartner i (fun c => { c with bad := b, good := g, st := st, last := s.now }) s
    if st = 2 ∧ c.st ≠ 2 then contMismatch t else t
  | some (_, none) => s

def execContinuity (node : Word16) (digest : Word64) (selfMatch : Bool) (s : State) : Out :=
  .next (if !s.boot.ready || s.flt.safe || s.boot.dark then s else contMessage node digest selfMatch s)

/-- Nothing has come from a partner for 3 s: it is unknown (R434). -/
def execContinuityPartnerSilence (i : Nat) (s : State) : Out :=
  .next (match partnerAt s i with
    | none => s
    | some c => if c.st = 0 ∨ s.flt.safe = true ∨ s.now < c.last + 3000000000 then s
        else modPartner i (fun c => { c with st := 0, bad := 0, good := 0 }) s)

end Sys2Proof.Machine
end

