-- ==== Sys2Proof/Machine/FaultBase.lean ====
section
/-! DEFINITION. Entries of the fence map and recovery counters (R381, R383, R384, R402). -/

namespace Sys2Proof.Machine

open Sys2Proof

/-- The reserved entry of a unit that no station, site or memory station contains (R381). -/
def reservedEntry (u : UnitId) : Option Nat :=
  if u.type = 6 ∧ u.index < 6 then some (512 + u.index)
  else if u.type = 14 ∧ u.index < 16 then some (518 + u.index)
  else if u.type = 13 ∧ u.index < 32 then some (534 + u.index)
  else if u.type = 12 ∧ u.index < 16 then some (566 + u.index)
  else if u.type = 15 ∧ u.index % 4 = 2 ∧ u.index / 4 < 32 then some (582 + u.index / 4)
  else none

/-- The sensors of a station (R340) lie in the focus unit's station, four to a station. -/
def sensorStation (k : Nat) : Nat := k / 4

/-- The station, site or memory station that contains a unit (R381, R382). -/
def containerOf (u : UnitId) : Option UnitId :=
  let i := u.index
  if u.type = 0 ∨ u.type = 1 then some (uSite (i % 16))
  else if u.type = 2 then some (uStation (ssOf (i % 16)))
  else if u.type = 3 ∨ u.type = 4 ∨ u.type = 5 then some (uStation (i % 64))
  else if u.type = 8 then some (uStation (msOf (i % 16)))
  else if u.type = 9 ∨ u.type = 10 then some (uStation (xsOf (i % 64 / 6)))
  else if u.type = 11 then some (uStation (wsOf (i % 4)))
  else if u.type = 15 ∧ i % 4 = 0 then some (uStation (i / 4 / 1024))
  else if u.type = 15 ∧ i % 4 = 1 then some (uStation (sensorStation (i / 4)))
  else none

/-- The key of the entry that holds a unit. -/
def entryKey (s : State) (u : UnitId) : Option Nat :=
  (s.flt.map.find? (fun p => match p.2 with
    | some e => e.unit == u
    | none => false)).map (·.1)

/-- The lowest free entry of 0 to 511. -/
def freeEntry (s : State) : Option Nat := (List.range 512).find? (fun k => (tget none s.flt.map k).isNone)

def setEntry (k : Nat) (e : Option FenceEntry) (s : State) : State := modFlt (fun f => { f with map := tset none f.map k e }) s

/-- Change the entry of a unit. -/
def modEntry (u : UnitId) (f : FenceEntry → FenceEntry) (s : State) : State :=
  match entryKey s u with
  | none => s
  | some k => (match tget none s.flt.map k with
      | some e => setEntry k (some (f e)) s
      | none => s)

/-- Retries of a unit in the last 24 h (R383). -/
def day : Nat := 86400000000000
def recoveryCount (s : State) (u : UnitId) : Nat :=
  ((tget [] s.flt.recoveries (unitWord u).toNat).filter (fun t => decide (s.now < t + day))).length
/-- A retry of a unit starts and is counted (R383). Log entry 74 (DEDUCED). -/
def noteRetry (u : UnitId) (s : State) : State :=
  modFlt (fun f => { f with
    recoveries := tupd [] f.recoveries (unitWord u).toNat (fun ts => s.now :: ts.filter (fun t => decide (s.now < t + day))) }) s

/-- Message of the collector that names a unit (R375). -/
def unitMsg (k : FaultKind) (u : UnitId) (s : State) : State := raise k 10 3 (unitWord u).toNat s

/-- The fence of a unit ends (R383). -/
def liftFence (u : UnitId) (s : State) : State :=
  match entryKey s u with
  | none => s
  | some k => unitMsg .unitRestored u (setEntry k none s)

/-- Where a unit's fence is entered: its reserved entry, a free one, or, with all 512 in use, that of a unit inside the unit
that contains it, for that larger unit (R381). Log entry 73 (DEDUCED). -/
def entryFor (s : State) (u : UnitId) : Option (Nat × UnitId) :=
  match reservedEntry u with
  | some k => some (k, u)
  | none =>
    match freeEntry s with
    | some k => some (k, u)
    | none =>
      match containerOf u with
      | none => none
      | some c =>
        if fenced s c then none
        else (s.flt.map.find? (fun p => match p.2 with
          | some e => containerOf e.unit == some c
          | none => false)).map (fun p => (p.1, c))

/-- The stations and the site that contain a unit (R389). -/
def containersOf (u : UnitId) : List UnitId :=
  if u.type = 0 ∨ u.type = 1 then [uSite (u.index % 16), uStation (ssOf (u.index % 16))]
  else if u.type = 4 then [uStation (u.index % 64), uStation (u.index / 64)]
  else (containerOf u).toList

/-- A unit lies inside a fenced station or site (R389). Log entry 73 (DEDUCED). -/
def insideFenced (s : State) (u : UnitId) : Bool := (containersOf u).any (fenced s)

/-- Enter a unit in the fence map (R381, R384, R389): one that is in it begins its quiet period again, and one inside a fenced
station or site is not entered. The unit that is now newly fenced, and whether it is held. Log entry 73 (DEDUCED). -/
def enterFence (u : UnitId) (kind : Byte) (s : State) : Option (UnitId × Bool) × State :=
  if fenced s u then (none, modEntry u (fun e => if e.st = .held then e else { e with quietFrom := s.now, atOnce := false }) s)
  else if insideFenced s u then (none, s)
  else
    match entryFor s u with
    | none => (none, s)
    | some (k, v) =>
      let held := decide (6 ≤ recoveryCount s v)
      (some (v, held),
        setEntry k (some { unit := v, st := if held then .held else .fenced, kind := kind, quietFrom := s.now }) s)

end Sys2Proof.Machine
end

