-- ==== Sys2Proof/Machine/FlashBytes.lean ====
section
/-! DEFINITION. What the boot flash reads as: the boot header, the warm-trim copies, and what was programmed (R337, R404,
R440). -/

namespace Sys2Proof.Machine

open Sys2Proof

/-! ### The boot header (R440) -/

def slotOf (s : State) (n : Nat) : FwSlot := tget {} s.boot.slots n
def modSlot (n : Nat) (f : FwSlot → FwSlot) (s : State) : State := modBoot (fun b => { b with slots := tupd {} b.slots n f }) s

/-- ATTEMPTS as cleared bits: 0xFF none, 0xFE one, 0xFC two, 0xF8 three. -/
def attemptsByte (n : Nat) : Byte := 0xFF#8 <<< n

/-- A slot record of 256 bytes, with ATTEMPTS as given. -/
def slotRecord (x : FwSlot) (attempts : Byte) : List Byte :=
  leBytes 4 x.image.toNat ++ leBytes 4 x.version.toNat ++ leBytes 2 x.svn ++ leBytes 2 x.pieces ++ leBytes 1 x.st ++ [attempts] ++
    zeroBytes 2 ++ padBytes 137 x.key ++ zeroBytes 103

/-- Bytes 0 to 527 of a copy. -/
def headerFront (s : State) (copy : Nat) (a b : Byte) : List Byte :=
  leBytes 2 1 ++ zeroBytes 2 ++ leBytes 4 (Config.headerSeq copy s.boot.headers).toNat ++ leBytes 1 s.boot.preferred ++ zeroBytes 7 ++
    slotRecord (slotOf s 0) a ++ slotRecord (slotOf s 1) b

/-- BITMAP: bit i is 1 while piece i of the slot being received is missing. -/
def bitmapBytes (s : State) : List Byte :=
  (List.range 512).map (fun k => BitVec.ofNat 8 (((List.range 8).map (fun i =>
    if (slotOf s s.boot.updSlot).got.contains (8 * k + i) then 0 else 2 ^ i)).sum))

/-- A copy of the boot header. -/
def headerBytes (s : State) (copy : Nat) : List Byte :=
  headerFront s copy (attemptsByte (slotOf s 0).attempts) (attemptsByte (slotOf s 1).attempts) ++ bitmapBytes s ++
    leBytes 4 (crc32 (headerFront s copy 0xFF 0xFF)).toNat

/-- The boot header is written again (R440). -/
def newHeader (s : State) : State := modBoot (fun b => { b with headers := b.headers + 1 }) s

/-! ### The warm-trim area (R337) -/

/-- The record of an element in an image, and its 64 bits. -/
def imageRec (s : State) (w : WarmImage) (e : Nat) : TrimRec :=
  if (elemKind s.part.variant e).isNone then {}
  else tget (if w.rest then { valid := true } else {}) w.elems e
def recNat (r : TrimRec) : Nat :=
  r.coarse.toNat + r.fine.toNat * 2 ^ 8 + r.bias.toNat * 2 ^ 20 + r.detThr.toNat * 2 ^ 32 + r.tiaOff.toNat * 2 ^ 38 + b2n r.valid * 2 ^ 63

/-- A trim record from its 64 bits (R337). -/
def recOfNat (n : Nat) : TrimRec :=
  { coarse := BitVec.ofNat 5 n
    fine := BitVec.ofNat 12 (n / 2 ^ 8)
    bias := BitVec.ofNat 6 (n / 2 ^ 20)
    detThr := BitVec.ofNat 6 (n / 2 ^ 32)
    tiaOff := BitVec.ofNat 6 (n / 2 ^ 38)
    valid := decide (n / 2 ^ 63 % 2 = 1) }

/-- A site-interface tap entry. -/
def tapNat (w : WarmImage) (k : Nat) : Nat :=
  match w.taps.find? (fun p => p.1 == k) with
  | some p => p.2 / 32 % 64 + p.2 % 32 * 2 ^ 8 + 2 ^ 15
  | none => 0

def nthByte (n k : Nat) : Byte := BitVec.ofNat 8 (n / 256 ^ k)
def elemByte (s : State) (w : WarmImage) (k : Nat) : Byte := nthByte (recNat (imageRec s w (k / 8))) (k % 8)
def tapByte (w : WarmImage) (k : Nat) : Byte := nthByte (tapNat w (k / 2)) (k % 2)

/-- The header of an image, 256 bytes. -/
def warmHeader (s : State) (w : WarmImage) : List Byte :=
  let body := leBytes 2 1 ++ zeroBytes 2 ++ leBytes 8 s.part.serial.toNat ++ leBytes 8 w.savedAt.toNat ++ leBytes 2 (uns 16 w.tempSaved) ++
    zeroBytes 2 ++ leBytes 4 (crc32 ((List.range 294912).map (elemByte s w))).toNat ++
    leBytes 4 (crc32 ((List.range 158976).map (tapByte w))).toNat ++ leBytes 4 w.generation.toNat ++ zeroBytes 216
  body ++ leBytes 4 (crc32 body).toNat

/-- A byte of a copy that a save wrote; one that no save has written is erased. -/
def warmByte (s : State) (w : WarmImage) (k : Nat) : Byte :=
  if !w.valid then 0xFF
  else if k < 256 then (warmHeader s w).getD k 0
  else if 0x1000 ≤ k ∧ k < 0x49000 then elemByte s w (k - 0x1000)
  else if 0x50000 ≤ k ∧ k < 0x76D00 then tapByte w (k - 0x50000)
  else if 0x76D00 ≤ k then 0
  else 0xFF

/-! ### The flash -/

/-- A byte of the flash (R404). -/
def flashByte (s : State) (a : Nat) : Byte :=
  match tget none s.boot.flash a with
  | some b => b
  | none =>
    if a < 0x20000 then (headerBytes s (a / 0x10000)).getD (a % 0x10000) 0xFF
    else if warmA ≤ a ∧ a < warmB then warmByte s s.foc.copyA (a - warmA)
    else if warmB ≤ a ∧ a < warmB + warmSize then warmByte s s.foc.copyB (a - warmB)
    else 0xFF

/-- Programming only clears bits (R403). -/
def programByte (a : Nat) (b : Byte) (s : State) : State :=
  let v := flashByte s a &&& b
  modBoot (fun x => { x with flash := tset none x.flash a (some v) }) s

/-- The base writes bytes of its own into erased flash. -/
def writeFlash : Nat → List Byte → State → State
  | _, [], s => s
  | a, b :: t, s => writeFlash (a + 1) t (modBoot (fun x => { x with flash := tset none x.flash a (if b = 0xFF then none else some b) }) s)

/-- Erase a range of bytes. -/
def eraseFlash (a n : Nat) (s : State) : State :=
  (List.range n).foldl (fun s i =>
    let k := a + i
    let own := decide (warmA ≤ k ∧ k < warmB + warmSize)
    modBoot (fun x => { x with flash := tset none x.flash k (if own then some 0xFF else none) }) s) s

/-- A copy of the warm-trim area as the flash holds it (R335, R337): valid when its FORMAT is 0x0001, its SERIAL the module's,
and its three CRCs hold. -/
def warmRead (s : State) (lo : Nat) : WarmImage :=
  let bytes (o n : Nat) : List Byte := (List.range n).map (fun i => flashByte s (lo + o + i))
  let word (o n : Nat) : Nat := (bytes o n).foldr (fun b acc => b.toNat + 256 * acc) 0
  { valid := word 0 2 == 1 && word 4 8 == s.part.serial.toNat && word 24 4 == (crc32 (bytes 0x1000 294912)).toNat &&
      word 28 4 == (crc32 (bytes 0x50000 158976)).toNat && word 252 4 == (crc32 (bytes 0 252)).toNat
    generation := BitVec.ofNat 32 (word 32 4)
    savedAt := BitVec.ofNat 64 (word 12 8)
    tempSaved := (BitVec.ofNat 16 (word 20 2)).toInt
    elems := (List.range 36864).filterMap (fun e =>
      let r := recOfNat (word (0x1000 + 8 * e) 8)
      if r = {} then none else some (e, r))
    taps := (List.range 79488).filterMap (fun k =>
      let t := word (0x50000 + 2 * k) 2
      if t / 2 ^ 15 = 1 then some (k, t % 64 * 32 + t / 256 % 32) else none) }

/-- A warm-trim copy holds what host software wrote through the flash window since the base last saved there. -/
def warmTouched (s : State) (lo : Nat) : Bool := s.boot.flash.any (fun p => decide (lo ≤ p.1 ∧ p.1 < lo + warmSize))

end Sys2Proof.Machine
end

