-- ==== Sys2Proof/Machine/Focus.lean ====
section
/-! DEFINITION. Laser modules, feeds, tunable elements and the warm-trim area (R315 to R339). -/

namespace Sys2Proof.Machine

open Sys2Proof

/-! ### Laser modules -/

/-- Feeds that the laser map assigns to a module (R317, R339). -/
def moduleFeeds (s : State) (m : Nat) : List Nat :=
  match s.boot.script with
  | none => []
  | some x => (match x.lasers with
      | none => []
      | some ls => (List.range 16).filter (fun k => match ls[k]? with
          | some (sw, ch, _) => decide (8 * sw + ch = m)
          | none => false))

/-- LASER_MODULE, once for each feed of the module (R318, R320): a warning is corrected, all else degraded. -/
def laserFault (m : Nat) (warn : Bool) (s : State) : State :=
  (moduleFeeds s m).foldl (fun s k =>
    let x := mkMsg s .laserModule 7 (feedUnit k) (k * 2 ^ 16)
    sendFault (if warn then { x with sev := 0 } else x) s) s

def laserReady (m : Nat) (on : Bool) (s : State) : State :=
  modFoc (fun f => { f with ready := if on then (if f.ready.contains m then f.ready else m :: f.ready) else f.ready.filter (· ≠ m) }) s

/-- LS_INT_N is asserted and a module's flag pages are read (R318). Log entry 63 (DEDUCED). -/
def lsInt (m : Nat) (flag : LaserFlag) (s : State) : State :=
  if s.flt.safe || decide (16 ≤ m ∨ s.boot.phase < 6) then s
  else
    let s := modPins (fun p => { p with lsIntN := false }) (modFoc (fun f => { f with asserting := m :: f.asserting.filter (· ≠ m) }) s)
    match flag with
    | .leftReady => laserFault m false (laserReady m false s)
    | .laneLost _ | .alarm => laserFault m false s
    | .warning => laserFault m true s

def execLsInt (module : Nat) (flag : LaserFlag) (s : State) : Out := .next (lsInt module flag s)

/-- Each module's state is read once every 100 ms (R318); a module that shows no flag lets the interrupt go, whose pin rises
when no other module holds it. Log entry 63 (DEDUCED). -/
def laserPoll (m : Nat) (flags : List LaserFlag) (s : State) : State :=
  if s.flt.safe || decide (16 ≤ m ∨ s.boot.phase < 6) then s
  else if flags.contains .leftReady then laserFault m false (laserReady m false s)
  else
    let s := laserReady m true s
    if flags.isEmpty then
      let left := s.foc.asserting.filter (· ≠ m)
      modPins (fun p => { p with lsIntN := left.isEmpty }) (modFoc (fun f => { f with asserting := left }) s)
    else s

def execLaserModulePoll (module : Nat) (flags : List LaserFlag) (s : State) : Out := .next (laserPoll module flags s)

/-! ### Feeds -/

/-- Elements that a role of a field lights (R315). -/
def roleElems (s : State) (field role : Nat) : List Nat :=
  let sts := (stations s.part.variant).filter (fun st => fieldOf st == field)
  let per (st : Nat) : List Nat :=
    if role = 0 then (List.range 96).map (fun i => st * 1024 + i)
    else if role = 1 then (List.range 96).map (fun i => st * 1024 + 256 + i)
    else if role = 2 ∧ (kindOf st).1 = .xs then (List.range 96).map (fun i => st * 1024 + 640 + i)
    else []
  (sts.map per).flatten

/-- FINE within its range (R322). -/
def clampFine (x : Int) : Int := clampI (-2047) 2047 x

/-- The standby feed of a field that can take a role. Log entry 63 (DEDUCED). -/
def standbyOf (s : State) (field : Nat) : Option Nat :=
  ((List.range 4).map (· + 4 * field)).find? (fun k =>
    let f := feedOf s k
    f.role == 3 && !f.low && !f.lost && !fenced s (uFeed k))

/-- The light of a field's sluice role is interrupted for at most 2 µs, a free value (R331).
Log entry 95 (DESIGN CHOICE). -/
def sluiceGap (field : Nat) (s : State) : State :=
  let gap := (Config.freeWord s.mem.freeCtr).toNat % 2001
  let s := modMem (fun m => { m with freeCtr := m.freeCtr + 1 }) s
  gapDrop field (s.tc.frameNo - 1) (modSlu (fun u => { u with gapUntil := tset 0 u.gapUntil field (s.now + gap) }) s)

/-- An element of a role steps FINE by the difference of the two feeds on its own line, and one that searches starts again on
the new feed (R331, R338). -/
def feedStep (now : Tick) (offsets : List Int) (e : Nat) (x : Elem) : Elem :=
  { x with fine := clampFine (x.fine + offsets.getD (e % 16) 0), search := x.search.map (fun _ => now) }

/-- A feed's role moves to the field's standby feed (R331), if there is one; the feed is left without a role. -/
def feedMove (k : Nat) (offsets : List Int) (lost : Bool) (s : State) : Option State :=
  let f := feedOf s k
  match standbyOf s (k / 4) with
  | none => none
  | some j =>
    let s := modFeedSt k (fun x => { x with low := true, lost := x.lost || lost, role := 3 }) s
    let s := modFeedSt j (fun x => { x with role := f.role }) s
    let s := (roleElems s (k / 4) f.role).foldl (fun s e => modElem e (feedStep s.now offsets e) s) s
    let s := if f.role = 0 then sluiceGap (k / 4) s else s
    some (modFoc (fun c => { c with failovers := sat32 c.failovers 1 }) s)

/-- A feed is low or counts as lost (R331, R332): its role moves to the standby feed, the role's elements stepping FINE by the
difference of the two feeds; with no standby, the role is without light. Log entry 63 (DEDUCED). -/
def feedFail (k : Nat) (offsets : List Int) (lost : Bool) (s : State) : State :=
  let at_ := k * 2 ^ 16
  if (feedOf s k).role = 3 then raise .feedLow 7 (feedUnit k) at_ (modFeedSt k (fun x => { x with low := true, lost := x.lost || lost }) s)
  else
    match feedMove k offsets lost s with
    | some t => raise .feedLow 7 (feedUnit k) at_ t
    | none => capUpdate (raise .feedLost 7 (feedUnit k) at_ (modFeedSt k (fun x => { x with low := true, lost := true }) s))

/-- The tap monitors' reading of a feed: its weakest line and that line's power in 0.1 dBm; within R316 from 11.0 dBm up to
15.0 dBm (R316, R339). -/
def feedLevel (k line power : Nat) (s : State) : State :=
  modFeedSt k (fun x => { x with line := line % 16, weakest := min 255 power, lit := decide (110 ≤ power ∧ power ≤ 150) }) s

/-- FEED_LOW: a feed stays low for 1 µs. `offsets` is the difference of the two feeds on each line, as the marker banks measure
it, and `line` and `power` what the tap monitors read. -/
def execFeedLow (feed : Nat) (offsets : List Int) (line power : Nat) (s : State) : Out :=
  .next (if s.flt.safe || decide (16 ≤ feed) || !(fieldsOf s.part.variant).contains (feed / 4) || (feedOf s feed).low || decide (s.boot.phase < 7)
    then s else feedFail feed offsets false (feedLevel feed line power s))

/-- Measured differences of two feeds' lines that no command carries: free values. Log entry 63 (DEDUCED). -/
def freeOffsets (n : Nat) : List Int := (List.range 16).map (fun w => ((Config.freeWord (n + w)).toNat % 4095 : Nat) - (2047 : Int))

/-- A feed is lost without a reading of the tap monitors: its marker bank is gone, or the collector fences it. -/
def feedGone (k : Nat) (s : State) : State :=
  let n := s.mem.freeCtr
  feedFail k (freeOffsets n) true (modMem (fun m => { m with freeCtr := m.freeCtr + 16 }) s)

/-- A feed returns (R331, R332): it takes a role of the field that has none, sluice before millrace before pod, else it is the
standby feed. Its weakest line is a free value within R316. Log entry 63 (DEDUCED). -/
def feedReturn (k : Nat) (s : State) : State :=
  let role := ([0, 1, 2].find? (fun r => (roleFeed s (k / 4) r).isNone)).getD 3
  let s := if role = 3 then s else
    ((List.range 4).map (· + 4 * (k / 4))).foldl (fun s j =>
      if j ≠ k ∧ (feedOf s j).role = role then modFeedSt j (fun x => { x with role := 3 }) s else s) s
  let n := (Config.freeWord s.mem.freeCtr).toNat
  let s := feedLevel k n (110 + n / 16 % 41) (modMem (fun m => { m with freeCtr := m.freeCtr + 1 }) s)
  modFeedSt k (fun x => { x with low := false, lost := false, marked := true, role := role }) s

/-! ### Elements -/

/-- Drive in 1/512 step, held within 0 to 32 steps (R322). -/
def driveOf (x : Elem) : Nat := (clampI 0 16384 (512 * (x.trim.coarse.toNat : Int) + x.fine)).toNat

/-- Heater fraction in 1/255 (R322, R339). Log entry 64 (DEDUCED). -/
def heaterOf (x : Elem) : Nat := (driveOf x * 255 + 8192) / 16384

/-- In warm-up every heater is driven at full range (R344). -/
def heaterShown (s : State) (x : Elem) : Nat := if s.thm.warmup then 255 else heaterOf x

/-- FINE moved within the last 10 µs (R324). -/
def movedOf (s : State) (x : Elem) : Nat := ((x.moved.filter (fun p => decide (s.now < p.1 + 10000))).map (·.2)).sum

/-- A trim step may be taken: one in any 10 µs (R334). -/
def stepFree (s : State) (x : Elem) : Bool := match x.stepAt with
  | none => true
  | some t => decide (t + 10000 ≤ s.now)

/-- How far FINE may still move: 1,024 in any 10 µs (R324), and within ±4 steps of the held drive in a search that has run that
long (R325). -/
def fineRoom (s : State) (x : Elem) : Int := match x.search with
  | some t => if s.now < t + 10000 then 1024 - movedOf s x else 2048
  | none => 1024 - movedOf s x

/-- One update of a loop (R323, R324): FINE moves within its bound; past ±1,536 COARSE steps with the drive unchanged. An
update while the loop searches is the monitor back in its window. Log entry 62 (DEDUCED). -/
def focusUpdate (e : Nat) (delta : Int) (s : State) : State :=
  let x := elemOf s e
  if s.flt.safe || (elemState s e != 2 && !(elemState s e == 1 && x.search.isSome)) then s
  else
    let room := fineRoom s x
    let d := clampI (-room) room delta
    let fine := clampFine (x.fine + d)
    let d := fine - x.fine
    let up := decide (1536 < fine) && decide (x.trim.coarse.toNat < 31)
    let down := decide (fine < -1536) && decide (0 < x.trim.coarse.toNat)
    let step := stepFree s x && (up || down)
    modElem e (fun y => { y with
      st := 2
      search := none
      fine := if step then (if up then fine - 512 else fine + 512) else fine
      trim := if step then { y.trim with coarse := if up then y.trim.coarse + 1 else y.trim.coarse - 1 } else y.trim
      stepAt := if step then some s.now else y.stepAt
      moved := (s.now, d.natAbs) :: y.moved.filter (fun p => decide (s.now < p.1 + 10000)) }) s

def execFocusUpdate (e : Nat) (delta : Int) (s : State) : Out := .next (focusUpdate e delta s)

/-- The monitor has stayed outside the lock window for 2 µs: the loop holds its drive and searches (R325). -/
def execFocusLockLost (e : Nat) (s : State) : Out :=
  .next (if s.flt.safe || elemState s e != 2 then s else modElem e (fun x => { x with st := 1, search := some s.now }) s)

/-- What follows when an element leaves service (R326), beside what the collector fences. -/
def elemEffect (e : Nat) (s : State) : State :=
  match elemKind s.part.variant e with
  | some (.mrMod l) => lambdaOut (e / 1024) l s
  | some (.mrDrop x l) => lambdaOut x l s
  | some (.spareWatch x) => if (spareOf s x).dest = some (e / 1024) then lambdaOut x 95 s else s
  | some (.podMod l w) => laneDrop l w 1 s
  | some (.podDrop l w) => laneDrop l w 1 s
  | some (.marker f _) =>
    let s := modFeedSt f (fun x => { x with marked := false }) s
    if (feedOf s f).low then modFeedSt f (fun x => { x with lost := true }) s else feedGone f s
  | _ => s

/-- Take an element out of service for a cause, with its message (R325, R326, R329). -/
def elemOut (e cause tone : Nat) (k : FaultKind) (s : State) : State :=
  elemEffect e (raise k 7 (e / 1024) (e + tone * 2 ^ 20) (modElem e (fun x => { x with st := 3, cause := cause, search := none }) s))

/-- The search has failed after 100 µs (R325). -/
def searchTimeout (e : Nat) (s : State) : State :=
  match (elemOf s e).search with
  | none => s
  | some t =>
    if s.flt.safe || elemState s e != 1 || decide (s.now < t + 100000) then s
    else elemOut e 1 0 .focusLost (modFoc (fun f => { f with lockLost := sat32 f.lockLost 1 }) s)

def execFocusSearchTimeout (e : Nat) (s : State) : Out := .next (searchTimeout e s)

/-- The drive has stayed at an end of its range for 1 ms with the monitor outside its window (R325). -/
def focusRange (e : Nat) (s : State) : State :=
  let d := driveOf (elemOf s e)
  if s.flt.safe || (elemState s e != 1 && elemState s e != 2) || decide (0 < d ∧ d < 16384) then s
  else elemOut e 3 0 .focusRange (modFoc (fun f => { f with lockLost := sat32 f.lockLost 1 }) s)

def execFocusRange (e : Nat) (s : State) : Out := .next (focusRange e s)

/-- The channel of a ring element, whose tone it must read (R327, R328). -/
def channelOf : ElemKind → Option Nat
  | .sluMod _ w | .sluDrop _ w => some w
  | .mrMod l => some (l % 16)
  | .mrDrop _ l => some (l % 16)
  | .spareWatch _ => some 15
  | .podMod _ w | .podDrop _ w => some w
  | .cell _ | .marker _ _ => none

/-- An identity check of a locked ring completes (R328, R329): a wrong lock takes it out of service. Log entry 62 (DEDUCED). -/
def identityCheck (e tone : Nat) (clear : Bool) (s : State) : State :=
  match (elemKind s.part.variant e).bind channelOf with
  | none => s
  | some w =>
    if s.flt.safe || elemState s e != 2 then s
    else
      let pass := clear && decide (tone % 16 = w)
      let s := modElem e (fun x => { x with tone := some (tone % 16), toneOk := pass }) s
      if pass then s
      else elemOut e 2 (tone % 16) .wrongLock (modFoc (fun f => { f with wrongLocks := sat32 f.wrongLocks 1 }) s)

def execIdentityCheck (e : Nat) (tone : Nat) (ok : Bool) (s : State) : Out := .next (identityCheck e tone ok s)

/-- A re-sweep from the far side ends (R329, R381): it counts as a retry of the element, and one that locked with the right
tone ends the fence. An element that failed in both directions waits for its quiet-period retry. Log entry 62 (DEDUCED). -/
def resweep (e : Nat) (r : ResweepResult) (s : State) : State :=
  let x := elemOf s e
  let u := uElem e
  if s.flt.safe || elemState s e != 3 || x.cause != 2 || decide (2 ≤ x.failed) then s
  else
    let s := if fenced s u then noteRetry u s else s
    match r with
    | .locked c =>
      let w := ((elemKind s.part.variant e).bind channelOf).getD 0
      liftFence u (modElem e (fun y => { y with
        st := 2
        cause := 0
        trim := { y.trim with coarse := BitVec.ofNat 5 c }
        fine := 0
        tone := some w
        toneOk := true
        failed := 0
        sweptDown := !y.sweptDown }) s)
    | .failed =>
      let s := modElem e (fun y => { y with failed := y.failed + 1, sweptDown := !y.sweptDown }) s
      if fenced s u && decide (6 ≤ recoveryCount s u) then
        unitMsg .recoveryLimit u (modEntry u (fun y => { y with st := .held }) s)
      else modEntry u (fun y => { y with quietFrom := s.now }) s

def execResweepComplete (e : Nat) (res : ResweepResult) (s : State) : Out := .next (resweep e res s)

/-- An element comes back by its retry: a full sweep and its check (R325). Where its sweep found its line is a free value, and
the next sweep runs the other way (R329). Log entry 62 (DEDUCED). -/
def elemBack (e : Nat) (s : State) : State :=
  let n := Config.freeWord s.mem.freeCtr
  modElem e (fun x => { x with
    st := 2
    cause := 0
    search := none
    failed := 0
    toneOk := true
    tone := none
    sweptDown := !x.sweptDown
    trim := { x.trim with coarse := n.setWidth 5 }
    fine := ((n.toNat / 32 % 4095 : Nat) : Int) - 2047 }) (modMem (fun m => { m with freeCtr := m.freeCtr + 1 }) s)

/-! ### Headroom -/

/-- The ring elements of a unit, without switch cells and markers, that are locked (R330). -/
def lockedRings (s : State) (n : Nat) : List Nat :=
  ((List.range 864).map (· + 1024 * n)).filter (fun e =>
    elemState s e == 2 && (match elemKind s.part.variant e with
      | none | some (.cell _) | some (.marker _ _) => false
      | some _ => true))

/-- Twice the median drive of a unit's locked rings, in 1/512 step: the middle one, or the middle two. Log entry 64 (DEDUCED). -/
def medianDrive2 (s : State) (n : Nat) : Option Nat :=
  let ds := (lockedRings s n).map (fun e => (driveOf (elemOf s e) : Int))
  if ds.isEmpty then none else some (middle2 (sortI ds)).toNat

/-- The median heater fraction of a unit, once per millisecond (R330): low below 0.05, high above 0.95. With no locked ring
there is no median, and nothing changes. Log entry 64 (DEDUCED). -/
def headroom (n : Nat) (s : State) : State :=
  match medianDrive2 s n with
  | none => s
  | some d2 =>
  if s.flt.safe || !hasStation s.part.variant n || !s.foc.focused then s
  else
    let h : Headroom := tget {} s.foc.head n
    let m := (d2 * 255 + 16384) / 32768
    let hist := ((s.now, m) :: h.history.filter (fun p => decide (s.now < p.1 + 1000000000)))
    -- ten evaluations clear a condition
    let good := if h.low then decide (32768 * 10 ≤ d2 * 100) else if h.high then decide (d2 * 100 < 32768 * 90) else false
    let clear := if good then h.clear + 1 else 0
    let ends := decide (10 ≤ clear)
    let low := if h.low then !ends else decide (d2 * 100 < 32768 * 5)
    let high := if h.high then !ends else decide (32768 * 95 < d2 * 100)
    let h' : Headroom := { median := m, history := hist, low := low, high := high, clear := if ends then 0 else clear }
    let s := modFoc (fun f => { f with head := tset {} f.head n h' }) s
    let s := if low && !h.low then standBegin .headroomLow 7 n 0 s else if h.low && !low then standEnd .headroomLow 7 n s else s
    if high && !h.high then standBegin .headroomHigh 7 n 0 s else if h.high && !high then standEnd .headroomHigh 7 n s else s

def execHeadroomEval (unit : Nat) (s : State) : Out := .next (headroom unit s)

/-! ### Trims -/

/-- One step of a 6-bit tap toward a goal. -/
def towardBit {n : Nat} (cur goal : BitVec n) : BitVec n := if cur < goal then cur + 1 else if goal < cur then cur - 1 else cur

/-- Which taps an element has (R333). -/
def hasBias : ElemKind → Bool
  | .sluMod _ _ | .mrMod _ | .podMod _ _ | .cell _ => true
  | _ => false
def hasDrop : ElemKind → Bool
  | .sluDrop _ _ | .mrDrop _ _ | .spareWatch _ | .podDrop _ _ => true
  | _ => false

/-- One step of one trimmed quantity toward a goal: COARSE, bias, threshold, offset in that order (R334). -/
def trimStep (k : ElemKind) (t g : TrimRec) : TrimRec :=
  if t.coarse ≠ g.coarse then { t with coarse := towardBit t.coarse g.coarse }
  else if hasBias k = true ∧ t.bias ≠ g.bias then { t with bias := towardBit t.bias g.bias }
  else if hasDrop k = true ∧ t.detThr ≠ g.detThr then { t with detThr := towardBit t.detThr g.detThr }
  else if hasDrop k = true ∧ t.tiaOff ≠ g.tiaOff then { t with tiaOff := towardBit t.tiaOff g.tiaOff }
  else t

/-- The goal is reached in every quantity that the element has. -/
def trimMet (k : ElemKind) (t g : TrimRec) : Bool := trimStep k t g == t

/-- A trim interval of a unit (R334): each element in service moves one step, toward a target that host software wrote, else
toward the centre that its monitor measures (element, bias, threshold, offset). FREEZE holds both; an element out of service
keeps its target. -/
def trimFocus (n : Nat) (moves : List (Nat × Nat × Nat × Nat)) (s : State) : State :=
  if s.flt.safe || s.foc.freeze || !hasStation s.part.variant n then s
  else
    let targets := (s.foc.elems.filter (fun p => p.1 / 1024 == n && p.2.target.isSome)).map (·.1)
    let aims := targets ++ ((moves.map (fun m => n * 1024 + m.1 % 1024)).filter (fun e => !targets.contains e))
    aims.eraseDups.foldl (fun s e =>
      let x := elemOf s e
      match elemKind s.part.variant e with
      | none => s
      | some k =>
        if elemState s e != 2 || !stepFree s x then s
        else
          let goal : TrimRec := match x.target with
            | some g => g
            | none => (match moves.find? (fun m => n * 1024 + m.1 % 1024 == e) with
                | some m => { x.trim with bias := BitVec.ofNat 6 m.2.1, detThr := BitVec.ofNat 6 m.2.2.1, tiaOff := BitVec.ofNat 6 m.2.2.2 }
                | none => x.trim)
          let t := trimStep k x.trim goal
          modElem e (fun y => { y with
            trim := t
            stepAt := if t = x.trim then y.stepAt else some s.now
            target := if y.target.isSome && trimMet k t goal then none else y.target }) s) s

def execFocusTrimInterval (unit : Nat) (moves : List (Nat × Nat × Nat × Nat)) (s : State) : Out := .next (trimFocus unit moves s)

/-- FOC_TRIM_CTRL.FREEZE (R334). -/
def execFocTrimFreeze (p : Path) (on : Bool) (s : State) : Out :=
  .next (iWrite p 0x0D0008 (b2n on) (modFoc (fun f => { f with freeze := on })) s)

/-- The record of an element as a register or a save shows it (R337). -/
def trimRecord (s : State) (e : Nat) : TrimRec :=
  let x := elemOf s e
  { x.trim with fine := BitVec.ofInt 12 x.fine, valid := elemState s e == 2 }

/-! ### The warm-trim area -/

/-- The records of every element that differ from those of a valid element at the default trims. Log entry 64 (DEDUCED). -/
def allRecords (s : State) : Tab TrimRec :=
  (List.range 36864).filterMap (fun e =>
    let r := trimRecord s e
    if (elemKind s.part.variant e).isNone || r == { valid := true } then none else some (e, r))

/-- The site-interface taps of every lane that is trained at a rate, by the place of their entries (R337). -/
def siteTaps (s : State) : Tab Nat :=
  ((List.range 12).map (fun n => (siteOf s n).taps.filterMap (fun p =>
    let r := p.1 / 8192
    let m := p.1 / 128 % 64
    let l := p.1 % 128
    if r < 3 ∧ m < 32 ∧ l < 69 then some (((3 * n + r) * 32 + m) * 69 + l, p.2) else none))).flatten

/-- SAVE (R338): refused in phase 7 and while another save runs. It takes what stands into the copy with the lower
GENERATION. -/
def warmSave (s : State) : State :=
  if s.boot.phase = 7 ∨ s.foc.saving = true then modFoc (fun f => { f with saveFailed := true }) s
  else
    let a := s.foc.copyA.valid && (!s.foc.copyB.valid || decide (s.foc.copyB.generation ≤ s.foc.copyA.generation))
    modFoc (fun f => { f with saving := true, saveFailed := false, writing := if a then 2 else 1 }) s

def execWarmSave (p : Path) (s : State) : Out := .next (iWrite p 0x0D0028 1 warmSave s)

/-- The median base sensor (R335). -/
def medianTemp (s : State) : Int := medianI (s.thm.sens.filterMap (·.2))

/-- A save ends (R338). -/
def saveDone (ok : Bool) (s : State) : State :=
  if s.flt.safe || !s.foc.saving then s
  else if !ok then modFoc (fun f => { f with saving := false, saveFailed := true }) s
  else
    let other := if s.foc.writing = 1 then s.foc.copyB else s.foc.copyA
    let image : WarmImage := { valid := true
                               generation := (if other.valid then other.generation else 0) + 1
                               savedAt := s.tc.timecode
                               tempSaved := medianTemp s
                               elems := allRecords s
                               taps := siteTaps s
                               rest := true }
    let lo := if s.foc.writing = 1 then warmA else warmB
    modBoot (fun b => { b with flash := tclear b.flash lo (lo + warmSize) }) (modFoc (fun f => { f with
      saving := false
      copyA := if f.writing = 1 then image else f.copyA
      copyB := if f.writing = 1 then f.copyB else image }) s)

def execWarmSaveComplete (ok : Bool) (s : State) : Out := .next (saveDone ok s)

end Sys2Proof.Machine
end

