-- ==== Sys2Proof/Machine/PodTime.lean ====
section
/-! DEFINITION. Time across the pod (R43 to R45, R309 to R311). -/

namespace Sys2Proof.Machine

open Sys2Proof

/-- A link gives time: a valid response within 100 µs (R311). -/
def timeUp (s : State) (l : Nat) : Bool :=
  match (podLink s l).time.lastValid with
  | none => false
  | some t => linkLive s l && decide (s.now ≤ t + 100000)

/-- (PRIORITY, SOURCE_NODE, HOPS, link), the order of sources (R310): lower is better. -/
def srcKey (s : State) (l : Nat) : List Nat :=
  let t := (podLink s l).time
  [t.priority, t.source.toNat, t.hops, l]

def lexLt : List Nat → List Nat → Bool
  | a :: as, b :: bs => decide (a < b) || (decide (a = b) && lexLt as bs)
  | [], _ :: _ => true
  | _, _ => false

/-- The best source advertised by a locked partner. -/
def bestLink (s : State) : Option Nat :=
  ((List.range 48).filter (fun l => timeUp s l && (podLink s l).time.locked && decide ((podLink s l).time.priority ≠ 255))).foldl
    (fun a l => match a with
      | none => some l
      | some b => if lexLt (srcKey s l) (srcKey s b) then some l else some b) none

/-- Eight offsets in a row lie within 2 ns of each other (R311); offsets are kept in half nanoseconds. -/
def steady (xs : List Int) : Bool :=
  let ys := xs.take 8
  decide (ys.length = 8) && ys.all (fun a => ys.all (fun b => decide (a - b ≤ 4)))

/-- Follow the best source, or be it (R310, R311, R45). Log entry 30 (DEDUCED). -/
def timeSelect (s : State) : State :=
  let own := [s.pod.priority, s.ident.node.toNat]
  let best := bestLink s
  let mine := decide (s.pod.priority ≠ 255) && (match best with
    | none => true
    | some l => lexLt own ((srcKey s l).take 2))
  if mine then
    standEnd .timeTransferLost 10 0
      (modPod (fun p => { p with upstream := none, isSource := true, locked := true, hops := 0, medianOffset := 0 })
        (modTc (fun t => { t with diff := 0, podSync := true, holdover := false }) s))
  else
    match best with
    | none => modPod (fun p => { p with upstream := none, isSource := false, locked := false })
        (modTc (fun t => { t with podSync := false }) s)
    | some l =>
      let xs := (podLink s l).time.offsets
      let med := medianI xs
      let lock := steady xs
      let s := modPod (fun p => { p with upstream := some l, isSource := false, locked := lock, hops := (podLink s l).time.hops + 1, medianOffset := med }) s
      let s := modTc (fun t => { t with diff := med / 2, podSync := lock, holdover := false }) s
      standEnd .timeTransferLost 10 0 s

/-- Time transfer is lost on every link (R45): holdover. -/
def timeLost (s : State) : State :=
  if s.pod.isSource then s
  else
    standBegin .timeTransferLost 10 0 0
      (modPod (fun p => { p with locked := false, upstream := none })
        (modTc (fun t => { t with podSync := false, holdover := true, diff := 0 }) s))

/-- What a TIME command says of this module's source (R309); T3 and RESIDENCE come with its flit. Log entry 59 (DEDUCED). -/
def timeOut (s : State) (resp : Bool) : TimeCmd :=
  let (node, prio) := match s.pod.upstream with
    | some l => ((podLink s l).time.source, (podLink s l).time.priority)
    | none => (s.ident.node, s.pod.priority)
  { resp := resp, locked := s.pod.locked, hops := BitVec.ofNat 8 s.pod.hops, sourceNode := node, priority := BitVec.ofNat 8 prio
    residence := 0, t3 := 0 }

/-- A request is due once every 10 µs (R309); its send time t1 is that of the flit that carries it. -/
def timeRequest (l : Nat) (s : State) : State :=
  let t := (podLink s l).time
  let spaced := match t.sentAt with
    | none => true
    | some a => decide (a + 10000 ≤ s.now)
  if !linkLive s l || !(podLink s l).hello || (podLink s l).st == 4 || !spaced then s
  else linkCmd l [none] (.timeRequest (timeOut s false))
    (modPodLink l (fun x => { x with time := { x.time with sentAt := some s.now } }) s)

def execTimeRequestSend (link : Nat) (s : State) : Out := .next (timeRequest link s)

/-- A request is answered; a response yields an offset (R309). Log entry 59 (DEDUCED). -/
def timeCommand (l : Nat) (c : TimeCmd) (s : State) : State :=
  if !linkLive s l || (podLink s l).st == 4 then s
  else if !c.resp then linkCmd l [none] (.timeResponse (timeOut s true) s.tc.timecode) s
  else
    match (podLink s l).time.t1 with
    | none => s
    | some t1 =>
      let t4 : Int := s.tc.timecode.toNat
      let t3 : Int := c.t3.toNat
      let t2 : Int := t3 - c.residence.toNat
      let twice := (t2 - (t1.toNat : Int)) - (t4 - t3)
      timeSelect (modPodLink l (fun x => { x with time := { x.time with
        t1 := none
        offsets := (twice :: x.time.offsets).take 16
        lastValid := some s.now
        locked := c.locked
        source := c.sourceNode
        priority := c.priority.toNat
        hops := c.hops.toNat } }) s)

def execTime (link : Nat) (cmd : TimeCmd) (s : State) : Out := .next (timeCommand link cmd s)

/-- A link gives no time: 100 µs without a valid response (R311). A follower chooses again while some link gives time; with
none left R45 applies, whatever its own PRIORITY. Log entry 30 (DEDUCED). -/
def timeTimeout (l : Nat) (s : State) : State :=
  match (podLink s l).time.lastValid with
  | none => s
  | some t =>
    if s.flt.safe || decide (s.now < t + 100000) then s
    else
      let s := modPodLink l (fun x => { x with time := {} }) s
      if (List.range 48).any (timeUp s) then timeSelect s else timeLost s

def execTimeLinkTimeout (link : Nat) (s : State) : Out := .next (timeTimeout link s)

end Sys2Proof.Machine
end

