-- ==== Sys2Proof/Machine/PodRoute.lean ====
section
/-! DEFINITION. Route tables: the check, the swap and its drain (R306 to R308). -/

namespace Sys2Proof.Machine

open Sys2Proof

/-- Nodes that a table lists. -/
def listed (t : Tab RouteEntry) : List Nat := t.map (·.1)

/-- The reason for which an entry fails the check (R307); none where it passes. Log entry 60 (DEDUCED). -/
def entryReason (s : State) (t : Tab RouteEntry) (n : Nat) : Option Nat :=
  let e : RouteEntry := tget {} t n
  let own := s.ident.node.toNat
  let stage1 := (t.filter (fun p => p.2.kind == 1)).map (·.1)
  if (n = own ∧ e.kind ≠ 3) ∨ (n ≠ own ∧ e.kind = 3) then some 1
  else if e.kind = 1 ∧ 4096 ≤ (stage1.filter (· < n)).length then some 2
  else if e.kind = 1 ∧ (e.localXs = 0 ∨ e.remoteXs = 0 ∨ ((maskSet e.localXs).all (hasXs s.part.variant)) = false) then some 3
  else if e.kind = 2 ∧ (tget {} t e.nextHop.toNat : RouteEntry).kind ≠ 1 then some 4
  else if e.reserved then some 5
  else none

/-- The first failing node in increasing number, with its reason. -/
def tableFail (s : State) (t : Tab RouteEntry) : Option (Nat × Nat) :=
  let own := s.ident.node.toNat
  let ns := listed t
  let ns := if ns.contains own then ns else (ns.filter (· < own)) ++ own :: ns.filter (own < ·)
  ns.findSome? (fun n => (entryReason s t n).map (fun r => (n, r)))

/-- A check of the next table begins (R307). -/
def rtCheck (s : State) : State :=
  if s.pod.rtSt = 4 ∨ s.pod.rtSt = 5 then s else modPod (fun p => { p with rtSt := 1, rtReason := 0, rtNode := 0 }) s

def execPodRtCheck (p : Path) (s : State) : Out := .next (iWrite p 0x0C0030 1 rtCheck s)

def rtCheckDone (s : State) : State :=
  if s.flt.safe || s.pod.rtSt != 1 then s
  else match tableFail s s.pod.routeNext with
    | some (n, r) => modPod (fun p => { p with rtSt := 3, rtReason := r, rtNode := n }) s
    | none => modPod (fun p => { p with rtSt := 2, rtReason := 0, rtNode := 0 }) s

def execRouteCheckComplete (s : State) : Out := .next (rtCheckDone s)

/-- Nodes whose entries differ (R308). -/
def rtAffected (s : State) : List Nat :=
  ((listed s.pod.route ++ listed s.pod.routeNext).eraseDups).filter (fun n =>
    decide ((tget {} s.pod.route n : RouteEntry) ≠ tget {} s.pod.routeNext n))

/-- The waiting swap takes effect: flows whose link sets change send again from FACK (R308), and the continuity digest
follows the table's identity (R431). -/
def routeSwap (s : State) : State :=
  if s.pod.rtSt ≠ 5 then s
  else
    let held := s.pod.drainNodes
    let s := modPod (fun p => { p with route := p.routeNext, rtSt := 0, rtReason := 0, drainNodes := [] }) s
    let s := modRole (fun r => { r with routeId := r.routeIdNext }) s
    let s := contChange (fun r => { r with digest := digestNow s }) s
    let s := moveFlows s
    if held.isEmpty then s
    else (List.range 8).foldl (fun s x => [1, 2, 3, 4, 5].foldl (fun s c => drainXs (xsOf x) c s) s) s

/-- With no reel running the table changes at once (R308). Log entry 60 (DEDUCED). -/
def routeNow (s : State) : State := if reelActive s then s else routeSwap s

/-- SWAP (R308): between jobs, or after a drain of the affected nodes' flows. -/
def rtSwap (s : State) : State :=
  if s.pod.rtSt ≠ 2 then s
  else
    let ns := rtAffected s
    if s.slu.tableMode then
      let rtt := ((s.pod.tx.filter (fun f => ns.contains f.node.toNat)).map (·.rtt)).foldl max 0
      let frame := if reelActive s then frameLen s s.tc.activeSlot else 2048
      modPod (fun p => { p with rtSt := 4, rtReason := 0, drainNodes := ns, drainEnd := s.now + 2 * frame + rtt }) s
    else
      match ns.find? (fun n => (runningJobs s).any (fun j => jobMember s j n)) with
      | some n => modPod (fun p => { p with rtSt := 3, rtReason := 6, rtNode := n }) s
      | none => routeNow (modPod (fun p => { p with rtSt := 5, rtReason := 0, drainNodes := [] }) s)

def execPodRtSwap (p : Path) (s : State) : Out := .next (iWrite p 0x0C0030 2 rtSwap s)

/-- CANCEL withdraws an armed swap; the table stays passed and admission resumes (R314). -/
def rtCancel (s : State) : State :=
  if s.pod.rtSt = 4 ∨ s.pod.rtSt = 5 then
    let s := modPod (fun p => { p with rtSt := 2, drainNodes := [] }) s
    (List.range 8).foldl (fun s x => [1, 2, 3, 4, 5].foldl (fun s c => drainXs (xsOf x) c s) s) s
  else s

def execPodRtCancel (p : Path) (s : State) : Out := .next (iWrite p 0x0C0030 4 rtCancel s)

/-- A change of the next table takes its check back, and with it an armed swap. Log entry 60 (DEDUCED). -/
def nextChanged (s : State) : State :=
  let s := rtCancel s
  modPod (fun p => { p with rtSt := 0, rtReason := 0, rtNode := 0 }) s

/-- COPY copies the active table into the next table (R314). -/
def execPodRtCopy (p : Path) (s : State) : Out :=
  .next (iWrite p 0x0C0030 8 (fun s => modPod (fun q => { q with routeNext := q.route }) (nextChanged s)) s)

/-- The flows of the affected nodes are idle, or the limit has passed (R308). -/
def routeDrainEnd (s : State) : State :=
  let idle := (s.pod.tx.filter (fun f => s.pod.drainNodes.contains f.node.toNat)).all (fun f => f.slots.isEmpty)
  if s.flt.safe || s.pod.rtSt != 4 || !(idle || decide (s.pod.drainEnd ≤ s.now)) then s
  else routeNow (modPod (fun p => { p with rtSt := 5 }) s)

def execRouteDrainEnd (s : State) : Out := .next (routeDrainEnd s)

end Sys2Proof.Machine
end

