-- ==== Sys2Proof/Machine/Script.lean ====
section
/-! DEFINITION. The checks of a script copy, the choice between the copies, and what a script fixes (R407 to R411). -/

namespace Sys2Proof.Machine

open Sys2Proof

/-! ### The checks of R409, in its order -/

/-- HOME names memory stations of the variant, each in its equal share of the 768 entries (R149). -/
def homeOk (s : State) (h : List Nat) : Bool :=
  let ms := memStations s.part.variant
  decide (h.length = 768) && h.all ms.contains && ms.all (fun m => (h.filter (· == m)).length * ms.length == 768)

/-- OWNERS gives each bank one owner of its field or none (R166). -/
def ownersOk (s : State) (o : List (Nat × Nat)) : Bool :=
  decide (o.length = 32) && (List.range 32).all (fun b =>
    match o[b]? with
    | none => false
    | some (k, st) =>
      if k = 0 then true
      else if !hasBank s.part.variant b then false
      else if k = 1 then hasStation s.part.variant st && fieldOf st == b / 8
      else decide (k ≤ 4))

/-- The route table of a script; the default holds the own entry alone (R407). -/
def scriptRoute (x : Script) : Tab RouteEntry := x.route.getD [(x.node.toNat, { kind := 3 })]

/-- ROUTE under R307, for the node that the script names. -/
def routeOk (s : State) (x : Script) : Bool := (tableFail (modIdent (fun i => { i with node := x.node }) s) (scriptRoute x)).isNone

/-- Every value of LIMITS is within its range, with MIN ≤ START ≤ MAX at each site. -/
def limitsOk (x : Script) : Bool :=
  decide (8 ≤ x.memTimeout ∧ x.memTimeout ≤ 1000 ∧ x.replicaGib ≤ 64 ∧ x.reserveBase < 65536 ∧ x.reserveStack < 256 ∧ x.fallback < 65536) &&
  x.siteCaps.all (· < 1024) && x.sitePmax.all (· < 1024) &&
  x.vsite.all (fun v => decide (v.min ≤ v.start ∧ v.start ≤ v.max ∧ v.max ≤ 90)) &&
  decide (1 ≤ fld x.blkDispatch 8 8 ∧ fld x.blkDispatch 2 6 = 0 ∧ fld x.blkDispatch 16 16 = 0 ∧ x.gafCtrl.toNat < 4)

/-- SCHEDULE: the clapper mode 0 to 2, the offset within 4,095 ticks. -/
def scheduleOk (x : Script) : Bool := decide (x.clapMode ≤ 2 ∧ -4095 ≤ x.clapOffset ∧ x.clapOffset ≤ 4095)

/-- The capacity of the module's stacks less the replica pool, GiB (R122). -/
def addressableOf (s : State) (x : Script) : Nat := (memStations s.part.variant).length * s.part.stackGib - x.replicaGib

/-- PAIR under R390: every granule lies in the addressable pool, and the audience is up to 256 stage-1 nodes. -/
def pairOk (s : State) (x : Script) : Bool := match x.pair with
  | none => true
  | some p => (List.range 64).all (fun g => !bit p.mask g || decide (64 * p.window.toNat + g < addressableOf s x)) &&
      decide (p.audience.length ≤ 256) && p.audience.all (fun n => (tget {} (scriptRoute x) n : RouteEntry).kind == 1)

/-- The first item of R409 that a copy fails, 1 to 8; 0 when it is valid. A maker-signed copy counts only where it may
(R408). Log entry 81 (DEDUCED). -/
def scriptItem (s : State) (maker : Bool) (c : ScriptCopy) : Nat := match c.content with
  | none => 1
  | some x =>
    if !c.framingOk || !c.signatureOk || !(x.installerSigned || maker) then 1
    else if x.serial ≠ s.part.serial ∨ x.variant ≠ s.part.variant then 2
    else if !c.podFlagsOk then 3
    else if !((x.owners.map (ownersOk s)).getD true && (x.home.map (homeOk s)).getD true && routeOk s x) then 4
    else if !limitsOk x then 5
    else if !scheduleOk x then 6
    else if !c.reservedOk then 7
    else if !(pairOk s x && c.warmFormatOk) then 8
    else 0

/-- A copy is valid and signed by the installer. -/
def installerValid (s : State) (c : ScriptCopy) : Bool := match c.content with
  | none => false
  | some x => x.installerSigned && scriptItem s true c == 0

/-- SEQUENCE of a copy, as far as it reads. Log entry 81 (DEDUCED). -/
def copySeq (c : ScriptCopy) : Nat := match c.content with
  | some x => x.sequence.toNat
  | none => 0

/-- The copy that a start takes, and whether the newer one failed (R409). Log entry 81 (DEDUCED). -/
def chooseScript (s : State) (c0 c1 : ScriptCopy) : Option (Nat × Bool × Script) :=
  let maker := !(installerValid s c0 || installerValid s c1)
  let newer := if copySeq c0 < copySeq c1 then (1, c1) else (0, c0)
  let older := if copySeq c0 < copySeq c1 then (0, c0) else (1, c1)
  let good (p : Nat × ScriptCopy) : Option Script := if scriptItem s maker p.2 = 0 then p.2.content else none
  match good newer with
  | some x => some (newer.1, false, x)
  | none => (good older).map (fun x => (older.1, true, x))

/-! ### What a script fixes (R410) -/

/-- The sweep partners: those that the script lists, else the nodes n ⊕ 2ᵏ that are stage-1 partners (R433). -/
def sweepNodes (x : Script) : List Nat :=
  if x.sweep.isEmpty then
    ((List.range 12).map (fun k => x.node.toNat ^^^ 2 ^ k)).filter (fun n => (tget {} (scriptRoute x) n : RouteEntry).kind == 1)
  else x.sweep.take 16

def partnerTab (x : Script) : Tab (Option ContPartner) :=
  let ns := sweepNodes x
  (List.range ns.length).zip (ns.map (fun n => some { node := BitVec.ofNat 16 n }))

/-- The values that a start or a wake takes from the script where a register has a start value (R407, R456). -/
def startValues (x : Script) (s : State) : State :=
  let s := modBlk (fun b => { b with dispatch := x.blkDispatch, replicaGib := x.replicaGib }) s
  let s := modGaf (fun g => { g with ctrl := x.gafCtrl }) s
  let s := modFoc (fun f => { f with freeze := x.focFreeze }) s
  let s := modRole (fun r => { r with partners := partnerTab x }) s
  (List.range 12).foldl (fun s n => modSite n (fun y => { y with freeze := x.tsiFreeze, st := if y.st = 5 then 5 else if sitePresent s.part n then 1 else 0 }) s) s

/-- What the script in use fixes for the life of a boot. -/
def loadScript (copy : Nat) (fell : Bool) (x : Script) (s : State) : State :=
  let s := modBoot (fun b => { b with script := some x, copy := copy, fellBack := fell }) s
  let s := modIdent (fun i => { i with node := x.node }) s
  let s := modTc (fun t => { t with
    clapMode := x.clapMode
    clapOffset := x.clapOffset
    clapState := if x.clapMode = 1 then .acquiring else .off }) s
  let s := modSlu (fun u => { u with tableMode := x.drainFirst }) s
  let s := modMem (fun m => { m with timeoutUs := x.memTimeout, home := x.home, addressable := addressableOf s x }) s
  let s := modMpd (fun m => { m with owners := x.owners }) s
  let s := modPod (fun p => { p with route := scriptRoute x, priority := x.priority.toNat }) s
  let s := modPair (fun p => { p with cfg := x.pair }) s
  let s := modRole (fun r => { r with routeId := x.routeId, expect := x.expect, expectAlt := x.expect }) s
  let s := modGaf (fun g => { g with
    reserveBase := x.reserveBase
    reserveStack := x.reserveStack
    fallback := x.fallback
    budget := x.fallback
    rackEid := x.rackEid.toNat
    sites := (List.range 12).foldl (fun t n => tupd {} t n (fun y => { y with cap := x.siteCaps.getD n 1023, pmax := x.sitePmax.getD n 0 })) g.sites }) s
  startValues x ((List.range 12).foldl (fun s n => modSite n (fun y => { y with limits := x.vsite.getD n {} }) s) s)

/-! ### The check of the copy not in use (R411) -/

/-- BOOT_SCRIPT_CTRL.CHECK. -/
def scriptCheck (p : Path) (s : State) : State :=
  if s.boot.checkSt = 1 then s else modBoot (fun b => { b with checkSt := 1, checkCopy := 1 - b.copy, checkItem := 0, checkPath := some p }) s

def execScriptCheck (p : Path) (s : State) : Out := .next (iWrite p 0x02000C 1 (scriptCheck p) s)

/-- The check ends with what it found in the copy. Log entry 84 (DEDUCED). -/
def scriptChecked (c : ScriptCopy) (s : State) : State :=
  if s.flt.safe || s.boot.dark || s.boot.checkSt != 1 then s
  else
    let used := match s.boot.script with
      | some x => x.installerSigned
      | none => false
    let item := scriptItem s (!(used || installerValid s c)) c
    audit s.boot.checkPath 0x11 (BitVec.ofNat 32 (copySeq c)) (if item = 0 then 1 else 0)
      (modBoot (fun b => { b with checkSt := if item = 0 then 2 else 3, checkItem := item, checkPath := none }) s)

def execScriptCheckComplete (c : ScriptCopy) (s : State) : Out := .next (scriptChecked c s)

end Sys2Proof.Machine
end

