-- ==== Sys2Proof/Machine/Pause.lean ====
section
/-! DEFINITION. Site and memory pauses: the request, the dark window, the pause itself (R63 to R66, R139, R243). -/

namespace Sys2Proof.Machine

open Sys2Proof

/-- Frames of a pause window (R63). -/
def windowFrames (log2 : Nat) : Nat :=
  if log2 = 9 then 12 else if log2 = 10 then 6 else if log2 = 11 then 3 else if log2 = 12 then 2 else 1

/-- The tick of frame i counted from the start of the pass that runs, over later passes at the nominal splice interval
(R51). -/
def boundaryTick (s : State) (i : Nat) : Nat :=
  let len := frameLen s s.tc.activeSlot
  let n := max 1 (passFrames s s.tc.activeSlot)
  let k := i % n
  if i < n then s.tc.passStart + k * len
  else s.tc.passStart + n * len + s.tc.spliceLen + (i / n - 1) * (n * len + 16) + k * len

/-- No entry of the active reel lights a port of a station, or sends light to it, in frame k (R64). -/
def frameDark (s : State) (st k : Nat) : Bool :=
  let slot := s.tc.activeSlot
  (List.range 6).all (fun p =>
    !(entryAt s slot k st p).sends &&
      (List.range 36).all (fun x => !((entryAt s slot k x p).sends && (targetsOf (entryAt s slot k x p)).contains st)))

/-- Windows that the search may take: first boundary, end, dark, holding a splice that a swap armed at a tick may take
effect at (R53, R64). -/
def windowAt (s : State) (st i w : Nat) : Nat × Nat × Bool × Bool :=
  let n := max 1 (passFrames s s.tc.activeSlot)
  let idx := (List.range w).map (· + i)
  let dark := idx.all (fun j => frameDark s st (j % n))
  let splice := s.tc.swapArm && idx.any (fun j => j != 0 && j % n == 0 && decide (s.tc.armTick + 2000 ≤ boundaryTick s j))
  (boundaryTick s i, boundaryTick s (i + w - 1) + frameLen s s.tc.activeSlot, dark, splice)

/-- The windows within the search range, in order (R64). Log entry 28 (DEDUCED). -/
def windows (s : State) (st : Nat) : List (Nat × Nat × Bool × Bool) :=
  if reelActive s then
    let w := windowFrames (hdrLog2 s s.tc.activeSlot)
    let lo := s.tc.frame
    let cands := ((List.range 1960).map (· + lo)).filter (fun i =>
      decide (s.now + 2000 ≤ boundaryTick s i ∧ boundaryTick s i ≤ s.now + 1000000))
    cands.map (fun i => windowAt s st i w)
  else
    let base := s.now + (2048 - s.tc.timecode.toNat % 2048)
    let t := if s.now + 2000 ≤ base then base else base + 2048
    [(t, t + 6144, true, false)]

/-- The outcome of a request: a window, or the reason of its refusal (R64). Log entry 29 (DESIGN CHOICE). -/
def pauseOutcome (s : State) (st rate : Nat) : Nat × Option (Nat × Nat) :=
  let blocked := match kindOf st with
    | (.ss, n) => siteFenced s n || siteBusy s n
    | (_, m) => memFenced s m
  if blocked then (3, none)
  else if (tget {} s.tc.pauses st).st ≠ .none then (4, none)
  else
    let rateBad := match kindOf st with
      | (.ss, n) => !siteRateOk s n rate
      | _ => false
    if rateBad then (5, none)
    else
      let ws := (windows s st).filter (fun w => w.2.2.1)
      match ws.find? (fun w => !w.2.2.2) with
      | some w => (0, some (w.1, w.2.1))
      | none => (if ws.isEmpty then 1 else 2, none)

/-- A station that may pause: a memory station, or the station of a site with a die, that the variant carries (R64). -/
def pausable (s : State) (st : Nat) : Bool :=
  match kindOf st with
  | (.ss, n) => decide (st < 36) && sitePresent s.part n
  | (.ms, m) => decide (st < 36) && hasMs s.part.variant m
  | _ => false

/-- Handle a pause request (R63, R64). Log entry 29 (DESIGN CHOICE). -/
def pauseRequest (st rate : Nat) (s : State) : State :=
  if s.flt.safe || !pausable s st || decide (3 ≤ rate) then s
  else
    let (why, win) := pauseOutcome s st rate
    match win with
    | none => modTc (fun t => { t with pauseState := 3, pauseStation := st, pauseReason := why }) s
    | some (a, b) =>
      let s := modTc (fun t => { t with
        pauses := tset {} t.pauses st { st := .scheduled, rate := rate, start := a, windowEnd := b }
        pauseState := 1
        pauseStation := st
        pauseReason := 0
        pauseStart := t.timecode + BitVec.ofNat 64 (a - s.now) }) s
      match kindOf st with
      | (.ss, n) => sideband n .pause [rate, 1, 0, a] s
      | _ => s

/-- A write of TC_PAUSE_REQ (R64): one that is a violation takes no effect, and so is not recorded (R13, R429). -/
def pauseWrite (p : Path) (station rate data : Nat) (s : State) : State :=
  if !pausable s station || decide (3 ≤ rate) then s else iWrite p 0x030050 data (pauseRequest station rate) s

def execTcPauseReq (p : Path) (station rate : Nat) (s : State) : Out :=
  .next (pauseWrite p station rate (station % 64 + 256 * (rate % 4)) s)

/-- A refusal of a die's request is answered too (R281). -/
def dieRefused (n rate : Nat) (s : State) : State :=
  if s.tc.pauseState = 3 ∧ s.tc.pauseStation = ssOf n then sideband n .pause [rate, 0, s.tc.pauseReason, 0] s else s

/-- Show a pause's state where it is the station of the latest request. -/
def showPause (st v : Nat) (s : State) : State :=
  if s.tc.pauseStation = st then modTc (fun t => { t with pauseState := v }) s else s

/-- The window's first boundary: traffic to and from the station waits from here (R65). -/
def pauseBegin (st : Nat) (s : State) : State :=
  let p := tget {} s.tc.pauses st
  if s.flt.safe || p.st != .scheduled || decide (s.now < p.start) then s
  else
    let s := showPause st 2 (modTc (fun t => { t with pauses := tset {} t.pauses st { p with st := .running } }) s)
    match kindOf st with
    | (.ss, n) => modSite n (fun x => { x with st := 4, oldRate := x.rate }) s
    | (_, m) =>
      let x := msSt s m
      let s := modMs m (fun y => { y with st := 2, repairs := 0, lanesRepaired := y.lanesRepaired + x.repairs }) s
      (List.range x.repairs).foldl (fun s _ => raise .memLaneRepaired 2 m 0 s) s

def execPauseWindowStart (station : Nat) (s : State) : Out := .next (pauseBegin station s)

/-- The spare of a lane that failed in a pause is assigned before traffic resumes, with the messages, the count and the fault of a
swap (R248, R250); a lane with no spare left stays failing. -/
def pauseRepair (n m lane : Nat) (s : State) : State :=
  let x := modOf s n m
  let h := lane / 32
  match [2 * h, 2 * h + 1].find? (fun k => x.spares.getD k 0x7F == 0x7F && !x.dead.contains k) with
  | none => s
  | some k =>
    let s := modMod n m (fun y => { y with spares := y.spares.set k lane, failing := y.failing.erase lane }) s
    let s := modCount n (fun c => { c with swaps := min 65535 (c.swaps + 1) }) s
    raise .tsiLaneRepaired 1 n (m + lane * 64) (sideband n .repairDone [m, lane, k % 2] (sideband n .repair [m, lane, k % 2] s))

def pauseRepairs (n : Nat) (s : State) : State :=
  (List.range 64).foldl (fun s m => if modUp s n m then (modOf s n m).failing.foldl (fun s lane => pauseRepair n m lane s) s else s) s

/-- The die's credits that flits not yet acknowledged still use. -/
def heldUse (l : SiteLink) : Tab Nat :=
  ((l.held.filter (fun f => f.type == 1)).map (fun f => f.slots.filterMap id)).flatten.foldl (fun t (x : Slot) => tupd 0 t x.cls.toNat (· + 1)) []

/-- Both directions of a site start flit mode again (R66, R261): the two sides exchange their credits again, and what is not
acknowledged goes again. -/
def linksFresh (n : Nat) (s : State) : State :=
  let s := modSite n (fun x => { x with
    links := (x.links.map (fun p => (p.1, { p.2 with
      naks := 0, nak := false, nakAt := none, dieUsed := [], owe := [], used := heldUse p.2 }))) }) (pauseRepairs n s)
  (List.range 32).foldl (fun s k => if modUp s n (32 + k) then resendHeld n k s else s) s

/-- Retraining at 4.0 Gb/s after a failed memory pause ends (R139). -/
def memFallback (m : Nat) (ok : Bool) (s : State) : State :=
  let st := msOf m
  if s.flt.safe || (tget {} s.tc.pauses st).st != .draining then s
  else
    let s := showPause st 0 (modTc (fun t => { t with pauses := tset {} t.pauses st {} }) s)
    if ok then raise .memRateFallback 2 m 0 (modMs m (fun x => { x with st := 1, rate := 2, fallback := true }) s)
    else raise .memChannelFail 2 m 0 s

def execMemRateFallbackDone (ms : Nat) (ok : Bool) (s : State) : Out := .next (memFallback ms ok s)

/-- A stack lane or a channel's training fails (R139). -/
def stackLane (m : Nat) (ev : StackLaneEvent) (s : State) : State :=
  if s.flt.safe || !hasMs s.part.variant m || memFenced s m then s
  else match ev with
    | .lane l true =>
      if (msSt s m).st = 2 then raise .memLaneRepaired 2 m (l * 32) (modMs m (fun x => { x with lanesRepaired := x.lanesRepaired + 1 }) s)
      else modMs m (fun x => { x with repairs := x.repairs + 1 }) s
    | .lane l false => raise .memChannelFail 2 m (l * 32) s
    | .channelTraining c => raise .memChannelFail 2 m c s

def execStackLaneFail (ms : Nat) (ev : StackLaneEvent) (s : State) : Out := .next (stackLane ms ev s)

end Sys2Proof.Machine
end

