-- ==== Sys2Proof/Machine/Temperature.lean ====
section
/-! DEFINITION. Sensors, station temperatures and the pins that show warnings (R340, R342, R377). Temperatures are in units of
1/16 °C. -/

namespace Sys2Proof.Machine

open Sys2Proof

/-- A number of degrees in 1/16 °C. -/
def deg (c : Int) : Int := 16 * c

/-- Sensor k belongs to station k / 4 (R340); one out of service is in the fence map (R381). -/
def sensorUsed (s : State) (k : Nat) : Bool := hasStation s.part.variant (k / 4) && !fenced s (uSensor k)

def reading (s : State) (k : Nat) : Option Int := tget none s.thm.sens k

/-- Sensors of the variant. -/
def sensors (s : State) : List Nat := (List.range 144).filter (fun k => hasStation s.part.variant (k / 4))

/-- The highest of a list. -/
def maxI : List Int → Option Int
  | [] => none
  | x :: xs => some (xs.foldl max x)

/-- The highest reading among a station's sensors in service. -/
def ownTemp (s : State) (st : Nat) : Option Int :=
  maxI (((List.range 4).map (fun j => 4 * st + j)).filterMap (fun k => if sensorUsed s k then reading s k else none))

/-- The hottest temperature of a field. -/
def fieldTemp (s : State) (f : Nat) : Option Int :=
  maxI (((stations s.part.variant).filter (fun st => fieldOf st == f)).filterMap (ownTemp s))

/-- T_n of a station (R342): with no sensor in service, the hottest of its field. -/
def stationTemp (s : State) (st : Nat) : Option Int :=
  match ownTemp s st with
  | some t => some t
  | none => fieldTemp s (fieldOf st)

/-- The base junction temperature and the lowest station that shows it (R342). -/
def junction (s : State) : Option (Int × Nat) :=
  (stations s.part.variant).foldl (fun a st => match stationTemp s st, a with
    | some t, some (u, n) => if u < t then some (t, st) else some (u, n)
    | some t, none => some (t, st)
    | none, a => a) none

/-- Twice the median of a station's four readings (R342). Log entry 65 (DEDUCED). -/
def median4 (s : State) (st : Nat) : Option Int :=
  let xs := ((List.range 4).map (fun j => 4 * st + j)).filterMap (reading s)
  if xs.length = 4 then
    let ys := sortI xs
    some (ys.getD 1 0 + ys.getD 2 0)
  else none

/-- Every T_n is known and stands at a temperature or above. -/
def allAtLeast (s : State) (t : Int) : Bool :=
  (stations s.part.variant).all (fun st => match stationTemp s st with
    | some u => decide (t ≤ u)
    | none => false)

/-- A message of the thermal block that tells of a temperature and a sensor (R375). -/
def thermAddr (t : Int) (sensor : Nat) : Nat := uns 16 t + sensor * 2 ^ 16

/-- ALERT_N is low while THERMAL_WARNING stands and while PENDING is set (R377). -/
def showAlert (s : State) : State := modPins (fun p => { p with alertN := !(stands s .thermalWarning || s.flt.pending) }) s

/-- A condition with one place that moves ends where it was raised (R374). -/
def standEndAll (k : FaultKind) (block : Nat) (s : State) : State :=
  (s.flt.standing.filter (fun p => p.1 == k)).foldl (fun s p => standEnd k block p.2.1 s) s

end Sys2Proof.Machine
end

