-- ==== Sys2Proof/Machine/Timecode.lean ====
section
/-! DEFINITION. The timecode, the reel sequencer and the clapper (chapter 02). -/

namespace Sys2Proof.Machine

open Sys2Proof

/-- The timecode advances by one, or as a correction step has it (R39, R44), once the copies have been released. -/
def countTick (s : State) : State :=
  if s.tc.fieldsAligned then modTc (fun t => { t with timecode := t.timecode + BitVec.ofInt 64 (1 + t.stepDue), stepDue := 0 }) s else s

/-- The 16 ns pulse of source mode on CLAP_OUT ends (R55). -/
def clapOutEnd (s : State) : State :=
  match s.tc.clapFall with
  | none => s
  | some t => if s.now < t then s else modPins (fun p => { p with clapOut := false }) (modTc (fun c => { c with clapFall := none }) s)

/-- The flash's reset ends, and the base puts it in octal DDR mode (R480). -/
def xspiEnd (s : State) : State :=
  modPins (fun p => { p with xspiResetN := true }) (modBoot (fun b => { b with flashDdr := true, xspiRise := none }) s)

/-- The 10 µs of the flash's reset have passed (R480). -/
def xspiTick (s : State) : State :=
  match s.boot.xspiRise with
  | none => s
  | some t => if s.now < t then s else xspiEnd s

/-- One tick of the 1 GHz domain, in which the crew cores use their scratchpads (R38, R39, R44, R176): the timecode goes on in safe state too, and outside it what waits counts
its stall ticks (R35, R119, R161, R314). The holdover of a lost REFCLK ticks too (R40). Log entry 3 (DESIGN CHOICE). -/
def tick (s : State) : State :=
  let s := xspiTick (clapOutEnd (countTick { s with now := s.now + 1 }))
  if s.flt.safe || !s.tc.fieldsAligned then s
  else mstTick (gripTick (podStall (dmaTick (stallTick (sbTicks s)))))

def execTimecodeTick (crew : List CrewAccess) (s : State) : Out := .next (tick (crewTurn crew s))

/-- A correction step (R44, R45, R311): at most one in 5 µs, applied at the next tick, and only toward the pod's time.
Log entry 30 (DEDUCED). -/
def correction (plus : Bool) (s : State) : State :=
  let spaced := match s.tc.lastStep with
    | none => true
    | some t => decide (t + 5000 ≤ s.now)
  let wanted := if plus then decide (0 < s.tc.diff) else decide (s.tc.diff < 0)
  if s.flt.safe || !s.boot.ready || !spaced || !wanted then s
  else modTc (fun t => { t with
    lastStep := some s.now
    stepDue := if plus then 1 else -1
    diff := if plus then t.diff - 1 else t.diff + 1
    plusSteps := if plus then t.plusSteps + 1 else t.plusSteps
    minusSteps := if plus then t.minusSteps else t.minusSteps + 1 }) s

def execTimeCorrectionStep (plus : Bool) (s : State) : Out := .next (correction plus s)

/-- REFCLK is lost: the regenerators hold their frequency (R40). Before the fields are aligned there is no frequency to
hold. The rule is silent on a REFCLK that returns within the 100 µs: nothing ends the holdover, and a later loss counts from
the first. Log entry 94 (DESIGN CHOICE). -/
def execRefclkLoss (s : State) : Out :=
  .next (if s.flt.safe then s
    else if s.tc.fieldsAligned then modTc (fun t => { t with refclkLost := match t.refclkLost with | some x => some x | none => some s.now }) s
    else raise .refclkLost 10 0 0 s)

/-- 100 µs of holdover expire (R40). -/
def execRefclkHoldoverExpiry (s : State) : Out :=
  .next (match s.tc.refclkLost with
    | none => s
    | some t => if s.flt.safe || decide (s.now < t + 100000) then s
        else raise .refclkLost 10 0 0 (modTc (fun c => { c with refclkLost := none }) s))

/-- The stitches are measured again, once per millisecond, without applying the result (R42): the largest difference of a
station copy from NW, in 1/16 ns. -/
def execStitchRemeasure (skews : List (Nat × Nat)) (s : State) : Out :=
  .next (if s.flt.safe || !s.tc.fieldsAligned || decide (s.now < s.tc.nextStitch) then s
    else
      let m := (skews.map (·.2)).foldl max 0
      let s := modTc (fun t => { t with maxSkew := BitVec.ofNat 8 (min m 255), nextStitch := s.now + 1000000 }) s
      if m > 16 then raise .timecodeAlign 10 0 0 s else s)

/-! ### The splice -/

/-- Nominal pass length of a slot's reel (R51). -/
def nominalPass (s : State) (slot : Nat) : Nat := passFrames s slot * frameLen s slot + 16

/-- A window of a scheduled or running pause contains a tick (R54). -/
def pauseCovers (s : State) (t : Nat) : Bool :=
  s.tc.pauses.any (fun p => p.2.st != .none && decide (p.2.start ≤ t ∧ t < p.2.windowEnd))

/-- The swap takes effect at a splice at this tick: armed, its checks complete, its drain over, each at least 2 µs ago where
R53 says so, and no pause window in the way (R53, R54, R100). Log entry 26 (DEDUCED). -/
def swapReady (s : State) (t : Nat) : Bool :=
  s.tc.swapArm && s.slu.swap == .waiting && s.slu.next == .passed && decide (s.tc.armTick + 2000 ≤ t ∧ s.tc.checkTick + 2000 ≤ t)

/-- Source mode: one pulse of 16 ns at each splice, from its tick (R55). -/
def sourcePulse (t : Nat) (s : State) : State :=
  if s.tc.clapMode = 2 then
    emit (.clapPulse t) (modPins (fun p => { p with clapOut := true }) (modTc (fun c => { c with clapFall := some (t + 16) }) s))
  else s

/-- Fetch the read streams' lines of frame 0 before a pass begins. -/
def prefetch (s : State) : State := fetchFrame s.tc.activeSlot 0 [] [] s

/-- A pass begins at a tick, which is its splice (R51, R52, R55). A pulse that came ahead of the splice has already set the
interval that ends this pass (R56). -/
def beginPass (t : Nat) (s : State) : State :=
  let k := s.tc.spliceNo + 1
  let s := modTc (fun x => { x with
    passStart := t
    frame := 0
    spliceNo := k
    spliceTime := x.timecode
    spliceTicks := tset 0 (x.spliceTicks.filter (fun p => decide (k ≤ p.1 + 10))) k t
    pulls := x.pulls.filter (fun p => decide (k ≤ p.1 + 10))
    spliceLen := (16 + tget 0 x.pulls k).toNat }) s
  syncStreams (prefetch (sourcePulse t (modSlu (fun u => { u with lit := [] }) s)))

/-- The active reel ends: every sluice port stays dark until a start (R54). Log entry 26 (DEDUCED). -/
def endReel (s : State) : State :=
  modSlu (fun u => { u with lit := [] })
    (modTc (fun t => { t with
      reel := .noReel, kept := true, frame := 0, clapSeen := [], pulls := [], idleDone := t.timecode.toNat / 2048 }) s)

/-- The splice at the end of a pass (R51 to R55, R97, R100, R308). Log entry 26 (DEDUCED). -/
def splice (s : State) : State :=
  let slot := s.tc.activeSlot
  let due := s.tc.passStart + passFrames s slot * frameLen s slot + s.tc.spliceLen
  if s.flt.safe || !reelActive s || decide (s.tc.frame < passFrames s slot) || decide (s.now < due) then s
  else
    let s := modTc (fun t => { t with passCount := t.passCount + 1, spliceTime := t.timecode }) s
    if s.tc.reel = .stopping then routeSwap (undarken (endReel (sourcePulse due s)))
    else
      let s := if swapReady s due then
          (if pauseCovers s due then modTc (fun t => { t with swapDeferred := true }) s else exchange s)
        else s
      routeSwap (beginPass due (undarken s))

def execSplice (s : State) : Out := .next (splice s)

/-! ### Starting and stopping -/

/-- The windows start again with the splice that begins the first pass (R57, R58), and a lost clapper is acquired again. -/
def clapStart (s : State) : State :=
  standEnd .clapperLost 10 1 (modTc (fun t => { t with
    clapState := .acquiring, run := 0, relock := 0, clapSeen := [], closeNo := t.spliceNo + 1, pulls := [] }) s)

/-- A reel starts now, or waits for a pulse in follow mode (R54, R59). Log entry 28 (DEDUCED). -/
def startReel (s : State) : State :=
  if s.tc.clapMode = 1 then
    clapStart (modTc (fun t => { t with reel := .waiting, startWait := some s.now, startRefused := false }) s)
  else
    let s := modTc (fun t => { t with reel := .running, startRefused := false, kept := false, run := 0 }) s
    beginPass s.now (undarken s)

/-- A running job owns a station that the reel names (R54, R99). -/
def reelOwned (s : State) (slot : Nat) : Bool :=
  ((records s slot).map (fun r => ((List.range 6).map (fun p =>
    ((lights s r p).map (fun x => x.1 :: targetsOf x.2)).flatten)).flatten)).flatten.any (stationOwned s)

/-- A start sets every feed and landing pointer to its first line (R54, R83); result lines in a millstone's output space stay
there for the feeds that name their context (R219). -/
def pointersFirst (s : State) : State :=
  modSlu (fun u => { u with feeds := [], lands := [], rings := u.rings.filter (fun x => decide (49152 ≤ x.1 % 65536)) }) s

/-- TC_REEL_CTRL.START (R54, R59). The rules do not say that TC_PASS_COUNT restarts at 0 when the kept reel starts again: it
goes on. Log entry 94 (DESIGN CHOICE). -/
def reelStart (s : State) : State :=
  let refused (s : State) : State := modTc (fun t => { t with startRefused := true }) s
  if s.tc.reel ≠ .noReel then refused s
  else if s.slu.next = .passed then
    if !s.slu.tableMode && reelOwned s (1 - s.tc.activeSlot) then refused s else startReel (pointersFirst (exchange s))
  else if s.slu.next = .empty ∧ s.tc.kept = true then
    if !s.slu.tableMode && reelOwned s s.tc.activeSlot then refused s
    else startReel (pointersFirst s)
  else refused s

def execReelStart (p : Path) (s : State) : Out := .next (if mayWrite s p .o then reelStart s else s)

/-- TC_REEL_CTRL.STOP (R54): at the next splice; a start that waits for a pulse ends at once. -/
def reelStop (s : State) : State :=
  match s.tc.reel with
  | .running => modTc (fun t => { t with reel := .stopping }) s
  | .waiting => modTc (fun t => { t with reel := .noReel, kept := true, startWait := none, firstPass := none, clapState := .acquiring }) s
  | _ => s

def execReelStop (p : Path) (s : State) : Out := .next (if mayWrite s p .o then reelStop s else s)

/-! ### The clapper -/

/-- A pulse that a rule calls a violation (R57). Log entry 31 (DEDUCED). -/
def clapViolation (s : State) : State :=
  raise .partnerProtocol 10 1 0 (modTc (fun t => { t with viol := sat32 t.viol 1 }) s)

/-- The splice that ends the pass now running (R51). -/
def nextSplice (s : State) : Nat :=
  s.tc.passStart + passFrames s s.tc.activeSlot * frameLen s s.tc.activeSlot + s.tc.spliceLen

/-- The tick at which the splice j after the next one is expected, with the pulls already known (R51, R56); before the first
pass, the next splice is the one that begins it (R59). -/
def splicePredicted (s : State) : Nat → Nat
  | 0 => s.tc.firstPass.getD (nextSplice s)
  | j + 1 => ((splicePredicted s j + nominalPass s s.tc.activeSlot : Nat) + tget 0 s.tc.pulls (s.tc.spliceNo + 1 + j)).toNat

/-- E_k: the tick of splice k, or the tick at which it is expected (R56). -/
def spliceAt (s : State) (k : Nat) : Nat :=
  if k ≤ s.tc.spliceNo then tget 0 s.tc.spliceTicks k else splicePredicted s (k - s.tc.spliceNo - 1)

/-- d_k of a pulse that arrives now (R56). -/
def arrivalOffset (s : State) (k : Nat) : Int := (s.now : Int) - (spliceAt s k : Nat) - s.tc.clapOffset

/-- The splices whose windows have not closed, as far ahead as the offset can reach (R56, R57). -/
def openWindows (s : State) : List Nat :=
  (List.range (s.tc.spliceNo + 10 - s.tc.closeNo)).map (· + s.tc.closeNo)

/-- The window that a pulse at this tick lies in, with its offset (R56). Log entry 31 (DEDUCED). -/
def windowOf (s : State) : Option (Nat × Int) :=
  (openWindows s).findSome? (fun k => let d := arrivalOffset s k; if decide (-64 ≤ d ∧ d ≤ 64) then some (k, d) else none)

/-- LAST_OFFSET of a pulse outside every window: from the nearest expected arrival (R70). Log entry 31 (DEDUCED). -/
def nearestOffset (s : State) : Int :=
  ((openWindows s).map (arrivalOffset s)).foldl (fun a d => if d.natAbs < a.natAbs then d else a) 4096

/-- LAST_OFFSET, saturated (R70). -/
def showOffset (d : Int) (s : State) : State := modTc (fun t => { t with lastOffset := clampI (-128) 127 d }) s

/-- An in-window pulse (R56, R58): it pulls in the locked and acquiring states; in the lost state the second in a row
returns to locked and pulls. -/
def inWindow (k : Nat) (d : Int) (s : State) : State :=
  let lost := s.tc.clapState == .lost
  let relocks := lost && decide (1 ≤ s.tc.relock)
  let c := if !lost || relocks then clampI (-8) 8 d else 0
  let s := modTc (fun t => { t with
    clapSeen := k :: t.clapSeen
    run := 0
    relock := if lost then t.relock + 1 else 0
    clapState := if lost && !relocks then .lost else .locked
    pulls := tset 0 t.pulls k c
    -- the pass that this splice began ends with the pulled interval
    spliceLen := if k = t.spliceNo then (16 + c).toNat else t.spliceLen }) (showOffset d s)
  if relocks then standEnd .clapperLost 10 1 s else s

/-- The first pulse after a START sets the first pass (R59). -/
def firstPulse (s : State) : State :=
  modTc (fun t => { t with firstPass := some ((s.now : Int) + (nominalPass s s.tc.activeSlot : Nat) - s.tc.clapOffset).toNat }) s

/-- A pulse on CLAP_IN while windows exist (R56 to R58). -/
def windowPulse (s : State) : State :=
  match windowOf s with
  | none => if reelActive s then showOffset (nearestOffset s) (clapViolation s) else s
  | some (k, d) => if s.tc.clapSeen.contains k then showOffset d (clapViolation s) else inWindow k d s

/-- A pulse arrives on CLAP_IN (R55 to R59). Log entry 31 (DEDUCED). -/
def clapPulse (s : State) : State :=
  if s.flt.safe || s.tc.clapMode != 1 then s
  else
    emit (.clapPulse (s.now + 8))
      (if s.tc.startWait.isSome && s.tc.firstPass.isNone then firstPulse s
      else if reelActive s || s.tc.firstPass.isSome then windowPulse s
      else s)

def execClapperPulse (s : State) : Out := .next (clapPulse s)

/-- The window that closes next closes, once its last tick has passed (R57, R58). Log entry 31 (DEDUCED). -/
def windowClose (s : State) : State :=
  let k := s.tc.closeNo
  let watched := s.tc.clapMode == 1 && (reelActive s || s.tc.firstPass.isSome)
  if s.flt.safe || !watched || decide (arrivalOffset s k ≤ 64) then s
  else
    let seen := s.tc.clapSeen.contains k
    let s := modTc (fun t => { t with closeNo := k + 1, clapSeen := t.clapSeen.filter (· != k) }) s
    if seen then s
    else
      let s := modTc (fun t => { t with run := min 3 (t.run + 1), relock := 0 }) s
      if s.tc.run = 3 ∧ s.tc.clapState ≠ .lost then
        standBegin .clapperLost 10 1 0 (modTc (fun t => { t with clapState := .lost, pulls := [], spliceLen := 16 }) s)
      else s

def execClapperWindowClose (s : State) : Out := .next (windowClose s)

/-- The first pass of a reel started in follow mode begins (R59). -/
def followStart (s : State) : State :=
  match s.tc.firstPass with
  | none => s
  | some t =>
    if s.flt.safe || s.tc.reel != .waiting || decide (s.now < t) then s
    else
      beginPass t (undarken (modTc (fun c => { c with reel := .running, startWait := none, firstPass := none, kept := false }) s))

def execFollowFirstPass (s : State) : Out := .next (followStart s)

/-- No pulse within three nominal pass lengths of START: the reel starts free-running (R59). -/
def startTimeout (s : State) : State :=
  match s.tc.startWait with
  | none => s
  | some t =>
    if s.flt.safe || s.tc.reel != .waiting || s.tc.firstPass.isSome || decide (s.now < t + 3 * nominalPass s s.tc.activeSlot) then s
    else
      let s := modTc (fun c => { c with reel := .running, startWait := none, kept := false, clapState := .lost }) s
      standBegin .clapperLost 10 1 0 (beginPass s.now (undarken s))

def execClapperStartTimeout (s : State) : Out := .next (startTimeout s)

/-- Slack stays low for 100 µs with VDD_MILL at its maximum (R61). -/
def slackShort (st : Nat) (s : State) : State :=
  match (tget {} s.tc.slack st).maxSince with
  | none => s
  | some t => if s.flt.safe || !vmillAtMax s || decide (s.now < t + 100000) then s else standBegin .slackShort 0 st 0 s

def execSlackShortTimeout (station : Nat) (s : State) : Out := .next (slackShort station s)

/-! ### Peaks, and the lane rate of a millstone -/

/-- MRC_PEAK_CLEAR for the selected station (R120): the station is that of MRC_SEL. -/
def execPeakClearSelected (p : Path) (s : State) : Out :=
  .next (if mayWrite s p .o then clearPeak ((tget 0 s.csp.sel 0x050000).toNat % 64) s else s)

/-- MRC_PEAK_CLEAR.ALL, of every station and every pod link (R120, R314). -/
def execPeakClearAll (p : Path) (s : State) : Out :=
  .next (if mayWrite s p .o then
    clearPodPeaks (clearPeaks s) else s)

/-- A millstone measures its lane rate, in units of 10 M element operations per second (R194). MILLSTONE_SLOW stands from a
measurement below 1.25 G over a millisecond throughout which VDD_MILL stood at 0.85 V. -/
def laneRate (w rate : Nat) (s : State) : State :=
  if s.flt.safe || !hasWs s.part.variant w then s
  else
    let s := modMst (fun m => { m with rate := tset 0 m.rate w (BitVec.ofNat 8 rate) }) s
    let maxed := vmillAtMax s && (match s.gaf.lastRaise with
      | some t => decide (t + 1000000 ≤ s.now)
      | none => true)
    if decide (rate < 125) then (if maxed then standBegin .millstoneSlow 4 w 0 s else s)
    else standEnd .millstoneSlow 4 w s

def execLaneRateMeasure (ws rate : Nat) (s : State) : Out := .next (laneRate ws rate s)

/-! ### Arming a swap -/

/-- SWAP_ARM (R53, R99, R100). -/
def swapArm (s : State) : State :=
  if s.slu.swap = .draining ∨ s.slu.swap = .waiting then s
  else if s.slu.next ≠ .passed then
    modTc (fun t => { t with swapArm := false }) (modSlu (fun u => { u with swap := .refused, reason := 2 }) s)
  else if !s.slu.tableMode && s.slu.affected.any (stationOwned s) then
    modTc (fun t => { t with swapArm := false }) (modSlu (fun u => { u with swap := .refused, reason := 1 }) s)
  else
    let len := frameLen s s.tc.activeSlot
    let xs := s.slu.affected.filter (fun st => (kindOf st).1 == .xs)
    let s' := modTc (fun t => { t with swapArm := true, armTick := s.now }) s
    if s.slu.tableMode then
      stopFlows (s.slu.affected.foldl (fun s st => revokeStreams st s)
        (modSlu (fun u => { u with swap := .draining, reason := 0, drainEnd := s.now + 2 * len + flowRtt s xs }) s'))
    else modSlu (fun u => { u with swap := .waiting, reason := 0, drained := s.now }) s'

def execSwapArm (p : Path) (s : State) : Out := .next (if mayWrite s p .o then swapArm s else s)

end Sys2Proof.Machine
end

