-- ==== Sys2Proof/Machine/TsiPhys.lean ====
section
/-! DEFINITION. Site interfaces: power, training, trims, repair and degrade (chapter 09). -/

namespace Sys2Proof.Machine

open Sys2Proof

/-- Fence a site for a cause that is the site's own (R249): the message of a kind names it. -/
def siteFence (n cause m g : Nat) (k : FaultKind) (s : State) : State :=
  raise k 1 n (m + g * 2 ^ 13) (siteCause n cause m g s)

/-- Fewer than 8 modules of a direction in service fence the site (R249): the collector's message names it (R381).
Log entry 51 (DEDUCED). -/
def siteCheck (n : Nat) (s : State) : State :=
  let x := siteOf s n
  if x.st != 3 && x.st != 4 then s
  else if (upModules s n false).length < 8 then
    raise .unitFenced 10 3 (unitWord (uSite n)).toNat (siteCause n 1 0 0 s)
  else if (upModules s n true).length < 8 then
    raise .unitFenced 10 3 (unitWord (uSite n)).toNat (siteCause n 2 0 0 s)
  else s

/-! ### Power -/

/-- The words that the base sends in negotiation (R275). -/
def baseWords (s : State) (n : Nat) : Tab Word32 :=
  let l := (siteOf s n).limits
  [(0, 0x00011221), (1, 0x00082007), (2, 0x3FF), (3, 0x371B), (4, 0xFF),
   (5, BitVec.ofNat 32 ((tget {} s.gaf.sites n).pmax % 1024 + 2 ^ 20 * (l.min % 128))),
   (6, BitVec.ofNat 32 (2 ^ 24 * (l.max % 128))), (7, 0x10100020)]

/-- A site is being retried (R383). -/
def siteRetrying (s : State) (n : Nat) : Bool :=
  match (fenceOf s (uSite n)).orElse fun _ => fenceOf s (uStation (ssOf n)) with
  | some e => e.st == .retrying
  | none => false

/-- Power a site up (R241): VSIO, VSITE to START, reset high; then the base starts SB_CLK and sends HELLO (R242, R271).
Log entry 51 (DEDUCED). -/
def sitePowerUp (n : Nat) (s : State) : State :=
  let x := siteOf s n
  let ok := x.st == 1 || (x.st == 5 && siteRetrying s n)
  if s.flt.safe || s.boot.dark || !sitePresent s.part n || !ok || decide (s.boot.phase < 9) then s
  else
    let w := baseWords s n
    let s := modSite n (fun y => { y with
      st := 2
      on := true
      vsio := true
      sb := { start := some s.now }
      vset := y.limits.start
      vreq := y.limits.start
      overvolt := false
      undervolt := false
      groupFail := false
      clamped := false
      mods := []
      links := []
      neg := { base := w, lastTempAt := some s.now } }) s
    emit (.sideband n .hello [0x21]) (modPins (fun p => { p with siteRstHigh := n :: p.siteRstHigh.filter (· ≠ n) }) s)

def execSitePowerUp (site : Nat) (s : State) : Out := .next (sitePowerUp site s)

/-- A die asks for a VSITE setting (R239); codes above 90 are reserved. -/
def execVsiteReq (site code : Nat) (s : State) : Out :=
  .next (if !siteOn s site || decide (90 < code) then s
    else modSite site (fun x => { x with vreq := code }) s)

/-- VSITE moves one code toward the request, clamped to the installer's limits, at most once per microsecond (R239). -/
def vsiteStep (n : Nat) (s : State) : State :=
  let x := siteOf s n
  let goal := max x.limits.min (min x.limits.max x.vreq)
  let spaced := match x.lastStep with
    | none => true
    | some t => decide (t + 1000 ≤ s.now)
  if !siteOn s n || !spaced || x.vset == goal then s
  else modSite n (fun y => { y with vset := if y.vset < goal then y.vset + 1 else y.vset - 1, lastStep := some s.now }) s

def execVsiteStep (site : Nat) (s : State) : Out := .next (vsiteStep site s)

/-- The protections of VSITE (R240). -/
def execSiteOvervolt (site : Nat) (s : State) : Out :=
  .next (if !siteOn s site then s
    else siteFence site 5 0 0 .siteOvervolt (modSite site (fun x => { x with on := false, overvolt := true }) s))

def execSiteUndervolt (site : Nat) (s : State) : Out :=
  .next (if !siteOn s site then s
    else raise .siteUndervolt 1 site 0 (modSite site (fun x => { x with undervolt := true }) s))

def execSiteOvercurrent (site : Nat) (s : State) : Out :=
  .next (if !siteOn s site then s
    else raise .siteOvercurrent 1 site 0 (modSite site (fun x => { x with clamped := true }) s))

def execTsiPowerBumpFail (site group : Nat) (s : State) : Out :=
  .next (if !siteOn s site || decide (64 ≤ group) then s
    else siteFence site 4 0 group .tsiPowerBumpFail (modSite site (fun x => { x with groupFail := true, group := group }) s))

/-! ### Training -/

/-- One module after the lane test: lanes that failed at any rate take their half's spares; a half with more failed lanes
than spares is lost (R244). Log entry 44 (DESIGN CHOICE). -/
def trainModule (failed : List Nat) : SiteMod :=
  let sparesOf (h : Nat) : List Nat := [2 * h, 2 * h + 1].filter (fun k => !failed.contains (64 + k))
  let lanesOf (h : Nat) : List Nat := (List.range 32).filterMap (fun i => if failed.contains (32 * h + i) then some (32 * h + i) else none)
  let lost (h : Nat) : Bool := decide ((sparesOf h).length < (lanesOf h).length)
  let pairs := ((sparesOf 0).zip (if lost 0 then [] else lanesOf 0)) ++ ((sparesOf 1).zip (if lost 1 then [] else lanesOf 1))
  let sp := pairs.foldl (fun l p => l.set p.1 p.2) [0x7F, 0x7F, 0x7F, 0x7F]
  let dead := (List.range 4).filter (fun k => failed.contains (64 + k))
  if failed.contains 68 || (lost 0 && lost 1) then { dead := dead }
  else if lost 0 then { st := 2, half := 1, spares := sp, dead := dead }
  else if lost 1 then { st := 2, half := 0, spares := sp, dead := dead }
  else { st := 1, spares := sp, dead := dead }

/-- Site training runs through to flit mode, or fences the site (R242 to R245, R249). The taps that the site holds, from the warm-trim
area or an earlier training, stand but where the result names a swept lane. -/
def siteTraining (n : Nat) (r : TrainResult) (s : State) : State :=
  let x := siteOf s n
  if s.flt.safe || x.st != 2 then s
  else if !r.answered then siteFence n 7 0 0 .tsiSidebandLost s
  else if !(x.neg.done && x.neg.accepted) then s
  else
    match r.clockFail with
    | some m => siteFence n 3 m 0 .tsiClockFail s
    | none =>
      let d := fld (agreedWord s n 1) 8 6
      let b := fld (agreedWord s n 1) 14 6
      let used := (List.range d) ++ (List.range b).map (· + 32)
      let mods : Tab SiteMod := used.foldl (fun t m => tset {} t m (trainModule ((r.failed.filter (fun p => p.1 == m)).map (·.2)))) []
      let up (lo : Nat) : Nat := ((List.range 32).filter (fun k => (tget {} mods (lo + k)).st != 0)).length
      if up 0 < 8 ∨ up 32 < 8 then siteFence n 6 0 0 .tsiTrainFail s
      else
        let rate := ((List.range 3).find? (siteRateOk s n)).getD 0
        let taps := r.taps.foldl (fun t p => tset 0 t (p.1 * 8192 + p.2.1 * 128 + p.2.2.1) (p.2.2.2.1 % 64 * 32 + p.2.2.2.2 % 32)) x.taps
        capUpdate (syncStreams (modSite n (fun y => { y with
          st := 3, rate := rate, oldRate := rate, mods := mods, links := [], taps := taps, targets := [] }) s))

def execSiteTraining (site : Nat) (res : TrainResult) (s : State) : Out := .next (siteTraining site res s)

/-! ### Trims -/

/-- One step of a lane's taps toward a goal: delay first, never both (R246). -/
def tapStep (cur goal : Nat) : Nat :=
  let d := cur / 32
  let t := cur % 32
  let gd := goal / 32
  let gt := goal % 32
  if d < gd then (d + 1) * 32 + t else if gd < d then (d - 1) * 32 + t
  else if t < gt then d * 32 + (t + 1) else if gt < t then d * 32 + (t - 1) else cur

/-- A trim interval of 10 µs: each D2B lane moves at most one step, toward a target that host software wrote, else toward
the centre that its monitor sees; FREEZE holds both (R246). -/
def trimInterval (n : Nat) (moves : List LaneTrim) (s : State) : State :=
  let x := siteOf s n
  let spaced := match x.lastTrim with
    | none => true
    | some t => decide (t + 10000 ≤ s.now)
  if s.flt.safe || x.st != 3 || !spaced then s
  else
    let s := modSite n (fun y => { y with
      lastTrim := some s.now
      margin := moves.foldl (fun t m => tset none t (m.module * 128 + m.lane) (some (m.width % 64, m.height % 32))) y.margin }) s
    if x.freeze then s
    else
      modSite n (fun y =>
        let aims := (y.targets.filterMap (fun p => p.2.map (fun g => (p.1, g)))) ++
          (moves.filterMap (fun m =>
            let k := m.module * 128 + m.lane
            if m.module < 32 ∧ m.lane < 69 ∧ (tget none y.targets k).isNone = true then some (k, m.delay % 64 * 32 + m.thr % 32) else none))
        let once := aims.foldl (fun acc a => if acc.any (fun b => b.1 == a.1) then acc else acc ++ [a]) []
        let taps := once.foldl (fun t a => tupd 0 t (y.rate * 8192 + a.1) (fun c => tapStep c a.2)) y.taps
        { y with
          taps := taps
          targets := y.targets.filter (fun p => match p.2 with
            | some g => tget 0 taps (y.rate * 8192 + p.1) != g
            | none => false) }) s

def execTrimInterval (site : Nat) (moves : List LaneTrim) (s : State) : Out := .next (trimInterval site moves s)

/-- TSI_LANE_TAP: a target for the taps of a D2B lane (R246, R251). -/
def laneTapWrite (n m lane delay thr : Nat) (s : State) : State :=
  if !sitePresent s.part n || decide (32 ≤ m ∨ 69 ≤ lane) then s
  else modSite n (fun x => { x with targets := tset none x.targets (m * 128 + lane) (some (delay % 64 * 32 + thr % 32)) }) s

def execTsiLaneTapWrite (p : Path) (site module lane delay threshold : Nat) (s : State) : Out :=
  .next (iWrite p (0x0B0028 + 0x1000 * site) (delay % 64 + 256 * (threshold % 32)) (laneTapWrite site module lane delay threshold) s)

/-- TSI_TRIM_CTRL.FREEZE (R246). -/
def execTsiTrimFreeze (p : Path) (site : Nat) (on : Bool) (s : State) : Out :=
  .next (if sitePresent s.part site then iWrite p (0x0B0020 + 0x1000 * site) (b2n on) (modSite site (fun x => { x with freeze := on })) s else s)

/-! ### Repair and degrade -/

/-- The lane that a failing lane counts as: a spare in use stands for the lane it replaces (R250). -/
def laneFor (x : SiteMod) (lane : Nat) : Option Nat :=
  if lane < 64 then some lane
  else if lane < 68 then (let v := x.spares.getD (lane - 64) 0x7F; if v = 0x7F then none else some v)
  else none

/-- The free spare of a half (R248). -/
def freeSpare (x : SiteMod) (h : Nat) : Option Nat :=
  [2 * h, 2 * h + 1].find? (fun k => x.spares.getD k 0x7F == 0x7F && !x.dead.contains k
    && (match x.repair with | some r => r.2 != k | none => true))

/-- The slots of an off B2D module go to another module of the site, all to one so that they keep their order, ahead of later
slots, rerouted with the partner as ORIGIN (R267). Log entry 50 (DEDUCED). -/
def rerouteSlots (n k : Nat) (es : List HopEntry) (s : State) : State :=
  match pickModule s n none with
  | none => s
  | some j => modLink n j (fun l => { l with hopper := es.map (fun e => { e with origin := some (e.origin.getD k) }) ++ l.hopper }) s

/-- A module turns off (R248, R267). A D2B module's last accepted SEQ goes out; a B2D module's flits wait for the die's
MODULE_OFF_ACK, and what its hopper holds waits behind them, or moves at once where none is held. -/
def moduleOff (n m : Nat) (s : State) : State :=
  let k := m % 32
  let l := linkOf s n k
  let seq := if m < 32 then (l.expect + 4095) % 4096 else 0
  let s := modMod n m (fun _ => {}) s
  let s := modCount n (fun c => { c with offs := min 255 (c.offs + 1) }) s
  let s := sideband n .moduleOff [m, seq] s
  let s := if m < 32 then s
    else if l.held.isEmpty then rerouteSlots n k l.hopper (modLink n k (fun y => { y with hopper := [] }) s)
    else modLink n k (fun y => { y with offWait := true }) s
  siteCheck n (capUpdate (raise .tsiModuleOff 1 n m s))

/-- A lane of a module fails (R247, R248, R250). Log entry 51 (DEDUCED). -/
def laneFail (n m lane0 : Nat) (s : State) : State :=
  let x := modOf s n m
  let st := (siteOf s n).st
  if s.flt.safe || (st != 3 && st != 4) || !modUp s n m then s
  else
    match laneFor x lane0 with
    | none => if 64 ≤ lane0 ∧ lane0 < 68 then modMod n m (fun y => { y with dead := (lane0 - 64) :: y.dead.filter (· ≠ lane0 - 64) }) s
        else if lane0 = 68 then moduleOff n m s else s
    | some lane =>
      -- a spare that failed no longer stands for its lane
      let s := if 64 ≤ lane0 then modMod n m (fun y => { y with dead := (lane0 - 64) :: y.dead, spares := y.spares.set (lane0 - 64) 0x7F }) s else s
      let x := modOf s n m
      let h := lane / 32
      let wait (s : State) : State := modMod n m (fun y => { y with failing := if y.failing.contains lane then y.failing else y.failing ++ [lane] }) s
      let otherWhole := !(x.failing.any (fun f => f / 32 != h)) && (match x.repair with | some r => r.1 / 32 == h | none => true)
      if x.st = 2 ∧ h ≠ x.half then s
      else if st = 4 ∨ x.narrowing.isSome = true then wait s
      else if x.repair.isSome then
        if (freeSpare x h).isNone ∧ (x.st = 2 ∨ otherWhole = false) then moduleOff n m s else wait s
      else
        match freeSpare x h with
        | some k => sideband n .repair [m, lane, k % 2] (modMod n m (fun y => { y with repair := some (lane, k) }) s)
        | none =>
          if x.st = 1 ∧ otherWhole = true then
            sideband n .narrow [m, 1 - h] (modMod n m (fun y => { y with narrowing := some (1 - h) }) s)
          else moduleOff n m s

/-- A D2B lane is failing (R247): its eye as measured is narrower than 8 delay taps or lower than 4 threshold taps, more than 256
corrected symbols came to it within 1 ms, or it does not toggle for 1,024 UI. -/
def laneFailing (s : State) (n m lane : Nat) (stuck : Bool) : Bool :=
  let x := siteOf s n
  let k := m * 128 + lane
  stuck || (match tget none x.margin k with
    | some (w, h) => decide (w < 8 ∨ h < 4)
    | none => false) || decide (256 < ((tget [] x.laneTimes k).filter (fun t => decide (s.now < t + 1000000))).length)

def execLaneFailing (site module lane : Nat) (stuck : Bool) (s : State) : Out :=
  .next (if decide (module < 32) && laneFailing s site module lane stuck then laneFail site module lane s else s)

/-- A die reports a failing B2D lane (R247). -/
def execLaneFail (site module lane : Nat) (s : State) : Out :=
  .next (if 32 ≤ module ∧ module < 64 then laneFail site module lane s else s)

/-- Handle the lanes that waited, in order; one that still has to wait waits on (R250). -/
def laneQueue (n m : Nat) (s : State) : State :=
  (modOf s n m).failing.foldl (fun s l => laneFail n m l (modMod n m (fun x => { x with failing := x.failing.erase l }) s)) s

/-- The spare has carried the lane for 256 flits and is selected (R248). -/
def spareDone (n m : Nat) (s : State) : State :=
  match (modOf s n m).repair with
  | none => s
  | some (lane, k) =>
    if s.flt.safe || !modUp s n m then s
    else
      let s := modMod n m (fun x => { x with repair := none, spares := x.spares.set k lane }) s
      let s := modCount n (fun c => { c with swaps := min 65535 (c.swaps + 1) }) s
      laneQueue n m (raise .tsiLaneRepaired 1 n (m + lane * 64) (sideband n .repairDone [m, lane, k % 2] s))

def execSpareCompareDone (site module : Nat) (s : State) : Out := .next (spareDone site module s)

/-- A narrowing ends: the module runs on the kept half, its unacknowledged flits replayed (R248). Log entry 51 (DEDUCED). -/
def narrowDone (n m : Nat) (s : State) : State :=
  match (modOf s n m).narrowing with
  | none => s
  | some h =>
    if s.flt.safe then s
    else
      let s := modMod n m (fun x => { x with
        st := 2, half := h, narrowing := none, failing := x.failing.filter (fun l => l / 32 == h) }) s
      let s := modCount n (fun c => { c with narrows := min 255 (c.narrows + 1) }) s
      let s := if m < 32 then s else resendHeld n (m % 32) s
      laneQueue n m (capUpdate (raise .moduleNarrowed 1 n m s))

def execNarrowingComplete (site module : Nat) (s : State) : Out := .next (narrowDone site module s)

/-- 6 µs after a site pause fell back, the modules not in flit mode turn off (R243). Log entry 51 (DEDUCED). -/
def fallbackEnd (n notInFlit : Nat) (s : State) : State :=
  match (siteOf s n).fallbackAt with
  | none => s
  | some t =>
    if s.flt.safe || decide (s.now < t + 6000) then s
    else
      let s := modSite n (fun x => { x with fallbackAt := none }) s
      let off := (List.range 64).filter (fun m => modUp s n m && decide (notInFlit / 2 ^ m % 2 = 1))
      let s := off.foldl (fun s m => moduleOff n m s) s
      capUpdate (raise .tsiRateFallback 1 n 0 s)

def execSiteRateFallbackEnd (site notInFlit : Nat) (s : State) : Out := .next (fallbackEnd site notInFlit s)

/-- A forwarded clock fails to lock or loses lock for longer than 1 µs (R249). -/
def execTsiClockFail (site module : Nat) (s : State) : Out :=
  .next (if s.flt.safe || decide ((siteOf s site).st < 2) || (siteOf s site).st == 5 || decide (64 ≤ module) then s
    else siteFence site 3 module 0 .tsiClockFail s)

end Sys2Proof.Machine
end

