-- ==== Sys2Proof/Machine/TsiSideband.lean ====
section
/-! DEFINITION. The sideband of a site interface and the negotiation (R271 to R278, R281). -/

namespace Sys2Proof.Machine

open Sys2Proof

/-- The site's sideband runs: from power-up to its fence or power-down. Log entry 1 (DESIGN CHOICE). -/
def sbLive (s : State) (n : Nat) : Bool :=
  !s.flt.safe && sitePresent s.part n && decide (2 ≤ (siteOf s n).st ∧ (siteOf s n).st ≤ 4)

/-- A sideband message of negotiation breaks the silence that R249 counts. -/
def heard (n : Nat) (s : State) : State :=
  if (siteOf s n).neg.done then s else modNeg n (fun g => { g with lastTempAt := some s.now }) s

/-- HELLO_ACK: the die is aligned, gives its revision, and the base sends its words (R271, R273, R276). -/
def helloAck (n : Nat) (rev : Byte) (s : State) : State :=
  if !sbLive s n || (siteOf s n).neg.aligned then s
  else
    let s := heard n (modNeg n (fun g => { g with aligned := true, ackRev := rev }) s)
    let s := (siteOf s n).neg.base.foldl (fun s p => sideband n .cap [p.1, p.2.toNat] s) s
    sideband n .capEnd [7] s

def execHelloAck (site : Nat) (revision : Byte) (s : State) : Out := .next (helloAck site revision s)

/-- CAP: a word of the die (R276, R277). -/
def capWordIn (n w : Nat) (v : Word32) (s : State) : State :=
  if !sbLive s n || !(siteOf s n).neg.aligned || (siteOf s n).neg.done || decide (32 ≤ w) then s
  else heard n (modNeg n (fun g => { g with
    die := if w < 8 then tset 0 g.die w v else g.die
    dieSent := if g.dieSent.contains w then g.dieSent else g.dieSent ++ [w]
    unsupported := if w < 8 then g.unsupported else g.unsupported ||| BitVec.ofNat 32 (2 ^ w) }) s)

def execCap (site word : Nat) (value : Word32) (s : State) : Out := .next (capWordIn site word value s)

/-- The agreed word of two sides (R275, R276, R278). Log entry 92 (DEDUCED). -/
def agreeWord (k : Nat) (b d : Word32) (rev : Nat) : Word32 :=
  let f (w : Word32) (lo n : Nat) : Nat := fld w lo n
  let old := decide (rev < 0x20)
  BitVec.ofNat 32 (
    if k = 0 then min (f b 0 8) (f d 0 8) + 2 ^ 8 * max (f b 8 8) (f d 8 8) + 2 ^ 16 * f d 16 16
    else if k = 1 then
      (f b 0 3 &&& f d 0 3 &&& (if old then 3 else 7)) + 2 ^ 8 * min (f b 8 6) (f d 8 6) + 2 ^ 14 * min (f b 14 6) (f d 14 6)
    else if k = 2 then (f b 0 10 &&& f d 0 10 &&& (if old then 0x3FC else 0x3FF))
    else if k = 3 then (f b 0 8 &&& f d 8 8) + 2 ^ 8 * (f b 8 8 &&& f d 0 8)
    else if k = 4 then (f b 0 8 &&& f d 0 8)
    else if k = 5 then min (f b 0 10) (f d 0 10) + 2 ^ 10 * f d 10 10 + 2 ^ 20 * max (f b 20 7) (f d 20 7)
    else if k = 6 then f d 0 24 + 2 ^ 24 * min (f b 24 7) (f d 24 7)
    else b.toNat)

/-- The cases in which the base refuses a site (R276). Log entry 92 (DEDUCED). -/
def agreeFails (a : Nat → Word32) (d : Nat → Word32) : Bool :=
  let sends := fld (d 3) 0 8
  let recvs := fld (d 3) 8 8
  decide (fld (a 0) 0 8 < fld (a 0) 8 8) || decide (fld (a 1) 0 3 = 0) || decide (fld (a 1) 8 6 < 8) || decide (fld (a 1) 14 6 < 8)
    || decide (recvs &&& 0xB ≠ 0xB) || decide (sends &&& 7 ≠ 7) || decide (fld (d 7) 8 8 < 16)
    || (bit (a 2) 8 && decide (fld (d 7) 16 8 < 16))

/-- CAP_END: the base forms and sends the agreed words, and accepts or refuses the site (R276, R277).
Log entry 92 (DEDUCED). -/
def capEnd (n : Nat) (s : State) : State :=
  let g := (siteOf s n).neg
  if !sbLive s n || !g.aligned || g.done then s
  else
    let d (k : Nat) : Word32 := tget 0 g.die k
    let b (k : Nat) : Word32 := tget 0 g.base k
    let rev := min (fld (b 0) 0 8) (fld (d 0) 0 8)
    let a (k : Nat) : Word32 := agreeWord k (b k) (d k) rev
    let agreed : Tab Word32 := (List.range 8).foldl (fun t k => tset 0 t k (a k)) []
    let bad := agreeFails a d
    let s := modNeg n (fun x => { x with
      agreed := agreed, revision := rev, done := true, accepted := !bad, legacy := decide (rev < 0x20)
      newer := decide (0x21 < fld (d 0) 0 8), lastTempAt := some s.now }) s
    let idx := (List.range 32).filter (fun k => decide (k < 8) || g.dieSent.contains k)
    let s := idx.foldl (fun s k => sideband n .agreed (if k < 8 then [k, (a k).toNat, 0] else [k, 0, 1]) s) s
    let s := sideband n .agreedEnd [b2n (!bad)] s
    if bad then siteFence n 6 0 0 .tsiTrainFail s else s

def execCapEnd (site : Nat) (s : State) : Out := .next (capEnd site s)

/-- RESEND: the message to which the word in the base's latest window belonged goes again from its first word (R272). -/
def resendSb (n : Nat) (s : State) : State :=
  if !sbLive s n then s
  else
    let s := modCount n (fun c => { c with resendGot := min 65535 (c.resendGot + 1) }) s
    match (siteOf s n).sb.sent with
    | some m => emit (.sideband n m.kind m.vals) (modSite n (fun x => { x with sb := sbAgain x.sb }) s)
    | none => s

def execResend (site : Nat) (s : State) : Out := .next (resendSb site s)

/-- A word with a parity error, or that fits no message in progress: the message is discarded and RESEND goes out (R272). -/
def execSidebandWordError (site : Nat) (s : State) : Out :=
  .next (if !sbLive s site then s
    else sideband site .resend [] (modCount site (fun c => { c with resendSent := min 65535 (c.resendSent + 1) }) s))

/-- No TEMP, or no answer in negotiation, for 1 ms (R249, R274). -/
def sidebandLost (n : Nat) (s : State) : State :=
  match (siteOf s n).neg.lastTempAt with
  | none => s
  | some t => if !sbLive s n || decide (s.now < t + 1000000) then s else siteFence n 7 0 0 .tsiSidebandLost s

def execSidebandLost (site : Nat) (s : State) : Out := .next (sidebandLost site s)

/-- PAUSE_REQ, where PAUSE is agreed (R273, R281): answered with PAUSE; a reserved rate is a violation. -/
def execPauseReq (site rate : Nat) (s : State) : Out :=
  .next (if !sbLive s site || !bit (siteFeatures s site) 3 || decide (3 ≤ rate) then s
    else dieRefused site rate (pauseRequest (ssOf site) rate s))

/-- MODULE_OFF_ACK (R267): of a B2D module it names the last SEQ that the die accepted; the slots of the flits after it go
again on the other modules. -/
def moduleOffAck (n m seq : Nat) (s : State) : State :=
  let k := m % 32
  let l := linkOf s n k
  if !sbLive s n || decide (m < 32 ∨ 64 ≤ m) || !l.offWait then s
  else
    let acked := l.held.findIdx? (fun f => f.seq.toNat == seq)
    let from_ := match acked with
      | some i => i + 1
      | none => 0
    let es := ((l.held.drop from_).zip (l.heldNo.drop from_)).map (fun (p : Flit × Nat) =>
      ({ slots := p.1.slots.filterMap id, stream := p.1.type == (3 : BitVec 4)
         origin := if p.1.rerouted then some p.1.origin.toNat else none, no := p.2 } : HopEntry))
    rerouteSlots n k (es.filter (fun e => !e.slots.isEmpty) ++ l.hopper)
      (modLink n k (fun y => { y with held := [], heldNo := [], hopper := [], offWait := false, used := [] }) s)

def execModuleOffAck (site module seq : Nat) (s : State) : Out := .next (moduleOffAck site module seq s)

end Sys2Proof.Machine
end

