-- ==== Sys2Proof/Machine/Gaffer.lean ====
section
/-! DEFINITION. The gaffer: ceilings, division of the budget, limits and their clamp, budgets, slew, pace and energy
(R350 to R370). -/

namespace Sys2Proof.Machine

open Sys2Proof

def powOf (s : State) (n : Nat) : SitePow := tget {} s.gaf.sites n
def modPow (n : Nat) (f : SitePow → SitePow) (s : State) : State := modGaf (fun g => { g with sites := tupd {} g.sites n f }) s

def ratMin (a b : Rat) : Rat := if a ≤ b then a else b
def ratMax (a b : Rat) : Rat := if a ≤ b then b else a
def ratSum (xs : List Rat) : Rat := xs.foldl (· + ·) 0
def ratFloor (a : Rat) : Nat := a.floor.toNat

/-- The gaffer runs: the script is read, and neither safe state nor the dark state stands. Log entry 1 (DESIGN CHOICE). -/
def gafRuns (s : State) : Bool := csOpen s

/-- A site is in service: its die runs, in a site pause too (R355, R358). -/
def siteServing (s : State) (n : Nat) : Bool := siteUp s n && ((siteOf s n).st == 3 || (siteOf s n).st == 4)

/-- Latest 10 µs mean, and the mean of the last 1 ms. -/
def meanNow (s : State) (n : Nat) : Nat := match (powOf s n).means with
  | [] => 0
  | m :: _ => m.2
def meanMs (s : State) (n : Nat) : Nat :=
  let ms := (powOf s n).means
  (ms.map (·.2)).sum / max 1 ms.length

/-! ### Ceilings and division -/

/-- The pace-follow ceiling P_d × (1 − s)³ (R366). -/
def paceCeil (p : Nat × Nat) : Rat := (p.1 : Rat) * (((1000 - p.2) ^ 3 : Nat) : Rat) / 1000000000

/-- The ceiling of a site, in W (R353). Log entry 71 (DEDUCED). -/
def ceiling (s : State) (n : Nat) : Rat :=
  if siteServing s n then
    let p := powOf s n
    let pm : Rat := (agreedPmax s n : Nat)
    let f := ratMin ((p.factor : Rat) / 100000) ((s.gaf.f : Rat) / 1000000)
    let c := ratMin (ratMin pm (p.cap : Nat)) (pm * f)
    let c := match p.tempCeil with
      | some t => ratMin c ((t : Rat) / 100)
      | none => c
    let c := match p.pace with
      | some x => ratMin c (paceCeil x)
      | none => c
    ratMax c (agreedPidle s n : Nat)
  else 0

/-- The reserves of base and memory (R357), in W. -/
def reserves (s : State) : Nat :=
  s.gaf.reserveBase + s.gaf.reserveStack * ((memStations s.part.variant).filter (fun m => !memFenced s m)).length

/-- The minimum budget (R355), in 1/100 W. -/
def minBudget (s : State) : Nat :=
  100 * reserves s + 108 * (((List.range 12).filter (siteServing s)).map (agreedPidle s)).sum

/-- A grant is in force (R355). -/
def granted (s : State) : Bool := s.gaf.expiry.isSome

/-- Divide a total by weight among members that each keep at most a cap (R358 steps 2 to 4): member, cap, weight. -/
def fillShares : Nat → Rat → List (Nat × Rat × Nat) → List (Nat × Rat)
  | 0, _, _ => []
  | fuel + 1, total, xs =>
    let w := (xs.map (fun x => x.2.2)).sum
    let part (x : Nat × Rat × Nat) : Rat := total * (x.2.2 : Nat) / ((max 1 w : Nat) : Rat)
    let overs := xs.filter (fun x => decide (x.2.1 < part x))
    if overs.isEmpty then xs.map (fun x => (x.1, part x))
    else
      overs.map (fun x => (x.1, x.2.1)) ++
        fillShares fuel (ratMax 0 (total - ratSum (overs.map (fun x => x.2.1)))) (xs.filter (fun x => !decide (x.2.1 < part x)))

/-- The parts of the sites and the shares of the jobs, in W (R355, R357, R358). -/
def division (s : State) : List (Nat × Rat) × List (Nat × Rat) :=
  let ins := (List.range 12).filter (siteServing s)
  if 100 * s.gaf.budget < minBudget s then (ins.map (fun n => (n, ((agreedPidle s n : Nat) : Rat))), [])
  else
    let pool : Rat := (((100 * s.gaf.budget : Nat) : Int) - ((100 * reserves s + s.gaf.withheld : Nat) : Int) : Int) / (108 : Rat)
    let jobs := (runningJobs s).filter (fun j => (jobSites s j).any (siteServing s))
    let free := (ins.filter (fun n => (jobOfSite s n).isNone)).map (fun n => (n, ratMin ((agreedPidle s n : Nat) : Rat) (ceiling s n)))
    let sitesOf (j : Nat) : List Nat := (jobSites s j).filter (siteServing s)
    let cap (j : Nat) : Rat :=
      let all := ratSum ((sitesOf j).map (ceiling s))
      let c := tget 0xFFF s.gaf.jobCap j
      if c = 0xFFF then all else ratMin all (c : Nat)
    let shares := fillShares 16 (ratMax 0 (pool - ratSum (free.map (·.2)))) (jobs.map (fun j => (j, cap j, jobWeight s j)))
    let parts := (shares.map (fun x => fillShares 13 x.2 ((sitesOf x.1).map (fun n => (n, ceiling s n, 1))))).flatten
    (free ++ parts, shares)

/-- The limit of a site: its part in whole watts, never below its PIDLE (R358 step 5). -/
def limitOf (s : State) (parts : List (Nat × Rat)) (n : Nat) : Nat :=
  let part : Rat := match parts.find? (fun p => p.1 == n) with
    | some p => p.2
    | none => 0
  max (ratFloor part) (ratFloor (ratMin (agreedPidle s n : Nat) (ceiling s n)))

/-- A pace-follow ceiling, and nothing else, holds a site's limit down. Log entry 68 (DEDUCED). -/
def onlyPaced (p : SitePow) (limit : Nat) : Bool := match p.pace with
  | some x => decide (ratFloor (paceCeil x) ≤ limit)
  | none => false

/-- POWER_LIMIT goes to a site, and is checked 50 µs after its end (R359, R360, R364, R368): a lower limit keeps the demand it was lowered from; a higher one ends
the clamp; one that pace-follow lowers clamps a die without PACE at once. Log entry 68 (DEDUCED). -/
def sendLimit (n limit : Nat) (s : State) : State :=
  let mean := meanMs s n
  let atOnce := (powOf s n).pace.isSome && decide (limit < (powOf s n).limit) && !bit (siteFeatures s n) 1
  sideband n .powerLimit [limit] (modPow n (fun p => { p with
    limit := limit
    limitAt := none
    checkDue := !atOnce
    waitLimit := none
    demand := if limit < p.limit then (if p.limit < p.demand then p.demand else if limit < mean then mean else 0)
      else if p.demand ≤ limit then 0 else p.demand
    clamped := if p.limit < limit then false else p.clamped || atOnce
    lowSince := none }) s)

/-- BUDGET_SHORT stands while the budget is below the minimum (R355). -/
def budgetAddr (s : State) (w : Nat) : Nat := w % 65536 + s.gaf.grantId.toNat * 65536
def shortCheck (s : State) : State :=
  if 100 * s.gaf.budget < minBudget s then standBegin .budgetShort 9 63 (budgetAddr s s.gaf.budget) s
  else standEnd .budgetShort 9 63 s

/-- Since when the budget of a grant exceeds the allocation by 50 W or more (R356). Log entry 66 (DEDUCED). -/
def excessCheck (s : State) : State :=
  let big := granted s && decide (s.gaf.alloc + 5000 ≤ 100 * s.gaf.budget)
  modGaf (fun g => { g with excessSince := if big then (match g.excessSince with | some t => some t | none => some s.now) else none }) s

/-- Divide the site pool, and send the limits that change by 2 W or more: lower ones now, higher ones 50 µs after the last
lower one (R358, R359). Log entry 69 (DEDUCED). -/
def divideCore (s : State) : State :=
  if !gafRuns s then s
  else
    let (parts, shares) := division s
    let ins := (List.range 12).filter (siteServing s)
    let lims := ins.map (fun n => (n, limitOf s parts n))
    let lows := lims.filter (fun x => decide (x.2 + 2 ≤ (powOf s x.1).limit))
    let highs := lims.filter (fun x => decide ((powOf s x.1).limit + 2 ≤ x.2))
    let s := modGaf (fun g => { g with
      alloc := 100 * reserves s + 108 * (lims.map (·.2)).sum
      jobShare := shares.foldl (fun t x => tset 0 t x.1 (ratFloor x.2)) [] }) s
    let s := ((List.range 12).filter (fun n => !siteServing s n)).foldl (fun s n =>
      modPow n (fun p => { p with limit := 0, limitAt := none, waitLimit := none, demand := 0, clamped := false, lowSince := none }) s) s
    let s := lows.foldl (fun s x => sendLimit x.1 x.2 s) s
    let s := lims.foldl (fun s x =>
      if highs.contains x || lows.contains x then s else modPow x.1 (fun p => { p with waitLimit := none }) s) s
    let s := highs.foldl (fun s x =>
      match (powOf s x.1).waitLimit with
      | some (_, t) =>
        if s.now < t then modPow x.1 (fun p => { p with waitLimit := some (x.2, t) }) s
        else if lows.isEmpty then sendLimit x.1 x.2 s else modPow x.1 (fun p => { p with waitLimit := some (x.2, s.now + 50000) }) s
      | none => if lows.isEmpty then sendLimit x.1 x.2 s else modPow x.1 (fun p => { p with waitLimit := some (x.2, s.now + 50000) }) s) s
    excessCheck (shortCheck s)

/-! ### Releases -/

/-- Release part of a grant's budget (R356): the budget in force becomes KEPT. Log entry 66 (DEDUCED). -/
def release (reason amount : Nat) (s : State) : State :=
  if granted s && decide (0 < amount) && decide (amount ≤ s.gaf.budget) then
    let kept := s.gaf.budget - amount
    let r : Release := { id := s.gaf.grantId, released := amount, kept := kept, reason := reason, sent := s.now }
    emit (.rack s.gaf.rackEid "BUDGET_RELEASE" [r.id.toNat, amount, kept, reason])
      (modGaf (fun g => { g with budget := kept, release := some r, excessSince := none }) s)
  else s

/-! ### Pace -/

/-- The slowdown of a site whose limit stands below its demand, in 0.1 % rounded up (R364). Log entry 68 (DEDUCED). -/
def cubeSlow (limit demand : Nat) : Nat :=
  ((List.range 1001).find? (fun k => decide ((1000 - k) ^ 3 * demand ≤ limit * 1000000000))).getD 1000

def siteSlow (s : State) (n : Nat) : Nat :=
  let p := powOf s n
  if p.limit < p.demand ∧ onlyPaced p p.limit = false then cubeSlow p.limit p.demand else 0

/-- The slowdown of a member that was late in at least 4 of the last 8 runs of a context (R364). Log entry 69 (DEDUCED). -/
def lateSlow (s : State) (c m : Nat) : Nat :=
  let x := ctxAt s c
  let chunks := max 1 (recOf s c).chunks
  let per := x.opens.map (fun o =>
    (x.lates.filter (fun l => l.member == m && l.no / chunks == o.1)).map (fun l => l.late.getD (s.now - l.at_)))
  let span := match x.opens.head?, x.opens.getLast? with
    | some a, some b => a.2 - b.2
    | _, _ => 0
  let n := x.opens.length
  if decide (4 ≤ (per.filter (fun l => !l.isEmpty)).length) && decide (0 < span) then
    let total := (per.map (fun l => l.foldl max 0)).sum
    -- mean lateness over mean interval, both over the runs that are known
    min 1000 ((1000 * total * (n - 1) + n * span - 1) / (n * span))
  else 0

/-- The slowdown of a job and its cause: 1 capped, 2 late, 3 both (R364, R365). -/
def jobSlow (s : State) (j : Nat) : Nat × Nat :=
  let a := ((jobSites s j).map (siteSlow s)).foldl max 0
  let cs := (liveCtxs s).filter (fun c => (recOf s c).job == j)
  let b := ((cs.map (fun c => ((ctxAt s c).lates.map (·.member)).eraseDups.map (lateSlow s c))).flatten).foldl max 0
  (max a b, b2n (decide (50 < a)) + 2 * b2n (decide (50 < b)))

/-- The slowdown in force for a job: the largest of its notices (R366). -/
def paceInForce (s : State) (j : Nat) : Nat :=
  ((s.gaf.paceIn.filter (fun p => p.job == jobPod s j)).map (·.slowdown)).foldl max 0

def paceFollows (s : State) (j : Nat) : Bool :=
  match jobPaceFollow s j with
  | 1 => true
  | 2 => false
  | _ => bit s.gaf.ctrl 1

/-- The job's slowdown acts at this node (R366): PACE to the local dies, and the pace-follow ceilings with the power that they
free. Log entry 69 (DEDUCED). -/
def applyPace (j : Nat) (s : State) : State :=
  let sd := paceInForce s j
  let told := (tget {} s.gaf.paceOut j).told
  let s := if sd + 10 ≤ told ∨ told + 10 ≤ sd then
      ((jobSites s j).filter (fun n => siteServing s n && bit (siteFeatures s n) 1)).foldl (fun s n => sideband n .pace [sd] s)
        (modGaf (fun g => { g with paceOut := tupd {} g.paceOut j (fun o => { o with told := sd }) }) s)
    else s
  let sites := (jobSites s j).filter (siteServing s)
  if paceFollows s j && decide (0 < sd) then
    let olds := sites.map (fun n => (powOf s n).limit)
    let t := sites.foldl (fun s n =>
      let pd := match (powOf s n).pace with
        | some p => p.1
        | none => meanMs s n
      modPow n (fun p => { p with pace := some (pd, sd) }) s) s
    if t.gaf.sites = s.gaf.sites then s
    else
      let freed := ((sites.zip olds).map (fun x => x.2 - ratFloor (ceiling t x.1))).sum
      if granted t then divideCore (release 2 (108 * freed / 100) t)
      else divideCore (modGaf (fun g => { g with withheld := g.withheld + 108 * freed }) t)
  else
    let t := (jobSites s j).foldl (fun s n => modPow n (fun p => { p with pace := none }) s) s
    if t.gaf.sites = s.gaf.sites then s
    else
      let left := (List.range 12).any (fun n => (powOf t n).pace.isSome)
      divideCore (modGaf (fun g => { g with withheld := if left then g.withheld else 0 }) t)

/-- A notice reaches this gaffer (R365, R366): the latest of each source is kept. -/
def receivePace (m : PaceMsg) (s : State) : State :=
  let js := (runningJobs s).filter (fun j => jobPod s j == m.podJob)
  if js.isEmpty then s
  else
    let same (p : PaceIn) : Bool := p.job == m.podJob && p.source == m.source
    let newer := match s.gaf.paceIn.find? same with
      | some p => decide (0 < (m.seq - p.seq).toNat ∧ (m.seq - p.seq).toNat < 32768)
      | none => true
    if !newer then s
    else
      let e : PaceIn := { job := m.podJob, source := m.source, seq := m.seq, slowdown := m.slowdown, at_ := s.now }
      js.foldl (fun s j => applyPace j s) (modGaf (fun g => { g with paceIn := g.paceIn.filter (fun p => !same p) ++ [e] }) s)

def execPaceNotice (m : PaceMsg) (s : State) : Out := .next (if gafRuns s then receivePace m s else s)

/-- Member nodes of a job (R425). -/
def jobNodes (s : State) (j : Nat) : List Nat :=
  let st := max 1 (jobStride s j)
  if jobLast s j < jobFirst s j then [] else (List.range ((jobLast s j - jobFirst s j) / st + 1)).map (fun i => jobFirst s j + i * st)

/-- Send a notice to every other member node on its SIG flow, and apply it here (R365). Log entry 11 (PRESUMED). -/
def sendPace (j sd cause : Nat) (s : State) : State :=
  let o : PaceOut := tget {} s.gaf.paceOut j
  let m : PaceMsg := { podJob := jobPod s j, slowdown := sd, source := s.ident.node, seq := o.seq, cause := BitVec.ofNat 8 cause }
  let s := modGaf (fun g => { g with
    paceOut := tset {} g.paceOut j { o with lastSent := some s.now, sentValue := sd, seq := o.seq + 1 } }) s
  let s := ((jobNodes s j).filter (· ≠ s.ident.node.toNat)).foldl (fun s node =>
    match flowXs s (BitVec.ofNat 16 node) j 1 with
    | some x => sendMsg (wsOf 0) x 1 { pay := .pace m, node := BitVec.ofNat 16 node, slots := 1, bytes := 16, job := j } s
    | none => s) s
  receivePace m s

/-- Whether a job's slowdown calls for a notice now (R364, R365). -/
def paceCheck (j : Nat) (s : State) : State :=
  let o : PaceOut := tget {} s.gaf.paceOut j
  if !gafRuns s || !jobRunning s j || !jobSync s j || !bit s.gaf.ctrl 0 then s
  else
    let (sd, cause) := jobSlow s j
    if 50 < sd then
      if o.sentValue = 0 ∨ sd + 10 ≤ o.sentValue ∨ o.sentValue + 10 ≤ sd then sendPace j sd cause s else s
    else if o.sentValue ≠ 0 then sendPace j 0 cause s
    else s

def paceAll (s : State) : State := (runningJobs s).foldl (fun s j => paceCheck j s) s

/-- Divide, and see whether a cap calls for pace notices (R359, R364). -/
def divide (s : State) : State := paceAll (divideCore s)

/-- Divide at a fence or its end: an allocation lower by 50 W or more is released at once (R356, R359). -/
def divideFence (s : State) : State :=
  let t := divide s
  if t.gaf.alloc + 5000 ≤ s.gaf.alloc then
    release 3 (min ((s.gaf.alloc - t.gaf.alloc) / 100) ((100 * t.gaf.budget - t.gaf.alloc) / 100)) t
  else t

def execGafferDivide (s : State) : Out := .next (divide s)

/-- A notice goes out every 5 ms while the slowdown exceeds 5 % (R365). -/
def execPaceNoticeTimer (job : Nat) (s : State) : Out :=
  let o : PaceOut := tget {} s.gaf.paceOut job
  .next (match o.lastSent with
    | none => s
    | some t =>
      if gafRuns s && jobRunning s job && decide (t + 5000000 ≤ s.now) && decide (50 < o.sentValue) && decide (50 < (jobSlow s job).1)
      then sendPace job (jobSlow s job).1 (jobSlow s job).2 s else s)

/-- A notice is dropped 20 ms after it arrived (R366). -/
def execPaceNoticeExpiry (job : Nat) (s : State) : Out :=
  .next (if gafRuns s then
    applyPace job (modGaf (fun g => { g with
      paceIn := g.paceIn.filter (fun p => !(p.job == jobPod s job && decide (p.at_ + 20000000 ≤ s.now))) }) s) else s)

/-- A member's due tick (R222), which the gaffer judges (R364). -/
def execDueTick (ctx member : Nat) (s : State) : Out := .next (paceCheck (recOf s ctx).job (dueTick ctx member s))

/-- A late limit passes (R223, R227), which the gaffer judges (R364). -/
def execLateLimitExpiry (ctx member : Nat) (s : State) : Out := .next (paceCheck (recOf s ctx).job (lateLimit ctx member s))

/-! ### Evaluation (R350, R351) -/

/-- f(n) in 1/100,000 for a temperature in 1/16 °C (R350). Log entry 71 (DEDUCED). -/
def baseFactor (t : Int) : Nat :=
  if t ≤ deg 90 then 100000 else if deg 100 ≤ t then 40000 else (100000 - 375 * (t - deg 90)).toNat

/-- HEADROOM_LOW stands at a focus unit of a field (R351). -/
def fieldLowHeadroom (s : State) (f : Nat) : Bool :=
  ((stations s.part.variant).filter (fun st => fieldOf st == f)).any (fun st => (tget {} s.foc.head st).low)

/-- The temperature beneath a site (R350, R351). -/
def beneath (s : State) (n : Nat) : Int :=
  let t := (stationTemp s (ssOf n)).getD 0
  if fieldLowHeadroom s (fieldOf (ssOf n)) && decide (t < deg 95) then deg 95 else t

/-- The implied ring temperature of a unit where HEADROOM_LOW stands exceeds the field's by more than 8 °C (R351): 65 + 45 ×
(0.40 − MEDIAN) °C, with MEDIAN in 1/255. -/
def impliedHigh (s : State) (st : Nat) : Bool :=
  let h : Headroom := tget {} s.foc.head st
  match fieldTemp s (fieldOf st) with
  | some t => h.low && decide ((1328 - t - deg 8) * 255 > 720 * (h.median : Int))
  | none => false

/-- Compare the sensors with the rings: SENSOR_DISAGREE by field after 100 ms (R351). Log entry 70 (DEDUCED). -/
def disagreeCheck (s : State) : State :=
  let s := (stations s.part.variant).foldl (fun s st =>
    modGaf (fun g => { g with
      disagreeSince := tupd none g.disagreeSince st (fun x => if impliedHigh s st then (match x with | some t => some t | none => some s.now) else none) }) s) s
  (fieldsOf s.part.variant).foldl (fun s f =>
    let on := ((stations s.part.variant).filter (fun st => fieldOf st == f)).any (fun st =>
      match tget none s.gaf.disagreeSince st with
      | some t => decide (t + 100000000 ≤ s.now)
      | none => false)
    let was := s.gaf.disagree.contains f
    if on && !was then raise .sensorDisagree 9 63 0 (modGaf (fun g => { g with disagree := f :: g.disagree }) s)
    else if was && !on then
      sendFault { mkMsg s .sensorDisagree 9 63 0 with sev := 0, cleared := true } (modGaf (fun g => { g with disagree := g.disagree.filter (· ≠ f) }) s)
    else s) s

/-- An evaluation at a whole multiple of 100,000 of the timecode (R46, R350). Log entry 71 (DEDUCED). -/
def evaluate (s : State) : State :=
  if !gafRuns s || decide (s.tc.timecode.toNat / 100000 ≤ s.gaf.evalDone) then s
  else
    let s := modGaf (fun g => { g with evalDone := s.tc.timecode.toNat / 100000 }) s
    let s := disagreeCheck s
    divide ((List.range 12).foldl (fun s n => modPow n (fun p => { p with factor := baseFactor (beneath s n) }) s) s)

def execGafferEvaluation (s : State) : Out := .next (evaluate s)

/-- Once per millisecond the module throttle factor falls or rises (R352). Log entry 71 (DEDUCED). -/
def throttleStep (s : State) : State :=
  let due := match s.gaf.fStep with
    | some t => decide (t + 1000000 ≤ s.now)
    | none => true
  match junction s with
  | none => s
  | some (t, _) =>
    if !gafRuns s || !due then s
    else if deg 95 ≤ t then divide (modGaf (fun g => { g with fStep := some s.now, f := max 400000 (g.f * 9 / 10) }) s)
    else if t < deg 92 then
      (if s.gaf.f = 1000000 then s else divide (modGaf (fun g => { g with fStep := some s.now, f := min 1000000 (g.f + 50000) }) s))
    else s

def execThrottleStep (s : State) : Out := .next (throttleStep s)

/-! ### Site temperature (R349) -/

def tjMax (s : State) (n : Nat) : Int := deg (fld (agreedWord s n 6) 0 8)

/-- The TEMP ceiling of a site falls by 10 % of PMAX or rises by 5 % once per millisecond (R349). -/
def tempStep (n : Nat) (s : State) : State :=
  let p := powOf s n
  let x := siteOf s n
  let pm := agreedPmax s n
  let due := match p.tempAt with
    | some t => decide (t + 1000000 ≤ s.now)
    | none => true
  if !gafRuns s || !siteServing s n || !due then s
  else if tjMax s n ≤ x.neg.lastTemp then
    let c := max (100 * agreedPidle s n) (p.tempCeil.getD (100 * pm) - 10 * pm)
    divide (standBegin .siteHot 9 n (budgetAddr s (meanNow s n)) (modPow n (fun q => { q with tempCeil := some c, tempAt := some s.now }) s))
  else
    match p.tempCeil, p.coolSince with
    | some c, some t =>
      if s.now < t + 1000000 then s
      else
        let c := c + 5 * pm
        let s := modPow n (fun q => { q with tempCeil := if 100 * pm ≤ c then none else some c, tempAt := some s.now }) s
        divide (if 100 * pm ≤ c then standEnd .siteHot 9 n s else s)
    | _, _ => s

def execTempCeilingStep (site : Nat) (s : State) : Out := .next (tempStep site s)

/-- TEMP at TJMAX + 10 °C or more for 100 µs fences the site (R349): the message names it. Log entry 51 (DEDUCED). -/
def siteOvertemp (n : Nat) (s : State) : State :=
  match (powOf s n).hotSince with
  | none => s
  | some t =>
    if !gafRuns s || !siteServing s n || decide (s.now < t + 100000) then s
    else raise .siteOvertemp 9 n (budgetAddr s (meanNow s n)) (siteCause n 0 0 0 (modPow n (fun p => { p with hotSince := none }) s))

def execSiteOvertemp (site : Nat) (s : State) : Out := .next (siteOvertemp site s)

/-- TEMP: the hottest junction of the die, in 1/16 °C (R274), which the gaffer compares with TJMAX (R349). -/
def tempReport (n : Nat) (t : Int) (s : State) : State :=
  if !sbLive s n || !(siteOf s n).neg.done then s
  else
    let keep (on : Bool) (x : Option Tick) : Option Tick := if on then (match x with | some u => some u | none => some s.now) else none
    modPow n (fun p => { p with
      hotSince := keep (decide (tjMax s n + deg 10 ≤ t)) p.hotSince
      coolSince := keep (decide (t < tjMax s n - deg 2)) p.coolSince })
      (modNeg n (fun g => { g with lastTemp := t, lastTempAt := some s.now }) s)

def execTemp (site : Nat) (t : Int) (s : State) : Out := .next (tempReport site t s)

/-! ### Limits, clamp and slew (R360 to R363) -/

/-- 50 µs after a POWER_LIMIT the mean is compared with LIMIT, and a higher limit that waited 50 µs goes out (R359, R360).
Log entry 70 (DEDUCED). -/
def limitCheck (n : Nat) (s : State) : State :=
  let p := powOf s n
  if !gafRuns s || !siteServing s n then s
  else
    let s := match p.limitAt with
      | some t =>
        if t + 50000 ≤ s.now then
          let s := modPow n (fun q => { q with limitAt := none }) s
          if p.limit < meanNow s n then
            raiseRated .siteOverLimit n 10000000 9 n (budgetAddr s (meanNow s n)) (modPow n (fun q => { q with clamped := true, lowSince := none }) s)
          else s
        else s
      | none => s
    match p.waitLimit with
    | some (l, t) => if t ≤ s.now then sendLimit n l s else s
    | none => s

def execLimitCheck (site : Nat) (s : State) : Out := .next (limitCheck site s)

/-- The clamp ends once the mean has stayed at or below 0.95 × LIMIT for 1 ms (R360). -/
def execClampRelease (site : Nat) (s : State) : Out :=
  .next (match (powOf s site).lowSince with
    | some t => if gafRuns s && decide (t + 1000000 ≤ s.now) then modPow site (fun p => { p with clamped := false, lowSince := none }) s else s
    | none => s)

/-- The change between two means that counts against the allowance (R362): a fall toward a lower LIMIT, and a fall that the
clamp forces, do not count. Log entry 68 (DEDUCED). -/
def slewChange (p : SitePow) (old new : Nat) : Int :=
  if old ≤ new then (new : Int) - old
  else if p.clamped then 0
  else
    let from_ := if 0 < p.limit then min old p.limit else old
    if new < from_ then (new : Int) - from_ else 0

/-- The allowance for a change in a direction since a mean (R280, R362): the granted DELTA where the grant's window reaches past that
mean. Log entry 68 (DEDUCED). -/
def slewAllow (p : SitePow) (since : Tick) (d : Int) : Nat := match p.grant with
  | some (g, t) => if since ≤ t ∧ 0 < g * d then max 25 g.natAbs else 25
  | none => 25

/-- A 10 µs mean is formed: a break of the slew rule is counted, and 16 within 1 s engage the guard (R362). What broke it is
the new level from which later changes are judged. Log entry 68 (DEDUCED). -/
def newMean (n mean : Nat) (s : State) : State :=
  let p := powOf s n
  let seen := p.means.filter (fun m => decide (s.now ≤ m.1 + 100000 ∧ p.slewFrom ≤ m.1))
  let ds := (seen.filter (fun m => decide (slewAllow p m.1 (slewChange p m.2 mean) < (slewChange p m.2 mean).natAbs))).map
    (fun m => slewChange p m.2 mean)
  let s := modPow n (fun p => { p with
    means := (s.now, mean) :: p.means.filter (fun m => decide (s.now < m.1 + 1000000))
    samples := []
    lowSince := if p.clamped && decide (100 * mean ≤ 95 * p.limit) then (match p.lowSince with | some t => some t | none => some s.now) else none }) s
  if ds.isEmpty then s
  else
    let worst := (ds.map (fun d => d.natAbs)).foldl max 0
    let bs := s.now :: (powOf s n).breaks.filter (fun t => decide (s.now < t + 1000000000))
    let s := modPow n (fun p => { p with
      slewFrom := s.now
      viol := sat32 p.viol 1
      breaks := bs
      guardEnd := if p.guardEnd = none ∧ 16 ≤ bs.length then some (s.now + 1000000000) else p.guardEnd }) s
    raiseRated .slewViolation n 10000000 9 n (budgetAddr s worst) s

/-- The power of a site at the regulator outputs and VSITE at its sense bumps, once per microsecond (R251, R362): the droop and the
clamp at 400 A are shown while they last (R240). Log entry 51 (DEDUCED). -/
def powerSample (n power mv : Nat) (s : State) : State :=
  let p := powOf s n
  let due := match p.sampleAt with
    | some t => decide (t + 1000 ≤ s.now)
    | none => true
  if !siteOn s n || !due then s
  else
    let xs := power :: p.samples
    let cur := if mv = 0 then 0 else min 65535 (power * 10000 / mv)
    let s := modSite n (fun x => { x with
      mv := BitVec.ofNat 16 (min 65535 mv)
      current := BitVec.ofNat 16 cur
      undervolt := x.undervolt && decide (mv + 75 < 550 + 5 * x.vset)
      clamped := x.clamped && decide (4000 ≤ cur) }) s
    let s := modPow n (fun q => { q with sampleAt := some s.now, samples := xs }) s
    if xs.length = 10 then newMean n (xs.sum / 10) s else s

def execSitePowerSample (site power millivolts : Nat) (s : State) : Out := .next (powerSample site power millivolts s)

/-- The slew guard ends (R362). -/
def execSlewGuardEnd (site : Nat) (s : State) : Out :=
  .next (match (powOf s site).guardEnd with
    | some t => if t ≤ s.now then modPow site (fun p => { p with guardEnd := none }) s else s
    | none => s)

/-- Coupling of site m to the base region of site n (R363), in 1/100. -/
def coupling (n m : Nat) : Nat := if n = m then 50 else if fieldOf (ssOf n) = fieldOf (ssOf m) then 25 else 5

/-- K per µs of site m's own region at a watts, per unit of coupling (R363). -/
def heatRate (s : State) (m a : Nat) : Rat :=
  let w := agreedWord s m 6
  ((fld w 8 8 * a : Nat) : Rat) / ((1000 * (10 * fld w 16 8 + 200) : Nat) : Rat)

/-- a[m] of the ledger (R363). -/
def slewHeld (s : State) (m : Nat) : Nat := match (powOf s m).grant with
  | some (g, t) => if s.now ≤ t + 500000 then g.natAbs else 25
  | none => 25

/-- rate[n] with a request of site m at a watts in the ledger (R363). -/
def ledgerRate (s : State) (n m a : Nat) : Rat :=
  ratSum (((List.range 12).filter (siteServing s)).map (fun k =>
    (coupling n k : Rat) / 100 * heatRate s k (if k = m then a else slewHeld s k)))

/-- The largest magnitude up to the requested one that keeps every region at or below 0.05 K per µs (R363). -/
def slewRoom (s : State) (m : Nat) : Nat → Nat
  | 0 => 0
  | a + 1 =>
    if ((List.range 12).filter (siteServing s)).all (fun n => decide (ledgerRate s n m (a + 1) ≤ (1 : Rat) / 20)) then a + 1
    else slewRoom s m a

/-- SLEW_REQ (R352, R363, R368): answered with SLEW_GRANT; DELTA 0 refuses. -/
def slewReq (n delta window : Nat) (tag : Byte) (s : State) : State :=
  if !gafRuns s || !sbLive s n || !siteServing s n || !bit (siteFeatures s n) 2 then s
  else
    let d := sgn 10 delta
    let room := if 0 < d ∧ s.gaf.f < 1000000 then 0 else slewRoom s n d.natAbs
    let g : Int := if d < 0 then -(room : Int) else room
    let s := if room = 0 then s else modPow n (fun p => { p with grant := some (g, s.now + 1000 * window) }) s
    sideband n .slewGrant [uns 10 g, window, tag.toNat] s

def execSlewReq (site delta window : Nat) (tag : Byte) (s : State) : Out := .next (slewReq site delta window tag s)

/-! ### VDD_MILL (R361, R473, R474) -/

/-- A station's slack is low, or a millstone is slower than 1.25 G element operations per second (R361). -/
def millWants (s : State) : Bool :=
  s.tc.slack.any (fun p => p.2.lowSince.isSome) ||
    (List.range 4).any (fun w => let r : Byte := tget 0 s.mst.rate w; hasWs s.part.variant w && decide (0 < r.toNat ∧ r.toNat < 125))

/-- Every station has 30 % of stage slack and every millstone 1.35 G (R361). -/
def millSpare (s : State) : Bool :=
  (stations s.part.variant).all (fun st => decide (30 ≤ slackStage s st)) &&
    (List.range 4).all (fun w => let r : Byte := tget 0 s.mst.rate w; !hasWs s.part.variant w || decide (135 ≤ r.toNat))

/-- VOUT_COMMAND to the VDD_MILL regulator, a ULINEAR16 value with exponent −12, rounded to the nearest (R361, R474).
Log entry 70 (DEDUCED). -/
def vmillSet (s : State) : State := emit (.pmbus 0x40 "VOUT_COMMAND" [(s.gaf.vmill * 4096 + 500) / 1000]) s

/-- A step that the regulator acknowledges clears PMBUS_FAIL (R372). -/
def vmillRaise (s : State) : State :=
  let due := match s.gaf.lastRaise with
    | some t => decide (t + 20000 ≤ s.now)
    | none => true
  if !gafRuns s || !due || !millWants s || decide (850 ≤ s.gaf.vmill) then s
  else vmillSet (modGaf (fun g => { g with vmill := min 850 (g.vmill + 10), lastRaise := some s.now, pmbusFail := false }) s)

def execVmillRaiseStep (s : State) : Out := .next (vmillRaise s)

def vmillLower (s : State) : State :=
  let due := match s.gaf.lastLower with
    | some t => decide (t + 10000000 ≤ s.now)
    | none => true
  if !gafRuns s || !due || !millSpare s || decide (s.gaf.vmill ≤ 550) then s
  else vmillSet (modGaf (fun g => { g with vmill := max 550 (g.vmill - 5), lastLower := some s.now, pmbusFail := false }) s)

def execVmillLowerStep (s : State) : Out := .next (vmillLower s)

/-- A command that the regulator does not acknowledge within 1 ms: the set-point stays (R361). -/
def execPmbusFail (s : State) : Out :=
  .next (if gafRuns s then raise .pmbusFail 9 63 (budgetAddr s 0) (modGaf (fun g => { g with pmbusFail := true }) s) else s)

/-- A command to every board regulator of the base and memory rails (R474). -/
def regulators (cmd : String) (s : State) : State := (List.range 7).foldl (fun s k => emit (.pmbus (k + 0x40) cmd []) s) s

/-- PMB_ALERT_N is asserted: STATUS_WORD of every regulator is read, then CLEAR_FAULTS is sent (R474). -/
def execPmbusAlert (s : State) : Out :=
  .next (if s.flt.safe then s
    else
      let s := regulators "STATUS_WORD" (modPins (fun p => { p with pmbAlertN := false }) s)
      modPins (fun p => { p with pmbAlertN := true }) (regulators "CLEAR_FAULTS" s))

/-! ### Budgets (R354 to R356) -/

/-- Whole watts of an amount in 1/100 W, rounded up. Log entry 67 (DESIGN CHOICE). -/
def wattsUp (x : Nat) : Nat := (x + 99) / 100

/-- Budget messages are taken from the rack power manager alone (R354). -/
def fromRack (s : State) (eid : Nat) : Bool := gafRuns s && s.boot.ready && eid == s.gaf.rackEid

/-- A value of a message that the manual does not state. Log entries 19 (DESIGN CHOICE), 67 (DESIGN CHOICE). -/
def freshWord (s : State) : Nat × State := ((Config.freeWord s.mem.freeCtr).toNat, modMem (fun m => { m with freeCtr := m.freeCtr + 1 }) s)

/-- BUDGET_GRANT (R355). Log entries 4 (DESIGN CHOICE), 66 (DEDUCED), 67 (DESIGN CHOICE).
Log entries 4 (DESIGN CHOICE), 66 (DEDUCED), 67 (DESIGN CHOICE). -/
def budgetGrant (eid id watts expiry : Nat) (s : State) : State :=
  if !fromRack s eid then s
  else if expiry = 0 ∨ 3600000 < expiry then
    let (x, s) := freshWord s
    emit (.rack eid "BUDGET_ACK" [id, 2, x % 65536, wattsUp (minBudget s)]) s
  else
    let s := divide (modGaf (fun g => { g with
      budget := watts
      grantId := BitVec.ofNat 32 id
      expiry := some (s.now + 1000000 * expiry)
      release := none
      withheld := 0
      excessSince := none }) s)
    emit (.rack eid "BUDGET_ACK" [id, b2n (decide (100 * watts < minBudget s)), watts, wattsUp (minBudget s)]) s

def execBudgetGrant (eid id watts expiry : Nat) (s : State) : Out := .next (budgetGrant eid id watts expiry s)

/-- BUDGET_QUERY (R354). -/
def execBudgetQuery (eid : Nat) (s : State) : Out :=
  .next (if fromRack s eid then
    emit (.rack eid "BUDGET_STATUS" [s.gaf.grantId.toNat, s.gaf.budget, wattsUp s.gaf.alloc, s.gaf.measured, wattsUp (minBudget s)]) s else s)

/-- A grant expires with no new one: the budget becomes GAF_FALLBACK (R355, R368). -/
def execBudgetExpiry (s : State) : Out :=
  .next (match s.gaf.expiry with
    | none => s
    | some t =>
      if !gafRuns s || decide (s.now < t) then s
      else
        let addr := budgetAddr s s.gaf.fallback
        let s := modGaf (fun g => { g with budget := g.fallback, grantId := 0, expiry := none, release := none, withheld := 0 }) s
        divide (raise .budgetExpired 9 63 addr s))

/-- An excess of 50 W or more held for 100 ms is released (R356). -/
def execBudgetExcessRelease (s : State) : Out :=
  .next (match s.gaf.excessSince with
    | none => s
    | some t =>
      if !gafRuns s || decide (s.now < t + 100000000) then s
      else divide (release 1 ((100 * s.gaf.budget - s.gaf.alloc) / 100) s))

/-- BUDGET_RELEASE_ACK (R354, R356). -/
def execBudgetReleaseAck (eid id : Nat) (s : State) : Out :=
  .next (match s.gaf.release with
    | none => s
    | some r => if fromRack s eid && decide (r.id.toNat = id) then modGaf (fun g => { g with release := none }) s else s)

/-- A release not acknowledged within 100 ms is sent again, at most three times (R356). Log entry 66 (DEDUCED). -/
def execBudgetReleaseRetry (s : State) : Out :=
  .next (match s.gaf.release with
    | none => s
    | some r =>
      if !gafRuns s || decide (s.now < r.sent + 100000000 ∨ 4 ≤ r.tries) then s
      else emit (.rack s.gaf.rackEid "BUDGET_RELEASE" [r.id.toNat, r.released, r.kept, r.reason])
        (modGaf (fun g => { g with release := some { r with sent := s.now, tries := r.tries + 1 } }) s))

/-! ### Energy (R369, R370) -/

/-- Add energy to a tag's counter. -/
def addEnergy (tag e : Nat) (s : State) : State :=
  modGaf (fun g => { g with energy := tupd 0 g.energy (tag % 16) (· + BitVec.ofNat 64 e) }) s

/-- Divide energy by the tags' traffic; what remains of the division, or all of it without traffic, goes to tag 0.
Log entry 70 (DEDUCED). -/
def shareEnergy (e : Nat) (w : Tab Nat) (s : State) : State :=
  let total := (w.map (·.2)).sum
  if total = 0 then addEnergy 0 e s
  else
    let parts := w.map (fun p => (p.1, e * p.2 / total))
    addEnergy 0 (e - (parts.map (·.2)).sum) (parts.foldl (fun s p => addEnergy p.1 p.2 s) s)

/-- Energy of the last millisecond in µJ (R370): reading k is site k at the regulator outputs for k below 12, the regulator at
PMBus address k for 0x40 to 0x46, from READ_EOUT (R474), and the base's site-interface rail for 0x50. Log entry 70 (DEDUCED). -/
def attributeEnergy (readings : List (Nat × Nat)) (s : State) : State :=
  let ms := s.tc.timecode.toNat / 1000000
  if !gafRuns s || decide (ms ≤ s.gaf.energyDone) then s
  else
    let sum (p : Nat → Bool) : Nat := ((readings.filter (fun r => p r.1)).map (·.2)).sum
    let site (n : Nat) : Nat := sum (· == n) * 108 / 100
    let mem := sum (fun k => decide (0x44 ≤ k ∧ k ≤ 0x46))
    let base := sum (fun k => decide (0x40 ≤ k ∧ k ≤ 0x43) || k == 0x50)
    let s := (List.range 12).foldl (fun s n =>
      addEnergy (match jobOfSite s n with | some j => jobTag s j | none => 0) (site n) s) s
    let s := regulators "READ_EOUT" (shareEnergy base s.gaf.bytes (shareEnergy mem s.gaf.lines s))
    modGaf (fun g => { g with
      energyDone := ms
      lines := []
      bytes := []
      measured := (((List.range 12).map site).sum + mem + base) / 1000 }) s

def execEnergyAttribution (readings : List (Nat × Nat)) (s : State) : Out := .next (attributeEnergy readings s)

end Sys2Proof.Machine
end

