-- ==== Sys2Proof/Machine/Restart.lean ====
section
/-! DEFINITION. What a power-up, a restart and the restart after a hardware stop keep (R376, R403, R415 to R417, R422, R429,
R440, R456, R477). -/

namespace Sys2Proof.Machine

open Sys2Proof

/-- What the always-on domain keeps (R346, R376): trip history, the first-error capture, the outtake ring and the counts.
Log entry 21 (DESIGN CHOICE). -/
def keptThm (t : Thm) : Thm :=
  { sens := t.sens, hot := t.hot, coolSince := t.coolSince, trips := t.trips, tripLocked := t.tripLocked, cause := t.cause
    tripStation := t.tripStation, tripTemp := t.tripTemp, tripped := t.tripped, coolStop := t.coolStop, again := t.again
    lastSample := t.lastSample }
/-- What the fault collector keeps over a restart (R376). Log entry 21 (DESIGN CHOICE). -/
def keptFlt (f : Flt) : Flt :=
  { first := f.first, ring := f.ring, head := f.head, frozen := f.frozen, copied := f.copied, counts := f.counts }

/-- The flash and the one-time cells (R404, R440): scripts, firmware slots, the update in progress, the rollback counter.
Log entry 21 (DESIGN CHOICE). -/
def keptBoot (b : Boot) : Boot :=
  { flash := b.flash, flashDdr := b.flashDdr, slots := b.slots, headers := b.headers, preferred := b.preferred, updSlot := b.updSlot
    updSt := if b.updSt = 3 then 2 else b.updSt, rollback := b.rollback }

/-- The warm-trim copies; one that a save was writing is no valid image any more (R338).
Log entries 21 (DESIGN CHOICE), 64 (DEDUCED). -/
def keptFoc (f : Foc) : Foc :=
  { copyA := if f.saving = true ∧ f.writing = 1 then {} else f.copyA
    copyB := if f.saving = true ∧ f.writing = 2 then {} else f.copyB }
def keptFlash (s : State) : Tab (Option Byte) :=
  if !s.foc.saving then s.boot.flash
  else
    let lo := if s.foc.writing = 1 then warmA else warmB
    tclear s.boot.flash lo (lo + warmSize)

/-- The enrolment cells, the audit ring with its running number, and an armed re-enrolment, of the voted store (R417, R421,
R429). Sessions and jobs end. Log entry 21 (DESIGN CHOICE). -/
def keptRole (r : RoleSt) : RoleSt :=
  { enrolled := r.enrolled, reenrolArmed := r.reenrolArmed, facActive := r.facActive, audit := r.audit
    auditHead := r.auditHead, auditSeq := r.auditSeq, archived := r.archived }

/-- The pins as a restart leaves them: inputs and what the always-on domain drives stay (R477).
Log entry 21 (DESIGN CHOICE). -/
def keptPins (p : Pins) : Pins :=
  { porN := p.porN, pwrgd := p.pwrgd, coolantOk := p.coolantOk, installEn := p.installEn, thermtripN := p.thermtripN
    i3cAddress := p.i3cAddress, tap := p.tap, xspiDriven := p.xspiDriven }

/-- Everything else takes its reset value (R456). The contents of the memory arrays stay until phases 2 and 8 clear them.
Log entry 21 (DESIGN CHOICE). -/
def fresh (s : State) : State :=
  { part := s.part
    now := s.now
    pending := s.pending
    mem := { cells := s.mem.cells, freeCtr := s.mem.freeCtr }
    foc := keptFoc s.foc
    thm := keptThm s.thm
    flt := keptFlt s.flt
    role := keptRole s.role
    boot := { keptBoot s.boot with flash := keptFlash s }
    pins := keptPins s.pins
    out := s.out }

/-- A boot begins at a phase (R412): kind 0 power-up, 1 restart, 2 wake, 3 after a trip or a coolant stop (R442). -/
def beginBoot (kind phase : Nat) (s : State) : State :=
  modMpd (fun m => { m with clearing := phase == 2 })
    (modBoot (fun b => { b with kind := kind, phase := phase, ready := false, phaseStart := s.now }) s)

/-- A restart: phases 2 to 11 (R412, R416). Log entry 21 (DESIGN CHOICE). -/
def restartBase (kind : Nat) (s : State) : State :=
  let t := beginBoot kind 2 (fresh s)
  modPins (fun p => { p with faultN := true }) (modThm (fun x => { x with restarted := decide (kind = 3) }) t)

/-- The restart after a trip or a coolant stop, once neither stands (R346, R347). -/
def restartAfterStop (s : State) : State := if s.thm.tripped || s.thm.coolStop then s else restartBase 3 s

/-- POR_N low, or PWRGD low for 10 µs (R477): site regulators off, LS_EN low, the XSPI pins at high impedance with the flash left in
its single-data-rate mode (R480), FAULT_N low until phase 2 ends. Factory test mode ends (R422). POR_N releases a THERMTRIP_N that R346 holds, and clears the trip count. Log entry 22 (DEDUCED). -/
def resetAssert (por : Bool) (s : State) : State :=
  let t := fresh s
  let t := modRole (fun r => { r with facActive := false }) (modBoot (fun b => { b with flashDdr := false }) t)
  let t := modThm (fun x => if x.tripLocked then { x with trips := [], tripLocked := false, tripped := false, again := false, coolStop := false }
    else { x with coolStop := false }) t
  modPins (fun p => { p with
    porN := !por && p.porN
    pwrgd := por && p.pwrgd
    thermtripN := if s.thm.tripLocked then true else p.thermtripN
    faultN := false
    i3cAddress := none
    xspiDriven := false
    tap := .idcode }) t

/-- Pin 0 is POR_N, pin 1 PWRGD. -/
def execResetAssert (pin : Nat) (s : State) : Out :=
  .next (if pin = 0 then resetAssert true s else if pin = 1 then resetAssert false s else s)

/-- POR_N rises with the rails good (R475): phase 1 ends, unless COOLANT_OK is low; then the base waits in phase 1 until it has
been high for 10 s (R477). Phase 1 took `ms` from VDD_IO at its minimum. Log entry 22 (DEDUCED). -/
def powerUp (ms : Nat) (coolant : Bool) (s : State) : State :=
  if s.boot.phase ≠ 0 then s
  else
    let t := modPins (fun p => { p with porN := true, pwrgd := true, coolantOk := coolant, faultN := false, xspiDriven := true }) s
    let t := modBoot (fun b => { b with phaseMs := tset 0 b.phaseMs 1 ms }) t
    beginBoot 0 (if coolant then 2 else 1) t

def execPowerUp (ms : Nat) (coolant : Bool) (s : State) : Out := .next (powerUp ms coolant s)

/-- VDD_IO is removed (R376): the records and the trip history of the always-on domain are lost. Log entry 23 (DEDUCED). -/
def vddIoRemoved (s : State) : State :=
  let t := resetAssert true s
  { t with flt := {}, thm := {}, pins := { porN := false, pwrgd := false, faultN := false } }

def execVddIoRemoved (s : State) : Out := .next (vddIoRemoved s)

end Sys2Proof.Machine
end

