-- ==== Sys2Proof/Machine/Thermal.lean ====
section
/-! DEFINITION. Temperature thresholds, the hardware stops and the stacks (R342 to R348). -/

namespace Sys2Proof.Machine

open Sys2Proof

/-- THERMAL_WARNING and THERMAL_THROTTLE stand by their own limits (R343). Log entry 65 (DEDUCED). -/
def thermLevel (s : State) : State :=
  match junction s with
  | none => s
  | some (t, st) =>
    let throttle := if s.thm.level = 2 then decide (deg 92 ≤ t) else decide (deg 95 ≤ t)
    let warn := if s.thm.level = 0 then decide (deg 88 ≤ t) else decide (deg 85 ≤ t)
    let level := if throttle then 2 else if warn then 1 else 0
    let addr := thermAddr t 0
    let s := if warn then (if stands s .thermalWarning then s else standBegin .thermalWarning 8 st addr s) else standEndAll .thermalWarning 8 s
    let s := if throttle then (if stands s .thermalThrottle then s else standBegin .thermalThrottle 8 st addr s) else standEndAll .thermalThrottle 8 s
    showAlert (modThm (fun x => { x with level := level }) s)

/-- After READY a station below 10 °C raises LOW_TEMP (R343, R344); one fenced for it counts how long it is at 12 °C or more. -/
def lowTemps (s : State) : State :=
  if !s.boot.ready || s.flt.safe || s.boot.dark then s
  else
    (stations s.part.variant).foldl (fun s st =>
      match stationTemp s st with
      | none => s
      | some t =>
        if s.thm.lowSt.contains st then
          modThm (fun x => { x with lowOk := tupd none x.lowOk st (fun o =>
            if deg 12 ≤ t then (match o with | some u => some u | none => some s.now) else none) }) s
        else if t < deg 10 then raise .lowTemp 8 st (thermAddr t 0) (modThm (fun x => { x with lowSt := st :: x.lowSt, lowOk := tset none x.lowOk st none }) s)
        else s) s

/-- Sensors that differ from their station's median by more than 6 °C (R342). Log entry 65 (DEDUCED). -/
def deviations (s : State) : State :=
  (sensors s).foldl (fun s k =>
    let off := match reading s k, median4 s (k / 4) with
      | some r, some m => decide (2 * deg 6 < (2 * r - m).natAbs)
      | _, _ => false
    modThm (fun x => { x with devSince := tupd none x.devSince k (fun o =>
      if off && sensorUsed s k then (match o with | some u => some u | none => some s.now) else none) }) s) s

/-- A trip (R345, R346): THERMTRIP_N low, the sites off, LS_EN low, and safe state; an open release is abandoned (R368). The
third trip within 24 h holds THERMTRIP_N until POR_N. Log entry 65 (DEDUCED). -/
def trip (k : Nat) (t : Int) (s : State) : State :=
  let trips := s.now :: s.thm.trips.filter (fun u => decide (s.now < u + day))
  let s := modThm (fun x => { x with
    trips := trips, tripLocked := x.tripLocked || decide (3 ≤ trips.length), cause := 0, tripStation := k / 4, tripTemp := t
    tripped := true, again := true, hot := [] }) s
  let s := modPins (fun p => { p with thermtripN := false }) (modGaf (fun g => { g with release := none }) s)
  let s := (List.range 12).foldl (fun s n => modSite n (fun x => { x with on := false }) s) s
  raise .thermalTrip 8 (k / 4) (thermAddr t k) s

/-- A sample of the sensors, once every 10 µs (R340, R343). Log entry 65 (DEDUCED). -/
def sensorSample (readings : List (Nat × Int)) (s : State) : State :=
  let due := match s.thm.lastSample with
    | some t => decide (t + 10000 ≤ s.now)
    | none => true
  if !due then s
  else
    let rs := readings.filter (fun r => (sensors s).contains r.1)
    let s := modThm (fun x => { x with
      lastSample := some s.now
      sens := rs.foldl (fun t r => tset none t r.1 (some r.2)) x.sens }) s
    let s := deviations s
    let hot := (sensors s).filter (fun k => sensorUsed s k && (match reading s k with | some t => decide (deg 108 ≤ t) | none => false))
    let again := hot.find? (fun k => s.thm.hot.contains k)
    let cool := (sensors s).all (fun k => match reading s k with | some t => decide (t < deg 75) | none => false)
    let s := modThm (fun x => { x with
      hot := hot
      coolSince := if cool then (match x.coolSince with | some u => some u | none => some s.now) else none }) s
    let s := if decide (2 ≤ s.boot.phase) then lowTemps (thermLevel s) else s
    match again with
    | some k => if s.thm.tripped then s else trip k ((reading s k).getD 0) s
    | none => s

def execSensorSample (readings : List (Nat × Int)) (s : State) : Out := .next (sensorSample readings s)

/-- A sensor has stood off the median for 10 ms (R342): SENSOR_FAIL; the collector takes it out of service (R381). -/
def sensorFail (k : Nat) (s : State) : State :=
  match tget none s.thm.devSince k with
  | none => s
  | some t =>
    if s.flt.safe || !sensorUsed s k || decide (s.now < t + 10000000) then s
    else raise .sensorFail 8 (k / 4) (thermAddr ((reading s k).getD 0) k) (modThm (fun x => { x with devSince := tset none x.devSince k none }) s)

def execSensorFail (sensor : Nat) (s : State) : Out := .next (sensorFail sensor s)

/-- Every sensor below 75 °C for 30 s (R346): THERMTRIP_N is released, unless the third trip holds it, and a base that the
trip stopped boots. Log entry 22 (DEDUCED). -/
def thermtripRelease (s : State) : State :=
  match s.thm.coolSince with
  | none => s
  | some t =>
    if !s.thm.tripped || s.thm.tripLocked || decide (s.now < t + 30000000000) then s
    else
      let u := modPins (fun p => { p with thermtripN := true }) (modThm (fun x => { x with tripped := false }) s)
      if u.flt.safe then restartAfterStop u else u

def execThermtripRelease (s : State) : Out := .next (thermtripRelease s)

/-- COOLANT_OK low for more than 20 µs (R347). -/
def coolantStop (s : State) : State :=
  let s := modPins (fun p => { p with coolantOk := false }) s
  if s.thm.coolStop || decide (s.boot.phase < 2) then s
  else
    let (t, st) := (junction s).getD (0, 0)
    let s := modThm (fun x => { x with cause := 1, coolStop := true }) (modGaf (fun g => { g with release := none }) s)
    let s := (List.range 12).foldl (fun s n => modSite n (fun x => { x with on := false }) s) s
    raise .coolantStop 8 st (thermAddr t 0) s

def execCoolantStop (s : State) : Out := .next (coolantStop s)

/-- COOLANT_OK held high for 10 s (R347, R477). -/
def coolantRestart (s : State) : State :=
  let s := modPins (fun p => { p with coolantOk := true }) s
  if s.boot.phase = 1 then beginBoot s.boot.kind 2 s
  else if s.thm.coolStop then restartAfterStop (modThm (fun x => { x with coolStop := false }) s)
  else s

def execCoolantRestart (s : State) : Out := .next (coolantRestart s)

/-- Every T_n at 10 °C or more ends the warm-up (R343, R344), which counts in no phase's time. -/
def execWarmupEnd (s : State) : Out :=
  .next (if s.flt.safe || !s.thm.warmup || !allAtLeast s (deg 10) then s
    else modBoot (fun b => { b with phaseStart := s.now }) (modThm (fun x => { x with warmup := false }) s))

/-- A stack's temperature, once per millisecond (R348). -/
def stackTemp (m : Nat) (t : Int) (s : State) : State :=
  if s.flt.safe || s.boot.dark || !hasMs s.part.variant m || decide (s.boot.phase < 8) then s
  else
    let was := tget 0 s.thm.stackSt m
    let s := modThm (fun x => { x with stackTemp := tset 0 x.stackTemp m t }) s
    let stillHot := decide (deg 95 ≤ t) || ((standAddr s .stackHot (36 + m)).isSome && decide (deg 90 ≤ t))
    let s := if stillHot then standBegin .stackHot 8 (36 + m) (thermAddr t 0) s else standEnd .stackHot 8 (36 + m) s
    if was = 2 then
      (if t < deg 85 then modThm (fun x => { x with stackSt := tset 0 x.stackSt m 0 }) s else s)
    else if deg 105 ≤ t then
      raise .stackOvertemp 8 (36 + m) (thermAddr t 0) (modThm (fun x => { x with stackSt := tset 0 x.stackSt m 2 }) s)
    else modThm (fun x => { x with stackSt := tset 0 x.stackSt m (if stillHot then 1 else 0) }) s

def execStackTempRead (ms : Nat) (temp : Int) (s : State) : Out := .next (stackTemp ms temp s)

end Sys2Proof.Machine
end

