-- ==== Sys2Proof/Machine/Boot.lean ====
section
/-! DEFINITION. Boot phases 2 to 11 (R412 to R414). A phase command is the end of its phase; its operands are what the phase
found. -/

namespace Sys2Proof.Machine

open Sys2Proof

/-- A phase is in progress: no safe state, no dark state, no warm-up. Log entry 1 (DESIGN CHOICE). -/
def inPhase (s : State) (p : Nat) : Bool := s.boot.phase == p && !s.flt.safe && !s.boot.dark && !s.thm.warmup

/-- A phase ends and the next begins: 2 is followed by 5 at a wake; 12 stands for the time after phase 11 (R412).
Log entry 80 (DESIGN CHOICE). -/
def endPhase (p : Nat) (s : State) : State :=
  modBoot (fun b => { b with
    phase := if p = 2 ∧ b.kind = 2 then 5 else p + 1
    phaseMs := tset 0 b.phaseMs p ((s.now - b.phaseStart) / 1000000)
    phaseStart := s.now }) s

/-! ### Phase 2 -/

/-- The audit ring takes a copy of a frozen outtake ring, oldest entry first, once (R376, R429). -/
def copyOuttake (s : State) : State :=
  if !s.flt.frozen || s.flt.copied then s
  else
    let t := (List.range 32).foldl (fun s i =>
      match tget none s.flt.ring ((s.flt.head + i) % 32) with
      | none => s
      | some m =>
        let w := faultWord m
        auditKeyed 0x30 (w.extractLsb' 96 32) (w.extractLsb' 0 64) (w.extractLsb' 64 32) s) s
    modFlt (fun f => { f with copied := true }) t

/-- Boot phase 3 starts with the flash's reset held low for 10 µs (R480). -/
def xspiReset (s : State) : State :=
  if s.boot.phase ≠ 3 then s
  else modPins (fun p => { p with xspiResetN := false }) (modBoot (fun b => { b with flashDdr := false, xspiRise := some (s.now + 10000) }) s)

/-- Fuses checked, the voted store loaded, the SRAMs cleared (R175, R413); a station below 5 °C then holds the boot in
warm-up (R343, R344). Log entry 80 (DESIGN CHOICE). -/
def bootPhase2 (s : State) : State :=
  if !inPhase s 2 then s
  else if !s.part.fusesOk then raise .fuseError 10 5 0 s
  else
    let s := xspiReset (endPhase 2 (copyOuttake (millClear (modPins (fun p => { p with faultN := true }) s))))
    let cold := (stations s.part.variant).any (fun st => match stationTemp s st with
      | some t => decide (t < deg 5)
      | none => false)
    modThm (fun x => { x with warmup := cold }) s

def execBootPhase2 (s : State) : Out := .next (bootPhase2 s)

/-! ### Phase 3 -/

/-- An image verifies (R439): tags, both signatures, variant, stepping, and an SVN not below the rollback counter. -/
def imageOk (s : State) (x : FwSlot) (c : ImageCheck) : Bool :=
  c.tagsOk && c.signaturesOk && c.variantOk && c.steppingOk && decide (s.boot.rollback ≤ x.svn ∧ x.svn ≤ 63)

/-- One more failed attempt is programmed before a slot is loaded (R440). -/
def tryImage (n : Nat) (s : State) : State := modSlot n (fun x => { x with attempts := min 3 (x.attempts + 1) }) s

/-- A slot's firmware runs; one that was not preferred becomes so, and FIRMWARE_FALLBACK follows READY (R440).
Log entry 81 (DEDUCED). -/
def runImage (n : Nat) (s : State) : State :=
  let fell := decide (n ≠ s.boot.preferred)
  let s := if fell then newHeader s else s
  endPhase 3 (modIdent (fun i => { i with fwVersion := (slotOf s n).version })
    (modBoot (fun b => { b with slot := n, preferred := n, fallbackDue := b.fallbackDue || fell }) s))

/-- No slot verifies: FIRMWARE_FALLBACK, fatal (R440). -/
def noImage (s : State) : State := enterSafe (sendFault { mkMsg s .firmwareFallback 10 5 0 with sev := 3 } s)

/-- The firmware slot is chosen and verified (R440), once the flash has left its reset and runs in octal DDR mode (R480); `a` and `b` are what verifying the A-roll and the B-roll finds.
Log entry 81 (DEDUCED). -/
def bootPhase3 (a b : ImageCheck) (s : State) : State :=
  if !inPhase s 3 then s
  else
    let s := xspiEnd s
    let check (n : Nat) : ImageCheck := if n = 0 then a else b
    let p := s.boot.preferred
    let o := 1 - p
    let other (s : State) : State :=
      if (slotOf s o).st ≠ 3 then noImage s
      else
        let s := tryImage o s
        if imageOk s (slotOf s o) (check o) then runImage o s else noImage s
    if (slotOf s p).st = 3 ∧ (slotOf s p).attempts < 3 then
      let s := tryImage p s
      if imageOk s (slotOf s p) (check p) then runImage p s else other s
    else other s

def execBootPhase3 (a b : ImageCheck) (s : State) : Out := .next (bootPhase3 a b s)

/-! ### Phase 4 -/

/-- The script is read and verified, and fixes the configuration (R409, R410); INSTALL_EN is sampled (R421). -/
def bootPhase4 (install : Bool) (c0 c1 : ScriptCopy) (s : State) : State :=
  if !inPhase s 4 then s
  else
    let s := modPins (fun p => { p with installEn := install }) s
    match chooseScript s c0 c1 with
    | none => raise .scriptInvalid 10 5 0 s
    | some (copy, fell, x) =>
      let opens := install && (s.role.enrolled.isEmpty || s.role.reenrolArmed)
      endPhase 4 (modBoot (fun b => { b with enrolOpen := opens }) (loadScript copy fell x s))

def execBootPhase4 (install : Bool) (c0 c1 : ScriptCopy) (s : State) : Out := .next (bootPhase4 install c0 c1 s)

/-! ### Phase 5 -/

/-- The largest absolute value of a list. -/
def maxAbs (xs : List Int) : Nat := (xs.map Int.natAbs).foldl max 0

/-- The fields are aligned and the timecode starts at 0 (R41, R42). `stitches` are the phase offsets measured across NW–NE,
NW–SW, NE–SE and SW–SE, and `skews` the copies' differences from NW after alignment, all in 1/16 ns.
The rule is silent on copies more than 0.5 ns apart after alignment: TIMECODE_ALIGN rises, as for the loop.
Log entries 30 (DEDUCED), 80 (DESIGN CHOICE), 94 (DESIGN CHOICE).
Log entries 30 (DEDUCED), 80 (DESIGN CHOICE), 94 (DESIGN CHOICE). -/
def bootPhase5 (stitches skews : List Int) (s : State) : State :=
  if !inPhase s 5 then s
  else
    let at_ (k : Nat) : Int := stitches.getD k 0
    let closed := match s.part.variant with
      | .s12 => decide (((at_ 0 + at_ 2) - (at_ 1 + at_ 3)).natAbs ≤ 4)
      | _ => true
    let apart := skews.any (fun a => skews.any (fun b => decide (8 < (a - b).natAbs)))
    if !closed || apart then raise .timecodeAlign 10 0 0 s
    else
      let corr : Tab Int := match s.part.variant with
        | .s12 => tset 0 (tset 0 (tset 0 [] 1 (-at_ 0)) 2 (-at_ 1)) 3 (-(at_ 0 + at_ 2))
        | .s6 => tset 0 [] 1 (-at_ 0)
        | .s3 => []
      endPhase 5 (modTc (fun t => { t with
        fieldsAligned := true
        timecode := 0
        phase := corr
        maxSkew := BitVec.ofNat 8 (min 255 (maxAbs skews))
        nextStitch := s.now + 1000000 }) s)

def execBootPhase5 (stitches : List Int) (skews : List Int) (s : State) : Out := .next (bootPhase5 stitches skews s)

/-! ### Phase 6 -/

/-- Lasers are brought up (R318): `absent` are modules absent or on another grid, `failed` feeds whose light or marker check
fails, `levels` the weakest line of each feed: feed, power, line. The phase needs the script's laser map (R407).
Log entry 80 (DESIGN CHOICE). -/
def bootPhase6 (absent failed : List Nat) (levels : List (Nat × Nat × Nat)) (s : State) : State :=
  match s.boot.script.bind (·.lasers) with
  | none => s
  | some ls =>
    if !inPhase s 6 then s
    else
      let feeds := (List.range 16).filter (fun k => (fieldsOf s.part.variant).contains (k / 4))
      let mods := (feeds.filterMap (fun k => ls[k]?)).map (fun x => 8 * x.1 + x.2.1)
      let s := absent.foldl (fun s m => laserFault m false s) s
      let s := modPins (fun p => { p with lsEn := true }) (modFoc (fun f => { f with
        ready := (mods.eraseDups).filter (fun m => !absent.contains m)
        feeds := feeds.foldl (fun t k => tset {} t k ({
          role := k % 4
          lit := !failed.contains k
          marked := !failed.contains k
          weakest := ((levels.find? (fun x => x.1 == k)).map (·.2.1)).getD 0
          line := ((levels.find? (fun x => x.1 == k)).map (·.2.2)).getD 0 } : Feed)) [] }) s)
      let gone (k : Nat) : Bool := failed.contains k || fenced s (uFeed k) ||
        (match ls[k]? with
         | some (sw, ch, _) => absent.contains (8 * sw + ch)
         | none => true)
      let bad := feeds.filter gone
      let s := (bad.filter (fun k => k % 4 == 3) ++ bad.filter (fun k => k % 4 != 3)).foldl (fun s k => feedFail k [] true s) s
      endPhase 6 s

def execBootPhase6 (absent failed : List Nat) (levels : List (Nat × Nat × Nat)) (s : State) : Out := .next (bootPhase6 absent failed levels s)

/-! ### Phase 7 -/

/-- The image of a warm start and its source: 1 copy A, 2 copy B, 3 the script (R335). After a trip or a coolant stop the start
is cold (R346, R347). -/
def warmChoice (s : State) : Option (Nat × WarmImage) :=
  if s.boot.kind = 3 then none
  else
    let x := if warmTouched s warmA then warmRead s warmA else s.foc.copyA
    let y := if warmTouched s warmB then warmRead s warmB else s.foc.copyB
    let nvm : List (Nat × WarmImage) := if x.generation.toNat < y.generation.toNat then [(2, y), (1, x)] else [(1, x), (2, y)]
    let scr : List (Nat × WarmImage) := match s.boot.script.bind (·.warm) with
      | some w => [(3, w)]
      | none => []
    let first := match s.boot.script with
      | some z => z.warmPreferred
      | none => false
    ((if first then scr ++ nvm else nvm ++ scr).find? (fun p => p.2.valid))

/-- Every COARSE shifted by round((TEMP_SAVED − T_now) / 1.40625) steps and held to 0 to 31 (R335). -/
def coarseShift (saved now : Int) : Int := (4 * (saved - now) + 45) / 90
def shiftCoarse (k : Int) (c : BitVec 5) : BitVec 5 := BitVec.ofNat 5 (clampI 0 31 ((c.toNat : Int) + k)).toNat

/-- An element as the start leaves it: at the trims that its sweep found, or those of the image, shifted. One whose record has
VALID 0 takes the cold procedure (R336). A sweep after a failed check ran from the far side of the range (R329). -/
def startElem (s : State) (img : Option WarmImage) (found : List (Nat × Option Nat × TrimRec)) (e : Nat) : Elem :=
  match found.find? (fun p => p.1 == e) with
  | some (_, tone, r) => { trim := r, fine := r.fine.toInt, sweptDown := tone.isSome }
  | none => match img with
    | none => {}
    | some w =>
      let r := imageRec s w e
      if !r.valid then {}
      else { trim := { r with coarse := shiftCoarse (coarseShift w.tempSaved (medianTemp s)) r.coarse }, fine := r.fine.toInt }

/-- Elements that fell back in a warm start (R336): those swept, and those whose record has VALID 0. -/
def fellBack (s : State) (w : WarmImage) (found : List (Nat × Option Nat × TrimRec)) : Nat :=
  ((List.range 36864).filter (fun e => (elemKind s.part.variant e).isSome &&
    (found.any (fun p => p.1 == e) || !(imageRec s w e).valid))).length

/-- The taps that a warm-trim image supplies for a site, by rate, module and lane (R245, R337). -/
def warmTaps (w : WarmImage) (n : Nat) : Tab Nat :=
  w.taps.filterMap (fun p =>
    let m := p.1 / 69
    if m / 96 = n then some (m / 32 % 3 * 8192 + m % 32 * 128 + p.1 % 69, p.2) else none)

/-- Every site's receivers start from the taps that the image supplies for it (R245). -/
def loadTaps (img : Option WarmImage) (s : State) : State :=
  match img with
  | none => s
  | some w => (List.range 12).foldl (fun s n =>
      let t := warmTaps w n
      if t.isEmpty || !sitePresent s.part n then s else modSite n (fun x => { x with taps := t }) s) s

/-- A check that failed in the start: WRONG_LOCK with the tone that was read (R329). -/
def startWrong (found : List (Nat × Option Nat × TrimRec)) (s : State) : State :=
  found.foldl (fun s p => match p.2.1 with
    | none => s
    | some tone =>
      if (elemKind s.part.variant p.1).isNone then s
      else raise .wrongLock 7 (p.1 / 1024) (p.1 + tone % 16 * 2 ^ 20) (modFoc (fun f => { f with wrongLocks := sat32 f.wrongLocks 1 }) s)) s

/-- Focus (R335, R336): `found` are the elements that the start swept, with the tone where their identity check had failed, and
the trims they then locked at; `lost` those that did not lock, with their cause. -/
def bootPhase7 (found : List (Nat × Option Nat × TrimRec)) (lost : List (Nat × Nat)) (s : State) : State :=
  if !inPhase s 7 then s
  else
    let img := warmChoice s
    let back := (img.map (fun p => fellBack s p.2 found)).getD 0
    let elems : Tab Elem := (List.range 36864).filterMap (fun e =>
      if (elemKind s.part.variant e).isNone then none
      else
        let x := startElem s (img.map (·.2)) found e
        if x = {} then none else some (e, x))
    let s := modFoc (fun f => { f with
      elems := elems
      focused := true
      start := if img.isNone then 1 else if back = 0 then 2 else 3
      fallbacks := min 65535 back
      source := (img.map (·.1)).getD 0
      generation := (img.map (fun p => p.2.generation.toNat)).getD 0
      ms := (s.now - s.boot.phaseStart) / 1000000 }) (startWrong found s)
    let s := lost.foldl (fun s p =>
      if (elemKind s.part.variant p.1).isNone then s
      else if p.2 = 2 then elemOut p.1 2 0 .wrongLock (modFoc (fun f => { f with wrongLocks := sat32 f.wrongLocks 1 }) s)
      else elemOut p.1 (if p.2 = 3 then 3 else 1) 0 (if p.2 = 3 then .focusRange else .focusLost)
        (modFoc (fun f => { f with lockLost := sat32 f.lockLost 1 }) s)) s
    endPhase 7 (modBoot (fun x => { x with warm := img.isSome }) (loadTaps (img.map (·.2)) s))

def execBootPhase7 (found : List (Nat × Option Nat × TrimRec)) (lost : List (Nat × Nat)) (s : State) : Out := .next (bootPhase7 found lost s)

/-! ### Phase 8 -/

/-- Stacks trained and cleared: zero data with POISON clear (R134, R135); `failed` are stations whose stack fails, with the
channel. -/
def bootPhase8 (failed : List (Nat × Nat)) (s : State) : State :=
  if !inPhase s 8 then s
  else
    let ms := (memStations s.part.variant).filter (fun m => !memFenced s m)
    let s := modMem (fun x => { x with cells := x.cells.filter (fun c => decide (millBase ≤ c.1)), flips := [], symErrs := [], cleared := true }) s
    -- a stack of another capacity than 48 or 36 GiB fails training
    let failed := if s.part.stackGib = 48 ∨ s.part.stackGib = 36 then failed else ms.map (fun m => (m, 0)) ++ failed
    let s := ms.foldl (fun s m => match failed.find? (fun p => p.1 == m) with
      | some (_, c) => raise .memChannelFail 2 m (c % 32) s
      | none => modMs m (fun x => { x with st := 1, rate := 0, lanesRepaired := 0, fallback := false, repairs := 0, poisonHome := false, allPoison := false }) s) s
    endPhase 8 (capUpdate s)

def execBootPhase8 (failed : List (Nat × Nat)) (s : State) : Out := .next (bootPhase8 failed s)

/-! ### Phases 9 and 10 -/

/-- Sites have trained; one that has not is fenced (R242, R413). Log entry 80 (DESIGN CHOICE). -/
def bootPhase9 (s : State) : State :=
  if !inPhase s 9 then s
  else
    endPhase 9 ((List.range 12).foldl (fun s n =>
      if siteUp s n && ((siteOf s n).st == 1 || (siteOf s n).st == 2) then siteFence n 6 0 0 .tsiTrainFail s else s) s)

def execBootPhase9 (s : State) : Out := .next (bootPhase9 s)

/-- Multiples that the timecode has passed count as done (R46). Log entry 3 (DESIGN CHOICE). -/
def notePassed (s : State) : State :=
  let t := s.tc.timecode.toNat
  let s := modTc (fun c => { c with idleDone := t / 2048 }) s
  let s := modBlk (fun b => { b with epochDone := max b.epochDone (t / 1000000) }) s
  let s := modGaf (fun g => { g with evalDone := t / 100000, energyDone := t / 1000000 }) s
  modTel (fun x => { x with done := t / 1000000 }) s

/-- Pod links have trained; time transfer sets the timecode by one jump to the pod's time, or holdover begins (R43, R45).
Log entry 80 (DESIGN CHOICE). -/
def bootPhase10 (s : State) : State :=
  if !inPhase s 10 then s
  else
    let s := timeSelect s
    let s := match s.pod.upstream with
      | none => timeLost s
      | some _ =>
        let jump := s.pod.medianOffset / 2
        let s := modTc (fun t => { t with timecode := t.timecode + BitVec.ofInt 64 jump, diff := 0, podSync := s.pod.locked }) s
        notePassed ((List.range 48).foldl (fun s l => modPodLink l (fun x => { x with time := { x.time with t1 := none, offsets := [] } }) s) s)
    endPhase 10 s

def execBootPhase10 (s : State) : Out := .next (bootPhase10 s)

/-! ### Phase 11 -/

/-- READY (R414): the digest stands, the first continuity messages go, and the start is recorded (R429, R432, R440).
Log entries 65 (DEDUCED), 82 (DEDUCED). -/
def bootPhase11 (s : State) : State :=
  if !inPhase s 11 then s
  else
    let s := modRole (fun r => { r with digest := digestNow s, contDone := sweepsDue s }) s
    let s := capUpdate (contSend s)
    let s := modBoot (fun b => { b with ready := true }) (endPhase 11 s)
    let s := modSlot s.boot.slot (fun x => { x with attempts := 0 }) s
    let s := modBoot (fun b => { b with rollback := max b.rollback (slotOf s b.slot).svn }) s
    let seq := match s.boot.script with
      | some x => x.sequence.toNat
      | none => 0
    let s := audit none 0x31 s.ident.fwVersion (BitVec.ofNat 64 (seq + b2n s.boot.warm * 2 ^ 32)) s
    let s := if s.boot.fallbackDue then raise .firmwareFallback 10 5 0 (modBoot (fun b => { b with fallbackDue := false }) s) else s
    let s := if s.thm.again then
        sendFault (mkMsg s .thermalTrip 8 s.thm.tripStation (thermAddr s.thm.tripTemp 0)) (modThm (fun x => { x with again := false }) s)
      else s
    if selfMatched s then s else contMismatch s

def execBootPhase11 (s : State) : Out := .next (bootPhase11 s)

end Sys2Proof.Machine
end

