-- ==== Sys2Proof/Machine/Dark.lean ====
section
/-! DEFINITION. Restart, the dark state and the wake (R415, R416, R456). -/

namespace Sys2Proof.Machine

open Sys2Proof

/-- A write of RESTART, DARK or WAKE takes effect: the register write and the action are recorded (R429).
Log entry 84 (DEDUCED). -/
def bootControl (p : Path) (data object : Nat) (s : State) : State :=
  audit (some p) 0x12 (BitVec.ofNat 32 object) 0 (audit (some p) 0x10 0x020004#32 (BitVec.ofNat 64 data) s)

/-- RESTART (R416): refused while a job runs. -/
def execRestart (p : Path) (s : State) : Out :=
  .next (if mayWrite s p .i && (runningJobs s).isEmpty then restartBase 1 (bootControl p 1 1 s) else s)

/-! ### The dark state (R415) -/

/-- Sites powered down, stacks in self-refresh, ports unlit, the reel ended and its pointers discarded. -/
def goDark (s : State) : State :=
  let s := (List.range 12).foldl (fun s n =>
    if sitePresent s.part n && (siteOf s n).st != 5 then sitePowerDown n 1 s else s) s
  let s := modPins (fun p => { p with lsEn := false }) s
  let s := (memStations s.part.variant).foldl (fun s m => if memFenced s m then s else modMs m (fun x => { x with st := 0 }) s) s
  let s := (List.range 48).foldl (fun s l => if hasLink s.part.variant l then linkDrop l s else s) s
  let s := if reelActive s || s.tc.reel == .waiting then endReel s else s
  let s := modTc (fun t => { t with startWait := none, firstPass := none, passCount := 0, spliceTime := 0 }) s
  let s := modSlu (fun u => { u with feeds := [], lands := [], rings := [], air := [], judged := [], frameLanded := [], swap := .none }) s
  modBoot (fun b => { b with dark := true, ready := false }) s

def execDark (p : Path) (s : State) : Out :=
  .next (if mayWrite s p .i && (runningJobs s).isEmpty then goDark (bootControl p 2 2 s) else s)

/-! ### The wake (R412, R415, R456) -/

/-- The sluice matrix: the reel store with its slots, TABLE_MODE, and the counters that a read clears. -/
def wakeSlu (u : Slu) : Slu :=
  { store := u.store, next := u.next, ckHeader := u.ckHeader, ckCode := u.ckCode, ckRecord := u.ckRecord, ckStation := u.ckStation
    ckPlane := u.ckPlane, affected := u.affected, tableMode := u.tableMode, drainDiscard := u.drainDiscard
    overrunCount := u.overrunCount, frameDiscard := u.frameDiscard, sent := u.sent, received := u.received }

/-- The timecode block: what the script fixes, the slot that is active, and the counts that go on. -/
def wakeTc (t : Tc) : Tc :=
  { phase := t.phase, activeSlot := t.activeSlot, kept := t.kept, frameNo := t.frameNo, clapMode := t.clapMode, clapOffset := t.clapOffset
    clapState := if t.clapMode = 1 then .acquiring else .off, viol := t.viol }

def wakeMs (x : MsSt) : MsSt :=
  { st := if x.st = 3 then 3 else 0, poisonHome := x.poisonHome, corr := x.corr, uncorr := x.uncorr, combStores := x.combStores
    combAdds := x.combAdds, combPeak := x.combPeak, onDie := x.onDie, scrubPasses := x.scrubPasses }

def wakeMem (m : Mem) : Mem :=
  { cells := m.cells, home := m.home, timeoutUs := m.timeoutUs, addressable := m.addressable, violations := m.violations
    failures := m.failures, lateRsp := m.lateRsp, freeCtr := m.freeCtr, stations := m.stations.map (fun p => (p.1, wakeMs p.2)) }

def wakeBlk (b : Blk) : Blk :=
  { hits := b.hits, touches := b.touches, fetched := b.fetched, full := b.full, dropped := b.dropped, trackFull := b.trackFull }

def wakeMpd (m : Mpd) : Mpd :=
  { owners := m.owners, fenced := m.fenced, corr := m.corr, uncorr := m.uncorr, fencedDiscard := m.fencedDiscard }

/-- A site: its limits and counters; a fenced one stays fenced. -/
def wakeSite (x : SiteSt) : SiteSt :=
  { st := if x.st = 5 then 5 else 0, cause := x.cause, causeModule := x.causeModule, causeGroup := x.causeGroup, limits := x.limits
    laneErr := x.laneErr, count := x.count, vsio := x.vsio }

def wakeLink (x : PodLink) : PodLink :=
  { st := if x.st = 5 then 5 else 0, viol := x.viol, txFlits := x.txFlits, rxFlits := x.rxFlits, txBytes := x.txBytes
    rxBytes := x.rxBytes, peak := x.peak, stall := x.stall }

def wakePod (p : Pod) : Pod :=
  { links := p.links.map (fun x => (x.1, wakeLink x.2)), laneDrops := p.laneDrops, evict := p.evict, dup := p.dup
    fwdDiscard := p.fwdDiscard, route := p.route, priority := p.priority }

def wakeFoc (f : Foc) : Foc :=
  { keptFoc f with wrongLocks := f.wrongLocks, lockLost := f.lockLost, failovers := f.failovers }

/-- The gaffer: what the script fixes, and energy; until the first grant after READY the budget is GAF_FALLBACK (R355).
Log entry 83 (DEDUCED). -/
def wakeGaf (g : Gaf) : Gaf :=
  { budget := g.fallback, reserveBase := g.reserveBase, reserveStack := g.reserveStack, fallback := g.fallback, rackEid := g.rackEid
    energy := g.energy, sites := g.sites.map (fun p => (p.1, { cap := p.2.cap, pmax := p.2.pmax, viol := p.2.viol })) }

/-- Sessions, the voted store's tables, and the values from the script. -/
def wakeRole (r : RoleSt) : RoleSt :=
  { sessions := r.sessions, enrolled := r.enrolled, reenrolArmed := r.reenrolArmed, facActive := r.facActive
    audit := r.audit, auditHead := r.auditHead, auditSeq := r.auditSeq, archived := r.archived, auditLost := r.auditLost
    archiveTries := r.archiveTries, archiveWait := r.archiveWait, digest := r.digest, expect := r.expect, expectAlt := r.expectAlt, routeId := r.routeId }

/-- Pair state and epoch are voted; what was mirrored is gone, so a pair forms again by resynchronisation.
Log entry 83 (DEDUCED). -/
def wakePair (p : PairSt) : PairSt := { cfg := p.cfg, epoch := p.epoch, hbMiss := p.hbMiss }

/-- Boot at a wake (R415, R416). Log entry 83 (DEDUCED). -/
def wakeBoot (b : Boot) : Boot := { b with phaseMs := [], dark := false, ready := false, checkSt := 0, checkCopy := 0, checkItem := 0, warm := false }

def wakeMrc (m : Mrc) : Mrc :=
  { remapCount := m.remapCount, lambdaOutCount := m.lambdaOutCount, count := m.count }

/-- Registers take the values that R456 gives at a wake: counters since power-up, counters that a read clears, energy and
every value from the script, training or the voted store stay. Log entry 83 (DEDUCED). -/
def wakeState (s : State) : State :=
  let t : State := { s with
    tc := wakeTc s.tc
    slu := wakeSlu s.slu
    mrc := wakeMrc s.mrc
    mem := wakeMem s.mem
    blk := wakeBlk s.blk
    mpd := wakeMpd s.mpd
    grp := { coalesced := s.grp.coalesced }
    mst := { discards := s.mst.discards, incompletes := s.mst.incompletes }
    tsi := s.tsi.map (fun p => (p.1, wakeSite p.2))
    pod := wakePod s.pod
    foc := wakeFoc s.foc
    gaf := wakeGaf s.gaf
    pair := wakePair s.pair
    role := wakeRole s.role
    boot := wakeBoot { s.boot with flash := keptFlash s }
    csp := {}
    tel := { seq := s.tel.seq, missed := s.tel.missed }
    ident := { node := s.ident.node, fwVersion := s.ident.fwVersion, cap := s.ident.cap } }
  match s.boot.script with
  | some x => startValues x t
  | none => t

/-- WAKE: phases 2 and 5 to 11. -/
def execWake (p : Path) (s : State) : Out :=
  .next (if s.boot.dark && !s.flt.safe && holds s p .i then
      beginBoot 2 2 (wakeState (bootControl p 4 3 s))
    else s)

end Sys2Proof.Machine
end

