-- ==== Sys2Proof/Machine/Fence.lean ====
section
/-! DEFINITION. What a fence does to its unit and what its end brings back (R95, R140, R152, R173, R225, R332, R382, R383). -/

namespace Sys2Proof.Machine

open Sys2Proof

/-! ### A fenced pair (R382) -/

/-- Fail a request that waits on a fenced pair: at its requester, or back over the flow it came in on.
Log entry 75 (DEDUCED). -/
def failWaiting (src : Nat) (q : MemReq) (s : State) : State :=
  if q.node ≠ s.ident.node then failHome src q s
  else
    match outst s q.buf q.slot with
    | none => s
    | some o =>
      if o.gen ≠ q.gen then s
      else
        releaseSlot q.buf q.slot (failNow o.req 2 .targetFenced s)

/-- What becomes of a message on a fenced pair: REQ and MGT requests fail, others are discarded. Log entry 75 (DEDUCED). -/
def failMsg (src : Nat) (m : MrMsg) (s : State) : State :=
  match m.pay with
  | .req q => failWaiting src q s
  | .mgtRead n k _ tag | .mgtWrite n k _ tag _ => releaseMgt n (siteDeliver n (some k) (csRspSlot tag 0xFFFFFFFF#32) s)
  | _ => s

/-- The credit notes of the first n slots of a class. -/
def keepNotes (cls : Nat) : Nat → List CreditNote → List CreditNote
  | _, [] => []
  | n, x :: t => if x.cls = cls ∧ 0 < n then x :: keepNotes cls (n - x.slots) t else keepNotes cls n t

/-- Take everything off a pair that waits or is in flight; messages in the receive buffer stay, and hold their credits.
Log entry 75 (DEDUCED). -/
def pairFlush (src dst : Nat) (s : State) : State :=
  let k := pairKey src dst
  let lams := lambdasOf src dst ++ (if (spareOf s src).dest = some dst then [95] else [])
  let flying := (lams.map (fun l => (((lamOf s src l).unacked.map (·.msgs)).flatten).map (·.2))).flatten
  let again := (tget [] s.mrc.resend k).map (·.2)
  let queued := ((List.range 7).map (fun c => tget [] s.mrc.queues (pcKey src dst c))).flatten
  let left (c : Nat) : Nat := ((tget [] s.mrc.rx (pcKey src dst c)).map (·.slots)).sum + tget 0 s.mrc.freed (pcKey src dst c)
  let notes := tget [] s.mrc.jobs k
  let s := modMrc (fun m => { m with
    resend := tset [] m.resend k []
    queues := ((List.range 7).foldl (fun t c => tset [] t (pcKey src dst c) []) m.queues).map (fun p =>
      if p.1 / 8 / 36 = src then (p.1, p.2.map (fun x => { x with mc := x.mc.filter (· ≠ dst) })) else p)
    lambdas := lams.foldl (fun t l => tupd {} t (src * 96 + l) (fun x => { out := x.out, uncorr := x.uncorr })) m.lambdas
    used := (List.range 7).foldl (fun t c => tset 0 t (pcKey src dst c) (left c)) m.used
    jobs := tset [] m.jobs k (((List.range 7).map (fun c => keepNotes c (left c) notes)).flatten) }) s
  (flying ++ again ++ queued).foldl (fun s m => failMsg src m s) s

/-- Every pair of a station, in both directions. -/
def stationFlush (st : Nat) (s : State) : State :=
  ((stations s.part.variant).filter (· ≠ st)).foldl (fun s x => pairFlush x st (pairFlush st x s)) s

/-! ### The effect of a fence -/

/-- FENCE_NOTICE leaves in the sideband's last window, ahead of every other message (R272, R273). -/
def fenceNotice (n cause : Nat) (s : State) : State :=
  let m : SbMsg := { kind := .fenceNotice, vals := [cause] }
  let s := emit (.sideband n .fenceNotice [cause]) s
  if (siteOf s n).sb.start.isSome then (sbWords m).foldl (fun s w => emit (.sbWord n w) s) s else s

/-- A site: FENCE_NOTICE, power-down, its collective members late (R223, R241, R249, R273). A fence for a reason that is not the
site's own shows cause 0 (R251). -/
def siteOff (n : Nat) (s : State) : State :=
  if !sitePresent s.part n then s
  else
    let s := modSite n (fun x => if x.causeNew then { x with causeNew := false } else { x with cause := 0, causeModule := 0, causeGroup := 0 }) s
    mstSiteFenced n (sitePowerDown n 5 (fenceNotice n (siteOf s n).cause s))

/-- The station that an answer goes to (R128, R301). -/
def answerTo (s : State) (q : MemReq) : Nat :=
  if q.node == s.ident.node then bufStation q.buf else (flowXs s q.node q.req.job cRSP).getD (bufStation q.buf)

/-- The accesses at a fenced memory station's ordering point end as failures (R140): answered from there, or, where no pair is
left to carry the answer, at their requesters. -/
def failQueue (m : Nat) (s : State) : State :=
  let qs := (msSt s m).queue
  qs.foldl (fun s q => if pairFenced s (msOf m) (answerTo s q) then failWaiting (msOf m) q s else failHome (msOf m) q s)
    (modMs m (fun x => { x with queue := [] }) s)

/-- A memory station: POISON_HOME in its home entries, and every replica dropped (R152, R160). -/
def memOff (m : Nat) (s : State) : State :=
  failQueue m (dropAllReplicas (modMs m (fun x => { x with st := 3, poisonHome := true }) s))

/-- A pod link: down, its flows moved (R297). -/
def linkOff (l : Nat) (s : State) : State := modPodLink l (fun x => { x with st := 5 }) (linkDrop l s)

/-- A grip: what it has not started goes to other grips (R161). Log entry 35 (DEDUCED). -/
def gripOff (g : Nat) (s : State) : State :=
  s.grp.descs.foldl (fun s d =>
    if d.grip = g ∧ d.st = .pending then
      let h := chooseGrip s d.d (wsOf (g / 4))
      modGrp (fun x => { x with descs := x.descs.map (fun e => if e == d then { e with grip := h } else e) }) s
    else s) s

/-- A crew core: its scratchpad is lost; with no core left the base enters safe state. -/
def coreOff (c : Nat) (s : State) : State :=
  let s := modMpd (fun m => { m with scratch := cellsClear m.scratch (c * 2 ^ 19) ((c + 1) * 2 ^ 19), scratchBad := tclear m.scratchBad (c * 2 ^ 16) ((c + 1) * 2 ^ 16) }) s
  if (List.range 32).any (crewUp s) then s else enterSafe s

/-- An element that the collector takes out of service without its focus unit having done so. Log entry 76 (DEDUCED). -/
def elemOff (e : Nat) (s : State) : State :=
  if (elemKind s.part.variant e).isNone || (elemOf s e).st = 3 then s
  else elemEffect e (modElem e (fun x => { x with st := 3, cause := 1, search := none }) s)

/-- The parts of a fenced station (R382). -/
def stationOff (st : Nat) (s : State) : State :=
  let s := stationFlush st s
  match kindOf st with
  | (.ss, n) => siteOff n s
  | (.ms, m) => memOff m s
  | (.xs, x) => (List.range 6).foldl (fun s j => linkOff (6 * x + j) s) s
  | (.ws, w) => mstFence w s

/-- The effect of a fence on its unit (R382). Sluice ports and planes act as dark from the next frame boundary. -/
def fenceEffect (u : UnitId) (s : State) : State :=
  let i := u.index
  if u.type = 2 then siteOff (i % 16) s
  else if u.type = 3 then (if (lamOf s (i % 64) (i / 64)).out then s else lambdaOut (i % 64) (i / 64) s)
  else if u.type = 4 then pairFlush (i % 64) (i / 64) s
  else if u.type = 7 then stationOff (i % 64) s
  else if u.type = 8 then memOff (i % 16) s
  else if u.type = 9 then laneDrop (i % 64) (i / 64) 1 s
  else if u.type = 10 then linkOff (i % 64) s
  else if u.type = 11 then mstFence (i % 4) s
  else if u.type = 12 then gripOff (i % 16) s
  else if u.type = 13 then stopWatches (i % 32) s
  else if u.type = 14 then (if (feedOf s (i % 16)).low then s else feedGone (i % 16) s)
  else if u.type = 15 ∧ i % 4 = 0 then elemOff (i / 4) s
  else if u.type = 15 ∧ i % 4 = 2 then coreOff (i / 4) s
  else s

/-! ### The end of a fence -/

/-- A memory station is retrained and rewritten: zero data with POISON set on every line (R140). -/
def memBack (m : Nat) (s : State) : State :=
  let lines := (s.mem.flips.filter (fun p => homeOf s (p.1 * 64) == m)).map (·.1)
  modMs m (fun x => { x with st := 1, poisonHome := false, allPoison := true, repairs := 0 })
    (modMem (fun x => { x with
      cells := x.cells.filter (fun c => decide (millBase ≤ c.1) || homeOf s c.1 != m)
      flips := lines.foldl (fun t k => tset false t k false) x.flips
      symErrs := x.symErrs.filter (fun c => homeOf s (c.1 * 64) != m) }) s)

/-- A bank is cleared as a start clears it, and its watches resume (R175, R189). -/
def bankBack (b : Nat) (s : State) : State :=
  let lo := b * 0x400000
  resumeWatches b (modMem (fun m => { m with
    cells := cellsClear m.cells (millBase + lo) (millBase + lo + 0x400000)
    badWords := tclear m.badWords (lo / 8) (lo / 8 + 0x80000) }) s)

/-- Units inside one that returns end their fences with it (R295, R383, R389). Log entry 73 (DEDUCED). -/
def liftInside (p : UnitId → Bool) (s : State) : State :=
  ((s.flt.map.filterMap (·.2)).filter (fun e => p e.unit)).foldl (fun s e => liftFence e.unit s) s

/-- The units that a feed's role serves in a field (R332). -/
def roleUnits (s : State) (field role : Nat) : List UnitId :=
  let sts := (stations s.part.variant).filter (fun st => fieldOf st == field)
  if role = 0 then (sts.map (fun st => ((List.range 6).map (fun p => [uPort st p 0, uPort st p 1])).flatten)).flatten
  else if role = 1 then (sts.map (fun st => (List.range 96).filterMap (fun l =>
    if l = 95 ∨ (lambdaDest st l).isSome then some (uLambda st l) else none))).flatten
  else if role = 2 then ([2 * field, 2 * field + 1].map (fun x => (List.range 6).map (fun j => uLink (6 * x + j)))).flatten
  else []

/-- The units of a role are retried at once (R332). Log entry 74 (DEDUCED). -/
def retryRole (field role : Nat) (s : State) : State :=
  (roleUnits s field role).foldl (fun s u => modEntry u (fun e => { e with atOnce := true }) s) s

/-- A unit comes back (R383). -/
def unitBack (u : UnitId) (s : State) : State :=
  let i := u.index
  if u.type = 2 then liftInside (fun v => decide (v.type < 2) && v.index % 16 == i % 16) s
  else if u.type = 3 then
    let s := lambdaBack (i % 64) (i / 64) s
    (match lambdaDest (i % 64) (i / 64) with
     | some d => liftFence (uPair (i % 64) d) s
     | none => s)
  else if u.type = 4 then modMrc (fun m => { m with down := m.down.filter (· ≠ pairKey (i % 64) (i / 64)) }) s
  else if u.type = 7 then
    (match kindOf (i % 64) with
     | (.ss, n) => if (siteOf s n).st = 5 ∧ fenced s (uSite n) = false then modSite n (fun x => { x with st := 1 }) s else s
     | (.ms, m) => if fenced s (uMem m) then s else memBack m s
     | (.xs, x) => (List.range 6).foldl (fun s j =>
         if fenced s (uLink (6 * x + j)) || (podLink s (6 * x + j)).st != 5 then s else modPodLink (6 * x + j) (fun y => { y with st := 0 }) s) s
     | (.ws, w) => if fenced s (uMill w) then s else mstReturn w s)
  else if u.type = 8 then memBack (i % 16) s
  else if u.type = 9 then laneRejoin (i % 64) (i / 64) s
  else if u.type = 10 then liftInside (fun v => v.type == 9 && v.index % 64 == i % 64) s
  else if u.type = 11 then mstReturn (i % 4) s
  else if u.type = 13 then bankBack (i % 32) s
  else if u.type = 14 then
    let t := feedReturn (i % 16) s
    retryRole (i % 16 / 4) (feedOf t (i % 16)).role t
  else if u.type = 15 ∧ i % 4 = 0 then elemBack (i / 4) s
  else if u.type = 15 ∧ i % 4 = 1 then modThm (fun x => { x with devSince := tset none x.devSince (i / 4) none }) s
  else s

/-- The end of a fence: the unit back, UNIT_RESTORED, the capability block and the division of power (R356, R383, R459). -/
def restore (u : UnitId) (s : State) : State := divideFence (capUpdate (liftFence u (unitBack u s)))

end Sys2Proof.Machine
end

