-- ==== Sys2Proof/Machine/Faults.lean ====
section
/-! DEFINITION. The fault collector, recovery, the voted store and fault injection (R376 to R389). -/

namespace Sys2Proof.Machine

open Sys2Proof

/-! ### The collector -/

/-- Line k of the outtake ring, four entries (R391). -/
def outtakeLine (s : State) (k : Nat) : Line :=
  (List.range 4).foldl (fun l i => match tget none s.flt.ring (4 * k + i) with
    | some m => l ||| ((faultWord m).setWidth 512 <<< (128 * i))
    | none => l) 0

/-- Records of a message (R376, R377, R389): the count of its kind, the first-error capture, the outtake ring, PENDING. -/
def record (m : FaultMsg) (s : State) : State :=
  let take := decide (1 ≤ m.sev.toNat) && s.flt.first.isNone
  let m := { m with first := take }
  let k := s.flt.head / 4
  let t := showAlert (modFlt (fun f => { f with
    counts := tupd 0 f.counts m.kind.toNat (fun c => sat32 c 1)
    first := if take then some m else f.first
    ring := if f.frozen then f.ring else tset none f.ring f.head (some m)
    head := if f.frozen then f.head else (f.head + 1) % 32
    frozen := f.frozen || m.sev == 3
    pending := f.pending || decide (1 ≤ m.sev.toNat) }) s)
  if s.flt.frozen then t else mirrorLog k (outtakeLine t k) t

/-- A message that no unit of this model raised counts for the triggers too (R381, R388). Log entry 75 (DEDUCED). -/
def noteTriggers (m : FaultMsg) (s : State) : State :=
  let k := m.kind.toNat
  let i := m.inst.toNat
  let add (t : Tab (List Tick)) (key gap : Nat) : Tab (List Tick) := tupd [] t key (fun l => s.now :: l.filter (fun u => decide (s.now < u + gap)))
  modFlt (fun f => { f with
    portDiscards := if k = 0x10 ∨ k = 0x11 then add f.portDiscards (i * 8 + m.addr.toNat % 8) 1000000 else f.portDiscards
    slackMisses := if k = 0x95 then add f.slackMisses i 10000000 else f.slackMisses
    bankWords := if k = 0x47 then add f.bankWords i 1000000000 else f.bankWords }) s

/-- Events within a time that has not passed. -/
def recent (s : State) (l : List Tick) (gap : Nat) : Nat := (l.filter (fun t => decide (s.now < t + gap))).length

/-- The unit that a ring or cell takes with it (R326, R381). -/
def elemUnit (s : State) (e : Nat) : List UnitId :=
  match elemKind s.part.variant e with
  | some (.sluMod p _) => [uPort (e / 1024) p 0]
  | some (.sluDrop p _) => [uPort (e / 1024) p 1]
  | some (.cell p) => [uPlane p]
  | _ => []

/-- The station, stack or site that an instance of the thermal block or the gaffer names (R375). Log entry 72 (DEDUCED). -/
def thermUnit (i : Nat) : UnitId := if i < 36 then uStation i else if i < 48 then uMem (i - 36) else uSite (i - 48)

/-- The units that a message fences, and whether UNIT_FENCED names each (R381): a unit that the message names by its address
is not its source. Log entries 72 (DEDUCED), 76 (DEDUCED). -/
def fencesOf (s : State) (m : FaultMsg) : List (UnitId × Bool) :=
  let i := m.inst.toNat
  let a := m.addr.toNat
  if m.sev = 0 then []
  else
    match m.kind.toNat with
    | 0x01 => [(uPodLane i (a % 16), true)]
    | 0x02 => [(uLink i, false)]
    | 0x09 => [(uModule i (a % 64), true)]
    | 0x0B | 0x0C | 0x0D | 0x90 | 0x93 => [(uSite i, false)]
    | 0x0E => [(uLambda i (a / 16 % 128), true)]
    | 0x0F => [(uPair i (a / 2048 % 64), true)]
    | 0x10 | 0x11 => if 64 ≤ recent s (tget [] s.flt.portDiscards (i * 8 + a % 8)) 1000000 then [(uPort i (a % 8) 1, true)] else []
    | 0x20 | 0x21 | 0x22 => (uElem (a % 65536), true) :: (elemUnit s (a % 65536)).map (fun u => (u, true))
    | 0x25 => [(uFeed (a / 65536 % 16), true)]
    | 0x26 => (uFeed (a / 65536 % 16), true) ::
        (roleUnits s (a / 65536 % 16 / 4) (feedOf s (a / 65536 % 16)).role).map (fun u => (u, true))
    | 0x44 => [(uMem i, false)]
    | 0x47 => if 17 ≤ recent s (tget [] s.flt.bankWords i) 1000000000 then [(uBank i, true)] else []
    | 0x49 => [(uGrip i, false)]
    | 0x61 => [(uMill i, false)]
    | 0x84 => [(uStation i, false)]
    | 0x85 => [(uSensor (a / 65536 % 256), true)]
    | 0x88 | 0x8A => [(if m.block = 9 then uSite i else thermUnit i, false)]
    | 0x95 => if 16 ≤ recent s (tget [] s.flt.slackMisses i) 10000000 then [(uStation i, true)] else []
    | 0xA4 => [(unitOfWord (m.addr.setWidth 32), false)]
    | 0xA9 => [(uCore i, false)]
    | _ => []

/-- The units that a message names, beside those it fences (R383): its source, and what its address holds (R375).
Log entry 72 (DEDUCED). -/
def namesOf (m : FaultMsg) : List UnitId :=
  let i := m.inst.toNat
  let a := m.addr.toNat
  let k := m.kind.toNat
  match m.block.toNat with
  | 0 => if k = 0x0F then [] else [uStation i]
  | 1 => [uSite i] ++ (if k = 0x08 then [uModule i (a % 64)] else [])
  | 2 => [uMem i]
  | 3 => [uLink i]
  | 4 => [uMill i]
  | 5 => [uGrip i]
  | 6 => [uBank i]
  | 7 => if k = 0x27 then [uFeed (a / 65536 % 16)] else []
  | 8 => [thermUnit i]
  | 9 => if i < 12 then [uSite i] else []
  | 10 => if k = 0xA6 then [unitOfWord (m.addr.setWidth 32)] else []
  | 12 => [uCore i]
  | _ => []

/-- Fence one unit (R381): its entry, UNIT_FENCED and RECOVERY_LIMIT where due, its effect, the capability block and the
division of power. Log entry 72 (DEDUCED). -/
def fenceOne (u : UnitId) (kind : Byte) (announce : Bool) (s : State) : State :=
  match enterFence u kind s with
  | (none, t) => t
  | (some (v, held), t) =>
    let t := if announce || v != u then unitMsg .unitFenced v t else t
    let t := if held then unitMsg .recoveryLimit v t else t
    divideFence (capUpdate (fenceEffect v t))

/-- Millrace pairs that are fenced from one source. -/
def pairsFrom (s : State) (src : Nat) : Nat :=
  ((s.flt.map.filterMap (·.2)).filter (fun e => e.unit.type == 4 && e.unit.index % 64 == src)).length

/-- Fence a unit; three pairs down from one source fence the station (R381). -/
def fenceUnit (u : UnitId) (kind : Byte) (announce : Bool) (s : State) : State :=
  let t := fenceOne u kind announce s
  if u.type = 4 ∧ 3 ≤ pairsFrom t (u.index % 64) then fenceOne (uStation (u.index % 64)) kind true t else t

/-- The collector takes a message (R376 to R378, R381, R383, R389). A fatal message from outside this model brings safe state
here; one that a unit of this model raised has brought it already. In safe state only the records are kept.
Log entries 5 (DESIGN CHOICE), 6 (DEDUCED), 75 (DEDUCED). -/
def collect (ext : Bool) (m : FaultMsg) (s : State) : State :=
  let s := record m s
  if (ext || m.injected) && m.sev == 3 then enterSafe s
  else if s.flt.safe then s
  else
    let s := if ext || m.injected then noteTriggers m s else s
    let s := if m.sev = 0 then s
      else (namesOf m).foldl (fun s u => modEntry u (fun e => if e.st = .held then e else { e with quietFrom := s.now, atOnce := false }) s) s
    (fencesOf s m).foldl (fun s u => fenceUnit u.1 m.kind u.2 s) s

/-- FAULT_MESSAGE: the oldest message of the fault network, or one that a unit outside this model sends.
Log entry 5 (DESIGN CHOICE). -/
def faultMessage (m : Option FaultMsg) (s : State) : State :=
  match m with
  | some m => collect true m s
  | none =>
    match s.flt.net with
    | [] => s
    | x :: rest => collect false x (modFlt (fun f => { f with net := rest }) s)

def execFaultMessage (m : Option FaultMsg) (s : State) : Out := .next (faultMessage m s)

/-! ### Recovery -/

/-- A unit that R383 retries: not a site lane or module alone, nor a station fenced for LOW_TEMP. -/
def retried (e : FenceEntry) : Bool := decide (2 ≤ e.unit.type) && !(e.unit.type == 7 && e.kind == 0x84)

/-- A retry begins (R383): it counts, whatever its outcome. -/
def retryBegin (u : UnitId) (s : State) : State := noteRetry u (modEntry u (fun e => { e with st := .retrying, atOnce := false }) s)

/-- FENCE_RETRY: the quiet period of 5 s has passed (R332, R348, R383). Log entry 4 (DESIGN CHOICE). -/
def fenceRetry (u : UnitId) (s : State) : State :=
  match fenceOf s u with
  | none => s
  | some e =>
    let due := e.atOnce || decide (e.quietFrom + 5000000000 ≤ s.now)
    let hot := u.type == 8 && decide (tget 0 s.thm.stackSt (u.index % 16) = 2)
    if s.flt.safe || e.st != .fenced || !due || !retried e || insideFenced s u || hot then s else retryBegin u s

def execFenceRetry (unit : UnitId) (s : State) : Out := .next (fenceRetry unit s)

/-- What a retry must have reached before it can succeed: a site trained, a link up, a pair with a wavelength. -/
def retryMet (s : State) (u : UnitId) : Bool :=
  if u.type = 2 then (siteOf s (u.index % 16)).st == 3 || (siteOf s (u.index % 16)).st == 4
  else if u.type = 10 then decide (2 ≤ (podLink s (u.index % 64)).st ∧ (podLink s (u.index % 64)).st ≤ 4)
  else if u.type = 4 then !(lambdasIn s (u.index % 64) (u.index / 64)).isEmpty || (spareOf s (u.index % 64)).dest == some (u.index / 64)
  else true

/-- A retry that failed is a new fault (R383); at six retries the unit is held (R384). Log entry 74 (DEDUCED). -/
def retryFailed (u : UnitId) (s : State) : State :=
  let s := if u.type = 2 ∧ (siteOf s (u.index % 16)).on = true then sitePowerDown (u.index % 16) 5 s else s
  let s := if u.type = 10 then linkOff (u.index % 64) s else s
  if 6 ≤ recoveryCount s u then unitMsg .recoveryLimit u (modEntry u (fun e => { e with st := .held }) s)
  else modEntry u (fun e => { e with st := .fenced, quietFrom := s.now }) s

/-- RETRY_COMPLETE: a retry ends (R383). -/
def retryComplete (u : UnitId) (ok : Bool) (s : State) : State :=
  match fenceOf s u with
  | none => s
  | some e =>
    if s.flt.safe || e.st != .retrying then s
    else if ok then (if retryMet s u then restore u s else s)
    else retryFailed u s

def execRetryComplete (unit : UnitId) (ok : Bool) (s : State) : Out := .next (retryComplete unit ok s)

/-- FLT_FENCE_CLEAR (R384, R389): the counter is reset and the retry starts at once; one that runs, runs on.
Log entry 74 (DEDUCED). -/
def fenceClear (u : UnitId) (s : State) : State :=
  match fenceOf s u with
  | none => s
  | some e =>
    let s := modFlt (fun f => { f with recoveries := tset [] f.recoveries (unitWord u).toNat [] }) s
    if e.st = .retrying ∨ retried e = false ∨ insideFenced s u = true then
      modEntry u (fun e => if e.st = .held then { e with st := .fenced, quietFrom := s.now } else e) s
    else retryBegin u s

def execFltFenceClear (p : Path) (unit : UnitId) (s : State) : Out :=
  .next (iWrite p 0x100038 (unitWord unit).toNat (fenceClear unit) s)

/-- A station fenced for LOW_TEMP has been at 12 °C or more for 1 s (R343, R344); the return does not count. -/
def lowTempReturn (st : Nat) (s : State) : State :=
  match tget none s.thm.lowOk st with
  | none => s
  | some t =>
    if s.flt.safe || !s.thm.lowSt.contains st || decide (s.now < t + 1000000000) then s
    else
      let s := modThm (fun x => { x with lowSt := x.lowSt.filter (· ≠ st), lowOk := tset none x.lowOk st none }) s
      match fenceOf s (uStation st) with
      | some e => if e.kind = 0x84 then restore (uStation st) s else s
      | none => s

def execLowTempReturn (station : Nat) (s : State) : Out := .next (lowTempReturn station s)

/-! ### Registers of the collector -/

/-- The FLT registers that safe state and the dark state leave writable answer (R378, R415, R447). -/
def fltOpen (s : State) : Bool := s.flt.safe || decide (5 ≤ s.boot.phase)

def alertAck (s : State) : State := showAlert (modFlt (fun f => { f with pending := false }) s)
def firstClear (s : State) : State := modFlt (fun f => { f with first := none }) s
def unfreeze (s : State) : State := modFlt (fun f => { f with frozen := false, copied := false }) s

def execFltAlertAck (p : Path) (s : State) : Out := .next (if fltOpen s && holds s p .o then alertAck s else s)

def execFltFirstClear (p : Path) (s : State) : Out := .next (iWrite p 0x100020 1 firstClear s)

def execFltOuttakeUnfreeze (p : Path) (s : State) : Out :=
  .next (if fltOpen s && holds s p .i then audit (some p) 0x10 0x100028 1 (unfreeze s) else s)

/-! ### The voted store, the crew, fault injection -/

/-- The scrubber has read items (R386, R387): a third copy rewritten, or a word lost. Log entry 76 (DEDUCED). -/
def voteScrub (results : List (Nat × VoteResult)) (s : State) : State :=
  results.foldl (fun s r =>
    if s.flt.safe || decide (7 ≤ r.1) then s
    else
      match r.2 with
      | .agree => s
      | .scrubbed =>
        raise .voteScrubbed 10 4 r.1 (modFlt (fun f => { f with
          scrubs := sat16 f.scrubs 1
          items := f.items ||| BitVec.ofNat 7 (2 ^ r.1) }) s)
      | .lost => raise .voteLost 10 4 r.1 s) s

def execVoteScrub (results : List (Nat × VoteResult)) (s : State) : Out := .next (voteScrub results s)

/-- A crew core's watchdog of 10 ms expires (R379); the firmware code in its message is a free value. -/
def crewWatchdog (c : Nat) (s : State) : State :=
  if s.flt.safe || !crewUp s c then s
  else
    let (n, t) := nextFree s
    raise .crewFault 12 c (Config.freeWord n).toNat t

def execCrewWatchdog (core : Nat) (s : State) : Out := .next (crewWatchdog core s)

/-- Fault injection, in factory test mode under the maker role (R388): the message travels like any other. The addresses and
data of the injection registers, which the audit entry would hold, are free values. Log entry 89 (DEDUCED). -/
def faultInject (m : FaultMsg) (s : State) : State :=
  sendFault { m with injected := true, first := false, time := s.tc.timecode.setWidth 56 } s

def execFaultInject (p : Path) (m : FaultMsg) (s : State) : Out :=
  .next (if s.role.facActive && mayWrite s p .m then
      let (n, t) := nextFree s
      let (k, t) := nextFree t
      audit (some p) 0x10 ((Config.freeWord n).setWidth 32) (Config.freeWord k) (faultInject m t)
    else s)

end Sys2Proof.Machine
end

