-- ==== Sys2Proof/Machine/Flash.lean ====
section
/-! DEFINITION. The flash window and the audit archive (R404, R405, R430). -/

namespace Sys2Proof.Machine

open Sys2Proof

/-! ### The flash window (R405) -/

def scriptBase (copy : Nat) : Nat := 0x2100000 + 0x400000 * copy

/-- The installer may erase and program an offset: the script copy not in use, and the warm-trim area but for a copy that a
save writes. -/
def flashOpen (s : State) (a : Nat) : Bool :=
  let lo := scriptBase (1 - s.boot.copy)
  let saved := s.foc.saving && (if s.foc.writing = 1 then decide (warmA ≤ a ∧ a < warmB) else decide (warmB ≤ a ∧ a < warmB + warmSize))
  decide (lo ≤ a ∧ a < lo + 0x400000) || (decide (warmA ≤ a ∧ a < warmA + 0x200000) && !saved)

/-- A refused command sets REFUSED and changes nothing. Log entry 85 (DEDUCED). -/
def flashRefuse (s : State) : State := modBoot (fun b => { b with flashRefused := true }) s

/-- Read a page into the buffer. -/
def flashRead (s : State) : State :=
  if s.boot.flashBusy then flashRefuse s
  else
    let a := s.boot.flashAddr.toNat / 256 * 256
    let word (k : Nat) : Word32 := BitVec.ofNat 32 (((List.range 4).map (fun i => (flashByte s (a + 4 * k + i)).toNat * 256 ^ i)).sum)
    modBoot (fun b => { b with flashBuf := (List.range 64).foldl (fun t k => tset 0 t k (word k)) [], flashRefused := false, flashError := false }) s

/-- A page program or a sector erase begins. Log entry 85 (DEDUCED). -/
def flashStart (op size : Nat) (s : State) : State :=
  let a := s.boot.flashAddr.toNat / size * size
  if s.boot.flashBusy || !flashOpen s a then flashRefuse s
  else modBoot (fun b => { b with
    flashBusy := true
    flashOp := op
    flashAt := a
    flashData := b.flashBuf
    flashRefused := false
    flashError := false }) s

def execFlashReadPage (p : Path) (s : State) : Out := .next (iWrite p 0x020064 1 flashRead s)
def execFlashProgram (p : Path) (s : State) : Out := .next (iWrite p 0x020064 2 (flashStart 2 256) s)
def execFlashErase (p : Path) (s : State) : Out := .next (iWrite p 0x020064 3 (flashStart 3 4096) s)

/-- What an operation that failed leaves in its bytes, which the manual does not state: a program still only clears bits,
and an erase only sets them (R403). Log entry 85 (DEDUCED). -/
def flashFailed (op a n : Nat) (s : State) : State :=
  (List.range n).foldl (fun s i =>
    let x := (Config.freeWord s.mem.freeCtr).setWidth 8
    let old := flashByte s (a + i)
    let v := if op = 2 then old &&& x else old ||| x
    modMem (fun m => { m with freeCtr := m.freeCtr + 1 }) (modBoot (fun b => { b with flash := tset none b.flash (a + i) (some v) }) s)) s

/-- The operation ends: at most 1 ms for a page, 400 ms for a sector. -/
def flashDone (ok : Bool) (s : State) : State :=
  if !s.boot.flashBusy then s
  else
    let a := s.boot.flashAt
    let s := if !ok then flashFailed s.boot.flashOp a (if s.boot.flashOp = 2 then 256 else 4096) s
      else if s.boot.flashOp = 2 then
        (List.range 256).foldl (fun s i => programByte (a + i) (nthByte (tget 0 s.boot.flashData (i / 4)).toNat (i % 4)) s) s
      else eraseFlash a 4096 s
    modBoot (fun b => { b with flashBusy := false, flashError := !ok, flashData := [] }) s

def execFlashOpComplete (ok : Bool) (s : State) : Out := .next (flashDone ok s)

/-! ### The audit archive (R430) -/

def archiveBase : Nat := 0x2B00000

/-- The oldest entry that is not archived. -/
def oldestEntry (s : State) : Option AuditEntry :=
  tget none s.role.audit ((s.role.auditHead + 1024 - (s.role.auditSeq - s.role.archived).toNat % 1024) % 1024)

/-- One attempt to write the oldest entry into the archive, a ring of 262,144 entries by SEQ, whose sector of 128 entries is
erased before it is used again. The third failed attempt raises AUDIT_ARCHIVE_FAIL; from then on one attempt per second.
Log entry 85 (DEDUCED). -/
def archive (ok : Bool) (s : State) : State :=
  if s.flt.safe || decide (s.boot.phase < 3) || s.role.auditSeq == s.role.archived || decide (s.now < s.role.archiveWait) then s
  else if !ok then
    let n := s.role.archiveTries + 1
    let s := modRole (fun r => { r with archiveTries := min 3 n, archiveWait := if 3 ≤ n then s.now + 1000000000 else r.archiveWait }) s
    if n = 3 then raise .auditArchiveFail 10 7 0 s else s
  else
    let k := s.role.archived.toNat % 262144
    let a := archiveBase + 32 * k
    let s := if k % 128 = 0 then eraseFlash a 4096 s else s
    let s := match oldestEntry s with
      | some e => writeFlash a (leBytes 32 (auditWord e).toNat) s
      | none => s
    modRole (fun r => { r with archived := r.archived + 1, archiveTries := 0, archiveWait := 0 }) s

def execAuditArchive (ok : Bool) (s : State) : Out := .next (archive ok s)

end Sys2Proof.Machine
end

