-- ==== Sys2Proof/Machine/Pair.lean ====
section
/-! DEFINITION. The stand-in pair: heartbeats, mirroring, the claim, claim notices and resynchronisation (R390 to R401). -/

namespace Sys2Proof.Machine

open Sys2Proof

/-! ### Links, credits and the heartbeat -/

def pairLinks (s : State) : List Nat := match s.pair.cfg with
  | some c => [c.linkA, c.linkB]
  | none => []

/-- ADDRESS of the pair's messages (R375). -/
def pairAddr (s : State) : Nat := (match s.pair.cfg with | some c => c.partner.toNat | none => 0) + 2 ^ 16 * s.pair.epoch.toNat
def pairFault (k : FaultKind) (s : State) : State := raise k 11 0 (pairAddr s) s

/-- A pair link that is up and has MIR credits for n slots (R288). -/
def mirRoom (s : State) (l n : Nat) : Bool := (podLink s l).st == 2 && decide (tget 0 (podLink s l).ourUsed 6 + n ≤ 64)

/-- Send an MIR command on a pair link against its credits. Log entries 52 (DESIGN CHOICE), 98 (DESIGN CHOICE). -/
def mirSend (l n : Nat) (name : String) (vals : List Nat) (s : State) : State :=
  emit (.podCmd l name vals) (modPodLink l (fun x => { x with ourUsed := tupd 0 x.ourUsed 6 (· + n) }) s)

/-- CONFIG (R392). -/
def pairConfig (s : State) : Word16 := match s.pair.cfg with
  | some c => Config.pairCrc (c.window.toNat :: c.mask.toNat :: b2n c.forerunner :: c.audience)
  | none => 0

/-- ROLE in a heartbeat: 0 none, 1 lead, 2 stand-in, 3 resynchronising. Log entry 77 (DEDUCED). -/
def beatRole (s : State) : Nat := match s.pair.role with
  | .lead | .leadSolo | .claiming => 1
  | .standIn => 2
  | .resync => 3
  | .none | .yielded => 0

/-- One heartbeat on a pair link: CONFIRMED from the stand-in, RELEASED from the lead (R392). -/
def beat (l : Nat) (s : State) : State :=
  if !mirRoom s l 1 then s
  else
    let fore := match s.pair.cfg with | some c => b2n c.forerunner | none => 0
    mirSend l 1 "MIR_HEARTBEAT" [s.ident.node.toNat, beatRole s + 4 * fore, s.pair.epoch.toNat,
      if beatRole s = 1 then 0 else s.pair.confirmed, if beatRole s = 1 then s.pair.released else 0, (pairConfig s).toNat] s

/-- A line of the set, read for a resynchronisation (R137, R399); one beyond its granule is zero. -/
def setLine (pos k : Nat) (s : State) : Nat × State :=
  if pos % 2 ^ 24 + k < 2 ^ 24 then
    let x := poolRead (setOffset s pos + 64 * k) .clean s
    (x.1.1.toNat, x.2)
  else (0, s)

/-- Words of a state record. Log entry 78 (DESIGN CHOICE). -/
def stateValues : MirStateRec → List Nat
  | .region i f => [0, i, f.node.toNat, f.base.toNat, f.blocks.toNat, f.job.toNat, f.mode.toNat, f.threshold.toNat]
  | .checkpoint c i d => [1, c, i, d.toNat]
  | .log i d => [2, i, d.toNat]

/-- What the lead has to copy goes out while a pair link has credits: lines of the set granule by granule behind the pointer,
then the state records (R391, R399). Log entry 78 (DESIGN CHOICE). -/
def pump (ls : List Nat) : Nat → State → State
  | 0, s => s
  | fuel + 1, s =>
    if s.pair.role != .lead then s
    else if s.pair.resyncing && decide (s.pair.resyncLines < setLines s) then
      match ls.find? (fun l => mirRoom s l 4) with
      | none => s
      | some l =>
        let pos := s.pair.resyncLines
        let n := min 3 (2 ^ 24 - pos % 2 ^ 24)
        let a := setLine pos 0 s
        let b := setLine pos 1 a.2
        let c := setLine pos 2 b.2
        pump ls fuel (mirSend l 4 "MIR_RESYNC" [setOffset s pos, a.1, b.1, c.1]
          (modPair (fun p => { p with resyncLines := pos + n }) c.2))
    else
      match s.pair.outbox, ls.find? (fun l => mirRoom s l 2) with
      | r :: t, some l => pump ls fuel (mirSend l 2 "MIR_STATE" (stateValues r) (modPair (fun p => { p with outbox := t }) s))
      | _, _ => s

/-- A beat that was due and has not come (R402, PAIR_HB_MISS). Log entry 79 (DEDUCED). -/
def countMisses (s : State) : State :=
  let n := b2n (decide (s.pair.lastHb.1 + 1000 < s.now)) + b2n (decide (s.pair.lastHb.2 + 1000 < s.now))
  if s.pair.role == .none then s else modPair (fun p => { p with hbMiss := sat32 p.hbMiss n }) s

/-- HEARTBEAT_SEND (R393): on both pair links every 1 µs; what waits to be copied goes with it. -/
def heartbeatSend (s : State) : State :=
  match s.pair.cfg with
  | none => s
  | some c =>
    if s.flt.safe || decide (s.now < s.pair.nextBeat) || decide (s.boot.phase < 10) then s
    else
      let s := countMisses (modPair (fun p => { p with
        nextBeat := s.now + 1000
        releasedSent := if beatRole s = 1 then (s.now, p.released) :: p.releasedSent.filter (fun x => decide (s.now < x.1 + 16000)) else [] }) s)
      pump [c.linkA, c.linkB] 64 (beat c.linkB (beat c.linkA s))

def execHeartbeatSend (s : State) : Out := .next (heartbeatSend s)

/-! ### Confirmation at the lead (R392, R397, R398) -/

/-- Requests that waited at the ordering point are served again. Log entry 79 (DEDUCED). -/
def retryWaiting (s : State) : State :=
  s.pair.waiting.foldl (fun s q => serve (serveStation s q) q .clean s) (modPair (fun p => { p with waiting := [] }) s)

/-- Everything up to an MSEQ is confirmed: its ACKs leave, and RELEASED follows. -/
def confirmTo (n : Nat) (s : State) : State :=
  if n ≤ s.pair.confirmed then s
  else
    let n := min n s.pair.mseq
    let done := s.pair.work.filter (fun w => decide (w.mseq ≤ n))
    let s := modPair (fun p => { p with work := p.work.filter (fun w => decide (n < w.mseq)), confirmed := n, released := n }) s
    retryWaiting (done.foldl (fun s w => match w.rsp with
      | some a => respond (serveStation s w.req) w.req a s
      | none => s) s)

def mirConfirm (n : Nat) (s : State) : State := if s.flt.safe || s.pair.role != .lead then s else confirmTo n s

def execMirConfirm (mseq : Nat) (s : State) : Out := .next (mirConfirm mseq s)

/-! ### Mirrored work at the stand-in (R391, R392, R397) -/

def mseqOf : MirIn → Nat
  | .store m => m.mseq
  | .word m => m.mseq

/-- Apply one mirrored store or atomic, and note it above RELEASED. -/
def mirApply (m : MirIn) (s : State) : State :=
  let s := match m with
    | .store x => if inSet s x.offset then poolWrite x.offset x.mask x.data false (if x.mask = fullMask then s else poolMend x.offset .clean s) else s
    | .word x => if inSet s x.offset then modMem (fun y => { y with cells := wordSet y.cells x.offset x.value }) (poolMend (x.offset / 64 * 64) .clean s) else s
  let r : MirRecord := match m with
    | .store x => { mseq := x.mseq, ident := x.ident, result := none }
    | .word x => { mseq := x.mseq, ident := x.ident, result := some x.result }
  modPair (fun p => { p with mseq := r.mseq, confirmed := r.mseq, log := p.log ++ [r] }) s

/-- Apply what has come in MSEQ order, as far as there is no gap. -/
def mirDrain : Nat → State → State
  | 0, s => s
  | fuel + 1, s =>
    match s.pair.early.find? (fun m => mseqOf m == s.pair.mseq + 1) with
    | none => s
    | some m => mirDrain fuel (mirApply m (modPair (fun p => { p with early := p.early.filter (fun x => mseqOf x != mseqOf m) }) s))

/-- Mirrored work arrives: applied in MSEQ order, and the highest MSEQ without a gap is confirmed.
Log entry 78 (DESIGN CHOICE). -/
def mirArrive (m : MirIn) (s : State) : State :=
  if s.flt.safe || !(s.pair.role == .standIn || s.pair.role == .resync) then s
  else
    let s := if s.pair.mseq < mseqOf m ∧ s.pair.early.any (fun x => mseqOf x == mseqOf m) = false
      then modPair (fun p => { p with early := p.early ++ [m] }) s else s
    let s := mirDrain s.pair.early.length s
    match (pairLinks s).find? (fun l => mirRoom s l 1) with
    | some l => mirSend l 1 "MIR_CONFIRM" [s.pair.confirmed] s
    | none => s

def execMirStore (m : MirStoreMsg) (s : State) : Out := .next (mirArrive (.store m) s)
def execMirWord (m : MirWordMsg) (s : State) : Out := .next (mirArrive (.word m) s)

/-- A state record replaces the copy of the same place (R391). -/
def sameRecord : MirStateRec → MirStateRec → Bool
  | .region i _, .region j _ => i == j
  | .checkpoint c i _, .checkpoint d j _ => c == d && i == j
  | .log i _, .log j _ => i == j
  | _, _ => false

/-- The line of the millpond that holds a record: a checkpoint's or a log's own, or the fields of a region in their order.
Log entry 99 (DESIGN CHOICE). -/
def recordLine : MirStateRec → Line
  | .region i f => BitVec.ofNat 512 (f.node.toNat + f.base.toNat * 2 ^ 16 + f.blocks.toNat * 2 ^ 48 + f.job.toNat * 2 ^ 72
      + f.mode.toNat * 2 ^ 80 + f.threshold.toNat * 2 ^ 88 + i * 2 ^ 96)
  | .checkpoint _ _ d | .log _ d => d

/-- The copies with a record in its place, the first of its own or the next free one, and that place. -/
def placeRecord (cs : List MirStateRec) (r : MirStateRec) : Nat × List MirStateRec :=
  match cs.findIdx? (fun x => sameRecord x r) with
  | some k => (k, cs.set k r)
  | none => (cs.length, cs ++ [r])

/-- MIR_STATE: the record stands in the millpond range that PAIR_STATE_BASE names, a line to each in the order of their coming
(R391). Log entry 99 (DESIGN CHOICE). -/
def mirState (r : MirStateRec) (s : State) : State :=
  match s.pair.cfg with
  | none => s
  | some c =>
    if s.flt.safe || !(s.pair.role == .standIn || s.pair.role == .resync) then s
    else
      let (k, cs) := placeRecord s.pair.copies r
      let o := 64 * ((c.stateBase.toNat + k) % 2 ^ 21)
      let s := modPair (fun p => { p with copies := cs }) s
      if bankFenced s (o / 0x400000) then s else millWrite o fullMask (recordLine r) false s

def execMirState (r : MirStateRec) (s : State) : Out := .next (mirState r s)

/-! ### The claim (R394 to R397) -/

/-- Epoch a is newer than b (R393). -/
def newer (a b : Byte) : Bool := decide (1 ≤ (a - b).toNat ∧ (a - b).toNat ≤ 127)

/-- The notice of this module's standing claim. -/
def claimMsg (s : State) (c : PairCfg) : ClaimMsg :=
  { mask := c.mask, window := c.window, claimed := BitVec.ofNat 16 (setNode s), newNode := s.ident.node, epoch := s.pair.epoch, time := s.pair.claimTime }

/-- CLAIM_NOTICE to every audience node, and to the partner where it was lead (R394). -/
def sendNotices (partner : Bool) (s : State) : State :=
  match s.pair.cfg with
  | none => s
  | some c =>
    let m := claimMsg s c
    let nodes := c.audience ++ (if partner ∧ c.audience.contains c.partner.toNat = false then [c.partner.toNat] else [])
    nodes.foldl (fun s n => podSend (pairXs s) (BitVec.ofNat 16 n) 0 cSIG [claimSlot m] s) s

def lastAtomic (n : Nat) : Tick := n + 20000

/-- An outstanding request lies in a claim's set. -/
def inClaim (m : ClaimMsg) (o : Outst) : Bool :=
  let off := addrOff o.req.addr
  decide (addrNode o.req.addr = m.claimed.toNat ∧ off / 2 ^ 36 = m.window.toNat) && m.mask.getLsbD (off / 2 ^ 30 % 64)

/-- Send an outstanding request again, to the node that serves the set now: its slot, generation and flow tag stay, and its
timeout restarts (R396). Log entry 79 (DEDUCED). -/
def sendAgain (k : Nat) (node : Word16) (s : State) : State :=
  match tget none s.mem.slots k with
  | none => s
  | some o =>
    let b := k / 8192
    let dst := if node = s.ident.node then homeStation s false (addrOff o.req.addr) else flowXs s node o.req.job cREQ
    match dst with
    | none => s
    | some d =>
      let s := modMem (fun m => { m with slots := tset none m.slots k (some { o with node := node, station := d, sent := none }) }) s
      let q : MemReq := { req := o.req, buf := b, slot := k % 8192, gen := o.gen, node := s.ident.node }
      sendMsg (bufStation b) d cREQ
        { pay := .req q, slots := if o.req.op = .store then 2 else 1, bytes := if o.req.op = .store then 80 else 16, job := o.req.job } s

def againAll (m : ClaimMsg) (p : MemOp → Bool) (s : State) : State :=
  (s.mem.slots.filterMap (fun x => match x.2 with
    | some o => if inClaim m o && p o.req.op then some x.1 else none
    | none => none)).foldl (fun s k => sendAgain k m.newNode s) s

/-- The entry of a claimed node, or the lowest free one of the 4,096 (R396). -/
def claimEntry (s : State) (node : Word16) : Option (Nat × ClaimEntry) :=
  s.pair.claims.findSome? (fun p => match p.2 with
    | some e => if e.msg.claimed = node then some (p.1, e) else none
    | none => none)
def freeClaim (s : State) : Option Nat := (List.range 4096).find? (fun k => (tget none s.pair.claims k).isNone)

def setClaim (k : Nat) (e : Option ClaimEntry) (s : State) : State := modPair (fun p => { p with claims := tset none p.claims k e }) s

/-- A notice enters the claim table (R396): a newer one replaces the entry, one that names the claimed node itself removes it.
Loads and stores still outstanding are sent again; atomics wait until CLAIM_TIME + 20 µs. -/
def claimTable (m : ClaimMsg) (s : State) : State :=
  let old := claimEntry s m.claimed
  let fresh := match old with
    | some (_, e) => newer m.epoch e.msg.epoch
    | none => true
  if !fresh then s
  else
    let held := match old with | some (_, e) => e.held | none => []
    if m.newNode = m.claimed then
      match old with
      | none => s
      | some (k, _) => held.foldl (fun s r => issueMem r s) (againAll m (fun _ => true) (setClaim k none s))
    else
      match (old.map (·.1)).orElse fun _ => freeClaim s with
      | none => s
      | some k =>
        let e : ClaimEntry := { msg := m, holdUntil := s.now + (lastAtomic m.time.toNat - s.tc.timecode.toNat), held := held }
        againAll m (fun o => !isAtomic o) (setClaim k (some e) s)

/-- The lead yields (R398): it drops the requests to the set that it holds, and answers none after that. -/
def yieldSet (s : State) : State :=
  modPair (fun p => { p with role := .yielded, work := [], waiting := [], heldAtomics := [], resyncing := false, silentAt := none, outbox := [] }) s

/-- CLAIM_NOTICE (R395, R396, R398). Log entry 79 (DEDUCED). -/
def claimNotice (m : ClaimMsg) (s : State) : State :=
  if s.flt.safe then s
  else
    let mine := s.pair.cfg.isSome && decide (m.claimed.toNat = setNode s)
    let s := if mine && servesSet s && m.newNode != s.ident.node && newer m.epoch s.pair.epoch
      then yieldSet (pairFault .pairYield s) else s
    if nodeKind s m.claimed = 1 ∨ m.claimed = s.ident.node then claimTable m s else s

def execClaimNotice (n : ClaimMsg) (s : State) : Out := .next (claimNotice n s)

/-- The stand-in claims (R394, R397): a newer epoch, the record of what lies above the last RELEASED, the notices, and its own
claim table. Log entry 79 (DEDUCED). -/
def claimSet (s : State) : State :=
  match s.pair.cfg with
  | none => s
  | some c =>
    let t := modPair (fun p => { p with
      epoch := p.epoch + 1
      role := .claiming
      claimAt := some s.now
      claimTime := s.tc.timecode
      soloFrom := s.now
      record := (p.log.filter (fun r => decide (p.released < r.mseq))).take 8192
      log := []
      early := []
      heldAtomics := []
      nextRepeat := s.now + 1000000000 }) s
    claimTable (claimMsg t c) (sendNotices true (pairFault .pairClaim t))

/-- A pair link has carried no heartbeat for 8 µs (R393). -/
def linkSilence (l : Nat) (s : State) : State :=
  match s.pair.cfg with
  | none => s
  | some c =>
    let (a, b) := s.pair.linkUp
    if s.flt.safe then s
    else if l = c.linkA ∧ a = true ∧ s.pair.lastHb.1 + 8000 ≤ s.now then
      pairFault .pairLinkDown (modPair (fun p => { p with linkUp := (false, b) }) s)
    else if l = c.linkB ∧ b = true ∧ s.pair.lastHb.2 + 8000 ≤ s.now then
      pairFault .pairLinkDown (modPair (fun p => { p with linkUp := (a, false) }) s)
    else s

def execPairLinkSilence (link : Nat) (s : State) : Out := .next (linkSilence link s)

/-- The partner's copy is cleared to zero, as R135 clears a stack (R399). -/
def clearSet (s : State) : State :=
  modMem (fun m => { m with
    cells := m.cells.filter (fun c => !(decide (c.1 < millBase) && inSet s c.1))
    flips := m.flips.filter (fun p => !inSet s (p.1 * 64)) }) s

/-- Silence on both links for 8 µs (R393, R394, R398, R401). Log entry 4 (DESIGN CHOICE). -/
def pairSilence (s : State) : State :=
  if s.flt.safe || s.pair.role == .none || s.pair.role == .yielded || s.pair.silentAt.isSome
      || decide (s.now < s.pair.lastHb.1 + 8000 ∨ s.now < s.pair.lastHb.2 + 8000) then s
  else
    let s := pairFault .pairHeartbeatLost (modPair (fun p => { p with silentAt := some s.now }) s)
    match s.pair.role with
    | .standIn => claimSet s
    | .resync => modPair (fun p => { p with role := .none, resyncLines := 0, log := [], early := [], copies := [] }) (clearSet s)
    | .lead => modPair (fun p => { p with resyncing := false, resyncLines := 0, outbox := [] }) s
    | _ => s

def execPairSilence (s : State) : Out := .next (pairSilence s)

/-- No notice within 20 µs of detection: the lead runs unmirrored (R398). -/
def soloTimeout (s : State) : State :=
  match s.pair.silentAt with
  | none => s
  | some t =>
    if s.flt.safe || s.pair.role != .lead || decide (s.now < t + 20000) then s
    else
      let s := standBegin .pairSolo 11 0 (pairAddr s) s
      let s := confirmTo s.pair.mseq s
      retryWaiting (modPair (fun p => { p with role := .leadSolo, soloFrom := s.now }) s)

def execPairSoloTimeout (s : State) : Out := .next (soloTimeout s)

/-- 20 µs after a claim (R394, R396): the claimer executes the atomics it held back; a requester sends those it held, and those
outstanding. -/
def atomicWindowEnd (s : State) : State :=
  if s.flt.safe then s
  else
    let s : State := match s.pair.claimAt with
      | some t =>
        if s.pair.role == PairRole.claiming && decide (lastAtomic t ≤ s.now) then
          s.pair.heldAtomics.foldl (fun s q => serve (serveStation s q) q .clean s)
            (modPair (fun p => { p with role := .leadSolo, heldAtomics := [] }) s)
        else s
      | none => s
    s.pair.claims.foldl (fun s p => match p.2 with
      | some e =>
        if e.isOpen && decide (e.holdUntil ≤ s.now) then
          let s := setClaim p.1 (some { e with isOpen := false, held := [] }) s
          e.held.foldl (fun s r => issueMem r s) (againAll e.msg isAtomic s)
        else s
      | none => s) s

def execClaimAtomicWindowEnd (s : State) : Out := .next (atomicWindowEnd s)

/-- The record is cleared at CLAIM_TIME + 40 µs (R397). -/
def execClaimRecordClear (s : State) : Out :=
  .next (match s.pair.claimAt with
    | some t => if s.flt.safe || decide (s.now < t + 40000) then s else modPair (fun p => { p with record := [] }) s
    | none => s)

/-- A standing claim is repeated to every audience node once per second (R395). -/
def claimRepeat (s : State) : State :=
  if s.flt.safe || s.pair.claimAt.isNone || !servesSet s || decide (setNode s = s.ident.node.toNat) || decide (s.now < s.pair.nextRepeat) then s
  else sendNotices false (modPair (fun p => { p with nextRepeat := p.nextRepeat + 1000000000 }) s)

def execClaimRepeat (s : State) : Out := .next (claimRepeat s)

/-! ### Heartbeats from the partner, and resynchronisation (R390, R399, R401) -/

/-- The lead starts to copy the set: MSEQ begins again, and stores are mirrored behind the pointer. Log entry 77 (DEDUCED). -/
def resyncBegin (s : State) : State :=
  let s := confirmTo s.pair.mseq s
  let regions := s.blk.regions.filterMap (fun p =>
    if p.2.st = 1 ∧ pairNative s = true ∧ regionInSet s p.2 = true then
      some (MirStateRec.region p.1 { node := p.2.node, base := p.2.base, blocks := BitVec.ofNat 24 p.2.blocks, job := BitVec.ofNat 8 p.2.job
                                     mode := BitVec.ofNat 2 p.2.mode, threshold := BitVec.ofNat 8 p.2.threshold })
    else none)
  let points := ((liveCtxs s).filter (fun c => ctxMirrored (modPair (fun p => { p with role := .lead }) s) (recOf s c))).map (fun c =>
    (List.range 12).map (fun i => MirStateRec.checkpoint c i (millLine s (64 * ((recOf s c).statusLine + i)))))
  let logs := (List.range 8).map (fun k => MirStateRec.log k ((List.range 4).foldl (fun l i => match tget none s.flt.ring (4 * k + i) with
    | some m => l ||| ((faultWord m).setWidth 512 <<< (128 * i))
    | none => l) 0)) ++ (List.range 512).map (fun k => MirStateRec.log (8 + k) (auditLine s k))
  modPair (fun p => { p with
    role := .lead
    resyncing := true
    resyncLines := 0
    mseq := 0
    confirmed := 0
    released := 0
    releasedSent := []
    silentAt := none
    outbox := regions ++ points.flatten ++ logs }) s

/-- This module becomes the partner of a lead: it takes the lead's epoch and clears its copy (R399). Log entry 77 (DEDUCED). -/
def resyncPartner (epoch : Byte) (s : State) : State :=
  modPair (fun p => { p with
    role := .resync
    epoch := epoch
    resyncLines := 0
    mseq := 0
    confirmed := 0
    released := 0
    log := []
    early := []
    copies := []
    work := []
    waiting := []
    silentAt := none }) (clearSet s)

/-- Both modules serve when heartbeats return (R401): PAIR_SPLIT at both, with the span of the split, and the older epoch
yields. Log entry 79 (DEDUCED). -/
def pairSplit (epoch : Byte) (s : State) : State :=
  let span := min (2 ^ 24 - 1) (s.now - s.pair.soloFrom)
  let s := raise .pairSplit 11 0 (pairAddr s + 2 ^ 24 * span) s
  if newer epoch s.pair.epoch then resyncPartner epoch (yieldSet s) else resyncBegin s

/-- What a heartbeat's ROLE and EPOCH make of this module's role (R390, R394, R398, R399, R401).
Log entries 77 (DEDUCED), 79 (DEDUCED). -/
def beatEffect (c : PairCfg) (hb : HeartbeatMsg) (s : State) : State :=
  let r := hb.role.toNat
  match s.pair.role with
  | .none => if r = 1 then resyncPartner hb.epoch s else if r = 0 ∧ c.scriptLead = true then resyncBegin s
      else if r = 3 ∧ c.scriptLead = true then resyncBegin s else s
  | .yielded => if r = 1 then resyncPartner hb.epoch s else s
  | .lead =>
    if r = 1 then pairSplit hb.epoch s
    else if r = 2 then confirmTo hb.confirmed.toNat s
    else if r = 3 ∧ s.pair.resyncing = false then resyncBegin s
    else if r = 3 then confirmTo hb.confirmed.toNat s
    else s
  | .leadSolo => if r = 1 then pairSplit hb.epoch s else resyncBegin s
  | .claiming => if r = 1 ∧ newer s.pair.epoch hb.epoch = false then pairSplit hb.epoch s else s
  | .standIn | .resync =>
    if r = 1 then modPair (fun p => { p with released := hb.released.toNat, log := p.log.filter (fun x => decide (hb.released.toNat < x.mseq)) }) s
    else s

/-- MIR_HEARTBEAT (R390, R393): the values are compared, and the link counts as up. -/
def mirHeartbeat (l : Nat) (hb : HeartbeatMsg) (s : State) : State :=
  match s.pair.cfg with
  | none => s
  | some c =>
    if s.flt.safe || !(l == c.linkA || l == c.linkB) || hb.node != c.partner || decide (s.boot.phase < 10) then s
    else if hb.config != pairConfig s || hb.forerunner != c.forerunner then
      if s.pair.mismatch then s
      else pairFault .pairConfigMismatch (modPair (fun p => { p with mismatch := true, role := .none }) s)
    else
      let s := modPair (fun p => { p with
        mismatch := false
        silentAt := none
        linkUp := if l = c.linkA then (true, p.linkUp.2) else (p.linkUp.1, true)
        lastHb := if l = c.linkA then (s.now, p.lastHb.2) else (p.lastHb.1, s.now) }) s
      beatEffect c hb s

def execMirHeartbeat (link : Nat) (hb : HeartbeatMsg) (s : State) : Out := .next (mirHeartbeat link hb s)

/-- MIR_RESYNC at the partner: three lines of a granule, in order of the set (R399).
Log entries 78 (DESIGN CHOICE), 98 (DESIGN CHOICE). -/
def mirResync (off : Nat) (ds : List Line) (s : State) : State :=
  if s.flt.safe || s.pair.role != .resync || !inSet s off || setPos s off != s.pair.resyncLines then s
  else
    let n := min 3 (2 ^ 24 - setPos s off % 2 ^ 24)
    let s := ((ds.zip (List.range n))).foldl (fun s d => poolWrite (off + 64 * d.2) fullMask d.1 false s) s
    modPair (fun p => { p with resyncLines := p.resyncLines + n }) s

def execMirResync (offset : Nat) (d0 d1 d2 : Line) (s : State) : Out := .next (mirResync offset [d0, d1, d2] s)

/-- RESYNC_COMPLETE (R399, R400): at the lead, once every line and record has left, PAIR_RESYNC_DONE; at the partner, once every
line has come, the stand-in's role, and in forerunner mode the claim of the module that the script makes lead. -/
def resyncComplete (s : State) : State :=
  match s.pair.cfg with
  | none => s
  | some c =>
    if s.flt.safe || decide (s.pair.resyncLines < setLines s) then s
    else
      match s.pair.role with
      | .lead =>
        if s.pair.resyncing && s.pair.outbox.isEmpty then
          pairFault .pairResyncDone (standEnd .pairSolo 11 0 (modPair (fun p => { p with resyncing := false }) s))
        else s
      | .resync =>
        let s := modPair (fun p => { p with role := .standIn }) s
        if c.forerunner && c.scriptLead then claimSet s else s
      | _ => s

def execResyncComplete (s : State) : Out := .next (resyncComplete s)

/-- PAIR_CTRL.HANDOVER (R400): a claim by the stand-in, started while the lead still runs. Log entry 79 (DEDUCED). -/
def handover (s : State) : State := if s.pair.role == .standIn then claimSet s else s

def execPairHandover (p : Path) (s : State) : Out := .next (iWrite p 0x110020 1 handover s)

end Sys2Proof.Machine
end

