-- ==== Sys2Proof/Machine/JobCtl.lean ====
section
/-! DEFINITION. Starting, ending and clearing jobs (R425 to R428, R435). -/

namespace Sys2Proof.Machine

open Sys2Proof

def modJob (j : Nat) (f : Job → Job) (s : State) : State := modRole (fun r => { r with jobs := tupd {} r.jobs j f }) s

/-- A record is well formed (R425): no reserved value, its stations carried by the variant, this node among its members.
Log entry 81 (DEDUCED). -/
def recordOk (s : State) (j : Nat) : Bool :=
  let w (k : Nat) : Word32 := jobWord s j k
  decide (jobWeight s j ≠ 0 ∧ jobPaceFollow s j ≠ 3 ∧ jobFlags s j < 16 ∧ fld (w 1) 12 4 = 0 ∧ fld (w 3) 4 28 = 0) &&
  ((List.range 36).filter (fun k => if k < 32 then bit (w 2) k else bit (w 3) (k - 32))).all (hasStation s.part.variant) &&
  decide (fld (w 5) 16 16 = 0 ∧ w 6 = 0 ∧ w 7 = 0) && (List.range 8).all (fun k => decide (fld (w (10 + 3 * k)) 26 6 = 0)) &&
  jobMember s j s.ident.node.toNat

/-- A pending swap names a station of the job as affected (R99). -/
def swapTouches (s : State) (j : Nat) : Bool :=
  (s.tc.swapArm || s.slu.swap == .draining || s.slu.swap == .waiting) && (jobStations s j).any s.slu.affected.contains

/-- Tags in use. -/
def tagsUsed (s : State) : List Nat := (s.role.jobs.filter (fun p => p.2.st == .running || p.2.st == .ending)).map (·.2.tag)
def freeEnergyTag (s : State) : Option Nat := ((List.range 15).map (· + 1)).find? (fun t => !(tagsUsed s).contains t)

/-- A partner that stands mismatched is a member of the job (R435). -/
def memberMismatch (s : State) (j : Nat) : Bool := s.role.partners.any (fun p => match p.2 with
  | some c => c.st == 2 && jobMember s j c.node.toNat
  | none => false)

/-- The first start check that fails (R427), 0 where all pass. -/
def startReason (s : State) (j : Nat) : Nat :=
  if !recordOk s j then 1
  else if (jobSites s j).any (fun n => !siteUp s n || (jobOfSite s n).isSome) then 2
  else if (jobStations s j).any (stationOwned s) then 3
  else if swapTouches s j then 4
  else if !selfMatched s || memberMismatch s j then 5
  else if (freeEnergyTag s).isNone || decide (15 ≤ (runningJobs s).length) then 6
  else if !s.boot.ready then 7
  else 0

/-- The energy counter of a tag (R369). -/
def tagEnergy (s : State) (tag : Nat) : Word64 := tget 0 s.gaf.energy tag

/-- Start a job (R427); the power is divided again (R359). -/
def startJob (p : Path) (j : Nat) (s : State) : State :=
  if (jobOf s j).st ≠ .defined then s
  else
    match startReason s j, freeEnergyTag s with
    | 0, some tag =>
      divide (audit (some p) 1 (BitVec.ofNat 32 j) (tagEnergy s tag)
        (modJob j (fun x => { x with st := .running, tag := tag, reason := 0 }) s))
    | r, _ => modJob j (fun x => { x with reason := r }) s

/-- End a job: JOB_END is recorded, and the steps of R428 follow in their order. -/
def endJob (p : Path) (j : Nat) (s : State) : State :=
  if (jobOf s j).st ≠ .running then s
  else
    let sites := jobSites s j
    let pod := jobPod s j
    let s := audit (some p) 2 (BitVec.ofNat 32 j) (tagEnergy s (jobOf s j).tag) (modJob j (fun x => { x with st := .ending }) s)
    let s := (List.range 64).foldl (fun s q => if (queueOf s q).job = j then disableQueue q s else s) s
    let s := ctxJobEnds j s
    let s := (List.range 256).foldl (fun s i => if (regionOf s i).job = j then releaseRegion i s else s) s
    let s := sites.foldl (fun s n => modPow n (fun x => { x with pace := none }) s) s
    divide (modGaf (fun g => { g with paceIn := g.paceIn.filter (fun x => x.job != pod), paceOut := tset {} g.paceOut j {} }) s)

/-- Ending completes once every region of the job is free (R428). -/
def jobEnded (j : Nat) (s : State) : State :=
  if (jobOf s j).st ≠ .ending || (List.range 256).any (fun i => (regionOf s i).st != 0 && (regionOf s i).job == j) then s
  else modJob j (fun x => { x with st := .defined, tag := 0 }) s

/-- Clear a defined entry: its record is zeroed. -/
def clearJob (j : Nat) (s : State) : State := if (jobOf s j).st ≠ .defined then s else modJob j (fun _ => {}) s

def execJobStart (p : Path) (j : Nat) (s : State) : Out := .next (if mayWrite s p .o && decide (j < 256) then startJob p j s else s)
def execJobEnd (p : Path) (j : Nat) (s : State) : Out := .next (if mayWrite s p .o && decide (j < 256) then endJob p j s else s)
def execJobEndComplete (j : Nat) (s : State) : Out := .next (if s.flt.safe then s else jobEnded j s)
def execJobClear (p : Path) (j : Nat) (s : State) : Out := .next (if mayWrite s p .o && decide (j < 256) then clearJob j s else s)

end Sys2Proof.Machine
end

