-- ==== Sys2Proof/Machine/Sessions.lean ====
section
/-! DEFINITION. SPDM sessions, enrolment and factory test mode (R417 to R422). -/

namespace Sys2Proof.Machine

open Sys2Proof

/-- The management port answers: boot phase 2 has ended. It stays in service in safe state and in the dark state (R378,
R415). -/
def portOpen (s : State) : Bool := decide (3 ≤ s.boot.phase)

def sessionOf (s : State) (n : Nat) : Option Session := tget none s.role.sessions n

/-- A certificate's chain ends at an anchor of its own role (R417, R418). -/
def anchored (s : State) (c : Certificate) : Bool := match c.role with
  | .none => false
  | .maker => c.anchor == s.part.makerAnchor
  | .installer => s.role.enrolled.getLast? == some c.anchor
  | .operator => (match s.boot.script with
      | some x => x.operatorAnchors.contains c.anchor
      | none => false)

/-- Open a session in the lowest free place. Log entry 82 (DEDUCED). -/
def openSession (n eid via : Nat) (c : Certificate) (s : State) : State :=
  emit (.spdm n "KEY_EXCHANGE_RSP" [])
    (modRole (fun r => { r with
      sessions := tset none r.sessions n (some { role := c.role, eid := eid, via := via, keyDigest := c.keyDigest, lastBeat := s.now }) }) s)

/-- KEY_EXCHANGE (R418, R420, R421): a ninth session is refused with an SPDM error; while enrolment is open the first
self-signed installer certificate that names the module enrols its key in the next free cell. -/
def keyExchange (eid via : Nat) (c : Certificate) (s : State) : State :=
  if !portOpen s then s
  else
    match (List.range 8).find? (fun n => (sessionOf s n).isNone) with
    | none => emit (.spdm 8 "ERROR" []) s
    | some n =>
      if !c.chainOk || c.serial != s.part.serial then emit (.spdm 8 "ERROR" []) s
      else if s.boot.enrolOpen && c.selfSigned && c.role == .installer && decide (s.role.enrolled.length < 4) then
        let cell := s.role.enrolled.length
        let s := modRole (fun r => { r with enrolled := r.enrolled ++ [c.keyDigest], reenrolArmed := false }) s
        let s := openSession n eid via c (modBoot (fun b => { b with enrolOpen := false }) s)
        audit (some (.session n)) 0x14 (BitVec.ofNat 32 cell) (c.keyDigest.setWidth 64) s
      else if anchored s c then openSession n eid via c s
      else emit (.spdm 8 "ERROR" []) s

def execKeyExchange (eid via : Nat) (cert : Certificate) (s : State) : Out := .next (keyExchange eid via cert s)

/-- A session ends: what it staged and latched goes (R420, R451, R455). -/
def closeSession (n : Nat) (s : State) : State :=
  modCsp (fun c => { c with
    staged := c.staged.filter (fun x => x.path != .session n)
    latches := c.latches.filter (fun x => x.1 != .session n) })
    (modRole (fun r => { r with sessions := tset none r.sessions n none }) s)

def execEndSession (n : Nat) (s : State) : Out :=
  .next (if (sessionOf s n).isSome then emit (.spdm n "END_SESSION_ACK" []) (closeSession n s) else s)

/-- No heartbeat for its period of 60 s (R420). -/
def execSessionHeartbeatMiss (n : Nat) (s : State) : Out :=
  .next (match sessionOf s n with
    | none => s
    | some x => if s.now < x.lastBeat + 60000000000 then s else closeSession n s)

/-- The answer's name. -/
def spdmAnswer : SpdmReq → String
  | .getVersion => "VERSION" | .getCapabilities => "CAPABILITIES" | .negotiateAlgorithms => "ALGORITHMS"
  | .getDigests => "DIGESTS" | .getCertificate => "CERTIFICATE" | .challenge => "CHALLENGE_AUTH"
  | .getMeasurements => "MEASUREMENTS" | .finish => "FINISH_RSP" | .heartbeat => "HEARTBEAT_ACK" | .keyUpdate => "KEY_UPDATE_ACK"
  | .other => "ERROR"

/-- Requests that only an open session carries. -/
def inSession : SpdmReq → Bool
  | .finish | .heartbeat | .keyUpdate => true
  | _ => false

/-- Any other SPDM request (R419): those outside the list are answered with an SPDM error; a heartbeat keeps its session.
GET_MEASUREMENTS gives the SHA-384 of the running image, that of the script in use and the continuity digest.
Log entry 24 (DESIGN CHOICE). -/
def spdmRequest (n : Option Nat) (req : SpdmReq) (s : State) : State :=
  let opened := match n with
    | some k => (sessionOf s k).isSome
    | none => false
  if !portOpen s then s
  else if req == .other || ((n.isSome || inSession req) && !opened) then emit (.spdm (n.getD 8) "ERROR" []) s
  else
    let k := n.getD 8
    let s := if req == .heartbeat then
        modRole (fun r => { r with sessions := tupd none r.sessions k (fun o => o.map (fun x => { x with lastBeat := s.now })) }) s
      else s
    emit (.spdm k (spdmAnswer req) (if req == .getMeasurements then
      [(Config.firmwareDigest s.ident.fwVersion).toNat,
        (match s.boot.script with | some x => (Config.scriptDigest x.sequence x.serial).toNat | none => 0), s.role.digest.toNat]
      else [])) s

def execSpdmRequest (n : Option Nat) (req : SpdmReq) (s : State) : Out := .next (spdmRequest n req s)

/-- ROLE_REENROL_ARM (R421): refused once all four cells are used. -/
def execRoleReenrolArm (p : Path) (s : State) : Out :=
  .next (if 4 ≤ s.role.enrolled.length then s
    else iWrite p 0x010004 1 (modRole (fun r => { r with reenrolArmed := true })) s)

/-- FAC_MODE.ENTER (R422): a maker session, INSTALL_EN high, no job running. Log entries 20 (DEDUCED), 89 (DEDUCED). -/
def facEnter (p : Path) (install : Bool) (s : State) : State :=
  let s := modPins (fun x => { x with installEn := install }) s
  let job := s.role.jobs.any (fun x => x.2.st == .running)
  if !csOpen s || pathRole s p != .maker || !install || job || s.role.facActive then s
  else
    let s := modRole (fun r => { r with facActive := true }) s
    raise .factoryMode 10 5 0 (audit (some p) 0x20 0 0 (audit (some p) 0x10 0x1F0000#32 1 s))

def execFacModeEnter (p : Path) (install : Bool) (s : State) : Out := .next (facEnter p install s)

end Sys2Proof.Machine
end

