-- ==== Sys2Proof/Machine/Update.lean ====
section
/-! DEFINITION. Field update (R436 to R441). -/

namespace Sys2Proof.Machine

open Sys2Proof

/-- Update messages are taken as secured messages of a session with the right to send pieces (R423, R437), but not in safe
state (R441). -/
def updateOpen (s : State) (n : Nat) : Bool :=
  decide (5 ≤ s.boot.phase) && !s.flt.safe && !s.boot.dark && (match pathRole s (.session n) with
    | .operator | .installer => true
    | .maker => s.role.facActive
    | .none => false)

def fromInstaller (s : State) (n : Nat) : Bool := holds s (.session n) .i

/-- Where the pieces and the tags of a slot lie (R404, R436). -/
def imageBase (n : Nat) : Nat := 0x100000 + 0x1000000 * n
def tagBase (n : Nat) : Nat := imageBase n + 0xFF0000

/-- The slot being received or latest received. -/
def updSlot (s : State) : FwSlot := slotOf s s.boot.updSlot
def received (x : FwSlot) : Nat := x.got.length
def firstMissing (x : FwSlot) : Nat :=
  ((List.range x.pieces).find? (fun i => !x.got.contains i)).getD (Config.noMissing x.pieces).toNat

/-- Answers carry the image, a status, RECEIVED and FIRST_MISSING. Log entry 86 (DEDUCED). -/
def beginAnswer (n : Nat) (image : Word32) (status : Nat) (s : State) : State :=
  emit (.update n "UPD_BEGIN_RSP" [image.toNat, status, received (updSlot s), firstMissing (updSlot s)]) s

/-- The slot that is not preferred is erased and its record written (R438). -/
def beginSlot (image version : Word32) (svn pieces : Nat) (key : List Byte) (s : State) : State :=
  let k := 1 - s.boot.preferred
  let s := modSlot k (fun _ => { image := image, version := version, svn := svn, pieces := pieces, st := 1, key := key }) s
  newHeader (modBoot (fun b => { b with updSlot := k, updSt := 1, flash := tclear b.flash (imageBase k) (imageBase k + 0x1000000) }) s)

/-- UPD_BEGIN (R438); `ok` is the flash's part in it. -/
def updBegin (n : Nat) (image version : Word32) (svn pieces : Nat) (key : List Byte) (ok : Bool) (s : State) : State :=
  if !updateOpen s n then s
  else if s.boot.activating.isSome then beginAnswer n image 4 s
  else if (updSlot s).st = 1 ∧ (updSlot s).image = image then beginAnswer n image 1 s
  else if (updSlot s).st = 1 ∧ fromInstaller s n = false then beginAnswer n image 4 s
  else if pieces = 0 ∨ 4080 < pieces ∨ 63 < svn then beginAnswer n image 5 s
  else if !ok then beginAnswer n image 7 s
  else beginAnswer n image 0 (beginSlot image version svn pieces key s)

def execUpdBegin (n : Nat) (image version : Word32) (svn pieces : Nat) (key : List Byte) (ok : Bool) (s : State) : Out :=
  .next (updBegin n image version svn pieces key ok s)

/-- A piece is programmed with its tag, and its bit cleared. -/
def takePiece (index : Nat) (data tag : List Byte) (s : State) : State :=
  let k := s.boot.updSlot
  let s := eraseFlash (imageBase k + 4096 * index) 4096 s
  let s := writeFlash (imageBase k + 4096 * index) (padBytes 4096 data) s
  let s := writeFlash (tagBase k + 16 * index) (padBytes 16 tag) s
  let s := modSlot k (fun x => { x with got := index :: x.got }) s
  if received (updSlot s) = (updSlot s).pieces then
    newHeader (modBoot (fun b => { b with updSt := 2 }) (modSlot k (fun x => { x with st := 2 }) s))
  else s

/-- The answer to a piece of an image (R438). Log entry 86 (DEDUCED). -/
def pieceAnswer (n : Nat) (image : Word32) (index status : Nat) (s : State) : State :=
  emit (.update n "UPD_PIECE_RSP" [image.toNat, index, status]) s

/-- UPD_PIECE (R438, R441). -/
def updPiece (n : Nat) (image : Word32) (index : Nat) (data tag : List Byte) (tagOk ok : Bool) (s : State) : State :=
  let x := updSlot s
  if !updateOpen s n then s
  else if s.boot.activating.isSome then pieceAnswer n image index 4 s
  else if (x.st ≠ 1 ∧ x.st ≠ 2) ∨ x.image ≠ image then pieceAnswer n image index 6 s
  else if x.pieces ≤ index then pieceAnswer n image index 5 s
  else if !tagOk then pieceAnswer n image index 3 (raiseRated .updateRejected 0 1000000000 10 6 0 s)
  else if x.got.contains index then pieceAnswer n image index 2 s
  else if !ok then pieceAnswer n image index 7 s
  else pieceAnswer n image index 0 (takePiece index data tag s)

def execUpdPiece (n : Nat) (image : Word32) (index : Nat) (data tag : List Byte) (tagOk ok : Bool) (s : State) : Out :=
  .next (updPiece n image index data tag tagOk ok s)

/-- UPD_QUERY. -/
def execUpdQuery (n : Nat) (s : State) : Out :=
  .next (if updateOpen s n then
    emit (.update n "UPD_STATE" [(updSlot s).image.toNat, (updSlot s).st, received (updSlot s), firstMissing (updSlot s)]) s else s)

/-- The slot being received becomes empty. Log entry 86 (DEDUCED). -/
def abortSlot (s : State) : State :=
  if (updSlot s).st = 1 then
    newHeader (modBoot (fun b => { b with updSt := 0 }) (modSlot s.boot.updSlot (fun _ => {}) s))
  else s

/-- UPD_ABORT, of an installer session. -/
def execUpdAbort (n : Nat) (image : Word32) (s : State) : Out :=
  .next (if updateOpen s n && fromInstaller s n && (updSlot s).image == image then abortSlot s else s)

/-- UPD_CTRL.ABORT. -/
def execUpdCtrlAbort (p : Path) (s : State) : Out := .next (iWrite p 0x120004 2 abortSlot s)

/-- UPD_CTRL.ACTIVATE (R439): once every piece is held. Log entry 86 (DEDUCED). -/
def activate (p : Path) (s : State) : State :=
  let x := updSlot s
  if s.boot.activating.isSome || (x.st != 2 && x.st != 4) || received x != x.pieces then s
  else modBoot (fun b => { b with activating := some b.updSlot, updSt := 3, actPath := some p }) s

def execUpdActivate (p : Path) (s : State) : Out := .next (iWrite p 0x120004 1 (activate p) s)

/-- The activation ends (R439, R441): the slot becomes verified and preferred, or failed. Log entry 84 (DEDUCED). -/
def activated (c : ImageCheck) (s : State) : State :=
  match s.boot.activating with
  | none => s
  | some k =>
    if s.flt.safe then s
    else
      let x := slotOf s k
      let p := s.boot.actPath
      let s := newHeader (modBoot (fun b => { b with activating := none, actPath := none }) s)
      if imageOk s x c then
        let s := modBoot (fun b => { b with preferred := k, updSt := 4 }) (modSlot k (fun y => { y with st := 3, attempts := 0 }) s)
        audit p 0x13 x.image (BitVec.ofNat 64 (x.version.toNat + x.svn * 2 ^ 32)) s
      else raise .updateRejected 10 6 0 (modBoot (fun b => { b with updSt := 5 }) (modSlot k (fun y => { y with st := 4 }) s))

def execActivationComplete (c : ImageCheck) (s : State) : Out := .next (activated c s)

end Sys2Proof.Machine
end

