-- ==== Sys2Proof/Machine/RegsA.lean ====
section
/-! DEFINITION. What the registers of the ID, ROLE, BOOT, TC, SLU and MRC blocks read as, with their access and role (R70,
R101, R120, R442, R448, R449, R457). -/

namespace Sys2Proof.Machine

open Sys2Proof

/-- The access codes that registers carry (R448). No register is W1C. -/
inductive Acc where
  | ro | rw | wo | rc | rws
deriving DecidableEq, Repr

/-- A register as an access meets it: its access code, the role of its fields, the value it shows, whether it is the _LO half
of a 64-bit register (R451), and whether its fields are marked F (R449, R462). -/
structure Reg where
  acc : Acc := .ro
  right : Right := .o
  val : Nat := 0
  lo : Bool := false
deriving DecidableEq, Repr

def regRo (v : Nat) : Option Reg := some { val := v }
def regRc (v : Nat) : Option Reg := some { acc := .rc, val := v }
def regLo (v : Nat) : Option Reg := some { val := v % 2 ^ 32, lo := true }
def regHi (v : Nat) : Option Reg := some { val := v / 2 ^ 32 % 2 ^ 32 }
def regRw (v : Nat) : Option Reg := some { acc := .rw, val := v }
def regRwI (v : Nat) : Option Reg := some { acc := .rw, right := .i, val := v }
def regWo : Option Reg := some { acc := .wo }
def regWoI : Option Reg := some { acc := .wo, right := .i }
def regRws (v : Nat) : Option Reg := some { acc := .rws, val := v }
def regRwsI (v : Nat) : Option Reg := some { acc := .rws, right := .i, val := v }

/-- A selector: the low n bits of an RW register. -/
def selOf (s : State) (a n : Nat) : Nat := fld (tget 0 s.csp.sel a) 0 n

/-- Offset a lies in a window of n words from lo. -/
def inWin (lo n a : Nat) : Bool := decide (lo ≤ a ∧ a < lo + 4 * n)

/-- Signed and saturated to n bits. -/
def satI (n : Nat) (v : Int) : Nat := uns n (clampI (-(2 ^ (n - 1) : Nat)) ((2 ^ (n - 1) : Nat) - 1) v)

/-- A mask as two words of station bits. -/
def stationMask (l : List Nat) (lo : Nat) : Nat := maskOf 32 (fun k => l.contains (lo + k))

/-! ### ID (R457) -/

def variantCode : Variant → Nat
  | .s3 => 3 | .s6 => 6 | .s12 => 12

def idReg (s : State) (o : Nat) : Option Reg :=
  if o = 0x0 then regRo 0x5A120001
  else if o = 0x4 then regRo (variantCode s.part.variant + 0xB0 * 2 ^ 8 + s.part.stackGib % 256 * 2 ^ 16 + 0x21 * 2 ^ 24)
  else if o = 0x8 then regLo s.part.serial.toNat
  else if o = 0xC then regHi s.part.serial.toNat
  else if o = 0x10 then regRo s.part.enterprise.toNat
  else if o = 0x14 then regRo s.ident.fwVersion.toNat
  else if o = 0x18 then regRo s.ident.node.toNat
  else if o = 0x1C then regRo s.ident.capGen.toNat
  else if inWin 0x100 32 o then regRo (builtWord s ((o - 0x100) / 4)).toNat
  else if inWin 0x200 32 o then regRo (tget 0 s.ident.cap ((o - 0x200) / 4)).toNat
  else none

/-! ### ROLE (R442) -/

def roleCode : Role → Nat
  | .none => 0 | .operator => 1 | .installer => 2 | .maker => 3

def sessionInfo (s : State) (n : Nat) : Nat := match sessionOf s n with
  | none => 0
  | some x => roleCode x.role + 4 * b2n (x.via != 0) + 256 * (if x.via = 0 then x.eid % 256 else 0)
      + 2 ^ 16 * (x.keyDigest.toNat % 65536)

def jobStateCode : JobState → Nat
  | .free => 0 | .defined => 1 | .running => 2 | .ending => 3

def roleReg (s : State) (o : Nat) : Option Reg :=
  let j := selOf s 0x010040 8
  if o = 0x0 then regRo (min 4 s.role.enrolled.length + 8 * b2n s.role.reenrolArmed
      + 16 * ((List.range 8).filter (fun n => (sessionOf s n).isSome)).length)
  else if o = 0x4 then regWoI
  else if o = 0x8 then regRw (selOf s 0x010008 3)
  else if o = 0xC then regRo (sessionInfo s (selOf s 0x010008 3))
  else if o = 0x10 then regRo s.role.auditHead
  else if o = 0x14 then regRo s.role.auditSeq.toNat
  else if o = 0x18 then regRo s.role.archived.toNat
  else if o = 0x1C then some { acc := .rc, right := .i, val := s.role.auditLost.toNat }
  else if o = 0x40 then regRw j
  else if o = 0x44 then regRws 0
  else if o = 0x48 then
    let x := jobOf s j
    regRo (jobStateCode x.st + 16 * (x.reason % 16) + 256 * (jobTag s j % 16))
  else if o = 0xFC then regWo
  else if inWin 0x100 32 o then regRw (jobWord s j ((o - 0x100) / 4)).toNat
  else if inWin 0x1000 8192 o then
    let k := (o - 0x1000) / 4
    some { right := .i, val := fld (auditAt s (k / 8)) (32 * (k % 8)) 32 }
  else none

/-! ### BOOT (R442) -/

def partnerCount (s : State) (st : Nat) : Nat := (s.role.partners.filter (fun p => match p.2 with
  | some x => x.st == st
  | none => false)).length

def bootReg (s : State) (o : Nat) : Option Reg :=
  let b := s.boot
  if o = 0x0 then regRo ((if b.phase < 12 then b.phase else 0) + 16 * b2n b.ready + 32 * b2n b.dark + 64 * (b.kind % 4)
      + 256 * b2n b.warm + 512 * (b.copy % 2) + 1024 * b2n b.fellBack + 2048 * (b.slot % 2))
  else if o = 0x4 then regWoI
  else if o = 0x8 then regRo (match b.script with
    | some x => x.sequence.toNat
    | none => 0)
  else if o = 0xC then regWoI
  else if o = 0x10 then regRo (b.checkSt + 4 * (b.checkCopy % 2) + 16 * (b.checkItem % 16))
  else if o = 0x20 then regLo s.role.digest.toNat
  else if o = 0x24 then regHi s.role.digest.toNat
  else if o = 0x28 then regLo s.role.digestNext.toNat
  else if o = 0x2C then regHi s.role.digestNext.toNat
  else if o = 0x30 then some { acc := .rws, val := s.role.expect.toNat % 2 ^ 32, lo := true }
  else if o = 0x34 then regRws (s.role.expect.toNat / 2 ^ 32)
  else if o = 0x38 then some { acc := .rws, val := s.role.expectAlt.toNat % 2 ^ 32, lo := true }
  else if o = 0x3C then regRws (s.role.expectAlt.toNat / 2 ^ 32)
  else if o = 0x40 then
    regRo (b2n (selfMatched s) + 2 * b2n (s.role.digest != s.role.expect && s.role.digest == s.role.expectAlt)
      + 2 ^ 8 * ((s.role.partners.filter (fun p => p.2.isSome)).length % 32) + 2 ^ 13 * (partnerCount s 2 % 32)
      + 2 ^ 18 * (partnerCount s 0 % 32))
  else if o = 0x44 then regRw (selOf s 0x020044 4)
  else if o = 0x48 then regRo (match partnerAt s (selOf s 0x020044 4) with
    | some x => x.node.toNat + 2 ^ 16 * (x.st % 4)
    | none => 0xFFFF)
  else if o = 0x4C then regRo s.role.routeId.toNat
  else if o = 0x50 then regRwI s.role.routeIdNext.toNat
  else if o = 0x60 then regRwI (fld b.flashAddr 0 26)
  else if o = 0x64 then regWoI
  else if o = 0x68 then some { right := .i, val := b2n b.flashBusy + 2 * b2n b.flashRefused + 4 * b2n b.flashError }
  else if inWin 0x84 11 o then regRo (tget 0 b.phaseMs ((o - 0x80) / 4))
  else if o = 0xFC then regWo
  else if inWin 0x100 64 o then regRwI (tget 0 b.flashBuf ((o - 0x100) / 4)).toNat
  else none

/-! ### TC (R70) -/

def reelCode : ReelState → Nat
  | .noReel => 0 | .running => 1 | .stopping => 2 | .waiting => 3

def clapCode : ClapState → Nat
  | .off => 0 | .acquiring => 1 | .locked => 2 | .lost => 3

/-- TC_SLACK_nn over the last millisecond (R62, R70); with no measurement in it each field reads 0. Log entry 94 (DESIGN CHOICE). -/
def slackWord (s : State) (st : Nat) : Nat :=
  let rs := slackRecent s (tget {} s.tc.slack st)
  fieldMin 16 (rs.map (·.frame)) + 2 ^ 16 * slackStage s st + 2 ^ 24 * min 255 (rs.countP (·.low))

def tcReg (s : State) (o : Nat) : Option Reg :=
  let t := s.tc
  if o = 0x0 then regLo t.timecode.toNat
  else if o = 0x4 then regHi t.timecode.toNat
  else if o = 0x8 then regRo (b2n t.fieldsAligned + 2 * b2n t.podSync + 4 * b2n t.holdover + 256 * t.maxSkew.toNat)
  else if o = 0xC then regRo (t.plusSteps.toNat + 2 ^ 16 * t.minusSteps.toNat)
  else if o = 0x10 then regRw (b2n t.swapArm)
  else if o = 0x14 then
    let on := reelActive s
    regRo (reelCode t.reel + 4 * b2n t.swapArm + 8 * b2n t.swapDeferred + 16 * b2n t.lastRefused + 32 * (t.activeSlot % 2)
      + 64 * b2n t.startRefused + 256 * (if on then hdrLog2 s t.activeSlot % 16 else 0)
      + 2 ^ 16 * (if on then hdrReelId s t.activeSlot else 0))
  else if o = 0x18 then regRo t.passCount.toNat
  else if o = 0x20 then regLo t.spliceTime.toNat
  else if o = 0x24 then regHi t.spliceTime.toNat
  else if o = 0x30 then regRo (t.clapMode % 4)
  else if o = 0x34 then regRwsI (uns 13 t.clapOffset)
  else if o = 0x38 then regRo (clapCode t.clapState + 4 * min 3 t.run + 256 * satI 8 t.lastOffset)
  else if o = 0x3C then regRc t.viol.toNat
  else if o = 0x50 then regWoI
  else if o = 0x54 then regRo (t.pauseState % 4 + 4 * (t.pauseStation % 64) + 256 * (t.pauseReason % 16))
  else if o = 0x58 then regLo t.pauseStart.toNat
  else if o = 0x5C then regHi t.pauseStart.toNat
  else if o = 0xFC then regWoI
  else if inWin 0x100 36 o then regRo (slackWord s ((o - 0x100) / 4))
  else none

/-! ### SLU (R101) -/

def slotCode : SlotState → Nat
  | .empty => 0 | .loading => 1 | .checking => 2 | .passed => 3 | .refused => 4

def swapCode : SwapState → Nat
  | .none => 0 | .draining => 1 | .waiting => 2 | .refused => 3

/-- A feed's read pointer in lines from its first line (R83, R101). -/
def feedPtr (s : State) (st sel : Nat) : Nat := (feedSt s st sel).ptr

def sluReg (s : State) (o : Nat) : Option Reg :=
  let u := s.slu
  let st := selOf s 0x040040 6
  if o = 0x0 then regWo
  else if o = 0x4 then regRo (slotCode u.next + 8 * b2n u.ckHeader + 16 * (u.ckCode % 16) + 2 ^ 8 * (u.ckRecord % 1024)
      + 2 ^ 18 * (u.ckStation % 64) + 2 ^ 24 * (u.ckPlane % 8))
  else if o = 0x8 then regRo (swapCode u.swap + 16 * (u.reason % 16))
  else if o = 0xC then regRo (b2n u.tableMode)
  else if o = 0x10 then regRo (stationMask u.affected 0)
  else if o = 0x14 then regRo (stationMask u.affected 32 % 16)
  else if o = 0x18 then regRo (stationMask u.dark 0)
  else if o = 0x1C then regRo (stationMask u.dark 32 % 16)
  else if o = 0x20 then regRc u.drainDiscard.toNat
  else if o = 0x24 then regRc u.overrunCount.toNat
  else if o = 0x28 then regRc u.frameDiscard.toNat
  else if o = 0x40 then regRw st
  else if inWin 0x1000 256 o then regRo (feedPtr s st ((o - 0x1000) / 4) % 2 ^ 24)
  else if inWin 0x1400 256 o then regRo (min 65535 (feedSt s st ((o - 0x1400) / 4)).owed)
  else if inWin 0x1800 256 o then regRo ((landSt s st ((o - 0x1800) / 4)).ptr % 2 ^ 24)
  else none

/-! ### MRC (R120) -/

/-- MRC_SPARE_STATUS. -/
def spareStatus (s : State) (st : Nat) : Nat :=
  let x := spareOf s st
  let rings := (List.range 36).filter (fun d => hasStation s.part.variant d && d != st)
  let used := x.dest.isSome && x.remapping.isNone
  b2n used + 2 * (if used then x.dest.getD 0 else 0)
    + 128 * b2n (hasStation s.part.variant st && elemOk s (mrModulator st 95) && rings.all (fun d => elemOk s (spareRing st d)))

/-- MRC_ALLOC of a pair; it reads zero where a station is absent. Log entry 89 (DEDUCED). -/
def allocWord (s : State) (src dst : Nat) : Nat :=
  if !hasStation s.part.variant src || !hasStation s.part.variant dst then 0
  else
    let x := spareOf s src
    assigned src dst + 8 * (lambdasIn s src dst).length + 64 * b2n (x.dest == some dst && x.remapping.isNone)
      + 128 * b2n (s.mrc.down.contains (pairKey src dst)) + 256 * b2n (src != dst && elemOk s (spareRing src dst))

/-- MRC_DEPTH, MRC_STALL_LO and _HI of class c: depth, peak and stall ticks. -/
def depthReg (o depth : Nat) (peak : Tab Word16) (stall : Tab Word64) : Option Reg :=
  let c := (o - 0x300) / 16
  let w := o % 16
  if o < 0x300 ∨ 7 ≤ c then none
  else if w = 0 then regRo (min 65535 depth + 2 ^ 16 * (tget 0 peak c).toNat)
  else if w = 4 then regLo (tget 0 stall c).toNat
  else if w = 8 then regHi (tget 0 stall c).toNat
  else none

def mrcReg (s : State) (o : Nat) : Option Reg :=
  let st := selOf s 0x050000 6
  let c : MrCount := tget {} s.mrc.count st
  if o = 0x0 then regRw st
  else if o = 0x4 then regRo (spareStatus s st)
  else if o = 0x8 then regRc s.mrc.remapCount.toNat
  else if o = 0xC then regRc s.mrc.lambdaOutCount.toNat
  else if inWin 0x10 3 o then regRo (maskOf 32 (fun k => (lamOf s st (8 * (o - 0x10) + k)).out))
  else if o = 0x20 then regWo
  else if inWin 0x100 36 o then regRo (allocWord s st ((o - 0x100) / 4))
  else if o = 0x200 then regLo c.txFlits.toNat
  else if o = 0x204 then regHi c.txFlits.toNat
  else if o = 0x208 then regLo c.rxFlits.toNat
  else if o = 0x20C then regHi c.rxFlits.toNat
  else if o = 0x210 then regLo c.txBytes.toNat
  else if o = 0x214 then regHi c.txBytes.toNat
  else if o = 0x218 then regLo c.rxBytes.toNat
  else if o = 0x21C then regHi c.rxBytes.toNat
  else depthReg o (depthOf s st ((o - 0x300) / 16)) c.peak c.stall

end Sys2Proof.Machine
end

