-- ==== Sys2Proof/Machine/RegsB.lean ====
section
/-! DEFINITION. What the registers of the MEM, BLK, MPD, GRP, MST and TSI blocks read as, with their access and role (R147,
R164, R191, R228, R251, R283). -/

namespace Sys2Proof.Machine

open Sys2Proof

/-! ### MEM (R147, R164) -/

/-- MEM_STATUS: stations in service, one fenced or slow, and the clear of R135. -/
def memStatus (s : State) : Nat :=
  let ms := memStations s.part.variant
  maskOf 12 (fun m => ms.contains m && ((msSt s m).st == 1 || (msSt s m).st == 2) && !memFenced s m)
    + 2 ^ 12 * b2n (ms.any (fun m => memFenced s m || (decide (1 ≤ (msSt s m).st) && (msSt s m).rate != 0)))
    + 2 ^ 13 * b2n s.mem.cleared

def homeWord (s : State) (i : Nat) : Nat :=
  let m := homeEntry s i
  m % 16 + 256 * b2n (memFenced s m) + 2 ^ 16 * (homeRank s i % 256)

def memReg (s : State) (o : Nat) : Option Reg :=
  let m := selOf s 0x06000C 4
  let x := msSt s m
  if o = 0x0 then regRo (s.mem.addressable % 65536 + 65536 * (if s.mem.addressable = 0 then 0 else poolInstalled s))
  else if o = 0x4 then regRo (memStatus s)
  else if o = 0x8 then regRo (s.mem.timeoutUs % 1024)
  else if o = 0xC then regRw m
  else if o = 0x10 then regRo ((if memFenced s m then 3 else x.st % 4) + 4 * (x.rate % 4) + 16 * min 63 x.lanesRepaired + 1024 * b2n x.fallback)
  else if o = 0x14 then regRc x.corr.toNat
  else if o = 0x18 then regRc x.uncorr.toNat
  else if o = 0x1C then regRo (if hasMs s.part.variant m then poisonLines s m else 0)
  else if o = 0x20 then regRc s.mem.violations.toNat
  else if o = 0x24 then regRc s.mem.failures.toNat
  else if o = 0x28 then regRc s.mem.lateRsp.toNat
  else if o = 0x2C then regRc x.combStores.toNat
  else if o = 0x30 then regRc x.combAdds.toNat
  else if o = 0x34 then regRc (x.combPeak.toNat % 1024)
  else if o = 0x38 then regRo (x.scrubNext * 100 / max 1 (stackLines s) + 256 * x.scrubPasses.toNat)
  else if inWin 0x1000 768 o then regRo (homeWord s ((o - 0x1000) / 4))
  else none

/-! ### BLK (R164) -/

def blkReg (s : State) (o : Nat) : Option Reg :=
  let e := selOf s 0x070040 8
  let b := s.blk
  if o = 0x0 then regRo (b2n (suspended s) + 2 * b2n (decide (2 ≤ b.fullEpochs)) + 4 * (b.flight.length % 128)
      + 2 ^ 9 * min 255 (b.regions.filter (fun p => p.2.st == 1)).length)
  else if o = 0x4 then regRwI (b.dispatch.toNat &&& 0xFF03)
  else if o = 0x8 then regRo (b.replicaGib * 16384)
  else if o = 0xC then regRo (b.replicas.filter (fun p => p.2.isSome)).length
  else if o = 0x10 then regRc b.hits.toNat
  else if o = 0x14 then regRc b.touches.toNat
  else if o = 0x18 then regRc b.fetched.toNat
  else if o = 0x1C then regRc b.full.toNat
  else if o = 0x20 then regRc b.dropped.toNat
  else if o = 0x24 then regRc b.trackFull.toNat
  else if o = 0x40 then regRw e
  else if o = 0x44 then regRws (effectOf s 0x070044 e)
  else if o = 0x48 then regRws (effectOf s 0x070048 e)
  else if o = 0x4C then regRws (effectOf s 0x07004C e)
  else if o = 0x50 then regRws (effectOf s 0x070050 e)
  else if o = 0x54 then regRws (256 * ((regionOf s e).st % 4) + 4096 * ((regionOf s e).reason % 16))
  else if o = 0xFC then regWo
  else none

/-! ### MPD and GRP (R191) -/

def mpdReg (s : State) (o : Nat) : Option Reg :=
  let b := selOf s 0x080008 5
  let x := s.mpd
  let ow (k : Nat) : Nat × Nat := bankOwner s k
  if o = 0x0 then regRo (b2n x.cleared + 2 * b2n x.clearing)
  else if o = 0x4 then regRo (maskOf 32 (fun k => hasBank s.part.variant k && bankFenced s k))
  else if o = 0x8 then regRw b
  else if o = 0xC then regRc (tget 0 x.corr b).toNat
  else if o = 0x10 then regRc (tget 0 x.uncorr b).toNat
  else if o = 0x14 then regLo (tget 0 x.dmaWait b).toNat
  else if o = 0x18 then regHi (tget 0 x.dmaWait b).toNat
  else if o = 0x1C then regRc x.fencedDiscard.toNat
  else if o = 0x20 then regRo (tget 0 s.part.spareCols b).toNat
  else if inWin 0x100 32 o then
    regRo ((ow ((o - 0x100) / 4)).1 % 16 + 16 * (if (ow ((o - 0x100) / 4)).1 = 1 then (ow ((o - 0x100) / 4)).2 % 64 else 0))
  else if inWin 0x200 4 o then
    let c := (o - 0x200) / 4
    regRo ((tget 0 x.crewCorr c).toNat + 2 ^ 16 * (tget 0 x.crewUncorr c).toNat)
  else none

def watchAt (s : State) (k : Nat) : Watch := tget {} s.grp.watches k

/-- GRP_GRIP_STATE of grip g. -/
def gripWord (s : State) (g : Nat) : Nat :=
  min 255 (gripPending s g) + 256 * b2n (s.grp.descs.any (fun d => d.grip == g && d.st != .pending && d.sluice.isSome))
    + 512 * b2n (hasGrip s.part.variant g && gripFenced s g)
    + 1024 * (s.mem.slots.filter (fun p => p.2.isSome && p.1 / 8192 == 36 + g)).length

/-- The registers of queue q at word w of its four; OUTSTANDING, whose nine bits the rules let it pass, saturates.
Log entry 96 (DESIGN CHOICE). -/
def queueReg (s : State) (q w : Nat) : Option Reg :=
  let x := queueOf s q
  let a := 0x091000 + 16 * q
  if w = 0 then regRws (effectOf s a 0)
  else if w = 1 then regRws (effectOf s (a + 4) 0)
  else if w = 2 then regRws (effectOf s (a + 8) 0 % 2)
  else regRo (x.st % 4 + 4 * (x.reason % 16) + 64 * min 511 (s.grp.descs.filter (fun d => d.queue == q)).length)

def grpReg (s : State) (o : Nat) : Option Reg :=
  let k := selOf s 0x090004 10
  let w := watchAt s k
  if o = 0x0 then regRo ((s.grp.queues.filter (fun p => p.2.st == 1)).length + 128 * (s.grp.watches.filter (fun p => p.2.st == 1)).length)
  else if o = 0x4 then regRw k
  else if o = 0x8 then regRws (w.word % 2 ^ 24)
  else if o = 0xC then some { acc := .rws, val := w.threshold.toNat % 2 ^ 32, lo := true }
  else if o = 0x10 then regRws (w.threshold.toNat / 2 ^ 32)
  else if o = 0x14 then regRws w.step.toNat
  else if o = 0x18 then regRws (w.mode % 4 + 256 * (w.site % 16) + 2 ^ 16 * w.tag.toNat)
  else if o = 0x1C then regRo (w.st % 4 + 4 * b2n (w.notice.isSome || !w.old.isEmpty))
  else if o = 0x20 then regRc s.grp.coalesced.toNat
  else if o = 0xF8 then regRw (selOf s 0x0900F8 6)
  else if o = 0xFC then regWo
  else if inWin 0x100 16 o then regRo (gripWord s ((o - 0x100) / 4))
  else if inWin 0x1000 256 o then queueReg s ((o - 0x1000) / 16) (o % 16 / 4)
  else none

/-! ### MST (R228) -/

/-- Open chunks of a context, at most 2. -/
def openChunks (s : State) (c : Nat) : Nat := min 2 ((ctxAt s c).chunks.filter (fun h => !h.closed)).length

/-- MST_W_STATE of millstone w. -/
def millWordState (s : State) (w : Nat) : Nat :=
  b2n (hasWs s.part.variant w && millFenced s w) + 2 * b2n (standAddr s .millstoneSlow w).isSome + 4 * boundTo s w
    + 2 ^ 16 * (tget 0 s.mst.rate w).toNat

def mstReg (s : State) (o : Nat) : Option Reg :=
  let c := selOf s 0x0A0004 9
  let x := ctxAt s c
  let op (w : Nat) : Nat := (tget 0 s.mst.ops w).toNat
  if o = 0x0 then regRo (maskOf 4 (fun w => hasWs s.part.variant w && !millFenced s w) + 16 * (liveCtxs s).length)
  else if o = 0x4 then regRw c
  else if o = 0x8 then regRws 0
  else if o = 0xC then regRo (x.st % 4 + 4 * (if x.st = 0 then 0 else x.mill % 4) + 16 * (x.reason % 16) + 256 * openChunks s c)
  else if o = 0x10 then regRo (x.run.toNat % 2 ^ 32)
  else if o = 0x14 then regRc x.late.toNat
  else if o = 0x18 then regRc s.mst.discards.toNat
  else if o = 0x1C then regRc s.mst.incompletes.toNat
  else if inWin 0x20 8 o then regRws (x.ks.getD ((o - 0x20) / 4) 0).toNat
  else if o = 0xFC then regWo
  else if inWin 0x100 4 o then regRo (millWordState s ((o - 0x100) / 4))
  else if inWin 0x200 8 o then
    let w := (o - 0x200) / 8
    if o % 8 = 0 then regLo (op w) else regHi (op w)
  else none

/-! ### TSI (R251, R283) -/

def siteStateWord (s : State) (n : Nat) : Nat :=
  let x := siteOf s n
  let ms := (List.range 64).map (modOf s n)
  x.st % 8 + 16 * (x.rate % 4) + 2 ^ 8 * (upModules s n false).length + 2 ^ 14 * (upModules s n true).length
    + 2 ^ 20 * b2n (decide (3 ≤ x.st ∧ x.st ≤ 4) && ms.any (fun m => m.st == 0 || m.st == 2))

/-- Spares of a half in use, 0 to 2. -/
def halfSpares (m : SiteMod) (h : Nat) : Nat := ((m.spares.drop (2 * h)).take 2).countP (fun l => l != 0x7F)

/-- The state that TSI_MOD_STATE shows: 3 while the site trains, and while its modules retrain in a pause (R251). -/
def modShown (s : State) (n : Nat) (m : SiteMod) : Nat :=
  if (siteOf s n).st = 2 ∨ ((siteOf s n).st = 4 ∧ m.st ≠ 0) then 3 else m.st

def modStateWord (s : State) (n k : Nat) : Nat :=
  let m := modOf s n k
  k / 32 + 2 * (modShown s n m % 4) + 8 * ((siteOf s n).rate % 4) + 32 * (m.half % 2) + 64 * halfSpares m 0 + 256 * halfSpares m 1

def spareMapWord (s : State) (n k : Nat) : Nat :=
  ((List.range 4).map (fun i => (modOf s n k).spares.getD i 0x7F % 128 * 2 ^ (8 * i))).sum

/-- The lane that TSI_LANE_SEL selects, if it has taps: a D2B module and lane 0 to 68. -/
def selLane (s : State) (n : Nat) : Option (Nat × Nat) :=
  let w := tget 0 s.csp.sel (0x0B0024 + 0x1000 * n)
  let m := fld w 0 6
  let l := fld w 8 7
  if m < 32 ∧ l < 69 then some (m, l) else none

/-- TSI_LANE_TAP without BUSY, and BUSY: a written target not yet reached. -/
def laneTap (s : State) (n m l : Nat) : Nat :=
  let t := tget 0 (siteOf s n).taps ((siteOf s n).rate * 8192 + m * 128 + l)
  t / 32 % 64 + 256 * (t % 32)
def laneBusy (s : State) (n m l : Nat) : Bool := match tget none (siteOf s n).targets (m * 128 + l) with
  | some t => t != tget 0 (siteOf s n).taps ((siteOf s n).rate * 8192 + m * 128 + l)
  | none => false

def laneRegs (s : State) (n o : Nat) : Option Reg :=
  match selLane s n with
  | none => if o = 0x28 then regRwI 0 else if o = 0x2C then regRc 0 else regRo 0
  | some (m, l) =>
    if o = 0x28 then regRwI (laneTap s n m l + 2 ^ 16 * b2n (laneBusy s n m l))
    else if o = 0x2C then regRc (tget 0 (siteOf s n).laneErr (m * 128 + l)).toNat
    else
      let e := (tget none (siteOf s n).margin (m * 128 + l)).getD (0, 0)
      regRo (e.1 % 64 + 256 * (e.2 % 32))

/-- The sideband is live: TEMP came within the last 1 ms (R283). -/
def sbAlive (s : State) (n : Nat) : Bool := match (siteOf s n).neg.lastTempAt with
  | some t => (siteOf s n).neg.done && decide (s.now ≤ t + 1000000)
  | none => false

def tsiReg (s : State) (n o : Nat) : Option Reg :=
  let x := siteOf s n
  let c := x.count
  let g := x.neg
  if o = 0x0 then regRo (siteStateWord s n)
  else if o = 0x4 then regRo (x.cause % 16 + 16 * (x.causeModule % 64) + 1024 * (x.causeGroup % 64))
  else if o = 0x10 then regRo (x.vset % 256 + 256 * (x.vreq % 256))
  else if o = 0x14 then regRwsI (x.limits.min % 256 + 2 ^ 8 * (x.limits.max % 256) + 2 ^ 16 * (x.limits.start % 256))
  else if o = 0x18 then regRo (x.mv.toNat + 2 ^ 16 * x.current.toNat)
  else if o = 0x1C then regRo (b2n (x.on && !s.flt.safe) + 2 * b2n x.overvolt + 4 * b2n x.undervolt + 8 * b2n x.clamped + 16 * b2n x.groupFail + 32 * (x.group % 64))
  else if o = 0x20 then regRwI (b2n x.freeze)
  else if o = 0x24 then regRw ((tget 0 s.csp.sel (0x0B0024 + 0x1000 * n)).toNat &&& 0x7F3F)
  else if o = 0x28 ∨ o = 0x2C ∨ o = 0x30 then laneRegs s n o
  else if o = 0x40 then regRc (min 65535 c.swaps + 2 ^ 16 * min 255 c.narrows + 2 ^ 24 * min 255 c.offs)
  else if o = 0x50 then regRo (g.revision % 256 + 256 * b2n g.done + 512 * b2n g.accepted + 1024 * b2n g.legacy + 2048 * b2n g.newer)
  else if o = 0x54 then regRo (b2n g.aligned + 2 * b2n (sbAlive s n) + 2 ^ 16 * uns 13 g.lastTemp)
  else if o = 0x60 then regRc c.corr.toNat
  else if o = 0x64 then regRc c.uncorr.toNat
  else if o = 0x68 then regRc (min 65535 c.naks + 2 ^ 16 * min 65535 c.replays)
  else if o = 0x6C then regRc c.malformed.toNat
  else if o = 0x70 then regRc c.overrun.toNat
  else if o = 0x74 then regRc c.streamDiscard.toNat
  else if o = 0x78 then regRc (min 96 c.peakIn + 256 * min 96 c.peakOut)
  else if o = 0x7C then regRc (min 65535 c.resendSent + 2 ^ 16 * min 65535 c.resendGot)
  else if o = 0xFC then regWoI
  else if inWin 0x100 8 o then regRo (tget 0 g.base ((o - 0x100) / 4)).toNat
  else if inWin 0x140 8 o then regRo (tget 0 g.die ((o - 0x140) / 4)).toNat
  else if inWin 0x180 8 o then regRo (tget 0 g.agreed ((o - 0x180) / 4)).toNat
  else if o = 0x1C0 then regRo g.unsupported.toNat
  else if inWin 0x400 64 o then regRo (modStateWord s n ((o - 0x400) / 4))
  else if inWin 0x500 64 o then regRo (spareMapWord s n ((o - 0x500) / 4))
  else none

end Sys2Proof.Machine
end

