-- ==== Sys2Proof/Machine/RegsC.lean ====
section
/-! DEFINITION. What the registers of the POD, FOC, THM, GAF, FLT, PAIR, UPD, TEL and FAC blocks read as, with their access
and role (R314, R339, R372, R402, R442, R461, R462). -/

namespace Sys2Proof.Machine

open Sys2Proof

/-! ### POD (R314) -/

/-- A route table entry as 64 bits (R306). -/
def entryWord (e : RouteEntry) : Nat :=
  e.kind % 4 + 4 * (e.level % 256) + 2 ^ 10 * e.localXs.toNat + 2 ^ 18 * e.remoteXs.toNat + 2 ^ 32 * e.nextHop.toNat

/-- The entry that 64 bits give. -/
def entryOf (w : Nat) : RouteEntry :=
  { kind := w % 4, level := w / 4 % 256, localXs := BitVec.ofNat 8 (w / 2 ^ 10), remoteXs := BitVec.ofNat 8 (w / 2 ^ 18)
    nextHop := BitVec.ofNat 16 (w / 2 ^ 32) }

def linkStateWord (s : State) (l : Nat) : Nat :=
  let x := podLink s l
  let pair := (pairLinks s).contains l
  (if linkFenced s l then 5 else x.st % 8) + 8 * (lanesIn x.map).length + 256 * b2n pair + 512 * b2n (timeUp s l)
    + 2 ^ 10 * (x.lastLane % 16) + 2 ^ 14 * (x.lastCause % 8)

def partnerWord (s : State) (l : Nat) : Nat :=
  let x := podLink s l
  x.partnerNode.toNat + 2 ^ 16 * b2n x.partnerSwitch + 2 ^ 17 * (x.partnerXs % 8) + 2 ^ 20 * (x.partnerLink % 64)

/-- Flows that wait under R302. -/
def flowsWaiting (s : State) : Nat := (s.pod.waiting.map (fun w => (w.cls, w.node, w.job))).eraseDups.length

/-- POD_TIME_STATUS (R311, R314). Log entry 59 (DEDUCED). -/
def podTimeStatus (s : State) : Nat :=
  let p := s.pod
  b2n (p.locked || p.isSource) + 2 * b2n p.isSource + 4 * (p.upstream.getD 0 % 64)
    + 256 * ((List.range 48).filter (timeUp s)).length

/-- SOURCE_NODE, PRIORITY and HOPS of the source followed. -/
def podTimeSource (s : State) : Nat :=
  let p := s.pod
  let own := s.ident.node.toNat + 2 ^ 16 * (p.priority % 256)
  if p.isSource then own
  else match p.upstream with
    | some l => (podLink s l).time.source.toNat + 2 ^ 16 * ((podLink s l).time.priority % 256) + 2 ^ 24 * (p.hops % 256)
    | none => 0

def podReg (s : State) (o : Nat) : Option Reg :=
  let l := selOf s 0x0C0004 6
  let x := podLink s l
  let n := selOf s 0x0C0038 16
  let next := entryWord (tget {} s.pod.routeNext n)
  let act := entryWord (routeOf s n)
  if o = 0x0 then regRo (((List.range 48).filter (linkUp s)).length + 64 * (s.pod.links.filter (fun p => p.2.st == 3)).length)
  else if o = 0x4 then regRw l
  else if o = 0x8 then regRo (linkStateWord s l)
  else if o = 0xC then regRo (x.map.toNat + 2 ^ 16 * (x.epoch % 65536))
  else if o = 0x10 then regRo (partnerWord s l)
  else if o = 0x14 then regRc x.viol.toNat
  else if o = 0x18 then regWoI
  else if o = 0x1C then regRc s.pod.laneDrops.toNat
  else if o = 0x20 then regRo ((ctxsUsed s).length % 8192 + 2 ^ 13 * min 8191 (flowsWaiting s))
  else if o = 0x24 then regRc s.pod.evict.toNat
  else if o = 0x28 then regRc s.pod.dup.toNat
  else if o = 0x2C then regRc s.pod.fwdDiscard.toNat
  else if o = 0x30 then regWoI
  else if o = 0x34 then regRo (s.pod.rtSt % 8 + 8 * (s.pod.rtReason % 16) + 256 * (s.pod.rtNode % 65536))
  else if o = 0x38 then regRwI n
  else if o = 0x3C then some { acc := .rw, right := .i, val := next % 2 ^ 32, lo := true }
  else if o = 0x40 then regRwI (next / 2 ^ 32)
  else if o = 0x44 then regLo act
  else if o = 0x48 then regHi act
  else if o = 0x50 then regRo (podTimeStatus s)
  else if o = 0x54 then regRo (satI 16 (s.pod.medianOffset * 8))
  else if o = 0x58 then regRo (podTimeSource s)
  else if o = 0x5C then regRo (s.pod.priority % 256)
  else if o = 0x200 then regLo x.txFlits.toNat
  else if o = 0x204 then regHi x.txFlits.toNat
  else if o = 0x208 then regLo x.rxFlits.toNat
  else if o = 0x20C then regHi x.rxFlits.toNat
  else if o = 0x210 then regLo x.txBytes.toNat
  else if o = 0x214 then regHi x.txBytes.toNat
  else if o = 0x218 then regLo x.rxBytes.toNat
  else if o = 0x21C then regHi x.rxBytes.toNat
  else depthReg o (podDepth s l ((o - 0x300) / 16)) x.peak x.stall

/-! ### FOC (R339) -/

/-- Elements out of service. -/
def elemsOut (s : State) : Nat := (s.foc.elems.filter (fun p => elemState s p.1 == 3)).length

/-- Phase 7 has run: elements show their state (R447). -/
def focusShown (s : State) : Bool := s.foc.focused

def elemWord (s : State) (e : Nat) : Nat :=
  match elemKind s.part.variant e with
  | none => 0
  | some k =>
    if !focusShown s then 0
    else
      let x := elemOf s e
      let st := elemState s e
      let tone := match x.tone with
        | some t => t
        | none => (channelOf k).getD 0
      st + 16 * ((if st = 4 then 4 else x.cause) % 16) + 256 * (heaterShown s x % 256) + 2 ^ 16 * (tone % 16) + 2 ^ 20 * b2n x.toneOk
        + 2 ^ 21 * b2n (!x.sweptDown)

def elemTrimWord (s : State) (e : Nat) : Nat :=
  if (elemKind s.part.variant e).isSome && focusShown s then recNat (trimRecord s e) else 0

def feedWord (s : State) (k : Nat) : Nat :=
  let x := feedOf s k
  let module := match (s.boot.script.bind (·.lasers)).bind (·[k]?) with
    | some (sw, ch, _) => 2 ^ 20 * ((8 * sw + ch) % 16)
    | none => 0
  if s.boot.phase < 7 then module
  else x.role % 4 + 4 * b2n (x.lit && s.pins.lsEn) + 8 * b2n x.low + 16 * b2n x.lost + 32 * b2n (x.marked && s.pins.lsEn)
    + 256 * (x.weakest % 256) + 2 ^ 16 * (x.line % 16) + module

def headroomWord (s : State) (n : Nat) : Nat :=
  let h : Headroom := tget {} s.foc.head n
  let low := ((h.history.filter (fun p => decide (s.now ≤ p.1 + 1000000000))).map (·.2)).foldl min h.median
  h.median % 256 + 256 * (low % 256) + 2 ^ 16 * b2n h.low + 2 ^ 17 * b2n h.high

def focReg (s : State) (o : Nat) : Option Reg :=
  let f := s.foc
  let e := selOf s 0x0D000C 16
  if o = 0x0 then regRo (f.start % 4 + 4 * b2n f.focused + 8 * b2n f.freeze + 2 ^ 16 * min 65535 (elemsOut s))
  else if o = 0x4 then regRo (min 65535 f.fallbacks + 2 ^ 16 * (f.ms % 65536))
  else if o = 0x8 then regRwI (b2n f.freeze)
  else if o = 0xC then regRw e
  else if o = 0x10 then regRo (elemWord s e)
  else if o = 0x14 then regLo (elemTrimWord s e)
  else if o = 0x18 then regHi (elemTrimWord s e)
  else if o = 0x1C then regRwsI (effectOf s 0x0D001C 0)
  else if o = 0x20 then some { acc := .rws, right := .i, val := effectOf s 0x0D0020 0, lo := true }
  else if o = 0x24 then regRwsI (effectOf s 0x0D0024 0)
  else if o = 0x28 then regWoI
  else if o = 0x2C then regRo (f.source % 4 + 4 * b2n f.saving + 8 * b2n f.saveFailed + 16 * (f.generation % 65536))
  else if o = 0x30 then regRc f.wrongLocks.toNat
  else if o = 0x34 then regRc f.lockLost.toNat
  else if o = 0x38 then regRc f.failovers.toNat
  else if o = 0x3C then regRo (b2n s.pins.lsEn + 2 * b2n (!s.pins.lsIntN) + 4 * (f.ready.length % 32))
  else if o = 0xFC then regWoI
  else if inWin 0x100 16 o then regRo (feedWord s ((o - 0x100) / 4))
  else if inWin 0x200 36 o then regRo (headroomWord s ((o - 0x200) / 4))
  else none

/-! ### THM and GAF (R372) -/

def temp16 (t : Option Int) : Nat := match t with
  | some x => uns 16 x
  | none => 0

/-- A sensor as it shows; 0x8000 out of service or without a sample (R372). -/
def sensWord (s : State) (k : Nat) : Nat :=
  if sensorUsed s k then (match reading s k with
    | some t => uns 16 t
    | none => 0x8000)
  else 0x8000

/-- The station with the lowest T_n, and that temperature. -/
def coldest (s : State) : Option (Int × Nat) :=
  (stations s.part.variant).foldl (fun a st => match stationTemp s st, a with
    | some t, some (u, n) => if t < u then some (t, st) else some (u, n)
    | some t, none => some (t, st)
    | none, _ => a) none

def thmStnWord (s : State) (st : Nat) : Nat :=
  if !hasStation s.part.variant st then 0
  else
    let live := ((List.range 4).filter (fun k => sensorUsed s (4 * st + k))).length
    temp16 (stationTemp s st) + 2 ^ 16 * b2n (s.thm.lowSt.contains st) + 2 ^ 17 * b2n (s.gaf.disagree.contains (fieldOf st))
      + 2 ^ 18 * (live - 1) + 2 ^ 20 * b2n (live == 0)

def thmReg (s : State) (o : Nat) : Option Reg :=
  let t := s.thm
  let k := selOf s 0x0E0010 4
  let j := junction s
  if o = 0x0 then regRo (t.level % 4 + 4 * b2n t.warmup + 8 * b2n (!t.lowSt.isEmpty) + 16 * b2n s.pins.coolantOk + 32 * b2n t.restarted
      + 256 * (match j with | some p => p.2 % 64 | none => 0) + 2 ^ 16 * temp16 (j.map (·.1)))
  else if o = 0x4 then regRo (match coldest s with
    | some p => uns 16 p.1 + 2 ^ 16 * (p.2 % 64)
    | none => 0)
  else if o = 0x8 then regRo (min 3 (t.trips.filter (fun x => decide (s.now < x + day))).length + 4 * b2n t.tripLocked + 8 * (t.cause % 2)
      + 16 * (t.tripStation % 64) + 2 ^ 16 * uns 16 t.tripTemp)
  else if o = 0xC then regRo (min 255 ((sensors s).filter (fun x => !sensorUsed s x)).length)
  else if o = 0x10 then regRw k
  else if o = 0x14 then regRo (uns 16 (tget 0 t.stackTemp k) + 2 ^ 16 * (tget 0 t.stackSt k % 4))
  else if inWin 0x100 72 o then
    let i := 2 * ((o - 0x100) / 4)
    regRo (sensWord s i + 2 ^ 16 * sensWord s (i + 1))
  else if inWin 0x400 36 o then regRo (thmStnWord s ((o - 0x400) / 4))
  else none

/-- Parts of 255, of a fraction in parts of n. -/
def in255 (x n : Nat) : Nat := min 255 (x * 255 / n)

def paceSites (s : State) : List Nat := (List.range 12).filter (fun n => (powOf s n).pace.isSome)

def gafStatus (s : State) : Nat :=
  b2n (granted s) + 2 * b2n (!granted s) + 4 * b2n (stands s .budgetShort) + 8 * b2n (decide (s.gaf.f < 1000000))
    + 16 * b2n s.gaf.release.isSome + 32 * b2n s.gaf.pmbusFail

def siteLimitWord (s : State) (n : Nat) : Nat :=
  let p := powOf s n
  min 1023 p.limit + 2 ^ 10 * min 1023 (ratFloor (ceiling s n)) + 2 ^ 20 * b2n p.clamped + 2 ^ 21 * b2n p.guardEnd.isSome
    + 2 ^ 22 * b2n p.pace.isSome + 2 ^ 23 * b2n p.tempCeil.isSome + 2 ^ 24 * in255 p.factor 100000

def gafReg (s : State) (o : Nat) : Option Reg :=
  let g := s.gaf
  let j := selOf s 0x0F0030 8
  let slow := (s.gaf.sites.map (fun p => match p.2.pace with | some q => q.2 | none => 0)).foldl max 0
  if o = 0x0 then regRo (gafStatus s)
  else if o = 0x4 then regRo (g.budget % 65536)
  else if o = 0x8 then regRo (match g.expiry with
    | some t => (t - s.now + 999999) / 1000000
    | none => 0)
  else if o = 0xC then regRo g.grantId.toNat
  else if o = 0x10 then regRo (wattsUp g.alloc % 65536 + 2 ^ 16 * (wattsUp (minBudget s) % 65536))
  else if o = 0x14 then regRo (g.reserveBase % 65536 + 2 ^ 16 * (g.reserveStack % 256))
  else if o = 0x18 then regRo (g.fallback % 65536)
  else if o = 0x1C then regRo (g.rackEid % 256)
  else if o = 0x20 then regRwI (fld g.ctrl 0 2)
  else if o = 0x24 then regRo (g.vmill % 1024)
  else if o = 0x28 then
    regRo (((runningJobs s).filter (fun k => (jobSites s k).any (fun n => (paceSites s).contains n))).length + 256 * min 1000 slow)
  else if o = 0x2C then regRo (in255 g.f 1000000)
  else if o = 0x30 then regRw j
  else if o = 0x34 then regRws (tget 0xFFF g.jobCap j)
  else if o = 0x38 then
    let w := ((jobSites s j).map (meanMs s)).sum
    regRo (min 4095 (tget 0 g.jobShare j) + 2 ^ 12 * (if jobRunning s j then min 4095 w else 0))
  else if o = 0xFC then regWo
  else if inWin 0x100 12 o then regRo (siteLimitWord s ((o - 0x100) / 4))
  else if inWin 0x140 12 o then
    let n := (o - 0x140) / 4
    regRo (min 1023 (meanNow s n) + 2 ^ 10 * min 1023 (((powOf s n).means.filter (fun p => decide (s.now ≤ p.1 + 1000000))).map (·.2) |>.foldl max 0))
  else if inWin 0x180 12 o then regRc (powOf s ((o - 0x180) / 4)).viol.toNat
  else if inWin 0x1C0 12 o then regRwsI ((powOf s ((o - 0x1C0) / 4)).cap % 1024)
  else if inWin 0x400 32 o then
    let w := (tget 0 g.energy ((o - 0x400) / 8)).toNat
    if o % 8 = 0 then regLo w else regHi w
  else none

/-! ### FLT and PAIR (R402) -/

def fenceInfo (s : State) (k : Nat) : Nat := match tget none s.flt.map k with
  | none => 0
  | some e =>
    let st := match e.st with
      | .fenced => 1 | .retrying => 2 | .held => 3
    st + 4 * min 6 (recoveryCount s e.unit) + 64 * e.kind.toNat
      + 2 ^ 14 * (if e.st == .fenced then min (2 ^ 18 - 1) ((e.quietFrom + 1000000000 - s.now + 999999) / 1000000) else 0)

def fltReg (s : State) (o : Nat) : Option Reg :=
  let f := s.flt
  let k := selOf s 0x10002C 10
  let word (m : Option FaultMsg) (w : Nat) : Nat := match m with
    | some x => fld (faultWord x) (32 * w) 32
    | none => 0
  if o = 0x0 then regRo (b2n f.pending + 2 * b2n f.fatal + 4 * b2n f.safe + 8 * b2n f.first.isSome + 16 * b2n s.role.facActive)
  else if o = 0x4 then regWo
  else if inWin 0x10 4 o then regRo (word f.first ((o - 0x10) / 4))
  else if o = 0x20 then regWoI
  else if o = 0x24 then regRo (f.head % 32 + 32 * b2n f.frozen)
  else if o = 0x28 then regWoI
  else if o = 0x2C then regRw k
  else if o = 0x30 then regRo (match tget none f.map k with
    | some e => (unitWord e.unit).toNat
    | none => 0xFFFFFFFF)
  else if o = 0x34 then regRo (fenceInfo s k)
  else if o = 0x38 then regWoI
  else if o = 0x3C then regRo ((f.map.filter (fun p => p.2.isSome)).length % 1024)
  else if o = 0x40 then regRc (f.scrubs.toNat + 2 ^ 16 * f.items.toNat)
  else if inWin 0x100 128 o then regRo (word (tget none f.ring ((o - 0x100) / 16)) (o % 16 / 4))
  else if inWin 0x400 256 o then regRo (tget 0 f.counts ((o - 0x400) / 4)).toNat
  else none

def pairRoleCode : PairRole → Nat
  | .none => 0 | .lead => 1 | .standIn => 2 | .resync => 3 | .leadSolo => 4 | .claiming => 5 | .yielded => 6

def pairReg (s : State) (o : Nat) : Option Reg :=
  let p := s.pair
  let k := selOf s 0x110024 12
  let mask := match p.cfg with
    | some c => c.mask.toNat
    | none => 0
  if o = 0x0 then regRo (match p.cfg with
    | some c => c.partner.toNat + 2 ^ 16 * (c.linkA % 64) + 2 ^ 22 * (c.linkB % 64) + 2 ^ 28 * b2n c.forerunner
        + 2 ^ 29 * b2n c.scriptLead + 2 ^ 30
    | none => 0)
  else if o = 0x4 then
    regRo (pairRoleCode p.role + 8 * p.epoch.toNat + 2 ^ 11 * b2n p.linkUp.1 + 2 ^ 12 * b2n p.linkUp.2 + 2 ^ 13 * min 8191 p.record.length)
  else if o = 0x8 then regLo mask
  else if o = 0xC then regHi mask
  else if o = 0x10 then regRo p.mseq
  else if o = 0x14 then regRo (if p.resyncing then p.resyncLines * 100 / max 1 (setLines s) else if p.role == .lead || p.role == .standIn then 100 else 0)
  else if o = 0x18 then regRc p.hbMiss.toNat
  else if o = 0x1C then regRo (match p.cfg with
    | some c => c.stateBase.toNat
    | none => 0)
  else if o = 0x20 then regWoI
  else if o = 0x24 then regRw k
  else if o = 0x28 then regRo (match tget none p.claims k with
    | some e => e.msg.claimed.toNat + 2 ^ 16 * e.msg.newNode.toNat
    | none => 0xFFFF0000)
  else if o = 0x2C then regRo (match tget none p.claims k with
    | some e => e.msg.window.toNat + 16 * e.msg.epoch.toNat + 2 ^ 12 * b2n (e.isOpen && decide (s.now < e.holdUntil))
    | none => 0)
  else none

/-! ### UPD, TEL and FAC (R442, R461, R462) -/

def slotStateWord (s : State) (n : Nat) : Nat :=
  let x := slotOf s n
  x.st % 8 + 8 * min 3 x.attempts + 32 * b2n (s.boot.preferred == n) + 64 * b2n (s.boot.slot == n && decide (4 ≤ s.boot.phase))
    + 256 * (x.svn % 64)

def updReg (s : State) (o : Nat) : Option Reg :=
  let b := s.boot
  if o = 0x0 then regRo (b.updSt % 8 + 8 * (b.preferred % 2))
  else if o = 0x4 then regWoI
  else if o = 0x8 then regRo (updSlot s).image.toNat
  else if o = 0xC then regRo (received (updSlot s) % 8192 + 2 ^ 16 * (firstMissing (updSlot s) % 8192))
  else if o = 0x10 then regRo (b.rollback % 128)
  else if o = 0x20 ∨ o = 0x30 then regRo (slotStateWord s ((o - 0x20) / 16))
  else if o = 0x24 ∨ o = 0x34 then regRo (slotOf s ((o - 0x20) / 16)).version.toNat
  else if o = 0x28 ∨ o = 0x38 then regRo (slotOf s ((o - 0x20) / 16)).image.toNat
  else none

/-- Telemetry runs from READY on. Log entry 90 (DESIGN CHOICE). -/
def telRuns (s : State) : Bool := s.boot.ready && !s.boot.dark && !s.flt.safe

/-- The millpond offset of a daily (R460). -/
def dailyBase (d : Nat) : Nat := 0x1F00000 + 0x4000 * d

def telReg (s : State) (o : Nat) : Option Reg :=
  let d := selOf s 0x13000C 6
  if o = 0x0 then regRo (b2n (telRuns s) + 2 * (s.tel.head % 64))
  else if o = 0x4 then regLo s.tel.seq.toNat
  else if o = 0x8 then regHi s.tel.seq.toNat
  else if o = 0xC then regRw d
  else if o = 0x10 then regRc s.tel.missed.toNat
  else if inWin 0x1000 4048 o then
    let a := dailyBase d + 4 * ((o - 0x1000) / 4)
    regRo (fld (millWord s (a / 8)) (32 * (a / 4 % 2)) 32)
  else none

/-- FAC_MODE; every other address of the block is a violation outside factory test mode (R462). In it, the injection
registers of R388 are written as FAULT_INJECT gives them. Log entry 89 (DEDUCED). -/
def facReg (s : State) (o : Nat) : Option Reg :=
  if o = 0 then some { acc := .rw, right := .m, val := 2 * b2n s.role.facActive } else none

end Sys2Proof.Machine
end

