-- ==== Sys2Proof/Machine/Slates.lean ====
section
/-! DEFINITION. Slates (R452 to R455): staging, commit, and what a committed set does at its frame boundary. -/

namespace Sys2Proof.Machine

open Sys2Proof

/-- The slate, the role and the field bits of an RWS register (R452). -/
def slateOf (a : Nat) : Option (Slate × Right × Word32) :=
  let o := a % 65536
  let b := a / 65536
  if a = 0x030034 then some (.tcClapper, .i, 0x1FFF)
  else if a = 0x070044 ∨ a = 0x07004C then some (.blkRegion, .o, 0xFFFFFF)
  else if a = 0x070048 then some (.blkRegion, .o, 0xFFFFFFFF)
  else if a = 0x070050 then some (.blkRegion, .o, 0xFF03)
  else if a = 0x070054 then some (.blkRegion, .o, 3)
  else if a = 0x090008 then some (.grpWatch, .o, 0xFFFFFF)
  else if a = 0x09000C ∨ a = 0x090010 ∨ a = 0x090014 then some (.grpWatch, .o, 0xFFFFFFFF)
  else if a = 0x090018 then some (.grpWatch, .o, 0xFFFF0F03)
  else if b = 9 ∧ 0x1000 ≤ o ∧ o < 0x1400 then
    (if o % 16 = 0 then some (.grpQueue ((o - 0x1000) / 16), .o, 0x1FFFFF)
     else if o % 16 = 4 then some (.grpQueue ((o - 0x1000) / 16), .o, 0xFF)
     else if o % 16 = 8 then some (.grpQueue ((o - 0x1000) / 16), .o, 3) else none)
  else if a = 0x0A0008 then some (.mstContext, .o, 3)
  else if b = 10 ∧ inWin 0x20 8 o then some (.mstContext, .o, 0xFFFFFFFF)
  else if b = 11 ∧ o < 0xC000 ∧ o % 4096 = 0x14 then some (.tsiVoltage (o / 4096), .i, 0xFFFFFF)
  else if a = 0x0D001C then some (.focTrim, .i, 0xFFFF)
  else if a = 0x0D0020 then some (.focTrim, .i, 0x03FFFF1F)
  else if a = 0x0D0024 then some (.focTrim, .i, 0x80000FFF)
  else if b = 15 ∧ inWin 0x1C0 12 o then some (.gafSiteCap, .i, 0x3FF)
  else if a = 0x0F0034 then some (.gafJobCap, .o, 0xFFF)
  else if a = 0x010044 then some (.roleJob, .o, 3)
  else if b = 2 ∧ inWin 0x30 4 o then some (.bootExpected, .o, 0xFFFFFFFF)
  else none

/-- Stage a value: it replaces the path's earlier one (R453). -/
def stage (p : Path) (sl : Slate) (a : Nat) (v : Word32) (s : State) : State :=
  let old := (s.csp.staged.find? (fun x => x.path == p && x.slate == sl)).elim [] (·.vals)
  let rest := s.csp.staged.filter (fun x => !(x.path == p && x.slate == sl))
  modCsp (fun c => { c with staged := { path := p, slate := sl, vals := old.filter (fun y => y.1 != a) ++ [(a, v)] } :: rest }) s

/-- The key word of a path in audit entries (R429). -/
def pathKey (s : State) : Path → Word32
  | .session n => (match sessionOf s n with
      | some x => x.keyDigest.setWidth 32
      | none => 0)
  | _ => 0

/-- Commit what the path has staged for a slate, for the entry that its selector names now (R453). -/
def commit (p : Path) (sl : Slate) (sel : Nat) (s : State) : State :=
  match s.csp.staged.find? (fun x => x.path == p && x.slate == sl) with
  | none => s
  | some x =>
    modCsp (fun c => { c with
      staged := c.staged.filter (fun y => !(y.path == p && y.slate == sl))
      committed := c.committed ++ [{ path := p, slate := sl, sel := sel, vals := x.vals, tick := s.now
                                     role := roleCode (pathRole s p), key := pathKey s p }] }) s

/-- The commit registers (R452): the write's bits, each with its role, slate and selector. -/
def commitsOf (s : State) (a : Nat) : List (Nat × Right × Slate × Nat) :=
  if a = 0x0300FC then [(0, .i, .tcClapper, 0)]
  else if a = 0x0700FC then [(0, .o, .blkRegion, selOf s 0x070040 8)]
  else if a = 0x0900FC then [(0, .o, .grpWatch, selOf s 0x090004 10), (1, .o, .grpQueue (selOf s 0x0900F8 6), selOf s 0x0900F8 6)]
  else if a = 0x0A00FC then [(0, .o, .mstContext, selOf s 0x0A0004 9)]
  else if a / 65536 = 11 ∧ a % 65536 < 0xC000 ∧ a % 4096 = 0xFC then [(0, .i, .tsiVoltage (a % 65536 / 4096), 0)]
  else if a = 0x0D00FC then [(0, .i, .focTrim, 0)]
  else if a = 0x0F00FC then [(0, .i, .gafSiteCap, 0), (1, .o, .gafJobCap, selOf s 0x0F0030 8)]
  else if a = 0x0100FC then [(0, .o, .roleJob, selOf s 0x010040 8)]
  else if a = 0x0200FC then [(0, .o, .bootExpected, 0)]
  else []

/-- A write of a commit register. Bits of role I are audited (R450). -/
def commitWrite (p : Path) (a : Nat) (d : Word32) (s : State) : State :=
  (commitsOf s a).foldl (fun s c =>
    if c.2.1 == .i then
      iWrite p a d.toNat (fun s => if bit d c.1 then commit p c.2.2.1 c.2.2.2 s else s) s
    else if mayWrite s p .o && bit d c.1 then commit p c.2.2.1 c.2.2.2 s
    else s) s

/-! ### The sets at their boundary (R454) -/

/-- No field holds a reserved value or one out of its range (R454). Log entry 8 (DEDUCED). -/
def valueLegal (s : State) (a : Nat) (v : Word32) : Bool :=
  if a = 0x030034 then v != 0x1000
  else if a = 0x07004C then v != 0
  else if a = 0x070050 then fld v 0 2 != 3 && (fld v 0 2 != 2 || fld v 8 8 != 0)
  else if a = 0x090018 then fld v 0 2 != 3 && decide (fld v 8 4 < 12)
  else if a / 65536 = 11 then decide (fld v 0 8 ≤ fld v 16 8 ∧ fld v 16 8 ≤ fld v 8 8 ∧ fld v 8 8 ≤ 90)
  else if a = 0x0D001C then (elemKind s.part.variant v.toNat).isSome
  else true

/-- Every field of a set has a legal value (R454). Log entry 8 (DEDUCED). -/
def setLegal (s : State) (c : CommitSet) : Bool := c.vals.all (fun x => valueLegal s x.1 x.2)

/-- The staged value of a register in a set. -/
def CommitSet.at (c : CommitSet) (a : Nat) : Option Nat := (c.vals.find? (fun x => x.1 == a)).map (fun x => x.2.toNat)

/-- The bits of a set's registers that the base keeps as written. -/
def keepAll (sel : Nat) (xs : List (Nat × Word32)) (s : State) : State := xs.foldl (fun s x => setEffect x.1 sel x.2.toNat s) s

/-- The region fields in effect for an entry. -/
def regionInEffect (s : State) (i : Nat) : RegionFields :=
  { node := BitVec.ofNat 16 (effectOf s 0x070044 i), base := BitVec.ofNat 32 (effectOf s 0x070048 i)
    blocks := BitVec.ofNat 24 (effectOf s 0x07004C i), job := BitVec.ofNat 8 (effectOf s 0x070044 i / 65536)
    mode := BitVec.ofNat 2 (effectOf s 0x070050 i), threshold := BitVec.ofNat 8 (effectOf s 0x070050 i / 256) }

def applyRegion (c : CommitSet) (s : State) : State :=
  let s := keepAll c.sel (c.vals.filter (fun x => x.1 != 0x070054)) s
  match c.at 0x070054 with
  | some 1 => declareRegion c.sel (regionInEffect s c.sel) s
  | some 2 => releaseRegion c.sel s
  | _ => s

/-- A watch slate takes effect: the watch is armed (R188). Log entry 37 (DEDUCED). -/
def applyWatch (c : CommitSet) (s : State) : State :=
  let w := watchAt s c.sel
  let cfg := (c.at 0x090018).getD (w.mode + 256 * w.site + 65536 * w.tag.toNat)
  let lo := (c.at 0x09000C).getD (w.threshold.toNat % 2 ^ 32)
  let hi := (c.at 0x090010).getD (w.threshold.toNat / 2 ^ 32)
  armWatch c.sel
    { word := BitVec.ofNat 24 ((c.at 0x090008).getD w.word), threshold := BitVec.ofNat 64 (lo + hi * 2 ^ 32)
      step := BitVec.ofNat 32 ((c.at 0x090014).getD w.step.toNat), mode := BitVec.ofNat 2 cfg, site := BitVec.ofNat 4 (cfg / 256)
      tag := BitVec.ofNat 16 (cfg / 65536) } s

/-- A queue's slate: RESET, then ENABLE as committed; BASE and JOB only while the queue is disabled (R179).
Log entry 88 (DEDUCED). -/
def applyQueue (q : Nat) (c : CommitSet) (s : State) : State :=
  let a := 0x091000 + 16 * q
  let s := keepAll 0 ((c.vals.filter (fun x => x.1 == a + 8 || (queueOf s q).st == 0)).map (fun x => if x.1 = a + 8 then (x.1, x.2 &&& 1) else x)) s
  match c.at (a + 8) with
  | none => s
  | some w =>
    let s := if w / 2 % 2 = 1 then resetQueue q s else s
    if w % 2 = 1 then enableQueue q (effectOf s a 0) (effectOf s (a + 4) 0) s else disableQueue q s

def applyContext (c : CommitSet) (s : State) : State :=
  let k (i : Nat) : Option Nat := c.at (0x0A0020 + 4 * i)
  let consts (s : State) : State :=
    if (List.range 8).any (fun i => (k i).isSome) then
      modCtx c.sel (fun x => if x.st = 0 then x else
        { x with ks := (List.range 8).map (fun i => match k i with
            | some v => BitVec.ofNat 32 v
            | none => x.ks.getD i 0) }) s
    else s
  if ctxCount s.part.variant ≤ c.sel then s
  else match c.at 0x0A0008 with
  | some 1 => consts (ctxSetup c.sel s)
  | some 2 => consts (ctxAbort c.sel s)
  | some 3 => ctxFree c.sel (consts s)
  | _ => consts s

/-- The FOC trim slate becomes the targets of the element it names (R334). -/
def applyTrim (c : CommitSet) (s : State) : State :=
  let s := keepAll 0 c.vals s
  let e := effectOf s 0x0D001C 0
  let goal := recOfNat (effectOf s 0x0D0020 0 + 2 ^ 32 * effectOf s 0x0D0024 0)
  modElem e (fun x => { x with target := some { goal with fine := x.trim.fine, valid := x.trim.valid } }) s

def applySiteCaps (c : CommitSet) (s : State) : State :=
  divide (c.vals.foldl (fun s x => modPow ((x.1 - 0x0F01C0) / 4) (fun p => { p with cap := x.2.toNat % 1024 }) s) s)

def applyExpected (c : CommitSet) (s : State) : State :=
  let half (a : Nat) (old : Word64) (hi : Bool) : Nat := (c.at a).getD (if hi then old.toNat / 2 ^ 32 else old.toNat % 2 ^ 32)
  contChange (fun r => { r with
    expect := BitVec.ofNat 64 (half 0x020030 r.expect false + 2 ^ 32 * half 0x020034 r.expect true)
    expectAlt := BitVec.ofNat 64 (half 0x020038 r.expectAlt false + 2 ^ 32 * half 0x02003C r.expectAlt true) }) s

/-- What a committed set does when it takes effect (R452, R454). Log entry 7 (DEDUCED). -/
def applyEffect (c : CommitSet) (s : State) : State :=
  match c.slate with
  | .tcClapper => (match c.at 0x030034 with
      | some v => modTc (fun t => { t with clapOffset := sgn 13 v }) s
      | none => s)
  | .blkRegion => applyRegion c s
  | .grpWatch => applyWatch c s
  | .grpQueue q => applyQueue q c s
  | .mstContext => applyContext c s
  | .tsiVoltage n => (match c.at (0x0B0014 + 0x1000 * n) with
      | some v => modSite n (fun x => { x with limits := { min := v % 256, max := v / 256 % 256, start := v / 65536 % 256 } }) s
      | none => s)
  | .focTrim => applyTrim c s
  | .gafSiteCap => applySiteCaps c s
  | .gafJobCap => (match c.at 0x0F0034 with
      | some v => divide (modGaf (fun g => { g with jobCap := tset 0xFFF g.jobCap c.sel v }) s)
      | none => s)
  | .roleJob => (match c.at 0x010044 with
      | some 1 => startJob c.path c.sel s
      | some 2 => endJob c.path c.sel s
      | some 3 => clearJob c.sel s
      | _ => s)
  | .bootExpected => applyExpected c s

/-- The slates whose fields have role I. -/
def Slate.installer : Slate → Bool
  | .tcClapper | .tsiVoltage _ | .focTrim | .gafSiteCap => true
  | _ => false

/-- The audit entries of a set's fields of role I, when they take effect (R429, R450). Log entry 84 (DEDUCED). -/
def auditSet (c : CommitSet) (s : State) : State :=
  if c.slate.installer then
    c.vals.foldl (fun s x => pushAudit { role := c.role, session := auditSession c.path, action := 0x10
                                         object := BitVec.ofNat 32 x.1, detail := x.2.setWidth 64, key := c.key } s) s
  else s

/-- A set takes effect, or is ignored whole (R454). Log entry 7 (DEDUCED). -/
def applySet (c : CommitSet) (s : State) : State := if setLegal s c then applyEffect c (auditSet c s) else s

/-- The sets committed at least 1 µs before the latest frame boundary take effect, in the order of their commits (R454).
Log entry 8 (DEDUCED). -/
def slateApply (s : State) : State :=
  if s.flt.safe || s.boot.dark then s
  else
    let due (c : CommitSet) : Bool := decide (c.tick + 1000 ≤ s.tc.lastBoundary)
    let sets := s.csp.committed.filter due
    sets.foldl (fun s c => applySet c s) (modCsp (fun x => { x with committed := x.committed.filter (fun c => !due c) }) s)

def execSlateApply (s : State) : Out := .next (slateApply s)

end Sys2Proof.Machine
end

