-- ==== Sys2Proof/Machine/RegWrite.lean ====
section
/-! DEFINITION. Writes to control space (R93, R202, R378, R415, R443, R448 to R450, R463): what each block's registers do. -/

namespace Sys2Proof.Machine

open Sys2Proof

/-- The state that a meaning answers. -/
def nextOf (o : Out) (s : State) : State := match o with
  | .next t => t
  | _ => s

/-- Do a step where a bit of the written word is 1. Log entry 88 (DEDUCED). -/
def onBit (d : Word32) (i : Nat) (f : State → State) (s : State) : State := if bit d i then f s else s

/-- The RW selectors of role O, with their field bits. -/
def selectorBits (a : Nat) : Option Nat :=
  if a = 0x010008 then some 0x7
  else if a = 0x010040 then some 0xFF
  else if a = 0x020044 then some 0xF
  else if a = 0x040040 ∨ a = 0x050000 ∨ a = 0x0900F8 ∨ a = 0x0C0004 then some 0x3F
  else if a = 0x06000C ∨ a = 0x0E0010 then some 0xF
  else if a = 0x070040 ∨ a = 0x0F0030 then some 0xFF
  else if a = 0x080008 then some 0x1F
  else if a = 0x090004 ∨ a = 0x10002C then some 0x3FF
  else if a = 0x0A0004 then some 0x1FF
  else if a / 65536 = 11 ∧ a % 65536 < 0xC000 ∧ a % 4096 = 0x24 then some 0x7F3F
  else if a = 0x0D000C then some 0xFFFF
  else if a = 0x110024 then some 0xFFF
  else if a = 0x13000C then some 0x3F
  else none

/-- A selector value that its register marks reserved: the write is a violation and changes nothing (R20, R147, R251, R348,
R402). -/
def selReserved (a : Nat) (d : Word32) : Bool :=
  if a = 0x06000C ∨ a = 0x0E0010 then decide (12 ≤ fld d 0 4)
  else if a = 0x10002C then decide (614 ≤ fld d 0 10)
  else if a / 65536 = 11 then decide (69 ≤ fld d 8 7)
  else false

def setSel (a bits : Nat) (d : Word32) (s : State) : State :=
  modCsp (fun c => { c with sel := tset 0 c.sel a (d &&& BitVec.ofNat 32 bits) }) s

/-- A word of the selected job record, while its entry is free or defined (R425, R442). -/
def jobRecWrite (k : Nat) (d : Word32) (s : State) : State :=
  let j := selOf s 0x010040 8
  if (jobOf s j).st = .free ∨ (jobOf s j).st = .defined then
    modJob j (fun x => { x with words := tset 0 x.words k d, st := .defined }) s
  else s

def roleWrite (p : Path) (o : Nat) (d : Word32) (s : State) : State :=
  if o = 0x4 then
    iWrite p 0x010004 d.toNat (onBit d 0 (fun s =>
      if 4 ≤ s.role.enrolled.length then s else modRole (fun r => { r with reenrolArmed := true }) s)) s
  else if inWin 0x100 32 o ∧ mayWrite s p .o then jobRecWrite ((o - 0x100) / 4) d s
  else s

def bootWrite (p : Path) (o : Nat) (d : Word32) (s : State) : State :=
  let a := 0x020000 + o
  if o = 0x4 then
    onBit d 2 (fun s => nextOf (execWake p s) s) (onBit d 1 (fun s => nextOf (execDark p s) s) (onBit d 0 (fun s => nextOf (execRestart p s) s) s))
  else if o = 0xC then iWrite p a d.toNat (onBit d 0 (scriptCheck p)) s
  else if o = 0x50 then iWrite p a d.toNat (modRole (fun r => { r with routeIdNext := d })) s
  else if o = 0x60 then iWrite p a d.toNat (modBoot (fun b => { b with flashAddr := d &&& 0x3FFFFFF })) s
  else if o = 0x64 then
    iWrite p a d.toNat (fun s =>
      if fld d 0 2 = 1 then flashRead s
      else if fld d 0 2 = 2 then flashStart 2 256 s
      else if fld d 0 2 = 3 then flashStart 3 4096 s else s) s
  else if inWin 0x100 64 o then iWrite p a d.toNat (modBoot (fun b => { b with flashBuf := tset 0 b.flashBuf ((o - 0x100) / 4) d })) s
  else s

def tcWrite (p : Path) (o : Nat) (d : Word32) (s : State) : State :=
  if o = 0x10 ∧ mayWrite s p .o then
    onBit d 3 reelStop (onBit d 2 reelStart (onBit d 1 (fun s => nextOf (execSwapCancel p s) s) (onBit d 0 swapArm s)))
  else if o = 0x50 then pauseWrite p (fld d 0 6) (fld d 8 2) d.toNat s
  else s

def tsiWrite (p : Path) (n o : Nat) (d : Word32) (s : State) : State :=
  let a := 0x0B0000 + 0x1000 * n + o
  if o = 0x20 ∧ sitePresent s.part n then iWrite p a d.toNat (modSite n (fun x => { x with freeze := bit d 0 })) s
  else if o = 0x28 then
    match selLane s n with
    | some (m, l) => iWrite p a d.toNat (laneTapWrite n m l (fld d 0 6) (fld d 8 5)) s
    | none => s
  else s

def podWrite (p : Path) (o : Nat) (d : Word32) (s : State) : State :=
  let a := 0x0C0000 + o
  let n := selOf s 0x0C0038 16
  let next := entryWord (tget {} s.pod.routeNext n)
  let entry (w : Nat) (s : State) : State := modPod (fun q => { q with routeNext := tset {} q.routeNext n (entryOf w) }) (nextChanged s)
  if o = 0x18 then iWrite p a d.toNat (onBit d 0 (quarantineEnd (selOf s 0x0C0004 6))) s
  else if o = 0x30 then
    iWrite p a d.toNat (fun s => onBit d 3 (fun s => modPod (fun q => { q with routeNext := q.route }) (nextChanged s))
      (onBit d 2 rtCancel (onBit d 1 rtSwap (onBit d 0 rtCheck s)))) s
  else if o = 0x38 then iWrite p a d.toNat (setSel 0x0C0038 0xFFFF d) s
  else if o = 0x3C then iWrite p a d.toNat (entry (next / 2 ^ 32 * 2 ^ 32 + d.toNat)) s
  else if o = 0x40 then iWrite p a d.toNat (entry (next % 2 ^ 32 + 2 ^ 32 * d.toNat)) s
  else s

def focWrite (p : Path) (o : Nat) (d : Word32) (s : State) : State :=
  if o = 0x8 then iWrite p 0x0D0008 d.toNat (modFoc (fun f => { f with freeze := bit d 0 })) s
  else if o = 0x28 then iWrite p 0x0D0028 d.toNat (onBit d 0 warmSave) s
  else s

/-- FLT_ALERT_ACK and FLT_OUTTAKE_UNFREEZE act in safe state too (R378). -/
def fltWrite (p : Path) (o : Nat) (d : Word32) (s : State) : State :=
  if o = 0x4 then onBit d 0 (fun s => nextOf (execFltAlertAck p s) s) s
  else if o = 0x20 then iWrite p 0x100020 d.toNat (onBit d 0 firstClear) s
  else if o = 0x28 then onBit d 0 (fun s => nextOf (execFltOuttakeUnfreeze p s) s) s
  else if o = 0x38 then iWrite p 0x100038 d.toNat (fenceClear (unitOfWord d)) s
  else s

def updWrite (p : Path) (o : Nat) (d : Word32) (s : State) : State :=
  if o = 0x4 then iWrite p 0x120004 d.toNat (fun s => onBit d 1 abortSlot (onBit d 0 (activate p) s)) s else s

/-- The program store and the context table: a program only while no context that is not free names it, a record only while
its context is free (R202). -/
def mstStoreWrite (a : Nat) (d : Word32) (s : State) : State :=
  let ok := if a < 0x680000 then (liveCtxs s).all (fun c => (recOf s c).prog != some ((a - 0x600000) / 512))
    else decide (a < 0x6A0000) && (ctxAt s ((a - 0x680000) / 256)).st == 0
  if ok then modSlu (fun u => { u with store := tset 0 u.store (a / 4) d }) s else s

def storeWrite (p : Path) (a : Nat) (d : Word32) (s : State) : State :=
  if !mayWrite s p .o then s
  else if 0x600000 ≤ a ∧ a < 0x700000 then mstStoreWrite a d s
  else reelWrite a d s

/-- The blocks that safe state and the dark state leave readable: ID, BOOT, THM, FLT and TEL (R378). Log entry 87 (DEDUCED). -/
def safeBlock (a : Nat) : Bool := [0, 2, 14, 16, 19].contains (a / 65536)

/-- Control space answers a read of an address (R378, R415, R447). Log entry 87 (DEDUCED). -/
def readable (s : State) (a : Nat) : Bool :=
  if s.flt.safe then safeBlock a else decide (5 ≤ s.boot.phase) && (!s.boot.dark || safeBlock a)

/-- The writes that safe state and the dark state take (R378, R415). Log entry 87 (DEDUCED). -/
def writable (s : State) (a : Nat) : Bool :=
  let safeOnes := a == 0x100004 || a == 0x100028
  if s.flt.safe then safeOnes
  else decide (5 ≤ s.boot.phase) && (!s.boot.dark || safeOnes || a == 0x020004)

/-- GRP_Q_BASE and GRP_Q_JOB take no write while their queue is not disabled (R179). -/
def queueBound (s : State) (sl : Slate) (a : Nat) : Bool := match sl with
  | .grpQueue q => (queueOf s q).st != 0 && a % 16 != 8
  | _ => false

/-- A write of a word from a path (R443, R448 to R450). Log entry 7 (DEDUCED). -/
def regWrite (p : Path) (a : Nat) (d : Word32) (s : State) : State :=
  let b := a / 65536
  let o := a % 65536
  if a % 4 ≠ 0 ∨ writable s a = false then s
  else
    match selectorBits a with
    | some bits => if mayWrite s p .o && !selReserved a d then setSel a bits d s else s
    | none =>
    match slateOf a with
    | some (sl, r, bits) => if mayWrite s p r && !queueBound s sl a then stage p sl a (d &&& bits) s else s
    | none =>
    if !(commitsOf s a).isEmpty then commitWrite p a d s
    else if b = 1 then roleWrite p o d s
    else if b = 2 then bootWrite p o d s
    else if b = 3 then tcWrite p o d s
    else if a = 0x040000 then (if mayWrite s p .o then onBit d 1 reelClear (onBit d 0 reelCheck s) else s)
    else if a = 0x050020 then onBit d 1 (fun s => nextOf (execPeakClearAll p s) s) (onBit d 0 (fun s => nextOf (execPeakClearSelected p s) s) s)
    else if a = 0x070004 then iWrite p a d.toNat (modBlk (fun x => { x with dispatch := d &&& 0xFF03 })) s
    else if b = 11 ∧ o < 0xC000 then tsiWrite p (o / 4096) (o % 4096) d s
    else if b = 12 then podWrite p o d s
    else if b = 13 then focWrite p o d s
    else if a = 0x0F0020 then iWrite p a d.toNat (modGaf (fun g => { g with ctrl := d &&& 3 })) s
    else if b = 16 then fltWrite p o d s
    else if a = 0x110020 then iWrite p a d.toNat (onBit d 0 handover) s
    else if b = 18 then updWrite p o d s
    else if a = 0x1F0000 then onBit d 0 (facEnter p s.pins.installEn) s
    else if 0x400000 ≤ a ∧ a < 0x800000 then storeWrite p a d s
    else s

/-- A write to a field that has no row of its own, and to any other register (R448). -/
def execRegisterWrite (p : Path) (addr : Nat) (data : Word32) (s : State) : Out := .next (regWrite p addr data s)

/-- A write of a SLATE_COMMIT register (R453). -/
def execSlateCommit (p : Path) (addr : Nat) (data : Word32) (s : State) : Out :=
  .next (if writable s addr then commitWrite p addr data s else s)

end Sys2Proof.Machine
end

