-- ==== Sys2Proof/Machine/Control.lean ====
section
/-! DEFINITION. Reads of control space, the latches, and the paths that carry accesses (R443 to R451). -/

namespace Sys2Proof.Machine

open Sys2Proof

/-- The reel store with the program store and the context table (R89, R202); reserved ranges are violations. -/
def storeReg (s : State) (a : Nat) : Option Reg :=
  if (slotOfAddr a).isSome ∨ (0x600000 ≤ a ∧ a < 0x6A0000) then regRw (storeWord s a).toNat else none

/-- The register at an address; none where the address is reserved (R450, R463). -/
def regAt (s : State) (a : Nat) : Option Reg :=
  let b := a / 65536
  let o := a % 65536
  if a % 4 ≠ 0 then none
  else if b = 0 then idReg s o
  else if b = 1 then roleReg s o
  else if b = 2 then bootReg s o
  else if b = 3 then tcReg s o
  else if b = 4 then sluReg s o
  else if b = 5 then mrcReg s o
  else if b = 6 then memReg s o
  else if b = 7 then blkReg s o
  else if b = 8 then mpdReg s o
  else if b = 9 then grpReg s o
  else if b = 10 then mstReg s o
  else if b = 11 then (if o < 0xC000 then tsiReg s (o / 4096) (o % 4096) else none)
  else if b = 12 then podReg s o
  else if b = 13 then focReg s o
  else if b = 14 then thmReg s o
  else if b = 15 then gafReg s o
  else if b = 16 then fltReg s o
  else if b = 17 then pairReg s o
  else if b = 18 then updReg s o
  else if b = 19 then telReg s o
  else if b = 31 then facReg s o
  else storeReg s a

/-- The bits of a register whose role a path holds (R449): BUSY of TSI_LANE_TAP is an operator's, beside fields of role I. -/
def heldBits (s : State) (p : Path) (a : Nat) (r : Reg) : Word32 :=
  if holds s p r.right then 0xFFFFFFFF
  else if a / 65536 = 11 ∧ a % 4096 = 0x28 ∧ holds s p .o = true then 0x10000
  else 0

/-- What the read of an RC field clears (R448, R449). -/
def rcClear (a : Nat) (s : State) : State :=
  let st := selOf s 0x06000C 4
  let n := a % 65536 / 4096
  let o := a % 4096
  if a = 0x01001C then modRole (fun r => { r with auditLost := 0 }) s
  else if a = 0x03003C then modTc (fun t => { t with viol := 0 }) s
  else if a = 0x040020 then modSlu (fun u => { u with drainDiscard := 0 }) s
  else if a = 0x040024 then modSlu (fun u => { u with overrunCount := 0 }) s
  else if a = 0x040028 then modSlu (fun u => { u with frameDiscard := 0 }) s
  else if a = 0x050008 then modMrc (fun m => { m with remapCount := 0 }) s
  else if a = 0x05000C then modMrc (fun m => { m with lambdaOutCount := 0 }) s
  else if a = 0x060014 then modMs st (fun x => { x with corr := 0 }) s
  else if a = 0x060018 then modMs st (fun x => { x with uncorr := 0 }) s
  else if a = 0x060020 then modMem (fun m => { m with violations := 0 }) s
  else if a = 0x060024 then modMem (fun m => { m with failures := 0 }) s
  else if a = 0x060028 then modMem (fun m => { m with lateRsp := 0 }) s
  else if a = 0x06002C then modMs st (fun x => { x with combStores := 0 }) s
  else if a = 0x060030 then modMs st (fun x => { x with combAdds := 0 }) s
  else if a = 0x060034 then modMs st (fun x => { x with combPeak := 0 }) s
  else if a = 0x070010 then modBlk (fun b => { b with hits := 0 }) s
  else if a = 0x070014 then modBlk (fun b => { b with touches := 0 }) s
  else if a = 0x070018 then modBlk (fun b => { b with fetched := 0 }) s
  else if a = 0x07001C then modBlk (fun b => { b with full := 0 }) s
  else if a = 0x070020 then modBlk (fun b => { b with dropped := 0 }) s
  else if a = 0x070024 then modBlk (fun b => { b with trackFull := 0 }) s
  else if a = 0x08000C then modMpd (fun m => { m with corr := tset 0 m.corr (selOf s 0x080008 5) 0 }) s
  else if a = 0x080010 then modMpd (fun m => { m with uncorr := tset 0 m.uncorr (selOf s 0x080008 5) 0 }) s
  else if a = 0x08001C then modMpd (fun m => { m with fencedDiscard := 0 }) s
  else if a = 0x090020 then modGrp (fun g => { g with coalesced := 0 }) s
  else if a = 0x0A0014 then modCtx (selOf s 0x0A0004 9) (fun c => { c with late := 0 }) s
  else if a = 0x0A0018 then modMst (fun m => { m with discards := 0 }) s
  else if a = 0x0A001C then modMst (fun m => { m with incompletes := 0 }) s
  else if a / 65536 = 11 then
    if o = 0x2C then (match selLane s n with
      | some (m, l) => modSite n (fun x => { x with laneErr := tset 0 x.laneErr (m * 128 + l) 0 }) s
      | none => s)
    else if o = 0x40 then modCount n (fun c => { c with swaps := 0, narrows := 0, offs := 0 }) s
    else if o = 0x60 then modCount n (fun c => { c with corr := 0 }) s
    else if o = 0x64 then modCount n (fun c => { c with uncorr := 0 }) s
    else if o = 0x68 then modCount n (fun c => { c with naks := 0, replays := 0 }) s
    else if o = 0x6C then modCount n (fun c => { c with malformed := 0 }) s
    else if o = 0x70 then modCount n (fun c => { c with overrun := 0 }) s
    else if o = 0x74 then modCount n (fun c => { c with streamDiscard := 0 }) s
    else if o = 0x78 then modCount n (fun c => { c with peakIn := 0, peakOut := 0 }) s
    else if o = 0x7C then modCount n (fun c => { c with resendSent := 0, resendGot := 0 }) s
    else s
  else if a = 0x0C0014 then modPodLink (selOf s 0x0C0004 6) (fun x => { x with viol := 0 }) s
  else if a = 0x0C001C then modPod (fun p => { p with laneDrops := 0 }) s
  else if a = 0x0C0024 then modPod (fun p => { p with evict := 0 }) s
  else if a = 0x0C0028 then modPod (fun p => { p with dup := 0 }) s
  else if a = 0x0C002C then modPod (fun p => { p with fwdDiscard := 0 }) s
  else if a = 0x0D0030 then modFoc (fun f => { f with wrongLocks := 0 }) s
  else if a = 0x0D0034 then modFoc (fun f => { f with lockLost := 0 }) s
  else if a = 0x0D0038 then modFoc (fun f => { f with failovers := 0 }) s
  else if a / 65536 = 15 ∧ inWin 0x180 12 (a % 65536) then modPow ((a % 65536 - 0x180) / 4) (fun p => { p with viol := 0 }) s
  else if a = 0x100040 then modFlt (fun f => { f with items := 0 }) s
  else if a = 0x110018 then modPair (fun p => { p with hbMiss := 0 }) s
  else if a = 0x130010 then modTel (fun t => { t with missed := 0 }) s
  else s

/-- The latched value of a _HI half on a path (R451). Log entry 87 (DEDUCED). -/
def latched (s : State) (p : Path) (a : Nat) : Option Word32 := (s.csp.latches.find? (fun x => x.1 == p && x.2.1 == a)).map (·.2.2)

/-- A _LO read latches the matching _HI half on its path (R451). Log entry 87 (DEDUCED). -/
def latchHi (p : Path) (a : Nat) (s : State) : State :=
  match regAt s (a + 4) with
  | some h => modCsp (fun c => { c with
      latches := (p, a + 4, BitVec.ofNat 32 h.val) :: c.latches.filter (fun x => !(x.1 == p && x.2.1 == a + 4)) }) s
  | none => s

/-- A read of a word from a path: the value, and what the read does (R443, R448 to R451). -/
def regRead (p : Path) (a : Nat) (s : State) : Word32 × State :=
  match (if readable s a then regAt s a else none) with
  | none => (0, s)
  | some r =>
    let bits := heldBits s p a r
    if bits = 0 ∨ r.acc = .wo then (0, s)
    else
      let v := ((latched s p a).getD (BitVec.ofNat 32 r.val)) &&& bits
      let s := if r.lo then latchHi p a s else s
      (v, if r.acc = .rc then rcClear a s else s)

/-- A run of words in increasing address order. -/
def regReads (p : Path) : Nat → Nat → State → List Word32 × State
  | 0, _, s => ([], s)
  | n + 1, a, s =>
    let r := regRead p a s
    let t := regReads p n (a + 4) r.2
    (r.1 :: t.1, t.2)

def regWrites (p : Path) : List Word32 → Nat → State → State
  | [], _, s => s
  | d :: ds, a, s => regWrites p ds (a + 4) (regWrite p a d s)

/-- Control space answers requests at all: from the end of boot phase 4, and in safe state (R378, R447).
Log entry 88 (DEDUCED). -/
def csAnswers (s : State) : Bool := s.flt.safe || decide (5 ≤ s.boot.phase)

/-! ### Single reads -/

/-- A read of a register with RC fields. -/
def execRcRead (p : Path) (addr : Nat) (s : State) : Out :=
  .next (match regAt s addr with
    | some r => if r.acc = .rc then (let x := regRead p addr s; emit (.control p false [x.1]) x.2) else s
    | none => s)

/-- A read of the _LO half of a 64-bit register. -/
def execLoReadLatch (p : Path) (addr : Nat) (s : State) : Out :=
  .next (match regAt s addr with
    | some r => if r.lo then (let x := regRead p addr s; emit (.control p false [x.1]) x.2) else s
    | none => s)

/-! ### Control messages of a session (R444) -/

def execCsRead (session addr count : Nat) (s : State) : Out :=
  .next (if (sessionOf s session).isSome && csAnswers s && decide (1 ≤ count ∧ count ≤ 256) then
      let x := regReads (.session session) count addr s
      emit (.control (.session session) false x.1) x.2
    else s)

def execCsWrite (session addr : Nat) (data : List Word32) (s : State) : Out :=
  .next (if (sessionOf s session).isSome && csAnswers s && decide (1 ≤ data.length ∧ data.length ≤ 256) then
      let t := regWrites (.session session) data addr s
      if (sessionOf t session).isSome then emit (.control (.session session) true []) t else t
    else s)

/-! ### The sideband (R273, R446, R447) -/

/-- REG_RSP: the tag, the write flag and the data; the base keeps it as its latest to that site. -/
def regRsp (site : Nat) (tag : Byte) (write : Bool) (v : Word32) (s : State) : State :=
  sideband site .regRsp [tag.toNat, b2n write, v.toNat] (modCsp (fun c => { c with lastRsp := tset none c.lastRsp site (some (tag, write, v)) }) s)

/-- A request with the tag of the latest answer is answered from it (R446). -/
def savedRsp (s : State) (site : Nat) (tag : Byte) : Option (Bool × Word32) := match tget none s.csp.lastRsp site with
  | some (t, w, v) => if t = tag then some (w, v) else none
  | none => none

def sbRead (site addr : Nat) (tag : Byte) (s : State) : State :=
  if !sbLive s site then s
  else
    match savedRsp s site tag with
    | some (w, v) => sideband site .regRsp [tag.toNat, b2n w, v.toNat] s
    | none =>
      let x := if csAnswers s then regRead (.sideband site) addr s else (0, s)
      regRsp site tag false x.1 x.2

def sbWrite (site addr : Nat) (tag : Byte) (d : Word32) (s : State) : State :=
  if !sbLive s site then s
  else
    match savedRsp s site tag with
    | some (w, v) => sideband site .regRsp [tag.toNat, b2n w, v.toNat] s
    | none => regRsp site tag true 0 (if csAnswers s then regWrite (.sideband site) addr d s else s)

def execRegRead (site addr : Nat) (tag : Byte) (s : State) : Out := .next (sbRead site addr tag s)
def execRegWrite (site addr : Nat) (tag : Byte) (data : Word32) (s : State) : Out := .next (sbWrite site addr tag data s)

/-! ### MGT slots of a local die (R445) -/

/-- A die's module carries flits. Log entry 1 (DESIGN CHOICE). -/
def siteLinkUp (s : State) (n : Nat) : Bool := !s.flt.safe && siteUp s n && ((siteOf s n).st == 3 || (siteOf s n).st == 4)

/-- The answer of an MGT access leaves its response slot for the module of its request (R108, R268, R445). -/
def mgtAnswer (site module : Nat) (tag : BitVec 12) (d : Word32) (s : State) : State :=
  releaseMgt site (siteDeliver site (some module) (csRspSlot tag d) s)

/-- An access of a die in MGT slots reaches its delivery point, the die's own station (R113, R443, R490): it is made, and
answered. Before the end of boot phase 4 it has no answer (R447). Log entry 13 (DESIGN CHOICE). -/
def mgtRead (site module addr : Nat) (tag : BitVec 12) (s : State) : State :=
  if siteLinkUp s site && csAnswers s then
    let x := regRead (.mgt site) addr s
    mgtAnswer site module tag x.1 x.2
  else releaseMgt site s

def mgtWrite (site module addr : Nat) (tag : BitVec 12) (d : Word32) (s : State) : State :=
  if siteLinkUp s site && csAnswers s then mgtAnswer site module tag 0 (regWrite (.mgt site) addr d s) else releaseMgt site s

/-- An MGT access of a site that stands in its station's receive buffer: its source, its message and the module that it came in
on. -/
def mgtWaiting (site : Nat) (p : Payload → Option Nat) (s : State) : Option (Nat × MrMsg × Nat) :=
  (findRx s (ssOf site) cMGT (fun x => (p x).isSome)).map (fun r => (r.1, r.2, (p r.2.pay).getD 0))

def isMgtRead (site addr : Nat) (tag : BitVec 12) : Payload → Option Nat
  | .mgtRead n k a t => if n = site ∧ a = addr ∧ t = tag then some k else none
  | _ => none

def isMgtWrite (site addr : Nat) (tag : BitVec 12) (d : Word32) : Payload → Option Nat
  | .mgtWrite n k a t v => if n = site ∧ a = addr ∧ t = tag ∧ v = d then some k else none
  | _ => none

/-- MGT_CS_READ and MGT_CS_WRITE: the access that stands in the receive buffer of its station. Log entry 13 (DESIGN CHOICE). -/
def execMgtCsRead (site addr : Nat) (tag : BitVec 12) (s : State) : Out :=
  .next (match mgtWaiting site (isMgtRead site addr tag) s with
    | some (src, m, k) => if s.flt.safe then s else mgtRead site k addr tag (takeRx (ssOf site) cMGT src m s)
    | none => s)
def execMgtCsWrite (site addr : Nat) (tag : BitVec 12) (data : Word32) (s : State) : Out :=
  .next (match mgtWaiting site (isMgtWrite site addr tag data) s with
    | some (src, m, k) => if s.flt.safe then s else mgtWrite site k addr tag data (takeRx (ssOf site) cMGT src m s)
    | none => s)

/-! ### SPDM messages in MGT slots (R445) -/

/-- A fragment joins its message: lines from `line` on. A whole message leaves the buffer; what it says comes as
KEY_EXCHANGE, SPDM_REQUEST, END_SESSION, CS_READ or CS_WRITE. Log entry 88 (DEDUCED). -/
def spdmFrag (site msg line length : Nat) (data : List Line) (s : State) : State :=
  let total := (length + 63) / 64
  if !siteLinkUp s site || !portOpen s || decide (length < 1 ∨ 8192 < length ∨ data.length < 1 ∨ 3 < data.length ∨ total < line + data.length) then s
  else
    let old := (s.csp.frags.find? (fun f => f.site == site && f.msg == msg && f.length == length)).elim [] (·.got)
    let got := (List.range data.length).foldl (fun t i => tset none t (line + i) data[i]?) old
    let rest := s.csp.frags.filter (fun f => !(f.site == site && f.msg == msg))
    modCsp (fun c => { c with
      frags := if (List.range total).all (fun k => (tget none got k).isSome) then rest
        else { site := site, msg := msg, length := length, got := got } :: rest }) s

def execSpdmFrag (site msg line length : Nat) (data : List Line) (s : State) : Out := .next (spdmFrag site msg line length data s)

end Sys2Proof.Machine
end

