-- ==== Sys2Proof/Machine/Issue.lean ====
section
/-! DEFINITION. A unit of the node issues a memory request (R108, R123, R156, R157, R184, R217). -/

namespace Sys2Proof.Machine

open Sys2Proof

/-- A line is one that a descriptor reads (R180). Log entry 36 (DEDUCED). -/
def readsLine (d : CopyDesc) (a : Word64) : Bool :=
  let k := (a - d.src).toNat / 64
  let row := if d.srcStride = 0 then 0 else min (k / d.srcStride) (d.rows - 1)
  decide (k - row * d.srcStride < d.rowLines)

/-- Where a descriptor's ranges overlap, the destination line holds unspecified data (R182): a free line.
Log entry 36 (DEDUCED). -/
def overlapFree (g : Nat) (r : IssueReq) (s : State) : IssueReq × State :=
  let hit := r.op == .store && s.grp.descs.any (fun d => d.grip == g && d.st == .running
    && r.compare == descKey d && readsLine d.d r.addr)
  if hit then
    let (n, t) := nextFree s
    ({ r with data := Config.freeLine n }, t)
  else (r, s)

/-- Issue a request: a site's as presented, its store
with the data slot that follows (R126), a grip's, the engine's and a millstone's when it is the one due next. -/
def execMemRequestIssue (r : IssueReq) (s : State) : Out :=
  .next (if s.flt.safe then s
    else match r.who with
      | .site n m =>
        if !siteUp s n || decide (64 ≤ m) then s
        else if r.op = .store then modMem (fun x => { x with storeWait := x.storeWait ++ [(n, m, { r with data := 0, poison := false })] }) s
        else issueMem { r with poison := false } s
      | .grip g =>
        (match gripNext s g r with
         | some r' =>
           let (r2, t) := overlapFree g r' s
           issueMem r2 (gripIssued g r' t)
         | none => s)
      | .engine =>
        (match (if (freeSlot s 52).isNone then none else engineNext s) with
         | some (j, x) =>
           let a := BitVec.ofNat 64 (x.node.toNat * 2 ^ 48 + x.block * 65536 + 64 * x.issued)
           let s := modBlk (fun b => { b with replicas := tset none b.replicas j (some { x with issued := x.issued + 1 }) }) s
           issueRemote { who := .engine, op := .load, addr := a, operand := BitVec.ofNat 64 x.issued, compare := fetchKey j x }
             x.node (some x.region) s
         | none => s)
      | .millstone w =>
        (match (if millFenced s w then none else mstNext s w r) with
         | some r' => issueMem r' (mstIssued r' s)
         | none => s)
      | .remote _ _ => s)

end Sys2Proof.Machine
end

