-- ==== Sys2Proof/Machine/TsiLink.lean ====
section
/-! DEFINITION. Flits, credits, retry and the slots of a site interface (R254 to R270), with the commands that a slot of a
die carries: SIGNAL, stream lines and stream credits. -/

namespace Sys2Proof.Machine

open Sys2Proof

/-- Flits cross a site interface: the site is in service, in no pause, and the base is not in safe state.
Log entry 1 (DESIGN CHOICE). -/
def flitsCross (s : State) (n : Nat) : Bool := siteLinkUp s n && (siteOf s n).st == 3 && !pausedNow s (ssOf n)

/-- In the first half microsecond of a pause the retry buffers drain and are acknowledged (R66). -/
def flitsDrain (s : State) (n : Nat) : Bool :=
  siteLinkUp s n && (siteOf s n).st == 4 && decide (s.now < (tget {} s.tc.pauses (ssOf n)).start + 500)

/-- A malformed slot (R260). Log entry 46 (DEDUCED). -/
def badSlot (n : Nat) (s : State) : State := modCount n (fun c => { c with malformed := sat32 c.malformed 1 }) s

/-! ### Signals (R258) -/

/-- A signal of a die: a message to each named site of its job, or to another member node of stage 1 on that node's flow.
Log entries 45 (DEDUCED), 49 (DEDUCED). -/
def sendSignal (n : Nat) (p : SignalPos) (fence : Bool) (s : State) : State :=
  match jobOfSite s n with
  | none => s
  | some j =>
    let own := s.ident.node
    if p.node = own then
      let dsts := (List.range 12).filter (fun d => bit p.sites d && siteUp s d && (jobSites s j).contains d)
      sendMulti (ssOf n) (dsts.map ssOf) cSIG { pay := .signal p, source := n, job := j, fence := fence, node := own } s
    else if nodeKind s p.node = 1 ∧ jobMember s j p.node.toNat = true then
      match flowXs s p.node j cSIG with
      | some x => sendMsg (ssOf n) x cSIG { pay := .signal p, source := n, job := j, fence := fence, node := p.node } s
      | none => s
    else s

/-- A signal needs SIG_MC to name several sites or another node (R275). Log entry 49 (DEDUCED). -/
def signalAgreed (s : State) (n : Nat) (p : SignalPos) : Bool :=
  bit (siteFeatures s n) 9 || (p.node == s.ident.node && decide (popcount p.sites.toNat 12 ≤ 1))

def execSignal (site : Nat) (pos : SignalPos) (s : State) : Out :=
  .next (if !flitsCross s site then s
    else if signalAgreed s site pos then sendSignal site pos false s else badSlot site s)

/-! ### Streams (R259) -/

/-- A line of a push stream: against a credit, into the ring of its feed; else discarded and counted.
Log entries 45 (DEDUCED), 49 (DEDUCED). -/
def pushLine (n stream : Nat) (data : Line) (s : State) : State :=
  let drop (s : State) : State := modCount n (fun c => { c with streamDiscard := sat32 c.streamDiscard 1 }) s
  let st := ssOf n
  let have_ := tget 0 (siteOf s n).streamIn stream
  match (pushFeeds s st).find? (fun f => f.1 == stream) with
  | none => drop s
  | some f =>
    if have_ = 0 then drop s
    else
      let s := modSite n (fun x => { x with streamIn := tset 0 x.streamIn stream (have_ - 1) }) s
      match ringPush (ringKey st f.2.1 f.2.2) f.2.2.ringLines (data, false) s with
      | some t => t
      | none => drop s

/-- A stream line needs PUSH (R275). -/
def dieLine (n stream : Nat) (data : Line) (s : State) : State :=
  if bit (siteFeatures s n) 5 then pushLine n stream data s else badSlot n s

/-- The base ignores POISON on a slot from a die (R256). -/
def execStreamLine (site stream : Nat) (data : Line) (poison : Bool) (s : State) : Out :=
  .next (if flitsCross s site && decide (stream < 4096) then dieLine site stream data s else s)

/-- Credits of a site stream, REVOKE before LINES; they need LAND (R275). Log entry 49 (DEDUCED). -/
def dieCredit (n stream lines : Nat) (revoke : Bool) (s : State) : State :=
  if bit (siteFeatures s n) 6 then
    modSite n (fun x => { x with streamOut := tset 0 x.streamOut stream ((if revoke then 0 else tget 0 x.streamOut stream) + lines) }) s
  else badSlot n s

def execStreamCredit (site stream lines : Nat) (revoke : Bool) (s : State) : Out :=
  .next (if flitsCross s site && decide (stream < 4096 ∧ lines < 2 ^ 32) then dieCredit site stream lines revoke s else s)

/-- The slots of a stream flit. -/
def streamSlot (n : Nat) (x : Slot) (s : State) : State :=
  if x.cls ≠ 0 ∨ x.last = true ∨ x.reserved = true ∨ (x.op = 1 ∧ x.tag ≠ 0) then badSlot n s
  else if x.op = 0 then dieLine n x.tag.toNat x.data s
  else if x.op = 1 then
    let vs := (List.range 4).filter (fun i => pfld x i 15 1 = 1)
    if vs.all (fun i => decide (pfld x i 12 3 = 0 ∧ pfld x i 49 79 = 0)) && bit (siteFeatures s n) 6 then
      vs.foldl (fun s i => dieCredit n (pfld x i 0 12) (pfld x i 16 32) (pfld x i 48 1 == 1) s) s
    else badSlot n s
  else badSlot n s

/-! ### Message slots (R124 to R126, R205, R256 to R260, R304, R445) -/

/-- A REQ slot of commands keeps its form (R125, R126); an atomic needs its bit of ATOMICS (R275). Log entry 46 (DEDUCED). -/
def reqForm (op : MemOp) (x : Slot) : Bool :=
  match op with
  | .load => (List.range 4).all (fun i => pfld x i 0 1 = 0 || pfld x i 64 64 = 0)
  | .store => pfld x 3 0 1 = 0
  | .cas => [0, 2].all (fun i => pfld x i 0 1 = 0 || pfld x (i + 1) 64 64 = 0)
  | _ => true

def reqAgreed (s : State) (n : Nat) (op : MemOp) : Bool := !isAtomic op || bit (agreedWord s n 4) (opCode op - 4)

/-- A malformed REQ slot: counted, and every command with V set answered as a violation, in the fourth position of a STORE too
(R141, R260). A CAS takes two positions. Log entry 46 (DEDUCED). -/
def badReq (n k : Nat) (x : Slot) (s : State) : State :=
  let op := (opOfCode x.op.toNat).getD .swap
  (reqsAt (.site n k) op x (if op = .cas then [0, 2] else [0, 1, 2, 3])).foldl (fun s r => violate r.2 s) (badSlot n s)

/-- The agreed classes that the base receives (R275). -/
def clsAgreed (s : State) (n c : Nat) : Bool := bit (agreedWord s n 3) (8 + c)

/-- The fields of a control-space position (R445). Log entry 46 (DEDUCED). -/
def csForm (x : Slot) (i : Nat) : Bool := decide (pfld x i 24 39 = 0 ∧ pfld x i 64 32 = 0 ∧ (x.op = 0 → pfld x i 96 32 = 0))

/-- A forwarded message of a die: its header or a line joins it; a whole message takes its route (R304, R305).
Log entry 61 (DEDUCED). -/
def dieFwd (n : Nat) (x : Slot) (s : State) : State :=
  let key := if x.op = 0 then pfld x 0 64 4 else x.tag.toNat / 256
  let old : Option Slot × Tab (Option Line) := tget (none, []) (siteOf s n).fwd key
  let cur : Option Slot × Tab (Option Line) :=
    if x.op = 0 then (some x, if old.1.isSome then [] else old.2) else (old.1, tset none old.2 (x.tag.toNat % 256) (some x.data))
  let keep (v : Option Slot × Tab (Option Line)) (s : State) : State := modSite n (fun y => { y with fwd := tset (none, []) y.fwd key v }) s
  match cur.1 with
  | none => keep cur s
  | some h =>
    let lines := (List.range (fwdLines h)).filterMap (fun i => tget none cur.2 i)
    if lines.length = fwdLines h then
      let m := { slotFwd h lines with srcNode := s.ident.node, hops := 0, down := false }
      match jobOfSite s n with
      | some j => fwdRoute (ssOf n) j h.fence m (keep (none, []) s)
      | none => fwdDiscard (keep (none, []) s)
    else keep cur s

/-- A slot that pairs with no other. -/
def loneSlot (n k : Nat) (x : Slot) (s : State) : State :=
  let vs := (List.range 4).filter (mgtV x)
  if !clsAgreed s n x.cls.toNat || x.reserved || (x.last && !(x.cls == 4 && x.op == 1)) then
    (if x.cls = 2 ∧ x.op ≠ 2 then badReq n k x s else badSlot n s)
  else if x.cls = 0 ∧ x.op.toNat < 2 then
    if vs.all (csForm x) then
      vs.foldl (fun s i =>
        let tag := x.tag + BitVec.ofNat 12 i
        let pay := if x.op = 0 then Payload.mgtRead n k (pfld x i 0 24) tag
          else Payload.mgtWrite n k (pfld x i 0 24) tag (BitVec.ofNat 32 (pfld x i 96 32))
        sendMgt n { pay := pay, fence := x.fence, job := (jobOfSite s n).getD 0 } s) s
    else badSlot n s
  else if x.cls = 1 ∧ x.op = 0 then
    if signalOk x && (slotSignals x).all (fun p => signalAgreed s n p.1) then
      (slotSignals x).foldl (fun s p => sendSignal n p.1 x.fence s) s
    else badSlot n s
  else if x.cls = 2 then
    match opOfCode x.op.toNat with
    | some op =>
      if op ≠ .store ∧ reqForm op x = true ∧ reqAgreed s n op = true then
        (slotReqs (.site n k) op x).foldl (fun s r => issueMem r.2 s) s
      else badReq n k x s
    | none => if x.op = 2 then badSlot n s else badReq n k x s
  else if x.cls = 4 ∧ x.op.toNat < 2 ∧ bit (siteFeatures s n) 8 = true then
    if x.op = 0 ∧ (fwdHdrOk x = false ∨ pfld x 0 40 8 ≠ 0) then badSlot n s else dieFwd n x s
  else badSlot n s

/-- Lines that a slot of commands takes from the slots after it: of a STORE, a COL_HDR, an SPDM_FRAG (R126, R205, R445). -/
def takesLines (x : Slot) : Nat :=
  if x.cls = 2 ∧ x.op = 1 then (slotReqs .engine .store x).length
  else if x.cls = 5 ∧ x.op = 0 then pfld x 0 34 2
  else if x.cls = 0 ∧ x.op = 3 then pfld x 0 48 2
  else 0

/-- The slots that follow are its lines. -/
def linesFit (x : Slot) (ds : List Slot) : Bool :=
  ds.length == takesLines x && ds.all (fun d => !d.last && !d.reserved) &&
    (if x.cls = 2 then
      (ds.map (fun d => (d.cls.toNat, d.op.toNat, d.tag))) == ((slotReqs .engine .store x).map (fun r => (2, 2, r.2.tag)))
    else if x.cls = 5 then ds.all (fun d => d.cls == 5 && d.op == 1)
    else ds.all (fun d => d.cls == 0 && d.op == 4))

/-- A slot of commands may stand with its lines: its class and form are agreed. A die sends exponents and data (R205, R209). -/
def pairForm (s : State) (n : Nat) (x : Slot) : Bool :=
  clsAgreed s n x.cls.toNat && !x.last && !x.reserved &&
    (if x.cls = 2 then reqForm .store x
    else if x.cls = 5 then colHdrOk x && decide (pfld x 0 32 2 ≤ 1) && bit (siteFeatures s n) 7
    else mgtV x 0 && decide (1 ≤ pfld x 0 32 16 ∧ pfld x 0 32 16 ≤ 8192 ∧ pfld x 0 50 13 = 0 ∧ x.data.toNat < 2 ^ 64))

/-- A die's collective data goes to the millstone of its context (R205). Log entry 46 (DEDUCED). -/
def dieCol (n : Nat) (h : ColHdr) (lines : List (Line × Bool)) (fence : Bool) (s : State) : State :=
  match ctxMillstone s h.context with
  | none => mstDiscard lines.length s
  | some w =>
    sendMsg (ssOf n) (wsOf w) cCOL
      { pay := .col s.ident.node h lines, slots := 1 + lines.length, bytes := 16 + 64 * lines.length
        fence := fence, job := (jobOfSite s n).getD 0, node := s.ident.node } s

/-- A slot of commands with its lines. Log entry 46 (DEDUCED). -/
def pairedSlot (n k : Nat) (x : Slot) (ds : List Slot) (s : State) : State :=
  if x.cls = 2 then
    ((slotReqs (.site n k) .store x).zip ds).foldl (fun s p => issueMem { p.1.2 with data := p.2.data } s) s
  else if x.cls = 5 then dieCol n (slotColHdr x) (ds.map (fun d => (d.data, false))) x.fence s
  else spdmFrag n (pfld x 0 0 16) (pfld x 0 16 16) (pfld x 0 32 16) (ds.map (·.data)) s

/-- The slots of a data flit, in slot order (R257). Log entry 45 (DEDUCED). -/
def dieSlots (n k : Nat) : Nat → List Slot → State → State
  | 0, _, s => s
  | _, [], s => s
  | fuel + 1, x :: t, s =>
    if (x.cls = 2 ∧ x.op = 1) ∨ (x.cls = 5 ∧ x.op = 0) ∨ (x.cls = 0 ∧ x.op = 3) then
      let ds := t.take (takesLines x)
      if pairForm s n x && linesFit x ds then dieSlots n k fuel (t.drop ds.length) (pairedSlot n k x ds s)
      else dieSlots n k fuel t (if x.cls = 2 then badReq n k x s else badSlot n s)
    else dieSlots n k fuel t (loneSlot n k x s)

/-! ### Credits and retry (R261 to R266) -/

/-- A slot of a class against its credit; without one the slot is discarded and SITE_PROTOCOL raised (R263).
Log entry 43 (DEDUCED). -/
def takeSiteCredit (n k : Nat) (x : Slot) (s : State) : Bool × State :=
  let c := x.cls.toNat
  let used := tget 0 (linkOf s n k).dieUsed c
  if baseGrant c = 0 then (true, s)
  else if used < baseGrant c then (true, modLink n k (fun l => { l with dieUsed := tset 0 l.dieUsed c (used + 1) }) s)
  else
    (false, raiseRated .siteProtocol n 1000000 1 n 0 (modCount n (fun z => { z with overrun := sat32 z.overrun 1 }) s))

def takeSiteCredits (n k : Nat) : List Slot → State → List Slot × State
  | [], s => ([], s)
  | x :: t, s =>
    let a := takeSiteCredit n k x s
    let b := takeSiteCredits n k t a.2
    (if a.1 then x :: b.1 else b.1, b.2)

/-- An accepted flit takes its place in the inbound hopper of its module (R67). -/
def inboundPut (n k : Nat) (f : Flit) (s : State) : State :=
  let s := modLink n k (fun l => { l with inbound := l.inbound ++ [f] }) s
  modCount n (fun c => { c with peakIn := max c.peakIn (min 96 (linkOf s n k).inbound.length) }) s

/-- A flit leaves the inbound hopper: its slots go to their class queues and their credits are owed again (R111, R264). -/
def handOn (n k : Nat) (f : Flit) (s : State) : State :=
  let xs := f.slots.filterMap id
  let s := modLink n k (fun l => { l with
    inbound := l.inbound.erase f
    owe := if f.type = 3 then l.owe
      else xs.foldl (fun t x => if baseGrant x.cls.toNat = 0 then t else tupd 0 t x.cls.toNat (· + 1)) l.owe }) s
  if f.type = 3 then xs.foldl (fun s x => streamSlot n x s) s
  else dieSlots n (if f.rerouted then f.origin.toNat % 32 else k) 4 xs s

/-- The inbound hoppers of a site hand on what they hold, as fast as flits arrive (R111); in a pause it waits in them (R65). -/
def handModule (n k : Nat) (s : State) : State := (linkOf s n k).inbound.foldl (fun s f => handOn n k f s) s
def handAll (n : Nat) (s : State) : State := (List.range 32).foldl (fun s k => handModule n k s) s

/-- The next flit asks for replay: at the first discard since the last flit accepted (R265). Log entry 47 (DEDUCED). -/
def askReplay (n k : Nat) (s : State) : State :=
  modLink n k (fun l => if l.nakAt.isSome then l else { l with nak := true, nakAt := some s.now }) s

/-- Held flits that an ACK covers (R266): those up to the last one whose SEQ[7:0] equals it. -/
def ackCount (held : List Flit) (ack : BitVec 8) : Nat :=
  match held.findIdx? (fun f => f.seq.setWidth 8 == ack) with
  | some i => i + 1
  | none => 0

/-- ACK and NAK of a flit that decodes (R265, R266): what is covered leaves the buffer; on NAK the rest goes again, and eight
NAKs with nothing newly acknowledged turn the B2D module off. -/
def takeAck (n k : Nat) (ack : BitVec 8) (nak : Bool) (s : State) : State :=
  let l := linkOf s n k
  let c := ackCount l.held ack
  let l : SiteLink := { l with held := l.held.drop c, heldNo := l.heldNo.drop c, naks := if c = 0 then l.naks else 0 }
  if !nak then modLink n k (fun _ => l) s
  else
    let l : SiteLink := { l with naks := l.naks + 1 }
    if 8 ≤ l.naks ∧ modUp s n (32 + k) = true then moduleOff n (32 + k) (modLink n k (fun _ => l) s)
    else if l.held.isEmpty || !modTakes s n (32 + k) then modLink n k (fun _ => l) s
    else modCount n (fun z => { z with replays := min 65535 (z.replays + 1) }) (resendHeld n k (modLink n k (fun _ => l) s))

/-- The lane that carries bit b of a logical byte (R254): a spare for the lane it replaces. Log entry 48 (DEDUCED). -/
def laneOfBit (x : SiteMod) (byte b : Nat) : Nat :=
  let lane := if x.st = 2 then 32 * x.half + 8 * (byte % 4) + b else 8 * (byte % 8) + b
  match x.spares.findIdx? (· == lane) with
  | some i => 64 + i
  | none => lane

/-- Corrected symbols are attributed to their lanes, with their ticks (R247, R254). Log entries 14 (DESIGN CHOICE),
48 (DEDUCED). -/
def laneErrors (n k : Nat) (syms : List (Nat × Byte)) (s : State) : State :=
  let x := modOf s n k
  let lanes := (syms.map (fun y => ((List.range 8).filter (fun b => bit y.2 b)).map (laneOfBit x y.1))).flatten
  modSite n (fun y => { y with
    laneErr := lanes.foldl (fun t l => tupd 0 t (k * 128 + l) (sat32 · 1)) y.laneErr
    laneTimes := lanes.foldl (fun t l => tupd [] t (k * 128 + l) (fun ts =>
      (s.now :: ts.filter (fun u => decide (s.now < u + 1000000))).take 257)) y.laneTimes }) s

/-- TSI_FLIT_RECEIVE: a flit that the die sent on D2B module k, with the error values that came to its bytes. The decoder corrects
what it can, and each corrected symbol is attributed, also where another codeword does not correct (R253, R254, R260, R264 to
R266, R270). Log entries 45 (DEDUCED), 48 (DEDUCED). -/
def siteFlit (n k : Nat) (f0 : Flit) (errs : List (Nat × Byte)) (s : State) : State :=
  let syms := flitCorrected errs
  let f := flitDecoded f0 errs
  if !(flitsCross s n || flitsDrain s n) || decide (32 ≤ k) || !modUp s n k then s
  else if flitUncorrectable errs || !(f.type == 0 || f.type == 1 || f.type == 3) then
    askReplay n k (modCount n (fun c => { c with uncorr := sat32 c.uncorr 1 }) (laneErrors n k syms s))
  else
    let s := takeAck n k f.ack f.nak (laneErrors n k syms s)
    if f.type = 0 then s
    else if f.seq.toNat ≠ (linkOf s n k).expect then askReplay n k s
    else
      let s := modLink n k (fun l => { l with
        expect := (l.expect + 1) % 4096
        nakAt := none
        nak := false
        used := (List.range 7).foldl (fun t c => tupd 0 t c (· - f.cred.getD c 0)) l.used }) s
      let s := modCount n (fun c => { c with corr := if syms.isEmpty then c.corr else sat32 c.corr 1 }) s
      let r := if f.type = 3 then (f.slots, s)
        else (let a := takeSiteCredits n k (f.slots.filterMap id) s
              (a.1.map some, a.2))
      let s := inboundPut n k { f with slots := r.1 } r.2
      if flitsCross s n then handModule n k s else s

def execTsiFlitReceive (site module : Nat) (flit : Flit) (errs : List (Nat × Byte)) (s : State) : Out :=
  .next (siteFlit site module flit errs s)

/-- Ticks of 128 flit intervals on a module (R236, R265). Log entry 47 (DEDUCED). -/
def nakTicks (s : State) (n k : Nat) : Nat := 576 * 2 ^ (siteOf s n).rate * (if (modOf s n k).st = 2 then 2 else 1)

/-- The tick from which a NAK is due again has come. Log entry 47 (DEDUCED). -/
def nakDue (s : State) (at_ : Option Tick) (gap : Nat) : Bool :=
  match at_ with
  | some t => decide (t + gap ≤ s.now)
  | none => false

/-- NAK_TIMEOUT: the expected flit has not come within 128 flit intervals (R104, R265, R286). -/
def execNakTimeout (port : RetryPort) (s : State) : Out :=
  .next (if s.flt.safe then s
    else match port with
      | .site n k =>
        if nakDue s (linkOf s n k).nakAt (nakTicks s n k) then modLink n k (fun l => { l with nak := true, nakAt := some s.now }) s else s
      | .lane l w =>
        if nakDue s (podLane s l w).nakAt 2634 then modPodLane l w (fun x => { x with nak := true, nakAt := some s.now }) s else s
      | .lambda src dst l =>
        let x := lamOf s src l
        if decide (src < 36) && carries s src dst l && nakDue s x.nakAt 2634 then
          modMrc (fun m => { m with lambdas := tset {} m.lambdas (src * 96 + l) { x with nak := true, nakAt := some s.now } }) s
        else s)

/-! ### The outbound hopper (R111, R264, R266, R268 to R270) -/

def isSig (e : HopEntry) : Bool := !e.stream && e.slots.any (fun x => x.cls == 1 && !x.fence)

/-- The die's credits for an entry are held. Log entry 43 (DEDUCED). -/
def hopCredit (s : State) (n k : Nat) (e : HopEntry) : Bool :=
  e.stream || e.slots.all (fun x => decide (tget 0 (linkOf s n k).used x.cls.toNat < dieGrant s n x.cls.toNat))

/-- A fenced slot waits until every flit with an earlier slot has been acknowledged (R269). Log entry 50 (DEDUCED). -/
def hopFence (s : State) (n : Nat) (e : HopEntry) : Bool :=
  !(e.slots.any (·.fence)) ||
    (List.range 32).all (fun k => (linkOf s n k).heldNo.all (fun m => decide (e.no ≤ m)) &&
      (linkOf s n k).hopper.all (fun h => decide (e.no ≤ h.no)))

/-- The entry that leaves next: the first with a SIG slot that is not fenced, else the oldest; it waits for its credit and its
fence, and nothing else goes ahead of it (R111, R270). Log entry 43 (DEDUCED). -/
def hopNext (s : State) (n k : Nat) : Option HopEntry :=
  let q := (linkOf s n k).hopper
  let may (e : HopEntry) : Bool := hopCredit s n k e && hopFence s n e
  (q.find? (fun e => isSig e && may e)).orElse fun _ => q.head?.filter may

/-- Credits that the next sequenced flit returns (R255). -/
def credOut (l : SiteLink) : List Nat := (List.range 7).map (fun c => min 15 (tget 0 l.owe c))

/-- Send a sequenced flit: it takes the next SEQ and its place in the replay buffer. Log entry 43 (DEDUCED). -/
def siteSend (n k : Nat) (type : BitVec 4) (origin : Option Nat) (slots : List Slot) (no : Nat) (s : State) : State :=
  let l := linkOf s n k
  let cr := credOut l
  let f : Flit := { type := type, seq := BitVec.ofNat 12 l.nextSeq, rerouted := origin.isSome, origin := BitVec.ofNat 6 (origin.getD 0)
                    cred := cr, slots := (slots.map some ++ List.replicate 4 none).take 4 }
  let s := emit (.siteFlit n (32 + k) (stamp l f)) s
  let s := modLink n k (fun l => { l with
    nextSeq := (l.nextSeq + 1) % 4096
    held := l.held ++ [f]
    heldNo := l.heldNo ++ [no]
    used := if type = 3 then l.used else slots.foldl (fun t x => tupd 0 t x.cls.toNat (· + 1)) l.used
    dieUsed := (List.range 7).foldl (fun t c => tupd 0 t c (· - cr.getD c 0)) l.dieUsed
    owe := (List.range 7).foldl (fun t c => tupd 0 t c (· - cr.getD c 0)) l.owe
    nak := false }) s
  if l.nak then modCount n (fun z => { z with naks := min 65535 (z.naks + 1) }) s else s

/-- What waits at a site's station for a place in a hopper takes it. -/
def drainSs (n : Nat) (s : State) : State := drainXs (ssOf n) cFWD (drainXs (ssOf n) cSIG s)

/-- HOPPER_RELEASE: B2D module 32 + k sends its next flit; one that only returns credits, or an idle one, where no entry may
leave, the replay buffer is full, or a pause has begun. A module being narrowed sends nothing (R248). -/
def hopperRelease (n m : Nat) (s : State) : State :=
  let k := m - 32
  if !(flitsCross s n || flitsDrain s n) || decide (m < 32 ∨ 64 ≤ m) || !modTakes s n m then s
  else
    let l := linkOf s n k
    let idle (s : State) : State :=
      let s := emit (.siteFlit n m (stamp l { type := 0 })) s
      let s := modLink n k (fun l => { l with nak := false }) s
      if l.nak then modCount n (fun z => { z with naks := min 65535 (z.naks + 1) }) s else s
    if 64 ≤ l.held.length ∨ flitsCross s n = false then idle s
    else
      match hopNext s n k with
      | some e =>
        let s := modLink n k (fun l => { l with hopper := l.hopper.erase e }) s
        drainSs n (fillHoppers n (siteSend n k (if e.stream then 3 else 1) e.origin e.slots e.no s))
      | none => if (credOut l).any (· ≠ 0) then siteSend n k 1 none [] (siteOf s n).nextNo s else idle s

def execHopperRelease (site module : Nat) (s : State) : Out := .next (hopperRelease site module s)

/-! ### The end of a pause (R63, R66) -/

/-- Lanes that failed in a pause and have no spare are handled now (R250). -/
def laneQueues (n : Nat) (s : State) : State := (List.range 64).foldl (fun s m => laneQueue n m s) s

/-- The rate change has completed (R63). -/
def pauseDone (st : Nat) (s : State) : State :=
  let p := tget {} s.tc.pauses st
  if s.flt.safe || p.st != .running || decide (p.start + 6000 < s.now) then s
  else
    let s := showPause st 0 (modTc (fun t => { t with pauses := tset {} t.pauses st {} }) s)
    match kindOf st with
    | (.ss, n) => laneQueues n (capUpdate (linksFresh n (handAll n (modSite n (fun x => { x with st := 3, rate := p.rate }) s))))
    | (_, m) => modMs m (fun x => { x with st := 1, rate := p.rate, fallback := x.fallback && decide (x.rate ≤ p.rate) }) s

def execPauseComplete (station : Nat) (s : State) : Out := .next (pauseDone station s)

/-- 6 µs have passed (R66): a site returns to its previous rate and its modules have 6 µs more to be in flit mode (R243); a
memory station retrains at 4.0 Gb/s (R139). Log entry 4 (DESIGN CHOICE). -/
def pauseTimeout (st : Nat) (s : State) : State :=
  let p := tget {} s.tc.pauses st
  if s.flt.safe || p.st != .running || decide (s.now < p.start + 6000) then s
  else
    match kindOf st with
    | (.ss, n) =>
      let s := showPause st 0 (modTc (fun t => { t with pauses := tset {} t.pauses st {} }) s)
      laneQueues n (linksFresh n (handAll n (modSite n (fun x => { x with st := 3, rate := x.oldRate, fallbackAt := some s.now }) s)))
    | (_, m) =>
      let s := modTc (fun t => { t with pauses := tset {} t.pauses st { p with st := .draining } }) s
      modMs m (fun x => { x with st := 0, rate := 2 }) s

def execPauseTimeout (station : Nat) (s : State) : Out := .next (pauseTimeout station s)

end Sys2Proof.Machine
end

