-- ==== Sys2Proof/Machine/PodFlit.lean ====
section
/-! DEFINITION. The lanes of the pod links: a flit received, with its runs and slots, and a flit sent (R286 to R289, R293,
R296 to R301, R312, R313). -/

namespace Sys2Proof.Machine

open Sys2Proof

/-! ### A slot of a flow (R298, R301, R305, R312) -/

/-- Answer a request of a remote node from its external station, without its home (R141, R142). -/
def answerRemote (x : Nat) (node : Word16) (job : Nat) (op : MemOp) (tag : BitVec 12) (status : Nat) (s : State) : State :=
  let bad := status ≠ 0
  let slot : Slot := if op = .load then
      { cls := 3, op := 0, tag := tag, data := if bad then errorLine else 0, poison := bad }
    else ackSlot tag (if bad then BitVec.allOnes 64 else 0) status
  podSend (xsOf x) node job cRSP [slot] s

/-- A request of a remote node goes to its home; without one, or on a fenced pair, it is answered here. -/
def homeReq (x ctx : Nat) (node : Word16) (job : Nat) (r0 : IssueReq) (seqs : List Word32) (s : State) : State :=
  let r := { r0 with job := job }
  let off := addrOff r.addr
  let done (s : State) : State := flowDelivered ctx seqs s
  let viol (s : State) : State :=
    done (answerRemote x node job r.op r.tag 0 (modMem (fun m => { m with violations := sat32 m.violations 1 }) s))
  if misaligned r then viol s
  else
    match homeStation s false off with
    | none => viol s
    | some h =>
      if pairFenced s (xsOf x) h then done (answerRemote x node job r.op r.tag 2 s)
      else
        let q : MemReq := { req := r, buf := xsOf x, slot := r.tag.toNat, gen := 0, node := node }
        sendMsg (xsOf x) h cREQ { pay := .req q, slots := if r.op = .store then 2 else 1, bytes := if r.op = .store then 80 else 16
                                  fence := r.fence, job := job, node := node, flow := some (ctx, seqs) } s

/-- The flow tag of an answer (R301, R396): in the REQ flow of its node, or of a node whose set it has claimed. -/
def tagOf (s : State) (node : Word16) (job : Nat) (tag : Nat) : Option (TxFlow × FlowTag) :=
  let look (n : Word16) : Option (TxFlow × FlowTag) :=
    match txFlow s n job 2 with
    | none => none
    | some f => (tget none f.tags tag).map (fun t => (f, t))
  (look node).orElse fun _ =>
    s.pair.claims.findSome? (fun p => match p.2 with
      | some e => if e.msg.newNode = node then look e.msg.claimed else none
      | none => none)

/-- An answer of a remote node meets its tag, which is free again, and goes to the station that waits for it.
Log entry 56 (DEDUCED). -/
def rspIn (x ctx : Nat) (node : Word16) (job tag : Nat) (load : Bool) (a : MemRsp) (seqs : List Word32) (s : State) : State :=
  match tagOf s node job tag with
  | none => flowDelivered ctx seqs (modMem (fun m => { m with lateRsp := sat32 m.lateRsp 1 }) s)
  | some (f, t) =>
    let s := modTx f.node f.job f.cls (fun y => { y with tags := tset none y.tags tag none }) s
    let a := { a with buf := t.buf, slot := t.slot, gen := t.gen }
    let dst := bufStation t.buf
    if pairFenced s (xsOf x) dst then flowDelivered ctx seqs s
    else sendMsg (xsOf x) dst cRSP { pay := if load then .loadData a else .ack a, slots := 1, bytes := if load then 64 else 16
                                     job := job, node := node, flow := some (ctx, seqs) } s

/-- A signal of a remote node goes to the named sites of its job (R258). Log entry 55 (DEDUCED). -/
def signalIn (x ctx : Nat) (node : Word16) (job : Nat) (p : SignalPos) (src : Nat) (fence : Bool) (seqs : List Word32) (s : State) : State :=
  let dsts := (List.range 12).filter (fun d => bit p.sites d && siteUp s d && (jobSites s job).contains d && jobRunning s job
    && !pairFenced s (xsOf x) (ssOf d))
  if dsts.isEmpty then flowDelivered ctx seqs s
  else sendMulti (xsOf x) (dsts.map ssOf) cSIG
    { pay := .signal { p with node := node }, source := src, job := job, fence := fence, node := node, flow := some (ctx, seqs) }
    (flowParts ctx seqs dsts.length s)

/-- Collective data of a remote node goes to the millstone of its context (R205). -/
def colIn (x ctx : Nat) (node : Word16) (job : Nat) (h : ColHdr) (lines : List (Line × Bool)) (seqs : List Word32) (s : State) : State :=
  match ctxMillstone s h.context with
  | none => flowDelivered ctx seqs (mstDiscard lines.length s)
  | some w =>
    if pairFenced s (xsOf x) (wsOf w) then flowDelivered ctx seqs s
    else sendMsg (xsOf x) (wsOf w) cCOL
      { pay := .col s.ident.node h lines, slots := 1 + lines.length, bytes := 16 + 64 * lines.length, job := job, node := node
        flow := some (ctx, seqs) } s

/-- Lines of forwarded message m that wait with its header. -/
def fwdGot (f : RxFlow) (m : Nat) : List (Word32 × Slot) :=
  f.waiting.filter (fun w => w.2.cls == 4 && (if w.2.op = 0 then pfld w.2 0 64 4 == m else w.2.tag.toNat / 256 == m))

/-- A slot of a forwarded message joins it; a whole message takes its route (R304, R305). -/
def fwdIn (x ctx : Nat) (job : Nat) (seq : Word32) (y : Slot) (s : State) : State :=
  let s := modRx ctx (fun f => { f with waiting := f.waiting ++ [(seq, y)] }) s
  match s.pod.rx.find? (fun f => f.ctx == ctx) with
  | none => s
  | some f =>
    let m := if y.op = 0 then pfld y 0 64 4 else y.tag.toNat / 256
    let got := fwdGot f m
    match got.find? (fun w => w.2.op == 0) with
    | none => s
    | some h =>
      let lines := (List.range (fwdLines h.2)).filterMap (fun i =>
        (got.find? (fun w => w.2.op == 1 && w.2.tag.toNat % 256 == i)).map (·.2.data))
      if lines.length ≠ fwdLines h.2 then s
      else
        flowDelivered ctx (got.map (·.1))
          (fwdRoute (xsOf x) job h.2.fence (slotFwd h.2 lines) (modRx ctx (fun f => { f with waiting := f.waiting.filter (fun w => !got.contains w) }) s))

/-- A slot of a forwarded message fits those of it that have come: line indexes below LINES, LAST on the last line alone (R304). -/
def fwdFits (f : RxFlow) (y : Slot) : Bool :=
  let fits (h x : Slot) : Bool :=
    let i := x.tag.toNat % 256
    decide (i < fwdLines h) && x.last == decide (i + 1 = fwdLines h)
  if y.cls ≠ 4 then true
  else
    let got := (fwdGot f (if y.op = 0 then pfld y 0 64 4 else y.tag.toNat / 256)).map (·.2)
    if y.op = 0 then (got.filter (fun x => x.op == 1)).all (fits y)
    else match got.find? (fun x => x.op == 0) with
      | some h => fits h y
      | none => true

/-- A slot of a flow that needs no other keeps its form (R304, R312). -/
def podForm (y : Slot) : Bool :=
  if y.reserved || (y.last && !(y.cls == 4 && y.op == 1)) then false
  else if y.cls = 0 then decide (y.op.toNat < 2) && (List.range 4).all (fun i => !mgtV y i || csForm y i) || decide (y.op = 0x1A)
  else if y.cls = 1 then
    decide (y.op = 0 ∨ y.op = 10 ∨ y.op = 11) &&
      (y.op != 0 || (List.range 4).all (fun i => pfld y i 79 1 = 0 || decide (pfld y i 76 3 = 0 ∧ pfld y i 116 12 = 0)))
  else if y.cls = 2 then
    (match opOfCode y.op.toNat with
     | some .store => false
     | some op => reqForm op y
     | none => false)
  else if y.cls = 3 then (if y.op = 1 then ackOk y else decide (y.op = 0))
  else if y.cls = 4 then
    if y.op = 0 then fwdHdrOk y else decide (y.op = 1)
  else false

/-- A slot that its flow has accepted goes on (R298, R301, R305, R365, R395, R433, R445). Log entry 56 (DEDUCED). -/
def podSlot (x ctx : Nat) (node : Word16) (job : Nat) (seq : Word32) (y : Slot) (s : State) : State :=
  let done (s : State) : State := flowDelivered ctx [seq] s
  if y.cls = 0 then
    if y.op = 0x1A then done (if mgtV y 0 && s.boot.ready && !s.boot.dark
      then contMessage (BitVec.ofNat 16 (pfld y 0 0 16)) (BitVec.ofNat 64 (pfld y 0 64 64)) (pfld y 0 32 1 == 1) s else s)
    else
      -- an access to control space from a pod link is answered as a violation
      done (((List.range 4).filter (mgtV y)).foldl (fun s i =>
        podSend (xsOf x) node job cMGT [csRspSlot (y.tag + BitVec.ofNat 12 i) 0] s) s)
  else if y.cls = 1 then
    if y.op = 10 then done (match slotPace y with
      | some m => if gafRuns s then receivePace m s else s
      | none => s)
    else if y.op = 11 then done (match slotClaim y with
      | some m => claimNotice m s
      | none => s)
    else
      (match slotSignals y with
       | [] => done s
       | ps => ps.foldl (fun s p => signalIn x ctx node job p.1 p.2 y.fence [seq] s) (flowParts ctx [seq] ps.length s))
  else if y.cls = 2 then
    match opOfCode y.op.toNat with
    | none => done s
    | some op =>
      (match slotReqs (.remote node.toNat x) op y with
       | [] => done s
       | rs => rs.foldl (fun s r => homeReq x ctx node job r.2 [seq] s) (flowParts ctx [seq] rs.length s))
  else if y.cls = 3 then
    if y.op = 0 then rspIn x ctx node job y.tag.toNat true { buf := 0, slot := 0, gen := 0, data := y.data, poison := y.poison } [seq] s
    else
      (match slotAcks y with
       | [] => done s
       | as => as.foldl (fun s a => rspIn x ctx node job a.1.toNat false
          { buf := 0, slot := 0, gen := 0, result := a.2.1, status := BitVec.ofNat 8 a.2.2 } [seq] s) (flowParts ctx [seq] as.length s))
  else fwdIn x ctx job seq y s

/-- A slot of commands with its lines (R126, R205). -/
def podGroup (x ctx : Nat) (node : Word16) (job : Nat) (seq : Word32) (y : Slot) (ds : List Slot) (s : State) : State :=
  let seqs := (List.range (1 + ds.length)).map (fun i => seq + BitVec.ofNat 32 i)
  if y.cls = 2 then
    match (slotReqs (.remote node.toNat x) .store y).zip ds with
    | [] => flowDelivered ctx seqs s
    | ps => ps.foldl (fun s p => homeReq x ctx node job { p.1.2 with data := p.2.data, poison := p.2.poison } seqs s)
        (flowParts ctx seqs ps.length s)
  else colIn x ctx node job (slotColHdr y) (ds.map (fun d => (d.data, d.poison))) seqs s

/-! ### The slots of a flit, in slot order -/

/-- What a flow's filter makes of a group of n slots (R298). -/
inductive SeqVerdict where
  | accept | duplicate | outside
deriving DecidableEq, Repr

def seqCheck (f : RxFlow) (seq : Word32) (n : Nat) : SeqVerdict :=
  let d := (seq - f.fack).toNat
  if 2 ^ 31 ≤ d ∨ f.seen.contains seq = true then .duplicate
  else if f.window < d + n then .outside
  else .accept

/-- Link credits of a slot (R288): with one left it is taken, and owed again once the slot has been handled. -/
def takeLinkCredit (l : Nat) (y : Slot) (s : State) : Bool × State :=
  let c := y.cls.toNat
  let used := tget 0 (podLink s l).theirUsed c
  if used < linkCap s l c then
    (true, modPodLink l (fun x => { x with theirUsed := tset 0 x.theirUsed c (used + 1), owe := tupd 0 x.owe c (· + 1) }) s)
  else (false, podViolation l s)

/-- The credit of a slot that is discarded without being counted (R313) is owed again. Log entry 52 (DESIGN CHOICE). -/
def quietCredit (l : Nat) (y : Slot) (s : State) : State :=
  let c := y.cls.toNat
  if tget 0 (podLink s l).theirUsed c < linkCap s l c then (takeLinkCredit l y s).2 else s

/-- n slots of a lane's run go by. Log entry 55 (DEDUCED). -/
def runOn (l w n : Nat) (s : State) : State := modPodLane l w (fun x => { x with runSeq := x.runSeq + BitVec.ofNat 32 n }) s

/-- A group of slots of the lane's run: its ROUTE, its flow, its place in the flow's window (R289, R298, R312).
Log entry 53 (DEDUCED). -/
def runSlots (l w : Nat) (stream : Bool) (y : Slot) (ds : List Slot) (ok : Bool) (s : State) : State :=
  let n := 1 + ds.length
  let lane := podLane s l w
  match lane.run with
  | none => podViolation l s
  | some r =>
    let seq := lane.runSeq
    let s := runOn l w n s
    if lane.runBad then s
    else
      match rxFlow s r.srcNode r.job.toNat r.cls.toNat with
      | none => podViolation l s
      | some f =>
        match seqCheck f seq n with
        | .duplicate => modPod (fun p => { p with dup := sat32 p.dup n }) s
        | .outside => (List.range n).foldl (fun s _ => podViolation l s) s
        | .accept =>
          let seqs := (List.range n).map (fun i => seq + BitVec.ofNat 32 i)
          let s := modRx f.ctx (fun g => { g with seen := g.seen ++ seqs, lastUse := s.now }) s
          if !stream && (!ok || y.cls != r.cls || !fwdFits f y) then flowDelivered f.ctx seqs (podViolation l s)
          else if stream then (if y.op = 0 ∧ y.cls = 0 ∧ y.reserved = false then streamIn f.xs f.ctx seq y s else flowDelivered f.ctx seqs (podViolation l s))
          else if ds.isEmpty then podSlot f.xs f.ctx r.srcNode r.job.toNat seq y s
          else podGroup f.xs f.ctx r.srcNode r.job.toNat seq y ds s

/-- The zero bits of a link command's position (R289). -/
def linkForm (y : Slot) (i : Nat) : Bool :=
  let z (lo n : Nat) : Bool := pfld y i lo n == 0
  z 57 6 &&
    (if y.op = 0x1B then z 20 12 && z 38 10 && z 56 1 && z 64 64
     else if y.op = 0x1C then z 64 64
     else if y.op = 0x1E then z 2 6 && z 56 1
     else z 38 2 && z 51 6 && z 112 16)

/-- A slot of link commands (R289); `lastSlot` says that no slot follows it in its flit. -/
def linkSlot (l w : Nat) (y : Slot) (lastSlot : Bool) (s : State) : State :=
  let vs := (List.range 4).filter (mgtV y)
  if y.last || y.reserved || !vs.all (linkForm y) then podViolation l s
  else if y.op = 0x1F then
    if y.data.toNat < 2 ^ 128 ∧ pfld y 0 96 16 = 0 then
      if mgtV y 0 then
        let r := slotRoute y
        let opens := lastSlot && (match rxFlow s r.srcNode r.job.toNat r.cls.toNat with
          | some f => r.fseq == f.fack || decide (f.window ≤ (r.fseq - f.fack).toNat)
          | none => true)
        route l w r opens s
      else s
    else podViolation l s
  else
    vs.foldl (fun s i =>
      if y.op = 0x1B then linkHello l (slotHello y i) s
      else if y.op = 0x1C then laneMap l (slotLaneMap y i) s
      else if y.op = 0x1D then openWaiting (flowAck l (slotFlowAck y i) s)
      else timeCommand l (slotTime y i) s) s

/-- A MIR slot (R392): a heartbeat is laid out; what the other opcodes carry comes as their own commands.
Log entry 56 (DEDUCED). -/
def mirSlot (l : Nat) (y : Slot) (s : State) : State :=
  if y.op = 0 then
    if pfld y 0 79 1 = 1 then
      mirHeartbeat l { node := BitVec.ofNat 16 (pfld y 0 0 16), role := BitVec.ofNat 2 (pfld y 0 16 2), forerunner := pfld y 0 18 1 == 1
                       epoch := BitVec.ofNat 8 (pfld y 0 24 8), confirmed := BitVec.ofNat 32 (pfld y 0 32 32)
                       released := BitVec.ofNat 32 (pfld y 0 80 32), config := BitVec.ofNat 16 (pfld y 0 112 16) } s
    else s
  else if y.op.toNat ≤ 5 then s
  else podViolation l s

/-- The slots of a data or stream flit on a lane (R287, R289, R312, R313). Log entries 45 (DEDUCED), 55 (DEDUCED). -/
def podSlots (l w : Nat) (stream : Bool) : Nat → List Slot → State → State
  | 0, _, s => s
  | _, [], s => s
  | fuel + 1, y :: t, s =>
    if !stream && y.cls == 0 && decide (0x1B ≤ y.op.toNat) then podSlots l w stream fuel t (linkSlot l w y t.isEmpty s)
    else if (podLink s l).st == 4 || ((podLink s l).st == 3 && (stream || y.cls != 0)) then
      podSlots l w stream fuel t (runOn l w 1 (if stream then s else quietCredit l y s))
    else
      let c := if stream then (true, s) else takeLinkCredit l y s
      if !c.1 then podSlots l w stream fuel t (runOn l w 1 c.2)
      else if !stream && y.cls == 6 then podSlots l w stream fuel t (mirSlot l y c.2)
      else if !stream && ((y.cls == 2 && y.op == 1) || (y.cls == 5 && y.op == 0)) then
        let ds := t.take (takesLines y)
        let form := !y.last && !y.reserved && (if y.cls = 2 then reqForm .store y else colHdrOk y)
        if form && linesFit y ds then
          let b := ds.foldl (fun (a : Bool × State) d => let r := takeLinkCredit l d a.2; (a.1 && r.1, r.2)) (true, c.2)
          podSlots l w stream fuel (t.drop ds.length) (runSlots l w stream y ds b.1 b.2)
        else podSlots l w stream fuel t (runSlots l w stream y [] false c.2)
      else podSlots l w stream fuel t (runSlots l w stream y [] (podForm y) c.2)

/-! ### Receiving a flit (R264 to R266, R286, R293) -/

/-- The flit as it leaves now on a lane. Log entry 47 (DEDUCED). -/
def laneStamp (x : PodLane) (f : Flit) : Flit := { f with ack := BitVec.ofNat 8 (x.expect + 255), nak := x.nak }

/-- The next flit of a lane asks for replay. -/
def laneReplay (l w : Nat) (s : State) : State :=
  modPodLane l w (fun x => if x.nakAt.isSome then x else { x with nak := true, nakAt := some s.now }) s

/-- Slots of acknowledged flits are the partner's. -/
def slotsAccepted (l w : Nat) (seqs : List Nat) (s : State) : State :=
  if seqs.isEmpty then s
  else modPod (fun p => { p with
    tx := p.tx.map (fun f => { f with
      slots := f.slots.map (fun x => match x.place with
        | .inFlit k q => if k = l * 16 + w ∧ seqs.contains q = true then { x with place := .accepted } else x
        | _ => x) }) }) s

/-- ACK and NAK of a flit that decodes on a lane; eight NAKs with nothing newly acknowledged drop it. -/
def laneAck (l w : Nat) (ack : BitVec 8) (nak : Bool) (s : State) : State :=
  let x := podLane s l w
  let c := ackCount x.held ack
  let s := slotsAccepted l w ((x.held.take c).map (fun f => f.seq.toNat)) s
  let x : PodLane := { x with held := x.held.drop c, naks := if c = 0 then x.naks else 0 }
  if !nak then modPodLane l w (fun _ => x) s
  else
    let x : PodLane := { x with naks := x.naks + 1 }
    let s := modPodLane l w (fun _ => x) s
    if 8 ≤ x.naks then laneDrop l w 5 s
    else
      match x.held with
      | [] => s
      | f :: rest =>
        -- a NAK that waits stands in the first of them alone (R265)
        rest.foldl (fun s g => emit (.podFlit l w (laneStamp { x with nak := false } g)) s)
          (emit (.podFlit l w (laneStamp x f)) (modPodLane l w (fun y => { y with nak := false }) s))

/-- Payload bytes of a slot (R119): 64 of a line, 16 of each command, here by the bits that say a position is used. -/
def slotBytes (stream : Bool) (y : Slot) : Nat :=
  let v (lo : Nat) : Nat := ((List.range 4).filter (fun i => pfld y i lo 1 = 1)).length
  if stream then 64
  else if y.cls = 0 then (if y.op = 4 then 64 else 16 * v 63)
  else if y.cls = 1 then 16 * v 79
  else if y.cls = 2 then (if y.op = 2 then 64 else 16 * (slotReqs .engine ((opOfCode y.op.toNat).getD .swap) y).length)
  else if y.cls = 3 then (if y.op = 0 then 64 else 16 * v 79)
  else if y.op = 0 then 16
  else 64

def flitBytes (stream : Bool) (ys : List Slot) : Nat := (ys.map (slotBytes stream)).sum

/-- Events of the last millisecond. Log entry 55 (DEDUCED). -/
def lately (s : State) (ts : List Tick) : List Tick := ts.filter (fun t => decide (s.now < t + 1000000))

/-- Corrected symbols of a flit are attributed to its lane (R293). -/
def laneCorr (l w syms : Nat) (s : State) : State :=
  modPodLane l w (fun x => { x with
    corr := (if syms = 0 then [] else [(s.now, syms)]) ++ x.corr.filter (fun t => decide (s.now < t.1 + 1000000)) }) s

/-- A flit that the partner sent on a lane of the map, with the error values that came to its bytes (R253, R286, R293).
Log entries 45 (DEDUCED), 48 (DEDUCED), 58 (DEDUCED). -/
def podReceive (l w : Nat) (f0 : Flit) (errs : List (Nat × Byte)) (s : State) : State :=
  let f := flitDecoded f0 errs
  if !linkLive s l || decide (16 ≤ w) || !bit (podLink s l).map w || laneStopped (podLink s l) w then s
  else if flitUncorrectable errs || !(f.type == 0 || f.type == 1 || f.type == 3) then
    let s := laneCorr l w (flitCorrected errs).length s
    let un := s.now :: lately s (podLane s l w).uncorr
    let s := laneReplay l w (modPodLane l w (fun x => { x with uncorr := un }) s)
    if 16 < un.length then laneDrop l w 4 s
    else if dropSeen s l w 3 then laneDrop l w 3 s
    else s
  else
    let s := laneCorr l w (flitCorrected errs).length s
    if dropSeen s l w 3 then laneDrop l w 3 s
    else
      let s := laneAck l w f.ack f.nak s
      let lane := podLane s l w
      if f.type = 0 ∨ laneStopped (podLink s l) w = true then s
      else if f.seq.toNat ≠ lane.expect then
        let gap := decide ((f.seq.toNat + 4096 - lane.expect) % 4096 < 2048) && lane.nakAt.isNone
        laneReplay l w (if gap then podViolation l s else s)
      else
        let ys := f.slots.filterMap id
        let s := modPodLane l w (fun x => { x with expect := (x.expect + 1) % 4096, nak := false, nakAt := none }) s
        let s := modPodLink l (fun x => { x with
          ourUsed := (List.range 7).foldl (fun t c => tupd 0 t c (· - f.cred.getD c 0)) x.ourUsed
          rxFlits := x.rxFlits + 1
          rxBytes := x.rxBytes + BitVec.ofNat 64 (flitBytes (f.type == 3) ys) }) s
        podSlots l w (f.type == 3) 4 ys s

def execPodFlitReceive (link lane : Nat) (flit : Flit) (errs : List (Nat × Byte)) (s : State) : Out :=
  .next (podReceive link lane flit errs s)

/-! ### Sending a flit (R266, R287 to R289, R298) -/

/-- A link carries a flow's slots: it is up, or in quarantine and the flow is of class MGT (R313). Log entry 58 (DEDUCED). -/
def carriesFlow (s : State) (l : Nat) (f : TxFlow) : Bool :=
  f.xs == l / 6 && (linkUp s l || ((podLink s l).st == 3 && f.cls == 0))

/-- Slots that a flow's slot takes with it in its flit. -/
def groupOf (xs : List FlowSlot) : List FlowSlot :=
  match xs with
  | [] => []
  | x :: t => if x.stream then [x]
    else x :: (t.take (if x.slot.cls = 2 ∨ x.slot.cls = 5 then takesLines x.slot else 0))

/-- Slots of a run for one flit: whole groups that follow each other in FSEQ, of one kind, as places and credits last.
Log entry 54 (DESIGN CHOICE). -/
def runOf (s : State) (f : TxFlow) (credit : Nat) : Nat → Nat → List FlowSlot → List FlowSlot
  | 0, _, _ => []
  | fuel + 1, room, xs =>
    let g := groupOf xs
    match g with
    | [] => []
    | x :: _ =>
      let n := g.length
      if n ≤ room ∧ (x.stream = true ∨ n ≤ credit) ∧ g.all (sendable s f) = true then
        let rest := xs.drop n
        match rest with
        | y :: _ => if y.fseq = x.fseq + BitVec.ofNat 32 n ∧ y.stream = x.stream
            then g ++ runOf s f (if x.stream then credit else credit - n) fuel (room - n) rest else g
        | [] => g
      else []

/-- The slots of a flow from its first one that may be sent. -/
def fromFirst (s : State) (f : TxFlow) : List FlowSlot := f.slots.dropWhile (fun x => !sendable s f x)

/-- The flow that sends next on a link: the first in rotation after the one served last that can fill a flit.
Log entry 54 (DESIGN CHOICE). -/
def nextFlow (s : State) (l : Nat) : Option TxFlow :=
  let last := tget 0 s.pod.turn l
  let can := s.pod.tx.filter (fun f =>
    carriesFlow s l f && !(runOf s f (linkCap s l f.cls - tget 0 (podLink s l).ourUsed f.cls) 1 4 (fromFirst s f)).isEmpty)
  let lowest (fs : List TxFlow) : Option TxFlow := fs.foldl (fun a f => match a with
    | none => some f
    | some g => if f.ctx < g.ctx then some f else some g) none
  (lowest (can.filter (fun f => decide (last < f.ctx)))).orElse fun _ => lowest can

/-- The ROUTE of a flow for a slot with an FSEQ. -/
def routeFor (s : State) (f : TxFlow) (seq : Word32) : RouteCmd :=
  { destNode := f.node, srcNode := s.ident.node, destXs := BitVec.ofNat 3 f.remoteXs, srcXs := BitVec.ofNat 3 f.xs
    job := BitVec.ofNat 8 f.job, cls := BitVec.ofNat 3 f.cls, fseq := seq }

/-- The run of a lane goes on with a slot of a flow. -/
def continues (s : State) (x : PodLane) (f : TxFlow) (seq : Word32) : Bool :=
  match x.txRun with
  | some r => { r with fseq := 0 } == routeFor s f 0 && x.txSeq == seq
  | none => false

/-- Put a sequenced flit on a lane. -/
def laneSend (l w : Nat) (type : BitVec 4) (ys : List Slot) (s : State) : State :=
  let x := podLane s l w
  let cr := (List.range 7).map (fun c => min 15 (tget 0 (podLink s l).owe c))
  let f : Flit := { type := type, seq := BitVec.ofNat 12 x.nextSeq, cred := cr, slots := (ys.map some ++ List.replicate 4 none).take 4 }
  let s := emit (.podFlit l w (laneStamp x f)) s
  let s := modPodLane l w (fun y => { y with nextSeq := (y.nextSeq + 1) % 4096, held := y.held ++ [f], nak := false }) s
  modPodLink l (fun y => { y with
    theirUsed := (List.range 7).foldl (fun t c => tupd 0 t c (· - cr.getD c 0)) y.theirUsed
    owe := (List.range 7).foldl (fun t c => tupd 0 t c (· - cr.getD c 0)) y.owe
    txFlits := y.txFlits + 1
    txBytes := y.txBytes + BitVec.ofNat 64 (flitBytes (type == 3) ys) }) s

/-- Slots of a flow are placed in a flit of a lane. -/
def markSlots (f : TxFlow) (xs : List FlowSlot) (lane seq : Nat) (s : State) : State :=
  modTx f.node f.job f.cls (fun g => { g with
    slots := g.slots.map (fun y => if xs.any (fun x => x.fseq == y.fseq) then { y with place := .inFlit lane seq } else y)
    lastUse := s.now }) s

/-- Send slots of a flow in the next flit of a lane, after a ROUTE where one is due. Log entry 54 (DESIGN CHOICE). -/
def sendRun (l w : Nat) (f : TxFlow) (xs : List FlowSlot) (routed : Bool) (s : State) : State :=
  match xs with
  | [] => s
  | x :: _ =>
    let r := routeFor s f x.fseq
    let q := (podLane s l w).nextSeq
    let s := markSlots f xs (l * 16 + w) q s
    let s := laneSend l w (if x.stream then 3 else 1) ((if routed then [] else [routeSlot r]) ++ xs.map (·.slot)) s
    let s := modPodLane l w (fun y => { y with txRun := some r, txSeq := x.fseq + BitVec.ofNat 32 xs.length }) s
    modPodLink l (fun y => { y with ourUsed := if x.stream then y.ourUsed else tupd 0 y.ourUsed f.cls (· + xs.length) })
      (modPod (fun p => { p with turn := tset 0 p.turn l f.ctx }) s)

/-- Slots whose ROUTE the lane has sent. Log entry 54 (DESIGN CHOICE). -/
def pledged (s : State) (l w : Nat) : Option (TxFlow × List FlowSlot) :=
  s.pod.tx.findSome? (fun f =>
    match f.slots.filter (fun x => x.place == .inFlit (l * 16 + w) 4096) with
    | [] => none
    | xs => some (f, xs))

/-- A lane with nothing to send carries an idle flit (R104, R286). -/
def laneIdle (l w : Nat) (s : State) : State :=
  modPodLane l w (fun x => { x with nak := false }) (emit (.podFlit l w (laneStamp (podLane s l w) { type := 0 })) s)

/-- The lane that takes the link's next flit: the free ones of the map take turns (R287). -/
def dueLane (s : State) (l : Nat) : Option Nat :=
  let x := podLink s l
  let free := (lanesIn x.map).filter (fun w => !laneStopped x w && decide ((podLane s l w).busyUntil ≤ s.now))
  (free.find? (fun w => decide (x.laneTurn ≤ w))).orElse fun _ => free.head?

/-- Commands up to the first ROUTE, which no slot of its flit follows (R289). -/
def upToRoute : List (Option Nat × LinkOut) → List (Option Nat × LinkOut)
  | [] => []
  | (w, .route r) :: _ => [(w, .route r)]
  | c :: t => c :: upToRoute t

/-- The link commands that a lane's next flit carries, up to four. -/
def cmdsFor (s : State) (l w : Nat) : List (Option Nat × LinkOut) :=
  upToRoute (((podLink s l).cmds.filter (fun c => c.1.isNone || c.1 == some w)).take 4)

/-- Send link commands in a flit of a lane (R289, R309): a TIME request notes its send time, and a ROUTE leaves no run behind. -/
def sendCmds (l w : Nat) (cs : List (Option Nat × LinkOut)) (s : State) : State :=
  let now := s.tc.timecode
  let s := laneSend l w 1 (cs.map (fun c => linkOutSlot now c.2)) s
  let routes := cs.any (fun c => match c.2 with
    | .route _ => true
    | _ => false)
  let asks := cs.any (fun c => match c.2 with
    | .timeRequest _ => true
    | _ => false)
  modPodLink l (fun x => { x with
    cmds := cs.foldl (fun t c => t.erase c) x.cmds
    time := if asks then { x.time with t1 := some now } else x.time })
    (if routes then modPodLane l w (fun y => { y with txRun := none }) s else s)

/-- A lane of the map that is free and due takes the next flit. A group that its ROUTE leaves no room for, and a line of a stream, follow in
the lane's next flit; link commands go before a new run. Log entry 54 (DESIGN CHOICE). -/
def fillLane (l w : Nat) (s : State) : State :=
  let lane := podLane s l w
  if 128 ≤ lane.held.length then laneIdle l w s
  else
    match pledged s l w with
    | some (f, xs) => sendRun l w f xs true s
    | none =>
      if !(cmdsFor s l w).isEmpty then sendCmds l w (cmdsFor s l w) s
      else match nextFlow s l with
      | some f =>
        let credit := linkCap s l f.cls - tget 0 (podLink s l).ourUsed f.cls
        let all := fromFirst s f
        let seq := match all with
          | x :: _ => x.fseq
          | [] => 0
        if continues s lane f seq then sendRun l w f (runOf s f credit 4 4 all) true s
        else
          let xs := runOf s f credit 4 3 all
          if xs.isEmpty = true ∨ xs.any (·.stream) = true then
            let ys := runOf s f credit 4 4 all
            let r := routeFor s f seq
            modPodLane l w (fun y => { y with txRun := some r, txSeq := seq })
              (laneSend l w 1 [routeSlot r] (markSlots f ys (l * 16 + w) 4096 s))
          else sendRun l w f xs false s
      | none =>
        if (List.range 7).any (fun c => decide (tget 0 (podLink s l).owe c ≠ 0)) then laneSend l w 1 [] s else laneIdle l w s

/-- POD_FLIT_SEND: the lane whose turn it is sends a flit, which it carries for 20.57 ns (R287). -/
def podFlitSend (l w : Nat) (s : State) : State :=
  if !linkLive s l || dueLane s l != some w then s
  else
    modPodLane l w (fun y => { y with busyUntil := s.now + flitTicks })
      (fillLane l w (modPodLink l (fun x => { x with laneTurn := (w + 1) % 16 }) s))

def execPodFlitSend (link lane : Nat) (s : State) : Out := .next (podFlitSend link lane s)

end Sys2Proof.Machine
end

