-- ==== Sys2Proof/Machine/Telemetry.lean ====
section
/-! DEFINITION. The dailies (R460, R461), the dynamic address of the management port (R481) and the test access port (R483). -/

namespace Sys2Proof.Machine

open Sys2Proof

/-- A line from 64-bit words 0 to 7. -/
def lineOfWords64 (ws : List Word64) : Line := BitVec.ofNat 512 (((List.range 8).map (fun k => (ws.getD k 0).toNat * 2 ^ (64 * k))).sum)

/-- The 24 words of a block: flits and payload bytes both ways, sluice flits, depths with peaks, and stall ticks by class
(R461). -/
def dailyBlock (tf rf tb rb sent got : Word64) (depth : Nat → Nat) (peak : Tab Word16) (stall : Tab Word64) : List Word64 :=
  let d (c : Nat) : Nat := if c < 7 then min 65535 (depth c) + 2 ^ 16 * (tget 0 peak c).toNat else 0
  [tf, rf, tb, rb, sent, got] ++ (List.range 4).map (fun k => BitVec.ofNat 64 (d (2 * k) + 2 ^ 32 * d (2 * k + 1)))
    ++ (List.range 7).map (fun c => tget 0 stall c)

def stationBlock (s : State) (st : Nat) : List Word64 :=
  let c : MrCount := tget {} s.mrc.count st
  dailyBlock c.txFlits c.rxFlits c.txBytes c.rxBytes (tget 0 s.slu.sent st) (tget 0 s.slu.received st) (depthOf s st) c.peak c.stall

def linkBlock (s : State) (l : Nat) : List Word64 :=
  let x := podLink s l
  dailyBlock x.txFlits x.rxFlits x.txBytes x.rxBytes 0 0 (podDepth s l) x.peak x.stall

/-- Line k of a daily with number seq. -/
def dailyLine (s : State) (seq : Word64) (k : Nat) : Line :=
  let part (ws : List Word64) (j : Nat) : List Word64 := (ws ++ List.replicate 24 0).drop (8 * j) |>.take 8
  if k = 0 then lineOfWords64 [seq, s.tc.timecode, BitVec.ofNat 64 (s.tc.passCount.toNat + 2 ^ 32 * s.ident.capGen.toNat)]
  else if k < 109 then lineOfWords64 (part (stationBlock s ((k - 1) / 3)) ((k - 1) % 3))
  else if k = 252 then lineOfWords64 (((part (linkBlock s 47) 2).take 7) ++ [seq])
  else lineOfWords64 (part (linkBlock s ((k - 109) / 3)) ((k - 109) % 3))

/-- Write the lines of a daily. Log entry 90 (DESIGN CHOICE). -/
def dailyWrite (old : State) (seq : Word64) (base : Nat) : Nat → State → State
  | 0, s => s
  | n + 1, s => dailyWrite old seq base n (millWrite (base + 64 * n) fullMask (dailyLine old seq n) false s)

/-- A whole millisecond of the timecode has begun: the daily is written, or is abandoned where its bank is fenced; those of
milliseconds that went by are abandoned too. Log entry 90 (DESIGN CHOICE). -/
def daily (s : State) : State :=
  let k := s.tc.timecode.toNat / 1000000
  if !telRuns s || decide (k ≤ s.tel.done) then s
  else
    let gone := k - s.tel.done - 1
    let s := modTel (fun t => { t with done := k, missed := sat32 t.missed gone }) s
    if bankFenced s 7 then modTel (fun t => { t with missed := sat32 t.missed 1 }) s
    else
      let seq := s.tel.seq + 1
      modTel (fun t => { t with seq := seq, head := (t.head + 1) % 64 }) (dailyWrite s seq (dailyBase s.tel.head) 253 (ownerTurn 4 0 7 s))

def execDaily (s : State) : Out := .next (daily s)

/-- The management port takes the address that the host gives it, once, from the end of boot phase 2 (R481). -/
def execEntdaa (address : Nat) (s : State) : Out :=
  .next (if portOpen s && s.pins.porN && s.pins.i3cAddress.isNone then modPins (fun p => { p with i3cAddress := some address }) s else s)

/-- IDCODE (R483). Log entry 91 (PRESUMED). -/
def idCode : BitVec 32 := BitVec.ofNat 32 (0xB * 2 ^ 28 + 0x5A12 * 2 ^ 12 + Config.makerJedec.toNat * 2 + 1)

/-- Outside factory test mode an instruction other than BYPASS, IDCODE and SAMPLE/PRELOAD acts as BYPASS.
Log entry 91 (PRESUMED). -/
def tapActs (s : State) (ir : TapInstr) : TapInstr := match ir with
  | .other c => if s.role.facActive then .other c else .bypass
  | x => x

/-- An instruction reaches the test access port (R483). Log entry 91 (PRESUMED). -/
def tapInstruction (ir : TapInstr) (s : State) : State :=
  let x := tapActs s ir
  let t := modPins (fun p => { p with tap := x }) s
  match x with
  | .bypass => emit (.tdo x 0) t
  | .idcode => emit (.tdo x idCode) t
  | _ => t

def execTapInstruction (ir : TapInstr) (s : State) : Out := .next (tapInstruction ir s)

end Sys2Proof.Machine
end

