-- ==== Sys2Proof/Machine/Dispatch.lean ====
section
/-! DEFINITION. One arm per command: a direct call of the command's meaning. -/

namespace Sys2Proof.Machine

open Sys2Proof

def exec (i : Instr) (s : State) : Host.Outcome State Fault Refusal :=
  match i with
  | .timecodeTick crew => Sys2Proof.Machine.execTimecodeTick crew s
  | .timeCorrectionStep plus => Sys2Proof.Machine.execTimeCorrectionStep plus s
  | .refclkLoss => Sys2Proof.Machine.execRefclkLoss s
  | .refclkHoldoverExpiry => Sys2Proof.Machine.execRefclkHoldoverExpiry s
  | .stitchRemeasure skews => Sys2Proof.Machine.execStitchRemeasure skews s
  | .frameBoundary env => Sys2Proof.Machine.execFrameBoundary env s
  | .preambleReceived station plane p0 p1 => Sys2Proof.Machine.execPreambleReceived station plane p0 p1 s
  | .splice => Sys2Proof.Machine.execSplice s
  | .swapArm p => Sys2Proof.Machine.execSwapArm p s
  | .swapCancel p => Sys2Proof.Machine.execSwapCancel p s
  | .reelStart p => Sys2Proof.Machine.execReelStart p s
  | .reelStop p => Sys2Proof.Machine.execReelStop p s
  | .clapperPulse => Sys2Proof.Machine.execClapperPulse s
  | .clapperWindowClose => Sys2Proof.Machine.execClapperWindowClose s
  | .followFirstPass => Sys2Proof.Machine.execFollowFirstPass s
  | .clapperStartTimeout => Sys2Proof.Machine.execClapperStartTimeout s
  | .slackShortTimeout station => Sys2Proof.Machine.execSlackShortTimeout station s
  | .tcPauseReq p station rate => Sys2Proof.Machine.execTcPauseReq p station rate s
  | .pauseWindowStart station => Sys2Proof.Machine.execPauseWindowStart station s
  | .pauseComplete station => Sys2Proof.Machine.execPauseComplete station s
  | .pauseTimeout station => Sys2Proof.Machine.execPauseTimeout station s
  | .sluiceFlitReceive station plane v => Sys2Proof.Machine.execSluiceFlitReceive station plane v s
  | .siteStreamForward station selector => Sys2Proof.Machine.execSiteStreamForward station selector s
  | .reelStoreWrite p addr data => Sys2Proof.Machine.execReelStoreWrite p addr data s
  | .reelCheck p => Sys2Proof.Machine.execReelCheck p s
  | .reelCheckComplete => Sys2Proof.Machine.execReelCheckComplete s
  | .reelClear p => Sys2Proof.Machine.execReelClear p s
  | .drainEnd => Sys2Proof.Machine.execDrainEnd s
  | .millraceFlitSend src dst lambda => Sys2Proof.Machine.execMillraceFlitSend src dst lambda s
  | .millraceFlitReceive src dst lambda v => Sys2Proof.Machine.execMillraceFlitReceive src dst lambda v s
  | .selfDelivery station cls => Sys2Proof.Machine.execSelfDelivery station cls s
  | .millraceLambdaOut station lambda => Sys2Proof.Machine.execMillraceLambdaOut station lambda s
  | .spareRemapComplete src dst => Sys2Proof.Machine.execSpareRemapComplete src dst s
  | .peakClearSelected p => Sys2Proof.Machine.execPeakClearSelected p s
  | .peakClearAll p => Sys2Proof.Machine.execPeakClearAll p s
  | .memRequestIssue r => Sys2Proof.Machine.execMemRequestIssue r s
  | .load q v => Sys2Proof.Machine.execLoad q v s
  | .store q v => Sys2Proof.Machine.execStore q v s
  | .storeData site module tag data poison => Sys2Proof.Machine.execStoreData site module tag data poison s
  | .addI64 q v => Sys2Proof.Machine.execAddI64 q v s
  | .addF32x2 q v => Sys2Proof.Machine.execAddF32x2 q v s
  | .swap q v => Sys2Proof.Machine.execSwap q v s
  | .cas q v => Sys2Proof.Machine.execCas q v s
  | .maxI64 q v => Sys2Proof.Machine.execMaxI64 q v s
  | .minI64 q v => Sys2Proof.Machine.execMinI64 q v s
  | .maxF32x2 q v => Sys2Proof.Machine.execMaxF32x2 q v s
  | .minF32x2 q v => Sys2Proof.Machine.execMinF32x2 q v s
  | .loadData r => Sys2Proof.Machine.execLoadData r s
  | .ack r => Sys2Proof.Machine.execAck r s
  | .timeoutSweep => Sys2Proof.Machine.execTimeoutSweep s
  | .patrolScrub ms line v => Sys2Proof.Machine.execPatrolScrub ms line v s
  | .stackLaneFail ms ev => Sys2Proof.Machine.execStackLaneFail ms ev s
  | .epochEnd => Sys2Proof.Machine.execEpochEnd s
  | .blockFetchResponse slot line data poison failed => Sys2Proof.Machine.execBlockFetchResponse slot line data poison failed s
  | .regionDeclare p entry f => Sys2Proof.Machine.execRegionDeclare p entry f s
  | .regionRelease p entry => Sys2Proof.Machine.execRegionRelease p entry s
  | .regionReleaseComplete entry => Sys2Proof.Machine.execRegionReleaseComplete entry s
  | .gripDescriptorStart g => Sys2Proof.Machine.execGripDescriptorStart g s
  | .descriptorComplete queue number => Sys2Proof.Machine.execDescriptorComplete queue number s
  | .queueEnable p queue base job => Sys2Proof.Machine.execQueueEnable p queue base job s
  | .queueDisable p queue => Sys2Proof.Machine.execQueueDisable p queue s
  | .queueReset p queue => Sys2Proof.Machine.execQueueReset p queue s
  | .watchArm p slot f => Sys2Proof.Machine.execWatchArm p slot f s
  | .watchNotice slot => Sys2Proof.Machine.execWatchNotice slot s
  | .colHdr ws source h => Sys2Proof.Machine.execColHdr ws source h s
  | .colLine ws source data poison => Sys2Proof.Machine.execColLine ws source data poison s
  | .groupFinish ctx chunk group => Sys2Proof.Machine.execGroupFinish ctx chunk group s
  | .chunkComplete ctx => Sys2Proof.Machine.execChunkComplete ctx s
  | .dueTick ctx member => Sys2Proof.Machine.execDueTick ctx member s
  | .lateLimitExpiry ctx member => Sys2Proof.Machine.execLateLimitExpiry ctx member s
  | .laneRateMeasure ws rate => Sys2Proof.Machine.execLaneRateMeasure ws rate s
  | .contextSetup p ctx => Sys2Proof.Machine.execContextSetup p ctx s
  | .contextAbort p ctx => Sys2Proof.Machine.execContextAbort p ctx s
  | .contextFree p ctx => Sys2Proof.Machine.execContextFree p ctx s
  | .contextConstants p ctx ks => Sys2Proof.Machine.execContextConstants p ctx ks s
  | .sitePowerUp site => Sys2Proof.Machine.execSitePowerUp site s
  | .vsiteReq site code => Sys2Proof.Machine.execVsiteReq site code s
  | .vsiteStep site => Sys2Proof.Machine.execVsiteStep site s
  | .siteOvervolt site => Sys2Proof.Machine.execSiteOvervolt site s
  | .siteUndervolt site => Sys2Proof.Machine.execSiteUndervolt site s
  | .siteOvercurrent site => Sys2Proof.Machine.execSiteOvercurrent site s
  | .tsiPowerBumpFail site group => Sys2Proof.Machine.execTsiPowerBumpFail site group s
  | .siteTraining site res => Sys2Proof.Machine.execSiteTraining site res s
  | .trimInterval site moves => Sys2Proof.Machine.execTrimInterval site moves s
  | .tsiLaneTapWrite p site module lane delay threshold => Sys2Proof.Machine.execTsiLaneTapWrite p site module lane delay threshold s
  | .tsiTrimFreeze p site on => Sys2Proof.Machine.execTsiTrimFreeze p site on s
  | .laneFailing site module lane stuck => Sys2Proof.Machine.execLaneFailing site module lane stuck s
  | .spareCompareDone site module => Sys2Proof.Machine.execSpareCompareDone site module s
  | .tsiFlitReceive site module flit errs => Sys2Proof.Machine.execTsiFlitReceive site module flit errs s
  | .nakTimeout port => Sys2Proof.Machine.execNakTimeout port s
  | .hopperRelease site module => Sys2Proof.Machine.execHopperRelease site module s
  | .signal site pos => Sys2Proof.Machine.execSignal site pos s
  | .streamLine site stream data poison => Sys2Proof.Machine.execStreamLine site stream data poison s
  | .streamCredit site stream lines revoke => Sys2Proof.Machine.execStreamCredit site stream lines revoke s
  | .helloAck site revision => Sys2Proof.Machine.execHelloAck site revision s
  | .cap site word value => Sys2Proof.Machine.execCap site word value s
  | .capEnd site => Sys2Proof.Machine.execCapEnd site s
  | .resend site => Sys2Proof.Machine.execResend site s
  | .regRead site addr tag => Sys2Proof.Machine.execRegRead site addr tag s
  | .regWrite site addr tag data => Sys2Proof.Machine.execRegWrite site addr tag data s
  | .temp site t => Sys2Proof.Machine.execTemp site t s
  | .laneFail site module lane => Sys2Proof.Machine.execLaneFail site module lane s
  | .pauseReq site rate => Sys2Proof.Machine.execPauseReq site rate s
  | .slewReq site delta window tag => Sys2Proof.Machine.execSlewReq site delta window tag s
  | .moduleOffAck site module seq => Sys2Proof.Machine.execModuleOffAck site module seq s
  | .sidebandLost site => Sys2Proof.Machine.execSidebandLost site s
  | .podFlitReceive link lane flit errs => Sys2Proof.Machine.execPodFlitReceive link lane flit errs s
  | .linkTraining link lanes => Sys2Proof.Machine.execLinkTraining link lanes s
  | .linkHello link cmd => Sys2Proof.Machine.execLinkHello link cmd s
  | .laneDrop link lane cause => Sys2Proof.Machine.execLaneDrop link lane cause s
  | .laneMap link cmd => Sys2Proof.Machine.execLaneMap link cmd s
  | .laneMapRetry link => Sys2Proof.Machine.execLaneMapRetry link s
  | .route link lane r opens => Sys2Proof.Machine.execRoute link lane r opens s
  | .flowAck link fa => Sys2Proof.Machine.execFlowAck link fa s
  | .flowOpen xs node job cls => Sys2Proof.Machine.execFlowOpen xs node job cls s
  | .flowAckTimer flow => Sys2Proof.Machine.execFlowAckTimer flow s
  | .fwdMessage xs job m => Sys2Proof.Machine.execFwdMessage xs job m s
  | .timeRequestSend link => Sys2Proof.Machine.execTimeRequestSend link s
  | .time link cmd => Sys2Proof.Machine.execTime link cmd s
  | .timeLinkTimeout link => Sys2Proof.Machine.execTimeLinkTimeout link s
  | .podRtCheck p => Sys2Proof.Machine.execPodRtCheck p s
  | .routeCheckComplete => Sys2Proof.Machine.execRouteCheckComplete s
  | .podRtSwap p => Sys2Proof.Machine.execPodRtSwap p s
  | .podRtCancel p => Sys2Proof.Machine.execPodRtCancel p s
  | .podRtCopy p => Sys2Proof.Machine.execPodRtCopy p s
  | .routeDrainEnd => Sys2Proof.Machine.execRouteDrainEnd s
  | .quarantineEval => Sys2Proof.Machine.execQuarantineEval s
  | .quarantineTimeout link => Sys2Proof.Machine.execQuarantineTimeout link s
  | .podQuarClear p => Sys2Proof.Machine.execPodQuarClear p s
  | .lsInt module flag => Sys2Proof.Machine.execLsInt module flag s
  | .laserModulePoll module flags => Sys2Proof.Machine.execLaserModulePoll module flags s
  | .focusUpdate e delta => Sys2Proof.Machine.execFocusUpdate e delta s
  | .focusLockLost e => Sys2Proof.Machine.execFocusLockLost e s
  | .focusSearchTimeout e => Sys2Proof.Machine.execFocusSearchTimeout e s
  | .focusRange e => Sys2Proof.Machine.execFocusRange e s
  | .identityCheck e tone ok => Sys2Proof.Machine.execIdentityCheck e tone ok s
  | .resweepComplete e res => Sys2Proof.Machine.execResweepComplete e res s
  | .headroomEval unit => Sys2Proof.Machine.execHeadroomEval unit s
  | .feedLow feed offsets line power => Sys2Proof.Machine.execFeedLow feed offsets line power s
  | .focusTrimInterval unit moves => Sys2Proof.Machine.execFocusTrimInterval unit moves s
  | .focTrimFreeze p on => Sys2Proof.Machine.execFocTrimFreeze p on s
  | .warmSave p => Sys2Proof.Machine.execWarmSave p s
  | .warmSaveComplete ok => Sys2Proof.Machine.execWarmSaveComplete ok s
  | .sensorSample readings => Sys2Proof.Machine.execSensorSample readings s
  | .sensorFail sensor => Sys2Proof.Machine.execSensorFail sensor s
  | .thermtripRelease => Sys2Proof.Machine.execThermtripRelease s
  | .coolantStop => Sys2Proof.Machine.execCoolantStop s
  | .coolantRestart => Sys2Proof.Machine.execCoolantRestart s
  | .warmupEnd => Sys2Proof.Machine.execWarmupEnd s
  | .lowTempReturn station => Sys2Proof.Machine.execLowTempReturn station s
  | .throttleStep => Sys2Proof.Machine.execThrottleStep s
  | .stackTempRead ms temp => Sys2Proof.Machine.execStackTempRead ms temp s
  | .tempCeilingStep site => Sys2Proof.Machine.execTempCeilingStep site s
  | .siteOvertemp site => Sys2Proof.Machine.execSiteOvertemp site s
  | .gafferEvaluation => Sys2Proof.Machine.execGafferEvaluation s
  | .gafferDivide => Sys2Proof.Machine.execGafferDivide s
  | .limitCheck site => Sys2Proof.Machine.execLimitCheck site s
  | .clampRelease site => Sys2Proof.Machine.execClampRelease site s
  | .vmillRaiseStep => Sys2Proof.Machine.execVmillRaiseStep s
  | .vmillLowerStep => Sys2Proof.Machine.execVmillLowerStep s
  | .pmbusFail => Sys2Proof.Machine.execPmbusFail s
  | .pmbusAlert => Sys2Proof.Machine.execPmbusAlert s
  | .sitePowerSample site power millivolts => Sys2Proof.Machine.execSitePowerSample site power millivolts s
  | .slewGuardEnd site => Sys2Proof.Machine.execSlewGuardEnd site s
  | .budgetGrant eid id watts expiry => Sys2Proof.Machine.execBudgetGrant eid id watts expiry s
  | .budgetQuery eid => Sys2Proof.Machine.execBudgetQuery eid s
  | .budgetExpiry => Sys2Proof.Machine.execBudgetExpiry s
  | .budgetExcessRelease => Sys2Proof.Machine.execBudgetExcessRelease s
  | .budgetReleaseAck eid id => Sys2Proof.Machine.execBudgetReleaseAck eid id s
  | .budgetReleaseRetry => Sys2Proof.Machine.execBudgetReleaseRetry s
  | .paceNotice m => Sys2Proof.Machine.execPaceNotice m s
  | .paceNoticeTimer job => Sys2Proof.Machine.execPaceNoticeTimer job s
  | .paceNoticeExpiry job => Sys2Proof.Machine.execPaceNoticeExpiry job s
  | .energyAttribution readings => Sys2Proof.Machine.execEnergyAttribution readings s
  | .faultMessage m => Sys2Proof.Machine.execFaultMessage m s
  | .fenceRetry unit => Sys2Proof.Machine.execFenceRetry unit s
  | .retryComplete unit ok => Sys2Proof.Machine.execRetryComplete unit ok s
  | .fltFenceClear p unit => Sys2Proof.Machine.execFltFenceClear p unit s
  | .fltAlertAck p => Sys2Proof.Machine.execFltAlertAck p s
  | .fltFirstClear p => Sys2Proof.Machine.execFltFirstClear p s
  | .fltOuttakeUnfreeze p => Sys2Proof.Machine.execFltOuttakeUnfreeze p s
  | .voteScrub results => Sys2Proof.Machine.execVoteScrub results s
  | .crewWatchdog core => Sys2Proof.Machine.execCrewWatchdog core s
  | .faultInject p m => Sys2Proof.Machine.execFaultInject p m s
  | .heartbeatSend => Sys2Proof.Machine.execHeartbeatSend s
  | .mirHeartbeat link hb => Sys2Proof.Machine.execMirHeartbeat link hb s
  | .pairLinkSilence link => Sys2Proof.Machine.execPairLinkSilence link s
  | .pairSilence => Sys2Proof.Machine.execPairSilence s
  | .claimNotice n => Sys2Proof.Machine.execClaimNotice n s
  | .claimAtomicWindowEnd => Sys2Proof.Machine.execClaimAtomicWindowEnd s
  | .claimRecordClear => Sys2Proof.Machine.execClaimRecordClear s
  | .claimRepeat => Sys2Proof.Machine.execClaimRepeat s
  | .pairSoloTimeout => Sys2Proof.Machine.execPairSoloTimeout s
  | .mirStore m => Sys2Proof.Machine.execMirStore m s
  | .mirWord m => Sys2Proof.Machine.execMirWord m s
  | .mirConfirm mseq => Sys2Proof.Machine.execMirConfirm mseq s
  | .mirState r => Sys2Proof.Machine.execMirState r s
  | .mirResync offset d0 d1 d2 => Sys2Proof.Machine.execMirResync offset d0 d1 d2 s
  | .resyncComplete => Sys2Proof.Machine.execResyncComplete s
  | .pairHandover p => Sys2Proof.Machine.execPairHandover p s
  | .powerUp ms coolant => Sys2Proof.Machine.execPowerUp ms coolant s
  | .resetAssert pin => Sys2Proof.Machine.execResetAssert pin s
  | .bootPhase2 => Sys2Proof.Machine.execBootPhase2 s
  | .bootPhase3 a b => Sys2Proof.Machine.execBootPhase3 a b s
  | .bootPhase4 install c0 c1 => Sys2Proof.Machine.execBootPhase4 install c0 c1 s
  | .bootPhase5 stitches skews => Sys2Proof.Machine.execBootPhase5 stitches skews s
  | .bootPhase6 absent failed levels => Sys2Proof.Machine.execBootPhase6 absent failed levels s
  | .bootPhase7 found lost => Sys2Proof.Machine.execBootPhase7 found lost s
  | .bootPhase8 failed => Sys2Proof.Machine.execBootPhase8 failed s
  | .bootPhase9 => Sys2Proof.Machine.execBootPhase9 s
  | .bootPhase10 => Sys2Proof.Machine.execBootPhase10 s
  | .bootPhase11 => Sys2Proof.Machine.execBootPhase11 s
  | .restart p => Sys2Proof.Machine.execRestart p s
  | .dark p => Sys2Proof.Machine.execDark p s
  | .wake p => Sys2Proof.Machine.execWake p s
  | .scriptCheck p => Sys2Proof.Machine.execScriptCheck p s
  | .scriptCheckComplete c => Sys2Proof.Machine.execScriptCheckComplete c s
  | .flashReadPage p => Sys2Proof.Machine.execFlashReadPage p s
  | .flashProgram p => Sys2Proof.Machine.execFlashProgram p s
  | .flashErase p => Sys2Proof.Machine.execFlashErase p s
  | .flashOpComplete ok => Sys2Proof.Machine.execFlashOpComplete ok s
  | .keyExchange eid via cert => Sys2Proof.Machine.execKeyExchange eid via cert s
  | .endSession n => Sys2Proof.Machine.execEndSession n s
  | .sessionHeartbeatMiss n => Sys2Proof.Machine.execSessionHeartbeatMiss n s
  | .spdmRequest n req => Sys2Proof.Machine.execSpdmRequest n req s
  | .roleReenrolArm p => Sys2Proof.Machine.execRoleReenrolArm p s
  | .facModeEnter p install => Sys2Proof.Machine.execFacModeEnter p install s
  | .jobStart p j => Sys2Proof.Machine.execJobStart p j s
  | .jobEnd p j => Sys2Proof.Machine.execJobEnd p j s
  | .jobEndComplete j => Sys2Proof.Machine.execJobEndComplete j s
  | .jobClear p j => Sys2Proof.Machine.execJobClear p j s
  | .auditArchive ok => Sys2Proof.Machine.execAuditArchive ok s
  | .continuitySweep => Sys2Proof.Machine.execContinuitySweep s
  | .continuity node digest selfMatch => Sys2Proof.Machine.execContinuity node digest selfMatch s
  | .continuityPartnerSilence partner => Sys2Proof.Machine.execContinuityPartnerSilence partner s
  | .updBegin n image version svn pieces key ok => Sys2Proof.Machine.execUpdBegin n image version svn pieces key ok s
  | .updPiece n image index data tag tagOk ok => Sys2Proof.Machine.execUpdPiece n image index data tag tagOk ok s
  | .updQuery n => Sys2Proof.Machine.execUpdQuery n s
  | .updAbort n image => Sys2Proof.Machine.execUpdAbort n image s
  | .updActivate p => Sys2Proof.Machine.execUpdActivate p s
  | .updCtrlAbort p => Sys2Proof.Machine.execUpdCtrlAbort p s
  | .activationComplete c => Sys2Proof.Machine.execActivationComplete c s
  | .csRead session addr count => Sys2Proof.Machine.execCsRead session addr count s
  | .csWrite session addr data => Sys2Proof.Machine.execCsWrite session addr data s
  | .mgtCsRead site addr tag => Sys2Proof.Machine.execMgtCsRead site addr tag s
  | .mgtCsWrite site addr tag data => Sys2Proof.Machine.execMgtCsWrite site addr tag data s
  | .spdmFrag site msg line length data => Sys2Proof.Machine.execSpdmFrag site msg line length data s
  | .registerWrite p addr data => Sys2Proof.Machine.execRegisterWrite p addr data s
  | .rcRead p addr => Sys2Proof.Machine.execRcRead p addr s
  | .loReadLatch p addr => Sys2Proof.Machine.execLoReadLatch p addr s
  | .slateCommit p addr data => Sys2Proof.Machine.execSlateCommit p addr data s
  | .slateApply => Sys2Proof.Machine.execSlateApply s
  | .daily => Sys2Proof.Machine.execDaily s
  | .tsiClockFail site module => Sys2Proof.Machine.execTsiClockFail site module s
  | .narrowingComplete site module => Sys2Proof.Machine.execNarrowingComplete site module s
  | .siteRateFallbackEnd site notInFlit => Sys2Proof.Machine.execSiteRateFallbackEnd site notInFlit s
  | .memRateFallbackDone ms ok => Sys2Proof.Machine.execMemRateFallbackDone ms ok s
  | .sidebandWordError site => Sys2Proof.Machine.execSidebandWordError site s
  | .vddIoRemoved => Sys2Proof.Machine.execVddIoRemoved s
  | .entdaa address => Sys2Proof.Machine.execEntdaa address s
  | .tapInstruction ir => Sys2Proof.Machine.execTapInstruction ir s
  | .podFlitSend link lane => Sys2Proof.Machine.execPodFlitSend link lane s

end Sys2Proof.Machine
end

