-- ==== Sys2Proof/Machine/Touches.lean ====
section
/-! DEFINITION. Which parts of the state each command may change: everything else it leaves as it was. -/

namespace Sys2Proof.Machine

open Sys2Proof

/-- The parts of the state that commands change: the clock, the blocks of control space, the site interfaces, pins and outputs. -/
inductive Piece where
  | now | tc | slu | mrc | mem | blk | mpd | grp | mst | tsi | pod | foc | thm | gaf | flt | pair | role | boot | csp | tel | ident | pins | out
deriving DecidableEq, Repr

/-- A part is the same in two states. -/
def Piece.same (p : Piece) (s t : State) : Prop :=
  match p with
  | .now => t.now = s.now
  | .tc => t.tc = s.tc
  | .slu => t.slu = s.slu
  | .mrc => t.mrc = s.mrc
  | .mem => t.mem = s.mem
  | .blk => t.blk = s.blk
  | .mpd => t.mpd = s.mpd
  | .grp => t.grp = s.grp
  | .mst => t.mst = s.mst
  | .tsi => t.tsi = s.tsi
  | .pod => t.pod = s.pod
  | .foc => t.foc = s.foc
  | .thm => t.thm = s.thm
  | .gaf => t.gaf = s.gaf
  | .flt => t.flt = s.flt
  | .pair => t.pair = s.pair
  | .role => t.role = s.role
  | .boot => t.boot = s.boot
  | .csp => t.csp = s.csp
  | .tel => t.tel = s.tel
  | .ident => t.ident = s.ident
  | .pins => t.pins = s.pins
  | .out => t.out = s.out

/-- The parts that a command may change, whatever its operands and the state (95_what_each_step_holds). -/
def touches (c : Instr) : List Piece :=
  match c with
  | .timecodeTick .. => [.now, .tc, .mrc, .mem, .blk, .mpd, .tsi, .pod, .gaf, .flt, .boot, .pins, .out]
  | .timeCorrectionStep .. | .reelStop .. => [.tc]
  | .refclkLoss | .refclkHoldoverExpiry | .stitchRemeasure .. | .clapperWindowClose => [.tc, .flt, .pins]
  | .frameBoundary .. => [.tc, .slu, .mem, .mpd, .grp, .mst, .tsi, .pod, .gaf, .flt, .pins, .out]
  | .preambleReceived .. | .drainEnd => [.slu, .flt, .pins]
  | .splice => [.tc, .slu, .mrc, .mem, .grp, .tsi, .pod, .gaf, .flt, .role, .pins, .out]
  | .swapArm .. => [.tc, .slu, .tsi, .pod, .out]
  | .swapCancel .. | .reelStoreWrite .. | .reelClear .. => [.tc, .slu]
  | .reelStart .. => [.tc, .slu, .mem, .grp, .tsi, .gaf, .flt, .role, .pins, .out]
  | .clapperPulse => [.tc, .flt, .pins, .out]
  | .followFirstPass | .clapperStartTimeout => [.tc, .slu, .mem, .tsi, .gaf, .flt, .pins, .out]
  | .slackShortTimeout .. | .fltAlertAck .. | .voteScrub .. => [.flt, .pins]
  | .tcPauseReq .. => [.tc, .tsi, .pair, .role, .out]
  | .pauseWindowStart .. => [.tc, .mem, .tsi, .flt, .pins]
  | .pauseComplete .. | .pauseTimeout .. =>
    [.tc, .slu, .mrc, .mem, .blk, .mpd, .grp, .mst, .tsi, .pod, .flt, .pair, .csp, .ident, .pins, .out]
  | .sluiceFlitReceive .. => [.slu, .mrc, .mem, .mpd, .grp, .mst, .gaf, .flt, .pins]
  | .siteStreamForward .. => [.slu, .mpd, .tsi, .pod, .flt, .pins]
  | .reelCheck .. => [.slu]
  | .reelCheckComplete => [.tc, .slu, .pair, .role]
  | .millraceFlitSend .. => [.mrc, .mem, .gaf]
  | .millraceFlitReceive .. => [.mrc, .mem, .tsi, .pod, .gaf, .flt, .pins, .out]
  | .selfDelivery .. => [.mrc, .mem, .tsi, .pod, .out]
  | .millraceLambdaOut .. => [.mrc, .flt, .pins]
  | .spareRemapComplete .. | .peakClearSelected .. => [.mrc]
  | .peakClearAll .. => [.mrc, .pod]
  | .memRequestIssue .. | .storeData .. | .descriptorComplete .. | .claimNotice .. =>
    [.mrc, .mem, .blk, .mpd, .grp, .mst, .tsi, .flt, .pair, .pins]
  | .timeoutSweep | .blockFetchResponse .. => [.mrc, .mem, .blk, .mpd, .grp, .mst, .tsi, .flt, .pins]
  | .load .. | .store .. | .addI64 .. | .addF32x2 .. | .swap .. | .cas .. | .maxI64 .. | .minI64 ..
  | .maxF32x2 .. | .minF32x2 .. | .mirHeartbeat .. | .pairSoloTimeout | .mirConfirm .. =>
    [.mrc, .mem, .blk, .mpd, .grp, .pod, .gaf, .flt, .pair, .pins]
  | .loadData .. => [.slu, .mrc, .mem, .blk, .mpd, .grp, .mst, .tsi, .pod, .flt, .pins]
  | .ack .. => [.mrc, .mem, .blk, .mpd, .grp, .mst, .tsi, .pod, .flt, .pins]
  | .patrolScrub .. | .stackLaneFail .. | .crewWatchdog .. => [.mem, .flt, .pins]
  | .epochEnd | .regionRelease .. | .regionReleaseComplete .. => [.blk]
  | .regionDeclare .. => [.blk, .pair, .csp]
  | .gripDescriptorStart .. | .watchArm .. => [.grp]
  | .queueEnable .. => [.mem, .grp, .csp]
  | .queueDisable .. => [.grp, .csp]
  | .queueReset .. => [.mem, .grp]
  | .watchNotice .. => [.mrc, .grp]
  | .colHdr .. => [.mrc, .mst, .pod]
  | .colLine .. => [.mrc, .mem, .mpd, .grp, .mst, .pod, .flt, .pins]
  | .groupFinish .. => [.slu, .mrc, .mem, .mpd, .grp, .mst, .flt, .pins]
  | .chunkComplete .. => [.mem, .mpd, .grp, .mst, .flt, .pair, .pins]
  | .dueTick .. => [.mrc, .mst, .tsi, .gaf, .flt, .pins, .out]
  | .lateLimitExpiry .. => [.mrc, .mpd, .mst, .tsi, .gaf, .flt, .pins, .out]
  | .laneRateMeasure .. => [.mst, .flt, .pins]
  | .contextSetup .. | .contextConstants .. => [.mst]
  | .contextAbort .. | .contextFree .. => [.slu, .mem, .mpd, .grp, .mst, .flt, .pair, .pins]
  | .sitePowerUp .. => [.tsi, .pins, .out]
  | .vsiteReq .. | .vsiteStep .. | .trimInterval .. | .streamCredit .. | .cap .. | .moduleOffAck .. => [.tsi]
  | .siteOvervolt .. | .siteUndervolt .. | .siteOvercurrent .. | .tsiPowerBumpFail .. | .sidebandLost ..
  | .tsiClockFail .. => [.tsi, .flt, .pins]
  | .siteTraining .. => [.tsi, .flt, .ident, .pins]
  | .tsiLaneTapWrite .. | .tsiTrimFreeze .. => [.tsi, .pair, .role]
  | .laneFailing .. | .spareCompareDone .. | .laneFail .. | .narrowingComplete .. | .siteRateFallbackEnd .. =>
    [.tsi, .flt, .ident, .pins, .out]
  | .tsiFlitReceive .. => [.slu, .mrc, .mem, .blk, .mpd, .grp, .mst, .tsi, .pod, .flt, .pair, .csp, .ident, .pins, .out]
  | .regWrite .. | .csWrite .. | .mgtCsWrite .. | .registerWrite .. =>
    [.tc, .slu, .mrc, .mem, .blk, .mpd, .grp, .mst, .tsi, .pod, .foc, .thm, .gaf, .flt, .pair, .role, .boot, .csp, .tel, .ident, .pins, .out]
  | .nakTimeout .. => [.mrc, .tsi, .pod]
  | .hopperRelease .. | .flowOpen .. => [.mrc, .tsi, .pod, .out]
  | .signal .. => [.mrc, .tsi]
  | .streamLine .. => [.slu, .tsi]
  | .helloAck .. | .resend .. | .sidebandWordError .. => [.tsi, .out]
  | .capEnd .. => [.tsi, .flt, .pins, .out]
  | .regRead .. | .csRead .. | .rcRead .. | .loReadLatch .. =>
    [.tc, .slu, .mrc, .mem, .blk, .mpd, .grp, .mst, .tsi, .pod, .foc, .gaf, .flt, .pair, .role, .csp, .tel, .out]
  | .temp .. => [.tsi, .gaf]
  | .pauseReq .. => [.tc, .tsi, .out]
  | .slewReq .. => [.tsi, .gaf, .out]
  | .budgetReleaseRetry | .vmillRaiseStep | .vmillLowerStep | .energyAttribution .. => [.gaf, .out]
  | .podFlitReceive .. =>
    [.tc, .slu, .mrc, .mem, .blk, .mpd, .grp, .mst, .tsi, .pod, .gaf, .flt, .pair, .role, .ident, .pins, .out]
  | .linkTraining .. | .laneMap .. => [.pod, .flt, .ident, .pins, .out]
  | .linkHello .. | .quarantineEval => [.pod, .flt, .ident, .pins]
  | .laneDrop .. | .laneMapRetry .. | .flowAckTimer .. | .timeRequestSend .. | .podFlitSend .. => [.pod, .out]
  | .route .. => [.pod, .flt, .out]
  | .flowAck .. => [.mrc, .tsi, .pod, .flt, .out]
  | .fwdMessage .. => [.mrc, .pod, .flt, .pins]
  | .time .. => [.tc, .pod, .flt, .out]
  | .timeLinkTimeout .. => [.tc, .pod, .flt, .pins]
  | .podRtCheck .. => [.pod, .pair, .role]
  | .routeCheckComplete => [.pod]
  | .podRtSwap .. => [.mrc, .tsi, .pod, .flt, .pair, .role, .out]
  | .podRtCancel .. | .podRtCopy .. => [.mrc, .tsi, .pod, .pair, .role, .out]
  | .routeDrainEnd => [.mrc, .tsi, .pod, .flt, .role, .out]
  | .quarantineTimeout .. => [.pod, .flt, .ident]
  | .podQuarClear .. => [.pod, .flt, .pair, .role, .ident]
  | .lsInt .. | .laserModulePoll .. | .resweepComplete .. | .headroomEval .. => [.foc, .flt, .pins]
  | .focusUpdate .. | .focusLockLost .. | .focusTrimInterval .. => [.foc]
  | .focusSearchTimeout .. | .focusRange .. | .identityCheck .. => [.slu, .mrc, .mem, .pod, .foc, .flt, .ident, .pins, .out]
  | .feedLow .. => [.slu, .mem, .foc, .flt, .ident, .pins]
  | .focTrimFreeze .. | .warmSave .. => [.foc, .pair, .role]
  | .warmSaveComplete .. => [.foc, .boot]
  | .sensorSample .. | .coolantStop => [.tsi, .thm, .gaf, .flt, .pins]
  | .sensorFail .. | .stackTempRead .. => [.thm, .flt, .pins]
  | .thermtripRelease | .coolantRestart | .resetAssert .. | .restart .. | .vddIoRemoved =>
    [.tc, .slu, .mrc, .mem, .blk, .mpd, .grp, .mst, .tsi, .pod, .foc, .thm, .gaf, .flt, .pair, .role, .boot, .csp, .tel, .ident, .pins]
  | .warmupEnd => [.thm, .boot]
  | .lowTempReturn .. => [.mrc, .mem, .grp, .mst, .tsi, .pod, .foc, .thm, .gaf, .flt, .ident, .pins, .out]
  | .throttleStep | .tempCeilingStep .. | .gafferEvaluation | .gafferDivide | .budgetExpiry
  | .budgetExcessRelease | .paceNoticeTimer .. => [.mrc, .tsi, .gaf, .flt, .pins, .out]
  | .siteOvertemp .. => [.tsi, .gaf, .flt, .pins]
  | .limitCheck .. => [.tsi, .gaf, .flt, .out]
  | .clampRelease .. | .slewGuardEnd .. | .budgetReleaseAck .. => [.gaf]
  | .pmbusFail => [.gaf, .flt, .pins]
  | .pmbusAlert | .tapInstruction .. => [.pins, .out]
  | .sitePowerSample .. => [.tsi, .gaf, .flt]
  | .budgetGrant .. => [.mrc, .mem, .tsi, .gaf, .flt, .pins, .out]
  | .budgetQuery .. | .updQuery .. => [.out]
  | .paceNotice .. | .paceNoticeExpiry .. => [.tsi, .gaf, .flt, .pins, .out]
  | .faultMessage .. =>
    [.slu, .mrc, .mem, .blk, .mpd, .grp, .mst, .tsi, .pod, .foc, .gaf, .flt, .pair, .csp, .ident, .pins, .out]
  | .fenceRetry .. => [.flt]
  | .retryComplete .. => [.mrc, .mem, .grp, .mst, .tsi, .pod, .foc, .thm, .gaf, .flt, .csp, .ident, .pins, .out]
  | .fltFenceClear .. | .fltFirstClear .. | .fltOuttakeUnfreeze .. => [.flt, .pair, .role]
  | .faultInject .. => [.mem, .flt, .pair, .role]
  | .heartbeatSend | .mirStore .. | .mirWord .. => [.mem, .pod, .flt, .pair, .pins, .out]
  | .pairLinkSilence .. => [.flt, .pair, .pins]
  | .pairSilence | .resyncComplete => [.mrc, .mem, .blk, .mpd, .grp, .mst, .tsi, .pod, .flt, .pair, .pins]
  | .claimAtomicWindowEnd => [.mrc, .mem, .blk, .mpd, .grp, .mst, .tsi, .pod, .gaf, .flt, .pair, .pins]
  | .claimRecordClear => [.pair]
  | .mirState .. => [.mem, .grp, .pair]
  | .claimRepeat => [.pod, .pair]
  | .mirResync .. => [.mem, .pair]
  | .pairHandover .. => [.mrc, .mem, .blk, .mpd, .grp, .mst, .tsi, .pod, .flt, .pair, .role, .pins]
  | .powerUp .. => [.mpd, .boot, .pins]
  | .bootPhase2 => [.mem, .mpd, .thm, .flt, .pair, .role, .boot, .pins]
  | .bootPhase3 .. => [.flt, .boot, .ident, .pins]
  | .bootPhase4 .. => [.tc, .slu, .mem, .blk, .mpd, .tsi, .pod, .foc, .gaf, .flt, .pair, .role, .boot, .ident, .pins]
  | .bootPhase5 .. => [.tc, .flt, .boot, .pins]
  | .bootPhase6 .. => [.slu, .mem, .foc, .flt, .boot, .ident, .pins]
  | .bootPhase7 .. => [.slu, .mrc, .mem, .tsi, .pod, .foc, .flt, .boot, .ident, .pins, .out]
  | .bootPhase8 .. => [.mem, .flt, .boot, .ident, .pins]
  | .bootPhase9 => [.tsi, .flt, .boot, .pins]
  | .bootPhase10 => [.tc, .blk, .pod, .gaf, .flt, .boot, .tel, .pins]
  | .bootPhase11 => [.pod, .thm, .flt, .pair, .role, .boot, .ident, .pins]
  | .dark .. => [.tc, .slu, .mem, .tsi, .pod, .pair, .role, .boot, .csp, .ident, .pins]
  | .wake .. => [.tc, .slu, .mrc, .mem, .blk, .mpd, .grp, .mst, .tsi, .pod, .foc, .gaf, .pair, .role, .boot, .csp, .tel, .ident]
  | .scriptCheck .. | .scriptCheckComplete .. | .flashReadPage .. | .flashProgram .. | .flashErase ..
  | .updActivate .. | .updCtrlAbort .. => [.pair, .role, .boot]
  | .flashOpComplete .. => [.mem, .boot]
  | .keyExchange .. => [.pair, .role, .boot, .out]
  | .endSession .. => [.role, .csp, .out]
  | .sessionHeartbeatMiss .. => [.role, .csp]
  | .spdmRequest .. => [.role, .out]
  | .roleReenrolArm .. => [.pair, .role]
  | .facModeEnter .. => [.flt, .pair, .role, .pins]
  | .jobStart .. => [.mrc, .tsi, .gaf, .flt, .pair, .role, .pins, .out]
  | .jobEnd .. => [.slu, .mrc, .mem, .blk, .mpd, .grp, .mst, .tsi, .gaf, .flt, .pair, .role, .pins, .out]
  | .jobEndComplete .. | .jobClear .. | .continuityPartnerSilence .. => [.role]
  | .auditArchive .. => [.flt, .role, .boot, .pins]
  | .continuitySweep => [.pod, .role]
  | .continuity .. => [.flt, .role]
  | .updBegin .. => [.boot, .out]
  | .updPiece .. => [.flt, .boot, .out]
  | .updAbort .. => [.boot]
  | .activationComplete .. => [.flt, .pair, .role, .boot, .pins]
  | .mgtCsRead .. =>
    [.tc, .slu, .mrc, .mem, .blk, .mpd, .grp, .mst, .tsi, .pod, .foc, .gaf, .flt, .pair, .role, .csp, .tel, .pins]
  | .spdmFrag .. => [.csp]
  | .slateCommit .. => [.pair, .role, .csp]
  | .slateApply => [.tc, .slu, .mrc, .mem, .blk, .mpd, .grp, .mst, .tsi, .foc, .gaf, .flt, .pair, .role, .csp, .pins, .out]
  | .daily => [.mem, .mpd, .grp, .tel]
  | .memRateFallbackDone .. => [.tc, .mem, .flt, .pins]
  | .entdaa .. => [.pins]

end Sys2Proof.Machine
end

