-- ==== Sys2Proof/Safety.lean ====
section
/-! DEFINITION. What the claims call a good state and a good step: memory in its one canonical form, fault messages that
carry a code of R379, and a step that ends in a next state. -/

namespace Sys2Proof.Machine

open Sys2Proof

/-- The pool and the millpond are held in the one canonical form, so that equal memories are equal data. -/
def State.memOk (s : State) : Prop := Memory.wf s.mem.cells = true

/-- A step goes on. -/
def goesOn (o : Out) : Prop := ∃ t : State, o = .next t

/-- A request that its home may serve now (R129, R130, R175, R378, R391, R397): the home holds it and takes it from its
receive buffer, which leaves `u`; its station is not in a pause; the millpond is cleared or the request is for the pool; no
claim's record answers it; and the set's rule lets it be served. A direct access notes its turn at the bank it goes to. -/
def servedAt (op : MemOp) (q : MemReq) (s u : State) : Prop :=
  q.req.op = op ∧ stationRests s (serveStation s q) = false
    ∧ (s.mpd.cleared = true ∨ ∃ o, zoneOf s (innerReq s q) (addrOff q.req.addr) = .pool o)
    ∧ ∃ t, accept (serveStation s q) q s = some t ∧ (op = .load ∨ recordOf t q = none)
      ∧ setRule t q (addrOff q.req.addr) = .serve ∧ u = bankTurn q t

/-- A word of the pool at offset `o` that an atomic may change: its home is in order, no region of its own node covers it,
its line is not poisoned and no
symbol of it is in error, and no pair mirrors it (R130, R137, R140, R154, R392). -/
def poolWordOk (q : MemReq) (u : State) (o : Nat) : Prop :=
  zoneOf u false (addrOff q.req.addr) = .pool o ∧ stillsHome u o = false ∧ memFenced u (homeOf u o) = false
    ∧ (msSt u (homeOf u o)).poisonHome = false ∧ poisonOf u o = false
    ∧ tget [] u.mem.symErrs (o / 64) = [] ∧ u.pair.role = .none

/-- A word of the millpond at bank offset `o` that an atomic may change: its bank is in order, the word is good, and it is
neither telemetry's nor a queue's (R130, R172, R178, R460). -/
def millWordOk (q : MemReq) (u : State) (o : Nat) : Prop :=
  zoneOf u false (addrOff q.req.addr) = .mill o ∧ bankFenced u (bankAt o) = false ∧ dailyRange o = false
    ∧ wordBad u (o / 8) = false ∧ queueAtLine u (o / 64) = none

end Sys2Proof.Machine
end

