-- ==== Sys2Proof/Certificates/Slice0/Obligations.lean ====
section
/-! DEFINITION. The statements for the provers, one definition each. Each says what commands do, in the terms of the manual's
rules; its docstring names them. A clause `exec c s = .next t` says that the command completes, and every part of `s` that `t` does
not rewrite is as it was. -/

section

open Sys2Proof Sys2Proof.Machine

/-- O1. The timecode ticks and is corrected; REFCLK's loss, the end of its holdover, and the stitch measurement
(02_timecode, 17_package). A tick advances the timecode by one, or as the correction step due has it (zero or two),
and the count of the domain by one, in safe state too; before the copies are released only the count moves. It ends
the pulse on CLAP_OUT when its 16 ns are over, and the flash's reset when its 10 µs are over. A correction step that
is due, at most one in 5 µs and toward the pod's time, is noted and counted. A lost REFCLK starts the holdover and,
100 µs later, brings REFCLK_LOST and safe state. A stitch measurement replaces the largest difference, and one of at
most 1 ns raises nothing. Every state value not named is unchanged. -/
def Obligations.TimecodeAndReferenceClock : Prop :=
  (∀ (crew : List CrewAccess) (s : State), s.tc.fieldsAligned = true → ∃ t, exec (.timecodeTick crew) s = .next t
    ∧ t.now = s.now + 1
    ∧ t.tc = { s.tc with timecode := s.tc.timecode + BitVec.ofInt 64 (1 + s.tc.stepDue), stepDue := 0, clapFall := t.tc.clapFall }
    ∧ (∀ x, s.tc.clapFall = some x → x ≤ s.now + 1 → t.pins.clapOut = false ∧ t.tc.clapFall = none)
    ∧ t = { s with now := t.now, tc := t.tc, mrc := t.mrc, mem := t.mem, blk := t.blk, mpd := t.mpd, tsi := t.tsi, pod := t.pod
                   gaf := t.gaf, flt := t.flt, boot := t.boot, pins := t.pins, out := t.out })
  ∧ (∀ s : State, s.tc.fieldsAligned = false → s.tc.clapFall = none → s.boot.xspiRise = none
      → exec (.timecodeTick []) s = .next { s with now := s.now + 1 })
  ∧ (∀ (s : State) (x : Tick), s.tc.fieldsAligned = false → s.tc.clapFall = none → s.boot.xspiRise = some x → x ≤ s.now + 1
      → exec (.timecodeTick []) s = .next { s with
          now := s.now + 1
          boot := { s.boot with flashDdr := true, xspiRise := none }
          pins := { s.pins with xspiResetN := true } })
  ∧ (∀ (plus : Bool) (s : State), s.flt.safe = false → s.boot.ready = true → (∀ x, s.tc.lastStep = some x → x + 5000 ≤ s.now)
      → (if plus then 0 < s.tc.diff else s.tc.diff < 0)
      → exec (.timeCorrectionStep plus) s = .next { s with tc := { s.tc with
          lastStep := some s.now
          stepDue := if plus then 1 else -1
          diff := if plus then s.tc.diff - 1 else s.tc.diff + 1
          plusSteps := if plus then s.tc.plusSteps + 1 else s.tc.plusSteps
          minusSteps := if plus then s.tc.minusSteps else s.tc.minusSteps + 1 } })
  ∧ (∀ s : State, s.flt.safe = false → s.tc.fieldsAligned = true → s.tc.refclkLost = none
      → exec .refclkLoss s = .next { s with tc := { s.tc with refclkLost := some s.now } })
  ∧ (∀ (s : State) (x : Tick), s.flt.safe = false → s.tc.refclkLost = some x → x + 100000 ≤ s.now
      → ∃ t, exec .refclkHoldoverExpiry s = .next t
        ∧ t.flt = { s.flt with net := s.flt.net ++ [mkMsg s .refclkLost 10 0 0], safe := true, fatal := true }
        ∧ t.pins = { s.pins with siteRstHigh := [], lsEn := false, faultN := false }
        ∧ t = { s with tc := { s.tc with refclkLost := none }, flt := t.flt, pins := t.pins })
  ∧ (∀ (skews : List (Nat × Nat)) (s : State), s.flt.safe = false → s.tc.fieldsAligned = true → s.tc.nextStitch ≤ s.now
      → (skews.map (·.2)).foldl max 0 ≤ 16
      → exec (.stitchRemeasure skews) s = .next { s with tc := { s.tc with
          maxSkew := BitVec.ofNat 8 ((skews.map (·.2)).foldl max 0)
          nextStitch := s.now + 1000000 } })

/-- O2. A reel starts, runs frame by frame and pass by pass, swaps slots when armed, and stops at a splice (02_timecode,
03_sluice). A frame boundary of the active reel begins the next frame at its tick; with no reel active the boundaries
fall at whole multiples of 2,048 of the timecode. The splice after the last frame begins the next pass at its own
tick, counts the pass and records its time, or, after STOP, ends the reel. START takes a checked next slot, or the
reel that STOP kept, with every pointer at its first line, at once, or waits for a pulse in follow mode. STOP acts at
the next splice. SWAP_ARM between jobs arms the swap, SWAP_CANCEL withdraws it. In source mode a splice sends a pulse
of 16 ticks on CLAP_OUT. That the kept reel goes on with its count of passes is the model's choice (log entry 94). -/
def Obligations.ReelsStartRunSwapAndStop : Prop :=
  (∀ (env : FrameEnv) (s : State), s.flt.safe = false → reelActive s = true → s.tc.frame < passFrames s s.tc.activeSlot
      → s.tc.passStart + s.tc.frame * frameLen s s.tc.activeSlot ≤ s.now
      → ∃ t, exec (.frameBoundary env) s = .next t
        ∧ t.tc = { s.tc with
            frame := s.tc.frame + 1
            frameNo := s.tc.frameNo + 1
            lastBoundary := s.tc.passStart + s.tc.frame * frameLen s s.tc.activeSlot
            slack := t.tc.slack })
  ∧ (∀ (env : FrameEnv) (s : State), s.flt.safe = false → reelActive s = false → s.tc.idleDone < s.tc.timecode.toNat / 2048
      → ∃ t, exec (.frameBoundary env) s = .next t
        ∧ t.tc = { s.tc with
            idleDone := s.tc.timecode.toNat / 2048
            frameNo := s.tc.frameNo + 1
            lastBoundary := s.now }
        ∧ t.slu = s.slu ∧ t.pod = s.pod ∧ t.tsi = s.tsi ∧ t.out = s.out)
  ∧ (∀ s : State, s.flt.safe = false → s.tc.reel = .running → passFrames s s.tc.activeSlot ≤ s.tc.frame → s.tc.swapArm = false
      → s.tc.passStart + passFrames s s.tc.activeSlot * frameLen s s.tc.activeSlot + s.tc.spliceLen ≤ s.now
      → ∃ t, exec .splice s = .next t
        ∧ t.tc.passStart = s.tc.passStart + passFrames s s.tc.activeSlot * frameLen s s.tc.activeSlot + s.tc.spliceLen
        ∧ t.tc.frame = 0 ∧ t.tc.spliceNo = s.tc.spliceNo + 1 ∧ t.tc.passCount = s.tc.passCount + 1
        ∧ t.tc.spliceTime = s.tc.timecode ∧ t.tc.spliceLen = (16 + tget 0 s.tc.pulls (s.tc.spliceNo + 1)).toNat
        ∧ t.tc.reel = .running ∧ t.tc.activeSlot = s.tc.activeSlot ∧ t.slu.lit = []
        ∧ (s.tc.clapMode = 2 → t.pins.clapOut = true ∧ t.tc.clapFall = some (t.tc.passStart + 16)))
  ∧ (∀ s : State, s.flt.safe = false → s.tc.reel = .stopping → passFrames s s.tc.activeSlot ≤ s.tc.frame
      → s.tc.passStart + passFrames s s.tc.activeSlot * frameLen s s.tc.activeSlot + s.tc.spliceLen ≤ s.now
      → ∃ t, exec .splice s = .next t
        ∧ t.tc = { s.tc with
            passCount := s.tc.passCount + 1
            spliceTime := s.tc.timecode
            reel := .noReel
            kept := true
            frame := 0
            clapSeen := []
            clapFall := t.tc.clapFall
            pulls := []
            idleDone := s.tc.timecode.toNat / 2048 }
        ∧ t.slu.lit = [] ∧ t.mem = s.mem ∧ (s.tc.clapMode = 2 → t.pins.clapOut = true))
  ∧ (∀ (p : Path) (s : State), mayWrite s p .o = true → s.tc.reel = .noReel → s.slu.next = .passed
      → (s.slu.tableMode || !reelOwned s (1 - s.tc.activeSlot)) = true
      → ∃ t, exec (.reelStart p) s = .next t
        ∧ t.tc.activeSlot = 1 - s.tc.activeSlot ∧ t.tc.startRefused = false ∧ t.tc.kept = false ∧ t.slu.next = .empty
        ∧ (s.tc.clapMode = 1 → t.tc.reel = .waiting ∧ t.tc.startWait = some s.now ∧ t.tc.clapState = .acquiring)
        ∧ (s.tc.clapMode ≠ 1 → t.tc.reel = .running ∧ t.tc.passStart = s.now ∧ t.tc.frame = 0 ∧ t.tc.spliceTime = s.tc.timecode))
  ∧ (∀ (p : Path) (s : State), mayWrite s p .o = true → s.tc.reel = .noReel → s.slu.next = .empty → s.tc.kept = true
      → (s.slu.tableMode || !reelOwned s s.tc.activeSlot) = true
      → ∃ t, exec (.reelStart p) s = .next t
        ∧ t.tc.activeSlot = s.tc.activeSlot ∧ t.tc.startRefused = false
        ∧ (s.tc.clapMode = 1 → t.tc.reel = .waiting ∧ t.slu.feeds = [] ∧ t.slu.lands = [] ∧ t.mem = s.mem)
        ∧ (s.tc.clapMode ≠ 1 → t.tc.reel = .running ∧ t.tc.passStart = s.now ∧ t.tc.frame = 0 ∧ t.tc.passCount = s.tc.passCount))
  ∧ (∀ (p : Path) (s : State), mayWrite s p .o = true → s.tc.reel ≠ .noReel
      → exec (.reelStart p) s = .next { s with tc := { s.tc with startRefused := true } })
  ∧ (∀ (p : Path) (s : State), mayWrite s p .o = true → s.tc.reel = .running
      → exec (.reelStop p) s = .next { s with tc := { s.tc with reel := .stopping } })
  ∧ (∀ (p : Path) (s : State), mayWrite s p .o = true → s.slu.swap = .none → s.slu.next = .passed → s.slu.tableMode = false
      → s.slu.affected.any (stationOwned s) = false
      → exec (.swapArm p) s = .next { s with
          tc := { s.tc with swapArm := true, armTick := s.now }
          slu := { s.slu with swap := .waiting, reason := 0, drained := s.now } })
  ∧ (∀ (p : Path) (s : State), mayWrite s p .o = true → s.slu.swap = .none → s.slu.next ≠ .passed
      → exec (.swapArm p) s = .next { s with
          tc := { s.tc with swapArm := false }
          slu := { s.slu with swap := .refused, reason := 2 } })
  ∧ (∀ (p : Path) (s : State), mayWrite s p .o = true → s.slu.swap = .draining ∨ s.slu.swap = .waiting
      → exec (.swapCancel p) s = .next { s with
          tc := { s.tc with swapArm := false, swapDeferred := false }
          slu := { s.slu with swap := .none, reason := 3 } })
  ∧ (∀ s : State, s.slu.swap = .draining → s.slu.affected = []
      → exec .drainEnd s = .next { s with slu := { s.slu with swap := .waiting, drained := s.now } })

/-- O3. Clapper pulses pull the splice or are violations, missed windows lose the clapper, and a waiting reel starts
(02_timecode, R56, R57, R58, R59). In follow mode a pulse inside an open window that is not lost resets the run of
missed windows and locks; a second pulse in a window, and one outside every window, counts as a violation; each shows
its offset. The first pulse while a START waits fixes the first pass. A window that closes with its pulse seen is
dropped; the third missed window in a row makes the clapper lost, once, with its message. The waiting reel starts at
the first pass, or free-running with the clapper lost after three nominal passes without a pulse. SLACK_SHORT is
raised once after 100 µs of low slack at the highest VDD_MILL. Every pulse is repeated on CLAP_OUT. -/
def Obligations.ClapperPullsAndIsLost : Prop :=
  (∀ (s : State) (k : Nat) (d : Int), s.flt.safe = false → s.tc.clapMode = 1 → s.tc.startWait = none → reelActive s = true
      → windowOf s = some (k, d) → s.tc.clapSeen.contains k = false → s.tc.clapState ≠ .lost
      → exec .clapperPulse s = .next { s with
          tc := { s.tc with
            run := 0, relock := 0, lastOffset := clampI (-128) 127 d, clapState := .locked
            clapSeen := k :: s.tc.clapSeen
            pulls := tset 0 s.tc.pulls k (clampI (-8) 8 d)
            spliceLen := if k = s.tc.spliceNo then (16 + clampI (-8) 8 d).toNat else s.tc.spliceLen }
          out := .clapPulse (s.now + 8) :: s.out })
  ∧ (∀ (s : State) (k : Nat) (d : Int), s.flt.safe = false → s.tc.clapMode = 1 → s.tc.startWait = none → reelActive s = true
      → windowOf s = some (k, d) → s.tc.clapSeen.contains k = true
      → exec .clapperPulse s = .next { s with
          tc := { s.tc with viol := sat32 s.tc.viol 1, lastOffset := clampI (-128) 127 d }
          flt := { s.flt with net := s.flt.net ++ [mkMsg s .partnerProtocol 10 1 0] }
          out := .clapPulse (s.now + 8) :: s.out })
  ∧ (∀ s : State, s.flt.safe = false → s.tc.clapMode = 1 → s.tc.startWait = none → reelActive s = true → windowOf s = none
      → exec .clapperPulse s = .next { s with
          tc := { s.tc with viol := sat32 s.tc.viol 1, lastOffset := clampI (-128) 127 (nearestOffset s) }
          flt := { s.flt with net := s.flt.net ++ [mkMsg s .partnerProtocol 10 1 0] }
          out := .clapPulse (s.now + 8) :: s.out })
  ∧ (∀ (s : State) (x : Tick), s.flt.safe = false → s.tc.clapMode = 1 → s.tc.startWait = some x → s.tc.firstPass = none
      → exec .clapperPulse s = .next { s with
          tc := { s.tc with firstPass := some ((s.now : Int) + (nominalPass s s.tc.activeSlot : Nat) - s.tc.clapOffset).toNat }
          out := .clapPulse (s.now + 8) :: s.out })
  ∧ (∀ s : State, s.flt.safe = false → s.tc.clapMode = 1 → reelActive s = true → 64 < arrivalOffset s s.tc.closeNo
      → s.tc.clapSeen.contains s.tc.closeNo = true
      → exec .clapperWindowClose s = .next { s with tc := { s.tc with
          closeNo := s.tc.closeNo + 1
          clapSeen := s.tc.clapSeen.filter (· != s.tc.closeNo) } })
  ∧ (∀ s : State, s.flt.safe = false → s.tc.clapMode = 1 → reelActive s = true → 64 < arrivalOffset s s.tc.closeNo
      → s.tc.clapSeen.contains s.tc.closeNo = false → s.tc.run = 2 → s.tc.clapState = .locked → standAddr s .clapperLost 1 = none
      → exec .clapperWindowClose s = .next { s with
          tc := { s.tc with
            closeNo := s.tc.closeNo + 1
            clapSeen := s.tc.clapSeen.filter (· != s.tc.closeNo)
            run := 3, relock := 0, clapState := .lost, pulls := [], spliceLen := 16 }
          flt := { s.flt with
            net := s.flt.net ++ [mkMsg s .clapperLost 10 1 0]
            standing := (.clapperLost, 1, 0) :: s.flt.standing } })
  ∧ (∀ (s : State) (x : Tick), s.flt.safe = false → s.tc.reel = .waiting → s.tc.firstPass = some x → x ≤ s.now
      → ∃ t, exec .followFirstPass s = .next t
        ∧ t.tc.reel = .running ∧ t.tc.passStart = x ∧ t.tc.frame = 0 ∧ t.tc.startWait = none ∧ t.tc.firstPass = none ∧ t.tc.kept = false
        ∧ t.tc.spliceNo = s.tc.spliceNo + 1 ∧ t.tc.spliceTime = s.tc.timecode ∧ t.tc.clapState = s.tc.clapState)
  ∧ (∀ (s : State) (x : Tick), s.flt.safe = false → s.tc.reel = .waiting → s.tc.startWait = some x → s.tc.firstPass = none
      → x + 3 * nominalPass s s.tc.activeSlot ≤ s.now → standAddr s .clapperLost 1 = none
      → ∃ t, exec .clapperStartTimeout s = .next t
        ∧ t.tc.reel = .running ∧ t.tc.passStart = s.now ∧ t.tc.frame = 0 ∧ t.tc.startWait = none ∧ t.tc.clapState = .lost
        ∧ (.clapperLost, 1, 0) ∈ t.flt.standing)
  ∧ (∀ (st : Nat) (s : State) (x : Tick), s.flt.safe = false → (tget {} s.tc.slack st).maxSince = some x → 850 ≤ s.gaf.vmill
      → x + 100000 ≤ s.now → standAddr s .slackShort st = none
      → exec (.slackShortTimeout st) s = .next { s with flt := { s.flt with
          net := s.flt.net ++ [mkMsg s .slackShort 0 st 0]
          standing := (.slackShort, st, 0) :: s.flt.standing } })

/-- O4. A pause is granted or refused, opens, changes the rate and ends, or falls back; stack lanes are repaired (R63,
R64, R65, R66, R138, R139, R243, R281). An installer's or a die's pause request is given the first dark window, told
to the die, or is refused with its reason. At the window the station stops; at the completion it returns at the new
rate; 6 µs on without completion a site returns at its old rate and a memory station retrains at 4.0 Gb/s, which ends
in MEM_RATE_FALLBACK or MEM_CHANNEL_FAIL. A failed stack lane with a spare waits for the next memory pause; without
one the channel fails. The patrol scrub moves on line by line. -/
def Obligations.PausesChangeTheRate : Prop :=
  (∀ (p : Path) (st rate n a b : Nat) (s : State), mayWrite s p .i = true → s.flt.safe = false → pausable s st = true → rate < 3
      → kindOf st = (.ss, n) → pauseOutcome s st rate = (0, some (a, b))
      → exec (.tcPauseReq p st rate) s = .next (audit (some p) 0x10 0x030050 (BitVec.ofNat 64 (st % 64 + 256 * (rate % 4)))
          (sideband n .pause [rate, 1, 0, a] { s with
            tc := { s.tc with
              pauses := tset {} s.tc.pauses st { st := .scheduled, rate := rate, start := a, windowEnd := b }
              pauseState := 1
              pauseStation := st
              pauseReason := 0
              pauseStart := s.tc.timecode + BitVec.ofNat 64 (a - s.now) } })))
  ∧ (∀ (p : Path) (st rate why : Nat) (s : State), mayWrite s p .i = true → s.flt.safe = false → pausable s st = true → rate < 3
      → pauseOutcome s st rate = (why, none)
      → exec (.tcPauseReq p st rate) s = .next (audit (some p) 0x10 0x030050 (BitVec.ofNat 64 (st % 64 + 256 * (rate % 4)))
          { s with tc := { s.tc with pauseState := 3, pauseStation := st, pauseReason := why } }))
  ∧ (∀ (n rate a b : Nat) (s : State), sbLive s n = true → bit (siteFeatures s n) 3 = true → s.flt.safe = false
      → pausable s (ssOf n) = true → rate < 3 → kindOf (ssOf n) = (.ss, n) → pauseOutcome s (ssOf n) rate = (0, some (a, b))
      → exec (.pauseReq n rate) s = .next (sideband n .pause [rate, 1, 0, a] { s with
          tc := { s.tc with
            pauses := tset {} s.tc.pauses (ssOf n) { st := .scheduled, rate := rate, start := a, windowEnd := b }
            pauseState := 1
            pauseStation := ssOf n
            pauseReason := 0
            pauseStart := s.tc.timecode + BitVec.ofNat 64 (a - s.now) } }))
  ∧ (∀ (n rate why : Nat) (s : State), sbLive s n = true → bit (siteFeatures s n) 3 = true → s.flt.safe = false
      → pausable s (ssOf n) = true → rate < 3 → pauseOutcome s (ssOf n) rate = (why, none)
      → exec (.pauseReq n rate) s = .next (sideband n .pause [rate, 0, why, 0] { s with
          tc := { s.tc with pauseState := 3, pauseStation := ssOf n, pauseReason := why } }))
  ∧ (∀ (p : Path) (st rate : Nat) (s : State), pausable s st = false ∨ 3 ≤ rate
      → exec (.tcPauseReq p st rate) s = .next s)
  ∧ (∀ (st n : Nat) (s : State), s.flt.safe = false → (tget {} s.tc.pauses st).st = .scheduled → (tget {} s.tc.pauses st).start ≤ s.now
      → kindOf st = (.ss, n)
      → exec (.pauseWindowStart st) s = .next { s with
          tc := { s.tc with
            pauses := tset {} s.tc.pauses st { tget {} s.tc.pauses st with st := .running }
            pauseState := if s.tc.pauseStation = st then 2 else s.tc.pauseState }
          tsi := tupd {} s.tsi n (fun x => { x with st := 4, oldRate := x.rate }) })
  ∧ (∀ (st m : Nat) (s : State), s.flt.safe = false → (tget {} s.tc.pauses st).st = .scheduled → (tget {} s.tc.pauses st).start ≤ s.now
      → kindOf st = (.ms, m) → (msSt s m).repairs = 0
      → exec (.pauseWindowStart st) s = .next { s with
          tc := { s.tc with
            pauses := tset {} s.tc.pauses st { tget {} s.tc.pauses st with st := .running }
            pauseState := if s.tc.pauseStation = st then 2 else s.tc.pauseState }
          mem := { s.mem with stations := tupd {} s.mem.stations m (fun x => { x with st := 2, repairs := 0 }) } })
  ∧ (∀ (st m : Nat) (s : State), s.flt.safe = false → (tget {} s.tc.pauses st).st = .running
      → s.now ≤ (tget {} s.tc.pauses st).start + 6000 → kindOf st = (.ms, m)
      → exec (.pauseComplete st) s = .next { s with
          tc := { s.tc with
            pauses := tset {} s.tc.pauses st {}
            pauseState := if s.tc.pauseStation = st then 0 else s.tc.pauseState }
          mem := { s.mem with stations := tupd {} s.mem.stations m (fun x =>
            { x with st := 1, rate := (tget {} s.tc.pauses st).rate
                     fallback := x.fallback && decide (x.rate ≤ (tget {} s.tc.pauses st).rate) }) } })
  ∧ (∀ (st n : Nat) (s : State), s.flt.safe = false → (tget {} s.tc.pauses st).st = .running
      → s.now ≤ (tget {} s.tc.pauses st).start + 6000 → kindOf st = (.ss, n)
      → exec (.pauseComplete st) s = .next (laneQueues n (capUpdate (linksFresh n (handAll n { s with
            tc := { s.tc with
              pauses := tset {} s.tc.pauses st {}
              pauseState := if s.tc.pauseStation = st then 0 else s.tc.pauseState }
            tsi := tupd {} s.tsi n (fun x => { x with st := 3, rate := (tget {} s.tc.pauses st).rate }) })))))
  ∧ (∀ (st m : Nat) (s : State), s.flt.safe = false → (tget {} s.tc.pauses st).st = .running
      → (tget {} s.tc.pauses st).start + 6000 ≤ s.now → kindOf st = (.ms, m)
      → exec (.pauseTimeout st) s = .next { s with
          tc := { s.tc with pauses := tset {} s.tc.pauses st { tget {} s.tc.pauses st with st := .draining } }
          mem := { s.mem with stations := tupd {} s.mem.stations m (fun x => { x with st := 0, rate := 2 }) } })
  ∧ (∀ (st n : Nat) (s : State), s.flt.safe = false → (tget {} s.tc.pauses st).st = .running
      → (tget {} s.tc.pauses st).start + 6000 ≤ s.now → kindOf st = (.ss, n)
      → exec (.pauseTimeout st) s = .next (laneQueues n (linksFresh n (handAll n { s with
          tc := { s.tc with
            pauses := tset {} s.tc.pauses st {}
            pauseState := if s.tc.pauseStation = st then 0 else s.tc.pauseState }
          tsi := tupd {} s.tsi n (fun x => { x with st := 3, rate := x.oldRate, fallbackAt := some s.now }) }))))
  ∧ (∀ (m : Nat) (ok : Bool) (s : State), s.flt.safe = false → (tget {} s.tc.pauses (msOf m)).st = .draining
      → ∃ t, exec (.memRateFallbackDone m ok) s = .next t
        ∧ t.tc = { s.tc with
            pauses := tset {} s.tc.pauses (msOf m) {}
            pauseState := if s.tc.pauseStation = msOf m then 0 else s.tc.pauseState }
        ∧ t.mem = (if ok then { s.mem with
            stations := tupd {} s.mem.stations m (fun x => { x with st := 1, rate := 2, fallback := true }) } else s.mem)
        ∧ t.flt = { s.flt with net := s.flt.net ++ [mkMsg s (if ok then .memRateFallback else .memChannelFail) 2 m 0] }
        ∧ t = { s with tc := t.tc, mem := t.mem, flt := t.flt })
  ∧ (∀ (m l : Nat) (s : State), s.flt.safe = false → hasMs s.part.variant m = true → memFenced s m = false → (msSt s m).st ≠ 2
      → exec (.stackLaneFail m (.lane l true)) s = .next { s with
          mem := { s.mem with stations := tupd {} s.mem.stations m (fun x => { x with repairs := x.repairs + 1 }) } })
  ∧ (∀ (m l : Nat) (s : State), s.flt.safe = false → hasMs s.part.variant m = true → memFenced s m = false
      → exec (.stackLaneFail m (.lane l false)) s = .next { s with
          flt := { s.flt with net := s.flt.net ++ [mkMsg s .memChannelFail 2 m (l * 32)] } })
  ∧ (∀ (m line : Nat) (s : State), s.flt.safe = false → hasMs s.part.variant m = true → (msSt s m).st = 1 → memFenced s m = false
      → line = (msSt s m).scrubNext → s.mem.symErrs = []
      → ((msSt s m).queue.any (fun q => homeOf s (addrOff q.req.addr) == m && localLine s (addrOff q.req.addr) == line)) = false
      → exec (.patrolScrub m line .clean) s = .next { s with mem := { s.mem with
          stations := tupd {} s.mem.stations m (fun x =>
            if stackLines s ≤ line + 1 then { x with scrubNext := 0, scrubPasses := x.scrubPasses + 1 }
            else { x with scrubNext := line + 1 }) } })

/-- O5. A preamble is judged once per frame, accepted flits land line by line, and landed site streams go to the die
(03_sluice, R50, R86, R85). At a lit port a preamble that agrees accepts the flits of its frame; one that does not, or
none, discards them, counts the frame and sends FRAME_SOURCE_MISMATCH or PREAMBLE_LOST. At a fenced port the frame is
discarded and not counted. The preamble that a port sends agrees at its receiver in the frame it is sent in. A good
accepted flit leaves the port and its line lands in the millpond at the pointer of its landing entry, which moves on;
an uncorrectable one lands nothing; a late one is a slack miss. A landed stream line goes to the site's hopper with a
stream credit. -/
def Obligations.PreamblesFlitsAndStreamsLand : Prop :=
  (∀ (st plane src : Nat) (p0 p1 : Option Preamble) (s : State), s.flt.safe = false → reelActive s = true → s.tc.frame ≠ 0
      → s.slu.judged.contains (st * 8 + plane) = false → portDark s st 1 plane = false → rxFenced s st plane = false → routedTo s st plane = some src
      → ([p0, p1].filterMap id).any (preambleAgrees s src plane) = true
      → exec (.preambleReceived st plane p0 p1) s = .next { s with slu := { s.slu with
          judged := (st * 8 + plane) :: s.slu.judged
          air := tupd [] s.slu.air (st * 8 + plane)
            (·.map (fun f => if f.judged then f else { f with judged := true, accepted := true })) } })
  ∧ (∀ (st plane src : Nat) (p0 p1 : Option Preamble) (s : State), s.flt.safe = false → reelActive s = true → s.tc.frame ≠ 0
      → s.slu.judged.contains (st * 8 + plane) = false → portDark s st 1 plane = false → rxFenced s st plane = false → routedTo s st plane = some src
      → ([p0, p1].filterMap id).any (preambleAgrees s src plane) = false
      → (tget [] s.slu.air (st * 8 + plane)).all (fun f => f.judged || !f.last || !f.final) = true
      → exec (.preambleReceived st plane p0 p1) s = .next { s with
          slu := { s.slu with
            judged := (st * 8 + plane) :: s.slu.judged
            air := tupd [] s.slu.air (st * 8 + plane) (·.filter (fun f => !!f.judged))
            frameDiscard := s.slu.frameDiscard + 1 }
          flt := { s.flt with
            portDiscards := tupd [] s.flt.portDiscards (st * 8 + plane)
              (fun l => s.now :: l.filter (fun t => decide (s.now < t + 1000000)))
            net := s.flt.net ++ [mkMsg s (if p0 = none ∧ p1 = none then .preambleLost else .frameSourceMismatch) 0 st (plane + 8)] } })
  ∧ (∀ (st plane : Nat) (p0 p1 : Option Preamble) (s : State), s.flt.safe = false → reelActive s = true → s.tc.frame ≠ 0
      → s.slu.judged.contains (st * 8 + plane) = false → portDark s st 1 plane = false → rxFenced s st plane = true
      → exec (.preambleReceived st plane p0 p1) s = .next (let u := dropAir st plane (fun f => !f.judged) s
          { u with slu := { u.slu with judged := (st * 8 + plane) :: u.slu.judged } }))
  ∧ (∀ (st plane feed k : Nat) (no : Bool) (s : State), st < 64 → plane < 8 → k < 2 ^ 18 → s.tc.frame = k + 1
      → preambleAgrees s st plane (preambleFlit s s.tc.activeSlot k st plane feed no) = true)
  ∧ (∀ (st plane : Nat) (f : AirFlit) (rest : List AirFlit) (x : Line × Bool) (s : State), s.flt.safe = false
      → tget [] s.slu.air (st * 8 + plane) = f :: rest → f.accepted = true → f.lines = [x] → f.count = false → f.final = false
      → rxFenced s st plane = false
      → (landDef s s.tc.activeSlot st f.land).kind = 3 → landFenced s (landDef s s.tc.activeSlot st f.land) = false
      → dailyRange (64 * ((landDef s s.tc.activeSlot st f.land).millLine + (landSt s st f.land).ptr)) = false
      → ∃ t, exec (.sluiceFlitReceive st plane .good) s = .next t
        ∧ t.mem.cells = lineSet s.mem.cells
            (millBase + 64 * ((landDef s s.tc.activeSlot st f.land).millLine + (landSt s st f.land).ptr)) fullMask x.1
        ∧ landSt t st f.land = { landSt s st f.land with
            ptr := ((landSt s st f.land).ptr + 1) % max 1 (landDef s s.tc.activeSlot st f.land).lines
            landed := (landSt s st f.land).landed + 1 }
        ∧ t.slu.air = tset [] s.slu.air (st * 8 + plane) rest
        ∧ t.slu.received = tupd 0 s.slu.received st (· + 1)
        ∧ t.flt = s.flt ∧ t.mrc = s.mrc)
  ∧ (∀ (st plane : Nat) (f : AirFlit) (rest : List AirFlit) (s : State), s.flt.safe = false
      → tget [] s.slu.air (st * 8 + plane) = f :: rest → f.accepted = true → f.final = false
      → exec (.sluiceFlitReceive st plane .uncorrectable) s = .next { s with slu := { s.slu with
          air := tset [] s.slu.air (st * 8 + plane) rest
          frameLanded := tset 0 s.slu.frameLanded (st * 8 + plane) (tget 0 s.slu.frameLanded (st * 8 + plane)) } })
  ∧ (∀ (st plane : Nat) (f : AirFlit) (rest : List AirFlit) (s : State), s.flt.safe = false
      → tget [] s.slu.air (st * 8 + plane) = f :: rest → f.accepted = true → f.final = false
      → ∃ t, exec (.sluiceFlitReceive st plane .stageMiss) s = .next t
        ∧ t.flt = { s.flt with
            slackMisses := tupd [] s.flt.slackMisses st (fun l => s.now :: l.filter (fun t => decide (s.now < t + 10000000)))
            net := s.flt.net ++ [mkMsg s .slackMiss 0 st 0] }
        ∧ t.slu.air = tset [] s.slu.air (st * 8 + plane) rest ∧ t.mem = s.mem)
  ∧ (∀ (st sel : Nat) (s u : State), s.flt.safe = false → (landDef s s.tc.activeSlot st sel).kind = 1
      → (landSt s st sel).fwd < (landSt s st sel).landed
      → bankFenced s (bankAt (64 * ((landDef s s.tc.activeSlot st sel).ringBase
          + (landSt s st sel).fwd % max 1 (landDef s s.tc.activeSlot st sel).ringLines))) = false
      → lineBad s (64 * ((landDef s s.tc.activeSlot st sel).ringBase
          + (landSt s st sel).fwd % max 1 (landDef s s.tc.activeSlot st sel).ringLines)) = false
      → siteStreamOut (kindOf st).2 (landDef s s.tc.activeSlot st sel).stream
          (millLine s (64 * ((landDef s s.tc.activeSlot st sel).ringBase
            + (landSt s st sel).fwd % max 1 (landDef s s.tc.activeSlot st sel).ringLines)), false)
          ((landSt s st sel).lastAt.contains ((landSt s st sel).fwd + 1)) s = some u
      → exec (.siteStreamForward st sel) s = .next { u with slu := { u.slu with
          lands := tupd {} u.slu.lands (landKey st sel)
            (fun y => { y with fwd := y.fwd + 1, lastAt := y.lastAt.filter (fun k => decide (y.fwd + 1 < k)) }) } })

/-- O6. Words written to the next slot load a reel, CHECK and its completion judge it, and CLEAR empties the slot (R93,
R94, R98). With the right of an operator a word written to the slot that is not active stands in the reel store and
the slot is loading. CHECK of a loading slot begins the checks. Their completion refuses the reel with the first code,
record, station and plane that failed, or passes it with its affected stations and its digest. CLEAR empties the slot
and withdraws an armed swap. Without the right nothing changes. -/
def Obligations.TheNextReelIsLoadedAndChecked : Prop :=
  (∀ (p : Path) (a : Nat) (w : Word32) (s : State), mayWrite s p .o = true → slotOfAddr a = some (1 - s.tc.activeSlot)
      → s.tc.activeSlot ≤ 1 → a % 4 = 0 → s.slu.next = .empty ∨ s.slu.next = .loading
      → exec (.reelStoreWrite p a w) s = .next { s with slu := { s.slu with
          store := tset 0 s.slu.store (a / 4) w, next := .loading } })
  ∧ (∀ (p : Path) (a : Nat) (w : Word32) (s : State), mayWrite s p .o = true → slotOfAddr a = some s.tc.activeSlot
      → exec (.reelStoreWrite p a w) s = .next s)
  ∧ (∀ (p : Path) (s : State), mayWrite s p .o = true → s.slu.next = .loading
      → exec (.reelCheck p) s = .next { s with slu := { s.slu with next := .checking } })
  ∧ (∀ (f : CheckFail) (s : State), s.slu.next = .checking → checkReel s (1 - s.tc.activeSlot) = some f
      → exec .reelCheckComplete s = .next { s with
          tc := { s.tc with lastRefused := true, swapArm := false }
          slu := { s.slu with
            next := .refused
            ckHeader := f.header
            ckCode := f.code
            ckRecord := f.record
            ckStation := f.station
            ckPlane := f.plane } })
  ∧ (∀ s : State, s.slu.next = .checking → checkReel s (1 - s.tc.activeSlot) = none
      → ∃ t, exec .reelCheckComplete s = .next t
        ∧ t.slu = { s.slu with
            next := .passed
            ckHeader := false
            ckCode := 0
            ckRecord := 0
            ckStation := 0
            ckPlane := 0
            affected := affectedBy s s.tc.activeSlot (1 - s.tc.activeSlot) }
        ∧ t.tc = { s.tc with lastRefused := false, checkTick := s.now }
        ∧ t.role.digestNext = digestOf s (1 - s.tc.activeSlot)
        ∧ t = { s with slu := t.slu, tc := t.tc, role := t.role, pair := t.pair })
  ∧ (∀ (p : Path) (s : State), mayWrite s p .o = true → s.slu.swap = .draining ∨ s.slu.swap = .waiting
      → exec (.reelClear p) s = .next { s with
          tc := { s.tc with swapArm := false, swapDeferred := false }
          slu := { s.slu with next := .empty, swap := .none, reason := 3 } })
  ∧ (∀ (p : Path) (s : State), mayWrite s p .o = true → s.slu.swap = .none ∨ s.slu.swap = .refused
      → exec (.reelClear p) s = .next { s with
          tc := { s.tc with swapArm := false, swapDeferred := false }
          slu := { s.slu with next := .empty } })
  ∧ (∀ (p : Path) (a : Nat) (w : Word32) (s : State), mayWrite s p .o = false
      → exec (.reelStoreWrite p a w) s = .next s ∧ exec (.reelCheck p) s = .next s ∧ exec (.reelClear p) s = .next s)

/-- O7. A wavelength sends what was lost first, takes flits in order, naks a bad one, and leaves its stripe when lost
(R104, R107, R109, R117, R118, R120, R490). A pair's flits take its free wavelengths in turn; a sent flit stands last
on its wavelength, which it occupies; with 16 flits not acknowledged only an idle one goes; messages of a removed
wavelength stand first in it; with messages or credits it has the next sequence number and waits for its
acknowledgement, and an idle flit has none. An uncorrectable flit is dropped and a NAK is due; a flit out of turn is
dropped; the expected one puts its message in the receive buffer. A wavelength that fails is counted, what its
receiver has not accepted goes again first (log entry 94), and MILLRACE_LAMBDA_OUT is sent. A remap completes and is
counted. Own messages pass at the station. Peak depths start again from the depth now. -/
def Obligations.MillraceFlitsGoAndArriveInOrder : Prop :=
  (∀ (src dst l : Nat) (s : State), s.flt.safe = false → src ≠ dst → dueLambda s src dst = some l
      → pausedNow s src = false → pausedNow s dst = false → (lamOf s src l).unacked.length < 16
      → ∃ t f y, exec (.millraceFlitSend src dst l) s = .next t ∧ lamOf t src l = y ∧ y.chan.getLast? = some f
        ∧ y.busyUntil = s.now + flitTicks ∧ tget 0 t.mrc.lamTurn (pairKey src dst) = l + 1
        ∧ (fillResend 4 (tget [] s.mrc.resend (pairKey src dst))).1 <+: f.msgs
        ∧ (f.msgs = [] → f.credits = [] → f.seq = none)
        ∧ (f.msgs ≠ [] ∨ f.credits ≠ [] → f.seq = some (lamOf s src l).nextSeq ∧ y.unacked.getLast? = some f)
        ∧ t.mem.cells = s.mem.cells ∧ t.flt = s.flt)
  ∧ (∀ (src dst l : Nat) (s : State), s.flt.safe = false → src ≠ dst → dueLambda s src dst = some l
      → pausedNow s src = false → pausedNow s dst = false → 16 ≤ (lamOf s src l).unacked.length
      → ∃ t f, exec (.millraceFlitSend src dst l) s = .next t ∧ (lamOf t src l).chan.getLast? = some f ∧ f.seq = none ∧ f.msgs = []
        ∧ f.acks = ackList s src dst ∧ (lamOf t src l).unacked = (lamOf s src l).unacked ∧ t.mrc.queues = s.mrc.queues)
  ∧ (∀ (src dst l : Nat) (s : State), dueLambda s src dst ≠ some l → exec (.millraceFlitSend src dst l) s = .next s)
  ∧ (∀ (src dst l w : Nat) (f : MrFlit) (rest : List MrFlit) (s : State), s.flt.safe = false → carries s src dst l = true
      → (lamOf s src l).chan = f :: rest
      → ((lamOf s src l).uncorr.filter (fun t => decide (s.now < t + 1000000))).length < 16
      → exec (.millraceFlitReceive src dst l (.uncorrectable w)) s = .next { s with mrc := { s.mrc with
          lambdas := tset {} s.mrc.lambdas (src * 96 + l) { lamOf s src l with
            chan := rest
            uncorr := s.now :: ((lamOf s src l).uncorr.filter (fun t => decide (s.now < t + 1000000)))
            nak := true
            nakAt := some ((lamOf s src l).nakAt.getD s.now) } } })
  ∧ (∀ (src dst l q : Nat) (f : MrFlit) (rest : List MrFlit) (s : State), s.flt.safe = false → carries s src dst l = true
      → (lamOf s src l).chan = f :: rest → f.seq = some q → f.acks = [] → q ≠ (lamOf s src l).expect
      → 2048 ≤ (q + 4096 - (lamOf s src l).expect) % 4096
      → exec (.millraceFlitReceive src dst l .clean) s = .next { s with mrc := { s.mrc with
          lambdas := tset {} s.mrc.lambdas (src * 96 + l) { lamOf s src l with chan := rest } } })
  ∧ (∀ (src dst l n cls : Nat) (f : MrFlit) (m : MrMsg) (rest : List MrFlit) (s : State), s.flt.safe = false
      → carries s src dst l = true → (lamOf s src l).chan = f :: rest → f.seq = some (lamOf s src l).expect
      → f.acks = [] → f.credits = [] → f.msgs = [(cls, m)] → kindOf dst = (.ws, n) → (∀ c h ls, m.pay ≠ .col c h ls)
      → ∃ t, exec (.millraceFlitReceive src dst l .clean) s = .next t
        ∧ t.mrc.lambdas = tset {} s.mrc.lambdas (src * 96 + l) { lamOf s src l with
            chan := rest
            expect := ((lamOf s src l).expect + 1) % 4096
            nakAt := none }
        ∧ t.mrc.rx = tupd [] s.mrc.rx (pcKey src dst cls) (· ++ [m])
        ∧ (m.bytes = 0 → t.gaf = s.gaf) ∧ t.mem = s.mem ∧ t.flt = s.flt)
  ∧ (∀ (st cls : Nat) (m : MrMsg) (s t : State), s.flt.safe = false → headReady s st st cls = true
      → takeHead st st cls s = (some m, t)
      → exec (.selfDelivery st cls) s = .next (arrive st st cls m t))
  ∧ (∀ (st l d : Nat) (s : State), st < 36 → l < 95 → (lamOf s st l).out = false → lambdaDest st l = some d
      → ∃ t, exec (.millraceLambdaOut st l) s = .next t
        ∧ t.mrc.lambdas = tset {} s.mrc.lambdas (st * 96 + l) { out := true }
        ∧ t.mrc.lambdaOutCount = s.mrc.lambdaOutCount + 1
        ∧ t.mrc.resend = tupd [] s.mrc.resend (pairKey st d) (· ++ ((notAccepted (lamOf s st l)).map (·.msgs)).flatten)
        ∧ s.flt.net ++ [mkMsg s .millraceLambdaOut 0 st (l * 16 + d * 2 ^ 11)] <+: t.flt.net)
  ∧ (∀ (src dst : Nat) (x : Tick) (s : State), spareOf s src = { dest := some dst, remapping := some x }
      → exec (.spareRemapComplete src dst) s = .next { s with mrc := { s.mrc with
          spares := tset {} s.mrc.spares src { dest := some dst, remapping := none }
          remapCount := s.mrc.remapCount + 1 } })
  ∧ (∀ (p : Path) (s : State), mayWrite s p .o = true
      → exec (.peakClearSelected p) s = .next { s with mrc := { s.mrc with
          count := tset {} s.mrc.count ((tget 0 s.csp.sel 0x050000).toNat % 64)
            { tget {} s.mrc.count ((tget 0 s.csp.sel 0x050000).toNat % 64) with
              peak := (List.range 7).foldl (fun t k => tset 0 t k
                (BitVec.ofNat 16 (min (depthOf s ((tget 0 s.csp.sel 0x050000).toNat % 64) k) 65535))) [] } } })
  ∧ (∀ (p : Path) (s : State), mayWrite s p .o = true
      → exec (.peakClearAll p) s = .next (clearPodPeaks (clearPeaks s)))

/-- O8. A die's request takes a response slot and goes to its home; its answer frees the slot; old ones time out (R108,
R126, R127, R128, R141, R143, R145). A permitted load of a die on the own pool takes the first free response slot of
its buffer and a request with the slot's generation goes to the home. A store command waits for its data, and leaves
with it. A misaligned request is a violation: counted, answered at once, sent nowhere. An answer whose generation is
current frees its slot, whose generation advances, and reaches the die; a stale one is counted. A sweep does nothing
before its time, and at its time fails what left its station longer ago than the limit. -/
def Obligations.RequestsLeaveAndAnswersReturn : Prop :=
  (∀ (n m j o k : Nat) (r : IssueReq) (s : State), s.flt.safe = false → r.who = .site n m → r.op = .load → r.poison = false
      → siteUp s n = true → m < 64 → misaligned r = false → jobOfSite s n = some j → r.job = j
      → addrNode r.addr = s.ident.node.toNat → allowed s j (addrNode r.addr) (addrOff r.addr) false = true
      → claimOf s (addrNode r.addr) (addrOff r.addr) = none → zoneOf s false (addrOff r.addr) = .pool o
      → memFenced s (homeOf s o) = false → (msSt s (homeOf s o)).poisonHome = false
      → pairFenced s (ssOf n) (msOf (homeOf s o)) = false → freeSlot s (ssOf n) = some k
      → ∃ t, exec (.memRequestIssue r) s = .next t
        ∧ t.mem = { s.mem with slots := tset none s.mem.slots (slotKey (ssOf n) k) (some { req := r, gen := tget 0 s.mem.gens (slotKey (ssOf n) k), sent := none, node := s.ident.node, station := msOf (homeOf s o) }) }
        ∧ t = sendMsg (ssOf n) (msOf (homeOf s o)) cREQ
            { pay := .req { req := r, buf := ssOf n, slot := k, gen := tget 0 s.mem.gens (slotKey (ssOf n) k), node := s.ident.node }
              fence := r.fence
              job := j } { s with mem := t.mem })
  ∧ (∀ (n m : Nat) (r : IssueReq) (s : State), s.flt.safe = false → r.who = .site n m → r.op = .store → siteUp s n = true → m < 64
      → exec (.memRequestIssue r) s = .next { s with mem := { s.mem with
          storeWait := s.mem.storeWait ++ [(n, m, { r with data := 0, poison := false })] } })
  ∧ (∀ (n m : Nat) (tag : BitVec 12) (data : Line) (poison : Bool) (r : IssueReq) (s : State), s.flt.safe = false
      → s.mem.storeWait.find? (fun w => w.1 == n && w.2.1 == m && w.2.2.tag == tag) = some (n, m, r)
      → exec (.storeData n m tag data poison) s = .next (issueMem { r with data := data, poison := false }
          { s with mem := { s.mem with storeWait := s.mem.storeWait.erase (n, m, r) } }))
  ∧ (∀ (n m : Nat) (r : IssueReq) (s : State), s.flt.safe = false → r.who = .site n m → r.op ≠ .store → siteUp s n = true → m < 64
      → misaligned r = true
      → ∃ t, exec (.memRequestIssue r) s = .next t
        ∧ t.mem = { s.mem with violations := sat32 s.mem.violations 1 }
        ∧ t = { s with mem := t.mem, tsi := t.tsi })
  ∧ (∀ (a : MemRsp) (src n k : Nat) (m : MrMsg) (o : Outst) (s : State), s.flt.safe = false
      → findRx s (bufStation a.buf) cRSP (fun p => p == .loadData a) = some (src, m) → outst s a.buf a.slot = some o
      → o.gen = a.gen → o.req.who = .site n k → o.req.op = .load → a.status = 0 → o.node = s.ident.node
      → s.mem.held.find? (fun r => reqBuf r.req.who == a.buf) = none → s.mem.mgtHeld.find? (fun r => ssOf r.1 == a.buf) = none
      → ∃ t, exec (.loadData a) s = .next t
        ∧ t.mem = { s.mem with
            slots := tset none s.mem.slots (slotKey a.buf a.slot) none
            gens := tupd 0 s.mem.gens (slotKey a.buf a.slot) (· + 1) }
        ∧ t.tsi = (siteDeliver n (some k) { cls := 3, op := 0, tag := o.req.tag, data := a.data, poison := a.poison && sitePoison s n } s).tsi
        ∧ t.mrc = (takeRx (bufStation a.buf) cRSP src m s).mrc ∧ t.flt = s.flt)
  ∧ (∀ (a : MemRsp) (src n k : Nat) (m : MrMsg) (o : Outst) (s : State), s.flt.safe = false
      → findRx s (bufStation a.buf) cRSP (fun p => p == .ack a) = some (src, m) → outst s a.buf a.slot = some o
      → o.gen = a.gen → o.req.who = .site n k → o.req.op ≠ .load → a.status = 0 → a.poison = false
      → s.mem.held.find? (fun r => reqBuf r.req.who == a.buf) = none → s.mem.mgtHeld.find? (fun r => ssOf r.1 == a.buf) = none
      → ∃ t, exec (.ack a) s = .next t
        ∧ t.mem = { s.mem with
            slots := tset none s.mem.slots (slotKey a.buf a.slot) none
            gens := tupd 0 s.mem.gens (slotKey a.buf a.slot) (· + 1) }
        ∧ t.tsi = (siteDeliver n (some k) (ackSlot o.req.tag a.result 0) s).tsi
        ∧ t.mrc = (takeRx (bufStation a.buf) cRSP src m s).mrc ∧ t.flt = s.flt)
  ∧ (∀ (a : MemRsp) (src : Nat) (m : MrMsg) (o : Outst) (s : State), s.flt.safe = false
      → findRx s (bufStation a.buf) cRSP (fun p => p == .ack a) = some (src, m) → outst s a.buf a.slot = some o → o.gen ≠ a.gen
      → ∃ t, exec (.ack a) s = .next t
        ∧ t.mem = { s.mem with lateRsp := sat32 s.mem.lateRsp 1 } ∧ t.tsi = s.tsi ∧ t.mrc = (takeRx (bufStation a.buf) cRSP src m s).mrc)
  ∧ (∀ s : State, s.mem.nextSweep ≤ s.now
      → (∀ p ∈ s.mem.slots, ∀ o x, p.2 = some o → o.sent = some x → s.now < x + s.mem.timeoutUs * 1000)
      → exec .timeoutSweep s = .next { s with mem := { s.mem with nextSweep := (s.now / 1000 + 1) * 1000 } })
  ∧ (∀ (b k : Nat) (x : Tick) (o : Outst) (s : State), s.mem.nextSweep ≤ s.now → s.mem.slots = [(slotKey b k, some o)] → k < 8192
      → o.sent = some x → x + s.mem.timeoutUs * 1000 ≤ s.now
      → exec .timeoutSweep s = .next (expire b k { s with mem := { s.mem with nextSweep := (s.now / 1000 + 1) * 1000 } }))

/-- O9. A served load answers the line, or the error line where poison stands; a served store writes its masked bytes
(R128, R129, R137, R140, R171, R172, R173). A load that its pool home serves is answered with the line in memory, and
memory is unchanged where no symbol of the line is in error; with the line as the code corrects it where the code can;
and with the error line and poison where the line is poisoned or a read finds it uncorrectable. In the millpond it is
answered with the line of the bank. A store writes exactly the bytes of its mask, its poison where the mask is full,
and is acknowledged; with an empty mask it writes nothing. A fenced home answers status 2 and the error line and takes
no store. -/
def Obligations.LoadsAndStoresAtTheHome : Prop :=
  (∀ (q : MemReq) (s u : State) (o : Nat), servedAt .load q s u
      → zoneOf u (innerReq u q) (addrOff q.req.addr) = .pool o
      → memFenced u (homeOf u o) = false → (msSt u (homeOf u o)).poisonHome = false → poisonOf u o = false
      → tget [] u.mem.symErrs (o / 64) = []
      → ∃ t, exec (.load q .clean) s = .next t ∧ t.mem = u.mem
        ∧ t = respond (serveStation s q) q { rspOf q with data := lineGet u.mem.cells o } (noteLines (jobTag u q.req.job) 1 u))
  ∧ (∀ (q : MemReq) (v : Verdict) (s u : State) (o : Nat), servedAt .load q s u
      → zoneOf u (innerReq u q) (addrOff q.req.addr) = .pool o
      → memFenced u (homeOf u o) = false → (msSt u (homeOf u o)).poisonHome = false → (poolRead o v u).1.2 = true
      → (∀ x : Outst, outst u q.buf q.slot = some x → x.replica = none)
      → exec (.load q v) s = .next (respond (serveStation s q) q { rspOf q with data := errorLine, poison := true }
          (noteLines (jobTag u q.req.job) 1 (poolRead o v u).2)))
  ∧ (∀ (q : MemReq) (v : Verdict) (s u : State) (o : Nat), servedAt .load q s u
      → zoneOf u (innerReq u q) (addrOff q.req.addr) = .pool o
      → memFenced u (homeOf u o) = false → (msSt u (homeOf u o)).poisonHome = false → (poolRead o v u).1.2 = false
      → exec (.load q v) s = .next (respond (serveStation s q) q { rspOf q with data := (poolRead o v u).1.1 }
          (noteLines (jobTag u q.req.job) 1 (poolRead o v u).2)))
  ∧ (∀ (u : State) (o k : Nat), poisonOf u o = false → (poolRead o (.uncorrectable k) u).1 = (errorLine, true))
  ∧ (∀ (u : State) (o : Nat), poisonOf u o = true → (poolRead o .clean u).1 = (errorLine, true))
  ∧ (∀ (q : MemReq) (s u : State) (o : Nat), servedAt .load q s u
      → zoneOf u (innerReq u q) (addrOff q.req.addr) = .mill o → bankFenced u (bankAt o) = false
      → (∀ k < 8, wordBad u (o / 8 + k) = false)
      → exec (.load q .clean) s = .next (respond (serveStation s q) q { rspOf q with data := millLine u o } u))
  ∧ (∀ (q : MemReq) (v : Verdict) (s u : State) (o : Nat), servedAt .load q s u
      → zoneOf u (innerReq u q) (addrOff q.req.addr) = .pool o → memFenced u (homeOf u o) = true
      → exec (.load q v) s = .next (respond (serveStation s q) q
          { rspOf q with data := errorLine, poison := true, result := BitVec.allOnes 64, status := 2 } u))
  ∧ (∀ (q : MemReq) (s u : State) (o : Nat), servedAt .store q s u → zoneOf u false (addrOff q.req.addr) = .pool o
      → stillsHome u o = false → memFenced u (homeOf u o) = false → (msSt u (homeOf u o)).poisonHome = false
      → q.req.mask ≠ 0 → q.req.mask = fullMask ∨ tget [] u.mem.symErrs (o / 64) = [] → u.pair.role = .none
      → ∃ t, exec (.store q .clean) s = .next t
        ∧ t.mem.cells = lineSet u.mem.cells o q.req.mask q.req.data
        ∧ t.mem.symErrs = tset [] u.mem.symErrs (o / 64) []
        ∧ t.mem.flips = (if q.req.mask = fullMask then
            tset false u.mem.flips (o / 64) (q.req.poison != (msSt u (homeOf u o)).allPoison) else u.mem.flips)
        ∧ t.mem.stations = tupd {} u.mem.stations (homeOf u o) (fun x => { x with combStores := x.combStores + 1 })
        ∧ t = respond (serveStation s q) q (rspOf q) { u with mem := t.mem, gaf := t.gaf })
  ∧ (∀ (q : MemReq) (v : Verdict) (s u : State) (o : Nat), servedAt .store q s u → zoneOf u false (addrOff q.req.addr) = .pool o
      → stillsHome u o = false → memFenced u (homeOf u o) = false → (msSt u (homeOf u o)).poisonHome = false → q.req.mask = 0
      → exec (.store q v) s = .next (respond (serveStation s q) q (rspOf q) u))
  ∧ (∀ (q : MemReq) (s u : State) (o : Nat), servedAt .store q s u → zoneOf u false (addrOff q.req.addr) = .mill o
      → bankFenced u (bankAt o) = false → dailyRange o = false → queueAtLine u (o / 64) = none → q.req.mask ≠ 0
      → ∃ t, exec (.store q .clean) s = .next t
        ∧ t.mem.cells = lineSet u.mem.cells (millBase + o) q.req.mask q.req.data ∧ t.flt = u.flt
        ∧ t = respond (serveStation s q) q (rspOf q) { u with mem := t.mem, grp := t.grp })
  ∧ (∀ (q : MemReq) (v : Verdict) (s u : State) (o : Nat), servedAt .store q s u → zoneOf u false (addrOff q.req.addr) = .pool o
      → stillsHome u o = false → memFenced u (homeOf u o) = true
      → exec (.store q v) s = .next (respond (serveStation s q) q
          { rspOf q with data := errorLine, poison := true, result := BitVec.allOnes 64, status := 2 } u))

/-- O10. Each atomic writes its new value of one word and answers the old; MAX and MIN act in the millpond alone (R130,
R137, R141, R170). A served atomic replaces the aligned 64-bit word by old plus operand, the sum of the two
floating-point halves, the operand, the operand where the old value equals the compare value, or the greater or
smaller of the two, whole or by halves, and its acknowledgement carries the old value. ADD, SWAP and CAS act in the
pool and in the millpond, MAX and MIN in the millpond alone: on the pool they are violations that write nothing. Adds
to one word that wait at the millpond's station are summed into one write, each answered with the value before it. A
poisoned line fails the atomic with status 2 and stays as it is. -/
def Obligations.AtomicsChangeOneWordAndAnswerTheOld : Prop :=
  (∀ (q : MemReq) (s u : State) (o : Nat), servedAt .addI64 q s u → poolWordOk q u o
      → ∃ t, exec (.addI64 q .clean) s = .next t
        ∧ t.mem.cells = wordSet u.mem.cells o (wordGet u.mem.cells o + q.req.operand)
        ∧ t = respond (serveStation s q) q { rspOf q with result := wordGet u.mem.cells o } { u with mem := t.mem, gaf := t.gaf })
  ∧ (∀ (q : MemReq) (s u : State) (o : Nat), servedAt .addI64 q s u → millWordOk q u o → pendingAdds u (serveStation s q) q = []
      → ∃ t, exec (.addI64 q .clean) s = .next t
        ∧ t.mem.cells = wordSet u.mem.cells (millBase + 8 * (o / 8)) (millWord u (o / 8) + q.req.operand)
        ∧ t = { respond (serveStation s q) q { rspOf q with result := millWord u (o / 8) } u with mem := t.mem, grp := t.grp })
  ∧ (∀ (q : MemReq) (s u : State) (o : Nat), servedAt .addF32x2 q s u → poolWordOk q u o
      → ∃ t, exec (.addF32x2 q .clean) s = .next t
        ∧ t.mem.cells = wordSet u.mem.cells o (halves f32Add (wordGet u.mem.cells o) q.req.operand)
        ∧ t = respond (serveStation s q) q { rspOf q with result := wordGet u.mem.cells o } { u with mem := t.mem, gaf := t.gaf })
  ∧ (∀ (q : MemReq) (s u : State) (o : Nat), servedAt .addF32x2 q s u → millWordOk q u o → pendingAdds u (serveStation s q) q = []
      → ∃ t, exec (.addF32x2 q .clean) s = .next t
        ∧ t.mem.cells = wordSet u.mem.cells (millBase + 8 * (o / 8)) (halves f32Add (millWord u (o / 8)) q.req.operand)
        ∧ t = { respond (serveStation s q) q { rspOf q with result := millWord u (o / 8) } u with mem := t.mem, grp := t.grp })
  ∧ (∀ (q : MemReq) (s u : State) (o : Nat), servedAt .swap q s u → poolWordOk q u o
      → ∃ t, exec (.swap q .clean) s = .next t
        ∧ t.mem.cells = wordSet u.mem.cells o (q.req.operand)
        ∧ t = respond (serveStation s q) q { rspOf q with result := wordGet u.mem.cells o } { u with mem := t.mem, gaf := t.gaf })
  ∧ (∀ (q : MemReq) (s u : State) (o : Nat), servedAt .swap q s u → millWordOk q u o
      → ∃ t, exec (.swap q .clean) s = .next t
        ∧ t.mem.cells = wordSet u.mem.cells (millBase + 8 * (o / 8)) (q.req.operand)
        ∧ t = { respond (serveStation s q) q { rspOf q with result := millWord u (o / 8) } u with mem := t.mem, grp := t.grp })
  ∧ (∀ (q : MemReq) (s u : State) (o : Nat), servedAt .cas q s u → poolWordOk q u o
      → ∃ t, exec (.cas q .clean) s = .next t
        ∧ t.mem.cells = wordSet u.mem.cells o (if wordGet u.mem.cells o = q.req.compare then q.req.operand else wordGet u.mem.cells o)
        ∧ t = respond (serveStation s q) q { rspOf q with result := wordGet u.mem.cells o } { u with mem := t.mem, gaf := t.gaf })
  ∧ (∀ (q : MemReq) (s u : State) (o : Nat), servedAt .cas q s u → millWordOk q u o
      → ∃ t, exec (.cas q .clean) s = .next t
        ∧ t.mem.cells = wordSet u.mem.cells (millBase + 8 * (o / 8)) (if millWord u (o / 8) = q.req.compare then q.req.operand else millWord u (o / 8))
        ∧ t = { respond (serveStation s q) q { rspOf q with result := millWord u (o / 8) } u with mem := t.mem, grp := t.grp })
  ∧ (∀ (q : MemReq) (v : Verdict) (s u : State) (o : Nat), servedAt .maxI64 q s u → zoneOf u false (addrOff q.req.addr) = .pool o
      → exec (.maxI64 q v) s = .next (respond (serveStation s q) q (rspOf q)
          { u with mem := { u.mem with violations := sat32 u.mem.violations 1 } }))
  ∧ (∀ (q : MemReq) (s u : State) (o : Nat), servedAt .maxI64 q s u → millWordOk q u o
      → ∃ t, exec (.maxI64 q .clean) s = .next t
        ∧ t.mem.cells = wordSet u.mem.cells (millBase + 8 * (o / 8)) (if (millWord u (o / 8)).slt q.req.operand then q.req.operand else millWord u (o / 8))
        ∧ t = { respond (serveStation s q) q { rspOf q with result := millWord u (o / 8) } u with mem := t.mem, grp := t.grp })
  ∧ (∀ (q : MemReq) (v : Verdict) (s u : State) (o : Nat), servedAt .minI64 q s u → zoneOf u false (addrOff q.req.addr) = .pool o
      → exec (.minI64 q v) s = .next (respond (serveStation s q) q (rspOf q)
          { u with mem := { u.mem with violations := sat32 u.mem.violations 1 } }))
  ∧ (∀ (q : MemReq) (s u : State) (o : Nat), servedAt .minI64 q s u → millWordOk q u o
      → ∃ t, exec (.minI64 q .clean) s = .next t
        ∧ t.mem.cells = wordSet u.mem.cells (millBase + 8 * (o / 8)) (if q.req.operand.slt (millWord u (o / 8)) then q.req.operand else millWord u (o / 8))
        ∧ t = { respond (serveStation s q) q { rspOf q with result := millWord u (o / 8) } u with mem := t.mem, grp := t.grp })
  ∧ (∀ (q : MemReq) (v : Verdict) (s u : State) (o : Nat), servedAt .maxF32x2 q s u → zoneOf u false (addrOff q.req.addr) = .pool o
      → exec (.maxF32x2 q v) s = .next (respond (serveStation s q) q (rspOf q)
          { u with mem := { u.mem with violations := sat32 u.mem.violations 1 } }))
  ∧ (∀ (q : MemReq) (s u : State) (o : Nat), servedAt .maxF32x2 q s u → millWordOk q u o
      → ∃ t, exec (.maxF32x2 q .clean) s = .next t
        ∧ t.mem.cells = wordSet u.mem.cells (millBase + 8 * (o / 8)) (halves f32Max (millWord u (o / 8)) q.req.operand)
        ∧ t = { respond (serveStation s q) q { rspOf q with result := millWord u (o / 8) } u with mem := t.mem, grp := t.grp })
  ∧ (∀ (q : MemReq) (v : Verdict) (s u : State) (o : Nat), servedAt .minF32x2 q s u → zoneOf u false (addrOff q.req.addr) = .pool o
      → exec (.minF32x2 q v) s = .next (respond (serveStation s q) q (rspOf q)
          { u with mem := { u.mem with violations := sat32 u.mem.violations 1 } }))
  ∧ (∀ (q : MemReq) (s u : State) (o : Nat), servedAt .minF32x2 q s u → millWordOk q u o
      → ∃ t, exec (.minF32x2 q .clean) s = .next t
        ∧ t.mem.cells = wordSet u.mem.cells (millBase + 8 * (o / 8)) (halves f32Min (millWord u (o / 8)) q.req.operand)
        ∧ t = { respond (serveStation s q) q { rspOf q with result := millWord u (o / 8) } u with mem := t.mem, grp := t.grp })
  ∧ (∀ (q : MemReq) (s u : State) (o : Nat), servedAt .addI64 q s u → zoneOf u false (addrOff q.req.addr) = .pool o
      → stillsHome u o = false → memFenced u (homeOf u o) = false → (msSt u (homeOf u o)).poisonHome = false → poisonOf u o = true
      → ∃ t, exec (.addI64 q .clean) s = .next t ∧ t.mem = u.mem
        ∧ t = respond (serveStation s q) q { rspOf q with data := errorLine, poison := true, result := BitVec.allOnes 64, status := 2 }
            { u with gaf := t.gaf })
  ∧ (∀ (q : MemReq) (s u : State) (o : Nat) (more : List (Nat × MrMsg × MemReq)),
      servedAt .addI64 q s u → millWordOk q u o → more = pendingAdds u (serveStation s q) q
      → ∃ t, exec (.addI64 q .clean) s = .next t
        ∧ t.mem.cells = wordSet u.mem.cells (millBase + 8 * (o / 8))
            ((q :: more.map (·.2.2)).foldl (fun v x => v + x.req.operand) (millWord u (o / 8)))
        ∧ t = { (runAtomics (serveStation s q) (q :: more.map (·.2.2)) (millWord u (o / 8))
            (more.foldl (fun s x => takeRx (serveStation s q) cREQ x.1 x.2.1 s) u)).2 with mem := t.mem, grp := t.grp })

/-- O11. A region is declared or refused, its blocks are fetched line by line, its epoch ends, and its release drains
(R153, R155, R157, R158, R160, R164). A legal declaration with no reason against it enters its region, which counts
touches from the next epoch; one with a reason leaves the entry as it was but for the reason. A fetched line stands in
the replica's own memory; a failed one drops the replica. At the end of an epoch the tracker is emptied and the means
of the engines become those of the epoch. A release frees the region's replicas, fetches and tracker entries at once
and the entry when no load that matched it is outstanding. -/
def Obligations.RegionsAreDeclaredFetchedAndReleased : Prop :=
  (∀ (p : Path) (i : Nat) (f : RegionFields) (s : State), mayWrite s p .o = true → i < 256 → regionLegal f = true
      → declareReason s i f = 0 → s.pair.role = .none
      → ∃ t, exec (.regionDeclare p i f) s = .next t
        ∧ t.blk = { s.blk with regions := tset {} s.blk.regions i {
            st := 1
            reason := 0
            node := f.node
            base := f.base
            blocks := f.blocks.toNat
            job := f.job.toNat
            mode := f.mode.toNat
            threshold := f.threshold.toNat
            fromEpoch := s.tc.timecode.toNat / 1000000 + 1 } }
        ∧ t = { s with blk := t.blk, csp := { s.csp with effect := t.csp.effect } })
  ∧ (∀ (p : Path) (i : Nat) (f : RegionFields) (s : State), mayWrite s p .o = true → i < 256 → regionLegal f = true
      → declareReason s i f ≠ 0
      → ∃ t, exec (.regionDeclare p i f) s = .next t
        ∧ t.blk = { s.blk with regions := tupd {} s.blk.regions i (fun e => { e with reason := declareReason s i f }) }
        ∧ t = { s with blk := t.blk, csp := { s.csp with effect := t.csp.effect } })
  ∧ (∀ (p : Path) (i : Nat) (s : State), mayWrite s p .o = true → i < 256 → (regionOf s i).st = 1
      → ∃ t, exec (.regionRelease p i) s = .next t
        ∧ t.blk.regions = tupd {} s.blk.regions i (fun e => { e with st := 2 })
        ∧ (∀ q ∈ t.blk.replicas, ∃ x, q.2 = some x ∧ x.region ≠ i)
        ∧ (∀ w ∈ t.blk.waiting, w.1 ≠ i) ∧ (∀ w ∈ t.blk.tracker, w.2.2.1 ≠ i)
        ∧ t = { s with blk := t.blk })
  ∧ (∀ (i : Nat) (s : State), (regionOf s i).st = 2 → regionLoads s i = false
      → exec (.regionReleaseComplete i) s = .next { s with blk := { s.blk with regions := tset {} s.blk.regions i {} } })
  ∧ (∀ (i : Nat) (s : State), regionLoads s i = true → exec (.regionReleaseComplete i) s = .next s)
  ∧ (∀ s : State, s.flt.safe = false → s.blk.epochDone < s.tc.timecode.toNat / 1000000
      → ∃ t, exec .epochEnd s = .next t
        ∧ t.blk.tracker = [] ∧ t.blk.untracked = [] ∧ t.blk.epochDone = s.tc.timecode.toNat / 1000000 ∧ t.blk.fullEpochs = s.blk.fullEpochs + 1
        ∧ t.blk.gripMean = s.blk.gripSum ∧ t.blk.gripSum = [] ∧ t.blk.mstMean = s.blk.mstSum ∧ t.blk.mstSum = []
        ∧ t.blk.regions = s.blk.regions ∧ t = { s with blk := t.blk })
  ∧ (∀ s : State, s.tc.timecode.toNat / 1000000 ≤ s.blk.epochDone → exec .epochEnd s = .next s)
  ∧ (∀ (j line k : Nat) (data : Line) (o : Outst) (x : Replica) (s : State), s.flt.safe = false → s.mem.slots = [(slotKey 52 k, some o)]
      → k < 8192 → o.req.who = .engine → j < 2 ^ 20 → line < 1024
      → o.req.compare = fetchKey j x → o.req.operand = BitVec.ofNat 64 line
      → tget none s.blk.replicas j = some x → x.valid = false → x.got = [] → s.mem.held = [] → s.mem.mgtHeld = []
      → ∃ t, exec (.blockFetchResponse j line data false false) s = .next t
        ∧ t.mem.cells = lineSet s.mem.cells (s.mem.addressable * 2 ^ 30 + 65536 * j + 64 * line) fullMask data
        ∧ t.blk = { s.blk with replicas := tset none s.blk.replicas j (some { x with got := [line], valid := false }) }
        ∧ t.mem.slots = [] ∧ t = { s with mem := t.mem, blk := t.blk })
  ∧ (∀ (j line k : Nat) (data : Line) (o : Outst) (x : Replica) (s : State), s.flt.safe = false → s.mem.slots = [(slotKey 52 k, some o)]
      → k < 8192 → o.req.who = .engine → j < 2 ^ 20 → line < 1024
      → o.req.compare = fetchKey j x → o.req.operand = BitVec.ofNat 64 line
      → tget none s.blk.replicas j = some x → x.valid = false → s.mem.held = [] → s.mem.mgtHeld = [] → s.blk.waiting = []
      → ∃ t, exec (.blockFetchResponse j line data false true) s = .next t
        ∧ t.blk = { s.blk with
            replicas := tset none s.blk.replicas j none
            flight := s.blk.flight.filter (· ≠ j)
            dropped := s.blk.dropped + 1 }
        ∧ t.mem.failures = sat32 s.mem.failures 1 ∧ t.mem.cells = s.mem.cells)

/-- O12. Copy queues are enabled, disabled and reset, grips start and finish descriptors, and watches are armed and fire
(R179, R182, R183, R184, R188, R189, R190). Enabling a disabled queue with a legal ring and a running job clears its
control line and runs it; an illegal ring or a job that does not run is the reason it stays disabled; one that is not
disabled stays as it is. Disabling a queue turns it off and discards what it has not started. Reset brings a queue in
error back with its control line clear. A free grip starts its first pending descriptor. A descriptor that is done
leaves, and its queue's count of completions rises. A watch armed on a word that has reached its threshold fires at
once, one on a fenced bank stops, and the notices of the slot's earlier watch go on waiting; the oldest waiting notice
leaves on the SIG class. -/
def Obligations.QueuesGripsAndWatches : Prop :=
  (∀ (p : Path) (q base job : Nat) (s : State), mayWrite s p .o = true → q < 64 → (queueOf s q).st = 0 → ringLegal s q base = true
      → jobRunning s job = true → s.grp.watches = []
      → ∃ t, exec (.queueEnable p q base job) s = .next t
        ∧ t.mem.cells = lineSet s.mem.cells (millBase + 64 * base) fullMask 0
        ∧ t.grp = { s.grp with queues := tupd {} (tupd {} s.grp.queues q (fun x => { x with base := base, job := job })) q (fun x => { x with st := 1, reason := 0 }) }
        ∧ t = { s with mem := t.mem, grp := t.grp, csp := { s.csp with effect := t.csp.effect } })
  ∧ (∀ (p : Path) (q base job : Nat) (s : State), mayWrite s p .o = true → q < 64 → (queueOf s q).st = 0 → ringLegal s q base = false
      → ∃ t, exec (.queueEnable p q base job) s = .next t
        ∧ t.grp = { s.grp with queues := tupd {} (tupd {} s.grp.queues q (fun x => { x with base := base, job := job })) q (fun x => { x with reason := 1 }) }
        ∧ t.mem = s.mem ∧ t = { s with grp := t.grp, csp := { s.csp with effect := t.csp.effect } })
  ∧ (∀ (p : Path) (q base job : Nat) (s : State), mayWrite s p .o = true → q < 64 → (queueOf s q).st ≠ 0
      → ∃ t, exec (.queueEnable p q base job) s = .next t ∧ t = { s with csp := { s.csp with effect := t.csp.effect } })
  ∧ (∀ (p : Path) (q : Nat) (s : State), mayWrite s p .o = true → q < 64 → (queueOf s q).st ≠ 0
      → ∃ t, exec (.queueDisable p q) s = .next t
        ∧ t.grp = { s.grp with
            queues := tupd {} s.grp.queues q (fun x => { x with st := 0 })
            descs := s.grp.descs.map (fun d => if d.queue = q ∧ d.st = .pending then { d with discarded := true } else d) }
        ∧ t = { s with grp := t.grp, csp := { s.csp with effect := t.csp.effect } })
  ∧ (∀ (p : Path) (q : Nat) (s : State), mayWrite s p .o = true → q < 64 → (queueOf s q).st = 2 → s.grp.watches = []
      → ∃ t, exec (.queueReset p q) s = .next t
        ∧ t.mem.cells = lineSet s.mem.cells (millBase + 64 * (queueOf s q).base) fullMask 0
        ∧ t.grp = { s.grp with queues := tupd {} s.grp.queues q (fun x => { x with st := 1, reason := 0 }) }
        ∧ t = { s with mem := t.mem, grp := t.grp })
  ∧ (∀ (g : Nat) (d : Desc) (s : State), gripFenced s g = false → s.flt.safe = false
      → s.grp.descs.any (fun d => d.grip == g && d.st == .running && !issuedAll s d) = false
      → s.grp.descs.find? (fun d => d.grip == g && d.st == .pending && !d.discarded) = some d → d.d.fence = false
      → exec (.gripDescriptorStart g) s = .next { s with grp := { s.grp with descs := s.grp.descs.map (fun e =>
          if e == d then { e with st := .running, sluice := if malformed s d.d then none else sluicePath s d.d } else e) } })
  ∧ (∀ (q n : Nat) (d : Desc) (s : State), s.flt.safe = false → s.grp.descs.find? (fun d => d.queue == q && d.number == n && descReady s d) = some d
      → d.d.count = false → d.d.notify = false
      → exec (.descriptorComplete q n) s = .next (finishDesc d (descStatus s d) s)
        ∧ (finishDesc d (descStatus s d) s).grp.descs = s.grp.descs.erase d
        ∧ (bankFenced s (bankAt (64 * (queueOf s d.queue).base)) = false → descStatus s d = 0
          → wordBad s ((queueOf s d.queue).base * 8 + 2) = false
          → (finishDesc d 0 s).mem.cells = (setCtl d.queue 2 (ctlWord s d.queue 2 + 1) s).mem.cells))
  ∧ (∀ (p : Path) (slot : Nat) (f : WatchFields) (s : State), mayWrite s p .o = true → slot < 1024 → watchLegal f = true
      → f.mode ≠ 0 → bankFenced s (bankAt (8 * f.word.toNat)) = false → (millWord s f.word.toNat).toNat < f.threshold.toNat
      → exec (.watchArm p slot f) s = .next { s with grp := { s.grp with watches := tset {} s.grp.watches slot {
          st := 1
          word := f.word.toNat
          threshold := f.threshold
          step := f.step
          mode := f.mode.toNat
          site := f.site.toNat
          tag := f.tag
          old := watchNotices s slot } } })
  ∧ (∀ (p : Path) (slot : Nat) (f : WatchFields) (s : State), mayWrite s p .o = true → slot < 1024 → watchLegal f = true
      → f.mode ≠ 0 → bankFenced s (bankAt (8 * f.word.toNat)) = false → f.threshold.toNat ≤ (millWord s f.word.toNat).toNat
      → ∃ t, exec (.watchArm p slot f) s = .next t
        ∧ tget {} t.grp.watches slot = {
          st := if f.mode.toNat = 2 then 1 else 2
          word := f.word.toNat
          threshold := if f.mode.toNat = 2 then f.threshold + f.step.setWidth 64 else f.threshold
          step := f.step
          mode := f.mode.toNat
          site := f.site.toNat
          tag := f.tag
          notice := some (millWord s f.word.toNat)
          old := watchNotices s slot }
        ∧ t = { s with grp := { s.grp with watches := t.grp.watches } })
  ∧ (∀ (p : Path) (slot : Nat) (f : WatchFields) (s : State), mayWrite s p .o = true → slot < 1024 → watchLegal f = true
      → f.mode ≠ 0 → bankFenced s (bankAt (8 * f.word.toNat)) = true
      → exec (.watchArm p slot f) s = .next { s with grp := { s.grp with watches := tset {} s.grp.watches slot {
          st := 3
          word := f.word.toNat
          threshold := f.threshold
          step := f.step
          mode := f.mode.toNat
          site := f.site.toNat
          tag := f.tag
          old := watchNotices s slot } } })
  ∧ (∀ (slot word site : Nat) (tag : Word16) (v : Word64) (rest : List (Nat × Nat × Word16 × Word64)) (s : State),
      watchNotices s slot = (word, site, tag, v) :: rest → s.flt.safe = false
      → creditsOf s (wsOf (bankAt (8 * word) / 8)) (ssOf site) cSIG ≠ 0
      → tget [] s.mrc.queues (pcKey (wsOf (bankAt (8 * word) / 8)) (ssOf site) cSIG) = []
      → ∃ u : State, exec (.watchNotice slot) s = .next (sendMsg (wsOf (bankAt (8 * word) / 8)) (ssOf site) cSIG
          { pay := .watchNotice site v slot tag } u)
        ∧ watchNotices u slot = rest
        ∧ u = { s with grp := { s.grp with watches := u.grp.watches } })

/-- O13. COL headers and lines are taken in order, an owner finishes groups one by one, and the oldest chunk is delivered
(R204, R205, R206, R219, R220, R223). A COL_HDR at the head of its buffer is taken and its lines are placed by it one
after another; a line for a context that is not set up, or at a fenced millstone, is discarded and counted. When the
next group of a chunk is ready at its owner, it is finished: that chunk alone has one more finished group. A closed
chunk whose plans are done is delivered: it leaves the context, and the completion counter is counted. -/
def Obligations.CollectivesGatherAndDeliver : Prop :=
  (∀ (w src : Nat) (h : ColHdr) (m : MrMsg) (rest : List MrMsg) (s : State), s.flt.safe = false
      → tget [] s.mrc.rx (pcKey src (wsOf w) cCOL) = m :: rest → m.pay = .colHdr h
      → exec (.colHdr w src h) s = .next (modMst (fun x => { x with hdr := tset none x.hdr (colKey w src) (some (h, 0)) })
          (takeRx (wsOf w) cCOL src m s)))
  ∧ (∀ (w src i : Nat) (h : ColHdr) (data : Line) (poison : Bool) (m : MrMsg) (rest : List MrMsg) (s : State), s.flt.safe = false
      → tget [] s.mrc.rx (pcKey src (wsOf w) cCOL) = m :: rest → m.pay = .colLine data poison
      → tget none s.mst.hdr (colKey w src) = some (h, i) → millFenced s w = false
      → exec (.colLine w src data poison) s = .next (placeCol h i (data, poison)
          (modMst (fun x => { x with hdr := tset none x.hdr (colKey w src) (if i + 1 = h.count then none else some (h, i + 1)) })
            (takeRx (wsOf w) cCOL src m s))))
  ∧ (∀ (w src i : Nat) (h : ColHdr) (data : Line) (poison : Bool) (m : MrMsg) (rest : List MrMsg) (s : State), s.flt.safe = false
      → tget [] s.mrc.rx (pcKey src (wsOf w) cCOL) = m :: rest → m.pay = .colLine data poison
      → tget none s.mst.hdr (colKey w src) = some (h, i)
      → millFenced s w = true ∨ (ctxAt s h.context).st = 0 ∨ (ctxAt s h.context).st = 3
      → ∃ t, exec (.colLine w src data poison) s = .next t
        ∧ t.mst = { s.mst with
            hdr := tset none s.mst.hdr (colKey w src) (if i + 1 = h.count then none else some (h, i + 1))
            discards := sat32 s.mst.discards 1 }
        ∧ t.mrc = (takeRx (wsOf w) cCOL src m s).mrc)
  ∧ (∀ (c chunk : Nat) (h : Chunk) (s : State), s.flt.safe = false → (ctxAt s c).st = 2 → millFenced s (ctxAt s c).mill = false
      → (ctxAt s c).chunks.find? (fun h => decide (h.finished < (recOf s c).outGroups) ||
          (sendsPartial (recOf s c) h.no && decide (h.partialSent < (recOf s c).groups))) = some h
      → chunk = h.no % max 1 (recOf s c).chunks → (recOf s c).nodes ≤ 1 → groupReady (recOf s c) h h.finished = true
      → (recOf s c).sched = false
      → (streamNeeds s (recOf s c) h.no h.finished).all (fun a => (streamLine s c h.no a).isSome) = true
      → ∃ t, exec (.groupFinish c chunk h.finished) s = .next t ∧ t = ownerFinish c h s
        ∧ (ctxAt t c).chunks.map (fun k => (k.no, k.finished))
          = (ctxAt s c).chunks.map (fun k => (k.no, if k.no = h.no then k.finished + 1 else k.finished))
        ∧ (ctxAt t c).run = (ctxAt s c).run)
  ∧ (∀ (c : Nat) (h : Chunk) (rest : List Chunk) (s : State), s.flt.safe = false → (ctxAt s c).st = 2 → (ctxAt s c).chunks = h :: rest
      → h.closed = true → chunkDelivered s (recOf s c) h = true
      → ∃ t, exec (.chunkComplete c) s = .next t
        ∧ t = deliverChunk c h (h.no % max 1 (recOf s c).chunks + 1 == (recOf s c).chunks) s
        ∧ (ctxAt t c).chunks = (ctxAt s c).chunks.filter (fun y => y.no != h.no)
        ∧ (h.no % max 1 (recOf s c).chunks + 1 = (recOf s c).chunks → (ctxAt t c).run = (ctxAt s c).run + 1))
  ∧ (∀ (c : Nat) (h : Chunk) (rest : List Chunk) (s : State), (ctxAt s c).chunks = h :: rest → h.closed = false
      → exec (.chunkComplete c) s = .next s)

/-- O14. A context is set up, given constants, aborted and freed; a late member is counted and given up at its limit
(R194, R203, R218, R222, R223). A set-up with no reason against it makes the context ready at its millstone with the
constants of its record; one with a reason records it. Constants replace those of a context that is set up. An abort
ends its run and leaves it ready; freeing one that no reel names removes it with its stores and output ring. A chunk
that waits at a due tick counts once in the context's lateness, with its member; at the late limit the member is given
up unless the policy waits. A lane rate of 125 or more is recorded. -/
def Obligations.ContextsAndTheirLateMembers : Prop :=
  (∀ (p : Path) (c : Nat) (s : State), mayWrite s p .o = true → c < ctxCount s.part.variant
      → setupReason s c (recOf s c) (bindTo s c (recOf s c)) = 0 → millFenced s (bindTo s c (recOf s c)) = false
      → exec (.contextSetup p c) s = .next { s with mst := { s.mst with
          ctxs := tset {} s.mst.ctxs c { st := 1, mill := bindTo s c (recOf s c), ks := (recOf s c).ks } } })
  ∧ (∀ (p : Path) (c : Nat) (s : State), mayWrite s p .o = true → c < ctxCount s.part.variant
      → setupReason s c (recOf s c) (bindTo s c (recOf s c)) ≠ 0
      → exec (.contextSetup p c) s = .next { s with mst := { s.mst with
          ctxs := tupd {} s.mst.ctxs c (fun x => { x with reason := setupReason s c (recOf s c) (bindTo s c (recOf s c)) }) } })
  ∧ (∀ (p : Path) (c : Nat) (s : State), mayWrite s p .o = true → c < ctxCount s.part.variant → (ctxAt s c).st = 2
      → ∃ t, exec (.contextAbort p c) s = .next t ∧ (ctxAt t c).st = 1 ∧ t = modCtx c (fun y => { y with st := 1 }) (endRun c 0x40 s))
  ∧ (∀ (p : Path) (c : Nat) (s : State), mayWrite s p .o = true → c < ctxCount s.part.variant → (ctxAt s c).st ≠ 2
      → exec (.contextAbort p c) s = .next s)
  ∧ (∀ (p : Path) (c : Nat) (s : State), mayWrite s p .o = true → c < ctxCount s.part.variant → (ctxAt s c).st = 1 → reelNames s c = false
      → exec (.contextFree p c) s = .next { s with
          slu := { s.slu with rings := tset {} s.slu.rings (outKey (wsOf (ctxAt s c).mill) c) {} }
          mst := { s.mst with
            ctxs := tset {} s.mst.ctxs c {}
            stores := s.mst.stores.filter (fun y => y.ctx != c)
            fetches := s.mst.fetches.filter (fun y => y.ctx != c) } })
  ∧ (∀ (p : Path) (c : Nat) (s : State), mayWrite s p .o = true → c < ctxCount s.part.variant → (ctxAt s c).st ≠ 0 → reelNames s c = true
      → exec (.contextFree p c) s = .next { s with mst := { s.mst with ctxs := tupd {} s.mst.ctxs c (fun x => { x with reason := 7 }) } })
  ∧ (∀ (p : Path) (c : Nat) (ks : List Word32) (s : State), mayWrite s p .o = true → c < ctxCount s.part.variant → (ctxAt s c).st ≠ 0 → ks.length = 8
      → exec (.contextConstants p c ks) s = .next { s with mst := { s.mst with ctxs := tupd {} s.mst.ctxs c (fun x => { x with ks := ks }) } })
  ∧ (∀ (c m : Nat) (h : Chunk) (s : State), s.flt.safe = false
      → (ctxAt s c).chunks.find? (fun h => (memAt h m).due.isSome && !(memAt h m).dueSeen) = some h
      → schedAny s c m = false ∨ frameEnded s ((memAt h m).due.getD 0) = true → h.closed = false
      → memberDone (recOf s c) h m = false → (memAt h m).gone = false → h.lated = false
      → ∃ t, exec (.dueTick c m) s = .next t
        ∧ (ctxAt t c).late = sat32 (ctxAt s c).late 1
        ∧ (ctxAt t c).lates = { member := m, no := h.no, at_ := s.now } :: (ctxAt s c).lates
        ∧ t.mem = s.mem ∧ t.slu = s.slu)
  ∧ (∀ (c m : Nat) (h : Chunk) (s : State), s.flt.safe = false → m < 12 → (recOf s c).late ≠ 2
      → (ctxAt s c).chunks.find? (fun h => !h.closed && (memAt h m).due.isSome && !(memAt h m).gone &&
          !memberDone (recOf s c) h m && frameEnded s ((memAt h m).due.getD 0 + (recOf s c).lateFrames)) = some h
      → exec (.lateLimitExpiry c m) s = .next (paceCheck (recOf s c).job (mstProgress c h.no (giveUp c h.no m s))))
  ∧ (∀ (w rate : Nat) (s : State), s.flt.safe = false → hasWs s.part.variant w = true → 125 ≤ rate → standAddr s .millstoneSlow w = none
      → exec (.laneRateMeasure w rate) s = .next { s with mst := { s.mst with rate := tset 0 s.mst.rate w (BitVec.ofNat 8 rate) } })
  ∧ (∀ (w rate : Nat) (s : State), s.flt.safe = false → hasWs s.part.variant w = true → rate < 125 → vmillAtMax s = true
      → (∀ t, s.gaf.lastRaise = some t → t + 1000000 ≤ s.now) → standAddr s .millstoneSlow w = none
      → exec (.laneRateMeasure w rate) s = .next { s with
          mst := { s.mst with rate := tset 0 s.mst.rate w (BitVec.ofNat 8 rate) }
          flt := { s.flt with
            standing := (.millstoneSlow, w, 0) :: s.flt.standing
            net := s.flt.net ++ [mkMsg s .millstoneSlow 4 w 0] } })
  ∧ (∀ (w rate : Nat) (s : State), s.flt.safe = false → hasWs s.part.variant w = true → rate < 125 → vmillAtMax s = false
      → exec (.laneRateMeasure w rate) s = .next { s with mst := { s.mst with rate := tset 0 s.mst.rate w (BitVec.ofNat 8 rate) } })

/-- O15. A site powers up with HELLO, VSITE steps toward the request within limits, and each protection acts (R239, R240,
R241, R242, R249). Power-up starts the site at its START code, with its reset high and HELLO sent. A request is
recorded; VSITE moves one code toward it, within the installer's limits and at most once in 1 µs. Overvoltage turns
the regulator off and, like a failed power-bump group, a lost forwarded clock or a lost sideband, names its cause and
reports the fence; undervoltage and overcurrent are recorded and reported. In safe state none of them changes
anything. -/
def Obligations.SitesArePoweredAndTheirVoltageMoves : Prop :=
  (∀ (n : Nat) (s : State), s.flt.safe = false → s.boot.dark = false → sitePresent s.part n = true
      → ((siteOf s n).st = 1 ∨ (siteOf s n).st = 5 ∧ siteRetrying s n = true) → 9 ≤ s.boot.phase
      → exec (.sitePowerUp n) s = .next { s with
          tsi := tupd {} s.tsi n (fun y => { y with
            st := 2
            on := true
            vsio := true
            sb := { start := some s.now }
            vset := y.limits.start
            vreq := y.limits.start
            overvolt := false
            undervolt := false
            groupFail := false
            clamped := false
            mods := []
            links := []
            neg := { base := baseWords s n, lastTempAt := some s.now } })
          pins := { s.pins with siteRstHigh := n :: s.pins.siteRstHigh.filter (· ≠ n) }
          out := .sideband n .hello [0x21] :: s.out })
  ∧ (∀ (n code : Nat) (s : State), siteOn s n = true → code ≤ 90
      → exec (.vsiteReq n code) s = .next { s with tsi := tupd {} s.tsi n (fun x => { x with vreq := code }) })
  ∧ (∀ (n code : Nat) (s : State), 90 < code → exec (.vsiteReq n code) s = .next s)
  ∧ (∀ (n : Nat) (s : State), siteOn s n = true
      → (∀ t, (siteOf s n).lastStep = some t → t + 1000 ≤ s.now)
      → (siteOf s n).vset ≠ max (siteOf s n).limits.min (min (siteOf s n).limits.max (siteOf s n).vreq)
      → exec (.vsiteStep n) s = .next { s with tsi := tupd {} s.tsi n (fun y => { y with
          vset := if y.vset < max (siteOf s n).limits.min (min (siteOf s n).limits.max (siteOf s n).vreq) then y.vset + 1 else y.vset - 1
          lastStep := some s.now }) })
  ∧ (∀ (n : Nat) (s : State), (siteOf s n).vset = max (siteOf s n).limits.min (min (siteOf s n).limits.max (siteOf s n).vreq)
      → exec (.vsiteStep n) s = .next s)
  ∧ (∀ (n : Nat) (s : State), siteOn s n = true
      → exec (.siteOvervolt n) s = .next { s with
          tsi := tupd {} (tupd {} s.tsi n (fun x => { x with on := false, overvolt := true })) n (fun x => { x with cause := 5, causeModule := 0, causeGroup := 0, causeNew := true })
          flt := { s.flt with net := s.flt.net ++ [mkMsg s .siteOvervolt 1 n 0] } })
  ∧ (∀ (n : Nat) (s : State), siteOn s n = true
      → exec (.siteUndervolt n) s = .next { s with
          tsi := tupd {} s.tsi n (fun x => { x with undervolt := true })
          flt := { s.flt with net := s.flt.net ++ [mkMsg s .siteUndervolt 1 n 0] } })
  ∧ (∀ (n : Nat) (s : State), siteOn s n = true
      → exec (.siteOvercurrent n) s = .next { s with
          tsi := tupd {} s.tsi n (fun x => { x with clamped := true })
          flt := { s.flt with net := s.flt.net ++ [mkMsg s .siteOvercurrent 1 n 0] } })
  ∧ (∀ (n g : Nat) (s : State), siteOn s n = true → g < 64
      → exec (.tsiPowerBumpFail n g) s = .next (siteFence n 4 0 g .tsiPowerBumpFail
          { s with tsi := tupd {} s.tsi n (fun x => { x with groupFail := true, group := g }) }))
  ∧ (∀ (n m : Nat) (s : State), s.flt.safe = false → 2 ≤ (siteOf s n).st → (siteOf s n).st ≠ 5 → m < 64
      → exec (.tsiClockFail n m) s = .next (siteFence n 3 m 0 .tsiClockFail s))
  ∧ (∀ (n g : Nat) (s : State), s.flt.safe = true
      → exec (.sitePowerUp n) s = .next s ∧ exec (.siteOvervolt n) s = .next s ∧ exec (.siteUndervolt n) s = .next s
        ∧ exec (.siteOvercurrent n) s = .next s ∧ exec (.tsiPowerBumpFail n g) s = .next s)
  ∧ (∀ (n : Nat) (x : Tick) (s : State), sbLive s n = true → (siteOf s n).neg.lastTempAt = some x → x + 1000000 ≤ s.now
      → exec (.sidebandLost n) s = .next (siteFence n 7 0 0 .tsiSidebandLost s))

/-- O16. The sideband negotiates word by word, repeats itself on RESEND, and answers register accesses once per tag (R267,
R271, R272, R273, R274, R276, R277, R446). HELLO_ACK aligns the die and sends the base's words. Each CAP word of an
aligned die is kept. CAP_END forms every agreed word by its rule, closes the negotiation, and accepts the site or
refuses it with a fence. RESEND repeats from its first word the message whose word went out last; a bad word asks for
one. TEMP keeps the temperature and its tick. A slew request is answered with the room there is. A MODULE_OFF_ACK that
covers every held flit empties the module, whose waiting slots go on another. A register read or write is carried out
and answered; one with the tag of the latest answer is answered from it alone. -/
def Obligations.TheSidebandNegotiatesAndAnswers : Prop :=
  (∀ (n : Nat) (rev : Byte) (s : State), sbLive s n = true → (siteOf s n).neg.aligned = false → (siteOf s n).neg.done = false
      → ∃ t, exec (.helloAck n rev) s = .next t
        ∧ (siteOf t n).neg = { (siteOf s n).neg with aligned := true, ackRev := rev, lastTempAt := some s.now }
        ∧ t.out = .sideband n .capEnd [7] :: ((siteOf s n).neg.base.map (fun p => .sideband n .cap [p.1, p.2.toNat])).reverse ++ s.out
        ∧ ((siteOf s n).sb.start.isSome = true → (siteOf t n).sb.queue = (siteOf s n).sb.queue
            ++ ((siteOf s n).neg.base.map (fun p => ({ kind := .cap, vals := [p.1, p.2.toNat] } : SbMsg))
              ++ [({ kind := .capEnd, vals := [7] } : SbMsg)]))
        ∧ t = { s with tsi := t.tsi, out := t.out })
  ∧ (∀ (n w : Nat) (v : Word32) (s : State), sbLive s n = true → (siteOf s n).neg.aligned = true → (siteOf s n).neg.done = false → w < 32
      → ∃ t, exec (.cap n w v) s = .next t
        ∧ (siteOf t n).neg = { (siteOf s n).neg with
            die := if w < 8 then tset 0 (siteOf s n).neg.die w v else (siteOf s n).neg.die
            unsupported := if w < 8 then (siteOf s n).neg.unsupported else (siteOf s n).neg.unsupported ||| BitVec.ofNat 32 (2 ^ w)
            dieSent := if (siteOf s n).neg.dieSent.contains w then (siteOf s n).neg.dieSent else (siteOf s n).neg.dieSent ++ [w]
            lastTempAt := some s.now }
        ∧ t = { s with tsi := t.tsi })
  ∧ (∀ (n : Nat) (s : State), sbLive s n = true → (siteOf s n).neg.aligned = true → (siteOf s n).neg.done = false
      → ∃ t, exec (.capEnd n) s = .next t
        ∧ (siteOf t n).neg.done = true ∧ (siteOf t n).neg.lastTempAt = some s.now
        ∧ (siteOf t n).neg.revision = min (fld (tget 0 (siteOf s n).neg.base 0) 0 8) (fld (tget 0 (siteOf s n).neg.die 0) 0 8)
        ∧ (∀ k < 8, tget 0 (siteOf t n).neg.agreed k = agreeWord k (tget 0 (siteOf s n).neg.base k) (tget 0 (siteOf s n).neg.die k)
            (siteOf t n).neg.revision)
        ∧ (siteOf t n).neg.accepted = !agreeFails (fun k => agreeWord k (tget 0 (siteOf s n).neg.base k) (tget 0 (siteOf s n).neg.die k)
            (siteOf t n).neg.revision) (fun k => tget 0 (siteOf s n).neg.die k)
        ∧ t.out.head? = some (.sideband n .agreedEnd [b2n (siteOf t n).neg.accepted])
        ∧ t.flt = (if (siteOf t n).neg.accepted then s.flt
            else { s.flt with net := s.flt.net ++ [mkMsg s .tsiTrainFail 1 n 0] }))
  ∧ (∀ (n : Nat) (m : SbMsg) (s : State), sbLive s n = true → (siteOf s n).sb.sent = some m
      → ∃ t, exec (.resend n) s = .next t
        ∧ (siteOf t n).count = { (siteOf s n).count with resendGot := min 65535 ((siteOf s n).count.resendGot + 1) }
        ∧ (siteOf t n).sb = sbAgain (siteOf s n).sb
        ∧ t = { s with tsi := t.tsi, out := .sideband n m.kind m.vals :: s.out })
  ∧ (∀ (n : Nat) (s : State), sbLive s n = true
      → exec (.sidebandWordError n) s = .next (sideband n .resend [] { s with
          tsi := tupd {} s.tsi n (fun x => { x with count := { x.count with resendSent := min 65535 (x.count.resendSent + 1) } }) }))
  ∧ (∀ (n : Nat) (kind : SbKind) (vals : List Nat) (s : State), (siteOf s n).sb.start.isSome = true
      → ∃ t, sideband n kind vals s = t
        ∧ (siteOf t n).sb = { (siteOf s n).sb with queue := (siteOf s n).sb.queue ++ [{ kind := kind, vals := vals }] }
        ∧ t = { s with tsi := t.tsi, out := .sideband n kind vals :: s.out })
  ∧ (∀ (n : Nat) (c : Int) (s : State), sbLive s n = true → (siteOf s n).neg.done = true
      → ∃ t, exec (.temp n c) s = .next t
        ∧ (siteOf t n).neg = { (siteOf s n).neg with lastTemp := c, lastTempAt := some s.now }
        ∧ t.gaf = { s.gaf with sites := tupd {} s.gaf.sites n (fun p => { p with
            hotSince := if tjMax s n + deg 10 ≤ c then some (p.hotSince.getD s.now) else none
            coolSince := if c < tjMax s n - deg 2 then some (p.coolSince.getD s.now) else none }) }
        ∧ t = { s with tsi := t.tsi, gaf := t.gaf })
  ∧ (∀ (n delta window : Nat) (tag : Byte) (s : State), gafRuns s = true → sbLive s n = true → siteServing s n = true
      → bit (siteFeatures s n) 2 = true → 0 < sgn 10 delta → s.gaf.f = 1000000 → slewRoom s n (sgn 10 delta).natAbs ≠ 0
      → exec (.slewReq n delta window tag) s = .next (sideband n .slewGrant
          [uns 10 (slewRoom s n (sgn 10 delta).natAbs : Nat), window, tag.toNat] { s with
          gaf := { s.gaf with sites := tupd {} s.gaf.sites n (fun p => { p with
            grant := some ((slewRoom s n (sgn 10 delta).natAbs : Nat), s.now + 1000 * window) }) } }))
  ∧ (∀ (n m seq : Nat) (f : Flit) (s : State), sbLive s n = true → 32 ≤ m → m < 64 → (linkOf s n (m % 32)).offWait = true
      → (linkOf s n (m % 32)).held = [f] → f.seq.toNat = seq
      → exec (.moduleOffAck n m seq) s = .next (rerouteSlots n (m % 32) (linkOf s n (m % 32)).hopper { s with tsi := tupd {} s.tsi n (fun x => { x with
          links := tupd {} x.links (m % 32) (fun y => { y with held := [], heldNo := [], hopper := [], offWait := false, used := [] }) }) }))
  ∧ (∀ (n a : Nat) (tag : Byte) (s : State), sbLive s n = true → savedRsp s n tag = none → csAnswers s = true
      → exec (.regRead n a tag) s = .next (regRsp n tag false (regRead (.sideband n) a s).1 (regRead (.sideband n) a s).2))
  ∧ (∀ (n a : Nat) (tag : Byte) (d : Word32) (s : State), sbLive s n = true → savedRsp s n tag = none → csAnswers s = true
      → exec (.regWrite n a tag d) s = .next (regRsp n tag true 0 (regWrite (.sideband n) a d s)))
  ∧ (∀ (n a : Nat) (tag : Byte) (w : Bool) (v d : Word32) (s : State), sbLive s n = true → savedRsp s n tag = some (w, v)
      → exec (.regRead n a tag) s = .next (sideband n .regRsp [tag.toNat, b2n w, v.toNat] s)
        ∧ exec (.regWrite n a tag d) s = .next (sideband n .regRsp [tag.toNat, b2n w, v.toNat] s))
  ∧ (∀ (n : Nat) (tag : Byte) (w : Bool) (v : Word32) (s : State),
      regRsp n tag w v s = sideband n .regRsp [tag.toNat, b2n w, v.toNat]
        { s with csp := { s.csp with lastRsp := tset none s.csp.lastRsp n (some (tag, w, v)) } })

/-- O17. A site trains into service or is fenced, taps move one step, and failing lanes take spares, narrow or turn a
module off (R242, R243, R244, R246, R248, R249, R250, R267). A negotiated site whose modules came up enters service at
the highest agreed rate; one that did not answer, lost a clock or kept fewer than eight modules a way is fenced with
its cause. A trim interval moves each lane's tap at most one step, none under FREEZE. Installer targets and FREEZE are
recorded and audited. A lane fails below 8 delay steps or 4 threshold steps of margin, above 256 corrected symbols in
1 ms, or where it carries nothing; it starts a repair with its half's free spare and tells the die; without one it
narrows a whole module. A comparison done puts the spare in place and is counted; a narrowing done keeps one half. The
rate fallback ends with its message. -/
def Obligations.SitesTrainTrimRepairAndDegrade : Prop :=
  (∀ (n : Nat) (r : TrainResult) (s : State), s.flt.safe = false → (siteOf s n).st = 2 → r.answered = false
      → exec (.siteTraining n r) s = .next (siteFence n 7 0 0 .tsiSidebandLost s))
  ∧ (∀ (n m : Nat) (r : TrainResult) (s : State), s.flt.safe = false → (siteOf s n).st = 2 → r.answered = true
      → (siteOf s n).neg.done = true → (siteOf s n).neg.accepted = true → r.clockFail = some m
      → exec (.siteTraining n r) s = .next (siteFence n 3 m 0 .tsiClockFail s))
  ∧ (∀ (n : Nat) (r : TrainResult) (s : State), s.flt.safe = false → (siteOf s n).st = 2 → r.answered = true
      → (siteOf s n).neg.done = true → (siteOf s n).neg.accepted = true → r.clockFail = none → r.failed = [] → r.taps = []
      → fld (agreedWord s n 1) 8 6 = 32 → fld (agreedWord s n 1) 14 6 = 32
      → ∃ t, exec (.siteTraining n r) s = .next t
        ∧ t = capUpdate (syncStreams { s with tsi := tupd {} s.tsi n (fun y => { y with
            st := 3
            rate := ((List.range 3).find? (siteRateOk s n)).getD 0
            oldRate := ((List.range 3).find? (siteRateOk s n)).getD 0
            mods := (List.range 64).map (fun m => (m, ({ st := 1 } : SiteMod)))
            links := []
            targets := [] }) }))
  ∧ (∀ (n : Nat) (moves : List LaneTrim) (s : State), s.flt.safe = false → (siteOf s n).st = 3 → (siteOf s n).freeze = true
      → (∀ x, (siteOf s n).lastTrim = some x → x + 10000 ≤ s.now)
      → exec (.trimInterval n moves) s = .next { s with tsi := tupd {} s.tsi n (fun y => { y with
          lastTrim := some s.now
          margin := moves.foldl (fun t v => tset none t (v.module * 128 + v.lane) (some (v.width % 64, v.height % 32))) y.margin }) })
  ∧ (∀ cur goal : Nat, tapStep cur goal = cur ∨ tapStep cur goal = cur + 1 ∨ tapStep cur goal + 1 = cur
      ∨ tapStep cur goal = cur + 32 ∨ tapStep cur goal + 32 = cur)
  ∧ (∀ (n k g : Nat) (s : State), s.flt.safe = false → (siteOf s n).st = 3 → (siteOf s n).freeze = false
      → (siteOf s n).lastTrim = none → (siteOf s n).targets = [(k, some g)]
      → ∃ t, exec (.trimInterval n []) s = .next t
        ∧ (siteOf t n).taps = tupd 0 (siteOf s n).taps ((siteOf s n).rate * 8192 + k) (fun c => tapStep c g)
        ∧ (siteOf t n).lastTrim = some s.now ∧ t = { s with tsi := t.tsi })
  ∧ (∀ (p : Path) (n m lane d th : Nat) (s : State), mayWrite s p .i = true → sitePresent s.part n = true → m < 32 → lane < 69
      → exec (.tsiLaneTapWrite p n m lane d th) s = .next (audit (some p) 0x10 (BitVec.ofNat 32 (0x0B0028 + 0x1000 * n))
          (BitVec.ofNat 64 (d % 64 + 256 * (th % 32)))
          { s with tsi := tupd {} s.tsi n (fun x => { x with
            targets := tset none x.targets (m * 128 + lane) (some (d % 64 * 32 + th % 32)) }) }))
  ∧ (∀ (p : Path) (n : Nat) (on : Bool) (s : State), mayWrite s p .i = true → sitePresent s.part n = true
      → exec (.tsiTrimFreeze p n on) s = .next (audit (some p) 0x10 (BitVec.ofNat 32 (0x0B0020 + 0x1000 * n)) (BitVec.ofNat 64 (b2n on))
          { s with tsi := tupd {} s.tsi n (fun x => { x with freeze := on }) }))
  ∧ (∀ (n m lane k : Nat) (stuck : Bool) (s : State), s.flt.safe = false → (siteOf s n).st = 3 → laneFailing s n m lane stuck = true → modUp s n m = true → m < 32 → lane < 64
      → ((modOf s n m).st = 1 ∨ lane / 32 = (modOf s n m).half) → (modOf s n m).narrowing = none → (modOf s n m).repair = none
      → freeSpare (modOf s n m) (lane / 32) = some k
      → exec (.laneFailing n m lane stuck) s = .next (sideband n .repair [m, lane, k % 2] { s with
          tsi := tupd {} s.tsi n (fun x => { x with mods := tupd {} x.mods m (fun y => { y with repair := some (lane, k) }) }) }))
  ∧ (∀ (n m lane : Nat) (s : State), (∀ p, tget none (siteOf s n).margin (m * 128 + lane) = some p → 8 ≤ p.1 ∧ 4 ≤ p.2)
      → ((tget [] (siteOf s n).laneTimes (m * 128 + lane)).filter (fun t => decide (s.now < t + 1000000))).length ≤ 256
      → exec (.laneFailing n m lane false) s = .next s)
  ∧ (∀ (n m lane : Nat) (s : State), s.flt.safe = false → (siteOf s n).st = 3 → (modOf s n m).st = 1 → 32 ≤ m → m < 64 → lane < 64
      → (modOf s n m).narrowing = none → (modOf s n m).repair = none → (modOf s n m).failing = []
      → freeSpare (modOf s n m) (lane / 32) = none
      → exec (.laneFail n m lane) s = .next (sideband n .narrow [m, 1 - lane / 32] { s with
          tsi := tupd {} s.tsi n (fun x => { x with mods := tupd {} x.mods m (fun y => { y with narrowing := some (1 - lane / 32) }) }) }))
  ∧ (∀ (n m lane k : Nat) (s : State), s.flt.safe = false → modUp s n m = true → (modOf s n m).repair = some (lane, k)
      → (modOf s n m).failing = []
      → ∃ t, exec (.spareCompareDone n m) s = .next t
        ∧ (modOf t n m).repair = none ∧ (modOf t n m).spares = (modOf s n m).spares.set k lane
        ∧ (siteOf t n).count.swaps = min 65535 ((siteOf s n).count.swaps + 1)
        ∧ t.flt = { s.flt with net := s.flt.net ++ [mkMsg s .tsiLaneRepaired 1 n (m + lane * 64)] }
        ∧ t = { s with tsi := t.tsi, flt := t.flt, out := .sideband n .repairDone [m, lane, k % 2] :: s.out })
  ∧ (∀ (n m h : Nat) (s : State), s.flt.safe = false → (modOf s n m).narrowing = some h → (modOf s n m).failing = [] → m < 32
      → ∃ t, exec (.narrowingComplete n m) s = .next t
        ∧ (modOf t n m).st = 2 ∧ (modOf t n m).half = h ∧ (modOf t n m).narrowing = none
        ∧ (siteOf t n).count.narrows = min 255 ((siteOf s n).count.narrows + 1)
        ∧ t.flt = { s.flt with net := s.flt.net ++ [mkMsg s .moduleNarrowed 1 n m] })
  ∧ (∀ (n : Nat) (x : Tick) (s : State), s.flt.safe = false → (siteOf s n).fallbackAt = some x → x + 6000 ≤ s.now
      → ∃ t, exec (.siteRateFallbackEnd n 0) s = .next t
        ∧ t.tsi = tupd {} s.tsi n (fun x => { x with fallbackAt := none })
        ∧ t.flt = { s.flt with net := s.flt.net ++ [mkMsg s .tsiRateFallback 1 n 0] }
        ∧ t = { s with tsi := t.tsi, flt := t.flt, ident := t.ident })

/-- O18. A die's flits are taken in order and answered, retries are asked for in time, and hoppers send against credits
(R104, R253, R258, R259, R263, R264, R265, R266, R269, R270, R286). A flit that the code cannot correct, or of a
reserved type, is counted and asks for replay; an idle one only acknowledges; one out of turn asks for replay; the
expected one moves the sequence on, returns its credits and is counted. An expected flit that does not come within its
interval is asked for again, at a site, on a lane and on a wavelength. A hopper sends its next flit with the next
sequence number, to be held until it is acknowledged. A signal agreed goes to its sites; a stream line spends a credit
and enters its ring; stream credits add up, REVOKE first. -/
def Obligations.SiteFlitsArriveAndLeave : Prop :=
  (∀ (n k : Nat) (f : Flit) (errs : List (Nat × Byte)) (s : State), flitsCross s n = true → k < 32 → modUp s n k = true
      → flitUncorrectable errs = true ∨ ((flitDecoded f errs).type ≠ 0 ∧ (flitDecoded f errs).type ≠ 1 ∧ (flitDecoded f errs).type ≠ 3)
      → (linkOf s n k).nakAt = none
      → ∃ t, exec (.tsiFlitReceive n k f errs) s = .next t
        ∧ (siteOf t n).count = { (siteOf s n).count with uncorr := sat32 (siteOf s n).count.uncorr 1 }
        ∧ linkOf t n k = { linkOf s n k with nak := true, nakAt := some s.now }
        ∧ t = { s with tsi := t.tsi })
  ∧ (∀ (n k : Nat) (f : Flit) (s : State), flitsCross s n = true → k < 32 → modUp s n k = true → f.type = 0 → f.nak = false
      → ∃ t, exec (.tsiFlitReceive n k f []) s = .next t
        ∧ (siteOf t n).links = tset {} (siteOf s n).links k { linkOf s n k with
            held := (linkOf s n k).held.drop (ackCount (linkOf s n k).held f.ack)
            heldNo := (linkOf s n k).heldNo.drop (ackCount (linkOf s n k).held f.ack)
            naks := if ackCount (linkOf s n k).held f.ack = 0 then (linkOf s n k).naks else 0 }
        ∧ t = { s with tsi := t.tsi })
  ∧ (∀ (n k : Nat) (f : Flit) (s u : State), flitsCross s n = true → k < 32 → modUp s n k = true → f.type = 1 → f.nak = false
      → takeAck n k f.ack false (laneErrors n k [] s) = u
      → f.seq.toNat = (linkOf u n k).expect → (linkOf u n k).expect < 4095 → f.slots.filterMap id = []
      → (linkOf s n k).inbound = []
      → ∃ t, exec (.tsiFlitReceive n k f []) s = .next t
        ∧ linkOf t n k = { linkOf u n k with
            expect := (linkOf u n k).expect + 1
            nakAt := none
            nak := false
            used := (List.range 7).foldl (fun t c => tupd 0 t c (· - f.cred.getD c 0)) (linkOf u n k).used }
        ∧ t = { s with tsi := t.tsi })
  ∧ (∀ (n k : Nat) (f : Flit) (s u : State), flitsCross s n = true → k < 32 → modUp s n k = true → f.type = 1 → f.nak = false
      → takeAck n k f.ack false (laneErrors n k [] s) = u → f.seq.toNat ≠ (linkOf u n k).expect → (linkOf u n k).nakAt = none
      → ∃ t, exec (.tsiFlitReceive n k f []) s = .next t
        ∧ linkOf t n k = { linkOf u n k with nak := true, nakAt := some s.now }
        ∧ t = { s with tsi := t.tsi })
  ∧ (∀ (n k : Nat) (x : Tick) (s : State), s.flt.safe = false → (linkOf s n k).nakAt = some x → x + nakTicks s n k ≤ s.now
      → exec (.nakTimeout (.site n k)) s = .next { s with tsi := tupd {} s.tsi n (fun y => { y with
          links := tupd {} y.links k (fun l => { l with nak := true, nakAt := some s.now }) }) })
  ∧ (∀ (l w : Nat) (x : Tick) (s : State), s.flt.safe = false → (podLane s l w).nakAt = some x → x + 2634 ≤ s.now
      → exec (.nakTimeout (.lane l w)) s = .next (modPodLane l w (fun y => { y with nak := true, nakAt := some s.now }) s))
  ∧ (∀ (src dst l : Nat) (x : Tick) (s : State), s.flt.safe = false → src < 36 → carries s src dst l = true
      → (lamOf s src l).nakAt = some x → x + 2634 ≤ s.now
      → exec (.nakTimeout (.lambda src dst l)) s = .next { s with mrc := { s.mrc with
          lambdas := tset {} s.mrc.lambdas (src * 96 + l) { lamOf s src l with nak := true, nakAt := some s.now } } })
  ∧ (∀ (n k : Nat) (e : HopEntry) (s : State), flitsCross s n = true → k < 32 → modTakes s n (32 + k) = true
      → (linkOf s n k).held.length < 64 → hopNext s n k = some e
      → exec (.hopperRelease n (32 + k)) s = .next (drainSs n (fillHoppers n (siteSend n k (if e.stream then 3 else 1) e.origin e.slots e.no
          (modLink n k (fun l => { l with hopper := l.hopper.erase e }) s)))))
  ∧ (∀ (n k : Nat) (type : BitVec 4) (origin : Option Nat) (xs : List Slot) (no : Nat) (s : State), (linkOf s n k).nextSeq < 4095
      → ∃ f, (siteSend n k type origin xs no s).out.head? = some (.siteFlit n (32 + k) (stamp (linkOf s n k) f))
        ∧ f.seq = BitVec.ofNat 12 (linkOf s n k).nextSeq ∧ f.type = type
        ∧ (linkOf (siteSend n k type origin xs no s) n k).held = (linkOf s n k).held ++ [f]
        ∧ (linkOf (siteSend n k type origin xs no s) n k).nextSeq = (linkOf s n k).nextSeq + 1)
  ∧ (∀ (n : Nat) (p : SignalPos) (s : State), flitsCross s n = true → signalAgreed s n p = true
      → exec (.signal n p) s = .next (sendSignal n p false s))
  ∧ (∀ (n d j : Nat) (p : SignalPos) (s : State), flitsCross s n = true → signalAgreed s n p = true → p.node = s.ident.node
      → jobOfSite s n = some j → d ≠ n → ssOf d ≠ ssOf n → pairFenced s (ssOf n) (ssOf d) = false
      → pairLit s (ssOf n) (ssOf d) = true
      → (List.range 12).filter (fun x => bit p.sites x && siteUp s x && (jobSites s j).contains x) = [d]
      → exec (.signal n p) s = .next (sendMsg (ssOf n) (ssOf d) cSIG
          { pay := .signal p, source := n, job := j, node := s.ident.node } s))
  ∧ (∀ (n m sel : Nat) (data : Line) (poison : Bool) (d : FeedDef) (s t : State), flitsCross s n = true → m < 4096
      → bit (siteFeatures s n) 5 = true → (pushFeeds s (ssOf n)).find? (fun f => f.1 == m) = some (m, sel, d)
      → tget 0 (siteOf s n).streamIn m ≠ 0
      → ringPush (ringKey (ssOf n) sel d) d.ringLines (data, false)
          (modSite n (fun x => { x with streamIn := tset 0 x.streamIn m (tget 0 (siteOf s n).streamIn m - 1) }) s) = some t
      → exec (.streamLine n m data poison) s = .next t)
  ∧ (∀ (n m : Nat) (data : Line) (poison : Bool) (s : State), flitsCross s n = true → m < 4096 → bit (siteFeatures s n) 5 = true
      → (pushFeeds s (ssOf n)).find? (fun f => f.1 == m) = none
      → exec (.streamLine n m data poison) s = .next { s with tsi := tupd {} s.tsi n (fun x => { x with
          count := { x.count with streamDiscard := sat32 x.count.streamDiscard 1 } }) })
  ∧ (∀ (n m lines : Nat) (revoke : Bool) (s : State), flitsCross s n = true → m < 4096 → lines < 2 ^ 32 → bit (siteFeatures s n) 6 = true
      → exec (.streamCredit n m lines revoke) s = .next { s with tsi := tupd {} s.tsi n (fun x => { x with
          streamOut := tset 0 x.streamOut m ((if revoke then 0 else tget 0 x.streamOut m) + lines) }) })

/-- O19. A pod link trains and says HELLO, drops lanes by exchange, is miswired or up by its partner, and leaves
quarantine (R290, R291, R293, R294, R295, R312, R313). Training with four lanes or more starts the link at map epoch 1
and sends LANE_MAP on every lane and LINK_HELLO; the partner's map then takes away the lanes it has not; with fewer
the link is down. A partner that is a switch or a module of stage 1 brings the link up, another makes it miswired with
its message. A lane that drops starts an exchange of the map without it, where its cause is seen; the answer makes the
common map agreed; without an answer for 5 µs it goes again. More than 1,000 violations in a second quarantine the
link; ten quiet seconds, or the installer, end that. -/
def Obligations.PodLinksTrainDropLanesAndAreQuarantined : Prop :=
  (∀ (l : Nat) (m : Word16) (s : State), s.flt.safe = false → s.boot.dark = false → hasLink s.part.variant l = true → 10 ≤ s.boot.phase
      → (linkFenced s l = false ∧ (podLink s l).st ≤ 1) ∨ linkRetrying s l = true → 4 ≤ (lanesIn m).length
      → exec (.linkTraining l m) s = .next (linkCmd l [none]
          (.hello { node := s.ident.node, isSwitch := false, xs := BitVec.ofNat 3 (l / 6), link := BitVec.ofNat 6 l, rev := 0x10 })
          (linkCmd l ((lanesIn m).map some) (mapCmd m 1 0 0 0 false) { s with
            pod := { s.pod with links := tupd {} s.pod.links l (fun y => { y with
              st := 1
              map := m
              epoch := 1
              exch := none
              drops := []
              hello := false
              theirUsed := []
              ourUsed := []
              owe := []
              cmds := []
              laneTurn := 0
              lanes := []
              time := {} }) } })))
  ∧ (∀ (l : Nat) (lanes : List (Option Nat)) (c : LinkOut) (s : State), linkCmd l lanes c s = { s with
      pod := { s.pod with links := tupd {} s.pod.links l (fun x => { x with cmds := x.cmds ++ lanes.map (fun w => (w, c)) }) }
      out := .podCmd l (linkOutVals c).1 (linkOutVals c).2 :: s.out })
  ∧ (∀ (l : Nat) (m : Word16) (s : State), s.flt.safe = false → s.boot.dark = false → hasLink s.part.variant l = true → 10 ≤ s.boot.phase
      → linkFenced s l = false → (podLink s l).st ≤ 1 → (lanesIn m).length < 4
      → exec (.linkTraining l m) s = .next (linkDown l s))
  ∧ (∀ (l : Nat) (c : LinkHelloCmd) (s : State), linkLive s l = true → c.isSwitch = true ∨ (nodeKind s c.node = 1 ∧ c.node ≠ s.ident.node)
      → (podLink s l).st ≠ 3
      → ∃ t, exec (.linkHello l c) s = .next t
        ∧ podLink t l = { podLink s l with
            st := 2
            partnerNode := c.node
            partnerSwitch := c.isSwitch
            partnerXs := c.xs.toNat
            partnerLink := c.link.toNat
            hello := true }
        ∧ t = { s with pod := t.pod, ident := t.ident })
  ∧ (∀ (l : Nat) (c : LinkHelloCmd) (s : State), linkLive s l = true → c.isSwitch = false → c.node = s.ident.node
      → ∃ t, exec (.linkHello l c) s = .next t
        ∧ (podLink t l).st = 4 ∧ (podLink t l).partnerNode = c.node
        ∧ t.flt = { s.flt with net := s.flt.net ++ [mkMsg s .linkMiswired 3 l (c.node.toNat * 256)] }
        ∧ t = { s with pod := t.pod, ident := t.ident, flt := t.flt })
  ∧ (∀ (l w cause : Nat) (s : State), dropSeen s l w cause = true → linkLive s l = true → bit (podLink s l).map w = true → w < 16
      → (podLink s l).drops = [] → (podLink s l).exch = none
      → ∃ t, exec (.laneDrop l w cause) s = .next t
        ∧ (podLink t l).exch = some { epoch := (podLink s l).epoch + 1, lanes := (podLink s l).map &&& ~~~ (laneBit w), lane := w, cause := cause, sent := s.now }
        ∧ (podLink t l).map = (podLink s l).map
        ∧ (∃ c, c = mapCmd ((podLink s l).map &&& ~~~ (laneBit w)) ((podLink s l).epoch + 1) 0 w cause false
          ∧ t.out = .podCmd l (linkOutVals c).1 (linkOutVals c).2 :: s.out)
        ∧ t = { s with pod := t.pod, out := t.out })
  ∧ (∀ (l w cause : Nat) (s : State), dropSeen s l w cause = false → exec (.laneDrop l w cause) s = .next s)
  ∧ (∀ (l : Nat) (c : LaneMapCmd) (e : LaneExch) (s : State), linkLive s l = true → c.ack = true → (podLink s l).exch = some e
      → c.ackEpoch.toNat = e.epoch → (podLink s l).drops = [] → 4 ≤ (lanesIn (e.lanes &&& c.lanes)).length
      → ∃ t, exec (.laneMap l c) s = .next t
        ∧ (podLink t l).map = e.lanes &&& c.lanes ∧ (podLink t l).epoch = e.epoch ∧ (podLink t l).exch = none
        ∧ t = { s with pod := t.pod, flt := t.flt })
  ∧ (∀ (l : Nat) (c : LaneMapCmd) (s : State), linkLive s l = true → c.ack = false → c.epoch.toNat = (podLink s l).epoch
      → (podLink s l).st ≠ 1
      → exec (.laneMap l c) s = .next (linkCmd l [none]
          (mapCmd (podLink s l).map c.epoch.toNat c.epoch.toNat c.lane.toNat c.cause.toNat true) s))
  ∧ (∀ (l : Nat) (c : LaneMapCmd) (s : State), linkLive s l = true → c.ack = false → c.epoch.toNat = (podLink s l).epoch
      → (podLink s l).st = 1 → 4 ≤ (lanesIn ((podLink s l).map &&& c.lanes)).length
      → exec (.laneMap l c) s = .next { s with pod := { s.pod with links := tupd {} s.pod.links l (fun y => { y with
          map := (podLink s l).map &&& c.lanes }) } })
  ∧ (∀ (l : Nat) (e : LaneExch) (s : State), (podLink s l).exch = some e → linkLive s l = true → e.sent + 5000 ≤ s.now
      → exec (.laneMapRetry l) s = .next (sendLaneMap l e { s with
          pod := { s.pod with links := tupd {} s.pod.links l (fun x => { x with exch := some { e with sent := s.now } }) } }))
  ∧ (∀ (l : Nat) (e : LaneExch) (s : State), sendLaneMap l e s = linkCmd l
      (((lanesIn ((podLink s l).map &&& e.lanes)).filter (fun w => w != e.lane)).map some) (mapCmd e.lanes e.epoch 0 e.lane e.cause false) s)
  ∧ (∀ (l : Nat) (s : State), s.flt.safe = false → l < 48 → (podLink s l).st = 2
      → 1000 < ((podLink s l).violAt.filter (fun t => decide (s.now < t + 1000000000))).length
      → ∃ t, exec .quarantineEval s = .next t ∧ (podLink t l).st = 3 ∧ t = { s with pod := t.pod, flt := t.flt, ident := t.ident })
  ∧ (∀ s : State, (∀ l < 48, ((podLink s l).violAt.filter (fun t => decide (s.now < t + 1000000000))).length ≤ 1000)
      → exec .quarantineEval s = .next s)
  ∧ (∀ (l x : Nat) (rest : List Nat) (s : State), s.flt.safe = false → (podLink s l).st = 3 → (podLink s l).violAt = x :: rest
      → x + 10000000000 ≤ s.now
      → ∃ t, exec (.quarantineTimeout l) s = .next t ∧ (podLink t l).st = 2 ∧ (podLink t l).violAt = [])
  ∧ (∀ (p : Path) (s : State), mayWrite s p .i = true
      → exec (.podQuarClear p) s = .next (audit (some p) 0x10 0x0C0018 1 (quarantineEnd ((tget 0 s.csp.sel 0x0C0004).toNat % 64) s)))

/-- O20. Flows open with a request, runs are routed, acknowledgements move the window, and messages are forwarded (R289,
R296, R298, R299, R302, R304, R305, R306, R312). A flow that a message waits for is given a context and sends its open
request, and takes what waits. A ROUTE of a known flow names the run of its lane; one that no rule allows, or a
FLOW_ACK of no flow, is a violation. A FLOW_ACK drops what its FACK has passed and sets the window. A changed window
or FACK is told to the sender once per microsecond, a window of 0 at once. A forwarded message goes to its site at its
stage, and one with nine hops, or upward after a way down, is discarded with FWD_ROUTE_ERROR. -/
def Obligations.FlowsOpenAcknowledgeAndForward : Prop :=
  (∀ (x node job cls c : Nat) (s : State), s.flt.safe = false → hasXs s.part.variant x = true → nodeKind s (BitVec.ofNat 16 node) = 1
      → txFlow s (BitVec.ofNat 16 node) job cls = none → cls < 7 → job < 256 → flowWanted s x (BitVec.ofNat 16 node) job cls = true
      → (xsLinks s x).isEmpty = false → s.pair.cfg = none → takeCtx s = some (c, s)
      → ∃ f : TxFlow, f.ctx = c ∧ f.node = BitVec.ofNat 16 node ∧ f.job = job ∧ f.cls = cls ∧ f.xs = x ∧ f.next = 0 ∧ f.st = 0
        ∧ f.remoteXs = flowRemote s f.node job cls
        ∧ exec (.flowOpen x node job cls) s = .next (drainXs (xsOf x) cls (joinWaiting f.node job cls
            (openRequest f { s with pod := { s.pod with tx := s.pod.tx ++ [f] } }))))
  ∧ (∀ (l w : Nat) (r : RouteCmd) (f : RxFlow) (s : State), linkLive s l = true → w < 16 → bit (podLink s l).map w = true
      → (podLink s l).st ≠ 4 → r.cls ≠ 7 → routeBad s l r = false → rxFlow s r.srcNode r.job.toNat r.cls.toNat = some f
      → exec (.route l w r false) s = .next (modPodLane l w (fun y => { y with run := some r, runSeq := r.fseq, runBad := false }) s))
  ∧ (∀ (l w : Nat) (r : RouteCmd) (opens : Bool) (s : State), linkLive s l = true → w < 16 → bit (podLink s l).map w = true
      → (podLink s l).st ≠ 4 → r.cls ≠ 7 → r.destNode ≠ s.ident.node
      → exec (.route l w r opens) s = .next (podViolation l
          (modPodLane l w (fun y => { y with run := some r, runSeq := r.fseq, runBad := true }) s)))
  ∧ (∀ (l : Nat) (a : FlowAckCmd) (s : State), linkLive s l = true → (podLink s l).st ≠ 4 → a.destNode ≠ s.ident.node
      → exec (.flowAck l a) s = .next (openWaiting (podViolation l s)))
  ∧ (∀ (l : Nat) (a : FlowAckCmd) (f : TxFlow) (s : State), linkLive s l = true → (podLink s l).st ≠ 4 → a.destNode = s.ident.node
      → txFlow s a.srcNode a.job.toNat a.cls.toNat = some f → (a.fack - f.fack).toNat < 2 ^ 31 → a.window ≠ 0 → f.openAt = none
      → exec (.flowAck l a) s = .next (openWaiting (drainXs (xsOf f.xs) f.cls (joinWaiting f.node f.job f.cls
          (modTx f.node f.job f.cls (fun x => { x with
            fack := a.fack
            window := a.window.toNat
            slots := f.slots.filter (fun y => decide ((y.fseq - a.fack).toNat < 2 ^ 31))
            st := 1
            openAt := none
            lastUse := s.now }) s)))))
  ∧ (∀ (c l : Nat) (f g : RxFlow) (s : State), s.flt.safe = false → s.pod.rx.find? (fun f => f.ctx == c) = some f
      → g = { f with window := if flowStopped s f then f.window else nextWindow s f, stopped := flowStopped s f }
      → f.dirty = true ∨ g.window ≠ f.window ∨ g.stopped ≠ f.stopped
      → f.lastAck + 1000 ≤ s.now ∨ shownWindow g = 0 → xsLink s f.xs = some l
      → ∃ (t : State) (a : FlowAckCmd), exec (.flowAckTimer c) s = .next t
        ∧ t.pod.rx = s.pod.rx.map (fun x => if x.ctx = c then { g with dirty := false, lastAck := s.now } else x)
        ∧ a = { destNode := f.node, srcNode := s.ident.node, destXs := BitVec.ofNat 3 f.srcXs, srcXs := BitVec.ofNat 3 f.xs
                job := BitVec.ofNat 8 f.job, cls := BitVec.ofNat 3 f.cls, fack := f.fack, window := BitVec.ofNat 16 (shownWindow g) }
        ∧ t.out = .podCmd l (linkOutVals (.flowAck a)).1 (linkOutVals (.flowAck a)).2 :: s.out
        ∧ (podLink t l).cmds = (podLink s l).cmds ++ [(none, .flowAck a)]
        ∧ t = { s with pod := t.pod, out := t.out })
  ∧ (∀ (x job : Nat) (m : FwdMsg) (s : State), s.flt.safe = false → hasXs s.part.variant x = true → m.lines ≠ [] → m.lines.length ≤ 256
      → (routeOf s m.destNode.toNat).kind = 3 → m.site < 12 → siteTakesFwd s m.site = true
      → exec (.fwdMessage x job m) s = .next (sendFwd (xsOf x) (ssOf m.site) job 0 false m s))
  ∧ (∀ (x job : Nat) (m : FwdMsg) (s : State), s.flt.safe = false → hasXs s.part.variant x = true → m.lines ≠ [] → m.lines.length ≤ 256
      → (routeOf s m.destNode.toNat).kind = 1 → 8 ≤ m.hops ∨ (hopUp s m.destNode.toNat = true ∧ m.down = true)
      → exec (.fwdMessage x job m) s = .next { s with
          pod := { s.pod with fwdDiscard := sat32 s.pod.fwdDiscard 1 }
          flt := { s.flt with net := s.flt.net ++ [mkMsg s .fwdRouteError 0 (xsOf x) 0] } })
  ∧ (∀ (x job : Nat) (m : FwdMsg) (s : State), s.flt.safe = false → hasXs s.part.variant x = true → m.lines ≠ [] → m.lines.length ≤ 256
      → (routeOf s m.destNode.toNat).kind = 0
      → exec (.fwdMessage x job m) s = .next { s with pod := { s.pod with fwdDiscard := sat32 s.pod.fwdDiscard 1 } })

/-- O21. The next route table is checked, armed, swapped at the right moment, withdrawn and copied, by the installer alone
(R307, R308, R314). CHECK begins a check; its completion names the first node that fails and its reason, or passes the
table. SWAP of a passed table between jobs takes effect at once when no reel runs, is refused when a running job has
an affected member, and in table mode drains the affected flows first. The end of the drain arms or makes the swap.
CANCEL makes an armed table passed again. COPY makes the next table equal to the active one and takes its check back.
Each write is audited; without the right nothing changes. -/
def Obligations.RouteTablesAreCheckedSwappedAndCopied : Prop :=
  (∀ (p : Path) (s : State), mayWrite s p .i = true → s.pod.rtSt ≤ 3
      → exec (.podRtCheck p) s = .next (audit (some p) 0x10 0x0C0030 1
          { s with pod := { s.pod with rtSt := 1, rtReason := 0, rtNode := 0 } }))
  ∧ (∀ (n r : Nat) (s : State), s.flt.safe = false → s.pod.rtSt = 1 → tableFail s s.pod.routeNext = some (n, r)
      → exec .routeCheckComplete s = .next { s with pod := { s.pod with rtSt := 3, rtReason := r, rtNode := n } })
  ∧ (∀ s : State, s.flt.safe = false → s.pod.rtSt = 1 → tableFail s s.pod.routeNext = none
      → exec .routeCheckComplete s = .next { s with pod := { s.pod with rtSt := 2, rtReason := 0, rtNode := 0 } })
  ∧ (∀ (p : Path) (n : Nat) (s : State), mayWrite s p .i = true → s.pod.rtSt = 2 → s.slu.tableMode = false
      → (rtAffected s).find? (fun n => (runningJobs s).any (fun j => jobMember s j n)) = some n
      → exec (.podRtSwap p) s = .next (audit (some p) 0x10 0x0C0030 2
          { s with pod := { s.pod with rtSt := 3, rtReason := 6, rtNode := n } }))
  ∧ (∀ (p : Path) (s : State), mayWrite s p .i = true → s.pod.rtSt = 2 → s.slu.tableMode = false → reelActive s = true
      → (rtAffected s).find? (fun n => (runningJobs s).any (fun j => jobMember s j n)) = none
      → exec (.podRtSwap p) s = .next (audit (some p) 0x10 0x0C0030 2
          { s with pod := { s.pod with rtSt := 5, rtReason := 0, drainNodes := [] } }))
  ∧ (∀ (p : Path) (s : State), mayWrite s p .i = true → s.pod.rtSt = 2 → s.slu.tableMode = true → reelActive s = false
      → exec (.podRtSwap p) s = .next (audit (some p) 0x10 0x0C0030 2 { s with pod := { s.pod with
          rtSt := 4
          rtReason := 0
          drainNodes := rtAffected s
          drainEnd := s.now + 2 * 2048 + ((s.pod.tx.filter (fun f => (rtAffected s).contains f.node.toNat)).map (·.rtt)).foldl max 0 } }))
  ∧ (∀ s : State, s.flt.safe = false → s.pod.rtSt = 4 → s.pod.tx = [] → reelActive s = true
      → exec .routeDrainEnd s = .next { s with pod := { s.pod with rtSt := 5 } })
  ∧ (∀ s : State, s.flt.safe = false → s.pod.rtSt = 4 → s.pod.drainEnd ≤ s.now → reelActive s = false
      → ∃ t, exec .routeDrainEnd s = .next t ∧ t.pod.route = s.pod.routeNext ∧ t.pod.rtSt = 0 ∧ t.role.routeId = s.role.routeIdNext
        ∧ t.pod.drainNodes = [])
  ∧ (∀ (p : Path) (s : State), mayWrite s p .i = true → s.pod.rtSt = 4 ∨ s.pod.rtSt = 5
      → ∃ t, exec (.podRtCancel p) s = .next t ∧ t.pod.rtSt = 2 ∧ t.pod.drainNodes = [] ∧ t.pod.route = s.pod.route
        ∧ t.pod.routeNext = s.pod.routeNext)
  ∧ (∀ (p : Path) (s : State), mayWrite s p .i = true
      → ∃ t, exec (.podRtCopy p) s = .next t ∧ t.pod.routeNext = s.pod.route ∧ t.pod.route = s.pod.route ∧ t.pod.rtSt = 0)
  ∧ (∀ (p : Path) (s : State), mayWrite s p .i = false
      → exec (.podRtCheck p) s = .next s ∧ exec (.podRtSwap p) s = .next s ∧ exec (.podRtCancel p) s = .next s
        ∧ exec (.podRtCopy p) s = .next s)

/-- O22. A lane takes the expected flit, asks for replay of a bad or skipped one, and sends idle when no flow has anything
for it (R264, R265, R266, R286, R287, R289, R293). A flit that fails to decode is counted against the lane and asks
for replay, and its slots count for nothing. An idle flit gives its acknowledgement alone. The expected flit is
counted on the link, moves the expected number on by one modulo 4096, takes its credits back and hands its slots over
in order; a later one counts a violation at the first gap and asks for replay. A lane with no room in its replay
buffer, and one for which no flow has anything, sends an idle flit with its acknowledgement; waiting link commands go
before a new run; a lane that is not due sends nothing. -/
def Obligations.LanesReceiveAndSendFlits : Prop :=
  (∀ (l w : Nat) (f : Flit) (errs : List (Nat × Byte)) (u t : State) (s : State), linkLive s l = true → w < 16 → bit (podLink s l).map w = true
      → laneStopped (podLink s l) w = false → flitUncorrectable errs = true
      → u = laneCorr l w (flitCorrected errs).length s → (lately u (podLane u l w).uncorr).length < 16
      → t = laneReplay l w (modPodLane l w (fun x => { x with uncorr := u.now :: lately u (podLane u l w).uncorr }) u)
      → dropSeen t l w 3 = false
      → exec (.podFlitReceive l w f errs) s = .next t)
  ∧ (∀ (l w : Nat) (s : State), ∃ t, t = laneReplay l w s ∧ t = { s with pod := t.pod }
      ∧ ((podLane s l w).nakAt = none → t = modPodLane l w (fun x => if x.nakAt.isSome then x else { x with nak := true, nakAt := some s.now }) s))
  ∧ (∀ (l w : Nat) (f : Flit) (errs : List (Nat × Byte)) (u s : State), linkLive s l = true → w < 16 → bit (podLink s l).map w = true
      → laneStopped (podLink s l) w = false → flitUncorrectable errs = false → (flitDecoded f errs).type = 0
      → u = laneCorr l w (flitCorrected errs).length s → dropSeen u l w 3 = false
      → exec (.podFlitReceive l w f errs) s = .next (laneAck l w (flitDecoded f errs).ack (flitDecoded f errs).nak u))
  ∧ (∀ (l w : Nat) (f g : Flit) (errs : List (Nat × Byte)) (v u s : State), linkLive s l = true → w < 16 → bit (podLink s l).map w = true
      → laneStopped (podLink s l) w = false → flitUncorrectable errs = false
      → g = flitDecoded f errs → g.type = 1 ∨ g.type = 3
      → v = laneCorr l w (flitCorrected errs).length s → dropSeen v l w 3 = false → u = laneAck l w g.ack g.nak v
      → laneStopped (podLink u l) w = false → g.seq.toNat = (podLane u l w).expect
      → exec (.podFlitReceive l w f errs) s = .next (podSlots l w (g.type == 3) 4 (g.slots.filterMap id)
          (modPodLink l (fun x => { x with
              ourUsed := (List.range 7).foldl (fun t c => tupd 0 t c (· - g.cred.getD c 0)) x.ourUsed
              rxFlits := x.rxFlits + 1
              rxBytes := x.rxBytes + BitVec.ofNat 64 (flitBytes (g.type == 3) (g.slots.filterMap id)) })
            (modPodLane l w (fun x => { x with expect := (x.expect + 1) % 4096, nak := false, nakAt := none }) u))))
  ∧ (∀ (l w : Nat) (f g : Flit) (errs : List (Nat × Byte)) (v u s : State), linkLive s l = true → w < 16 → bit (podLink s l).map w = true
      → laneStopped (podLink s l) w = false → flitUncorrectable errs = false
      → g = flitDecoded f errs → g.type = 1 ∨ g.type = 3
      → v = laneCorr l w (flitCorrected errs).length s → dropSeen v l w 3 = false → u = laneAck l w g.ack g.nak v
      → laneStopped (podLink u l) w = false → g.seq.toNat = (podLane u l w).expect + 1 → (podLane u l w).nakAt = none
      → exec (.podFlitReceive l w f errs) s = .next (laneReplay l w (podViolation l u)))
  ∧ (∀ (l w : Nat) (f : TxFlow) (xs : List FlowSlot) (v s : State), linkLive s l = true → dueLane s l = some w
      → v = modPodLink l (fun x => { x with laneTurn := (w + 1) % 16 }) s
      → (podLane v l w).held.length < 128 → pledged v l w = none → cmdsFor v l w = [] → nextFlow v l = some f
      → xs = runOf v f (linkCap v l f.cls - tget 0 (podLink v l).ourUsed f.cls) 4 3 (fromFirst v f)
      → (∀ q, continues v (podLane v l w) f q = false) → xs ≠ [] → xs.any (·.stream) = false
      → exec (.podFlitSend l w) s = .next (modPodLane l w (fun y => { y with busyUntil := s.now + flitTicks }) (sendRun l w f xs false v)))
  ∧ (∀ (l w : Nat) (v s : State), linkLive s l = true → dueLane s l = some w
      → v = modPodLink l (fun x => { x with laneTurn := (w + 1) % 16 }) s
      → (podLane v l w).held.length < 128 → pledged v l w = none → cmdsFor v l w ≠ []
      → exec (.podFlitSend l w) s = .next (modPodLane l w (fun y => { y with busyUntil := s.now + flitTicks })
          (sendCmds l w (cmdsFor v l w) v)))
  ∧ (∀ (l w : Nat) (v s : State), linkLive s l = true → dueLane s l = some w
      → v = modPodLink l (fun x => { x with laneTurn := (w + 1) % 16 }) s
      → 128 ≤ (podLane v l w).held.length ∨ (pledged v l w = none ∧ cmdsFor v l w = [] ∧ nextFlow v l = none
          ∧ (List.range 7).any (fun c => decide (tget 0 (podLink v l).owe c ≠ 0)) = false)
      → ∃ t, exec (.podFlitSend l w) s = .next t
        ∧ t.out = .podFlit l w { type := 0, ack := BitVec.ofNat 8 ((podLane v l w).expect + 255), nak := (podLane v l w).nak } :: s.out
        ∧ t = { s with pod := t.pod, out := t.out })
  ∧ (∀ (l w : Nat) (s : State), dueLane s l ≠ some w → exec (.podFlitSend l w) s = .next s)

/-- O23. TIME requests leave with their stamp, requests are answered, responses give offsets, and a link without responses
gives no time (R43, R44, R45, R309, R310, R311). A request leaves on a live link that has exchanged its hello, at
least 10 µs after the last one, and the time at which its flit leaves is kept as T1. A request is answered with the
module's own source and timecode. A response to a request in flight gives the offset ((T2 - T1) + (T3 - T4)) over two,
kept in half nanoseconds among the last 16, with what the partner advertises, and a source is chosen again; a response
to nothing changes nothing. A link with no valid response for 100 µs gives no time: another is followed, or, with none
left, time transfer is lost and holdover begins. -/
def Obligations.TimeCrossesThePod : Prop :=
  (∀ (l : Nat) (s : State), linkLive s l = true → (podLink s l).hello = true → (podLink s l).st ≠ 4
      → (podLink s l).time.sentAt = none ∨ (∃ a, (podLink s l).time.sentAt = some a ∧ a + 10000 ≤ s.now)
      → exec (.timeRequestSend l) s = .next (linkCmd l [none] (.timeRequest (timeOut s false))
          (modPodLink l (fun x => { x with time := { x.time with sentAt := some s.now } }) s)))
  ∧ (∀ (l w : Nat) (c : TimeCmd) (o : Option Nat) (s : State), sendCmds l w [(o, .timeRequest c)] s
      = modPodLink l (fun x => { x with
          cmds := x.cmds.erase (o, .timeRequest c)
          time := { x.time with t1 := some s.tc.timecode } }) (laneSend l w 1 [linkOutSlot s.tc.timecode (.timeRequest c)] s))
  ∧ (∀ (l : Nat) (c : TimeCmd) (s : State), linkLive s l = true → (podLink s l).st ≠ 4 → c.resp = false → s.pod.upstream = none
      → exec (.time l c) s = .next (linkCmd l [none] (.timeResponse
          { resp := true, locked := s.pod.locked, hops := BitVec.ofNat 8 s.pod.hops, sourceNode := s.ident.node
            priority := BitVec.ofNat 8 s.pod.priority, residence := 0, t3 := 0 } s.tc.timecode) s))
  ∧ (∀ (l : Nat) (c : TimeCmd) (t1 : Word64) (s : State), linkLive s l = true → (podLink s l).st ≠ 4 → c.resp = true
      → (podLink s l).time.t1 = some t1
      → exec (.time l c) s = .next (timeSelect (modPodLink l (fun x => { x with time := { x.time with
          t1 := none
          offsets := ((((c.t3.toNat : Int) - c.residence.toNat - t1.toNat) - ((s.tc.timecode.toNat : Int) - c.t3.toNat)) :: x.time.offsets).take 16
          lastValid := some s.now
          locked := c.locked
          source := c.sourceNode
          priority := c.priority.toNat
          hops := c.hops.toNat } }) s)))
  ∧ (∀ (l : Nat) (c : TimeCmd) (s : State), linkLive s l = true → (podLink s l).st ≠ 4 → c.resp = true
      → (podLink s l).time.t1 = none → exec (.time l c) s = .next s)
  ∧ (∀ s : State, s.pod.priority ≠ 255 → bestLink s = none
      → ∃ t, timeSelect s = t ∧ t.pod.isSource = true ∧ t.pod.locked = true ∧ t.pod.hops = 0 ∧ t.tc.diff = 0 ∧ t.tc.holdover = false ∧ t = { s with tc := t.tc, pod := t.pod, flt := t.flt })
  ∧ (∀ (l : Nat) (s : State), bestLink s = some l → lexLt [s.pod.priority, s.ident.node.toNat] ((srcKey s l).take 2) = false
      → ∃ t, timeSelect s = t ∧ t.pod.upstream = some l ∧ t.pod.isSource = false ∧ t.pod.hops = (podLink s l).time.hops + 1
        ∧ t.pod.medianOffset = medianI (podLink s l).time.offsets ∧ t.pod.locked = steady (podLink s l).time.offsets
        ∧ t.tc.diff = medianI (podLink s l).time.offsets / 2 ∧ t.tc.holdover = false)
  ∧ (∀ (l : Nat) (a : Tick) (s : State), s.flt.safe = false → (podLink s l).time.lastValid = some a → a + 100000 ≤ s.now
      → (List.range 48).any (timeUp (modPodLink l (fun x => { x with time := {} }) s)) = true
      → exec (.timeLinkTimeout l) s = .next (timeSelect (modPodLink l (fun x => { x with time := {} }) s)))
  ∧ (∀ (l : Nat) (a : Tick) (s : State), s.flt.safe = false → (podLink s l).time.lastValid = some a → a + 100000 ≤ s.now
      → (List.range 48).any (timeUp (modPodLink l (fun x => { x with time := {} }) s)) = false
      → exec (.timeLinkTimeout l) s = .next (timeLost (modPodLink l (fun x => { x with time := {} }) s)))
  ∧ (∀ s : State, s.pod.isSource = false
      → ∃ t, timeLost s = t ∧ t.tc.holdover = true ∧ t.tc.podSync = false ∧ t.tc.diff = 0 ∧ t.pod.locked = false ∧ t.pod.upstream = none)

/-- O24. A laser module's flags are read and reported, and a low feed hands its role to the standby feed (R315, R317,
R318, R331, R332). A flag of a laser module asserts LS_INT_N low and raises LASER_MODULE for each of its feeds, as a
warning or a fault; a module that leaves the ready state is no longer ready. A poll that shows the module ready makes
it ready, and one that shows no flag ends its hold on the pin, which rises when no module holds it. A feed that falls
low gives its role to the field's standby feed, whose elements step FINE by the difference of the feeds, and becomes
the standby; with no standby FEED_LOST is raised; a low standby feed raises FEED_LOW alone. -/
def Obligations.LaserModulesAndFeedsFail : Prop :=
  (∀ (m : Nat) (s : State), s.flt.safe = false → m < 16 → 6 ≤ s.boot.phase
      → exec (.lsInt m .leftReady) s = .next (laserFault m false { s with
          foc := { s.foc with ready := s.foc.ready.filter (· ≠ m), asserting := m :: s.foc.asserting.filter (· ≠ m) }
          pins := { s.pins with lsIntN := false } }))
  ∧ (∀ (m lane : Nat) (u s : State), s.flt.safe = false → m < 16 → 6 ≤ s.boot.phase
      → u = { s with foc := { s.foc with asserting := m :: s.foc.asserting.filter (· ≠ m) }, pins := { s.pins with lsIntN := false } }
      → exec (.lsInt m (.laneLost lane)) s = .next (laserFault m false u)
        ∧ exec (.lsInt m .alarm) s = .next (laserFault m false u)
        ∧ exec (.lsInt m .warning) s = .next (laserFault m true u))
  ∧ (∀ (m k : Nat) (warn : Bool) (s : State), moduleFeeds s m = [k]
      → laserFault m warn s = { s with flt := { s.flt with
          net := s.flt.net ++ [{ mkMsg s .laserModule 7 (feedUnit k) (k * 2 ^ 16) with sev := if warn then 0 else 1 }] } })
  ∧ (∀ (m : Nat) (s : State), s.flt.safe = false → m < 16 → 6 ≤ s.boot.phase
      → ∃ t, exec (.laserModulePoll m []) s = .next t ∧ t.foc.ready.contains m = true
        ∧ t.foc.asserting = s.foc.asserting.filter (· ≠ m) ∧ t.pins = { s.pins with lsIntN := t.foc.asserting.isEmpty }
        ∧ t = { s with foc := { s.foc with ready := t.foc.ready, asserting := t.foc.asserting }, pins := t.pins })
  ∧ (∀ (m : Nat) (fs : List LaserFlag) (s : State), s.flt.safe = false → m < 16 → 6 ≤ s.boot.phase → fs.contains .leftReady = false → fs ≠ []
      → exec (.laserModulePoll m fs) s = .next (laserReady m true s))
  ∧ (∀ (m : Nat) (fs : List LaserFlag) (s : State), s.flt.safe = false → m < 16 → 6 ≤ s.boot.phase → fs.contains .leftReady = true
      → exec (.laserModulePoll m fs) s = .next (laserFault m false { s with foc := { s.foc with ready := s.foc.ready.filter (· ≠ m) } }))
  ∧ (∀ (k j line power : Nat) (off : List Int) (u s : State), s.flt.safe = false → k < 16 → (fieldsOf s.part.variant).contains (k / 4) = true
      → (feedOf s k).low = false → 7 ≤ s.boot.phase
      → u = modFeedSt k (fun x => { x with line := line % 16, weakest := min 255 power, lit := decide (110 ≤ power ∧ power ≤ 150) }) s
      → (feedOf u k).role ≠ 3 → standbyOf u (k / 4) = some j
      → ∃ t v, exec (.feedLow k off line power) s = .next t
        ∧ v = modFeedSt j (fun x => { x with role := (feedOf u k).role }) (modFeedSt k (fun x => { x with low := true, role := 3 }) u)
        ∧ t.foc.feeds = v.foc.feeds ∧ t.foc.failovers = sat32 s.foc.failovers 1
        ∧ t.foc.elems = ((roleElems v (k / 4) (feedOf u k).role).foldl (fun s e => modElem e (feedStep s.now off e) s) v).foc.elems
        ∧ t.flt.net = s.flt.net ++ [mkMsg s .feedLow 7 (feedUnit k) (k * 2 ^ 16)]
        ∧ t = { s with foc := t.foc, flt := t.flt, slu := t.slu, mem := { s.mem with freeCtr := t.mem.freeCtr } })
  ∧ (∀ (k line power : Nat) (off : List Int) (u s : State), s.flt.safe = false → k < 16 → (fieldsOf s.part.variant).contains (k / 4) = true
      → (feedOf s k).low = false → 7 ≤ s.boot.phase
      → u = modFeedSt k (fun x => { x with line := line % 16, weakest := min 255 power, lit := decide (110 ≤ power ∧ power ≤ 150) }) s
      → (feedOf u k).role ≠ 3 → standbyOf u (k / 4) = none
      → exec (.feedLow k off line power) s = .next (capUpdate (raise .feedLost 7 (feedUnit k) (k * 2 ^ 16)
          (modFeedSt k (fun x => { x with low := true, lost := true }) u))))
  ∧ (∀ (k line power : Nat) (off : List Int) (u s : State), s.flt.safe = false → k < 16 → (fieldsOf s.part.variant).contains (k / 4) = true
      → (feedOf s k).low = false → 7 ≤ s.boot.phase
      → u = modFeedSt k (fun x => { x with line := line % 16, weakest := min 255 power, lit := decide (110 ≤ power ∧ power ≤ 150) }) s
      → (feedOf u k).role = 3
      → ∃ t, exec (.feedLow k off line power) s = .next t ∧ (feedOf t k).low = true ∧ t.flt.net = s.flt.net ++ [mkMsg s .feedLow 7 (feedUnit k) (k * 2 ^ 16)]
        ∧ t = { s with foc := { s.foc with feeds := t.foc.feeds }, flt := t.flt })

/-- O25. A loop moves FINE within its bound and COARSE past ±1,536, searches when the lock is lost, and leaves service by
cause (R322, R323, R324, R325, R326, R327, R328, R329). An update of an element that is locked or searches moves FINE
by at most what is left of 1,024 within 10 µs, once 10 µs of a search have passed over its whole range, and holds it
within ±2,047; while FINE stays within ±1,536 nothing else moves, and past it one COARSE step is taken with FINE moved
back by 512. A lost lock makes the element acquire, a search that lasts 100 µs, a drive at an end of its range, or a
wrong tone takes it out of service with its cause and message; the right tone is recorded. A re-sweep that locks
brings the element back from its other side with FINE 0; one that fails counts. -/
def Obligations.ElementLoopsLockSearchAndFail : Prop :=
  (∀ (e : Nat) (d m f : Int) (s : State), s.flt.safe = false → (elemState s e = 2 ∨ (elemState s e = 1 ∧ (elemOf s e).search.isSome = true)) → m = fineRoom s (elemOf s e)
      → f = clampFine ((elemOf s e).fine + clampI (-m) m d) → -1536 ≤ f → f ≤ 1536
      → exec (.focusUpdate e d) s = .next (modElem e (fun y => { y with
          st := 2
          search := none
          fine := f
          moved := (s.now, (f - (elemOf s e).fine).natAbs) :: y.moved.filter (fun p => decide (s.now < p.1 + 10000)) }) s))
  ∧ (∀ (e : Nat) (d m f : Int) (s : State), s.flt.safe = false → (elemState s e = 2 ∨ (elemState s e = 1 ∧ (elemOf s e).search.isSome = true)) → m = fineRoom s (elemOf s e)
      → f = clampFine ((elemOf s e).fine + clampI (-m) m d) → 1536 < f → (elemOf s e).trim.coarse.toNat < 31
      → (elemOf s e).stepAt = none ∨ (∃ a, (elemOf s e).stepAt = some a ∧ a + 10000 ≤ s.now)
      → exec (.focusUpdate e d) s = .next (modElem e (fun y => { y with
          st := 2
          search := none
          fine := f - 512
          trim := { y.trim with coarse := y.trim.coarse + 1 }
          stepAt := some s.now
          moved := (s.now, (f - (elemOf s e).fine).natAbs) :: y.moved.filter (fun p => decide (s.now < p.1 + 10000)) }) s))
  ∧ (∀ (e : Nat) (d m f : Int) (s : State), s.flt.safe = false → (elemState s e = 2 ∨ (elemState s e = 1 ∧ (elemOf s e).search.isSome = true)) → m = fineRoom s (elemOf s e)
      → f = clampFine ((elemOf s e).fine + clampI (-m) m d) → f < -1536 → 0 < (elemOf s e).trim.coarse.toNat
      → (elemOf s e).stepAt = none ∨ (∃ a, (elemOf s e).stepAt = some a ∧ a + 10000 ≤ s.now)
      → exec (.focusUpdate e d) s = .next (modElem e (fun y => { y with
          st := 2
          search := none
          fine := f + 512
          trim := { y.trim with coarse := y.trim.coarse - 1 }
          stepAt := some s.now
          moved := (s.now, (f - (elemOf s e).fine).natAbs) :: y.moved.filter (fun p => decide (s.now < p.1 + 10000)) }) s))
  ∧ (∀ (x : Elem) (s : State), (x.search = none → fineRoom s x = 1024 - (movedOf s x : Int))
      ∧ (∀ a, x.search = some a → fineRoom s x = if s.now < a + 10000 then 1024 - (movedOf s x : Int) else 2048))
  ∧ (∀ (e : Nat) (s : State), s.flt.safe = false → elemState s e = 2
      → exec (.focusLockLost e) s = .next (modElem e (fun x => { x with st := 1, search := some s.now }) s))
  ∧ (∀ (e : Nat) (a : Tick) (s : State), s.flt.safe = false → elemState s e = 1 → (elemOf s e).search = some a → a + 100000 ≤ s.now
      → exec (.focusSearchTimeout e) s = .next (elemEffect e (raise .focusLost 7 (e / 1024) e
          (modElem e (fun x => { x with st := 3, cause := 1, search := none })
            { s with foc := { s.foc with lockLost := sat32 s.foc.lockLost 1 } }))))
  ∧ (∀ (e : Nat) (s : State), s.flt.safe = false → elemState s e = 1 ∨ elemState s e = 2
      → driveOf (elemOf s e) = 0 ∨ driveOf (elemOf s e) = 16384
      → exec (.focusRange e) s = .next (elemEffect e (raise .focusRange 7 (e / 1024) e
          (modElem e (fun x => { x with st := 3, cause := 3, search := none })
            { s with foc := { s.foc with lockLost := sat32 s.foc.lockLost 1 } }))))
  ∧ (∀ (e w tone : Nat) (k : ElemKind) (s : State), s.flt.safe = false → elemState s e = 2 → elemKind s.part.variant e = some k
      → channelOf k = some w → tone % 16 = w
      → exec (.identityCheck e tone true) s = .next (modElem e (fun x => { x with tone := some w, toneOk := true }) s))
  ∧ (∀ (e w tone : Nat) (ok : Bool) (k : ElemKind) (s : State), s.flt.safe = false → elemState s e = 2 → elemKind s.part.variant e = some k
      → channelOf k = some w → ok = false ∨ tone % 16 ≠ w
      → exec (.identityCheck e tone ok) s = .next (elemOut e 2 (tone % 16) .wrongLock
          { modElem e (fun x => { x with tone := some (tone % 16), toneOk := false }) s with
            foc := { (modElem e (fun x => { x with tone := some (tone % 16), toneOk := false }) s).foc with
              wrongLocks := sat32 s.foc.wrongLocks 1 } }))
  ∧ (∀ (e c w : Nat) (k : ElemKind) (s : State), s.flt.safe = false → elemState s e = 3 → (elemOf s e).cause = 2
      → (elemOf s e).failed < 2 → elemKind s.part.variant e = some k → channelOf k = some w → fenced s (uElem e) = false
      → exec (.resweepComplete e (.locked c)) s = .next (liftFence (uElem e) (modElem e (fun y => { y with
          st := 2
          cause := 0
          trim := { y.trim with coarse := BitVec.ofNat 5 c }
          fine := 0
          tone := some w
          toneOk := true
          failed := 0
          sweptDown := !y.sweptDown }) s)))
  ∧ (∀ (e : Nat) (s : State), s.flt.safe = false → elemState s e = 3 → (elemOf s e).cause = 2
      → (elemOf s e).failed < 2 → fenced s (uElem e) = false
      → exec (.resweepComplete e .failed) s = .next (modEntry (uElem e) (fun y => { y with quietFrom := s.now })
          (modElem e (fun y => { y with failed := y.failed + 1, sweptDown := !y.sweptDown }) s)))

/-- O26. Headroom is judged at 0.05 and 0.95, trims move one step toward their goal, and SAVE writes the older copy (R330,
R333, R334, R335, R337, R338). An evaluation keeps the unit's median; below 0.05 HEADROOM_LOW begins and above 0.95
HEADROOM_HIGH, and between 0.1 and 0.9 neither stands or begins. A trim interval moves an element in service one step
toward the target that host software wrote; FREEZE holds trims. SAVE is refused in phase 7 and while a save runs, and
else marks the copy with the lower GENERATION as being written; the end of the save makes that copy valid with the
next GENERATION and the time, or reports that it failed. -/
def Obligations.HeadroomTrimsAndTheWarmImage : Prop :=
  (∀ (n d2 m : Nat) (s : State), s.flt.safe = false → hasStation s.part.variant n = true → s.foc.focused = true → medianDrive2 s n = some d2 → m = (d2 * 255 + 16384) / 32768
      → (tget ({} : Headroom) s.foc.head n).low = false → (tget ({} : Headroom) s.foc.head n).high = false 
      → 32768 * 5 ≤ d2 * 100 → d2 * 100 ≤ 32768 * 95
      → exec (.headroomEval n) s = .next { s with foc := { s.foc with head := tset {} s.foc.head n { median := m, history := (s.now, m) :: (tget ({} : Headroom) s.foc.head n).history.filter (fun p => decide (s.now < p.1 + 1000000000)), low := false, high := false, clear := 0 } } })
  ∧ (∀ (n d2 m : Nat) (s : State), s.flt.safe = false → hasStation s.part.variant n = true → s.foc.focused = true → medianDrive2 s n = some d2 → m = (d2 * 255 + 16384) / 32768
      → (tget ({} : Headroom) s.foc.head n).low = false → (tget ({} : Headroom) s.foc.head n).high = false → d2 * 100 < 32768 * 5
      → standAddr s .headroomLow n = none
      → ∃ t, exec (.headroomEval n) s = .next t ∧ (tget ({} : Headroom) t.foc.head n).low = true
        ∧ (tget ({} : Headroom) t.foc.head n).median = m ∧ t.flt.net = s.flt.net ++ [mkMsg s .headroomLow 7 n 0]
        ∧ t = { s with foc := { s.foc with head := t.foc.head }, flt := { s.flt with net := t.flt.net, standing := t.flt.standing } })
  ∧ (∀ (n d2 m : Nat) (s : State), s.flt.safe = false → hasStation s.part.variant n = true → s.foc.focused = true → medianDrive2 s n = some d2 → m = (d2 * 255 + 16384) / 32768
      → (tget ({} : Headroom) s.foc.head n).low = false → (tget ({} : Headroom) s.foc.head n).high = false → 32768 * 95 < d2 * 100
      → standAddr s .headroomHigh n = none
      → ∃ t, exec (.headroomEval n) s = .next t ∧ (tget ({} : Headroom) t.foc.head n).high = true
        ∧ (tget ({} : Headroom) t.foc.head n).median = m ∧ t.flt.net = s.flt.net ++ [mkMsg s .headroomHigh 7 n 0]
        ∧ t = { s with foc := { s.foc with head := t.foc.head }, flt := { s.flt with net := t.flt.net, standing := t.flt.standing } })
  ∧ (∀ (n e : Nat) (x : Elem) (g : TrimRec) (k : ElemKind) (s : State), s.flt.safe = false → s.foc.freeze = false
      → hasStation s.part.variant n = true → e / 1024 = n → s.foc.elems = [(e, x)] → x.target = some g
      → elemKind s.part.variant e = some k → elemState s e = 2 → stepFree s x = true → trimMet k x.trim g = false
      → exec (.focusTrimInterval n []) s = .next { s with foc := { s.foc with elems := tset {} s.foc.elems e { x with trim := trimStep k x.trim g, stepAt := some s.now, target := if trimMet k (trimStep k x.trim g) g then none else some g } } })
  ∧ (∀ (n : Nat) (ms : List (Nat × Nat × Nat × Nat)) (s : State), s.foc.freeze = true → exec (.focusTrimInterval n ms) s = .next s)
  ∧ (∀ (p : Path) (on : Bool) (s : State), mayWrite s p .i = true
      → exec (.focTrimFreeze p on) s = .next (audit (some p) 0x10 0x0D0008 (b2n on) { s with foc := { s.foc with freeze := on } }))
  ∧ (∀ (p : Path) (s : State), mayWrite s p .i = true → s.boot.phase = 7 ∨ s.foc.saving = true
      → exec (.warmSave p) s = .next (audit (some p) 0x10 0x0D0028 1 { s with foc := { s.foc with saveFailed := true } }))
  ∧ (∀ (p : Path) (s : State), mayWrite s p .i = true → s.boot.phase ≠ 7 → s.foc.saving = false
      → exec (.warmSave p) s = .next (audit (some p) 0x10 0x0D0028 1 { s with foc := { s.foc with
          saving := true
          saveFailed := false
          writing := if s.foc.copyA.valid = true ∧ (s.foc.copyB.valid = false ∨ s.foc.copyB.generation ≤ s.foc.copyA.generation) then 2 else 1 } }))
  ∧ (∀ (p : Path) (on : Bool) (s : State), mayWrite s p .i = false
      → exec (.focTrimFreeze p on) s = .next s ∧ exec (.warmSave p) s = .next s)
  ∧ (∀ s : State, s.flt.safe = false → s.foc.saving = true → s.foc.writing = 1
      → ∃ t, exec (.warmSaveComplete true) s = .next t ∧ t.foc.saving = false ∧ t.foc.copyB = s.foc.copyB ∧ t.foc.copyA.valid = true
        ∧ t.foc.copyA.generation = (if s.foc.copyB.valid then s.foc.copyB.generation else 0) + 1 ∧ t.foc.copyA.savedAt = s.tc.timecode ∧ t.foc.copyA.elems = allRecords s
        ∧ t.foc.copyA.taps = siteTaps s ∧ t.boot.flash = tclear s.boot.flash warmA (warmA + warmSize)
        ∧ t = { s with foc := { s.foc with saving := false, copyA := t.foc.copyA }, boot := { s.boot with flash := t.boot.flash } })
  ∧ (∀ s : State, s.flt.safe = false → s.foc.saving = true
      → exec (.warmSaveComplete false) s = .next { s with foc := { s.foc with saving := false, saveFailed := true } })

/-- O27. Sensors are sampled every 10 µs, a sensor at 108 °C in two samples trips, and the trip and the coolant stop end
as the rules say (R340, R342, R345, R346, R347, R368). A sample keeps each reading, and one less than 10 µs after the
last is none. A sensor in service at 108 °C or more in this and the last sample trips the module: THERMTRIP_N low,
LS_EN low, safe state, the sites off and the trip's time kept. A sensor that has stood off its median for 10 ms raises
SENSOR_FAIL. THERMTRIP_N goes high after 30 s below 75 °C unless the third trip holds it. COOLANT_OK low stops the
module once; held high again it lets phase 1 end or boots a module that the coolant stopped. -/
def Obligations.SensorsAreSampledAndTheHardwareStopsAct : Prop :=
  (∀ (rs : List (Nat × Int)) (s : State), s.thm.lastSample = none ∨ (∃ a, s.thm.lastSample = some a ∧ a + 10000 ≤ s.now)
      → ∃ t, exec (.sensorSample rs) s = .next t ∧ t.thm.lastSample = some s.now
        ∧ t.thm.sens = (rs.filter (fun r => (sensors s).contains r.1)).foldl (fun t r => tset none t r.1 (some r.2)) s.thm.sens
        ∧ t = { s with thm := t.thm, flt := t.flt, pins := t.pins, gaf := t.gaf, tsi := t.tsi })
  ∧ (∀ (rs : List (Nat × Int)) (a : Tick) (s : State), s.thm.lastSample = some a → s.now < a + 10000
      → exec (.sensorSample rs) s = .next s)
  ∧ (∀ (k : Nat) (r : Int) (s : State), s.thm.lastSample = none ∨ (∃ a, s.thm.lastSample = some a ∧ a + 10000 ≤ s.now)
      → (sensors s).contains k = true → sensorUsed s k = true → s.thm.hot.contains k = true → deg 108 ≤ r → s.thm.tripped = false
      → ∃ t, exec (.sensorSample [(k, r)]) s = .next t ∧ t.thm.tripped = true ∧ t.thm.cause = 0 ∧ t.flt.safe = true
        ∧ t.thm.trips = s.now :: s.thm.trips.filter (fun u => decide (s.now < u + day))
        ∧ t.pins.thermtripN = false ∧ t.pins.lsEn = false ∧ t.pins.faultN = false ∧ t.pins.siteRstHigh = [] ∧ t.gaf.release = none
        ∧ t.tsi = ((List.range 12).foldl (fun s n => modSite n (fun x => { x with on := false }) s) s).tsi)
  ∧ (∀ (k : Nat) (r : Int) (s : State), 2 ≤ (s.thm.trips.filter (fun u => decide (s.now < u + day))).length → (trip k r s).thm.tripLocked = true)
  ∧ (∀ (k : Nat) (a : Tick) (s : State), s.flt.safe = false → tget none s.thm.devSince k = some a → sensorUsed s k = true
      → a + 10000000 ≤ s.now
      → exec (.sensorFail k) s = .next { s with
          thm := { s.thm with devSince := tset none s.thm.devSince k none }
          flt := { s.flt with net := s.flt.net ++ [mkMsg s .sensorFail 8 (k / 4) (thermAddr ((reading s k).getD 0) k)] } })
  ∧ (∀ (a : Tick) (s : State), s.thm.coolSince = some a → s.thm.tripped = true → s.thm.tripLocked = false → a + 30000000000 ≤ s.now
      → s.flt.safe = false
      → exec .thermtripRelease s = .next { s with thm := { s.thm with tripped := false }, pins := { s.pins with thermtripN := true } })
  ∧ (∀ (a : Tick) (s : State), s.thm.coolSince = some a → s.thm.tripped = true → s.thm.tripLocked = false → a + 30000000000 ≤ s.now
      → s.flt.safe = true
      → exec .thermtripRelease s = .next (restartAfterStop
          { s with thm := { s.thm with tripped := false }, pins := { s.pins with thermtripN := true } }))
  ∧ (∀ s : State, s.thm.tripLocked = true → exec .thermtripRelease s = .next s)
  ∧ (∀ s : State, s.thm.coolStop = false → 2 ≤ s.boot.phase
      → ∃ t, exec .coolantStop s = .next t ∧ t.thm.coolStop = true ∧ t.thm.cause = 1 ∧ t.flt.safe = true ∧ t.pins.coolantOk = false
        ∧ t.pins.lsEn = false ∧ t.pins.thermtripN = s.pins.thermtripN ∧ t.gaf.release = none
        ∧ t.tsi = ((List.range 12).foldl (fun s n => modSite n (fun x => { x with on := false }) s) s).tsi)
  ∧ (∀ s : State, s.thm.coolStop = true ∨ s.boot.phase < 2
      → exec .coolantStop s = .next { s with pins := { s.pins with coolantOk := false } })
  ∧ (∀ s : State, s.boot.phase = 1
      → exec .coolantRestart s = .next (beginBoot s.boot.kind 2 { s with pins := { s.pins with coolantOk := true } }))
  ∧ (∀ s : State, s.boot.phase ≠ 1 → s.thm.coolStop = true
      → exec .coolantRestart s = .next (restartAfterStop
          { s with pins := { s.pins with coolantOk := true }, thm := { s.thm with coolStop := false } }))

/-- O28. The warm-up ends at 10 °C, a cold station's return is timed, stacks are hot at 95 °C and fenced at 105 °C, and
site ceilings follow TJMAX (R343, R344, R348, R349). The warm-up ends when every station is at 10 °C or more. A
stack's reading is kept: below 90 °C nothing stands, at 95 °C STACK_HOT begins, at 105 °C STACK_OVERTEMP is raised for
it, and below 85 °C a stack so raised is as before. The ceiling of a site at TJMAX falls by 10 % of PMAX with SITE_HOT
and rises by 5 % after 1 ms of cool reports. A site hot for 100 µs raises SITE_OVERTEMP, which is the cause kept for
it. A low station at 12 °C or more for long enough ends its fence. -/
def Obligations.StationsStacksAndSitesAnswerTheirTemperature : Prop :=
  (∀ s : State, s.flt.safe = false → s.thm.warmup = true → allAtLeast s (deg 10) = true
      → exec .warmupEnd s = .next { s with thm := { s.thm with warmup := false }, boot := { s.boot with phaseStart := s.now } })
  ∧ (∀ s : State, allAtLeast s (deg 10) = false → exec .warmupEnd s = .next s)
  ∧ (∀ (m : Nat) (x : Int) (s : State), s.flt.safe = false → s.boot.dark = false → hasMs s.part.variant m = true → 8 ≤ s.boot.phase
      → x < deg 90 → tget 0 s.thm.stackSt m ≠ 2 → standAddr s .stackHot (36 + m) = none
      → exec (.stackTempRead m x) s = .next { s with thm := { s.thm with
          stackTemp := tset 0 s.thm.stackTemp m x
          stackSt := tset 0 s.thm.stackSt m 0 } })
  ∧ (∀ (m : Nat) (x : Int) (s : State), s.flt.safe = false → s.boot.dark = false → hasMs s.part.variant m = true → 8 ≤ s.boot.phase
      → deg 95 ≤ x → x < deg 105 → tget 0 s.thm.stackSt m ≠ 2 → standAddr s .stackHot (36 + m) = none
      → ∃ t, exec (.stackTempRead m x) s = .next t ∧ t.thm.stackTemp = tset 0 s.thm.stackTemp m x ∧ tget 0 t.thm.stackSt m = 1
        ∧ t.flt.net = s.flt.net ++ [mkMsg s .stackHot 8 (36 + m) (thermAddr x 0)]
        ∧ t = { s with thm := t.thm, flt := { s.flt with net := t.flt.net, standing := t.flt.standing } })
  ∧ (∀ (m : Nat) (x : Int) (s : State), s.flt.safe = false → s.boot.dark = false → hasMs s.part.variant m = true → 8 ≤ s.boot.phase
      → deg 105 ≤ x → tget 0 s.thm.stackSt m ≠ 2 → (standAddr s .stackHot (36 + m)).isSome = true
      → ∃ t, exec (.stackTempRead m x) s = .next t ∧ tget 0 t.thm.stackSt m = 2
        ∧ t.flt.net = s.flt.net ++ [mkMsg s .stackOvertemp 8 (36 + m) (thermAddr x 0)])
  ∧ (∀ (m : Nat) (x : Int) (s : State), s.flt.safe = false → s.boot.dark = false → hasMs s.part.variant m = true → 8 ≤ s.boot.phase
      → x < deg 85 → tget 0 s.thm.stackSt m = 2
      → ∃ t, exec (.stackTempRead m x) s = .next t ∧ t.thm.stackSt = tset 0 s.thm.stackSt m 0)
  ∧ (∀ (n : Nat) (s : State), gafRuns s = true → siteServing s n = true
      → (powOf s n).tempAt = none ∨ (∃ a, (powOf s n).tempAt = some a ∧ a + 1000000 ≤ s.now)
      → tjMax s n ≤ (siteOf s n).neg.lastTemp
      → exec (.tempCeilingStep n) s = .next (divide (standBegin .siteHot 9 n (budgetAddr s (meanNow s n))
          (modPow n (fun q => { q with
            tempCeil := some (max (100 * agreedPidle s n) ((powOf s n).tempCeil.getD (100 * agreedPmax s n) - 10 * agreedPmax s n))
            tempAt := some s.now }) s))))
  ∧ (∀ (n c : Nat) (b : Tick) (s : State), gafRuns s = true → siteServing s n = true
      → (powOf s n).tempAt = none ∨ (∃ a, (powOf s n).tempAt = some a ∧ a + 1000000 ≤ s.now)
      → (siteOf s n).neg.lastTemp < tjMax s n → (powOf s n).tempCeil = some c → (powOf s n).coolSince = some b → b + 1000000 ≤ s.now
      → c + 5 * agreedPmax s n < 100 * agreedPmax s n
      → exec (.tempCeilingStep n) s = .next (divide (modPow n (fun q => { q with
          tempCeil := some (c + 5 * agreedPmax s n)
          tempAt := some s.now }) s)))
  ∧ (∀ (n : Nat) (b : Tick) (s : State), gafRuns s = true → siteServing s n = true → (powOf s n).hotSince = some b → b + 100000 ≤ s.now
      → exec (.siteOvertemp n) s = .next (raise .siteOvertemp 9 n (budgetAddr s (meanNow s n))
          (siteCause n 0 0 0 (modPow n (fun p => { p with hotSince := none }) s))))
  ∧ (∀ (st : Nat) (b : Tick) (u s : State), s.flt.safe = false → tget none s.thm.lowOk st = some b → s.thm.lowSt.contains st = true
      → b + 1000000000 ≤ s.now
      → u = { s with thm := { s.thm with lowSt := s.thm.lowSt.filter (· ≠ st), lowOk := tset none s.thm.lowOk st none } }
      → fenceOf u (uStation st) = none → exec (.lowTempReturn st) s = .next u)
  ∧ (∀ (st : Nat) (b : Tick) (e : FenceEntry) (u s : State), s.flt.safe = false → tget none s.thm.lowOk st = some b
      → s.thm.lowSt.contains st = true → b + 1000000000 ≤ s.now
      → u = { s with thm := { s.thm with lowSt := s.thm.lowSt.filter (· ≠ st), lowOk := tset none s.thm.lowOk st none } }
      → fenceOf u (uStation st) = some e → e.kind = 0x84 → exec (.lowTempReturn st) s = .next (restore (uStation st) u))

/-- O29. The gaffer sets each site's factor, divides, moves VDD_MILL, checks limits and ends clamps (R46, R350, R353,
R358, R359, R360, R361, R474). An evaluation falls once on each multiple of 100,000 ns: the factor of every site is
set from the temperature beneath it and the pool is divided. f is 1 up to 90 °C, falls to 0.4 at 100 °C and stays
there. 50 µs after a POWER_LIMIT a mean above the limit clamps the site, and a waiting higher limit goes out; a clamp
ends 1 ms after the mean falls low. VDD_MILL moves by its steps within 550 to 850 mV, each with its VOUT_COMMAND,
rounded to the nearest (the rounding is the model's choice, log entry 70), a failed command sets PMBUS_FAIL, and an
alert reads and clears every regulator. -/
def Obligations.TheGafferEvaluatesDividesAndClamps : Prop :=
  (∀ s : State, gafRuns s = true → s.gaf.evalDone < s.tc.timecode.toNat / 100000
      → ∃ u, u = disagreeCheck { s with gaf := { s.gaf with evalDone := s.tc.timecode.toNat / 100000 } }
        ∧ exec .gafferEvaluation s = .next (divide ((List.range 12).foldl
          (fun s n => modPow n (fun p => { p with factor := baseFactor (beneath s n) }) s) u)))
  ∧ (∀ s : State, s.tc.timecode.toNat / 100000 ≤ s.gaf.evalDone → exec .gafferEvaluation s = .next s)
  ∧ (∀ x : Int, (x ≤ deg 90 → baseFactor x = 100000) ∧ (deg 100 ≤ x → baseFactor x = 40000)
      ∧ (deg 90 < x → x < deg 100 → (baseFactor x : Int) = 100000 - 375 * (x - deg 90)))
  ∧ (∀ s : State, exec .gafferDivide s = .next (divide s))
  ∧ (∀ s : State, gafRuns s = false → divideCore s = s)
  ∧ (∀ (n : Nat) (a : Tick) (u : State) (s : State), gafRuns s = true → siteServing s n = true → (powOf s n).limitAt = some a → a + 50000 ≤ s.now
      → (powOf s n).waitLimit = none → u = modPow n (fun q => { q with limitAt := none }) s → (powOf s n).limit < meanNow u n
      → exec (.limitCheck n) s = .next (raiseRated .siteOverLimit n 10000000 9 n (budgetAddr u (meanNow u n))
          (modPow n (fun q => { q with clamped := true, lowSince := none }) u)))
  ∧ (∀ (n l : Nat) (a : Tick) (s : State), gafRuns s = true → siteServing s n = true → (powOf s n).limitAt = none
      → (powOf s n).waitLimit = some (l, a) → a ≤ s.now → exec (.limitCheck n) s = .next (sendLimit n l s))
  ∧ (∀ (n : Nat) (a : Tick) (s : State), gafRuns s = true → (powOf s n).lowSince = some a → a + 1000000 ≤ s.now
      → exec (.clampRelease n) s = .next (modPow n (fun p => { p with clamped := false, lowSince := none }) s))
  ∧ (∀ s : State, gafRuns s = true → s.gaf.lastRaise = none ∨ (∃ a, s.gaf.lastRaise = some a ∧ a + 20000 ≤ s.now)
      → millWants s = true → s.gaf.vmill < 850
      → exec .vmillRaiseStep s = .next (vmillSet { s with gaf := { s.gaf with vmill := min 850 (s.gaf.vmill + 10), lastRaise := some s.now, pmbusFail := false } }))
  ∧ (∀ s : State, gafRuns s = true → s.gaf.lastLower = none ∨ (∃ a, s.gaf.lastLower = some a ∧ a + 10000000 ≤ s.now)
      → millSpare s = true → 550 < s.gaf.vmill
      → exec .vmillLowerStep s = .next (vmillSet { s with gaf := { s.gaf with vmill := max 550 (s.gaf.vmill - 5), lastLower := some s.now, pmbusFail := false } }))
  ∧ (∀ s : State, vmillSet s = { s with out := .pmbus 0x40 "VOUT_COMMAND" [(s.gaf.vmill * 4096 + 500) / 1000] :: s.out })
  ∧ (∀ s : State, gafRuns s = true
      → exec .pmbusFail s = .next { s with
          gaf := { s.gaf with pmbusFail := true }
          flt := { s.flt with net := s.flt.net ++ [mkMsg s .pmbusFail 9 63 (budgetAddr s 0)] } })
  ∧ (∀ s : State, s.flt.safe = false
      → ∃ t, exec .pmbusAlert s = .next t ∧ t.pins.pmbAlertN = true ∧ t = { s with pins := t.pins, out := t.out }
        ∧ t.out = ((List.range 7).map (fun i => OutMsg.pmbus (i + 0x40) "CLEAR_FAULTS" [])).reverse
          ++ ((List.range 7).map (fun i => OutMsg.pmbus (i + 0x40) "STATUS_WORD" [])).reverse ++ s.out)

/-- O30. Ten samples make a 10 µs mean, breaks of the slew rule are counted and engage the guard, and SLEW_REQ is granted
within the ledger (R280, R352, R362, R363). A sample sets VSITE and the current that are shown; a sample less than ten
is kept; the tenth forms the mean of the ten, newest first among those of the last millisecond. A mean within the
allowance of those it is compared with counts nothing; one beyond it counts a violation with SLEW_VIOLATION. The guard
ends at its time. A SLEW_REQ is answered with the largest change that the ledger leaves room for, in the asked
direction, kept until its window ends; while the throttle factor is below 1 a rise is refused. -/
def Obligations.SitePowerIsSampledAndSlewIsGuarded : Prop :=
  (∀ (n w mv cur : Nat) (u s : State), siteOn s n = true → cur = (if mv = 0 then 0 else min 65535 (w * 10000 / mv))
      → u = { s with tsi := tupd {} s.tsi n (fun x => { x with
          mv := BitVec.ofNat 16 (min 65535 mv)
          current := BitVec.ofNat 16 cur
          undervolt := x.undervolt && decide (mv + 75 < 550 + 5 * x.vset)
          clamped := x.clamped && decide (4000 ≤ cur) }) }
      → (powOf s n).sampleAt = none ∨ (∃ a, (powOf s n).sampleAt = some a ∧ a + 1000 ≤ s.now)
      → (powOf s n).samples.length ≠ 9
      → exec (.sitePowerSample n w mv) s = .next (modPow n (fun q => { q with sampleAt := some s.now, samples := w :: (powOf s n).samples }) u))
  ∧ (∀ (n w mv cur : Nat) (u s : State), siteOn s n = true → cur = (if mv = 0 then 0 else min 65535 (w * 10000 / mv))
      → u = { s with tsi := tupd {} s.tsi n (fun x => { x with
          mv := BitVec.ofNat 16 (min 65535 mv)
          current := BitVec.ofNat 16 cur
          undervolt := x.undervolt && decide (mv + 75 < 550 + 5 * x.vset)
          clamped := x.clamped && decide (4000 ≤ cur) }) }
      → (powOf s n).sampleAt = none ∨ (∃ a, (powOf s n).sampleAt = some a ∧ a + 1000 ≤ s.now)
      → (powOf s n).samples.length = 9
      → exec (.sitePowerSample n w mv) s = .next (newMean n ((w + (powOf s n).samples.sum) / 10)
          (modPow n (fun q => { q with sampleAt := some s.now, samples := w :: (powOf s n).samples }) u)))
  ∧ (∀ (n m : Nat) (s : State), (powOf s n).means = [] → (powOf s n).clamped = false
      → newMean n m s = modPow n (fun p => { p with means := [(s.now, m)], samples := [], lowSince := none }) s)
  ∧ (∀ (n m old : Nat) (a : Tick) (s : State), (powOf s n).means = [(a, old)] → s.now ≤ a + 100000 → (powOf s n).slewFrom ≤ a
      → (powOf s n).clamped = false → (powOf s n).grant = none → (powOf s n).breaks = [] → (powOf s n).guardEnd = none
      → old + 25 < m
      → ∃ t, newMean n m s = t ∧ (powOf t n).viol = sat32 (powOf s n).viol 1 ∧ (powOf t n).breaks = [s.now]
        ∧ (powOf t n).means = (s.now, m) :: (if s.now < a + 1000000 then [(a, old)] else []))
  ∧ (∀ (n w mv : Nat) (s : State), siteOn s n = false → exec (.sitePowerSample n w mv) s = .next s)
  ∧ (∀ (n : Nat) (a : Tick) (s : State), (powOf s n).guardEnd = some a → a ≤ s.now
      → exec (.slewGuardEnd n) s = .next (modPow n (fun p => { p with guardEnd := none }) s))
  ∧ (∀ (n d win r : Nat) (tag : Byte) (s : State), gafRuns s = true → sbLive s n = true → siteServing s n = true
      → bit (siteFeatures s n) 2 = true → 0 < sgn 10 d → s.gaf.f = 1000000 → r = slewRoom s n (sgn 10 d).natAbs → 0 < r
      → exec (.slewReq n d win tag) s = .next (sideband n .slewGrant [uns 10 r, win, tag.toNat]
          (modPow n (fun p => { p with grant := some ((r : Int), s.now + 1000 * win) }) s)))
  ∧ (∀ (n d win : Nat) (tag : Byte) (s : State), gafRuns s = true → sbLive s n = true → siteServing s n = true
      → bit (siteFeatures s n) 2 = true → 0 < sgn 10 d → s.gaf.f < 1000000
      → exec (.slewReq n d win tag) s = .next (sideband n .slewGrant [0, win, tag.toNat] s))
  ∧ (∀ (n m : Nat) (s : State), slewRoom s n m ≤ m)

/-- O31. The rack power manager's grants set the budget and its expiry, queries are answered, excess is released, and an
expired grant falls back (R354, R355, R356, R368). A grant from the rack power manager with an EXPIRY of 1 to
3,600,000 ms sets the budget, its identifier and its end, drops a pending release, divides, and is acknowledged with
the minimum budget and whether the grant is below it; another EXPIRY is refused with status 2 and changes no budget,
and a grant of another endpoint is not taken. A query is answered. At its end the budget is GAF_FALLBACK and
BUDGET_EXPIRED is raised. An excess held for 100 ms is released, its acknowledgement ends the release, and an
unacknowledged one is sent again after 100 ms. -/
def Obligations.BudgetsAreGrantedReleasedAndExpire : Prop :=
  (∀ (e id w x : Nat) (s : State), fromRack s e = true → 1 ≤ x → x ≤ 3600000
      → ∃ t, exec (.budgetGrant e id w x) s = .next t
        ∧ t = emit (.rack e "BUDGET_ACK" [id, b2n (decide (100 * w < minBudget t)), w, wattsUp (minBudget t)]) (divide { s with gaf := { s.gaf with
          budget := w
          grantId := BitVec.ofNat 32 id
          expiry := some (s.now + 1000000 * x)
          release := none
          withheld := 0
          excessSince := none } }))
  ∧ (∀ (e id w x : Nat) (s : State), fromRack s e = true → x = 0 ∨ 3600000 < x
      → ∃ a, exec (.budgetGrant e id w x) s = .next { s with
          out := .rack e "BUDGET_ACK" [id, 2, a, wattsUp (minBudget s)] :: s.out
          mem := { s.mem with freeCtr := s.mem.freeCtr + 1 } })
  ∧ (∀ (e id w x : Nat) (s : State), fromRack s e = false
      → exec (.budgetGrant e id w x) s = .next s ∧ exec (.budgetQuery e) s = .next s)
  ∧ (∀ (e : Nat) (s : State), fromRack s e = true
      → exec (.budgetQuery e) s = .next { s with out := .rack e "BUDGET_STATUS" [s.gaf.grantId.toNat, s.gaf.budget, wattsUp s.gaf.alloc, s.gaf.measured, wattsUp (minBudget s)] :: s.out })
  ∧ (∀ (a : Tick) (s : State), gafRuns s = true → s.gaf.expiry = some a → a ≤ s.now
      → exec .budgetExpiry s = .next (divide { s with
          gaf := { s.gaf with budget := s.gaf.fallback, grantId := 0, expiry := none, release := none, withheld := 0 }
          flt := { s.flt with net := s.flt.net ++ [mkMsg s .budgetExpired 9 63 (budgetAddr s s.gaf.fallback)] } }))
  ∧ (∀ (a : Tick) (s : State), gafRuns s = true → s.gaf.excessSince = some a → a + 100000000 ≤ s.now
      → exec .budgetExcessRelease s = .next (divide (release 1 ((100 * s.gaf.budget - s.gaf.alloc) / 100) s)))
  ∧ (∀ (why n : Nat) (s : State), granted s = true → 0 < n → n ≤ s.gaf.budget
      → release why n s = { s with
          gaf := { s.gaf with
            budget := s.gaf.budget - n
            release := some { id := s.gaf.grantId, released := n, kept := s.gaf.budget - n, reason := why, sent := s.now }
            excessSince := none }
          out := .rack s.gaf.rackEid "BUDGET_RELEASE" [s.gaf.grantId.toNat, n, s.gaf.budget - n, why] :: s.out })
  ∧ (∀ (e id : Nat) (r : Release) (s : State), s.gaf.release = some r → fromRack s e = true → r.id.toNat = id
      → exec (.budgetReleaseAck e id) s = .next { s with gaf := { s.gaf with release := none } })
  ∧ (∀ (e id : Nat) (r : Release) (s : State), s.gaf.release = some r → r.id.toNat ≠ id
      → exec (.budgetReleaseAck e id) s = .next s)
  ∧ (∀ (r : Release) (s : State), gafRuns s = true → s.gaf.release = some r → r.sent + 100000000 ≤ s.now → r.tries < 4
      → exec .budgetReleaseRetry s = .next { s with
          gaf := { s.gaf with release := some { r with sent := s.now, tries := r.tries + 1 } }
          out := .rack s.gaf.rackEid "BUDGET_RELEASE" [r.id.toNat, r.released, r.kept, r.reason] :: s.out })
  ∧ (∀ (r : Release) (s : State), s.gaf.release = some r → 4 ≤ r.tries → exec .budgetReleaseRetry s = .next s)

/-- O32. Pace notices are kept by source and dropped after 20 ms, go out every 5 ms, and energy goes to the tags once a
millisecond (R364, R365, R366, R369, R370). A notice of a job that runs here replaces the last one of its source when
it is newer, and acts; one of no running job changes nothing. One that arrived 20 ms ago is dropped. While the
slowdown exceeds 5 % a notice goes out every 5 ms. Once a millisecond the regulators' counters are read; energy of a
site goes to the tag of its job with the regulator's 8 %, that of the memory and the base by traffic with what remains
to tag 0; the traffic counts begin again and the measured power is kept; a second attribution in one millisecond
changes nothing. -/
def Obligations.PaceNoticesAndEnergy : Prop :=
  (∀ (m : PaceMsg) (j : Nat) (s : State), gafRuns s = true → (runningJobs s).filter (fun j => jobPod s j == m.podJob) = [j]
      → s.gaf.paceIn.find? (fun p => p.job == m.podJob && p.source == m.source) = none
      → exec (.paceNotice m) s = .next (applyPace j { s with gaf := { s.gaf with paceIn := s.gaf.paceIn.filter (fun p => !(p.job == m.podJob && p.source == m.source)) ++ [{ job := m.podJob, source := m.source, seq := m.seq, slowdown := m.slowdown, at_ := s.now }] } }))
  ∧ (∀ (m : PaceMsg) (p : PaceIn) (j : Nat) (s : State), gafRuns s = true → (runningJobs s).filter (fun j => jobPod s j == m.podJob) = [j]
      → s.gaf.paceIn.find? (fun p => p.job == m.podJob && p.source == m.source) = some p → m.seq = p.seq
      → exec (.paceNotice m) s = .next s)
  ∧ (∀ (m : PaceMsg) (s : State), (runningJobs s).filter (fun j => jobPod s j == m.podJob) = [] → exec (.paceNotice m) s = .next s)
  ∧ (∀ (j : Nat) (s : State), gafRuns s = true
      → exec (.paceNoticeExpiry j) s = .next (applyPace j { s with gaf := { s.gaf with
          paceIn := s.gaf.paceIn.filter (fun p => !(p.job == jobPod s j && decide (p.at_ + 20000000 ≤ s.now))) } }))
  ∧ (∀ (j : Nat) (a : Tick) (s : State), gafRuns s = true → jobRunning s j = true → (tget {} s.gaf.paceOut j).lastSent = some a
      → a + 5000000 ≤ s.now → 50 < (tget {} s.gaf.paceOut j).sentValue → 50 < (jobSlow s j).1
      → exec (.paceNoticeTimer j) s = .next (sendPace j (jobSlow s j).1 (jobSlow s j).2 s))
  ∧ (∀ (j : Nat) (a : Tick) (s : State), (tget {} s.gaf.paceOut j).lastSent = some a → s.now < a + 5000000
      → exec (.paceNoticeTimer j) s = .next s)
  ∧ (∀ (rs : List (Nat × Nat)) (s : State), gafRuns s = true → s.gaf.energyDone < s.tc.timecode.toNat / 1000000
      → ∃ t, exec (.energyAttribution rs) s = .next t ∧ t.gaf.energyDone = s.tc.timecode.toNat / 1000000 ∧ t.gaf.lines = [] ∧ t.gaf.bytes = []
        ∧ t = { s with
          gaf := { s.gaf with energyDone := t.gaf.energyDone, lines := [], bytes := [], energy := t.gaf.energy, measured := t.gaf.measured }
          out := ((List.range 7).map (fun i => OutMsg.pmbus (i + 0x40) "READ_EOUT" [])).reverse ++ s.out })
  ∧ (∀ (n e j : Nat) (s : State), gafRuns s = true → s.gaf.energyDone < s.tc.timecode.toNat / 1000000 → n < 12
      → jobOfSite s n = some j → s.gaf.lines = [] → s.gaf.bytes = [] → s.gaf.energy = []
      → ∃ t, exec (.energyAttribution [(n, e)]) s = .next t ∧ t.gaf.measured = e * 108 / 100 / 1000
        ∧ tget 0 t.gaf.energy (jobTag s j % 16) = BitVec.ofNat 64 (e * 108 / 100))
  ∧ (∀ (rs : List (Nat × Nat)) (s : State), s.tc.timecode.toNat / 1000000 ≤ s.gaf.energyDone
      → exec (.energyAttribution rs) s = .next s)

/-- O33. The collector takes the oldest message, records it, captures the first error, fences what it names, and a fatal
one brings safe state (R376, R377, R378, R381, R383, R389). FAULT_MESSAGE takes the oldest message of the fault
network, or one from outside. Each message is counted by its kind and written to the next outtake slot unless the ring
is frozen; the first one of severity degraded or more is kept as the first error and sets PENDING. A fatal message
freezes the ring and, from outside, brings safe state with its pins. A corrected one fences nothing. A millstone error
fences the millstone that it names. In safe state the records alone are kept. With no message nothing changes. -/
def Obligations.TheCollectorRecordsFencesAndEntersSafeState : Prop :=
  (∀ (m : FaultMsg) (s : State), exec (.faultMessage (some m)) s = .next (collect true m s))
  ∧ (∀ (m : FaultMsg) (ms : List FaultMsg) (s : State), s.flt.net = m :: ms
      → exec (.faultMessage none) s = .next (collect false m { s with flt := { s.flt with net := ms } }))
  ∧ (∀ s : State, s.flt.net = [] → exec (.faultMessage none) s = .next s)
  ∧ (∀ (m : FaultMsg) (s : State), 1 ≤ m.sev.toNat → s.flt.frozen = false
      → ∃ t, record m s = t ∧ t.flt.counts = tupd 0 s.flt.counts m.kind.toNat (fun c => sat32 c 1) ∧ t.flt.pending = true
        ∧ t.flt.head = (s.flt.head + 1) % 32 ∧ t.flt.frozen = (m.sev == 3) ∧ t.pins.alertN = false
        ∧ tget none t.flt.ring s.flt.head = some { m with first := s.flt.first.isNone }
        ∧ t.flt.first = (if s.flt.first.isNone then some { m with first := true } else s.flt.first)
        ∧ t = { s with flt := { t.flt with net := s.flt.net }, pins := t.pins, pair := t.pair })
  ∧ (∀ (m : FaultMsg) (s : State), s.flt.frozen = true
      → (record m s).flt.ring = s.flt.ring ∧ (record m s).flt.head = s.flt.head ∧ (record m s).flt.frozen = true
        ∧ (record m s).flt.counts = tupd 0 s.flt.counts m.kind.toNat (fun c => sat32 c 1))
  ∧ (∀ (m : FaultMsg) (s : State), s.flt.first.isSome = true → (record m s).flt.first = s.flt.first)
  ∧ (∀ (m : FaultMsg) (s : State), m.sev = 0 → (record m s).flt.first = s.flt.first ∧ (record m s).flt.pending = s.flt.pending
      ∧ (record m s).flt.map = s.flt.map)
  ∧ (∀ (m : FaultMsg) (s : State), m.sev = 3
      → ∃ t, exec (.faultMessage (some m)) s = .next t ∧ t = enterSafe (record m s) ∧ t.flt.safe = true ∧ t.flt.frozen = true
        ∧ t.pins.faultN = false ∧ t.pins.lsEn = false ∧ t.pins.siteRstHigh = [] ∧ t.flt.map = s.flt.map)
  ∧ (∀ (m : FaultMsg) (s : State), m.sev ≠ 3 → s.flt.safe = true → exec (.faultMessage (some m)) s = .next (record m s))
  ∧ (∀ (m : FaultMsg) (s : State), m.sev = 0 → s.flt.safe = false
      → ∃ t, exec (.faultMessage (some m)) s = .next t ∧ t.flt.map = s.flt.map ∧ t.flt.safe = false ∧ t.flt.first = s.flt.first)
  ∧ (∀ (m : FaultMsg) (s : State), m.sev = 2 → m.kind = 0x61 → m.block = 4 → s.flt.safe = false → fenced s (uMill m.inst.toNat) = false
      → ∃ t, exec (.faultMessage (some m)) s = .next t
        ∧ t = fenceUnit (uMill m.inst.toNat) 0x61 false (noteTriggers m (record m s)))

/-- O34. A fence takes the reserved or the lowest free entry, is retried after its quiet period, and its retries are
counted and limited (R381, R383, R384, R389). A unit that is not fenced, nor inside a fenced station or site, is
entered as fenced, or as held with six retries in the last 24 hours; a fenced unit begins its quiet period again. 5 s
after its quiet period begins a unit is retried, which counts. A retry that succeeds restores the unit, one that fails
fences it again, and the sixth holds it with RECOVERY_LIMIT. FLT_FENCE_CLEAR resets the counter and begins the retry
at once, for the installer alone. -/
def Obligations.UnitsAreFencedRetriedAndRestored : Prop :=
  (∀ (u : UnitId) (k : Byte) (n : Nat) (s : State), fenced s u = false → insideFenced s u = false → reservedEntry u = none
      → freeEntry s = some n → recoveryCount s u < 6
      → enterFence u k s = (some (u, false), { s with flt := { s.flt with
          map := tset none s.flt.map n (some { unit := u, st := .fenced, kind := k, quietFrom := s.now }) } }))
  ∧ (∀ (u : UnitId) (k : Byte) (n : Nat) (s : State), fenced s u = false → insideFenced s u = false → reservedEntry u = some n
      → 6 ≤ recoveryCount s u
      → enterFence u k s = (some (u, true), { s with flt := { s.flt with
          map := tset none s.flt.map n (some { unit := u, st := .held, kind := k, quietFrom := s.now }) } }))
  ∧ (∀ (u : UnitId) (k : Byte) (s : State), fenced s u = false → insideFenced s u = true → enterFence u k s = (none, s))
  ∧ (∀ (u : UnitId) (k : Byte) (s : State), fenced s u = true → (enterFence u k s).1 = none)
  ∧ (∀ (u : UnitId) (e : FenceEntry) (s : State), s.flt.safe = false → fenceOf s u = some e → e.st = .fenced
      → e.quietFrom + 5000000000 ≤ s.now → 2 ≤ e.unit.type → e.unit.type ≠ 7 → u.type ≠ 8 → insideFenced s u = false
      → exec (.fenceRetry u) s = .next (noteRetry u (modEntry u (fun e => { e with st := .retrying, atOnce := false }) s)))
  ∧ (∀ (u : UnitId) (e : FenceEntry) (s : State), fenceOf s u = some e → e.st = .fenced → e.atOnce = false
      → s.now < e.quietFrom + 5000000000 → exec (.fenceRetry u) s = .next s)
  ∧ (∀ (u : UnitId) (e : FenceEntry) (s : State), s.flt.safe = false → fenceOf s u = some e → e.st = .retrying → retryMet s u = true
      → exec (.retryComplete u true) s = .next (restore u s))
  ∧ (∀ (u : UnitId) (e : FenceEntry) (s : State), s.flt.safe = false → fenceOf s u = some e → e.st = .retrying → u.type ≠ 2 → u.type ≠ 10
      → recoveryCount s u < 6
      → exec (.retryComplete u false) s = .next (modEntry u (fun e => { e with st := .fenced, quietFrom := s.now }) s))
  ∧ (∀ (u : UnitId) (e : FenceEntry) (s : State), s.flt.safe = false → fenceOf s u = some e → e.st = .retrying → u.type ≠ 2 → u.type ≠ 10
      → 6 ≤ recoveryCount s u
      → exec (.retryComplete u false) s = .next (raise .recoveryLimit 10 3 (unitWord u).toNat
          (modEntry u (fun e => { e with st := .held }) s)))
  ∧ (∀ (u : UnitId) (e : FenceEntry) (v s : State) (p : Path), mayWrite s p .i = true → fenceOf s u = some e → e.st ≠ .retrying
      → retried e = true → v = { s with flt := { s.flt with recoveries := tset [] s.flt.recoveries (unitWord u).toNat [] } }
      → insideFenced v u = false
      → exec (.fltFenceClear p u) s = .next (audit (some p) 0x10 0x100038 (BitVec.ofNat 64 (unitWord u).toNat) (retryBegin u v)))
  ∧ (∀ (u : UnitId) (s : State) (p : Path), mayWrite s p .i = false → exec (.fltFenceClear p u) s = .next s)

/-- O35. ALERT is acknowledged, the first error cleared and the ring unfrozen by their roles, votes are scrubbed, and
watchdogs and injections raise (R377, R378, R379, R386, R387, R388). ALERT_ACK by an operator clears PENDING and with
no THERMAL_WARNING releases ALERT_N, in safe state too. FIRST_CLEAR empties the first-error capture and UNFREEZE lets
the outtake ring run on, both by the installer and audited, the latter in safe state too. A scrubbed item is counted
and reported, a lost one brings VOTE_LOST and safe state. A crew core's watchdog raises CREW_FAULT. An injection, in
factory test mode by the maker, sends the message as injected with the time of now. Without its right a path changes
nothing. -/
def Obligations.FaultRegistersTheVotedStoreAndInjection : Prop :=
  (∀ (p : Path) (s : State), s.flt.safe = true ∨ 5 ≤ s.boot.phase → holds s p .o = true → stands s .thermalWarning = false
      → exec (.fltAlertAck p) s = .next { s with flt := { s.flt with pending := false }, pins := { s.pins with alertN := true } })
  ∧ (∀ (p : Path) (s : State), s.flt.safe = true ∨ 5 ≤ s.boot.phase → holds s p .o = true → stands s .thermalWarning = true
      → exec (.fltAlertAck p) s = .next { s with flt := { s.flt with pending := false }, pins := { s.pins with alertN := false } })
  ∧ (∀ (p : Path) (s : State), mayWrite s p .i = true
      → exec (.fltFirstClear p) s = .next (audit (some p) 0x10 0x100020 1 { s with flt := { s.flt with first := none } }))
  ∧ (∀ (p : Path) (s : State), s.flt.safe = true ∨ 5 ≤ s.boot.phase → holds s p .i = true
      → exec (.fltOuttakeUnfreeze p) s = .next (audit (some p) 0x10 0x100028 1
          { s with flt := { s.flt with frozen := false, copied := false } }))
  ∧ (∀ (p : Path) (s : State), holds s p .o = false → holds s p .i = false
      → exec (.fltAlertAck p) s = .next s ∧ exec (.fltFirstClear p) s = .next s ∧ exec (.fltOuttakeUnfreeze p) s = .next s)
  ∧ (∀ (n : Nat) (s : State), s.flt.safe = false → n < 7
      → exec (.voteScrub [(n, .scrubbed)]) s = .next { s with flt := { s.flt with
          scrubs := sat16 s.flt.scrubs 1
          items := s.flt.items ||| BitVec.ofNat 7 (2 ^ n)
          net := s.flt.net ++ [mkMsg s .voteScrubbed 10 4 n] } })
  ∧ (∀ (n : Nat) (s : State), s.flt.safe = false → n < 7
      → ∃ t, exec (.voteScrub [(n, .lost)]) s = .next t ∧ t.flt.safe = true ∧ t.flt.net = s.flt.net ++ [mkMsg s .voteLost 10 4 n]
        ∧ t.pins.faultN = false ∧ t.pins.lsEn = false)
  ∧ (∀ (n : Nat) (s : State), exec (.voteScrub [(n, .agree)]) s = .next s)
  ∧ (∀ (c : Nat) (s : State), s.flt.safe = false → crewUp s c = true
      → ∃ a, exec (.crewWatchdog c) s = .next { s with
          mem := { s.mem with freeCtr := s.mem.freeCtr + 1 }
          flt := { s.flt with net := s.flt.net ++ [mkMsg s .crewFault 12 c a] } })
  ∧ (∀ (p : Path) (m : FaultMsg) (s : State), s.role.facActive = true → mayWrite s p .m = true
      → ∃ t a b, exec (.faultInject p m) s = .next t
        ∧ t = audit (some p) 0x10 a b { s with
            mem := { s.mem with freeCtr := s.mem.freeCtr + 2 }
            flt := { s.flt with net := s.flt.net ++ [{ m with injected := true, first := false, time := s.tc.timecode.setWidth 56 }] } })
  ∧ (∀ (p : Path) (m : FaultMsg) (s : State), s.role.facActive = false → exec (.faultInject p m) s = .next s)

/-- O36. Heartbeats leave every microsecond and are compared, 8 µs of silence is reported, and each role answers silence
in its way (R390, R392, R393, R394, R398, R401). A heartbeat leaves on both pair links once a microsecond. A partner's
heartbeat that agrees marks its link as up now, ends a silence and acts by its ROLE; one whose CONFIG differs makes
the pair stop with PAIR_CONFIG_MISMATCH. A link silent for 8 µs is down with its message. With both silent
PAIR_HEARTBEAT_LOST is raised once: a stand-in claims the set, a lead stops copying, and a module that was
resynchronising clears its copy and has no role. A lead that hears no claim for 20 µs runs alone. A heartbeat before
its time changes nothing. -/
def Obligations.ThePairBeatsAndNoticesSilence : Prop :=
  (∀ (c : PairCfg) (s : State), s.pair.cfg = some c → s.flt.safe = false → s.pair.mismatch = false → s.pair.nextBeat ≤ s.now → 10 ≤ s.boot.phase
      → s.pair.role = .standIn → (podLink s c.linkA).st = 2 → tget 0 (podLink s c.linkA).ourUsed 6 < 64 → c.linkA ≠ c.linkB
      → (podLink s c.linkB).st = 2 → tget 0 (podLink s c.linkB).ourUsed 6 < 64
      → ∃ t, exec .heartbeatSend s = .next t ∧ t.pair.nextBeat = s.now + 1000 ∧ t = { s with pod := t.pod, pair := t.pair, out := t.out }
        ∧ t.out = .podCmd c.linkB "MIR_HEARTBEAT" [s.ident.node.toNat, 2 + 4 * b2n c.forerunner, s.pair.epoch.toNat, s.pair.confirmed, 0, (pairConfig s).toNat]
          :: .podCmd c.linkA "MIR_HEARTBEAT" [s.ident.node.toNat, 2 + 4 * b2n c.forerunner, s.pair.epoch.toNat, s.pair.confirmed, 0, (pairConfig s).toNat]
          :: s.out)
  ∧ (∀ s : State, s.now < s.pair.nextBeat → exec .heartbeatSend s = .next s)
  ∧ (∀ (l : Nat) (c : PairCfg) (hb : HeartbeatMsg) (s : State), s.pair.cfg = some c → s.flt.safe = false → l = c.linkA ∨ l = c.linkB
      → hb.node = c.partner → 10 ≤ s.boot.phase → hb.config = pairConfig s → hb.forerunner = c.forerunner
      → exec (.mirHeartbeat l hb) s = .next (beatEffect c hb { s with pair := { s.pair with
          mismatch := false
          silentAt := none
          linkUp := if l = c.linkA then (true, s.pair.linkUp.2) else (s.pair.linkUp.1, true)
          lastHb := if l = c.linkA then (s.now, s.pair.lastHb.2) else (s.pair.lastHb.1, s.now) } }))
  ∧ (∀ (l : Nat) (c : PairCfg) (hb : HeartbeatMsg) (s : State), s.pair.cfg = some c → s.flt.safe = false → l = c.linkA ∨ l = c.linkB
      → hb.node = c.partner → 10 ≤ s.boot.phase → hb.config ≠ pairConfig s → s.pair.mismatch = false
      → exec (.mirHeartbeat l hb) s = .next { s with
          pair := { s.pair with mismatch := true, role := .none }
          flt := { s.flt with net := s.flt.net ++ [mkMsg s .pairConfigMismatch 11 0 (pairAddr s)] } })
  ∧ (∀ (c : PairCfg) (hb : HeartbeatMsg) (s : State), s.pair.role = .standIn → hb.role = 1
      → beatEffect c hb s = { s with pair := { s.pair with
          released := hb.released.toNat
          log := s.pair.log.filter (fun x => decide (hb.released.toNat < x.mseq)) } })
  ∧ (∀ (c : PairCfg) (hb : HeartbeatMsg) (s : State), s.pair.role = .lead → hb.role = 2 → beatEffect c hb s = confirmTo hb.confirmed.toNat s)
  ∧ (∀ (c : PairCfg) (s : State), s.pair.cfg = some c → s.flt.safe = false → s.pair.linkUp.1 = true → s.pair.lastHb.1 + 8000 ≤ s.now
      → exec (.pairLinkSilence c.linkA) s = .next { s with
          pair := { s.pair with linkUp := (false, s.pair.linkUp.2) }
          flt := { s.flt with net := s.flt.net ++ [mkMsg s .pairLinkDown 11 0 (pairAddr s)] } })
  ∧ (∀ (c : PairCfg) (s : State), s.pair.cfg = some c → s.flt.safe = false → c.linkA ≠ c.linkB → s.pair.linkUp.2 = true
      → s.pair.lastHb.2 + 8000 ≤ s.now
      → exec (.pairLinkSilence c.linkB) s = .next { s with
          pair := { s.pair with linkUp := (s.pair.linkUp.1, false) }
          flt := { s.flt with net := s.flt.net ++ [mkMsg s .pairLinkDown 11 0 (pairAddr s)] } })
  ∧ (∀ s : State, s.flt.safe = false → s.pair.role = .lead → s.pair.silentAt = none → s.pair.lastHb.1 + 8000 ≤ s.now
      → s.pair.lastHb.2 + 8000 ≤ s.now
      → exec .pairSilence s = .next { s with
          pair := { s.pair with silentAt := some s.now, resyncing := false, resyncLines := 0, outbox := [] }
          flt := { s.flt with net := s.flt.net ++ [mkMsg s .pairHeartbeatLost 11 0 (pairAddr s)] } })
  ∧ (∀ s : State, s.flt.safe = false → s.pair.role = .standIn → s.pair.silentAt = none → s.pair.lastHb.1 + 8000 ≤ s.now
      → s.pair.lastHb.2 + 8000 ≤ s.now
      → exec .pairSilence s = .next (claimSet { s with
          pair := { s.pair with silentAt := some s.now }
          flt := { s.flt with net := s.flt.net ++ [mkMsg s .pairHeartbeatLost 11 0 (pairAddr s)] } }))
  ∧ (∀ s : State, s.flt.safe = false → s.pair.role = .resync → s.pair.silentAt = none → s.pair.lastHb.1 + 8000 ≤ s.now
      → s.pair.lastHb.2 + 8000 ≤ s.now
      → ∃ t, exec .pairSilence s = .next t ∧ t.pair.role = .none ∧ t.pair.copies = [] ∧ t.pair.resyncLines = 0 ∧ t.mem = (clearSet s).mem)
  ∧ (∀ (a : Tick) (u : State) (s : State), s.pair.silentAt = some a → s.flt.safe = false → s.pair.role = .lead → a + 20000 ≤ s.now
      → u = confirmTo s.pair.mseq (standBegin .pairSolo 11 0 (pairAddr s) s)
      → exec .pairSoloTimeout s = .next (retryWaiting { u with pair := { u.pair with role := .leadSolo, soloFrom := u.now } }))

/-- O37. A claim takes a newer epoch, its notices enter the claim table and make a lead yield, and its windows of 20 and
40 µs end (R394, R395, R396, R397, R398, R400). A claim makes the next epoch, keeps what lies above the last RELEASED
as its record and sends the notices. A notice of a node that is not known enters the lowest free entry and holds
atomics for 20 µs from the claim; one with an epoch that is not newer changes nothing; a lead that another claims
yields with PAIR_YIELD. 20 µs after its claim the claimer serves what it held back and runs alone; at 40 µs the record
is cleared. A standing claim is repeated every second. HANDOVER at the stand-in is a claim, for the installer alone. -/
def Obligations.ClaimsAreMadeKnownKeptAndEnded : Prop :=
  (∀ (c : PairCfg) (u s : State), s.pair.cfg = some c → u = { s with pair := { s.pair with
        epoch := s.pair.epoch + 1
        role := .claiming
        claimAt := some s.now
        claimTime := s.tc.timecode
        soloFrom := s.now
        record := (s.pair.log.filter (fun r => decide (s.pair.released < r.mseq))).take 8192
        log := []
        early := []
        heldAtomics := []
        nextRepeat := s.now + 1000000000 } }
      → claimSet s = claimTable { mask := c.mask, window := c.window, claimed := BitVec.ofNat 16 (setNode s), newNode := s.ident.node, epoch := s.pair.epoch + 1, time := s.tc.timecode }
          (sendNotices true (raise .pairClaim 11 0 (pairAddr u) u)))
  ∧ (∀ (m : ClaimMsg) (k : Nat) (s : State), s.flt.safe = false → s.pair.cfg = none → nodeKind s m.claimed = 1 → claimEntry s m.claimed = none
      → freeClaim s = some k → m.newNode ≠ m.claimed → s.mem.slots = []
      → exec (.claimNotice m) s = .next { s with pair := { s.pair with claims := tset none s.pair.claims k (some { msg := m, holdUntil := s.now + (lastAtomic m.time.toNat - s.tc.timecode.toNat), held := [] }) } })
  ∧ (∀ (m : ClaimMsg) (k : Nat) (e : ClaimEntry) (s : State), s.pair.cfg = none → claimEntry s m.claimed = some (k, e)
      → newer m.epoch e.msg.epoch = false → exec (.claimNotice m) s = .next s)
  ∧ (∀ (m : ClaimMsg) (c : PairCfg) (u s : State), s.flt.safe = false → s.pair.cfg = some c → m.claimed.toNat = setNode s → servesSet s = true
      → m.newNode ≠ s.ident.node → newer m.epoch s.pair.epoch = true
      → u = { s with
          pair := { s.pair with role := .yielded, work := [], waiting := [], heldAtomics := [], resyncing := false, silentAt := none, outbox := [] }
          flt := { s.flt with net := s.flt.net ++ [mkMsg s .pairYield 11 0 (pairAddr s)] } }
      → exec (.claimNotice m) s = .next (if nodeKind s m.claimed = 1 ∨ m.claimed = s.ident.node then claimTable m u else u))
  ∧ (∀ a b : Byte, newer a b = true → newer b a = false)
  ∧ (∀ (a : Tick) (s : State), s.flt.safe = false → s.pair.claimAt = some a → s.pair.role = .claiming → a + 20000 ≤ s.now
      → s.pair.heldAtomics = [] → s.pair.claims = []
      → exec .claimAtomicWindowEnd s = .next { s with pair := { s.pair with role := .leadSolo, heldAtomics := [] } })
  ∧ (∀ (k : Nat) (e : ClaimEntry) (s : State), s.flt.safe = false → s.pair.claimAt = none → s.pair.claims = [(k, some e)] → e.isOpen = true
      → e.holdUntil ≤ s.now → e.held = [] → s.mem.slots = []
      → exec .claimAtomicWindowEnd s = .next { s with pair := { s.pair with claims := [(k, some { e with isOpen := false, held := [] })] } })
  ∧ (∀ (a : Tick) (s : State), s.flt.safe = false → s.pair.claimAt = some a → a + 40000 ≤ s.now
      → exec .claimRecordClear s = .next { s with pair := { s.pair with record := [] } })
  ∧ (∀ (a : Tick) (s : State), s.pair.claimAt = some a → s.now < a + 40000 → exec .claimRecordClear s = .next s)
  ∧ (∀ s : State, s.flt.safe = false → s.pair.claimAt.isSome = true → servesSet s = true → setNode s ≠ s.ident.node.toNat
      → s.pair.nextRepeat ≤ s.now
      → exec .claimRepeat s = .next (sendNotices false { s with pair := { s.pair with nextRepeat := s.pair.nextRepeat + 1000000000 } }))
  ∧ (∀ (p : Path) (s : State), mayWrite s p .i = true → s.pair.role = .standIn
      → exec (.pairHandover p) s = .next (audit (some p) 0x10 0x110020 1 (claimSet s)))
  ∧ (∀ (p : Path) (s : State), mayWrite s p .i = false → exec (.pairHandover p) s = .next s)

/-- O38. Mirrored work is applied in order and confirmed, state records replace their copies, and a resynchronisation
copies the set (R391, R392, R397, R398, R399, R400). A stand-in applies the mirrored store or atomic whose MSEQ is
next: a store to its masked bytes of the set, an atomic to its word, and both are noted and confirmed. One that comes
early waits. At the lead a confirmation answers what it covers and moves RELEASED. A state record replaces the copy of
its place and its line is written to the stand-in's millpond (log entry 99: where in the area; the line's layout).
Each resynchronisation message writes up to three lines at the pointer, and one out of place is not taken. When every
line has come the partner is the stand-in; when every line and record has left, the lead reports PAIR_RESYNC_DONE. -/
def Obligations.TheSetIsMirroredAndResynchronised : Prop :=
  (∀ (m : MirStoreMsg) (s : State), s.flt.safe = false → s.pair.role = .standIn → m.mseq = s.pair.mseq + 1 → s.pair.early = []
      → inSet s m.offset = true → m.mask = fullMask ∨ tget [] s.mem.symErrs (m.offset / 64) = []
      → (pairLinks s).find? (fun l => mirRoom s l 1) = none
      → ∃ t, exec (.mirStore m) s = .next t ∧ t.mem = (poolWrite m.offset m.mask m.data false s).mem ∧ t.pair.mseq = m.mseq
        ∧ t.pair.confirmed = m.mseq ∧ t.pair.log = s.pair.log ++ [{ mseq := m.mseq, ident := m.ident, result := none }] ∧ t.pair.early = [])
  ∧ (∀ (m : MirStoreMsg) (s : State), s.flt.safe = false → s.pair.role = .standIn → s.pair.mseq + 1 < m.mseq → s.pair.early = []
      → (pairLinks s).find? (fun l => mirRoom s l 1) = none
      → exec (.mirStore m) s = .next { s with pair := { s.pair with early := [.store m] } })
  ∧ (∀ (m : MirWordMsg) (s : State), s.flt.safe = false → s.pair.role = .standIn → m.mseq = s.pair.mseq + 1 → s.pair.early = []
      → inSet s m.offset = true → tget [] s.mem.symErrs (m.offset / 64) = []
      → (pairLinks s).find? (fun l => mirRoom s l 1) = none
      → exec (.mirWord m) s = .next { s with
          mem := { s.mem with cells := wordSet s.mem.cells m.offset m.value }
          pair := { s.pair with
            early := []
            mseq := m.mseq
            confirmed := m.mseq
            log := s.pair.log ++ [{ mseq := m.mseq, ident := m.ident, result := some m.result }] } })
  ∧ (∀ (m : MirWordMsg) (s : State), s.pair.role = .lead → exec (.mirWord m) s = .next s)
  ∧ (∀ (n : Nat) (s : State), s.flt.safe = false → s.pair.role = .lead → s.pair.confirmed < n → n ≤ s.pair.mseq → s.pair.work = [] → s.pair.waiting = []
      → exec (.mirConfirm n) s = .next { s with pair := { s.pair with confirmed := n, released := n } })
  ∧ (∀ (n : Nat) (s : State), n ≤ s.pair.confirmed → exec (.mirConfirm n) s = .next s)
  ∧ (∀ (w : MirPending) (a : MemRsp) (s : State), s.flt.safe = false → s.pair.role = .lead → s.pair.confirmed < s.pair.mseq → s.pair.work = [w]
      → w.mseq ≤ s.pair.mseq → w.rsp = some a
      → exec (.mirConfirm s.pair.mseq) s = .next (retryWaiting (respond (serveStation { s with pair := { s.pair with
          work := [], confirmed := s.pair.mseq, released := s.pair.mseq } } w.req) w.req a { s with pair := { s.pair with
          work := [], confirmed := s.pair.mseq, released := s.pair.mseq } })))
  ∧ (∀ (c : PairCfg) (r : MirStateRec) (s : State), s.pair.cfg = some c → s.flt.safe = false
      → s.pair.role = .standIn ∨ s.pair.role = .resync
      → ∃ t, exec (.mirState r) s = .next t
        ∧ t.pair = { s.pair with copies := (placeRecord s.pair.copies r).2 }
        ∧ (bankFenced s (64 * ((c.stateBase.toNat + (placeRecord s.pair.copies r).1) % 2 ^ 21) / 0x400000) = false
          → t = millWrite (64 * ((c.stateBase.toNat + (placeRecord s.pair.copies r).1) % 2 ^ 21)) fullMask (recordLine r) false
            { s with pair := { s.pair with copies := (placeRecord s.pair.copies r).2 } })
        ∧ (bankFenced s (64 * ((c.stateBase.toNat + (placeRecord s.pair.copies r).1) % 2 ^ 21) / 0x400000) = true
          → t = { s with pair := { s.pair with copies := (placeRecord s.pair.copies r).2 } }))
  ∧ (∀ (off : Nat) (a b c : Line) (s : State), s.flt.safe = false → s.pair.role = .resync → inSet s off = true
      → setPos s off = s.pair.resyncLines → s.pair.resyncLines % 2 ^ 24 ≤ 2 ^ 24 - 3
      → ∃ t, exec (.mirResync off a b c) s = .next t ∧ t.pair.resyncLines = s.pair.resyncLines + 3
        ∧ t.mem = (poolWrite (off + 128) fullMask c false (poolWrite (off + 64) fullMask b false (poolWrite off fullMask a false s))).mem)
  ∧ (∀ (off : Nat) (a b c : Line) (s : State), setPos s off ≠ s.pair.resyncLines → exec (.mirResync off a b c) s = .next s)
  ∧ (∀ (c : PairCfg) (s : State), s.pair.cfg = some c → s.flt.safe = false → setLines s ≤ s.pair.resyncLines → s.pair.role = .resync
      → c.forerunner = false → exec .resyncComplete s = .next { s with pair := { s.pair with role := .standIn } })
  ∧ (∀ (c : PairCfg) (s : State), s.pair.cfg = some c → s.flt.safe = false → setLines s ≤ s.pair.resyncLines → s.pair.role = .lead
      → s.pair.resyncing = true → s.pair.outbox = [] → standAddr s .pairSolo 0 = none
      → exec .resyncComplete s = .next { s with
          pair := { s.pair with resyncing := false }
          flt := { s.flt with net := s.flt.net ++ [mkMsg s .pairResyncDone 11 0 (pairAddr s)] } })

/-- O39. Power-up ends phase 1, reset and restart keep what the always-on domain, flash and one-time cells hold, dark and
wake do their steps (R346, R376, R412, R415, R416, R417, R422, R456, R475, R477, R480). Power-up with coolant begins
phase 2, without it the base waits in phase 1; a base past phase 0 is not powered up again. POR_N and PWRGD reset
everything but the flash, the one-time cells, the audit ring, the memory arrays and the always-on records; factory
test mode and an I3C address end, and the flash is left in its single-data-rate mode with its pins at high impedance.
Where no warm image is being saved the flash keeps every byte. Removal of VDD_IO loses the always-on records too. A
restart with no running job keeps the same and begins phase 2; with a job it is refused. DARK takes every site, stack,
link and feed down; WAKE begins phase 2 as a wake. Each is recorded in the audit ring, and a path without the right
changes nothing. -/
def Obligations.PowerUpResetRestartDarkAndWake : Prop :=
  (∀ (ms : Nat) (ok : Bool) (s : State), s.boot.phase = 0
      → exec (.powerUp ms ok) s = .next { s with
          pins := { s.pins with porN := true, pwrgd := true, coolantOk := ok, faultN := false, xspiDriven := true }
          mpd := { s.mpd with clearing := ok }
          boot := { s.boot with
            phaseMs := tset 0 s.boot.phaseMs 1 ms
            kind := 0
            phase := if ok then 2 else 1
            ready := false
            phaseStart := s.now } })
  ∧ (∀ (ms : Nat) (ok : Bool) (s : State), s.boot.phase ≠ 0 → exec (.powerUp ms ok) s = .next s)
  ∧ (∀ (pin : Nat) (s : State), pin < 2
      → ∃ t, exec (.resetAssert pin) s = .next t ∧ t.boot.phase = 0 ∧ t.boot.ready = false ∧ t.boot.rollback = s.boot.rollback
        ∧ t.boot.slots = s.boot.slots ∧ (s.foc.saving = false → t.boot.flash = s.boot.flash) ∧ t.boot.flashDdr = false ∧ t.pins.xspiDriven = false ∧ t.role.enrolled = s.role.enrolled ∧ t.role.audit = s.role.audit
        ∧ t.role.sessions = [] ∧ t.role.jobs = [] ∧ t.role.facActive = false ∧ t.mem.cells = s.mem.cells ∧ t.flt.first = s.flt.first
        ∧ t.flt.ring = s.flt.ring ∧ t.flt.counts = s.flt.counts ∧ t.flt.map = [] ∧ t.flt.safe = false ∧ t.thm.tripLocked = false
        ∧ t.tsi = [] ∧ t.pins.lsEn = false ∧ t.pins.faultN = false ∧ t.pins.i3cAddress = none ∧ t.tc.timecode = 0 ∧ t.now = s.now)
  ∧ (∀ s : State, s.thm.tripLocked = true
      → ∃ t, exec (.resetAssert 0) s = .next t ∧ t.pins.thermtripN = true ∧ t.thm.trips = [] ∧ t.thm.tripped = false)
  ∧ (∀ s : State, s.thm.tripLocked = false
      → ∃ t, exec (.resetAssert 1) s = .next t ∧ t.pins.thermtripN = s.pins.thermtripN ∧ t.thm.trips = s.thm.trips)
  ∧ (∀ s : State, ∃ t, exec .vddIoRemoved s = .next t ∧ t.flt = {} ∧ t.thm = {} ∧ t.boot.phase = 0 ∧ t.boot.rollback = s.boot.rollback
      ∧ t.role.enrolled = s.role.enrolled ∧ t.mem.cells = s.mem.cells)
  ∧ (∀ (p : Path) (u s : State), mayWrite s p .i = true → runningJobs s = []
      → u = audit (some p) 0x12 1 0 (audit (some p) 0x10 0x020004 1 s)
      → ∃ t, exec (.restart p) s = .next t ∧ t.boot.phase = 2 ∧ t.boot.kind = 1 ∧ t.boot.ready = false ∧ t.boot.slots = s.boot.slots
        ∧ t.boot.rollback = s.boot.rollback ∧ (s.foc.saving = false → t.boot.flash = s.boot.flash) ∧ t.role.enrolled = s.role.enrolled ∧ t.role.audit = u.role.audit
        ∧ t.role.sessions = [] ∧ t.role.jobs = [] ∧ t.flt.first = s.flt.first ∧ t.flt.map = [] ∧ t.tsi = [] ∧ t.tc.timecode = 0
        ∧ t.mem.cells = s.mem.cells ∧ t.pins.faultN = true ∧ t.now = s.now)
  ∧ (∀ (p : Path) (s : State), mayWrite s p .i = true → runningJobs s ≠ [] → exec (.restart p) s = .next s ∧ exec (.dark p) s = .next s)
  ∧ (∀ (p : Path) (s : State), mayWrite s p .i = true → runningJobs s = []
      → ∃ t, exec (.dark p) s = .next t ∧ t.boot.dark = true ∧ t.boot.ready = false ∧ t.pins.lsEn = false ∧ t.slu.swap = .none ∧ t.slu.feeds = []
        ∧ t.slu.lands = [] ∧ t.slu.rings = [] ∧ t.slu.air = [] ∧ t.tc.startWait = none ∧ t.flt.map = s.flt.map ∧ t.mem.cells = s.mem.cells)
  ∧ (∀ (p : Path) (s : State), s.boot.dark = true → s.flt.safe = false → holds s p .i = true
      → exec (.wake p) s = .next (beginBoot 2 2 (wakeState (audit (some p) 0x12 3 0 (audit (some p) 0x10 0x020004 4 s)))))
  ∧ (∀ s : State, (wakeState s).boot.dark = false ∧ (wakeState s).mem.cells = s.mem.cells ∧ (wakeState s).flt = s.flt
      ∧ (wakeState s).role.enrolled = s.role.enrolled ∧ (wakeState s).gaf.energy = s.gaf.energy)
  ∧ (∀ (p : Path) (s : State), mayWrite s p .i = false → exec (.restart p) s = .next s ∧ exec (.dark p) s = .next s)
  ∧ (∀ (p : Path) (s : State), s.boot.dark = false → exec (.wake p) s = .next s)

/-- O40. Phases 2 to 5 check the fuses, run a verified firmware slot, load the script and align the fields (R41, R42,
R343, R376, R412, R413, R421, R440, R480). Phase 2 with bad fuses raises FUSE_ERROR and enters safe state; with good
ones it clears the millpond, drives FAULT_N high and ends, into phase 5 at a wake, in warm-up where a station is below
5 °C; phase 3 then starts with the flash's reset low for 10 µs. Phase 3 has the flash in octal DDR mode, counts an
attempt and runs the preferred slot if it verifies; else the other one, which becomes preferred; with neither it
enters safe state with FIRMWARE_FALLBACK. Phase 4 samples INSTALL_EN and loads the chosen script or enters safe state
with SCRIPT_INVALID. Phase 5 starts the timecode at 0 or enters safe state with TIMECODE_ALIGN. A command of another
phase changes nothing. -/
def Obligations.BootChecksFusesFirmwareScriptAndTime : Prop :=
  (∀ s : State, inPhase s 2 = true → s.part.fusesOk = false
      → ∃ t, exec .bootPhase2 s = .next t ∧ t.flt.safe = true ∧ t.pins.faultN = false ∧ t.boot = s.boot
        ∧ t.flt.net = s.flt.net ++ [mkMsg s .fuseError 10 5 0])
  ∧ (∀ s : State, inPhase s 2 = true → s.part.fusesOk = true → s.flt.frozen = false
      → ∃ t, exec .bootPhase2 s = .next t ∧ t.boot.phase = (if s.boot.kind = 2 then 5 else 3) ∧ t.boot.phaseStart = s.now ∧ t.pins.faultN = true
        ∧ t.mem = (millClear s).mem ∧ t.mpd = (millClear s).mpd ∧ t.role = s.role
        ∧ (s.boot.kind ≠ 2 → t.pins.xspiResetN = false ∧ t.boot.flashDdr = false ∧ t.boot.xspiRise = some (s.now + 10000))
        ∧ t.thm.warmup = (stations s.part.variant).any (fun st => match stationTemp s st with
          | some x => decide (x < deg 5)
          | none => false))
  ∧ (∀ (a b : ImageCheck) (n : Nat) (u s : State), inPhase s 3 = true → s.boot.preferred = n → n < 2 → (slotOf s n).st = 3
      → (slotOf s n).attempts < 3 → u = tryImage n (xspiEnd s) → imageOk u (slotOf u n) (if n = 0 then a else b) = true
      → exec (.bootPhase3 a b) s = .next (endPhase 3 { u with
          ident := { u.ident with fwVersion := (slotOf u n).version }
          boot := { u.boot with slot := n, preferred := n } }))
  ∧ (∀ (a b : ImageCheck) (s : State), inPhase s 3 = true → s.boot.preferred = 0 → (slotOf s 0).st ≠ 3 → (slotOf s 1).st ≠ 3
      → ∃ t, exec (.bootPhase3 a b) s = .next t ∧ t.flt.safe = true ∧ t.boot = (xspiEnd s).boot
        ∧ t.flt.net = s.flt.net ++ [{ mkMsg s .firmwareFallback 10 5 0 with sev := 3 }])
  ∧ (∀ (a b : ImageCheck) (u s : State), inPhase s 3 = true → s.boot.preferred = 0 → (slotOf s 0).st ≠ 3 → (slotOf s 1).st = 3
      → u = tryImage 1 (xspiEnd s) → imageOk u (slotOf u 1) b = true → exec (.bootPhase3 a b) s = .next (runImage 1 u))
  ∧ (∀ s : State, (xspiEnd s).pins.xspiResetN = true ∧ (xspiEnd s).boot.flashDdr = true ∧ (xspiEnd s).boot.slots = s.boot.slots)
  ∧ (∀ (n : Nat) (s : State), n ≠ s.boot.preferred → (runImage n s).boot.preferred = n ∧ (runImage n s).boot.slot = n
      ∧ (runImage n s).boot.fallbackDue = true ∧ (runImage n s).boot.phase = 4)
  ∧ (∀ (ins : Bool) (c0 c1 : ScriptCopy) (u s : State), inPhase s 4 = true → u = { s with pins := { s.pins with installEn := ins } }
      → chooseScript u c0 c1 = none → exec (.bootPhase4 ins c0 c1) s = .next (raise .scriptInvalid 10 5 0 u))
  ∧ (∀ (ins fell : Bool) (k : Nat) (x : Script) (c0 c1 : ScriptCopy) (u s : State), inPhase s 4 = true
      → u = { s with pins := { s.pins with installEn := ins } } → chooseScript u c0 c1 = some (k, fell, x)
      → exec (.bootPhase4 ins c0 c1) s = .next (endPhase 4 { loadScript k fell x u with
          boot := { (loadScript k fell x u).boot with enrolOpen := ins && (s.role.enrolled.isEmpty || s.role.reenrolArmed) } }))
  ∧ (∀ (st sk : List Int) (s : State), inPhase s 5 = true → s.part.variant = .s12
      → ((st.getD 0 0 + st.getD 2 0) - (st.getD 1 0 + st.getD 3 0)).natAbs ≤ 4
      → sk.any (fun a => sk.any (fun b => decide (8 < (a - b).natAbs))) = false
      → ∃ t, exec (.bootPhase5 st sk) s = .next t ∧ t.tc.timecode = 0 ∧ t.tc.fieldsAligned = true ∧ t.boot.phase = 6
        ∧ t.tc.nextStitch = s.now + 1000000
        ∧ t.tc.phase = tset 0 (tset 0 (tset 0 [] 1 (-st.getD 0 0)) 2 (-st.getD 1 0)) 3 (-(st.getD 0 0 + st.getD 2 0))
        ∧ t = { s with tc := t.tc, boot := t.boot })
  ∧ (∀ (st sk : List Int) (s : State), inPhase s 5 = true → sk.any (fun a => sk.any (fun b => decide (8 < (a - b).natAbs))) = true
      → exec (.bootPhase5 st sk) s = .next (raise .timecodeAlign 10 0 0 s))
  ∧ (∀ s : State, inPhase s 2 = false → exec .bootPhase2 s = .next s)
  ∧ (∀ (a b : ImageCheck) (s : State), inPhase s 3 = false → exec (.bootPhase3 a b) s = .next s)

/-- O41. Phase 6 lights the feeds by the laser map, phase 7 focuses warm or cold, phase 8 trains and clears the stacks
(R134, R135, R245, R315, R318, R335, R336, R413). Phase 6 waits for a laser map; with no module absent and no feed
failed it drives LS_EN high and gives each feed of the variant its role, light and marker. Phase 7 takes the first
valid warm image in the script's order, never after a trip or a coolant stop, and focuses the module: cold with none,
warm where every record is valid and none was swept, else partly, and loads the image's taps. An element that does not
lock leaves service with FOCUS_LOST. Phase 8 clears the pool to zero with POISON clear and brings every stack into
service but those that fail, each with MEM_CHANNEL_FAIL; a stack of another capacity than 48 or 36 GiB fails. -/
def Obligations.BootLightsFocusesAndClearsMemory : Prop :=
  (∀ (lv : List (Nat × Nat × Nat)) (ls : List (Nat × Nat × Nat)) (s : State), inPhase s 6 = true → s.boot.script.bind (·.lasers) = some ls
      → ls.length = 16 → s.flt.map = []
      → ∃ t, exec (.bootPhase6 [] [] lv) s = .next t ∧ t.pins.lsEn = true ∧ t.boot.phase = 7
        ∧ t.foc.feeds = ((List.range 16).filter (fun k => (fieldsOf s.part.variant).contains (k / 4))).foldl (fun t k => tset {} t k ({
          role := k % 4
          lit := true
          marked := true
          weakest := ((lv.find? (fun x => x.1 == k)).map (·.2.1)).getD 0
          line := ((lv.find? (fun x => x.1 == k)).map (·.2.2)).getD 0 } : Feed)) []
        ∧ t = { s with foc := { s.foc with ready := t.foc.ready, feeds := t.foc.feeds }, pins := { s.pins with lsEn := true }, boot := t.boot })
  ∧ (∀ (a b : List Nat) (lv : List (Nat × Nat × Nat)) (s : State), s.boot.script.bind (·.lasers) = none
      → exec (.bootPhase6 a b lv) s = .next s)
  ∧ (∀ (f : List (Nat × Option Nat × TrimRec)) (s : State), inPhase s 7 = true → warmChoice s = none → f.all (fun p => p.2.1.isNone) = true
      → ∃ t, exec (.bootPhase7 f []) s = .next t ∧ t.foc.focused = true ∧ t.foc.start = 1 ∧ t.foc.source = 0 ∧ t.foc.fallbacks = 0
        ∧ t.boot.phase = 8 ∧ t.boot.warm = false ∧ t = { s with foc := t.foc, boot := t.boot })
  ∧ (∀ (w : WarmImage) (n : Nat) (s : State), inPhase s 7 = true → warmChoice s = some (n, w)
      → (∀ e, (elemKind s.part.variant e).isSome = true → (imageRec s w e).valid = true)
      → ∃ t, exec (.bootPhase7 [] []) s = .next t ∧ t.foc.focused = true ∧ t.foc.start = 2 ∧ t.foc.fallbacks = 0 ∧ t.foc.source = n
        ∧ t.foc.generation = w.generation.toNat ∧ t.boot.phase = 8 ∧ t.boot.warm = true ∧ t.tsi = (loadTaps (some w) s).tsi
        ∧ t = { s with foc := t.foc, boot := t.boot, tsi := t.tsi })
  ∧ (∀ (w : WarmImage) (n e : Nat) (s : State), inPhase s 7 = true → warmChoice s = some (n, w)
      → (elemKind s.part.variant e).isSome = true → (imageRec s w e).valid = false
      → ∃ t, exec (.bootPhase7 [] []) s = .next t ∧ t.foc.start = 3 ∧ 1 ≤ t.foc.fallbacks ∧ t.boot.phase = 8)
  ∧ (∀ (e : Nat) (s : State), inPhase s 7 = true → (elemKind s.part.variant e).isSome = true
      → ∃ u, u.flt = s.flt ∧ u.foc.lockLost = sat32 s.foc.lockLost 1 ∧ u.boot = s.boot
        ∧ ∃ t, exec (.bootPhase7 [] [(e, 1)]) s = .next t ∧ t.boot.phase = 8 ∧ t.flt = (elemOut e 1 0 .focusLost u).flt
          ∧ t.foc = (elemOut e 1 0 .focusLost u).foc)
  ∧ (∀ s : State, s.boot.kind = 3 → warmChoice s = none)
  ∧ (∀ (w : WarmImage) (n : Nat) (s : State), warmChoice s = some (n, w) → w.valid = true)
  ∧ (∀ s : State, inPhase s 8 = true → s.part.stackGib = 48 ∨ s.part.stackGib = 36
      → ∃ t, exec (.bootPhase8 []) s = .next t ∧ t.boot.phase = 9
        ∧ t.mem.cells = s.mem.cells.filter (fun c => decide (millBase ≤ c.1)) ∧ t.mem.flips = [] ∧ t.mem.symErrs = [] ∧ t.mem.cleared = true
        ∧ t.mem.stations = (((memStations s.part.variant).filter (fun m => !memFenced s m)).foldl (fun s m =>
          modMs m (fun x => { x with st := 1, rate := 0, lanesRepaired := 0, fallback := false, repairs := 0, poisonHome := false, allPoison := false }) s) s).mem.stations
        ∧ t = { s with mem := t.mem, boot := t.boot, ident := t.ident })
  ∧ (∀ (m : Nat) (s : State), inPhase s 8 = true → s.part.stackGib ≠ 48 → s.part.stackGib ≠ 36
      → (memStations s.part.variant).filter (fun m => !memFenced s m) = [m]
      → ∃ t, exec (.bootPhase8 []) s = .next t ∧ t.boot.phase = 9 ∧ t.flt.net = s.flt.net ++ [mkMsg s .memChannelFail 2 m 0])
  ∧ (∀ (m c : Nat) (s : State), inPhase s 8 = true → s.part.stackGib = 48 ∨ s.part.stackGib = 36 → (memStations s.part.variant).filter (fun m => !memFenced s m) = [m]
      → ∃ t, exec (.bootPhase8 [(m, c)]) s = .next t ∧ t.boot.phase = 9 ∧ t.flt.net = s.flt.net ++ [mkMsg s .memChannelFail 2 m (c % 32)])

/-- O42. Phase 9 fences sites that have not trained, phase 10 sets the time, and phase 11 is READY with its record (R43,
R45, R46, R242, R412, R413, R414, R429, R440). Phase 9 ends with every site still in training fenced with
TSI_TRAIN_FAIL, and with none in training changes nothing else. Phase 10 with no time source begins holdover; with one
it moves the timecode by half the median offset, and multiples already passed count as done. Phase 11 makes the module
ready: the digest is taken, the running slot's attempts are cleared, the rollback counter never falls and rises to the
running image's SVN, and the start is recorded in the audit ring. -/
def Obligations.BootTrainsSetsTimeAndIsReady : Prop :=
  (∀ s : State, inPhase s 9 = true → (∀ n, n < 12 → (siteOf s n).st ≠ 1 ∧ (siteOf s n).st ≠ 2)
      → exec .bootPhase9 s = .next (endPhase 9 s))
  ∧ (∀ (n : Nat) (s : State), inPhase s 9 = true → n < 12 → siteUp s n = true → (siteOf s n).st = 1 ∨ (siteOf s n).st = 2
      → (∀ k, k < 12 → k ≠ n → (siteOf s k).st ≠ 1 ∧ (siteOf s k).st ≠ 2)
      → exec .bootPhase9 s = .next (endPhase 9 (siteFence n 6 0 0 .tsiTrainFail s)))
  ∧ (∀ (p : Nat) (s : State), (endPhase p s).boot.phase = (if p = 2 ∧ s.boot.kind = 2 then 5 else p + 1)
      ∧ (endPhase p s).boot.phaseMs = tset 0 s.boot.phaseMs p ((s.now - s.boot.phaseStart) / 1000000)
      ∧ (endPhase p s).boot.phaseStart = s.now ∧ endPhase p s = { s with boot := (endPhase p s).boot })
  ∧ (∀ s : State, inPhase s 10 = true → (timeSelect s).pod.upstream = none
      → exec .bootPhase10 s = .next (endPhase 10 (timeLost (timeSelect s))))
  ∧ (∀ (l : Nat) (u s : State), inPhase s 10 = true → u = timeSelect s → u.pod.upstream = some l
      → ∃ t, exec .bootPhase10 s = .next t ∧ t.tc.timecode = u.tc.timecode + BitVec.ofInt 64 (u.pod.medianOffset / 2) ∧ t.tc.diff = 0
        ∧ t.tc.podSync = u.pod.locked ∧ t.boot.phase = 11 ∧ t.tc.idleDone = t.tc.timecode.toNat / 2048
        ∧ t.gaf.evalDone = t.tc.timecode.toNat / 100000 ∧ t.gaf.energyDone = t.tc.timecode.toNat / 1000000
        ∧ t.tel.done = t.tc.timecode.toNat / 1000000)
  ∧ (∀ s : State, inPhase s 11 = true
      → ∃ t, exec .bootPhase11 s = .next t ∧ t.boot.ready = true ∧ t.boot.phase = 12 ∧ t.role.digest = digestNow s
        ∧ s.boot.rollback ≤ t.boot.rollback ∧ (slotOf s s.boot.slot).svn ≤ t.boot.rollback ∧ t.boot.fallbackDue = false
        ∧ t.thm.again = false ∧ t.role.enrolled = s.role.enrolled)
  ∧ (∀ s : State, s.flt.safe = true → exec .bootPhase9 s = .next s ∧ exec .bootPhase10 s = .next s ∧ exec .bootPhase11 s = .next s)

/-- O43. A script check names the first item that fails, the flash window reads, programs and erases what is open, and the
archive takes the oldest entry (R404, R405, R411, R429, R430). CHECK begins a check of the copy not in use, and its
completion records passed, or the first item that fails. The window reads a page at any time it is not busy; a program
of a page or an erase of a sector begins only in the copy not in use or the warm-trim area, is refused elsewhere and
while busy, and ends by clearing bits or filling the sector with 0xFF. The archive writes the oldest audit entry that
it does not hold, and the third failed attempt in a row raises AUDIT_ARCHIVE_FAIL. Only the installer uses these
registers. -/
def Obligations.TheScriptIsCheckedAndTheFlashWindowWorks : Prop :=
  (∀ (p : Path) (s : State), mayWrite s p .i = true → s.boot.checkSt ≠ 1
      → exec (.scriptCheck p) s = .next (audit (some p) 0x10 0x02000C 1
          { s with boot := { s.boot with checkSt := 1, checkCopy := 1 - s.boot.copy, checkItem := 0, checkPath := some p } }))
  ∧ (∀ (c : ScriptCopy) (x : Script) (n : Nat) (s : State), s.flt.safe = false → s.boot.dark = false → s.boot.checkSt = 1 → s.boot.script = some x
      → n = scriptItem s (!(x.installerSigned || installerValid s c)) c
      → exec (.scriptCheckComplete c) s = .next (audit s.boot.checkPath 0x11 (BitVec.ofNat 32 (copySeq c)) (if n = 0 then 1 else 0)
          { s with boot := { s.boot with checkSt := if n = 0 then 2 else 3, checkItem := n, checkPath := none } }))
  ∧ (∀ (p : Path) (s : State), mayWrite s p .i = true → s.boot.flashBusy = true
      → exec (.flashReadPage p) s = .next (audit (some p) 0x10 0x020064 1 { s with boot := { s.boot with flashRefused := true } })
        ∧ exec (.flashProgram p) s = .next (audit (some p) 0x10 0x020064 2 { s with boot := { s.boot with flashRefused := true } })
        ∧ exec (.flashErase p) s = .next (audit (some p) 0x10 0x020064 3 { s with boot := { s.boot with flashRefused := true } }))
  ∧ (∀ (p : Path) (s : State), mayWrite s p .i = true → s.boot.flashBusy = false
      → ∃ t, exec (.flashReadPage p) s = .next (audit (some p) 0x10 0x020064 1 t) ∧ t.boot.flashRefused = false ∧ t.boot.flashError = false
        ∧ t = { s with boot := t.boot }
        ∧ t.boot.flashBuf = (List.range 64).foldl (fun u k => tset 0 u k (BitVec.ofNat 32 (((List.range 4).map (fun i =>
          (flashByte s (s.boot.flashAddr.toNat / 256 * 256 + 4 * k + i)).toNat * 256 ^ i)).sum))) [])
  ∧ (∀ (p : Path) (s : State), mayWrite s p .i = true → s.boot.flashBusy = false → flashOpen s (s.boot.flashAddr.toNat / 256 * 256) = true
      → exec (.flashProgram p) s = .next (audit (some p) 0x10 0x020064 2 { s with boot := { s.boot with
          flashBusy := true
          flashOp := 2
          flashAt := s.boot.flashAddr.toNat / 256 * 256
          flashData := s.boot.flashBuf
          flashRefused := false
          flashError := false } }))
  ∧ (∀ (p : Path) (s : State), mayWrite s p .i = true → s.boot.flashBusy = false → flashOpen s (s.boot.flashAddr.toNat / 4096 * 4096) = true
      → exec (.flashErase p) s = .next (audit (some p) 0x10 0x020064 3 { s with boot := { s.boot with
          flashBusy := true
          flashOp := 3
          flashAt := s.boot.flashAddr.toNat / 4096 * 4096
          flashData := s.boot.flashBuf
          flashRefused := false
          flashError := false } }))
  ∧ (∀ (a : Nat) (s : State), s.foc.saving = false → s.boot.copy < 2
      → (flashOpen s a = true ↔ (scriptBase (1 - s.boot.copy) ≤ a ∧ a < scriptBase (1 - s.boot.copy) + 0x400000) ∨ (warmA ≤ a ∧ a < warmA + 0x200000)))
  ∧ (∀ s : State, s.boot.flashBusy = true → s.boot.flashOp = 3
      → ∃ u, u = eraseFlash s.boot.flashAt 4096 s
        ∧ exec (.flashOpComplete true) s = .next { u with boot := { u.boot with flashBusy := false, flashError := false, flashData := [] } })
  ∧ (∀ s : State, s.boot.flashBusy = true → s.boot.flashOp = 2
      → ∃ u, u = (List.range 256).foldl (fun v i => programByte (s.boot.flashAt + i) (nthByte (tget 0 v.boot.flashData (i / 4)).toNat (i % 4)) v) s
        ∧ exec (.flashOpComplete true) s = .next { u with boot := { u.boot with flashBusy := false, flashError := false, flashData := [] } })
  ∧ (∀ s : State, s.boot.flashBusy = true → ∃ t, exec (.flashOpComplete false) s = .next t ∧ t.boot.flashBusy = false ∧ t.boot.flashError = true)
  ∧ (∀ (x : AuditEntry) (u s : State), s.flt.safe = false → 3 ≤ s.boot.phase → s.role.auditSeq ≠ s.role.archived → s.role.archiveWait ≤ s.now
      → oldestEntry s = some x
      → u = writeFlash (archiveBase + 32 * (s.role.archived.toNat % 262144)) (leBytes 32 (auditWord x).toNat)
        (if s.role.archived.toNat % 262144 % 128 = 0 then eraseFlash (archiveBase + 32 * (s.role.archived.toNat % 262144)) 4096 s else s)
      → exec (.auditArchive true) s = .next { u with role := { u.role with archived := u.role.archived + 1, archiveTries := 0, archiveWait := 0 } })
  ∧ (∀ s : State, s.flt.safe = false → 3 ≤ s.boot.phase → s.role.auditSeq ≠ s.role.archived → s.role.archiveWait ≤ s.now → s.role.archiveTries = 2
      → exec (.auditArchive false) s = .next { s with
          role := { s.role with archiveTries := 3, archiveWait := s.now + 1000000000 }
          flt := { s.flt with net := s.flt.net ++ [mkMsg s .auditArchiveFail 10 7 0] } })
  ∧ (∀ (p : Path) (s : State), mayWrite s p .i = false
      → exec (.scriptCheck p) s = .next s ∧ exec (.flashReadPage p) s = .next s ∧ exec (.flashProgram p) s = .next s ∧ exec (.flashErase p) s = .next s)

/-- O44. Sessions open with an anchored certificate, the first enrolment takes a cell, sessions end by request or silence,
and the maker's mode is entered (R417, R418, R419, R420, R421, R422). A key exchange with a chain to an anchor of its
role opens the lowest free session; a ninth, or one whose chain does not hold or names another module, gets an SPDM
error. While enrolment is open a self-signed installer certificate takes the next one-time cell and closes enrolment.
END_SESSION, or 60 s without a heartbeat, ends a session with what it staged and latched. A heartbeat keeps it. A
request outside the list is an error; measurements give the digests of the firmware, of the script and of continuity
(log entry 24). Re-enrolment is armed only while a cell is free. Factory test mode needs a maker session, INSTALL_EN
high and no running job. -/
def Obligations.SessionsEnrolmentAndFactoryMode : Prop :=
  (∀ (e via n : Nat) (c : Certificate) (s : State), 3 ≤ s.boot.phase → (List.range 8).find? (fun n => (sessionOf s n).isNone) = some n
      → c.chainOk = true → c.serial = s.part.serial → s.boot.enrolOpen = false → anchored s c = true
      → exec (.keyExchange e via c) s = .next { s with
          role := { s.role with sessions := tset none s.role.sessions n (some { role := c.role, eid := e, via := via, keyDigest := c.keyDigest, lastBeat := s.now }) }
          out := .spdm n "KEY_EXCHANGE_RSP" [] :: s.out })
  ∧ (∀ (e via n : Nat) (c : Certificate) (s : State), 3 ≤ s.boot.phase → (List.range 8).find? (fun n => (sessionOf s n).isNone) = some n
      → c.chainOk = true → c.serial = s.part.serial → s.boot.enrolOpen = true → c.selfSigned = true → c.role = .installer
      → s.role.enrolled.length < 4
      → ∃ t, exec (.keyExchange e via c) s = .next t ∧ t.role.enrolled = s.role.enrolled ++ [c.keyDigest] ∧ t.boot.enrolOpen = false
        ∧ t.role.reenrolArmed = false ∧ t.out = .spdm n "KEY_EXCHANGE_RSP" [] :: s.out
        ∧ sessionOf t n = some { role := .installer, eid := e, via := via, keyDigest := c.keyDigest, lastBeat := s.now })
  ∧ (∀ (e via : Nat) (c : Certificate) (s : State), 3 ≤ s.boot.phase
      → (List.range 8).find? (fun n => (sessionOf s n).isNone) = none ∨ c.chainOk = false ∨ c.serial ≠ s.part.serial
      → exec (.keyExchange e via c) s = .next { s with out := .spdm 8 "ERROR" [] :: s.out })
  ∧ (∀ (c : Certificate) (s : State), c.role = .none → anchored s c = false)
  ∧ (∀ (n : Nat) (s : State), (sessionOf s n).isSome = true
      → exec (.endSession n) s = .next { s with
          role := { s.role with sessions := tset none s.role.sessions n none }
          csp := { s.csp with
            staged := s.csp.staged.filter (fun x => x.path != .session n)
            latches := s.csp.latches.filter (fun x => x.1 != .session n) }
          out := .spdm n "END_SESSION_ACK" [] :: s.out })
  ∧ (∀ (n : Nat) (x : Session) (s : State), sessionOf s n = some x → x.lastBeat + 60000000000 ≤ s.now
      → exec (.sessionHeartbeatMiss n) s = .next { s with
          role := { s.role with sessions := tset none s.role.sessions n none }
          csp := { s.csp with
            staged := s.csp.staged.filter (fun x => x.path != .session n)
            latches := s.csp.latches.filter (fun x => x.1 != .session n) } })
  ∧ (∀ (n : Nat) (x : Session) (s : State), sessionOf s n = some x → s.now < x.lastBeat + 60000000000 → exec (.sessionHeartbeatMiss n) s = .next s)
  ∧ (∀ (n : Nat) (x : Session) (s : State), 3 ≤ s.boot.phase → sessionOf s n = some x
      → exec (.spdmRequest (some n) .heartbeat) s = .next { s with
          role := { s.role with sessions := tset none s.role.sessions n (some { x with lastBeat := s.now }) }
          out := .spdm n "HEARTBEAT_ACK" [] :: s.out })
  ∧ (∀ (s : State), 3 ≤ s.boot.phase
      → exec (.spdmRequest none .other) s = .next { s with out := .spdm 8 "ERROR" [] :: s.out }
        ∧ exec (.spdmRequest none .finish) s = .next { s with out := .spdm 8 "ERROR" [] :: s.out }
        ∧ exec (.spdmRequest none .getVersion) s = .next { s with out := .spdm 8 "VERSION" [] :: s.out })
  ∧ (∀ (x : Script) (s : State), 3 ≤ s.boot.phase → s.boot.script = some x
      → exec (.spdmRequest none .getMeasurements) s = .next { s with
          out := .spdm 8 "MEASUREMENTS" [(Config.firmwareDigest s.ident.fwVersion).toNat,
            (Config.scriptDigest x.sequence x.serial).toNat, s.role.digest.toNat] :: s.out })
  ∧ (∀ (p : Path) (s : State), s.role.enrolled.length < 4 → mayWrite s p .i = true
      → exec (.roleReenrolArm p) s = .next (audit (some p) 0x10 0x010004 1 { s with role := { s.role with reenrolArmed := true } }))
  ∧ (∀ (p : Path) (s : State), 4 ≤ s.role.enrolled.length ∨ mayWrite s p .i = false → exec (.roleReenrolArm p) s = .next s)
  ∧ (∀ (p : Path) (s : State), csOpen s = true → pathRole s p = .maker → (s.role.jobs.any (fun x => x.2.st == .running)) = false
      → s.role.facActive = false
      → ∃ t, exec (.facModeEnter p true) s = .next t ∧ t.role.facActive = true ∧ t.pins.installEn = true
        ∧ t.flt.net = s.flt.net ++ [mkMsg s .factoryMode 10 5 0])
  ∧ (∀ (p : Path) (b : Bool) (s : State), pathRole s p ≠ .maker ∨ b = false
      → exec (.facModeEnter p b) s = .next { s with pins := { s.pins with installEn := b } })

/-- O45. Jobs start when every check passes, end in order, free when their regions are free, and partners are judged by
two messages in a row (R425, R426, R427, R428, R429, R433, R434, R435). START of a defined job either names the first
check that fails, and nothing else, or makes it running with the lowest free energy tag, records it and divides the
power. END of a running job makes it ending and is recorded; it is defined again once no region is its own; CLEAR
zeroes a defined record. A sweep sends continuity messages once a second when it is due. The second message in a row
that does not match makes a partner mismatched, with its message, one that matches does not, and 3 s of silence make
it unknown. -/
def Obligations.JobsAndContinuity : Prop :=
  (∀ (p : Path) (j tag : Nat) (s : State), mayWrite s p .o = true → j < 256 → (jobOf s j).st = .defined → startReason s j = 0
      → freeEnergyTag s = some tag
      → ∃ u, u = modJob j (fun x => { x with st := .running, tag := tag, reason := 0 }) s ∧ jobRunning u j = true
        ∧ exec (.jobStart p j) s = .next (divide (audit (some p) 1 (BitVec.ofNat 32 j) (tagEnergy s tag) u)))
  ∧ (∀ (p : Path) (j n : Nat) (s : State), mayWrite s p .o = true → j < 256 → (jobOf s j).st = .defined → startReason s j = n → n ≠ 0
      → exec (.jobStart p j) s = .next (modJob j (fun x => { x with reason := n }) s))
  ∧ (∀ (j : Nat) (s : State), s.boot.ready = false → startReason s j ≠ 0)
  ∧ (∀ (p : Path) (j : Nat) (s : State), mayWrite s p .o = true → j < 256 → (jobOf s j).st = .running
      → ∃ t, exec (.jobEnd p j) s = .next t ∧ (jobOf t j).st = .ending ∧ (jobOf t j).tag = (jobOf s j).tag
        ∧ t.role.auditSeq = s.role.auditSeq + 1)
  ∧ (∀ (j : Nat) (s : State), s.flt.safe = false → (jobOf s j).st = .ending
      → (List.range 256).any (fun i => (regionOf s i).st != 0 && (regionOf s i).job == j) = false
      → exec (.jobEndComplete j) s = .next (modJob j (fun x => { x with st := .defined, tag := 0 }) s))
  ∧ (∀ (j : Nat) (s : State), (List.range 256).any (fun i => (regionOf s i).st != 0 && (regionOf s i).job == j) = true
      → exec (.jobEndComplete j) s = .next s)
  ∧ (∀ (p : Path) (j : Nat) (s : State), mayWrite s p .o = true → j < 256 → (jobOf s j).st = .defined
      → exec (.jobClear p j) s = .next { s with role := { s.role with jobs := tset {} s.role.jobs j {} } })
  ∧ (∀ (p : Path) (j : Nat) (s : State), mayWrite s p .o = true → (jobOf s j).st = .running → exec (.jobClear p j) s = .next s)
  ∧ (∀ (p : Path) (j : Nat) (s : State), mayWrite s p .o = false
      → exec (.jobStart p j) s = .next s ∧ exec (.jobEnd p j) s = .next s ∧ exec (.jobClear p j) s = .next s)
  ∧ (∀ s : State, s.boot.ready = true → s.flt.safe = false → s.boot.dark = false → s.role.contDone < sweepsDue s
      → exec .continuitySweep s = .next (contSend { s with role := { s.role with contDone := sweepsDue s } }))
  ∧ (∀ s : State, sweepsDue s ≤ s.role.contDone → exec .continuitySweep s = .next s)
  ∧ (∀ (n : Word16) (d : Word64) (i : Nat) (c : ContPartner) (s : State), s.boot.ready = true → s.flt.safe = false → s.boot.dark = false
      → s.role.partners.find? (fun p => (p.2.map (fun c => c.node == n)).getD false) = some (i, some c)
      → d = s.role.expect → c.st = 1
      → exec (.continuity n d true) s = .next (modPartner i (fun y => { y with bad := 0, good := min 2 (c.good + 1), st := 1, last := s.now }) s))
  ∧ (∀ (n : Word16) (d : Word64) (i : Nat) (c : ContPartner) (s : State), s.boot.ready = true → s.flt.safe = false → s.boot.dark = false
      → s.role.partners.find? (fun p => (p.2.map (fun c => c.node == n)).getD false) = some (i, some c)
      → c.st = 1 → c.bad = 1
      → exec (.continuity n d false) s = .next (contMismatch (modPartner i (fun y => { y with bad := 2, good := 0, st := 2, last := s.now }) s)))
  ∧ (∀ (i : Nat) (c : ContPartner) (s : State), partnerAt s i = some c → c.st ≠ 0 → s.flt.safe = false → c.last + 3000000000 ≤ s.now
      → exec (.continuityPartnerSilence i) s = .next (modPartner i (fun c => { c with st := 0, bad := 0, good := 0 }) s))

/-- O46. An update begins in the slot that is not preferred, takes each piece once with its tag, and a verified image
becomes the preferred one (R436, R437, R438, R439, R440, R441). UPD_BEGIN with nothing in the way erases the slot that
is not preferred and opens its record; a repeat is answered with status 1. A piece whose tag holds, of the image
received, is programmed once and answered 0; a repeat 2, a bad tag 3 with UPDATE_REJECTED, a piece beyond the image 5,
another image 6. A query is answered with what is held. ABORT by an installer empties a slot that receives. ACTIVATE
of a slot with every piece begins the check; a verified image is preferred with its attempts cleared and recorded,
another is failed with UPDATE_REJECTED, and the rollback counter does not move. -/
def Obligations.FirmwareIsReceivedCheckedAndActivated : Prop :=
  (∀ (n sv pc : Nat) (im ve : Word32) (key : List Byte) (s : State), updateOpen s n = true → s.boot.activating = none → (updSlot s).st ≠ 1
      → 1 ≤ pc → pc ≤ 4080 → sv ≤ 63
      → exec (.updBegin n im ve sv pc key true) s = .next (beginAnswer n im 0 (beginSlot im ve sv pc key s)))
  ∧ (∀ (sv pc : Nat) (im ve : Word32) (key : List Byte) (s : State),
      ∃ t, beginSlot im ve sv pc key s = t ∧ t.boot.updSlot = 1 - s.boot.preferred ∧ t.boot.updSt = 1 ∧ t.boot.headers = s.boot.headers + 1
        ∧ slotOf t (1 - s.boot.preferred) = { image := im, version := ve, svn := sv, pieces := pc, st := 1, key := key }
        ∧ t.boot.flash = tclear s.boot.flash (imageBase (1 - s.boot.preferred)) (imageBase (1 - s.boot.preferred) + 0x1000000)
        ∧ t.boot.preferred = s.boot.preferred ∧ t.boot.rollback = s.boot.rollback)
  ∧ (∀ (n sv pc : Nat) (im ve : Word32) (key : List Byte) (ok : Bool) (s : State), updateOpen s n = true → s.boot.activating = none
      → (updSlot s).st = 1 → (updSlot s).image = im → exec (.updBegin n im ve sv pc key ok) s = .next (beginAnswer n im 1 s))
  ∧ (∀ (n i : Nat) (im : Word32) (d tg : List Byte) (s : State), updateOpen s n = true → s.boot.activating = none
      → (updSlot s).st = 1 ∨ (updSlot s).st = 2 → (updSlot s).image = im → i < (updSlot s).pieces
      → ((updSlot s).got.contains i = false → exec (.updPiece n im i d tg true true) s = .next (pieceAnswer n im i 0 (takePiece i d tg s)))
        ∧ ((updSlot s).got.contains i = true → exec (.updPiece n im i d tg true true) s = .next (pieceAnswer n im i 2 s))
        ∧ exec (.updPiece n im i d tg false true) s = .next (pieceAnswer n im i 3 (raiseRated .updateRejected 0 1000000000 10 6 0 s)))
  ∧ (∀ (n i : Nat) (im : Word32) (d tg : List Byte) (a b : Bool) (s : State), updateOpen s n = true → s.boot.activating = none
      → (updSlot s).image ≠ im → exec (.updPiece n im i d tg a b) s = .next (pieceAnswer n im i 6 s))
  ∧ (∀ (n i : Nat) (im : Word32) (d tg : List Byte) (a b : Bool) (s : State), updateOpen s n = true → s.boot.activating = none
      → (updSlot s).st = 1 → (updSlot s).image = im → (updSlot s).pieces ≤ i
      → exec (.updPiece n im i d tg a b) s = .next (pieceAnswer n im i 5 s))
  ∧ (∀ (n : Nat) (s : State), updateOpen s n = true
      → exec (.updQuery n) s = .next { s with out := .update n "UPD_STATE" [(updSlot s).image.toNat, (updSlot s).st, (updSlot s).got.length, firstMissing (updSlot s)] :: s.out })
  ∧ (∀ (n : Nat) (s : State), updateOpen s n = true → holds s (.session n) .i = true → (updSlot s).st = 1
      → exec (.updAbort n (updSlot s).image) s = .next { s with boot := { s.boot with
          slots := tset {} s.boot.slots s.boot.updSlot {}
          updSt := 0
          headers := s.boot.headers + 1 } })
  ∧ (∀ (p : Path) (s : State), mayWrite s p .i = true → (updSlot s).st = 1
      → exec (.updCtrlAbort p) s = .next (audit (some p) 0x10 0x120004 2 { s with boot := { s.boot with
          slots := tset {} s.boot.slots s.boot.updSlot {}
          updSt := 0
          headers := s.boot.headers + 1 } }))
  ∧ (∀ (p : Path) (s : State), mayWrite s p .i = true → s.boot.activating = none → (updSlot s).st = 2
      → (updSlot s).got.length = (updSlot s).pieces
      → exec (.updActivate p) s = .next (audit (some p) 0x10 0x120004 1
          { s with boot := { s.boot with activating := some s.boot.updSlot, updSt := 3, actPath := some p } }))
  ∧ (∀ (k : Nat) (c : ImageCheck) (s : State), s.flt.safe = false → s.boot.activating = some k → imageOk s (slotOf s k) c = true
      → ∃ t, exec (.activationComplete c) s = .next t ∧ t.boot.preferred = k ∧ t.boot.updSt = 4 ∧ t.boot.activating = none
        ∧ (slotOf t k).st = 3 ∧ (slotOf t k).attempts = 0 ∧ (slotOf t k).image = (slotOf s k).image ∧ t.boot.rollback = s.boot.rollback
        ∧ t.role.auditSeq = s.role.auditSeq + 1)
  ∧ (∀ (k : Nat) (c : ImageCheck) (s : State), s.flt.safe = false → s.boot.activating = some k → imageOk s (slotOf s k) c = false
      → ∃ t, exec (.activationComplete c) s = .next t ∧ t.boot.preferred = s.boot.preferred ∧ t.boot.updSt = 5 ∧ (slotOf t k).st = 4
        ∧ t.boot.rollback = s.boot.rollback ∧ t.flt.net = s.flt.net ++ [mkMsg s .updateRejected 10 6 0] ∧ t.boot.activating = none)
  ∧ (∀ (p : Path) (s : State), mayWrite s p .i = false → exec (.updActivate p) s = .next s ∧ exec (.updCtrlAbort p) s = .next s)

/-- O47. A session's messages, a site's MGT slots and its SPDM fragments reach control space and are answered (R443, R444,
R445, R446, R447). A control read of 1 to 256 words from an open session reads them in increasing order and is
answered on it, and a control write writes them so; a count outside that range, or no session, gets nothing. An MGT
read or write of a site, at its delivery point, is taken from the receive buffer, done by its path, and answered with
CS_RSP on the module that it came in on. A sideband request is done by the site's path and answered with REG_RSP; one
that a site repeats with the tag of its latest answer is answered from it. An SPDM fragment joins the lines of its
message, which leaves the buffer whole, and one that does not fit its length is not taken. -/
def Obligations.MessagesReachControlSpace : Prop :=
  (∀ (n a k : Nat) (s : State), (sessionOf s n).isSome = true → s.flt.safe = true ∨ 5 ≤ s.boot.phase → 1 ≤ k → k ≤ 256
      → ∃ u, u = regReads (.session n) k a s
        ∧ exec (.csRead n a k) s = .next { u.2 with out := .control (.session n) false u.1 :: u.2.out } ∧ u.1.length = k)
  ∧ (∀ (p : Path) (k a : Nat) (s : State), (regReads p (k + 1) a s).1
      = (regRead p a s).1 :: (regReads p k (a + 4) (regRead p a s).2).1)
  ∧ (∀ (n a k : Nat) (s : State), k = 0 ∨ 256 < k ∨ sessionOf s n = none → exec (.csRead n a k) s = .next s)
  ∧ (∀ (n a : Nat) (d : Word32) (t s : State), (sessionOf s n).isSome = true → s.flt.safe = true ∨ 5 ≤ s.boot.phase
      → t = regWrite (.session n) a d s → (sessionOf t n).isSome = true
      → exec (.csWrite n a [d]) s = .next { t with out := .control (.session n) true [] :: t.out })
  ∧ (∀ (n a : Nat) (ds : List Word32) (t s : State), (sessionOf s n).isSome = true → s.flt.safe = true ∨ 5 ≤ s.boot.phase
      → 1 ≤ ds.length → ds.length ≤ 256 → t = regWrites (.session n) ds a s → (sessionOf t n).isSome = true
      → exec (.csWrite n a ds) s = .next { t with out := .control (.session n) true [] :: t.out })
  ∧ (∀ (n a : Nat) (ds : List Word32) (s : State), 256 < ds.length → exec (.csWrite n a ds) s = .next s)
  ∧ (∀ (n a k src : Nat) (tag : BitVec 12) (m : MrMsg) (u s : State), s.flt.safe = false → mgtWaiting n (isMgtRead n a tag) s = some (src, m, k)
      → u = takeRx (ssOf n) cMGT src m s → siteLinkUp u n = true → 5 ≤ u.boot.phase
      → exec (.mgtCsRead n a tag) s = .next (releaseMgt n (siteDeliver n (some k) (csRspSlot tag (regRead (.mgt n) a u).1) (regRead (.mgt n) a u).2)))
  ∧ (∀ (n a k src : Nat) (tag : BitVec 12) (d : Word32) (m : MrMsg) (u s : State), s.flt.safe = false
      → mgtWaiting n (isMgtWrite n a tag d) s = some (src, m, k)
      → u = takeRx (ssOf n) cMGT src m s → siteLinkUp u n = true → 5 ≤ u.boot.phase
      → exec (.mgtCsWrite n a tag d) s = .next (releaseMgt n (siteDeliver n (some k) (csRspSlot tag 0) (regWrite (.mgt n) a d u))))
  ∧ (∀ (n a : Nat) (tag : BitVec 12) (s : State), mgtWaiting n (isMgtRead n a tag) s = none → exec (.mgtCsRead n a tag) s = .next s)
  ∧ (∀ (n a : Nat) (tag : Byte) (w : Bool) (v : Word32) (s : State), sbLive s n = true → savedRsp s n tag = some (w, v)
      → exec (.regRead n a tag) s = .next (sideband n .regRsp [tag.toNat, b2n w, v.toNat] s)
        ∧ ∀ d, exec (.regWrite n a tag d) s = .next (sideband n .regRsp [tag.toNat, b2n w, v.toNat] s))
  ∧ (∀ (n a : Nat) (tag : Byte) (d : Word32) (s : State), sbLive s n = true → csAnswers s = true → savedRsp s n tag = none
      → exec (.regRead n a tag) s = .next (regRsp n tag false (regRead (.sideband n) a s).1 (regRead (.sideband n) a s).2)
        ∧ exec (.regWrite n a tag d) s = .next (regRsp n tag true 0 (regWrite (.sideband n) a d s)))
  ∧ (∀ (n m : Nat) (x : Line) (s : State), siteLinkUp s n = true → 3 ≤ s.boot.phase
      → exec (.spdmFrag n m 0 64 [x]) s = .next { s with csp := { s.csp with frags := s.csp.frags.filter (fun f => !(f.site == n && f.msg == m)) } })
  ∧ (∀ (n m : Nat) (x : Line) (s : State), siteLinkUp s n = true → 3 ≤ s.boot.phase → s.csp.frags = []
      → exec (.spdmFrag n m 1 128 [x]) s = .next { s with csp := { s.csp with frags := [{ site := n, msg := m, length := 128, got := [(1, some x)] }] } })
  ∧ (∀ (n m l k : Nat) (ds : List Line) (s : State), k = 0 ∨ 8192 < k ∨ ds = [] ∨ 3 < ds.length → exec (.spdmFrag n m l k ds) s = .next s)

/-- O48. Reads show a register's held bits, clear what they clear, latch the high half, and writes act by role (R378,
R415, R443, R448, R449, R450, R451, R463). A read of an RC field gives its value and clears it. A read of a _LO half
gives it and latches the matching _HI on the path, which the next _HI read shows. A path that holds no bit of a
register, or an address that is reserved or not readable now, reads 0 and changes nothing. A write of a selector keeps
its field bits, and one of a reserved value changes nothing, one of a staged register stages it, one of role I is
audited and acts; one that is not aligned, not permitted or not open in safe state changes nothing. -/
def Obligations.RegistersAreReadLatchedClearedAndWritten : Prop :=
  (∀ (p : Path) (a : Nat) (r : Reg) (s : State), readable s a = true → regAt s a = some r → r.acc = .rc → r.lo = false → heldBits s p a r ≠ 0
      → exec (.rcRead p a) s = .next { rcClear a s with
          out := .control p false [((latched s p a).getD (BitVec.ofNat 32 r.val)) &&& heldBits s p a r] :: (rcClear a s).out })
  ∧ (∀ (p : Path) (s : State), s.flt.safe = false → 5 ≤ s.boot.phase → s.boot.dark = false → holds s p .o = true → s.csp.latches = []
      → exec (.rcRead p 0x060020) s = .next { s with
          mem := { s.mem with violations := 0 }
          out := .control p false [BitVec.ofNat 32 s.mem.violations.toNat] :: s.out })
  ∧ (∀ (p : Path) (s : State), s.flt.safe = false → 5 ≤ s.boot.phase → s.boot.dark = false → holds s p .o = true → s.csp.latches = []
      → exec (.loReadLatch p 0x000008) s = .next { s with
          csp := { s.csp with latches := [(p, 0x00000C, BitVec.ofNat 32 (s.part.serial.toNat / 2 ^ 32 % 2 ^ 32))] }
          out := .control p false [BitVec.ofNat 32 (s.part.serial.toNat % 2 ^ 32)] :: s.out })
  ∧ (∀ (p : Path) (a : Nat) (r h : Reg) (s : State), readable s a = true → regAt s a = some r → r.acc ≠ .wo → r.acc ≠ .rc → r.lo = true
      → heldBits s p a r ≠ 0 → regAt s (a + 4) = some h
      → ∃ t, exec (.loReadLatch p a) s = .next t ∧ latched t p (a + 4) = some (BitVec.ofNat 32 h.val)
        ∧ t = { s with csp := { s.csp with latches := t.csp.latches }, out := t.out })
  ∧ (∀ (p : Path) (a : Nat) (s : State), readable s a = false ∨ regAt s a = none → regRead p a s = (0, s))
  ∧ (∀ (p : Path) (a : Nat) (r : Reg) (s : State), regAt s a = some r → heldBits s p a r = 0 → regRead p a s = (0, s))
  ∧ (∀ (p : Path) (d : Word32) (s : State), 12 ≤ fld d 0 4 → exec (.registerWrite p 0x06000C d) s = .next s)
  ∧ (∀ (p : Path) (d : Word32) (s : State), mayWrite s p .o = true → fld d 0 4 < 12
      → exec (.registerWrite p 0x06000C d) s = .next { s with csp := { s.csp with sel := tset 0 s.csp.sel 0x06000C (d &&& 0xF) } })
  ∧ (∀ (p : Path) (d : Word32) (s : State), mayWrite s p .i = true → s.csp.staged = []
      → exec (.registerWrite p 0x030034 d) s = .next { s with csp := { s.csp with
          staged := [{ path := p, slate := .tcClapper, vals := [(0x030034, d &&& 0x1FFF)] }] } })
  ∧ (∀ (p : Path) (d : Word32) (s : State), mayWrite s p .i = true
      → exec (.registerWrite p 0x070004 d) s = .next (audit (some p) 0x10 0x070004 (BitVec.ofNat 64 d.toNat)
          { s with blk := { s.blk with dispatch := d &&& 0xFF03 } }))
  ∧ (∀ (p : Path) (d : Word32) (s : State), mayWrite s p .i = true
      → exec (.registerWrite p 0x020060 d) s = .next (audit (some p) 0x10 0x020060 (BitVec.ofNat 64 d.toNat)
          { s with boot := { s.boot with flashAddr := d &&& 0x3FFFFFF } }))
  ∧ (∀ (p : Path) (a : Nat) (d : Word32) (s : State), a % 4 ≠ 0 ∨ writable s a = false → exec (.registerWrite p a d) s = .next s)
  ∧ (∀ (p : Path) (a : Nat) (d : Word32) (s : State), s.flt.safe = true → a ≠ 0x100004 → a ≠ 0x100028 → exec (.registerWrite p a d) s = .next s)
  ∧ (∀ (p : Path) (d : Word32) (s : State), mayWrite s p .o = false → mayWrite s p .i = false
      → exec (.registerWrite p 0x06000C d) s = .next s ∧ exec (.registerWrite p 0x030034 d) s = .next s
        ∧ exec (.registerWrite p 0x070004 d) s = .next s)

/-- O49. A commit moves what a path staged, it takes effect whole at its boundary or is ignored, and a daily is written
each millisecond (R452, R453, R454, R460, R461). A write of a commit register commits the path's staged set for the
entry selected now, with the tick; with nothing staged it commits nothing. A set committed at least a microsecond
before the latest frame boundary takes effect, and one with a field out of its range is ignored whole; a later one
waits. At each millisecond the next daily is written to its place in bank 7 and numbered; with the bank fenced it
counts as missed; between milliseconds nothing changes. -/
def Obligations.SlatesCommitAndApplyAndDailiesAreWritten : Prop :=
  (∀ (p : Path) (x : Staged) (s : State), mayWrite s p .o = true → s.csp.staged = [x] → x.path = p → x.slate = .roleJob
      → exec (.slateCommit p 0x0100FC 1) s = .next { s with csp := { s.csp with
          staged := []
          committed := s.csp.committed ++ [{ path := p, slate := .roleJob, sel := selOf s 0x010040 8, vals := x.vals, tick := s.now, role := roleCode (pathRole s p), key := pathKey s p }] } })
  ∧ (∀ (p : Path) (x : Staged) (s : State), mayWrite s p .i = true → s.csp.staged = [x] → x.path = p → x.slate = .tcClapper
      → exec (.slateCommit p 0x0300FC 1) s = .next (audit (some p) 0x10 0x0300FC 1 { s with csp := { s.csp with
          staged := []
          committed := s.csp.committed ++ [{ path := p, slate := .tcClapper, sel := 0, vals := x.vals, tick := s.now, role := roleCode (pathRole s p), key := pathKey s p }] } }))
  ∧ (∀ (p : Path) (s : State), mayWrite s p .o = true → s.csp.staged = [] → exec (.slateCommit p 0x0100FC 1) s = .next s)
  ∧ (∀ (p : Path) (d : Word32) (s : State), mayWrite s p .o = false → exec (.slateCommit p 0x0100FC d) s = .next s)
  ∧ (∀ (c : CommitSet) (v : Word32) (u s : State), s.flt.safe = false → s.boot.dark = false → s.csp.committed = [c]
      → c.tick + 1000 ≤ s.tc.lastBoundary → c.slate = .tcClapper → c.vals = [(0x030034, v)] → v ≠ 0x1000
      → u = pushAudit { role := c.role, session := auditSession c.path, action := 0x10, object := 0x030034, detail := v.setWidth 64, key := c.key }
          { s with csp := { s.csp with committed := [] } }
      → exec .slateApply s = .next { u with tc := { u.tc with clapOffset := sgn 13 v.toNat } })
  ∧ (∀ (c : CommitSet) (s : State), s.flt.safe = false → s.boot.dark = false → s.csp.committed = [c] → c.tick + 1000 ≤ s.tc.lastBoundary
      → setLegal s c = false → exec .slateApply s = .next { s with csp := { s.csp with committed := [] } })
  ∧ (∀ (c : CommitSet) (s : State), s.csp.committed = [c] → s.tc.lastBoundary < c.tick + 1000 → exec .slateApply s = .next s)
  ∧ (∀ (c : CommitSet) (s : State), s.flt.safe = false → s.boot.dark = false → s.csp.committed = [c] → c.tick + 1000 ≤ s.tc.lastBoundary
      → c.slate = .gafJobCap → c.vals = [(0x0F0034, 200)]
      → exec .slateApply s = .next (divide { s with
          csp := { s.csp with committed := [] }
          gaf := { s.gaf with jobCap := tset 0xFFF s.gaf.jobCap c.sel 200 } }))
  ∧ (∀ s : State, telRuns s = true → s.tc.timecode.toNat / 1000000 = s.tel.done + 1 → bankFenced s 7 = false
      → ∃ u w, u = { s with tel := { s.tel with done := s.tc.timecode.toNat / 1000000 } }
        ∧ w = dailyWrite u (s.tel.seq + 1) (dailyBase s.tel.head) 253 (ownerTurn 4 0 7 u)
        ∧ exec .daily s = .next { w with tel := { u.tel with seq := s.tel.seq + 1, head := (s.tel.head + 1) % 64 } })
  ∧ (∀ s : State, telRuns s = true → s.tel.done < s.tc.timecode.toNat / 1000000 → bankFenced s 7 = true
      → ∃ t, exec .daily s = .next t ∧ t.tel.seq = s.tel.seq ∧ t.tel.done = s.tc.timecode.toNat / 1000000 ∧ t.mem = s.mem)
  ∧ (∀ s : State, s.tc.timecode.toNat / 1000000 ≤ s.tel.done → exec .daily s = .next s)

/-- O50. The management port takes its dynamic address once, and the test port holds the instruction that it acts on
(R481, R483). From the end of boot phase 2 the port takes the address that ENTDAA gives it; a second one changes
nothing until POR_N, and before phase 3 none is taken. The test port holds BYPASS, IDCODE and SAMPLE/PRELOAD as given;
any other instruction is BYPASS outside factory test mode and itself within it. BYPASS shows one 0, and IDCODE the
identification code, whose lowest bit is 1 and whose part number is 0x5A12 with version 0xB. -/
def Obligations.TheManagementAddressAndTheTestPort : Prop :=
  (∀ (a : Nat) (s : State), 3 ≤ s.boot.phase → s.pins.porN = true → s.pins.i3cAddress = none
      → exec (.entdaa a) s = .next { s with pins := { s.pins with i3cAddress := some a } })
  ∧ (∀ (a : Nat) (s : State), s.pins.i3cAddress.isSome = true ∨ s.boot.phase < 3 → exec (.entdaa a) s = .next s)
  ∧ (∀ s : State, exec (.tapInstruction .bypass) s = .next { s with pins := { s.pins with tap := .bypass }, out := .tdo .bypass 0 :: s.out })
  ∧ (∀ s : State, exec (.tapInstruction .idcode) s = .next { s with pins := { s.pins with tap := .idcode }, out := .tdo .idcode idCode :: s.out })
  ∧ (∀ s : State, exec (.tapInstruction .samplePreload) s = .next { s with pins := { s.pins with tap := .samplePreload } })
  ∧ (∀ (c : Nat) (s : State), s.role.facActive = false
      → exec (.tapInstruction (.other c)) s = .next { s with pins := { s.pins with tap := .bypass }, out := .tdo .bypass 0 :: s.out })
  ∧ (∀ (c : Nat) (s : State), s.role.facActive = true
      → exec (.tapInstruction (.other c)) s = .next { s with pins := { s.pins with tap := .other c } })
  ∧ (idCode.getLsbD 0 = true ∧ idCode.toNat / 2 ^ 28 = 0xB ∧ idCode.toNat / 2 ^ 12 % 2 ^ 16 = 0x5A12)

/-- O51. A step is the command at the front of the queue on the state with the queue's rest, and with no command the block
idles (95_what_each_step_holds). For every command, queue and state, a step with that command at the front is exec of
it on the state whose queue is the rest. With an empty queue a step changes nothing: the model's choice (log entry 2),
since the manual gives no command to a block that none is sent to. -/
def Obligations.StepTakesTheFront : Prop :=
  (∀ (c : Instr) (cs : List Instr) (s : State), s.pending = c :: cs → step s = exec c { s with pending := cs })
  ∧ (∀ s : State, s.pending = [] → step s = .next s)

/-- O52. Every command answers a next state, keeps the queue and the part, and only the tick moves the clock, by one
(02_timecode, 95_what_each_step_holds). For every command with every operand and every state, exec answers a next
state; it leaves the waiting commands and what fuses and assembly fix as they were. Only TIMECODE_TICK changes the
count of ticks, and it adds one. That a command whose preconditions do not hold completes with no effect is the
model's choice (log entry 1). -/
def Obligations.EveryCommandCompletes : Prop :=
  (∀ (c : Instr) (s : State), goesOn (exec c s))
  ∧ (∀ (c : Instr) (s t : State), exec c s = .next t → t.pending = s.pending ∧ t.part = s.part)
  ∧ (∀ (c : Instr) (s t : State), exec c s = .next t → (∀ crew, c ≠ .timecodeTick crew) → t.now = s.now)
  ∧ (∀ (crew : List CrewAccess) (s : State), ∃ t, exec (.timecodeTick crew) s = .next t ∧ t.now = s.now + 1)

/-- O53. From every state whose memory has its canonical form, every step leaves memory in that form (05_memory,
07_millpond). If the cells of the pool and the millpond rise strictly by address and none holds what an unlisted
address reads as, then after any step that goes on they still do, whatever command is at the front of the queue. -/
def Obligations.EveryStepKeepsTheMemoryForm : Prop :=
  ∀ s t : State, s.memOk → step s = .next t → t.memOk

/-- O54. At reset memory has its form, no command waits, no phase has begun, and the registers hold the reset values that
the manual lists (02_timecode, 06_placement, 13_thermal_power, 14_faults_pair, 15_boot_roles, 16_registers).
State.reset has memory in its canonical form with nothing listed and an empty queue. The timecode is 0 and no reel
runs; BLK_DISPATCH is 0x4000, GAF_CTRL is 3, VDD_MILL 0.72 V and the throttle factor 1; no phase has begun, READY is
clear; no fault is recorded, fenced or pending and safe state does not stand; no session, job or audit entry exists;
nothing is staged or committed; no link, site or element is up. An empty enrolment table is the model's choice (log
entry 17). -/
def Obligations.ResetLeavesWhatTheManualGives : Prop :=
  State.reset.memOk ∧ State.reset.mem.cells = [] ∧ State.reset.pending = []
  ∧ State.reset.tc.timecode = 0 ∧ State.reset.tc.reel = .noReel ∧ State.reset.tc.passCount = 0
  ∧ State.reset.blk.dispatch = 0x4000 ∧ State.reset.gaf.ctrl = 3 ∧ State.reset.gaf.vmill = 720 ∧ State.reset.gaf.f = 1000000
  ∧ State.reset.boot.phase = 0 ∧ State.reset.boot.ready = false ∧ State.reset.boot.rollback = 0
  ∧ State.reset.flt.first = none ∧ State.reset.flt.ring = [] ∧ State.reset.flt.counts = [] ∧ State.reset.flt.map = []
  ∧ State.reset.flt.pending = false ∧ State.reset.flt.safe = false
  ∧ State.reset.role.sessions = [] ∧ State.reset.role.jobs = [] ∧ State.reset.role.audit = [] ∧ State.reset.role.enrolled = []
  ∧ State.reset.csp.staged = [] ∧ State.reset.csp.committed = []
  ∧ State.reset.tsi = [] ∧ State.reset.pod.links = [] ∧ State.reset.foc.elems = [] ∧ State.reset.pair.role = .none
  ∧ State.reset.pins.lsEn = false ∧ State.reset.pins.faultN = false

/-- O55. Every fatal condition enters safe state, and only POR_N, PWRGD, the loss of VDD_IO, or the restart after a trip
or a coolant stop leaves it (R346, R347, R378). Raising a fault of fatal severity enters safe state with LS_EN and
FAULT_N low. In safe state every command but five leaves safe state standing: the reset by either pin, the removal of
VDD_IO, THERMTRIP_RELEASE while a trip stands and its 30 s have passed, and COOLANT_RESTART while a coolant stop
stands. The reset by a pin ends it. That loss of VDD_IO ends it too is read from R376 (log entry 23). -/
def Obligations.SafeStateLastsUntilResetOrRestart : Prop :=
  (∀ (k : FaultKind) (b i a : Nat) (s : State), kindSev k = 3
      → (raise k b i a s).flt.safe = true ∧ (raise k b i a s).pins.lsEn = false ∧ (raise k b i a s).pins.faultN = false)
  ∧ (∀ (c : Instr) (s t : State), s.flt.safe = true → exec c s = .next t → t.flt.safe = false
      → (∃ pin, pin < 2 ∧ c = .resetAssert pin) ∨ c = .vddIoRemoved
        ∨ (c = .thermtripRelease ∧ s.thm.tripped = true ∧ s.thm.tripLocked = false ∧ ∃ u, s.thm.coolSince = some u ∧ u + 30000000000 ≤ s.now)
        ∨ (c = .coolantRestart ∧ s.thm.coolStop = true))
  ∧ (∀ (pin : Nat) (s : State), pin < 2 → ∃ t, exec (.resetAssert pin) s = .next t ∧ t.flt.safe = false)

/-- O56. No command takes back an enrolled key or lowers the rollback counter, at reset, restart and power loss too (R417,
R421, R440). Whatever command runs in whatever state, the enrolled keys after it begin with those before it, in their
order, and the rollback counter is at least what it was. -/
def Obligations.OneTimeCellsAreNeverUndone : Prop :=
  ∀ (c : Instr) (s t : State), exec c s = .next t
    → (∃ ks, t.role.enrolled = s.role.enrolled ++ ks) ∧ s.boot.rollback ≤ t.boot.rollback

/-- O57. Each command leaves every part of the state as it was but those that touches names for it
(95_what_each_step_holds). For every command and state, exec answers a next state in which every part of the state
that the table touches does not list for that command is what it was: the blocks of control space, memory, the site
interfaces, the pins, the outputs and the clock. For example a register read changes no pin, a laser flag no memory, a
session request no link. -/
def Obligations.CommandsChangeOnlyTheirParts : Prop :=
  ∀ (c : Instr) (s : State), ∃ t, exec c s = .next t ∧ ∀ p : Piece, (touches c).contains p = false → p.same s t

/-- O58. A byte, a masked line or a word that is written reads back, every other byte reads as before, and equal memories
are equal lists (R129, R130, 05_memory). On memory in its canonical form: writing a byte changes the read of its
address alone; writing a line changes exactly the bytes of the line that its mask selects; writing a word changes
exactly its eight bytes; clearing a range makes every byte of it read as an unlisted address and changes no other. Two
memories in canonical form that read the same everywhere are the same list. -/
def Obligations.MemoryReadsWhatWasWrittenThere : Prop :=
  (∀ (c : List Host.Cell) (a x : Nat) (b : Byte), Memory.wf c = true
      → Memory.wf (cellSet c a b) = true ∧ cellGet (cellSet c a b) x = if x = a then b else cellGet c x)
  ∧ (∀ (c : List Host.Cell) (a x : Nat) (m : Word64) (l : Line), Memory.wf c = true
      → Memory.wf (lineSet c a m l) = true
        ∧ cellGet (lineSet c a m l) x = if a ≤ x ∧ x < a + 64 ∧ m.getLsbD (x - a) = true then lineByte l (x - a) else cellGet c x)
  ∧ (∀ (c : List Host.Cell) (a x : Nat) (w : Word64), Memory.wf c = true
      → Memory.wf (wordSet c a w) = true
        ∧ cellGet (wordSet c a w) x = if a ≤ x ∧ x < a + 8 then w.extractLsb' (8 * (x - a)) 8 else cellGet c x)
  ∧ (∀ (c : List Host.Cell) (lo hi x : Nat), Memory.wf c = true
      → Memory.wf (cellsClear c lo hi) = true ∧ cellGet (cellsClear c lo hi) x = if lo ≤ x ∧ x < hi then memDefault else cellGet c x)
  ∧ (∀ c d : List Host.Cell, Memory.wf c = true → Memory.wf d = true → (∀ x, cellGet c x = cellGet d x) → c = d)

/-- O59. A sideband request with the tag of the latest response is answered from it and not performed again (R446). A
REG_READ or REG_WRITE whose tag is that of the latest REG_RSP to its site is answered with that response, and nothing
else changes. Any other request is performed, and its response becomes the latest, so that the same request sent again
is answered from it: a read clears once, and a write applies once. -/
def Obligations.ARepeatedSidebandRequestIsAnsweredOnce : Prop :=
  (∀ (n a : Nat) (tag : Byte) (d v : Word32) (w : Bool) (s : State), sbLive s n = true → tget none s.csp.lastRsp n = some (tag, w, v)
      → exec (.regRead n a tag) s = .next (sideband n .regRsp [tag.toNat, b2n w, v.toNat] s)
        ∧ exec (.regWrite n a tag d) s = .next (sideband n .regRsp [tag.toNat, b2n w, v.toNat] s))
  ∧ (∀ (n a : Nat) (tag : Byte) (s : State), sbLive s n = true → savedRsp s n tag = none → 5 ≤ s.boot.phase
      → ∃ u t, u = regRead (.sideband n) a s ∧ exec (.regRead n a tag) s = .next t
        ∧ t = sideband n .regRsp [tag.toNat, 0, u.1.toNat]
            { u.2 with csp := { u.2.csp with lastRsp := tset none u.2.csp.lastRsp n (some (tag, false, u.1)) } }
        ∧ (sbLive t n = true → exec (.regRead n a tag) t = .next (sideband n .regRsp [tag.toNat, 0, u.1.toNat] t)))
  ∧ (∀ (n a : Nat) (tag : Byte) (d : Word32) (s : State), sbLive s n = true → savedRsp s n tag = none → 5 ≤ s.boot.phase
      → ∃ u t, u = regWrite (.sideband n) a d s ∧ exec (.regWrite n a tag d) s = .next t
        ∧ t = sideband n .regRsp [tag.toNat, 1, 0]
            { u with csp := { u.csp with lastRsp := tset none u.csp.lastRsp n (some (tag, true, 0)) } }
        ∧ (sbLive t n = true → exec (.regWrite n a tag d) t = .next (sideband n .regRsp [tag.toNat, 1, 0] t)))

/-- O60. F starts at 1, falls by a tenth to 0.40 at 95 °C, rises by 0.05 to 1 below 92 °C, once per millisecond, and
forbids rising slew below 1 (R352). The throttle factor, in millionths, is 1,000,000 at reset. While the gaffer runs
and a millisecond has passed since its last step, at 95 °C or more a step makes it nine tenths and no less than
400,000, and below 92 °C 50,000 more and no more than 1,000,000; sooner, and between the two temperatures, it stays.
While it is below 1,000,000 a request for a rise of power is refused with a change of 0, and one for a fall is granted
what the ledger has room for. -/
def Obligations.TheThrottleFactorFallsAndRises : Prop :=
  State.reset.gaf.f = 1000000
  ∧ (∀ (x : Int) (st : Nat) (s : State), gafRuns s = true → junction s = some (x, st) → deg 95 ≤ x
      → s.gaf.fStep = none ∨ (∃ a, s.gaf.fStep = some a ∧ a + 1000000 ≤ s.now)
      → ∃ t, exec .throttleStep s = .next t ∧ t.gaf.f = max 400000 (s.gaf.f * 9 / 10)
        ∧ t = divide { s with gaf := { s.gaf with fStep := some s.now, f := max 400000 (s.gaf.f * 9 / 10) } })
  ∧ (∀ (x : Int) (st : Nat) (s : State), gafRuns s = true → junction s = some (x, st) → x < deg 92 → s.gaf.f < 1000000
      → s.gaf.fStep = none ∨ (∃ a, s.gaf.fStep = some a ∧ a + 1000000 ≤ s.now)
      → ∃ t, exec .throttleStep s = .next t ∧ t.gaf.f = min 1000000 (s.gaf.f + 50000)
        ∧ t = divide { s with gaf := { s.gaf with fStep := some s.now, f := min 1000000 (s.gaf.f + 50000) } })
  ∧ (∀ (x : Int) (st : Nat) (s : State), junction s = some (x, st) → deg 92 ≤ x → x < deg 95 → exec .throttleStep s = .next s)
  ∧ (∀ (x : Int) (st : Nat) (s : State), junction s = some (x, st) → x < deg 92 → s.gaf.f = 1000000 → exec .throttleStep s = .next s)
  ∧ (∀ (a : Tick) (s : State), s.gaf.fStep = some a → s.now < a + 1000000 → exec .throttleStep s = .next s)
  ∧ (∀ (n d win : Nat) (tag : Byte) (s : State), gafRuns s = true → sbLive s n = true → siteServing s n = true
      → bit (siteFeatures s n) 2 = true → 0 < sgn 10 d → s.gaf.f < 1000000
      → exec (.slewReq n d win tag) s = .next (sideband n .slewGrant [0, win, tag.toNat] s))
  ∧ (∀ (n d win r : Nat) (tag : Byte) (s : State), gafRuns s = true → sbLive s n = true → siteServing s n = true
      → bit (siteFeatures s n) 2 = true → sgn 10 d < 0 → s.gaf.f < 1000000 → r = slewRoom s n (sgn 10 d).natAbs → 0 < r
      → exec (.slewReq n d win tag) s = .next (sideband n .slewGrant [uns 10 (-(r : Int)), win, tag.toNat]
          (modPow n (fun p => { p with grant := some (-(r : Int), s.now + 1000 * win) }) s)))

end
end

