-- ==== Sys2Proof/Laws/Keep.lean ====
section
/-! SUPPORT. What a function of the machine may change: a set of the state's parts, as a mask of bits, with the queue and the
part untouched and memory kept in its one canonical form. One lemma of this kind per function says where its effects end. -/

namespace Sys2Proof.Machine

open Sys2Proof

/-! ### Memory keeps its form -/

theorem cellsFrom_weaken : ∀ (c : List Host.Cell) (lo hi : Nat), lo ≤ hi → cellsFrom hi c = true → cellsFrom lo c = true
  | [], _, _, _, _ => rfl
  | (k, v) :: t, lo, hi, h, w => by
    simp only [cellsFrom, Bool.and_eq_true, decide_eq_true_eq] at w ⊢
    exact ⟨⟨Nat.le_trans h w.1.1, w.1.2⟩, w.2⟩

theorem cellSet_from : ∀ (c : List Host.Cell) (lo a : Nat) (b : Byte), lo ≤ a → cellsFrom lo c = true → cellsFrom lo (cellSet c a b) = true
  | [], lo, a, b, h, _ => by
    simp only [cellSet]
    split
    · rfl
    · simp [cellsFrom, h, *]
  | (k, v) :: t, lo, a, b, h, w => by
    simp only [cellsFrom, Bool.and_eq_true, decide_eq_true_eq] at w
    simp only [cellSet]
    split
    · split
      · simp [cellsFrom, w]
      · simp only [cellsFrom, Bool.and_eq_true, decide_eq_true_eq]
        exact ⟨⟨h, ‹_›⟩, ⟨by omega, w.1.2⟩, w.2⟩
    · split
      · split
        · exact cellsFrom_weaken t lo (k + 1) (by omega) w.2
        · simp only [cellsFrom, Bool.and_eq_true, decide_eq_true_eq]
          exact ⟨⟨h, ‹_›⟩, by subst a; exact w.2⟩
      · simp only [cellsFrom, Bool.and_eq_true, decide_eq_true_eq]
        exact ⟨w.1, cellSet_from t (k + 1) a b (by omega) w.2⟩

theorem cellSet_wf (c : List Host.Cell) (a : Nat) (b : Byte) (w : Memory.wf c = true) : Memory.wf (cellSet c a b) = true :=
  cellSet_from c 0 a b (Nat.zero_le _) w

theorem lineSetN_wf (a : Nat) (mask : Word64) (l : Line) : ∀ (n : Nat) (c : List Host.Cell), Memory.wf c = true → Memory.wf (lineSetN a mask l n c) = true
  | 0, _, w => w
  | n + 1, c, w => by
    simp only [lineSetN]
    apply lineSetN_wf a mask l n
    split
    · exact cellSet_wf _ _ _ w
    · exact w

theorem lineSet_wf (c : List Host.Cell) (a : Nat) (mask : Word64) (l : Line) (w : Memory.wf c = true) : Memory.wf (lineSet c a mask l) = true :=
  lineSetN_wf a mask l 64 c w

theorem wordSetN_wf (a : Nat) (x : Word64) : ∀ (n : Nat) (c : List Host.Cell), Memory.wf c = true → Memory.wf (wordSetN a x n c) = true
  | 0, _, w => w
  | n + 1, c, w => by
    simp only [wordSetN]
    exact wordSetN_wf a x n _ (cellSet_wf _ _ _ w)

theorem wordSet_wf (c : List Host.Cell) (a : Nat) (x : Word64) (w : Memory.wf c = true) : Memory.wf (wordSet c a x) = true :=
  wordSetN_wf a x 8 c w

theorem cellsFrom_filter (p : Host.Cell → Bool) : ∀ (c : List Host.Cell) (lo : Nat), cellsFrom lo c = true → cellsFrom lo (c.filter p) = true
  | [], _, _ => rfl
  | (k, v) :: t, lo, w => by
    simp only [cellsFrom, Bool.and_eq_true, decide_eq_true_eq] at w
    have r := cellsFrom_filter p t (k + 1) w.2
    simp only [List.filter]
    split
    · simp only [cellsFrom, Bool.and_eq_true, decide_eq_true_eq]
      exact ⟨w.1, r⟩
    · exact cellsFrom_weaken _ lo (k + 1) (by omega) r

theorem filter_wf (p : Host.Cell → Bool) (c : List Host.Cell) (w : Memory.wf c = true) : Memory.wf (c.filter p) = true :=
  cellsFrom_filter p c 0 w

theorem cellsClear_wf (c : List Host.Cell) (lo hi : Nat) (w : Memory.wf c = true) : Memory.wf (cellsClear c lo hi) = true :=
  filter_wf _ c w

/-! ### The frame of a function -/

/-- From s to t only the parts in the mask m change. The part, the queue and the form of memory are kept; one-time cells are not
undone; and safe state, once entered, lasts unless bit 23 of the mask is set. -/
structure Keep (m : Nat) (s t : State) : Prop where
  part : t.part = s.part
  pending : t.pending = s.pending
  wf : s.memOk → t.memOk
  enrolled : s.role.enrolled <+: t.role.enrolled
  rollback : s.boot.rollback ≤ t.boot.rollback
  safe : m.testBit 23 = false → s.flt.safe = true → t.flt.safe = true
  now : m.testBit 0 = false → t.now = s.now
  tc : m.testBit 1 = false → t.tc = s.tc
  slu : m.testBit 2 = false → t.slu = s.slu
  mrc : m.testBit 3 = false → t.mrc = s.mrc
  mem : m.testBit 4 = false → t.mem = s.mem
  blk : m.testBit 5 = false → t.blk = s.blk
  mpd : m.testBit 6 = false → t.mpd = s.mpd
  grp : m.testBit 7 = false → t.grp = s.grp
  mst : m.testBit 8 = false → t.mst = s.mst
  tsi : m.testBit 9 = false → t.tsi = s.tsi
  pod : m.testBit 10 = false → t.pod = s.pod
  foc : m.testBit 11 = false → t.foc = s.foc
  thm : m.testBit 12 = false → t.thm = s.thm
  gaf : m.testBit 13 = false → t.gaf = s.gaf
  flt : m.testBit 14 = false → t.flt = s.flt
  pair : m.testBit 15 = false → t.pair = s.pair
  role : m.testBit 16 = false → t.role = s.role
  boot : m.testBit 17 = false → t.boot = s.boot
  csp : m.testBit 18 = false → t.csp = s.csp
  tel : m.testBit 19 = false → t.tel = s.tel
  ident : m.testBit 20 = false → t.ident = s.ident
  pins : m.testBit 21 = false → t.pins = s.pins
  out : m.testBit 22 = false → t.out = s.out

theorem testBit_mono {m m' i : Nat} (h : m ||| m' = m') (b : m'.testBit i = false) : m.testBit i = false := by
  have e : (m ||| m').testBit i = false := by rw [h]; exact b
  rw [Nat.testBit_or] at e
  exact (Bool.or_eq_false_iff.mp e).1

theorem Keep.refl (m : Nat) (s : State) : Keep m s s := by
  constructor <;> intros <;> first | rfl | assumption | exact List.prefix_rfl | exact Nat.le_refl _

theorem Keep.mono {m m' : Nat} {s t : State} (k : Keep m s t) (h : m ||| m' = m') : Keep m' s t where
  part := k.part
  pending := k.pending
  wf := k.wf
  enrolled := k.enrolled
  rollback := k.rollback
  safe b := k.safe (testBit_mono h b)
  now b := k.now (testBit_mono h b)
  tc b := k.tc (testBit_mono h b)
  slu b := k.slu (testBit_mono h b)
  mrc b := k.mrc (testBit_mono h b)
  mem b := k.mem (testBit_mono h b)
  blk b := k.blk (testBit_mono h b)
  mpd b := k.mpd (testBit_mono h b)
  grp b := k.grp (testBit_mono h b)
  mst b := k.mst (testBit_mono h b)
  tsi b := k.tsi (testBit_mono h b)
  pod b := k.pod (testBit_mono h b)
  foc b := k.foc (testBit_mono h b)
  thm b := k.thm (testBit_mono h b)
  gaf b := k.gaf (testBit_mono h b)
  flt b := k.flt (testBit_mono h b)
  pair b := k.pair (testBit_mono h b)
  role b := k.role (testBit_mono h b)
  boot b := k.boot (testBit_mono h b)
  csp b := k.csp (testBit_mono h b)
  tel b := k.tel (testBit_mono h b)
  ident b := k.ident (testBit_mono h b)
  pins b := k.pins (testBit_mono h b)
  out b := k.out (testBit_mono h b)

theorem Keep.trans {m : Nat} {s t u : State} (a : Keep m s t) (b : Keep m t u) : Keep m s u where
  part := b.part.trans a.part
  pending := b.pending.trans a.pending
  wf w := b.wf (a.wf w)
  enrolled := a.enrolled.trans b.enrolled
  rollback := Nat.le_trans a.rollback b.rollback
  safe h w := b.safe h (a.safe h w)
  now h := (b.now h).trans (a.now h)
  tc h := (b.tc h).trans (a.tc h)
  slu h := (b.slu h).trans (a.slu h)
  mrc h := (b.mrc h).trans (a.mrc h)
  mem h := (b.mem h).trans (a.mem h)
  blk h := (b.blk h).trans (a.blk h)
  mpd h := (b.mpd h).trans (a.mpd h)
  grp h := (b.grp h).trans (a.grp h)
  mst h := (b.mst h).trans (a.mst h)
  tsi h := (b.tsi h).trans (a.tsi h)
  pod h := (b.pod h).trans (a.pod h)
  foc h := (b.foc h).trans (a.foc h)
  thm h := (b.thm h).trans (a.thm h)
  gaf h := (b.gaf h).trans (a.gaf h)
  flt h := (b.flt h).trans (a.flt h)
  pair h := (b.pair h).trans (a.pair h)
  role h := (b.role h).trans (a.role h)
  boot h := (b.boot h).trans (a.boot h)
  csp h := (b.csp h).trans (a.csp h)
  tel h := (b.tel h).trans (a.tel h)
  ident h := (b.ident h).trans (a.ident h)
  pins h := (b.pins h).trans (a.pins h)
  out h := (b.out h).trans (a.out h)

/-- Outside safe state a function that ends it keeps no less. -/
theorem Keep.notSafe {m : Nat} {s t : State} (h : s.flt.safe = false) (k : Keep (8388608 ||| m) s t) : Keep m s t where
  part := k.part
  pending := k.pending
  wf := k.wf
  enrolled := k.enrolled
  rollback := k.rollback
  safe _ w := by
    rw [h] at w
    cases w
  now b := k.now (by rw [Nat.testBit_or, b]; decide)
  tc b := k.tc (by rw [Nat.testBit_or, b]; decide)
  slu b := k.slu (by rw [Nat.testBit_or, b]; decide)
  mrc b := k.mrc (by rw [Nat.testBit_or, b]; decide)
  mem b := k.mem (by rw [Nat.testBit_or, b]; decide)
  blk b := k.blk (by rw [Nat.testBit_or, b]; decide)
  mpd b := k.mpd (by rw [Nat.testBit_or, b]; decide)
  grp b := k.grp (by rw [Nat.testBit_or, b]; decide)
  mst b := k.mst (by rw [Nat.testBit_or, b]; decide)
  tsi b := k.tsi (by rw [Nat.testBit_or, b]; decide)
  pod b := k.pod (by rw [Nat.testBit_or, b]; decide)
  foc b := k.foc (by rw [Nat.testBit_or, b]; decide)
  thm b := k.thm (by rw [Nat.testBit_or, b]; decide)
  gaf b := k.gaf (by rw [Nat.testBit_or, b]; decide)
  flt b := k.flt (by rw [Nat.testBit_or, b]; decide)
  pair b := k.pair (by rw [Nat.testBit_or, b]; decide)
  role b := k.role (by rw [Nat.testBit_or, b]; decide)
  boot b := k.boot (by rw [Nat.testBit_or, b]; decide)
  csp b := k.csp (by rw [Nat.testBit_or, b]; decide)
  tel b := k.tel (by rw [Nat.testBit_or, b]; decide)
  ident b := k.ident (by rw [Nat.testBit_or, b]; decide)
  pins b := k.pins (by rw [Nat.testBit_or, b]; decide)
  out b := k.out (by rw [Nat.testBit_or, b]; decide)

/-- After what is known of a state, one more function. -/
theorem Keep.step {m k : Nat} {s0 s t : State} (g : Keep k s t) (h : k ||| m = m) (a : Keep m s0 s) : Keep m s0 t :=
  a.trans (g.mono h)

theorem Keep.ite {m : Nat} {s0 a b : State} {c : Prop} [Decidable c] (x : Keep m s0 a) (y : Keep m s0 b) :
    Keep m s0 (if c then a else b) := by
  split
  · exact x
  · exact y

theorem Keep.foldl {m : Nat} {α : Type} {g : State → α → State} (step : ∀ y x, Keep m y (g y x)) :
    ∀ (l : List α) {s0 s : State}, Keep m s0 s → Keep m s0 (l.foldl g s)
  | [], _, _, h => h
  | x :: t, _, _, h => Keep.foldl step t (h.trans (step _ x))

theorem Keep.foldlSnd {m : Nat} {α β : Type} {g : β × State → α → β × State} (step : ∀ y x, Keep m y.2 (g y x).2) :
    ∀ (l : List α) {s0 : State} {s : β × State}, Keep m s0 s.2 → Keep m s0 (l.foldl g s).2
  | [], _, _, h => h
  | x :: t, _, _, h => Keep.foldlSnd step t (h.trans (step _ x))

/-- What an answer that may be missing keeps. -/
def KeepO (m : Nat) (s : State) (o : Option State) : Prop := ∀ t, o = some t → Keep m s t

theorem KeepO.none {m : Nat} {s : State} : KeepO m s none := fun _ h => nomatch h
theorem KeepO.some {m : Nat} {s t : State} (h : Keep m s t) : KeepO m s (some t) := fun _ e => by
  cases e
  exact h
/-- What an answer with a further value that may be missing keeps. -/
def KeepOS {α : Type} (m : Nat) (s : State) (o : Option (α × State)) : Prop := ∀ a, o = some a → Keep m s a.2

theorem KeepOS.none {α : Type} {m : Nat} {s : State} : KeepOS m s (none : Option (α × State)) := fun _ h => nomatch h
theorem KeepOS.some {α : Type} {m : Nat} {s : State} {a : α × State} (h : Keep m s a.2) : KeepOS m s (some a) := fun _ e => by
  cases e
  exact h
theorem KeepOS.map {α β : Type} {m : Nat} {s : State} {o : Option β} {g : β → α × State} (h : ∀ y, Keep m s (g y).2) : KeepOS m s (o.map g) := fun a e => by
  cases o with
  | none => exact nomatch e
  | some y =>
    cases e
    exact h y
theorem KeepOS.step {α : Type} {m k : Nat} {s0 s : State} {o : Option (α × State)} (g : KeepOS k s o) (h : k ||| m = m) (a : Keep m s0 s) :
    KeepOS m s0 o := fun t e => Keep.step (g t e) h a

theorem Keep.ofSnd {α : Type} {m : Nat} {s0 t : State} {x : α × State} {a : α} (e : x = (a, t)) (h : Keep m s0 x.2) : Keep m s0 t := by
  rw [e] at h
  exact h
theorem Keep.ofSnd2 {α β : Type} {m : Nat} {s0 t : State} {x : α × β × State} {a : α} {b : β} (e : x = (a, b, t)) (h : Keep m s0 x.2.2) : Keep m s0 t := by
  rw [e] at h
  exact h
theorem Keep.ofOpt {m : Nat} {s0 t : State} {x : Option State} (e : x = some t) (h : KeepO m s0 x) : Keep m s0 t := h t e
theorem Keep.ofOpts {α : Type} {m : Nat} {s0 t : State} {x : Option (α × State)} {a : α} (e : x = some (a, t)) (h : KeepOS m s0 x) : Keep m s0 t :=
  h (a, t) e
theorem KeepO.step {m k : Nat} {s0 s : State} {o : Option State} (g : KeepO k s o) (h : k ||| m = m) (a : Keep m s0 s) : KeepO m s0 o :=
  fun t e => Keep.step (g t e) h a

/-! ### The plain changes -/

theorem modTc_keep (f) (s : State) : Keep 2 s (modTc f s) := by
  constructor <;> intros <;> first | rfl | assumption | exact List.prefix_rfl | exact Nat.le_refl _ | exact absurd ‹_› (by decide)
theorem modSlu_keep (f) (s : State) : Keep 4 s (modSlu f s) := by
  constructor <;> intros <;> first | rfl | assumption | exact List.prefix_rfl | exact Nat.le_refl _ | exact absurd ‹_› (by decide)
theorem modMrc_keep (f) (s : State) : Keep 8 s (modMrc f s) := by
  constructor <;> intros <;> first | rfl | assumption | exact List.prefix_rfl | exact Nat.le_refl _ | exact absurd ‹_› (by decide)
theorem modBlk_keep (f) (s : State) : Keep 32 s (modBlk f s) := by
  constructor <;> intros <;> first | rfl | assumption | exact List.prefix_rfl | exact Nat.le_refl _ | exact absurd ‹_› (by decide)
theorem modMpd_keep (f) (s : State) : Keep 64 s (modMpd f s) := by
  constructor <;> intros <;> first | rfl | assumption | exact List.prefix_rfl | exact Nat.le_refl _ | exact absurd ‹_› (by decide)
theorem modGrp_keep (f) (s : State) : Keep 128 s (modGrp f s) := by
  constructor <;> intros <;> first | rfl | assumption | exact List.prefix_rfl | exact Nat.le_refl _ | exact absurd ‹_› (by decide)
theorem modMst_keep (f) (s : State) : Keep 256 s (modMst f s) := by
  constructor <;> intros <;> first | rfl | assumption | exact List.prefix_rfl | exact Nat.le_refl _ | exact absurd ‹_› (by decide)
theorem modPod_keep (f) (s : State) : Keep 1024 s (modPod f s) := by
  constructor <;> intros <;> first | rfl | assumption | exact List.prefix_rfl | exact Nat.le_refl _ | exact absurd ‹_› (by decide)
theorem modFoc_keep (f) (s : State) : Keep 2048 s (modFoc f s) := by
  constructor <;> intros <;> first | rfl | assumption | exact List.prefix_rfl | exact Nat.le_refl _ | exact absurd ‹_› (by decide)
theorem modThm_keep (f) (s : State) : Keep 4096 s (modThm f s) := by
  constructor <;> intros <;> first | rfl | assumption | exact List.prefix_rfl | exact Nat.le_refl _ | exact absurd ‹_› (by decide)
theorem modGaf_keep (f) (s : State) : Keep 8192 s (modGaf f s) := by
  constructor <;> intros <;> first | rfl | assumption | exact List.prefix_rfl | exact Nat.le_refl _ | exact absurd ‹_› (by decide)
theorem modPair_keep (f) (s : State) : Keep 32768 s (modPair f s) := by
  constructor <;> intros <;> first | rfl | assumption | exact List.prefix_rfl | exact Nat.le_refl _ | exact absurd ‹_› (by decide)
theorem modCsp_keep (f) (s : State) : Keep 262144 s (modCsp f s) := by
  constructor <;> intros <;> first | rfl | assumption | exact List.prefix_rfl | exact Nat.le_refl _ | exact absurd ‹_› (by decide)
theorem modTel_keep (f) (s : State) : Keep 524288 s (modTel f s) := by
  constructor <;> intros <;> first | rfl | assumption | exact List.prefix_rfl | exact Nat.le_refl _ | exact absurd ‹_› (by decide)
theorem modIdent_keep (f) (s : State) : Keep 1048576 s (modIdent f s) := by
  constructor <;> intros <;> first | rfl | assumption | exact List.prefix_rfl | exact Nat.le_refl _ | exact absurd ‹_› (by decide)
theorem modPins_keep (f) (s : State) : Keep 2097152 s (modPins f s) := by
  constructor <;> intros <;> first | rfl | assumption | exact List.prefix_rfl | exact Nat.le_refl _ | exact absurd ‹_› (by decide)
theorem modFlt_keep (f) (s : State) (h : ∀ x, x.safe = true → (f x).safe = true) : Keep 16384 s (modFlt f s) where
  part := rfl
  pending := rfl
  wf w := w
  enrolled := List.prefix_rfl
  rollback := Nat.le_refl _
  safe _ w := h _ w
  now _ := rfl
  tc _ := rfl
  slu _ := rfl
  mrc _ := rfl
  mem _ := rfl
  blk _ := rfl
  mpd _ := rfl
  grp _ := rfl
  mst _ := rfl
  tsi _ := rfl
  pod _ := rfl
  foc _ := rfl
  thm _ := rfl
  gaf _ := rfl
  flt b := absurd b (by decide)
  pair _ := rfl
  role _ := rfl
  boot _ := rfl
  csp _ := rfl
  tel _ := rfl
  ident _ := rfl
  pins _ := rfl
  out _ := rfl
theorem modRole_keep (f) (s : State) (h : ∀ x, x.enrolled <+: (f x).enrolled) : Keep 65536 s (modRole f s) where
  part := rfl
  pending := rfl
  wf w := w
  enrolled := h _
  rollback := Nat.le_refl _
  safe _ w := w
  now _ := rfl
  tc _ := rfl
  slu _ := rfl
  mrc _ := rfl
  mem _ := rfl
  blk _ := rfl
  mpd _ := rfl
  grp _ := rfl
  mst _ := rfl
  tsi _ := rfl
  pod _ := rfl
  foc _ := rfl
  thm _ := rfl
  gaf _ := rfl
  flt _ := rfl
  pair _ := rfl
  role b := absurd b (by decide)
  boot _ := rfl
  csp _ := rfl
  tel _ := rfl
  ident _ := rfl
  pins _ := rfl
  out _ := rfl
theorem modBoot_keep (f) (s : State) (h : ∀ x, x.rollback ≤ (f x).rollback) : Keep 131072 s (modBoot f s) where
  part := rfl
  pending := rfl
  wf w := w
  enrolled := List.prefix_rfl
  rollback := h _
  safe _ w := w
  now _ := rfl
  tc _ := rfl
  slu _ := rfl
  mrc _ := rfl
  mem _ := rfl
  blk _ := rfl
  mpd _ := rfl
  grp _ := rfl
  mst _ := rfl
  tsi _ := rfl
  pod _ := rfl
  foc _ := rfl
  thm _ := rfl
  gaf _ := rfl
  flt _ := rfl
  pair _ := rfl
  role _ := rfl
  boot b := absurd b (by decide)
  csp _ := rfl
  tel _ := rfl
  ident _ := rfl
  pins _ := rfl
  out _ := rfl

theorem modMem_keep (f : Mem → Mem) (s : State) (h : ∀ x, Memory.wf x.cells = true → Memory.wf (f x).cells = true) :
    Keep 16 s (modMem f s) where
  part := rfl
  pending := rfl
  wf w := h s.mem w
  enrolled := List.prefix_rfl
  rollback := Nat.le_refl _
  safe _ w := w
  now _ := rfl
  tc _ := rfl
  slu _ := rfl
  mrc _ := rfl
  mem b := absurd b (by decide)
  blk _ := rfl
  mpd _ := rfl
  grp _ := rfl
  mst _ := rfl
  tsi _ := rfl
  pod _ := rfl
  foc _ := rfl
  thm _ := rfl
  gaf _ := rfl
  flt _ := rfl
  pair _ := rfl
  role _ := rfl
  boot _ := rfl
  csp _ := rfl
  tel _ := rfl
  ident _ := rfl
  pins _ := rfl
  out _ := rfl

/-- A state written out part by part. -/
theorem Keep.lit {m : Nat} {s0 b t : State} (h : Keep m s0 b) (part : t.part = b.part) (pending : t.pending = b.pending)
    (wf : b.memOk → t.memOk) (enrolled : b.role.enrolled <+: t.role.enrolled) (rollback : b.boot.rollback ≤ t.boot.rollback)
    (safe : m.testBit 23 = true ∨ (b.flt.safe = true → t.flt.safe = true))
    (now : m.testBit 0 = true ∨ t.now = b.now)
    (tc : m.testBit 1 = true ∨ t.tc = b.tc)
    (slu : m.testBit 2 = true ∨ t.slu = b.slu)
    (mrc : m.testBit 3 = true ∨ t.mrc = b.mrc)
    (mem : m.testBit 4 = true ∨ t.mem = b.mem)
    (blk : m.testBit 5 = true ∨ t.blk = b.blk)
    (mpd : m.testBit 6 = true ∨ t.mpd = b.mpd)
    (grp : m.testBit 7 = true ∨ t.grp = b.grp)
    (mst : m.testBit 8 = true ∨ t.mst = b.mst)
    (tsi : m.testBit 9 = true ∨ t.tsi = b.tsi)
    (pod : m.testBit 10 = true ∨ t.pod = b.pod)
    (foc : m.testBit 11 = true ∨ t.foc = b.foc)
    (thm : m.testBit 12 = true ∨ t.thm = b.thm)
    (gaf : m.testBit 13 = true ∨ t.gaf = b.gaf)
    (flt : m.testBit 14 = true ∨ t.flt = b.flt)
    (pair : m.testBit 15 = true ∨ t.pair = b.pair)
    (role : m.testBit 16 = true ∨ t.role = b.role)
    (boot : m.testBit 17 = true ∨ t.boot = b.boot)
    (csp : m.testBit 18 = true ∨ t.csp = b.csp)
    (tel : m.testBit 19 = true ∨ t.tel = b.tel)
    (ident : m.testBit 20 = true ∨ t.ident = b.ident)
    (pins : m.testBit 21 = true ∨ t.pins = b.pins)
    (out : m.testBit 22 = true ∨ t.out = b.out) :
    Keep m s0 t := by
  refine h.trans ⟨part, pending, wf, enrolled, rollback, ?_, ?_, ?_, ?_, ?_, ?_, ?_, ?_, ?_, ?_, ?_, ?_, ?_, ?_, ?_, ?_, ?_, ?_, ?_, ?_, ?_, ?_, ?_, ?_⟩
  all_goals
    intro f
    first
    | exact safe.resolve_left (by rw [f]; decide)
    | exact now.resolve_left (by rw [f]; decide)
    | exact tc.resolve_left (by rw [f]; decide)
    | exact slu.resolve_left (by rw [f]; decide)
    | exact mrc.resolve_left (by rw [f]; decide)
    | exact mem.resolve_left (by rw [f]; decide)
    | exact blk.resolve_left (by rw [f]; decide)
    | exact mpd.resolve_left (by rw [f]; decide)
    | exact grp.resolve_left (by rw [f]; decide)
    | exact mst.resolve_left (by rw [f]; decide)
    | exact tsi.resolve_left (by rw [f]; decide)
    | exact pod.resolve_left (by rw [f]; decide)
    | exact foc.resolve_left (by rw [f]; decide)
    | exact thm.resolve_left (by rw [f]; decide)
    | exact gaf.resolve_left (by rw [f]; decide)
    | exact flt.resolve_left (by rw [f]; decide)
    | exact pair.resolve_left (by rw [f]; decide)
    | exact role.resolve_left (by rw [f]; decide)
    | exact boot.resolve_left (by rw [f]; decide)
    | exact csp.resolve_left (by rw [f]; decide)
    | exact tel.resolve_left (by rw [f]; decide)
    | exact ident.resolve_left (by rw [f]; decide)
    | exact pins.resolve_left (by rw [f]; decide)
    | exact out.resolve_left (by rw [f]; decide)

end Sys2Proof.Machine
end

