-- ==== Sys2Proof/Laws/KeepLinks.lean ====
section
/-! SUPPORT. What each function of the shared operations, the millrace and memory may change (Laws/Keep). -/

namespace Sys2Proof.Machine

open Sys2Proof

theorem modSite_keep (a0) (a1) (a2) : Keep 512 a2 (modSite a0 a1 a2) := by
  unfold modSite
  exact Keep.lit (Keep.refl 512 a2) rfl rfl (fun w => w) List.prefix_rfl (Nat.le_refl _) (.inr (fun w => w)) (.inr rfl) (.inr rfl) (.inr rfl) (.inr rfl) (.inr rfl) (.inr rfl) (.inr rfl) (.inr rfl) (.inr rfl) (.inl rfl) (.inr rfl) (.inr rfl) (.inr rfl) (.inr rfl) (.inr rfl) (.inr rfl) (.inr rfl) (.inr rfl) (.inr rfl) (.inr rfl) (.inr rfl) (.inr rfl) (.inr rfl)

theorem emit_keep (a0) (a1) : Keep 4194304 a1 (emit a0 a1) := by
  unfold emit
  exact Keep.lit (Keep.refl 4194304 a1) rfl rfl (fun w => w) List.prefix_rfl (Nat.le_refl _) (.inr (fun w => w)) (.inr rfl) (.inr rfl) (.inr rfl) (.inr rfl) (.inr rfl) (.inr rfl) (.inr rfl) (.inr rfl) (.inr rfl) (.inr rfl) (.inr rfl) (.inr rfl) (.inr rfl) (.inr rfl) (.inr rfl) (.inr rfl) (.inr rfl) (.inr rfl) (.inr rfl) (.inr rfl) (.inr rfl) (.inr rfl) (.inl rfl)

theorem setEffect_keep (a0) (a1) (a2) (a3) : Keep 262144 a3 (setEffect a0 a1 a2 a3) := by
  unfold setEffect
  refine Keep.step (modCsp_keep _ _) rfl ?_
  exact Keep.refl _ _

theorem modLand_keep (a0) (a1) (a2) (a3) : Keep 4 a3 (modLand a0 a1 a2 a3) := by
  unfold modLand
  refine Keep.step (modSlu_keep _ _) rfl ?_
  exact Keep.refl _ _

theorem landReturn_keep (a0) (a1) (a2) : Keep 4 a2 (landReturn a0 a1 a2) := by
  unfold landReturn
  extract_lets -merge -underBinder +onlyGivenNames z1
  refine Keep.ite ?_ ?_
  · refine Keep.step (modLand_keep _ _ _ _) rfl ?_
    exact Keep.refl _ _
  · exact Keep.refl _ _

theorem dropAir_keep (a0) (a1) (a2) (a3) : Keep 4 a3 (dropAir a0 a1 a2 a3) := by
  unfold dropAir
  extract_lets -merge -underBinder +onlyGivenNames z1 z2 z3
  have hz3 : Keep 4 a3 z3 := by
    unfold z3
    refine Keep.step (modSlu_keep _ _) rfl ?_
    exact Keep.refl _ _
  clear_value z3
  refine Keep.foldl ?_ _ ?_
  · intro y4 x5
    refine Keep.ite ?_ ?_
    · refine Keep.step (landReturn_keep _ _ _) rfl ?_
      exact Keep.refl _ _
    · exact Keep.refl _ _
  · exact hz3

theorem gapDrop_keep (a0) (a1) (a2) : Keep 4 a2 (gapDrop a0 a1 a2) := by
  unfold gapDrop
  refine Keep.foldl ?_ _ ?_
  · intro y1 x2
    refine Keep.foldl ?_ _ ?_
    · intro y3 x4
      extract_lets -merge -underBinder +onlyGivenNames z5 z6
      refine Keep.ite ?_ ?_
      · refine Keep.step (modSlu_keep _ _) rfl ?_
        refine Keep.step (dropAir_keep _ _ _ _) rfl ?_
        exact Keep.refl _ _
      · exact Keep.refl _ _
    · exact Keep.refl _ _
  · exact Keep.refl _ _

theorem ringPush_keep (a0) (a1) (a2) (a3) : KeepO 4 a3 (ringPush a0 a1 a2 a3) := by
  unfold ringPush
  extract_lets -merge -underBinder +onlyGivenNames z1
  split
  · refine KeepO.some ?_
    refine Keep.step (modSlu_keep _ _) rfl ?_
    exact Keep.refl _ _
  · exact KeepO.none

theorem sendFault_keep (a0) (a1) : Keep 16384 a1 (sendFault a0 a1) := by
  unfold sendFault
  exact Keep.lit (Keep.refl 16384 a1) rfl rfl (fun w => w) List.prefix_rfl (Nat.le_refl _) (.inr (fun w => w)) (.inr rfl) (.inr rfl) (.inr rfl) (.inr rfl) (.inr rfl) (.inr rfl) (.inr rfl) (.inr rfl) (.inr rfl) (.inr rfl) (.inr rfl) (.inr rfl) (.inr rfl) (.inr rfl) (.inl rfl) (.inr rfl) (.inr rfl) (.inr rfl) (.inr rfl) (.inr rfl) (.inr rfl) (.inr rfl) (.inr rfl)

theorem enterSafe_keep (a0) : Keep 2113536 a0 (enterSafe a0) := by
  unfold enterSafe
  exact Keep.lit (Keep.refl 2113536 a0) rfl rfl (fun w => w) List.prefix_rfl (Nat.le_refl _) (.inr (fun _ => rfl)) (.inr rfl) (.inr rfl) (.inr rfl) (.inr rfl) (.inr rfl) (.inr rfl) (.inr rfl) (.inr rfl) (.inr rfl) (.inr rfl) (.inr rfl) (.inr rfl) (.inr rfl) (.inr rfl) (.inl rfl) (.inr rfl) (.inr rfl) (.inr rfl) (.inr rfl) (.inr rfl) (.inr rfl) (.inl rfl) (.inr rfl)

theorem raise_keep (a0) (a1) (a2) (a3) (a4) : Keep 2113536 a4 (raise a0 a1 a2 a3 a4) := by
  unfold raise
  extract_lets -merge -underBinder +onlyGivenNames z1
  have hz1 : Keep 2113536 a4 z1 := by
    unfold z1
    refine Keep.step (sendFault_keep _ _) rfl ?_
    exact Keep.refl _ _
  clear_value z1
  refine Keep.ite ?_ ?_
  · refine Keep.step (enterSafe_keep _) rfl ?_
    exact hz1
  · exact hz1

theorem raiseRated_keep (a0) (a1) (a2) (a3) (a4) (a5) (a6) : Keep 16384 a6 (raiseRated a0 a1 a2 a3 a4 a5 a6) := by
  unfold raiseRated
  extract_lets -merge -underBinder +onlyGivenNames z1 z2
  refine Keep.ite ?_ ?_
  · extract_lets -merge -underBinder +onlyGivenNames q3 z4
    refine Keep.step (sendFault_keep _ _) rfl ?_
    exact Keep.lit (Keep.refl 16384 a6) rfl rfl (fun w => w) List.prefix_rfl (Nat.le_refl _) (.inr (fun w => w)) (.inr rfl) (.inr rfl) (.inr rfl) (.inr rfl) (.inr rfl) (.inr rfl) (.inr rfl) (.inr rfl) (.inr rfl) (.inr rfl) (.inr rfl) (.inr rfl) (.inr rfl) (.inr rfl) (.inl rfl) (.inr rfl) (.inr rfl) (.inr rfl) (.inr rfl) (.inr rfl) (.inr rfl) (.inr rfl) (.inr rfl)
  · exact Keep.lit (Keep.refl 16384 a6) rfl rfl (fun w => w) List.prefix_rfl (Nat.le_refl _) (.inr (fun w => w)) (.inr rfl) (.inr rfl) (.inr rfl) (.inr rfl) (.inr rfl) (.inr rfl) (.inr rfl) (.inr rfl) (.inr rfl) (.inr rfl) (.inr rfl) (.inr rfl) (.inr rfl) (.inr rfl) (.inl rfl) (.inr rfl) (.inr rfl) (.inr rfl) (.inr rfl) (.inr rfl) (.inr rfl) (.inr rfl) (.inr rfl)

theorem standBegin_keep (a0) (a1) (a2) (a3) (a4) : Keep 2113536 a4 (standBegin a0 a1 a2 a3 a4) := by
  unfold standBegin
  split
  · exact Keep.refl _ _
  · refine Keep.step (raise_keep _ _ _ _ _) rfl ?_
    exact Keep.lit (Keep.refl 2113536 a4) rfl rfl (fun w => w) List.prefix_rfl (Nat.le_refl _) (.inr (fun w => w)) (.inr rfl) (.inr rfl) (.inr rfl) (.inr rfl) (.inr rfl) (.inr rfl) (.inr rfl) (.inr rfl) (.inr rfl) (.inr rfl) (.inr rfl) (.inr rfl) (.inr rfl) (.inr rfl) (.inl rfl) (.inr rfl) (.inr rfl) (.inr rfl) (.inr rfl) (.inr rfl) (.inr rfl) (.inr rfl) (.inr rfl)

theorem standEnd_keep (a0) (a1) (a2) (a3) : Keep 16384 a3 (standEnd a0 a1 a2 a3) := by
  unfold standEnd
  split
  · refine Keep.step (sendFault_keep _ _) rfl ?_
    exact Keep.lit (Keep.refl 16384 a3) rfl rfl (fun w => w) List.prefix_rfl (Nat.le_refl _) (.inr (fun w => w)) (.inr rfl) (.inr rfl) (.inr rfl) (.inr rfl) (.inr rfl) (.inr rfl) (.inr rfl) (.inr rfl) (.inr rfl) (.inr rfl) (.inr rfl) (.inr rfl) (.inr rfl) (.inr rfl) (.inl rfl) (.inr rfl) (.inr rfl) (.inr rfl) (.inr rfl) (.inr rfl) (.inr rfl) (.inr rfl) (.inr rfl)
  · exact Keep.refl _ _

theorem modMod_keep (a0) (a1) (a2) (a3) : Keep 512 a3 (modMod a0 a1 a2 a3) := by
  unfold modMod
  refine Keep.step (modSite_keep _ _ _) rfl ?_
  exact Keep.refl _ _

theorem modLink_keep (a0) (a1) (a2) (a3) : Keep 512 a3 (modLink a0 a1 a2 a3) := by
  unfold modLink
  refine Keep.step (modSite_keep _ _ _) rfl ?_
  exact Keep.refl _ _

theorem modNeg_keep (a0) (a1) (a2) : Keep 512 a2 (modNeg a0 a1 a2) := by
  unfold modNeg
  refine Keep.step (modSite_keep _ _ _) rfl ?_
  exact Keep.refl _ _

theorem modCount_keep (a0) (a1) (a2) : Keep 512 a2 (modCount a0 a1 a2) := by
  unfold modCount
  refine Keep.step (modSite_keep _ _ _) rfl ?_
  exact Keep.refl _ _

theorem resendHeld_keep (a0) (a1) (a2) : Keep 4194816 a2 (resendHeld a0 a1 a2) := by
  unfold resendHeld
  extract_lets -merge -underBinder +onlyGivenNames z1
  split
  · exact Keep.refl _ _
  · extract_lets -merge -underBinder +onlyGivenNames z5 z6 z9
    have hz5 : Keep 4194816 a2 z5 := by
      unfold z5
      refine Keep.step (emit_keep _ _) rfl ?_
      exact Keep.refl _ _
    clear_value z5
    have hz6 : Keep 4194816 a2 z6 := by
      unfold z6
      refine Keep.foldl ?_ _ ?_
      · intro y7 x8
        refine Keep.step (emit_keep _ _) rfl ?_
        exact Keep.refl _ _
      · exact hz5
    clear_value z6
    have hz9 : Keep 4194816 a2 z9 := by
      unfold z9
      refine Keep.step (modLink_keep _ _ _ _) rfl ?_
      exact hz6
    clear_value z9
    refine Keep.ite ?_ ?_
    · refine Keep.step (modCount_keep _ _ _) rfl ?_
      exact hz9
    · exact hz9

theorem hopperPut_keep (a0) (a1) (a2) (a3) : Keep 512 a3 (hopperPut a0 a1 a2 a3) := by
  unfold hopperPut
  extract_lets -merge -underBinder +onlyGivenNames z1 z2
  have hz2 : Keep 512 a3 z2 := by
    unfold z2
    refine Keep.step (modLink_keep _ _ _ _) rfl ?_
    refine Keep.step (modSite_keep _ _ _) rfl ?_
    exact Keep.refl _ _
  clear_value z2
  refine Keep.step (modCount_keep _ _ _) rfl ?_
  exact hz2

theorem hopperOffer_keep (a0) (a1) (a2) (a3) : Keep 512 a3 (hopperOffer a0 a1 a2 a3) := by
  unfold hopperOffer
  split
  · exact Keep.refl _ _
  · refine Keep.ite ?_ ?_
    · refine Keep.step (hopperPut_keep _ _ _ _) rfl ?_
      exact Keep.refl _ _
    · refine Keep.step (modSite_keep _ _ _) rfl ?_
      exact Keep.refl _ _

theorem siteDeliver_keep (a0) (a1) (a2) (a3) : Keep 512 a3 (siteDeliver a0 a1 a2 a3) := by
  unfold siteDeliver
  refine Keep.step (hopperOffer_keep _ _ _ _) rfl ?_
  exact Keep.refl _ _

theorem fillHoppers_keep (a0) (a1) : Keep 512 a1 (fillHoppers a0 a1) := by
  unfold fillHoppers
  refine Keep.foldl ?_ _ ?_
  · intro y1 x2
    refine Keep.step (hopperOffer_keep _ _ _ _) rfl ?_
    exact Keep.refl _ _
  · refine Keep.step (modSite_keep _ _ _) rfl ?_
    exact Keep.refl _ _

theorem siteStreamOut_keep (a0) (a1) (a2) (a3) (a4) : KeepO 512 a4 (siteStreamOut a0 a1 a2 a3 a4) := by
  unfold siteStreamOut
  extract_lets -merge -underBinder +onlyGivenNames z1
  split
  · exact KeepO.none
  · split
    · exact KeepO.none
    · extract_lets -merge -underBinder +onlyGivenNames z4
      refine KeepO.some ?_
      refine Keep.step (hopperPut_keep _ _ _ _) rfl ?_
      refine Keep.step (modSite_keep _ _ _) rfl ?_
      exact Keep.refl _ _

theorem sendCredit_keep (a0) (a1) (a2) (a3) (a4) : Keep 512 a4 (sendCredit a0 a1 a2 a3 a4) := by
  unfold sendCredit
  refine Keep.ite ?_ ?_
  · exact Keep.refl _ _
  · refine Keep.step (hopperOffer_keep _ _ _ _) rfl ?_
    refine Keep.step (modSite_keep _ _ _) rfl ?_
    exact Keep.refl _ _

theorem revokeStreams_keep (a0) (a1) : Keep 512 a1 (revokeStreams a0 a1) := by
  unfold revokeStreams
  split
  · refine Keep.foldl ?_ _ ?_
    · intro y2 x3
      refine Keep.step (sendCredit_keep _ _ _ _ _) rfl ?_
      exact Keep.refl _ _
    · exact Keep.refl _ _
  · exact Keep.refl _ _

theorem sideband_keep (a0) (a1) (a2) (a3) : Keep 4194816 a3 (sideband a0 a1 a2 a3) := by
  unfold sideband
  refine Keep.step (emit_keep _ _) rfl ?_
  refine Keep.step (modSite_keep _ _ _) rfl ?_
  exact Keep.refl _ _

theorem limitEnds_keep (a0) (a1) (a2) : Keep 8192 a2 (limitEnds a0 a1 a2) := by
  unfold limitEnds
  refine Keep.ite ?_ ?_
  · refine Keep.step (modGaf_keep _ _) rfl ?_
    exact Keep.refl _ _
  · exact Keep.refl _ _

theorem sbTick_keep (a0) (a1) : Keep 4203008 a1 (sbTick a0 a1) := by
  unfold sbTick
  extract_lets -merge -underBinder +onlyGivenNames z1
  split
  · exact Keep.refl _ _
  · refine Keep.ite ?_ ?_
    · exact Keep.refl _ _
    · extract_lets -merge -underBinder +onlyGivenNames q4 q5 z6 z7
      have hz7 : Keep 4203008 a1 z7 := by
        unfold z7
        refine Keep.step (limitEnds_keep _ _ _) rfl ?_
        refine Keep.step (modSite_keep _ _ _) rfl ?_
        exact Keep.refl _ _
      clear_value z7
      split
      · refine Keep.step (emit_keep _ _) rfl ?_
        exact hz7
      · exact hz7

theorem sbTicks_keep (a0) : Keep 4203008 a0 (sbTicks a0) := by
  unfold sbTicks
  refine Keep.foldl ?_ _ ?_
  · intro y1 x2
    refine Keep.step (sbTick_keep _ _) rfl ?_
    exact Keep.refl _ _
  · exact Keep.refl _ _

theorem sitePowerDown_keep (a0) (a1) (a2) : Keep 2359824 a2 (sitePowerDown a0 a1 a2) := by
  unfold sitePowerDown
  extract_lets -merge -underBinder +onlyGivenNames z1
  have hz1 : Keep 2359824 a2 z1 := by
    unfold z1
    refine Keep.step (modSite_keep _ _ _) rfl ?_
    exact Keep.refl _ _
  clear_value z1
  refine Keep.step (modPins_keep _ _) rfl ?_
  exact Keep.lit hz1 rfl rfl (fun w => w) List.prefix_rfl (Nat.le_refl _) (.inr (fun w => w)) (.inr rfl) (.inr rfl) (.inr rfl) (.inr rfl) (.inl rfl) (.inr rfl) (.inr rfl) (.inr rfl) (.inr rfl) (.inr rfl) (.inr rfl) (.inr rfl) (.inr rfl) (.inr rfl) (.inr rfl) (.inr rfl) (.inr rfl) (.inr rfl) (.inl rfl) (.inr rfl) (.inr rfl) (.inr rfl) (.inr rfl)

theorem siteCause_keep (a0) (a1) (a2) (a3) (a4) : Keep 512 a4 (siteCause a0 a1 a2 a3 a4) := by
  unfold siteCause
  refine Keep.step (modSite_keep _ _ _) rfl ?_
  exact Keep.refl _ _

theorem modPodLink_keep (a0) (a1) (a2) : Keep 1024 a2 (modPodLink a0 a1 a2) := by
  unfold modPodLink
  refine Keep.step (modPod_keep _ _) rfl ?_
  exact Keep.refl _ _

theorem modPodLane_keep (a0) (a1) (a2) (a3) : Keep 1024 a3 (modPodLane a0 a1 a2 a3) := by
  unfold modPodLane
  refine Keep.step (modPodLink_keep _ _ _) rfl ?_
  exact Keep.refl _ _

theorem modTx_keep (a0) (a1) (a2) (a3) (a4) : Keep 1024 a4 (modTx a0 a1 a2 a3 a4) := by
  unfold modTx
  refine Keep.step (modPod_keep _ _) rfl ?_
  exact Keep.refl _ _

theorem modRx_keep (a0) (a1) (a2) : Keep 1024 a2 (modRx a0 a1 a2) := by
  unfold modRx
  refine Keep.step (modPod_keep _ _) rfl ?_
  exact Keep.refl _ _

theorem podPeak_keep (a0) (a1) (a2) : Keep 1024 a2 (podPeak a0 a1 a2) := by
  unfold podPeak
  extract_lets -merge -underBinder +onlyGivenNames z1
  refine Keep.foldl ?_ _ ?_
  · intro y2 x3
    refine Keep.ite ?_ ?_
    · refine Keep.step (modPodLink_keep _ _ _) rfl ?_
      exact Keep.refl _ _
    · exact Keep.refl _ _
  · exact Keep.refl _ _

theorem clearPodPeaks_keep (a0) : Keep 1024 a0 (clearPodPeaks a0) := by
  unfold clearPodPeaks
  refine Keep.step (modPod_keep _ _) rfl ?_
  exact Keep.refl _ _

theorem podStall_keep (a0) : Keep 1024 a0 (podStall a0) := by
  unfold podStall
  extract_lets -merge -underBinder +onlyGivenNames z1
  refine Keep.foldl ?_ _ ?_
  · intro y2 x3
    refine Keep.step (modPodLink_keep _ _ _) rfl ?_
    exact Keep.refl _ _
  · exact Keep.refl _ _

theorem flowPut_keep (a0) (a1) (a2) : Keep 1024 a2 (flowPut a0 a1 a2) := by
  unfold flowPut
  extract_lets -merge -underBinder +onlyGivenNames z1 z2
  refine Keep.step (podPeak_keep _ _ _) rfl ?_
  refine Keep.step (modTx_keep _ _ _ _ _) rfl ?_
  refine Keep.step (modPod_keep _ _) rfl ?_
  exact Keep.refl _ _

theorem podWait_keep (a0) (a1) (a2) (a3) (a4) (a5) : Keep 1024 a5 (podWait a0 a1 a2 a3 a4 a5) := by
  unfold podWait
  refine Keep.step (modPod_keep _ _) rfl ?_
  exact Keep.refl _ _

theorem podSend_keep (a0) (a1) (a2) (a3) (a4) (a5) : Keep 1024 a5 (podSend a0 a1 a2 a3 a4 a5) := by
  unfold podSend
  split
  · refine Keep.step (flowPut_keep _ _ _) rfl ?_
    exact Keep.refl _ _
  · refine Keep.step (podWait_keep _ _ _ _ _ _) rfl ?_
    exact Keep.refl _ _

theorem modFeedSt_keep (a0) (a1) (a2) : Keep 2048 a2 (modFeedSt a0 a1 a2) := by
  unfold modFeedSt
  refine Keep.step (modFoc_keep _ _) rfl ?_
  exact Keep.refl _ _

theorem modElem_keep (a0) (a1) (a2) : Keep 2048 a2 (modElem a0 a1 a2) := by
  unfold modElem
  refine Keep.step (modFoc_keep _ _) rfl ?_
  exact Keep.refl _ _

theorem flowReq_keep (a0) (a1) (a2) : KeepO 1024 a2 (flowReq a0 a1 a2) := by
  unfold flowReq
  extract_lets -merge -underBinder +onlyGivenNames z1 z2
  split
  · exact KeepO.none
  · refine KeepO.some ?_
    refine Keep.step (flowPut_keep _ _ _) rfl ?_
    refine Keep.step (modTx_keep _ _ _ _ _) rfl ?_
    exact Keep.refl _ _

theorem xsAccept_keep (a0) (a1) (a2) (a3) : KeepO 4195328 a3 (xsAccept a0 a1 a2 a3) := by
  unfold xsAccept
  split
  · split
    · refine KeepO.some ?_
      refine Keep.step (emit_keep _ _) rfl ?_
      refine Keep.step (modPodLink_keep _ _ _) rfl ?_
      exact Keep.refl _ _
    · exact KeepO.none
  · split
    · exact KeepO.none
    · split
      · exact KeepO.none
      · split
        · refine KeepO.step (flowReq_keep _ _ _) rfl ?_
          exact Keep.refl _ _
        · refine KeepO.some ?_
          refine Keep.step (flowPut_keep _ _ _) rfl ?_
          exact Keep.refl _ _

theorem flowStreamOut_keep (a0) (a1) (a2) (a3) (a4) (a5) : KeepO 1024 a5 (flowStreamOut a0 a1 a2 a3 a4 a5) := by
  unfold flowStreamOut
  split
  · exact KeepO.none
  · split
    · exact KeepO.none
    · extract_lets -merge -underBinder +onlyGivenNames z3 z4
      refine KeepO.some ?_
      refine Keep.step (podPeak_keep _ _ _) rfl ?_
      refine Keep.step (modTx_keep _ _ _ _ _) rfl ?_
      refine Keep.step (modPod_keep _ _) rfl ?_
      exact Keep.refl _ _

theorem modCtx_keep (a0) (a1) (a2) : Keep 256 a2 (modCtx a0 a1 a2) := by
  unfold modCtx
  refine Keep.step (modMst_keep _ _) rfl ?_
  exact Keep.refl _ _

theorem notePeak_keep (a0) (a1) (a2) : Keep 8 a2 (notePeak a0 a1 a2) := by
  unfold notePeak
  extract_lets -merge -underBinder +onlyGivenNames z1 z2 z3
  refine Keep.ite ?_ ?_
  · exact Keep.refl _ _
  · exact Keep.lit (Keep.refl 8 a2) rfl rfl (fun w => w) List.prefix_rfl (Nat.le_refl _) (.inr (fun w => w)) (.inr rfl) (.inr rfl) (.inr rfl) (.inl rfl) (.inr rfl) (.inr rfl) (.inr rfl) (.inr rfl) (.inr rfl) (.inr rfl) (.inr rfl) (.inr rfl) (.inr rfl) (.inr rfl) (.inr rfl) (.inr rfl) (.inr rfl) (.inr rfl) (.inr rfl) (.inr rfl) (.inr rfl) (.inr rfl) (.inr rfl)

theorem sendMsg_keep (a0) (a1) (a2) (a3) (a4) : Keep 8 a4 (sendMsg a0 a1 a2 a3 a4) := by
  unfold sendMsg
  refine Keep.ite ?_ ?_
  · exact Keep.refl _ _
  · extract_lets -merge -underBinder +onlyGivenNames z1
    refine Keep.step (notePeak_keep _ _ _) rfl ?_
    exact Keep.lit (Keep.refl 8 a4) rfl rfl (fun w => w) List.prefix_rfl (Nat.le_refl _) (.inr (fun w => w)) (.inr rfl) (.inr rfl) (.inr rfl) (.inl rfl) (.inr rfl) (.inr rfl) (.inr rfl) (.inr rfl) (.inr rfl) (.inr rfl) (.inr rfl) (.inr rfl) (.inr rfl) (.inr rfl) (.inr rfl) (.inr rfl) (.inr rfl) (.inr rfl) (.inr rfl) (.inr rfl) (.inr rfl) (.inr rfl) (.inr rfl)

theorem sendMulti_keep (a0) (a1) (a2) (a3) (a4) : Keep 8 a4 (sendMulti a0 a1 a2 a3 a4) := by
  unfold sendMulti
  extract_lets -merge -underBinder +onlyGivenNames z1 z2
  have hz2 : Keep 8 a4 z2 := by
    unfold z2
    refine Keep.ite ?_ ?_
    · refine Keep.step (sendMsg_keep _ _ _ _ _) rfl ?_
      exact Keep.refl _ _
    · exact Keep.refl _ _
  clear_value z2
  clear_value z1
  split
  · exact hz2
  · refine Keep.step (sendMsg_keep _ _ _ _ _) rfl ?_
    exact hz2
  · extract_lets -merge -underBinder +onlyGivenNames z6
    refine Keep.foldl ?_ _ ?_
    · intro y7 x8
      refine Keep.step (sendMsg_keep _ _ _ _ _) rfl ?_
      exact Keep.refl _ _
    · exact hz2

theorem takeCredits_keep (a0) (a1) (a2) (a3) (a4) : Keep 8 a4 (takeCredits a0 a1 a2 a3 a4) := by
  unfold takeCredits
  exact Keep.lit (Keep.refl 8 a4) rfl rfl (fun w => w) List.prefix_rfl (Nat.le_refl _) (.inr (fun w => w)) (.inr rfl) (.inr rfl) (.inr rfl) (.inl rfl) (.inr rfl) (.inr rfl) (.inr rfl) (.inr rfl) (.inr rfl) (.inr rfl) (.inr rfl) (.inr rfl) (.inr rfl) (.inr rfl) (.inr rfl) (.inr rfl) (.inr rfl) (.inr rfl) (.inr rfl) (.inr rfl) (.inr rfl) (.inr rfl) (.inr rfl)

theorem flowParts_keep (a0) (a1) (a2) (a3) : Keep 1024 a3 (flowParts a0 a1 a2 a3) := by
  unfold flowParts
  refine Keep.ite ?_ ?_
  · exact Keep.refl _ _
  · refine Keep.step (modPod_keep _ _) rfl ?_
    exact Keep.refl _ _

theorem flowDelivered_keep (a0) (a1) (a2) : Keep 1024 a2 (flowDelivered a0 a1 a2) := by
  unfold flowDelivered
  refine Keep.step (modPod_keep _ _) rfl ?_
  exact Keep.refl _ _

theorem returnCredits_keep (a0) (a1) (a2) (a3) (a4) : Keep 1032 a4 (returnCredits a0 a1 a2 a3 a4) := by
  unfold returnCredits
  extract_lets -merge -underBinder +onlyGivenNames z1 q2 z3
  have hz3 : Keep 1032 a4 z3 := by
    unfold z3
    exact Keep.lit (Keep.refl 1032 a4) rfl rfl (fun w => w) List.prefix_rfl (Nat.le_refl _) (.inr (fun w => w)) (.inr rfl) (.inr rfl) (.inr rfl) (.inl rfl) (.inr rfl) (.inr rfl) (.inr rfl) (.inr rfl) (.inr rfl) (.inr rfl) (.inr rfl) (.inr rfl) (.inr rfl) (.inr rfl) (.inr rfl) (.inr rfl) (.inr rfl) (.inr rfl) (.inr rfl) (.inr rfl) (.inr rfl) (.inr rfl) (.inr rfl)
  clear_value z3
  refine Keep.foldl ?_ _ ?_
  · intro y4 x5
    refine Keep.step (flowDelivered_keep _ _ _) rfl ?_
    exact Keep.refl _ _
  · exact hz3

theorem freeSlots_keep (a0) (a1) (a2) (a3) (a4) : Keep 1032 a4 (freeSlots a0 a1 a2 a3 a4) := by
  unfold freeSlots
  refine Keep.ite ?_ ?_
  · refine Keep.step (returnCredits_keep _ _ _ _ _) rfl ?_
    exact Keep.refl _ _
  · exact Keep.lit (Keep.refl 1032 a4) rfl rfl (fun w => w) List.prefix_rfl (Nat.le_refl _) (.inr (fun w => w)) (.inr rfl) (.inr rfl) (.inr rfl) (.inl rfl) (.inr rfl) (.inr rfl) (.inr rfl) (.inr rfl) (.inr rfl) (.inr rfl) (.inr rfl) (.inr rfl) (.inr rfl) (.inr rfl) (.inr rfl) (.inr rfl) (.inr rfl) (.inr rfl) (.inr rfl) (.inr rfl) (.inr rfl) (.inr rfl) (.inr rfl)

theorem launch_keep (a0) (a1) (a2) (a3) : Keep 8 a3 (launch a0 a1 a2 a3) := by
  unfold launch
  refine Keep.foldl ?_ _ ?_
  · intro y1 x2
    split
    · extract_lets -merge -underBinder +onlyGivenNames z4
      have hz4 : Keep 8 y1 z4 := by
        unfold z4
        refine Keep.step (takeCredits_keep _ _ _ _ _) rfl ?_
        exact Keep.refl _ _
      clear_value z4
      exact Keep.lit hz4 rfl rfl (fun w => w) List.prefix_rfl (Nat.le_refl _) (.inr (fun w => w)) (.inr rfl) (.inr rfl) (.inr rfl) (.inl rfl) (.inr rfl) (.inr rfl) (.inr rfl) (.inr rfl) (.inr rfl) (.inr rfl) (.inr rfl) (.inr rfl) (.inr rfl) (.inr rfl) (.inr rfl) (.inr rfl) (.inr rfl) (.inr rfl) (.inr rfl) (.inr rfl) (.inr rfl) (.inr rfl) (.inr rfl)
    · exact Keep.refl _ _
  · exact Keep.refl _ _

theorem stampReq_keep (a0) (a1) (a2) : Keep 16 a2 (stampReq a0 a1 a2) := by
  unfold stampReq
  split
  · refine Keep.ite ?_ ?_
    · split
      · refine Keep.ite ?_ ?_
        · refine Keep.step (modMem_keep _ _ (fun _ w => w)) rfl ?_
          exact Keep.refl _ _
        · exact Keep.refl _ _
      · exact Keep.refl _ _
    · exact Keep.refl _ _
  · exact Keep.refl _ _

theorem takeHead_keep (a0) (a1) (a2) (a3) : Keep 24 a3 (takeHead a0 a1 a2 a3).2 := by
  unfold takeHead
  extract_lets -merge -underBinder +onlyGivenNames z1
  have hz1 : Keep 24 a3 z1 := by
    unfold z1
    split
    · refine Keep.ite ?_ ?_
      · exact Keep.refl _ _
      · refine Keep.step (launch_keep _ _ _ _) rfl ?_
        exact Keep.refl _ _
    · exact Keep.refl _ _
  clear_value z1
  split
  · exact hz1
  · extract_lets -merge -underBinder +onlyGivenNames z8
    have hz8 : Keep 24 a3 z8 := by
      unfold z8
      refine Keep.ite ?_ ?_
      · exact hz1
      · refine Keep.step (takeCredits_keep _ _ _ _ _) rfl ?_
        exact hz1
    clear_value z8
    refine Keep.step (stampReq_keep _ _ _) rfl ?_
    exact Keep.lit hz8 rfl rfl (fun w => w) List.prefix_rfl (Nat.le_refl _) (.inr (fun w => w)) (.inr rfl) (.inr rfl) (.inr rfl) (.inl rfl) (.inr rfl) (.inr rfl) (.inr rfl) (.inr rfl) (.inr rfl) (.inr rfl) (.inr rfl) (.inr rfl) (.inr rfl) (.inr rfl) (.inr rfl) (.inr rfl) (.inr rfl) (.inr rfl) (.inr rfl) (.inr rfl) (.inr rfl) (.inr rfl) (.inr rfl)

theorem sendFwd_keep (a0) (a1) (a2) (a3) (a4) (a5) (a6) : Keep 8 a6 (sendFwd a0 a1 a2 a3 a4 a5 a6) := by
  unfold sendFwd
  extract_lets -merge -underBinder +onlyGivenNames z1 z2
  refine Keep.foldl ?_ _ ?_
  · intro y3 x4
    refine Keep.step (sendMsg_keep _ _ _ _ _) rfl ?_
    exact Keep.refl _ _
  · refine Keep.step (sendMsg_keep _ _ _ _ _) rfl ?_
    exact Keep.refl _ _

theorem putRx_keep (a0) (a1) (a2) (a3) (a4) : Keep 8 a4 (putRx a0 a1 a2 a3 a4) := by
  unfold putRx
  exact Keep.lit (Keep.refl 8 a4) rfl rfl (fun w => w) List.prefix_rfl (Nat.le_refl _) (.inr (fun w => w)) (.inr rfl) (.inr rfl) (.inr rfl) (.inl rfl) (.inr rfl) (.inr rfl) (.inr rfl) (.inr rfl) (.inr rfl) (.inr rfl) (.inr rfl) (.inr rfl) (.inr rfl) (.inr rfl) (.inr rfl) (.inr rfl) (.inr rfl) (.inr rfl) (.inr rfl) (.inr rfl) (.inr rfl) (.inr rfl) (.inr rfl)

theorem takeRx_keep (a0) (a1) (a2) (a3) (a4) : Keep 1032 a4 (takeRx a0 a1 a2 a3 a4) := by
  unfold takeRx
  refine Keep.step (freeSlots_keep _ _ _ _ _) rfl ?_
  exact Keep.lit (Keep.refl 1032 a4) rfl rfl (fun w => w) List.prefix_rfl (Nat.le_refl _) (.inr (fun w => w)) (.inr rfl) (.inr rfl) (.inr rfl) (.inl rfl) (.inr rfl) (.inr rfl) (.inr rfl) (.inr rfl) (.inr rfl) (.inr rfl) (.inr rfl) (.inr rfl) (.inr rfl) (.inr rfl) (.inr rfl) (.inr rfl) (.inr rfl) (.inr rfl) (.inr rfl) (.inr rfl) (.inr rfl) (.inr rfl) (.inr rfl)

theorem noteLines_keep (a0) (a1) (a2) : Keep 8192 a2 (noteLines a0 a1 a2) := by
  unfold noteLines
  refine Keep.step (modGaf_keep _ _) rfl ?_
  exact Keep.refl _ _

theorem noteBytes_keep (a0) (a1) (a2) : Keep 8192 a2 (noteBytes a0 a1 a2) := by
  unfold noteBytes
  refine Keep.step (modGaf_keep _ _) rfl ?_
  exact Keep.refl _ _

theorem modMs_keep (a0) (a1) (a2) : Keep 16 a2 (modMs a0 a1 a2) := by
  unfold modMs
  refine Keep.step (modMem_keep _ _ (fun _ w => w)) rfl ?_
  exact Keep.refl _ _

theorem setPoison_keep (a0) (a1) (a2) : Keep 16 a2 (setPoison a0 a1 a2) := by
  unfold setPoison
  extract_lets -merge -underBinder +onlyGivenNames z1
  refine Keep.step (modMem_keep _ _ (fun _ w => w)) rfl ?_
  exact Keep.refl _ _

theorem poolWrite_keep (a0) (a1) (a2) (a3) (a4) : Keep 16 a4 (poolWrite a0 a1 a2 a3 a4) := by
  unfold poolWrite
  extract_lets -merge -underBinder +onlyGivenNames z1
  have hz1 : Keep 16 a4 z1 := by
    unfold z1
    refine Keep.step (modMem_keep _ _ (by intro x w; first | exact lineSet_wf _ _ _ _ w | exact wordSet_wf _ _ _ w | exact cellsClear_wf _ _ _ w | exact filter_wf _ _ w)) rfl ?_
    exact Keep.refl _ _
  clear_value z1
  refine Keep.ite ?_ ?_
  · refine Keep.step (setPoison_keep _ _ _) rfl ?_
    exact hz1
  · exact hz1

theorem fireWatch_keep (a0) (a1) (a2) : Keep 128 a2 (fireWatch a0 a1 a2) := by
  unfold fireWatch
  extract_lets -merge -underBinder +onlyGivenNames z1 z2
  refine Keep.step (modGrp_keep _ _) rfl ?_
  exact Keep.refl _ _

theorem evalWatches_keep (a0) (a1) : Keep 128 a1 (evalWatches a0 a1) := by
  unfold evalWatches
  extract_lets -merge -underBinder +onlyGivenNames z1 z2
  refine Keep.foldl ?_ _ ?_
  · intro y3 x4
    refine Keep.step (fireWatch_keep _ _ _) rfl ?_
    exact Keep.refl _ _
  · exact Keep.refl _ _

theorem millWrite_keep (a0) (a1) (a2) (a3) (a4) : Keep 144 a4 (millWrite a0 a1 a2 a3 a4) := by
  unfold millWrite
  extract_lets -merge -underBinder +onlyGivenNames z1 z2
  have hz2 : Keep 144 a4 z2 := by
    unfold z2
    refine Keep.step (modMem_keep _ _ (by intro x w; first | exact lineSet_wf _ _ _ _ w | exact wordSet_wf _ _ _ w | exact cellsClear_wf _ _ _ w | exact filter_wf _ _ w)) rfl ?_
    exact Keep.refl _ _
  clear_value z2
  refine Keep.foldl ?_ _ ?_
  · intro y3 x4
    refine Keep.step (evalWatches_keep _ _) rfl ?_
    exact Keep.refl _ _
  · exact hz2

theorem millWordWrite_keep (a0) (a1) (a2) : Keep 144 a2 (millWordWrite a0 a1 a2) := by
  unfold millWordWrite
  extract_lets -merge -underBinder +onlyGivenNames z1
  have hz1 : Keep 144 a2 z1 := by
    unfold z1
    refine Keep.step (modMem_keep _ _ (by intro x w; first | exact lineSet_wf _ _ _ _ w | exact wordSet_wf _ _ _ w | exact cellsClear_wf _ _ _ w | exact filter_wf _ _ w)) rfl ?_
    exact Keep.refl _ _
  clear_value z1
  refine Keep.step (evalWatches_keep _ _) rfl ?_
  exact hz1

theorem bankCorrected_keep (a0) (a1) : Keep 2113600 a1 (bankCorrected a0 a1) := by
  unfold bankCorrected
  refine Keep.step (raise_keep _ _ _ _ _) rfl ?_
  refine Keep.step (modMpd_keep _ _) rfl ?_
  exact Keep.refl _ _

theorem bankUncorrectable_keep (a0) (a1) : Keep 2113600 a1 (bankUncorrectable a0 a1) := by
  unfold bankUncorrectable
  refine Keep.step (raise_keep _ _ _ _ _) rfl ?_
  refine Keep.step (modFlt_keep _ _ (fun _ w => w)) rfl ?_
  refine Keep.step (modMpd_keep _ _) rfl ?_
  exact Keep.refl _ _

theorem millMeet_keep (a0) (a1) : Keep 2113600 a1 (millMeet a0 a1) := by
  unfold millMeet
  refine Keep.foldl ?_ _ ?_
  · intro y1 x2
    refine Keep.step (bankUncorrectable_keep _ _) rfl ?_
    exact Keep.refl _ _
  · exact Keep.refl _ _

theorem unitRead_keep (a0) (a1) : Keep 2113600 a1 (unitRead a0 a1).2 := by
  unfold unitRead
  refine Keep.ite ?_ ?_
  · exact Keep.refl _ _
  · refine Keep.step (millMeet_keep _ _) rfl ?_
    exact Keep.refl _ _

theorem ownerTurn_keep (a0) (a1) (a2) (a3) : Keep 64 a3 (ownerTurn a0 a1 a2 a3) := by
  unfold ownerTurn
  refine Keep.ite ?_ ?_
  · refine Keep.step (modMpd_keep _ _) rfl ?_
    exact Keep.refl _ _
  · exact Keep.refl _ _

theorem millCheck_keep (a0) (a1) (a2) : Keep 2113616 a2 (millCheck a0 a1 a2) := by
  unfold millCheck
  extract_lets -merge -underBinder +onlyGivenNames z1
  split
  · exact Keep.refl _ _
  · refine Keep.step (bankCorrected_keep _ _) rfl ?_
    exact Keep.refl _ _
  · refine Keep.step (modMem_keep _ _ (fun _ w => w)) rfl ?_
    exact Keep.refl _ _
  · refine Keep.foldl ?_ _ ?_
    · intro y7 x8
      refine Keep.ite ?_ ?_
      · exact Keep.refl _ _
      · refine Keep.ite ?_ ?_
        · refine Keep.step (bankCorrected_keep _ _) rfl ?_
          exact Keep.refl _ _
        · refine Keep.step (modMem_keep _ _ (fun _ w => w)) rfl ?_
          exact Keep.refl _ _
    · exact Keep.refl _ _

theorem stackRead_keep (a0) (a1) (a2) : Keep 16 a2 (stackRead a0 a1 a2).2 := by
  unfold stackRead
  split
  · dsimp only
    refine Keep.step (modMem_keep _ _ (fun _ w => w)) rfl ?_
    refine Keep.ite ?_ ?_
    · refine Keep.step (modMs_keep _ _ _) rfl ?_
      exact Keep.refl _ _
    · exact Keep.refl _ _
  · exact Keep.refl _ _
  · exact Keep.refl _ _

theorem poolCheck_keep (a0) (a1) (a2) : Keep 2113552 a2 (poolCheck a0 a1 a2) := by
  unfold poolCheck
  extract_lets -merge -underBinder +onlyGivenNames z1 z2
  have hz1 : Keep 2113552 a2 z1.2 := by
    unfold z1
    refine Keep.step (stackRead_keep _ _ _) rfl ?_
    exact Keep.refl _ _
  clear_value z1
  have hz2 : Keep 2113552 a2 z2 := by
    unfold z2
    exact hz1
  clear_value z2
  split
  · refine Keep.ite ?_ ?_
    · exact hz2
    · refine Keep.step (raise_keep _ _ _ _ _) rfl ?_
      refine Keep.step (modMem_keep _ _ (fun _ w => w)) rfl ?_
      refine Keep.step (setPoison_keep _ _ _) rfl ?_
      refine Keep.step (modMs_keep _ _ _) rfl ?_
      exact hz2
  · refine Keep.step (modMs_keep _ _ _) rfl ?_
    exact hz2
  · exact hz2

theorem poolRead_keep (a0) (a1) (a2) : Keep 2113552 a2 (poolRead a0 a1 a2).2 := by
  unfold poolRead
  extract_lets -merge -underBinder +onlyGivenNames z1
  have hz1 : Keep 2113552 a2 z1 := by
    unfold z1
    refine Keep.step (poolCheck_keep _ _ _) rfl ?_
    exact Keep.refl _ _
  clear_value z1
  exact hz1

theorem poolMend_keep (a0) (a1) (a2) : Keep 2113552 a2 (poolMend a0 a1 a2) := by
  unfold poolMend
  extract_lets -merge -underBinder +onlyGivenNames z1
  have hz1 : Keep 2113552 a2 z1 := by
    unfold z1
    refine Keep.step (poolCheck_keep _ _ _) rfl ?_
    exact Keep.refl _ _
  clear_value z1
  split
  · exact hz1
  · refine Keep.step (modMem_keep _ _ (by intro x w; dsimp only; first | exact lineSet_wf _ _ _ _ w | exact wordSet_wf _ _ _ w | exact cellsClear_wf _ _ _ w | exact filter_wf _ _ w)) rfl ?_
    exact hz1

theorem nextFree_keep (a0) : Keep 16 a0 (nextFree a0).2 := by
  unfold nextFree
  dsimp only
  exact modMem_keep _ _ (fun _ w => w)

theorem contMismatch_keep (a0) : Keep 16384 a0 (contMismatch a0) := by
  unfold contMismatch
  refine Keep.step (raiseRated_keep _ _ _ _ _ _ _) rfl ?_
  exact Keep.refl _ _

theorem contChange_keep (a0) (a1) (h : ∀ x : RoleSt, x.enrolled <+: (a0 x).enrolled) : Keep 81920 a1 (contChange a0 a1) := by
  unfold contChange
  extract_lets -merge -underBinder +onlyGivenNames z1
  have hz1 : Keep 81920 a1 z1 := by
    unfold z1
    refine Keep.step (modRole_keep _ _ h) rfl ?_
    exact Keep.refl _ _
  clear_value z1
  refine Keep.ite ?_ ?_
  · refine Keep.step (contMismatch_keep _) rfl ?_
    exact hz1
  · exact hz1

theorem modQueue_keep (a0) (a1) (a2) : Keep 128 a2 (modQueue a0 a1 a2) := by
  unfold modQueue
  refine Keep.step (modGrp_keep _ _) rfl ?_
  exact Keep.refl _ _

theorem setCtl_keep (a0) (a1) (a2) (a3) : Keep 144 a3 (setCtl a0 a1 a2 a3) := by
  unfold setCtl
  refine Keep.step (millWordWrite_keep _ _ _) rfl ?_
  exact Keep.refl _ _

theorem takeDescs_keep : ∀ a0 a1 a2 a3, Keep 2113744 a3 (takeDescs a0 a1 a2 a3)
  | b0, b1, 0, b2 => by
    rw [takeDescs.eq_1]
    exact Keep.refl _ _
  | b0, b1, (b3 + 1), b2 => by
    rw [takeDescs.eq_2]
    refine Keep.step (takeDescs_keep _ _ _ _) rfl ?_
    refine Keep.step (setCtl_keep _ _ _ _) rfl ?_
    refine Keep.step (modGrp_keep _ _) rfl ?_
    refine Keep.step (unitRead_keep _ _) rfl ?_
    exact Keep.refl _ _

theorem doorbell_keep (a0) (a1) (a2) : Keep 2113744 a2 (doorbell a0 a1 a2) := by
  unfold doorbell
  refine Keep.ite ?_ ?_
  · exact Keep.refl _ _
  · extract_lets -merge -underBinder +onlyGivenNames z1 z2
    have hz2 : Keep 2113744 a2 z2 := by
      unfold z2
      refine Keep.step (millMeet_keep _ _) rfl ?_
      exact Keep.refl _ _
    clear_value z2
    refine Keep.ite ?_ ?_
    · refine Keep.step (raise_keep _ _ _ _ _) rfl ?_
      refine Keep.step (modQueue_keep _ _ _) rfl ?_
      exact hz2
    · refine Keep.step (takeDescs_keep _ _ _ _) rfl ?_
      exact hz2

theorem afterMill_keep (a0) (a1) (a2) (a3) : Keep 2113744 a3 (afterMill a0 a1 a2 a3) := by
  unfold afterMill
  split
  · refine Keep.ite ?_ ?_
    · refine Keep.step (doorbell_keep _ _ _) rfl ?_
      exact Keep.refl _ _
    · exact Keep.refl _ _
  · exact Keep.refl _ _

theorem ctlCount_keep (a0) (a1) (a2) : Keep 2113744 a2 (ctlCount a0 a1 a2) := by
  unfold ctlCount
  extract_lets -merge -underBinder +onlyGivenNames z1
  refine Keep.ite ?_ ?_
  · refine Keep.step (bankUncorrectable_keep _ _) rfl ?_
    exact Keep.refl _ _
  · refine Keep.step (millWordWrite_keep _ _ _) rfl ?_
    exact Keep.refl _ _

theorem counterAdd_keep (a0) (a1) (a2) (a3) : Keep 2113744 a3 (counterAdd a0 a1 a2 a3).2 := by
  unfold counterAdd
  split
  · exact Keep.refl _ _
  · split
    · exact Keep.refl _ _
    · split
      · refine Keep.step (bankUncorrectable_keep _ _) rfl ?_
        exact Keep.refl _ _
      · split
        · refine Keep.ite ?_ ?_
          · refine Keep.step (doorbell_keep _ _ _) rfl ?_
            refine Keep.step (millWordWrite_keep _ _ _) rfl ?_
            exact Keep.refl _ _
          · exact Keep.refl _ _
        · refine Keep.step (millWordWrite_keep _ _ _) rfl ?_
          exact Keep.refl _ _

theorem mirror_keep (a0) (a1) (a2) (a3) (a4) : Keep 32776 a4 (mirror a0 a1 a2 a3 a4) := by
  unfold mirror
  extract_lets -merge -underBinder +onlyGivenNames z1 z2 z3
  refine Keep.step (sendMsg_keep _ _ _ _ _) rfl ?_
  refine Keep.step (modPair_keep _ _) rfl ?_
  exact Keep.refl _ _

theorem fwdStep_keep (a0) (a1) (a2) : Keep 8 a2 (fwdStep a0 a1 a2) := by
  unfold fwdStep
  refine Keep.step (modMrc_keep _ _) rfl ?_
  exact Keep.refl _ _

theorem fwdToFlow_keep (a0) (a1) (a2) (a3) : KeepO 1032 a3 (fwdToFlow a0 a1 a2 a3) := by
  unfold fwdToFlow
  split
  · exact KeepO.none
  · split
    · split
      · extract_lets -merge -underBinder +onlyGivenNames z5
        refine KeepO.some ?_
        refine Keep.step (flowPut_keep _ _ _) rfl ?_
        refine Keep.step (modMrc_keep _ _) rfl ?_
        exact Keep.refl _ _
      · exact KeepO.none
    · split
      · split
        · refine KeepO.some ?_
          refine Keep.step (fwdStep_keep _ _ _) rfl ?_
          refine Keep.step (flowPut_keep _ _ _) rfl ?_
          exact Keep.refl _ _
        · exact KeepO.none
      · exact KeepO.none
    · exact KeepO.none

theorem fwdToSite_keep (a0) (a1) (a2) (a3) (a4) : KeepO 520 a4 (fwdToSite a0 a1 a2 a3 a4) := by
  unfold fwdToSite
  split
  · split
    · refine KeepO.some ?_
      refine Keep.step (modMrc_keep _ _) rfl ?_
      exact Keep.refl _ _
    · refine KeepO.some ?_
      refine Keep.step (modMrc_keep _ _) rfl ?_
      exact Keep.refl _ _
    · exact KeepO.none
  · split
    · exact KeepO.none
    · split
      · split
        · exact KeepO.none
        · refine KeepO.some ?_
          refine Keep.step (modMrc_keep _ _) rfl ?_
          refine Keep.step (siteDeliver_keep _ _ _ _) rfl ?_
          exact Keep.refl _ _
      · split
        · split
          · refine KeepO.some ?_
            refine Keep.step (fwdStep_keep _ _ _) rfl ?_
            refine Keep.step (siteDeliver_keep _ _ _ _) rfl ?_
            exact Keep.refl _ _
          · exact KeepO.none
        · exact KeepO.none
      · exact KeepO.none

theorem autoDeliver_keep (a0) (a1) (a2) (a3) (a4) : Keep 4195848 a4 (autoDeliver a0 a1 a2 a3 a4) := by
  unfold autoDeliver
  split
  · split
    next p2 e =>
      have h3 : Keep 4195848 a4 p2 := by
        refine Keep.ofOpt e ?_
        split
        · refine KeepO.step (fwdToFlow_keep _ _ _ _) rfl ?_
          exact Keep.refl _ _
        · refine KeepO.step (xsAccept_keep _ _ _ _) rfl ?_
          exact Keep.refl _ _
      refine Keep.step (takeRx_keep _ _ _ _ _) rfl ?_
      exact h3
    · exact Keep.refl _ _
  · extract_lets -merge -underBinder +onlyGivenNames z6
    refine Keep.ite ?_ ?_
    · split
      · refine Keep.ite ?_ ?_
        · refine Keep.step (takeRx_keep _ _ _ _ _) rfl ?_
          exact Keep.refl _ _
        · refine Keep.ite ?_ ?_
          · refine Keep.step (takeRx_keep _ _ _ _ _) rfl ?_
            refine Keep.step (siteDeliver_keep _ _ _ _) rfl ?_
            exact Keep.refl _ _
          · exact Keep.refl _ _
      · exact Keep.refl _ _
    · refine Keep.ite ?_ ?_
      · split
        next p9 e =>
          have h10 : Keep 4195848 a4 p9 := by
            refine Keep.ofOpt e ?_
            refine KeepO.step (fwdToSite_keep _ _ _ _ _) rfl ?_
            exact Keep.refl _ _
          refine Keep.step (takeRx_keep _ _ _ _ _) rfl ?_
          exact h10
        · exact Keep.refl _ _
      · exact Keep.refl _ _
  · exact Keep.refl _ _

theorem drainRx_keep : ∀ a0 a1 a2 a3 a4, Keep 4195848 a4 (drainRx a0 a1 a2 a3 a4)
  | b0, b1, b2, 0, b3 => by
    rw [drainRx.eq_1]
    exact Keep.refl _ _
  | b0, b1, b2, (b4 + 1), b3 => by
    rw [drainRx.eq_2]
    refine Keep.ite ?_ ?_
    · refine Keep.foldl ?_ _ ?_
      · intro y1 x2
        refine Keep.step (autoDeliver_keep _ _ _ _ _) rfl ?_
        exact Keep.refl _ _
      · exact Keep.refl _ _
    · refine Keep.step (drainRx_keep _ _ _ _ _) rfl ?_
      refine Keep.foldl ?_ _ ?_
      · intro y3 x4
        refine Keep.step (autoDeliver_keep _ _ _ _ _) rfl ?_
        exact Keep.refl _ _
      · exact Keep.refl _ _

theorem combAdmit_keep (a0) (a1) : Keep 1048 a1 (combAdmit a0 a1) := by
  unfold combAdmit
  split
  · refine Keep.foldl ?_ _ ?_
    · intro y3 x4
      refine Keep.foldl ?_ _ ?_
      · intro y5 x6
        split
        · extract_lets -merge -underBinder +onlyGivenNames z8 z9
          refine Keep.ite ?_ ?_
          · exact Keep.refl _ _
          · refine Keep.step (takeRx_keep _ _ _ _ _) rfl ?_
            refine Keep.step (modMem_keep _ _ (fun _ w => w)) rfl ?_
            exact Keep.refl _ _
        · exact Keep.refl _ _
      · exact Keep.refl _ _
    · exact Keep.refl _ _

theorem arrive_keep (a0) (a1) (a2) (a3) (a4) : Keep 4195864 a4 (arrive a0 a1 a2 a3 a4) := by
  unfold arrive
  split
  · refine Keep.foldl ?_ _ ?_
    · intro y4 x5
      refine Keep.step (putRx_keep _ _ _ _ _) rfl ?_
      exact Keep.refl _ _
    · refine Keep.step (putRx_keep _ _ _ _ _) rfl ?_
      exact Keep.refl _ _
  · extract_lets -merge -underBinder +onlyGivenNames z8
    have hz8 : Keep 4195864 a4 z8 := by
      unfold z8
      refine Keep.step (putRx_keep _ _ _ _ _) rfl ?_
      exact Keep.refl _ _
    clear_value z8
    refine Keep.ite ?_ ?_
    · refine Keep.step (combAdmit_keep _ _) rfl ?_
      exact hz8
    · refine Keep.ite ?_ ?_
      · refine Keep.step (drainRx_keep _ _ _ _ _) rfl ?_
        exact hz8
      · refine Keep.step (autoDeliver_keep _ _ _ _ _) rfl ?_
        exact hz8

theorem fillSig_keep : ∀ a0 a1 a2 a3 a4 a5, Keep 24 a5 (fillSig a0 a1 a2 a3 a4 a5).2.2
  | b0, b1, 0, b2, b3, b4 => by
    rw [fillSig.eq_1]
    exact Keep.refl _ _
  | b0, b1, (b5 + 1), b2, b3, b4 => by
    rw [fillSig.eq_2]
    split
    · split
      · split
        next p3 p4 e =>
          have h5 : Keep 24 b4 p4 := by
            refine Keep.ofSnd e ?_
            refine Keep.step (takeHead_keep _ _ _ _) rfl ?_
            exact Keep.refl _ _
          refine Keep.step (fillSig_keep _ _ _ _ _ _) rfl ?_
          exact h5
        next p6 e =>
          have h7 : Keep 24 b4 p6 := by
            refine Keep.ofSnd e ?_
            refine Keep.step (takeHead_keep _ _ _ _) rfl ?_
            exact Keep.refl _ _
          exact h7
      · exact Keep.refl _ _
    · exact Keep.refl _ _

theorem fillRot_keep : ∀ a0 a1 a2 a3 a4 a5 a6, Keep 24 a6 (fillRot a0 a1 a2 a3 a4 a5 a6).2.2
  | b0, b1, 0, b2, b3, b4, b5 => by
    rw [fillRot.eq_1]
    exact Keep.refl _ _
  | b0, b1, (b6 + 1), b2, b3, b4, b5 => by
    rw [fillRot.eq_2]
    split
    · exact Keep.refl _ _
    · extract_lets -merge -underBinder +onlyGivenNames z3
      split
      next p4 p5 e =>
        have h6 : Keep 24 b5 p5 := by
          refine Keep.ofSnd e ?_
          refine Keep.step (takeHead_keep _ _ _ _) rfl ?_
          exact Keep.refl _ _
        refine Keep.step (fillRot_keep _ _ _ _ _ _ _) rfl ?_
        exact h6
      next p7 e =>
        have h8 : Keep 24 b5 p7 := by
          refine Keep.ofSnd e ?_
          refine Keep.step (takeHead_keep _ _ _ _) rfl ?_
          exact Keep.refl _ _
        exact h8

theorem portBytes_keep (a0) (a1) : Keep 8192 a1 (portBytes a0 a1) := by
  unfold portBytes
  refine Keep.foldl ?_ _ ?_
  · intro y1 x2
    refine Keep.ite ?_ ?_
    · exact Keep.refl _ _
    · refine Keep.step (noteBytes_keep _ _ _) rfl ?_
      exact Keep.refl _ _
  · exact Keep.refl _ _

theorem countTx_keep (a0) (a1) (a2) : Keep 8 a2 (countTx a0 a1 a2) := by
  unfold countTx
  refine Keep.step (modMrc_keep _ _) rfl ?_
  exact Keep.refl _ _

theorem countRx_keep (a0) (a1) (a2) : Keep 8 a2 (countRx a0 a1 a2) := by
  unfold countRx
  refine Keep.step (modMrc_keep _ _) rfl ?_
  exact Keep.refl _ _

theorem clearHeader_keep (a0) (a1) (a2) (a3) (a4) : Keep 8 a4 (clearHeader a0 a1 a2 a3 a4) := by
  unfold clearHeader
  extract_lets -merge -underBinder +onlyGivenNames z1 z2
  exact Keep.lit (Keep.refl 8 a4) rfl rfl (fun w => w) List.prefix_rfl (Nat.le_refl _) (.inr (fun w => w)) (.inr rfl) (.inr rfl) (.inr rfl) (.inl rfl) (.inr rfl) (.inr rfl) (.inr rfl) (.inr rfl) (.inr rfl) (.inr rfl) (.inr rfl) (.inr rfl) (.inr rfl) (.inr rfl) (.inr rfl) (.inr rfl) (.inr rfl) (.inr rfl) (.inr rfl) (.inr rfl) (.inr rfl) (.inr rfl) (.inr rfl)

theorem putFlit_keep (a0) (a1) (a2) (a3) (a4) : Keep 8 a4 (putFlit a0 a1 a2 a3 a4) := by
  unfold putFlit
  refine Keep.step (modMrc_keep _ _) rfl ?_
  exact Keep.refl _ _

theorem millraceSend_keep (a0) (a1) (a2) (a3) : Keep 8216 a3 (millraceSend a0 a1 a2 a3) := by
  unfold millraceSend
  extract_lets -merge -underBinder +onlyGivenNames z1
  refine Keep.ite ?_ ?_
  · exact Keep.refl _ _
  · refine Keep.ite ?_ ?_
    · extract_lets -merge -underBinder +onlyGivenNames z2
      refine Keep.step (putFlit_keep _ _ _ _ _) rfl ?_
      refine Keep.step (clearHeader_keep _ _ _ _ _) rfl ?_
      exact Keep.refl _ _
    · split
      · extract_lets -merge -underBinder +onlyGivenNames q5 z6 z7
        have hz6 : Keep 8216 a3 z6 := by
          unfold z6
          exact Keep.lit (Keep.refl 8216 a3) rfl rfl (fun w => w) List.prefix_rfl (Nat.le_refl _) (.inr (fun w => w)) (.inr rfl) (.inr rfl) (.inr rfl) (.inl rfl) (.inr rfl) (.inr rfl) (.inr rfl) (.inr rfl) (.inr rfl) (.inr rfl) (.inr rfl) (.inr rfl) (.inr rfl) (.inr rfl) (.inr rfl) (.inr rfl) (.inr rfl) (.inr rfl) (.inr rfl) (.inr rfl) (.inr rfl) (.inr rfl) (.inr rfl)
        clear_value z6
        split
        next p8 p9 p10 e =>
          have h11 : Keep 8216 a3 p10 := by
            refine Keep.ofSnd2 e ?_
            refine Keep.step (fillSig_keep _ _ _ _ _ _) rfl ?_
            exact hz6
          split
          next p12 p13 p14 e =>
            have h15 : Keep 8216 a3 p14 := by
              refine Keep.ofSnd2 e ?_
              refine Keep.step (fillRot_keep _ _ _ _ _ _ _) rfl ?_
              exact h11
            extract_lets -merge -underBinder +onlyGivenNames z16 z17
            refine Keep.ite ?_ ?_
            · refine Keep.step (putFlit_keep _ _ _ _ _) rfl ?_
              refine Keep.step (clearHeader_keep _ _ _ _ _) rfl ?_
              exact h15
            · extract_lets -merge -underBinder +onlyGivenNames z18 z19
              have hz19 : Keep 8216 a3 z19 := by
                unfold z19
                refine Keep.step (modMrc_keep _ _) rfl ?_
                refine Keep.step (putFlit_keep _ _ _ _ _) rfl ?_
                refine Keep.step (clearHeader_keep _ _ _ _ _) rfl ?_
                exact h15
              clear_value z19
              refine Keep.step (portBytes_keep _ _) rfl ?_
              refine Keep.step (countTx_keep _ _ _) rfl ?_
              exact hz19

theorem execMillraceFlitSend_keep (a0) (a1) (a2) (a3) : ∃ t, execMillraceFlitSend a0 a1 a2 a3 = .next t ∧ Keep 8216 a3 t := by
  unfold execMillraceFlitSend
  refine ⟨_, rfl, ?_⟩
  refine Keep.step (millraceSend_keep _ _ _ _) rfl ?_
  exact Keep.refl _ _

theorem lastLost_keep (a0) (a1) (a2) : Keep 2113544 a2 (lastLost a0 a1 a2) := by
  unfold lastLost
  extract_lets -merge -underBinder +onlyGivenNames z1
  refine Keep.ite ?_ ?_
  · exact Keep.lit (Keep.refl 2113544 a2) rfl rfl (fun w => w) List.prefix_rfl (Nat.le_refl _) (.inr (fun w => w)) (.inr rfl) (.inr rfl) (.inr rfl) (.inl rfl) (.inr rfl) (.inr rfl) (.inr rfl) (.inr rfl) (.inr rfl) (.inr rfl) (.inr rfl) (.inr rfl) (.inr rfl) (.inr rfl) (.inr rfl) (.inr rfl) (.inr rfl) (.inr rfl) (.inr rfl) (.inr rfl) (.inr rfl) (.inr rfl) (.inr rfl)
  · refine Keep.step (raise_keep _ _ _ _ _) rfl ?_
    refine Keep.step (modMrc_keep _ _) rfl ?_
    exact Keep.refl _ _

theorem resendFrom_keep (a0) (a1) (a2) (a3) : Keep 8 a3 (resendFrom a0 a1 a2 a3) := by
  unfold resendFrom
  extract_lets -merge -underBinder +onlyGivenNames z1
  refine Keep.step (modMrc_keep _ _) rfl ?_
  exact Keep.refl _ _

theorem lambdaOut_keep (a0) (a1) (a2) : Keep 2113544 a2 (lambdaOut a0 a1 a2) := by
  unfold lambdaOut
  extract_lets -merge -underBinder +onlyGivenNames z1 z2
  refine Keep.ite ?_ ?_
  · exact Keep.refl _ _
  · extract_lets -merge -underBinder +onlyGivenNames q3 z4
    have hz4 : Keep 2113544 a2 z4 := by
      unfold z4
      exact Keep.lit (Keep.refl 2113544 a2) rfl rfl (fun w => w) List.prefix_rfl (Nat.le_refl _) (.inr (fun w => w)) (.inr rfl) (.inr rfl) (.inr rfl) (.inl rfl) (.inr rfl) (.inr rfl) (.inr rfl) (.inr rfl) (.inr rfl) (.inr rfl) (.inr rfl) (.inr rfl) (.inr rfl) (.inr rfl) (.inr rfl) (.inr rfl) (.inr rfl) (.inr rfl) (.inr rfl) (.inr rfl) (.inr rfl) (.inr rfl) (.inr rfl)
    clear_value z4
    clear_value z2
    split
    · refine Keep.step (raise_keep _ _ _ _ _) rfl ?_
      exact hz4
    · extract_lets -merge -underBinder +onlyGivenNames z7 z8
      have hz7 : Keep 2113544 a2 z7 := by
        unfold z7
        refine Keep.step (modMrc_keep _ _) rfl ?_
        refine Keep.step (resendFrom_keep _ _ _ _) rfl ?_
        exact hz4
      clear_value z7
      have hz8 : Keep 2113544 a2 z8 := by
        unfold z8
        refine Keep.step (raise_keep _ _ _ _ _) rfl ?_
        exact hz7
      clear_value z8
      refine Keep.ite ?_ ?_
      · refine Keep.step (lastLost_keep _ _ _) rfl ?_
        exact hz8
      · exact hz8

theorem execMillraceLambdaOut_keep (a0) (a1) (a2) : ∃ t, execMillraceLambdaOut a0 a1 a2 = .next t ∧ Keep 2113544 a2 t := by
  unfold execMillraceLambdaOut
  refine ⟨_, rfl, ?_⟩
  refine Keep.ite ?_ ?_
  · refine Keep.step (lambdaOut_keep _ _ _) rfl ?_
    exact Keep.refl _ _
  · exact Keep.refl _ _

theorem applyAcks_keep (a0) (a1) (a2) (a3) : Keep 2113544 a3 (applyAcks a0 a1 a2 a3) := by
  unfold applyAcks
  refine Keep.foldl ?_ _ ?_
  · intro y1 x2
    extract_lets -merge -underBinder +onlyGivenNames z3 z4 z5 z6
    refine Keep.ite ?_ ?_
    · extract_lets -merge -underBinder +onlyGivenNames z7 z8
      have hz8 : Keep 2113544 y1 z8 := by
        unfold z8
        refine Keep.step (modMrc_keep _ _) rfl ?_
        exact Keep.refl _ _
      clear_value z8
      refine Keep.ite ?_ ?_
      · refine Keep.step (lambdaOut_keep _ _ _) rfl ?_
        exact hz8
      · exact hz8
    · refine Keep.step (modMrc_keep _ _) rfl ?_
      exact Keep.refl _ _
  · exact Keep.refl _ _

theorem millraceReceive_keep (a0) (a1) (a2) (a3) (a4) : Keep 6317592 a4 (millraceReceive a0 a1 a2 a3 a4) := by
  unfold millraceReceive
  extract_lets -merge -underBinder +onlyGivenNames z1 z2 z3
  split
  · exact Keep.refl _ _
  · refine Keep.ite ?_ ?_
    · exact Keep.refl _ _
    · refine Keep.ite ?_ ?_
      · extract_lets -merge -underBinder +onlyGivenNames z7 z8
        have hz8 : Keep 6317592 a4 z8 := by
          unfold z8
          refine Keep.step (modMrc_keep _ _) rfl ?_
          exact Keep.refl _ _
        clear_value z8
        refine Keep.ite ?_ ?_
        · refine Keep.step (lambdaOut_keep _ _ _) rfl ?_
          exact hz8
        · exact hz8
      · split
        · refine Keep.step (applyAcks_keep _ _ _ _) rfl ?_
          refine Keep.step (modMrc_keep _ _) rfl ?_
          exact Keep.refl _ _
        · refine Keep.ite ?_ ?_
          · extract_lets -merge -underBinder +onlyGivenNames z11
            refine Keep.step (applyAcks_keep _ _ _ _) rfl ?_
            refine Keep.step (modMrc_keep _ _) rfl ?_
            exact Keep.refl _ _
          · extract_lets -merge -underBinder +onlyGivenNames z12 z13 z16 z17
            have hz12 : Keep 6317592 a4 z12 := by
              unfold z12
              refine Keep.step (modMrc_keep _ _) rfl ?_
              exact Keep.refl _ _
            clear_value z12
            have hz13 : Keep 6317592 a4 z13 := by
              unfold z13
              refine Keep.foldl ?_ _ ?_
              · intro y14 x15
                refine Keep.step (returnCredits_keep _ _ _ _ _) rfl ?_
                exact Keep.refl _ _
              · exact hz12
            clear_value z13
            have hz16 : Keep 6317592 a4 z16 := by
              unfold z16
              refine Keep.step (applyAcks_keep _ _ _ _) rfl ?_
              exact hz13
            clear_value z16
            have hz17 : Keep 6317592 a4 z17 := by
              unfold z17
              refine Keep.step (portBytes_keep _ _) rfl ?_
              refine Keep.step (countRx_keep _ _ _) rfl ?_
              exact hz16
            clear_value z17
            refine Keep.foldl ?_ _ ?_
            · intro y18 x19
              refine Keep.step (arrive_keep _ _ _ _ _) rfl ?_
              exact Keep.refl _ _
            · exact hz17

theorem execMillraceFlitReceive_keep (a0) (a1) (a2) (a3) (a4) : ∃ t, execMillraceFlitReceive a0 a1 a2 a3 a4 = .next t ∧ Keep 6317592 a4 t := by
  unfold execMillraceFlitReceive
  refine ⟨_, rfl, ?_⟩
  refine Keep.step (millraceReceive_keep _ _ _ _ _) rfl ?_
  exact Keep.refl _ _

theorem selfDeliver_keep (a0) (a1) (a2) : Keep 4195864 a2 (selfDeliver a0 a1 a2) := by
  unfold selfDeliver
  refine Keep.ite ?_ ?_
  · split
    next p1 p2 e =>
      have h3 : Keep 4195864 a2 p2 := by
        refine Keep.ofSnd e ?_
        refine Keep.step (takeHead_keep _ _ _ _) rfl ?_
        exact Keep.refl _ _
      refine Keep.step (arrive_keep _ _ _ _ _) rfl ?_
      exact h3
    next p4 e =>
      have h5 : Keep 4195864 a2 p4 := by
        refine Keep.ofSnd e ?_
        refine Keep.step (takeHead_keep _ _ _ _) rfl ?_
        exact Keep.refl _ _
      exact h5
  · exact Keep.refl _ _

theorem execSelfDelivery_keep (a0) (a1) (a2) : ∃ t, execSelfDelivery a0 a1 a2 = .next t ∧ Keep 4195864 a2 t := by
  unfold execSelfDelivery
  refine ⟨_, rfl, ?_⟩
  refine Keep.step (selfDeliver_keep _ _ _) rfl ?_
  exact Keep.refl _ _

theorem spareRemapDone_keep (a0) (a1) (a2) : Keep 8 a2 (spareRemapDone a0 a1 a2) := by
  unfold spareRemapDone
  extract_lets -merge -underBinder +onlyGivenNames z1
  refine Keep.ite ?_ ?_
  · exact Keep.lit (Keep.refl 8 a2) rfl rfl (fun w => w) List.prefix_rfl (Nat.le_refl _) (.inr (fun w => w)) (.inr rfl) (.inr rfl) (.inr rfl) (.inl rfl) (.inr rfl) (.inr rfl) (.inr rfl) (.inr rfl) (.inr rfl) (.inr rfl) (.inr rfl) (.inr rfl) (.inr rfl) (.inr rfl) (.inr rfl) (.inr rfl) (.inr rfl) (.inr rfl) (.inr rfl) (.inr rfl) (.inr rfl) (.inr rfl) (.inr rfl)
  · exact Keep.refl _ _

theorem execSpareRemapComplete_keep (a0) (a1) (a2) : ∃ t, execSpareRemapComplete a0 a1 a2 = .next t ∧ Keep 8 a2 t := by
  unfold execSpareRemapComplete
  refine ⟨_, rfl, ?_⟩
  refine Keep.step (spareRemapDone_keep _ _ _) rfl ?_
  exact Keep.refl _ _

theorem clearPeak_keep (a0) (a1) : Keep 8 a1 (clearPeak a0 a1) := by
  unfold clearPeak
  extract_lets -merge -underBinder +onlyGivenNames z1 z2
  exact Keep.lit (Keep.refl 8 a1) rfl rfl (fun w => w) List.prefix_rfl (Nat.le_refl _) (.inr (fun w => w)) (.inr rfl) (.inr rfl) (.inr rfl) (.inl rfl) (.inr rfl) (.inr rfl) (.inr rfl) (.inr rfl) (.inr rfl) (.inr rfl) (.inr rfl) (.inr rfl) (.inr rfl) (.inr rfl) (.inr rfl) (.inr rfl) (.inr rfl) (.inr rfl) (.inr rfl) (.inr rfl) (.inr rfl) (.inr rfl) (.inr rfl)

theorem clearPeaks_keep (a0) : Keep 8 a0 (clearPeaks a0) := by
  unfold clearPeaks
  refine Keep.foldl ?_ _ ?_
  · intro y1 x2
    refine Keep.step (clearPeak_keep _ _) rfl ?_
    exact Keep.refl _ _
  · exact Keep.refl _ _

theorem lambdaBack_keep (a0) (a1) (a2) : Keep 8 a2 (lambdaBack a0 a1 a2) := by
  unfold lambdaBack
  split
  · exact Keep.lit (Keep.refl 8 a2) rfl rfl (fun w => w) List.prefix_rfl (Nat.le_refl _) (.inr (fun w => w)) (.inr rfl) (.inr rfl) (.inr rfl) (.inl rfl) (.inr rfl) (.inr rfl) (.inr rfl) (.inr rfl) (.inr rfl) (.inr rfl) (.inr rfl) (.inr rfl) (.inr rfl) (.inr rfl) (.inr rfl) (.inr rfl) (.inr rfl) (.inr rfl) (.inr rfl) (.inr rfl) (.inr rfl) (.inr rfl) (.inr rfl)
  · extract_lets -merge -underBinder +onlyGivenNames z3 z4
    have hz4 : Keep 8 a2 z4 := by
      unfold z4
      refine Keep.ite ?_ ?_
      · refine Keep.step (resendFrom_keep _ _ _ _) rfl ?_
        exact Keep.refl _ _
      · exact Keep.refl _ _
    clear_value z4
    refine Keep.step (modMrc_keep _ _) rfl ?_
    exact hz4

theorem startFetch_keep (a0) (a1) (a2) (a3) : Keep 32 a3 (startFetch a0 a1 a2 a3) := by
  unfold startFetch
  refine Keep.ite ?_ ?_
  · exact Keep.refl _ _
  · refine Keep.ite ?_ ?_
    · refine Keep.step (modBlk_keep _ _) rfl ?_
      exact Keep.refl _ _
    · split
      · refine Keep.step (modBlk_keep _ _) rfl ?_
        exact Keep.refl _ _
      · refine Keep.step (modBlk_keep _ _) rfl ?_
        exact Keep.refl _ _

theorem startWaiting_keep : ∀ a0 a1, Keep 32 a1 (startWaiting a0 a1)
  | 0, b0 => by
    rw [startWaiting.eq_1]
    exact Keep.refl _ _
  | (b1 + 1), b0 => by
    rw [startWaiting.eq_2]
    split
    · exact Keep.refl _ _
    · refine Keep.ite ?_ ?_
      · exact Keep.refl _ _
      · refine Keep.step (startWaiting_keep _ _) rfl ?_
        refine Keep.step (startFetch_keep _ _ _ _) rfl ?_
        refine Keep.step (modBlk_keep _ _) rfl ?_
        exact Keep.refl _ _

theorem dropReplica_keep (a0) (a1) : Keep 32 a1 (dropReplica a0 a1) := by
  unfold dropReplica
  refine Keep.step (modBlk_keep _ _) rfl ?_
  exact Keep.refl _ _

theorem fetchLine_keep (a0) (a1) (a2) (a3) (a4) : Keep 48 a4 (fetchLine a0 a1 a2 a3 a4) := by
  unfold fetchLine
  extract_lets -merge -underBinder +onlyGivenNames z1
  split
  · exact Keep.refl _ _
  · refine Keep.ite ?_ ?_
    · exact Keep.refl _ _
    · refine Keep.ite ?_ ?_
      · refine Keep.step (startWaiting_keep _ _) rfl ?_
        refine Keep.step (dropReplica_keep _ _) rfl ?_
        exact Keep.refl _ _
      · extract_lets -merge -underBinder +onlyGivenNames z4 z5 z6 z7 z8
        have hz7 : Keep 48 a4 z7 := by
          unfold z7
          refine Keep.step (poolWrite_keep _ _ _ _ _) rfl ?_
          exact Keep.refl _ _
        clear_value z7
        have hz8 : Keep 48 a4 z8 := by
          unfold z8
          refine Keep.step (modBlk_keep _ _) rfl ?_
          exact hz7
        clear_value z8
        refine Keep.ite ?_ ?_
        · refine Keep.step (startWaiting_keep _ _) rfl ?_
          exact hz8
        · exact hz8

theorem finishDesc_keep (a0) (a1) (a2) : Keep 2113752 a2 (finishDesc a0 a1 a2) := by
  unfold finishDesc
  extract_lets -merge -underBinder +onlyGivenNames z1 z2 z3 z6 z5
  have hz3 : Keep 2113752 a2 z3 := by
    unfold z3
    refine Keep.step (modGrp_keep _ _) rfl ?_
    exact Keep.refl _ _
  clear_value z3
  have hz5 : Keep 2113752 a2 z5 := by
    unfold z5
    refine Keep.ite ?_ ?_
    · exact hz3
    · have hz6 : Keep 2113752 a2 z6 := by
        unfold z6
        refine Keep.step (ctlCount_keep _ _ _) rfl ?_
        exact hz3
      clear_value z6
      refine Keep.ite ?_ ?_
      · exact hz6
      · refine Keep.step (setCtl_keep _ _ _ _) rfl ?_
        refine Keep.step (ctlCount_keep _ _ _) rfl ?_
        exact hz6
  clear_value z5
  refine Keep.ite ?_ ?_
  · refine Keep.step (sendMsg_keep _ _ _ _ _) rfl ?_
    exact hz5
  · exact hz5

theorem deliver_keep (a0) (a1) (a2) : Keep 2114552 a2 (deliver a0 a1 a2) := by
  unfold deliver
  split
  · refine Keep.ite ?_ ?_
    · refine Keep.step (siteDeliver_keep _ _ _ _) rfl ?_
      exact Keep.refl _ _
    · refine Keep.step (siteDeliver_keep _ _ _ _) rfl ?_
      exact Keep.refl _ _
  · refine Keep.ite ?_ ?_
    · split
      · refine Keep.step (finishDesc_keep _ _ _) rfl ?_
        exact Keep.refl _ _
      · exact Keep.refl _ _
    · refine Keep.step (modGrp_keep _ _) rfl ?_
      exact Keep.refl _ _
  · extract_lets -merge -underBinder +onlyGivenNames z7 z8
    refine Keep.step (modMst_keep _ _) rfl ?_
    exact Keep.refl _ _
  · refine Keep.step (fetchLine_keep _ _ _ _ _) rfl ?_
    exact Keep.refl _ _
  · exact Keep.refl _ _

theorem violate_keep (a0) (a1) : Keep 2114552 a1 (violate a0 a1) := by
  unfold violate
  refine Keep.step (deliver_keep _ _ _) rfl ?_
  refine Keep.step (modMem_keep _ _ (fun _ w => w)) rfl ?_
  exact Keep.refl _ _

theorem failAccess_keep (a0) (a1) (a2) : Keep 16400 a2 (failAccess a0 a1 a2) := by
  unfold failAccess
  extract_lets -merge -underBinder +onlyGivenNames z1
  refine Keep.step (raiseRated_keep _ _ _ _ _ _ _) rfl ?_
  refine Keep.step (modMem_keep _ _ (fun _ w => w)) rfl ?_
  exact Keep.refl _ _

theorem failNow_keep (a0) (a1) (a2) (a3) : Keep 2114552 a3 (failNow a0 a1 a2 a3) := by
  unfold failNow
  refine Keep.step (deliver_keep _ _ _) rfl ?_
  refine Keep.step (failAccess_keep _ _ _) rfl ?_
  exact Keep.refl _ _

theorem sendReq_keep (a0) (a1) (a2) (a3) (a4) (a5) (a6) : Keep 2114552 a6 (sendReq a0 a1 a2 a3 a4 a5 a6) := by
  unfold sendReq
  extract_lets -merge -underBinder +onlyGivenNames z1
  refine Keep.ite ?_ ?_
  · refine Keep.step (failNow_keep _ _ _ _) rfl ?_
    exact Keep.refl _ _
  · split
    · refine Keep.step (modMem_keep _ _ (fun _ w => w)) rfl ?_
      exact Keep.refl _ _
    · extract_lets -merge -underBinder +onlyGivenNames z4 z5 z6 z7 z8
      have hz6 : Keep 2114552 a6 z6 := by
        unfold z6
        refine Keep.step (modMem_keep _ _ (fun _ w => w)) rfl ?_
        exact Keep.refl _ _
      clear_value z6
      refine Keep.ite ?_ ?_
      · refine Keep.step (sendMsg_keep _ _ _ _ _) rfl ?_
        exact hz6
      · exact hz6

theorem issueLocal_keep (a0) (a1) (a2) (a3) (a4) (a5) : Keep 2114552 a5 (issueLocal a0 a1 a2 a3 a4 a5) := by
  unfold issueLocal
  extract_lets -merge -underBinder +onlyGivenNames z1 z2
  refine Keep.ite ?_ ?_
  · refine Keep.step (failNow_keep _ _ _ _) rfl ?_
    exact Keep.refl _ _
  · split
    · refine Keep.step (violate_keep _ _) rfl ?_
      exact Keep.refl _ _
    · refine Keep.step (sendReq_keep _ _ _ _ _ _ _) rfl ?_
      exact Keep.refl _ _

theorem issueRemote_keep (a0) (a1) (a2) (a3) : Keep 2114552 a3 (issueRemote a0 a1 a2 a3) := by
  unfold issueRemote
  split
  · refine Keep.step (failNow_keep _ _ _ _) rfl ?_
    exact Keep.refl _ _
  · refine Keep.step (sendReq_keep _ _ _ _ _ _ _) rfl ?_
    exact Keep.refl _ _

theorem touch_keep (a0) (a1) (a2) (a3) (a4) : Keep 32 a4 (touch a0 a1 a2 a3 a4) := by
  unfold touch
  extract_lets -merge -underBinder +onlyGivenNames z1 z2
  have hz1 : Keep 32 a4 z1 := by
    unfold z1
    refine Keep.step (modBlk_keep _ _) rfl ?_
    exact Keep.refl _ _
  clear_value z1
  refine Keep.ite ?_ ?_
  · refine Keep.step (startFetch_keep _ _ _ _) rfl ?_
    exact hz1
  · refine Keep.ite ?_ ?_
    · refine Keep.ite ?_ ?_
      · refine Keep.step (modBlk_keep _ _) rfl ?_
        exact hz1
      · refine Keep.ite ?_ ?_
        · exact hz1
        · refine Keep.ite ?_ ?_
          · refine Keep.step (modBlk_keep _ _) rfl ?_
            exact hz1
          · refine Keep.step (modBlk_keep _ _) rfl ?_
            exact hz1
    · exact hz1

theorem issueMem_keep (a0) (a1) : Keep 2147320 a1 (issueMem a0 a1) := by
  unfold issueMem
  extract_lets -merge -underBinder +onlyGivenNames z1 z2 z3 z4 z5 z6 z7 z8
  refine Keep.ite ?_ ?_
  · refine Keep.step (violate_keep _ _) rfl ?_
    exact Keep.refl _ _
  · split
    · refine Keep.ite ?_ ?_
      · refine Keep.step (modPair_keep _ _) rfl ?_
        exact Keep.refl _ _
      · refine Keep.ite ?_ ?_
        · refine Keep.step (issueLocal_keep _ _ _ _ _ _) rfl ?_
          exact Keep.refl _ _
        · refine Keep.step (issueRemote_keep _ _ _ _) rfl ?_
          exact Keep.refl _ _
    · refine Keep.ite ?_ ?_
      · refine Keep.step (issueLocal_keep _ _ _ _ _ _) rfl ?_
        exact Keep.refl _ _
      · split
        · refine Keep.step (issueRemote_keep _ _ _ _) rfl ?_
          exact Keep.refl _ _
        · split
          · extract_lets -merge -underBinder +onlyGivenNames z15 z16
            have hz16 : Keep 2147320 a1 z16 := by
              unfold z16
              refine Keep.step (modBlk_keep _ _) rfl ?_
              exact Keep.refl _ _
            clear_value z16
            refine Keep.step (issueLocal_keep _ _ _ _ _ _) rfl ?_
            exact hz16
          · extract_lets -merge -underBinder +onlyGivenNames z18
            refine Keep.step (issueRemote_keep _ _ _ _) rfl ?_
            refine Keep.ite ?_ ?_
            · exact Keep.refl _ _
            · refine Keep.step (touch_keep _ _ _ _ _) rfl ?_
              exact Keep.refl _ _

theorem gripIssued_keep (a0) (a1) (a2) : Keep 128 a2 (gripIssued a0 a1 a2) := by
  unfold gripIssued
  refine Keep.step (modGrp_keep _ _) rfl ?_
  exact Keep.refl _ _

theorem respond_keep (a0) (a1) (a2) (a3) : Keep 8 a3 (respond a0 a1 a2 a3) := by
  unfold respond
  extract_lets -merge -underBinder +onlyGivenNames z1 z2 z3
  refine Keep.ite ?_ ?_
  · refine Keep.step (putRx_keep _ _ _ _ _) rfl ?_
    exact Keep.refl _ _
  · refine Keep.step (sendMsg_keep _ _ _ _ _) rfl ?_
    exact Keep.refl _ _

theorem failHome_keep (a0) (a1) (a2) : Keep 8 a2 (failHome a0 a1 a2) := by
  unfold failHome
  refine Keep.step (respond_keep _ _ _ _) rfl ?_
  exact Keep.refl _ _

theorem violateHome_keep (a0) (a1) (a2) : Keep 24 a2 (violateHome a0 a1 a2) := by
  unfold violateHome
  refine Keep.step (respond_keep _ _ _ _) rfl ?_
  refine Keep.step (modMem_keep _ _ (fun _ w => w)) rfl ?_
  exact Keep.refl _ _

theorem accept_keep (a0) (a1) (a2) : KeepO 1048 a2 (accept a0 a1 a2) := by
  unfold accept
  split
  · split
    · split
      · refine KeepO.some ?_
        refine Keep.step (combAdmit_keep _ _) rfl ?_
        refine Keep.step (modMs_keep _ _ _) rfl ?_
        exact Keep.refl _ _
      · exact KeepO.none
    · exact KeepO.none
  · split
    · refine KeepO.some ?_
      refine Keep.step (takeRx_keep _ _ _ _ _) rfl ?_
      exact Keep.refl _ _
    · split
      · split
        · split
          · refine KeepO.some ?_
            exact Keep.refl _ _
          · exact KeepO.none
        · exact KeepO.none
      · exact KeepO.none

theorem reissueReplica_keep (a0) (a1) (a2) : Keep 56 a2 (reissueReplica a0 a1 a2) := by
  unfold reissueReplica
  extract_lets -merge -underBinder +onlyGivenNames z1 z2
  have hz2 : Keep 56 a2 z2 := by
    unfold z2
    refine Keep.ite ?_ ?_
    · refine Keep.step (dropReplica_keep _ _) rfl ?_
      exact Keep.refl _ _
    · exact Keep.refl _ _
  clear_value z2
  split
  · exact hz2
  · extract_lets -merge -underBinder +onlyGivenNames q5 z6 z7
    split
    · refine Keep.step (respond_keep _ _ _ _) rfl ?_
      exact hz2
    · refine Keep.ite ?_ ?_
      · refine Keep.step (respond_keep _ _ _ _) rfl ?_
        exact hz2
      · extract_lets -merge -underBinder +onlyGivenNames z10
        have hz10 : Keep 56 a2 z10 := by
          unfold z10
          refine Keep.step (modMem_keep _ _ (fun _ w => w)) rfl ?_
          exact hz2
        clear_value z10
        refine Keep.step (sendMsg_keep _ _ _ _ _) rfl ?_
        exact hz10

theorem loadAt_keep (a0) (a1) (a2) (a3) (a4) : Keep 2121848 a3 (loadAt a0 a1 a2 a3 a4) := by
  unfold loadAt
  split
  · refine Keep.step (violateHome_keep _ _ _) rfl ?_
    exact Keep.refl _ _
  · refine Keep.ite ?_ ?_
    · refine Keep.step (failHome_keep _ _ _) rfl ?_
      exact Keep.refl _ _
    · extract_lets -merge -underBinder +onlyGivenNames z3 z4
      have hz3 : Keep 2121848 a3 z3.2 := by
        unfold z3
        refine Keep.step (poolRead_keep _ _ _) rfl ?_
        exact Keep.refl _ _
      clear_value z3
      have hz4 : Keep 2121848 a3 z4 := by
        unfold z4
        refine Keep.step (noteLines_keep _ _ _) rfl ?_
        exact hz3
      clear_value z4
      refine Keep.ite ?_ ?_
      · split
        · refine Keep.step (reissueReplica_keep _ _ _) rfl ?_
          exact hz4
        · refine Keep.step (respond_keep _ _ _ _) rfl ?_
          exact hz4
      · refine Keep.step (respond_keep _ _ _ _) rfl ?_
        exact hz4
  · refine Keep.ite ?_ ?_
    · refine Keep.step (failHome_keep _ _ _) rfl ?_
      exact Keep.refl _ _
    · extract_lets -merge -underBinder +onlyGivenNames z8
      have hz8 : Keep 2121848 a3 z8 := by
        unfold z8
        refine Keep.step (millCheck_keep _ _ _) rfl ?_
        exact Keep.refl _ _
      clear_value z8
      refine Keep.ite ?_ ?_
      · refine Keep.step (respond_keep _ _ _ _) rfl ?_
        refine Keep.step (millMeet_keep _ _) rfl ?_
        exact hz8
      · refine Keep.step (respond_keep _ _ _ _) rfl ?_
        exact hz8
  · refine Keep.ite ?_ ?_
    · refine Keep.step (failHome_keep _ _ _) rfl ?_
      exact Keep.refl _ _
    · extract_lets -merge -underBinder +onlyGivenNames z10
      have hz10 : Keep 2121848 a3 z10 := by
        unfold z10
        refine Keep.step (millCheck_keep _ _ _) rfl ?_
        exact Keep.refl _ _
      clear_value z10
      refine Keep.ite ?_ ?_
      · refine Keep.step (respond_keep _ _ _ _) rfl ?_
        refine Keep.step (millMeet_keep _ _) rfl ?_
        exact hz10
      · refine Keep.step (respond_keep _ _ _ _) rfl ?_
        exact hz10
  · refine Keep.ite ?_ ?_
    · refine Keep.step (failHome_keep _ _ _) rfl ?_
      exact Keep.refl _ _
    · extract_lets -merge -underBinder +onlyGivenNames z12
      have hz12 : Keep 2121848 a3 z12 := by
        unfold z12
        refine Keep.step (millCheck_keep _ _ _) rfl ?_
        exact Keep.refl _ _
      clear_value z12
      refine Keep.ite ?_ ?_
      · refine Keep.step (respond_keep _ _ _ _) rfl ?_
        refine Keep.step (millMeet_keep _ _) rfl ?_
        exact hz12
      · refine Keep.step (respond_keep _ _ _ _) rfl ?_
        exact hz12

theorem serveLoad_keep (a0) (a1) (a2) (a3) : Keep 2121848 a3 (serveLoad a0 a1 a2 a3) := by
  unfold serveLoad
  refine Keep.step (loadAt_keep _ _ _ _ _) rfl ?_
  exact Keep.refl _ _

theorem acknowledge_keep (a0) (a1) (a2) (a3) (a4) : Keep 32776 a4 (acknowledge a0 a1 a2 a3 a4) := by
  unfold acknowledge
  refine Keep.ite ?_ ?_
  · refine Keep.step (mirror_keep _ _ _ _ _) rfl ?_
    exact Keep.refl _ _
  · refine Keep.step (respond_keep _ _ _ _) rfl ?_
    exact Keep.refl _ _

theorem combStore_keep (a0) (a1) : Keep 16 a1 (combStore a0 a1) := by
  unfold combStore
  refine Keep.step (modMs_keep _ _ _) rfl ?_
  exact Keep.refl _ _

theorem combAdd_keep (a0) (a1) : Keep 16 a1 (combAdd a0 a1) := by
  unfold combAdd
  refine Keep.step (modMs_keep _ _ _) rfl ?_
  exact Keep.refl _ _

theorem storeAt_keep (a0) (a1) (a2) (a3) (a4) : Keep 2154712 a3 (storeAt a0 a1 a2 a3 a4) := by
  unfold storeAt
  split
  · refine Keep.step (violateHome_keep _ _ _) rfl ?_
    exact Keep.refl _ _
  · refine Keep.ite ?_ ?_
    · refine Keep.step (violateHome_keep _ _ _) rfl ?_
      exact Keep.refl _ _
    · refine Keep.ite ?_ ?_
      · refine Keep.step (failHome_keep _ _ _) rfl ?_
        exact Keep.refl _ _
      · refine Keep.ite ?_ ?_
        · refine Keep.step (respond_keep _ _ _ _) rfl ?_
          exact Keep.refl _ _
        · extract_lets -merge -underBinder +onlyGivenNames z3
          have hz3 : Keep 2154712 a3 z3 := by
            unfold z3
            refine Keep.ite ?_ ?_
            · exact Keep.refl _ _
            · refine Keep.step (poolMend_keep _ _ _) rfl ?_
              exact Keep.refl _ _
          clear_value z3
          refine Keep.step (acknowledge_keep _ _ _ _ _) rfl ?_
          refine Keep.step (combStore_keep _ _) rfl ?_
          refine Keep.step (noteLines_keep _ _ _) rfl ?_
          refine Keep.step (poolWrite_keep _ _ _ _ _) rfl ?_
          exact hz3
  · refine Keep.ite ?_ ?_
    · refine Keep.step (failHome_keep _ _ _) rfl ?_
      exact Keep.refl _ _
    · refine Keep.ite ?_ ?_
      · refine Keep.step (violateHome_keep _ _ _) rfl ?_
        exact Keep.refl _ _
      · extract_lets -merge -underBinder +onlyGivenNames z5 z6 z7
        have hz6 : Keep 2154712 a3 z6 := by
          unfold z6
          refine Keep.ite ?_ ?_
          · exact Keep.refl _ _
          · refine Keep.step (millCheck_keep _ _ _) rfl ?_
            exact Keep.refl _ _
        clear_value z6
        have hz7 : Keep 2154712 a3 z7 := by
          unfold z7
          refine Keep.ite ?_ ?_
          · exact hz6
          · refine Keep.step (millWrite_keep _ _ _ _ _) rfl ?_
            exact hz6
        clear_value z7
        refine Keep.step (respond_keep _ _ _ _) rfl ?_
        refine Keep.step (afterMill_keep _ _ _ _) rfl ?_
        exact hz7
  · refine Keep.ite ?_ ?_
    · refine Keep.step (failHome_keep _ _ _) rfl ?_
      exact Keep.refl _ _
    · refine Keep.ite ?_ ?_
      · refine Keep.step (violateHome_keep _ _ _) rfl ?_
        exact Keep.refl _ _
      · extract_lets -merge -underBinder +onlyGivenNames z9 z10 z11
        have hz10 : Keep 2154712 a3 z10 := by
          unfold z10
          refine Keep.step (millCheck_keep _ _ _) rfl ?_
          exact Keep.refl _ _
        clear_value z10
        have hz11 : Keep 2154712 a3 z11 := by
          unfold z11
          refine Keep.ite ?_ ?_
          · exact hz10
          · refine Keep.step (millWrite_keep _ _ _ _ _) rfl ?_
            exact hz10
        clear_value z11
        refine Keep.step (respond_keep _ _ _ _) rfl ?_
        refine Keep.step (afterMill_keep _ _ _ _) rfl ?_
        exact hz11
  · refine Keep.ite ?_ ?_
    · refine Keep.step (failHome_keep _ _ _) rfl ?_
      exact Keep.refl _ _
    · refine Keep.ite ?_ ?_
      · refine Keep.step (violateHome_keep _ _ _) rfl ?_
        exact Keep.refl _ _
      · extract_lets -merge -underBinder +onlyGivenNames z13 z14 z15
        have hz14 : Keep 2154712 a3 z14 := by
          unfold z14
          refine Keep.step (millCheck_keep _ _ _) rfl ?_
          exact Keep.refl _ _
        clear_value z14
        have hz15 : Keep 2154712 a3 z15 := by
          unfold z15
          refine Keep.ite ?_ ?_
          · exact hz14
          · refine Keep.step (millWrite_keep _ _ _ _ _) rfl ?_
            exact hz14
        clear_value z15
        refine Keep.step (respond_keep _ _ _ _) rfl ?_
        refine Keep.step (afterMill_keep _ _ _ _) rfl ?_
        exact hz15

theorem serveStore_keep (a0) (a1) (a2) (a3) : Keep 2154712 a3 (serveStore a0 a1 a2 a3) := by
  unfold serveStore
  refine Keep.step (storeAt_keep _ _ _ _ _) rfl ?_
  exact Keep.refl _ _

theorem runAtomics_keep : ∀ a0 a1 a2 a3, Keep 8 a3 (runAtomics a0 a1 a2 a3).2
  | b0, [], b1, b2 => by
    rw [runAtomics.eq_1]
    exact Keep.refl _ _
  | b0, (b3 :: b4), b1, b2 => by
    rw [runAtomics.eq_2]
    refine Keep.step (runAtomics_keep _ _ _ _) rfl ?_
    refine Keep.step (respond_keep _ _ _ _) rfl ?_
    exact Keep.refl _ _

theorem millAtomic_keep (a0) (a1) (a2) (a3) : Keep 2114776 a3 (millAtomic a0 a1 a2 a3) := by
  unfold millAtomic
  extract_lets -merge -underBinder +onlyGivenNames z1 z2 z5
  have hz2 : Keep 2114776 a3 z2 := by
    unfold z2
    refine Keep.foldl ?_ _ ?_
    · intro y3 x4
      refine Keep.step (takeRx_keep _ _ _ _ _) rfl ?_
      exact Keep.refl _ _
    · exact Keep.refl _ _
  clear_value z2
  have hz5 : Keep 2114776 a3 z5.2 := by
    unfold z5
    refine Keep.step (runAtomics_keep _ _ _ _) rfl ?_
    exact hz2
  clear_value z5
  split
  · refine Keep.step (millWordWrite_keep _ _ _) rfl ?_
    exact hz5
  · refine Keep.step (doorbell_keep _ _ _) rfl ?_
    refine Keep.step (millWordWrite_keep _ _ _) rfl ?_
    exact hz5

theorem atomicAt_keep (a0) (a1) (a2) (a3) (a4) : Keep 2155736 a3 (atomicAt a0 a1 a2 a3 a4) := by
  unfold atomicAt
  split
  · refine Keep.step (violateHome_keep _ _ _) rfl ?_
    exact Keep.refl _ _
  · refine Keep.step (violateHome_keep _ _ _) rfl ?_
    exact Keep.refl _ _
  · refine Keep.step (violateHome_keep _ _ _) rfl ?_
    exact Keep.refl _ _
  · refine Keep.ite ?_ ?_
    · refine Keep.step (violateHome_keep _ _ _) rfl ?_
      exact Keep.refl _ _
    · refine Keep.ite ?_ ?_
      · refine Keep.step (failHome_keep _ _ _) rfl ?_
        exact Keep.refl _ _
      · extract_lets -merge -underBinder +onlyGivenNames z5
        have hz5 : Keep 2155736 a3 z5 := by
          unfold z5
          refine Keep.step (noteLines_keep _ _ _) rfl ?_
          refine Keep.step (poolMend_keep _ _ _) rfl ?_
          exact Keep.refl _ _
        clear_value z5
        refine Keep.ite ?_ ?_
        · refine Keep.step (failHome_keep _ _ _) rfl ?_
          exact hz5
        · extract_lets -merge -underBinder +onlyGivenNames z6 z7 z8 z9
          have hz8 : Keep 2155736 a3 z8 := by
            unfold z8
            refine Keep.step (modMem_keep _ _ (by intro x w; first | exact lineSet_wf _ _ _ _ w | exact wordSet_wf _ _ _ w | exact cellsClear_wf _ _ _ w | exact filter_wf _ _ w)) rfl ?_
            exact hz5
          clear_value z8
          have hz9 : Keep 2155736 a3 z9 := by
            unfold z9
            refine Keep.ite ?_ ?_
            · refine Keep.step (combAdd_keep _ _) rfl ?_
              exact hz8
            · exact hz8
          clear_value z9
          refine Keep.step (acknowledge_keep _ _ _ _ _) rfl ?_
          exact hz9
  · refine Keep.ite ?_ ?_
    · refine Keep.step (failHome_keep _ _ _) rfl ?_
      exact Keep.refl _ _
    · refine Keep.ite ?_ ?_
      · refine Keep.step (violateHome_keep _ _ _) rfl ?_
        exact Keep.refl _ _
      · extract_lets -merge -underBinder +onlyGivenNames z11
        have hz11 : Keep 2155736 a3 z11 := by
          unfold z11
          refine Keep.step (millCheck_keep _ _ _) rfl ?_
          exact Keep.refl _ _
        clear_value z11
        refine Keep.ite ?_ ?_
        · refine Keep.step (failHome_keep _ _ _) rfl ?_
          refine Keep.step (bankUncorrectable_keep _ _) rfl ?_
          exact hz11
        · refine Keep.ite ?_ ?_
          · refine Keep.step (respond_keep _ _ _ _) rfl ?_
            exact hz11
          · refine Keep.step (millAtomic_keep _ _ _ _) rfl ?_
            exact hz11

theorem serveAtomic_keep (a0) (a1) (a2) (a3) : Keep 2155736 a3 (serveAtomic a0 a1 a2 a3) := by
  unfold serveAtomic
  refine Keep.step (atomicAt_keep _ _ _ _ _) rfl ?_
  exact Keep.refl _ _

theorem bankTurn_keep (a0) (a1) : Keep 64 a1 (bankTurn a0 a1) := by
  unfold bankTurn
  refine Keep.ite ?_ ?_
  · split
    · refine Keep.step (ownerTurn_keep _ _ _ _) rfl ?_
      exact Keep.refl _ _
    · refine Keep.step (ownerTurn_keep _ _ _ _) rfl ?_
      exact Keep.refl _ _
    · refine Keep.step (ownerTurn_keep _ _ _ _) rfl ?_
      exact Keep.refl _ _
    · exact Keep.refl _ _
  · exact Keep.refl _ _

theorem serveOp_keep (a0) (a1) (a2) (a3) : Keep 2155768 a3 (serveOp a0 a1 a2 a3) := by
  unfold serveOp
  extract_lets -merge -underBinder +onlyGivenNames z1
  have hz1 : Keep 2155768 a3 z1 := by
    unfold z1
    refine Keep.step (bankTurn_keep _ _) rfl ?_
    exact Keep.refl _ _
  clear_value z1
  split
  · refine Keep.step (serveLoad_keep _ _ _ _) rfl ?_
    exact hz1
  · refine Keep.step (serveStore_keep _ _ _ _) rfl ?_
    exact hz1
  · refine Keep.step (serveAtomic_keep _ _ _ _) rfl ?_
    exact hz1

theorem serve_keep (a0) (a1) (a2) (a3) : Keep 2155768 a3 (serve a0 a1 a2 a3) := by
  unfold serve
  extract_lets -merge -underBinder +onlyGivenNames z1
  split
  · refine Keep.step (respond_keep _ _ _ _) rfl ?_
    refine Keep.step (modPair_keep _ _) rfl ?_
    exact Keep.refl _ _
  · split
    · refine Keep.step (serveOp_keep _ _ _ _) rfl ?_
      exact Keep.refl _ _
    · refine Keep.step (violateHome_keep _ _ _) rfl ?_
      exact Keep.refl _ _
    · exact Keep.refl _ _
    · refine Keep.step (modPair_keep _ _) rfl ?_
      exact Keep.refl _ _
    · refine Keep.step (modPair_keep _ _) rfl ?_
      exact Keep.refl _ _

theorem reach_keep (a0) (a1) (a2) (a3) : Keep 2155768 a3 (reach a0 a1 a2 a3) := by
  unfold reach
  extract_lets -merge -underBinder +onlyGivenNames z1 z2
  refine Keep.ite ?_ ?_
  · exact Keep.refl _ _
  · split
    · exact Keep.refl _ _
    next p4 e =>
      have h5 : Keep 2155768 a3 p4 := by
        refine Keep.ofOpt e ?_
        refine KeepO.step (accept_keep _ _ _) rfl ?_
        exact Keep.refl _ _
      refine Keep.step (serve_keep _ _ _ _) rfl ?_
      exact h5

theorem execLoad_keep (a0) (a1) (a2) : ∃ t, execLoad a0 a1 a2 = .next t ∧ Keep 2155768 a2 t := by
  unfold execLoad
  refine ⟨_, rfl, ?_⟩
  refine Keep.step (reach_keep _ _ _ _) rfl ?_
  exact Keep.refl _ _

theorem execStore_keep (a0) (a1) (a2) : ∃ t, execStore a0 a1 a2 = .next t ∧ Keep 2155768 a2 t := by
  unfold execStore
  refine ⟨_, rfl, ?_⟩
  refine Keep.step (reach_keep _ _ _ _) rfl ?_
  exact Keep.refl _ _

theorem execAddI64_keep (a0) (a1) (a2) : ∃ t, execAddI64 a0 a1 a2 = .next t ∧ Keep 2155768 a2 t := by
  unfold execAddI64
  refine ⟨_, rfl, ?_⟩
  refine Keep.step (reach_keep _ _ _ _) rfl ?_
  exact Keep.refl _ _

theorem execAddF32x2_keep (a0) (a1) (a2) : ∃ t, execAddF32x2 a0 a1 a2 = .next t ∧ Keep 2155768 a2 t := by
  unfold execAddF32x2
  refine ⟨_, rfl, ?_⟩
  refine Keep.step (reach_keep _ _ _ _) rfl ?_
  exact Keep.refl _ _

theorem execSwap_keep (a0) (a1) (a2) : ∃ t, execSwap a0 a1 a2 = .next t ∧ Keep 2155768 a2 t := by
  unfold execSwap
  refine ⟨_, rfl, ?_⟩
  refine Keep.step (reach_keep _ _ _ _) rfl ?_
  exact Keep.refl _ _

theorem execCas_keep (a0) (a1) (a2) : ∃ t, execCas a0 a1 a2 = .next t ∧ Keep 2155768 a2 t := by
  unfold execCas
  refine ⟨_, rfl, ?_⟩
  refine Keep.step (reach_keep _ _ _ _) rfl ?_
  exact Keep.refl _ _

theorem execMaxI64_keep (a0) (a1) (a2) : ∃ t, execMaxI64 a0 a1 a2 = .next t ∧ Keep 2155768 a2 t := by
  unfold execMaxI64
  refine ⟨_, rfl, ?_⟩
  refine Keep.step (reach_keep _ _ _ _) rfl ?_
  exact Keep.refl _ _

theorem execMinI64_keep (a0) (a1) (a2) : ∃ t, execMinI64 a0 a1 a2 = .next t ∧ Keep 2155768 a2 t := by
  unfold execMinI64
  refine ⟨_, rfl, ?_⟩
  refine Keep.step (reach_keep _ _ _ _) rfl ?_
  exact Keep.refl _ _

theorem execMaxF32x2_keep (a0) (a1) (a2) : ∃ t, execMaxF32x2 a0 a1 a2 = .next t ∧ Keep 2155768 a2 t := by
  unfold execMaxF32x2
  refine ⟨_, rfl, ?_⟩
  refine Keep.step (reach_keep _ _ _ _) rfl ?_
  exact Keep.refl _ _

theorem execMinF32x2_keep (a0) (a1) (a2) : ∃ t, execMinF32x2 a0 a1 a2 = .next t ∧ Keep 2155768 a2 t := by
  unfold execMinF32x2
  refine ⟨_, rfl, ?_⟩
  refine Keep.step (reach_keep _ _ _ _) rfl ?_
  exact Keep.refl _ _

theorem sendHeld_keep (a0) (a1) : Keep 2114552 a1 (sendHeld a0 a1) := by
  unfold sendHeld
  split
  · refine Keep.step (sendReq_keep _ _ _ _ _ _ _) rfl ?_
    exact Keep.refl _ _
  · extract_lets -merge -underBinder +onlyGivenNames z3
    refine Keep.ite ?_ ?_
    · refine Keep.step (sendReq_keep _ _ _ _ _ _ _) rfl ?_
      exact Keep.refl _ _
    · refine Keep.step (issueRemote_keep _ _ _ _) rfl ?_
      exact Keep.refl _ _

theorem sendMgt_keep (a0) (a1) (a2) : Keep 24 a2 (sendMgt a0 a1 a2) := by
  unfold sendMgt
  extract_lets -merge -underBinder +onlyGivenNames z1 z2
  refine Keep.ite ?_ ?_
  · refine Keep.step (sendMsg_keep _ _ _ _ _) rfl ?_
    refine Keep.step (modMem_keep _ _ (fun _ w => w)) rfl ?_
    exact Keep.refl _ _
  · refine Keep.step (modMem_keep _ _ (fun _ w => w)) rfl ?_
    exact Keep.refl _ _

theorem retryHeld_keep (a0) (a1) : Keep 2114552 a1 (retryHeld a0 a1) := by
  unfold retryHeld
  extract_lets -merge -underBinder +onlyGivenNames z1
  have hz1 : Keep 2114552 a1 z1 := by
    unfold z1
    split
    · exact Keep.refl _ _
    · refine Keep.step (sendMgt_keep _ _ _) rfl ?_
      refine Keep.step (modMem_keep _ _ (fun _ w => w)) rfl ?_
      exact Keep.refl _ _
  clear_value z1
  split
  · exact hz1
  · refine Keep.step (sendHeld_keep _ _) rfl ?_
    refine Keep.step (modMem_keep _ _ (fun _ w => w)) rfl ?_
    exact hz1

theorem releaseMgt_keep (a0) (a1) : Keep 2114552 a1 (releaseMgt a0 a1) := by
  unfold releaseMgt
  refine Keep.step (retryHeld_keep _ _) rfl ?_
  refine Keep.step (modMem_keep _ _ (fun _ w => w)) rfl ?_
  exact Keep.refl _ _

theorem releaseSlot_keep (a0) (a1) (a2) : Keep 2114552 a2 (releaseSlot a0 a1 a2) := by
  unfold releaseSlot
  refine Keep.step (retryHeld_keep _ _) rfl ?_
  refine Keep.step (modMem_keep _ _ (fun _ w => w)) rfl ?_
  exact Keep.refl _ _

theorem complete_keep (a0) (a1) : Keep 2114552 a1 (complete a0 a1) := by
  unfold complete
  split
  · refine Keep.step (modMem_keep _ _ (fun _ w => w)) rfl ?_
    exact Keep.refl _ _
  · refine Keep.ite ?_ ?_
    · refine Keep.step (modMem_keep _ _ (fun _ w => w)) rfl ?_
      exact Keep.refl _ _
    · extract_lets -merge -underBinder +onlyGivenNames z3 z4 z5
      have hz5 : Keep 2114552 a1 z5 := by
        unfold z5
        refine Keep.ite ?_ ?_
        · refine Keep.step (failAccess_keep _ _ _) rfl ?_
          exact Keep.refl _ _
        · exact Keep.refl _ _
      clear_value z5
      refine Keep.step (releaseSlot_keep _ _ _) rfl ?_
      refine Keep.step (deliver_keep _ _ _) rfl ?_
      exact hz5

theorem rspArrive_keep (a0) (a1) (a2) : Keep 2115576 a2 (rspArrive a0 a1 a2) := by
  unfold rspArrive
  extract_lets -merge -underBinder +onlyGivenNames z1
  split
  · exact Keep.refl _ _
  · refine Keep.ite ?_ ?_
    · exact Keep.refl _ _
    · refine Keep.step (complete_keep _ _) rfl ?_
      refine Keep.step (takeRx_keep _ _ _ _ _) rfl ?_
      exact Keep.refl _ _

theorem expire_keep (a0) (a1) (a2) : Keep 2114552 a2 (expire a0 a1 a2) := by
  unfold expire
  split
  · exact Keep.refl _ _
  · refine Keep.step (releaseSlot_keep _ _ _) rfl ?_
    refine Keep.step (failNow_keep _ _ _ _) rfl ?_
    exact Keep.refl _ _

theorem sweep_keep (a0) : Keep 2114552 a0 (sweep a0) := by
  unfold sweep
  refine Keep.ite ?_ ?_
  · exact Keep.refl _ _
  · extract_lets -merge -underBinder +onlyGivenNames z1
    refine Keep.foldl ?_ _ ?_
    · intro y2 x3
      refine Keep.step (expire_keep _ _ _) rfl ?_
      exact Keep.refl _ _
    · refine Keep.step (modMem_keep _ _ (fun _ w => w)) rfl ?_
      exact Keep.refl _ _

theorem execTimeoutSweep_keep (a0) : ∃ t, execTimeoutSweep a0 = .next t ∧ Keep 2114552 a0 t := by
  unfold execTimeoutSweep
  refine ⟨_, rfl, ?_⟩
  refine Keep.step (sweep_keep _) rfl ?_
  exact Keep.refl _ _

theorem storeData_keep (a0) (a1) (a2) (a3) (a4) : Keep 2147320 a4 (storeData a0 a1 a2 a3 a4) := by
  unfold storeData
  split
  · exact Keep.refl _ _
  · refine Keep.step (issueMem_keep _ _) rfl ?_
    refine Keep.step (modMem_keep _ _ (fun _ w => w)) rfl ?_
    exact Keep.refl _ _

theorem execStoreData_keep (a0) (a1) (a2) (a3) (a4) (a5) : ∃ t, execStoreData a0 a1 a2 a3 a4 a5 = .next t ∧ Keep 2147320 a5 t := by
  unfold execStoreData
  refine ⟨_, rfl, ?_⟩
  refine Keep.ite ?_ ?_
  · exact Keep.refl _ _
  · refine Keep.step (storeData_keep _ _ _ _ _) rfl ?_
    exact Keep.refl _ _

theorem patrolScrub_keep (a0) (a1) (a2) (a3) : Keep 2113552 a3 (patrolScrub a0 a1 a2 a3) := by
  unfold patrolScrub
  extract_lets -merge -underBinder +onlyGivenNames z1 z2
  refine Keep.ite ?_ ?_
  · exact Keep.refl _ _
  · extract_lets -merge -underBinder +onlyGivenNames z3
    have hz3 : Keep 2113552 a3 z3 := by
      unfold z3
      refine Keep.ite ?_ ?_
      · exact Keep.refl _ _
      · refine Keep.step (poolMend_keep _ _ _) rfl ?_
        exact Keep.refl _ _
    clear_value z3
    refine Keep.ite ?_ ?_
    · refine Keep.step (modMs_keep _ _ _) rfl ?_
      exact hz3
    · refine Keep.step (modMs_keep _ _ _) rfl ?_
      exact hz3

theorem execPatrolScrub_keep (a0) (a1) (a2) (a3) : ∃ t, execPatrolScrub a0 a1 a2 a3 = .next t ∧ Keep 2113552 a3 t := by
  unfold execPatrolScrub
  refine ⟨_, rfl, ?_⟩
  refine Keep.step (patrolScrub_keep _ _ _ _) rfl ?_
  exact Keep.refl _ _

theorem stallTick_keep (a0) : Keep 8 a0 (stallTick a0) := by
  unfold stallTick
  extract_lets -merge -underBinder +onlyGivenNames z1 z2 z3
  refine Keep.foldl ?_ _ ?_
  · intro y4 x5
    refine Keep.step (modMrc_keep _ _) rfl ?_
    exact Keep.refl _ _
  · exact Keep.refl _ _

end Sys2Proof.Machine
end

