-- ==== Sys2Proof/Laws/KeepEngines.lean ====
section
/-! SUPPORT. What each function of the grips, the millstones, the collector and the sluice matrix may change (Laws/Keep). -/

namespace Sys2Proof.Machine

open Sys2Proof

theorem mirrorLog_keep (a0) (a1) (a2) : Keep 32768 a2 (mirrorLog a0 a1 a2) := by
  unfold mirrorLog
  refine Keep.ite ?_ ?_
  · refine Keep.step (modPair_keep _ _) rfl ?_
    exact Keep.refl _ _
  · exact Keep.refl _ _

theorem pushAudit_keep (a0) (a1) : Keep 98304 a1 (pushAudit a0 a1) := by
  unfold pushAudit
  extract_lets -merge -underBinder +onlyGivenNames z1 z2 z3 z4
  have hz4 : Keep 98304 a1 z4 := by
    unfold z4
    refine Keep.step (modRole_keep _ _ (fun _ => List.prefix_rfl)) rfl ?_
    exact Keep.refl _ _
  clear_value z4
  refine Keep.step (mirrorLog_keep _ _ _) rfl ?_
  exact hz4

theorem auditKeyed_keep (a0) (a1) (a2) (a3) (a4) : Keep 98304 a4 (auditKeyed a0 a1 a2 a3 a4) := by
  unfold auditKeyed
  refine Keep.step (pushAudit_keep _ _) rfl ?_
  exact Keep.refl _ _

theorem audit_keep (a0) (a1) (a2) (a3) (a4) : Keep 98304 a4 (audit a0 a1 a2 a3 a4) := by
  unfold audit
  extract_lets -merge -underBinder +onlyGivenNames z1 z2
  refine Keep.step (pushAudit_keep _ _) rfl ?_
  exact Keep.refl _ _


/-- A write of a field of role I keeps what its effect and the audit ring keep. -/
theorem Keep.iWrite {m : Nat} {s0 s : State} {p : Path} {a d : Nat} {f : State → State} (h : 98304 ||| m = m) (hf : ∀ y, Keep m y (f y))
    (k : Keep m s0 s) : Keep m s0 (iWrite p a d f s) := by
  unfold Sys2Proof.Machine.iWrite
  refine Keep.ite ?_ k
  exact Keep.step (audit_keep _ _ _ _ _) h (k.trans (hf s))

theorem declareRegion_keep (a0) (a1) (a2) : Keep 32800 a2 (declareRegion a0 a1 a2) := by
  unfold declareRegion
  extract_lets -merge -underBinder +onlyGivenNames z1
  refine Keep.ite ?_ ?_
  · refine Keep.step (modBlk_keep _ _) rfl ?_
    exact Keep.refl _ _
  · extract_lets -merge -underBinder +onlyGivenNames z2 z3
    have hz3 : Keep 32800 a2 z3 := by
      unfold z3
      refine Keep.step (modBlk_keep _ _) rfl ?_
      exact Keep.refl _ _
    clear_value z3
    refine Keep.ite ?_ ?_
    · refine Keep.step (modPair_keep _ _) rfl ?_
      exact hz3
    · exact hz3

theorem regionEffect_keep (a0) (a1) (a2) : Keep 262144 a2 (regionEffect a0 a1 a2) := by
  unfold regionEffect
  refine Keep.step (setEffect_keep _ _ _ _) rfl ?_
  refine Keep.step (setEffect_keep _ _ _ _) rfl ?_
  refine Keep.step (setEffect_keep _ _ _ _) rfl ?_
  refine Keep.step (setEffect_keep _ _ _ _) rfl ?_
  exact Keep.refl _ _

theorem releaseRegion_keep (a0) (a1) : Keep 32 a1 (releaseRegion a0 a1) := by
  unfold releaseRegion
  refine Keep.ite ?_ ?_
  · exact Keep.refl _ _
  · extract_lets -merge -underBinder +onlyGivenNames z1
    have hz1 : Keep 32 a1 z1 := by
      unfold z1
      refine Keep.step (modBlk_keep _ _) rfl ?_
      exact Keep.refl _ _
    clear_value z1
    refine Keep.step (startWaiting_keep _ _) rfl ?_
    exact hz1

theorem releaseDone_keep (a0) (a1) : Keep 32 a1 (releaseDone a0 a1) := by
  unfold releaseDone
  refine Keep.ite ?_ ?_
  · refine Keep.step (modBlk_keep _ _) rfl ?_
    exact Keep.refl _ _
  · exact Keep.refl _ _

theorem execRegionDeclare_keep (a0) (a1) (a2) (a3) : ∃ t, execRegionDeclare a0 a1 a2 a3 = .next t ∧ Keep 294944 a3 t := by
  unfold execRegionDeclare
  refine ⟨_, rfl, ?_⟩
  refine Keep.ite ?_ ?_
  · refine Keep.step (declareRegion_keep _ _ _) rfl ?_
    refine Keep.step (regionEffect_keep _ _ _) rfl ?_
    exact Keep.refl _ _
  · exact Keep.refl _ _

theorem execRegionRelease_keep (a0) (a1) (a2) : ∃ t, execRegionRelease a0 a1 a2 = .next t ∧ Keep 32 a2 t := by
  unfold execRegionRelease
  refine ⟨_, rfl, ?_⟩
  refine Keep.ite ?_ ?_
  · refine Keep.step (releaseRegion_keep _ _) rfl ?_
    exact Keep.refl _ _
  · exact Keep.refl _ _

theorem execRegionReleaseComplete_keep (a0) (a1) : ∃ t, execRegionReleaseComplete a0 a1 = .next t ∧ Keep 32 a1 t := by
  unfold execRegionReleaseComplete
  refine ⟨_, rfl, ?_⟩
  refine Keep.step (releaseDone_keep _ _) rfl ?_
  exact Keep.refl _ _

theorem countedFetches_keep (a0) : Keep 32 a0 (countedFetches a0) := by
  unfold countedFetches
  extract_lets -merge -underBinder +onlyGivenNames z1
  refine Keep.foldl ?_ _ ?_
  · intro y2 x3
    refine Keep.step (startFetch_keep _ _ _ _) rfl ?_
    exact Keep.refl _ _
  · exact Keep.refl _ _

theorem epochEnd_keep (a0) : Keep 32 a0 (epochEnd a0) := by
  unfold epochEnd
  extract_lets -merge -underBinder +onlyGivenNames z1
  refine Keep.ite ?_ ?_
  · exact Keep.refl _ _
  · extract_lets -merge -underBinder +onlyGivenNames z2
    have hz2 : Keep 32 a0 z2 := by
      unfold z2
      refine Keep.step (countedFetches_keep _) rfl ?_
      exact Keep.refl _ _
    clear_value z2
    refine Keep.step (modBlk_keep _ _) rfl ?_
    exact hz2

theorem execEpochEnd_keep (a0) : ∃ t, execEpochEnd a0 = .next t ∧ Keep 32 a0 t := by
  unfold execEpochEnd
  refine ⟨_, rfl, ?_⟩
  refine Keep.step (epochEnd_keep _) rfl ?_
  exact Keep.refl _ _

theorem blockResponse_keep (a0) (a1) (a2) (a3) (a4) (a5) : Keep 2114552 a5 (blockResponse a0 a1 a2 a3 a4 a5) := by
  unfold blockResponse
  extract_lets -merge -underBinder +onlyGivenNames z1
  clear_value z1
  split
  · exact Keep.refl _ _
  · extract_lets -merge -underBinder +onlyGivenNames z5
    have hz5 : Keep 2114552 a5 z5 := by
      unfold z5
      refine Keep.ite ?_ ?_
      · refine Keep.step (failAccess_keep _ _ _) rfl ?_
        exact Keep.refl _ _
      · exact Keep.refl _ _
    clear_value z5
    refine Keep.step (releaseSlot_keep _ _ _) rfl ?_
    refine Keep.step (deliver_keep _ _ _) rfl ?_
    exact hz5

theorem execBlockFetchResponse_keep (a0) (a1) (a2) (a3) (a4) (a5) : ∃ t, execBlockFetchResponse a0 a1 a2 a3 a4 a5 = .next t ∧ Keep 2114552 a5 t := by
  unfold execBlockFetchResponse
  refine ⟨_, rfl, ?_⟩
  refine Keep.ite ?_ ?_
  · exact Keep.refl _ _
  · refine Keep.step (blockResponse_keep _ _ _ _ _ _) rfl ?_
    exact Keep.refl _ _

theorem dropAllReplicas_keep (a0) : Keep 32 a0 (dropAllReplicas a0) := by
  unfold dropAllReplicas
  refine Keep.foldl ?_ _ ?_
  · intro y1 x2
    refine Keep.step (dropReplica_keep _ _) rfl ?_
    exact Keep.refl _ _
  · refine Keep.step (modBlk_keep _ _) rfl ?_
    exact Keep.refl _ _

theorem gripTick_keep (a0) : Keep 32 a0 (gripTick a0) := by
  unfold gripTick
  extract_lets -merge -underBinder +onlyGivenNames z1
  refine Keep.foldl ?_ _ ?_
  · intro y2 x3
    refine Keep.step (modBlk_keep _ _) rfl ?_
    exact Keep.refl _ _
  · exact Keep.refl _ _

theorem enableQueue_keep (a0) (a1) (a2) (a3) : Keep 144 a3 (enableQueue a0 a1 a2 a3) := by
  unfold enableQueue
  extract_lets -merge -underBinder +onlyGivenNames z1
  refine Keep.ite ?_ ?_
  · exact Keep.refl _ _
  · extract_lets -merge -underBinder +onlyGivenNames z2
    have hz2 : Keep 144 a3 z2 := by
      unfold z2
      refine Keep.step (modQueue_keep _ _ _) rfl ?_
      exact Keep.refl _ _
    clear_value z2
    refine Keep.ite ?_ ?_
    · refine Keep.step (modQueue_keep _ _ _) rfl ?_
      exact hz2
    · refine Keep.ite ?_ ?_
      · refine Keep.step (modQueue_keep _ _ _) rfl ?_
        exact hz2
      · refine Keep.step (modQueue_keep _ _ _) rfl ?_
        refine Keep.step (millWrite_keep _ _ _ _ _) rfl ?_
        exact hz2

theorem disableQueue_keep (a0) (a1) : Keep 128 a1 (disableQueue a0 a1) := by
  unfold disableQueue
  refine Keep.ite ?_ ?_
  · exact Keep.refl _ _
  · refine Keep.step (modGrp_keep _ _) rfl ?_
    refine Keep.step (modQueue_keep _ _ _) rfl ?_
    exact Keep.refl _ _

theorem resetQueue_keep (a0) (a1) : Keep 144 a1 (resetQueue a0 a1) := by
  unfold resetQueue
  refine Keep.ite ?_ ?_
  · exact Keep.refl _ _
  · refine Keep.step (modQueue_keep _ _ _) rfl ?_
    refine Keep.step (millWrite_keep _ _ _ _ _) rfl ?_
    exact Keep.refl _ _

theorem queueFields_keep (a0) (a1) (a2) (a3) : Keep 262144 a3 (queueFields a0 a1 a2 a3) := by
  unfold queueFields
  refine Keep.ite ?_ ?_
  · refine Keep.step (setEffect_keep _ _ _ _) rfl ?_
    refine Keep.step (setEffect_keep _ _ _ _) rfl ?_
    exact Keep.refl _ _
  · exact Keep.refl _ _

theorem execQueueEnable_keep (a0) (a1) (a2) (a3) (a4) : ∃ t, execQueueEnable a0 a1 a2 a3 a4 = .next t ∧ Keep 262288 a4 t := by
  unfold execQueueEnable
  refine ⟨_, rfl, ?_⟩
  refine Keep.ite ?_ ?_
  · refine Keep.step (enableQueue_keep _ _ _ _) rfl ?_
    refine Keep.step (queueFields_keep _ _ _ _) rfl ?_
    refine Keep.step (setEffect_keep _ _ _ _) rfl ?_
    exact Keep.refl _ _
  · exact Keep.refl _ _

theorem execQueueDisable_keep (a0) (a1) (a2) : ∃ t, execQueueDisable a0 a1 a2 = .next t ∧ Keep 262272 a2 t := by
  unfold execQueueDisable
  refine ⟨_, rfl, ?_⟩
  refine Keep.ite ?_ ?_
  · refine Keep.step (disableQueue_keep _ _) rfl ?_
    refine Keep.step (setEffect_keep _ _ _ _) rfl ?_
    exact Keep.refl _ _
  · exact Keep.refl _ _

theorem execQueueReset_keep (a0) (a1) (a2) : ∃ t, execQueueReset a0 a1 a2 = .next t ∧ Keep 144 a2 t := by
  unfold execQueueReset
  refine ⟨_, rfl, ?_⟩
  refine Keep.ite ?_ ?_
  · refine Keep.step (resetQueue_keep _ _) rfl ?_
    exact Keep.refl _ _
  · exact Keep.refl _ _

theorem gripStart_keep (a0) (a1) : Keep 128 a1 (gripStart a0 a1) := by
  unfold gripStart
  refine Keep.ite ?_ ?_
  · exact Keep.refl _ _
  · split
    · exact Keep.refl _ _
    · refine Keep.ite ?_ ?_
      · exact Keep.refl _ _
      · extract_lets -merge -underBinder +onlyGivenNames z3
        refine Keep.step (modGrp_keep _ _) rfl ?_
        exact Keep.refl _ _

theorem execGripDescriptorStart_keep (a0) (a1) : ∃ t, execGripDescriptorStart a0 a1 = .next t ∧ Keep 128 a1 t := by
  unfold execGripDescriptorStart
  refine ⟨_, rfl, ?_⟩
  refine Keep.step (gripStart_keep _ _) rfl ?_
  exact Keep.refl _ _

theorem descComplete_keep (a0) (a1) (a2) : Keep 2147320 a2 (descComplete a0 a1 a2) := by
  unfold descComplete
  split
  · exact Keep.refl _ _
  · refine Keep.ite ?_ ?_
    · exact Keep.refl _ _
    · extract_lets -merge -underBinder +onlyGivenNames z3
      refine Keep.ite ?_ ?_
      · extract_lets -merge -underBinder +onlyGivenNames z4 z5 z6
        refine Keep.ite ?_ ?_
        · refine Keep.step (finishDesc_keep _ _ _) rfl ?_
          refine Keep.step (modMem_keep _ _ (fun _ w => w)) rfl ?_
          exact Keep.refl _ _
        · refine Keep.ite ?_ ?_
          · extract_lets -merge -underBinder +onlyGivenNames z7
            split
            next p8 p9 e =>
              have h10 : Keep 2147320 a2 p9 := by
                refine Keep.ofSnd e ?_
                refine Keep.step (counterAdd_keep _ _ _ _) rfl ?_
                refine Keep.step (ownerTurn_keep _ _ _ _) rfl ?_
                exact Keep.refl _ _
              refine Keep.step (finishDesc_keep _ _ _) rfl ?_
              refine Keep.ite ?_ ?_
              · exact h10
              · refine Keep.step (failAccess_keep _ _ _) rfl ?_
                exact h10
          · refine Keep.step (issueMem_keep _ _) rfl ?_
            refine Keep.step (modGrp_keep _ _) rfl ?_
            exact Keep.refl _ _
      · refine Keep.step (finishDesc_keep _ _ _) rfl ?_
        exact Keep.refl _ _

theorem execDescriptorComplete_keep (a0) (a1) (a2) : ∃ t, execDescriptorComplete a0 a1 a2 = .next t ∧ Keep 2147320 a2 t := by
  unfold execDescriptorComplete
  refine ⟨_, rfl, ?_⟩
  refine Keep.step (descComplete_keep _ _ _) rfl ?_
  exact Keep.refl _ _

theorem gripRing_keep : ∀ a0 a1 a2, Keep 4 a2 (gripRing a0 a1 a2).2
  | b0, 0, b1 => by
    rw [gripRing.eq_1]
    exact Keep.refl _ _
  | b0, (b2 + 1), b1 => by
    rw [gripRing.eq_2]
    split
    · extract_lets -merge -underBinder +onlyGivenNames z4 z5
      split
      · exact Keep.refl _ _
      next p7 e =>
        have h8 : Keep 4 b1 p7 := by
          refine Keep.ofOpt e ?_
          split
          · exact KeepO.none
          · refine KeepO.step (ringPush_keep _ _ _ _) rfl ?_
            exact Keep.refl _ _
        extract_lets -merge -underBinder +onlyGivenNames z9
        refine Keep.step (gripRing_keep _ _ _) rfl ?_
        exact h8
    · exact Keep.refl _ _

theorem gripFlow_keep (a0) : Keep 132 a0 (gripFlow a0) := by
  unfold gripFlow
  refine Keep.foldl ?_ _ ?_
  · intro y1 x2
    split
    next p3 p4 e =>
      have h5 : Keep 132 y1 p4 := by
        refine Keep.ofSnd e ?_
        refine Keep.step (gripRing_keep _ _ _) rfl ?_
        exact Keep.refl _ _
      refine Keep.step (modGrp_keep _ _) rfl ?_
      exact h5
  · exact Keep.refl _ _

theorem execLoadData_keep (a0) (a1) : ∃ t, execLoadData a0 a1 = .next t ∧ Keep 2115580 a1 t := by
  unfold execLoadData
  refine ⟨_, rfl, ?_⟩
  refine Keep.step (gripFlow_keep _) rfl ?_
  refine Keep.step (rspArrive_keep _ _ _) rfl ?_
  exact Keep.refl _ _

theorem execAck_keep (a0) (a1) : ∃ t, execAck a0 a1 = .next t ∧ Keep 2115576 a1 t := by
  unfold execAck
  refine ⟨_, rfl, ?_⟩
  refine Keep.step (rspArrive_keep _ _ _) rfl ?_
  exact Keep.refl _ _

theorem armWatch_keep (a0) (a1) (a2) : Keep 128 a2 (armWatch a0 a1 a2) := by
  unfold armWatch
  extract_lets -merge -underBinder +onlyGivenNames z1 z2 z3 z4 z5
  have hz5 : Keep 128 a2 z5 := by
    unfold z5
    refine Keep.step (modGrp_keep _ _) rfl ?_
    exact Keep.refl _ _
  clear_value z5
  refine Keep.ite ?_ ?_
  · refine Keep.step (fireWatch_keep _ _ _) rfl ?_
    exact hz5
  · exact hz5

theorem execWatchArm_keep (a0) (a1) (a2) (a3) : ∃ t, execWatchArm a0 a1 a2 a3 = .next t ∧ Keep 128 a3 t := by
  unfold execWatchArm
  refine ⟨_, rfl, ?_⟩
  refine Keep.ite ?_ ?_
  · refine Keep.step (armWatch_keep _ _ _) rfl ?_
    exact Keep.refl _ _
  · exact Keep.refl _ _

theorem watchNotice_keep (a0) (a1) : Keep 136 a1 (watchNotice a0 a1) := by
  unfold watchNotice
  extract_lets -merge -underBinder +onlyGivenNames z1
  split
  · exact Keep.refl _ _
  · extract_lets -merge -underBinder +onlyGivenNames z8 z9
    refine Keep.ite ?_ ?_
    · exact Keep.refl _ _
    · refine Keep.step (sendMsg_keep _ _ _ _ _) rfl ?_
      refine Keep.step (modGrp_keep _ _) rfl ?_
      exact Keep.refl _ _

theorem execWatchNotice_keep (a0) (a1) : ∃ t, execWatchNotice a0 a1 = .next t ∧ Keep 136 a1 t := by
  unfold execWatchNotice
  refine ⟨_, rfl, ?_⟩
  refine Keep.step (watchNotice_keep _ _) rfl ?_
  exact Keep.refl _ _

theorem stopWatches_keep (a0) (a1) : Keep 128 a1 (stopWatches a0 a1) := by
  unfold stopWatches
  refine Keep.step (modGrp_keep _ _) rfl ?_
  exact Keep.refl _ _

theorem resumeWatches_keep (a0) (a1) : Keep 128 a1 (resumeWatches a0 a1) := by
  unfold resumeWatches
  refine Keep.step (modGrp_keep _ _) rfl ?_
  exact Keep.refl _ _

theorem millClear_keep (a0) : Keep 80 a0 (millClear a0) := by
  unfold millClear
  refine Keep.step (modMpd_keep _ _) rfl ?_
  refine Keep.step (modMem_keep _ _ (by intro x w; first | exact lineSet_wf _ _ _ _ w | exact wordSet_wf _ _ _ w | exact cellsClear_wf _ _ _ w | exact filter_wf _ _ w)) rfl ?_
  exact Keep.refl _ _

theorem dmaTick_keep (a0) : Keep 64 a0 (dmaTick a0) := by
  unfold dmaTick
  extract_lets -merge -underBinder +onlyGivenNames z1
  refine Keep.step (modMpd_keep _ _) rfl ?_
  exact Keep.refl _ _

theorem crewAccess_keep (a0) (a1) : Keep 2113616 a1 (crewAccess a0 a1) := by
  unfold crewAccess
  extract_lets -merge -underBinder +onlyGivenNames z1
  refine Keep.ite ?_ ?_
  · exact Keep.refl _ _
  · split
    · refine Keep.step (modMpd_keep _ _) rfl ?_
      exact Keep.refl _ _
    · refine Keep.ite ?_ ?_
      · extract_lets -merge -underBinder +onlyGivenNames z4
        have hz4 : Keep 2113616 a1 z4 := by
          unfold z4
          refine Keep.step (modMpd_keep _ _) rfl ?_
          exact Keep.refl _ _
        clear_value z4
        refine Keep.ite ?_ ?_
        · split
          next p5 p6 e =>
            have h7 : Keep 2113616 a1 p6 := by
              refine Keep.ofSnd e ?_
              refine Keep.step (nextFree_keep _) rfl ?_
              exact hz4
            refine Keep.step (raise_keep _ _ _ _ _) rfl ?_
            exact h7
        · exact hz4
      · refine Keep.step (modMpd_keep _ _) rfl ?_
        exact Keep.refl _ _

theorem crewTurn_keep (a0) (a1) : Keep 2113616 a1 (crewTurn a0 a1) := by
  unfold crewTurn
  refine Keep.ite ?_ ?_
  · exact Keep.refl _ _
  · refine Keep.foldl ?_ _ ?_
    · intro y1 x2
      refine Keep.step (crewAccess_keep _ _) rfl ?_
      exact Keep.refl _ _
    · refine Keep.step (modMpd_keep _ _) rfl ?_
      exact Keep.refl _ _

theorem mstOps_keep (a0) (a1) (a2) : Keep 256 a2 (mstOps a0 a1 a2) := by
  unfold mstOps
  refine Keep.step (modMst_keep _ _) rfl ?_
  exact Keep.refl _ _

theorem mstDiscard_keep (a0) (a1) : Keep 256 a1 (mstDiscard a0 a1) := by
  unfold mstDiscard
  refine Keep.step (modMst_keep _ _) rfl ?_
  exact Keep.refl _ _

theorem modChunk_keep (a0) (a1) (a2) (a3) : Keep 256 a3 (modChunk a0 a1 a2 a3) := by
  unfold modChunk
  refine Keep.step (modCtx_keep _ _ _) rfl ?_
  exact Keep.refl _ _

theorem schedAdd_keep (a0) (a1) (a2) (a3) (a4) : Keep 256 a4 (schedAdd a0 a1 a2 a3 a4) := by
  unfold schedAdd
  extract_lets -merge -underBinder +onlyGivenNames z1 z2
  refine Keep.step (modCtx_keep _ _ _) rfl ?_
  exact Keep.refl _ _

theorem setDues_keep (a0) (a1) : Keep 256 a1 (setDues a0 a1) := by
  unfold setDues
  extract_lets -merge -underBinder +onlyGivenNames z1
  refine Keep.foldl ?_ _ ?_
  · intro y2 x3
    extract_lets -merge -underBinder +onlyGivenNames z4
    refine Keep.foldl ?_ _ ?_
    · intro y5 x6
      extract_lets -merge -underBinder +onlyGivenNames z7
      split
      · refine Keep.step (modChunk_keep _ _ _ _) rfl ?_
        exact Keep.refl _ _
      · exact Keep.refl _ _
    · exact Keep.refl _ _
  · exact Keep.refl _ _

theorem sendCol_keep : ∀ a0 a1 a2 a3 a4 a5 a6 a7, Keep 2113608 a7 (sendCol a0 a1 a2 a3 a4 a5 a6 a7)
  | b0, b1, b2, b3, 0, b4, b5, b6 => by
    rw [sendCol.eq_1]
    exact Keep.refl _ _
  | b0, b1, b2, b3, (b6 + 1), b4, [], b5 => by
    rw [sendCol.eq_2]
    exact Keep.refl _ _
  | b0, b1, b2, b3, (b7 + 1), b4, (b5 :: b8), b6 => by
    rw [sendCol.eq_3]
    rotate_left
    · intro h
      cases h
    split
    next p1 p2 e =>
      have h3 : Keep 2113608 b6 p2 := by
        refine Keep.ofSnd e ?_
        refine Keep.step (unitRead_keep _ _) rfl ?_
        exact Keep.refl _ _
      extract_lets -merge -underBinder +onlyGivenNames z4 z5 z6 z7 z8 z9
      have hz9 : Keep 2113608 b6 z9 := by
        unfold z9
        split
        · refine Keep.step (sendMsg_keep _ _ _ _ _) rfl ?_
          exact h3
        · exact h3
      clear_value z9
      refine Keep.step (sendCol_keep _ _ _ _ _ _ _ _) rfl ?_
      exact hz9

theorem sendPart_keep (a0) (a1) (a2) (a3) (a4) (a5) (a6) : Keep 2113608 a6 (sendPart a0 a1 a2 a3 a4 a5 a6) := by
  unfold sendPart
  refine Keep.step (sendCol_keep _ _ _ _ _ _ _ _) rfl ?_
  exact Keep.refl _ _

theorem giveUp_keep (a0) (a1) (a2) (a3) : Keep 256 a3 (giveUp a0 a1 a2 a3) := by
  unfold giveUp
  extract_lets -merge -underBinder +onlyGivenNames z1
  refine Keep.step (modChunk_keep _ _ _ _) rfl ?_
  exact Keep.refl _ _

theorem pumpExps_keep (a0) (a1) : Keep 2113864 a1 (pumpExps a0 a1) := by
  unfold pumpExps
  extract_lets -merge -underBinder +onlyGivenNames z1
  refine Keep.ite ?_ ?_
  · exact Keep.refl _ _
  · refine Keep.foldl ?_ _ ?_
    · intro y2 x3
      refine Keep.foldl ?_ _ ?_
      · intro y4 x5
        split
        · exact Keep.refl _ _
        · extract_lets -merge -underBinder +onlyGivenNames z8 z9
          have hz9 : Keep 2113864 y4 z9 := by
            unfold z9
            refine Keep.ite ?_ ?_
            · exact Keep.refl _ _
            · split
              · exact Keep.refl _ _
              · extract_lets -merge -underBinder +onlyGivenNames z12 z13
                have hz13 : Keep 2113864 y4 z13 := by
                  unfold z13
                  refine Keep.step (modChunk_keep _ _ _ _) rfl ?_
                  exact Keep.refl _ _
                clear_value z13
                refine Keep.ite ?_ ?_
                · refine Keep.step (modChunk_keep _ _ _ _) rfl ?_
                  exact hz13
                · refine Keep.step (sendPart_keep _ _ _ _ _ _ _) rfl ?_
                  exact hz13
          clear_value z9
          split
          · exact hz9
          · refine Keep.ite ?_ ?_
            · extract_lets -merge -underBinder +onlyGivenNames z16
              refine Keep.ite ?_ ?_
              · extract_lets -merge -underBinder +onlyGivenNames z17 z18 z19
                have hz19 : Keep 2113864 y4 z19 := by
                  unfold z19
                  refine Keep.step (modChunk_keep _ _ _ _) rfl ?_
                  exact hz9
                clear_value z19
                refine Keep.foldl ?_ _ ?_
                · intro y20 x21
                  refine Keep.step (sendPart_keep _ _ _ _ _ _ _) rfl ?_
                  exact Keep.refl _ _
                · exact hz19
              · exact hz9
            · exact hz9
      · exact Keep.refl _ _
    · exact Keep.refl _ _

theorem closeDone_keep : ∀ a0 a1 a2, Keep 256 a2 (closeDone a0 a1 a2)
  | b0, 0, b1 => by
    rw [closeDone.eq_1]
    exact Keep.refl _ _
  | b0, (b2 + 1), b1 => by
    rw [closeDone.eq_2]
    split
    · exact Keep.refl _ _
    · refine Keep.ite ?_ ?_
      · refine Keep.step (closeDone_keep _ _ _) rfl ?_
        refine Keep.step (modCtx_keep _ _ _) rfl ?_
        refine Keep.step (modChunk_keep _ _ _ _) rfl ?_
        exact Keep.refl _ _
      · exact Keep.refl _ _

theorem dueByFirst_keep (a0) (a1) (a2) : Keep 256 a2 (dueByFirst a0 a1 a2) := by
  unfold dueByFirst
  split
  · exact Keep.refl _ _
  · extract_lets -merge -underBinder +onlyGivenNames z3
    refine Keep.ite ?_ ?_
    · refine Keep.foldl ?_ _ ?_
      · intro y4 x5
        refine Keep.ite ?_ ?_
        · refine Keep.step (modChunk_keep _ _ _ _) rfl ?_
          exact Keep.refl _ _
        · exact Keep.refl _ _
      · exact Keep.refl _ _
    · exact Keep.refl _ _

theorem lateSettle_keep (a0) (a1) : Keep 256 a1 (lateSettle a0 a1) := by
  unfold lateSettle
  extract_lets -merge -underBinder +onlyGivenNames z1
  refine Keep.step (modCtx_keep _ _ _) rfl ?_
  exact Keep.refl _ _

theorem releaseHeld_keep (a0) (a1) : Keep 2113856 a1 (releaseHeld a0 a1) := by
  unfold releaseHeld
  extract_lets -merge -underBinder +onlyGivenNames z1
  refine Keep.foldl ?_ _ ?_
  · intro y2 x3
    extract_lets -merge -underBinder +onlyGivenNames z4
    split
    · exact Keep.refl _ _
    · split
      · refine Keep.step (modCtx_keep _ _ _) rfl ?_
        exact Keep.refl _ _
      · refine Keep.ite ?_ ?_
        · refine Keep.step (modCtx_keep _ _ _) rfl ?_
          exact Keep.refl _ _
        · refine Keep.ite ?_ ?_
          · exact Keep.refl _ _
          · extract_lets -merge -underBinder +onlyGivenNames z11
            have hz11 : Keep 2113856 y2 z11.2 := by
              unfold z11
              refine Keep.step (unitRead_keep _ _) rfl ?_
              exact Keep.refl _ _
            clear_value z11
            refine Keep.step (modCtx_keep _ _ _) rfl ?_
            refine Keep.step (modChunk_keep _ _ _ _) rfl ?_
            exact hz11
  · exact Keep.refl _ _

theorem mstProgress_keep (a0) (a1) (a2) : Keep 2113864 a2 (mstProgress a0 a1 a2) := by
  unfold mstProgress
  refine Keep.step (lateSettle_keep _ _) rfl ?_
  refine Keep.step (closeDone_keep _ _ _) rfl ?_
  refine Keep.step (releaseHeld_keep _ _) rfl ?_
  refine Keep.step (pumpExps_keep _ _) rfl ?_
  refine Keep.step (dueByFirst_keep _ _ _) rfl ?_
  exact Keep.refl _ _

theorem openTo_keep : ∀ a0 a1 a2 a3, Keep 256 a3 (openTo a0 a1 a2 a3)
  | b0, b1, 0, b2 => by
    rw [openTo.eq_1]
    exact Keep.refl _ _
  | b0, b1, (b3 + 1), b2 => by
    rw [openTo.eq_2]
    refine Keep.ite ?_ ?_
    · exact Keep.refl _ _
    · extract_lets -merge -underBinder +onlyGivenNames z1 z2 z3 z4 z5 z8
      have hz4 : Keep 256 b2 z4 := by
        unfold z4
        refine Keep.step (modCtx_keep _ _ _) rfl ?_
        exact Keep.refl _ _
      clear_value z4
      have hz5 : Keep 256 b2 z5 := by
        unfold z5
        refine Keep.ite ?_ ?_
        · refine Keep.foldl ?_ _ ?_
          · intro y6 x7
            refine Keep.step (schedAdd_keep _ _ _ _ _) rfl ?_
            exact Keep.refl _ _
          · exact hz4
        · exact hz4
      clear_value z5
      have hz8 : Keep 256 b2 z8 := by
        unfold z8
        refine Keep.step (setDues_keep _ _) rfl ?_
        exact hz5
      clear_value z8
      refine Keep.step (openTo_keep _ _ _ _) rfl ?_
      exact hz8

theorem overtake_keep : ∀ a0 a1 a2 a3, Keep 256 a3 (overtake a0 a1 a2 a3)
  | b0, b1, 0, b2 => by
    rw [overtake.eq_1]
    exact Keep.refl _ _
  | b0, b1, (b3 + 1), b2 => by
    rw [overtake.eq_2]
    refine Keep.ite ?_ ?_
    · exact Keep.refl _ _
    · extract_lets -merge -underBinder +onlyGivenNames z1 z2
      have hz1 : Keep 256 b2 z1 := by
        unfold z1
        refine Keep.step (openTo_keep _ _ _ _) rfl ?_
        exact Keep.refl _ _
      clear_value z1
      have hz2 : Keep 256 b2 z2 := by
        unfold z2
        split
        · exact hz1
        · extract_lets -merge -underBinder +onlyGivenNames z5 z6
          refine Keep.step (modChunk_keep _ _ _ _) rfl ?_
          refine Keep.foldl ?_ _ ?_
          · intro y7 x8
            refine Keep.step (modChunk_keep _ _ _ _) rfl ?_
            exact Keep.refl _ _
          · exact hz1
      clear_value z2
      refine Keep.step (overtake_keep _ _ _ _) rfl ?_
      refine Keep.step (modCtx_keep _ _ _) rfl ?_
      exact hz2

theorem ready_keep (a0) (a1) (a2) (a3) : Keep 256 a3 (ready a0 a1 a2 a3).2 := by
  unfold ready
  extract_lets -merge -underBinder +onlyGivenNames z1
  have hz1 : Keep 256 a3 z1 := by
    unfold z1
    refine Keep.step (openTo_keep _ _ _ _) rfl ?_
    refine Keep.step (overtake_keep _ _ _ _) rfl ?_
    exact Keep.refl _ _
  clear_value z1
  split
  · exact hz1
  · split
    · exact hz1
    · split
      · exact hz1
      · exact hz1

theorem placeLine_keep (a0) (a1) (a2) (a3) (a4) (a5) : Keep 2114008 a5 (placeLine a0 a1 a2 a3 a4 a5) := by
  unfold placeLine
  split
  next p1 e =>
    have h2 : Keep 2114008 a5 p1 := by
      refine Keep.ofSnd e ?_
      refine Keep.step (ready_keep _ _ _ _) rfl ?_
      exact Keep.refl _ _
    refine Keep.step (mstDiscard_keep _ _) rfl ?_
    exact h2
  next p3 p4 e =>
    have h5 : Keep 2114008 a5 p4 := by
      refine Keep.ofSnd e ?_
      refine Keep.step (ready_keep _ _ _ _) rfl ?_
      exact Keep.refl _ _
    extract_lets -merge -underBinder +onlyGivenNames z6 z7 z8
    refine Keep.ite ?_ ?_
    · refine Keep.step (mstDiscard_keep _ _) rfl ?_
      exact h5
    · extract_lets -merge -underBinder +onlyGivenNames z9 z10
      refine Keep.ite ?_ ?_
      · refine Keep.step (modChunk_keep _ _ _ _) rfl ?_
        exact h5
      · extract_lets -merge -underBinder +onlyGivenNames z11 z12 z13 z16 z15 z17
        have hz12 : Keep 2114008 a5 z12 := by
          unfold z12
          refine Keep.step (modChunk_keep _ _ _ _) rfl ?_
          exact h5
        clear_value z12
        have hz15 : Keep 2114008 a5 z15 := by
          unfold z15
          refine Keep.ite ?_ ?_
          · have hz16 : Keep 2114008 a5 z16 := by
              unfold z16
              refine Keep.step (modCtx_keep _ _ _) rfl ?_
              refine Keep.step (ownerTurn_keep _ _ _ _) rfl ?_
              exact hz12
            clear_value z16
            refine Keep.ite ?_ ?_
            · exact hz16
            · refine Keep.step (millWrite_keep _ _ _ _ _) rfl ?_
              exact hz16
          · exact hz12
        clear_value z15
        have hz17 : Keep 2114008 a5 z17 := by
          unfold z17
          split
          · refine Keep.ite ?_ ?_
            · refine Keep.step (mstOps_keep _ _ _) rfl ?_
              exact hz15
            · exact hz15
          · exact hz15
        clear_value z17
        refine Keep.step (mstProgress_keep _ _ _) rfl ?_
        exact hz17

theorem colComplete_keep (a0) (a1) (a2) (a3) : Keep 256 a3 (colComplete a0 a1 a2 a3) := by
  unfold colComplete
  split
  · exact Keep.refl _ _
  · refine Keep.ite ?_ ?_
    · refine Keep.step (modCtx_keep _ _ _) rfl ?_
      exact Keep.refl _ _
    · exact Keep.refl _ _

theorem mstLand_keep (a0) (a1) (a2) (a3) : Keep 2114008 a3 (mstLand a0 a1 a2 a3) := by
  unfold mstLand
  refine Keep.foldl ?_ _ ?_
  · intro y1 x2
    extract_lets -merge -underBinder +onlyGivenNames z3 z4 z5
    refine Keep.ite ?_ ?_
    · refine Keep.step (mstDiscard_keep _ _) rfl ?_
      exact Keep.refl _ _
    · extract_lets -merge -underBinder +onlyGivenNames z6 z7
      refine Keep.step (placeLine_keep _ _ _ _ _ _) rfl ?_
      refine Keep.step (modCtx_keep _ _ _) rfl ?_
      exact Keep.refl _ _
  · exact Keep.refl _ _

theorem mstDark_keep (a0) (a1) (a2) (a3) : Keep 256 a3 (mstDark a0 a1 a2 a3) := by
  unfold mstDark
  extract_lets -merge -underBinder +onlyGivenNames z1
  split
  · refine Keep.step (modCtx_keep _ _ _) rfl ?_
    exact Keep.refl _ _
  · split
    · refine Keep.step (modChunk_keep _ _ _ _) rfl ?_
      exact Keep.refl _ _
    · refine Keep.step (modCtx_keep _ _ _) rfl ?_
      exact Keep.refl _ _

theorem placeCol_keep (a0) (a1) (a2) (a3) : Keep 2114008 a3 (placeCol a0 a1 a2 a3) := by
  unfold placeCol
  extract_lets -merge -underBinder +onlyGivenNames z1 z2 z3 z4
  split
  · refine Keep.step (mstDiscard_keep _ _) rfl ?_
    exact Keep.refl _ _
  · extract_lets -merge -underBinder +onlyGivenNames z7
    refine Keep.ite ?_ ?_
    · refine Keep.step (mstDiscard_keep _ _) rfl ?_
      exact Keep.refl _ _
    · refine Keep.ite ?_ ?_
      · refine Keep.step (colComplete_keep _ _ _ _) rfl ?_
        refine Keep.step (placeLine_keep _ _ _ _ _ _) rfl ?_
        exact Keep.refl _ _
      · refine Keep.ite ?_ ?_
        · split
          next p8 e =>
            have h9 : Keep 2114008 a3 p8 := by
              refine Keep.ofSnd e ?_
              split
              · refine Keep.step (ready_keep _ _ _ _) rfl ?_
                exact Keep.refl _ _
              · exact Keep.refl _ _
            refine Keep.step (mstDiscard_keep _ _) rfl ?_
            exact h9
          next p10 p11 e =>
            have h12 : Keep 2114008 a3 p11 := by
              refine Keep.ofSnd e ?_
              split
              · refine Keep.step (ready_keep _ _ _ _) rfl ?_
                exact Keep.refl _ _
              · exact Keep.refl _ _
            refine Keep.step (mstProgress_keep _ _ _) rfl ?_
            refine Keep.step (mstOps_keep _ _ _) rfl ?_
            refine Keep.step (modChunk_keep _ _ _ _) rfl ?_
            exact h12
        · extract_lets -merge -underBinder +onlyGivenNames z13
          have hz13 : Keep 2114008 a3 z13 := by
            unfold z13
            refine Keep.step (openTo_keep _ _ _ _) rfl ?_
            refine Keep.step (overtake_keep _ _ _ _) rfl ?_
            exact Keep.refl _ _
          clear_value z13
          split
          · refine Keep.step (mstDiscard_keep _ _) rfl ?_
            exact hz13
          · refine Keep.ite ?_ ?_
            · refine Keep.step (mstDiscard_keep _ _) rfl ?_
              exact hz13
            · refine Keep.ite ?_ ?_
              · refine Keep.ite ?_ ?_
                · refine Keep.step (mstProgress_keep _ _ _) rfl ?_
                  refine Keep.step (modChunk_keep _ _ _ _) rfl ?_
                  exact hz13
                · refine Keep.step (mstDiscard_keep _ _) rfl ?_
                  exact hz13
              · refine Keep.ite ?_ ?_
                · refine Keep.step (mstProgress_keep _ _ _) rfl ?_
                  refine Keep.step (modChunk_keep _ _ _ _) rfl ?_
                  exact hz13
                · refine Keep.step (mstDiscard_keep _ _) rfl ?_
                  exact hz13

theorem colHdr_keep (a0) (a1) (a2) (a3) : Keep 1288 a3 (colHdr a0 a1 a2 a3) := by
  unfold colHdr
  split
  · refine Keep.ite ?_ ?_
    · exact Keep.refl _ _
    · refine Keep.step (modMst_keep _ _) rfl ?_
      refine Keep.step (takeRx_keep _ _ _ _ _) rfl ?_
      exact Keep.refl _ _
  · exact Keep.refl _ _

theorem execColHdr_keep (a0) (a1) (a2) (a3) : ∃ t, execColHdr a0 a1 a2 a3 = .next t ∧ Keep 1288 a3 t := by
  unfold execColHdr
  refine ⟨_, rfl, ?_⟩
  refine Keep.step (colHdr_keep _ _ _ _) rfl ?_
  exact Keep.refl _ _

theorem colLine_keep (a0) (a1) (a2) (a3) (a4) : Keep 2115032 a4 (colLine a0 a1 a2 a3 a4) := by
  unfold colLine
  split
  · refine Keep.ite ?_ ?_
    · exact Keep.refl _ _
    · extract_lets -merge -underBinder +onlyGivenNames z4
      have hz4 : Keep 2115032 a4 z4 := by
        unfold z4
        refine Keep.step (modMst_keep _ _) rfl ?_
        refine Keep.step (takeRx_keep _ _ _ _ _) rfl ?_
        exact Keep.refl _ _
      clear_value z4
      refine Keep.ite ?_ ?_
      · refine Keep.step (mstDiscard_keep _ _) rfl ?_
        exact hz4
      · refine Keep.step (placeCol_keep _ _ _ _) rfl ?_
        exact hz4
  · exact Keep.refl _ _

theorem execColLine_keep (a0) (a1) (a2) (a3) (a4) : ∃ t, execColLine a0 a1 a2 a3 a4 = .next t ∧ Keep 2115032 a4 t := by
  unfold execColLine
  refine ⟨_, rfl, ?_⟩
  refine Keep.step (colLine_keep _ _ _ _ _) rfl ?_
  exact Keep.refl _ _

theorem mstFrame_keep (a0) : Keep 256 a0 (mstFrame a0) := by
  unfold mstFrame
  refine Keep.foldl ?_ _ ?_
  · intro y1 x2
    extract_lets -merge -underBinder +onlyGivenNames z3 z4
    have hz4 : Keep 256 y1 z4 := by
      unfold z4
      refine Keep.foldl ?_ _ ?_
      · intro y5 x6
        extract_lets -merge -underBinder +onlyGivenNames z7
        refine Keep.ite ?_ ?_
        · exact Keep.refl _ _
        · refine Keep.foldl ?_ _ ?_
          · intro y8 x9
            refine Keep.step (schedAdd_keep _ _ _ _ _) rfl ?_
            exact Keep.refl _ _
          · exact Keep.refl _ _
      · exact Keep.refl _ _
    clear_value z4
    refine Keep.ite ?_ ?_
    · exact Keep.refl _ _
    · refine Keep.step (setDues_keep _ _) rfl ?_
      exact hz4
  · exact Keep.refl _ _

theorem markLate_keep (a0) (a1) (a2) : Keep 256 a2 (markLate a0 a1 a2) := by
  unfold markLate
  refine Keep.step (modCtx_keep _ _ _) rfl ?_
  refine Keep.step (modChunk_keep _ _ _ _) rfl ?_
  exact Keep.refl _ _

theorem reportLate_keep (a0) (a1) (a2) (a3) (a4) (a5) : Keep 256 a5 (reportLate a0 a1 a2 a3 a4 a5) := by
  unfold reportLate
  refine Keep.step (modCtx_keep _ _ _) rfl ?_
  exact Keep.refl _ _

theorem dueTick_keep (a0) (a1) (a2) : Keep 256 a2 (dueTick a0 a1 a2) := by
  unfold dueTick
  extract_lets -merge -underBinder +onlyGivenNames z1
  split
  · exact Keep.refl _ _
  · extract_lets -merge -underBinder +onlyGivenNames z4 z5
    refine Keep.ite ?_ ?_
    · exact Keep.refl _ _
    · extract_lets -merge -underBinder +onlyGivenNames z6
      have hz6 : Keep 256 a2 z6 := by
        unfold z6
        refine Keep.step (modChunk_keep _ _ _ _) rfl ?_
        exact Keep.refl _ _
      clear_value z6
      refine Keep.ite ?_ ?_
      · extract_lets -merge -underBinder +onlyGivenNames z7
        have hz7 : Keep 256 a2 z7 := by
          unfold z7
          refine Keep.step (reportLate_keep _ _ _ _ _ _) rfl ?_
          exact hz6
        clear_value z7
        refine Keep.ite ?_ ?_
        · exact hz7
        · refine Keep.step (markLate_keep _ _ _) rfl ?_
          exact hz7
      · exact hz6

theorem lateLimit_keep (a0) (a1) (a2) : Keep 2113864 a2 (lateLimit a0 a1 a2) := by
  unfold lateLimit
  extract_lets -merge -underBinder +onlyGivenNames z1
  refine Keep.ite ?_ ?_
  · exact Keep.refl _ _
  · refine Keep.ite ?_ ?_
    · split
      · refine Keep.ite ?_ ?_
        · exact Keep.refl _ _
        · refine Keep.step (mstProgress_keep _ _ _) rfl ?_
          refine Keep.step (giveUp_keep _ _ _ _) rfl ?_
          exact Keep.refl _ _
      · exact Keep.refl _ _
    · split
      · refine Keep.ite ?_ ?_
        · exact Keep.refl _ _
        · extract_lets -merge -underBinder +onlyGivenNames z5
          refine Keep.step (mstProgress_keep _ _ _) rfl ?_
          refine Keep.step (reportLate_keep _ _ _ _ _ _) rfl ?_
          refine Keep.step (giveUp_keep _ _ _ _) rfl ?_
          exact Keep.refl _ _
      · split
        · refine Keep.step (closeDone_keep _ _ _) rfl ?_
          refine Keep.step (modChunk_keep _ _ _ _) rfl ?_
          exact Keep.refl _ _
        · exact Keep.refl _ _

theorem mstSiteFenced_keep (a0) (a1) : Keep 2113864 a1 (mstSiteFenced a0 a1) := by
  unfold mstSiteFenced
  refine Keep.foldl ?_ _ ?_
  · intro y1 x2
    extract_lets -merge -underBinder +onlyGivenNames z3
    split
    · exact Keep.refl _ _
    · refine Keep.foldl ?_ _ ?_
      · intro y6 x7
        refine Keep.ite ?_ ?_
        · refine Keep.step (mstProgress_keep _ _ _) rfl ?_
          refine Keep.step (giveUp_keep _ _ _ _) rfl ?_
          exact Keep.refl _ _
        · exact Keep.refl _ _
      · exact Keep.refl _ _
  · exact Keep.refl _ _

theorem accWrite_keep (a0) (a1) (a2) (a3) : Keep 464 a3 (accWrite a0 a1 a2 a3) := by
  unfold accWrite
  extract_lets -merge -underBinder +onlyGivenNames z1 z2
  refine Keep.ite ?_ ?_
  · exact Keep.refl _ _
  · split
    · exact Keep.refl _ _
    · extract_lets -merge -underBinder +onlyGivenNames z6 z7
      have hz7 : Keep 464 a3 z7 := by
        unfold z7
        refine Keep.foldl ?_ _ ?_
        · intro y8 x9
          extract_lets -merge -underBinder +onlyGivenNames z10
          refine Keep.ite ?_ ?_
          · exact Keep.refl _ _
          · refine Keep.step (millWrite_keep _ _ _ _ _) rfl ?_
            refine Keep.step (ownerTurn_keep _ _ _ _) rfl ?_
            exact Keep.refl _ _
        · exact Keep.refl _ _
      clear_value z7
      refine Keep.step (modChunk_keep _ _ _ _) rfl ?_
      exact hz7

theorem accFrame_keep (a0) : Keep 464 a0 (accFrame a0) := by
  unfold accFrame
  refine Keep.foldl ?_ _ ?_
  · intro y1 x2
    refine Keep.foldl ?_ _ ?_
    · intro y3 x4
      refine Keep.foldl ?_ _ ?_
      · intro y5 x6
        refine Keep.ite ?_ ?_
        · exact Keep.refl _ _
        · refine Keep.step (accWrite_keep _ _ _ _) rfl ?_
          exact Keep.refl _ _
      · exact Keep.refl _ _
    · exact Keep.refl _ _
  · exact Keep.refl _ _

theorem mstFails_keep (a0) (a1) (a2) (a3) (a4) : Keep 16400 a4 (mstFails a0 a1 a2 a3 a4) := by
  unfold mstFails
  refine Keep.step (failAccess_keep _ _ _) rfl ?_
  exact Keep.refl _ _

theorem meetLine_keep (a0) (a1) (a2) (a3) : Keep 2113616 a3 (meetLine a0 a1 a2 a3) := by
  unfold meetLine
  split
  · refine Keep.ite ?_ ?_
    · refine Keep.step (mstFails_keep _ _ _ _ _) rfl ?_
      exact Keep.refl _ _
    · refine Keep.step (millMeet_keep _ _) rfl ?_
      refine Keep.step (ownerTurn_keep _ _ _ _) rfl ?_
      exact Keep.refl _ _
  · exact Keep.refl _ _

theorem mstWrite_keep (a0) (a1) (a2) (a3) (a4) : Keep 2114000 a4 (mstWrite a0 a1 a2 a3 a4) := by
  unfold mstWrite
  split
  · refine Keep.ite ?_ ?_
    · extract_lets -merge -underBinder +onlyGivenNames z2
      have hz2 : Keep 2114000 a4 z2 := by
        unfold z2
        refine Keep.ite ?_ ?_
        · refine Keep.step (mstFails_keep _ _ _ _ _) rfl ?_
          exact Keep.refl _ _
        · exact Keep.refl _ _
      clear_value z2
      refine Keep.step (modChunk_keep _ _ _ _) rfl ?_
      exact hz2
    · extract_lets -merge -underBinder +onlyGivenNames z3
      refine Keep.step (afterMill_keep _ _ _ _) rfl ?_
      refine Keep.step (millWrite_keep _ _ _ _ _) rfl ?_
      refine Keep.step (ownerTurn_keep _ _ _ _) rfl ?_
      exact Keep.refl _ _
  · refine Keep.step (modChunk_keep _ _ _ _) rfl ?_
    refine Keep.step (modMst_keep _ _) rfl ?_
    exact Keep.refl _ _

theorem mstIssued_keep (a0) (a1) : Keep 256 a1 (mstIssued a0 a1) := by
  unfold mstIssued
  extract_lets -merge -underBinder +onlyGivenNames z1 z2
  refine Keep.ite ?_ ?_
  · refine Keep.step (modMst_keep _ _) rfl ?_
    exact Keep.refl _ _
  · refine Keep.step (modMst_keep _ _) rfl ?_
    exact Keep.refl _ _

theorem planGroup_keep (a0) (a1) (a2) (a3) (a4) : Keep 2114004 a4 (planGroup a0 a1 a2 a3 a4) := by
  unfold planGroup
  extract_lets -merge -underBinder +onlyGivenNames z1 z2 z3 z8 z9 z10 z7
  have hz7 : Keep 2114004 a4 z7 := by
    unfold z7
    refine Keep.ite ?_ ?_
    · have hz8 : Keep 2114004 a4 z8 := by
        unfold z8
        refine Keep.step (modSlu_keep _ _) rfl ?_
        exact Keep.refl _ _
      clear_value z8
      refine Keep.step (modChunk_keep _ _ _ _) rfl ?_
      exact hz8
    · exact Keep.refl _ _
  clear_value z7
  refine Keep.ite ?_ ?_
  · extract_lets -merge -underBinder +onlyGivenNames z11
    refine Keep.foldl ?_ _ ?_
    · intro y12 x13
      refine Keep.step (mstWrite_keep _ _ _ _ _) rfl ?_
      exact Keep.refl _ _
    · exact hz7
  · exact hz7

theorem groupDone_keep (a0) (a1) (a2) : Keep 256 a2 (groupDone a0 a1 a2) := by
  unfold groupDone
  refine Keep.step (modMst_keep _ _) rfl ?_
  refine Keep.step (modChunk_keep _ _ _ _) rfl ?_
  exact Keep.refl _ _

theorem ownerFinish_keep (a0) (a1) (a2) : Keep 2114012 a2 (ownerFinish a0 a1 a2) := by
  unfold ownerFinish
  extract_lets -merge -underBinder +onlyGivenNames z1 z2 z3
  split
  · extract_lets -merge -underBinder +onlyGivenNames z7 z10 z11 z12 z18 z19
    have hz7 : Keep 2114012 a2 z7 := by
      unfold z7
      refine Keep.foldl ?_ _ ?_
      · intro y8 x9
        refine Keep.step (meetLine_keep _ _ _ _) rfl ?_
        exact Keep.refl _ _
      · exact Keep.refl _ _
    clear_value z7
    have hz10 : Keep 2114012 a2 z10 := by
      unfold z10
      refine Keep.step (modChunk_keep _ _ _ _) rfl ?_
      exact hz7
    clear_value z10
    have hz11 : Keep 2114012 a2 z11 := by
      unfold z11
      refine Keep.ite ?_ ?_
      · exact hz10
      · refine Keep.step (mstOps_keep _ _ _) rfl ?_
        exact hz10
    clear_value z11
    have hz12 : Keep 2114012 a2 z12 := by
      unfold z12
      refine Keep.foldl ?_ _ ?_
      · intro y13 x14
        extract_lets -merge -underBinder +onlyGivenNames z15
        refine Keep.foldl ?_ _ ?_
        · intro y16 x17
          refine Keep.step (mstWrite_keep _ _ _ _ _) rfl ?_
          exact Keep.refl _ _
        · exact Keep.refl _ _
      · exact hz11
    clear_value z12
    have hz18 : Keep 2114012 a2 z18 := by
      unfold z18
      refine Keep.ite ?_ ?_
      · refine Keep.step (planGroup_keep _ _ _ _ _) rfl ?_
        exact hz12
      · exact hz12
    clear_value z18
    have hz19 : Keep 2114012 a2 z19 := by
      unfold z19
      refine Keep.foldl ?_ _ ?_
      · intro y20 x21
        refine Keep.step (sendPart_keep _ _ _ _ _ _ _) rfl ?_
        exact Keep.refl _ _
      · exact hz18
    clear_value z19
    refine Keep.step (groupDone_keep _ _ _) rfl ?_
    exact hz19

theorem partialFinish_keep (a0) (a1) (a2) : Keep 2113864 a2 (partialFinish a0 a1 a2) := by
  unfold partialFinish
  extract_lets -merge -underBinder +onlyGivenNames z1 z2
  split
  · extract_lets -merge -underBinder +onlyGivenNames z5 z6 z7
    have hz7 : Keep 2113864 a2 z7 := by
      unfold z7
      refine Keep.step (modChunk_keep _ _ _ _) rfl ?_
      exact Keep.refl _ _
    clear_value z7
    refine Keep.step (sendPart_keep _ _ _ _ _ _ _) rfl ?_
    exact hz7

theorem groupFinish_keep (a0) (a1) (a2) (a3) : Keep 2114012 a3 (groupFinish a0 a1 a2 a3) := by
  unfold groupFinish
  extract_lets -merge -underBinder +onlyGivenNames z1 z2 z3
  refine Keep.ite ?_ ?_
  · exact Keep.refl _ _
  · extract_lets -merge -underBinder +onlyGivenNames z4
    split
    · exact Keep.refl _ _
    · refine Keep.ite ?_ ?_
      · exact Keep.refl _ _
      · refine Keep.ite ?_ ?_
        · refine Keep.ite ?_ ?_
          · refine Keep.step (ownerFinish_keep _ _ _) rfl ?_
            exact Keep.refl _ _
          · exact Keep.refl _ _
        · refine Keep.ite ?_ ?_
          · refine Keep.step (partialFinish_keep _ _ _) rfl ?_
            exact Keep.refl _ _
          · refine Keep.ite ?_ ?_
            · split
              · refine Keep.step (groupDone_keep _ _ _) rfl ?_
                refine Keep.step (planGroup_keep _ _ _ _ _) rfl ?_
                exact Keep.refl _ _
              · exact Keep.refl _ _
            · exact Keep.refl _ _

theorem execGroupFinish_keep (a0) (a1) (a2) (a3) : ∃ t, execGroupFinish a0 a1 a2 a3 = .next t ∧ Keep 2114012 a3 t := by
  unfold execGroupFinish
  refine ⟨_, rfl, ?_⟩
  refine Keep.step (groupFinish_keep _ _ _ _) rfl ?_
  exact Keep.refl _ _

theorem mstSent_keep (a0) (a1) : Keep 256 a1 (mstSent a0 a1) := by
  unfold mstSent
  refine Keep.foldl ?_ _ ?_
  · intro y1 x2
    extract_lets -merge -underBinder +onlyGivenNames z3
    refine Keep.step (modCtx_keep _ _ _) rfl ?_
    exact Keep.refl _ _
  · exact Keep.refl _ _

theorem runRecord_keep (a0) (a1) : Keep 49552 a1 (runRecord a0 a1) := by
  unfold runRecord
  extract_lets -merge -underBinder +onlyGivenNames z1 z2 z3 z4 z10 z9 z11
  have hz4 : Keep 49552 a1 z4 := by
    unfold z4
    refine Keep.foldl ?_ _ ?_
    · intro y5 x6
      extract_lets -merge -underBinder +onlyGivenNames z7
      refine Keep.ite ?_ ?_
      · exact Keep.refl _ _
      · refine Keep.step (millWrite_keep _ _ _ _ _) rfl ?_
        exact Keep.refl _ _
    · exact Keep.refl _ _
  clear_value z4
  have hz9 : Keep 49552 a1 z9 := by
    unfold z9
    refine Keep.ite ?_ ?_
    · exact hz4
    · have hz10 : Keep 49552 a1 z10 := by
        unfold z10
        refine Keep.step (modMst_keep _ _) rfl ?_
        exact hz4
      refine Keep.step (raiseRated_keep _ _ _ _ _ _ _) rfl ?_
      exact hz10
  clear_value z9
  have hz11 : Keep 49552 a1 z11 := by
    unfold z11
    refine Keep.ite ?_ ?_
    · refine Keep.foldl ?_ _ ?_
      · intro y12 x13
        refine Keep.step (modPair_keep _ _) rfl ?_
        exact Keep.refl _ _
      · exact hz9
    · exact hz9
  clear_value z11
  refine Keep.step (modCtx_keep _ _ _) rfl ?_
  exact hz11

theorem deliverChunk_keep (a0) (a1) (a2) (a3) : Keep 2146768 a3 (deliverChunk a0 a1 a2 a3) := by
  unfold deliverChunk
  extract_lets -merge -underBinder +onlyGivenNames z1 z2 z3 z4 z5 z6
  have hz2 : Keep 2146768 a3 z2 := by
    unfold z2
    refine Keep.step (modCtx_keep _ _ _) rfl ?_
    exact Keep.refl _ _
  clear_value z2
  have hz3 : Keep 2146768 a3 z3 := by
    unfold z3
    refine Keep.ite ?_ ?_
    · refine Keep.step (runRecord_keep _ _) rfl ?_
      exact hz2
    · exact hz2
  clear_value z3
  have hz5 : Keep 2146768 a3 z5.2 := by
    unfold z5
    refine Keep.step (counterAdd_keep _ _ _ _) rfl ?_
    refine Keep.step (ownerTurn_keep _ _ _ _) rfl ?_
    exact hz3
  clear_value z5
  have hz6 : Keep 2146768 a3 z6 := by
    unfold z6
    refine Keep.ite ?_ ?_
    · exact hz5
    · refine Keep.step (mstFails_keep _ _ _ _ _) rfl ?_
      exact hz5
  clear_value z6
  refine Keep.step (modCtx_keep _ _ _) rfl ?_
  exact hz6

theorem chunkComplete_keep (a0) (a1) : Keep 2146768 a1 (chunkComplete a0 a1) := by
  unfold chunkComplete
  extract_lets -merge -underBinder +onlyGivenNames z1
  split
  · exact Keep.refl _ _
  · refine Keep.ite ?_ ?_
    · exact Keep.refl _ _
    · refine Keep.step (deliverChunk_keep _ _ _ _) rfl ?_
      exact Keep.refl _ _

theorem execChunkComplete_keep (a0) (a1) : ∃ t, execChunkComplete a0 a1 = .next t ∧ Keep 2146768 a1 t := by
  unfold execChunkComplete
  refine ⟨_, rfl, ?_⟩
  refine Keep.step (chunkComplete_keep _ _) rfl ?_
  exact Keep.refl _ _

theorem endChunks_keep : ∀ a0 a1 a2 a3, Keep 2146768 a3 (endChunks a0 a1 a2 a3)
  | b0, b1, [], b2 => by
    rw [endChunks.eq_1]
    exact Keep.refl _ _
  | b0, b1, (b3 :: []), b2 => by
    rw [endChunks.eq_2]
    refine Keep.step (endChunks_keep _ _ _ _) rfl ?_
    refine Keep.step (deliverChunk_keep _ _ _ _) rfl ?_
    exact Keep.refl _ _
  | b0, b1, (b3 :: (b4 :: b5)), b2 => by
    rw [endChunks.eq_3]
    refine Keep.step (endChunks_keep _ _ _ _) rfl ?_
    refine Keep.step (deliverChunk_keep _ _ _ _) rfl ?_
    exact Keep.refl _ _

theorem endRun_keep (a0) (a1) (a2) : Keep 2146772 a2 (endRun a0 a1 a2) := by
  unfold endRun
  extract_lets -merge -underBinder +onlyGivenNames z1 z2 z3 z4
  have hz4 : Keep 2146772 a2 z4 := by
    unfold z4
    refine Keep.ite ?_ ?_
    · refine Keep.step (runRecord_keep _ _) rfl ?_
      refine Keep.step (modCtx_keep _ _ _) rfl ?_
      exact Keep.refl _ _
    · refine Keep.step (endChunks_keep _ _ _ _) rfl ?_
      exact Keep.refl _ _
  clear_value z4
  refine Keep.step (modMst_keep _ _) rfl ?_
  refine Keep.step (modSlu_keep _ _) rfl ?_
  refine Keep.step (modCtx_keep _ _ _) rfl ?_
  exact hz4

theorem ctxSetup_keep (a0) (a1) : Keep 256 a1 (ctxSetup a0 a1) := by
  unfold ctxSetup
  extract_lets -merge -underBinder +onlyGivenNames z1 z2 z3
  refine Keep.ite ?_ ?_
  · refine Keep.step (modCtx_keep _ _ _) rfl ?_
    exact Keep.refl _ _
  · refine Keep.step (modCtx_keep _ _ _) rfl ?_
    exact Keep.refl _ _

theorem ctxDrop_keep (a0) (a1) : Keep 260 a1 (ctxDrop a0 a1) := by
  unfold ctxDrop
  extract_lets -merge -underBinder +onlyGivenNames z1
  refine Keep.step (modMst_keep _ _) rfl ?_
  refine Keep.step (modSlu_keep _ _) rfl ?_
  refine Keep.step (modCtx_keep _ _ _) rfl ?_
  exact Keep.refl _ _

theorem ctxAbort_keep (a0) (a1) : Keep 2146772 a1 (ctxAbort a0 a1) := by
  unfold ctxAbort
  extract_lets -merge -underBinder +onlyGivenNames z1
  refine Keep.ite ?_ ?_
  · refine Keep.step (modCtx_keep _ _ _) rfl ?_
    refine Keep.step (endRun_keep _ _ _) rfl ?_
    exact Keep.refl _ _
  · exact Keep.refl _ _

theorem ctxFree_keep (a0) (a1) : Keep 2146772 a1 (ctxFree a0 a1) := by
  unfold ctxFree
  extract_lets -merge -underBinder +onlyGivenNames z1
  refine Keep.ite ?_ ?_
  · exact Keep.refl _ _
  · refine Keep.ite ?_ ?_
    · refine Keep.step (modCtx_keep _ _ _) rfl ?_
      exact Keep.refl _ _
    · refine Keep.step (ctxDrop_keep _ _) rfl ?_
      refine Keep.ite ?_ ?_
      · refine Keep.step (endRun_keep _ _ _) rfl ?_
        exact Keep.refl _ _
      · exact Keep.refl _ _

theorem ctxJobEnds_keep (a0) (a1) : Keep 2146772 a1 (ctxJobEnds a0 a1) := by
  unfold ctxJobEnds
  refine Keep.foldl ?_ _ ?_
  · intro y1 x2
    refine Keep.step (ctxDrop_keep _ _) rfl ?_
    refine Keep.ite ?_ ?_
    · refine Keep.step (endRun_keep _ _ _) rfl ?_
      exact Keep.refl _ _
    · exact Keep.refl _ _
  · exact Keep.refl _ _

theorem ctxConstants_keep (a0) (a1) (a2) : Keep 256 a2 (ctxConstants a0 a1 a2) := by
  unfold ctxConstants
  refine Keep.step (modCtx_keep _ _ _) rfl ?_
  exact Keep.refl _ _

theorem execContextSetup_keep (a0) (a1) (a2) : ∃ t, execContextSetup a0 a1 a2 = .next t ∧ Keep 256 a2 t := by
  unfold execContextSetup
  refine ⟨_, rfl, ?_⟩
  refine Keep.ite ?_ ?_
  · refine Keep.step (ctxSetup_keep _ _) rfl ?_
    exact Keep.refl _ _
  · exact Keep.refl _ _

theorem execContextAbort_keep (a0) (a1) (a2) : ∃ t, execContextAbort a0 a1 a2 = .next t ∧ Keep 2146772 a2 t := by
  unfold execContextAbort
  refine ⟨_, rfl, ?_⟩
  refine Keep.ite ?_ ?_
  · refine Keep.step (ctxAbort_keep _ _) rfl ?_
    exact Keep.refl _ _
  · exact Keep.refl _ _

theorem execContextFree_keep (a0) (a1) (a2) : ∃ t, execContextFree a0 a1 a2 = .next t ∧ Keep 2146772 a2 t := by
  unfold execContextFree
  refine ⟨_, rfl, ?_⟩
  refine Keep.ite ?_ ?_
  · refine Keep.step (ctxFree_keep _ _) rfl ?_
    exact Keep.refl _ _
  · exact Keep.refl _ _

theorem execContextConstants_keep (a0) (a1) (a2) (a3) : ∃ t, execContextConstants a0 a1 a2 a3 = .next t ∧ Keep 256 a3 t := by
  unfold execContextConstants
  refine ⟨_, rfl, ?_⟩
  refine Keep.ite ?_ ?_
  · refine Keep.step (ctxConstants_keep _ _ _) rfl ?_
    exact Keep.refl _ _
  · exact Keep.refl _ _

theorem mstFence_keep (a0) (a1) : Keep 2146772 a1 (mstFence a0 a1) := by
  unfold mstFence
  refine Keep.foldl ?_ _ ?_
  · intro y1 x2
    refine Keep.step (modCtx_keep _ _ _) rfl ?_
    refine Keep.ite ?_ ?_
    · refine Keep.step (endRun_keep _ _ _) rfl ?_
      exact Keep.refl _ _
    · exact Keep.refl _ _
  · exact Keep.refl _ _

theorem mstReturn_keep (a0) (a1) : Keep 256 a1 (mstReturn a0 a1) := by
  unfold mstReturn
  refine Keep.foldl ?_ _ ?_
  · intro y1 x2
    refine Keep.step (modCtx_keep _ _ _) rfl ?_
    exact Keep.refl _ _
  · exact Keep.refl _ _

theorem mstTick_keep (a0) : Keep 32 a0 (mstTick a0) := by
  unfold mstTick
  refine Keep.foldl ?_ _ ?_
  · intro y1 x2
    refine Keep.ite ?_ ?_
    · exact Keep.refl _ _
    · refine Keep.step (modBlk_keep _ _) rfl ?_
      exact Keep.refl _ _
  · exact Keep.refl _ _

theorem darken_keep (a0) : Keep 4 a0 (darken a0) := by
  unfold darken
  extract_lets -merge -underBinder +onlyGivenNames z1 z2 z3 z4
  refine Keep.step (modSlu_keep _ _) rfl ?_
  exact Keep.refl _ _

theorem undarken_keep (a0) : Keep 4 a0 (undarken a0) := by
  unfold undarken
  extract_lets -merge -underBinder +onlyGivenNames z1
  refine Keep.step (modSlu_keep _ _) rfl ?_
  exact Keep.refl _ _

theorem modFeed_keep (a0) (a1) (a2) (a3) : Keep 4 a3 (modFeed a0 a1 a2 a3) := by
  unfold modFeed
  refine Keep.step (modSlu_keep _ _) rfl ?_
  exact Keep.refl _ _

theorem ringRelease_keep (a0) (a1) (a2) (a3) (a4) : Keep 4 a4 (ringRelease a0 a1 a2 a3 a4) := by
  unfold ringRelease
  extract_lets -merge -underBinder +onlyGivenNames z1 z2
  refine Keep.step (modSlu_keep _ _) rfl ?_
  exact Keep.refl _ _

theorem feedTake_keep (a0) (a1) (a2) (a3) (a4) (a5) : Keep 4 a5 (feedTake a0 a1 a2 a3 a4 a5).2 := by
  unfold feedTake
  extract_lets -merge -underBinder +onlyGivenNames z1 z2 z3
  have hz3 : Keep 4 a5 z3 := by
    unfold z3
    refine Keep.step (modFeed_keep _ _ _ _) rfl ?_
    exact Keep.refl _ _
  clear_value z3
  refine Keep.step (ringRelease_keep _ _ _ _ _) rfl ?_
  exact hz3

theorem fetchLines_keep : ∀ a0 a1 a2 a3 a4 a5 a6, Keep 2121748 a6 (fetchLines a0 a1 a2 a3 a4 a5 a6)
  | b0, b1, b2, b3, b4, 0, b5 => by
    rw [fetchLines.eq_1]
    exact Keep.refl _ _
  | b0, b1, b2, b3, b4, (b6 + 1), b5 => by
    rw [fetchLines.eq_2]
    split
    · exact Keep.refl _ _
    · extract_lets -merge -underBinder +onlyGivenNames z3 z4 z5 z6
      have hz4 : Keep 2121748 b5 z4.2 := by
        unfold z4
        refine Keep.step (poolRead_keep _ _ _) rfl ?_
        exact Keep.refl _ _
      clear_value z4
      have hz5 : Keep 2121748 b5 z5 := by
        unfold z5
        refine Keep.step (modSlu_keep _ _) rfl ?_
        exact hz4
      clear_value z5
      have hz6 : Keep 2121748 b5 z6 := by
        unfold z6
        refine Keep.step (noteLines_keep _ _ _) rfl ?_
        exact hz5
      clear_value z6
      refine Keep.step (fetchLines_keep _ _ _ _ _ _ _) rfl ?_
      refine Keep.step (modFeed_keep _ _ _ _) rfl ?_
      exact hz6

theorem fetchFrame_keep (a0) (a1) (a2) (a3) (a4) : Keep 2121748 a4 (fetchFrame a0 a1 a2 a3 a4) := by
  unfold fetchFrame
  refine Keep.foldl ?_ _ ?_
  · intro y1 x2
    extract_lets -merge -underBinder +onlyGivenNames z3
    refine Keep.ite ?_ ?_
    · exact Keep.refl _ _
    · extract_lets -merge -underBinder +onlyGivenNames z4
      refine Keep.foldl ?_ _ ?_
      · intro y5 x6
        extract_lets -merge -underBinder +onlyGivenNames z7
        refine Keep.ite ?_ ?_
        · extract_lets -merge -underBinder +onlyGivenNames z8
          refine Keep.step (fetchLines_keep _ _ _ _ _ _ _) rfl ?_
          exact Keep.refl _ _
        · exact Keep.refl _ _
      · exact Keep.refl _ _
  · exact Keep.refl _ _

theorem launchFlits_keep (a0) (a1) (a2) (a3) (a4) (a5) (a6) (a7) : Keep 4 a7 (launchFlits a0 a1 a2 a3 a4 a5 a6 a7) := by
  unfold launchFlits
  extract_lets -merge -underBinder +onlyGivenNames z1 z2 z3
  refine Keep.step (modSlu_keep _ _) rfl ?_
  exact Keep.refl _ _

theorem owe_keep (a0) (a1) (a2) (a3) : Keep 4 a3 (owe a0 a1 a2 a3) := by
  unfold owe
  refine Keep.step (modFeed_keep _ _ _ _) rfl ?_
  exact Keep.refl _ _

theorem readReturn_keep (a0) (a1) (a2) : Keep 4 a2 (readReturn a0 a1 a2) := by
  unfold readReturn
  extract_lets -merge -underBinder +onlyGivenNames z1
  refine Keep.ite ?_ ?_
  · refine Keep.step (modSlu_keep _ _) rfl ?_
    refine Keep.step (modFeed_keep _ _ _ _) rfl ?_
    exact Keep.refl _ _
  · exact Keep.refl _ _

theorem transmit_keep (a0) (a1) (a2) (a3) (a4) (a5) : Keep 4202756 a5 (transmit a0 a1 a2 a3 a4 a5) := by
  unfold transmit
  extract_lets -merge -underBinder +onlyGivenNames z1
  refine Keep.ite ?_ ?_
  · exact Keep.refl _ _
  · extract_lets -merge -underBinder +onlyGivenNames z2 z3 z4 z5 z6 z7 z8 z9
    have hz9 : Keep 4202756 a5 z9 := by
      unfold z9
      refine Keep.ite ?_ ?_
      · refine Keep.foldl ?_ _ ?_
        · intro y10 x11
          refine Keep.foldl ?_ _ ?_
          · intro y12 x13
            refine Keep.step (mstDark_keep _ _ _ _) rfl ?_
            exact Keep.refl _ _
          · exact Keep.refl _ _
        · exact Keep.refl _ _
      · exact Keep.refl _ _
    clear_value z9
    refine Keep.ite ?_ ?_
    · refine Keep.ite ?_ ?_
      · refine Keep.step (owe_keep _ _ _ _) rfl ?_
        exact hz9
      · exact hz9
    · extract_lets -merge -underBinder +onlyGivenNames z14 z15
      refine Keep.ite ?_ ?_
      · exact hz9
      · split
        next p16 p17 e =>
          have h18 : Keep 4202756 a5 p17 := by
            refine Keep.ofSnd e ?_
            refine Keep.step (feedTake_keep _ _ _ _ _ _) rfl ?_
            exact hz9
          extract_lets -merge -underBinder +onlyGivenNames z19 z20 z21 z22 z23
          have hz19 : Keep 4202756 a5 z19 := by
            unfold z19
            refine Keep.ite ?_ ?_
            · refine Keep.step (modFeed_keep _ _ _ _) rfl ?_
              exact h18
            · refine Keep.ite ?_ ?_
              · refine Keep.step (owe_keep _ _ _ _) rfl ?_
                exact h18
              · exact h18
          clear_value z19
          have hz21 : Keep 4202756 a5 z21 := by
            unfold z21
            refine Keep.ite ?_ ?_
            · exact hz19
            · refine Keep.step (noteBytes_keep _ _ _) rfl ?_
              exact hz19
          clear_value z21
          have hz22 : Keep 4202756 a5 z22 := by
            unfold z22
            refine Keep.step (modSlu_keep _ _) rfl ?_
            exact hz21
          clear_value z22
          have hz23 : Keep 4202756 a5 z23 := by
            unfold z23
            refine Keep.step (emit_keep _ _) rfl ?_
            exact hz22
          clear_value z23
          refine Keep.foldl ?_ _ ?_
          · intro y24 x25
            refine Keep.ite ?_ ?_
            · exact Keep.refl _ _
            · refine Keep.step (launchFlits_keep _ _ _ _ _ _ _ _) rfl ?_
              exact Keep.refl _ _
          · exact hz23

theorem slackMeasure_keep (a0) (a1) (a2) : Keep 16386 a2 (slackMeasure a0 a1 a2) := by
  unfold slackMeasure
  refine Keep.ite ?_ ?_
  · exact Keep.refl _ _
  · extract_lets -merge -underBinder +onlyGivenNames z1 z2
    have hz2 : Keep 16386 a2 z2 := by
      unfold z2
      refine Keep.ite ?_ ?_
      · exact Keep.refl _ _
      · refine Keep.step (standEnd_keep _ _ _ _) rfl ?_
        exact Keep.refl _ _
    clear_value z2
    refine Keep.step (modTc_keep _ _) rfl ?_
    exact hz2

theorem slackMissAt_keep (a0) (a1) : Keep 2113536 a1 (slackMissAt a0 a1) := by
  unfold slackMissAt
  refine Keep.step (raise_keep _ _ _ _ _) rfl ?_
  refine Keep.step (modFlt_keep _ _ (fun _ w => w)) rfl ?_
  exact Keep.refl _ _

theorem gripSent_keep (a0) (a1) : Keep 128 a1 (gripSent a0 a1) := by
  unfold gripSent
  refine Keep.step (modGrp_keep _ _) rfl ?_
  exact Keep.refl _ _

theorem syncSite_keep (a0) (a1) : Keep 512 a1 (syncSite a0 a1) := by
  unfold syncSite
  extract_lets -merge -underBinder +onlyGivenNames z1 z2 z3
  have hz3 : Keep 512 a1 z3 := by
    unfold z3
    refine Keep.foldl ?_ _ ?_
    · intro y4 x5
      refine Keep.ite ?_ ?_
      · exact Keep.refl _ _
      · refine Keep.step (sendCredit_keep _ _ _ _ _) rfl ?_
        exact Keep.refl _ _
    · exact Keep.refl _ _
  clear_value z3
  refine Keep.ite ?_ ?_
  · exact hz3
  · refine Keep.foldl ?_ _ ?_
    · intro y6 x7
      extract_lets -merge -underBinder +onlyGivenNames z8 z9 z10
      refine Keep.ite ?_ ?_
      · refine Keep.step (sendCredit_keep _ _ _ _ _) rfl ?_
        exact Keep.refl _ _
      · exact Keep.refl _ _
    · exact hz3

theorem syncStreams_keep (a0) : Keep 512 a0 (syncStreams a0) := by
  unfold syncStreams
  refine Keep.foldl ?_ _ ?_
  · intro y1 x2
    refine Keep.ite ?_ ?_
    · refine Keep.step (syncSite_keep _ _) rfl ?_
      exact Keep.refl _ _
    · exact Keep.refl _ _
  · exact Keep.refl _ _

theorem streamIn_keep (a0) (a1) (a2) (a3) (a4) : Keep 1028 a4 (streamIn a0 a1 a2 a3 a4) := by
  unfold streamIn
  extract_lets -merge -underBinder +onlyGivenNames z1 z2 z3
  clear_value z3
  split
  · refine Keep.step (flowDelivered_keep _ _ _) rfl ?_
    exact Keep.refl _ _
  · extract_lets -merge -underBinder +onlyGivenNames z6 z7
    split
    next p8 e =>
      have h9 : Keep 1028 a4 p8 := by
        refine Keep.ofOpt e ?_
        split
        · exact KeepO.none
        · refine KeepO.step (ringPush_keep _ _ _ _) rfl ?_
          exact Keep.refl _ _
      refine Keep.step (flowDelivered_keep _ _ _) rfl ?_
      exact h9
    · refine Keep.step (modRx_keep _ _ _) rfl ?_
      exact Keep.refl _ _

theorem streamDrain_keep (a0) : Keep 1028 a0 (streamDrain a0) := by
  unfold streamDrain
  refine Keep.foldl ?_ _ ?_
  · intro y1 x2
    refine Keep.foldl ?_ _ ?_
    · intro y3 x4
      refine Keep.step (streamIn_keep _ _ _ _ _) rfl ?_
      refine Keep.step (modRx_keep _ _ _) rfl ?_
      exact Keep.refl _ _
    · exact Keep.refl _ _
  · exact Keep.refl _ _

theorem beginFrame_keep (a0) (a1) : Keep 6318038 a1 (beginFrame a0 a1) := by
  unfold beginFrame
  extract_lets -merge -underBinder +onlyGivenNames z1 z2 z3 z4 z5 z6 z7 z10 z13 z14 z19 z22 z25 z26 z27 z28
  have hz6 : Keep 6318038 a1 z6 := by
    unfold z6
    refine Keep.step (darken_keep _) rfl ?_
    exact Keep.refl _ _
  clear_value z6
  have hz7 : Keep 6318038 a1 z7 := by
    unfold z7
    refine Keep.foldl ?_ _ ?_
    · intro y8 x9
      refine Keep.step (slackMissAt_keep _ _) rfl ?_
      exact Keep.refl _ _
    · exact hz6
  clear_value z7
  have hz10 : Keep 6318038 a1 z10 := by
    unfold z10
    refine Keep.foldl ?_ _ ?_
    · intro y11 x12
      refine Keep.step (slackMeasure_keep _ _ _) rfl ?_
      exact Keep.refl _ _
    · exact hz7
  clear_value z10
  have hz13 : Keep 6318038 a1 z13 := by
    unfold z13
    refine Keep.step (modSlu_keep _ _) rfl ?_
    exact hz10
  clear_value z13
  have hz14 : Keep 6318038 a1 z14 := by
    unfold z14
    refine Keep.foldl ?_ _ ?_
    · intro y15 x16
      refine Keep.foldl ?_ _ ?_
      · intro y17 x18
        refine Keep.step (transmit_keep _ _ _ _ _ _) rfl ?_
        exact Keep.refl _ _
      · exact Keep.refl _ _
    · exact hz13
  clear_value z14
  have hz19 : Keep 6318038 a1 z19 := by
    unfold z19
    refine Keep.foldl ?_ _ ?_
    · intro y20 x21
      refine Keep.step (readReturn_keep _ _ _) rfl ?_
      exact Keep.refl _ _
    · exact hz14
  clear_value z19
  have hz22 : Keep 6318038 a1 z22 := by
    unfold z22
    refine Keep.foldl ?_ _ ?_
    · intro y23 x24
      refine Keep.ite ?_ ?_
      · refine Keep.step (gapDrop_keep _ _ _) rfl ?_
        exact Keep.refl _ _
      · exact Keep.refl _ _
    · exact hz19
  clear_value z22
  have hz25 : Keep 6318038 a1 z25 := by
    unfold z25
    refine Keep.step (mstSent_keep _ _) rfl ?_
    refine Keep.step (gripFlow_keep _) rfl ?_
    refine Keep.step (gripSent_keep _ _) rfl ?_
    exact hz22
  clear_value z25
  have hz27 : Keep 6318038 a1 z27 := by
    unfold z27
    refine Keep.step (accFrame_keep _) rfl ?_
    exact hz25
  clear_value z27
  have hz28 : Keep 6318038 a1 z28 := by
    unfold z28
    refine Keep.step (fetchFrame_keep _ _ _ _ _) rfl ?_
    exact hz27
  clear_value z28
  refine Keep.step (streamDrain_keep _) rfl ?_
  refine Keep.step (syncStreams_keep _) rfl ?_
  refine Keep.step (mstFrame_keep _) rfl ?_
  refine Keep.step (modTc_keep _ _) rfl ?_
  exact hz28

theorem frameBoundary_keep (a0) (a1) : Keep 6318038 a1 (frameBoundary a0 a1) := by
  unfold frameBoundary
  refine Keep.ite ?_ ?_
  · exact Keep.refl _ _
  · refine Keep.ite ?_ ?_
    · refine Keep.ite ?_ ?_
      · refine Keep.step (beginFrame_keep _ _) rfl ?_
        exact Keep.refl _ _
      · exact Keep.refl _ _
    · refine Keep.ite ?_ ?_
      · refine Keep.step (mstFrame_keep _) rfl ?_
        refine Keep.step (modTc_keep _ _) rfl ?_
        refine Keep.step (accFrame_keep _) rfl ?_
        exact Keep.refl _ _
      · exact Keep.refl _ _

theorem execFrameBoundary_keep (a0) (a1) : ∃ t, execFrameBoundary a0 a1 = .next t ∧ Keep 6318038 a1 t := by
  unfold execFrameBoundary
  refine ⟨_, rfl, ?_⟩
  refine Keep.step (frameBoundary_keep _ _) rfl ?_
  exact Keep.refl _ _

theorem preambleReceived_keep (a0) (a1) (a2) (a3) (a4) : Keep 2113540 a4 (preambleReceived a0 a1 a2 a3 a4) := by
  unfold preambleReceived
  extract_lets -merge -underBinder +onlyGivenNames z1
  refine Keep.ite ?_ ?_
  · exact Keep.refl _ _
  · refine Keep.ite ?_ ?_
    · refine Keep.step (modSlu_keep _ _) rfl ?_
      refine Keep.step (dropAir_keep _ _ _ _) rfl ?_
      exact Keep.refl _ _
    · split
      · exact Keep.refl _ _
      · extract_lets -merge -underBinder +onlyGivenNames z4 z5 z6
        have hz6 : Keep 2113540 a4 z6 := by
          unfold z6
          refine Keep.step (modSlu_keep _ _) rfl ?_
          exact Keep.refl _ _
        clear_value z6
        refine Keep.ite ?_ ?_
        · refine Keep.step (modSlu_keep _ _) rfl ?_
          exact hz6
        · extract_lets -merge -underBinder +onlyGivenNames z7 z8
          have hz7 : Keep 2113540 a4 z7 := by
            unfold z7
            refine Keep.step (modSlu_keep _ _) rfl ?_
            refine Keep.step (dropAir_keep _ _ _ _) rfl ?_
            exact hz6
          clear_value z7
          have hz8 : Keep 2113540 a4 z8 := by
            unfold z8
            refine Keep.step (modFlt_keep _ _ (fun _ w => w)) rfl ?_
            exact hz7
          clear_value z8
          refine Keep.ite ?_ ?_
          · refine Keep.step (raise_keep _ _ _ _ _) rfl ?_
            exact hz8
          · refine Keep.step (raise_keep _ _ _ _ _) rfl ?_
            exact hz8

theorem execPreambleReceived_keep (a0) (a1) (a2) (a3) (a4) : ∃ t, execPreambleReceived a0 a1 a2 a3 a4 = .next t ∧ Keep 2113540 a4 t := by
  unfold execPreambleReceived
  refine ⟨_, rfl, ?_⟩
  refine Keep.step (preambleReceived_keep _ _ _ _ _) rfl ?_
  exact Keep.refl _ _

theorem overrun_keep (a0) (a1) (a2) : Keep 16388 a2 (overrun a0 a1 a2) := by
  unfold overrun
  extract_lets -merge -underBinder +onlyGivenNames z1 z2 z3 z4 z5
  have hz4 : Keep 16388 a2 z4 := by
    unfold z4
    refine Keep.step (modSlu_keep _ _) rfl ?_
    exact Keep.refl _ _
  clear_value z4
  refine Keep.ite ?_ ?_
  · refine Keep.step (sendFault_keep _ _) rfl ?_
    refine Keep.step (modFlt_keep _ _ (fun _ w => w)) rfl ?_
    exact hz4
  · refine Keep.step (modFlt_keep _ _ (fun _ w => w)) rfl ?_
    exact hz4

theorem landLine_keep (a0) (a1) (a2) (a3) (a4) : Keep 24724 a4 (landLine a0 a1 a2 a3 a4).2 := by
  unfold landLine
  extract_lets -merge -underBinder +onlyGivenNames z1
  split
  · extract_lets -merge -underBinder +onlyGivenNames z2 z3 z4 z5
    have hz3 : Keep 24724 a4 z3 := by
      unfold z3
      refine Keep.ite ?_ ?_
      · exact Keep.refl _ _
      · refine Keep.step (millWrite_keep _ _ _ _ _) rfl ?_
        exact Keep.refl _ _
    clear_value z3
    have hz5 : Keep 24724 a4 z5 := by
      unfold z5
      refine Keep.step (modLand_keep _ _ _ _) rfl ?_
      exact hz3
    clear_value z5
    refine Keep.ite ?_ ?_
    · refine Keep.step (overrun_keep _ _ _) rfl ?_
      exact hz5
    · exact hz5
  · split
    · extract_lets -merge -underBinder +onlyGivenNames z6
      split
      · exact Keep.refl _ _
      · extract_lets -merge -underBinder +onlyGivenNames z9 z10
        have hz9 : Keep 24724 a4 z9 := by
          unfold z9
          refine Keep.step (modLand_keep _ _ _ _) rfl ?_
          exact Keep.refl _ _
        clear_value z9
        refine Keep.ite ?_ ?_
        · exact hz9
        · refine Keep.step (noteLines_keep _ _ _) rfl ?_
          refine Keep.step (poolWrite_keep _ _ _ _ _) rfl ?_
          exact hz9
    · split
      · extract_lets -merge -underBinder +onlyGivenNames z11 z12
        have hz12 : Keep 24724 a4 z12 := by
          unfold z12
          refine Keep.ite ?_ ?_
          · exact Keep.refl _ _
          · refine Keep.step (millWrite_keep _ _ _ _ _) rfl ?_
            exact Keep.refl _ _
        clear_value z12
        refine Keep.step (modLand_keep _ _ _ _) rfl ?_
        exact hz12
      · exact Keep.refl _ _

theorem landLines_keep (a0) (a1) (a2) (a3) (a4) : Keep 2122204 a4 (landLines a0 a1 a2 a3 a4).2 := by
  unfold landLines
  split
  · dsimp only
    exact Keep.mono (modMpd_keep _ _) rfl
  · split
    · refine Keep.step (mstLand_keep _ _ _ _) rfl ?_
      exact Keep.refl _ _
    · extract_lets -merge -underBinder +onlyGivenNames z1
      have hz1 : Keep 2122204 a4 z1 := by
        unfold z1
        refine Keep.ite ?_ ?_
        · refine Keep.step (ownerTurn_keep _ _ _ _) rfl ?_
          exact Keep.refl _ _
        · refine Keep.ite ?_ ?_
          · refine Keep.step (ownerTurn_keep _ _ _ _) rfl ?_
            exact Keep.refl _ _
          · exact Keep.refl _ _
      clear_value z1
      refine Keep.foldlSnd ?_ _ ?_
      · intro y2 x3
        extract_lets -merge -underBinder +onlyGivenNames z4
        have hz4 : Keep 2122204 y2.2 z4.2 := by
          unfold z4
          refine Keep.step (landLine_keep _ _ _ _ _) rfl ?_
          exact Keep.refl _ _
        clear_value z4
        exact hz4
      · exact hz1

theorem sluiceFlit_keep (a0) (a1) (a2) (a3) : Keep 2122204 a3 (sluiceFlit a0 a1 a2 a3) := by
  unfold sluiceFlit
  extract_lets -merge -underBinder +onlyGivenNames z1
  split
  · exact Keep.refl _ _
  · refine Keep.ite ?_ ?_
    · exact Keep.refl _ _
    · extract_lets -merge -underBinder +onlyGivenNames z5 z6
      have hz5 : Keep 2122204 a3 z5 := by
        unfold z5
        refine Keep.step (modSlu_keep _ _) rfl ?_
        exact Keep.refl _ _
      clear_value z5
      split
      next p7 p8 e =>
        have h9 : Keep 2122204 a3 p8 := by
          refine Keep.ofSnd e ?_
          split
          · refine Keep.step (landLines_keep _ _ _ _ _) rfl ?_
            exact hz5
          · exact hz5
        extract_lets -merge -underBinder +onlyGivenNames z10 z11 z12 z13 z14 z15
        have hz10 : Keep 2122204 a3 z10 := by
          unfold z10
          refine Keep.ite ?_ ?_
          · refine Keep.step (slackMissAt_keep _ _) rfl ?_
            exact h9
          · exact h9
        clear_value z10
        have hz11 : Keep 2122204 a3 z11 := by
          unfold z11
          refine Keep.ite ?_ ?_
          · exact hz10
          · refine Keep.step (noteBytes_keep _ _ _) rfl ?_
            exact hz10
        clear_value z11
        have hz12 : Keep 2122204 a3 z12 := by
          unfold z12
          refine Keep.ite ?_ ?_
          · exact hz11
          · refine Keep.step (modSlu_keep _ _) rfl ?_
            exact hz11
        clear_value z12
        have hz14 : Keep 2122204 a3 z14 := by
          unfold z14
          refine Keep.ite ?_ ?_
          · refine Keep.step (counterAdd_keep _ _ _ _) rfl ?_
            refine Keep.step (ownerTurn_keep _ _ _ _) rfl ?_
            exact hz12
          · exact hz12
        clear_value z14
        have hz15 : Keep 2122204 a3 z15 := by
          unfold z15
          refine Keep.step (modSlu_keep _ _) rfl ?_
          exact hz14
        clear_value z15
        refine Keep.ite ?_ ?_
        · extract_lets -merge -underBinder +onlyGivenNames z16
          have hz16 : Keep 2122204 a3 z16 := by
            unfold z16
            refine Keep.ite ?_ ?_
            · refine Keep.step (counterAdd_keep _ _ _ _) rfl ?_
              refine Keep.step (ownerTurn_keep _ _ _ _) rfl ?_
              exact hz15
            · exact hz15
          clear_value z16
          refine Keep.ite ?_ ?_
          · refine Keep.step (landReturn_keep _ _ _) rfl ?_
            exact hz16
          · refine Keep.ite ?_ ?_
            · refine Keep.step (modLand_keep _ _ _ _) rfl ?_
              exact hz16
            · exact hz16
        · exact hz15

theorem execSluiceFlitReceive_keep (a0) (a1) (a2) (a3) : ∃ t, execSluiceFlitReceive a0 a1 a2 a3 = .next t ∧ Keep 2122204 a3 t := by
  unfold execSluiceFlitReceive
  refine ⟨_, rfl, ?_⟩
  refine Keep.step (sluiceFlit_keep _ _ _ _) rfl ?_
  exact Keep.refl _ _

theorem streamForward_keep (a0) (a1) (a2) : Keep 2115140 a2 (streamForward a0 a1 a2) := by
  unfold streamForward
  extract_lets -merge -underBinder +onlyGivenNames z1 z2
  refine Keep.ite ?_ ?_
  · exact Keep.refl _ _
  · extract_lets -merge -underBinder +onlyGivenNames z3
    split
    next p4 p5 e =>
      have h6 : Keep 2115140 a2 p5 := by
        refine Keep.ofSnd e ?_
        refine Keep.step (unitRead_keep _ _) rfl ?_
        exact Keep.refl _ _
      extract_lets -merge -underBinder +onlyGivenNames z7 z8
      have hz8 : KeepO 2115140 a2 z8 := by
        unfold z8
        split
        · refine KeepO.step (siteStreamOut_keep _ _ _ _ _) rfl ?_
          exact h6
        · split
          · refine KeepO.step (flowStreamOut_keep _ _ _ _ _ _) rfl ?_
            exact h6
          · exact KeepO.none
      clear_value z8
      split
      · exact h6
      next p10 =>
        have h11 : Keep 2115140 a2 p10 := hz8 _ rfl
        refine Keep.step (modLand_keep _ _ _ _) rfl ?_
        exact h11

theorem execSiteStreamForward_keep (a0) (a1) (a2) : ∃ t, execSiteStreamForward a0 a1 a2 = .next t ∧ Keep 2115140 a2 t := by
  unfold execSiteStreamForward
  refine ⟨_, rfl, ?_⟩
  refine Keep.step (streamForward_keep _ _ _) rfl ?_
  exact Keep.refl _ _

theorem withdraw_keep (a0) : Keep 6 a0 (withdraw a0) := by
  unfold withdraw
  extract_lets -merge -underBinder +onlyGivenNames z1 z2
  have hz2 : Keep 6 a0 z2 := by
    unfold z2
    refine Keep.step (modTc_keep _ _) rfl ?_
    exact Keep.refl _ _
  clear_value z2
  refine Keep.ite ?_ ?_
  · refine Keep.step (modSlu_keep _ _) rfl ?_
    exact hz2
  · exact hz2

theorem reelWrite_keep (a0) (a1) (a2) : Keep 6 a2 (reelWrite a0 a1 a2) := by
  unfold reelWrite
  split
  · exact Keep.refl _ _
  · refine Keep.ite ?_ ?_
    · exact Keep.refl _ _
    · extract_lets -merge -underBinder +onlyGivenNames z3
      have hz3 : Keep 6 a2 z3 := by
        unfold z3
        split
        · refine Keep.step (withdraw_keep _) rfl ?_
          exact Keep.refl _ _
        · refine Keep.step (withdraw_keep _) rfl ?_
          exact Keep.refl _ _
        · refine Keep.step (withdraw_keep _) rfl ?_
          exact Keep.refl _ _
        · exact Keep.refl _ _
      clear_value z3
      refine Keep.step (modSlu_keep _ _) rfl ?_
      exact hz3

theorem execReelStoreWrite_keep (a0) (a1) (a2) (a3) : ∃ t, execReelStoreWrite a0 a1 a2 a3 = .next t ∧ Keep 6 a3 t := by
  unfold execReelStoreWrite
  refine ⟨_, rfl, ?_⟩
  refine Keep.ite ?_ ?_
  · refine Keep.step (reelWrite_keep _ _ _) rfl ?_
    exact Keep.refl _ _
  · exact Keep.refl _ _

theorem reelCheck_keep (a0) : Keep 4 a0 (reelCheck a0) := by
  unfold reelCheck
  refine Keep.ite ?_ ?_
  · refine Keep.step (modSlu_keep _ _) rfl ?_
    exact Keep.refl _ _
  · exact Keep.refl _ _

theorem execReelCheck_keep (a0) (a1) : ∃ t, execReelCheck a0 a1 = .next t ∧ Keep 4 a1 t := by
  unfold execReelCheck
  refine ⟨_, rfl, ?_⟩
  refine Keep.ite ?_ ?_
  · refine Keep.step (reelCheck_keep _) rfl ?_
    exact Keep.refl _ _
  · exact Keep.refl _ _

theorem reelClear_keep (a0) : Keep 6 a0 (reelClear a0) := by
  unfold reelClear
  refine Keep.step (modSlu_keep _ _) rfl ?_
  refine Keep.step (withdraw_keep _) rfl ?_
  exact Keep.refl _ _

theorem execReelClear_keep (a0) (a1) : ∃ t, execReelClear a0 a1 = .next t ∧ Keep 6 a1 t := by
  unfold execReelClear
  refine ⟨_, rfl, ?_⟩
  refine Keep.ite ?_ ?_
  · refine Keep.step (reelClear_keep _) rfl ?_
    exact Keep.refl _ _
  · exact Keep.refl _ _

theorem checkDone_keep (a0) : Keep 98310 a0 (checkDone a0) := by
  unfold checkDone
  refine Keep.ite ?_ ?_
  · exact Keep.refl _ _
  · extract_lets -merge -underBinder +onlyGivenNames z1
    split
    · refine Keep.step (modTc_keep _ _) rfl ?_
      refine Keep.step (modSlu_keep _ _) rfl ?_
      exact Keep.refl _ _
    · extract_lets -merge -underBinder +onlyGivenNames z4 z5 z6 z7
      have hz6 : Keep 98310 a0 z6 := by
        unfold z6
        refine Keep.step (modSlu_keep _ _) rfl ?_
        exact Keep.refl _ _
      clear_value z6
      have hz7 : Keep 98310 a0 z7 := by
        unfold z7
        refine Keep.step (modTc_keep _ _) rfl ?_
        exact hz6
      clear_value z7
      refine Keep.step (audit_keep _ _ _ _ _) rfl ?_
      refine Keep.step (modRole_keep _ _ (fun _ => List.prefix_rfl)) rfl ?_
      exact hz7

theorem execReelCheckComplete_keep (a0) : ∃ t, execReelCheckComplete a0 = .next t ∧ Keep 98310 a0 t := by
  unfold execReelCheckComplete
  refine ⟨_, rfl, ?_⟩
  refine Keep.step (checkDone_keep _) rfl ?_
  exact Keep.refl _ _

theorem execSwapCancel_keep (a0) (a1) : ∃ t, execSwapCancel a0 a1 = .next t ∧ Keep 6 a1 t := by
  unfold execSwapCancel
  refine ⟨_, rfl, ?_⟩
  refine Keep.ite ?_ ?_
  · refine Keep.ite ?_ ?_
    · refine Keep.step (withdraw_keep _) rfl ?_
      exact Keep.refl _ _
    · exact Keep.refl _ _
  · exact Keep.refl _ _

theorem drainStation_keep (a0) (a1) : Keep 2113540 a1 (drainStation a0 a1) := by
  unfold drainStation
  extract_lets -merge -underBinder +onlyGivenNames z1 z2 z3
  have hz3 : Keep 2113540 a1 z3 := by
    unfold z3
    refine Keep.foldl ?_ _ ?_
    · intro y4 x5
      extract_lets -merge -underBinder +onlyGivenNames z6
      refine Keep.step (feedTake_keep _ _ _ _ _ _) rfl ?_
      exact Keep.refl _ _
    · exact Keep.refl _ _
  clear_value z3
  refine Keep.ite ?_ ?_
  · exact hz3
  · refine Keep.step (raise_keep _ _ _ _ _) rfl ?_
    refine Keep.step (modSlu_keep _ _) rfl ?_
    exact hz3

theorem drainEnd_keep (a0) : Keep 2113540 a0 (drainEnd a0) := by
  unfold drainEnd
  refine Keep.ite ?_ ?_
  · exact Keep.refl _ _
  · refine Keep.ite ?_ ?_
    · refine Keep.step (modSlu_keep _ _) rfl ?_
      refine Keep.foldl ?_ _ ?_
      · intro y1 x2
        refine Keep.step (drainStation_keep _ _) rfl ?_
        exact Keep.refl _ _
      · exact Keep.refl _ _
    · exact Keep.refl _ _

theorem execDrainEnd_keep (a0) : ∃ t, execDrainEnd a0 = .next t ∧ Keep 2113540 a0 t := by
  unfold execDrainEnd
  refine ⟨_, rfl, ?_⟩
  refine Keep.step (drainEnd_keep _) rfl ?_
  exact Keep.refl _ _

theorem carryOver_keep (a0) : Keep 132 a0 (carryOver a0) := by
  unfold carryOver
  extract_lets -merge -underBinder +onlyGivenNames z1 z2 z3 z4 z5
  have hz5 : Keep 132 a0 z5 := by
    unfold z5
    refine Keep.step (modGrp_keep _ _) rfl ?_
    exact Keep.refl _ _
  clear_value z5
  refine Keep.step (modSlu_keep _ _) rfl ?_
  exact hz5

theorem exchange_keep (a0) : Keep 82054 a0 (exchange a0) := by
  unfold exchange
  extract_lets -merge -underBinder +onlyGivenNames z1 z2 z3 z4
  have hz1 : Keep 82054 a0 z1 := by
    unfold z1
    refine Keep.step (carryOver_keep _) rfl ?_
    exact Keep.refl _ _
  clear_value z1
  have hz3 : Keep 82054 a0 z3 := by
    unfold z3
    refine Keep.step (modTc_keep _ _) rfl ?_
    exact hz1
  clear_value z3
  have hz4 : Keep 82054 a0 z4 := by
    unfold z4
    refine Keep.step (modSlu_keep _ _) rfl ?_
    exact hz3
  clear_value z4
  refine Keep.step (contChange_keep _ _ (fun _ => List.prefix_rfl)) rfl ?_
  exact hz4

end Sys2Proof.Machine
end

