-- ==== Sys2Proof/Laws/KeepPod.lean ====
section
/-! SUPPORT. What each function of the pod side, the focus units, pauses and the timecode may change (Laws/Keep). -/

namespace Sys2Proof.Machine

open Sys2Proof

theorem capUpdate_keep (a0) : Keep 1048576 a0 (capUpdate a0) := by
  unfold capUpdate
  extract_lets -merge -underBinder +onlyGivenNames z1 z2
  refine Keep.ite ?_ ?_
  · exact Keep.refl _ _
  · refine Keep.step (modIdent_keep _ _) rfl ?_
    exact Keep.refl _ _

theorem linkCmd_keep (a0) (a1) (a2) (a3) : Keep 4195328 a3 (linkCmd a0 a1 a2 a3) := by
  unfold linkCmd
  refine Keep.step (emit_keep _ _) rfl ?_
  refine Keep.step (modPodLink_keep _ _ _) rfl ?_
  exact Keep.refl _ _

theorem podViolation_keep (a0) (a1) : Keep 17408 a1 (podViolation a0 a1) := by
  unfold podViolation
  refine Keep.step (raiseRated_keep _ _ _ _ _ _ _) rfl ?_
  refine Keep.step (modPodLink_keep _ _ _) rfl ?_
  exact Keep.refl _ _

theorem laneMoved_keep (a0) (a1) (a2) : Keep 1024 a2 (laneMoved a0 a1 a2) := by
  unfold laneMoved
  extract_lets -merge -underBinder +onlyGivenNames z1 z2 z3
  have hz3 : Keep 1024 a2 z3 := by
    unfold z3
    refine Keep.step (modPodLink_keep _ _ _) rfl ?_
    exact Keep.refl _ _
  clear_value z3
  refine Keep.step (modPodLane_keep _ _ _ _) rfl ?_
  refine Keep.step (modPod_keep _ _) rfl ?_
  exact hz3

theorem moveFlows_keep (a0) : Keep 1024 a0 (moveFlows a0) := by
  unfold moveFlows
  refine Keep.foldl ?_ _ ?_
  · intro y1 x2
    refine Keep.ite ?_ ?_
    · split
      · refine Keep.ite ?_ ?_
        · exact Keep.refl _ _
        · refine Keep.step (modTx_keep _ _ _ _ _) rfl ?_
          exact Keep.refl _ _
      · exact Keep.refl _ _
    · exact Keep.refl _ _
  · exact Keep.refl _ _

theorem linkDrop_keep (a0) (a1) : Keep 1049600 a1 (linkDrop a0 a1) := by
  unfold linkDrop
  extract_lets -merge -underBinder +onlyGivenNames z1 z4
  have hz1 : Keep 1049600 a1 z1 := by
    unfold z1
    refine Keep.foldl ?_ _ ?_
    · intro y2 x3
      refine Keep.step (laneMoved_keep _ _ _) rfl ?_
      exact Keep.refl _ _
    · exact Keep.refl _ _
  clear_value z1
  have hz4 : Keep 1049600 a1 z4 := by
    unfold z4
    refine Keep.step (modPodLink_keep _ _ _) rfl ?_
    exact hz1
  clear_value z4
  refine Keep.step (capUpdate_keep _) rfl ?_
  refine Keep.step (moveFlows_keep _) rfl ?_
  exact hz4

theorem linkDown_keep (a0) (a1) : Keep 3163136 a1 (linkDown a0 a1) := by
  unfold linkDown
  extract_lets -merge -underBinder +onlyGivenNames z1
  refine Keep.step (raise_keep _ _ _ _ _) rfl ?_
  refine Keep.step (linkDrop_keep _ _) rfl ?_
  exact Keep.refl _ _

theorem sendLaneMap_keep (a0) (a1) (a2) : Keep 4195328 a2 (sendLaneMap a0 a1 a2) := by
  unfold sendLaneMap
  refine Keep.step (linkCmd_keep _ _ _ _) rfl ?_
  exact Keep.refl _ _

theorem startExch_keep (a0) (a1) (a2) (a3) : Keep 4195328 a3 (startExch a0 a1 a2 a3) := by
  unfold startExch
  extract_lets -merge -underBinder +onlyGivenNames z1 z2 z3
  refine Keep.step (sendLaneMap_keep _ _ _) rfl ?_
  refine Keep.step (modPodLink_keep _ _ _) rfl ?_
  exact Keep.refl _ _

theorem laneDrop_keep (a0) (a1) (a2) (a3) : Keep 4195328 a3 (laneDrop a0 a1 a2 a3) := by
  unfold laneDrop
  extract_lets -merge -underBinder +onlyGivenNames z1
  refine Keep.ite ?_ ?_
  · exact Keep.refl _ _
  · split
    · refine Keep.step (startExch_keep _ _ _ _) rfl ?_
      refine Keep.step (laneMoved_keep _ _ _) rfl ?_
      exact Keep.refl _ _
    · refine Keep.ite ?_ ?_
      · exact Keep.refl _ _
      · refine Keep.ite ?_ ?_
        · extract_lets -merge -underBinder +onlyGivenNames z4
          refine Keep.step (sendLaneMap_keep _ _ _) rfl ?_
          refine Keep.step (modPodLink_keep _ _ _) rfl ?_
          refine Keep.step (laneMoved_keep _ _ _) rfl ?_
          exact Keep.refl _ _
        · refine Keep.step (modPodLink_keep _ _ _) rfl ?_
          refine Keep.step (laneMoved_keep _ _ _) rfl ?_
          exact Keep.refl _ _

theorem execLaneDrop_keep (a0) (a1) (a2) (a3) : ∃ t, execLaneDrop a0 a1 a2 a3 = .next t ∧ Keep 4195328 a3 t := by
  unfold execLaneDrop
  refine ⟨_, rfl, ?_⟩
  refine Keep.ite ?_ ?_
  · refine Keep.step (laneDrop_keep _ _ _ _) rfl ?_
    exact Keep.refl _ _
  · exact Keep.refl _ _

theorem laneRejoin_keep (a0) (a1) (a2) : Keep 4195328 a2 (laneRejoin a0 a1 a2) := by
  unfold laneRejoin
  extract_lets -merge -underBinder +onlyGivenNames z1
  refine Keep.ite ?_ ?_
  · exact Keep.refl _ _
  · refine Keep.ite ?_ ?_
    · refine Keep.step (modPodLink_keep _ _ _) rfl ?_
      exact Keep.refl _ _
    · refine Keep.step (startExch_keep _ _ _ _) rfl ?_
      exact Keep.refl _ _

theorem mapAgreed_keep (a0) (a1) (a2) (a3) (a4) (a5) : Keep 7357440 a5 (mapAgreed a0 a1 a2 a3 a4 a5) := by
  unfold mapAgreed
  extract_lets -merge -underBinder +onlyGivenNames z1 z2 z3 z4 z5 z8
  have hz4 : Keep 7357440 a5 z4 := by
    unfold z4
    refine Keep.step (modPodLink_keep _ _ _) rfl ?_
    exact Keep.refl _ _
  clear_value z4
  have hz5 : Keep 7357440 a5 z5 := by
    unfold z5
    refine Keep.foldl ?_ _ ?_
    · intro y6 x7
      refine Keep.step (modPodLane_keep _ _ _ _) rfl ?_
      exact Keep.refl _ _
    · exact hz4
  clear_value z5
  have hz8 : Keep 7357440 a5 z8 := by
    unfold z8
    refine Keep.foldl ?_ _ ?_
    · intro y9 x10
      refine Keep.step (raise_keep _ _ _ _ _) rfl ?_
      refine Keep.step (modPod_keep _ _) rfl ?_
      refine Keep.step (modPodLink_keep _ _ _) rfl ?_
      refine Keep.step (laneMoved_keep _ _ _) rfl ?_
      exact Keep.refl _ _
    · exact hz5
  clear_value z8
  refine Keep.ite ?_ ?_
  · refine Keep.step (linkDown_keep _ _) rfl ?_
    exact hz8
  · split
    · refine Keep.step (modPodLink_keep _ _ _) rfl ?_
      exact hz8
    · refine Keep.step (startExch_keep _ _ _ _) rfl ?_
      refine Keep.step (modPodLink_keep _ _ _) rfl ?_
      exact hz8

theorem laneMap_keep (a0) (a1) (a2) : Keep 7357440 a2 (laneMap a0 a1 a2) := by
  unfold laneMap
  extract_lets -merge -underBinder +onlyGivenNames z1 z2
  refine Keep.ite ?_ ?_
  · exact Keep.refl _ _
  · refine Keep.ite ?_ ?_
    · split
      · exact Keep.refl _ _
      · refine Keep.ite ?_ ?_
        · refine Keep.step (mapAgreed_keep _ _ _ _ _ _) rfl ?_
          exact Keep.refl _ _
        · exact Keep.refl _ _
    · refine Keep.ite ?_ ?_
      · exact Keep.refl _ _
      · refine Keep.ite ?_ ?_
        · refine Keep.ite ?_ ?_
          · extract_lets -merge -underBinder +onlyGivenNames z5
            refine Keep.ite ?_ ?_
            · refine Keep.step (linkDown_keep _ _) rfl ?_
              exact Keep.refl _ _
            · refine Keep.step (modPodLink_keep _ _ _) rfl ?_
              exact Keep.refl _ _
          · refine Keep.step (linkCmd_keep _ _ _ _) rfl ?_
            exact Keep.refl _ _
        · split
          · refine Keep.ite ?_ ?_
            · extract_lets -merge -underBinder +onlyGivenNames z7
              refine Keep.step (mapAgreed_keep _ _ _ _ _ _) rfl ?_
              refine Keep.step (linkCmd_keep _ _ _ _) rfl ?_
              exact Keep.refl _ _
            · exact Keep.refl _ _
          · extract_lets -merge -underBinder +onlyGivenNames z9
            refine Keep.step (mapAgreed_keep _ _ _ _ _ _) rfl ?_
            refine Keep.step (linkCmd_keep _ _ _ _) rfl ?_
            exact Keep.refl _ _

theorem execLaneMap_keep (a0) (a1) (a2) : ∃ t, execLaneMap a0 a1 a2 = .next t ∧ Keep 7357440 a2 t := by
  unfold execLaneMap
  refine ⟨_, rfl, ?_⟩
  refine Keep.step (laneMap_keep _ _ _) rfl ?_
  exact Keep.refl _ _

theorem laneMapRetry_keep (a0) (a1) : Keep 4195328 a1 (laneMapRetry a0 a1) := by
  unfold laneMapRetry
  split
  · exact Keep.refl _ _
  · refine Keep.ite ?_ ?_
    · exact Keep.refl _ _
    · refine Keep.step (sendLaneMap_keep _ _ _) rfl ?_
      refine Keep.step (modPodLink_keep _ _ _) rfl ?_
      exact Keep.refl _ _

theorem execLaneMapRetry_keep (a0) (a1) : ∃ t, execLaneMapRetry a0 a1 = .next t ∧ Keep 4195328 a1 t := by
  unfold execLaneMapRetry
  refine ⟨_, rfl, ?_⟩
  refine Keep.step (laneMapRetry_keep _ _) rfl ?_
  exact Keep.refl _ _

theorem linkTraining_keep (a0) (a1) (a2) : Keep 7357440 a2 (linkTraining a0 a1 a2) := by
  unfold linkTraining
  extract_lets -merge -underBinder +onlyGivenNames z1 z2
  refine Keep.ite ?_ ?_
  · exact Keep.refl _ _
  · refine Keep.ite ?_ ?_
    · refine Keep.step (linkDown_keep _ _) rfl ?_
      exact Keep.refl _ _
    · extract_lets -merge -underBinder +onlyGivenNames z3
      have hz3 : Keep 7357440 a2 z3 := by
        unfold z3
        refine Keep.step (modPodLink_keep _ _ _) rfl ?_
        exact Keep.refl _ _
      clear_value z3
      refine Keep.step (linkCmd_keep _ _ _ _) rfl ?_
      refine Keep.step (linkCmd_keep _ _ _ _) rfl ?_
      exact hz3

theorem execLinkTraining_keep (a0) (a1) (a2) : ∃ t, execLinkTraining a0 a1 a2 = .next t ∧ Keep 7357440 a2 t := by
  unfold execLinkTraining
  refine ⟨_, rfl, ?_⟩
  refine Keep.step (linkTraining_keep _ _ _) rfl ?_
  exact Keep.refl _ _

theorem linkHello_keep (a0) (a1) (a2) : Keep 3163136 a2 (linkHello a0 a1 a2) := by
  unfold linkHello
  refine Keep.ite ?_ ?_
  · exact Keep.refl _ _
  · extract_lets -merge -underBinder +onlyGivenNames z1 z2
    have hz1 : Keep 3163136 a2 z1 := by
      unfold z1
      refine Keep.step (modPodLink_keep _ _ _) rfl ?_
      exact Keep.refl _ _
    clear_value z1
    refine Keep.ite ?_ ?_
    · refine Keep.step (raise_keep _ _ _ _ _) rfl ?_
      refine Keep.step (capUpdate_keep _) rfl ?_
      refine Keep.step (moveFlows_keep _) rfl ?_
      refine Keep.step (modPodLink_keep _ _ _) rfl ?_
      exact hz1
    · refine Keep.ite ?_ ?_
      · exact hz1
      · refine Keep.step (capUpdate_keep _) rfl ?_
        refine Keep.step (moveFlows_keep _) rfl ?_
        refine Keep.step (modPodLink_keep _ _ _) rfl ?_
        exact hz1

theorem execLinkHello_keep (a0) (a1) (a2) : ∃ t, execLinkHello a0 a1 a2 = .next t ∧ Keep 3163136 a2 t := by
  unfold execLinkHello
  refine ⟨_, rfl, ?_⟩
  refine Keep.step (linkHello_keep _ _ _) rfl ?_
  exact Keep.refl _ _

theorem quarantineEval_keep (a0) : Keep 3163136 a0 (quarantineEval a0) := by
  unfold quarantineEval
  refine Keep.ite ?_ ?_
  · exact Keep.refl _ _
  · refine Keep.foldl ?_ _ ?_
    · intro y1 x2
      extract_lets -merge -underBinder +onlyGivenNames z3 z4
      refine Keep.ite ?_ ?_
      · refine Keep.step (standBegin_keep _ _ _ _ _) rfl ?_
        refine Keep.step (capUpdate_keep _) rfl ?_
        refine Keep.step (moveFlows_keep _) rfl ?_
        refine Keep.step (modPodLink_keep _ _ _) rfl ?_
        exact Keep.refl _ _
      · exact Keep.refl _ _
    · exact Keep.refl _ _

theorem execQuarantineEval_keep (a0) : ∃ t, execQuarantineEval a0 = .next t ∧ Keep 3163136 a0 t := by
  unfold execQuarantineEval
  refine ⟨_, rfl, ?_⟩
  refine Keep.step (quarantineEval_keep _) rfl ?_
  exact Keep.refl _ _

theorem quarantineEnd_keep (a0) (a1) : Keep 1065984 a1 (quarantineEnd a0 a1) := by
  unfold quarantineEnd
  refine Keep.ite ?_ ?_
  · exact Keep.refl _ _
  · refine Keep.step (standEnd_keep _ _ _ _) rfl ?_
    refine Keep.step (capUpdate_keep _) rfl ?_
    refine Keep.step (moveFlows_keep _) rfl ?_
    refine Keep.step (modPodLink_keep _ _ _) rfl ?_
    exact Keep.refl _ _

theorem quarantineTimeout_keep (a0) (a1) : Keep 1065984 a1 (quarantineTimeout a0 a1) := by
  unfold quarantineTimeout
  extract_lets -merge -underBinder +onlyGivenNames z1
  refine Keep.ite ?_ ?_
  · exact Keep.refl _ _
  · refine Keep.step (quarantineEnd_keep _ _) rfl ?_
    exact Keep.refl _ _

theorem execQuarantineTimeout_keep (a0) (a1) : ∃ t, execQuarantineTimeout a0 a1 = .next t ∧ Keep 1065984 a1 t := by
  unfold execQuarantineTimeout
  refine ⟨_, rfl, ?_⟩
  refine Keep.step (quarantineTimeout_keep _ _) rfl ?_
  exact Keep.refl _ _

theorem execPodQuarClear_keep (a0) (a1) : ∃ t, execPodQuarClear a0 a1 = .next t ∧ Keep 1164288 a1 t := by
  unfold execPodQuarClear
  refine ⟨_, rfl, ?_⟩
  refine Keep.iWrite (m := 1164288) rfl ?_ ?_
  · intro y1
    refine Keep.step (quarantineEnd_keep _ _) rfl ?_
    exact Keep.refl _ _
  · exact Keep.refl _ _

theorem sendFlowAck_keep (a0) (a1) (a2) : Keep 4195328 a2 (sendFlowAck a0 a1 a2) := by
  unfold sendFlowAck
  split
  · exact Keep.refl _ _
  · refine Keep.step (modRx_keep _ _ _) rfl ?_
    refine Keep.step (linkCmd_keep _ _ _ _) rfl ?_
    exact Keep.refl _ _

theorem openRequest_keep (a0) (a1) : Keep 4195328 a1 (openRequest a0 a1) := by
  unfold openRequest
  split
  · exact Keep.refl _ _
  · refine Keep.step (modTx_keep _ _ _ _ _) rfl ?_
    refine Keep.step (linkCmd_keep _ _ _ _) rfl ?_
    exact Keep.refl _ _

theorem evict_keep (a0) (a1) : Keep 4195328 a1 (evict a0 a1) := by
  unfold evict
  extract_lets -merge -underBinder +onlyGivenNames z1
  have hz1 : Keep 4195328 a1 z1 := by
    unfold z1
    refine Keep.ite ?_ ?_
    · split
      · refine Keep.step (sendFlowAck_keep _ _ _) rfl ?_
        exact Keep.refl _ _
      · exact Keep.refl _ _
    · exact Keep.refl _ _
  clear_value z1
  refine Keep.step (modPod_keep _ _) rfl ?_
  exact hz1

theorem takeCtx_keep (a0) : KeepOS 4195328 a0 (takeCtx a0) := by
  unfold takeCtx
  extract_lets -merge -underBinder +onlyGivenNames z1
  split
  · refine KeepOS.some ?_
    exact Keep.refl _ _
  · refine KeepOS.map ?_
    intro x4
    refine Keep.step (evict_keep _ _) rfl ?_
    exact Keep.refl _ _

theorem drainXs_keep (a0) (a1) (a2) : Keep 4195848 a2 (drainXs a0 a1 a2) := by
  unfold drainXs
  refine Keep.foldl ?_ _ ?_
  · intro y1 x2
    refine Keep.step (drainRx_keep _ _ _ _ _) rfl ?_
    exact Keep.refl _ _
  · exact Keep.refl _ _

theorem joinWaiting_keep (a0) (a1) (a2) (a3) : Keep 1024 a3 (joinWaiting a0 a1 a2 a3) := by
  unfold joinWaiting
  refine Keep.foldl ?_ _ ?_
  · intro y1 x2
    split
    · exact Keep.refl _ _
    · extract_lets -merge -underBinder +onlyGivenNames z5 z6
      clear_value z5
      split
      · refine Keep.step (modPod_keep _ _) rfl ?_
        exact Keep.refl _ _
      · refine Keep.ite ?_ ?_
        · refine Keep.ite ?_ ?_
          · extract_lets -merge -underBinder +onlyGivenNames z10
            refine Keep.step (flowPut_keep _ _ _) rfl ?_
            refine Keep.step (modPod_keep _ _) rfl ?_
            exact Keep.refl _ _
          · exact Keep.refl _ _
        · refine Keep.step (flowPut_keep _ _ _) rfl ?_
          refine Keep.step (modPod_keep _ _) rfl ?_
          exact Keep.refl _ _
  · exact Keep.refl _ _

theorem flowOpen_keep (a0) (a1) (a2) (a3) (a4) : Keep 4195848 a4 (flowOpen a0 a1 a2 a3 a4) := by
  unfold flowOpen
  refine Keep.ite ?_ ?_
  · exact Keep.refl _ _
  · split
    · exact Keep.refl _ _
    next p2 p3 e =>
      have h4 : Keep 4195848 a4 p3 := by
        refine Keep.ofOpts e ?_
        refine KeepOS.step (takeCtx_keep _) rfl ?_
        exact Keep.refl _ _
      extract_lets -merge -underBinder +onlyGivenNames z5 z6
      refine Keep.step (drainXs_keep _ _ _) rfl ?_
      refine Keep.step (joinWaiting_keep _ _ _ _) rfl ?_
      refine Keep.step (openRequest_keep _ _) rfl ?_
      refine Keep.step (modPod_keep _ _) rfl ?_
      exact h4

theorem execFlowOpen_keep (a0) (a1) (a2) (a3) (a4) : ∃ t, execFlowOpen a0 a1 a2 a3 a4 = .next t ∧ Keep 4195848 a4 t := by
  unfold execFlowOpen
  refine ⟨_, rfl, ?_⟩
  refine Keep.step (flowOpen_keep _ _ _ _ _) rfl ?_
  exact Keep.refl _ _

theorem rxOpen_keep (a0) (a1) (a2) : KeepO 4195328 a2 (rxOpen a0 a1 a2) := by
  unfold rxOpen
  split
  · exact KeepO.none
  next p2 p3 e =>
    have h4 : Keep 4195328 a2 p3 := by
      refine Keep.ofOpts e ?_
      refine KeepOS.step (takeCtx_keep _) rfl ?_
      exact Keep.refl _ _
    extract_lets -merge -underBinder +onlyGivenNames z5
    refine KeepO.some ?_
    refine Keep.step (sendFlowAck_keep _ _ _) rfl ?_
    refine Keep.step (modPod_keep _ _) rfl ?_
    exact h4

theorem route_keep (a0) (a1) (a2) (a3) (a4) : Keep 4211712 a4 (route a0 a1 a2 a3 a4) := by
  unfold route
  extract_lets -merge -underBinder +onlyGivenNames z1
  refine Keep.ite ?_ ?_
  · exact Keep.refl _ _
  · refine Keep.ite ?_ ?_
    · refine Keep.step (podViolation_keep _ _) rfl ?_
      exact Keep.refl _ _
    · refine Keep.ite ?_ ?_
      · refine Keep.step (podViolation_keep _ _) rfl ?_
        refine Keep.step (modPodLane_keep _ _ _ _) rfl ?_
        exact Keep.refl _ _
      · extract_lets -merge -underBinder +onlyGivenNames z2
        split
        · split
          next p4 e =>
            have h5 : Keep 4211712 a4 p4 := by
              refine Keep.ofOpt e ?_
              refine KeepO.step (rxOpen_keep _ _ _) rfl ?_
              exact Keep.refl _ _
            refine Keep.step (modPodLane_keep _ _ _ _) rfl ?_
            exact h5
          · refine Keep.step (modPodLane_keep _ _ _ _) rfl ?_
            exact Keep.refl _ _
        · refine Keep.ite ?_ ?_
          · extract_lets -merge -underBinder +onlyGivenNames z8
            refine Keep.step (modPodLane_keep _ _ _ _) rfl ?_
            refine Keep.step (sendFlowAck_keep _ _ _) rfl ?_
            refine Keep.step (modRx_keep _ _ _) rfl ?_
            exact Keep.refl _ _
          · refine Keep.step (modPodLane_keep _ _ _ _) rfl ?_
            exact Keep.refl _ _

theorem execRoute_keep (a0) (a1) (a2) (a3) (a4) : ∃ t, execRoute a0 a1 a2 a3 a4 = .next t ∧ Keep 4211712 a4 t := by
  unfold execRoute
  refine ⟨_, rfl, ?_⟩
  refine Keep.step (route_keep _ _ _ _ _) rfl ?_
  exact Keep.refl _ _

theorem flowAck_keep (a0) (a1) (a2) : Keep 4212232 a2 (flowAck a0 a1 a2) := by
  unfold flowAck
  refine Keep.ite ?_ ?_
  · exact Keep.refl _ _
  · split
    · refine Keep.step (podViolation_keep _ _) rfl ?_
      exact Keep.refl _ _
    · extract_lets -merge -underBinder +onlyGivenNames z3 z4 z5 z6 z7 z8
      have hz7 : Keep 4212232 a2 z7 := by
        unfold z7
        refine Keep.step (modTx_keep _ _ _ _ _) rfl ?_
        exact Keep.refl _ _
      clear_value z7
      have hz8 : Keep 4212232 a2 z8 := by
        unfold z8
        refine Keep.ite ?_ ?_
        · split
          · refine Keep.step (openRequest_keep _ _) rfl ?_
            exact hz7
          · exact hz7
        · exact hz7
      clear_value z8
      refine Keep.step (drainXs_keep _ _ _) rfl ?_
      refine Keep.step (joinWaiting_keep _ _ _ _) rfl ?_
      exact hz8

theorem openWaiting_keep (a0) : Keep 4195848 a0 (openWaiting a0) := by
  unfold openWaiting
  refine Keep.foldl ?_ _ ?_
  · intro y1 x2
    split
    · refine Keep.ite ?_ ?_
      · refine Keep.step (flowOpen_keep _ _ _ _ _) rfl ?_
        exact Keep.refl _ _
      · exact Keep.refl _ _
    · exact Keep.refl _ _
  · exact Keep.refl _ _

theorem execFlowAck_keep (a0) (a1) (a2) : ∃ t, execFlowAck a0 a1 a2 = .next t ∧ Keep 4212232 a2 t := by
  unfold execFlowAck
  refine ⟨_, rfl, ?_⟩
  refine Keep.step (openWaiting_keep _) rfl ?_
  refine Keep.step (flowAck_keep _ _ _) rfl ?_
  exact Keep.refl _ _

theorem flowAckTimer_keep (a0) (a1) : Keep 4195328 a1 (flowAckTimer a0 a1) := by
  unfold flowAckTimer
  split
  · exact Keep.refl _ _
  · extract_lets -merge -underBinder +onlyGivenNames z3 z4
    refine Keep.ite ?_ ?_
    · exact Keep.refl _ _
    · extract_lets -merge -underBinder +onlyGivenNames z5
      refine Keep.step (sendFlowAck_keep _ _ _) rfl ?_
      refine Keep.step (modRx_keep _ _ _) rfl ?_
      exact Keep.refl _ _

theorem stopFlows_keep (a0) : Keep 4195328 a0 (stopFlows a0) := by
  unfold stopFlows
  refine Keep.foldl ?_ _ ?_
  · intro y1 x2
    refine Keep.ite ?_ ?_
    · extract_lets -merge -underBinder +onlyGivenNames z3
      refine Keep.step (sendFlowAck_keep _ _ _) rfl ?_
      refine Keep.step (modRx_keep _ _ _) rfl ?_
      exact Keep.refl _ _
    · exact Keep.refl _ _
  · exact Keep.refl _ _

theorem execFlowAckTimer_keep (a0) (a1) : ∃ t, execFlowAckTimer a0 a1 = .next t ∧ Keep 4195328 a1 t := by
  unfold execFlowAckTimer
  refine ⟨_, rfl, ?_⟩
  refine Keep.step (flowAckTimer_keep _ _) rfl ?_
  exact Keep.refl _ _

theorem fwdDiscard_keep (a0) : Keep 1024 a0 (fwdDiscard a0) := by
  unfold fwdDiscard
  refine Keep.step (modPod_keep _ _) rfl ?_
  exact Keep.refl _ _

theorem fwdSend_keep (a0) (a1) (a2) (a3) (a4) (a5) : Keep 1032 a5 (fwdSend a0 a1 a2 a3 a4 a5) := by
  unfold fwdSend
  extract_lets -merge -underBinder +onlyGivenNames z1 z2
  split
  · refine Keep.step (podWait_keep _ _ _ _ _ _) rfl ?_
    exact Keep.refl _ _
  · refine Keep.ite ?_ ?_
    · refine Keep.step (joinWaiting_keep _ _ _ _) rfl ?_
      refine Keep.step (podWait_keep _ _ _ _ _ _) rfl ?_
      exact Keep.refl _ _
    · refine Keep.step (sendFwd_keep _ _ _ _ _ _ _) rfl ?_
      exact Keep.refl _ _

theorem fwdRoute_keep (a0) (a1) (a2) (a3) (a4) : Keep 2114568 a4 (fwdRoute a0 a1 a2 a3 a4) := by
  unfold fwdRoute
  extract_lets -merge -underBinder +onlyGivenNames z1
  refine Keep.ite ?_ ?_
  · refine Keep.ite ?_ ?_
    · refine Keep.step (sendFwd_keep _ _ _ _ _ _ _) rfl ?_
      exact Keep.refl _ _
    · refine Keep.step (fwdDiscard_keep _) rfl ?_
      exact Keep.refl _ _
  · refine Keep.ite ?_ ?_
    · extract_lets -merge -underBinder +onlyGivenNames z2 z3
      refine Keep.ite ?_ ?_
      · refine Keep.step (raise_keep _ _ _ _ _) rfl ?_
        refine Keep.step (fwdDiscard_keep _) rfl ?_
        exact Keep.refl _ _
      · refine Keep.step (fwdSend_keep _ _ _ _ _ _) rfl ?_
        exact Keep.refl _ _
    · refine Keep.step (fwdDiscard_keep _) rfl ?_
      exact Keep.refl _ _

theorem execFwdMessage_keep (a0) (a1) (a2) (a3) : ∃ t, execFwdMessage a0 a1 a2 a3 = .next t ∧ Keep 2114568 a3 t := by
  unfold execFwdMessage
  refine ⟨_, rfl, ?_⟩
  refine Keep.ite ?_ ?_
  · exact Keep.refl _ _
  · refine Keep.step (fwdRoute_keep _ _ _ _ _) rfl ?_
    exact Keep.refl _ _

theorem modPartner_keep (a0) (a1) (a2) : Keep 65536 a2 (modPartner a0 a1 a2) := by
  unfold modPartner
  refine Keep.step (modRole_keep _ _ (fun _ => List.prefix_rfl)) rfl ?_
  exact Keep.refl _ _

theorem contSend_keep (a0) : Keep 66560 a0 (contSend a0) := by
  unfold contSend
  extract_lets -merge -underBinder +onlyGivenNames z1 z2
  have hz2 : Keep 66560 a0 z2 := by
    unfold z2
    refine Keep.foldl ?_ _ ?_
    · intro y3 x4
      split
      · exact Keep.refl _ _
      · split
        · refine Keep.step (podSend_keep _ _ _ _ _ _) rfl ?_
          exact Keep.refl _ _
        · exact Keep.refl _ _
    · exact Keep.refl _ _
  clear_value z2
  refine Keep.step (modRole_keep _ _ (fun _ => List.prefix_rfl)) rfl ?_
  exact hz2

theorem execContinuitySweep_keep (a0) : ∃ t, execContinuitySweep a0 = .next t ∧ Keep 66560 a0 t := by
  unfold execContinuitySweep
  refine ⟨_, rfl, ?_⟩
  refine Keep.ite ?_ ?_
  · exact Keep.refl _ _
  · refine Keep.step (contSend_keep _) rfl ?_
    refine Keep.step (modRole_keep _ _ (fun _ => List.prefix_rfl)) rfl ?_
    exact Keep.refl _ _

theorem contMessage_keep (a0) (a1) (a2) (a3) : Keep 81920 a3 (contMessage a0 a1 a2 a3) := by
  unfold contMessage
  split
  · exact Keep.refl _ _
  · extract_lets -merge -underBinder +onlyGivenNames z4 z5 z6 z7 z8
    have hz8 : Keep 81920 a3 z8 := by
      unfold z8
      refine Keep.step (modPartner_keep _ _ _) rfl ?_
      exact Keep.refl _ _
    clear_value z8
    refine Keep.ite ?_ ?_
    · refine Keep.step (contMismatch_keep _) rfl ?_
      exact hz8
    · exact hz8
  · exact Keep.refl _ _

theorem execContinuity_keep (a0) (a1) (a2) (a3) : ∃ t, execContinuity a0 a1 a2 a3 = .next t ∧ Keep 81920 a3 t := by
  unfold execContinuity
  refine ⟨_, rfl, ?_⟩
  refine Keep.ite ?_ ?_
  · exact Keep.refl _ _
  · refine Keep.step (contMessage_keep _ _ _ _) rfl ?_
    exact Keep.refl _ _

theorem execContinuityPartnerSilence_keep (a0) (a1) : ∃ t, execContinuityPartnerSilence a0 a1 = .next t ∧ Keep 65536 a1 t := by
  unfold execContinuityPartnerSilence
  refine ⟨_, rfl, ?_⟩
  split
  · exact Keep.refl _ _
  · refine Keep.ite ?_ ?_
    · exact Keep.refl _ _
    · refine Keep.step (modPartner_keep _ _ _) rfl ?_
      exact Keep.refl _ _

theorem setEntry_keep (a0) (a1) (a2) : Keep 16384 a2 (setEntry a0 a1 a2) := by
  unfold setEntry
  refine Keep.step (modFlt_keep _ _ (fun _ w => w)) rfl ?_
  exact Keep.refl _ _

theorem modEntry_keep (a0) (a1) (a2) : Keep 16384 a2 (modEntry a0 a1 a2) := by
  unfold modEntry
  split
  · exact Keep.refl _ _
  · split
    · refine Keep.step (setEntry_keep _ _ _) rfl ?_
      exact Keep.refl _ _
    · exact Keep.refl _ _

theorem noteRetry_keep (a0) (a1) : Keep 16384 a1 (noteRetry a0 a1) := by
  unfold noteRetry
  refine Keep.step (modFlt_keep _ _ (fun _ w => w)) rfl ?_
  exact Keep.refl _ _

theorem unitMsg_keep (a0) (a1) (a2) : Keep 2113536 a2 (unitMsg a0 a1 a2) := by
  unfold unitMsg
  refine Keep.step (raise_keep _ _ _ _ _) rfl ?_
  exact Keep.refl _ _

theorem liftFence_keep (a0) (a1) : Keep 2113536 a1 (liftFence a0 a1) := by
  unfold liftFence
  split
  · exact Keep.refl _ _
  · refine Keep.step (unitMsg_keep _ _ _) rfl ?_
    refine Keep.step (setEntry_keep _ _ _) rfl ?_
    exact Keep.refl _ _

theorem enterFence_keep (a0) (a1) (a2) : Keep 16384 a2 (enterFence a0 a1 a2).2 := by
  unfold enterFence
  split
  · refine Keep.step (modEntry_keep _ _ _) rfl ?_
    exact Keep.refl _ _
  · split
    · exact Keep.refl _ _
    · split
      · exact Keep.refl _ _
      · extract_lets -merge -underBinder +onlyGivenNames z4
        refine Keep.step (setEntry_keep _ _ _) rfl ?_
        exact Keep.refl _ _

theorem modSlot_keep (a0) (a1) (a2) : Keep 131072 a2 (modSlot a0 a1 a2) := by
  unfold modSlot
  refine Keep.step (modBoot_keep _ _ (fun _ => Nat.le_refl _)) rfl ?_
  exact Keep.refl _ _

theorem newHeader_keep (a0) : Keep 131072 a0 (newHeader a0) := by
  unfold newHeader
  refine Keep.step (modBoot_keep _ _ (fun _ => Nat.le_refl _)) rfl ?_
  exact Keep.refl _ _

theorem programByte_keep (a0) (a1) (a2) : Keep 131072 a2 (programByte a0 a1 a2) := by
  unfold programByte
  extract_lets -merge -underBinder +onlyGivenNames z1
  refine Keep.step (modBoot_keep _ _ (fun _ => Nat.le_refl _)) rfl ?_
  exact Keep.refl _ _

theorem writeFlash_keep : ∀ a0 a1 a2, Keep 131072 a2 (writeFlash a0 a1 a2)
  | b0, [], b1 => by
    rw [writeFlash.eq_1]
    exact Keep.refl _ _
  | b0, (b2 :: b3), b1 => by
    rw [writeFlash.eq_2]
    refine Keep.step (writeFlash_keep _ _ _) rfl ?_
    refine Keep.step (modBoot_keep _ _ (fun _ => Nat.le_refl _)) rfl ?_
    exact Keep.refl _ _

theorem eraseFlash_keep (a0) (a1) (a2) : Keep 131072 a2 (eraseFlash a0 a1 a2) := by
  unfold eraseFlash
  refine Keep.foldl ?_ _ ?_
  · intro y1 x2
    extract_lets -merge -underBinder +onlyGivenNames z3 z4
    refine Keep.step (modBoot_keep _ _ (fun _ => Nat.le_refl _)) rfl ?_
    exact Keep.refl _ _
  · exact Keep.refl _ _

theorem laserFault_keep (a0) (a1) (a2) : Keep 16384 a2 (laserFault a0 a1 a2) := by
  unfold laserFault
  refine Keep.foldl ?_ _ ?_
  · intro y1 x2
    extract_lets -merge -underBinder +onlyGivenNames z3
    refine Keep.step (sendFault_keep _ _) rfl ?_
    exact Keep.refl _ _
  · exact Keep.refl _ _

theorem laserReady_keep (a0) (a1) (a2) : Keep 2048 a2 (laserReady a0 a1 a2) := by
  unfold laserReady
  refine Keep.step (modFoc_keep _ _) rfl ?_
  exact Keep.refl _ _

theorem lsInt_keep (a0) (a1) (a2) : Keep 2115584 a2 (lsInt a0 a1 a2) := by
  unfold lsInt
  refine Keep.ite ?_ ?_
  · exact Keep.refl _ _
  · extract_lets -merge -underBinder +onlyGivenNames z1
    have hz1 : Keep 2115584 a2 z1 := by
      unfold z1
      refine Keep.step (modPins_keep _ _) rfl ?_
      refine Keep.step (modFoc_keep _ _) rfl ?_
      exact Keep.refl _ _
    clear_value z1
    split
    · refine Keep.step (laserFault_keep _ _ _) rfl ?_
      refine Keep.step (laserReady_keep _ _ _) rfl ?_
      exact hz1
    · refine Keep.step (laserFault_keep _ _ _) rfl ?_
      exact hz1
    · refine Keep.step (laserFault_keep _ _ _) rfl ?_
      exact hz1
    · refine Keep.step (laserFault_keep _ _ _) rfl ?_
      exact hz1

theorem execLsInt_keep (a0) (a1) (a2) : ∃ t, execLsInt a0 a1 a2 = .next t ∧ Keep 2115584 a2 t := by
  unfold execLsInt
  refine ⟨_, rfl, ?_⟩
  refine Keep.step (lsInt_keep _ _ _) rfl ?_
  exact Keep.refl _ _

theorem laserPoll_keep (a0) (a1) (a2) : Keep 2115584 a2 (laserPoll a0 a1 a2) := by
  unfold laserPoll
  refine Keep.ite ?_ ?_
  · exact Keep.refl _ _
  · refine Keep.ite ?_ ?_
    · refine Keep.step (laserFault_keep _ _ _) rfl ?_
      refine Keep.step (laserReady_keep _ _ _) rfl ?_
      exact Keep.refl _ _
    · extract_lets -merge -underBinder +onlyGivenNames z1
      have hz1 : Keep 2115584 a2 z1 := by
        unfold z1
        refine Keep.step (laserReady_keep _ _ _) rfl ?_
        exact Keep.refl _ _
      clear_value z1
      refine Keep.ite ?_ ?_
      · extract_lets -merge -underBinder +onlyGivenNames z2
        refine Keep.step (modPins_keep _ _) rfl ?_
        refine Keep.step (modFoc_keep _ _) rfl ?_
        exact hz1
      · exact hz1

theorem execLaserModulePoll_keep (a0) (a1) (a2) : ∃ t, execLaserModulePoll a0 a1 a2 = .next t ∧ Keep 2115584 a2 t := by
  unfold execLaserModulePoll
  refine ⟨_, rfl, ?_⟩
  refine Keep.step (laserPoll_keep _ _ _) rfl ?_
  exact Keep.refl _ _

theorem sluiceGap_keep (a0) (a1) : Keep 20 a1 (sluiceGap a0 a1) := by
  unfold sluiceGap
  extract_lets -merge -underBinder +onlyGivenNames z1 z2
  have hz2 : Keep 20 a1 z2 := by
    unfold z2
    refine Keep.step (modMem_keep _ _ (fun _ w => w)) rfl ?_
    exact Keep.refl _ _
  clear_value z2
  refine Keep.step (gapDrop_keep _ _ _) rfl ?_
  refine Keep.step (modSlu_keep _ _) rfl ?_
  exact hz2

theorem feedMove_keep (a0) (a1) (a2) (a3) : KeepO 2068 a3 (feedMove a0 a1 a2 a3) := by
  unfold feedMove
  extract_lets -merge -underBinder +onlyGivenNames z1
  split
  · exact KeepO.none
  · extract_lets -merge -underBinder +onlyGivenNames z4 z5 z6 z9
    have hz4 : Keep 2068 a3 z4 := by
      unfold z4
      refine Keep.step (modFeedSt_keep _ _ _) rfl ?_
      exact Keep.refl _ _
    clear_value z4
    have hz5 : Keep 2068 a3 z5 := by
      unfold z5
      refine Keep.step (modFeedSt_keep _ _ _) rfl ?_
      exact hz4
    clear_value z5
    have hz6 : Keep 2068 a3 z6 := by
      unfold z6
      refine Keep.foldl ?_ _ ?_
      · intro y7 x8
        refine Keep.step (modElem_keep _ _ _) rfl ?_
        exact Keep.refl _ _
      · exact hz5
    clear_value z6
    have hz9 : Keep 2068 a3 z9 := by
      unfold z9
      refine Keep.ite ?_ ?_
      · refine Keep.step (sluiceGap_keep _ _) rfl ?_
        exact hz6
      · exact hz6
    clear_value z9
    refine KeepO.some ?_
    refine Keep.step (modFoc_keep _ _) rfl ?_
    exact hz9

theorem feedFail_keep (a0) (a1) (a2) (a3) : Keep 3164180 a3 (feedFail a0 a1 a2 a3) := by
  unfold feedFail
  extract_lets -merge -underBinder +onlyGivenNames z1
  refine Keep.ite ?_ ?_
  · refine Keep.step (raise_keep _ _ _ _ _) rfl ?_
    refine Keep.step (modFeedSt_keep _ _ _) rfl ?_
    exact Keep.refl _ _
  · split
    next p2 e =>
      have h3 : Keep 3164180 a3 p2 := by
        refine Keep.ofOpt e ?_
        refine KeepO.step (feedMove_keep _ _ _ _) rfl ?_
        exact Keep.refl _ _
      refine Keep.step (raise_keep _ _ _ _ _) rfl ?_
      exact h3
    · refine Keep.step (capUpdate_keep _) rfl ?_
      refine Keep.step (raise_keep _ _ _ _ _) rfl ?_
      refine Keep.step (modFeedSt_keep _ _ _) rfl ?_
      exact Keep.refl _ _

theorem feedLevel_keep (a0) (a1) (a2) (a3) : Keep 2048 a3 (feedLevel a0 a1 a2 a3) := by
  unfold feedLevel
  refine Keep.step (modFeedSt_keep _ _ _) rfl ?_
  exact Keep.refl _ _

theorem execFeedLow_keep (a0) (a1) (a2) (a3) (a4) : ∃ t, execFeedLow a0 a1 a2 a3 a4 = .next t ∧ Keep 3164180 a4 t := by
  unfold execFeedLow
  refine ⟨_, rfl, ?_⟩
  refine Keep.ite ?_ ?_
  · exact Keep.refl _ _
  · refine Keep.step (feedFail_keep _ _ _ _) rfl ?_
    refine Keep.step (feedLevel_keep _ _ _ _) rfl ?_
    exact Keep.refl _ _

theorem feedGone_keep (a0) (a1) : Keep 3164180 a1 (feedGone a0 a1) := by
  unfold feedGone
  extract_lets -merge -underBinder +onlyGivenNames z1
  refine Keep.step (feedFail_keep _ _ _ _) rfl ?_
  refine Keep.step (modMem_keep _ _ (fun _ w => w)) rfl ?_
  exact Keep.refl _ _

theorem feedReturn_keep (a0) (a1) : Keep 2064 a1 (feedReturn a0 a1) := by
  unfold feedReturn
  extract_lets -merge -underBinder +onlyGivenNames z1 z2 z5 z6
  have hz2 : Keep 2064 a1 z2 := by
    unfold z2
    refine Keep.ite ?_ ?_
    · exact Keep.refl _ _
    · refine Keep.foldl ?_ _ ?_
      · intro y3 x4
        refine Keep.ite ?_ ?_
        · refine Keep.step (modFeedSt_keep _ _ _) rfl ?_
          exact Keep.refl _ _
        · exact Keep.refl _ _
      · exact Keep.refl _ _
  clear_value z2
  have hz6 : Keep 2064 a1 z6 := by
    unfold z6
    refine Keep.step (feedLevel_keep _ _ _ _) rfl ?_
    refine Keep.step (modMem_keep _ _ (fun _ w => w)) rfl ?_
    exact hz2
  clear_value z6
  refine Keep.step (modFeedSt_keep _ _ _) rfl ?_
  exact hz6

theorem focusUpdate_keep (a0) (a1) (a2) : Keep 2048 a2 (focusUpdate a0 a1 a2) := by
  unfold focusUpdate
  extract_lets -merge -underBinder +onlyGivenNames z1
  refine Keep.ite ?_ ?_
  · exact Keep.refl _ _
  · extract_lets -merge -underBinder +onlyGivenNames z2 z3 z4 z5 z6 z7 z8
    refine Keep.step (modElem_keep _ _ _) rfl ?_
    exact Keep.refl _ _

theorem execFocusUpdate_keep (a0) (a1) (a2) : ∃ t, execFocusUpdate a0 a1 a2 = .next t ∧ Keep 2048 a2 t := by
  unfold execFocusUpdate
  refine ⟨_, rfl, ?_⟩
  refine Keep.step (focusUpdate_keep _ _ _) rfl ?_
  exact Keep.refl _ _

theorem execFocusLockLost_keep (a0) (a1) : ∃ t, execFocusLockLost a0 a1 = .next t ∧ Keep 2048 a1 t := by
  unfold execFocusLockLost
  refine ⟨_, rfl, ?_⟩
  refine Keep.ite ?_ ?_
  · exact Keep.refl _ _
  · refine Keep.step (modElem_keep _ _ _) rfl ?_
    exact Keep.refl _ _

theorem elemEffect_keep (a0) (a1) : Keep 7359516 a1 (elemEffect a0 a1) := by
  unfold elemEffect
  split
  · refine Keep.step (lambdaOut_keep _ _ _) rfl ?_
    exact Keep.refl _ _
  · refine Keep.step (lambdaOut_keep _ _ _) rfl ?_
    exact Keep.refl _ _
  · refine Keep.ite ?_ ?_
    · refine Keep.step (lambdaOut_keep _ _ _) rfl ?_
      exact Keep.refl _ _
    · exact Keep.refl _ _
  · refine Keep.step (laneDrop_keep _ _ _ _) rfl ?_
    exact Keep.refl _ _
  · refine Keep.step (laneDrop_keep _ _ _ _) rfl ?_
    exact Keep.refl _ _
  · extract_lets -merge -underBinder +onlyGivenNames z11
    have hz11 : Keep 7359516 a1 z11 := by
      unfold z11
      refine Keep.step (modFeedSt_keep _ _ _) rfl ?_
      exact Keep.refl _ _
    clear_value z11
    refine Keep.ite ?_ ?_
    · refine Keep.step (modFeedSt_keep _ _ _) rfl ?_
      exact hz11
    · refine Keep.step (feedGone_keep _ _) rfl ?_
      exact hz11
  · exact Keep.refl _ _

theorem elemOut_keep (a0) (a1) (a2) (a3) (a4) : Keep 7359516 a4 (elemOut a0 a1 a2 a3 a4) := by
  unfold elemOut
  refine Keep.step (elemEffect_keep _ _) rfl ?_
  refine Keep.step (raise_keep _ _ _ _ _) rfl ?_
  refine Keep.step (modElem_keep _ _ _) rfl ?_
  exact Keep.refl _ _

theorem searchTimeout_keep (a0) (a1) : Keep 7359516 a1 (searchTimeout a0 a1) := by
  unfold searchTimeout
  split
  · exact Keep.refl _ _
  · refine Keep.ite ?_ ?_
    · exact Keep.refl _ _
    · refine Keep.step (elemOut_keep _ _ _ _ _) rfl ?_
      refine Keep.step (modFoc_keep _ _) rfl ?_
      exact Keep.refl _ _

theorem execFocusSearchTimeout_keep (a0) (a1) : ∃ t, execFocusSearchTimeout a0 a1 = .next t ∧ Keep 7359516 a1 t := by
  unfold execFocusSearchTimeout
  refine ⟨_, rfl, ?_⟩
  refine Keep.step (searchTimeout_keep _ _) rfl ?_
  exact Keep.refl _ _

theorem focusRange_keep (a0) (a1) : Keep 7359516 a1 (focusRange a0 a1) := by
  unfold focusRange
  extract_lets -merge -underBinder +onlyGivenNames z1
  refine Keep.ite ?_ ?_
  · exact Keep.refl _ _
  · refine Keep.step (elemOut_keep _ _ _ _ _) rfl ?_
    refine Keep.step (modFoc_keep _ _) rfl ?_
    exact Keep.refl _ _

theorem execFocusRange_keep (a0) (a1) : ∃ t, execFocusRange a0 a1 = .next t ∧ Keep 7359516 a1 t := by
  unfold execFocusRange
  refine ⟨_, rfl, ?_⟩
  refine Keep.step (focusRange_keep _ _) rfl ?_
  exact Keep.refl _ _

theorem identityCheck_keep (a0) (a1) (a2) (a3) : Keep 7359516 a3 (identityCheck a0 a1 a2 a3) := by
  unfold identityCheck
  split
  · exact Keep.refl _ _
  · refine Keep.ite ?_ ?_
    · exact Keep.refl _ _
    · extract_lets -merge -underBinder +onlyGivenNames z3 z4
      have hz4 : Keep 7359516 a3 z4 := by
        unfold z4
        refine Keep.step (modElem_keep _ _ _) rfl ?_
        exact Keep.refl _ _
      clear_value z4
      refine Keep.ite ?_ ?_
      · exact hz4
      · refine Keep.step (elemOut_keep _ _ _ _ _) rfl ?_
        refine Keep.step (modFoc_keep _ _) rfl ?_
        exact hz4

theorem execIdentityCheck_keep (a0) (a1) (a2) (a3) : ∃ t, execIdentityCheck a0 a1 a2 a3 = .next t ∧ Keep 7359516 a3 t := by
  unfold execIdentityCheck
  refine ⟨_, rfl, ?_⟩
  refine Keep.step (identityCheck_keep _ _ _ _) rfl ?_
  exact Keep.refl _ _

theorem resweep_keep (a0) (a1) (a2) : Keep 2115584 a2 (resweep a0 a1 a2) := by
  unfold resweep
  extract_lets -merge -underBinder +onlyGivenNames z1 z2
  refine Keep.ite ?_ ?_
  · exact Keep.refl _ _
  · extract_lets -merge -underBinder +onlyGivenNames z3
    have hz3 : Keep 2115584 a2 z3 := by
      unfold z3
      refine Keep.ite ?_ ?_
      · refine Keep.step (noteRetry_keep _ _) rfl ?_
        exact Keep.refl _ _
      · exact Keep.refl _ _
    clear_value z3
    split
    · extract_lets -merge -underBinder +onlyGivenNames z5
      refine Keep.step (liftFence_keep _ _) rfl ?_
      refine Keep.step (modElem_keep _ _ _) rfl ?_
      exact hz3
    · extract_lets -merge -underBinder +onlyGivenNames z7
      have hz7 : Keep 2115584 a2 z7 := by
        unfold z7
        refine Keep.step (modElem_keep _ _ _) rfl ?_
        exact hz3
      clear_value z7
      refine Keep.ite ?_ ?_
      · refine Keep.step (unitMsg_keep _ _ _) rfl ?_
        refine Keep.step (modEntry_keep _ _ _) rfl ?_
        exact hz7
      · refine Keep.step (modEntry_keep _ _ _) rfl ?_
        exact hz7

theorem execResweepComplete_keep (a0) (a1) (a2) : ∃ t, execResweepComplete a0 a1 a2 = .next t ∧ Keep 2115584 a2 t := by
  unfold execResweepComplete
  refine ⟨_, rfl, ?_⟩
  refine Keep.step (resweep_keep _ _ _) rfl ?_
  exact Keep.refl _ _

theorem elemBack_keep (a0) (a1) : Keep 2064 a1 (elemBack a0 a1) := by
  unfold elemBack
  extract_lets -merge -underBinder +onlyGivenNames z1
  refine Keep.step (modElem_keep _ _ _) rfl ?_
  refine Keep.step (modMem_keep _ _ (fun _ w => w)) rfl ?_
  exact Keep.refl _ _

theorem headroom_keep (a0) (a1) : Keep 2115584 a1 (headroom a0 a1) := by
  unfold headroom
  split
  · exact Keep.refl _ _
  · refine Keep.ite ?_ ?_
    · exact Keep.refl _ _
    · extract_lets -merge -underBinder +onlyGivenNames z3 z4 z5 z6 z7 z8 z9 z10 z11 z12 z13
      have hz12 : Keep 2115584 a1 z12 := by
        unfold z12
        refine Keep.step (modFoc_keep _ _) rfl ?_
        exact Keep.refl _ _
      clear_value z12
      have hz13 : Keep 2115584 a1 z13 := by
        unfold z13
        refine Keep.ite ?_ ?_
        · refine Keep.step (standBegin_keep _ _ _ _ _) rfl ?_
          exact hz12
        · refine Keep.ite ?_ ?_
          · refine Keep.step (standEnd_keep _ _ _ _) rfl ?_
            exact hz12
          · exact hz12
      clear_value z13
      refine Keep.ite ?_ ?_
      · refine Keep.step (standBegin_keep _ _ _ _ _) rfl ?_
        exact hz13
      · refine Keep.ite ?_ ?_
        · refine Keep.step (standEnd_keep _ _ _ _) rfl ?_
          exact hz13
        · exact hz13

theorem execHeadroomEval_keep (a0) (a1) : ∃ t, execHeadroomEval a0 a1 = .next t ∧ Keep 2115584 a1 t := by
  unfold execHeadroomEval
  refine ⟨_, rfl, ?_⟩
  refine Keep.step (headroom_keep _ _) rfl ?_
  exact Keep.refl _ _

theorem trimFocus_keep (a0) (a1) (a2) : Keep 2048 a2 (trimFocus a0 a1 a2) := by
  unfold trimFocus
  refine Keep.ite ?_ ?_
  · exact Keep.refl _ _
  · extract_lets -merge -underBinder +onlyGivenNames z1 z2
    refine Keep.foldl ?_ _ ?_
    · intro y3 x4
      extract_lets -merge -underBinder +onlyGivenNames z5
      split
      · exact Keep.refl _ _
      · refine Keep.ite ?_ ?_
        · exact Keep.refl _ _
        · extract_lets -merge -underBinder +onlyGivenNames z8 z9
          refine Keep.step (modElem_keep _ _ _) rfl ?_
          exact Keep.refl _ _
    · exact Keep.refl _ _

theorem execFocusTrimInterval_keep (a0) (a1) (a2) : ∃ t, execFocusTrimInterval a0 a1 a2 = .next t ∧ Keep 2048 a2 t := by
  unfold execFocusTrimInterval
  refine ⟨_, rfl, ?_⟩
  refine Keep.step (trimFocus_keep _ _ _) rfl ?_
  exact Keep.refl _ _

theorem execFocTrimFreeze_keep (a0) (a1) (a2) : ∃ t, execFocTrimFreeze a0 a1 a2 = .next t ∧ Keep 100352 a2 t := by
  unfold execFocTrimFreeze
  refine ⟨_, rfl, ?_⟩
  refine Keep.iWrite (m := 100352) rfl ?_ ?_
  · intro y1
    refine Keep.step (modFoc_keep _ _) rfl ?_
    exact Keep.refl _ _
  · exact Keep.refl _ _

theorem warmSave_keep (a0) : Keep 2048 a0 (warmSave a0) := by
  unfold warmSave
  refine Keep.ite ?_ ?_
  · refine Keep.step (modFoc_keep _ _) rfl ?_
    exact Keep.refl _ _
  · extract_lets -merge -underBinder +onlyGivenNames z1
    refine Keep.step (modFoc_keep _ _) rfl ?_
    exact Keep.refl _ _

theorem execWarmSave_keep (a0) (a1) : ∃ t, execWarmSave a0 a1 = .next t ∧ Keep 100352 a1 t := by
  unfold execWarmSave
  refine ⟨_, rfl, ?_⟩
  refine Keep.iWrite (m := 100352) rfl ?_ ?_
  · intro y1
    refine Keep.step (warmSave_keep _) rfl ?_
    exact Keep.refl _ _
  · exact Keep.refl _ _

theorem saveDone_keep (a0) (a1) : Keep 133120 a1 (saveDone a0 a1) := by
  unfold saveDone
  refine Keep.ite ?_ ?_
  · exact Keep.refl _ _
  · refine Keep.ite ?_ ?_
    · refine Keep.step (modFoc_keep _ _) rfl ?_
      exact Keep.refl _ _
    · extract_lets -merge -underBinder +onlyGivenNames z1 z2 z3
      refine Keep.step (modBoot_keep _ _ (fun _ => Nat.le_refl _)) rfl ?_
      refine Keep.step (modFoc_keep _ _) rfl ?_
      exact Keep.refl _ _

theorem execWarmSaveComplete_keep (a0) (a1) : ∃ t, execWarmSaveComplete a0 a1 = .next t ∧ Keep 133120 a1 t := by
  unfold execWarmSaveComplete
  refine ⟨_, rfl, ?_⟩
  refine Keep.step (saveDone_keep _ _) rfl ?_
  exact Keep.refl _ _

theorem timeSelect_keep (a0) : Keep 17410 a0 (timeSelect a0) := by
  unfold timeSelect
  extract_lets -merge -underBinder +onlyGivenNames z1 z2 z3
  refine Keep.ite ?_ ?_
  · refine Keep.step (standEnd_keep _ _ _ _) rfl ?_
    refine Keep.step (modPod_keep _ _) rfl ?_
    refine Keep.step (modTc_keep _ _) rfl ?_
    exact Keep.refl _ _
  · clear_value z2
    split
    · refine Keep.step (modPod_keep _ _) rfl ?_
      refine Keep.step (modTc_keep _ _) rfl ?_
      exact Keep.refl _ _
    · extract_lets -merge -underBinder +onlyGivenNames z6 z7 z8 z9 z10
      have hz9 : Keep 17410 a0 z9 := by
        unfold z9
        refine Keep.step (modPod_keep _ _) rfl ?_
        exact Keep.refl _ _
      clear_value z9
      have hz10 : Keep 17410 a0 z10 := by
        unfold z10
        refine Keep.step (modTc_keep _ _) rfl ?_
        exact hz9
      clear_value z10
      refine Keep.step (standEnd_keep _ _ _ _) rfl ?_
      exact hz10

theorem timeLost_keep (a0) : Keep 2114562 a0 (timeLost a0) := by
  unfold timeLost
  refine Keep.ite ?_ ?_
  · exact Keep.refl _ _
  · refine Keep.step (standBegin_keep _ _ _ _ _) rfl ?_
    refine Keep.step (modPod_keep _ _) rfl ?_
    refine Keep.step (modTc_keep _ _) rfl ?_
    exact Keep.refl _ _

theorem timeRequest_keep (a0) (a1) : Keep 4195328 a1 (timeRequest a0 a1) := by
  unfold timeRequest
  extract_lets -merge -underBinder +onlyGivenNames z1 z2
  refine Keep.ite ?_ ?_
  · exact Keep.refl _ _
  · refine Keep.step (linkCmd_keep _ _ _ _) rfl ?_
    refine Keep.step (modPodLink_keep _ _ _) rfl ?_
    exact Keep.refl _ _

theorem execTimeRequestSend_keep (a0) (a1) : ∃ t, execTimeRequestSend a0 a1 = .next t ∧ Keep 4195328 a1 t := by
  unfold execTimeRequestSend
  refine ⟨_, rfl, ?_⟩
  refine Keep.step (timeRequest_keep _ _) rfl ?_
  exact Keep.refl _ _

theorem timeCommand_keep (a0) (a1) (a2) : Keep 4211714 a2 (timeCommand a0 a1 a2) := by
  unfold timeCommand
  refine Keep.ite ?_ ?_
  · exact Keep.refl _ _
  · refine Keep.ite ?_ ?_
    · refine Keep.step (linkCmd_keep _ _ _ _) rfl ?_
      exact Keep.refl _ _
    · split
      · exact Keep.refl _ _
      · extract_lets -merge -underBinder +onlyGivenNames z3 z4 z5 z6
        refine Keep.step (timeSelect_keep _) rfl ?_
        refine Keep.step (modPodLink_keep _ _ _) rfl ?_
        exact Keep.refl _ _

theorem execTime_keep (a0) (a1) (a2) : ∃ t, execTime a0 a1 a2 = .next t ∧ Keep 4211714 a2 t := by
  unfold execTime
  refine ⟨_, rfl, ?_⟩
  refine Keep.step (timeCommand_keep _ _ _) rfl ?_
  exact Keep.refl _ _

theorem timeTimeout_keep (a0) (a1) : Keep 2114562 a1 (timeTimeout a0 a1) := by
  unfold timeTimeout
  split
  · exact Keep.refl _ _
  · refine Keep.ite ?_ ?_
    · exact Keep.refl _ _
    · extract_lets -merge -underBinder +onlyGivenNames z3
      have hz3 : Keep 2114562 a1 z3 := by
        unfold z3
        refine Keep.step (modPodLink_keep _ _ _) rfl ?_
        exact Keep.refl _ _
      clear_value z3
      refine Keep.ite ?_ ?_
      · refine Keep.step (timeSelect_keep _) rfl ?_
        exact hz3
      · refine Keep.step (timeLost_keep _) rfl ?_
        exact hz3

theorem execTimeLinkTimeout_keep (a0) (a1) : ∃ t, execTimeLinkTimeout a0 a1 = .next t ∧ Keep 2114562 a1 t := by
  unfold execTimeLinkTimeout
  refine ⟨_, rfl, ?_⟩
  refine Keep.step (timeTimeout_keep _ _) rfl ?_
  exact Keep.refl _ _

theorem rtCheck_keep (a0) : Keep 1024 a0 (rtCheck a0) := by
  unfold rtCheck
  refine Keep.ite ?_ ?_
  · exact Keep.refl _ _
  · refine Keep.step (modPod_keep _ _) rfl ?_
    exact Keep.refl _ _

theorem execPodRtCheck_keep (a0) (a1) : ∃ t, execPodRtCheck a0 a1 = .next t ∧ Keep 99328 a1 t := by
  unfold execPodRtCheck
  refine ⟨_, rfl, ?_⟩
  refine Keep.iWrite (m := 99328) rfl ?_ ?_
  · intro y1
    refine Keep.step (rtCheck_keep _) rfl ?_
    exact Keep.refl _ _
  · exact Keep.refl _ _

theorem rtCheckDone_keep (a0) : Keep 1024 a0 (rtCheckDone a0) := by
  unfold rtCheckDone
  refine Keep.ite ?_ ?_
  · exact Keep.refl _ _
  · split
    · refine Keep.step (modPod_keep _ _) rfl ?_
      exact Keep.refl _ _
    · refine Keep.step (modPod_keep _ _) rfl ?_
      exact Keep.refl _ _

theorem execRouteCheckComplete_keep (a0) : ∃ t, execRouteCheckComplete a0 = .next t ∧ Keep 1024 a0 t := by
  unfold execRouteCheckComplete
  refine ⟨_, rfl, ?_⟩
  refine Keep.step (rtCheckDone_keep _) rfl ?_
  exact Keep.refl _ _

theorem routeSwap_keep (a0) : Keep 4277768 a0 (routeSwap a0) := by
  unfold routeSwap
  refine Keep.ite ?_ ?_
  · exact Keep.refl _ _
  · extract_lets -merge -underBinder +onlyGivenNames z1 z2 z3 z4 z5
    have hz2 : Keep 4277768 a0 z2 := by
      unfold z2
      refine Keep.step (modPod_keep _ _) rfl ?_
      exact Keep.refl _ _
    clear_value z2
    have hz3 : Keep 4277768 a0 z3 := by
      unfold z3
      refine Keep.step (modRole_keep _ _ (fun _ => List.prefix_rfl)) rfl ?_
      exact hz2
    clear_value z3
    have hz4 : Keep 4277768 a0 z4 := by
      unfold z4
      refine Keep.step (contChange_keep _ _ (fun _ => List.prefix_rfl)) rfl ?_
      exact hz3
    clear_value z4
    have hz5 : Keep 4277768 a0 z5 := by
      unfold z5
      refine Keep.step (moveFlows_keep _) rfl ?_
      exact hz4
    clear_value z5
    refine Keep.ite ?_ ?_
    · exact hz5
    · refine Keep.foldl ?_ _ ?_
      · intro y6 x7
        refine Keep.foldl ?_ _ ?_
        · intro y8 x9
          refine Keep.step (drainXs_keep _ _ _) rfl ?_
          exact Keep.refl _ _
        · exact Keep.refl _ _
      · exact hz5

theorem routeNow_keep (a0) : Keep 4277768 a0 (routeNow a0) := by
  unfold routeNow
  refine Keep.ite ?_ ?_
  · exact Keep.refl _ _
  · refine Keep.step (routeSwap_keep _) rfl ?_
    exact Keep.refl _ _

theorem rtSwap_keep (a0) : Keep 4277768 a0 (rtSwap a0) := by
  unfold rtSwap
  refine Keep.ite ?_ ?_
  · exact Keep.refl _ _
  · extract_lets -merge -underBinder +onlyGivenNames z1
    refine Keep.ite ?_ ?_
    · extract_lets -merge -underBinder +onlyGivenNames z2 z3
      refine Keep.step (modPod_keep _ _) rfl ?_
      exact Keep.refl _ _
    · split
      · refine Keep.step (modPod_keep _ _) rfl ?_
        exact Keep.refl _ _
      · refine Keep.step (routeNow_keep _) rfl ?_
        refine Keep.step (modPod_keep _ _) rfl ?_
        exact Keep.refl _ _

theorem execPodRtSwap_keep (a0) (a1) : ∃ t, execPodRtSwap a0 a1 = .next t ∧ Keep 4310536 a1 t := by
  unfold execPodRtSwap
  refine ⟨_, rfl, ?_⟩
  refine Keep.iWrite (m := 4310536) rfl ?_ ?_
  · intro y1
    refine Keep.step (rtSwap_keep _) rfl ?_
    exact Keep.refl _ _
  · exact Keep.refl _ _

theorem rtCancel_keep (a0) : Keep 4195848 a0 (rtCancel a0) := by
  unfold rtCancel
  refine Keep.ite ?_ ?_
  · extract_lets -merge -underBinder +onlyGivenNames z1
    have hz1 : Keep 4195848 a0 z1 := by
      unfold z1
      refine Keep.step (modPod_keep _ _) rfl ?_
      exact Keep.refl _ _
    clear_value z1
    refine Keep.foldl ?_ _ ?_
    · intro y2 x3
      refine Keep.foldl ?_ _ ?_
      · intro y4 x5
        refine Keep.step (drainXs_keep _ _ _) rfl ?_
        exact Keep.refl _ _
      · exact Keep.refl _ _
    · exact hz1
  · exact Keep.refl _ _

theorem execPodRtCancel_keep (a0) (a1) : ∃ t, execPodRtCancel a0 a1 = .next t ∧ Keep 4294152 a1 t := by
  unfold execPodRtCancel
  refine ⟨_, rfl, ?_⟩
  refine Keep.iWrite (m := 4294152) rfl ?_ ?_
  · intro y1
    refine Keep.step (rtCancel_keep _) rfl ?_
    exact Keep.refl _ _
  · exact Keep.refl _ _

theorem nextChanged_keep (a0) : Keep 4195848 a0 (nextChanged a0) := by
  unfold nextChanged
  extract_lets -merge -underBinder +onlyGivenNames z1
  have hz1 : Keep 4195848 a0 z1 := by
    unfold z1
    refine Keep.step (rtCancel_keep _) rfl ?_
    exact Keep.refl _ _
  clear_value z1
  refine Keep.step (modPod_keep _ _) rfl ?_
  exact hz1

theorem execPodRtCopy_keep (a0) (a1) : ∃ t, execPodRtCopy a0 a1 = .next t ∧ Keep 4294152 a1 t := by
  unfold execPodRtCopy
  refine ⟨_, rfl, ?_⟩
  refine Keep.iWrite (m := 4294152) rfl ?_ ?_
  · intro y1
    refine Keep.step (modPod_keep _ _) rfl ?_
    refine Keep.step (nextChanged_keep _) rfl ?_
    exact Keep.refl _ _
  · exact Keep.refl _ _

theorem routeDrainEnd_keep (a0) : Keep 4277768 a0 (routeDrainEnd a0) := by
  unfold routeDrainEnd
  extract_lets -merge -underBinder +onlyGivenNames z1
  refine Keep.ite ?_ ?_
  · exact Keep.refl _ _
  · refine Keep.step (routeNow_keep _) rfl ?_
    refine Keep.step (modPod_keep _ _) rfl ?_
    exact Keep.refl _ _

theorem execRouteDrainEnd_keep (a0) : ∃ t, execRouteDrainEnd a0 = .next t ∧ Keep 4277768 a0 t := by
  unfold execRouteDrainEnd
  refine ⟨_, rfl, ?_⟩
  refine Keep.step (routeDrainEnd_keep _) rfl ?_
  exact Keep.refl _ _

theorem startValues_keep (a0) (a1) : Keep 76320 a1 (startValues a0 a1) := by
  unfold startValues
  extract_lets -merge -underBinder +onlyGivenNames z1 z2 z3 z4
  have hz1 : Keep 76320 a1 z1 := by
    unfold z1
    refine Keep.step (modBlk_keep _ _) rfl ?_
    exact Keep.refl _ _
  clear_value z1
  have hz2 : Keep 76320 a1 z2 := by
    unfold z2
    refine Keep.step (modGaf_keep _ _) rfl ?_
    exact hz1
  clear_value z2
  have hz3 : Keep 76320 a1 z3 := by
    unfold z3
    refine Keep.step (modFoc_keep _ _) rfl ?_
    exact hz2
  clear_value z3
  have hz4 : Keep 76320 a1 z4 := by
    unfold z4
    refine Keep.step (modRole_keep _ _ (fun _ => List.prefix_rfl)) rfl ?_
    exact hz3
  clear_value z4
  refine Keep.foldl ?_ _ ?_
  · intro y5 x6
    refine Keep.step (modSite_keep _ _ _) rfl ?_
    exact Keep.refl _ _
  · exact hz4

theorem loadScript_keep (a0) (a1) (a2) (a3) : Keep 1289846 a3 (loadScript a0 a1 a2 a3) := by
  unfold loadScript
  extract_lets -merge -underBinder +onlyGivenNames z1 z2 z3 z4 z5 z6 z7 z8 z9 z10
  have hz1 : Keep 1289846 a3 z1 := by
    unfold z1
    refine Keep.step (modBoot_keep _ _ (fun _ => Nat.le_refl _)) rfl ?_
    exact Keep.refl _ _
  clear_value z1
  have hz2 : Keep 1289846 a3 z2 := by
    unfold z2
    refine Keep.step (modIdent_keep _ _) rfl ?_
    exact hz1
  clear_value z2
  have hz3 : Keep 1289846 a3 z3 := by
    unfold z3
    refine Keep.step (modTc_keep _ _) rfl ?_
    exact hz2
  clear_value z3
  have hz4 : Keep 1289846 a3 z4 := by
    unfold z4
    refine Keep.step (modSlu_keep _ _) rfl ?_
    exact hz3
  clear_value z4
  have hz5 : Keep 1289846 a3 z5 := by
    unfold z5
    refine Keep.step (modMem_keep _ _ (fun _ w => w)) rfl ?_
    exact hz4
  clear_value z5
  have hz6 : Keep 1289846 a3 z6 := by
    unfold z6
    refine Keep.step (modMpd_keep _ _) rfl ?_
    exact hz5
  clear_value z6
  have hz7 : Keep 1289846 a3 z7 := by
    unfold z7
    refine Keep.step (modPod_keep _ _) rfl ?_
    exact hz6
  clear_value z7
  have hz8 : Keep 1289846 a3 z8 := by
    unfold z8
    refine Keep.step (modPair_keep _ _) rfl ?_
    exact hz7
  clear_value z8
  have hz9 : Keep 1289846 a3 z9 := by
    unfold z9
    refine Keep.step (modRole_keep _ _ (fun _ => List.prefix_rfl)) rfl ?_
    exact hz8
  clear_value z9
  have hz10 : Keep 1289846 a3 z10 := by
    unfold z10
    refine Keep.step (modGaf_keep _ _) rfl ?_
    exact hz9
  clear_value z10
  refine Keep.step (startValues_keep _ _) rfl ?_
  refine Keep.foldl ?_ _ ?_
  · intro y11 x12
    refine Keep.step (modSite_keep _ _ _) rfl ?_
    exact Keep.refl _ _
  · exact hz10

theorem scriptCheck_keep (a0) (a1) : Keep 131072 a1 (scriptCheck a0 a1) := by
  unfold scriptCheck
  refine Keep.ite ?_ ?_
  · exact Keep.refl _ _
  · refine Keep.step (modBoot_keep _ _ (fun _ => Nat.le_refl _)) rfl ?_
    exact Keep.refl _ _

theorem execScriptCheck_keep (a0) (a1) : ∃ t, execScriptCheck a0 a1 = .next t ∧ Keep 229376 a1 t := by
  unfold execScriptCheck
  refine ⟨_, rfl, ?_⟩
  refine Keep.iWrite (m := 229376) rfl ?_ ?_
  · intro y1
    refine Keep.step (scriptCheck_keep _ _) rfl ?_
    exact Keep.refl _ _
  · exact Keep.refl _ _

theorem scriptChecked_keep (a0) (a1) : Keep 229376 a1 (scriptChecked a0 a1) := by
  unfold scriptChecked
  refine Keep.ite ?_ ?_
  · exact Keep.refl _ _
  · extract_lets -merge -underBinder +onlyGivenNames z1 z2
    refine Keep.step (audit_keep _ _ _ _ _) rfl ?_
    refine Keep.step (modBoot_keep _ _ (fun _ => Nat.le_refl _)) rfl ?_
    exact Keep.refl _ _

theorem execScriptCheckComplete_keep (a0) (a1) : ∃ t, execScriptCheckComplete a0 a1 = .next t ∧ Keep 229376 a1 t := by
  unfold execScriptCheckComplete
  refine ⟨_, rfl, ?_⟩
  refine Keep.step (scriptChecked_keep _ _) rfl ?_
  exact Keep.refl _ _

theorem showAlert_keep (a0) : Keep 2097152 a0 (showAlert a0) := by
  unfold showAlert
  refine Keep.step (modPins_keep _ _) rfl ?_
  exact Keep.refl _ _

theorem standEndAll_keep (a0) (a1) (a2) : Keep 16384 a2 (standEndAll a0 a1 a2) := by
  unfold standEndAll
  refine Keep.foldl ?_ _ ?_
  · intro y1 x2
    refine Keep.step (standEnd_keep _ _ _ _) rfl ?_
    exact Keep.refl _ _
  · exact Keep.refl _ _

theorem pauseRequest_keep (a0) (a1) (a2) : Keep 4194818 a2 (pauseRequest a0 a1 a2) := by
  unfold pauseRequest
  refine Keep.ite ?_ ?_
  · exact Keep.refl _ _
  · split
    · split
      · refine Keep.step (modTc_keep _ _) rfl ?_
        exact Keep.refl _ _
      · extract_lets -merge -underBinder +onlyGivenNames z6
        have hz6 : Keep 4194818 a2 z6 := by
          unfold z6
          refine Keep.step (modTc_keep _ _) rfl ?_
          exact Keep.refl _ _
        clear_value z6
        split
        · refine Keep.step (sideband_keep _ _ _ _) rfl ?_
          exact hz6
        · exact hz6

theorem pauseWrite_keep (a0) (a1) (a2) (a3) (a4) : Keep 4293122 a4 (pauseWrite a0 a1 a2 a3 a4) := by
  unfold pauseWrite
  refine Keep.ite ?_ ?_
  · exact Keep.refl _ _
  · refine Keep.iWrite (m := 4293122) rfl ?_ ?_
    · intro y1
      refine Keep.step (pauseRequest_keep _ _ _) rfl ?_
      exact Keep.refl _ _
    · exact Keep.refl _ _

theorem execTcPauseReq_keep (a0) (a1) (a2) (a3) : ∃ t, execTcPauseReq a0 a1 a2 a3 = .next t ∧ Keep 4293122 a3 t := by
  unfold execTcPauseReq
  refine ⟨_, rfl, ?_⟩
  refine Keep.step (pauseWrite_keep _ _ _ _ _) rfl ?_
  exact Keep.refl _ _

theorem dieRefused_keep (a0) (a1) (a2) : Keep 4194816 a2 (dieRefused a0 a1 a2) := by
  unfold dieRefused
  refine Keep.ite ?_ ?_
  · refine Keep.step (sideband_keep _ _ _ _) rfl ?_
    exact Keep.refl _ _
  · exact Keep.refl _ _

theorem showPause_keep (a0) (a1) (a2) : Keep 2 a2 (showPause a0 a1 a2) := by
  unfold showPause
  refine Keep.ite ?_ ?_
  · refine Keep.step (modTc_keep _ _) rfl ?_
    exact Keep.refl _ _
  · exact Keep.refl _ _

theorem pauseBegin_keep (a0) (a1) : Keep 2114066 a1 (pauseBegin a0 a1) := by
  unfold pauseBegin
  extract_lets -merge -underBinder +onlyGivenNames z1
  refine Keep.ite ?_ ?_
  · exact Keep.refl _ _
  · extract_lets -merge -underBinder +onlyGivenNames z2
    have hz2 : Keep 2114066 a1 z2 := by
      unfold z2
      refine Keep.step (showPause_keep _ _ _) rfl ?_
      refine Keep.step (modTc_keep _ _) rfl ?_
      exact Keep.refl _ _
    clear_value z2
    split
    · refine Keep.step (modSite_keep _ _ _) rfl ?_
      exact hz2
    · extract_lets -merge -underBinder +onlyGivenNames z6 z7
      have hz7 : Keep 2114066 a1 z7 := by
        unfold z7
        refine Keep.step (modMs_keep _ _ _) rfl ?_
        exact hz2
      clear_value z7
      refine Keep.foldl ?_ _ ?_
      · intro y8 x9
        refine Keep.step (raise_keep _ _ _ _ _) rfl ?_
        exact Keep.refl _ _
      · exact hz7

theorem execPauseWindowStart_keep (a0) (a1) : ∃ t, execPauseWindowStart a0 a1 = .next t ∧ Keep 2114066 a1 t := by
  unfold execPauseWindowStart
  refine ⟨_, rfl, ?_⟩
  refine Keep.step (pauseBegin_keep _ _) rfl ?_
  exact Keep.refl _ _

theorem pauseRepair_keep (a0) (a1) (a2) (a3) : Keep 6308352 a3 (pauseRepair a0 a1 a2 a3) := by
  unfold pauseRepair
  extract_lets -merge -underBinder +onlyGivenNames z1 z2
  split
  · exact Keep.refl _ _
  · extract_lets -merge -underBinder +onlyGivenNames z5 z6
    have hz5 : Keep 6308352 a3 z5 := by
      unfold z5
      refine Keep.step (modMod_keep _ _ _ _) rfl ?_
      exact Keep.refl _ _
    clear_value z5
    have hz6 : Keep 6308352 a3 z6 := by
      unfold z6
      refine Keep.step (modCount_keep _ _ _) rfl ?_
      exact hz5
    clear_value z6
    refine Keep.step (raise_keep _ _ _ _ _) rfl ?_
    refine Keep.step (sideband_keep _ _ _ _) rfl ?_
    refine Keep.step (sideband_keep _ _ _ _) rfl ?_
    exact hz6

theorem pauseRepairs_keep (a0) (a1) : Keep 6308352 a1 (pauseRepairs a0 a1) := by
  unfold pauseRepairs
  refine Keep.foldl ?_ _ ?_
  · intro y1 x2
    refine Keep.ite ?_ ?_
    · refine Keep.foldl ?_ _ ?_
      · intro y3 x4
        refine Keep.step (pauseRepair_keep _ _ _ _) rfl ?_
        exact Keep.refl _ _
      · exact Keep.refl _ _
    · exact Keep.refl _ _
  · exact Keep.refl _ _

theorem linksFresh_keep (a0) (a1) : Keep 6308352 a1 (linksFresh a0 a1) := by
  unfold linksFresh
  extract_lets -merge -underBinder +onlyGivenNames z1
  have hz1 : Keep 6308352 a1 z1 := by
    unfold z1
    refine Keep.step (modSite_keep _ _ _) rfl ?_
    refine Keep.step (pauseRepairs_keep _ _) rfl ?_
    exact Keep.refl _ _
  clear_value z1
  refine Keep.foldl ?_ _ ?_
  · intro y2 x3
    refine Keep.ite ?_ ?_
    · refine Keep.step (resendHeld_keep _ _ _) rfl ?_
      exact Keep.refl _ _
    · exact Keep.refl _ _
  · exact hz1

theorem memFallback_keep (a0) (a1) (a2) : Keep 2113554 a2 (memFallback a0 a1 a2) := by
  unfold memFallback
  extract_lets -merge -underBinder +onlyGivenNames z1
  refine Keep.ite ?_ ?_
  · exact Keep.refl _ _
  · extract_lets -merge -underBinder +onlyGivenNames z2
    have hz2 : Keep 2113554 a2 z2 := by
      unfold z2
      refine Keep.step (showPause_keep _ _ _) rfl ?_
      refine Keep.step (modTc_keep _ _) rfl ?_
      exact Keep.refl _ _
    clear_value z2
    refine Keep.ite ?_ ?_
    · refine Keep.step (raise_keep _ _ _ _ _) rfl ?_
      refine Keep.step (modMs_keep _ _ _) rfl ?_
      exact hz2
    · refine Keep.step (raise_keep _ _ _ _ _) rfl ?_
      exact hz2

theorem execMemRateFallbackDone_keep (a0) (a1) (a2) : ∃ t, execMemRateFallbackDone a0 a1 a2 = .next t ∧ Keep 2113554 a2 t := by
  unfold execMemRateFallbackDone
  refine ⟨_, rfl, ?_⟩
  refine Keep.step (memFallback_keep _ _ _) rfl ?_
  exact Keep.refl _ _

theorem stackLane_keep (a0) (a1) (a2) : Keep 2113552 a2 (stackLane a0 a1 a2) := by
  unfold stackLane
  refine Keep.ite ?_ ?_
  · exact Keep.refl _ _
  · split
    · refine Keep.ite ?_ ?_
      · refine Keep.step (raise_keep _ _ _ _ _) rfl ?_
        refine Keep.step (modMs_keep _ _ _) rfl ?_
        exact Keep.refl _ _
      · refine Keep.step (modMs_keep _ _ _) rfl ?_
        exact Keep.refl _ _
    · refine Keep.step (raise_keep _ _ _ _ _) rfl ?_
      exact Keep.refl _ _
    · refine Keep.step (raise_keep _ _ _ _ _) rfl ?_
      exact Keep.refl _ _

theorem execStackLaneFail_keep (a0) (a1) (a2) : ∃ t, execStackLaneFail a0 a1 a2 = .next t ∧ Keep 2113552 a2 t := by
  unfold execStackLaneFail
  refine ⟨_, rfl, ?_⟩
  refine Keep.step (stackLane_keep _ _ _) rfl ?_
  exact Keep.refl _ _

theorem countTick_keep (a0) : Keep 2 a0 (countTick a0) := by
  unfold countTick
  refine Keep.ite ?_ ?_
  · refine Keep.step (modTc_keep _ _) rfl ?_
    exact Keep.refl _ _
  · exact Keep.refl _ _

theorem clapOutEnd_keep (a0) : Keep 2097154 a0 (clapOutEnd a0) := by
  unfold clapOutEnd
  split
  · exact Keep.refl _ _
  · refine Keep.ite ?_ ?_
    · exact Keep.refl _ _
    · refine Keep.step (modPins_keep _ _) rfl ?_
      refine Keep.step (modTc_keep _ _) rfl ?_
      exact Keep.refl _ _

theorem xspiEnd_keep (a0) : Keep 2228224 a0 (xspiEnd a0) := by
  unfold xspiEnd
  refine Keep.step (modPins_keep _ _) rfl ?_
  refine Keep.step (modBoot_keep _ _ (fun _ => Nat.le_refl _)) rfl ?_
  exact Keep.refl _ _

theorem xspiTick_keep (a0) : Keep 2228224 a0 (xspiTick a0) := by
  unfold xspiTick
  split
  · exact Keep.refl _ _
  · refine Keep.ite ?_ ?_
    · exact Keep.refl _ _
    · refine Keep.step (xspiEnd_keep _) rfl ?_
      exact Keep.refl _ _

theorem tick_keep (a0) : Keep 6432363 a0 (tick a0) := by
  unfold tick
  extract_lets -merge -underBinder +onlyGivenNames z1
  have hz1 : Keep 6432363 a0 z1 := by
    unfold z1
    refine Keep.step (xspiTick_keep _) rfl ?_
    refine Keep.step (clapOutEnd_keep _) rfl ?_
    refine Keep.step (countTick_keep _) rfl ?_
    exact Keep.lit (Keep.refl 6432363 a0) rfl rfl (fun w => w) List.prefix_rfl (Nat.le_refl _) (.inr (fun w => w)) (.inl rfl) (.inr rfl) (.inr rfl) (.inr rfl) (.inr rfl) (.inr rfl) (.inr rfl) (.inr rfl) (.inr rfl) (.inr rfl) (.inr rfl) (.inr rfl) (.inr rfl) (.inr rfl) (.inr rfl) (.inr rfl) (.inr rfl) (.inr rfl) (.inr rfl) (.inr rfl) (.inr rfl) (.inr rfl) (.inr rfl)
  clear_value z1
  refine Keep.ite ?_ ?_
  · exact hz1
  · refine Keep.step (mstTick_keep _) rfl ?_
    refine Keep.step (gripTick_keep _) rfl ?_
    refine Keep.step (podStall_keep _) rfl ?_
    refine Keep.step (dmaTick_keep _) rfl ?_
    refine Keep.step (stallTick_keep _) rfl ?_
    refine Keep.step (sbTicks_keep _) rfl ?_
    exact hz1

theorem execTimecodeTick_keep (a0) (a1) : ∃ t, execTimecodeTick a0 a1 = .next t ∧ Keep 6448763 a1 t := by
  unfold execTimecodeTick
  refine ⟨_, rfl, ?_⟩
  refine Keep.step (tick_keep _) rfl ?_
  refine Keep.step (crewTurn_keep _ _) rfl ?_
  exact Keep.refl _ _

theorem correction_keep (a0) (a1) : Keep 2 a1 (correction a0 a1) := by
  unfold correction
  extract_lets -merge -underBinder +onlyGivenNames z1 z2
  refine Keep.ite ?_ ?_
  · exact Keep.refl _ _
  · refine Keep.step (modTc_keep _ _) rfl ?_
    exact Keep.refl _ _

theorem execTimeCorrectionStep_keep (a0) (a1) : ∃ t, execTimeCorrectionStep a0 a1 = .next t ∧ Keep 2 a1 t := by
  unfold execTimeCorrectionStep
  refine ⟨_, rfl, ?_⟩
  refine Keep.step (correction_keep _ _) rfl ?_
  exact Keep.refl _ _

theorem execRefclkLoss_keep (a0) : ∃ t, execRefclkLoss a0 = .next t ∧ Keep 2113538 a0 t := by
  unfold execRefclkLoss
  refine ⟨_, rfl, ?_⟩
  refine Keep.ite ?_ ?_
  · exact Keep.refl _ _
  · refine Keep.ite ?_ ?_
    · refine Keep.step (modTc_keep _ _) rfl ?_
      exact Keep.refl _ _
    · refine Keep.step (raise_keep _ _ _ _ _) rfl ?_
      exact Keep.refl _ _

theorem execRefclkHoldoverExpiry_keep (a0) : ∃ t, execRefclkHoldoverExpiry a0 = .next t ∧ Keep 2113538 a0 t := by
  unfold execRefclkHoldoverExpiry
  refine ⟨_, rfl, ?_⟩
  split
  · exact Keep.refl _ _
  · refine Keep.ite ?_ ?_
    · exact Keep.refl _ _
    · refine Keep.step (raise_keep _ _ _ _ _) rfl ?_
      refine Keep.step (modTc_keep _ _) rfl ?_
      exact Keep.refl _ _

theorem execStitchRemeasure_keep (a0) (a1) : ∃ t, execStitchRemeasure a0 a1 = .next t ∧ Keep 2113538 a1 t := by
  unfold execStitchRemeasure
  refine ⟨_, rfl, ?_⟩
  refine Keep.ite ?_ ?_
  · exact Keep.refl _ _
  · extract_lets -merge -underBinder +onlyGivenNames z1 z2
    have hz2 : Keep 2113538 a1 z2 := by
      unfold z2
      refine Keep.step (modTc_keep _ _) rfl ?_
      exact Keep.refl _ _
    clear_value z2
    refine Keep.ite ?_ ?_
    · refine Keep.step (raise_keep _ _ _ _ _) rfl ?_
      exact hz2
    · exact hz2

theorem sourcePulse_keep (a0) (a1) : Keep 6291458 a1 (sourcePulse a0 a1) := by
  unfold sourcePulse
  refine Keep.ite ?_ ?_
  · refine Keep.step (emit_keep _ _) rfl ?_
    refine Keep.step (modPins_keep _ _) rfl ?_
    refine Keep.step (modTc_keep _ _) rfl ?_
    exact Keep.refl _ _
  · exact Keep.refl _ _

theorem prefetch_keep (a0) : Keep 2121748 a0 (prefetch a0) := by
  unfold prefetch
  refine Keep.step (fetchFrame_keep _ _ _ _ _) rfl ?_
  exact Keep.refl _ _

theorem beginPass_keep (a0) (a1) : Keep 6316566 a1 (beginPass a0 a1) := by
  unfold beginPass
  extract_lets -merge -underBinder +onlyGivenNames z1 z2
  have hz2 : Keep 6316566 a1 z2 := by
    unfold z2
    refine Keep.step (modTc_keep _ _) rfl ?_
    exact Keep.refl _ _
  clear_value z2
  refine Keep.step (syncStreams_keep _) rfl ?_
  refine Keep.step (prefetch_keep _) rfl ?_
  refine Keep.step (sourcePulse_keep _ _) rfl ?_
  refine Keep.step (modSlu_keep _ _) rfl ?_
  exact hz2

theorem endReel_keep (a0) : Keep 6 a0 (endReel a0) := by
  unfold endReel
  refine Keep.step (modSlu_keep _ _) rfl ?_
  refine Keep.step (modTc_keep _ _) rfl ?_
  exact Keep.refl _ _

theorem splice_keep (a0) : Keep 6383262 a0 (splice a0) := by
  unfold splice
  extract_lets -merge -underBinder +onlyGivenNames z1 z2
  refine Keep.ite ?_ ?_
  · exact Keep.refl _ _
  · extract_lets -merge -underBinder +onlyGivenNames z3
    have hz3 : Keep 6383262 a0 z3 := by
      unfold z3
      refine Keep.step (modTc_keep _ _) rfl ?_
      exact Keep.refl _ _
    clear_value z3
    refine Keep.ite ?_ ?_
    · refine Keep.step (routeSwap_keep _) rfl ?_
      refine Keep.step (undarken_keep _) rfl ?_
      refine Keep.step (endReel_keep _) rfl ?_
      refine Keep.step (sourcePulse_keep _ _) rfl ?_
      exact hz3
    · extract_lets -merge -underBinder +onlyGivenNames z4
      have hz4 : Keep 6383262 a0 z4 := by
        unfold z4
        refine Keep.ite ?_ ?_
        · refine Keep.ite ?_ ?_
          · refine Keep.step (modTc_keep _ _) rfl ?_
            exact hz3
          · refine Keep.step (exchange_keep _) rfl ?_
            exact hz3
        · exact hz3
      clear_value z4
      refine Keep.step (routeSwap_keep _) rfl ?_
      refine Keep.step (beginPass_keep _ _) rfl ?_
      refine Keep.step (undarken_keep _) rfl ?_
      exact hz4

theorem execSplice_keep (a0) : ∃ t, execSplice a0 = .next t ∧ Keep 6383262 a0 t := by
  unfold execSplice
  refine ⟨_, rfl, ?_⟩
  refine Keep.step (splice_keep _) rfl ?_
  exact Keep.refl _ _

theorem clapStart_keep (a0) : Keep 16386 a0 (clapStart a0) := by
  unfold clapStart
  refine Keep.step (standEnd_keep _ _ _ _) rfl ?_
  refine Keep.step (modTc_keep _ _) rfl ?_
  exact Keep.refl _ _

theorem startReel_keep (a0) : Keep 6316566 a0 (startReel a0) := by
  unfold startReel
  refine Keep.ite ?_ ?_
  · refine Keep.step (clapStart_keep _) rfl ?_
    refine Keep.step (modTc_keep _ _) rfl ?_
    exact Keep.refl _ _
  · extract_lets -merge -underBinder +onlyGivenNames z1
    have hz1 : Keep 6316566 a0 z1 := by
      unfold z1
      refine Keep.step (modTc_keep _ _) rfl ?_
      exact Keep.refl _ _
    clear_value z1
    refine Keep.step (beginPass_keep _ _) rfl ?_
    refine Keep.step (undarken_keep _) rfl ?_
    exact hz1

theorem pointersFirst_keep (a0) : Keep 4 a0 (pointersFirst a0) := by
  unfold pointersFirst
  refine Keep.step (modSlu_keep _ _) rfl ?_
  exact Keep.refl _ _

theorem reelStart_keep (a0) : Keep 6382230 a0 (reelStart a0) := by
  unfold reelStart
  extract_lets -merge -underBinder +onlyGivenNames z1
  refine Keep.ite ?_ ?_
  · refine Keep.step (modTc_keep _ _) rfl ?_
    exact Keep.refl _ _
  · refine Keep.ite ?_ ?_
    · refine Keep.ite ?_ ?_
      · refine Keep.step (modTc_keep _ _) rfl ?_
        exact Keep.refl _ _
      · refine Keep.step (startReel_keep _) rfl ?_
        refine Keep.step (pointersFirst_keep _) rfl ?_
        refine Keep.step (exchange_keep _) rfl ?_
        exact Keep.refl _ _
    · refine Keep.ite ?_ ?_
      · refine Keep.ite ?_ ?_
        · refine Keep.step (modTc_keep _ _) rfl ?_
          exact Keep.refl _ _
        · refine Keep.step (startReel_keep _) rfl ?_
          refine Keep.step (pointersFirst_keep _) rfl ?_
          exact Keep.refl _ _
      · refine Keep.step (modTc_keep _ _) rfl ?_
        exact Keep.refl _ _

theorem execReelStart_keep (a0) (a1) : ∃ t, execReelStart a0 a1 = .next t ∧ Keep 6382230 a1 t := by
  unfold execReelStart
  refine ⟨_, rfl, ?_⟩
  refine Keep.ite ?_ ?_
  · refine Keep.step (reelStart_keep _) rfl ?_
    exact Keep.refl _ _
  · exact Keep.refl _ _

theorem reelStop_keep (a0) : Keep 2 a0 (reelStop a0) := by
  unfold reelStop
  split
  · refine Keep.step (modTc_keep _ _) rfl ?_
    exact Keep.refl _ _
  · refine Keep.step (modTc_keep _ _) rfl ?_
    exact Keep.refl _ _
  · exact Keep.refl _ _

theorem execReelStop_keep (a0) (a1) : ∃ t, execReelStop a0 a1 = .next t ∧ Keep 2 a1 t := by
  unfold execReelStop
  refine ⟨_, rfl, ?_⟩
  refine Keep.ite ?_ ?_
  · refine Keep.step (reelStop_keep _) rfl ?_
    exact Keep.refl _ _
  · exact Keep.refl _ _

theorem clapViolation_keep (a0) : Keep 2113538 a0 (clapViolation a0) := by
  unfold clapViolation
  refine Keep.step (raise_keep _ _ _ _ _) rfl ?_
  refine Keep.step (modTc_keep _ _) rfl ?_
  exact Keep.refl _ _

theorem showOffset_keep (a0) (a1) : Keep 2 a1 (showOffset a0 a1) := by
  unfold showOffset
  refine Keep.step (modTc_keep _ _) rfl ?_
  exact Keep.refl _ _

theorem inWindow_keep (a0) (a1) (a2) : Keep 16386 a2 (inWindow a0 a1 a2) := by
  unfold inWindow
  extract_lets -merge -underBinder +onlyGivenNames z1 z2 z3 z4
  have hz4 : Keep 16386 a2 z4 := by
    unfold z4
    refine Keep.step (modTc_keep _ _) rfl ?_
    refine Keep.step (showOffset_keep _ _) rfl ?_
    exact Keep.refl _ _
  clear_value z4
  refine Keep.ite ?_ ?_
  · refine Keep.step (standEnd_keep _ _ _ _) rfl ?_
    exact hz4
  · exact hz4

theorem firstPulse_keep (a0) : Keep 2 a0 (firstPulse a0) := by
  unfold firstPulse
  refine Keep.step (modTc_keep _ _) rfl ?_
  exact Keep.refl _ _

theorem windowPulse_keep (a0) : Keep 2113538 a0 (windowPulse a0) := by
  unfold windowPulse
  split
  · refine Keep.ite ?_ ?_
    · refine Keep.step (showOffset_keep _ _) rfl ?_
      refine Keep.step (clapViolation_keep _) rfl ?_
      exact Keep.refl _ _
    · exact Keep.refl _ _
  · refine Keep.ite ?_ ?_
    · refine Keep.step (showOffset_keep _ _) rfl ?_
      refine Keep.step (clapViolation_keep _) rfl ?_
      exact Keep.refl _ _
    · refine Keep.step (inWindow_keep _ _ _) rfl ?_
      exact Keep.refl _ _

theorem clapPulse_keep (a0) : Keep 6307842 a0 (clapPulse a0) := by
  unfold clapPulse
  refine Keep.ite ?_ ?_
  · exact Keep.refl _ _
  · refine Keep.step (emit_keep _ _) rfl ?_
    refine Keep.ite ?_ ?_
    · refine Keep.step (firstPulse_keep _) rfl ?_
      exact Keep.refl _ _
    · refine Keep.ite ?_ ?_
      · refine Keep.step (windowPulse_keep _) rfl ?_
        exact Keep.refl _ _
      · exact Keep.refl _ _

theorem execClapperPulse_keep (a0) : ∃ t, execClapperPulse a0 = .next t ∧ Keep 6307842 a0 t := by
  unfold execClapperPulse
  refine ⟨_, rfl, ?_⟩
  refine Keep.step (clapPulse_keep _) rfl ?_
  exact Keep.refl _ _

theorem windowClose_keep (a0) : Keep 2113538 a0 (windowClose a0) := by
  unfold windowClose
  extract_lets -merge -underBinder +onlyGivenNames z1 z2
  refine Keep.ite ?_ ?_
  · exact Keep.refl _ _
  · extract_lets -merge -underBinder +onlyGivenNames z3 z4
    have hz4 : Keep 2113538 a0 z4 := by
      unfold z4
      refine Keep.step (modTc_keep _ _) rfl ?_
      exact Keep.refl _ _
    clear_value z4
    refine Keep.ite ?_ ?_
    · exact hz4
    · extract_lets -merge -underBinder +onlyGivenNames z5
      have hz5 : Keep 2113538 a0 z5 := by
        unfold z5
        refine Keep.step (modTc_keep _ _) rfl ?_
        exact hz4
      clear_value z5
      refine Keep.ite ?_ ?_
      · refine Keep.step (standBegin_keep _ _ _ _ _) rfl ?_
        refine Keep.step (modTc_keep _ _) rfl ?_
        exact hz5
      · exact hz5

theorem execClapperWindowClose_keep (a0) : ∃ t, execClapperWindowClose a0 = .next t ∧ Keep 2113538 a0 t := by
  unfold execClapperWindowClose
  refine ⟨_, rfl, ?_⟩
  refine Keep.step (windowClose_keep _) rfl ?_
  exact Keep.refl _ _

theorem followStart_keep (a0) : Keep 6316566 a0 (followStart a0) := by
  unfold followStart
  split
  · exact Keep.refl _ _
  · refine Keep.ite ?_ ?_
    · exact Keep.refl _ _
    · refine Keep.step (beginPass_keep _ _) rfl ?_
      refine Keep.step (undarken_keep _) rfl ?_
      refine Keep.step (modTc_keep _ _) rfl ?_
      exact Keep.refl _ _

theorem execFollowFirstPass_keep (a0) : ∃ t, execFollowFirstPass a0 = .next t ∧ Keep 6316566 a0 t := by
  unfold execFollowFirstPass
  refine ⟨_, rfl, ?_⟩
  refine Keep.step (followStart_keep _) rfl ?_
  exact Keep.refl _ _

theorem startTimeout_keep (a0) : Keep 6316566 a0 (startTimeout a0) := by
  unfold startTimeout
  split
  · exact Keep.refl _ _
  · refine Keep.ite ?_ ?_
    · exact Keep.refl _ _
    · extract_lets -merge -underBinder +onlyGivenNames z3
      have hz3 : Keep 6316566 a0 z3 := by
        unfold z3
        refine Keep.step (modTc_keep _ _) rfl ?_
        exact Keep.refl _ _
      clear_value z3
      refine Keep.step (standBegin_keep _ _ _ _ _) rfl ?_
      refine Keep.step (beginPass_keep _ _) rfl ?_
      refine Keep.step (undarken_keep _) rfl ?_
      exact hz3

theorem execClapperStartTimeout_keep (a0) : ∃ t, execClapperStartTimeout a0 = .next t ∧ Keep 6316566 a0 t := by
  unfold execClapperStartTimeout
  refine ⟨_, rfl, ?_⟩
  refine Keep.step (startTimeout_keep _) rfl ?_
  exact Keep.refl _ _

theorem slackShort_keep (a0) (a1) : Keep 2113536 a1 (slackShort a0 a1) := by
  unfold slackShort
  split
  · exact Keep.refl _ _
  · refine Keep.ite ?_ ?_
    · exact Keep.refl _ _
    · refine Keep.step (standBegin_keep _ _ _ _ _) rfl ?_
      exact Keep.refl _ _

theorem execSlackShortTimeout_keep (a0) (a1) : ∃ t, execSlackShortTimeout a0 a1 = .next t ∧ Keep 2113536 a1 t := by
  unfold execSlackShortTimeout
  refine ⟨_, rfl, ?_⟩
  refine Keep.step (slackShort_keep _ _) rfl ?_
  exact Keep.refl _ _

theorem execPeakClearSelected_keep (a0) (a1) : ∃ t, execPeakClearSelected a0 a1 = .next t ∧ Keep 8 a1 t := by
  unfold execPeakClearSelected
  refine ⟨_, rfl, ?_⟩
  refine Keep.ite ?_ ?_
  · refine Keep.step (clearPeak_keep _ _) rfl ?_
    exact Keep.refl _ _
  · exact Keep.refl _ _

theorem execPeakClearAll_keep (a0) (a1) : ∃ t, execPeakClearAll a0 a1 = .next t ∧ Keep 1032 a1 t := by
  unfold execPeakClearAll
  refine ⟨_, rfl, ?_⟩
  refine Keep.ite ?_ ?_
  · refine Keep.step (clearPodPeaks_keep _) rfl ?_
    refine Keep.step (clearPeaks_keep _) rfl ?_
    exact Keep.refl _ _
  · exact Keep.refl _ _

theorem laneRate_keep (a0) (a1) (a2) : Keep 2113792 a2 (laneRate a0 a1 a2) := by
  unfold laneRate
  refine Keep.ite ?_ ?_
  · exact Keep.refl _ _
  · extract_lets -merge -underBinder +onlyGivenNames z1 z2
    have hz1 : Keep 2113792 a2 z1 := by
      unfold z1
      refine Keep.step (modMst_keep _ _) rfl ?_
      exact Keep.refl _ _
    clear_value z1
    refine Keep.ite ?_ ?_
    · refine Keep.ite ?_ ?_
      · refine Keep.step (standBegin_keep _ _ _ _ _) rfl ?_
        exact hz1
      · exact hz1
    · refine Keep.step (standEnd_keep _ _ _ _) rfl ?_
      exact hz1

theorem execLaneRateMeasure_keep (a0) (a1) (a2) : ∃ t, execLaneRateMeasure a0 a1 a2 = .next t ∧ Keep 2113792 a2 t := by
  unfold execLaneRateMeasure
  refine ⟨_, rfl, ?_⟩
  refine Keep.step (laneRate_keep _ _ _) rfl ?_
  exact Keep.refl _ _

theorem swapArm_keep (a0) : Keep 4195846 a0 (swapArm a0) := by
  unfold swapArm
  refine Keep.ite ?_ ?_
  · exact Keep.refl _ _
  · refine Keep.ite ?_ ?_
    · refine Keep.step (modTc_keep _ _) rfl ?_
      refine Keep.step (modSlu_keep _ _) rfl ?_
      exact Keep.refl _ _
    · refine Keep.ite ?_ ?_
      · refine Keep.step (modTc_keep _ _) rfl ?_
        refine Keep.step (modSlu_keep _ _) rfl ?_
        exact Keep.refl _ _
      · extract_lets -merge -underBinder +onlyGivenNames z1 z2 z3
        have hz3 : Keep 4195846 a0 z3 := by
          unfold z3
          refine Keep.step (modTc_keep _ _) rfl ?_
          exact Keep.refl _ _
        clear_value z3
        refine Keep.ite ?_ ?_
        · refine Keep.step (stopFlows_keep _) rfl ?_
          refine Keep.foldl ?_ _ ?_
          · intro y4 x5
            refine Keep.step (revokeStreams_keep _ _) rfl ?_
            exact Keep.refl _ _
          · refine Keep.step (modSlu_keep _ _) rfl ?_
            exact hz3
        · refine Keep.step (modSlu_keep _ _) rfl ?_
          exact hz3

theorem execSwapArm_keep (a0) (a1) : ∃ t, execSwapArm a0 a1 = .next t ∧ Keep 4195846 a1 t := by
  unfold execSwapArm
  refine ⟨_, rfl, ?_⟩
  refine Keep.ite ?_ ?_
  · refine Keep.step (swapArm_keep _) rfl ?_
    exact Keep.refl _ _
  · exact Keep.refl _ _

end Sys2Proof.Machine
end

