-- ==== Sys2Proof/Laws/KeepPower.lean ====
section
/-! SUPPORT. What each function of the sites, the gaffer, the thermal stops and boot may change (Laws/Keep). -/

namespace Sys2Proof.Machine

open Sys2Proof

theorem siteFence_keep (a0) (a1) (a2) (a3) (a4) (a5) : Keep 2114048 a5 (siteFence a0 a1 a2 a3 a4 a5) := by
  unfold siteFence
  refine Keep.step (raise_keep _ _ _ _ _) rfl ?_
  refine Keep.step (siteCause_keep _ _ _ _ _) rfl ?_
  exact Keep.refl _ _

theorem siteCheck_keep (a0) (a1) : Keep 2114048 a1 (siteCheck a0 a1) := by
  unfold siteCheck
  extract_lets -merge -underBinder +onlyGivenNames z1
  refine Keep.ite ?_ ?_
  · exact Keep.refl _ _
  · refine Keep.ite ?_ ?_
    · refine Keep.step (raise_keep _ _ _ _ _) rfl ?_
      refine Keep.step (siteCause_keep _ _ _ _ _) rfl ?_
      exact Keep.refl _ _
    · refine Keep.ite ?_ ?_
      · refine Keep.step (raise_keep _ _ _ _ _) rfl ?_
        refine Keep.step (siteCause_keep _ _ _ _ _) rfl ?_
        exact Keep.refl _ _
      · exact Keep.refl _ _

theorem sitePowerUp_keep (a0) (a1) : Keep 6291968 a1 (sitePowerUp a0 a1) := by
  unfold sitePowerUp
  extract_lets -merge -underBinder +onlyGivenNames z1 z2
  refine Keep.ite ?_ ?_
  · exact Keep.refl _ _
  · extract_lets -merge -underBinder +onlyGivenNames z3 z4
    have hz4 : Keep 6291968 a1 z4 := by
      unfold z4
      refine Keep.step (modSite_keep _ _ _) rfl ?_
      exact Keep.refl _ _
    clear_value z4
    refine Keep.step (emit_keep _ _) rfl ?_
    refine Keep.step (modPins_keep _ _) rfl ?_
    exact hz4

theorem execSitePowerUp_keep (a0) (a1) : ∃ t, execSitePowerUp a0 a1 = .next t ∧ Keep 6291968 a1 t := by
  unfold execSitePowerUp
  refine ⟨_, rfl, ?_⟩
  refine Keep.step (sitePowerUp_keep _ _) rfl ?_
  exact Keep.refl _ _

theorem execVsiteReq_keep (a0) (a1) (a2) : ∃ t, execVsiteReq a0 a1 a2 = .next t ∧ Keep 512 a2 t := by
  unfold execVsiteReq
  refine ⟨_, rfl, ?_⟩
  refine Keep.ite ?_ ?_
  · exact Keep.refl _ _
  · refine Keep.step (modSite_keep _ _ _) rfl ?_
    exact Keep.refl _ _

theorem vsiteStep_keep (a0) (a1) : Keep 512 a1 (vsiteStep a0 a1) := by
  unfold vsiteStep
  extract_lets -merge -underBinder +onlyGivenNames z1 z2 z3
  refine Keep.ite ?_ ?_
  · exact Keep.refl _ _
  · refine Keep.step (modSite_keep _ _ _) rfl ?_
    exact Keep.refl _ _

theorem execVsiteStep_keep (a0) (a1) : ∃ t, execVsiteStep a0 a1 = .next t ∧ Keep 512 a1 t := by
  unfold execVsiteStep
  refine ⟨_, rfl, ?_⟩
  refine Keep.step (vsiteStep_keep _ _) rfl ?_
  exact Keep.refl _ _

theorem execSiteOvervolt_keep (a0) (a1) : ∃ t, execSiteOvervolt a0 a1 = .next t ∧ Keep 2114048 a1 t := by
  unfold execSiteOvervolt
  refine ⟨_, rfl, ?_⟩
  refine Keep.ite ?_ ?_
  · exact Keep.refl _ _
  · refine Keep.step (siteFence_keep _ _ _ _ _ _) rfl ?_
    refine Keep.step (modSite_keep _ _ _) rfl ?_
    exact Keep.refl _ _

theorem execSiteUndervolt_keep (a0) (a1) : ∃ t, execSiteUndervolt a0 a1 = .next t ∧ Keep 2114048 a1 t := by
  unfold execSiteUndervolt
  refine ⟨_, rfl, ?_⟩
  refine Keep.ite ?_ ?_
  · exact Keep.refl _ _
  · refine Keep.step (raise_keep _ _ _ _ _) rfl ?_
    refine Keep.step (modSite_keep _ _ _) rfl ?_
    exact Keep.refl _ _

theorem execSiteOvercurrent_keep (a0) (a1) : ∃ t, execSiteOvercurrent a0 a1 = .next t ∧ Keep 2114048 a1 t := by
  unfold execSiteOvercurrent
  refine ⟨_, rfl, ?_⟩
  refine Keep.ite ?_ ?_
  · exact Keep.refl _ _
  · refine Keep.step (raise_keep _ _ _ _ _) rfl ?_
    refine Keep.step (modSite_keep _ _ _) rfl ?_
    exact Keep.refl _ _

theorem execTsiPowerBumpFail_keep (a0) (a1) (a2) : ∃ t, execTsiPowerBumpFail a0 a1 a2 = .next t ∧ Keep 2114048 a2 t := by
  unfold execTsiPowerBumpFail
  refine ⟨_, rfl, ?_⟩
  refine Keep.ite ?_ ?_
  · exact Keep.refl _ _
  · refine Keep.step (siteFence_keep _ _ _ _ _ _) rfl ?_
    refine Keep.step (modSite_keep _ _ _) rfl ?_
    exact Keep.refl _ _

theorem siteTraining_keep (a0) (a1) (a2) : Keep 3162624 a2 (siteTraining a0 a1 a2) := by
  unfold siteTraining
  extract_lets -merge -underBinder +onlyGivenNames z1
  refine Keep.ite ?_ ?_
  · exact Keep.refl _ _
  · refine Keep.ite ?_ ?_
    · refine Keep.step (siteFence_keep _ _ _ _ _ _) rfl ?_
      exact Keep.refl _ _
    · refine Keep.ite ?_ ?_
      · exact Keep.refl _ _
      · split
        · refine Keep.step (siteFence_keep _ _ _ _ _ _) rfl ?_
          exact Keep.refl _ _
        · extract_lets -merge -underBinder +onlyGivenNames z4 z5 z6 z7 z8
          refine Keep.ite ?_ ?_
          · refine Keep.step (siteFence_keep _ _ _ _ _ _) rfl ?_
            exact Keep.refl _ _
          · extract_lets -merge -underBinder +onlyGivenNames z9 z10
            refine Keep.step (capUpdate_keep _) rfl ?_
            refine Keep.step (syncStreams_keep _) rfl ?_
            refine Keep.step (modSite_keep _ _ _) rfl ?_
            exact Keep.refl _ _

theorem execSiteTraining_keep (a0) (a1) (a2) : ∃ t, execSiteTraining a0 a1 a2 = .next t ∧ Keep 3162624 a2 t := by
  unfold execSiteTraining
  refine ⟨_, rfl, ?_⟩
  refine Keep.step (siteTraining_keep _ _ _) rfl ?_
  exact Keep.refl _ _

theorem trimInterval_keep (a0) (a1) (a2) : Keep 512 a2 (trimInterval a0 a1 a2) := by
  unfold trimInterval
  extract_lets -merge -underBinder +onlyGivenNames z1 z2
  refine Keep.ite ?_ ?_
  · exact Keep.refl _ _
  · extract_lets -merge -underBinder +onlyGivenNames z3
    have hz3 : Keep 512 a2 z3 := by
      unfold z3
      refine Keep.step (modSite_keep _ _ _) rfl ?_
      exact Keep.refl _ _
    clear_value z3
    refine Keep.ite ?_ ?_
    · exact hz3
    · refine Keep.step (modSite_keep _ _ _) rfl ?_
      exact hz3

theorem execTrimInterval_keep (a0) (a1) (a2) : ∃ t, execTrimInterval a0 a1 a2 = .next t ∧ Keep 512 a2 t := by
  unfold execTrimInterval
  refine ⟨_, rfl, ?_⟩
  refine Keep.step (trimInterval_keep _ _ _) rfl ?_
  exact Keep.refl _ _

theorem laneTapWrite_keep (a0) (a1) (a2) (a3) (a4) (a5) : Keep 512 a5 (laneTapWrite a0 a1 a2 a3 a4 a5) := by
  unfold laneTapWrite
  refine Keep.ite ?_ ?_
  · exact Keep.refl _ _
  · refine Keep.step (modSite_keep _ _ _) rfl ?_
    exact Keep.refl _ _

theorem execTsiLaneTapWrite_keep (a0) (a1) (a2) (a3) (a4) (a5) (a6) : ∃ t, execTsiLaneTapWrite a0 a1 a2 a3 a4 a5 a6 = .next t ∧ Keep 98816 a6 t := by
  unfold execTsiLaneTapWrite
  refine ⟨_, rfl, ?_⟩
  refine Keep.iWrite (m := 98816) rfl ?_ ?_
  · intro y1
    refine Keep.step (laneTapWrite_keep _ _ _ _ _ _) rfl ?_
    exact Keep.refl _ _
  · exact Keep.refl _ _

theorem execTsiTrimFreeze_keep (a0) (a1) (a2) (a3) : ∃ t, execTsiTrimFreeze a0 a1 a2 a3 = .next t ∧ Keep 98816 a3 t := by
  unfold execTsiTrimFreeze
  refine ⟨_, rfl, ?_⟩
  refine Keep.ite ?_ ?_
  · refine Keep.iWrite (m := 98816) rfl ?_ ?_
    · intro y1
      refine Keep.step (modSite_keep _ _ _) rfl ?_
      exact Keep.refl _ _
    · exact Keep.refl _ _
  · exact Keep.refl _ _

theorem rerouteSlots_keep (a0) (a1) (a2) (a3) : Keep 512 a3 (rerouteSlots a0 a1 a2 a3) := by
  unfold rerouteSlots
  split
  · exact Keep.refl _ _
  · refine Keep.step (modLink_keep _ _ _ _) rfl ?_
    exact Keep.refl _ _

theorem moduleOff_keep (a0) (a1) (a2) : Keep 7356928 a2 (moduleOff a0 a1 a2) := by
  unfold moduleOff
  extract_lets -merge -underBinder +onlyGivenNames z1 z2 z3 z4 z5 z6 z7
  have hz4 : Keep 7356928 a2 z4 := by
    unfold z4
    refine Keep.step (modMod_keep _ _ _ _) rfl ?_
    exact Keep.refl _ _
  clear_value z4
  have hz5 : Keep 7356928 a2 z5 := by
    unfold z5
    refine Keep.step (modCount_keep _ _ _) rfl ?_
    exact hz4
  clear_value z5
  have hz6 : Keep 7356928 a2 z6 := by
    unfold z6
    refine Keep.step (sideband_keep _ _ _ _) rfl ?_
    exact hz5
  clear_value z6
  have hz7 : Keep 7356928 a2 z7 := by
    unfold z7
    refine Keep.ite ?_ ?_
    · exact hz6
    · refine Keep.ite ?_ ?_
      · refine Keep.step (rerouteSlots_keep _ _ _ _) rfl ?_
        refine Keep.step (modLink_keep _ _ _ _) rfl ?_
        exact hz6
      · refine Keep.step (modLink_keep _ _ _ _) rfl ?_
        exact hz6
  clear_value z7
  refine Keep.step (siteCheck_keep _ _) rfl ?_
  refine Keep.step (capUpdate_keep _) rfl ?_
  refine Keep.step (raise_keep _ _ _ _ _) rfl ?_
  exact hz7

theorem laneFail_keep (a0) (a1) (a2) (a3) : Keep 7356928 a3 (laneFail a0 a1 a2 a3) := by
  unfold laneFail
  extract_lets -merge -underBinder +onlyGivenNames z1 z2
  refine Keep.ite ?_ ?_
  · exact Keep.refl _ _
  · split
    · refine Keep.ite ?_ ?_
      · refine Keep.step (modMod_keep _ _ _ _) rfl ?_
        exact Keep.refl _ _
      · refine Keep.ite ?_ ?_
        · refine Keep.step (moduleOff_keep _ _ _) rfl ?_
          exact Keep.refl _ _
        · exact Keep.refl _ _
    · extract_lets -merge -underBinder +onlyGivenNames z5 z6 z7 z8 z9
      have hz5 : Keep 7356928 a3 z5 := by
        unfold z5
        refine Keep.ite ?_ ?_
        · refine Keep.step (modMod_keep _ _ _ _) rfl ?_
          exact Keep.refl _ _
        · exact Keep.refl _ _
      clear_value z5
      refine Keep.ite ?_ ?_
      · exact hz5
      · refine Keep.ite ?_ ?_
        · refine Keep.step (modMod_keep _ _ _ _) rfl ?_
          exact hz5
        · refine Keep.ite ?_ ?_
          · refine Keep.ite ?_ ?_
            · refine Keep.step (moduleOff_keep _ _ _) rfl ?_
              exact hz5
            · refine Keep.step (modMod_keep _ _ _ _) rfl ?_
              exact hz5
          · split
            · refine Keep.step (sideband_keep _ _ _ _) rfl ?_
              refine Keep.step (modMod_keep _ _ _ _) rfl ?_
              exact hz5
            · refine Keep.ite ?_ ?_
              · refine Keep.step (sideband_keep _ _ _ _) rfl ?_
                refine Keep.step (modMod_keep _ _ _ _) rfl ?_
                exact hz5
              · refine Keep.step (moduleOff_keep _ _ _) rfl ?_
                exact hz5

theorem execLaneFailing_keep (a0) (a1) (a2) (a3) (a4) : ∃ t, execLaneFailing a0 a1 a2 a3 a4 = .next t ∧ Keep 7356928 a4 t := by
  unfold execLaneFailing
  refine ⟨_, rfl, ?_⟩
  refine Keep.ite ?_ ?_
  · refine Keep.step (laneFail_keep _ _ _ _) rfl ?_
    exact Keep.refl _ _
  · exact Keep.refl _ _

theorem execLaneFail_keep (a0) (a1) (a2) (a3) : ∃ t, execLaneFail a0 a1 a2 a3 = .next t ∧ Keep 7356928 a3 t := by
  unfold execLaneFail
  refine ⟨_, rfl, ?_⟩
  refine Keep.ite ?_ ?_
  · refine Keep.step (laneFail_keep _ _ _ _) rfl ?_
    exact Keep.refl _ _
  · exact Keep.refl _ _

theorem laneQueue_keep (a0) (a1) (a2) : Keep 7356928 a2 (laneQueue a0 a1 a2) := by
  unfold laneQueue
  refine Keep.foldl ?_ _ ?_
  · intro y1 x2
    refine Keep.step (laneFail_keep _ _ _ _) rfl ?_
    refine Keep.step (modMod_keep _ _ _ _) rfl ?_
    exact Keep.refl _ _
  · exact Keep.refl _ _

theorem spareDone_keep (a0) (a1) (a2) : Keep 7356928 a2 (spareDone a0 a1 a2) := by
  unfold spareDone
  split
  · exact Keep.refl _ _
  · refine Keep.ite ?_ ?_
    · exact Keep.refl _ _
    · extract_lets -merge -underBinder +onlyGivenNames z4 z5
      have hz4 : Keep 7356928 a2 z4 := by
        unfold z4
        refine Keep.step (modMod_keep _ _ _ _) rfl ?_
        exact Keep.refl _ _
      clear_value z4
      have hz5 : Keep 7356928 a2 z5 := by
        unfold z5
        refine Keep.step (modCount_keep _ _ _) rfl ?_
        exact hz4
      clear_value z5
      refine Keep.step (laneQueue_keep _ _ _) rfl ?_
      refine Keep.step (raise_keep _ _ _ _ _) rfl ?_
      refine Keep.step (sideband_keep _ _ _ _) rfl ?_
      exact hz5

theorem execSpareCompareDone_keep (a0) (a1) (a2) : ∃ t, execSpareCompareDone a0 a1 a2 = .next t ∧ Keep 7356928 a2 t := by
  unfold execSpareCompareDone
  refine ⟨_, rfl, ?_⟩
  refine Keep.step (spareDone_keep _ _ _) rfl ?_
  exact Keep.refl _ _

theorem narrowDone_keep (a0) (a1) (a2) : Keep 7356928 a2 (narrowDone a0 a1 a2) := by
  unfold narrowDone
  split
  · exact Keep.refl _ _
  · refine Keep.ite ?_ ?_
    · exact Keep.refl _ _
    · extract_lets -merge -underBinder +onlyGivenNames z3 z4 z5
      have hz3 : Keep 7356928 a2 z3 := by
        unfold z3
        refine Keep.step (modMod_keep _ _ _ _) rfl ?_
        exact Keep.refl _ _
      clear_value z3
      have hz4 : Keep 7356928 a2 z4 := by
        unfold z4
        refine Keep.step (modCount_keep _ _ _) rfl ?_
        exact hz3
      clear_value z4
      have hz5 : Keep 7356928 a2 z5 := by
        unfold z5
        refine Keep.ite ?_ ?_
        · exact hz4
        · refine Keep.step (resendHeld_keep _ _ _) rfl ?_
          exact hz4
      clear_value z5
      refine Keep.step (laneQueue_keep _ _ _) rfl ?_
      refine Keep.step (capUpdate_keep _) rfl ?_
      refine Keep.step (raise_keep _ _ _ _ _) rfl ?_
      exact hz5

theorem execNarrowingComplete_keep (a0) (a1) (a2) : ∃ t, execNarrowingComplete a0 a1 a2 = .next t ∧ Keep 7356928 a2 t := by
  unfold execNarrowingComplete
  refine ⟨_, rfl, ?_⟩
  refine Keep.step (narrowDone_keep _ _ _) rfl ?_
  exact Keep.refl _ _

theorem fallbackEnd_keep (a0) (a1) (a2) : Keep 7356928 a2 (fallbackEnd a0 a1 a2) := by
  unfold fallbackEnd
  split
  · exact Keep.refl _ _
  · refine Keep.ite ?_ ?_
    · exact Keep.refl _ _
    · extract_lets -merge -underBinder +onlyGivenNames z3 z4 z5
      have hz3 : Keep 7356928 a2 z3 := by
        unfold z3
        refine Keep.step (modSite_keep _ _ _) rfl ?_
        exact Keep.refl _ _
      clear_value z3
      have hz5 : Keep 7356928 a2 z5 := by
        unfold z5
        refine Keep.foldl ?_ _ ?_
        · intro y6 x7
          refine Keep.step (moduleOff_keep _ _ _) rfl ?_
          exact Keep.refl _ _
        · exact hz3
      clear_value z5
      refine Keep.step (capUpdate_keep _) rfl ?_
      refine Keep.step (raise_keep _ _ _ _ _) rfl ?_
      exact hz5

theorem execSiteRateFallbackEnd_keep (a0) (a1) (a2) : ∃ t, execSiteRateFallbackEnd a0 a1 a2 = .next t ∧ Keep 7356928 a2 t := by
  unfold execSiteRateFallbackEnd
  refine ⟨_, rfl, ?_⟩
  refine Keep.step (fallbackEnd_keep _ _ _) rfl ?_
  exact Keep.refl _ _

theorem execTsiClockFail_keep (a0) (a1) (a2) : ∃ t, execTsiClockFail a0 a1 a2 = .next t ∧ Keep 2114048 a2 t := by
  unfold execTsiClockFail
  refine ⟨_, rfl, ?_⟩
  refine Keep.ite ?_ ?_
  · exact Keep.refl _ _
  · refine Keep.step (siteFence_keep _ _ _ _ _ _) rfl ?_
    exact Keep.refl _ _

theorem heard_keep (a0) (a1) : Keep 512 a1 (heard a0 a1) := by
  unfold heard
  refine Keep.ite ?_ ?_
  · exact Keep.refl _ _
  · refine Keep.step (modNeg_keep _ _ _) rfl ?_
    exact Keep.refl _ _

theorem helloAck_keep (a0) (a1) (a2) : Keep 4194816 a2 (helloAck a0 a1 a2) := by
  unfold helloAck
  refine Keep.ite ?_ ?_
  · exact Keep.refl _ _
  · extract_lets -merge -underBinder +onlyGivenNames z1 z2
    have hz1 : Keep 4194816 a2 z1 := by
      unfold z1
      refine Keep.step (heard_keep _ _) rfl ?_
      refine Keep.step (modNeg_keep _ _ _) rfl ?_
      exact Keep.refl _ _
    clear_value z1
    have hz2 : Keep 4194816 a2 z2 := by
      unfold z2
      refine Keep.foldl ?_ _ ?_
      · intro y3 x4
        refine Keep.step (sideband_keep _ _ _ _) rfl ?_
        exact Keep.refl _ _
      · exact hz1
    clear_value z2
    refine Keep.step (sideband_keep _ _ _ _) rfl ?_
    exact hz2

theorem execHelloAck_keep (a0) (a1) (a2) : ∃ t, execHelloAck a0 a1 a2 = .next t ∧ Keep 4194816 a2 t := by
  unfold execHelloAck
  refine ⟨_, rfl, ?_⟩
  refine Keep.step (helloAck_keep _ _ _) rfl ?_
  exact Keep.refl _ _

theorem capWordIn_keep (a0) (a1) (a2) (a3) : Keep 512 a3 (capWordIn a0 a1 a2 a3) := by
  unfold capWordIn
  refine Keep.ite ?_ ?_
  · exact Keep.refl _ _
  · refine Keep.step (heard_keep _ _) rfl ?_
    refine Keep.step (modNeg_keep _ _ _) rfl ?_
    exact Keep.refl _ _

theorem execCap_keep (a0) (a1) (a2) (a3) : ∃ t, execCap a0 a1 a2 a3 = .next t ∧ Keep 512 a3 t := by
  unfold execCap
  refine ⟨_, rfl, ?_⟩
  refine Keep.step (capWordIn_keep _ _ _ _) rfl ?_
  exact Keep.refl _ _

theorem capEnd_keep (a0) (a1) : Keep 6308352 a1 (capEnd a0 a1) := by
  unfold capEnd
  extract_lets -merge -underBinder +onlyGivenNames z1
  refine Keep.ite ?_ ?_
  · exact Keep.refl _ _
  · extract_lets -merge -underBinder +onlyGivenNames z2 z3 z4 z5 z6 z7 z8 z9 z10 z13
    have hz8 : Keep 6308352 a1 z8 := by
      unfold z8
      refine Keep.step (modNeg_keep _ _ _) rfl ?_
      exact Keep.refl _ _
    clear_value z8
    have hz10 : Keep 6308352 a1 z10 := by
      unfold z10
      refine Keep.foldl ?_ _ ?_
      · intro y11 x12
        refine Keep.step (sideband_keep _ _ _ _) rfl ?_
        exact Keep.refl _ _
      · exact hz8
    clear_value z10
    have hz13 : Keep 6308352 a1 z13 := by
      unfold z13
      refine Keep.step (sideband_keep _ _ _ _) rfl ?_
      exact hz10
    clear_value z13
    refine Keep.ite ?_ ?_
    · refine Keep.step (siteFence_keep _ _ _ _ _ _) rfl ?_
      exact hz13
    · exact hz13

theorem execCapEnd_keep (a0) (a1) : ∃ t, execCapEnd a0 a1 = .next t ∧ Keep 6308352 a1 t := by
  unfold execCapEnd
  refine ⟨_, rfl, ?_⟩
  refine Keep.step (capEnd_keep _ _) rfl ?_
  exact Keep.refl _ _

theorem resendSb_keep (a0) (a1) : Keep 4194816 a1 (resendSb a0 a1) := by
  unfold resendSb
  refine Keep.ite ?_ ?_
  · exact Keep.refl _ _
  · extract_lets -merge -underBinder +onlyGivenNames z1
    have hz1 : Keep 4194816 a1 z1 := by
      unfold z1
      refine Keep.step (modCount_keep _ _ _) rfl ?_
      exact Keep.refl _ _
    clear_value z1
    split
    · refine Keep.step (emit_keep _ _) rfl ?_
      refine Keep.step (modSite_keep _ _ _) rfl ?_
      exact hz1
    · exact hz1

theorem execResend_keep (a0) (a1) : ∃ t, execResend a0 a1 = .next t ∧ Keep 4194816 a1 t := by
  unfold execResend
  refine ⟨_, rfl, ?_⟩
  refine Keep.step (resendSb_keep _ _) rfl ?_
  exact Keep.refl _ _

theorem execSidebandWordError_keep (a0) (a1) : ∃ t, execSidebandWordError a0 a1 = .next t ∧ Keep 4194816 a1 t := by
  unfold execSidebandWordError
  refine ⟨_, rfl, ?_⟩
  refine Keep.ite ?_ ?_
  · exact Keep.refl _ _
  · refine Keep.step (sideband_keep _ _ _ _) rfl ?_
    refine Keep.step (modCount_keep _ _ _) rfl ?_
    exact Keep.refl _ _

theorem sidebandLost_keep (a0) (a1) : Keep 2114048 a1 (sidebandLost a0 a1) := by
  unfold sidebandLost
  split
  · exact Keep.refl _ _
  · refine Keep.ite ?_ ?_
    · exact Keep.refl _ _
    · refine Keep.step (siteFence_keep _ _ _ _ _ _) rfl ?_
      exact Keep.refl _ _

theorem execSidebandLost_keep (a0) (a1) : ∃ t, execSidebandLost a0 a1 = .next t ∧ Keep 2114048 a1 t := by
  unfold execSidebandLost
  refine ⟨_, rfl, ?_⟩
  refine Keep.step (sidebandLost_keep _ _) rfl ?_
  exact Keep.refl _ _

theorem execPauseReq_keep (a0) (a1) (a2) : ∃ t, execPauseReq a0 a1 a2 = .next t ∧ Keep 4194818 a2 t := by
  unfold execPauseReq
  refine ⟨_, rfl, ?_⟩
  refine Keep.ite ?_ ?_
  · exact Keep.refl _ _
  · refine Keep.step (dieRefused_keep _ _ _) rfl ?_
    refine Keep.step (pauseRequest_keep _ _ _) rfl ?_
    exact Keep.refl _ _

theorem moduleOffAck_keep (a0) (a1) (a2) (a3) : Keep 512 a3 (moduleOffAck a0 a1 a2 a3) := by
  unfold moduleOffAck
  extract_lets -merge -underBinder +onlyGivenNames z1 z2
  refine Keep.ite ?_ ?_
  · exact Keep.refl _ _
  · extract_lets -merge -underBinder +onlyGivenNames z3 z4 z5
    refine Keep.step (rerouteSlots_keep _ _ _ _) rfl ?_
    refine Keep.step (modLink_keep _ _ _ _) rfl ?_
    exact Keep.refl _ _

theorem execModuleOffAck_keep (a0) (a1) (a2) (a3) : ∃ t, execModuleOffAck a0 a1 a2 a3 = .next t ∧ Keep 512 a3 t := by
  unfold execModuleOffAck
  refine ⟨_, rfl, ?_⟩
  refine Keep.step (moduleOffAck_keep _ _ _ _) rfl ?_
  exact Keep.refl _ _

theorem modPow_keep (a0) (a1) (a2) : Keep 8192 a2 (modPow a0 a1 a2) := by
  unfold modPow
  refine Keep.step (modGaf_keep _ _) rfl ?_
  exact Keep.refl _ _

theorem sendLimit_keep (a0) (a1) (a2) : Keep 4203008 a2 (sendLimit a0 a1 a2) := by
  unfold sendLimit
  extract_lets -merge -underBinder +onlyGivenNames z1 z2
  refine Keep.step (sideband_keep _ _ _ _) rfl ?_
  refine Keep.step (modPow_keep _ _ _) rfl ?_
  exact Keep.refl _ _

theorem shortCheck_keep (a0) : Keep 2113536 a0 (shortCheck a0) := by
  unfold shortCheck
  refine Keep.ite ?_ ?_
  · refine Keep.step (standBegin_keep _ _ _ _ _) rfl ?_
    exact Keep.refl _ _
  · refine Keep.step (standEnd_keep _ _ _ _) rfl ?_
    exact Keep.refl _ _

theorem excessCheck_keep (a0) : Keep 8192 a0 (excessCheck a0) := by
  unfold excessCheck
  extract_lets -merge -underBinder +onlyGivenNames z1
  refine Keep.step (modGaf_keep _ _) rfl ?_
  exact Keep.refl _ _

theorem divideCore_keep (a0) : Keep 6316544 a0 (divideCore a0) := by
  unfold divideCore
  refine Keep.ite ?_ ?_
  · exact Keep.refl _ _
  · split
    · extract_lets -merge -underBinder +onlyGivenNames z3 z4 z5 z6 z7 z8 z11 z14 z17
      have hz7 : Keep 6316544 a0 z7 := by
        unfold z7
        refine Keep.step (modGaf_keep _ _) rfl ?_
        exact Keep.refl _ _
      clear_value z7
      have hz8 : Keep 6316544 a0 z8 := by
        unfold z8
        refine Keep.foldl ?_ _ ?_
        · intro y9 x10
          refine Keep.step (modPow_keep _ _ _) rfl ?_
          exact Keep.refl _ _
        · exact hz7
      clear_value z8
      have hz11 : Keep 6316544 a0 z11 := by
        unfold z11
        refine Keep.foldl ?_ _ ?_
        · intro y12 x13
          refine Keep.step (sendLimit_keep _ _ _) rfl ?_
          exact Keep.refl _ _
        · exact hz8
      clear_value z11
      have hz14 : Keep 6316544 a0 z14 := by
        unfold z14
        refine Keep.foldl ?_ _ ?_
        · intro y15 x16
          refine Keep.ite ?_ ?_
          · exact Keep.refl _ _
          · refine Keep.step (modPow_keep _ _ _) rfl ?_
            exact Keep.refl _ _
        · exact hz11
      clear_value z14
      have hz17 : Keep 6316544 a0 z17 := by
        unfold z17
        refine Keep.foldl ?_ _ ?_
        · intro y18 x19
          split
          · refine Keep.ite ?_ ?_
            · refine Keep.step (modPow_keep _ _ _) rfl ?_
              exact Keep.refl _ _
            · refine Keep.ite ?_ ?_
              · refine Keep.step (sendLimit_keep _ _ _) rfl ?_
                exact Keep.refl _ _
              · refine Keep.step (modPow_keep _ _ _) rfl ?_
                exact Keep.refl _ _
          · refine Keep.ite ?_ ?_
            · refine Keep.step (sendLimit_keep _ _ _) rfl ?_
              exact Keep.refl _ _
            · refine Keep.step (modPow_keep _ _ _) rfl ?_
              exact Keep.refl _ _
        · exact hz14
      clear_value z17
      refine Keep.step (excessCheck_keep _) rfl ?_
      refine Keep.step (shortCheck_keep _) rfl ?_
      exact hz17

theorem release_keep (a0) (a1) (a2) : Keep 4202496 a2 (release a0 a1 a2) := by
  unfold release
  refine Keep.ite ?_ ?_
  · extract_lets -merge -underBinder +onlyGivenNames z1 z2
    refine Keep.step (emit_keep _ _) rfl ?_
    refine Keep.step (modGaf_keep _ _) rfl ?_
    exact Keep.refl _ _
  · exact Keep.refl _ _

theorem applyPace_keep (a0) (a1) : Keep 6316544 a1 (applyPace a0 a1) := by
  unfold applyPace
  extract_lets -merge -underBinder +onlyGivenNames z1 z2 z3 z6
  have hz3 : Keep 6316544 a1 z3 := by
    unfold z3
    refine Keep.ite ?_ ?_
    · refine Keep.foldl ?_ _ ?_
      · intro y4 x5
        refine Keep.step (sideband_keep _ _ _ _) rfl ?_
        exact Keep.refl _ _
      · refine Keep.step (modGaf_keep _ _) rfl ?_
        exact Keep.refl _ _
    · exact Keep.refl _ _
  clear_value z3
  refine Keep.ite ?_ ?_
  · extract_lets -merge -underBinder +onlyGivenNames z7 z8
    have hz8 : Keep 6316544 a1 z8 := by
      unfold z8
      refine Keep.foldl ?_ _ ?_
      · intro y9 x10
        extract_lets -merge -underBinder +onlyGivenNames z11
        refine Keep.step (modPow_keep _ _ _) rfl ?_
        exact Keep.refl _ _
      · exact hz3
    clear_value z8
    refine Keep.ite ?_ ?_
    · exact hz3
    · extract_lets -merge -underBinder +onlyGivenNames z12
      refine Keep.ite ?_ ?_
      · refine Keep.step (divideCore_keep _) rfl ?_
        refine Keep.step (release_keep _ _ _) rfl ?_
        exact hz8
      · refine Keep.step (divideCore_keep _) rfl ?_
        refine Keep.step (modGaf_keep _ _) rfl ?_
        exact hz8
  · extract_lets -merge -underBinder +onlyGivenNames z13
    have hz13 : Keep 6316544 a1 z13 := by
      unfold z13
      refine Keep.foldl ?_ _ ?_
      · intro y14 x15
        refine Keep.step (modPow_keep _ _ _) rfl ?_
        exact Keep.refl _ _
      · exact hz3
    clear_value z13
    refine Keep.ite ?_ ?_
    · exact hz3
    · extract_lets -merge -underBinder +onlyGivenNames z16
      refine Keep.step (divideCore_keep _) rfl ?_
      refine Keep.step (modGaf_keep _ _) rfl ?_
      exact hz13

theorem receivePace_keep (a0) (a1) : Keep 6316544 a1 (receivePace a0 a1) := by
  unfold receivePace
  extract_lets -merge -underBinder +onlyGivenNames z1
  refine Keep.ite ?_ ?_
  · exact Keep.refl _ _
  · extract_lets -merge -underBinder +onlyGivenNames z2 z3
    refine Keep.ite ?_ ?_
    · exact Keep.refl _ _
    · extract_lets -merge -underBinder +onlyGivenNames z4
      refine Keep.foldl ?_ _ ?_
      · intro y5 x6
        refine Keep.step (applyPace_keep _ _) rfl ?_
        exact Keep.refl _ _
      · refine Keep.step (modGaf_keep _ _) rfl ?_
        exact Keep.refl _ _

theorem execPaceNotice_keep (a0) (a1) : ∃ t, execPaceNotice a0 a1 = .next t ∧ Keep 6316544 a1 t := by
  unfold execPaceNotice
  refine ⟨_, rfl, ?_⟩
  refine Keep.ite ?_ ?_
  · refine Keep.step (receivePace_keep _ _) rfl ?_
    exact Keep.refl _ _
  · exact Keep.refl _ _

theorem sendPace_keep (a0) (a1) (a2) (a3) : Keep 6316552 a3 (sendPace a0 a1 a2 a3) := by
  unfold sendPace
  extract_lets -merge -underBinder +onlyGivenNames z1 z2 z3 z4
  have hz3 : Keep 6316552 a3 z3 := by
    unfold z3
    refine Keep.step (modGaf_keep _ _) rfl ?_
    exact Keep.refl _ _
  clear_value z3
  have hz4 : Keep 6316552 a3 z4 := by
    unfold z4
    refine Keep.foldl ?_ _ ?_
    · intro y5 x6
      split
      · refine Keep.step (sendMsg_keep _ _ _ _ _) rfl ?_
        exact Keep.refl _ _
      · exact Keep.refl _ _
    · exact hz3
  clear_value z4
  refine Keep.step (receivePace_keep _ _) rfl ?_
  exact hz4

theorem paceCheck_keep (a0) (a1) : Keep 6316552 a1 (paceCheck a0 a1) := by
  unfold paceCheck
  extract_lets -merge -underBinder +onlyGivenNames z1
  refine Keep.ite ?_ ?_
  · exact Keep.refl _ _
  · split
    · refine Keep.ite ?_ ?_
      · refine Keep.ite ?_ ?_
        · refine Keep.step (sendPace_keep _ _ _ _) rfl ?_
          exact Keep.refl _ _
        · exact Keep.refl _ _
      · refine Keep.ite ?_ ?_
        · refine Keep.step (sendPace_keep _ _ _ _) rfl ?_
          exact Keep.refl _ _
        · exact Keep.refl _ _

theorem paceAll_keep (a0) : Keep 6316552 a0 (paceAll a0) := by
  unfold paceAll
  refine Keep.foldl ?_ _ ?_
  · intro y1 x2
    refine Keep.step (paceCheck_keep _ _) rfl ?_
    exact Keep.refl _ _
  · exact Keep.refl _ _

theorem divide_keep (a0) : Keep 6316552 a0 (divide a0) := by
  unfold divide
  refine Keep.step (paceAll_keep _) rfl ?_
  refine Keep.step (divideCore_keep _) rfl ?_
  exact Keep.refl _ _

theorem divideFence_keep (a0) : Keep 6316552 a0 (divideFence a0) := by
  unfold divideFence
  extract_lets -merge -underBinder +onlyGivenNames z1
  have hz1 : Keep 6316552 a0 z1 := by
    unfold z1
    refine Keep.step (divide_keep _) rfl ?_
    exact Keep.refl _ _
  clear_value z1
  refine Keep.ite ?_ ?_
  · refine Keep.step (release_keep _ _ _) rfl ?_
    exact hz1
  · exact hz1

theorem execGafferDivide_keep (a0) : ∃ t, execGafferDivide a0 = .next t ∧ Keep 6316552 a0 t := by
  unfold execGafferDivide
  refine ⟨_, rfl, ?_⟩
  refine Keep.step (divide_keep _) rfl ?_
  exact Keep.refl _ _

theorem execPaceNoticeTimer_keep (a0) (a1) : ∃ t, execPaceNoticeTimer a0 a1 = .next t ∧ Keep 6316552 a1 t := by
  unfold execPaceNoticeTimer
  refine ⟨_, rfl, ?_⟩
  split
  · exact Keep.refl _ _
  · refine Keep.ite ?_ ?_
    · refine Keep.step (sendPace_keep _ _ _ _) rfl ?_
      exact Keep.refl _ _
    · exact Keep.refl _ _

theorem execPaceNoticeExpiry_keep (a0) (a1) : ∃ t, execPaceNoticeExpiry a0 a1 = .next t ∧ Keep 6316544 a1 t := by
  unfold execPaceNoticeExpiry
  refine ⟨_, rfl, ?_⟩
  refine Keep.ite ?_ ?_
  · refine Keep.step (applyPace_keep _ _) rfl ?_
    refine Keep.step (modGaf_keep _ _) rfl ?_
    exact Keep.refl _ _
  · exact Keep.refl _ _

theorem execDueTick_keep (a0) (a1) (a2) : ∃ t, execDueTick a0 a1 a2 = .next t ∧ Keep 6316808 a2 t := by
  unfold execDueTick
  refine ⟨_, rfl, ?_⟩
  refine Keep.step (paceCheck_keep _ _) rfl ?_
  refine Keep.step (dueTick_keep _ _ _) rfl ?_
  exact Keep.refl _ _

theorem execLateLimitExpiry_keep (a0) (a1) (a2) : ∃ t, execLateLimitExpiry a0 a1 a2 = .next t ∧ Keep 6316872 a2 t := by
  unfold execLateLimitExpiry
  refine ⟨_, rfl, ?_⟩
  refine Keep.step (paceCheck_keep _ _) rfl ?_
  refine Keep.step (lateLimit_keep _ _ _) rfl ?_
  exact Keep.refl _ _

theorem disagreeCheck_keep (a0) : Keep 2121728 a0 (disagreeCheck a0) := by
  unfold disagreeCheck
  extract_lets -merge -underBinder +onlyGivenNames z1
  have hz1 : Keep 2121728 a0 z1 := by
    unfold z1
    refine Keep.foldl ?_ _ ?_
    · intro y2 x3
      refine Keep.step (modGaf_keep _ _) rfl ?_
      exact Keep.refl _ _
    · exact Keep.refl _ _
  clear_value z1
  refine Keep.foldl ?_ _ ?_
  · intro y4 x5
    extract_lets -merge -underBinder +onlyGivenNames z6 z7
    refine Keep.ite ?_ ?_
    · refine Keep.step (raise_keep _ _ _ _ _) rfl ?_
      refine Keep.step (modGaf_keep _ _) rfl ?_
      exact Keep.refl _ _
    · refine Keep.ite ?_ ?_
      · refine Keep.step (sendFault_keep _ _) rfl ?_
        refine Keep.step (modGaf_keep _ _) rfl ?_
        exact Keep.refl _ _
      · exact Keep.refl _ _
  · exact hz1

theorem evaluate_keep (a0) : Keep 6316552 a0 (evaluate a0) := by
  unfold evaluate
  refine Keep.ite ?_ ?_
  · exact Keep.refl _ _
  · extract_lets -merge -underBinder +onlyGivenNames z1 z2
    have hz1 : Keep 6316552 a0 z1 := by
      unfold z1
      refine Keep.step (modGaf_keep _ _) rfl ?_
      exact Keep.refl _ _
    clear_value z1
    have hz2 : Keep 6316552 a0 z2 := by
      unfold z2
      refine Keep.step (disagreeCheck_keep _) rfl ?_
      exact hz1
    clear_value z2
    refine Keep.step (divide_keep _) rfl ?_
    refine Keep.foldl ?_ _ ?_
    · intro y3 x4
      refine Keep.step (modPow_keep _ _ _) rfl ?_
      exact Keep.refl _ _
    · exact hz2

theorem execGafferEvaluation_keep (a0) : ∃ t, execGafferEvaluation a0 = .next t ∧ Keep 6316552 a0 t := by
  unfold execGafferEvaluation
  refine ⟨_, rfl, ?_⟩
  refine Keep.step (evaluate_keep _) rfl ?_
  exact Keep.refl _ _

theorem throttleStep_keep (a0) : Keep 6316552 a0 (throttleStep a0) := by
  unfold throttleStep
  extract_lets -merge -underBinder +onlyGivenNames z1
  split
  · exact Keep.refl _ _
  · refine Keep.ite ?_ ?_
    · exact Keep.refl _ _
    · refine Keep.ite ?_ ?_
      · refine Keep.step (divide_keep _) rfl ?_
        refine Keep.step (modGaf_keep _ _) rfl ?_
        exact Keep.refl _ _
      · refine Keep.ite ?_ ?_
        · refine Keep.ite ?_ ?_
          · exact Keep.refl _ _
          · refine Keep.step (divide_keep _) rfl ?_
            refine Keep.step (modGaf_keep _ _) rfl ?_
            exact Keep.refl _ _
        · exact Keep.refl _ _

theorem execThrottleStep_keep (a0) : ∃ t, execThrottleStep a0 = .next t ∧ Keep 6316552 a0 t := by
  unfold execThrottleStep
  refine ⟨_, rfl, ?_⟩
  refine Keep.step (throttleStep_keep _) rfl ?_
  exact Keep.refl _ _

theorem tempStep_keep (a0) (a1) : Keep 6316552 a1 (tempStep a0 a1) := by
  unfold tempStep
  extract_lets -merge -underBinder +onlyGivenNames z1 z2 z3 z4
  refine Keep.ite ?_ ?_
  · exact Keep.refl _ _
  · refine Keep.ite ?_ ?_
    · extract_lets -merge -underBinder +onlyGivenNames z5
      refine Keep.step (divide_keep _) rfl ?_
      refine Keep.step (standBegin_keep _ _ _ _ _) rfl ?_
      refine Keep.step (modPow_keep _ _ _) rfl ?_
      exact Keep.refl _ _
    · split
      · refine Keep.ite ?_ ?_
        · exact Keep.refl _ _
        · extract_lets -merge -underBinder +onlyGivenNames z8 z9
          have hz9 : Keep 6316552 a1 z9 := by
            unfold z9
            refine Keep.step (modPow_keep _ _ _) rfl ?_
            exact Keep.refl _ _
          clear_value z9
          refine Keep.step (divide_keep _) rfl ?_
          refine Keep.ite ?_ ?_
          · refine Keep.step (standEnd_keep _ _ _ _) rfl ?_
            exact hz9
          · exact hz9
      · exact Keep.refl _ _

theorem execTempCeilingStep_keep (a0) (a1) : ∃ t, execTempCeilingStep a0 a1 = .next t ∧ Keep 6316552 a1 t := by
  unfold execTempCeilingStep
  refine ⟨_, rfl, ?_⟩
  refine Keep.step (tempStep_keep _ _) rfl ?_
  exact Keep.refl _ _

theorem siteOvertemp_keep (a0) (a1) : Keep 2122240 a1 (siteOvertemp a0 a1) := by
  unfold siteOvertemp
  split
  · exact Keep.refl _ _
  · refine Keep.ite ?_ ?_
    · exact Keep.refl _ _
    · refine Keep.step (raise_keep _ _ _ _ _) rfl ?_
      refine Keep.step (siteCause_keep _ _ _ _ _) rfl ?_
      refine Keep.step (modPow_keep _ _ _) rfl ?_
      exact Keep.refl _ _

theorem execSiteOvertemp_keep (a0) (a1) : ∃ t, execSiteOvertemp a0 a1 = .next t ∧ Keep 2122240 a1 t := by
  unfold execSiteOvertemp
  refine ⟨_, rfl, ?_⟩
  refine Keep.step (siteOvertemp_keep _ _) rfl ?_
  exact Keep.refl _ _

theorem tempReport_keep (a0) (a1) (a2) : Keep 8704 a2 (tempReport a0 a1 a2) := by
  unfold tempReport
  refine Keep.ite ?_ ?_
  · exact Keep.refl _ _
  · extract_lets -merge -underBinder +onlyGivenNames z1
    refine Keep.step (modPow_keep _ _ _) rfl ?_
    refine Keep.step (modNeg_keep _ _ _) rfl ?_
    exact Keep.refl _ _

theorem execTemp_keep (a0) (a1) (a2) : ∃ t, execTemp a0 a1 a2 = .next t ∧ Keep 8704 a2 t := by
  unfold execTemp
  refine ⟨_, rfl, ?_⟩
  refine Keep.step (tempReport_keep _ _ _) rfl ?_
  exact Keep.refl _ _

theorem limitCheck_keep (a0) (a1) : Keep 4219392 a1 (limitCheck a0 a1) := by
  unfold limitCheck
  extract_lets -merge -underBinder +onlyGivenNames z1
  refine Keep.ite ?_ ?_
  · exact Keep.refl _ _
  · extract_lets -merge -underBinder +onlyGivenNames z2
    have hz2 : Keep 4219392 a1 z2 := by
      unfold z2
      split
      · refine Keep.ite ?_ ?_
        · extract_lets -merge -underBinder +onlyGivenNames z4
          have hz4 : Keep 4219392 a1 z4 := by
            unfold z4
            refine Keep.step (modPow_keep _ _ _) rfl ?_
            exact Keep.refl _ _
          clear_value z4
          refine Keep.ite ?_ ?_
          · refine Keep.step (raiseRated_keep _ _ _ _ _ _ _) rfl ?_
            refine Keep.step (modPow_keep _ _ _) rfl ?_
            exact hz4
          · exact hz4
        · exact Keep.refl _ _
      · exact Keep.refl _ _
    clear_value z2
    split
    · refine Keep.ite ?_ ?_
      · refine Keep.step (sendLimit_keep _ _ _) rfl ?_
        exact hz2
      · exact hz2
    · exact hz2

theorem execLimitCheck_keep (a0) (a1) : ∃ t, execLimitCheck a0 a1 = .next t ∧ Keep 4219392 a1 t := by
  unfold execLimitCheck
  refine ⟨_, rfl, ?_⟩
  refine Keep.step (limitCheck_keep _ _) rfl ?_
  exact Keep.refl _ _

theorem execClampRelease_keep (a0) (a1) : ∃ t, execClampRelease a0 a1 = .next t ∧ Keep 8192 a1 t := by
  unfold execClampRelease
  refine ⟨_, rfl, ?_⟩
  split
  · refine Keep.ite ?_ ?_
    · refine Keep.step (modPow_keep _ _ _) rfl ?_
      exact Keep.refl _ _
    · exact Keep.refl _ _
  · exact Keep.refl _ _

theorem newMean_keep (a0) (a1) (a2) : Keep 24576 a2 (newMean a0 a1 a2) := by
  unfold newMean
  extract_lets -merge -underBinder +onlyGivenNames z1 z2 z3 z4
  have hz4 : Keep 24576 a2 z4 := by
    unfold z4
    refine Keep.step (modPow_keep _ _ _) rfl ?_
    exact Keep.refl _ _
  clear_value z4
  refine Keep.ite ?_ ?_
  · exact hz4
  · extract_lets -merge -underBinder +onlyGivenNames z5 z6 z7
    have hz7 : Keep 24576 a2 z7 := by
      unfold z7
      refine Keep.step (modPow_keep _ _ _) rfl ?_
      exact hz4
    clear_value z7
    refine Keep.step (raiseRated_keep _ _ _ _ _ _ _) rfl ?_
    exact hz7

theorem powerSample_keep (a0) (a1) (a2) (a3) : Keep 25088 a3 (powerSample a0 a1 a2 a3) := by
  unfold powerSample
  extract_lets -merge -underBinder +onlyGivenNames z1 z2
  refine Keep.ite ?_ ?_
  · exact Keep.refl _ _
  · extract_lets -merge -underBinder +onlyGivenNames z3 z4 z5 z6
    have hz5 : Keep 25088 a3 z5 := by
      unfold z5
      refine Keep.step (modSite_keep _ _ _) rfl ?_
      exact Keep.refl _ _
    clear_value z5
    have hz6 : Keep 25088 a3 z6 := by
      unfold z6
      refine Keep.step (modPow_keep _ _ _) rfl ?_
      exact hz5
    clear_value z6
    refine Keep.ite ?_ ?_
    · refine Keep.step (newMean_keep _ _ _) rfl ?_
      exact hz6
    · exact hz6

theorem execSitePowerSample_keep (a0) (a1) (a2) (a3) : ∃ t, execSitePowerSample a0 a1 a2 a3 = .next t ∧ Keep 25088 a3 t := by
  unfold execSitePowerSample
  refine ⟨_, rfl, ?_⟩
  refine Keep.step (powerSample_keep _ _ _ _) rfl ?_
  exact Keep.refl _ _

theorem execSlewGuardEnd_keep (a0) (a1) : ∃ t, execSlewGuardEnd a0 a1 = .next t ∧ Keep 8192 a1 t := by
  unfold execSlewGuardEnd
  refine ⟨_, rfl, ?_⟩
  split
  · refine Keep.ite ?_ ?_
    · refine Keep.step (modPow_keep _ _ _) rfl ?_
      exact Keep.refl _ _
    · exact Keep.refl _ _
  · exact Keep.refl _ _

theorem slewReq_keep (a0) (a1) (a2) (a3) (a4) : Keep 4203008 a4 (slewReq a0 a1 a2 a3 a4) := by
  unfold slewReq
  refine Keep.ite ?_ ?_
  · exact Keep.refl _ _
  · extract_lets -merge -underBinder +onlyGivenNames z1 z2 z3 z4
    have hz4 : Keep 4203008 a4 z4 := by
      unfold z4
      refine Keep.ite ?_ ?_
      · exact Keep.refl _ _
      · refine Keep.step (modPow_keep _ _ _) rfl ?_
        exact Keep.refl _ _
    clear_value z4
    refine Keep.step (sideband_keep _ _ _ _) rfl ?_
    exact hz4

theorem execSlewReq_keep (a0) (a1) (a2) (a3) (a4) : ∃ t, execSlewReq a0 a1 a2 a3 a4 = .next t ∧ Keep 4203008 a4 t := by
  unfold execSlewReq
  refine ⟨_, rfl, ?_⟩
  refine Keep.step (slewReq_keep _ _ _ _ _) rfl ?_
  exact Keep.refl _ _

theorem vmillSet_keep (a0) : Keep 4194304 a0 (vmillSet a0) := by
  unfold vmillSet
  refine Keep.step (emit_keep _ _) rfl ?_
  exact Keep.refl _ _

theorem vmillRaise_keep (a0) : Keep 4202496 a0 (vmillRaise a0) := by
  unfold vmillRaise
  extract_lets -merge -underBinder +onlyGivenNames z1
  refine Keep.ite ?_ ?_
  · exact Keep.refl _ _
  · refine Keep.step (vmillSet_keep _) rfl ?_
    refine Keep.step (modGaf_keep _ _) rfl ?_
    exact Keep.refl _ _

theorem execVmillRaiseStep_keep (a0) : ∃ t, execVmillRaiseStep a0 = .next t ∧ Keep 4202496 a0 t := by
  unfold execVmillRaiseStep
  refine ⟨_, rfl, ?_⟩
  refine Keep.step (vmillRaise_keep _) rfl ?_
  exact Keep.refl _ _

theorem vmillLower_keep (a0) : Keep 4202496 a0 (vmillLower a0) := by
  unfold vmillLower
  extract_lets -merge -underBinder +onlyGivenNames z1
  refine Keep.ite ?_ ?_
  · exact Keep.refl _ _
  · refine Keep.step (vmillSet_keep _) rfl ?_
    refine Keep.step (modGaf_keep _ _) rfl ?_
    exact Keep.refl _ _

theorem execVmillLowerStep_keep (a0) : ∃ t, execVmillLowerStep a0 = .next t ∧ Keep 4202496 a0 t := by
  unfold execVmillLowerStep
  refine ⟨_, rfl, ?_⟩
  refine Keep.step (vmillLower_keep _) rfl ?_
  exact Keep.refl _ _

theorem execPmbusFail_keep (a0) : ∃ t, execPmbusFail a0 = .next t ∧ Keep 2121728 a0 t := by
  unfold execPmbusFail
  refine ⟨_, rfl, ?_⟩
  refine Keep.ite ?_ ?_
  · refine Keep.step (raise_keep _ _ _ _ _) rfl ?_
    refine Keep.step (modGaf_keep _ _) rfl ?_
    exact Keep.refl _ _
  · exact Keep.refl _ _

theorem regulators_keep (a0) (a1) : Keep 4194304 a1 (regulators a0 a1) := by
  unfold regulators
  refine Keep.foldl ?_ _ ?_
  · intro y1 x2
    refine Keep.step (emit_keep _ _) rfl ?_
    exact Keep.refl _ _
  · exact Keep.refl _ _

theorem execPmbusAlert_keep (a0) : ∃ t, execPmbusAlert a0 = .next t ∧ Keep 6291456 a0 t := by
  unfold execPmbusAlert
  refine ⟨_, rfl, ?_⟩
  refine Keep.ite ?_ ?_
  · exact Keep.refl _ _
  · extract_lets -merge -underBinder +onlyGivenNames z1
    have hz1 : Keep 6291456 a0 z1 := by
      unfold z1
      refine Keep.step (regulators_keep _ _) rfl ?_
      refine Keep.step (modPins_keep _ _) rfl ?_
      exact Keep.refl _ _
    clear_value z1
    refine Keep.step (modPins_keep _ _) rfl ?_
    refine Keep.step (regulators_keep _ _) rfl ?_
    exact hz1

theorem freshWord_keep (a0) : Keep 16 a0 (freshWord a0).2 := by
  unfold freshWord
  dsimp only
  exact modMem_keep _ _ (fun _ w => w)

theorem budgetGrant_keep (a0) (a1) (a2) (a3) (a4) : Keep 6316568 a4 (budgetGrant a0 a1 a2 a3 a4) := by
  unfold budgetGrant
  refine Keep.ite ?_ ?_
  · exact Keep.refl _ _
  · refine Keep.ite ?_ ?_
    · split
      next p1 p2 e =>
        have h3 : Keep 6316568 a4 p2 := by
          refine Keep.ofSnd e ?_
          refine Keep.step (freshWord_keep _) rfl ?_
          exact Keep.refl _ _
        refine Keep.step (emit_keep _ _) rfl ?_
        exact h3
    · extract_lets -merge -underBinder +onlyGivenNames z4
      have hz4 : Keep 6316568 a4 z4 := by
        unfold z4
        refine Keep.step (divide_keep _) rfl ?_
        refine Keep.step (modGaf_keep _ _) rfl ?_
        exact Keep.refl _ _
      clear_value z4
      refine Keep.step (emit_keep _ _) rfl ?_
      exact hz4

theorem execBudgetGrant_keep (a0) (a1) (a2) (a3) (a4) : ∃ t, execBudgetGrant a0 a1 a2 a3 a4 = .next t ∧ Keep 6316568 a4 t := by
  unfold execBudgetGrant
  refine ⟨_, rfl, ?_⟩
  refine Keep.step (budgetGrant_keep _ _ _ _ _) rfl ?_
  exact Keep.refl _ _

theorem execBudgetQuery_keep (a0) (a1) : ∃ t, execBudgetQuery a0 a1 = .next t ∧ Keep 4194304 a1 t := by
  unfold execBudgetQuery
  refine ⟨_, rfl, ?_⟩
  refine Keep.ite ?_ ?_
  · refine Keep.step (emit_keep _ _) rfl ?_
    exact Keep.refl _ _
  · exact Keep.refl _ _

theorem execBudgetExpiry_keep (a0) : ∃ t, execBudgetExpiry a0 = .next t ∧ Keep 6316552 a0 t := by
  unfold execBudgetExpiry
  refine ⟨_, rfl, ?_⟩
  split
  · exact Keep.refl _ _
  · refine Keep.ite ?_ ?_
    · exact Keep.refl _ _
    · extract_lets -merge -underBinder +onlyGivenNames z3 z4
      have hz4 : Keep 6316552 a0 z4 := by
        unfold z4
        refine Keep.step (modGaf_keep _ _) rfl ?_
        exact Keep.refl _ _
      clear_value z4
      refine Keep.step (divide_keep _) rfl ?_
      refine Keep.step (raise_keep _ _ _ _ _) rfl ?_
      exact hz4

theorem execBudgetExcessRelease_keep (a0) : ∃ t, execBudgetExcessRelease a0 = .next t ∧ Keep 6316552 a0 t := by
  unfold execBudgetExcessRelease
  refine ⟨_, rfl, ?_⟩
  split
  · exact Keep.refl _ _
  · refine Keep.ite ?_ ?_
    · exact Keep.refl _ _
    · refine Keep.step (divide_keep _) rfl ?_
      refine Keep.step (release_keep _ _ _) rfl ?_
      exact Keep.refl _ _

theorem execBudgetReleaseAck_keep (a0) (a1) (a2) : ∃ t, execBudgetReleaseAck a0 a1 a2 = .next t ∧ Keep 8192 a2 t := by
  unfold execBudgetReleaseAck
  refine ⟨_, rfl, ?_⟩
  split
  · exact Keep.refl _ _
  · refine Keep.ite ?_ ?_
    · refine Keep.step (modGaf_keep _ _) rfl ?_
      exact Keep.refl _ _
    · exact Keep.refl _ _

theorem execBudgetReleaseRetry_keep (a0) : ∃ t, execBudgetReleaseRetry a0 = .next t ∧ Keep 4202496 a0 t := by
  unfold execBudgetReleaseRetry
  refine ⟨_, rfl, ?_⟩
  split
  · exact Keep.refl _ _
  · refine Keep.ite ?_ ?_
    · exact Keep.refl _ _
    · refine Keep.step (emit_keep _ _) rfl ?_
      refine Keep.step (modGaf_keep _ _) rfl ?_
      exact Keep.refl _ _

theorem addEnergy_keep (a0) (a1) (a2) : Keep 8192 a2 (addEnergy a0 a1 a2) := by
  unfold addEnergy
  refine Keep.step (modGaf_keep _ _) rfl ?_
  exact Keep.refl _ _

theorem shareEnergy_keep (a0) (a1) (a2) : Keep 8192 a2 (shareEnergy a0 a1 a2) := by
  unfold shareEnergy
  extract_lets -merge -underBinder +onlyGivenNames z1
  refine Keep.ite ?_ ?_
  · refine Keep.step (addEnergy_keep _ _ _) rfl ?_
    exact Keep.refl _ _
  · extract_lets -merge -underBinder +onlyGivenNames z2
    refine Keep.step (addEnergy_keep _ _ _) rfl ?_
    refine Keep.foldl ?_ _ ?_
    · intro y3 x4
      refine Keep.step (addEnergy_keep _ _ _) rfl ?_
      exact Keep.refl _ _
    · exact Keep.refl _ _

theorem attributeEnergy_keep (a0) (a1) : Keep 4202496 a1 (attributeEnergy a0 a1) := by
  unfold attributeEnergy
  extract_lets -merge -underBinder +onlyGivenNames z1
  refine Keep.ite ?_ ?_
  · exact Keep.refl _ _
  · extract_lets -merge -underBinder +onlyGivenNames z2 z3 z4 z5 z6 z9
    have hz6 : Keep 4202496 a1 z6 := by
      unfold z6
      refine Keep.foldl ?_ _ ?_
      · intro y7 x8
        refine Keep.step (addEnergy_keep _ _ _) rfl ?_
        exact Keep.refl _ _
      · exact Keep.refl _ _
    clear_value z6
    have hz9 : Keep 4202496 a1 z9 := by
      unfold z9
      refine Keep.step (regulators_keep _ _) rfl ?_
      refine Keep.step (shareEnergy_keep _ _ _) rfl ?_
      refine Keep.step (shareEnergy_keep _ _ _) rfl ?_
      exact hz6
    clear_value z9
    refine Keep.step (modGaf_keep _ _) rfl ?_
    exact hz9

theorem execEnergyAttribution_keep (a0) (a1) : ∃ t, execEnergyAttribution a0 a1 = .next t ∧ Keep 4202496 a1 t := by
  unfold execEnergyAttribution
  refine ⟨_, rfl, ?_⟩
  refine Keep.step (attributeEnergy_keep _ _) rfl ?_
  exact Keep.refl _ _

theorem fresh_keep (a0) : Keep 12582910 a0 (fresh a0) := by
  unfold fresh
  exact Keep.lit (Keep.refl 12582910 a0) rfl rfl (fun w => w) List.prefix_rfl (Nat.le_refl _) (.inl rfl) (.inr rfl) (.inl rfl) (.inl rfl) (.inl rfl) (.inl rfl) (.inl rfl) (.inl rfl) (.inl rfl) (.inl rfl) (.inl rfl) (.inl rfl) (.inl rfl) (.inl rfl) (.inl rfl) (.inl rfl) (.inl rfl) (.inl rfl) (.inl rfl) (.inl rfl) (.inl rfl) (.inl rfl) (.inl rfl) (.inr rfl)

theorem beginBoot_keep (a0) (a1) (a2) : Keep 131136 a2 (beginBoot a0 a1 a2) := by
  unfold beginBoot
  refine Keep.step (modMpd_keep _ _) rfl ?_
  refine Keep.step (modBoot_keep _ _ (fun _ => Nat.le_refl _)) rfl ?_
  exact Keep.refl _ _

theorem restartBase_keep (a0) (a1) : Keep 12582910 a1 (restartBase a0 a1) := by
  unfold restartBase
  extract_lets -merge -underBinder +onlyGivenNames z1
  have hz1 : Keep 12582910 a1 z1 := by
    unfold z1
    refine Keep.step (beginBoot_keep _ _ _) rfl ?_
    refine Keep.step (fresh_keep _) rfl ?_
    exact Keep.refl _ _
  clear_value z1
  refine Keep.step (modPins_keep _ _) rfl ?_
  refine Keep.step (modThm_keep _ _) rfl ?_
  exact hz1

theorem restartAfterStop_keep (a0) : Keep 12582910 a0 (restartAfterStop a0) := by
  unfold restartAfterStop
  refine Keep.ite ?_ ?_
  · exact Keep.refl _ _
  · refine Keep.step (restartBase_keep _ _) rfl ?_
    exact Keep.refl _ _

theorem resetAssert_keep (a0) (a1) : Keep 12582910 a1 (resetAssert a0 a1) := by
  unfold resetAssert
  extract_lets -merge -underBinder +onlyGivenNames z1 z2 z3
  have hz1 : Keep 12582910 a1 z1 := by
    unfold z1
    refine Keep.step (fresh_keep _) rfl ?_
    exact Keep.refl _ _
  clear_value z1
  have hz2 : Keep 12582910 a1 z2 := by
    unfold z2
    refine Keep.step (modRole_keep _ _ (fun _ => List.prefix_rfl)) rfl ?_
    refine Keep.step (modBoot_keep _ _ (fun _ => Nat.le_refl _)) rfl ?_
    exact hz1
  clear_value z2
  have hz3 : Keep 12582910 a1 z3 := by
    unfold z3
    refine Keep.step (modThm_keep _ _) rfl ?_
    exact hz2
  clear_value z3
  refine Keep.step (modPins_keep _ _) rfl ?_
  exact hz3

theorem execResetAssert_keep (a0) (a1) : ∃ t, execResetAssert a0 a1 = .next t ∧ Keep 12582910 a1 t := by
  unfold execResetAssert
  refine ⟨_, rfl, ?_⟩
  refine Keep.ite ?_ ?_
  · refine Keep.step (resetAssert_keep _ _) rfl ?_
    exact Keep.refl _ _
  · refine Keep.ite ?_ ?_
    · refine Keep.step (resetAssert_keep _ _) rfl ?_
      exact Keep.refl _ _
    · exact Keep.refl _ _

theorem powerUp_keep (a0) (a1) (a2) : Keep 2228288 a2 (powerUp a0 a1 a2) := by
  unfold powerUp
  refine Keep.ite ?_ ?_
  · exact Keep.refl _ _
  · extract_lets -merge -underBinder +onlyGivenNames z1 z2
    have hz1 : Keep 2228288 a2 z1 := by
      unfold z1
      refine Keep.step (modPins_keep _ _) rfl ?_
      exact Keep.refl _ _
    clear_value z1
    have hz2 : Keep 2228288 a2 z2 := by
      unfold z2
      refine Keep.step (modBoot_keep _ _ (fun _ => Nat.le_refl _)) rfl ?_
      exact hz1
    clear_value z2
    refine Keep.step (beginBoot_keep _ _ _) rfl ?_
    exact hz2

theorem execPowerUp_keep (a0) (a1) (a2) : ∃ t, execPowerUp a0 a1 a2 = .next t ∧ Keep 2228288 a2 t := by
  unfold execPowerUp
  refine ⟨_, rfl, ?_⟩
  refine Keep.step (powerUp_keep _ _ _) rfl ?_
  exact Keep.refl _ _

theorem vddIoRemoved_keep (a0) : Keep 12582910 a0 (vddIoRemoved a0) := by
  unfold vddIoRemoved
  extract_lets -merge -underBinder +onlyGivenNames z1
  have hz1 : Keep 12582910 a0 z1 := by
    unfold z1
    refine Keep.step (resetAssert_keep _ _) rfl ?_
    exact Keep.refl _ _
  clear_value z1
  exact Keep.lit hz1 rfl rfl (fun w => w) List.prefix_rfl (Nat.le_refl _) (.inl rfl) (.inr rfl) (.inr rfl) (.inr rfl) (.inr rfl) (.inr rfl) (.inr rfl) (.inr rfl) (.inr rfl) (.inr rfl) (.inr rfl) (.inr rfl) (.inr rfl) (.inl rfl) (.inr rfl) (.inl rfl) (.inr rfl) (.inr rfl) (.inr rfl) (.inr rfl) (.inr rfl) (.inr rfl) (.inl rfl) (.inr rfl)

theorem execVddIoRemoved_keep (a0) : ∃ t, execVddIoRemoved a0 = .next t ∧ Keep 12582910 a0 t := by
  unfold execVddIoRemoved
  refine ⟨_, rfl, ?_⟩
  refine Keep.step (vddIoRemoved_keep _) rfl ?_
  exact Keep.refl _ _

theorem thermLevel_keep (a0) : Keep 2117632 a0 (thermLevel a0) := by
  unfold thermLevel
  split
  · exact Keep.refl _ _
  · extract_lets -merge -underBinder +onlyGivenNames z4 z5 z6 z7 z8 z9
    have hz8 : Keep 2117632 a0 z8 := by
      unfold z8
      refine Keep.ite ?_ ?_
      · refine Keep.ite ?_ ?_
        · exact Keep.refl _ _
        · refine Keep.step (standBegin_keep _ _ _ _ _) rfl ?_
          exact Keep.refl _ _
      · refine Keep.step (standEndAll_keep _ _ _) rfl ?_
        exact Keep.refl _ _
    clear_value z8
    have hz9 : Keep 2117632 a0 z9 := by
      unfold z9
      refine Keep.ite ?_ ?_
      · refine Keep.ite ?_ ?_
        · exact hz8
        · refine Keep.step (standBegin_keep _ _ _ _ _) rfl ?_
          exact hz8
      · refine Keep.step (standEndAll_keep _ _ _) rfl ?_
        exact hz8
    clear_value z9
    refine Keep.step (showAlert_keep _) rfl ?_
    refine Keep.step (modThm_keep _ _) rfl ?_
    exact hz9

theorem lowTemps_keep (a0) : Keep 2117632 a0 (lowTemps a0) := by
  unfold lowTemps
  refine Keep.ite ?_ ?_
  · exact Keep.refl _ _
  · refine Keep.foldl ?_ _ ?_
    · intro y1 x2
      split
      · exact Keep.refl _ _
      · refine Keep.ite ?_ ?_
        · refine Keep.step (modThm_keep _ _) rfl ?_
          exact Keep.refl _ _
        · refine Keep.ite ?_ ?_
          · refine Keep.step (raise_keep _ _ _ _ _) rfl ?_
            refine Keep.step (modThm_keep _ _) rfl ?_
            exact Keep.refl _ _
          · exact Keep.refl _ _
    · exact Keep.refl _ _

theorem deviations_keep (a0) : Keep 4096 a0 (deviations a0) := by
  unfold deviations
  refine Keep.foldl ?_ _ ?_
  · intro y1 x2
    extract_lets -merge -underBinder +onlyGivenNames z3
    refine Keep.step (modThm_keep _ _) rfl ?_
    exact Keep.refl _ _
  · exact Keep.refl _ _

theorem trip_keep (a0) (a1) (a2) : Keep 2126336 a2 (trip a0 a1 a2) := by
  unfold trip
  extract_lets -merge -underBinder +onlyGivenNames z1 z2 z3 z4
  have hz2 : Keep 2126336 a2 z2 := by
    unfold z2
    refine Keep.step (modThm_keep _ _) rfl ?_
    exact Keep.refl _ _
  clear_value z2
  have hz3 : Keep 2126336 a2 z3 := by
    unfold z3
    refine Keep.step (modPins_keep _ _) rfl ?_
    refine Keep.step (modGaf_keep _ _) rfl ?_
    exact hz2
  clear_value z3
  have hz4 : Keep 2126336 a2 z4 := by
    unfold z4
    refine Keep.foldl ?_ _ ?_
    · intro y5 x6
      refine Keep.step (modSite_keep _ _ _) rfl ?_
      exact Keep.refl _ _
    · exact hz3
  clear_value z4
  refine Keep.step (raise_keep _ _ _ _ _) rfl ?_
  exact hz4

theorem sensorSample_keep (a0) (a1) : Keep 2126336 a1 (sensorSample a0 a1) := by
  unfold sensorSample
  extract_lets -merge -underBinder +onlyGivenNames z1
  refine Keep.ite ?_ ?_
  · exact Keep.refl _ _
  · extract_lets -merge -underBinder +onlyGivenNames z2 z3 z4 z5 z6 z7 z8 z9
    have hz3 : Keep 2126336 a1 z3 := by
      unfold z3
      refine Keep.step (modThm_keep _ _) rfl ?_
      exact Keep.refl _ _
    clear_value z3
    have hz4 : Keep 2126336 a1 z4 := by
      unfold z4
      refine Keep.step (deviations_keep _) rfl ?_
      exact hz3
    clear_value z4
    have hz8 : Keep 2126336 a1 z8 := by
      unfold z8
      refine Keep.step (modThm_keep _ _) rfl ?_
      exact hz4
    clear_value z8
    have hz9 : Keep 2126336 a1 z9 := by
      unfold z9
      refine Keep.ite ?_ ?_
      · refine Keep.step (lowTemps_keep _) rfl ?_
        refine Keep.step (thermLevel_keep _) rfl ?_
        exact hz8
      · exact hz8
    clear_value z9
    clear_value z6
    split
    · refine Keep.ite ?_ ?_
      · exact hz9
      · refine Keep.step (trip_keep _ _ _) rfl ?_
        exact hz9
    · exact hz9

theorem execSensorSample_keep (a0) (a1) : ∃ t, execSensorSample a0 a1 = .next t ∧ Keep 2126336 a1 t := by
  unfold execSensorSample
  refine ⟨_, rfl, ?_⟩
  refine Keep.step (sensorSample_keep _ _) rfl ?_
  exact Keep.refl _ _

theorem sensorFail_keep (a0) (a1) : Keep 2117632 a1 (sensorFail a0 a1) := by
  unfold sensorFail
  split
  · exact Keep.refl _ _
  · refine Keep.ite ?_ ?_
    · exact Keep.refl _ _
    · refine Keep.step (raise_keep _ _ _ _ _) rfl ?_
      refine Keep.step (modThm_keep _ _) rfl ?_
      exact Keep.refl _ _

theorem execSensorFail_keep (a0) (a1) : ∃ t, execSensorFail a0 a1 = .next t ∧ Keep 2117632 a1 t := by
  unfold execSensorFail
  refine ⟨_, rfl, ?_⟩
  refine Keep.step (sensorFail_keep _ _) rfl ?_
  exact Keep.refl _ _

theorem thermtripRelease_keep (a0) : Keep 12582910 a0 (thermtripRelease a0) := by
  unfold thermtripRelease
  split
  · exact Keep.refl _ _
  · refine Keep.ite ?_ ?_
    · exact Keep.refl _ _
    · extract_lets -merge -underBinder +onlyGivenNames z3
      have hz3 : Keep 12582910 a0 z3 := by
        unfold z3
        refine Keep.step (modPins_keep _ _) rfl ?_
        refine Keep.step (modThm_keep _ _) rfl ?_
        exact Keep.refl _ _
      clear_value z3
      refine Keep.ite ?_ ?_
      · refine Keep.step (restartAfterStop_keep _) rfl ?_
        exact hz3
      · exact hz3

theorem execThermtripRelease_keep (a0) : ∃ t, execThermtripRelease a0 = .next t ∧ Keep 12582910 a0 t := by
  unfold execThermtripRelease
  refine ⟨_, rfl, ?_⟩
  refine Keep.step (thermtripRelease_keep _) rfl ?_
  exact Keep.refl _ _

theorem coolantStop_keep (a0) : Keep 2126336 a0 (coolantStop a0) := by
  unfold coolantStop
  extract_lets -merge -underBinder +onlyGivenNames z1
  have hz1 : Keep 2126336 a0 z1 := by
    unfold z1
    refine Keep.step (modPins_keep _ _) rfl ?_
    exact Keep.refl _ _
  clear_value z1
  refine Keep.ite ?_ ?_
  · exact hz1
  · split
    · extract_lets -merge -underBinder +onlyGivenNames z4 z5
      have hz4 : Keep 2126336 a0 z4 := by
        unfold z4
        refine Keep.step (modThm_keep _ _) rfl ?_
        refine Keep.step (modGaf_keep _ _) rfl ?_
        exact hz1
      clear_value z4
      have hz5 : Keep 2126336 a0 z5 := by
        unfold z5
        refine Keep.foldl ?_ _ ?_
        · intro y6 x7
          refine Keep.step (modSite_keep _ _ _) rfl ?_
          exact Keep.refl _ _
        · exact hz4
      clear_value z5
      refine Keep.step (raise_keep _ _ _ _ _) rfl ?_
      exact hz5

theorem execCoolantStop_keep (a0) : ∃ t, execCoolantStop a0 = .next t ∧ Keep 2126336 a0 t := by
  unfold execCoolantStop
  refine ⟨_, rfl, ?_⟩
  refine Keep.step (coolantStop_keep _) rfl ?_
  exact Keep.refl _ _

theorem coolantRestart_keep (a0) : Keep 12582910 a0 (coolantRestart a0) := by
  unfold coolantRestart
  extract_lets -merge -underBinder +onlyGivenNames z1
  have hz1 : Keep 12582910 a0 z1 := by
    unfold z1
    refine Keep.step (modPins_keep _ _) rfl ?_
    exact Keep.refl _ _
  clear_value z1
  refine Keep.ite ?_ ?_
  · refine Keep.step (beginBoot_keep _ _ _) rfl ?_
    exact hz1
  · refine Keep.ite ?_ ?_
    · refine Keep.step (restartAfterStop_keep _) rfl ?_
      refine Keep.step (modThm_keep _ _) rfl ?_
      exact hz1
    · exact hz1

theorem execCoolantRestart_keep (a0) : ∃ t, execCoolantRestart a0 = .next t ∧ Keep 12582910 a0 t := by
  unfold execCoolantRestart
  refine ⟨_, rfl, ?_⟩
  refine Keep.step (coolantRestart_keep _) rfl ?_
  exact Keep.refl _ _

theorem execWarmupEnd_keep (a0) : ∃ t, execWarmupEnd a0 = .next t ∧ Keep 135168 a0 t := by
  unfold execWarmupEnd
  refine ⟨_, rfl, ?_⟩
  refine Keep.ite ?_ ?_
  · exact Keep.refl _ _
  · refine Keep.step (modBoot_keep _ _ (fun _ => Nat.le_refl _)) rfl ?_
    refine Keep.step (modThm_keep _ _) rfl ?_
    exact Keep.refl _ _

theorem stackTemp_keep (a0) (a1) (a2) : Keep 2117632 a2 (stackTemp a0 a1 a2) := by
  unfold stackTemp
  refine Keep.ite ?_ ?_
  · exact Keep.refl _ _
  · extract_lets -merge -underBinder +onlyGivenNames z1 z2 z3 z4
    have hz2 : Keep 2117632 a2 z2 := by
      unfold z2
      refine Keep.step (modThm_keep _ _) rfl ?_
      exact Keep.refl _ _
    clear_value z2
    have hz4 : Keep 2117632 a2 z4 := by
      unfold z4
      refine Keep.ite ?_ ?_
      · refine Keep.step (standBegin_keep _ _ _ _ _) rfl ?_
        exact hz2
      · refine Keep.step (standEnd_keep _ _ _ _) rfl ?_
        exact hz2
    clear_value z4
    refine Keep.ite ?_ ?_
    · refine Keep.ite ?_ ?_
      · refine Keep.step (modThm_keep _ _) rfl ?_
        exact hz4
      · exact hz4
    · refine Keep.ite ?_ ?_
      · refine Keep.step (raise_keep _ _ _ _ _) rfl ?_
        refine Keep.step (modThm_keep _ _) rfl ?_
        exact hz4
      · refine Keep.step (modThm_keep _ _) rfl ?_
        exact hz4

theorem execStackTempRead_keep (a0) (a1) (a2) : ∃ t, execStackTempRead a0 a1 a2 = .next t ∧ Keep 2117632 a2 t := by
  unfold execStackTempRead
  refine ⟨_, rfl, ?_⟩
  refine Keep.step (stackTemp_keep _ _ _) rfl ?_
  exact Keep.refl _ _

theorem endPhase_keep (a0) (a1) : Keep 131072 a1 (endPhase a0 a1) := by
  unfold endPhase
  refine Keep.step (modBoot_keep _ _ (fun _ => Nat.le_refl _)) rfl ?_
  exact Keep.refl _ _

theorem copyOuttake_keep (a0) : Keep 114688 a0 (copyOuttake a0) := by
  unfold copyOuttake
  refine Keep.ite ?_ ?_
  · exact Keep.refl _ _
  · extract_lets -merge -underBinder +onlyGivenNames z1
    have hz1 : Keep 114688 a0 z1 := by
      unfold z1
      refine Keep.foldl ?_ _ ?_
      · intro y2 x3
        split
        · exact Keep.refl _ _
        · extract_lets -merge -underBinder +onlyGivenNames z6
          refine Keep.step (auditKeyed_keep _ _ _ _ _) rfl ?_
          exact Keep.refl _ _
      · exact Keep.refl _ _
    clear_value z1
    refine Keep.step (modFlt_keep _ _ (fun _ w => w)) rfl ?_
    exact hz1

theorem xspiReset_keep (a0) : Keep 2228224 a0 (xspiReset a0) := by
  unfold xspiReset
  refine Keep.ite ?_ ?_
  · exact Keep.refl _ _
  · refine Keep.step (modPins_keep _ _) rfl ?_
    refine Keep.step (modBoot_keep _ _ (fun _ => Nat.le_refl _)) rfl ?_
    exact Keep.refl _ _

theorem bootPhase2_keep (a0) : Keep 2347088 a0 (bootPhase2 a0) := by
  unfold bootPhase2
  refine Keep.ite ?_ ?_
  · exact Keep.refl _ _
  · refine Keep.ite ?_ ?_
    · refine Keep.step (raise_keep _ _ _ _ _) rfl ?_
      exact Keep.refl _ _
    · extract_lets -merge -underBinder +onlyGivenNames z1 z2
      have hz1 : Keep 2347088 a0 z1 := by
        unfold z1
        refine Keep.step (xspiReset_keep _) rfl ?_
        refine Keep.step (endPhase_keep _ _) rfl ?_
        refine Keep.step (copyOuttake_keep _) rfl ?_
        refine Keep.step (millClear_keep _) rfl ?_
        refine Keep.step (modPins_keep _ _) rfl ?_
        exact Keep.refl _ _
      clear_value z1
      refine Keep.step (modThm_keep _ _) rfl ?_
      exact hz1

theorem execBootPhase2_keep (a0) : ∃ t, execBootPhase2 a0 = .next t ∧ Keep 2347088 a0 t := by
  unfold execBootPhase2
  refine ⟨_, rfl, ?_⟩
  refine Keep.step (bootPhase2_keep _) rfl ?_
  exact Keep.refl _ _

theorem tryImage_keep (a0) (a1) : Keep 131072 a1 (tryImage a0 a1) := by
  unfold tryImage
  refine Keep.step (modSlot_keep _ _ _) rfl ?_
  exact Keep.refl _ _

theorem runImage_keep (a0) (a1) : Keep 1179648 a1 (runImage a0 a1) := by
  unfold runImage
  extract_lets -merge -underBinder +onlyGivenNames z1 z2
  have hz2 : Keep 1179648 a1 z2 := by
    unfold z2
    refine Keep.ite ?_ ?_
    · refine Keep.step (newHeader_keep _) rfl ?_
      exact Keep.refl _ _
    · exact Keep.refl _ _
  clear_value z2
  refine Keep.step (endPhase_keep _ _) rfl ?_
  refine Keep.step (modIdent_keep _ _) rfl ?_
  refine Keep.step (modBoot_keep _ _ (fun _ => Nat.le_refl _)) rfl ?_
  exact hz2

theorem noImage_keep (a0) : Keep 2113536 a0 (noImage a0) := by
  unfold noImage
  refine Keep.step (enterSafe_keep _) rfl ?_
  refine Keep.step (sendFault_keep _ _) rfl ?_
  exact Keep.refl _ _

theorem bootPhase3_keep (a0) (a1) (a2) : Keep 3293184 a2 (bootPhase3 a0 a1 a2) := by
  unfold bootPhase3
  refine Keep.ite ?_ ?_
  · exact Keep.refl _ _
  · extract_lets -merge -underBinder +onlyGivenNames z1 z2 z3 z4 z5
    have hz1 : Keep 3293184 a2 z1 := by
      unfold z1
      refine Keep.step (xspiEnd_keep _) rfl ?_
      exact Keep.refl _ _
    clear_value z1
    refine Keep.ite ?_ ?_
    · extract_lets -merge -underBinder +onlyGivenNames z6
      have hz6 : Keep 3293184 a2 z6 := by
        unfold z6
        refine Keep.step (tryImage_keep _ _) rfl ?_
        exact hz1
      clear_value z6
      refine Keep.ite ?_ ?_
      · refine Keep.step (runImage_keep _ _) rfl ?_
        exact hz6
      · refine Keep.ite ?_ ?_
        · refine Keep.step (noImage_keep _) rfl ?_
          exact hz6
        · extract_lets -merge -underBinder +onlyGivenNames z7
          have hz7 : Keep 3293184 a2 z7 := by
            unfold z7
            refine Keep.step (tryImage_keep _ _) rfl ?_
            exact hz6
          clear_value z7
          refine Keep.ite ?_ ?_
          · refine Keep.step (runImage_keep _ _) rfl ?_
            exact hz7
          · refine Keep.step (noImage_keep _) rfl ?_
            exact hz7
    · refine Keep.ite ?_ ?_
      · refine Keep.step (noImage_keep _) rfl ?_
        exact hz1
      · extract_lets -merge -underBinder +onlyGivenNames z8
        have hz8 : Keep 3293184 a2 z8 := by
          unfold z8
          refine Keep.step (tryImage_keep _ _) rfl ?_
          exact hz1
        clear_value z8
        refine Keep.ite ?_ ?_
        · refine Keep.step (runImage_keep _ _) rfl ?_
          exact hz8
        · refine Keep.step (noImage_keep _) rfl ?_
          exact hz8

theorem execBootPhase3_keep (a0) (a1) (a2) : ∃ t, execBootPhase3 a0 a1 a2 = .next t ∧ Keep 3293184 a2 t := by
  unfold execBootPhase3
  refine ⟨_, rfl, ?_⟩
  refine Keep.step (bootPhase3_keep _ _ _) rfl ?_
  exact Keep.refl _ _

theorem bootPhase4_keep (a0) (a1) (a2) (a3) : Keep 3403382 a3 (bootPhase4 a0 a1 a2 a3) := by
  unfold bootPhase4
  refine Keep.ite ?_ ?_
  · exact Keep.refl _ _
  · extract_lets -merge -underBinder +onlyGivenNames z1
    have hz1 : Keep 3403382 a3 z1 := by
      unfold z1
      refine Keep.step (modPins_keep _ _) rfl ?_
      exact Keep.refl _ _
    clear_value z1
    split
    · refine Keep.step (raise_keep _ _ _ _ _) rfl ?_
      exact hz1
    · extract_lets -merge -underBinder +onlyGivenNames z6
      refine Keep.step (endPhase_keep _ _) rfl ?_
      refine Keep.step (modBoot_keep _ _ (fun _ => Nat.le_refl _)) rfl ?_
      refine Keep.step (loadScript_keep _ _ _ _) rfl ?_
      exact hz1

theorem execBootPhase4_keep (a0) (a1) (a2) (a3) : ∃ t, execBootPhase4 a0 a1 a2 a3 = .next t ∧ Keep 3403382 a3 t := by
  unfold execBootPhase4
  refine ⟨_, rfl, ?_⟩
  refine Keep.step (bootPhase4_keep _ _ _ _) rfl ?_
  exact Keep.refl _ _

theorem bootPhase5_keep (a0) (a1) (a2) : Keep 2244610 a2 (bootPhase5 a0 a1 a2) := by
  unfold bootPhase5
  refine Keep.ite ?_ ?_
  · exact Keep.refl _ _
  · extract_lets -merge -underBinder +onlyGivenNames z1 z2 z3
    refine Keep.ite ?_ ?_
    · refine Keep.step (raise_keep _ _ _ _ _) rfl ?_
      exact Keep.refl _ _
    · extract_lets -merge -underBinder +onlyGivenNames z4
      refine Keep.step (endPhase_keep _ _) rfl ?_
      refine Keep.step (modTc_keep _ _) rfl ?_
      exact Keep.refl _ _

theorem execBootPhase5_keep (a0) (a1) (a2) : ∃ t, execBootPhase5 a0 a1 a2 = .next t ∧ Keep 2244610 a2 t := by
  unfold execBootPhase5
  refine ⟨_, rfl, ?_⟩
  refine Keep.step (bootPhase5_keep _ _ _) rfl ?_
  exact Keep.refl _ _

theorem bootPhase6_keep (a0) (a1) (a2) (a3) : Keep 3295252 a3 (bootPhase6 a0 a1 a2 a3) := by
  unfold bootPhase6
  split
  · exact Keep.refl _ _
  · refine Keep.ite ?_ ?_
    · exact Keep.refl _ _
    · extract_lets -merge -underBinder +onlyGivenNames z3 z4 z5 z8 z9 z10 z11
      have hz5 : Keep 3295252 a3 z5 := by
        unfold z5
        refine Keep.foldl ?_ _ ?_
        · intro y6 x7
          refine Keep.step (laserFault_keep _ _ _) rfl ?_
          exact Keep.refl _ _
        · exact Keep.refl _ _
      clear_value z5
      have hz8 : Keep 3295252 a3 z8 := by
        unfold z8
        refine Keep.step (modPins_keep _ _) rfl ?_
        refine Keep.step (modFoc_keep _ _) rfl ?_
        exact hz5
      clear_value z8
      have hz11 : Keep 3295252 a3 z11 := by
        unfold z11
        refine Keep.foldl ?_ _ ?_
        · intro y12 x13
          refine Keep.step (feedFail_keep _ _ _ _) rfl ?_
          exact Keep.refl _ _
        · exact hz8
      clear_value z11
      refine Keep.step (endPhase_keep _ _) rfl ?_
      exact hz11

theorem execBootPhase6_keep (a0) (a1) (a2) (a3) : ∃ t, execBootPhase6 a0 a1 a2 a3 = .next t ∧ Keep 3295252 a3 t := by
  unfold execBootPhase6
  refine ⟨_, rfl, ?_⟩
  refine Keep.step (bootPhase6_keep _ _ _ _) rfl ?_
  exact Keep.refl _ _

theorem loadTaps_keep (a0) (a1) : Keep 512 a1 (loadTaps a0 a1) := by
  unfold loadTaps
  split
  · exact Keep.refl _ _
  · refine Keep.foldl ?_ _ ?_
    · intro y3 x4
      extract_lets -merge -underBinder +onlyGivenNames z5
      refine Keep.ite ?_ ?_
      · exact Keep.refl _ _
      · refine Keep.step (modSite_keep _ _ _) rfl ?_
        exact Keep.refl _ _
    · exact Keep.refl _ _

theorem startWrong_keep (a0) (a1) : Keep 2115584 a1 (startWrong a0 a1) := by
  unfold startWrong
  refine Keep.foldl ?_ _ ?_
  · intro y1 x2
    split
    · exact Keep.refl _ _
    · refine Keep.ite ?_ ?_
      · exact Keep.refl _ _
      · refine Keep.step (raise_keep _ _ _ _ _) rfl ?_
        refine Keep.step (modFoc_keep _ _) rfl ?_
        exact Keep.refl _ _
  · exact Keep.refl _ _

theorem bootPhase7_keep (a0) (a1) (a2) : Keep 7491100 a2 (bootPhase7 a0 a1 a2) := by
  unfold bootPhase7
  refine Keep.ite ?_ ?_
  · exact Keep.refl _ _
  · extract_lets -merge -underBinder +onlyGivenNames z1 z2 z3 z4 z5
    have hz4 : Keep 7491100 a2 z4 := by
      unfold z4
      refine Keep.step (modFoc_keep _ _) rfl ?_
      refine Keep.step (startWrong_keep _ _) rfl ?_
      exact Keep.refl _ _
    clear_value z4
    have hz5 : Keep 7491100 a2 z5 := by
      unfold z5
      refine Keep.foldl ?_ _ ?_
      · intro y6 x7
        refine Keep.ite ?_ ?_
        · exact Keep.refl _ _
        · refine Keep.ite ?_ ?_
          · refine Keep.step (elemOut_keep _ _ _ _ _) rfl ?_
            refine Keep.step (modFoc_keep _ _) rfl ?_
            exact Keep.refl _ _
          · refine Keep.step (elemOut_keep _ _ _ _ _) rfl ?_
            refine Keep.step (modFoc_keep _ _) rfl ?_
            exact Keep.refl _ _
      · exact hz4
    clear_value z5
    refine Keep.step (endPhase_keep _ _) rfl ?_
    refine Keep.step (modBoot_keep _ _ (fun _ => Nat.le_refl _)) rfl ?_
    refine Keep.step (loadTaps_keep _ _) rfl ?_
    exact hz5

theorem execBootPhase7_keep (a0) (a1) (a2) : ∃ t, execBootPhase7 a0 a1 a2 = .next t ∧ Keep 7491100 a2 t := by
  unfold execBootPhase7
  refine ⟨_, rfl, ?_⟩
  refine Keep.step (bootPhase7_keep _ _ _) rfl ?_
  exact Keep.refl _ _

theorem bootPhase8_keep (a0) (a1) : Keep 3293200 a1 (bootPhase8 a0 a1) := by
  unfold bootPhase8
  refine Keep.ite ?_ ?_
  · exact Keep.refl _ _
  · extract_lets -merge -underBinder +onlyGivenNames z1 z2 z3 z4
    have hz2 : Keep 3293200 a1 z2 := by
      unfold z2
      refine Keep.step (modMem_keep _ _ (by intro x w; first | exact lineSet_wf _ _ _ _ w | exact wordSet_wf _ _ _ w | exact cellsClear_wf _ _ _ w | exact filter_wf _ _ w)) rfl ?_
      exact Keep.refl _ _
    clear_value z2
    have hz4 : Keep 3293200 a1 z4 := by
      unfold z4
      refine Keep.foldl ?_ _ ?_
      · intro y5 x6
        split
        · refine Keep.step (raise_keep _ _ _ _ _) rfl ?_
          exact Keep.refl _ _
        · refine Keep.step (modMs_keep _ _ _) rfl ?_
          exact Keep.refl _ _
      · exact hz2
    clear_value z4
    refine Keep.step (endPhase_keep _ _) rfl ?_
    refine Keep.step (capUpdate_keep _) rfl ?_
    exact hz4

theorem execBootPhase8_keep (a0) (a1) : ∃ t, execBootPhase8 a0 a1 = .next t ∧ Keep 3293200 a1 t := by
  unfold execBootPhase8
  refine ⟨_, rfl, ?_⟩
  refine Keep.step (bootPhase8_keep _ _) rfl ?_
  exact Keep.refl _ _

theorem bootPhase9_keep (a0) : Keep 2245120 a0 (bootPhase9 a0) := by
  unfold bootPhase9
  refine Keep.ite ?_ ?_
  · exact Keep.refl _ _
  · refine Keep.step (endPhase_keep _ _) rfl ?_
    refine Keep.foldl ?_ _ ?_
    · intro y1 x2
      refine Keep.ite ?_ ?_
      · refine Keep.step (siteFence_keep _ _ _ _ _ _) rfl ?_
        exact Keep.refl _ _
      · exact Keep.refl _ _
    · exact Keep.refl _ _

theorem execBootPhase9_keep (a0) : ∃ t, execBootPhase9 a0 = .next t ∧ Keep 2245120 a0 t := by
  unfold execBootPhase9
  refine ⟨_, rfl, ?_⟩
  refine Keep.step (bootPhase9_keep _) rfl ?_
  exact Keep.refl _ _

theorem notePassed_keep (a0) : Keep 532514 a0 (notePassed a0) := by
  unfold notePassed
  extract_lets -merge -underBinder +onlyGivenNames z1 z2 z3 z4
  have hz2 : Keep 532514 a0 z2 := by
    unfold z2
    refine Keep.step (modTc_keep _ _) rfl ?_
    exact Keep.refl _ _
  clear_value z2
  have hz3 : Keep 532514 a0 z3 := by
    unfold z3
    refine Keep.step (modBlk_keep _ _) rfl ?_
    exact hz2
  clear_value z3
  have hz4 : Keep 532514 a0 z4 := by
    unfold z4
    refine Keep.step (modGaf_keep _ _) rfl ?_
    exact hz3
  clear_value z4
  refine Keep.step (modTel_keep _ _) rfl ?_
  exact hz4

theorem bootPhase10_keep (a0) : Keep 2778146 a0 (bootPhase10 a0) := by
  unfold bootPhase10
  refine Keep.ite ?_ ?_
  · exact Keep.refl _ _
  · extract_lets -merge -underBinder +onlyGivenNames z1 z2
    have hz1 : Keep 2778146 a0 z1 := by
      unfold z1
      refine Keep.step (timeSelect_keep _) rfl ?_
      exact Keep.refl _ _
    clear_value z1
    have hz2 : Keep 2778146 a0 z2 := by
      unfold z2
      split
      · refine Keep.step (timeLost_keep _) rfl ?_
        exact hz1
      · extract_lets -merge -underBinder +onlyGivenNames z5 z6
        have hz6 : Keep 2778146 a0 z6 := by
          unfold z6
          refine Keep.step (modTc_keep _ _) rfl ?_
          exact hz1
        clear_value z6
        refine Keep.step (notePassed_keep _) rfl ?_
        refine Keep.foldl ?_ _ ?_
        · intro y7 x8
          refine Keep.step (modPodLink_keep _ _ _) rfl ?_
          exact Keep.refl _ _
        · exact hz6
    clear_value z2
    refine Keep.step (endPhase_keep _ _) rfl ?_
    exact hz2

theorem execBootPhase10_keep (a0) : ∃ t, execBootPhase10 a0 = .next t ∧ Keep 2778146 a0 t := by
  unfold execBootPhase10
  refine ⟨_, rfl, ?_⟩
  refine Keep.step (bootPhase10_keep _) rfl ?_
  exact Keep.refl _ _

theorem bootPhase11_keep (a0) : Keep 3396608 a0 (bootPhase11 a0) := by
  unfold bootPhase11
  refine Keep.ite ?_ ?_
  · exact Keep.refl _ _
  · extract_lets -merge -underBinder +onlyGivenNames z1 z2 z3 z4 z5 z6 z7 z8 z9
    have hz1 : Keep 3396608 a0 z1 := by
      unfold z1
      refine Keep.step (modRole_keep _ _ (fun _ => List.prefix_rfl)) rfl ?_
      exact Keep.refl _ _
    clear_value z1
    have hz2 : Keep 3396608 a0 z2 := by
      unfold z2
      refine Keep.step (capUpdate_keep _) rfl ?_
      refine Keep.step (contSend_keep _) rfl ?_
      exact hz1
    clear_value z2
    have hz3 : Keep 3396608 a0 z3 := by
      unfold z3
      refine Keep.step (modBoot_keep _ _ (fun _ => Nat.le_refl _)) rfl ?_
      refine Keep.step (endPhase_keep _ _) rfl ?_
      exact hz2
    clear_value z3
    have hz4 : Keep 3396608 a0 z4 := by
      unfold z4
      refine Keep.step (modSlot_keep _ _ _) rfl ?_
      exact hz3
    clear_value z4
    have hz5 : Keep 3396608 a0 z5 := by
      unfold z5
      refine Keep.step (modBoot_keep _ _ (fun _ => Nat.le_max_left _ _)) rfl ?_
      exact hz4
    clear_value z5
    have hz7 : Keep 3396608 a0 z7 := by
      unfold z7
      refine Keep.step (audit_keep _ _ _ _ _) rfl ?_
      exact hz5
    clear_value z7
    have hz8 : Keep 3396608 a0 z8 := by
      unfold z8
      refine Keep.ite ?_ ?_
      · refine Keep.step (raise_keep _ _ _ _ _) rfl ?_
        refine Keep.step (modBoot_keep _ _ (fun _ => Nat.le_refl _)) rfl ?_
        exact hz7
      · exact hz7
    clear_value z8
    have hz9 : Keep 3396608 a0 z9 := by
      unfold z9
      refine Keep.ite ?_ ?_
      · refine Keep.step (sendFault_keep _ _) rfl ?_
        refine Keep.step (modThm_keep _ _) rfl ?_
        exact hz8
      · exact hz8
    clear_value z9
    refine Keep.ite ?_ ?_
    · exact hz9
    · refine Keep.step (contMismatch_keep _) rfl ?_
      exact hz9

theorem execBootPhase11_keep (a0) : ∃ t, execBootPhase11 a0 = .next t ∧ Keep 3396608 a0 t := by
  unfold execBootPhase11
  refine ⟨_, rfl, ?_⟩
  refine Keep.step (bootPhase11_keep _) rfl ?_
  exact Keep.refl _ _

end Sys2Proof.Machine
end

