-- ==== Sys2Proof/Laws/KeepPair.lean ====
section
/-! SUPPORT. What each function of jobs, field update, fences, the pair and faults may change (Laws/Keep). -/

namespace Sys2Proof.Machine

open Sys2Proof

theorem modJob_keep (a0) (a1) (a2) : Keep 65536 a2 (modJob a0 a1 a2) := by
  unfold modJob
  refine Keep.step (modRole_keep _ _ (fun _ => List.prefix_rfl)) rfl ?_
  exact Keep.refl _ _

theorem startJob_keep (a0) (a1) (a2) : Keep 6414856 a2 (startJob a0 a1 a2) := by
  unfold startJob
  refine Keep.ite ?_ ?_
  · exact Keep.refl _ _
  · split
    · refine Keep.step (divide_keep _) rfl ?_
      refine Keep.step (audit_keep _ _ _ _ _) rfl ?_
      refine Keep.step (modJob_keep _ _ _) rfl ?_
      exact Keep.refl _ _
    · refine Keep.step (modJob_keep _ _ _) rfl ?_
      exact Keep.refl _ _

theorem endJob_keep (a0) (a1) (a2) : Keep 6415356 a2 (endJob a0 a1 a2) := by
  unfold endJob
  refine Keep.ite ?_ ?_
  · exact Keep.refl _ _
  · extract_lets -merge -underBinder +onlyGivenNames z1 z2 z3 z4 z7 z8 z11
    have hz3 : Keep 6415356 a2 z3 := by
      unfold z3
      refine Keep.step (audit_keep _ _ _ _ _) rfl ?_
      refine Keep.step (modJob_keep _ _ _) rfl ?_
      exact Keep.refl _ _
    clear_value z3
    have hz4 : Keep 6415356 a2 z4 := by
      unfold z4
      refine Keep.foldl ?_ _ ?_
      · intro y5 x6
        refine Keep.ite ?_ ?_
        · refine Keep.step (disableQueue_keep _ _) rfl ?_
          exact Keep.refl _ _
        · exact Keep.refl _ _
      · exact hz3
    clear_value z4
    have hz7 : Keep 6415356 a2 z7 := by
      unfold z7
      refine Keep.step (ctxJobEnds_keep _ _) rfl ?_
      exact hz4
    clear_value z7
    have hz8 : Keep 6415356 a2 z8 := by
      unfold z8
      refine Keep.foldl ?_ _ ?_
      · intro y9 x10
        refine Keep.ite ?_ ?_
        · refine Keep.step (releaseRegion_keep _ _) rfl ?_
          exact Keep.refl _ _
        · exact Keep.refl _ _
      · exact hz7
    clear_value z8
    have hz11 : Keep 6415356 a2 z11 := by
      unfold z11
      refine Keep.foldl ?_ _ ?_
      · intro y12 x13
        refine Keep.step (modPow_keep _ _ _) rfl ?_
        exact Keep.refl _ _
      · exact hz8
    clear_value z11
    refine Keep.step (divide_keep _) rfl ?_
    refine Keep.step (modGaf_keep _ _) rfl ?_
    exact hz11

theorem jobEnded_keep (a0) (a1) : Keep 65536 a1 (jobEnded a0 a1) := by
  unfold jobEnded
  refine Keep.ite ?_ ?_
  · exact Keep.refl _ _
  · refine Keep.step (modJob_keep _ _ _) rfl ?_
    exact Keep.refl _ _

theorem clearJob_keep (a0) (a1) : Keep 65536 a1 (clearJob a0 a1) := by
  unfold clearJob
  refine Keep.ite ?_ ?_
  · exact Keep.refl _ _
  · refine Keep.step (modJob_keep _ _ _) rfl ?_
    exact Keep.refl _ _

theorem execJobStart_keep (a0) (a1) (a2) : ∃ t, execJobStart a0 a1 a2 = .next t ∧ Keep 6414856 a2 t := by
  unfold execJobStart
  refine ⟨_, rfl, ?_⟩
  refine Keep.ite ?_ ?_
  · refine Keep.step (startJob_keep _ _ _) rfl ?_
    exact Keep.refl _ _
  · exact Keep.refl _ _

theorem execJobEnd_keep (a0) (a1) (a2) : ∃ t, execJobEnd a0 a1 a2 = .next t ∧ Keep 6415356 a2 t := by
  unfold execJobEnd
  refine ⟨_, rfl, ?_⟩
  refine Keep.ite ?_ ?_
  · refine Keep.step (endJob_keep _ _ _) rfl ?_
    exact Keep.refl _ _
  · exact Keep.refl _ _

theorem execJobEndComplete_keep (a0) (a1) : ∃ t, execJobEndComplete a0 a1 = .next t ∧ Keep 65536 a1 t := by
  unfold execJobEndComplete
  refine ⟨_, rfl, ?_⟩
  refine Keep.ite ?_ ?_
  · exact Keep.refl _ _
  · refine Keep.step (jobEnded_keep _ _) rfl ?_
    exact Keep.refl _ _

theorem execJobClear_keep (a0) (a1) (a2) : ∃ t, execJobClear a0 a1 a2 = .next t ∧ Keep 65536 a2 t := by
  unfold execJobClear
  refine ⟨_, rfl, ?_⟩
  refine Keep.ite ?_ ?_
  · refine Keep.step (clearJob_keep _ _) rfl ?_
    exact Keep.refl _ _
  · exact Keep.refl _ _

theorem flashRefuse_keep (a0) : Keep 131072 a0 (flashRefuse a0) := by
  unfold flashRefuse
  refine Keep.step (modBoot_keep _ _ (fun _ => Nat.le_refl _)) rfl ?_
  exact Keep.refl _ _

theorem flashRead_keep (a0) : Keep 131072 a0 (flashRead a0) := by
  unfold flashRead
  refine Keep.ite ?_ ?_
  · refine Keep.step (flashRefuse_keep _) rfl ?_
    exact Keep.refl _ _
  · extract_lets -merge -underBinder +onlyGivenNames z1 z2
    refine Keep.step (modBoot_keep _ _ (fun _ => Nat.le_refl _)) rfl ?_
    exact Keep.refl _ _

theorem flashStart_keep (a0) (a1) (a2) : Keep 131072 a2 (flashStart a0 a1 a2) := by
  unfold flashStart
  extract_lets -merge -underBinder +onlyGivenNames z1
  refine Keep.ite ?_ ?_
  · refine Keep.step (flashRefuse_keep _) rfl ?_
    exact Keep.refl _ _
  · refine Keep.step (modBoot_keep _ _ (fun _ => Nat.le_refl _)) rfl ?_
    exact Keep.refl _ _

theorem execFlashReadPage_keep (a0) (a1) : ∃ t, execFlashReadPage a0 a1 = .next t ∧ Keep 229376 a1 t := by
  unfold execFlashReadPage
  refine ⟨_, rfl, ?_⟩
  refine Keep.iWrite (m := 229376) rfl ?_ ?_
  · intro y1
    refine Keep.step (flashRead_keep _) rfl ?_
    exact Keep.refl _ _
  · exact Keep.refl _ _

theorem execFlashProgram_keep (a0) (a1) : ∃ t, execFlashProgram a0 a1 = .next t ∧ Keep 229376 a1 t := by
  unfold execFlashProgram
  refine ⟨_, rfl, ?_⟩
  refine Keep.iWrite (m := 229376) rfl ?_ ?_
  · intro y1
    refine Keep.step (flashStart_keep _ _ _) rfl ?_
    exact Keep.refl _ _
  · exact Keep.refl _ _

theorem execFlashErase_keep (a0) (a1) : ∃ t, execFlashErase a0 a1 = .next t ∧ Keep 229376 a1 t := by
  unfold execFlashErase
  refine ⟨_, rfl, ?_⟩
  refine Keep.iWrite (m := 229376) rfl ?_ ?_
  · intro y1
    refine Keep.step (flashStart_keep _ _ _) rfl ?_
    exact Keep.refl _ _
  · exact Keep.refl _ _

theorem flashFailed_keep (a0) (a1) (a2) (a3) : Keep 131088 a3 (flashFailed a0 a1 a2 a3) := by
  unfold flashFailed
  refine Keep.foldl ?_ _ ?_
  · intro y1 x2
    extract_lets -merge -underBinder +onlyGivenNames z3 z4 z5
    refine Keep.step (modMem_keep _ _ (fun _ w => w)) rfl ?_
    refine Keep.step (modBoot_keep _ _ (fun _ => Nat.le_refl _)) rfl ?_
    exact Keep.refl _ _
  · exact Keep.refl _ _

theorem flashDone_keep (a0) (a1) : Keep 131088 a1 (flashDone a0 a1) := by
  unfold flashDone
  refine Keep.ite ?_ ?_
  · exact Keep.refl _ _
  · extract_lets -merge -underBinder +onlyGivenNames z1 z2
    have hz2 : Keep 131088 a1 z2 := by
      unfold z2
      refine Keep.ite ?_ ?_
      · refine Keep.step (flashFailed_keep _ _ _ _) rfl ?_
        exact Keep.refl _ _
      · refine Keep.ite ?_ ?_
        · refine Keep.foldl ?_ _ ?_
          · intro y3 x4
            refine Keep.step (programByte_keep _ _ _) rfl ?_
            exact Keep.refl _ _
          · exact Keep.refl _ _
        · refine Keep.step (eraseFlash_keep _ _ _) rfl ?_
          exact Keep.refl _ _
    clear_value z2
    refine Keep.step (modBoot_keep _ _ (fun _ => Nat.le_refl _)) rfl ?_
    exact hz2

theorem execFlashOpComplete_keep (a0) (a1) : ∃ t, execFlashOpComplete a0 a1 = .next t ∧ Keep 131088 a1 t := by
  unfold execFlashOpComplete
  refine ⟨_, rfl, ?_⟩
  refine Keep.step (flashDone_keep _ _) rfl ?_
  exact Keep.refl _ _

theorem archive_keep (a0) (a1) : Keep 2310144 a1 (archive a0 a1) := by
  unfold archive
  refine Keep.ite ?_ ?_
  · exact Keep.refl _ _
  · refine Keep.ite ?_ ?_
    · extract_lets -merge -underBinder +onlyGivenNames z1 z2
      have hz2 : Keep 2310144 a1 z2 := by
        unfold z2
        refine Keep.step (modRole_keep _ _ (fun _ => List.prefix_rfl)) rfl ?_
        exact Keep.refl _ _
      clear_value z2
      refine Keep.ite ?_ ?_
      · refine Keep.step (raise_keep _ _ _ _ _) rfl ?_
        exact hz2
      · exact hz2
    · extract_lets -merge -underBinder +onlyGivenNames z3 z4 z5 z6
      have hz5 : Keep 2310144 a1 z5 := by
        unfold z5
        refine Keep.ite ?_ ?_
        · refine Keep.step (eraseFlash_keep _ _ _) rfl ?_
          exact Keep.refl _ _
        · exact Keep.refl _ _
      clear_value z5
      have hz6 : Keep 2310144 a1 z6 := by
        unfold z6
        split
        · refine Keep.step (writeFlash_keep _ _ _) rfl ?_
          exact hz5
        · exact hz5
      clear_value z6
      refine Keep.step (modRole_keep _ _ (fun _ => List.prefix_rfl)) rfl ?_
      exact hz6

theorem execAuditArchive_keep (a0) (a1) : ∃ t, execAuditArchive a0 a1 = .next t ∧ Keep 2310144 a1 t := by
  unfold execAuditArchive
  refine ⟨_, rfl, ?_⟩
  refine Keep.step (archive_keep _ _) rfl ?_
  exact Keep.refl _ _

theorem beginAnswer_keep (a0) (a1) (a2) (a3) : Keep 4194304 a3 (beginAnswer a0 a1 a2 a3) := by
  unfold beginAnswer
  refine Keep.step (emit_keep _ _) rfl ?_
  exact Keep.refl _ _

theorem beginSlot_keep (a0) (a1) (a2) (a3) (a4) (a5) : Keep 131072 a5 (beginSlot a0 a1 a2 a3 a4 a5) := by
  unfold beginSlot
  extract_lets -merge -underBinder +onlyGivenNames z1 z2
  have hz2 : Keep 131072 a5 z2 := by
    unfold z2
    refine Keep.step (modSlot_keep _ _ _) rfl ?_
    exact Keep.refl _ _
  clear_value z2
  refine Keep.step (newHeader_keep _) rfl ?_
  refine Keep.step (modBoot_keep _ _ (fun _ => Nat.le_refl _)) rfl ?_
  exact hz2

theorem updBegin_keep (a0) (a1) (a2) (a3) (a4) (a5) (a6) (a7) : Keep 4325376 a7 (updBegin a0 a1 a2 a3 a4 a5 a6 a7) := by
  unfold updBegin
  refine Keep.ite ?_ ?_
  · exact Keep.refl _ _
  · refine Keep.ite ?_ ?_
    · refine Keep.step (beginAnswer_keep _ _ _ _) rfl ?_
      exact Keep.refl _ _
    · refine Keep.ite ?_ ?_
      · refine Keep.step (beginAnswer_keep _ _ _ _) rfl ?_
        exact Keep.refl _ _
      · refine Keep.ite ?_ ?_
        · refine Keep.step (beginAnswer_keep _ _ _ _) rfl ?_
          exact Keep.refl _ _
        · refine Keep.ite ?_ ?_
          · refine Keep.step (beginAnswer_keep _ _ _ _) rfl ?_
            exact Keep.refl _ _
          · refine Keep.ite ?_ ?_
            · refine Keep.step (beginAnswer_keep _ _ _ _) rfl ?_
              exact Keep.refl _ _
            · refine Keep.step (beginAnswer_keep _ _ _ _) rfl ?_
              refine Keep.step (beginSlot_keep _ _ _ _ _ _) rfl ?_
              exact Keep.refl _ _

theorem execUpdBegin_keep (a0) (a1) (a2) (a3) (a4) (a5) (a6) (a7) : ∃ t, execUpdBegin a0 a1 a2 a3 a4 a5 a6 a7 = .next t ∧ Keep 4325376 a7 t := by
  unfold execUpdBegin
  refine ⟨_, rfl, ?_⟩
  refine Keep.step (updBegin_keep _ _ _ _ _ _ _ _) rfl ?_
  exact Keep.refl _ _

theorem takePiece_keep (a0) (a1) (a2) (a3) : Keep 131072 a3 (takePiece a0 a1 a2 a3) := by
  unfold takePiece
  extract_lets -merge -underBinder +onlyGivenNames z1 z2 z3 z4 z5
  have hz2 : Keep 131072 a3 z2 := by
    unfold z2
    refine Keep.step (eraseFlash_keep _ _ _) rfl ?_
    exact Keep.refl _ _
  clear_value z2
  have hz3 : Keep 131072 a3 z3 := by
    unfold z3
    refine Keep.step (writeFlash_keep _ _ _) rfl ?_
    exact hz2
  clear_value z3
  have hz4 : Keep 131072 a3 z4 := by
    unfold z4
    refine Keep.step (writeFlash_keep _ _ _) rfl ?_
    exact hz3
  clear_value z4
  have hz5 : Keep 131072 a3 z5 := by
    unfold z5
    refine Keep.step (modSlot_keep _ _ _) rfl ?_
    exact hz4
  clear_value z5
  refine Keep.ite ?_ ?_
  · refine Keep.step (newHeader_keep _) rfl ?_
    refine Keep.step (modBoot_keep _ _ (fun _ => Nat.le_refl _)) rfl ?_
    refine Keep.step (modSlot_keep _ _ _) rfl ?_
    exact hz5
  · exact hz5

theorem pieceAnswer_keep (a0) (a1) (a2) (a3) (a4) : Keep 4194304 a4 (pieceAnswer a0 a1 a2 a3 a4) := by
  unfold pieceAnswer
  refine Keep.step (emit_keep _ _) rfl ?_
  exact Keep.refl _ _

theorem updPiece_keep (a0) (a1) (a2) (a3) (a4) (a5) (a6) (a7) : Keep 4341760 a7 (updPiece a0 a1 a2 a3 a4 a5 a6 a7) := by
  unfold updPiece
  extract_lets -merge -underBinder +onlyGivenNames z1
  refine Keep.ite ?_ ?_
  · exact Keep.refl _ _
  · refine Keep.ite ?_ ?_
    · refine Keep.step (pieceAnswer_keep _ _ _ _ _) rfl ?_
      exact Keep.refl _ _
    · refine Keep.ite ?_ ?_
      · refine Keep.step (pieceAnswer_keep _ _ _ _ _) rfl ?_
        exact Keep.refl _ _
      · refine Keep.ite ?_ ?_
        · refine Keep.step (pieceAnswer_keep _ _ _ _ _) rfl ?_
          exact Keep.refl _ _
        · refine Keep.ite ?_ ?_
          · refine Keep.step (pieceAnswer_keep _ _ _ _ _) rfl ?_
            refine Keep.step (raiseRated_keep _ _ _ _ _ _ _) rfl ?_
            exact Keep.refl _ _
          · refine Keep.ite ?_ ?_
            · refine Keep.step (pieceAnswer_keep _ _ _ _ _) rfl ?_
              exact Keep.refl _ _
            · refine Keep.ite ?_ ?_
              · refine Keep.step (pieceAnswer_keep _ _ _ _ _) rfl ?_
                exact Keep.refl _ _
              · refine Keep.step (pieceAnswer_keep _ _ _ _ _) rfl ?_
                refine Keep.step (takePiece_keep _ _ _ _) rfl ?_
                exact Keep.refl _ _

theorem execUpdPiece_keep (a0) (a1) (a2) (a3) (a4) (a5) (a6) (a7) : ∃ t, execUpdPiece a0 a1 a2 a3 a4 a5 a6 a7 = .next t ∧ Keep 4341760 a7 t := by
  unfold execUpdPiece
  refine ⟨_, rfl, ?_⟩
  refine Keep.step (updPiece_keep _ _ _ _ _ _ _ _) rfl ?_
  exact Keep.refl _ _

theorem execUpdQuery_keep (a0) (a1) : ∃ t, execUpdQuery a0 a1 = .next t ∧ Keep 4194304 a1 t := by
  unfold execUpdQuery
  refine ⟨_, rfl, ?_⟩
  refine Keep.ite ?_ ?_
  · refine Keep.step (emit_keep _ _) rfl ?_
    exact Keep.refl _ _
  · exact Keep.refl _ _

theorem abortSlot_keep (a0) : Keep 131072 a0 (abortSlot a0) := by
  unfold abortSlot
  refine Keep.ite ?_ ?_
  · refine Keep.step (newHeader_keep _) rfl ?_
    refine Keep.step (modBoot_keep _ _ (fun _ => Nat.le_refl _)) rfl ?_
    refine Keep.step (modSlot_keep _ _ _) rfl ?_
    exact Keep.refl _ _
  · exact Keep.refl _ _

theorem execUpdAbort_keep (a0) (a1) (a2) : ∃ t, execUpdAbort a0 a1 a2 = .next t ∧ Keep 131072 a2 t := by
  unfold execUpdAbort
  refine ⟨_, rfl, ?_⟩
  refine Keep.ite ?_ ?_
  · refine Keep.step (abortSlot_keep _) rfl ?_
    exact Keep.refl _ _
  · exact Keep.refl _ _

theorem execUpdCtrlAbort_keep (a0) (a1) : ∃ t, execUpdCtrlAbort a0 a1 = .next t ∧ Keep 229376 a1 t := by
  unfold execUpdCtrlAbort
  refine ⟨_, rfl, ?_⟩
  refine Keep.iWrite (m := 229376) rfl ?_ ?_
  · intro y1
    refine Keep.step (abortSlot_keep _) rfl ?_
    exact Keep.refl _ _
  · exact Keep.refl _ _

theorem activate_keep (a0) (a1) : Keep 131072 a1 (activate a0 a1) := by
  unfold activate
  extract_lets -merge -underBinder +onlyGivenNames z1
  refine Keep.ite ?_ ?_
  · exact Keep.refl _ _
  · refine Keep.step (modBoot_keep _ _ (fun _ => Nat.le_refl _)) rfl ?_
    exact Keep.refl _ _

theorem execUpdActivate_keep (a0) (a1) : ∃ t, execUpdActivate a0 a1 = .next t ∧ Keep 229376 a1 t := by
  unfold execUpdActivate
  refine ⟨_, rfl, ?_⟩
  refine Keep.iWrite (m := 229376) rfl ?_ ?_
  · intro y1
    refine Keep.step (activate_keep _ _) rfl ?_
    exact Keep.refl _ _
  · exact Keep.refl _ _

theorem activated_keep (a0) (a1) : Keep 2342912 a1 (activated a0 a1) := by
  unfold activated
  split
  · exact Keep.refl _ _
  · refine Keep.ite ?_ ?_
    · exact Keep.refl _ _
    · extract_lets -merge -underBinder +onlyGivenNames z3 z4 z5
      have hz5 : Keep 2342912 a1 z5 := by
        unfold z5
        refine Keep.step (newHeader_keep _) rfl ?_
        refine Keep.step (modBoot_keep _ _ (fun _ => Nat.le_refl _)) rfl ?_
        exact Keep.refl _ _
      clear_value z5
      refine Keep.ite ?_ ?_
      · extract_lets -merge -underBinder +onlyGivenNames z6
        have hz6 : Keep 2342912 a1 z6 := by
          unfold z6
          refine Keep.step (modBoot_keep _ _ (fun _ => Nat.le_refl _)) rfl ?_
          refine Keep.step (modSlot_keep _ _ _) rfl ?_
          exact hz5
        clear_value z6
        refine Keep.step (audit_keep _ _ _ _ _) rfl ?_
        exact hz6
      · refine Keep.step (raise_keep _ _ _ _ _) rfl ?_
        refine Keep.step (modBoot_keep _ _ (fun _ => Nat.le_refl _)) rfl ?_
        refine Keep.step (modSlot_keep _ _ _) rfl ?_
        exact hz5

theorem execActivationComplete_keep (a0) (a1) : ∃ t, execActivationComplete a0 a1 = .next t ∧ Keep 2342912 a1 t := by
  unfold execActivationComplete
  refine ⟨_, rfl, ?_⟩
  refine Keep.step (activated_keep _ _) rfl ?_
  exact Keep.refl _ _

theorem openSession_keep (a0) (a1) (a2) (a3) (a4) : Keep 4259840 a4 (openSession a0 a1 a2 a3 a4) := by
  unfold openSession
  refine Keep.step (emit_keep _ _) rfl ?_
  refine Keep.step (modRole_keep _ _ (fun _ => List.prefix_rfl)) rfl ?_
  exact Keep.refl _ _

theorem keyExchange_keep (a0) (a1) (a2) (a3) : Keep 4423680 a3 (keyExchange a0 a1 a2 a3) := by
  unfold keyExchange
  refine Keep.ite ?_ ?_
  · exact Keep.refl _ _
  · split
    · refine Keep.step (emit_keep _ _) rfl ?_
      exact Keep.refl _ _
    · refine Keep.ite ?_ ?_
      · refine Keep.step (emit_keep _ _) rfl ?_
        exact Keep.refl _ _
      · refine Keep.ite ?_ ?_
        · extract_lets -merge -underBinder +onlyGivenNames z3 z4 z5
          have hz4 : Keep 4423680 a3 z4 := by
            unfold z4
            refine Keep.step (modRole_keep _ _ (fun _ => List.prefix_append _ _)) rfl ?_
            exact Keep.refl _ _
          clear_value z4
          have hz5 : Keep 4423680 a3 z5 := by
            unfold z5
            refine Keep.step (openSession_keep _ _ _ _ _) rfl ?_
            refine Keep.step (modBoot_keep _ _ (fun _ => Nat.le_refl _)) rfl ?_
            exact hz4
          clear_value z5
          refine Keep.step (audit_keep _ _ _ _ _) rfl ?_
          exact hz5
        · refine Keep.ite ?_ ?_
          · refine Keep.step (openSession_keep _ _ _ _ _) rfl ?_
            exact Keep.refl _ _
          · refine Keep.step (emit_keep _ _) rfl ?_
            exact Keep.refl _ _

theorem execKeyExchange_keep (a0) (a1) (a2) (a3) : ∃ t, execKeyExchange a0 a1 a2 a3 = .next t ∧ Keep 4423680 a3 t := by
  unfold execKeyExchange
  refine ⟨_, rfl, ?_⟩
  refine Keep.step (keyExchange_keep _ _ _ _) rfl ?_
  exact Keep.refl _ _

theorem closeSession_keep (a0) (a1) : Keep 327680 a1 (closeSession a0 a1) := by
  unfold closeSession
  refine Keep.step (modCsp_keep _ _) rfl ?_
  refine Keep.step (modRole_keep _ _ (fun _ => List.prefix_rfl)) rfl ?_
  exact Keep.refl _ _

theorem execEndSession_keep (a0) (a1) : ∃ t, execEndSession a0 a1 = .next t ∧ Keep 4521984 a1 t := by
  unfold execEndSession
  refine ⟨_, rfl, ?_⟩
  refine Keep.ite ?_ ?_
  · refine Keep.step (emit_keep _ _) rfl ?_
    refine Keep.step (closeSession_keep _ _) rfl ?_
    exact Keep.refl _ _
  · exact Keep.refl _ _

theorem execSessionHeartbeatMiss_keep (a0) (a1) : ∃ t, execSessionHeartbeatMiss a0 a1 = .next t ∧ Keep 327680 a1 t := by
  unfold execSessionHeartbeatMiss
  refine ⟨_, rfl, ?_⟩
  split
  · exact Keep.refl _ _
  · refine Keep.ite ?_ ?_
    · exact Keep.refl _ _
    · refine Keep.step (closeSession_keep _ _) rfl ?_
      exact Keep.refl _ _

theorem spdmRequest_keep (a0) (a1) (a2) : Keep 4259840 a2 (spdmRequest a0 a1 a2) := by
  unfold spdmRequest
  extract_lets -merge -underBinder +onlyGivenNames z1
  refine Keep.ite ?_ ?_
  · exact Keep.refl _ _
  · refine Keep.ite ?_ ?_
    · refine Keep.step (emit_keep _ _) rfl ?_
      exact Keep.refl _ _
    · extract_lets -merge -underBinder +onlyGivenNames z2 z3
      have hz3 : Keep 4259840 a2 z3 := by
        unfold z3
        refine Keep.ite ?_ ?_
        · refine Keep.step (modRole_keep _ _ (fun _ => List.prefix_rfl)) rfl ?_
          exact Keep.refl _ _
        · exact Keep.refl _ _
      clear_value z3
      refine Keep.step (emit_keep _ _) rfl ?_
      exact hz3

theorem execSpdmRequest_keep (a0) (a1) (a2) : ∃ t, execSpdmRequest a0 a1 a2 = .next t ∧ Keep 4259840 a2 t := by
  unfold execSpdmRequest
  refine ⟨_, rfl, ?_⟩
  refine Keep.step (spdmRequest_keep _ _ _) rfl ?_
  exact Keep.refl _ _

theorem execRoleReenrolArm_keep (a0) (a1) : ∃ t, execRoleReenrolArm a0 a1 = .next t ∧ Keep 98304 a1 t := by
  unfold execRoleReenrolArm
  refine ⟨_, rfl, ?_⟩
  refine Keep.ite ?_ ?_
  · exact Keep.refl _ _
  · refine Keep.iWrite (m := 98304) rfl ?_ ?_
    · intro y1
      refine Keep.step (modRole_keep _ _ (fun _ => List.prefix_rfl)) rfl ?_
      exact Keep.refl _ _
    · exact Keep.refl _ _

theorem facEnter_keep (a0) (a1) (a2) : Keep 2211840 a2 (facEnter a0 a1 a2) := by
  unfold facEnter
  extract_lets -merge -underBinder +onlyGivenNames z1 z2
  have hz1 : Keep 2211840 a2 z1 := by
    unfold z1
    refine Keep.step (modPins_keep _ _) rfl ?_
    exact Keep.refl _ _
  clear_value z1
  refine Keep.ite ?_ ?_
  · exact hz1
  · extract_lets -merge -underBinder +onlyGivenNames z3
    have hz3 : Keep 2211840 a2 z3 := by
      unfold z3
      refine Keep.step (modRole_keep _ _ (fun _ => List.prefix_rfl)) rfl ?_
      exact hz1
    clear_value z3
    refine Keep.step (raise_keep _ _ _ _ _) rfl ?_
    refine Keep.step (audit_keep _ _ _ _ _) rfl ?_
    refine Keep.step (audit_keep _ _ _ _ _) rfl ?_
    exact hz3

theorem execFacModeEnter_keep (a0) (a1) (a2) : ∃ t, execFacModeEnter a0 a1 a2 = .next t ∧ Keep 2211840 a2 t := by
  unfold execFacModeEnter
  refine ⟨_, rfl, ?_⟩
  refine Keep.step (facEnter_keep _ _ _) rfl ?_
  exact Keep.refl _ _

theorem failWaiting_keep (a0) (a1) (a2) : Keep 2114552 a2 (failWaiting a0 a1 a2) := by
  unfold failWaiting
  refine Keep.ite ?_ ?_
  · refine Keep.step (failHome_keep _ _ _) rfl ?_
    exact Keep.refl _ _
  · split
    · exact Keep.refl _ _
    · refine Keep.ite ?_ ?_
      · exact Keep.refl _ _
      · refine Keep.step (releaseSlot_keep _ _ _) rfl ?_
        refine Keep.step (failNow_keep _ _ _ _) rfl ?_
        exact Keep.refl _ _

theorem failMsg_keep (a0) (a1) (a2) : Keep 2114552 a2 (failMsg a0 a1 a2) := by
  unfold failMsg
  split
  · refine Keep.step (failWaiting_keep _ _ _) rfl ?_
    exact Keep.refl _ _
  · refine Keep.step (releaseMgt_keep _ _) rfl ?_
    refine Keep.step (siteDeliver_keep _ _ _ _) rfl ?_
    exact Keep.refl _ _
  · refine Keep.step (releaseMgt_keep _ _) rfl ?_
    refine Keep.step (siteDeliver_keep _ _ _ _) rfl ?_
    exact Keep.refl _ _
  · exact Keep.refl _ _

theorem pairFlush_keep (a0) (a1) (a2) : Keep 2114552 a2 (pairFlush a0 a1 a2) := by
  unfold pairFlush
  extract_lets -merge -underBinder +onlyGivenNames z1 z2 z3 z4 z5 z6 z7 z8
  have hz8 : Keep 2114552 a2 z8 := by
    unfold z8
    refine Keep.step (modMrc_keep _ _) rfl ?_
    exact Keep.refl _ _
  clear_value z8
  refine Keep.foldl ?_ _ ?_
  · intro y9 x10
    refine Keep.step (failMsg_keep _ _ _) rfl ?_
    exact Keep.refl _ _
  · exact hz8

theorem stationFlush_keep (a0) (a1) : Keep 2114552 a1 (stationFlush a0 a1) := by
  unfold stationFlush
  refine Keep.foldl ?_ _ ?_
  · intro y1 x2
    refine Keep.step (pairFlush_keep _ _ _) rfl ?_
    refine Keep.step (pairFlush_keep _ _ _) rfl ?_
    exact Keep.refl _ _
  · exact Keep.refl _ _

theorem fenceNotice_keep (a0) (a1) (a2) : Keep 4194304 a2 (fenceNotice a0 a1 a2) := by
  unfold fenceNotice
  extract_lets -merge -underBinder +onlyGivenNames z1 z2
  have hz2 : Keep 4194304 a2 z2 := by
    unfold z2
    refine Keep.step (emit_keep _ _) rfl ?_
    exact Keep.refl _ _
  clear_value z2
  refine Keep.ite ?_ ?_
  · refine Keep.foldl ?_ _ ?_
    · intro y3 x4
      refine Keep.step (emit_keep _ _) rfl ?_
      exact Keep.refl _ _
    · exact hz2
  · exact hz2

theorem siteOff_keep (a0) (a1) : Keep 6570840 a1 (siteOff a0 a1) := by
  unfold siteOff
  refine Keep.ite ?_ ?_
  · exact Keep.refl _ _
  · extract_lets -merge -underBinder +onlyGivenNames z1
    have hz1 : Keep 6570840 a1 z1 := by
      unfold z1
      refine Keep.step (modSite_keep _ _ _) rfl ?_
      exact Keep.refl _ _
    clear_value z1
    refine Keep.step (mstSiteFenced_keep _ _) rfl ?_
    refine Keep.step (sitePowerDown_keep _ _ _) rfl ?_
    refine Keep.step (fenceNotice_keep _ _ _) rfl ?_
    exact hz1

theorem failQueue_keep (a0) (a1) : Keep 2114552 a1 (failQueue a0 a1) := by
  unfold failQueue
  extract_lets -merge -underBinder +onlyGivenNames z1
  refine Keep.foldl ?_ _ ?_
  · intro y2 x3
    refine Keep.ite ?_ ?_
    · refine Keep.step (failWaiting_keep _ _ _) rfl ?_
      exact Keep.refl _ _
    · refine Keep.step (failHome_keep _ _ _) rfl ?_
      exact Keep.refl _ _
  · refine Keep.step (modMs_keep _ _ _) rfl ?_
    exact Keep.refl _ _

theorem memOff_keep (a0) (a1) : Keep 2114552 a1 (memOff a0 a1) := by
  unfold memOff
  refine Keep.step (failQueue_keep _ _) rfl ?_
  refine Keep.step (dropAllReplicas_keep _) rfl ?_
  refine Keep.step (modMs_keep _ _ _) rfl ?_
  exact Keep.refl _ _

theorem linkOff_keep (a0) (a1) : Keep 1049600 a1 (linkOff a0 a1) := by
  unfold linkOff
  refine Keep.step (modPodLink_keep _ _ _) rfl ?_
  refine Keep.step (linkDrop_keep _ _) rfl ?_
  exact Keep.refl _ _

theorem gripOff_keep (a0) (a1) : Keep 128 a1 (gripOff a0 a1) := by
  unfold gripOff
  refine Keep.foldl ?_ _ ?_
  · intro y1 x2
    refine Keep.ite ?_ ?_
    · extract_lets -merge -underBinder +onlyGivenNames z3
      refine Keep.step (modGrp_keep _ _) rfl ?_
      exact Keep.refl _ _
    · exact Keep.refl _ _
  · exact Keep.refl _ _

theorem coreOff_keep (a0) (a1) : Keep 2113600 a1 (coreOff a0 a1) := by
  unfold coreOff
  extract_lets -merge -underBinder +onlyGivenNames z1
  have hz1 : Keep 2113600 a1 z1 := by
    unfold z1
    refine Keep.step (modMpd_keep _ _) rfl ?_
    exact Keep.refl _ _
  clear_value z1
  refine Keep.ite ?_ ?_
  · exact hz1
  · refine Keep.step (enterSafe_keep _) rfl ?_
    exact hz1

theorem elemOff_keep (a0) (a1) : Keep 7359516 a1 (elemOff a0 a1) := by
  unfold elemOff
  refine Keep.ite ?_ ?_
  · exact Keep.refl _ _
  · refine Keep.step (elemEffect_keep _ _) rfl ?_
    refine Keep.step (modElem_keep _ _ _) rfl ?_
    exact Keep.refl _ _

theorem stationOff_keep (a0) (a1) : Keep 7653372 a1 (stationOff a0 a1) := by
  unfold stationOff
  extract_lets -merge -underBinder +onlyGivenNames z1
  have hz1 : Keep 7653372 a1 z1 := by
    unfold z1
    refine Keep.step (stationFlush_keep _ _) rfl ?_
    exact Keep.refl _ _
  clear_value z1
  split
  · refine Keep.step (siteOff_keep _ _) rfl ?_
    exact hz1
  · refine Keep.step (memOff_keep _ _) rfl ?_
    exact hz1
  · refine Keep.foldl ?_ _ ?_
    · intro y5 x6
      refine Keep.step (linkOff_keep _ _) rfl ?_
      exact Keep.refl _ _
    · exact hz1
  · refine Keep.step (mstFence_keep _ _) rfl ?_
    exact hz1

theorem fenceEffect_keep (a0) (a1) : Keep 7655420 a1 (fenceEffect a0 a1) := by
  unfold fenceEffect
  extract_lets -merge -underBinder +onlyGivenNames z1
  refine Keep.ite ?_ ?_
  · refine Keep.step (siteOff_keep _ _) rfl ?_
    exact Keep.refl _ _
  · refine Keep.ite ?_ ?_
    · refine Keep.ite ?_ ?_
      · exact Keep.refl _ _
      · refine Keep.step (lambdaOut_keep _ _ _) rfl ?_
        exact Keep.refl _ _
    · refine Keep.ite ?_ ?_
      · refine Keep.step (pairFlush_keep _ _ _) rfl ?_
        exact Keep.refl _ _
      · refine Keep.ite ?_ ?_
        · refine Keep.step (stationOff_keep _ _) rfl ?_
          exact Keep.refl _ _
        · refine Keep.ite ?_ ?_
          · refine Keep.step (memOff_keep _ _) rfl ?_
            exact Keep.refl _ _
          · refine Keep.ite ?_ ?_
            · refine Keep.step (laneDrop_keep _ _ _ _) rfl ?_
              exact Keep.refl _ _
            · refine Keep.ite ?_ ?_
              · refine Keep.step (linkOff_keep _ _) rfl ?_
                exact Keep.refl _ _
              · refine Keep.ite ?_ ?_
                · refine Keep.step (mstFence_keep _ _) rfl ?_
                  exact Keep.refl _ _
                · refine Keep.ite ?_ ?_
                  · refine Keep.step (gripOff_keep _ _) rfl ?_
                    exact Keep.refl _ _
                  · refine Keep.ite ?_ ?_
                    · refine Keep.step (stopWatches_keep _ _) rfl ?_
                      exact Keep.refl _ _
                    · refine Keep.ite ?_ ?_
                      · refine Keep.ite ?_ ?_
                        · exact Keep.refl _ _
                        · refine Keep.step (feedGone_keep _ _) rfl ?_
                          exact Keep.refl _ _
                      · refine Keep.ite ?_ ?_
                        · refine Keep.step (elemOff_keep _ _) rfl ?_
                          exact Keep.refl _ _
                        · refine Keep.ite ?_ ?_
                          · refine Keep.step (coreOff_keep _ _) rfl ?_
                            exact Keep.refl _ _
                          · exact Keep.refl _ _

theorem memBack_keep (a0) (a1) : Keep 16 a1 (memBack a0 a1) := by
  unfold memBack
  extract_lets -merge -underBinder +onlyGivenNames z1
  refine Keep.step (modMs_keep _ _ _) rfl ?_
  refine Keep.step (modMem_keep _ _ (by intro x w; first | exact lineSet_wf _ _ _ _ w | exact wordSet_wf _ _ _ w | exact cellsClear_wf _ _ _ w | exact filter_wf _ _ w)) rfl ?_
  exact Keep.refl _ _

theorem bankBack_keep (a0) (a1) : Keep 144 a1 (bankBack a0 a1) := by
  unfold bankBack
  extract_lets -merge -underBinder +onlyGivenNames z1
  refine Keep.step (resumeWatches_keep _ _) rfl ?_
  refine Keep.step (modMem_keep _ _ (by intro x w; first | exact lineSet_wf _ _ _ _ w | exact wordSet_wf _ _ _ w | exact cellsClear_wf _ _ _ w | exact filter_wf _ _ w)) rfl ?_
  exact Keep.refl _ _

theorem liftInside_keep (a0) (a1) : Keep 2113536 a1 (liftInside a0 a1) := by
  unfold liftInside
  refine Keep.foldl ?_ _ ?_
  · intro y1 x2
    refine Keep.step (liftFence_keep _ _) rfl ?_
    exact Keep.refl _ _
  · exact Keep.refl _ _

theorem retryRole_keep (a0) (a1) (a2) : Keep 16384 a2 (retryRole a0 a1 a2) := by
  unfold retryRole
  refine Keep.foldl ?_ _ ?_
  · intro y1 x2
    refine Keep.step (modEntry_keep _ _ _) rfl ?_
    exact Keep.refl _ _
  · exact Keep.refl _ _

theorem unitBack_keep (a0) (a1) : Keep 6315928 a1 (unitBack a0 a1) := by
  unfold unitBack
  extract_lets -merge -underBinder +onlyGivenNames z1
  refine Keep.ite ?_ ?_
  · refine Keep.step (liftInside_keep _ _) rfl ?_
    exact Keep.refl _ _
  · refine Keep.ite ?_ ?_
    · extract_lets -merge -underBinder +onlyGivenNames z2
      have hz2 : Keep 6315928 a1 z2 := by
        unfold z2
        refine Keep.step (lambdaBack_keep _ _ _) rfl ?_
        exact Keep.refl _ _
      clear_value z2
      split
      · refine Keep.step (liftFence_keep _ _) rfl ?_
        exact hz2
      · exact hz2
    · refine Keep.ite ?_ ?_
      · refine Keep.step (modMrc_keep _ _) rfl ?_
        exact Keep.refl _ _
      · refine Keep.ite ?_ ?_
        · split
          · refine Keep.ite ?_ ?_
            · refine Keep.step (modSite_keep _ _ _) rfl ?_
              exact Keep.refl _ _
            · exact Keep.refl _ _
          · refine Keep.ite ?_ ?_
            · exact Keep.refl _ _
            · refine Keep.step (memBack_keep _ _) rfl ?_
              exact Keep.refl _ _
          · refine Keep.foldl ?_ _ ?_
            · intro y8 x9
              refine Keep.ite ?_ ?_
              · exact Keep.refl _ _
              · refine Keep.step (modPodLink_keep _ _ _) rfl ?_
                exact Keep.refl _ _
            · exact Keep.refl _ _
          · refine Keep.ite ?_ ?_
            · exact Keep.refl _ _
            · refine Keep.step (mstReturn_keep _ _) rfl ?_
              exact Keep.refl _ _
        · refine Keep.ite ?_ ?_
          · refine Keep.step (memBack_keep _ _) rfl ?_
            exact Keep.refl _ _
          · refine Keep.ite ?_ ?_
            · refine Keep.step (laneRejoin_keep _ _ _) rfl ?_
              exact Keep.refl _ _
            · refine Keep.ite ?_ ?_
              · refine Keep.step (liftInside_keep _ _) rfl ?_
                exact Keep.refl _ _
              · refine Keep.ite ?_ ?_
                · refine Keep.step (mstReturn_keep _ _) rfl ?_
                  exact Keep.refl _ _
                · refine Keep.ite ?_ ?_
                  · refine Keep.step (bankBack_keep _ _) rfl ?_
                    exact Keep.refl _ _
                  · refine Keep.ite ?_ ?_
                    · extract_lets -merge -underBinder +onlyGivenNames z11
                      have hz11 : Keep 6315928 a1 z11 := by
                        unfold z11
                        refine Keep.step (feedReturn_keep _ _) rfl ?_
                        exact Keep.refl _ _
                      clear_value z11
                      refine Keep.step (retryRole_keep _ _ _) rfl ?_
                      exact hz11
                    · refine Keep.ite ?_ ?_
                      · refine Keep.step (elemBack_keep _ _) rfl ?_
                        exact Keep.refl _ _
                      · refine Keep.ite ?_ ?_
                        · refine Keep.step (modThm_keep _ _) rfl ?_
                          exact Keep.refl _ _
                        · exact Keep.refl _ _

theorem restore_keep (a0) (a1) : Keep 7372696 a1 (restore a0 a1) := by
  unfold restore
  refine Keep.step (divideFence_keep _) rfl ?_
  refine Keep.step (capUpdate_keep _) rfl ?_
  refine Keep.step (liftFence_keep _ _) rfl ?_
  refine Keep.step (unitBack_keep _ _) rfl ?_
  exact Keep.refl _ _

theorem pairFault_keep (a0) (a1) : Keep 2113536 a1 (pairFault a0 a1) := by
  unfold pairFault
  refine Keep.step (raise_keep _ _ _ _ _) rfl ?_
  exact Keep.refl _ _

theorem mirSend_keep (a0) (a1) (a2) (a3) (a4) : Keep 4195328 a4 (mirSend a0 a1 a2 a3 a4) := by
  unfold mirSend
  refine Keep.step (emit_keep _ _) rfl ?_
  refine Keep.step (modPodLink_keep _ _ _) rfl ?_
  exact Keep.refl _ _

theorem beat_keep (a0) (a1) : Keep 4195328 a1 (beat a0 a1) := by
  unfold beat
  refine Keep.ite ?_ ?_
  · exact Keep.refl _ _
  · extract_lets -merge -underBinder +onlyGivenNames z1
    refine Keep.step (mirSend_keep _ _ _ _ _) rfl ?_
    exact Keep.refl _ _

theorem setLine_keep (a0) (a1) (a2) : Keep 2113552 a2 (setLine a0 a1 a2).2 := by
  unfold setLine
  split
  · extract_lets -merge -underBinder +onlyGivenNames z1
    have hz1 : Keep 2113552 a2 z1.2 := by
      unfold z1
      refine Keep.step (poolRead_keep _ _ _) rfl ?_
      exact Keep.refl _ _
    clear_value z1
    exact hz1
  · exact Keep.refl _ _

theorem pump_keep : ∀ a0 a1 a2, Keep 6341648 a2 (pump a0 a1 a2)
  | b0, 0, b1 => by
    rw [pump.eq_1]
    exact Keep.refl _ _
  | b0, (b2 + 1), b1 => by
    rw [pump.eq_2]
    refine Keep.ite ?_ ?_
    · exact Keep.refl _ _
    · refine Keep.ite ?_ ?_
      · split
        · exact Keep.refl _ _
        · extract_lets -merge -underBinder +onlyGivenNames z3 z4 z5 z6 z7
          have hz5 : Keep 6341648 b1 z5.2 := by
            unfold z5
            refine Keep.step (setLine_keep _ _ _) rfl ?_
            exact Keep.refl _ _
          clear_value z5
          have hz6 : Keep 6341648 b1 z6.2 := by
            unfold z6
            refine Keep.step (setLine_keep _ _ _) rfl ?_
            exact hz5
          clear_value z6
          have hz7 : Keep 6341648 b1 z7.2 := by
            unfold z7
            refine Keep.step (setLine_keep _ _ _) rfl ?_
            exact hz6
          clear_value z7
          refine Keep.step (pump_keep _ _ _) rfl ?_
          refine Keep.step (mirSend_keep _ _ _ _ _) rfl ?_
          refine Keep.step (modPair_keep _ _) rfl ?_
          exact hz7
      · split
        · refine Keep.step (pump_keep _ _ _) rfl ?_
          refine Keep.step (mirSend_keep _ _ _ _ _) rfl ?_
          refine Keep.step (modPair_keep _ _) rfl ?_
          exact Keep.refl _ _
        · exact Keep.refl _ _

theorem countMisses_keep (a0) : Keep 32768 a0 (countMisses a0) := by
  unfold countMisses
  extract_lets -merge -underBinder +onlyGivenNames z1
  refine Keep.ite ?_ ?_
  · exact Keep.refl _ _
  · refine Keep.step (modPair_keep _ _) rfl ?_
    exact Keep.refl _ _

theorem heartbeatSend_keep (a0) : Keep 6341648 a0 (heartbeatSend a0) := by
  unfold heartbeatSend
  split
  · exact Keep.refl _ _
  · refine Keep.ite ?_ ?_
    · exact Keep.refl _ _
    · extract_lets -merge -underBinder +onlyGivenNames z3
      have hz3 : Keep 6341648 a0 z3 := by
        unfold z3
        refine Keep.step (countMisses_keep _) rfl ?_
        refine Keep.step (modPair_keep _ _) rfl ?_
        exact Keep.refl _ _
      clear_value z3
      refine Keep.step (pump_keep _ _ _) rfl ?_
      refine Keep.step (beat_keep _ _) rfl ?_
      refine Keep.step (beat_keep _ _) rfl ?_
      exact hz3

theorem execHeartbeatSend_keep (a0) : ∃ t, execHeartbeatSend a0 = .next t ∧ Keep 6341648 a0 t := by
  unfold execHeartbeatSend
  refine ⟨_, rfl, ?_⟩
  refine Keep.step (heartbeatSend_keep _) rfl ?_
  exact Keep.refl _ _

theorem retryWaiting_keep (a0) : Keep 2155768 a0 (retryWaiting a0) := by
  unfold retryWaiting
  refine Keep.foldl ?_ _ ?_
  · intro y1 x2
    refine Keep.step (serve_keep _ _ _ _) rfl ?_
    exact Keep.refl _ _
  · refine Keep.step (modPair_keep _ _) rfl ?_
    exact Keep.refl _ _

theorem confirmTo_keep (a0) (a1) : Keep 2155768 a1 (confirmTo a0 a1) := by
  unfold confirmTo
  refine Keep.ite ?_ ?_
  · exact Keep.refl _ _
  · extract_lets -merge -underBinder +onlyGivenNames z1 z2 z3
    have hz3 : Keep 2155768 a1 z3 := by
      unfold z3
      refine Keep.step (modPair_keep _ _) rfl ?_
      exact Keep.refl _ _
    clear_value z3
    refine Keep.step (retryWaiting_keep _) rfl ?_
    refine Keep.foldl ?_ _ ?_
    · intro y4 x5
      split
      · refine Keep.step (respond_keep _ _ _ _) rfl ?_
        exact Keep.refl _ _
      · exact Keep.refl _ _
    · exact hz3

theorem mirConfirm_keep (a0) (a1) : Keep 2155768 a1 (mirConfirm a0 a1) := by
  unfold mirConfirm
  refine Keep.ite ?_ ?_
  · exact Keep.refl _ _
  · refine Keep.step (confirmTo_keep _ _) rfl ?_
    exact Keep.refl _ _

theorem execMirConfirm_keep (a0) (a1) : ∃ t, execMirConfirm a0 a1 = .next t ∧ Keep 2155768 a1 t := by
  unfold execMirConfirm
  refine ⟨_, rfl, ?_⟩
  refine Keep.step (mirConfirm_keep _ _) rfl ?_
  exact Keep.refl _ _

theorem mirApply_keep (a0) (a1) : Keep 2146320 a1 (mirApply a0 a1) := by
  unfold mirApply
  extract_lets -merge -underBinder +onlyGivenNames z1 z4
  have hz1 : Keep 2146320 a1 z1 := by
    unfold z1
    split
    · refine Keep.ite ?_ ?_
      · refine Keep.step (poolWrite_keep _ _ _ _ _) rfl ?_
        refine Keep.ite ?_ ?_
        · exact Keep.refl _ _
        · refine Keep.step (poolMend_keep _ _ _) rfl ?_
          exact Keep.refl _ _
      · exact Keep.refl _ _
    · refine Keep.ite ?_ ?_
      · refine Keep.step (modMem_keep _ _ (by intro x w; first | exact lineSet_wf _ _ _ _ w | exact wordSet_wf _ _ _ w | exact cellsClear_wf _ _ _ w | exact filter_wf _ _ w)) rfl ?_
        refine Keep.step (poolMend_keep _ _ _) rfl ?_
        exact Keep.refl _ _
      · exact Keep.refl _ _
  clear_value z1
  refine Keep.step (modPair_keep _ _) rfl ?_
  exact hz1

theorem mirDrain_keep : ∀ a0 a1, Keep 2146320 a1 (mirDrain a0 a1)
  | 0, b0 => by
    rw [mirDrain.eq_1]
    exact Keep.refl _ _
  | (b1 + 1), b0 => by
    rw [mirDrain.eq_2]
    split
    · exact Keep.refl _ _
    · refine Keep.step (mirDrain_keep _ _) rfl ?_
      refine Keep.step (mirApply_keep _ _) rfl ?_
      refine Keep.step (modPair_keep _ _) rfl ?_
      exact Keep.refl _ _

theorem mirArrive_keep (a0) (a1) : Keep 6341648 a1 (mirArrive a0 a1) := by
  unfold mirArrive
  refine Keep.ite ?_ ?_
  · exact Keep.refl _ _
  · extract_lets -merge -underBinder +onlyGivenNames z1 z2
    have hz1 : Keep 6341648 a1 z1 := by
      unfold z1
      refine Keep.ite ?_ ?_
      · refine Keep.step (modPair_keep _ _) rfl ?_
        exact Keep.refl _ _
      · exact Keep.refl _ _
    clear_value z1
    have hz2 : Keep 6341648 a1 z2 := by
      unfold z2
      refine Keep.step (mirDrain_keep _ _) rfl ?_
      exact hz1
    clear_value z2
    split
    · refine Keep.step (mirSend_keep _ _ _ _ _) rfl ?_
      exact hz2
    · exact hz2

theorem execMirStore_keep (a0) (a1) : ∃ t, execMirStore a0 a1 = .next t ∧ Keep 6341648 a1 t := by
  unfold execMirStore
  refine ⟨_, rfl, ?_⟩
  refine Keep.step (mirArrive_keep _ _) rfl ?_
  exact Keep.refl _ _

theorem execMirWord_keep (a0) (a1) : ∃ t, execMirWord a0 a1 = .next t ∧ Keep 6341648 a1 t := by
  unfold execMirWord
  refine ⟨_, rfl, ?_⟩
  refine Keep.step (mirArrive_keep _ _) rfl ?_
  exact Keep.refl _ _

theorem mirState_keep (a0) (a1) : Keep 32912 a1 (mirState a0 a1) := by
  unfold mirState
  split
  · exact Keep.refl _ _
  · refine Keep.ite ?_ ?_
    · exact Keep.refl _ _
    · split
      · extract_lets -merge -underBinder +onlyGivenNames z5 z6
        have hz6 : Keep 32912 a1 z6 := by
          unfold z6
          refine Keep.step (modPair_keep _ _) rfl ?_
          exact Keep.refl _ _
        clear_value z6
        refine Keep.ite ?_ ?_
        · exact hz6
        · refine Keep.step (millWrite_keep _ _ _ _ _) rfl ?_
          exact hz6

theorem execMirState_keep (a0) (a1) : ∃ t, execMirState a0 a1 = .next t ∧ Keep 32912 a1 t := by
  unfold execMirState
  refine ⟨_, rfl, ?_⟩
  refine Keep.step (mirState_keep _ _) rfl ?_
  exact Keep.refl _ _

theorem sendNotices_keep (a0) (a1) : Keep 1024 a1 (sendNotices a0 a1) := by
  unfold sendNotices
  split
  · exact Keep.refl _ _
  · extract_lets -merge -underBinder +onlyGivenNames z3 z4
    refine Keep.foldl ?_ _ ?_
    · intro y5 x6
      refine Keep.step (podSend_keep _ _ _ _ _ _) rfl ?_
      exact Keep.refl _ _
    · exact Keep.refl _ _

theorem sendAgain_keep (a0) (a1) (a2) : Keep 24 a2 (sendAgain a0 a1 a2) := by
  unfold sendAgain
  split
  · exact Keep.refl _ _
  · extract_lets -merge -underBinder +onlyGivenNames z3 z4
    clear_value z4
    split
    · exact Keep.refl _ _
    · extract_lets -merge -underBinder +onlyGivenNames z7 z8
      have hz7 : Keep 24 a2 z7 := by
        unfold z7
        refine Keep.step (modMem_keep _ _ (fun _ w => w)) rfl ?_
        exact Keep.refl _ _
      clear_value z7
      refine Keep.step (sendMsg_keep _ _ _ _ _) rfl ?_
      exact hz7

theorem againAll_keep (a0) (a1) (a2) : Keep 24 a2 (againAll a0 a1 a2) := by
  unfold againAll
  refine Keep.foldl ?_ _ ?_
  · intro y1 x2
    refine Keep.step (sendAgain_keep _ _ _) rfl ?_
    exact Keep.refl _ _
  · exact Keep.refl _ _

theorem setClaim_keep (a0) (a1) (a2) : Keep 32768 a2 (setClaim a0 a1 a2) := by
  unfold setClaim
  refine Keep.step (modPair_keep _ _) rfl ?_
  exact Keep.refl _ _

theorem claimTable_keep (a0) (a1) : Keep 2147320 a1 (claimTable a0 a1) := by
  unfold claimTable
  extract_lets -merge -underBinder +onlyGivenNames z1 z2
  refine Keep.ite ?_ ?_
  · exact Keep.refl _ _
  · extract_lets -merge -underBinder +onlyGivenNames z3
    refine Keep.ite ?_ ?_
    · clear_value z1
      split
      · exact Keep.refl _ _
      · refine Keep.foldl ?_ _ ?_
        · intro y7 x8
          refine Keep.step (issueMem_keep _ _) rfl ?_
          exact Keep.refl _ _
        · refine Keep.step (againAll_keep _ _ _) rfl ?_
          refine Keep.step (setClaim_keep _ _ _) rfl ?_
          exact Keep.refl _ _
    · split
      · exact Keep.refl _ _
      · extract_lets -merge -underBinder +onlyGivenNames z11
        refine Keep.step (againAll_keep _ _ _) rfl ?_
        refine Keep.step (setClaim_keep _ _ _) rfl ?_
        exact Keep.refl _ _

theorem yieldSet_keep (a0) : Keep 32768 a0 (yieldSet a0) := by
  unfold yieldSet
  refine Keep.step (modPair_keep _ _) rfl ?_
  exact Keep.refl _ _

theorem claimNotice_keep (a0) (a1) : Keep 2147320 a1 (claimNotice a0 a1) := by
  unfold claimNotice
  refine Keep.ite ?_ ?_
  · exact Keep.refl _ _
  · extract_lets -merge -underBinder +onlyGivenNames z1 z2
    have hz2 : Keep 2147320 a1 z2 := by
      unfold z2
      refine Keep.ite ?_ ?_
      · refine Keep.step (yieldSet_keep _) rfl ?_
        refine Keep.step (pairFault_keep _ _) rfl ?_
        exact Keep.refl _ _
      · exact Keep.refl _ _
    clear_value z2
    refine Keep.ite ?_ ?_
    · refine Keep.step (claimTable_keep _ _) rfl ?_
      exact hz2
    · exact hz2

theorem execClaimNotice_keep (a0) (a1) : ∃ t, execClaimNotice a0 a1 = .next t ∧ Keep 2147320 a1 t := by
  unfold execClaimNotice
  refine ⟨_, rfl, ?_⟩
  refine Keep.step (claimNotice_keep _ _) rfl ?_
  exact Keep.refl _ _

theorem claimSet_keep (a0) : Keep 2148344 a0 (claimSet a0) := by
  unfold claimSet
  split
  · exact Keep.refl _ _
  · extract_lets -merge -underBinder +onlyGivenNames z3
    have hz3 : Keep 2148344 a0 z3 := by
      unfold z3
      refine Keep.step (modPair_keep _ _) rfl ?_
      exact Keep.refl _ _
    clear_value z3
    refine Keep.step (claimTable_keep _ _) rfl ?_
    refine Keep.step (sendNotices_keep _ _) rfl ?_
    refine Keep.step (pairFault_keep _ _) rfl ?_
    exact hz3

theorem linkSilence_keep (a0) (a1) : Keep 2146304 a1 (linkSilence a0 a1) := by
  unfold linkSilence
  split
  · exact Keep.refl _ _
  · split
    · refine Keep.ite ?_ ?_
      · exact Keep.refl _ _
      · refine Keep.ite ?_ ?_
        · refine Keep.step (pairFault_keep _ _) rfl ?_
          refine Keep.step (modPair_keep _ _) rfl ?_
          exact Keep.refl _ _
        · refine Keep.ite ?_ ?_
          · refine Keep.step (pairFault_keep _ _) rfl ?_
            refine Keep.step (modPair_keep _ _) rfl ?_
            exact Keep.refl _ _
          · exact Keep.refl _ _

theorem execPairLinkSilence_keep (a0) (a1) : ∃ t, execPairLinkSilence a0 a1 = .next t ∧ Keep 2146304 a1 t := by
  unfold execPairLinkSilence
  refine ⟨_, rfl, ?_⟩
  refine Keep.step (linkSilence_keep _ _) rfl ?_
  exact Keep.refl _ _

theorem clearSet_keep (a0) : Keep 16 a0 (clearSet a0) := by
  unfold clearSet
  refine Keep.step (modMem_keep _ _ (by intro x w; first | exact lineSet_wf _ _ _ _ w | exact wordSet_wf _ _ _ w | exact cellsClear_wf _ _ _ w | exact filter_wf _ _ w)) rfl ?_
  exact Keep.refl _ _

theorem pairSilence_keep (a0) : Keep 2148344 a0 (pairSilence a0) := by
  unfold pairSilence
  refine Keep.ite ?_ ?_
  · exact Keep.refl _ _
  · extract_lets -merge -underBinder +onlyGivenNames z1
    have hz1 : Keep 2148344 a0 z1 := by
      unfold z1
      refine Keep.step (pairFault_keep _ _) rfl ?_
      refine Keep.step (modPair_keep _ _) rfl ?_
      exact Keep.refl _ _
    clear_value z1
    split
    · refine Keep.step (claimSet_keep _) rfl ?_
      exact hz1
    · refine Keep.step (modPair_keep _ _) rfl ?_
      refine Keep.step (clearSet_keep _) rfl ?_
      exact hz1
    · refine Keep.step (modPair_keep _ _) rfl ?_
      exact hz1
    · exact hz1

theorem execPairSilence_keep (a0) : ∃ t, execPairSilence a0 = .next t ∧ Keep 2148344 a0 t := by
  unfold execPairSilence
  refine ⟨_, rfl, ?_⟩
  refine Keep.step (pairSilence_keep _) rfl ?_
  exact Keep.refl _ _

theorem soloTimeout_keep (a0) : Keep 2155768 a0 (soloTimeout a0) := by
  unfold soloTimeout
  split
  · exact Keep.refl _ _
  · refine Keep.ite ?_ ?_
    · exact Keep.refl _ _
    · extract_lets -merge -underBinder +onlyGivenNames z3 z4
      have hz3 : Keep 2155768 a0 z3 := by
        unfold z3
        refine Keep.step (standBegin_keep _ _ _ _ _) rfl ?_
        exact Keep.refl _ _
      clear_value z3
      have hz4 : Keep 2155768 a0 z4 := by
        unfold z4
        refine Keep.step (confirmTo_keep _ _) rfl ?_
        exact hz3
      clear_value z4
      refine Keep.step (retryWaiting_keep _) rfl ?_
      refine Keep.step (modPair_keep _ _) rfl ?_
      exact hz4

theorem execPairSoloTimeout_keep (a0) : ∃ t, execPairSoloTimeout a0 = .next t ∧ Keep 2155768 a0 t := by
  unfold execPairSoloTimeout
  refine ⟨_, rfl, ?_⟩
  refine Keep.step (soloTimeout_keep _) rfl ?_
  exact Keep.refl _ _

theorem atomicWindowEnd_keep (a0) : Keep 2156536 a0 (atomicWindowEnd a0) := by
  unfold atomicWindowEnd
  refine Keep.ite ?_ ?_
  · exact Keep.refl _ _
  · extract_lets -merge -underBinder +onlyGivenNames z1
    have hz1 : Keep 2156536 a0 z1 := by
      unfold z1
      split
      · refine Keep.ite ?_ ?_
        · refine Keep.foldl ?_ _ ?_
          · intro y3 x4
            refine Keep.step (serve_keep _ _ _ _) rfl ?_
            exact Keep.refl _ _
          · refine Keep.step (modPair_keep _ _) rfl ?_
            exact Keep.refl _ _
        · exact Keep.refl _ _
      · exact Keep.refl _ _
    clear_value z1
    refine Keep.foldl ?_ _ ?_
    · intro y6 x7
      split
      · refine Keep.ite ?_ ?_
        · extract_lets -merge -underBinder +onlyGivenNames z9
          have hz9 : Keep 2156536 y6 z9 := by
            unfold z9
            refine Keep.step (setClaim_keep _ _ _) rfl ?_
            exact Keep.refl _ _
          clear_value z9
          refine Keep.foldl ?_ _ ?_
          · intro y10 x11
            refine Keep.step (issueMem_keep _ _) rfl ?_
            exact Keep.refl _ _
          · refine Keep.step (againAll_keep _ _ _) rfl ?_
            exact hz9
        · exact Keep.refl _ _
      · exact Keep.refl _ _
    · exact hz1

theorem execClaimAtomicWindowEnd_keep (a0) : ∃ t, execClaimAtomicWindowEnd a0 = .next t ∧ Keep 2156536 a0 t := by
  unfold execClaimAtomicWindowEnd
  refine ⟨_, rfl, ?_⟩
  refine Keep.step (atomicWindowEnd_keep _) rfl ?_
  exact Keep.refl _ _

theorem execClaimRecordClear_keep (a0) : ∃ t, execClaimRecordClear a0 = .next t ∧ Keep 32768 a0 t := by
  unfold execClaimRecordClear
  refine ⟨_, rfl, ?_⟩
  split
  · refine Keep.ite ?_ ?_
    · exact Keep.refl _ _
    · refine Keep.step (modPair_keep _ _) rfl ?_
      exact Keep.refl _ _
  · exact Keep.refl _ _

theorem claimRepeat_keep (a0) : Keep 33792 a0 (claimRepeat a0) := by
  unfold claimRepeat
  refine Keep.ite ?_ ?_
  · exact Keep.refl _ _
  · refine Keep.step (sendNotices_keep _ _) rfl ?_
    refine Keep.step (modPair_keep _ _) rfl ?_
    exact Keep.refl _ _

theorem execClaimRepeat_keep (a0) : ∃ t, execClaimRepeat a0 = .next t ∧ Keep 33792 a0 t := by
  unfold execClaimRepeat
  refine ⟨_, rfl, ?_⟩
  refine Keep.step (claimRepeat_keep _) rfl ?_
  exact Keep.refl _ _

theorem resyncBegin_keep (a0) : Keep 2155768 a0 (resyncBegin a0) := by
  unfold resyncBegin
  extract_lets -merge -underBinder +onlyGivenNames z1 z2 z3 z4
  have hz1 : Keep 2155768 a0 z1 := by
    unfold z1
    refine Keep.step (confirmTo_keep _ _) rfl ?_
    exact Keep.refl _ _
  clear_value z1
  refine Keep.step (modPair_keep _ _) rfl ?_
  exact hz1

theorem resyncPartner_keep (a0) (a1) : Keep 32784 a1 (resyncPartner a0 a1) := by
  unfold resyncPartner
  refine Keep.step (modPair_keep _ _) rfl ?_
  refine Keep.step (clearSet_keep _) rfl ?_
  exact Keep.refl _ _

theorem pairSplit_keep (a0) (a1) : Keep 2155768 a1 (pairSplit a0 a1) := by
  unfold pairSplit
  extract_lets -merge -underBinder +onlyGivenNames z1 z2
  have hz2 : Keep 2155768 a1 z2 := by
    unfold z2
    refine Keep.step (raise_keep _ _ _ _ _) rfl ?_
    exact Keep.refl _ _
  clear_value z2
  refine Keep.ite ?_ ?_
  · refine Keep.step (resyncPartner_keep _ _) rfl ?_
    refine Keep.step (yieldSet_keep _) rfl ?_
    exact hz2
  · refine Keep.step (resyncBegin_keep _) rfl ?_
    exact hz2

theorem beatEffect_keep (a0) (a1) (a2) : Keep 2155768 a2 (beatEffect a0 a1 a2) := by
  unfold beatEffect
  extract_lets -merge -underBinder +onlyGivenNames z1
  split
  · refine Keep.ite ?_ ?_
    · refine Keep.step (resyncPartner_keep _ _) rfl ?_
      exact Keep.refl _ _
    · refine Keep.ite ?_ ?_
      · refine Keep.step (resyncBegin_keep _) rfl ?_
        exact Keep.refl _ _
      · refine Keep.ite ?_ ?_
        · refine Keep.step (resyncBegin_keep _) rfl ?_
          exact Keep.refl _ _
        · exact Keep.refl _ _
  · refine Keep.ite ?_ ?_
    · refine Keep.step (resyncPartner_keep _ _) rfl ?_
      exact Keep.refl _ _
    · exact Keep.refl _ _
  · refine Keep.ite ?_ ?_
    · refine Keep.step (pairSplit_keep _ _) rfl ?_
      exact Keep.refl _ _
    · refine Keep.ite ?_ ?_
      · refine Keep.step (confirmTo_keep _ _) rfl ?_
        exact Keep.refl _ _
      · refine Keep.ite ?_ ?_
        · refine Keep.step (resyncBegin_keep _) rfl ?_
          exact Keep.refl _ _
        · refine Keep.ite ?_ ?_
          · refine Keep.step (confirmTo_keep _ _) rfl ?_
            exact Keep.refl _ _
          · exact Keep.refl _ _
  · refine Keep.ite ?_ ?_
    · refine Keep.step (pairSplit_keep _ _) rfl ?_
      exact Keep.refl _ _
    · refine Keep.step (resyncBegin_keep _) rfl ?_
      exact Keep.refl _ _
  · refine Keep.ite ?_ ?_
    · refine Keep.step (pairSplit_keep _ _) rfl ?_
      exact Keep.refl _ _
    · exact Keep.refl _ _
  · refine Keep.ite ?_ ?_
    · refine Keep.step (modPair_keep _ _) rfl ?_
      exact Keep.refl _ _
    · exact Keep.refl _ _
  · refine Keep.ite ?_ ?_
    · refine Keep.step (modPair_keep _ _) rfl ?_
      exact Keep.refl _ _
    · exact Keep.refl _ _

theorem mirHeartbeat_keep (a0) (a1) (a2) : Keep 2155768 a2 (mirHeartbeat a0 a1 a2) := by
  unfold mirHeartbeat
  split
  · exact Keep.refl _ _
  · refine Keep.ite ?_ ?_
    · exact Keep.refl _ _
    · refine Keep.ite ?_ ?_
      · refine Keep.ite ?_ ?_
        · exact Keep.refl _ _
        · refine Keep.step (pairFault_keep _ _) rfl ?_
          refine Keep.step (modPair_keep _ _) rfl ?_
          exact Keep.refl _ _
      · extract_lets -merge -underBinder +onlyGivenNames z3
        have hz3 : Keep 2155768 a2 z3 := by
          unfold z3
          refine Keep.step (modPair_keep _ _) rfl ?_
          exact Keep.refl _ _
        clear_value z3
        refine Keep.step (beatEffect_keep _ _ _) rfl ?_
        exact hz3

theorem execMirHeartbeat_keep (a0) (a1) (a2) : ∃ t, execMirHeartbeat a0 a1 a2 = .next t ∧ Keep 2155768 a2 t := by
  unfold execMirHeartbeat
  refine ⟨_, rfl, ?_⟩
  refine Keep.step (mirHeartbeat_keep _ _ _) rfl ?_
  exact Keep.refl _ _

theorem mirResync_keep (a0) (a1) (a2) : Keep 32784 a2 (mirResync a0 a1 a2) := by
  unfold mirResync
  refine Keep.ite ?_ ?_
  · exact Keep.refl _ _
  · extract_lets -merge -underBinder +onlyGivenNames z1 z2
    have hz2 : Keep 32784 a2 z2 := by
      unfold z2
      refine Keep.foldl ?_ _ ?_
      · intro y3 x4
        refine Keep.step (poolWrite_keep _ _ _ _ _) rfl ?_
        exact Keep.refl _ _
      · exact Keep.refl _ _
    clear_value z2
    refine Keep.step (modPair_keep _ _) rfl ?_
    exact hz2

theorem execMirResync_keep (a0) (a1) (a2) (a3) (a4) : ∃ t, execMirResync a0 a1 a2 a3 a4 = .next t ∧ Keep 32784 a4 t := by
  unfold execMirResync
  refine ⟨_, rfl, ?_⟩
  refine Keep.step (mirResync_keep _ _ _) rfl ?_
  exact Keep.refl _ _

theorem resyncComplete_keep (a0) : Keep 2148344 a0 (resyncComplete a0) := by
  unfold resyncComplete
  split
  · exact Keep.refl _ _
  · refine Keep.ite ?_ ?_
    · exact Keep.refl _ _
    · split
      · refine Keep.ite ?_ ?_
        · refine Keep.step (pairFault_keep _ _) rfl ?_
          refine Keep.step (standEnd_keep _ _ _ _) rfl ?_
          refine Keep.step (modPair_keep _ _) rfl ?_
          exact Keep.refl _ _
        · exact Keep.refl _ _
      · extract_lets -merge -underBinder +onlyGivenNames z5
        have hz5 : Keep 2148344 a0 z5 := by
          unfold z5
          refine Keep.step (modPair_keep _ _) rfl ?_
          exact Keep.refl _ _
        clear_value z5
        refine Keep.ite ?_ ?_
        · refine Keep.step (claimSet_keep _) rfl ?_
          exact hz5
        · exact hz5
      · exact Keep.refl _ _

theorem execResyncComplete_keep (a0) : ∃ t, execResyncComplete a0 = .next t ∧ Keep 2148344 a0 t := by
  unfold execResyncComplete
  refine ⟨_, rfl, ?_⟩
  refine Keep.step (resyncComplete_keep _) rfl ?_
  exact Keep.refl _ _

theorem handover_keep (a0) : Keep 2148344 a0 (handover a0) := by
  unfold handover
  refine Keep.ite ?_ ?_
  · refine Keep.step (claimSet_keep _) rfl ?_
    exact Keep.refl _ _
  · exact Keep.refl _ _

theorem execPairHandover_keep (a0) (a1) : ∃ t, execPairHandover a0 a1 = .next t ∧ Keep 2213880 a1 t := by
  unfold execPairHandover
  refine ⟨_, rfl, ?_⟩
  refine Keep.iWrite (m := 2213880) rfl ?_ ?_
  · intro y1
    refine Keep.step (handover_keep _) rfl ?_
    exact Keep.refl _ _
  · exact Keep.refl _ _

theorem stage_keep (a0) (a1) (a2) (a3) (a4) : Keep 262144 a4 (stage a0 a1 a2 a3 a4) := by
  unfold stage
  extract_lets -merge -underBinder +onlyGivenNames z1 z2
  refine Keep.step (modCsp_keep _ _) rfl ?_
  exact Keep.refl _ _

theorem commit_keep (a0) (a1) (a2) (a3) : Keep 262144 a3 (commit a0 a1 a2 a3) := by
  unfold commit
  split
  · exact Keep.refl _ _
  · refine Keep.step (modCsp_keep _ _) rfl ?_
    exact Keep.refl _ _

theorem commitWrite_keep (a0) (a1) (a2) (a3) : Keep 360448 a3 (commitWrite a0 a1 a2 a3) := by
  unfold commitWrite
  refine Keep.foldl ?_ _ ?_
  · intro y1 x2
    refine Keep.ite ?_ ?_
    · refine Keep.iWrite (m := 360448) rfl ?_ ?_
      · intro y3
        refine Keep.ite ?_ ?_
        · refine Keep.step (commit_keep _ _ _ _) rfl ?_
          exact Keep.refl _ _
        · exact Keep.refl _ _
      · exact Keep.refl _ _
    · refine Keep.ite ?_ ?_
      · refine Keep.step (commit_keep _ _ _ _) rfl ?_
        exact Keep.refl _ _
      · exact Keep.refl _ _
  · exact Keep.refl _ _

theorem keepAll_keep (a0) (a1) (a2) : Keep 262144 a2 (keepAll a0 a1 a2) := by
  unfold keepAll
  refine Keep.foldl ?_ _ ?_
  · intro y1 x2
    refine Keep.step (setEffect_keep _ _ _ _) rfl ?_
    exact Keep.refl _ _
  · exact Keep.refl _ _

theorem applyRegion_keep (a0) (a1) : Keep 294944 a1 (applyRegion a0 a1) := by
  unfold applyRegion
  extract_lets -merge -underBinder +onlyGivenNames z1
  have hz1 : Keep 294944 a1 z1 := by
    unfold z1
    refine Keep.step (keepAll_keep _ _ _) rfl ?_
    exact Keep.refl _ _
  clear_value z1
  split
  · refine Keep.step (declareRegion_keep _ _ _) rfl ?_
    exact hz1
  · refine Keep.step (releaseRegion_keep _ _) rfl ?_
    exact hz1
  · exact hz1

theorem applyWatch_keep (a0) (a1) : Keep 128 a1 (applyWatch a0 a1) := by
  unfold applyWatch
  extract_lets -merge -underBinder +onlyGivenNames z1 z2 z3 z4
  refine Keep.step (armWatch_keep _ _ _) rfl ?_
  exact Keep.refl _ _

theorem applyQueue_keep (a0) (a1) (a2) : Keep 262288 a2 (applyQueue a0 a1 a2) := by
  unfold applyQueue
  extract_lets -merge -underBinder +onlyGivenNames z1 z2
  have hz2 : Keep 262288 a2 z2 := by
    unfold z2
    refine Keep.step (keepAll_keep _ _ _) rfl ?_
    exact Keep.refl _ _
  clear_value z2
  split
  · exact hz2
  · extract_lets -merge -underBinder +onlyGivenNames z5
    have hz5 : Keep 262288 a2 z5 := by
      unfold z5
      refine Keep.ite ?_ ?_
      · refine Keep.step (resetQueue_keep _ _) rfl ?_
        exact hz2
      · exact hz2
    clear_value z5
    refine Keep.ite ?_ ?_
    · refine Keep.step (enableQueue_keep _ _ _ _) rfl ?_
      exact hz5
    · refine Keep.step (disableQueue_keep _ _) rfl ?_
      exact hz5

theorem applyContext_keep (a0) (a1) : Keep 2146772 a1 (applyContext a0 a1) := by
  unfold applyContext
  extract_lets -merge -underBinder +onlyGivenNames z1 z2
  refine Keep.ite ?_ ?_
  · exact Keep.refl _ _
  · split
    · refine Keep.ite ?_ ?_
      · refine Keep.step (modCtx_keep _ _ _) rfl ?_
        refine Keep.step (ctxSetup_keep _ _) rfl ?_
        exact Keep.refl _ _
      · refine Keep.step (ctxSetup_keep _ _) rfl ?_
        exact Keep.refl _ _
    · refine Keep.ite ?_ ?_
      · refine Keep.step (modCtx_keep _ _ _) rfl ?_
        refine Keep.step (ctxAbort_keep _ _) rfl ?_
        exact Keep.refl _ _
      · refine Keep.step (ctxAbort_keep _ _) rfl ?_
        exact Keep.refl _ _
    · refine Keep.step (ctxFree_keep _ _) rfl ?_
      refine Keep.ite ?_ ?_
      · refine Keep.step (modCtx_keep _ _ _) rfl ?_
        exact Keep.refl _ _
      · exact Keep.refl _ _
    · refine Keep.ite ?_ ?_
      · refine Keep.step (modCtx_keep _ _ _) rfl ?_
        exact Keep.refl _ _
      · exact Keep.refl _ _

theorem applyTrim_keep (a0) (a1) : Keep 264192 a1 (applyTrim a0 a1) := by
  unfold applyTrim
  extract_lets -merge -underBinder +onlyGivenNames z1 z2 z3
  have hz1 : Keep 264192 a1 z1 := by
    unfold z1
    refine Keep.step (keepAll_keep _ _ _) rfl ?_
    exact Keep.refl _ _
  clear_value z1
  refine Keep.step (modElem_keep _ _ _) rfl ?_
  exact hz1

theorem applySiteCaps_keep (a0) (a1) : Keep 6316552 a1 (applySiteCaps a0 a1) := by
  unfold applySiteCaps
  refine Keep.step (divide_keep _) rfl ?_
  refine Keep.foldl ?_ _ ?_
  · intro y1 x2
    refine Keep.step (modPow_keep _ _ _) rfl ?_
    exact Keep.refl _ _
  · exact Keep.refl _ _

theorem applyExpected_keep (a0) (a1) : Keep 81920 a1 (applyExpected a0 a1) := by
  unfold applyExpected
  extract_lets -merge -underBinder +onlyGivenNames z1
  refine Keep.step (contChange_keep _ _ (fun _ => List.prefix_rfl)) rfl ?_
  exact Keep.refl _ _

theorem applyEffect_keep (a0) (a1) : Keep 6679550 a1 (applyEffect a0 a1) := by
  unfold applyEffect
  split
  · split
    · refine Keep.step (modTc_keep _ _) rfl ?_
      exact Keep.refl _ _
    · exact Keep.refl _ _
  · refine Keep.step (applyRegion_keep _ _) rfl ?_
    exact Keep.refl _ _
  · refine Keep.step (applyWatch_keep _ _) rfl ?_
    exact Keep.refl _ _
  · refine Keep.step (applyQueue_keep _ _ _) rfl ?_
    exact Keep.refl _ _
  · refine Keep.step (applyContext_keep _ _) rfl ?_
    exact Keep.refl _ _
  · split
    · refine Keep.step (modSite_keep _ _ _) rfl ?_
      exact Keep.refl _ _
    · exact Keep.refl _ _
  · refine Keep.step (applyTrim_keep _ _) rfl ?_
    exact Keep.refl _ _
  · refine Keep.step (applySiteCaps_keep _ _) rfl ?_
    exact Keep.refl _ _
  · split
    · refine Keep.step (divide_keep _) rfl ?_
      refine Keep.step (modGaf_keep _ _) rfl ?_
      exact Keep.refl _ _
    · exact Keep.refl _ _
  · split
    · refine Keep.step (startJob_keep _ _ _) rfl ?_
      exact Keep.refl _ _
    · refine Keep.step (endJob_keep _ _ _) rfl ?_
      exact Keep.refl _ _
    · refine Keep.step (clearJob_keep _ _) rfl ?_
      exact Keep.refl _ _
    · exact Keep.refl _ _
  · refine Keep.step (applyExpected_keep _ _) rfl ?_
    exact Keep.refl _ _

theorem auditSet_keep (a0) (a1) : Keep 98304 a1 (auditSet a0 a1) := by
  unfold auditSet
  refine Keep.ite ?_ ?_
  · refine Keep.foldl ?_ _ ?_
    · intro y1 x2
      refine Keep.step (pushAudit_keep _ _) rfl ?_
      exact Keep.refl _ _
    · exact Keep.refl _ _
  · exact Keep.refl _ _

theorem applySet_keep (a0) (a1) : Keep 6679550 a1 (applySet a0 a1) := by
  unfold applySet
  refine Keep.ite ?_ ?_
  · refine Keep.step (applyEffect_keep _ _) rfl ?_
    refine Keep.step (auditSet_keep _ _) rfl ?_
    exact Keep.refl _ _
  · exact Keep.refl _ _

theorem slateApply_keep (a0) : Keep 6679550 a0 (slateApply a0) := by
  unfold slateApply
  refine Keep.ite ?_ ?_
  · exact Keep.refl _ _
  · extract_lets -merge -underBinder +onlyGivenNames z1 z2
    refine Keep.foldl ?_ _ ?_
    · intro y3 x4
      refine Keep.step (applySet_keep _ _) rfl ?_
      exact Keep.refl _ _
    · refine Keep.step (modCsp_keep _ _) rfl ?_
      exact Keep.refl _ _

theorem execSlateApply_keep (a0) : ∃ t, execSlateApply a0 = .next t ∧ Keep 6679550 a0 t := by
  unfold execSlateApply
  refine ⟨_, rfl, ?_⟩
  refine Keep.step (slateApply_keep _) rfl ?_
  exact Keep.refl _ _

theorem bootControl_keep (a0) (a1) (a2) (a3) : Keep 98304 a3 (bootControl a0 a1 a2 a3) := by
  unfold bootControl
  refine Keep.step (audit_keep _ _ _ _ _) rfl ?_
  refine Keep.step (audit_keep _ _ _ _ _) rfl ?_
  exact Keep.refl _ _

theorem execRestart_keep (a0) (a1) : ∃ t, execRestart a0 a1 = .next t ∧ Keep 4194302 a1 t := by
  unfold execRestart
  refine ⟨_, rfl, ?_⟩
  split
  · rename_i h
    have hs : a1.flt.safe = false := by
      simp only [mayWrite, csOpen, Bool.and_eq_true, Bool.not_eq_true'] at h
      exact h.1.1.1.2
    refine Keep.notSafe hs ?_
    refine Keep.step (restartBase_keep _ _) rfl ?_
    refine Keep.step (bootControl_keep _ _ _ _) rfl ?_
    exact Keep.refl _ _
  · exact Keep.refl _ _

theorem goDark_keep (a0) : Keep 3540502 a0 (goDark a0) := by
  unfold goDark
  extract_lets -merge -underBinder +onlyGivenNames z1 z4 z5 z8 z11 z12 z13
  have hz1 : Keep 3540502 a0 z1 := by
    unfold z1
    refine Keep.foldl ?_ _ ?_
    · intro y2 x3
      refine Keep.ite ?_ ?_
      · refine Keep.step (sitePowerDown_keep _ _ _) rfl ?_
        exact Keep.refl _ _
      · exact Keep.refl _ _
    · exact Keep.refl _ _
  clear_value z1
  have hz4 : Keep 3540502 a0 z4 := by
    unfold z4
    refine Keep.step (modPins_keep _ _) rfl ?_
    exact hz1
  clear_value z4
  have hz5 : Keep 3540502 a0 z5 := by
    unfold z5
    refine Keep.foldl ?_ _ ?_
    · intro y6 x7
      refine Keep.ite ?_ ?_
      · exact Keep.refl _ _
      · refine Keep.step (modMs_keep _ _ _) rfl ?_
        exact Keep.refl _ _
    · exact hz4
  clear_value z5
  have hz8 : Keep 3540502 a0 z8 := by
    unfold z8
    refine Keep.foldl ?_ _ ?_
    · intro y9 x10
      refine Keep.ite ?_ ?_
      · refine Keep.step (linkDrop_keep _ _) rfl ?_
        exact Keep.refl _ _
      · exact Keep.refl _ _
    · exact hz5
  clear_value z8
  have hz11 : Keep 3540502 a0 z11 := by
    unfold z11
    refine Keep.ite ?_ ?_
    · refine Keep.step (endReel_keep _) rfl ?_
      exact hz8
    · exact hz8
  clear_value z11
  have hz12 : Keep 3540502 a0 z12 := by
    unfold z12
    refine Keep.step (modTc_keep _ _) rfl ?_
    exact hz11
  clear_value z12
  have hz13 : Keep 3540502 a0 z13 := by
    unfold z13
    refine Keep.step (modSlu_keep _ _) rfl ?_
    exact hz12
  clear_value z13
  refine Keep.step (modBoot_keep _ _ (fun _ => Nat.le_refl _)) rfl ?_
  exact hz13

theorem execDark_keep (a0) (a1) : ∃ t, execDark a0 a1 = .next t ∧ Keep 3638806 a1 t := by
  unfold execDark
  refine ⟨_, rfl, ?_⟩
  refine Keep.ite ?_ ?_
  · refine Keep.step (goDark_keep _) rfl ?_
    refine Keep.step (bootControl_keep _ _ _ _) rfl ?_
    exact Keep.refl _ _
  · exact Keep.refl _ _

theorem wakeState_keep (a0) : Keep 2076670 a0 (wakeState a0) := by
  unfold wakeState
  extract_lets -merge -underBinder +onlyGivenNames q1 z2
  have hz2 : Keep 2076670 a0 z2 := by
    unfold z2
    exact Keep.lit (Keep.refl 2076670 a0) rfl rfl (fun w => w) List.prefix_rfl (Nat.le_refl _) (.inr (fun w => w)) (.inr rfl) (.inl rfl) (.inl rfl) (.inl rfl) (.inl rfl) (.inl rfl) (.inl rfl) (.inl rfl) (.inl rfl) (.inl rfl) (.inl rfl) (.inl rfl) (.inr rfl) (.inl rfl) (.inr rfl) (.inl rfl) (.inl rfl) (.inl rfl) (.inl rfl) (.inl rfl) (.inl rfl) (.inr rfl) (.inr rfl)
  clear_value z2
  split
  · refine Keep.step (startValues_keep _ _) rfl ?_
    exact hz2
  · exact hz2

theorem execWake_keep (a0) (a1) : ∃ t, execWake a0 a1 = .next t ∧ Keep 2076670 a1 t := by
  unfold execWake
  refine ⟨_, rfl, ?_⟩
  refine Keep.ite ?_ ?_
  · refine Keep.step (beginBoot_keep _ _ _) rfl ?_
    refine Keep.step (wakeState_keep _) rfl ?_
    refine Keep.step (bootControl_keep _ _ _ _) rfl ?_
    exact Keep.refl _ _
  · exact Keep.refl _ _

theorem record_keep (a0) (a1) : Keep 2146304 a1 (record a0 a1) := by
  unfold record
  extract_lets -merge -underBinder +onlyGivenNames z1 z2 z3 z4
  have hz4 : Keep 2146304 a1 z4 := by
    unfold z4
    refine Keep.step (showAlert_keep _) rfl ?_
    refine Keep.step (modFlt_keep _ _ (fun _ w => w)) rfl ?_
    exact Keep.refl _ _
  clear_value z4
  refine Keep.ite ?_ ?_
  · exact hz4
  · refine Keep.step (mirrorLog_keep _ _ _) rfl ?_
    exact hz4

theorem noteTriggers_keep (a0) (a1) : Keep 16384 a1 (noteTriggers a0 a1) := by
  unfold noteTriggers
  extract_lets -merge -underBinder +onlyGivenNames z1 z2 z3
  refine Keep.step (modFlt_keep _ _ (fun _ w => w)) rfl ?_
  exact Keep.refl _ _

theorem fenceOne_keep (a0) (a1) (a2) (a3) : Keep 7663612 a3 (fenceOne a0 a1 a2 a3) := by
  unfold fenceOne
  split
  next p1 e =>
    have h2 : Keep 7663612 a3 p1 := by
      refine Keep.ofSnd e ?_
      refine Keep.step (enterFence_keep _ _ _) rfl ?_
      exact Keep.refl _ _
    exact h2
  next p3 p4 p5 e =>
    have h6 : Keep 7663612 a3 p5 := by
      refine Keep.ofSnd e ?_
      refine Keep.step (enterFence_keep _ _ _) rfl ?_
      exact Keep.refl _ _
    extract_lets -merge -underBinder +onlyGivenNames z7 z8
    have hz7 : Keep 7663612 a3 z7 := by
      unfold z7
      refine Keep.ite ?_ ?_
      · refine Keep.step (unitMsg_keep _ _ _) rfl ?_
        exact h6
      · exact h6
    clear_value z7
    have hz8 : Keep 7663612 a3 z8 := by
      unfold z8
      refine Keep.ite ?_ ?_
      · refine Keep.step (unitMsg_keep _ _ _) rfl ?_
        exact hz7
      · exact hz7
    clear_value z8
    refine Keep.step (divideFence_keep _) rfl ?_
    refine Keep.step (capUpdate_keep _) rfl ?_
    refine Keep.step (fenceEffect_keep _ _) rfl ?_
    exact hz8

theorem fenceUnit_keep (a0) (a1) (a2) (a3) : Keep 7663612 a3 (fenceUnit a0 a1 a2 a3) := by
  unfold fenceUnit
  extract_lets -merge -underBinder +onlyGivenNames z1
  have hz1 : Keep 7663612 a3 z1 := by
    unfold z1
    refine Keep.step (fenceOne_keep _ _ _ _) rfl ?_
    exact Keep.refl _ _
  clear_value z1
  refine Keep.ite ?_ ?_
  · refine Keep.step (fenceOne_keep _ _ _ _) rfl ?_
    exact hz1
  · exact hz1

theorem collect_keep (a0) (a1) (a2) : Keep 7663612 a2 (collect a0 a1 a2) := by
  unfold collect
  extract_lets -merge -underBinder +onlyGivenNames z1
  have hz1 : Keep 7663612 a2 z1 := by
    unfold z1
    refine Keep.step (record_keep _ _) rfl ?_
    exact Keep.refl _ _
  clear_value z1
  refine Keep.ite ?_ ?_
  · refine Keep.step (enterSafe_keep _) rfl ?_
    exact hz1
  · refine Keep.ite ?_ ?_
    · exact hz1
    · extract_lets -merge -underBinder +onlyGivenNames z2 z3
      have hz2 : Keep 7663612 a2 z2 := by
        unfold z2
        refine Keep.ite ?_ ?_
        · refine Keep.step (noteTriggers_keep _ _) rfl ?_
          exact hz1
        · exact hz1
      clear_value z2
      have hz3 : Keep 7663612 a2 z3 := by
        unfold z3
        refine Keep.ite ?_ ?_
        · exact hz2
        · refine Keep.foldl ?_ _ ?_
          · intro y4 x5
            refine Keep.step (modEntry_keep _ _ _) rfl ?_
            exact Keep.refl _ _
          · exact hz2
      clear_value z3
      refine Keep.foldl ?_ _ ?_
      · intro y6 x7
        refine Keep.step (fenceUnit_keep _ _ _ _) rfl ?_
        exact Keep.refl _ _
      · exact hz3

theorem faultMessage_keep (a0) (a1) : Keep 7663612 a1 (faultMessage a0 a1) := by
  unfold faultMessage
  split
  · refine Keep.step (collect_keep _ _ _) rfl ?_
    exact Keep.refl _ _
  · split
    · exact Keep.refl _ _
    · refine Keep.step (collect_keep _ _ _) rfl ?_
      refine Keep.step (modFlt_keep _ _ (fun _ w => w)) rfl ?_
      exact Keep.refl _ _

theorem execFaultMessage_keep (a0) (a1) : ∃ t, execFaultMessage a0 a1 = .next t ∧ Keep 7663612 a1 t := by
  unfold execFaultMessage
  refine ⟨_, rfl, ?_⟩
  refine Keep.step (faultMessage_keep _ _) rfl ?_
  exact Keep.refl _ _

theorem retryBegin_keep (a0) (a1) : Keep 16384 a1 (retryBegin a0 a1) := by
  unfold retryBegin
  refine Keep.step (noteRetry_keep _ _) rfl ?_
  refine Keep.step (modEntry_keep _ _ _) rfl ?_
  exact Keep.refl _ _

theorem fenceRetry_keep (a0) (a1) : Keep 16384 a1 (fenceRetry a0 a1) := by
  unfold fenceRetry
  split
  · exact Keep.refl _ _
  · extract_lets -merge -underBinder +onlyGivenNames z3 z4
    refine Keep.ite ?_ ?_
    · exact Keep.refl _ _
    · refine Keep.step (retryBegin_keep _ _) rfl ?_
      exact Keep.refl _ _

theorem execFenceRetry_keep (a0) (a1) : ∃ t, execFenceRetry a0 a1 = .next t ∧ Keep 16384 a1 t := by
  unfold execFenceRetry
  refine ⟨_, rfl, ?_⟩
  refine Keep.step (fenceRetry_keep _ _) rfl ?_
  exact Keep.refl _ _

theorem retryFailed_keep (a0) (a1) : Keep 3425808 a1 (retryFailed a0 a1) := by
  unfold retryFailed
  extract_lets -merge -underBinder +onlyGivenNames z1 z2
  have hz1 : Keep 3425808 a1 z1 := by
    unfold z1
    refine Keep.ite ?_ ?_
    · refine Keep.step (sitePowerDown_keep _ _ _) rfl ?_
      exact Keep.refl _ _
    · exact Keep.refl _ _
  clear_value z1
  have hz2 : Keep 3425808 a1 z2 := by
    unfold z2
    refine Keep.ite ?_ ?_
    · refine Keep.step (linkOff_keep _ _) rfl ?_
      exact hz1
    · exact hz1
  clear_value z2
  refine Keep.ite ?_ ?_
  · refine Keep.step (unitMsg_keep _ _ _) rfl ?_
    refine Keep.step (modEntry_keep _ _ _) rfl ?_
    exact hz2
  · refine Keep.step (modEntry_keep _ _ _) rfl ?_
    exact hz2

theorem retryComplete_keep (a0) (a1) (a2) : Keep 7634840 a2 (retryComplete a0 a1 a2) := by
  unfold retryComplete
  split
  · exact Keep.refl _ _
  · refine Keep.ite ?_ ?_
    · exact Keep.refl _ _
    · refine Keep.ite ?_ ?_
      · refine Keep.ite ?_ ?_
        · refine Keep.step (restore_keep _ _) rfl ?_
          exact Keep.refl _ _
        · exact Keep.refl _ _
      · refine Keep.step (retryFailed_keep _ _) rfl ?_
        exact Keep.refl _ _

theorem execRetryComplete_keep (a0) (a1) (a2) : ∃ t, execRetryComplete a0 a1 a2 = .next t ∧ Keep 7634840 a2 t := by
  unfold execRetryComplete
  refine ⟨_, rfl, ?_⟩
  refine Keep.step (retryComplete_keep _ _ _) rfl ?_
  exact Keep.refl _ _

theorem fenceClear_keep (a0) (a1) : Keep 16384 a1 (fenceClear a0 a1) := by
  unfold fenceClear
  split
  · exact Keep.refl _ _
  · extract_lets -merge -underBinder +onlyGivenNames z3
    have hz3 : Keep 16384 a1 z3 := by
      unfold z3
      refine Keep.step (modFlt_keep _ _ (fun _ w => w)) rfl ?_
      exact Keep.refl _ _
    clear_value z3
    refine Keep.ite ?_ ?_
    · refine Keep.step (modEntry_keep _ _ _) rfl ?_
      exact hz3
    · refine Keep.step (retryBegin_keep _ _) rfl ?_
      exact hz3

theorem execFltFenceClear_keep (a0) (a1) (a2) : ∃ t, execFltFenceClear a0 a1 a2 = .next t ∧ Keep 114688 a2 t := by
  unfold execFltFenceClear
  refine ⟨_, rfl, ?_⟩
  refine Keep.iWrite (m := 114688) rfl ?_ ?_
  · intro y1
    refine Keep.step (fenceClear_keep _ _) rfl ?_
    exact Keep.refl _ _
  · exact Keep.refl _ _

theorem lowTempReturn_keep (a0) (a1) : Keep 7372696 a1 (lowTempReturn a0 a1) := by
  unfold lowTempReturn
  split
  · exact Keep.refl _ _
  · refine Keep.ite ?_ ?_
    · exact Keep.refl _ _
    · extract_lets -merge -underBinder +onlyGivenNames z3
      have hz3 : Keep 7372696 a1 z3 := by
        unfold z3
        refine Keep.step (modThm_keep _ _) rfl ?_
        exact Keep.refl _ _
      clear_value z3
      split
      · refine Keep.ite ?_ ?_
        · refine Keep.step (restore_keep _ _) rfl ?_
          exact hz3
        · exact hz3
      · exact hz3

theorem execLowTempReturn_keep (a0) (a1) : ∃ t, execLowTempReturn a0 a1 = .next t ∧ Keep 7372696 a1 t := by
  unfold execLowTempReturn
  refine ⟨_, rfl, ?_⟩
  refine Keep.step (lowTempReturn_keep _ _) rfl ?_
  exact Keep.refl _ _

theorem alertAck_keep (a0) : Keep 2113536 a0 (alertAck a0) := by
  unfold alertAck
  refine Keep.step (showAlert_keep _) rfl ?_
  refine Keep.step (modFlt_keep _ _ (fun _ w => w)) rfl ?_
  exact Keep.refl _ _

theorem firstClear_keep (a0) : Keep 16384 a0 (firstClear a0) := by
  unfold firstClear
  refine Keep.step (modFlt_keep _ _ (fun _ w => w)) rfl ?_
  exact Keep.refl _ _

theorem unfreeze_keep (a0) : Keep 16384 a0 (unfreeze a0) := by
  unfold unfreeze
  refine Keep.step (modFlt_keep _ _ (fun _ w => w)) rfl ?_
  exact Keep.refl _ _

theorem execFltAlertAck_keep (a0) (a1) : ∃ t, execFltAlertAck a0 a1 = .next t ∧ Keep 2113536 a1 t := by
  unfold execFltAlertAck
  refine ⟨_, rfl, ?_⟩
  refine Keep.ite ?_ ?_
  · refine Keep.step (alertAck_keep _) rfl ?_
    exact Keep.refl _ _
  · exact Keep.refl _ _

theorem execFltFirstClear_keep (a0) (a1) : ∃ t, execFltFirstClear a0 a1 = .next t ∧ Keep 114688 a1 t := by
  unfold execFltFirstClear
  refine ⟨_, rfl, ?_⟩
  refine Keep.iWrite (m := 114688) rfl ?_ ?_
  · intro y1
    refine Keep.step (firstClear_keep _) rfl ?_
    exact Keep.refl _ _
  · exact Keep.refl _ _

theorem execFltOuttakeUnfreeze_keep (a0) (a1) : ∃ t, execFltOuttakeUnfreeze a0 a1 = .next t ∧ Keep 114688 a1 t := by
  unfold execFltOuttakeUnfreeze
  refine ⟨_, rfl, ?_⟩
  refine Keep.ite ?_ ?_
  · refine Keep.step (audit_keep _ _ _ _ _) rfl ?_
    refine Keep.step (unfreeze_keep _) rfl ?_
    exact Keep.refl _ _
  · exact Keep.refl _ _

theorem voteScrub_keep (a0) (a1) : Keep 2113536 a1 (voteScrub a0 a1) := by
  unfold voteScrub
  refine Keep.foldl ?_ _ ?_
  · intro y1 x2
    refine Keep.ite ?_ ?_
    · exact Keep.refl _ _
    · split
      · exact Keep.refl _ _
      · refine Keep.step (raise_keep _ _ _ _ _) rfl ?_
        refine Keep.step (modFlt_keep _ _ (fun _ w => w)) rfl ?_
        exact Keep.refl _ _
      · refine Keep.step (raise_keep _ _ _ _ _) rfl ?_
        exact Keep.refl _ _
  · exact Keep.refl _ _

theorem execVoteScrub_keep (a0) (a1) : ∃ t, execVoteScrub a0 a1 = .next t ∧ Keep 2113536 a1 t := by
  unfold execVoteScrub
  refine ⟨_, rfl, ?_⟩
  refine Keep.step (voteScrub_keep _ _) rfl ?_
  exact Keep.refl _ _

theorem crewWatchdog_keep (a0) (a1) : Keep 2113552 a1 (crewWatchdog a0 a1) := by
  unfold crewWatchdog
  refine Keep.ite ?_ ?_
  · exact Keep.refl _ _
  · split
    next p1 p2 e =>
      have h3 : Keep 2113552 a1 p2 := by
        refine Keep.ofSnd e ?_
        refine Keep.step (nextFree_keep _) rfl ?_
        exact Keep.refl _ _
      refine Keep.step (raise_keep _ _ _ _ _) rfl ?_
      exact h3

theorem execCrewWatchdog_keep (a0) (a1) : ∃ t, execCrewWatchdog a0 a1 = .next t ∧ Keep 2113552 a1 t := by
  unfold execCrewWatchdog
  refine ⟨_, rfl, ?_⟩
  refine Keep.step (crewWatchdog_keep _ _) rfl ?_
  exact Keep.refl _ _

theorem faultInject_keep (a0) (a1) : Keep 16384 a1 (faultInject a0 a1) := by
  unfold faultInject
  refine Keep.step (sendFault_keep _ _) rfl ?_
  exact Keep.refl _ _

theorem execFaultInject_keep (a0) (a1) (a2) : ∃ t, execFaultInject a0 a1 a2 = .next t ∧ Keep 114704 a2 t := by
  unfold execFaultInject
  refine ⟨_, rfl, ?_⟩
  refine Keep.ite ?_ ?_
  · split
    next p1 p2 e =>
      have h3 : Keep 114704 a2 p2 := by
        refine Keep.ofSnd e ?_
        refine Keep.step (nextFree_keep _) rfl ?_
        exact Keep.refl _ _
      split
      next p4 p5 e =>
        have h6 : Keep 114704 a2 p5 := by
          refine Keep.ofSnd e ?_
          refine Keep.step (nextFree_keep _) rfl ?_
          exact h3
        refine Keep.step (audit_keep _ _ _ _ _) rfl ?_
        refine Keep.step (faultInject_keep _ _) rfl ?_
        exact h6
  · exact Keep.refl _ _

end Sys2Proof.Machine
end

