-- ==== Sys2Proof/Laws/KeepControl.lean ====
section
/-! SUPPORT. What each function of control space, flits and telemetry may change (Laws/Keep). -/

namespace Sys2Proof.Machine

open Sys2Proof

theorem nextOf_keep {m : Nat} {s : State} {o : Out} (h : ∃ t, o = .next t ∧ Keep m s t) : Keep m s (nextOf o s) := by
  obtain ⟨t, e, k⟩ := h
  rw [e]
  exact k

theorem Keep.onBit {m : Nat} {s0 s : State} {d : Word32} {i : Nat} {f : State → State} (hf : ∀ y, Keep m y (f y)) (k : Keep m s0 s) :
    Keep m s0 (onBit d i f s) := by
  unfold Sys2Proof.Machine.onBit
  exact Keep.ite (k.trans (hf s)) k

theorem setSel_keep (a0) (a1) (a2) (a3) : Keep 262144 a3 (setSel a0 a1 a2 a3) := by
  unfold setSel
  refine Keep.step (modCsp_keep _ _) rfl ?_
  exact Keep.refl _ _

theorem jobRecWrite_keep (a0) (a1) (a2) : Keep 65536 a2 (jobRecWrite a0 a1 a2) := by
  unfold jobRecWrite
  extract_lets -merge -underBinder +onlyGivenNames z1
  refine Keep.ite ?_ ?_
  · refine Keep.step (modJob_keep _ _ _) rfl ?_
    exact Keep.refl _ _
  · exact Keep.refl _ _

theorem roleWrite_keep (a0) (a1) (a2) (a3) : Keep 98304 a3 (roleWrite a0 a1 a2 a3) := by
  unfold roleWrite
  refine Keep.ite ?_ ?_
  · refine Keep.iWrite (m := 98304) rfl ?_ ?_
    · intro y1
      refine Keep.onBit (m := 98304) ?_ ?_
      · intro y2
        refine Keep.ite ?_ ?_
        · exact Keep.refl _ _
        · refine Keep.step (modRole_keep _ _ (fun _ => List.prefix_rfl)) rfl ?_
          exact Keep.refl _ _
      · exact Keep.refl _ _
    · exact Keep.refl _ _
  · refine Keep.ite ?_ ?_
    · refine Keep.step (jobRecWrite_keep _ _ _) rfl ?_
      exact Keep.refl _ _
    · exact Keep.refl _ _

theorem bootWrite_keep (a0) (a1) (a2) (a3) : Keep 4194302 a3 (bootWrite a0 a1 a2 a3) := by
  unfold bootWrite
  extract_lets -merge -underBinder +onlyGivenNames z1
  refine Keep.ite ?_ ?_
  · refine Keep.onBit (m := 4194302) ?_ ?_
    · intro y2
      refine Keep.step (nextOf_keep (execWake_keep _ _)) rfl ?_
      exact Keep.refl _ _
    · refine Keep.onBit (m := 4194302) ?_ ?_
      · intro y3
        refine Keep.step (nextOf_keep (execDark_keep _ _)) rfl ?_
        exact Keep.refl _ _
      · refine Keep.onBit (m := 4194302) ?_ ?_
        · intro y4
          refine Keep.step (nextOf_keep (execRestart_keep _ _)) rfl ?_
          exact Keep.refl _ _
        · exact Keep.refl _ _
  · refine Keep.ite ?_ ?_
    · refine Keep.iWrite (m := 4194302) rfl ?_ ?_
      · intro y5
        refine Keep.onBit (m := 4194302) ?_ ?_
        · intro y6
          refine Keep.step (scriptCheck_keep _ _) rfl ?_
          exact Keep.refl _ _
        · exact Keep.refl _ _
      · exact Keep.refl _ _
    · refine Keep.ite ?_ ?_
      · refine Keep.iWrite (m := 4194302) rfl ?_ ?_
        · intro y7
          refine Keep.step (modRole_keep _ _ (fun _ => List.prefix_rfl)) rfl ?_
          exact Keep.refl _ _
        · exact Keep.refl _ _
      · refine Keep.ite ?_ ?_
        · refine Keep.iWrite (m := 4194302) rfl ?_ ?_
          · intro y8
            refine Keep.step (modBoot_keep _ _ (fun _ => Nat.le_refl _)) rfl ?_
            exact Keep.refl _ _
          · exact Keep.refl _ _
        · refine Keep.ite ?_ ?_
          · refine Keep.iWrite (m := 4194302) rfl ?_ ?_
            · intro y9
              refine Keep.ite ?_ ?_
              · refine Keep.step (flashRead_keep _) rfl ?_
                exact Keep.refl _ _
              · refine Keep.ite ?_ ?_
                · refine Keep.step (flashStart_keep _ _ _) rfl ?_
                  exact Keep.refl _ _
                · refine Keep.ite ?_ ?_
                  · refine Keep.step (flashStart_keep _ _ _) rfl ?_
                    exact Keep.refl _ _
                  · exact Keep.refl _ _
            · exact Keep.refl _ _
          · refine Keep.ite ?_ ?_
            · refine Keep.iWrite (m := 4194302) rfl ?_ ?_
              · intro y10
                refine Keep.step (modBoot_keep _ _ (fun _ => Nat.le_refl _)) rfl ?_
                exact Keep.refl _ _
              · exact Keep.refl _ _
            · exact Keep.refl _ _

theorem tcWrite_keep (a0) (a1) (a2) (a3) : Keep 6416022 a3 (tcWrite a0 a1 a2 a3) := by
  unfold tcWrite
  refine Keep.ite ?_ ?_
  · refine Keep.onBit (m := 6416022) ?_ ?_
    · intro y1
      refine Keep.step (reelStop_keep _) rfl ?_
      exact Keep.refl _ _
    · refine Keep.onBit (m := 6416022) ?_ ?_
      · intro y2
        refine Keep.step (reelStart_keep _) rfl ?_
        exact Keep.refl _ _
      · refine Keep.onBit (m := 6416022) ?_ ?_
        · intro y3
          refine Keep.step (nextOf_keep (execSwapCancel_keep _ _)) rfl ?_
          exact Keep.refl _ _
        · refine Keep.onBit (m := 6416022) ?_ ?_
          · intro y4
            refine Keep.step (swapArm_keep _) rfl ?_
            exact Keep.refl _ _
          · exact Keep.refl _ _
  · refine Keep.ite ?_ ?_
    · refine Keep.step (pauseWrite_keep _ _ _ _ _) rfl ?_
      exact Keep.refl _ _
    · exact Keep.refl _ _

theorem tsiWrite_keep (a0) (a1) (a2) (a3) (a4) : Keep 98816 a4 (tsiWrite a0 a1 a2 a3 a4) := by
  unfold tsiWrite
  extract_lets -merge -underBinder +onlyGivenNames z1
  refine Keep.ite ?_ ?_
  · refine Keep.iWrite (m := 98816) rfl ?_ ?_
    · intro y2
      refine Keep.step (modSite_keep _ _ _) rfl ?_
      exact Keep.refl _ _
    · exact Keep.refl _ _
  · refine Keep.ite ?_ ?_
    · split
      · refine Keep.iWrite (m := 98816) rfl ?_ ?_
        · intro y5
          refine Keep.step (laneTapWrite_keep _ _ _ _ _ _) rfl ?_
          exact Keep.refl _ _
        · exact Keep.refl _ _
      · exact Keep.refl _ _
    · exact Keep.refl _ _

theorem podWrite_keep (a0) (a1) (a2) (a3) : Keep 5621256 a3 (podWrite a0 a1 a2 a3) := by
  unfold podWrite
  extract_lets -merge -underBinder +onlyGivenNames z1 z2 z3 z4
  refine Keep.ite ?_ ?_
  · refine Keep.iWrite (m := 5621256) rfl ?_ ?_
    · intro y5
      refine Keep.onBit (m := 5621256) ?_ ?_
      · intro y6
        refine Keep.step (quarantineEnd_keep _ _) rfl ?_
        exact Keep.refl _ _
      · exact Keep.refl _ _
    · exact Keep.refl _ _
  · refine Keep.ite ?_ ?_
    · refine Keep.iWrite (m := 5621256) rfl ?_ ?_
      · intro y7
        refine Keep.onBit (m := 5621256) ?_ ?_
        · intro y8
          refine Keep.step (modPod_keep _ _) rfl ?_
          refine Keep.step (nextChanged_keep _) rfl ?_
          exact Keep.refl _ _
        · refine Keep.onBit (m := 5621256) ?_ ?_
          · intro y9
            refine Keep.step (rtCancel_keep _) rfl ?_
            exact Keep.refl _ _
          · refine Keep.onBit (m := 5621256) ?_ ?_
            · intro y10
              refine Keep.step (rtSwap_keep _) rfl ?_
              exact Keep.refl _ _
            · refine Keep.onBit (m := 5621256) ?_ ?_
              · intro y11
                refine Keep.step (rtCheck_keep _) rfl ?_
                exact Keep.refl _ _
              · exact Keep.refl _ _
      · exact Keep.refl _ _
    · refine Keep.ite ?_ ?_
      · refine Keep.iWrite (m := 5621256) rfl ?_ ?_
        · intro y12
          refine Keep.step (setSel_keep _ _ _ _) rfl ?_
          exact Keep.refl _ _
        · exact Keep.refl _ _
      · refine Keep.ite ?_ ?_
        · refine Keep.iWrite (m := 5621256) rfl ?_ ?_
          · intro y13
            refine Keep.step (modPod_keep _ _) rfl ?_
            refine Keep.step (nextChanged_keep _) rfl ?_
            exact Keep.refl _ _
          · exact Keep.refl _ _
        · refine Keep.ite ?_ ?_
          · refine Keep.iWrite (m := 5621256) rfl ?_ ?_
            · intro y14
              refine Keep.step (modPod_keep _ _) rfl ?_
              refine Keep.step (nextChanged_keep _) rfl ?_
              exact Keep.refl _ _
            · exact Keep.refl _ _
          · exact Keep.refl _ _

theorem focWrite_keep (a0) (a1) (a2) (a3) : Keep 100352 a3 (focWrite a0 a1 a2 a3) := by
  unfold focWrite
  refine Keep.ite ?_ ?_
  · refine Keep.iWrite (m := 100352) rfl ?_ ?_
    · intro y1
      refine Keep.step (modFoc_keep _ _) rfl ?_
      exact Keep.refl _ _
    · exact Keep.refl _ _
  · refine Keep.ite ?_ ?_
    · refine Keep.iWrite (m := 100352) rfl ?_ ?_
      · intro y2
        refine Keep.onBit (m := 100352) ?_ ?_
        · intro y3
          refine Keep.step (warmSave_keep _) rfl ?_
          exact Keep.refl _ _
        · exact Keep.refl _ _
      · exact Keep.refl _ _
    · exact Keep.refl _ _

theorem fltWrite_keep (a0) (a1) (a2) (a3) : Keep 2211840 a3 (fltWrite a0 a1 a2 a3) := by
  unfold fltWrite
  refine Keep.ite ?_ ?_
  · refine Keep.onBit (m := 2211840) ?_ ?_
    · intro y1
      refine Keep.step (nextOf_keep (execFltAlertAck_keep _ _)) rfl ?_
      exact Keep.refl _ _
    · exact Keep.refl _ _
  · refine Keep.ite ?_ ?_
    · refine Keep.iWrite (m := 2211840) rfl ?_ ?_
      · intro y2
        refine Keep.onBit (m := 2211840) ?_ ?_
        · intro y3
          refine Keep.step (firstClear_keep _) rfl ?_
          exact Keep.refl _ _
        · exact Keep.refl _ _
      · exact Keep.refl _ _
    · refine Keep.ite ?_ ?_
      · refine Keep.onBit (m := 2211840) ?_ ?_
        · intro y4
          refine Keep.step (nextOf_keep (execFltOuttakeUnfreeze_keep _ _)) rfl ?_
          exact Keep.refl _ _
        · exact Keep.refl _ _
      · refine Keep.ite ?_ ?_
        · refine Keep.iWrite (m := 2211840) rfl ?_ ?_
          · intro y5
            refine Keep.step (fenceClear_keep _ _) rfl ?_
            exact Keep.refl _ _
          · exact Keep.refl _ _
        · exact Keep.refl _ _

theorem updWrite_keep (a0) (a1) (a2) (a3) : Keep 229376 a3 (updWrite a0 a1 a2 a3) := by
  unfold updWrite
  refine Keep.ite ?_ ?_
  · refine Keep.iWrite (m := 229376) rfl ?_ ?_
    · intro y1
      refine Keep.onBit (m := 229376) ?_ ?_
      · intro y2
        refine Keep.step (abortSlot_keep _) rfl ?_
        exact Keep.refl _ _
      · refine Keep.onBit (m := 229376) ?_ ?_
        · intro y3
          refine Keep.step (activate_keep _ _) rfl ?_
          exact Keep.refl _ _
        · exact Keep.refl _ _
    · exact Keep.refl _ _
  · exact Keep.refl _ _

theorem mstStoreWrite_keep (a0) (a1) (a2) : Keep 4 a2 (mstStoreWrite a0 a1 a2) := by
  unfold mstStoreWrite
  extract_lets -merge -underBinder +onlyGivenNames z1
  refine Keep.ite ?_ ?_
  · refine Keep.step (modSlu_keep _ _) rfl ?_
    exact Keep.refl _ _
  · exact Keep.refl _ _

theorem storeWrite_keep (a0) (a1) (a2) (a3) : Keep 6 a3 (storeWrite a0 a1 a2 a3) := by
  unfold storeWrite
  refine Keep.ite ?_ ?_
  · exact Keep.refl _ _
  · refine Keep.ite ?_ ?_
    · refine Keep.step (mstStoreWrite_keep _ _ _) rfl ?_
      exact Keep.refl _ _
    · refine Keep.step (reelWrite_keep _ _ _) rfl ?_
      exact Keep.refl _ _

theorem regWrite_keep (a0) (a1) (a2) (a3) : Keep 8388606 a3 (regWrite a0 a1 a2 a3) := by
  unfold regWrite
  extract_lets -merge -underBinder +onlyGivenNames z1 z2
  refine Keep.ite ?_ ?_
  · exact Keep.refl _ _
  · split
    · refine Keep.ite ?_ ?_
      · refine Keep.step (setSel_keep _ _ _ _) rfl ?_
        exact Keep.refl _ _
      · exact Keep.refl _ _
    · split
      · refine Keep.ite ?_ ?_
        · refine Keep.step (stage_keep _ _ _ _ _) rfl ?_
          exact Keep.refl _ _
        · exact Keep.refl _ _
      · refine Keep.ite ?_ ?_
        · refine Keep.step (commitWrite_keep _ _ _ _) rfl ?_
          exact Keep.refl _ _
        · refine Keep.ite ?_ ?_
          · refine Keep.step (roleWrite_keep _ _ _ _) rfl ?_
            exact Keep.refl _ _
          · refine Keep.ite ?_ ?_
            · refine Keep.step (bootWrite_keep _ _ _ _) rfl ?_
              exact Keep.refl _ _
            · refine Keep.ite ?_ ?_
              · refine Keep.step (tcWrite_keep _ _ _ _) rfl ?_
                exact Keep.refl _ _
              · refine Keep.ite ?_ ?_
                · refine Keep.ite ?_ ?_
                  · refine Keep.onBit (m := 8388606) ?_ ?_
                    · intro y9
                      refine Keep.step (reelClear_keep _) rfl ?_
                      exact Keep.refl _ _
                    · refine Keep.onBit (m := 8388606) ?_ ?_
                      · intro y10
                        refine Keep.step (reelCheck_keep _) rfl ?_
                        exact Keep.refl _ _
                      · exact Keep.refl _ _
                  · exact Keep.refl _ _
                · refine Keep.ite ?_ ?_
                  · refine Keep.onBit (m := 8388606) ?_ ?_
                    · intro y11
                      refine Keep.step (nextOf_keep (execPeakClearAll_keep _ _)) rfl ?_
                      exact Keep.refl _ _
                    · refine Keep.onBit (m := 8388606) ?_ ?_
                      · intro y12
                        refine Keep.step (nextOf_keep (execPeakClearSelected_keep _ _)) rfl ?_
                        exact Keep.refl _ _
                      · exact Keep.refl _ _
                  · refine Keep.ite ?_ ?_
                    · refine Keep.iWrite (m := 8388606) rfl ?_ ?_
                      · intro y13
                        refine Keep.step (modBlk_keep _ _) rfl ?_
                        exact Keep.refl _ _
                      · exact Keep.refl _ _
                    · refine Keep.ite ?_ ?_
                      · refine Keep.step (tsiWrite_keep _ _ _ _ _) rfl ?_
                        exact Keep.refl _ _
                      · refine Keep.ite ?_ ?_
                        · refine Keep.step (podWrite_keep _ _ _ _) rfl ?_
                          exact Keep.refl _ _
                        · refine Keep.ite ?_ ?_
                          · refine Keep.step (focWrite_keep _ _ _ _) rfl ?_
                            exact Keep.refl _ _
                          · refine Keep.ite ?_ ?_
                            · refine Keep.iWrite (m := 8388606) rfl ?_ ?_
                              · intro y14
                                refine Keep.step (modGaf_keep _ _) rfl ?_
                                exact Keep.refl _ _
                              · exact Keep.refl _ _
                            · refine Keep.ite ?_ ?_
                              · refine Keep.step (fltWrite_keep _ _ _ _) rfl ?_
                                exact Keep.refl _ _
                              · refine Keep.ite ?_ ?_
                                · refine Keep.iWrite (m := 8388606) rfl ?_ ?_
                                  · intro y15
                                    refine Keep.onBit (m := 8388606) ?_ ?_
                                    · intro y16
                                      refine Keep.step (handover_keep _) rfl ?_
                                      exact Keep.refl _ _
                                    · exact Keep.refl _ _
                                  · exact Keep.refl _ _
                                · refine Keep.ite ?_ ?_
                                  · refine Keep.step (updWrite_keep _ _ _ _) rfl ?_
                                    exact Keep.refl _ _
                                  · refine Keep.ite ?_ ?_
                                    · refine Keep.onBit (m := 8388606) ?_ ?_
                                      · intro y17
                                        refine Keep.step (facEnter_keep _ _ _) rfl ?_
                                        exact Keep.refl _ _
                                      · exact Keep.refl _ _
                                    · refine Keep.ite ?_ ?_
                                      · refine Keep.step (storeWrite_keep _ _ _ _) rfl ?_
                                        exact Keep.refl _ _
                                      · exact Keep.refl _ _

theorem execRegisterWrite_keep (a0) (a1) (a2) (a3) : ∃ t, execRegisterWrite a0 a1 a2 a3 = .next t ∧ Keep 8388606 a3 t := by
  unfold execRegisterWrite
  refine ⟨_, rfl, ?_⟩
  refine Keep.step (regWrite_keep _ _ _ _) rfl ?_
  exact Keep.refl _ _

theorem execSlateCommit_keep (a0) (a1) (a2) (a3) : ∃ t, execSlateCommit a0 a1 a2 a3 = .next t ∧ Keep 360448 a3 t := by
  unfold execSlateCommit
  refine ⟨_, rfl, ?_⟩
  refine Keep.ite ?_ ?_
  · refine Keep.step (commitWrite_keep _ _ _ _) rfl ?_
    exact Keep.refl _ _
  · exact Keep.refl _ _

theorem rcClear_keep (a0) (a1) : Keep 651262 a1 (rcClear a0 a1) := by
  unfold rcClear
  extract_lets -merge -underBinder +onlyGivenNames z1 z2 z3
  refine Keep.ite ?_ ?_
  · refine Keep.step (modRole_keep _ _ (fun _ => List.prefix_rfl)) rfl ?_
    exact Keep.refl _ _
  · refine Keep.ite ?_ ?_
    · refine Keep.step (modTc_keep _ _) rfl ?_
      exact Keep.refl _ _
    · refine Keep.ite ?_ ?_
      · refine Keep.step (modSlu_keep _ _) rfl ?_
        exact Keep.refl _ _
      · refine Keep.ite ?_ ?_
        · refine Keep.step (modSlu_keep _ _) rfl ?_
          exact Keep.refl _ _
        · refine Keep.ite ?_ ?_
          · refine Keep.step (modSlu_keep _ _) rfl ?_
            exact Keep.refl _ _
          · refine Keep.ite ?_ ?_
            · refine Keep.step (modMrc_keep _ _) rfl ?_
              exact Keep.refl _ _
            · refine Keep.ite ?_ ?_
              · refine Keep.step (modMrc_keep _ _) rfl ?_
                exact Keep.refl _ _
              · refine Keep.ite ?_ ?_
                · refine Keep.step (modMs_keep _ _ _) rfl ?_
                  exact Keep.refl _ _
                · refine Keep.ite ?_ ?_
                  · refine Keep.step (modMs_keep _ _ _) rfl ?_
                    exact Keep.refl _ _
                  · refine Keep.ite ?_ ?_
                    · refine Keep.step (modMem_keep _ _ (fun _ w => w)) rfl ?_
                      exact Keep.refl _ _
                    · refine Keep.ite ?_ ?_
                      · refine Keep.step (modMem_keep _ _ (fun _ w => w)) rfl ?_
                        exact Keep.refl _ _
                      · refine Keep.ite ?_ ?_
                        · refine Keep.step (modMem_keep _ _ (fun _ w => w)) rfl ?_
                          exact Keep.refl _ _
                        · refine Keep.ite ?_ ?_
                          · refine Keep.step (modMs_keep _ _ _) rfl ?_
                            exact Keep.refl _ _
                          · refine Keep.ite ?_ ?_
                            · refine Keep.step (modMs_keep _ _ _) rfl ?_
                              exact Keep.refl _ _
                            · refine Keep.ite ?_ ?_
                              · refine Keep.step (modMs_keep _ _ _) rfl ?_
                                exact Keep.refl _ _
                              · refine Keep.ite ?_ ?_
                                · refine Keep.step (modBlk_keep _ _) rfl ?_
                                  exact Keep.refl _ _
                                · refine Keep.ite ?_ ?_
                                  · refine Keep.step (modBlk_keep _ _) rfl ?_
                                    exact Keep.refl _ _
                                  · refine Keep.ite ?_ ?_
                                    · refine Keep.step (modBlk_keep _ _) rfl ?_
                                      exact Keep.refl _ _
                                    · refine Keep.ite ?_ ?_
                                      · refine Keep.step (modBlk_keep _ _) rfl ?_
                                        exact Keep.refl _ _
                                      · refine Keep.ite ?_ ?_
                                        · refine Keep.step (modBlk_keep _ _) rfl ?_
                                          exact Keep.refl _ _
                                        · refine Keep.ite ?_ ?_
                                          · refine Keep.step (modBlk_keep _ _) rfl ?_
                                            exact Keep.refl _ _
                                          · refine Keep.ite ?_ ?_
                                            · refine Keep.step (modMpd_keep _ _) rfl ?_
                                              exact Keep.refl _ _
                                            · refine Keep.ite ?_ ?_
                                              · refine Keep.step (modMpd_keep _ _) rfl ?_
                                                exact Keep.refl _ _
                                              · refine Keep.ite ?_ ?_
                                                · refine Keep.step (modMpd_keep _ _) rfl ?_
                                                  exact Keep.refl _ _
                                                · refine Keep.ite ?_ ?_
                                                  · refine Keep.step (modGrp_keep _ _) rfl ?_
                                                    exact Keep.refl _ _
                                                  · refine Keep.ite ?_ ?_
                                                    · refine Keep.step (modCtx_keep _ _ _) rfl ?_
                                                      exact Keep.refl _ _
                                                    · refine Keep.ite ?_ ?_
                                                      · refine Keep.step (modMst_keep _ _) rfl ?_
                                                        exact Keep.refl _ _
                                                      · refine Keep.ite ?_ ?_
                                                        · refine Keep.step (modMst_keep _ _) rfl ?_
                                                          exact Keep.refl _ _
                                                        · refine Keep.ite ?_ ?_
                                                          · refine Keep.ite ?_ ?_
                                                            · split
                                                              · refine Keep.step (modSite_keep _ _ _) rfl ?_
                                                                exact Keep.refl _ _
                                                              · exact Keep.refl _ _
                                                            · refine Keep.ite ?_ ?_
                                                              · refine Keep.step (modCount_keep _ _ _) rfl ?_
                                                                exact Keep.refl _ _
                                                              · refine Keep.ite ?_ ?_
                                                                · refine Keep.step (modCount_keep _ _ _) rfl ?_
                                                                  exact Keep.refl _ _
                                                                · refine Keep.ite ?_ ?_
                                                                  · refine Keep.step (modCount_keep _ _ _) rfl ?_
                                                                    exact Keep.refl _ _
                                                                  · refine Keep.ite ?_ ?_
                                                                    · refine Keep.step (modCount_keep _ _ _) rfl ?_
                                                                      exact Keep.refl _ _
                                                                    · refine Keep.ite ?_ ?_
                                                                      · refine Keep.step (modCount_keep _ _ _) rfl ?_
                                                                        exact Keep.refl _ _
                                                                      · refine Keep.ite ?_ ?_
                                                                        · refine Keep.step (modCount_keep _ _ _) rfl ?_
                                                                          exact Keep.refl _ _
                                                                        · refine Keep.ite ?_ ?_
                                                                          · refine Keep.step (modCount_keep _ _ _) rfl ?_
                                                                            exact Keep.refl _ _
                                                                          · refine Keep.ite ?_ ?_
                                                                            · refine Keep.step (modCount_keep _ _ _) rfl ?_
                                                                              exact Keep.refl _ _
                                                                            · refine Keep.ite ?_ ?_
                                                                              · refine Keep.step (modCount_keep _ _ _) rfl ?_
                                                                                exact Keep.refl _ _
                                                                              · exact Keep.refl _ _
                                                          · refine Keep.ite ?_ ?_
                                                            · refine Keep.step (modPodLink_keep _ _ _) rfl ?_
                                                              exact Keep.refl _ _
                                                            · refine Keep.ite ?_ ?_
                                                              · refine Keep.step (modPod_keep _ _) rfl ?_
                                                                exact Keep.refl _ _
                                                              · refine Keep.ite ?_ ?_
                                                                · refine Keep.step (modPod_keep _ _) rfl ?_
                                                                  exact Keep.refl _ _
                                                                · refine Keep.ite ?_ ?_
                                                                  · refine Keep.step (modPod_keep _ _) rfl ?_
                                                                    exact Keep.refl _ _
                                                                  · refine Keep.ite ?_ ?_
                                                                    · refine Keep.step (modPod_keep _ _) rfl ?_
                                                                      exact Keep.refl _ _
                                                                    · refine Keep.ite ?_ ?_
                                                                      · refine Keep.step (modFoc_keep _ _) rfl ?_
                                                                        exact Keep.refl _ _
                                                                      · refine Keep.ite ?_ ?_
                                                                        · refine Keep.step (modFoc_keep _ _) rfl ?_
                                                                          exact Keep.refl _ _
                                                                        · refine Keep.ite ?_ ?_
                                                                          · refine Keep.step (modFoc_keep _ _) rfl ?_
                                                                            exact Keep.refl _ _
                                                                          · refine Keep.ite ?_ ?_
                                                                            · refine Keep.step (modPow_keep _ _ _) rfl ?_
                                                                              exact Keep.refl _ _
                                                                            · refine Keep.ite ?_ ?_
                                                                              · refine Keep.step (modFlt_keep _ _ (fun _ w => w)) rfl ?_
                                                                                exact Keep.refl _ _
                                                                              · refine Keep.ite ?_ ?_
                                                                                · refine Keep.step (modPair_keep _ _) rfl ?_
                                                                                  exact Keep.refl _ _
                                                                                · refine Keep.ite ?_ ?_
                                                                                  · refine Keep.step (modTel_keep _ _) rfl ?_
                                                                                    exact Keep.refl _ _
                                                                                  · exact Keep.refl _ _

theorem latchHi_keep (a0) (a1) (a2) : Keep 262144 a2 (latchHi a0 a1 a2) := by
  unfold latchHi
  split
  · refine Keep.step (modCsp_keep _ _) rfl ?_
    exact Keep.refl _ _
  · exact Keep.refl _ _

theorem regRead_keep (a0) (a1) (a2) : Keep 913406 a2 (regRead a0 a1 a2).2 := by
  unfold regRead
  split
  · exact Keep.refl _ _
  · extract_lets -merge -underBinder +onlyGivenNames z3
    split
    · exact Keep.refl _ _
    · extract_lets -merge -underBinder +onlyGivenNames z4 z5
      have hz5 : Keep 913406 a2 z5 := by
        unfold z5
        refine Keep.ite ?_ ?_
        · refine Keep.step (latchHi_keep _ _ _) rfl ?_
          exact Keep.refl _ _
        · exact Keep.refl _ _
      clear_value z5
      refine Keep.ite ?_ ?_
      · refine Keep.step (rcClear_keep _ _) rfl ?_
        exact hz5
      · exact hz5

theorem regReads_keep : ∀ a0 a1 a2 a3, Keep 913406 a3 (regReads a0 a1 a2 a3).2
  | b0, 0, b1, b2 => by
    rw [regReads.eq_1]
    exact Keep.refl _ _
  | b0, (b3 + 1), b1, b2 => by
    rw [regReads.eq_2]
    refine Keep.step (regReads_keep _ _ _ _) rfl ?_
    refine Keep.step (regRead_keep _ _ _) rfl ?_
    exact Keep.refl _ _

theorem regWrites_keep : ∀ a0 a1 a2 a3, Keep 8388606 a3 (regWrites a0 a1 a2 a3)
  | b0, [], b1, b2 => by
    rw [regWrites.eq_1]
    exact Keep.refl _ _
  | b0, (b3 :: b4), b1, b2 => by
    rw [regWrites.eq_2]
    refine Keep.step (regWrites_keep _ _ _ _) rfl ?_
    refine Keep.step (regWrite_keep _ _ _ _) rfl ?_
    exact Keep.refl _ _

theorem execRcRead_keep (a0) (a1) (a2) : ∃ t, execRcRead a0 a1 a2 = .next t ∧ Keep 5107710 a2 t := by
  unfold execRcRead
  refine ⟨_, rfl, ?_⟩
  split
  · refine Keep.ite ?_ ?_
    · extract_lets -merge -underBinder +onlyGivenNames z2
      have hz2 : Keep 5107710 a2 z2.2 := by
        unfold z2
        refine Keep.step (regRead_keep _ _ _) rfl ?_
        exact Keep.refl _ _
      clear_value z2
      refine Keep.step (emit_keep _ _) rfl ?_
      exact hz2
    · exact Keep.refl _ _
  · exact Keep.refl _ _

theorem execLoReadLatch_keep (a0) (a1) (a2) : ∃ t, execLoReadLatch a0 a1 a2 = .next t ∧ Keep 5107710 a2 t := by
  unfold execLoReadLatch
  refine ⟨_, rfl, ?_⟩
  split
  · refine Keep.ite ?_ ?_
    · extract_lets -merge -underBinder +onlyGivenNames z2
      have hz2 : Keep 5107710 a2 z2.2 := by
        unfold z2
        refine Keep.step (regRead_keep _ _ _) rfl ?_
        exact Keep.refl _ _
      clear_value z2
      refine Keep.step (emit_keep _ _) rfl ?_
      exact hz2
    · exact Keep.refl _ _
  · exact Keep.refl _ _

theorem execCsRead_keep (a0) (a1) (a2) (a3) : ∃ t, execCsRead a0 a1 a2 a3 = .next t ∧ Keep 5107710 a3 t := by
  unfold execCsRead
  refine ⟨_, rfl, ?_⟩
  refine Keep.ite ?_ ?_
  · extract_lets -merge -underBinder +onlyGivenNames z1
    have hz1 : Keep 5107710 a3 z1.2 := by
      unfold z1
      refine Keep.step (regReads_keep _ _ _ _) rfl ?_
      exact Keep.refl _ _
    clear_value z1
    refine Keep.step (emit_keep _ _) rfl ?_
    exact hz1
  · exact Keep.refl _ _

theorem execCsWrite_keep (a0) (a1) (a2) (a3) : ∃ t, execCsWrite a0 a1 a2 a3 = .next t ∧ Keep 8388606 a3 t := by
  unfold execCsWrite
  refine ⟨_, rfl, ?_⟩
  refine Keep.ite ?_ ?_
  · extract_lets -merge -underBinder +onlyGivenNames z1
    have hz1 : Keep 8388606 a3 z1 := by
      unfold z1
      refine Keep.step (regWrites_keep _ _ _ _) rfl ?_
      exact Keep.refl _ _
    clear_value z1
    refine Keep.ite ?_ ?_
    · refine Keep.step (emit_keep _ _) rfl ?_
      exact hz1
    · exact hz1
  · exact Keep.refl _ _

theorem regRsp_keep (a0) (a1) (a2) (a3) (a4) : Keep 4456960 a4 (regRsp a0 a1 a2 a3 a4) := by
  unfold regRsp
  refine Keep.step (sideband_keep _ _ _ _) rfl ?_
  refine Keep.step (modCsp_keep _ _) rfl ?_
  exact Keep.refl _ _

theorem sbRead_keep (a0) (a1) (a2) (a3) : Keep 5107710 a3 (sbRead a0 a1 a2 a3) := by
  unfold sbRead
  refine Keep.ite ?_ ?_
  · exact Keep.refl _ _
  · split
    · refine Keep.step (sideband_keep _ _ _ _) rfl ?_
      exact Keep.refl _ _
    · extract_lets -merge -underBinder +onlyGivenNames z4
      have hz4 : Keep 5107710 a3 z4.2 := by
        unfold z4
        split
        · refine Keep.step (regRead_keep _ _ _) rfl ?_
          exact Keep.refl _ _
        · exact Keep.refl _ _
      clear_value z4
      refine Keep.step (regRsp_keep _ _ _ _ _) rfl ?_
      exact hz4

theorem sbWrite_keep (a0) (a1) (a2) (a3) (a4) : Keep 8388606 a4 (sbWrite a0 a1 a2 a3 a4) := by
  unfold sbWrite
  refine Keep.ite ?_ ?_
  · exact Keep.refl _ _
  · split
    · refine Keep.step (sideband_keep _ _ _ _) rfl ?_
      exact Keep.refl _ _
    · refine Keep.step (regRsp_keep _ _ _ _ _) rfl ?_
      refine Keep.ite ?_ ?_
      · refine Keep.step (regWrite_keep _ _ _ _) rfl ?_
        exact Keep.refl _ _
      · exact Keep.refl _ _

theorem execRegRead_keep (a0) (a1) (a2) (a3) : ∃ t, execRegRead a0 a1 a2 a3 = .next t ∧ Keep 5107710 a3 t := by
  unfold execRegRead
  refine ⟨_, rfl, ?_⟩
  refine Keep.step (sbRead_keep _ _ _ _) rfl ?_
  exact Keep.refl _ _

theorem execRegWrite_keep (a0) (a1) (a2) (a3) (a4) : ∃ t, execRegWrite a0 a1 a2 a3 a4 = .next t ∧ Keep 8388606 a4 t := by
  unfold execRegWrite
  refine ⟨_, rfl, ?_⟩
  refine Keep.step (sbWrite_keep _ _ _ _ _) rfl ?_
  exact Keep.refl _ _

theorem mgtAnswer_keep (a0) (a1) (a2) (a3) (a4) : Keep 2114552 a4 (mgtAnswer a0 a1 a2 a3 a4) := by
  unfold mgtAnswer
  refine Keep.step (releaseMgt_keep _ _) rfl ?_
  refine Keep.step (siteDeliver_keep _ _ _ _) rfl ?_
  exact Keep.refl _ _

theorem mgtRead_keep (a0) (a1) (a2) (a3) (a4) : Keep 3010558 a4 (mgtRead a0 a1 a2 a3 a4) := by
  unfold mgtRead
  refine Keep.ite ?_ ?_
  · extract_lets -merge -underBinder +onlyGivenNames z1
    have hz1 : Keep 3010558 a4 z1.2 := by
      unfold z1
      refine Keep.step (regRead_keep _ _ _) rfl ?_
      exact Keep.refl _ _
    clear_value z1
    refine Keep.step (mgtAnswer_keep _ _ _ _ _) rfl ?_
    exact hz1
  · refine Keep.step (releaseMgt_keep _ _) rfl ?_
    exact Keep.refl _ _

theorem mgtWrite_keep (a0) (a1) (a2) (a3) (a4) (a5) : Keep 8388606 a5 (mgtWrite a0 a1 a2 a3 a4 a5) := by
  unfold mgtWrite
  refine Keep.ite ?_ ?_
  · refine Keep.step (mgtAnswer_keep _ _ _ _ _) rfl ?_
    refine Keep.step (regWrite_keep _ _ _ _) rfl ?_
    exact Keep.refl _ _
  · refine Keep.step (releaseMgt_keep _ _) rfl ?_
    exact Keep.refl _ _

theorem execMgtCsRead_keep (a0) (a1) (a2) (a3) : ∃ t, execMgtCsRead a0 a1 a2 a3 = .next t ∧ Keep 3010558 a3 t := by
  unfold execMgtCsRead
  refine ⟨_, rfl, ?_⟩
  split
  · refine Keep.ite ?_ ?_
    · exact Keep.refl _ _
    · refine Keep.step (mgtRead_keep _ _ _ _ _) rfl ?_
      refine Keep.step (takeRx_keep _ _ _ _ _) rfl ?_
      exact Keep.refl _ _
  · exact Keep.refl _ _

theorem execMgtCsWrite_keep (a0) (a1) (a2) (a3) (a4) : ∃ t, execMgtCsWrite a0 a1 a2 a3 a4 = .next t ∧ Keep 8388606 a4 t := by
  unfold execMgtCsWrite
  refine ⟨_, rfl, ?_⟩
  split
  · refine Keep.ite ?_ ?_
    · exact Keep.refl _ _
    · refine Keep.step (mgtWrite_keep _ _ _ _ _ _) rfl ?_
      refine Keep.step (takeRx_keep _ _ _ _ _) rfl ?_
      exact Keep.refl _ _
  · exact Keep.refl _ _

theorem spdmFrag_keep (a0) (a1) (a2) (a3) (a4) (a5) : Keep 262144 a5 (spdmFrag a0 a1 a2 a3 a4 a5) := by
  unfold spdmFrag
  extract_lets -merge -underBinder +onlyGivenNames z1
  refine Keep.ite ?_ ?_
  · exact Keep.refl _ _
  · extract_lets -merge -underBinder +onlyGivenNames z2 z3 z4
    refine Keep.step (modCsp_keep _ _) rfl ?_
    exact Keep.refl _ _

theorem execSpdmFrag_keep (a0) (a1) (a2) (a3) (a4) (a5) : ∃ t, execSpdmFrag a0 a1 a2 a3 a4 a5 = .next t ∧ Keep 262144 a5 t := by
  unfold execSpdmFrag
  refine ⟨_, rfl, ?_⟩
  refine Keep.step (spdmFrag_keep _ _ _ _ _ _) rfl ?_
  exact Keep.refl _ _

theorem overlapFree_keep (a0) (a1) (a2) : Keep 16 a2 (overlapFree a0 a1 a2).2 := by
  unfold overlapFree
  extract_lets -merge -underBinder +onlyGivenNames z1
  split
  · split
    next p2 p3 e =>
      have h4 : Keep 16 a2 p3 := by
        refine Keep.ofSnd e ?_
        refine Keep.step (nextFree_keep _) rfl ?_
        exact Keep.refl _ _
      exact h4
  · exact Keep.refl _ _

theorem execMemRequestIssue_keep (a0) (a1) : ∃ t, execMemRequestIssue a0 a1 = .next t ∧ Keep 2147320 a1 t := by
  unfold execMemRequestIssue
  refine ⟨_, rfl, ?_⟩
  refine Keep.ite ?_ ?_
  · exact Keep.refl _ _
  · split
    · refine Keep.ite ?_ ?_
      · exact Keep.refl _ _
      · refine Keep.ite ?_ ?_
        · refine Keep.step (modMem_keep _ _ (fun _ w => w)) rfl ?_
          exact Keep.refl _ _
        · refine Keep.step (issueMem_keep _ _) rfl ?_
          exact Keep.refl _ _
    · split
      · split
        next p5 p6 e =>
          have h7 : Keep 2147320 a1 p6 := by
            refine Keep.ofSnd e ?_
            refine Keep.step (overlapFree_keep _ _ _) rfl ?_
            exact Keep.refl _ _
          refine Keep.step (issueMem_keep _ _) rfl ?_
          refine Keep.step (gripIssued_keep _ _ _) rfl ?_
          exact h7
      · exact Keep.refl _ _
    · split
      · extract_lets -merge -underBinder +onlyGivenNames z12 z13
        have hz13 : Keep 2147320 a1 z13 := by
          unfold z13
          refine Keep.step (modBlk_keep _ _) rfl ?_
          exact Keep.refl _ _
        clear_value z13
        refine Keep.step (issueRemote_keep _ _ _ _) rfl ?_
        exact hz13
      · exact Keep.refl _ _
    · split
      · refine Keep.step (issueMem_keep _ _) rfl ?_
        refine Keep.step (mstIssued_keep _ _) rfl ?_
        exact Keep.refl _ _
      · exact Keep.refl _ _
    · exact Keep.refl _ _

theorem badSlot_keep (a0) (a1) : Keep 512 a1 (badSlot a0 a1) := by
  unfold badSlot
  refine Keep.step (modCount_keep _ _ _) rfl ?_
  exact Keep.refl _ _

theorem sendSignal_keep (a0) (a1) (a2) (a3) : Keep 8 a3 (sendSignal a0 a1 a2 a3) := by
  unfold sendSignal
  split
  · exact Keep.refl _ _
  · extract_lets -merge -underBinder +onlyGivenNames z3
    refine Keep.ite ?_ ?_
    · extract_lets -merge -underBinder +onlyGivenNames z4
      refine Keep.step (sendMulti_keep _ _ _ _ _) rfl ?_
      exact Keep.refl _ _
    · refine Keep.ite ?_ ?_
      · split
        · refine Keep.step (sendMsg_keep _ _ _ _ _) rfl ?_
          exact Keep.refl _ _
        · exact Keep.refl _ _
      · exact Keep.refl _ _

theorem execSignal_keep (a0) (a1) (a2) : ∃ t, execSignal a0 a1 a2 = .next t ∧ Keep 520 a2 t := by
  unfold execSignal
  refine ⟨_, rfl, ?_⟩
  refine Keep.ite ?_ ?_
  · exact Keep.refl _ _
  · refine Keep.ite ?_ ?_
    · refine Keep.step (sendSignal_keep _ _ _ _) rfl ?_
      exact Keep.refl _ _
    · refine Keep.step (badSlot_keep _ _) rfl ?_
      exact Keep.refl _ _

theorem pushLine_keep (a0) (a1) (a2) (a3) : Keep 516 a3 (pushLine a0 a1 a2 a3) := by
  unfold pushLine
  extract_lets -merge -underBinder +onlyGivenNames z1 z2 z3
  split
  · refine Keep.step (modCount_keep _ _ _) rfl ?_
    exact Keep.refl _ _
  · refine Keep.ite ?_ ?_
    · refine Keep.step (modCount_keep _ _ _) rfl ?_
      exact Keep.refl _ _
    · extract_lets -merge -underBinder +onlyGivenNames z6
      have hz6 : Keep 516 a3 z6 := by
        unfold z6
        refine Keep.step (modSite_keep _ _ _) rfl ?_
        exact Keep.refl _ _
      clear_value z6
      split
      next p7 e =>
        have h8 : Keep 516 a3 p7 := by
          refine Keep.ofOpt e ?_
          refine KeepO.step (ringPush_keep _ _ _ _) rfl ?_
          exact hz6
        exact h8
      · refine Keep.step (modCount_keep _ _ _) rfl ?_
        exact hz6

theorem dieLine_keep (a0) (a1) (a2) (a3) : Keep 516 a3 (dieLine a0 a1 a2 a3) := by
  unfold dieLine
  refine Keep.ite ?_ ?_
  · refine Keep.step (pushLine_keep _ _ _ _) rfl ?_
    exact Keep.refl _ _
  · refine Keep.step (badSlot_keep _ _) rfl ?_
    exact Keep.refl _ _

theorem execStreamLine_keep (a0) (a1) (a2) (a3) (a4) : ∃ t, execStreamLine a0 a1 a2 a3 a4 = .next t ∧ Keep 516 a4 t := by
  unfold execStreamLine
  refine ⟨_, rfl, ?_⟩
  refine Keep.ite ?_ ?_
  · refine Keep.step (dieLine_keep _ _ _ _) rfl ?_
    exact Keep.refl _ _
  · exact Keep.refl _ _

theorem dieCredit_keep (a0) (a1) (a2) (a3) (a4) : Keep 512 a4 (dieCredit a0 a1 a2 a3 a4) := by
  unfold dieCredit
  refine Keep.ite ?_ ?_
  · refine Keep.step (modSite_keep _ _ _) rfl ?_
    exact Keep.refl _ _
  · refine Keep.step (badSlot_keep _ _) rfl ?_
    exact Keep.refl _ _

theorem execStreamCredit_keep (a0) (a1) (a2) (a3) (a4) : ∃ t, execStreamCredit a0 a1 a2 a3 a4 = .next t ∧ Keep 512 a4 t := by
  unfold execStreamCredit
  refine ⟨_, rfl, ?_⟩
  refine Keep.ite ?_ ?_
  · refine Keep.step (dieCredit_keep _ _ _ _ _) rfl ?_
    exact Keep.refl _ _
  · exact Keep.refl _ _

theorem streamSlot_keep (a0) (a1) (a2) : Keep 516 a2 (streamSlot a0 a1 a2) := by
  unfold streamSlot
  refine Keep.ite ?_ ?_
  · refine Keep.step (badSlot_keep _ _) rfl ?_
    exact Keep.refl _ _
  · refine Keep.ite ?_ ?_
    · refine Keep.step (dieLine_keep _ _ _ _) rfl ?_
      exact Keep.refl _ _
    · refine Keep.ite ?_ ?_
      · extract_lets -merge -underBinder +onlyGivenNames z1
        refine Keep.ite ?_ ?_
        · refine Keep.foldl ?_ _ ?_
          · intro y2 x3
            refine Keep.step (dieCredit_keep _ _ _ _ _) rfl ?_
            exact Keep.refl _ _
          · exact Keep.refl _ _
        · refine Keep.step (badSlot_keep _ _) rfl ?_
          exact Keep.refl _ _
      · refine Keep.step (badSlot_keep _ _) rfl ?_
        exact Keep.refl _ _

theorem badReq_keep (a0) (a1) (a2) (a3) : Keep 2114552 a3 (badReq a0 a1 a2 a3) := by
  unfold badReq
  extract_lets -merge -underBinder +onlyGivenNames z1
  refine Keep.foldl ?_ _ ?_
  · intro y2 x3
    refine Keep.step (violate_keep _ _) rfl ?_
    exact Keep.refl _ _
  · refine Keep.step (badSlot_keep _ _) rfl ?_
    exact Keep.refl _ _

theorem dieFwd_keep (a0) (a1) (a2) : Keep 2115080 a2 (dieFwd a0 a1 a2) := by
  unfold dieFwd
  extract_lets -merge -underBinder +onlyGivenNames z1 z2 z3 z4
  split
  · refine Keep.step (modSite_keep _ _ _) rfl ?_
    exact Keep.refl _ _
  · extract_lets -merge -underBinder +onlyGivenNames z7
    refine Keep.ite ?_ ?_
    · extract_lets -merge -underBinder +onlyGivenNames q8 z9
      split
      · refine Keep.step (fwdRoute_keep _ _ _ _ _) rfl ?_
        refine Keep.step (modSite_keep _ _ _) rfl ?_
        exact Keep.refl _ _
      · refine Keep.step (fwdDiscard_keep _) rfl ?_
        refine Keep.step (modSite_keep _ _ _) rfl ?_
        exact Keep.refl _ _
    · refine Keep.step (modSite_keep _ _ _) rfl ?_
      exact Keep.refl _ _

theorem loneSlot_keep (a0) (a1) (a2) (a3) : Keep 2148344 a3 (loneSlot a0 a1 a2 a3) := by
  unfold loneSlot
  extract_lets -merge -underBinder +onlyGivenNames z1
  refine Keep.ite ?_ ?_
  · refine Keep.ite ?_ ?_
    · refine Keep.step (badReq_keep _ _ _ _) rfl ?_
      exact Keep.refl _ _
    · refine Keep.step (badSlot_keep _ _) rfl ?_
      exact Keep.refl _ _
  · refine Keep.ite ?_ ?_
    · refine Keep.ite ?_ ?_
      · refine Keep.foldl ?_ _ ?_
        · intro y2 x3
          extract_lets -merge -underBinder +onlyGivenNames z4 z5
          refine Keep.step (sendMgt_keep _ _ _) rfl ?_
          exact Keep.refl _ _
        · exact Keep.refl _ _
      · refine Keep.step (badSlot_keep _ _) rfl ?_
        exact Keep.refl _ _
    · refine Keep.ite ?_ ?_
      · refine Keep.ite ?_ ?_
        · refine Keep.foldl ?_ _ ?_
          · intro y6 x7
            refine Keep.step (sendSignal_keep _ _ _ _) rfl ?_
            exact Keep.refl _ _
          · exact Keep.refl _ _
        · refine Keep.step (badSlot_keep _ _) rfl ?_
          exact Keep.refl _ _
      · refine Keep.ite ?_ ?_
        · split
          · refine Keep.ite ?_ ?_
            · refine Keep.foldl ?_ _ ?_
              · intro y9 x10
                refine Keep.step (issueMem_keep _ _) rfl ?_
                exact Keep.refl _ _
              · exact Keep.refl _ _
            · refine Keep.step (badReq_keep _ _ _ _) rfl ?_
              exact Keep.refl _ _
          · refine Keep.ite ?_ ?_
            · refine Keep.step (badSlot_keep _ _) rfl ?_
              exact Keep.refl _ _
            · refine Keep.step (badReq_keep _ _ _ _) rfl ?_
              exact Keep.refl _ _
        · refine Keep.ite ?_ ?_
          · refine Keep.ite ?_ ?_
            · refine Keep.step (badSlot_keep _ _) rfl ?_
              exact Keep.refl _ _
            · refine Keep.step (dieFwd_keep _ _ _) rfl ?_
              exact Keep.refl _ _
          · refine Keep.step (badSlot_keep _ _) rfl ?_
            exact Keep.refl _ _

theorem dieCol_keep (a0) (a1) (a2) (a3) (a4) : Keep 264 a4 (dieCol a0 a1 a2 a3 a4) := by
  unfold dieCol
  split
  · refine Keep.step (mstDiscard_keep _ _) rfl ?_
    exact Keep.refl _ _
  · refine Keep.step (sendMsg_keep _ _ _ _ _) rfl ?_
    exact Keep.refl _ _

theorem pairedSlot_keep (a0) (a1) (a2) (a3) (a4) : Keep 2409464 a4 (pairedSlot a0 a1 a2 a3 a4) := by
  unfold pairedSlot
  refine Keep.ite ?_ ?_
  · refine Keep.foldl ?_ _ ?_
    · intro y1 x2
      refine Keep.step (issueMem_keep _ _) rfl ?_
      exact Keep.refl _ _
    · exact Keep.refl _ _
  · refine Keep.ite ?_ ?_
    · refine Keep.step (dieCol_keep _ _ _ _ _) rfl ?_
      exact Keep.refl _ _
    · refine Keep.step (spdmFrag_keep _ _ _ _ _ _) rfl ?_
      exact Keep.refl _ _

theorem dieSlots_keep : ∀ a0 a1 a2 a3 a4, Keep 2410488 a4 (dieSlots a0 a1 a2 a3 a4)
  | b0, b1, 0, b2, b3 => by
    rw [dieSlots.eq_1]
    exact Keep.refl _ _
  | b0, b1, (b2 + 1), [], b3 => by
    rw [dieSlots.eq_2]
    rotate_left
    · intro h
      cases h
    exact Keep.refl _ _
  | b0, b1, (b3 + 1), (b4 :: b5), b2 => by
    rw [dieSlots.eq_3]
    refine Keep.ite ?_ ?_
    · extract_lets -merge -underBinder +onlyGivenNames z1
      refine Keep.ite ?_ ?_
      · refine Keep.step (dieSlots_keep _ _ _ _ _) rfl ?_
        refine Keep.step (pairedSlot_keep _ _ _ _ _) rfl ?_
        exact Keep.refl _ _
      · refine Keep.step (dieSlots_keep _ _ _ _ _) rfl ?_
        refine Keep.ite ?_ ?_
        · refine Keep.step (badReq_keep _ _ _ _) rfl ?_
          exact Keep.refl _ _
        · refine Keep.step (badSlot_keep _ _) rfl ?_
          exact Keep.refl _ _
    · refine Keep.step (dieSlots_keep _ _ _ _ _) rfl ?_
      refine Keep.step (loneSlot_keep _ _ _ _) rfl ?_
      exact Keep.refl _ _

theorem takeSiteCredit_keep (a0) (a1) (a2) (a3) : Keep 16896 a3 (takeSiteCredit a0 a1 a2 a3).2 := by
  unfold takeSiteCredit
  extract_lets -merge -underBinder +onlyGivenNames z1 z2
  split
  · exact Keep.refl _ _
  · split
    · refine Keep.step (modLink_keep _ _ _ _) rfl ?_
      exact Keep.refl _ _
    · refine Keep.step (raiseRated_keep _ _ _ _ _ _ _) rfl ?_
      refine Keep.step (modCount_keep _ _ _) rfl ?_
      exact Keep.refl _ _

theorem takeSiteCredits_keep : ∀ a0 a1 a2 a3, Keep 16896 a3 (takeSiteCredits a0 a1 a2 a3).2
  | b0, b1, [], b2 => by
    rw [takeSiteCredits.eq_1]
    exact Keep.refl _ _
  | b0, b1, (b3 :: b4), b2 => by
    rw [takeSiteCredits.eq_2]
    refine Keep.step (takeSiteCredits_keep _ _ _ _) rfl ?_
    refine Keep.step (takeSiteCredit_keep _ _ _ _) rfl ?_
    exact Keep.refl _ _

theorem inboundPut_keep (a0) (a1) (a2) (a3) : Keep 512 a3 (inboundPut a0 a1 a2 a3) := by
  unfold inboundPut
  extract_lets -merge -underBinder +onlyGivenNames z1
  have hz1 : Keep 512 a3 z1 := by
    unfold z1
    refine Keep.step (modLink_keep _ _ _ _) rfl ?_
    exact Keep.refl _ _
  clear_value z1
  refine Keep.step (modCount_keep _ _ _) rfl ?_
  exact hz1

theorem handOn_keep (a0) (a1) (a2) (a3) : Keep 2410492 a3 (handOn a0 a1 a2 a3) := by
  unfold handOn
  extract_lets -merge -underBinder +onlyGivenNames z1 z2
  have hz2 : Keep 2410492 a3 z2 := by
    unfold z2
    refine Keep.step (modLink_keep _ _ _ _) rfl ?_
    exact Keep.refl _ _
  clear_value z2
  refine Keep.ite ?_ ?_
  · refine Keep.foldl ?_ _ ?_
    · intro y3 x4
      refine Keep.step (streamSlot_keep _ _ _) rfl ?_
      exact Keep.refl _ _
    · exact hz2
  · refine Keep.step (dieSlots_keep _ _ _ _ _) rfl ?_
    exact hz2

theorem handModule_keep (a0) (a1) (a2) : Keep 2410492 a2 (handModule a0 a1 a2) := by
  unfold handModule
  refine Keep.foldl ?_ _ ?_
  · intro y1 x2
    refine Keep.step (handOn_keep _ _ _ _) rfl ?_
    exact Keep.refl _ _
  · exact Keep.refl _ _

theorem handAll_keep (a0) (a1) : Keep 2410492 a1 (handAll a0 a1) := by
  unfold handAll
  refine Keep.foldl ?_ _ ?_
  · intro y1 x2
    refine Keep.step (handModule_keep _ _ _) rfl ?_
    exact Keep.refl _ _
  · exact Keep.refl _ _

theorem askReplay_keep (a0) (a1) (a2) : Keep 512 a2 (askReplay a0 a1 a2) := by
  unfold askReplay
  refine Keep.step (modLink_keep _ _ _ _) rfl ?_
  exact Keep.refl _ _

theorem takeAck_keep (a0) (a1) (a2) (a3) (a4) : Keep 7356928 a4 (takeAck a0 a1 a2 a3 a4) := by
  unfold takeAck
  extract_lets -merge -underBinder +onlyGivenNames z1 z2 z3
  refine Keep.ite ?_ ?_
  · refine Keep.step (modLink_keep _ _ _ _) rfl ?_
    exact Keep.refl _ _
  · extract_lets -merge -underBinder +onlyGivenNames z4
    refine Keep.ite ?_ ?_
    · refine Keep.step (moduleOff_keep _ _ _) rfl ?_
      refine Keep.step (modLink_keep _ _ _ _) rfl ?_
      exact Keep.refl _ _
    · refine Keep.ite ?_ ?_
      · refine Keep.step (modLink_keep _ _ _ _) rfl ?_
        exact Keep.refl _ _
      · refine Keep.step (modCount_keep _ _ _) rfl ?_
        refine Keep.step (resendHeld_keep _ _ _) rfl ?_
        refine Keep.step (modLink_keep _ _ _ _) rfl ?_
        exact Keep.refl _ _

theorem laneErrors_keep (a0) (a1) (a2) (a3) : Keep 512 a3 (laneErrors a0 a1 a2 a3) := by
  unfold laneErrors
  extract_lets -merge -underBinder +onlyGivenNames z1 z2
  refine Keep.step (modSite_keep _ _ _) rfl ?_
  exact Keep.refl _ _

theorem siteFlit_keep (a0) (a1) (a2) (a3) (a4) : Keep 7653372 a4 (siteFlit a0 a1 a2 a3 a4) := by
  unfold siteFlit
  extract_lets -merge -underBinder +onlyGivenNames z1 z2
  refine Keep.ite ?_ ?_
  · exact Keep.refl _ _
  · refine Keep.ite ?_ ?_
    · refine Keep.step (askReplay_keep _ _ _) rfl ?_
      refine Keep.step (modCount_keep _ _ _) rfl ?_
      refine Keep.step (laneErrors_keep _ _ _ _) rfl ?_
      exact Keep.refl _ _
    · extract_lets -merge -underBinder +onlyGivenNames z3
      have hz3 : Keep 7653372 a4 z3 := by
        unfold z3
        refine Keep.step (takeAck_keep _ _ _ _ _) rfl ?_
        refine Keep.step (laneErrors_keep _ _ _ _) rfl ?_
        exact Keep.refl _ _
      clear_value z3
      refine Keep.ite ?_ ?_
      · exact hz3
      · refine Keep.ite ?_ ?_
        · refine Keep.step (askReplay_keep _ _ _) rfl ?_
          exact hz3
        · extract_lets -merge -underBinder +onlyGivenNames z4 z5 z8 z7 z9
          have hz4 : Keep 7653372 a4 z4 := by
            unfold z4
            refine Keep.step (modLink_keep _ _ _ _) rfl ?_
            exact hz3
          clear_value z4
          have hz5 : Keep 7653372 a4 z5 := by
            unfold z5
            refine Keep.step (modCount_keep _ _ _) rfl ?_
            exact hz4
          clear_value z5
          have hz7 : Keep 7653372 a4 z7.2 := by
            unfold z7
            split
            · exact hz5
            · have hz8 : Keep 7653372 a4 z8.2 := by
                unfold z8
                refine Keep.step (takeSiteCredits_keep _ _ _ _) rfl ?_
                exact hz5
              clear_value z8
              exact hz8
          clear_value z7
          have hz9 : Keep 7653372 a4 z9 := by
            unfold z9
            refine Keep.step (inboundPut_keep _ _ _ _) rfl ?_
            exact hz7
          clear_value z9
          refine Keep.ite ?_ ?_
          · refine Keep.step (handModule_keep _ _ _) rfl ?_
            exact hz9
          · exact hz9

theorem execTsiFlitReceive_keep (a0) (a1) (a2) (a3) (a4) : ∃ t, execTsiFlitReceive a0 a1 a2 a3 a4 = .next t ∧ Keep 7653372 a4 t := by
  unfold execTsiFlitReceive
  refine ⟨_, rfl, ?_⟩
  refine Keep.step (siteFlit_keep _ _ _ _ _) rfl ?_
  exact Keep.refl _ _

theorem execNakTimeout_keep (a0) (a1) : ∃ t, execNakTimeout a0 a1 = .next t ∧ Keep 1544 a1 t := by
  unfold execNakTimeout
  refine ⟨_, rfl, ?_⟩
  refine Keep.ite ?_ ?_
  · exact Keep.refl _ _
  · split
    · refine Keep.ite ?_ ?_
      · refine Keep.step (modLink_keep _ _ _ _) rfl ?_
        exact Keep.refl _ _
      · exact Keep.refl _ _
    · refine Keep.ite ?_ ?_
      · refine Keep.step (modPodLane_keep _ _ _ _) rfl ?_
        exact Keep.refl _ _
      · exact Keep.refl _ _
    · extract_lets -merge -underBinder +onlyGivenNames z8
      refine Keep.ite ?_ ?_
      · refine Keep.step (modMrc_keep _ _) rfl ?_
        exact Keep.refl _ _
      · exact Keep.refl _ _

theorem siteSend_keep (a0) (a1) (a2) (a3) (a4) (a5) (a6) : Keep 4194816 a6 (siteSend a0 a1 a2 a3 a4 a5 a6) := by
  unfold siteSend
  extract_lets -merge -underBinder +onlyGivenNames z1 z2 z3 z4 z5
  have hz4 : Keep 4194816 a6 z4 := by
    unfold z4
    refine Keep.step (emit_keep _ _) rfl ?_
    exact Keep.refl _ _
  clear_value z4
  have hz5 : Keep 4194816 a6 z5 := by
    unfold z5
    refine Keep.step (modLink_keep _ _ _ _) rfl ?_
    exact hz4
  clear_value z5
  refine Keep.ite ?_ ?_
  · refine Keep.step (modCount_keep _ _ _) rfl ?_
    exact hz5
  · exact hz5

theorem drainSs_keep (a0) (a1) : Keep 4195848 a1 (drainSs a0 a1) := by
  unfold drainSs
  refine Keep.step (drainXs_keep _ _ _) rfl ?_
  refine Keep.step (drainXs_keep _ _ _) rfl ?_
  exact Keep.refl _ _

theorem hopperRelease_keep (a0) (a1) (a2) : Keep 4195848 a2 (hopperRelease a0 a1 a2) := by
  unfold hopperRelease
  extract_lets -merge -underBinder +onlyGivenNames z1
  refine Keep.ite ?_ ?_
  · exact Keep.refl _ _
  · extract_lets -merge -underBinder +onlyGivenNames z2 z3
    refine Keep.ite ?_ ?_
    · unfold z3
      extract_lets -merge -underBinder +onlyGivenNames z4 z5
      have hz4 : Keep 4195848 a2 z4 := by
        unfold z4
        refine Keep.step (emit_keep _ _) rfl ?_
        exact Keep.refl _ _
      clear_value z4
      have hz5 : Keep 4195848 a2 z5 := by
        unfold z5
        refine Keep.step (modLink_keep _ _ _ _) rfl ?_
        exact hz4
      clear_value z5
      refine Keep.ite ?_ ?_
      · refine Keep.step (modCount_keep _ _ _) rfl ?_
        exact hz5
      · exact hz5
    · split
      · extract_lets -merge -underBinder +onlyGivenNames z7
        have hz7 : Keep 4195848 a2 z7 := by
          unfold z7
          refine Keep.step (modLink_keep _ _ _ _) rfl ?_
          exact Keep.refl _ _
        clear_value z7
        refine Keep.step (drainSs_keep _ _) rfl ?_
        refine Keep.step (fillHoppers_keep _ _) rfl ?_
        refine Keep.step (siteSend_keep _ _ _ _ _ _ _) rfl ?_
        exact hz7
      · refine Keep.ite ?_ ?_
        · refine Keep.step (siteSend_keep _ _ _ _ _ _ _) rfl ?_
          exact Keep.refl _ _
        · unfold z3
          extract_lets -merge -underBinder +onlyGivenNames z9 z10
          have hz9 : Keep 4195848 a2 z9 := by
            unfold z9
            refine Keep.step (emit_keep _ _) rfl ?_
            exact Keep.refl _ _
          clear_value z9
          have hz10 : Keep 4195848 a2 z10 := by
            unfold z10
            refine Keep.step (modLink_keep _ _ _ _) rfl ?_
            exact hz9
          clear_value z10
          refine Keep.ite ?_ ?_
          · refine Keep.step (modCount_keep _ _ _) rfl ?_
            exact hz10
          · exact hz10

theorem execHopperRelease_keep (a0) (a1) (a2) : ∃ t, execHopperRelease a0 a1 a2 = .next t ∧ Keep 4195848 a2 t := by
  unfold execHopperRelease
  refine ⟨_, rfl, ?_⟩
  refine Keep.step (hopperRelease_keep _ _ _) rfl ?_
  exact Keep.refl _ _

theorem laneQueues_keep (a0) (a1) : Keep 7356928 a1 (laneQueues a0 a1) := by
  unfold laneQueues
  refine Keep.foldl ?_ _ ?_
  · intro y1 x2
    refine Keep.step (laneQueue_keep _ _ _) rfl ?_
    exact Keep.refl _ _
  · exact Keep.refl _ _

theorem pauseDone_keep (a0) (a1) : Keep 7653374 a1 (pauseDone a0 a1) := by
  unfold pauseDone
  extract_lets -merge -underBinder +onlyGivenNames z1
  refine Keep.ite ?_ ?_
  · exact Keep.refl _ _
  · extract_lets -merge -underBinder +onlyGivenNames z2
    have hz2 : Keep 7653374 a1 z2 := by
      unfold z2
      refine Keep.step (showPause_keep _ _ _) rfl ?_
      refine Keep.step (modTc_keep _ _) rfl ?_
      exact Keep.refl _ _
    clear_value z2
    split
    · refine Keep.step (laneQueues_keep _ _) rfl ?_
      refine Keep.step (capUpdate_keep _) rfl ?_
      refine Keep.step (linksFresh_keep _ _) rfl ?_
      refine Keep.step (handAll_keep _ _) rfl ?_
      refine Keep.step (modSite_keep _ _ _) rfl ?_
      exact hz2
    · refine Keep.step (modMs_keep _ _ _) rfl ?_
      exact hz2

theorem execPauseComplete_keep (a0) (a1) : ∃ t, execPauseComplete a0 a1 = .next t ∧ Keep 7653374 a1 t := by
  unfold execPauseComplete
  refine ⟨_, rfl, ?_⟩
  refine Keep.step (pauseDone_keep _ _) rfl ?_
  exact Keep.refl _ _

theorem pauseTimeout_keep (a0) (a1) : Keep 7653374 a1 (pauseTimeout a0 a1) := by
  unfold pauseTimeout
  extract_lets -merge -underBinder +onlyGivenNames z1
  refine Keep.ite ?_ ?_
  · exact Keep.refl _ _
  · split
    · extract_lets -merge -underBinder +onlyGivenNames z3
      have hz3 : Keep 7653374 a1 z3 := by
        unfold z3
        refine Keep.step (showPause_keep _ _ _) rfl ?_
        refine Keep.step (modTc_keep _ _) rfl ?_
        exact Keep.refl _ _
      clear_value z3
      refine Keep.step (laneQueues_keep _ _) rfl ?_
      refine Keep.step (linksFresh_keep _ _) rfl ?_
      refine Keep.step (handAll_keep _ _) rfl ?_
      refine Keep.step (modSite_keep _ _ _) rfl ?_
      exact hz3
    · extract_lets -merge -underBinder +onlyGivenNames z6
      have hz6 : Keep 7653374 a1 z6 := by
        unfold z6
        refine Keep.step (modTc_keep _ _) rfl ?_
        exact Keep.refl _ _
      clear_value z6
      refine Keep.step (modMs_keep _ _ _) rfl ?_
      exact hz6

theorem execPauseTimeout_keep (a0) (a1) : ∃ t, execPauseTimeout a0 a1 = .next t ∧ Keep 7653374 a1 t := by
  unfold execPauseTimeout
  refine ⟨_, rfl, ?_⟩
  refine Keep.step (pauseTimeout_keep _ _) rfl ?_
  exact Keep.refl _ _

theorem answerRemote_keep (a0) (a1) (a2) (a3) (a4) (a5) (a6) : Keep 1024 a6 (answerRemote a0 a1 a2 a3 a4 a5 a6) := by
  unfold answerRemote
  extract_lets -merge -underBinder +onlyGivenNames z1 z2
  refine Keep.step (podSend_keep _ _ _ _ _ _) rfl ?_
  exact Keep.refl _ _

theorem homeReq_keep (a0) (a1) (a2) (a3) (a4) (a5) (a6) : Keep 1048 a6 (homeReq a0 a1 a2 a3 a4 a5 a6) := by
  unfold homeReq
  extract_lets -merge -underBinder +onlyGivenNames z1 z2 z3 z4
  refine Keep.ite ?_ ?_
  · refine Keep.step (flowDelivered_keep _ _ _) rfl ?_
    refine Keep.step (answerRemote_keep _ _ _ _ _ _ _) rfl ?_
    refine Keep.step (modMem_keep _ _ (fun _ w => w)) rfl ?_
    exact Keep.refl _ _
  · split
    · refine Keep.step (flowDelivered_keep _ _ _) rfl ?_
      refine Keep.step (answerRemote_keep _ _ _ _ _ _ _) rfl ?_
      refine Keep.step (modMem_keep _ _ (fun _ w => w)) rfl ?_
      exact Keep.refl _ _
    · refine Keep.ite ?_ ?_
      · refine Keep.step (flowDelivered_keep _ _ _) rfl ?_
        refine Keep.step (answerRemote_keep _ _ _ _ _ _ _) rfl ?_
        exact Keep.refl _ _
      · extract_lets -merge -underBinder +onlyGivenNames z7
        refine Keep.step (sendMsg_keep _ _ _ _ _) rfl ?_
        exact Keep.refl _ _

theorem rspIn_keep (a0) (a1) (a2) (a3) (a4) (a5) (a6) (a7) (a8) : Keep 1048 a8 (rspIn a0 a1 a2 a3 a4 a5 a6 a7 a8) := by
  unfold rspIn
  split
  · refine Keep.step (flowDelivered_keep _ _ _) rfl ?_
    refine Keep.step (modMem_keep _ _ (fun _ w => w)) rfl ?_
    exact Keep.refl _ _
  · extract_lets -merge -underBinder +onlyGivenNames z4 z5 z6
    have hz4 : Keep 1048 a8 z4 := by
      unfold z4
      refine Keep.step (modTx_keep _ _ _ _ _) rfl ?_
      exact Keep.refl _ _
    clear_value z4
    refine Keep.ite ?_ ?_
    · refine Keep.step (flowDelivered_keep _ _ _) rfl ?_
      exact hz4
    · refine Keep.step (sendMsg_keep _ _ _ _ _) rfl ?_
      exact hz4

theorem signalIn_keep (a0) (a1) (a2) (a3) (a4) (a5) (a6) (a7) (a8) : Keep 1032 a8 (signalIn a0 a1 a2 a3 a4 a5 a6 a7 a8) := by
  unfold signalIn
  extract_lets -merge -underBinder +onlyGivenNames z1
  refine Keep.ite ?_ ?_
  · refine Keep.step (flowDelivered_keep _ _ _) rfl ?_
    exact Keep.refl _ _
  · refine Keep.step (sendMulti_keep _ _ _ _ _) rfl ?_
    refine Keep.step (flowParts_keep _ _ _ _) rfl ?_
    exact Keep.refl _ _

theorem colIn_keep (a0) (a1) (a2) (a3) (a4) (a5) (a6) (a7) : Keep 1288 a7 (colIn a0 a1 a2 a3 a4 a5 a6 a7) := by
  unfold colIn
  split
  · refine Keep.step (flowDelivered_keep _ _ _) rfl ?_
    refine Keep.step (mstDiscard_keep _ _) rfl ?_
    exact Keep.refl _ _
  · refine Keep.ite ?_ ?_
    · refine Keep.step (flowDelivered_keep _ _ _) rfl ?_
      exact Keep.refl _ _
    · refine Keep.step (sendMsg_keep _ _ _ _ _) rfl ?_
      exact Keep.refl _ _

theorem fwdIn_keep (a0) (a1) (a2) (a3) (a4) (a5) : Keep 2114568 a5 (fwdIn a0 a1 a2 a3 a4 a5) := by
  unfold fwdIn
  extract_lets -merge -underBinder +onlyGivenNames z1
  have hz1 : Keep 2114568 a5 z1 := by
    unfold z1
    refine Keep.step (modRx_keep _ _ _) rfl ?_
    exact Keep.refl _ _
  clear_value z1
  split
  · exact hz1
  · extract_lets -merge -underBinder +onlyGivenNames z4 z5
    split
    · exact hz1
    · extract_lets -merge -underBinder +onlyGivenNames z8
      refine Keep.ite ?_ ?_
      · exact hz1
      · refine Keep.step (flowDelivered_keep _ _ _) rfl ?_
        refine Keep.step (fwdRoute_keep _ _ _ _ _) rfl ?_
        refine Keep.step (modRx_keep _ _ _) rfl ?_
        exact hz1

theorem podSlot_keep (a0) (a1) (a2) (a3) (a4) (a5) (a6) : Keep 6416376 a6 (podSlot a0 a1 a2 a3 a4 a5 a6) := by
  unfold podSlot
  extract_lets -merge -underBinder +onlyGivenNames z1
  refine Keep.ite ?_ ?_
  · refine Keep.ite ?_ ?_
    · refine Keep.step (flowDelivered_keep _ _ _) rfl ?_
      refine Keep.ite ?_ ?_
      · refine Keep.step (contMessage_keep _ _ _ _) rfl ?_
        exact Keep.refl _ _
      · exact Keep.refl _ _
    · refine Keep.step (flowDelivered_keep _ _ _) rfl ?_
      refine Keep.foldl ?_ _ ?_
      · intro y2 x3
        refine Keep.step (podSend_keep _ _ _ _ _ _) rfl ?_
        exact Keep.refl _ _
      · exact Keep.refl _ _
  · refine Keep.ite ?_ ?_
    · refine Keep.ite ?_ ?_
      · refine Keep.step (flowDelivered_keep _ _ _) rfl ?_
        split
        · refine Keep.ite ?_ ?_
          · refine Keep.step (receivePace_keep _ _) rfl ?_
            exact Keep.refl _ _
          · exact Keep.refl _ _
        · exact Keep.refl _ _
      · refine Keep.ite ?_ ?_
        · refine Keep.step (flowDelivered_keep _ _ _) rfl ?_
          split
          · refine Keep.step (claimNotice_keep _ _) rfl ?_
            exact Keep.refl _ _
          · exact Keep.refl _ _
        · split
          · refine Keep.step (flowDelivered_keep _ _ _) rfl ?_
            exact Keep.refl _ _
          · refine Keep.foldl ?_ _ ?_
            · intro y10 x11
              refine Keep.step (signalIn_keep _ _ _ _ _ _ _ _ _) rfl ?_
              exact Keep.refl _ _
            · refine Keep.step (flowParts_keep _ _ _ _) rfl ?_
              exact Keep.refl _ _
    · refine Keep.ite ?_ ?_
      · split
        · refine Keep.step (flowDelivered_keep _ _ _) rfl ?_
          exact Keep.refl _ _
        · split
          · refine Keep.step (flowDelivered_keep _ _ _) rfl ?_
            exact Keep.refl _ _
          · refine Keep.foldl ?_ _ ?_
            · intro y16 x17
              refine Keep.step (homeReq_keep _ _ _ _ _ _ _) rfl ?_
              exact Keep.refl _ _
            · refine Keep.step (flowParts_keep _ _ _ _) rfl ?_
              exact Keep.refl _ _
      · refine Keep.ite ?_ ?_
        · refine Keep.ite ?_ ?_
          · refine Keep.step (rspIn_keep _ _ _ _ _ _ _ _ _) rfl ?_
            exact Keep.refl _ _
          · split
            · refine Keep.step (flowDelivered_keep _ _ _) rfl ?_
              exact Keep.refl _ _
            · refine Keep.foldl ?_ _ ?_
              · intro y20 x21
                refine Keep.step (rspIn_keep _ _ _ _ _ _ _ _ _) rfl ?_
                exact Keep.refl _ _
              · refine Keep.step (flowParts_keep _ _ _ _) rfl ?_
                exact Keep.refl _ _
        · refine Keep.step (fwdIn_keep _ _ _ _ _ _) rfl ?_
          exact Keep.refl _ _

theorem podGroup_keep (a0) (a1) (a2) (a3) (a4) (a5) (a6) (a7) : Keep 1304 a7 (podGroup a0 a1 a2 a3 a4 a5 a6 a7) := by
  unfold podGroup
  extract_lets -merge -underBinder +onlyGivenNames z1
  refine Keep.ite ?_ ?_
  · split
    · refine Keep.step (flowDelivered_keep _ _ _) rfl ?_
      exact Keep.refl _ _
    · refine Keep.foldl ?_ _ ?_
      · intro y4 x5
        refine Keep.step (homeReq_keep _ _ _ _ _ _ _) rfl ?_
        exact Keep.refl _ _
      · refine Keep.step (flowParts_keep _ _ _ _) rfl ?_
        exact Keep.refl _ _
  · refine Keep.step (colIn_keep _ _ _ _ _ _ _ _) rfl ?_
    exact Keep.refl _ _

theorem takeLinkCredit_keep (a0) (a1) (a2) : Keep 17408 a2 (takeLinkCredit a0 a1 a2).2 := by
  unfold takeLinkCredit
  extract_lets -merge -underBinder +onlyGivenNames z1 z2
  split
  · refine Keep.step (modPodLink_keep _ _ _) rfl ?_
    exact Keep.refl _ _
  · refine Keep.step (podViolation_keep _ _) rfl ?_
    exact Keep.refl _ _

theorem quietCredit_keep (a0) (a1) (a2) : Keep 17408 a2 (quietCredit a0 a1 a2) := by
  unfold quietCredit
  extract_lets -merge -underBinder +onlyGivenNames z1
  refine Keep.ite ?_ ?_
  · refine Keep.step (takeLinkCredit_keep _ _ _) rfl ?_
    exact Keep.refl _ _
  · exact Keep.refl _ _

theorem runOn_keep (a0) (a1) (a2) (a3) : Keep 1024 a3 (runOn a0 a1 a2 a3) := by
  unfold runOn
  refine Keep.step (modPodLane_keep _ _ _ _) rfl ?_
  exact Keep.refl _ _

theorem runSlots_keep (a0) (a1) (a2) (a3) (a4) (a5) (a6) : Keep 6416380 a6 (runSlots a0 a1 a2 a3 a4 a5 a6) := by
  unfold runSlots
  extract_lets -merge -underBinder +onlyGivenNames z1 z2
  split
  · refine Keep.step (podViolation_keep _ _) rfl ?_
    exact Keep.refl _ _
  · extract_lets -merge -underBinder +onlyGivenNames z5 z6
    have hz6 : Keep 6416380 a6 z6 := by
      unfold z6
      refine Keep.step (runOn_keep _ _ _ _) rfl ?_
      exact Keep.refl _ _
    clear_value z6
    refine Keep.ite ?_ ?_
    · exact hz6
    · split
      · refine Keep.step (podViolation_keep _ _) rfl ?_
        exact hz6
      · split
        · refine Keep.step (modPod_keep _ _) rfl ?_
          exact hz6
        · refine Keep.foldl ?_ _ ?_
          · intro y11 x12
            refine Keep.step (podViolation_keep _ _) rfl ?_
            exact Keep.refl _ _
          · exact hz6
        · extract_lets -merge -underBinder +onlyGivenNames z14 z15
          have hz15 : Keep 6416380 a6 z15 := by
            unfold z15
            refine Keep.step (modRx_keep _ _ _) rfl ?_
            exact hz6
          clear_value z15
          refine Keep.ite ?_ ?_
          · refine Keep.step (flowDelivered_keep _ _ _) rfl ?_
            refine Keep.step (podViolation_keep _ _) rfl ?_
            exact hz15
          · refine Keep.ite ?_ ?_
            · refine Keep.ite ?_ ?_
              · refine Keep.step (streamIn_keep _ _ _ _ _) rfl ?_
                exact hz15
              · refine Keep.step (flowDelivered_keep _ _ _) rfl ?_
                refine Keep.step (podViolation_keep _ _) rfl ?_
                exact hz15
            · refine Keep.ite ?_ ?_
              · refine Keep.step (podSlot_keep _ _ _ _ _ _ _) rfl ?_
                exact hz15
              · refine Keep.step (podGroup_keep _ _ _ _ _ _ _ _) rfl ?_
                exact hz15

theorem linkSlot_keep (a0) (a1) (a2) (a3) (a4) : Keep 7357962 a4 (linkSlot a0 a1 a2 a3 a4) := by
  unfold linkSlot
  extract_lets -merge -underBinder +onlyGivenNames z1
  refine Keep.ite ?_ ?_
  · refine Keep.step (podViolation_keep _ _) rfl ?_
    exact Keep.refl _ _
  · refine Keep.ite ?_ ?_
    · refine Keep.ite ?_ ?_
      · refine Keep.ite ?_ ?_
        · extract_lets -merge -underBinder +onlyGivenNames z2 z3
          refine Keep.step (route_keep _ _ _ _ _) rfl ?_
          exact Keep.refl _ _
        · exact Keep.refl _ _
      · refine Keep.step (podViolation_keep _ _) rfl ?_
        exact Keep.refl _ _
    · refine Keep.foldl ?_ _ ?_
      · intro y4 x5
        refine Keep.ite ?_ ?_
        · refine Keep.step (linkHello_keep _ _ _) rfl ?_
          exact Keep.refl _ _
        · refine Keep.ite ?_ ?_
          · refine Keep.step (laneMap_keep _ _ _) rfl ?_
            exact Keep.refl _ _
          · refine Keep.ite ?_ ?_
            · refine Keep.step (openWaiting_keep _) rfl ?_
              refine Keep.step (flowAck_keep _ _ _) rfl ?_
              exact Keep.refl _ _
            · refine Keep.step (timeCommand_keep _ _ _) rfl ?_
              exact Keep.refl _ _
      · exact Keep.refl _ _

theorem mirSlot_keep (a0) (a1) (a2) : Keep 2155768 a2 (mirSlot a0 a1 a2) := by
  unfold mirSlot
  refine Keep.ite ?_ ?_
  · refine Keep.ite ?_ ?_
    · refine Keep.step (mirHeartbeat_keep _ _ _) rfl ?_
      exact Keep.refl _ _
    · exact Keep.refl _ _
  · refine Keep.ite ?_ ?_
    · exact Keep.refl _ _
    · refine Keep.step (podViolation_keep _ _) rfl ?_
      exact Keep.refl _ _

theorem podSlots_keep : ∀ a0 a1 a2 a3 a4 a5, Keep 7464958 a5 (podSlots a0 a1 a2 a3 a4 a5)
  | b0, b1, b2, 0, b3, b4 => by
    rw [podSlots.eq_1]
    exact Keep.refl _ _
  | b0, b1, b2, (b3 + 1), [], b4 => by
    rw [podSlots.eq_2]
    rotate_left
    · intro h
      cases h
    exact Keep.refl _ _
  | b0, b1, b2, (b4 + 1), (b5 :: b6), b3 => by
    rw [podSlots.eq_3]
    refine Keep.ite ?_ ?_
    · refine Keep.step (podSlots_keep _ _ _ _ _ _) rfl ?_
      refine Keep.step (linkSlot_keep _ _ _ _ _) rfl ?_
      exact Keep.refl _ _
    · refine Keep.ite ?_ ?_
      · refine Keep.step (podSlots_keep _ _ _ _ _ _) rfl ?_
        refine Keep.step (runOn_keep _ _ _ _) rfl ?_
        refine Keep.ite ?_ ?_
        · exact Keep.refl _ _
        · refine Keep.step (quietCredit_keep _ _ _) rfl ?_
          exact Keep.refl _ _
      · extract_lets -merge -underBinder +onlyGivenNames z1
        have hz1 : Keep 7464958 b3 z1.2 := by
          unfold z1
          split
          · exact Keep.refl _ _
          · refine Keep.step (takeLinkCredit_keep _ _ _) rfl ?_
            exact Keep.refl _ _
        clear_value z1
        refine Keep.ite ?_ ?_
        · refine Keep.step (podSlots_keep _ _ _ _ _ _) rfl ?_
          refine Keep.step (runOn_keep _ _ _ _) rfl ?_
          exact hz1
        · refine Keep.ite ?_ ?_
          · refine Keep.step (podSlots_keep _ _ _ _ _ _) rfl ?_
            refine Keep.step (mirSlot_keep _ _ _) rfl ?_
            exact hz1
          · refine Keep.ite ?_ ?_
            · extract_lets -merge -underBinder +onlyGivenNames z2 z3
              refine Keep.ite ?_ ?_
              · extract_lets -merge -underBinder +onlyGivenNames z4
                have hz4 : Keep 7464958 b3 z4.2 := by
                  unfold z4
                  refine Keep.foldlSnd ?_ _ ?_
                  · intro y5 x6
                    extract_lets -merge -underBinder +onlyGivenNames z7
                    have hz7 : Keep 7464958 y5.2 z7.2 := by
                      unfold z7
                      refine Keep.step (takeLinkCredit_keep _ _ _) rfl ?_
                      exact Keep.refl _ _
                    clear_value z7
                    exact hz7
                  · exact hz1
                clear_value z4
                refine Keep.step (podSlots_keep _ _ _ _ _ _) rfl ?_
                refine Keep.step (runSlots_keep _ _ _ _ _ _ _) rfl ?_
                exact hz4
              · refine Keep.step (podSlots_keep _ _ _ _ _ _) rfl ?_
                refine Keep.step (runSlots_keep _ _ _ _ _ _ _) rfl ?_
                exact hz1
            · refine Keep.step (podSlots_keep _ _ _ _ _ _) rfl ?_
              refine Keep.step (runSlots_keep _ _ _ _ _ _ _) rfl ?_
              exact hz1

theorem laneReplay_keep (a0) (a1) (a2) : Keep 1024 a2 (laneReplay a0 a1 a2) := by
  unfold laneReplay
  refine Keep.step (modPodLane_keep _ _ _ _) rfl ?_
  exact Keep.refl _ _

theorem slotsAccepted_keep (a0) (a1) (a2) (a3) : Keep 1024 a3 (slotsAccepted a0 a1 a2 a3) := by
  unfold slotsAccepted
  refine Keep.ite ?_ ?_
  · exact Keep.refl _ _
  · refine Keep.step (modPod_keep _ _) rfl ?_
    exact Keep.refl _ _

theorem laneAck_keep (a0) (a1) (a2) (a3) (a4) : Keep 4195328 a4 (laneAck a0 a1 a2 a3 a4) := by
  unfold laneAck
  extract_lets -merge -underBinder +onlyGivenNames z1 z2 z3 z4
  have hz3 : Keep 4195328 a4 z3 := by
    unfold z3
    refine Keep.step (slotsAccepted_keep _ _ _ _) rfl ?_
    exact Keep.refl _ _
  clear_value z3
  refine Keep.ite ?_ ?_
  · refine Keep.step (modPodLane_keep _ _ _ _) rfl ?_
    exact hz3
  · extract_lets -merge -underBinder +onlyGivenNames z5 z6
    have hz6 : Keep 4195328 a4 z6 := by
      unfold z6
      refine Keep.step (modPodLane_keep _ _ _ _) rfl ?_
      exact hz3
    clear_value z6
    refine Keep.ite ?_ ?_
    · refine Keep.step (laneDrop_keep _ _ _ _) rfl ?_
      exact hz6
    · split
      · exact hz6
      · refine Keep.foldl ?_ _ ?_
        · intro y10 x11
          refine Keep.step (emit_keep _ _) rfl ?_
          exact Keep.refl _ _
        · refine Keep.step (emit_keep _ _) rfl ?_
          refine Keep.step (modPodLane_keep _ _ _ _) rfl ?_
          exact hz6

theorem laneCorr_keep (a0) (a1) (a2) (a3) : Keep 1024 a3 (laneCorr a0 a1 a2 a3) := by
  unfold laneCorr
  refine Keep.step (modPodLane_keep _ _ _ _) rfl ?_
  exact Keep.refl _ _

theorem podReceive_keep (a0) (a1) (a2) (a3) (a4) : Keep 7464958 a4 (podReceive a0 a1 a2 a3 a4) := by
  unfold podReceive
  extract_lets -merge -underBinder +onlyGivenNames z1
  refine Keep.ite ?_ ?_
  · exact Keep.refl _ _
  · refine Keep.ite ?_ ?_
    · extract_lets -merge -underBinder +onlyGivenNames z2 z3 z4
      have hz2 : Keep 7464958 a4 z2 := by
        unfold z2
        refine Keep.step (laneCorr_keep _ _ _ _) rfl ?_
        exact Keep.refl _ _
      clear_value z2
      have hz4 : Keep 7464958 a4 z4 := by
        unfold z4
        refine Keep.step (laneReplay_keep _ _ _) rfl ?_
        refine Keep.step (modPodLane_keep _ _ _ _) rfl ?_
        exact hz2
      clear_value z4
      refine Keep.ite ?_ ?_
      · refine Keep.step (laneDrop_keep _ _ _ _) rfl ?_
        exact hz4
      · refine Keep.ite ?_ ?_
        · refine Keep.step (laneDrop_keep _ _ _ _) rfl ?_
          exact hz4
        · exact hz4
    · extract_lets -merge -underBinder +onlyGivenNames z5
      have hz5 : Keep 7464958 a4 z5 := by
        unfold z5
        refine Keep.step (laneCorr_keep _ _ _ _) rfl ?_
        exact Keep.refl _ _
      clear_value z5
      refine Keep.ite ?_ ?_
      · refine Keep.step (laneDrop_keep _ _ _ _) rfl ?_
        exact hz5
      · extract_lets -merge -underBinder +onlyGivenNames z6 z7
        have hz6 : Keep 7464958 a4 z6 := by
          unfold z6
          refine Keep.step (laneAck_keep _ _ _ _ _) rfl ?_
          exact hz5
        clear_value z6
        refine Keep.ite ?_ ?_
        · exact hz6
        · refine Keep.ite ?_ ?_
          · extract_lets -merge -underBinder +onlyGivenNames z8
            refine Keep.step (laneReplay_keep _ _ _) rfl ?_
            refine Keep.ite ?_ ?_
            · refine Keep.step (podViolation_keep _ _) rfl ?_
              exact hz6
            · exact hz6
          · extract_lets -merge -underBinder +onlyGivenNames z9 z10 z11
            have hz10 : Keep 7464958 a4 z10 := by
              unfold z10
              refine Keep.step (modPodLane_keep _ _ _ _) rfl ?_
              exact hz6
            clear_value z10
            have hz11 : Keep 7464958 a4 z11 := by
              unfold z11
              refine Keep.step (modPodLink_keep _ _ _) rfl ?_
              exact hz10
            clear_value z11
            refine Keep.step (podSlots_keep _ _ _ _ _ _) rfl ?_
            exact hz11

theorem execPodFlitReceive_keep (a0) (a1) (a2) (a3) (a4) : ∃ t, execPodFlitReceive a0 a1 a2 a3 a4 = .next t ∧ Keep 7464958 a4 t := by
  unfold execPodFlitReceive
  refine ⟨_, rfl, ?_⟩
  refine Keep.step (podReceive_keep _ _ _ _ _) rfl ?_
  exact Keep.refl _ _

theorem laneSend_keep (a0) (a1) (a2) (a3) (a4) : Keep 4195328 a4 (laneSend a0 a1 a2 a3 a4) := by
  unfold laneSend
  extract_lets -merge -underBinder +onlyGivenNames z1 z2 z3 z4 z5
  have hz4 : Keep 4195328 a4 z4 := by
    unfold z4
    refine Keep.step (emit_keep _ _) rfl ?_
    exact Keep.refl _ _
  clear_value z4
  have hz5 : Keep 4195328 a4 z5 := by
    unfold z5
    refine Keep.step (modPodLane_keep _ _ _ _) rfl ?_
    exact hz4
  clear_value z5
  refine Keep.step (modPodLink_keep _ _ _) rfl ?_
  exact hz5

theorem markSlots_keep (a0) (a1) (a2) (a3) (a4) : Keep 1024 a4 (markSlots a0 a1 a2 a3 a4) := by
  unfold markSlots
  refine Keep.step (modTx_keep _ _ _ _ _) rfl ?_
  exact Keep.refl _ _

theorem sendRun_keep (a0) (a1) (a2) (a3) (a4) (a5) : Keep 4195328 a5 (sendRun a0 a1 a2 a3 a4 a5) := by
  unfold sendRun
  split
  · exact Keep.refl _ _
  · extract_lets -merge -underBinder +onlyGivenNames z4 z5 z6 z7 z8
    have hz6 : Keep 4195328 a5 z6 := by
      unfold z6
      refine Keep.step (markSlots_keep _ _ _ _ _) rfl ?_
      exact Keep.refl _ _
    clear_value z6
    have hz7 : Keep 4195328 a5 z7 := by
      unfold z7
      refine Keep.step (laneSend_keep _ _ _ _ _) rfl ?_
      exact hz6
    clear_value z7
    have hz8 : Keep 4195328 a5 z8 := by
      unfold z8
      refine Keep.step (modPodLane_keep _ _ _ _) rfl ?_
      exact hz7
    clear_value z8
    refine Keep.step (modPodLink_keep _ _ _) rfl ?_
    refine Keep.step (modPod_keep _ _) rfl ?_
    exact hz8

theorem laneIdle_keep (a0) (a1) (a2) : Keep 4195328 a2 (laneIdle a0 a1 a2) := by
  unfold laneIdle
  refine Keep.step (modPodLane_keep _ _ _ _) rfl ?_
  refine Keep.step (emit_keep _ _) rfl ?_
  exact Keep.refl _ _

theorem sendCmds_keep (a0) (a1) (a2) (a3) : Keep 4195328 a3 (sendCmds a0 a1 a2 a3) := by
  unfold sendCmds
  extract_lets -merge -underBinder +onlyGivenNames z1 z2 z3 z4
  have hz2 : Keep 4195328 a3 z2 := by
    unfold z2
    refine Keep.step (laneSend_keep _ _ _ _ _) rfl ?_
    exact Keep.refl _ _
  clear_value z2
  refine Keep.step (modPodLink_keep _ _ _) rfl ?_
  refine Keep.ite ?_ ?_
  · refine Keep.step (modPodLane_keep _ _ _ _) rfl ?_
    exact hz2
  · exact hz2

theorem fillLane_keep (a0) (a1) (a2) : Keep 4195328 a2 (fillLane a0 a1 a2) := by
  unfold fillLane
  extract_lets -merge -underBinder +onlyGivenNames z1
  refine Keep.ite ?_ ?_
  · refine Keep.step (laneIdle_keep _ _ _) rfl ?_
    exact Keep.refl _ _
  · split
    · refine Keep.step (sendRun_keep _ _ _ _ _ _) rfl ?_
      exact Keep.refl _ _
    · refine Keep.ite ?_ ?_
      · refine Keep.step (sendCmds_keep _ _ _ _) rfl ?_
        exact Keep.refl _ _
      · split
        · extract_lets -merge -underBinder +onlyGivenNames z6 z7 z8
          refine Keep.ite ?_ ?_
          · refine Keep.step (sendRun_keep _ _ _ _ _ _) rfl ?_
            exact Keep.refl _ _
          · extract_lets -merge -underBinder +onlyGivenNames z9
            refine Keep.ite ?_ ?_
            · extract_lets -merge -underBinder +onlyGivenNames z10 z11
              refine Keep.step (modPodLane_keep _ _ _ _) rfl ?_
              refine Keep.step (laneSend_keep _ _ _ _ _) rfl ?_
              refine Keep.step (markSlots_keep _ _ _ _ _) rfl ?_
              exact Keep.refl _ _
            · refine Keep.step (sendRun_keep _ _ _ _ _ _) rfl ?_
              exact Keep.refl _ _
        · refine Keep.ite ?_ ?_
          · refine Keep.step (laneSend_keep _ _ _ _ _) rfl ?_
            exact Keep.refl _ _
          · refine Keep.step (laneIdle_keep _ _ _) rfl ?_
            exact Keep.refl _ _

theorem podFlitSend_keep (a0) (a1) (a2) : Keep 4195328 a2 (podFlitSend a0 a1 a2) := by
  unfold podFlitSend
  refine Keep.ite ?_ ?_
  · exact Keep.refl _ _
  · refine Keep.step (modPodLane_keep _ _ _ _) rfl ?_
    refine Keep.step (fillLane_keep _ _ _) rfl ?_
    refine Keep.step (modPodLink_keep _ _ _) rfl ?_
    exact Keep.refl _ _

theorem execPodFlitSend_keep (a0) (a1) (a2) : ∃ t, execPodFlitSend a0 a1 a2 = .next t ∧ Keep 4195328 a2 t := by
  unfold execPodFlitSend
  refine ⟨_, rfl, ?_⟩
  refine Keep.step (podFlitSend_keep _ _ _) rfl ?_
  exact Keep.refl _ _

theorem dailyWrite_keep : ∀ a0 a1 a2 a3 a4, Keep 144 a4 (dailyWrite a0 a1 a2 a3 a4)
  | b0, b1, b2, 0, b3 => by
    rw [dailyWrite.eq_1]
    exact Keep.refl _ _
  | b0, b1, b2, (b4 + 1), b3 => by
    rw [dailyWrite.eq_2]
    refine Keep.step (dailyWrite_keep _ _ _ _ _) rfl ?_
    refine Keep.step (millWrite_keep _ _ _ _ _) rfl ?_
    exact Keep.refl _ _

theorem daily_keep (a0) : Keep 524496 a0 (daily a0) := by
  unfold daily
  extract_lets -merge -underBinder +onlyGivenNames z1
  refine Keep.ite ?_ ?_
  · exact Keep.refl _ _
  · extract_lets -merge -underBinder +onlyGivenNames z2 z3
    have hz3 : Keep 524496 a0 z3 := by
      unfold z3
      refine Keep.step (modTel_keep _ _) rfl ?_
      exact Keep.refl _ _
    clear_value z3
    refine Keep.ite ?_ ?_
    · refine Keep.step (modTel_keep _ _) rfl ?_
      exact hz3
    · extract_lets -merge -underBinder +onlyGivenNames z4
      refine Keep.step (modTel_keep _ _) rfl ?_
      refine Keep.step (dailyWrite_keep _ _ _ _ _) rfl ?_
      refine Keep.step (ownerTurn_keep _ _ _ _) rfl ?_
      exact hz3

theorem execDaily_keep (a0) : ∃ t, execDaily a0 = .next t ∧ Keep 524496 a0 t := by
  unfold execDaily
  refine ⟨_, rfl, ?_⟩
  refine Keep.step (daily_keep _) rfl ?_
  exact Keep.refl _ _

theorem execEntdaa_keep (a0) (a1) : ∃ t, execEntdaa a0 a1 = .next t ∧ Keep 2097152 a1 t := by
  unfold execEntdaa
  refine ⟨_, rfl, ?_⟩
  refine Keep.ite ?_ ?_
  · refine Keep.step (modPins_keep _ _) rfl ?_
    exact Keep.refl _ _
  · exact Keep.refl _ _

theorem tapInstruction_keep (a0) (a1) : Keep 6291456 a1 (tapInstruction a0 a1) := by
  unfold tapInstruction
  extract_lets -merge -underBinder +onlyGivenNames z1 z2
  have hz2 : Keep 6291456 a1 z2 := by
    unfold z2
    refine Keep.step (modPins_keep _ _) rfl ?_
    exact Keep.refl _ _
  clear_value z2
  clear_value z1
  split
  · refine Keep.step (emit_keep _ _) rfl ?_
    exact hz2
  · refine Keep.step (emit_keep _ _) rfl ?_
    exact hz2
  · exact hz2

theorem execTapInstruction_keep (a0) (a1) : ∃ t, execTapInstruction a0 a1 = .next t ∧ Keep 6291456 a1 t := by
  unfold execTapInstruction
  refine ⟨_, rfl, ?_⟩
  refine Keep.step (tapInstruction_keep _ _) rfl ?_
  exact Keep.refl _ _

end Sys2Proof.Machine
end

