-- ==== Sys2Proof/Laws/Exec.lean ====
section
/-! SUPPORT. What every command keeps, said once of the dispatch: it answers a next state, whose queue, part, memory form,
one-time cells and parts outside some mask are as they were. -/

namespace Sys2Proof.Machine

open Sys2Proof

theorem exec_keep (c : Instr) (s : State) : ∃ t m, exec c s = .next t ∧ Keep m s t := by
  cases c
  case timecodeTick a0 => obtain ⟨t, e, k⟩ := execTimecodeTick_keep a0 s; exact ⟨t, _, e, k⟩
  case timeCorrectionStep a0 => obtain ⟨t, e, k⟩ := execTimeCorrectionStep_keep a0 s; exact ⟨t, _, e, k⟩
  case refclkLoss => obtain ⟨t, e, k⟩ := execRefclkLoss_keep s; exact ⟨t, _, e, k⟩
  case refclkHoldoverExpiry => obtain ⟨t, e, k⟩ := execRefclkHoldoverExpiry_keep s; exact ⟨t, _, e, k⟩
  case stitchRemeasure a0 => obtain ⟨t, e, k⟩ := execStitchRemeasure_keep a0 s; exact ⟨t, _, e, k⟩
  case frameBoundary a0 => obtain ⟨t, e, k⟩ := execFrameBoundary_keep a0 s; exact ⟨t, _, e, k⟩
  case preambleReceived a0 a1 a2 a3 => obtain ⟨t, e, k⟩ := execPreambleReceived_keep a0 a1 a2 a3 s; exact ⟨t, _, e, k⟩
  case splice => obtain ⟨t, e, k⟩ := execSplice_keep s; exact ⟨t, _, e, k⟩
  case swapArm a0 => obtain ⟨t, e, k⟩ := execSwapArm_keep a0 s; exact ⟨t, _, e, k⟩
  case swapCancel a0 => obtain ⟨t, e, k⟩ := execSwapCancel_keep a0 s; exact ⟨t, _, e, k⟩
  case reelStart a0 => obtain ⟨t, e, k⟩ := execReelStart_keep a0 s; exact ⟨t, _, e, k⟩
  case reelStop a0 => obtain ⟨t, e, k⟩ := execReelStop_keep a0 s; exact ⟨t, _, e, k⟩
  case clapperPulse => obtain ⟨t, e, k⟩ := execClapperPulse_keep s; exact ⟨t, _, e, k⟩
  case clapperWindowClose => obtain ⟨t, e, k⟩ := execClapperWindowClose_keep s; exact ⟨t, _, e, k⟩
  case followFirstPass => obtain ⟨t, e, k⟩ := execFollowFirstPass_keep s; exact ⟨t, _, e, k⟩
  case clapperStartTimeout => obtain ⟨t, e, k⟩ := execClapperStartTimeout_keep s; exact ⟨t, _, e, k⟩
  case slackShortTimeout a0 => obtain ⟨t, e, k⟩ := execSlackShortTimeout_keep a0 s; exact ⟨t, _, e, k⟩
  case tcPauseReq a0 a1 a2 => obtain ⟨t, e, k⟩ := execTcPauseReq_keep a0 a1 a2 s; exact ⟨t, _, e, k⟩
  case pauseWindowStart a0 => obtain ⟨t, e, k⟩ := execPauseWindowStart_keep a0 s; exact ⟨t, _, e, k⟩
  case pauseComplete a0 => obtain ⟨t, e, k⟩ := execPauseComplete_keep a0 s; exact ⟨t, _, e, k⟩
  case pauseTimeout a0 => obtain ⟨t, e, k⟩ := execPauseTimeout_keep a0 s; exact ⟨t, _, e, k⟩
  case sluiceFlitReceive a0 a1 a2 => obtain ⟨t, e, k⟩ := execSluiceFlitReceive_keep a0 a1 a2 s; exact ⟨t, _, e, k⟩
  case siteStreamForward a0 a1 => obtain ⟨t, e, k⟩ := execSiteStreamForward_keep a0 a1 s; exact ⟨t, _, e, k⟩
  case reelStoreWrite a0 a1 a2 => obtain ⟨t, e, k⟩ := execReelStoreWrite_keep a0 a1 a2 s; exact ⟨t, _, e, k⟩
  case reelCheck a0 => obtain ⟨t, e, k⟩ := execReelCheck_keep a0 s; exact ⟨t, _, e, k⟩
  case reelCheckComplete => obtain ⟨t, e, k⟩ := execReelCheckComplete_keep s; exact ⟨t, _, e, k⟩
  case reelClear a0 => obtain ⟨t, e, k⟩ := execReelClear_keep a0 s; exact ⟨t, _, e, k⟩
  case drainEnd => obtain ⟨t, e, k⟩ := execDrainEnd_keep s; exact ⟨t, _, e, k⟩
  case millraceFlitSend a0 a1 a2 => obtain ⟨t, e, k⟩ := execMillraceFlitSend_keep a0 a1 a2 s; exact ⟨t, _, e, k⟩
  case millraceFlitReceive a0 a1 a2 a3 => obtain ⟨t, e, k⟩ := execMillraceFlitReceive_keep a0 a1 a2 a3 s; exact ⟨t, _, e, k⟩
  case selfDelivery a0 a1 => obtain ⟨t, e, k⟩ := execSelfDelivery_keep a0 a1 s; exact ⟨t, _, e, k⟩
  case millraceLambdaOut a0 a1 => obtain ⟨t, e, k⟩ := execMillraceLambdaOut_keep a0 a1 s; exact ⟨t, _, e, k⟩
  case spareRemapComplete a0 a1 => obtain ⟨t, e, k⟩ := execSpareRemapComplete_keep a0 a1 s; exact ⟨t, _, e, k⟩
  case peakClearSelected a0 => obtain ⟨t, e, k⟩ := execPeakClearSelected_keep a0 s; exact ⟨t, _, e, k⟩
  case peakClearAll a0 => obtain ⟨t, e, k⟩ := execPeakClearAll_keep a0 s; exact ⟨t, _, e, k⟩
  case memRequestIssue a0 => obtain ⟨t, e, k⟩ := execMemRequestIssue_keep a0 s; exact ⟨t, _, e, k⟩
  case load a0 a1 => obtain ⟨t, e, k⟩ := execLoad_keep a0 a1 s; exact ⟨t, _, e, k⟩
  case store a0 a1 => obtain ⟨t, e, k⟩ := execStore_keep a0 a1 s; exact ⟨t, _, e, k⟩
  case storeData a0 a1 a2 a3 a4 => obtain ⟨t, e, k⟩ := execStoreData_keep a0 a1 a2 a3 a4 s; exact ⟨t, _, e, k⟩
  case addI64 a0 a1 => obtain ⟨t, e, k⟩ := execAddI64_keep a0 a1 s; exact ⟨t, _, e, k⟩
  case addF32x2 a0 a1 => obtain ⟨t, e, k⟩ := execAddF32x2_keep a0 a1 s; exact ⟨t, _, e, k⟩
  case swap a0 a1 => obtain ⟨t, e, k⟩ := execSwap_keep a0 a1 s; exact ⟨t, _, e, k⟩
  case cas a0 a1 => obtain ⟨t, e, k⟩ := execCas_keep a0 a1 s; exact ⟨t, _, e, k⟩
  case maxI64 a0 a1 => obtain ⟨t, e, k⟩ := execMaxI64_keep a0 a1 s; exact ⟨t, _, e, k⟩
  case minI64 a0 a1 => obtain ⟨t, e, k⟩ := execMinI64_keep a0 a1 s; exact ⟨t, _, e, k⟩
  case maxF32x2 a0 a1 => obtain ⟨t, e, k⟩ := execMaxF32x2_keep a0 a1 s; exact ⟨t, _, e, k⟩
  case minF32x2 a0 a1 => obtain ⟨t, e, k⟩ := execMinF32x2_keep a0 a1 s; exact ⟨t, _, e, k⟩
  case loadData a0 => obtain ⟨t, e, k⟩ := execLoadData_keep a0 s; exact ⟨t, _, e, k⟩
  case ack a0 => obtain ⟨t, e, k⟩ := execAck_keep a0 s; exact ⟨t, _, e, k⟩
  case timeoutSweep => obtain ⟨t, e, k⟩ := execTimeoutSweep_keep s; exact ⟨t, _, e, k⟩
  case patrolScrub a0 a1 a2 => obtain ⟨t, e, k⟩ := execPatrolScrub_keep a0 a1 a2 s; exact ⟨t, _, e, k⟩
  case stackLaneFail a0 a1 => obtain ⟨t, e, k⟩ := execStackLaneFail_keep a0 a1 s; exact ⟨t, _, e, k⟩
  case epochEnd => obtain ⟨t, e, k⟩ := execEpochEnd_keep s; exact ⟨t, _, e, k⟩
  case blockFetchResponse a0 a1 a2 a3 a4 => obtain ⟨t, e, k⟩ := execBlockFetchResponse_keep a0 a1 a2 a3 a4 s; exact ⟨t, _, e, k⟩
  case regionDeclare a0 a1 a2 => obtain ⟨t, e, k⟩ := execRegionDeclare_keep a0 a1 a2 s; exact ⟨t, _, e, k⟩
  case regionRelease a0 a1 => obtain ⟨t, e, k⟩ := execRegionRelease_keep a0 a1 s; exact ⟨t, _, e, k⟩
  case regionReleaseComplete a0 => obtain ⟨t, e, k⟩ := execRegionReleaseComplete_keep a0 s; exact ⟨t, _, e, k⟩
  case gripDescriptorStart a0 => obtain ⟨t, e, k⟩ := execGripDescriptorStart_keep a0 s; exact ⟨t, _, e, k⟩
  case descriptorComplete a0 a1 => obtain ⟨t, e, k⟩ := execDescriptorComplete_keep a0 a1 s; exact ⟨t, _, e, k⟩
  case queueEnable a0 a1 a2 a3 => obtain ⟨t, e, k⟩ := execQueueEnable_keep a0 a1 a2 a3 s; exact ⟨t, _, e, k⟩
  case queueDisable a0 a1 => obtain ⟨t, e, k⟩ := execQueueDisable_keep a0 a1 s; exact ⟨t, _, e, k⟩
  case queueReset a0 a1 => obtain ⟨t, e, k⟩ := execQueueReset_keep a0 a1 s; exact ⟨t, _, e, k⟩
  case watchArm a0 a1 a2 => obtain ⟨t, e, k⟩ := execWatchArm_keep a0 a1 a2 s; exact ⟨t, _, e, k⟩
  case watchNotice a0 => obtain ⟨t, e, k⟩ := execWatchNotice_keep a0 s; exact ⟨t, _, e, k⟩
  case colHdr a0 a1 a2 => obtain ⟨t, e, k⟩ := execColHdr_keep a0 a1 a2 s; exact ⟨t, _, e, k⟩
  case colLine a0 a1 a2 a3 => obtain ⟨t, e, k⟩ := execColLine_keep a0 a1 a2 a3 s; exact ⟨t, _, e, k⟩
  case groupFinish a0 a1 a2 => obtain ⟨t, e, k⟩ := execGroupFinish_keep a0 a1 a2 s; exact ⟨t, _, e, k⟩
  case chunkComplete a0 => obtain ⟨t, e, k⟩ := execChunkComplete_keep a0 s; exact ⟨t, _, e, k⟩
  case dueTick a0 a1 => obtain ⟨t, e, k⟩ := execDueTick_keep a0 a1 s; exact ⟨t, _, e, k⟩
  case lateLimitExpiry a0 a1 => obtain ⟨t, e, k⟩ := execLateLimitExpiry_keep a0 a1 s; exact ⟨t, _, e, k⟩
  case laneRateMeasure a0 a1 => obtain ⟨t, e, k⟩ := execLaneRateMeasure_keep a0 a1 s; exact ⟨t, _, e, k⟩
  case contextSetup a0 a1 => obtain ⟨t, e, k⟩ := execContextSetup_keep a0 a1 s; exact ⟨t, _, e, k⟩
  case contextAbort a0 a1 => obtain ⟨t, e, k⟩ := execContextAbort_keep a0 a1 s; exact ⟨t, _, e, k⟩
  case contextFree a0 a1 => obtain ⟨t, e, k⟩ := execContextFree_keep a0 a1 s; exact ⟨t, _, e, k⟩
  case contextConstants a0 a1 a2 => obtain ⟨t, e, k⟩ := execContextConstants_keep a0 a1 a2 s; exact ⟨t, _, e, k⟩
  case sitePowerUp a0 => obtain ⟨t, e, k⟩ := execSitePowerUp_keep a0 s; exact ⟨t, _, e, k⟩
  case vsiteReq a0 a1 => obtain ⟨t, e, k⟩ := execVsiteReq_keep a0 a1 s; exact ⟨t, _, e, k⟩
  case vsiteStep a0 => obtain ⟨t, e, k⟩ := execVsiteStep_keep a0 s; exact ⟨t, _, e, k⟩
  case siteOvervolt a0 => obtain ⟨t, e, k⟩ := execSiteOvervolt_keep a0 s; exact ⟨t, _, e, k⟩
  case siteUndervolt a0 => obtain ⟨t, e, k⟩ := execSiteUndervolt_keep a0 s; exact ⟨t, _, e, k⟩
  case siteOvercurrent a0 => obtain ⟨t, e, k⟩ := execSiteOvercurrent_keep a0 s; exact ⟨t, _, e, k⟩
  case tsiPowerBumpFail a0 a1 => obtain ⟨t, e, k⟩ := execTsiPowerBumpFail_keep a0 a1 s; exact ⟨t, _, e, k⟩
  case siteTraining a0 a1 => obtain ⟨t, e, k⟩ := execSiteTraining_keep a0 a1 s; exact ⟨t, _, e, k⟩
  case trimInterval a0 a1 => obtain ⟨t, e, k⟩ := execTrimInterval_keep a0 a1 s; exact ⟨t, _, e, k⟩
  case tsiLaneTapWrite a0 a1 a2 a3 a4 a5 => obtain ⟨t, e, k⟩ := execTsiLaneTapWrite_keep a0 a1 a2 a3 a4 a5 s; exact ⟨t, _, e, k⟩
  case tsiTrimFreeze a0 a1 a2 => obtain ⟨t, e, k⟩ := execTsiTrimFreeze_keep a0 a1 a2 s; exact ⟨t, _, e, k⟩
  case laneFailing a0 a1 a2 a3 => obtain ⟨t, e, k⟩ := execLaneFailing_keep a0 a1 a2 a3 s; exact ⟨t, _, e, k⟩
  case spareCompareDone a0 a1 => obtain ⟨t, e, k⟩ := execSpareCompareDone_keep a0 a1 s; exact ⟨t, _, e, k⟩
  case tsiFlitReceive a0 a1 a2 a3 => obtain ⟨t, e, k⟩ := execTsiFlitReceive_keep a0 a1 a2 a3 s; exact ⟨t, _, e, k⟩
  case nakTimeout a0 => obtain ⟨t, e, k⟩ := execNakTimeout_keep a0 s; exact ⟨t, _, e, k⟩
  case hopperRelease a0 a1 => obtain ⟨t, e, k⟩ := execHopperRelease_keep a0 a1 s; exact ⟨t, _, e, k⟩
  case signal a0 a1 => obtain ⟨t, e, k⟩ := execSignal_keep a0 a1 s; exact ⟨t, _, e, k⟩
  case streamLine a0 a1 a2 a3 => obtain ⟨t, e, k⟩ := execStreamLine_keep a0 a1 a2 a3 s; exact ⟨t, _, e, k⟩
  case streamCredit a0 a1 a2 a3 => obtain ⟨t, e, k⟩ := execStreamCredit_keep a0 a1 a2 a3 s; exact ⟨t, _, e, k⟩
  case helloAck a0 a1 => obtain ⟨t, e, k⟩ := execHelloAck_keep a0 a1 s; exact ⟨t, _, e, k⟩
  case cap a0 a1 a2 => obtain ⟨t, e, k⟩ := execCap_keep a0 a1 a2 s; exact ⟨t, _, e, k⟩
  case capEnd a0 => obtain ⟨t, e, k⟩ := execCapEnd_keep a0 s; exact ⟨t, _, e, k⟩
  case resend a0 => obtain ⟨t, e, k⟩ := execResend_keep a0 s; exact ⟨t, _, e, k⟩
  case regRead a0 a1 a2 => obtain ⟨t, e, k⟩ := execRegRead_keep a0 a1 a2 s; exact ⟨t, _, e, k⟩
  case regWrite a0 a1 a2 a3 => obtain ⟨t, e, k⟩ := execRegWrite_keep a0 a1 a2 a3 s; exact ⟨t, _, e, k⟩
  case temp a0 a1 => obtain ⟨t, e, k⟩ := execTemp_keep a0 a1 s; exact ⟨t, _, e, k⟩
  case laneFail a0 a1 a2 => obtain ⟨t, e, k⟩ := execLaneFail_keep a0 a1 a2 s; exact ⟨t, _, e, k⟩
  case pauseReq a0 a1 => obtain ⟨t, e, k⟩ := execPauseReq_keep a0 a1 s; exact ⟨t, _, e, k⟩
  case slewReq a0 a1 a2 a3 => obtain ⟨t, e, k⟩ := execSlewReq_keep a0 a1 a2 a3 s; exact ⟨t, _, e, k⟩
  case moduleOffAck a0 a1 a2 => obtain ⟨t, e, k⟩ := execModuleOffAck_keep a0 a1 a2 s; exact ⟨t, _, e, k⟩
  case sidebandLost a0 => obtain ⟨t, e, k⟩ := execSidebandLost_keep a0 s; exact ⟨t, _, e, k⟩
  case podFlitReceive a0 a1 a2 a3 => obtain ⟨t, e, k⟩ := execPodFlitReceive_keep a0 a1 a2 a3 s; exact ⟨t, _, e, k⟩
  case linkTraining a0 a1 => obtain ⟨t, e, k⟩ := execLinkTraining_keep a0 a1 s; exact ⟨t, _, e, k⟩
  case linkHello a0 a1 => obtain ⟨t, e, k⟩ := execLinkHello_keep a0 a1 s; exact ⟨t, _, e, k⟩
  case laneDrop a0 a1 a2 => obtain ⟨t, e, k⟩ := execLaneDrop_keep a0 a1 a2 s; exact ⟨t, _, e, k⟩
  case laneMap a0 a1 => obtain ⟨t, e, k⟩ := execLaneMap_keep a0 a1 s; exact ⟨t, _, e, k⟩
  case laneMapRetry a0 => obtain ⟨t, e, k⟩ := execLaneMapRetry_keep a0 s; exact ⟨t, _, e, k⟩
  case route a0 a1 a2 a3 => obtain ⟨t, e, k⟩ := execRoute_keep a0 a1 a2 a3 s; exact ⟨t, _, e, k⟩
  case flowAck a0 a1 => obtain ⟨t, e, k⟩ := execFlowAck_keep a0 a1 s; exact ⟨t, _, e, k⟩
  case flowOpen a0 a1 a2 a3 => obtain ⟨t, e, k⟩ := execFlowOpen_keep a0 a1 a2 a3 s; exact ⟨t, _, e, k⟩
  case flowAckTimer a0 => obtain ⟨t, e, k⟩ := execFlowAckTimer_keep a0 s; exact ⟨t, _, e, k⟩
  case fwdMessage a0 a1 a2 => obtain ⟨t, e, k⟩ := execFwdMessage_keep a0 a1 a2 s; exact ⟨t, _, e, k⟩
  case timeRequestSend a0 => obtain ⟨t, e, k⟩ := execTimeRequestSend_keep a0 s; exact ⟨t, _, e, k⟩
  case time a0 a1 => obtain ⟨t, e, k⟩ := execTime_keep a0 a1 s; exact ⟨t, _, e, k⟩
  case timeLinkTimeout a0 => obtain ⟨t, e, k⟩ := execTimeLinkTimeout_keep a0 s; exact ⟨t, _, e, k⟩
  case podRtCheck a0 => obtain ⟨t, e, k⟩ := execPodRtCheck_keep a0 s; exact ⟨t, _, e, k⟩
  case routeCheckComplete => obtain ⟨t, e, k⟩ := execRouteCheckComplete_keep s; exact ⟨t, _, e, k⟩
  case podRtSwap a0 => obtain ⟨t, e, k⟩ := execPodRtSwap_keep a0 s; exact ⟨t, _, e, k⟩
  case podRtCancel a0 => obtain ⟨t, e, k⟩ := execPodRtCancel_keep a0 s; exact ⟨t, _, e, k⟩
  case podRtCopy a0 => obtain ⟨t, e, k⟩ := execPodRtCopy_keep a0 s; exact ⟨t, _, e, k⟩
  case routeDrainEnd => obtain ⟨t, e, k⟩ := execRouteDrainEnd_keep s; exact ⟨t, _, e, k⟩
  case quarantineEval => obtain ⟨t, e, k⟩ := execQuarantineEval_keep s; exact ⟨t, _, e, k⟩
  case quarantineTimeout a0 => obtain ⟨t, e, k⟩ := execQuarantineTimeout_keep a0 s; exact ⟨t, _, e, k⟩
  case podQuarClear a0 => obtain ⟨t, e, k⟩ := execPodQuarClear_keep a0 s; exact ⟨t, _, e, k⟩
  case lsInt a0 a1 => obtain ⟨t, e, k⟩ := execLsInt_keep a0 a1 s; exact ⟨t, _, e, k⟩
  case laserModulePoll a0 a1 => obtain ⟨t, e, k⟩ := execLaserModulePoll_keep a0 a1 s; exact ⟨t, _, e, k⟩
  case focusUpdate a0 a1 => obtain ⟨t, e, k⟩ := execFocusUpdate_keep a0 a1 s; exact ⟨t, _, e, k⟩
  case focusLockLost a0 => obtain ⟨t, e, k⟩ := execFocusLockLost_keep a0 s; exact ⟨t, _, e, k⟩
  case focusSearchTimeout a0 => obtain ⟨t, e, k⟩ := execFocusSearchTimeout_keep a0 s; exact ⟨t, _, e, k⟩
  case focusRange a0 => obtain ⟨t, e, k⟩ := execFocusRange_keep a0 s; exact ⟨t, _, e, k⟩
  case identityCheck a0 a1 a2 => obtain ⟨t, e, k⟩ := execIdentityCheck_keep a0 a1 a2 s; exact ⟨t, _, e, k⟩
  case resweepComplete a0 a1 => obtain ⟨t, e, k⟩ := execResweepComplete_keep a0 a1 s; exact ⟨t, _, e, k⟩
  case headroomEval a0 => obtain ⟨t, e, k⟩ := execHeadroomEval_keep a0 s; exact ⟨t, _, e, k⟩
  case feedLow a0 a1 a2 a3 => obtain ⟨t, e, k⟩ := execFeedLow_keep a0 a1 a2 a3 s; exact ⟨t, _, e, k⟩
  case focusTrimInterval a0 a1 => obtain ⟨t, e, k⟩ := execFocusTrimInterval_keep a0 a1 s; exact ⟨t, _, e, k⟩
  case focTrimFreeze a0 a1 => obtain ⟨t, e, k⟩ := execFocTrimFreeze_keep a0 a1 s; exact ⟨t, _, e, k⟩
  case warmSave a0 => obtain ⟨t, e, k⟩ := execWarmSave_keep a0 s; exact ⟨t, _, e, k⟩
  case warmSaveComplete a0 => obtain ⟨t, e, k⟩ := execWarmSaveComplete_keep a0 s; exact ⟨t, _, e, k⟩
  case sensorSample a0 => obtain ⟨t, e, k⟩ := execSensorSample_keep a0 s; exact ⟨t, _, e, k⟩
  case sensorFail a0 => obtain ⟨t, e, k⟩ := execSensorFail_keep a0 s; exact ⟨t, _, e, k⟩
  case thermtripRelease => obtain ⟨t, e, k⟩ := execThermtripRelease_keep s; exact ⟨t, _, e, k⟩
  case coolantStop => obtain ⟨t, e, k⟩ := execCoolantStop_keep s; exact ⟨t, _, e, k⟩
  case coolantRestart => obtain ⟨t, e, k⟩ := execCoolantRestart_keep s; exact ⟨t, _, e, k⟩
  case warmupEnd => obtain ⟨t, e, k⟩ := execWarmupEnd_keep s; exact ⟨t, _, e, k⟩
  case lowTempReturn a0 => obtain ⟨t, e, k⟩ := execLowTempReturn_keep a0 s; exact ⟨t, _, e, k⟩
  case throttleStep => obtain ⟨t, e, k⟩ := execThrottleStep_keep s; exact ⟨t, _, e, k⟩
  case stackTempRead a0 a1 => obtain ⟨t, e, k⟩ := execStackTempRead_keep a0 a1 s; exact ⟨t, _, e, k⟩
  case tempCeilingStep a0 => obtain ⟨t, e, k⟩ := execTempCeilingStep_keep a0 s; exact ⟨t, _, e, k⟩
  case siteOvertemp a0 => obtain ⟨t, e, k⟩ := execSiteOvertemp_keep a0 s; exact ⟨t, _, e, k⟩
  case gafferEvaluation => obtain ⟨t, e, k⟩ := execGafferEvaluation_keep s; exact ⟨t, _, e, k⟩
  case gafferDivide => obtain ⟨t, e, k⟩ := execGafferDivide_keep s; exact ⟨t, _, e, k⟩
  case limitCheck a0 => obtain ⟨t, e, k⟩ := execLimitCheck_keep a0 s; exact ⟨t, _, e, k⟩
  case clampRelease a0 => obtain ⟨t, e, k⟩ := execClampRelease_keep a0 s; exact ⟨t, _, e, k⟩
  case vmillRaiseStep => obtain ⟨t, e, k⟩ := execVmillRaiseStep_keep s; exact ⟨t, _, e, k⟩
  case vmillLowerStep => obtain ⟨t, e, k⟩ := execVmillLowerStep_keep s; exact ⟨t, _, e, k⟩
  case pmbusFail => obtain ⟨t, e, k⟩ := execPmbusFail_keep s; exact ⟨t, _, e, k⟩
  case pmbusAlert => obtain ⟨t, e, k⟩ := execPmbusAlert_keep s; exact ⟨t, _, e, k⟩
  case sitePowerSample a0 a1 a2 => obtain ⟨t, e, k⟩ := execSitePowerSample_keep a0 a1 a2 s; exact ⟨t, _, e, k⟩
  case slewGuardEnd a0 => obtain ⟨t, e, k⟩ := execSlewGuardEnd_keep a0 s; exact ⟨t, _, e, k⟩
  case budgetGrant a0 a1 a2 a3 => obtain ⟨t, e, k⟩ := execBudgetGrant_keep a0 a1 a2 a3 s; exact ⟨t, _, e, k⟩
  case budgetQuery a0 => obtain ⟨t, e, k⟩ := execBudgetQuery_keep a0 s; exact ⟨t, _, e, k⟩
  case budgetExpiry => obtain ⟨t, e, k⟩ := execBudgetExpiry_keep s; exact ⟨t, _, e, k⟩
  case budgetExcessRelease => obtain ⟨t, e, k⟩ := execBudgetExcessRelease_keep s; exact ⟨t, _, e, k⟩
  case budgetReleaseAck a0 a1 => obtain ⟨t, e, k⟩ := execBudgetReleaseAck_keep a0 a1 s; exact ⟨t, _, e, k⟩
  case budgetReleaseRetry => obtain ⟨t, e, k⟩ := execBudgetReleaseRetry_keep s; exact ⟨t, _, e, k⟩
  case paceNotice a0 => obtain ⟨t, e, k⟩ := execPaceNotice_keep a0 s; exact ⟨t, _, e, k⟩
  case paceNoticeTimer a0 => obtain ⟨t, e, k⟩ := execPaceNoticeTimer_keep a0 s; exact ⟨t, _, e, k⟩
  case paceNoticeExpiry a0 => obtain ⟨t, e, k⟩ := execPaceNoticeExpiry_keep a0 s; exact ⟨t, _, e, k⟩
  case energyAttribution a0 => obtain ⟨t, e, k⟩ := execEnergyAttribution_keep a0 s; exact ⟨t, _, e, k⟩
  case faultMessage a0 => obtain ⟨t, e, k⟩ := execFaultMessage_keep a0 s; exact ⟨t, _, e, k⟩
  case fenceRetry a0 => obtain ⟨t, e, k⟩ := execFenceRetry_keep a0 s; exact ⟨t, _, e, k⟩
  case retryComplete a0 a1 => obtain ⟨t, e, k⟩ := execRetryComplete_keep a0 a1 s; exact ⟨t, _, e, k⟩
  case fltFenceClear a0 a1 => obtain ⟨t, e, k⟩ := execFltFenceClear_keep a0 a1 s; exact ⟨t, _, e, k⟩
  case fltAlertAck a0 => obtain ⟨t, e, k⟩ := execFltAlertAck_keep a0 s; exact ⟨t, _, e, k⟩
  case fltFirstClear a0 => obtain ⟨t, e, k⟩ := execFltFirstClear_keep a0 s; exact ⟨t, _, e, k⟩
  case fltOuttakeUnfreeze a0 => obtain ⟨t, e, k⟩ := execFltOuttakeUnfreeze_keep a0 s; exact ⟨t, _, e, k⟩
  case voteScrub a0 => obtain ⟨t, e, k⟩ := execVoteScrub_keep a0 s; exact ⟨t, _, e, k⟩
  case crewWatchdog a0 => obtain ⟨t, e, k⟩ := execCrewWatchdog_keep a0 s; exact ⟨t, _, e, k⟩
  case faultInject a0 a1 => obtain ⟨t, e, k⟩ := execFaultInject_keep a0 a1 s; exact ⟨t, _, e, k⟩
  case heartbeatSend => obtain ⟨t, e, k⟩ := execHeartbeatSend_keep s; exact ⟨t, _, e, k⟩
  case mirHeartbeat a0 a1 => obtain ⟨t, e, k⟩ := execMirHeartbeat_keep a0 a1 s; exact ⟨t, _, e, k⟩
  case pairLinkSilence a0 => obtain ⟨t, e, k⟩ := execPairLinkSilence_keep a0 s; exact ⟨t, _, e, k⟩
  case pairSilence => obtain ⟨t, e, k⟩ := execPairSilence_keep s; exact ⟨t, _, e, k⟩
  case claimNotice a0 => obtain ⟨t, e, k⟩ := execClaimNotice_keep a0 s; exact ⟨t, _, e, k⟩
  case claimAtomicWindowEnd => obtain ⟨t, e, k⟩ := execClaimAtomicWindowEnd_keep s; exact ⟨t, _, e, k⟩
  case claimRecordClear => obtain ⟨t, e, k⟩ := execClaimRecordClear_keep s; exact ⟨t, _, e, k⟩
  case claimRepeat => obtain ⟨t, e, k⟩ := execClaimRepeat_keep s; exact ⟨t, _, e, k⟩
  case pairSoloTimeout => obtain ⟨t, e, k⟩ := execPairSoloTimeout_keep s; exact ⟨t, _, e, k⟩
  case mirStore a0 => obtain ⟨t, e, k⟩ := execMirStore_keep a0 s; exact ⟨t, _, e, k⟩
  case mirWord a0 => obtain ⟨t, e, k⟩ := execMirWord_keep a0 s; exact ⟨t, _, e, k⟩
  case mirConfirm a0 => obtain ⟨t, e, k⟩ := execMirConfirm_keep a0 s; exact ⟨t, _, e, k⟩
  case mirState a0 => obtain ⟨t, e, k⟩ := execMirState_keep a0 s; exact ⟨t, _, e, k⟩
  case mirResync a0 a1 a2 a3 => obtain ⟨t, e, k⟩ := execMirResync_keep a0 a1 a2 a3 s; exact ⟨t, _, e, k⟩
  case resyncComplete => obtain ⟨t, e, k⟩ := execResyncComplete_keep s; exact ⟨t, _, e, k⟩
  case pairHandover a0 => obtain ⟨t, e, k⟩ := execPairHandover_keep a0 s; exact ⟨t, _, e, k⟩
  case powerUp a0 a1 => obtain ⟨t, e, k⟩ := execPowerUp_keep a0 a1 s; exact ⟨t, _, e, k⟩
  case resetAssert a0 => obtain ⟨t, e, k⟩ := execResetAssert_keep a0 s; exact ⟨t, _, e, k⟩
  case bootPhase2 => obtain ⟨t, e, k⟩ := execBootPhase2_keep s; exact ⟨t, _, e, k⟩
  case bootPhase3 a0 a1 => obtain ⟨t, e, k⟩ := execBootPhase3_keep a0 a1 s; exact ⟨t, _, e, k⟩
  case bootPhase4 a0 a1 a2 => obtain ⟨t, e, k⟩ := execBootPhase4_keep a0 a1 a2 s; exact ⟨t, _, e, k⟩
  case bootPhase5 a0 a1 => obtain ⟨t, e, k⟩ := execBootPhase5_keep a0 a1 s; exact ⟨t, _, e, k⟩
  case bootPhase6 a0 a1 a2 => obtain ⟨t, e, k⟩ := execBootPhase6_keep a0 a1 a2 s; exact ⟨t, _, e, k⟩
  case bootPhase7 a0 a1 => obtain ⟨t, e, k⟩ := execBootPhase7_keep a0 a1 s; exact ⟨t, _, e, k⟩
  case bootPhase8 a0 => obtain ⟨t, e, k⟩ := execBootPhase8_keep a0 s; exact ⟨t, _, e, k⟩
  case bootPhase9 => obtain ⟨t, e, k⟩ := execBootPhase9_keep s; exact ⟨t, _, e, k⟩
  case bootPhase10 => obtain ⟨t, e, k⟩ := execBootPhase10_keep s; exact ⟨t, _, e, k⟩
  case bootPhase11 => obtain ⟨t, e, k⟩ := execBootPhase11_keep s; exact ⟨t, _, e, k⟩
  case restart a0 => obtain ⟨t, e, k⟩ := execRestart_keep a0 s; exact ⟨t, _, e, k⟩
  case dark a0 => obtain ⟨t, e, k⟩ := execDark_keep a0 s; exact ⟨t, _, e, k⟩
  case wake a0 => obtain ⟨t, e, k⟩ := execWake_keep a0 s; exact ⟨t, _, e, k⟩
  case scriptCheck a0 => obtain ⟨t, e, k⟩ := execScriptCheck_keep a0 s; exact ⟨t, _, e, k⟩
  case scriptCheckComplete a0 => obtain ⟨t, e, k⟩ := execScriptCheckComplete_keep a0 s; exact ⟨t, _, e, k⟩
  case flashReadPage a0 => obtain ⟨t, e, k⟩ := execFlashReadPage_keep a0 s; exact ⟨t, _, e, k⟩
  case flashProgram a0 => obtain ⟨t, e, k⟩ := execFlashProgram_keep a0 s; exact ⟨t, _, e, k⟩
  case flashErase a0 => obtain ⟨t, e, k⟩ := execFlashErase_keep a0 s; exact ⟨t, _, e, k⟩
  case flashOpComplete a0 => obtain ⟨t, e, k⟩ := execFlashOpComplete_keep a0 s; exact ⟨t, _, e, k⟩
  case keyExchange a0 a1 a2 => obtain ⟨t, e, k⟩ := execKeyExchange_keep a0 a1 a2 s; exact ⟨t, _, e, k⟩
  case endSession a0 => obtain ⟨t, e, k⟩ := execEndSession_keep a0 s; exact ⟨t, _, e, k⟩
  case sessionHeartbeatMiss a0 => obtain ⟨t, e, k⟩ := execSessionHeartbeatMiss_keep a0 s; exact ⟨t, _, e, k⟩
  case spdmRequest a0 a1 => obtain ⟨t, e, k⟩ := execSpdmRequest_keep a0 a1 s; exact ⟨t, _, e, k⟩
  case roleReenrolArm a0 => obtain ⟨t, e, k⟩ := execRoleReenrolArm_keep a0 s; exact ⟨t, _, e, k⟩
  case facModeEnter a0 a1 => obtain ⟨t, e, k⟩ := execFacModeEnter_keep a0 a1 s; exact ⟨t, _, e, k⟩
  case jobStart a0 a1 => obtain ⟨t, e, k⟩ := execJobStart_keep a0 a1 s; exact ⟨t, _, e, k⟩
  case jobEnd a0 a1 => obtain ⟨t, e, k⟩ := execJobEnd_keep a0 a1 s; exact ⟨t, _, e, k⟩
  case jobEndComplete a0 => obtain ⟨t, e, k⟩ := execJobEndComplete_keep a0 s; exact ⟨t, _, e, k⟩
  case jobClear a0 a1 => obtain ⟨t, e, k⟩ := execJobClear_keep a0 a1 s; exact ⟨t, _, e, k⟩
  case auditArchive a0 => obtain ⟨t, e, k⟩ := execAuditArchive_keep a0 s; exact ⟨t, _, e, k⟩
  case continuitySweep => obtain ⟨t, e, k⟩ := execContinuitySweep_keep s; exact ⟨t, _, e, k⟩
  case continuity a0 a1 a2 => obtain ⟨t, e, k⟩ := execContinuity_keep a0 a1 a2 s; exact ⟨t, _, e, k⟩
  case continuityPartnerSilence a0 => obtain ⟨t, e, k⟩ := execContinuityPartnerSilence_keep a0 s; exact ⟨t, _, e, k⟩
  case updBegin a0 a1 a2 a3 a4 a5 a6 => obtain ⟨t, e, k⟩ := execUpdBegin_keep a0 a1 a2 a3 a4 a5 a6 s; exact ⟨t, _, e, k⟩
  case updPiece a0 a1 a2 a3 a4 a5 a6 => obtain ⟨t, e, k⟩ := execUpdPiece_keep a0 a1 a2 a3 a4 a5 a6 s; exact ⟨t, _, e, k⟩
  case updQuery a0 => obtain ⟨t, e, k⟩ := execUpdQuery_keep a0 s; exact ⟨t, _, e, k⟩
  case updAbort a0 a1 => obtain ⟨t, e, k⟩ := execUpdAbort_keep a0 a1 s; exact ⟨t, _, e, k⟩
  case updActivate a0 => obtain ⟨t, e, k⟩ := execUpdActivate_keep a0 s; exact ⟨t, _, e, k⟩
  case updCtrlAbort a0 => obtain ⟨t, e, k⟩ := execUpdCtrlAbort_keep a0 s; exact ⟨t, _, e, k⟩
  case activationComplete a0 => obtain ⟨t, e, k⟩ := execActivationComplete_keep a0 s; exact ⟨t, _, e, k⟩
  case csRead a0 a1 a2 => obtain ⟨t, e, k⟩ := execCsRead_keep a0 a1 a2 s; exact ⟨t, _, e, k⟩
  case csWrite a0 a1 a2 => obtain ⟨t, e, k⟩ := execCsWrite_keep a0 a1 a2 s; exact ⟨t, _, e, k⟩
  case mgtCsRead a0 a1 a2 => obtain ⟨t, e, k⟩ := execMgtCsRead_keep a0 a1 a2 s; exact ⟨t, _, e, k⟩
  case mgtCsWrite a0 a1 a2 a3 => obtain ⟨t, e, k⟩ := execMgtCsWrite_keep a0 a1 a2 a3 s; exact ⟨t, _, e, k⟩
  case spdmFrag a0 a1 a2 a3 a4 => obtain ⟨t, e, k⟩ := execSpdmFrag_keep a0 a1 a2 a3 a4 s; exact ⟨t, _, e, k⟩
  case registerWrite a0 a1 a2 => obtain ⟨t, e, k⟩ := execRegisterWrite_keep a0 a1 a2 s; exact ⟨t, _, e, k⟩
  case rcRead a0 a1 => obtain ⟨t, e, k⟩ := execRcRead_keep a0 a1 s; exact ⟨t, _, e, k⟩
  case loReadLatch a0 a1 => obtain ⟨t, e, k⟩ := execLoReadLatch_keep a0 a1 s; exact ⟨t, _, e, k⟩
  case slateCommit a0 a1 a2 => obtain ⟨t, e, k⟩ := execSlateCommit_keep a0 a1 a2 s; exact ⟨t, _, e, k⟩
  case slateApply => obtain ⟨t, e, k⟩ := execSlateApply_keep s; exact ⟨t, _, e, k⟩
  case daily => obtain ⟨t, e, k⟩ := execDaily_keep s; exact ⟨t, _, e, k⟩
  case tsiClockFail a0 a1 => obtain ⟨t, e, k⟩ := execTsiClockFail_keep a0 a1 s; exact ⟨t, _, e, k⟩
  case narrowingComplete a0 a1 => obtain ⟨t, e, k⟩ := execNarrowingComplete_keep a0 a1 s; exact ⟨t, _, e, k⟩
  case siteRateFallbackEnd a0 a1 => obtain ⟨t, e, k⟩ := execSiteRateFallbackEnd_keep a0 a1 s; exact ⟨t, _, e, k⟩
  case memRateFallbackDone a0 a1 => obtain ⟨t, e, k⟩ := execMemRateFallbackDone_keep a0 a1 s; exact ⟨t, _, e, k⟩
  case sidebandWordError a0 => obtain ⟨t, e, k⟩ := execSidebandWordError_keep a0 s; exact ⟨t, _, e, k⟩
  case vddIoRemoved => obtain ⟨t, e, k⟩ := execVddIoRemoved_keep s; exact ⟨t, _, e, k⟩
  case entdaa a0 => obtain ⟨t, e, k⟩ := execEntdaa_keep a0 s; exact ⟨t, _, e, k⟩
  case tapInstruction a0 => obtain ⟨t, e, k⟩ := execTapInstruction_keep a0 s; exact ⟨t, _, e, k⟩
  case podFlitSend a0 a1 => obtain ⟨t, e, k⟩ := execPodFlitSend_keep a0 a1 s; exact ⟨t, _, e, k⟩

end Sys2Proof.Machine
end

