-- ==== Sys2Proof/Laws/State.lean ====
section
/-! SUPPORT. One lemma for each part of the state and each change of one, true by definition, so that no later proof unfolds a
record update. -/

namespace Sys2Proof.Machine

open Sys2Proof

@[simp] theorem modTc_part (f) (s : State) : (modTc f s).part = s.part := rfl
@[simp] theorem modTc_now (f) (s : State) : (modTc f s).now = s.now := rfl
@[simp] theorem modTc_pending (f) (s : State) : (modTc f s).pending = s.pending := rfl
@[simp] theorem modTc_tc (f) (s : State) : (modTc f s).tc = f s.tc := rfl
@[simp] theorem modTc_slu (f) (s : State) : (modTc f s).slu = s.slu := rfl
@[simp] theorem modTc_mrc (f) (s : State) : (modTc f s).mrc = s.mrc := rfl
@[simp] theorem modTc_mem (f) (s : State) : (modTc f s).mem = s.mem := rfl
@[simp] theorem modTc_blk (f) (s : State) : (modTc f s).blk = s.blk := rfl
@[simp] theorem modTc_mpd (f) (s : State) : (modTc f s).mpd = s.mpd := rfl
@[simp] theorem modTc_grp (f) (s : State) : (modTc f s).grp = s.grp := rfl
@[simp] theorem modTc_mst (f) (s : State) : (modTc f s).mst = s.mst := rfl
@[simp] theorem modTc_tsi (f) (s : State) : (modTc f s).tsi = s.tsi := rfl
@[simp] theorem modTc_pod (f) (s : State) : (modTc f s).pod = s.pod := rfl
@[simp] theorem modTc_foc (f) (s : State) : (modTc f s).foc = s.foc := rfl
@[simp] theorem modTc_thm (f) (s : State) : (modTc f s).thm = s.thm := rfl
@[simp] theorem modTc_gaf (f) (s : State) : (modTc f s).gaf = s.gaf := rfl
@[simp] theorem modTc_flt (f) (s : State) : (modTc f s).flt = s.flt := rfl
@[simp] theorem modTc_pair (f) (s : State) : (modTc f s).pair = s.pair := rfl
@[simp] theorem modTc_role (f) (s : State) : (modTc f s).role = s.role := rfl
@[simp] theorem modTc_boot (f) (s : State) : (modTc f s).boot = s.boot := rfl
@[simp] theorem modTc_csp (f) (s : State) : (modTc f s).csp = s.csp := rfl
@[simp] theorem modTc_tel (f) (s : State) : (modTc f s).tel = s.tel := rfl
@[simp] theorem modTc_ident (f) (s : State) : (modTc f s).ident = s.ident := rfl
@[simp] theorem modTc_pins (f) (s : State) : (modTc f s).pins = s.pins := rfl
@[simp] theorem modTc_out (f) (s : State) : (modTc f s).out = s.out := rfl

@[simp] theorem modSlu_part (f) (s : State) : (modSlu f s).part = s.part := rfl
@[simp] theorem modSlu_now (f) (s : State) : (modSlu f s).now = s.now := rfl
@[simp] theorem modSlu_pending (f) (s : State) : (modSlu f s).pending = s.pending := rfl
@[simp] theorem modSlu_tc (f) (s : State) : (modSlu f s).tc = s.tc := rfl
@[simp] theorem modSlu_slu (f) (s : State) : (modSlu f s).slu = f s.slu := rfl
@[simp] theorem modSlu_mrc (f) (s : State) : (modSlu f s).mrc = s.mrc := rfl
@[simp] theorem modSlu_mem (f) (s : State) : (modSlu f s).mem = s.mem := rfl
@[simp] theorem modSlu_blk (f) (s : State) : (modSlu f s).blk = s.blk := rfl
@[simp] theorem modSlu_mpd (f) (s : State) : (modSlu f s).mpd = s.mpd := rfl
@[simp] theorem modSlu_grp (f) (s : State) : (modSlu f s).grp = s.grp := rfl
@[simp] theorem modSlu_mst (f) (s : State) : (modSlu f s).mst = s.mst := rfl
@[simp] theorem modSlu_tsi (f) (s : State) : (modSlu f s).tsi = s.tsi := rfl
@[simp] theorem modSlu_pod (f) (s : State) : (modSlu f s).pod = s.pod := rfl
@[simp] theorem modSlu_foc (f) (s : State) : (modSlu f s).foc = s.foc := rfl
@[simp] theorem modSlu_thm (f) (s : State) : (modSlu f s).thm = s.thm := rfl
@[simp] theorem modSlu_gaf (f) (s : State) : (modSlu f s).gaf = s.gaf := rfl
@[simp] theorem modSlu_flt (f) (s : State) : (modSlu f s).flt = s.flt := rfl
@[simp] theorem modSlu_pair (f) (s : State) : (modSlu f s).pair = s.pair := rfl
@[simp] theorem modSlu_role (f) (s : State) : (modSlu f s).role = s.role := rfl
@[simp] theorem modSlu_boot (f) (s : State) : (modSlu f s).boot = s.boot := rfl
@[simp] theorem modSlu_csp (f) (s : State) : (modSlu f s).csp = s.csp := rfl
@[simp] theorem modSlu_tel (f) (s : State) : (modSlu f s).tel = s.tel := rfl
@[simp] theorem modSlu_ident (f) (s : State) : (modSlu f s).ident = s.ident := rfl
@[simp] theorem modSlu_pins (f) (s : State) : (modSlu f s).pins = s.pins := rfl
@[simp] theorem modSlu_out (f) (s : State) : (modSlu f s).out = s.out := rfl

@[simp] theorem modMrc_part (f) (s : State) : (modMrc f s).part = s.part := rfl
@[simp] theorem modMrc_now (f) (s : State) : (modMrc f s).now = s.now := rfl
@[simp] theorem modMrc_pending (f) (s : State) : (modMrc f s).pending = s.pending := rfl
@[simp] theorem modMrc_tc (f) (s : State) : (modMrc f s).tc = s.tc := rfl
@[simp] theorem modMrc_slu (f) (s : State) : (modMrc f s).slu = s.slu := rfl
@[simp] theorem modMrc_mrc (f) (s : State) : (modMrc f s).mrc = f s.mrc := rfl
@[simp] theorem modMrc_mem (f) (s : State) : (modMrc f s).mem = s.mem := rfl
@[simp] theorem modMrc_blk (f) (s : State) : (modMrc f s).blk = s.blk := rfl
@[simp] theorem modMrc_mpd (f) (s : State) : (modMrc f s).mpd = s.mpd := rfl
@[simp] theorem modMrc_grp (f) (s : State) : (modMrc f s).grp = s.grp := rfl
@[simp] theorem modMrc_mst (f) (s : State) : (modMrc f s).mst = s.mst := rfl
@[simp] theorem modMrc_tsi (f) (s : State) : (modMrc f s).tsi = s.tsi := rfl
@[simp] theorem modMrc_pod (f) (s : State) : (modMrc f s).pod = s.pod := rfl
@[simp] theorem modMrc_foc (f) (s : State) : (modMrc f s).foc = s.foc := rfl
@[simp] theorem modMrc_thm (f) (s : State) : (modMrc f s).thm = s.thm := rfl
@[simp] theorem modMrc_gaf (f) (s : State) : (modMrc f s).gaf = s.gaf := rfl
@[simp] theorem modMrc_flt (f) (s : State) : (modMrc f s).flt = s.flt := rfl
@[simp] theorem modMrc_pair (f) (s : State) : (modMrc f s).pair = s.pair := rfl
@[simp] theorem modMrc_role (f) (s : State) : (modMrc f s).role = s.role := rfl
@[simp] theorem modMrc_boot (f) (s : State) : (modMrc f s).boot = s.boot := rfl
@[simp] theorem modMrc_csp (f) (s : State) : (modMrc f s).csp = s.csp := rfl
@[simp] theorem modMrc_tel (f) (s : State) : (modMrc f s).tel = s.tel := rfl
@[simp] theorem modMrc_ident (f) (s : State) : (modMrc f s).ident = s.ident := rfl
@[simp] theorem modMrc_pins (f) (s : State) : (modMrc f s).pins = s.pins := rfl
@[simp] theorem modMrc_out (f) (s : State) : (modMrc f s).out = s.out := rfl

@[simp] theorem modMem_part (f) (s : State) : (modMem f s).part = s.part := rfl
@[simp] theorem modMem_now (f) (s : State) : (modMem f s).now = s.now := rfl
@[simp] theorem modMem_pending (f) (s : State) : (modMem f s).pending = s.pending := rfl
@[simp] theorem modMem_tc (f) (s : State) : (modMem f s).tc = s.tc := rfl
@[simp] theorem modMem_slu (f) (s : State) : (modMem f s).slu = s.slu := rfl
@[simp] theorem modMem_mrc (f) (s : State) : (modMem f s).mrc = s.mrc := rfl
@[simp] theorem modMem_mem (f) (s : State) : (modMem f s).mem = f s.mem := rfl
@[simp] theorem modMem_blk (f) (s : State) : (modMem f s).blk = s.blk := rfl
@[simp] theorem modMem_mpd (f) (s : State) : (modMem f s).mpd = s.mpd := rfl
@[simp] theorem modMem_grp (f) (s : State) : (modMem f s).grp = s.grp := rfl
@[simp] theorem modMem_mst (f) (s : State) : (modMem f s).mst = s.mst := rfl
@[simp] theorem modMem_tsi (f) (s : State) : (modMem f s).tsi = s.tsi := rfl
@[simp] theorem modMem_pod (f) (s : State) : (modMem f s).pod = s.pod := rfl
@[simp] theorem modMem_foc (f) (s : State) : (modMem f s).foc = s.foc := rfl
@[simp] theorem modMem_thm (f) (s : State) : (modMem f s).thm = s.thm := rfl
@[simp] theorem modMem_gaf (f) (s : State) : (modMem f s).gaf = s.gaf := rfl
@[simp] theorem modMem_flt (f) (s : State) : (modMem f s).flt = s.flt := rfl
@[simp] theorem modMem_pair (f) (s : State) : (modMem f s).pair = s.pair := rfl
@[simp] theorem modMem_role (f) (s : State) : (modMem f s).role = s.role := rfl
@[simp] theorem modMem_boot (f) (s : State) : (modMem f s).boot = s.boot := rfl
@[simp] theorem modMem_csp (f) (s : State) : (modMem f s).csp = s.csp := rfl
@[simp] theorem modMem_tel (f) (s : State) : (modMem f s).tel = s.tel := rfl
@[simp] theorem modMem_ident (f) (s : State) : (modMem f s).ident = s.ident := rfl
@[simp] theorem modMem_pins (f) (s : State) : (modMem f s).pins = s.pins := rfl
@[simp] theorem modMem_out (f) (s : State) : (modMem f s).out = s.out := rfl

@[simp] theorem modBlk_part (f) (s : State) : (modBlk f s).part = s.part := rfl
@[simp] theorem modBlk_now (f) (s : State) : (modBlk f s).now = s.now := rfl
@[simp] theorem modBlk_pending (f) (s : State) : (modBlk f s).pending = s.pending := rfl
@[simp] theorem modBlk_tc (f) (s : State) : (modBlk f s).tc = s.tc := rfl
@[simp] theorem modBlk_slu (f) (s : State) : (modBlk f s).slu = s.slu := rfl
@[simp] theorem modBlk_mrc (f) (s : State) : (modBlk f s).mrc = s.mrc := rfl
@[simp] theorem modBlk_mem (f) (s : State) : (modBlk f s).mem = s.mem := rfl
@[simp] theorem modBlk_blk (f) (s : State) : (modBlk f s).blk = f s.blk := rfl
@[simp] theorem modBlk_mpd (f) (s : State) : (modBlk f s).mpd = s.mpd := rfl
@[simp] theorem modBlk_grp (f) (s : State) : (modBlk f s).grp = s.grp := rfl
@[simp] theorem modBlk_mst (f) (s : State) : (modBlk f s).mst = s.mst := rfl
@[simp] theorem modBlk_tsi (f) (s : State) : (modBlk f s).tsi = s.tsi := rfl
@[simp] theorem modBlk_pod (f) (s : State) : (modBlk f s).pod = s.pod := rfl
@[simp] theorem modBlk_foc (f) (s : State) : (modBlk f s).foc = s.foc := rfl
@[simp] theorem modBlk_thm (f) (s : State) : (modBlk f s).thm = s.thm := rfl
@[simp] theorem modBlk_gaf (f) (s : State) : (modBlk f s).gaf = s.gaf := rfl
@[simp] theorem modBlk_flt (f) (s : State) : (modBlk f s).flt = s.flt := rfl
@[simp] theorem modBlk_pair (f) (s : State) : (modBlk f s).pair = s.pair := rfl
@[simp] theorem modBlk_role (f) (s : State) : (modBlk f s).role = s.role := rfl
@[simp] theorem modBlk_boot (f) (s : State) : (modBlk f s).boot = s.boot := rfl
@[simp] theorem modBlk_csp (f) (s : State) : (modBlk f s).csp = s.csp := rfl
@[simp] theorem modBlk_tel (f) (s : State) : (modBlk f s).tel = s.tel := rfl
@[simp] theorem modBlk_ident (f) (s : State) : (modBlk f s).ident = s.ident := rfl
@[simp] theorem modBlk_pins (f) (s : State) : (modBlk f s).pins = s.pins := rfl
@[simp] theorem modBlk_out (f) (s : State) : (modBlk f s).out = s.out := rfl

@[simp] theorem modMpd_part (f) (s : State) : (modMpd f s).part = s.part := rfl
@[simp] theorem modMpd_now (f) (s : State) : (modMpd f s).now = s.now := rfl
@[simp] theorem modMpd_pending (f) (s : State) : (modMpd f s).pending = s.pending := rfl
@[simp] theorem modMpd_tc (f) (s : State) : (modMpd f s).tc = s.tc := rfl
@[simp] theorem modMpd_slu (f) (s : State) : (modMpd f s).slu = s.slu := rfl
@[simp] theorem modMpd_mrc (f) (s : State) : (modMpd f s).mrc = s.mrc := rfl
@[simp] theorem modMpd_mem (f) (s : State) : (modMpd f s).mem = s.mem := rfl
@[simp] theorem modMpd_blk (f) (s : State) : (modMpd f s).blk = s.blk := rfl
@[simp] theorem modMpd_mpd (f) (s : State) : (modMpd f s).mpd = f s.mpd := rfl
@[simp] theorem modMpd_grp (f) (s : State) : (modMpd f s).grp = s.grp := rfl
@[simp] theorem modMpd_mst (f) (s : State) : (modMpd f s).mst = s.mst := rfl
@[simp] theorem modMpd_tsi (f) (s : State) : (modMpd f s).tsi = s.tsi := rfl
@[simp] theorem modMpd_pod (f) (s : State) : (modMpd f s).pod = s.pod := rfl
@[simp] theorem modMpd_foc (f) (s : State) : (modMpd f s).foc = s.foc := rfl
@[simp] theorem modMpd_thm (f) (s : State) : (modMpd f s).thm = s.thm := rfl
@[simp] theorem modMpd_gaf (f) (s : State) : (modMpd f s).gaf = s.gaf := rfl
@[simp] theorem modMpd_flt (f) (s : State) : (modMpd f s).flt = s.flt := rfl
@[simp] theorem modMpd_pair (f) (s : State) : (modMpd f s).pair = s.pair := rfl
@[simp] theorem modMpd_role (f) (s : State) : (modMpd f s).role = s.role := rfl
@[simp] theorem modMpd_boot (f) (s : State) : (modMpd f s).boot = s.boot := rfl
@[simp] theorem modMpd_csp (f) (s : State) : (modMpd f s).csp = s.csp := rfl
@[simp] theorem modMpd_tel (f) (s : State) : (modMpd f s).tel = s.tel := rfl
@[simp] theorem modMpd_ident (f) (s : State) : (modMpd f s).ident = s.ident := rfl
@[simp] theorem modMpd_pins (f) (s : State) : (modMpd f s).pins = s.pins := rfl
@[simp] theorem modMpd_out (f) (s : State) : (modMpd f s).out = s.out := rfl

@[simp] theorem modGrp_part (f) (s : State) : (modGrp f s).part = s.part := rfl
@[simp] theorem modGrp_now (f) (s : State) : (modGrp f s).now = s.now := rfl
@[simp] theorem modGrp_pending (f) (s : State) : (modGrp f s).pending = s.pending := rfl
@[simp] theorem modGrp_tc (f) (s : State) : (modGrp f s).tc = s.tc := rfl
@[simp] theorem modGrp_slu (f) (s : State) : (modGrp f s).slu = s.slu := rfl
@[simp] theorem modGrp_mrc (f) (s : State) : (modGrp f s).mrc = s.mrc := rfl
@[simp] theorem modGrp_mem (f) (s : State) : (modGrp f s).mem = s.mem := rfl
@[simp] theorem modGrp_blk (f) (s : State) : (modGrp f s).blk = s.blk := rfl
@[simp] theorem modGrp_mpd (f) (s : State) : (modGrp f s).mpd = s.mpd := rfl
@[simp] theorem modGrp_grp (f) (s : State) : (modGrp f s).grp = f s.grp := rfl
@[simp] theorem modGrp_mst (f) (s : State) : (modGrp f s).mst = s.mst := rfl
@[simp] theorem modGrp_tsi (f) (s : State) : (modGrp f s).tsi = s.tsi := rfl
@[simp] theorem modGrp_pod (f) (s : State) : (modGrp f s).pod = s.pod := rfl
@[simp] theorem modGrp_foc (f) (s : State) : (modGrp f s).foc = s.foc := rfl
@[simp] theorem modGrp_thm (f) (s : State) : (modGrp f s).thm = s.thm := rfl
@[simp] theorem modGrp_gaf (f) (s : State) : (modGrp f s).gaf = s.gaf := rfl
@[simp] theorem modGrp_flt (f) (s : State) : (modGrp f s).flt = s.flt := rfl
@[simp] theorem modGrp_pair (f) (s : State) : (modGrp f s).pair = s.pair := rfl
@[simp] theorem modGrp_role (f) (s : State) : (modGrp f s).role = s.role := rfl
@[simp] theorem modGrp_boot (f) (s : State) : (modGrp f s).boot = s.boot := rfl
@[simp] theorem modGrp_csp (f) (s : State) : (modGrp f s).csp = s.csp := rfl
@[simp] theorem modGrp_tel (f) (s : State) : (modGrp f s).tel = s.tel := rfl
@[simp] theorem modGrp_ident (f) (s : State) : (modGrp f s).ident = s.ident := rfl
@[simp] theorem modGrp_pins (f) (s : State) : (modGrp f s).pins = s.pins := rfl
@[simp] theorem modGrp_out (f) (s : State) : (modGrp f s).out = s.out := rfl

@[simp] theorem modMst_part (f) (s : State) : (modMst f s).part = s.part := rfl
@[simp] theorem modMst_now (f) (s : State) : (modMst f s).now = s.now := rfl
@[simp] theorem modMst_pending (f) (s : State) : (modMst f s).pending = s.pending := rfl
@[simp] theorem modMst_tc (f) (s : State) : (modMst f s).tc = s.tc := rfl
@[simp] theorem modMst_slu (f) (s : State) : (modMst f s).slu = s.slu := rfl
@[simp] theorem modMst_mrc (f) (s : State) : (modMst f s).mrc = s.mrc := rfl
@[simp] theorem modMst_mem (f) (s : State) : (modMst f s).mem = s.mem := rfl
@[simp] theorem modMst_blk (f) (s : State) : (modMst f s).blk = s.blk := rfl
@[simp] theorem modMst_mpd (f) (s : State) : (modMst f s).mpd = s.mpd := rfl
@[simp] theorem modMst_grp (f) (s : State) : (modMst f s).grp = s.grp := rfl
@[simp] theorem modMst_mst (f) (s : State) : (modMst f s).mst = f s.mst := rfl
@[simp] theorem modMst_tsi (f) (s : State) : (modMst f s).tsi = s.tsi := rfl
@[simp] theorem modMst_pod (f) (s : State) : (modMst f s).pod = s.pod := rfl
@[simp] theorem modMst_foc (f) (s : State) : (modMst f s).foc = s.foc := rfl
@[simp] theorem modMst_thm (f) (s : State) : (modMst f s).thm = s.thm := rfl
@[simp] theorem modMst_gaf (f) (s : State) : (modMst f s).gaf = s.gaf := rfl
@[simp] theorem modMst_flt (f) (s : State) : (modMst f s).flt = s.flt := rfl
@[simp] theorem modMst_pair (f) (s : State) : (modMst f s).pair = s.pair := rfl
@[simp] theorem modMst_role (f) (s : State) : (modMst f s).role = s.role := rfl
@[simp] theorem modMst_boot (f) (s : State) : (modMst f s).boot = s.boot := rfl
@[simp] theorem modMst_csp (f) (s : State) : (modMst f s).csp = s.csp := rfl
@[simp] theorem modMst_tel (f) (s : State) : (modMst f s).tel = s.tel := rfl
@[simp] theorem modMst_ident (f) (s : State) : (modMst f s).ident = s.ident := rfl
@[simp] theorem modMst_pins (f) (s : State) : (modMst f s).pins = s.pins := rfl
@[simp] theorem modMst_out (f) (s : State) : (modMst f s).out = s.out := rfl

@[simp] theorem modPod_part (f) (s : State) : (modPod f s).part = s.part := rfl
@[simp] theorem modPod_now (f) (s : State) : (modPod f s).now = s.now := rfl
@[simp] theorem modPod_pending (f) (s : State) : (modPod f s).pending = s.pending := rfl
@[simp] theorem modPod_tc (f) (s : State) : (modPod f s).tc = s.tc := rfl
@[simp] theorem modPod_slu (f) (s : State) : (modPod f s).slu = s.slu := rfl
@[simp] theorem modPod_mrc (f) (s : State) : (modPod f s).mrc = s.mrc := rfl
@[simp] theorem modPod_mem (f) (s : State) : (modPod f s).mem = s.mem := rfl
@[simp] theorem modPod_blk (f) (s : State) : (modPod f s).blk = s.blk := rfl
@[simp] theorem modPod_mpd (f) (s : State) : (modPod f s).mpd = s.mpd := rfl
@[simp] theorem modPod_grp (f) (s : State) : (modPod f s).grp = s.grp := rfl
@[simp] theorem modPod_mst (f) (s : State) : (modPod f s).mst = s.mst := rfl
@[simp] theorem modPod_tsi (f) (s : State) : (modPod f s).tsi = s.tsi := rfl
@[simp] theorem modPod_pod (f) (s : State) : (modPod f s).pod = f s.pod := rfl
@[simp] theorem modPod_foc (f) (s : State) : (modPod f s).foc = s.foc := rfl
@[simp] theorem modPod_thm (f) (s : State) : (modPod f s).thm = s.thm := rfl
@[simp] theorem modPod_gaf (f) (s : State) : (modPod f s).gaf = s.gaf := rfl
@[simp] theorem modPod_flt (f) (s : State) : (modPod f s).flt = s.flt := rfl
@[simp] theorem modPod_pair (f) (s : State) : (modPod f s).pair = s.pair := rfl
@[simp] theorem modPod_role (f) (s : State) : (modPod f s).role = s.role := rfl
@[simp] theorem modPod_boot (f) (s : State) : (modPod f s).boot = s.boot := rfl
@[simp] theorem modPod_csp (f) (s : State) : (modPod f s).csp = s.csp := rfl
@[simp] theorem modPod_tel (f) (s : State) : (modPod f s).tel = s.tel := rfl
@[simp] theorem modPod_ident (f) (s : State) : (modPod f s).ident = s.ident := rfl
@[simp] theorem modPod_pins (f) (s : State) : (modPod f s).pins = s.pins := rfl
@[simp] theorem modPod_out (f) (s : State) : (modPod f s).out = s.out := rfl

@[simp] theorem modFoc_part (f) (s : State) : (modFoc f s).part = s.part := rfl
@[simp] theorem modFoc_now (f) (s : State) : (modFoc f s).now = s.now := rfl
@[simp] theorem modFoc_pending (f) (s : State) : (modFoc f s).pending = s.pending := rfl
@[simp] theorem modFoc_tc (f) (s : State) : (modFoc f s).tc = s.tc := rfl
@[simp] theorem modFoc_slu (f) (s : State) : (modFoc f s).slu = s.slu := rfl
@[simp] theorem modFoc_mrc (f) (s : State) : (modFoc f s).mrc = s.mrc := rfl
@[simp] theorem modFoc_mem (f) (s : State) : (modFoc f s).mem = s.mem := rfl
@[simp] theorem modFoc_blk (f) (s : State) : (modFoc f s).blk = s.blk := rfl
@[simp] theorem modFoc_mpd (f) (s : State) : (modFoc f s).mpd = s.mpd := rfl
@[simp] theorem modFoc_grp (f) (s : State) : (modFoc f s).grp = s.grp := rfl
@[simp] theorem modFoc_mst (f) (s : State) : (modFoc f s).mst = s.mst := rfl
@[simp] theorem modFoc_tsi (f) (s : State) : (modFoc f s).tsi = s.tsi := rfl
@[simp] theorem modFoc_pod (f) (s : State) : (modFoc f s).pod = s.pod := rfl
@[simp] theorem modFoc_foc (f) (s : State) : (modFoc f s).foc = f s.foc := rfl
@[simp] theorem modFoc_thm (f) (s : State) : (modFoc f s).thm = s.thm := rfl
@[simp] theorem modFoc_gaf (f) (s : State) : (modFoc f s).gaf = s.gaf := rfl
@[simp] theorem modFoc_flt (f) (s : State) : (modFoc f s).flt = s.flt := rfl
@[simp] theorem modFoc_pair (f) (s : State) : (modFoc f s).pair = s.pair := rfl
@[simp] theorem modFoc_role (f) (s : State) : (modFoc f s).role = s.role := rfl
@[simp] theorem modFoc_boot (f) (s : State) : (modFoc f s).boot = s.boot := rfl
@[simp] theorem modFoc_csp (f) (s : State) : (modFoc f s).csp = s.csp := rfl
@[simp] theorem modFoc_tel (f) (s : State) : (modFoc f s).tel = s.tel := rfl
@[simp] theorem modFoc_ident (f) (s : State) : (modFoc f s).ident = s.ident := rfl
@[simp] theorem modFoc_pins (f) (s : State) : (modFoc f s).pins = s.pins := rfl
@[simp] theorem modFoc_out (f) (s : State) : (modFoc f s).out = s.out := rfl

@[simp] theorem modThm_part (f) (s : State) : (modThm f s).part = s.part := rfl
@[simp] theorem modThm_now (f) (s : State) : (modThm f s).now = s.now := rfl
@[simp] theorem modThm_pending (f) (s : State) : (modThm f s).pending = s.pending := rfl
@[simp] theorem modThm_tc (f) (s : State) : (modThm f s).tc = s.tc := rfl
@[simp] theorem modThm_slu (f) (s : State) : (modThm f s).slu = s.slu := rfl
@[simp] theorem modThm_mrc (f) (s : State) : (modThm f s).mrc = s.mrc := rfl
@[simp] theorem modThm_mem (f) (s : State) : (modThm f s).mem = s.mem := rfl
@[simp] theorem modThm_blk (f) (s : State) : (modThm f s).blk = s.blk := rfl
@[simp] theorem modThm_mpd (f) (s : State) : (modThm f s).mpd = s.mpd := rfl
@[simp] theorem modThm_grp (f) (s : State) : (modThm f s).grp = s.grp := rfl
@[simp] theorem modThm_mst (f) (s : State) : (modThm f s).mst = s.mst := rfl
@[simp] theorem modThm_tsi (f) (s : State) : (modThm f s).tsi = s.tsi := rfl
@[simp] theorem modThm_pod (f) (s : State) : (modThm f s).pod = s.pod := rfl
@[simp] theorem modThm_foc (f) (s : State) : (modThm f s).foc = s.foc := rfl
@[simp] theorem modThm_thm (f) (s : State) : (modThm f s).thm = f s.thm := rfl
@[simp] theorem modThm_gaf (f) (s : State) : (modThm f s).gaf = s.gaf := rfl
@[simp] theorem modThm_flt (f) (s : State) : (modThm f s).flt = s.flt := rfl
@[simp] theorem modThm_pair (f) (s : State) : (modThm f s).pair = s.pair := rfl
@[simp] theorem modThm_role (f) (s : State) : (modThm f s).role = s.role := rfl
@[simp] theorem modThm_boot (f) (s : State) : (modThm f s).boot = s.boot := rfl
@[simp] theorem modThm_csp (f) (s : State) : (modThm f s).csp = s.csp := rfl
@[simp] theorem modThm_tel (f) (s : State) : (modThm f s).tel = s.tel := rfl
@[simp] theorem modThm_ident (f) (s : State) : (modThm f s).ident = s.ident := rfl
@[simp] theorem modThm_pins (f) (s : State) : (modThm f s).pins = s.pins := rfl
@[simp] theorem modThm_out (f) (s : State) : (modThm f s).out = s.out := rfl

@[simp] theorem modGaf_part (f) (s : State) : (modGaf f s).part = s.part := rfl
@[simp] theorem modGaf_now (f) (s : State) : (modGaf f s).now = s.now := rfl
@[simp] theorem modGaf_pending (f) (s : State) : (modGaf f s).pending = s.pending := rfl
@[simp] theorem modGaf_tc (f) (s : State) : (modGaf f s).tc = s.tc := rfl
@[simp] theorem modGaf_slu (f) (s : State) : (modGaf f s).slu = s.slu := rfl
@[simp] theorem modGaf_mrc (f) (s : State) : (modGaf f s).mrc = s.mrc := rfl
@[simp] theorem modGaf_mem (f) (s : State) : (modGaf f s).mem = s.mem := rfl
@[simp] theorem modGaf_blk (f) (s : State) : (modGaf f s).blk = s.blk := rfl
@[simp] theorem modGaf_mpd (f) (s : State) : (modGaf f s).mpd = s.mpd := rfl
@[simp] theorem modGaf_grp (f) (s : State) : (modGaf f s).grp = s.grp := rfl
@[simp] theorem modGaf_mst (f) (s : State) : (modGaf f s).mst = s.mst := rfl
@[simp] theorem modGaf_tsi (f) (s : State) : (modGaf f s).tsi = s.tsi := rfl
@[simp] theorem modGaf_pod (f) (s : State) : (modGaf f s).pod = s.pod := rfl
@[simp] theorem modGaf_foc (f) (s : State) : (modGaf f s).foc = s.foc := rfl
@[simp] theorem modGaf_thm (f) (s : State) : (modGaf f s).thm = s.thm := rfl
@[simp] theorem modGaf_gaf (f) (s : State) : (modGaf f s).gaf = f s.gaf := rfl
@[simp] theorem modGaf_flt (f) (s : State) : (modGaf f s).flt = s.flt := rfl
@[simp] theorem modGaf_pair (f) (s : State) : (modGaf f s).pair = s.pair := rfl
@[simp] theorem modGaf_role (f) (s : State) : (modGaf f s).role = s.role := rfl
@[simp] theorem modGaf_boot (f) (s : State) : (modGaf f s).boot = s.boot := rfl
@[simp] theorem modGaf_csp (f) (s : State) : (modGaf f s).csp = s.csp := rfl
@[simp] theorem modGaf_tel (f) (s : State) : (modGaf f s).tel = s.tel := rfl
@[simp] theorem modGaf_ident (f) (s : State) : (modGaf f s).ident = s.ident := rfl
@[simp] theorem modGaf_pins (f) (s : State) : (modGaf f s).pins = s.pins := rfl
@[simp] theorem modGaf_out (f) (s : State) : (modGaf f s).out = s.out := rfl

@[simp] theorem modFlt_part (f) (s : State) : (modFlt f s).part = s.part := rfl
@[simp] theorem modFlt_now (f) (s : State) : (modFlt f s).now = s.now := rfl
@[simp] theorem modFlt_pending (f) (s : State) : (modFlt f s).pending = s.pending := rfl
@[simp] theorem modFlt_tc (f) (s : State) : (modFlt f s).tc = s.tc := rfl
@[simp] theorem modFlt_slu (f) (s : State) : (modFlt f s).slu = s.slu := rfl
@[simp] theorem modFlt_mrc (f) (s : State) : (modFlt f s).mrc = s.mrc := rfl
@[simp] theorem modFlt_mem (f) (s : State) : (modFlt f s).mem = s.mem := rfl
@[simp] theorem modFlt_blk (f) (s : State) : (modFlt f s).blk = s.blk := rfl
@[simp] theorem modFlt_mpd (f) (s : State) : (modFlt f s).mpd = s.mpd := rfl
@[simp] theorem modFlt_grp (f) (s : State) : (modFlt f s).grp = s.grp := rfl
@[simp] theorem modFlt_mst (f) (s : State) : (modFlt f s).mst = s.mst := rfl
@[simp] theorem modFlt_tsi (f) (s : State) : (modFlt f s).tsi = s.tsi := rfl
@[simp] theorem modFlt_pod (f) (s : State) : (modFlt f s).pod = s.pod := rfl
@[simp] theorem modFlt_foc (f) (s : State) : (modFlt f s).foc = s.foc := rfl
@[simp] theorem modFlt_thm (f) (s : State) : (modFlt f s).thm = s.thm := rfl
@[simp] theorem modFlt_gaf (f) (s : State) : (modFlt f s).gaf = s.gaf := rfl
@[simp] theorem modFlt_flt (f) (s : State) : (modFlt f s).flt = f s.flt := rfl
@[simp] theorem modFlt_pair (f) (s : State) : (modFlt f s).pair = s.pair := rfl
@[simp] theorem modFlt_role (f) (s : State) : (modFlt f s).role = s.role := rfl
@[simp] theorem modFlt_boot (f) (s : State) : (modFlt f s).boot = s.boot := rfl
@[simp] theorem modFlt_csp (f) (s : State) : (modFlt f s).csp = s.csp := rfl
@[simp] theorem modFlt_tel (f) (s : State) : (modFlt f s).tel = s.tel := rfl
@[simp] theorem modFlt_ident (f) (s : State) : (modFlt f s).ident = s.ident := rfl
@[simp] theorem modFlt_pins (f) (s : State) : (modFlt f s).pins = s.pins := rfl
@[simp] theorem modFlt_out (f) (s : State) : (modFlt f s).out = s.out := rfl

@[simp] theorem modPair_part (f) (s : State) : (modPair f s).part = s.part := rfl
@[simp] theorem modPair_now (f) (s : State) : (modPair f s).now = s.now := rfl
@[simp] theorem modPair_pending (f) (s : State) : (modPair f s).pending = s.pending := rfl
@[simp] theorem modPair_tc (f) (s : State) : (modPair f s).tc = s.tc := rfl
@[simp] theorem modPair_slu (f) (s : State) : (modPair f s).slu = s.slu := rfl
@[simp] theorem modPair_mrc (f) (s : State) : (modPair f s).mrc = s.mrc := rfl
@[simp] theorem modPair_mem (f) (s : State) : (modPair f s).mem = s.mem := rfl
@[simp] theorem modPair_blk (f) (s : State) : (modPair f s).blk = s.blk := rfl
@[simp] theorem modPair_mpd (f) (s : State) : (modPair f s).mpd = s.mpd := rfl
@[simp] theorem modPair_grp (f) (s : State) : (modPair f s).grp = s.grp := rfl
@[simp] theorem modPair_mst (f) (s : State) : (modPair f s).mst = s.mst := rfl
@[simp] theorem modPair_tsi (f) (s : State) : (modPair f s).tsi = s.tsi := rfl
@[simp] theorem modPair_pod (f) (s : State) : (modPair f s).pod = s.pod := rfl
@[simp] theorem modPair_foc (f) (s : State) : (modPair f s).foc = s.foc := rfl
@[simp] theorem modPair_thm (f) (s : State) : (modPair f s).thm = s.thm := rfl
@[simp] theorem modPair_gaf (f) (s : State) : (modPair f s).gaf = s.gaf := rfl
@[simp] theorem modPair_flt (f) (s : State) : (modPair f s).flt = s.flt := rfl
@[simp] theorem modPair_pair (f) (s : State) : (modPair f s).pair = f s.pair := rfl
@[simp] theorem modPair_role (f) (s : State) : (modPair f s).role = s.role := rfl
@[simp] theorem modPair_boot (f) (s : State) : (modPair f s).boot = s.boot := rfl
@[simp] theorem modPair_csp (f) (s : State) : (modPair f s).csp = s.csp := rfl
@[simp] theorem modPair_tel (f) (s : State) : (modPair f s).tel = s.tel := rfl
@[simp] theorem modPair_ident (f) (s : State) : (modPair f s).ident = s.ident := rfl
@[simp] theorem modPair_pins (f) (s : State) : (modPair f s).pins = s.pins := rfl
@[simp] theorem modPair_out (f) (s : State) : (modPair f s).out = s.out := rfl

@[simp] theorem modRole_part (f) (s : State) : (modRole f s).part = s.part := rfl
@[simp] theorem modRole_now (f) (s : State) : (modRole f s).now = s.now := rfl
@[simp] theorem modRole_pending (f) (s : State) : (modRole f s).pending = s.pending := rfl
@[simp] theorem modRole_tc (f) (s : State) : (modRole f s).tc = s.tc := rfl
@[simp] theorem modRole_slu (f) (s : State) : (modRole f s).slu = s.slu := rfl
@[simp] theorem modRole_mrc (f) (s : State) : (modRole f s).mrc = s.mrc := rfl
@[simp] theorem modRole_mem (f) (s : State) : (modRole f s).mem = s.mem := rfl
@[simp] theorem modRole_blk (f) (s : State) : (modRole f s).blk = s.blk := rfl
@[simp] theorem modRole_mpd (f) (s : State) : (modRole f s).mpd = s.mpd := rfl
@[simp] theorem modRole_grp (f) (s : State) : (modRole f s).grp = s.grp := rfl
@[simp] theorem modRole_mst (f) (s : State) : (modRole f s).mst = s.mst := rfl
@[simp] theorem modRole_tsi (f) (s : State) : (modRole f s).tsi = s.tsi := rfl
@[simp] theorem modRole_pod (f) (s : State) : (modRole f s).pod = s.pod := rfl
@[simp] theorem modRole_foc (f) (s : State) : (modRole f s).foc = s.foc := rfl
@[simp] theorem modRole_thm (f) (s : State) : (modRole f s).thm = s.thm := rfl
@[simp] theorem modRole_gaf (f) (s : State) : (modRole f s).gaf = s.gaf := rfl
@[simp] theorem modRole_flt (f) (s : State) : (modRole f s).flt = s.flt := rfl
@[simp] theorem modRole_pair (f) (s : State) : (modRole f s).pair = s.pair := rfl
@[simp] theorem modRole_role (f) (s : State) : (modRole f s).role = f s.role := rfl
@[simp] theorem modRole_boot (f) (s : State) : (modRole f s).boot = s.boot := rfl
@[simp] theorem modRole_csp (f) (s : State) : (modRole f s).csp = s.csp := rfl
@[simp] theorem modRole_tel (f) (s : State) : (modRole f s).tel = s.tel := rfl
@[simp] theorem modRole_ident (f) (s : State) : (modRole f s).ident = s.ident := rfl
@[simp] theorem modRole_pins (f) (s : State) : (modRole f s).pins = s.pins := rfl
@[simp] theorem modRole_out (f) (s : State) : (modRole f s).out = s.out := rfl

@[simp] theorem modBoot_part (f) (s : State) : (modBoot f s).part = s.part := rfl
@[simp] theorem modBoot_now (f) (s : State) : (modBoot f s).now = s.now := rfl
@[simp] theorem modBoot_pending (f) (s : State) : (modBoot f s).pending = s.pending := rfl
@[simp] theorem modBoot_tc (f) (s : State) : (modBoot f s).tc = s.tc := rfl
@[simp] theorem modBoot_slu (f) (s : State) : (modBoot f s).slu = s.slu := rfl
@[simp] theorem modBoot_mrc (f) (s : State) : (modBoot f s).mrc = s.mrc := rfl
@[simp] theorem modBoot_mem (f) (s : State) : (modBoot f s).mem = s.mem := rfl
@[simp] theorem modBoot_blk (f) (s : State) : (modBoot f s).blk = s.blk := rfl
@[simp] theorem modBoot_mpd (f) (s : State) : (modBoot f s).mpd = s.mpd := rfl
@[simp] theorem modBoot_grp (f) (s : State) : (modBoot f s).grp = s.grp := rfl
@[simp] theorem modBoot_mst (f) (s : State) : (modBoot f s).mst = s.mst := rfl
@[simp] theorem modBoot_tsi (f) (s : State) : (modBoot f s).tsi = s.tsi := rfl
@[simp] theorem modBoot_pod (f) (s : State) : (modBoot f s).pod = s.pod := rfl
@[simp] theorem modBoot_foc (f) (s : State) : (modBoot f s).foc = s.foc := rfl
@[simp] theorem modBoot_thm (f) (s : State) : (modBoot f s).thm = s.thm := rfl
@[simp] theorem modBoot_gaf (f) (s : State) : (modBoot f s).gaf = s.gaf := rfl
@[simp] theorem modBoot_flt (f) (s : State) : (modBoot f s).flt = s.flt := rfl
@[simp] theorem modBoot_pair (f) (s : State) : (modBoot f s).pair = s.pair := rfl
@[simp] theorem modBoot_role (f) (s : State) : (modBoot f s).role = s.role := rfl
@[simp] theorem modBoot_boot (f) (s : State) : (modBoot f s).boot = f s.boot := rfl
@[simp] theorem modBoot_csp (f) (s : State) : (modBoot f s).csp = s.csp := rfl
@[simp] theorem modBoot_tel (f) (s : State) : (modBoot f s).tel = s.tel := rfl
@[simp] theorem modBoot_ident (f) (s : State) : (modBoot f s).ident = s.ident := rfl
@[simp] theorem modBoot_pins (f) (s : State) : (modBoot f s).pins = s.pins := rfl
@[simp] theorem modBoot_out (f) (s : State) : (modBoot f s).out = s.out := rfl

@[simp] theorem modCsp_part (f) (s : State) : (modCsp f s).part = s.part := rfl
@[simp] theorem modCsp_now (f) (s : State) : (modCsp f s).now = s.now := rfl
@[simp] theorem modCsp_pending (f) (s : State) : (modCsp f s).pending = s.pending := rfl
@[simp] theorem modCsp_tc (f) (s : State) : (modCsp f s).tc = s.tc := rfl
@[simp] theorem modCsp_slu (f) (s : State) : (modCsp f s).slu = s.slu := rfl
@[simp] theorem modCsp_mrc (f) (s : State) : (modCsp f s).mrc = s.mrc := rfl
@[simp] theorem modCsp_mem (f) (s : State) : (modCsp f s).mem = s.mem := rfl
@[simp] theorem modCsp_blk (f) (s : State) : (modCsp f s).blk = s.blk := rfl
@[simp] theorem modCsp_mpd (f) (s : State) : (modCsp f s).mpd = s.mpd := rfl
@[simp] theorem modCsp_grp (f) (s : State) : (modCsp f s).grp = s.grp := rfl
@[simp] theorem modCsp_mst (f) (s : State) : (modCsp f s).mst = s.mst := rfl
@[simp] theorem modCsp_tsi (f) (s : State) : (modCsp f s).tsi = s.tsi := rfl
@[simp] theorem modCsp_pod (f) (s : State) : (modCsp f s).pod = s.pod := rfl
@[simp] theorem modCsp_foc (f) (s : State) : (modCsp f s).foc = s.foc := rfl
@[simp] theorem modCsp_thm (f) (s : State) : (modCsp f s).thm = s.thm := rfl
@[simp] theorem modCsp_gaf (f) (s : State) : (modCsp f s).gaf = s.gaf := rfl
@[simp] theorem modCsp_flt (f) (s : State) : (modCsp f s).flt = s.flt := rfl
@[simp] theorem modCsp_pair (f) (s : State) : (modCsp f s).pair = s.pair := rfl
@[simp] theorem modCsp_role (f) (s : State) : (modCsp f s).role = s.role := rfl
@[simp] theorem modCsp_boot (f) (s : State) : (modCsp f s).boot = s.boot := rfl
@[simp] theorem modCsp_csp (f) (s : State) : (modCsp f s).csp = f s.csp := rfl
@[simp] theorem modCsp_tel (f) (s : State) : (modCsp f s).tel = s.tel := rfl
@[simp] theorem modCsp_ident (f) (s : State) : (modCsp f s).ident = s.ident := rfl
@[simp] theorem modCsp_pins (f) (s : State) : (modCsp f s).pins = s.pins := rfl
@[simp] theorem modCsp_out (f) (s : State) : (modCsp f s).out = s.out := rfl

@[simp] theorem modTel_part (f) (s : State) : (modTel f s).part = s.part := rfl
@[simp] theorem modTel_now (f) (s : State) : (modTel f s).now = s.now := rfl
@[simp] theorem modTel_pending (f) (s : State) : (modTel f s).pending = s.pending := rfl
@[simp] theorem modTel_tc (f) (s : State) : (modTel f s).tc = s.tc := rfl
@[simp] theorem modTel_slu (f) (s : State) : (modTel f s).slu = s.slu := rfl
@[simp] theorem modTel_mrc (f) (s : State) : (modTel f s).mrc = s.mrc := rfl
@[simp] theorem modTel_mem (f) (s : State) : (modTel f s).mem = s.mem := rfl
@[simp] theorem modTel_blk (f) (s : State) : (modTel f s).blk = s.blk := rfl
@[simp] theorem modTel_mpd (f) (s : State) : (modTel f s).mpd = s.mpd := rfl
@[simp] theorem modTel_grp (f) (s : State) : (modTel f s).grp = s.grp := rfl
@[simp] theorem modTel_mst (f) (s : State) : (modTel f s).mst = s.mst := rfl
@[simp] theorem modTel_tsi (f) (s : State) : (modTel f s).tsi = s.tsi := rfl
@[simp] theorem modTel_pod (f) (s : State) : (modTel f s).pod = s.pod := rfl
@[simp] theorem modTel_foc (f) (s : State) : (modTel f s).foc = s.foc := rfl
@[simp] theorem modTel_thm (f) (s : State) : (modTel f s).thm = s.thm := rfl
@[simp] theorem modTel_gaf (f) (s : State) : (modTel f s).gaf = s.gaf := rfl
@[simp] theorem modTel_flt (f) (s : State) : (modTel f s).flt = s.flt := rfl
@[simp] theorem modTel_pair (f) (s : State) : (modTel f s).pair = s.pair := rfl
@[simp] theorem modTel_role (f) (s : State) : (modTel f s).role = s.role := rfl
@[simp] theorem modTel_boot (f) (s : State) : (modTel f s).boot = s.boot := rfl
@[simp] theorem modTel_csp (f) (s : State) : (modTel f s).csp = s.csp := rfl
@[simp] theorem modTel_tel (f) (s : State) : (modTel f s).tel = f s.tel := rfl
@[simp] theorem modTel_ident (f) (s : State) : (modTel f s).ident = s.ident := rfl
@[simp] theorem modTel_pins (f) (s : State) : (modTel f s).pins = s.pins := rfl
@[simp] theorem modTel_out (f) (s : State) : (modTel f s).out = s.out := rfl

@[simp] theorem modIdent_part (f) (s : State) : (modIdent f s).part = s.part := rfl
@[simp] theorem modIdent_now (f) (s : State) : (modIdent f s).now = s.now := rfl
@[simp] theorem modIdent_pending (f) (s : State) : (modIdent f s).pending = s.pending := rfl
@[simp] theorem modIdent_tc (f) (s : State) : (modIdent f s).tc = s.tc := rfl
@[simp] theorem modIdent_slu (f) (s : State) : (modIdent f s).slu = s.slu := rfl
@[simp] theorem modIdent_mrc (f) (s : State) : (modIdent f s).mrc = s.mrc := rfl
@[simp] theorem modIdent_mem (f) (s : State) : (modIdent f s).mem = s.mem := rfl
@[simp] theorem modIdent_blk (f) (s : State) : (modIdent f s).blk = s.blk := rfl
@[simp] theorem modIdent_mpd (f) (s : State) : (modIdent f s).mpd = s.mpd := rfl
@[simp] theorem modIdent_grp (f) (s : State) : (modIdent f s).grp = s.grp := rfl
@[simp] theorem modIdent_mst (f) (s : State) : (modIdent f s).mst = s.mst := rfl
@[simp] theorem modIdent_tsi (f) (s : State) : (modIdent f s).tsi = s.tsi := rfl
@[simp] theorem modIdent_pod (f) (s : State) : (modIdent f s).pod = s.pod := rfl
@[simp] theorem modIdent_foc (f) (s : State) : (modIdent f s).foc = s.foc := rfl
@[simp] theorem modIdent_thm (f) (s : State) : (modIdent f s).thm = s.thm := rfl
@[simp] theorem modIdent_gaf (f) (s : State) : (modIdent f s).gaf = s.gaf := rfl
@[simp] theorem modIdent_flt (f) (s : State) : (modIdent f s).flt = s.flt := rfl
@[simp] theorem modIdent_pair (f) (s : State) : (modIdent f s).pair = s.pair := rfl
@[simp] theorem modIdent_role (f) (s : State) : (modIdent f s).role = s.role := rfl
@[simp] theorem modIdent_boot (f) (s : State) : (modIdent f s).boot = s.boot := rfl
@[simp] theorem modIdent_csp (f) (s : State) : (modIdent f s).csp = s.csp := rfl
@[simp] theorem modIdent_tel (f) (s : State) : (modIdent f s).tel = s.tel := rfl
@[simp] theorem modIdent_ident (f) (s : State) : (modIdent f s).ident = f s.ident := rfl
@[simp] theorem modIdent_pins (f) (s : State) : (modIdent f s).pins = s.pins := rfl
@[simp] theorem modIdent_out (f) (s : State) : (modIdent f s).out = s.out := rfl

@[simp] theorem modPins_part (f) (s : State) : (modPins f s).part = s.part := rfl
@[simp] theorem modPins_now (f) (s : State) : (modPins f s).now = s.now := rfl
@[simp] theorem modPins_pending (f) (s : State) : (modPins f s).pending = s.pending := rfl
@[simp] theorem modPins_tc (f) (s : State) : (modPins f s).tc = s.tc := rfl
@[simp] theorem modPins_slu (f) (s : State) : (modPins f s).slu = s.slu := rfl
@[simp] theorem modPins_mrc (f) (s : State) : (modPins f s).mrc = s.mrc := rfl
@[simp] theorem modPins_mem (f) (s : State) : (modPins f s).mem = s.mem := rfl
@[simp] theorem modPins_blk (f) (s : State) : (modPins f s).blk = s.blk := rfl
@[simp] theorem modPins_mpd (f) (s : State) : (modPins f s).mpd = s.mpd := rfl
@[simp] theorem modPins_grp (f) (s : State) : (modPins f s).grp = s.grp := rfl
@[simp] theorem modPins_mst (f) (s : State) : (modPins f s).mst = s.mst := rfl
@[simp] theorem modPins_tsi (f) (s : State) : (modPins f s).tsi = s.tsi := rfl
@[simp] theorem modPins_pod (f) (s : State) : (modPins f s).pod = s.pod := rfl
@[simp] theorem modPins_foc (f) (s : State) : (modPins f s).foc = s.foc := rfl
@[simp] theorem modPins_thm (f) (s : State) : (modPins f s).thm = s.thm := rfl
@[simp] theorem modPins_gaf (f) (s : State) : (modPins f s).gaf = s.gaf := rfl
@[simp] theorem modPins_flt (f) (s : State) : (modPins f s).flt = s.flt := rfl
@[simp] theorem modPins_pair (f) (s : State) : (modPins f s).pair = s.pair := rfl
@[simp] theorem modPins_role (f) (s : State) : (modPins f s).role = s.role := rfl
@[simp] theorem modPins_boot (f) (s : State) : (modPins f s).boot = s.boot := rfl
@[simp] theorem modPins_csp (f) (s : State) : (modPins f s).csp = s.csp := rfl
@[simp] theorem modPins_tel (f) (s : State) : (modPins f s).tel = s.tel := rfl
@[simp] theorem modPins_ident (f) (s : State) : (modPins f s).ident = s.ident := rfl
@[simp] theorem modPins_pins (f) (s : State) : (modPins f s).pins = f s.pins := rfl
@[simp] theorem modPins_out (f) (s : State) : (modPins f s).out = s.out := rfl

@[simp] theorem modSite_part (n : Nat) (f) (s : State) : (modSite n f s).part = s.part := rfl
@[simp] theorem modSite_now (n : Nat) (f) (s : State) : (modSite n f s).now = s.now := rfl
@[simp] theorem modSite_pending (n : Nat) (f) (s : State) : (modSite n f s).pending = s.pending := rfl
@[simp] theorem modSite_tc (n : Nat) (f) (s : State) : (modSite n f s).tc = s.tc := rfl
@[simp] theorem modSite_slu (n : Nat) (f) (s : State) : (modSite n f s).slu = s.slu := rfl
@[simp] theorem modSite_mrc (n : Nat) (f) (s : State) : (modSite n f s).mrc = s.mrc := rfl
@[simp] theorem modSite_mem (n : Nat) (f) (s : State) : (modSite n f s).mem = s.mem := rfl
@[simp] theorem modSite_blk (n : Nat) (f) (s : State) : (modSite n f s).blk = s.blk := rfl
@[simp] theorem modSite_mpd (n : Nat) (f) (s : State) : (modSite n f s).mpd = s.mpd := rfl
@[simp] theorem modSite_grp (n : Nat) (f) (s : State) : (modSite n f s).grp = s.grp := rfl
@[simp] theorem modSite_mst (n : Nat) (f) (s : State) : (modSite n f s).mst = s.mst := rfl
@[simp] theorem modSite_tsi (n : Nat) (f) (s : State) : (modSite n f s).tsi = tupd {} s.tsi n f := rfl
@[simp] theorem modSite_pod (n : Nat) (f) (s : State) : (modSite n f s).pod = s.pod := rfl
@[simp] theorem modSite_foc (n : Nat) (f) (s : State) : (modSite n f s).foc = s.foc := rfl
@[simp] theorem modSite_thm (n : Nat) (f) (s : State) : (modSite n f s).thm = s.thm := rfl
@[simp] theorem modSite_gaf (n : Nat) (f) (s : State) : (modSite n f s).gaf = s.gaf := rfl
@[simp] theorem modSite_flt (n : Nat) (f) (s : State) : (modSite n f s).flt = s.flt := rfl
@[simp] theorem modSite_pair (n : Nat) (f) (s : State) : (modSite n f s).pair = s.pair := rfl
@[simp] theorem modSite_role (n : Nat) (f) (s : State) : (modSite n f s).role = s.role := rfl
@[simp] theorem modSite_boot (n : Nat) (f) (s : State) : (modSite n f s).boot = s.boot := rfl
@[simp] theorem modSite_csp (n : Nat) (f) (s : State) : (modSite n f s).csp = s.csp := rfl
@[simp] theorem modSite_tel (n : Nat) (f) (s : State) : (modSite n f s).tel = s.tel := rfl
@[simp] theorem modSite_ident (n : Nat) (f) (s : State) : (modSite n f s).ident = s.ident := rfl
@[simp] theorem modSite_pins (n : Nat) (f) (s : State) : (modSite n f s).pins = s.pins := rfl
@[simp] theorem modSite_out (n : Nat) (f) (s : State) : (modSite n f s).out = s.out := rfl

@[simp] theorem emit_part (m : OutMsg) (s : State) : (emit m s).part = s.part := rfl
@[simp] theorem emit_now (m : OutMsg) (s : State) : (emit m s).now = s.now := rfl
@[simp] theorem emit_pending (m : OutMsg) (s : State) : (emit m s).pending = s.pending := rfl
@[simp] theorem emit_tc (m : OutMsg) (s : State) : (emit m s).tc = s.tc := rfl
@[simp] theorem emit_slu (m : OutMsg) (s : State) : (emit m s).slu = s.slu := rfl
@[simp] theorem emit_mrc (m : OutMsg) (s : State) : (emit m s).mrc = s.mrc := rfl
@[simp] theorem emit_mem (m : OutMsg) (s : State) : (emit m s).mem = s.mem := rfl
@[simp] theorem emit_blk (m : OutMsg) (s : State) : (emit m s).blk = s.blk := rfl
@[simp] theorem emit_mpd (m : OutMsg) (s : State) : (emit m s).mpd = s.mpd := rfl
@[simp] theorem emit_grp (m : OutMsg) (s : State) : (emit m s).grp = s.grp := rfl
@[simp] theorem emit_mst (m : OutMsg) (s : State) : (emit m s).mst = s.mst := rfl
@[simp] theorem emit_tsi (m : OutMsg) (s : State) : (emit m s).tsi = s.tsi := rfl
@[simp] theorem emit_pod (m : OutMsg) (s : State) : (emit m s).pod = s.pod := rfl
@[simp] theorem emit_foc (m : OutMsg) (s : State) : (emit m s).foc = s.foc := rfl
@[simp] theorem emit_thm (m : OutMsg) (s : State) : (emit m s).thm = s.thm := rfl
@[simp] theorem emit_gaf (m : OutMsg) (s : State) : (emit m s).gaf = s.gaf := rfl
@[simp] theorem emit_flt (m : OutMsg) (s : State) : (emit m s).flt = s.flt := rfl
@[simp] theorem emit_pair (m : OutMsg) (s : State) : (emit m s).pair = s.pair := rfl
@[simp] theorem emit_role (m : OutMsg) (s : State) : (emit m s).role = s.role := rfl
@[simp] theorem emit_boot (m : OutMsg) (s : State) : (emit m s).boot = s.boot := rfl
@[simp] theorem emit_csp (m : OutMsg) (s : State) : (emit m s).csp = s.csp := rfl
@[simp] theorem emit_tel (m : OutMsg) (s : State) : (emit m s).tel = s.tel := rfl
@[simp] theorem emit_ident (m : OutMsg) (s : State) : (emit m s).ident = s.ident := rfl
@[simp] theorem emit_pins (m : OutMsg) (s : State) : (emit m s).pins = s.pins := rfl
@[simp] theorem emit_out (m : OutMsg) (s : State) : (emit m s).out = m :: s.out := rfl

@[simp] theorem sendFault_part (m : FaultMsg) (s : State) : (sendFault m s).part = s.part := rfl
@[simp] theorem sendFault_now (m : FaultMsg) (s : State) : (sendFault m s).now = s.now := rfl
@[simp] theorem sendFault_pending (m : FaultMsg) (s : State) : (sendFault m s).pending = s.pending := rfl
@[simp] theorem sendFault_tc (m : FaultMsg) (s : State) : (sendFault m s).tc = s.tc := rfl
@[simp] theorem sendFault_slu (m : FaultMsg) (s : State) : (sendFault m s).slu = s.slu := rfl
@[simp] theorem sendFault_mrc (m : FaultMsg) (s : State) : (sendFault m s).mrc = s.mrc := rfl
@[simp] theorem sendFault_mem (m : FaultMsg) (s : State) : (sendFault m s).mem = s.mem := rfl
@[simp] theorem sendFault_blk (m : FaultMsg) (s : State) : (sendFault m s).blk = s.blk := rfl
@[simp] theorem sendFault_mpd (m : FaultMsg) (s : State) : (sendFault m s).mpd = s.mpd := rfl
@[simp] theorem sendFault_grp (m : FaultMsg) (s : State) : (sendFault m s).grp = s.grp := rfl
@[simp] theorem sendFault_mst (m : FaultMsg) (s : State) : (sendFault m s).mst = s.mst := rfl
@[simp] theorem sendFault_tsi (m : FaultMsg) (s : State) : (sendFault m s).tsi = s.tsi := rfl
@[simp] theorem sendFault_pod (m : FaultMsg) (s : State) : (sendFault m s).pod = s.pod := rfl
@[simp] theorem sendFault_foc (m : FaultMsg) (s : State) : (sendFault m s).foc = s.foc := rfl
@[simp] theorem sendFault_thm (m : FaultMsg) (s : State) : (sendFault m s).thm = s.thm := rfl
@[simp] theorem sendFault_gaf (m : FaultMsg) (s : State) : (sendFault m s).gaf = s.gaf := rfl
@[simp] theorem sendFault_flt (m : FaultMsg) (s : State) : (sendFault m s).flt = { s.flt with net := s.flt.net ++ [m] } := rfl
@[simp] theorem sendFault_pair (m : FaultMsg) (s : State) : (sendFault m s).pair = s.pair := rfl
@[simp] theorem sendFault_role (m : FaultMsg) (s : State) : (sendFault m s).role = s.role := rfl
@[simp] theorem sendFault_boot (m : FaultMsg) (s : State) : (sendFault m s).boot = s.boot := rfl
@[simp] theorem sendFault_csp (m : FaultMsg) (s : State) : (sendFault m s).csp = s.csp := rfl
@[simp] theorem sendFault_tel (m : FaultMsg) (s : State) : (sendFault m s).tel = s.tel := rfl
@[simp] theorem sendFault_ident (m : FaultMsg) (s : State) : (sendFault m s).ident = s.ident := rfl
@[simp] theorem sendFault_pins (m : FaultMsg) (s : State) : (sendFault m s).pins = s.pins := rfl
@[simp] theorem sendFault_out (m : FaultMsg) (s : State) : (sendFault m s).out = s.out := rfl

@[simp] theorem enterSafe_part (s : State) : (enterSafe s).part = s.part := rfl
@[simp] theorem enterSafe_now (s : State) : (enterSafe s).now = s.now := rfl
@[simp] theorem enterSafe_pending (s : State) : (enterSafe s).pending = s.pending := rfl
@[simp] theorem enterSafe_tc (s : State) : (enterSafe s).tc = s.tc := rfl
@[simp] theorem enterSafe_slu (s : State) : (enterSafe s).slu = s.slu := rfl
@[simp] theorem enterSafe_mrc (s : State) : (enterSafe s).mrc = s.mrc := rfl
@[simp] theorem enterSafe_mem (s : State) : (enterSafe s).mem = s.mem := rfl
@[simp] theorem enterSafe_blk (s : State) : (enterSafe s).blk = s.blk := rfl
@[simp] theorem enterSafe_mpd (s : State) : (enterSafe s).mpd = s.mpd := rfl
@[simp] theorem enterSafe_grp (s : State) : (enterSafe s).grp = s.grp := rfl
@[simp] theorem enterSafe_mst (s : State) : (enterSafe s).mst = s.mst := rfl
@[simp] theorem enterSafe_tsi (s : State) : (enterSafe s).tsi = s.tsi := rfl
@[simp] theorem enterSafe_pod (s : State) : (enterSafe s).pod = s.pod := rfl
@[simp] theorem enterSafe_foc (s : State) : (enterSafe s).foc = s.foc := rfl
@[simp] theorem enterSafe_thm (s : State) : (enterSafe s).thm = s.thm := rfl
@[simp] theorem enterSafe_gaf (s : State) : (enterSafe s).gaf = s.gaf := rfl
@[simp] theorem enterSafe_flt (s : State) : (enterSafe s).flt = { s.flt with safe := true, fatal := true } := rfl
@[simp] theorem enterSafe_pair (s : State) : (enterSafe s).pair = s.pair := rfl
@[simp] theorem enterSafe_role (s : State) : (enterSafe s).role = s.role := rfl
@[simp] theorem enterSafe_boot (s : State) : (enterSafe s).boot = s.boot := rfl
@[simp] theorem enterSafe_csp (s : State) : (enterSafe s).csp = s.csp := rfl
@[simp] theorem enterSafe_tel (s : State) : (enterSafe s).tel = s.tel := rfl
@[simp] theorem enterSafe_ident (s : State) : (enterSafe s).ident = s.ident := rfl
@[simp] theorem enterSafe_pins (s : State) : (enterSafe s).pins = { s.pins with siteRstHigh := [], lsEn := false, faultN := false } := rfl
@[simp] theorem enterSafe_out (s : State) : (enterSafe s).out = s.out := rfl

/-! ### What a message does -/

/-- A message that is not fatal only joins the network. -/
theorem raise_mild {k : FaultKind} (h : kindSev k ≠ 3) (b i a : Nat) (s : State) :
    raise k b i a s = sendFault (mkMsg s k b i a) s := by
  unfold raise
  simp only [h, if_false]

/-- A fatal message brings safe state at once. -/
theorem raise_fatal {k : FaultKind} (h : kindSev k = 3) (b i a : Nat) (s : State) :
    raise k b i a s = enterSafe (sendFault (mkMsg s k b i a) s) := by
  unfold raise
  simp only [h, if_true]

/-- The step takes the front command. -/
theorem step_front (c : Instr) (cs : List Instr) (s : State) (h : s.pending = c :: cs) : step s = exec c { s with pending := cs } := by
  unfold step
  rw [h]

end Sys2Proof.Machine
end

