-- ==== Sys2Proof/Laws/Tables.lean ====
section
/-! SUPPORT. Reading a table after writing an entry of it (State's canonical tables). A write of a value that is not the
default reads back, and leaves the entries of other keys as they were, whatever the table holds. -/

namespace Sys2Proof.Machine

open Sys2Proof

theorem tget_tset_self {α : Type} [DecidableEq α] {d : α} (t : Tab α) (i : Nat) {v : α} (h : v ≠ d) :
    tget d (tset d t i v) i = v := by
  induction t with
  | nil => simp [tset, h, tget]
  | cons a t ih =>
    simp only [tset]
    split
    · simp [h, tget]
    · split
      · simp [h, tget]
      · simp [tget, *]

theorem tget_tset_other {α : Type} [DecidableEq α] {d : α} (t : Tab α) (i j : Nat) {v : α} (h : v ≠ d) (hj : j ≠ i) :
    tget d (tset d t i v) j = tget d t j := by
  induction t with
  | nil =>
    simp only [tset, h, tget, hj, ↓reduceIte]
    split <;> rfl
  | cons a t ih =>
    simp only [tset]
    split
    · simp only [h, ↓reduceIte, tget, hj]
      split
      · split
        · omega
        · split
          · rfl
          · omega
      · rfl
    · split
      · simp only [h, ↓reduceIte, tget]
        have : ¬ j = a.1 := by omega
        simp [hj, this, *]
      · simp [tget, ih]

theorem tget_tupd_self {α : Type} [DecidableEq α] {d : α} (t : Tab α) (i : Nat) {f : α → α} (h : f (tget d t i) ≠ d) :
    tget d (tupd d t i f) i = f (tget d t i) := tget_tset_self t i h

theorem tget_tupd_other {α : Type} [DecidableEq α] {d : α} (t : Tab α) (i j : Nat) {f : α → α} (h : f (tget d t i) ≠ d) (hj : j ≠ i) :
    tget d (tupd d t i f) j = tget d t j := tget_tset_other t i j h hj

end Sys2Proof.Machine
end

