-- ==== Sys2Proof/Tests/Live.lean ====
section
/-! SUPPORT. A small running state and a few operands, from which the tests build their witnesses. -/

namespace Sys2Proof.Tests

open Sys2Proof Sys2Proof.Machine

/-- A script that names a partner, a rack and one owner. -/
def script0 : Script :=
  { sequence := 1, serial := 0, variant := .s12, installerSigned := true, node := 1 }

/-- A pair section of a script. -/
def pairCfg0 : PairCfg :=
  { partner := 2, linkA := 0, linkB := 4, forerunner := true, scriptLead := true, window := 0, mask := 1,
    audience := [3], stateBase := 0 }

/-- A load of pool byte 0 by module 0 of site 0, as its home receives it. -/
def ldReq : MemReq := { req := { who := .site 0 0, op := .load, addr := 0 }, buf := 0 }

/-- The state once a home has taken a request. -/
def taken (q : MemReq) (s : State) : State := (accept (serveStation s q) q s).getD s

/-- A site in service with a full module each way and every feature agreed. -/
def site0 : SiteSt :=
  { st := 3, on := true, mods := [(0, { st := 1 }), (32, { st := 1 })], streamOut := [(0, 4)]
    neg := { revision := 0x0100, done := true, accepted := true, agreed := [(1, 0x82007), (2, 0xFFFFFFFF), (5, 0xC990), (6, 95)] } }

/-- A job of site 0, whose one window covers every node and offset. -/
def job1 : Job :=
  { words := [(0, 7), (1, 0x09010001), (4, 0x00040001), (5, 1), (8, 0xFFFF0000), (10, 0x3000000)], st := .running, tag := 3 }

/-- A table area of a reel store at a word: a header of one record of 512-tick frames, and every stage output off. -/
def tables (w bytes : Nat) : Tab Word32 :=
  [(w, 0x00050001), (w + 1, 9), (w + 2, 1), (w + 3, BitVec.ofNat 32 bytes)]
    ++ (List.range 54).map (fun i => (w + 0x12400 + i, 0xFFFFFFFF))

/-- The control record of context 0: a sum of site 0's contributions at one node, chunks of one group, no program, buffers
in bank 5. -/
def ctx0 : Tab Word32 :=
  [(0x1A0002, 0x00010001), (0x1A0004, 0x00010001), (0x1A0005, 1), (0x1A0006, 1), (0x1A0008, 0x50000), (0x1A0009, 1024)]
    ++ [(0x1A000A, 0x50400), (0x1A000B, 256), (0x1A000D, 0x50600), (0x1A0010, 0x0141C000), (0x1A0011, 0x00014000)]

/-- A reel store whose slots hold a reel of one record with 4 frames in which no station sends, and the record of
context 0. -/
def reel1 : Tab Word32 :=
  [(0x100006, 0x04000000), (0x140006, 0x04000000)] ++ ctx0 ++ tables 0x1C0000 32 ++ tables 0x1E0000 32

/-- The same with a record in slot 0 in which station 1 sends to station 2 on plane 0 from feed 0 to landing 0. -/
def reel2 : Tab Word32 :=
  [(0x100000, 0x40), (0x100006, 0x04000000), (0x100007, 1), (0x100008, 0x00040000), (0x100009, 0x90800000)]
    ++ tables 0x1C0000 40

/-- A base that has booted: an installer, an operator and a maker hold sessions 0, 1 and 2; site 0 and link 0 are in
service. -/
def live : State :=
  { State.reset with
    now := 10 ^ 15
    tc := { timecode := 0x38D7EA4C68000, fieldsAligned := true }
    boot := { phase := 12, ready := true, script := some script0 }
    role := { sessions := [(0, some { role := .installer }), (1, some { role := .operator }), (2, some { role := .maker })] }
    mem := { addressable := 384, cleared := true, stations := [(0, { st := 1 }), (1, { st := 1 })] }
    mpd := { cleared := true }
    tsi := [(0, site0)]
    pod := { links := [(0, { st := 2, map := 0xFFFF, hello := true, partnerNode := 2 })], route := [(1, { kind := 3 }), (2, { kind := 1 })] }
    foc := { focused := true, feeds := [(0, { role := 0, lit := true })] }
    slu := { store := reel1 }
    ident := { node := 1 }
    pins := { porN := true, pwrgd := true, coolantOk := true } }

/-- The same with a running job on site 0. -/
def liveJob : State := { live with role.jobs := [(1, job1)] }

/-- The same with a reel that runs, in its second frame. -/
def liveReel : State :=
  { live with tc.reel := .running, tc.frame := 1, tc.passStart := 10 ^ 15, tc.lastBoundary := 10 ^ 15, slu.store := reel2 }

/-- The home of pool byte 0 holds a request in its ordering queue. -/
def liveQueued (q : MemReq) : State := { live with mem.stations := [(homeOf live 0, { st := 1, queue := [q] })] }

/-- A station of the millpond holds a request in its receive buffer. -/
def liveHeld (q : MemReq) : State := { live with mrc.rx := [(pcKey 2 (serveStation live q) cREQ, [{ pay := .req q }])] }

end Sys2Proof.Tests
end

