-- ==== Sys2Proof/Tests/Drive.lean ====
section
/-! SUPPORT. A station whose rings all stand at one drive: the median drive of such a station, proved once so that no test
evaluates it. -/

namespace Sys2Proof.Tests

open Sys2Proof Sys2Proof.Machine

/-- Every ring of station 0 at a drive of `x`. -/
def liveDrive (x : Int) : State := { live with foc.elems := (List.range' 0 864).map fun e => (e, { fine := x }) }

/-- A table that maps every index of a range to one value. -/
theorem tget_const {α : Type} (d v : α) (i : Nat) : ∀ n a, a ≤ i → i < a + n → tget d ((List.range' a n).map fun e => (e, v)) i = v
  | 0, a, h, h' => by omega
  | n + 1, a, h, h' => by
    rw [List.range'_succ, List.map_cons, tget]
    split
    · rfl
    · rename_i k
      rw [if_neg (by omega)]
      exact tget_const d v i n (a + 1) (by omega) (by omega)

/-- Sorting equal values. -/
theorem sortI_const (x : Int) : ∀ xs : List Int, (∀ y ∈ xs, y = x) → sortI xs = List.replicate xs.length x
  | [], _ => rfl
  | y :: t, h => by
    obtain rfl := h y List.mem_cons_self
    rw [show sortI (y :: t) = insertI y (sortI t) from rfl, sortI_const y t fun z hz => h z (List.mem_cons_of_mem _ hz)]
    cases t with
    | nil => rfl
    | cons z t => simp [insertI, List.replicate_succ]

/-- The median drive of rings that all stand at `x`, doubled as `medianDrive2` gives it. -/
theorem median_const (x : Int) (h : 0 ≤ x ∧ x ≤ 16384) : medianDrive2 (liveDrive x) 0 = some (x + x).toNat := by
  have e (i : Nat) (hi : i < 864) : elemOf (liveDrive x) i = { fine := x } := tget_const _ _ i 864 0 (by omega) (by omega)
  have all : ∀ y ∈ (lockedRings (liveDrive x) 0).map (fun i => (driveOf (elemOf (liveDrive x) i) : Int)), y = x := by
    intro y hy
    obtain ⟨i, hi, rfl⟩ := List.mem_map.mp hy
    have hi := (List.mem_filter.mp hi).1
    obtain ⟨j, hj, rfl⟩ := List.mem_map.mp hi
    rw [e _ (by have := List.mem_range.mp hj; omega)]
    simp only [driveOf, clampI]
    simp
    omega
  have some_ : 128 ∈ lockedRings (liveDrive x) 0 := by
    refine List.mem_filter.mpr ⟨List.mem_map.mpr ⟨128, List.mem_range.mpr (by decide), rfl⟩, ?_⟩
    have k : elemKind (liveDrive x).part.variant 128 = some (.sluDrop 0 0) := show elemKind .s12 128 = _ from by decide +kernel
    have dk : elemDark (liveDrive x) (128 / 1024) (.sluDrop 0 0) = false := show elemDark live 0 (.sluDrop 0 0) = false from by decide +kernel
    have f : (liveDrive x).foc.focused = true := rfl
    simp [elemState, k, dk, f, e 128 (by decide)]
  dsimp only [medianDrive2]
  rw [sortI_const x _ all]
  generalize hn : (lockedRings (liveDrive x) 0).map (fun i => (driveOf (elemOf (liveDrive x) i) : Int)) = ds
  have pos : 0 < ds.length := by
    rw [← hn, List.length_map]
    exact List.length_pos_of_mem some_
  have ne : ds.isEmpty = false := by cases ds with
    | nil => exact absurd pos (by decide)
    | cons _ _ => rfl
  simp only [ne]
  have g (k : Nat) (hk : k < ds.length) : (List.replicate ds.length x).getD k 0 = x := by
    simp [List.getD, hk]
  simp only [middle2, List.length_replicate]
  rw [g _ (by omega), g _ (by omega)]
  rfl

end Sys2Proof.Tests
end

