-- ==== Sys2Proof/WellFormed.lean ====
section
/-! DEFINITION. Well-formed commands: every operand lies in the range of what it names. The indices are those of the largest
member of the family; what a smaller one lacks, the meanings read from the variant. -/

namespace Sys2Proof

/-- A path into control space: one of eight sessions, or a site (R420, R443). -/
def pathOk : Path → Bool
  | .session n => decide (n < 8)
  | .sideband site => decide (site < 12)
  | .mgt site => decide (site < 12)

/-- A flit has four slots, and a credit return of at most 15 for each of seven classes (R252, R255). -/
def flitOk (f : Flit) : Bool :=
  decide (f.slots.length ≤ 4) && decide (f.cred.length ≤ 7) && f.cred.all (fun n => decide (n < 16))

/-- The unit that issues a request exists in some member of the family. -/
def reqOk (r : IssueReq) : Bool :=
  (match r.who with
   | .site n module => decide (n < 12 ∧ module < 64)
   | .grip g => decide (g < 16)
   | .millstone w => decide (w < 4)
   | .engine => true
   | .remote node xs => decide (node < 65536 ∧ xs < 8)) && decide (r.job < 256)

/-- A receiver that asks for replay exists. -/
def portOk : RetryPort → Bool
  | .site n module => decide (n < 12 ∧ module < 32)
  | .lane link lane => decide (link < 48 ∧ lane < 16)
  | .lambda src dst l => decide (src < 36 ∧ dst < 36 ∧ l < 96)

/-- Bytes in error: distinct places below n, each with a nonzero error value (R253). -/
def errsOk (n : Nat) : List (Nat × Byte) → Bool
  | [] => true
  | e :: t => decide (e.1 < n) && e.2 != 0 && t.all (fun x => x.1 != e.1) && errsOk n t

/-- What is in error in a line read or a flit received: bytes of a line's 64, its metadata or check symbols, or of a flit's 288. -/
def verdictOk : Verdict → Bool
  | .symbols _ errs => errsOk 288 errs
  | _ => true

/-- An access of a crew core names a core, a bank and one of its 64-bit words (R176). -/
def crewOk (c : CrewAccess) : Bool := decide (c.core < 32 ∧ c.bank < 32 ∧ c.word < 65536 ∧ c.bits ≤ 72)

/-- The fields of a COL_HDR (R205). -/
def colOk (h : ColHdr) : Bool :=
  decide (h.context < 512 ∧ h.member < 8192 ∧ h.part < 4 ∧ 1 ≤ h.count ∧ h.count ≤ 3 ∧ h.chunk < 2 ^ 24 ∧ h.line < 2 ^ 32)

/-- A command is well formed. -/
def Instr.wf (i : Instr) : Bool :=
  match i with
  | .timecodeTick crew => crew.all crewOk
  | .timeCorrectionStep _ => true
  | .refclkLoss => true
  | .refclkHoldoverExpiry => true
  | .stitchRemeasure _ => true
  | .frameBoundary _ => true
  | .preambleReceived station plane _ _ => decide (station < 36) && decide (plane < 6)
  | .splice => true
  | .swapArm p => pathOk p
  | .swapCancel p => pathOk p
  | .reelStart p => pathOk p
  | .reelStop p => pathOk p
  | .clapperPulse => true
  | .clapperWindowClose => true
  | .followFirstPass => true
  | .clapperStartTimeout => true
  | .slackShortTimeout station => decide (station < 36)
  | .tcPauseReq p station rate => pathOk p && decide (station < 36) && decide (rate < 4)
  | .pauseWindowStart station => decide (station < 36)
  | .pauseComplete station => decide (station < 36)
  | .pauseTimeout station => decide (station < 36)
  | .sluiceFlitReceive station plane _ => decide (station < 36) && decide (plane < 6)
  | .siteStreamForward station selector => decide (station < 36) && decide (selector < 256)
  | .reelStoreWrite p addr _ => pathOk p && decide (addr < 16777216)
  | .reelCheck p => pathOk p
  | .reelCheckComplete => true
  | .reelClear p => pathOk p
  | .drainEnd => true
  | .millraceFlitSend src dst lambda => decide (src < 36) && decide (dst < 36) && decide (lambda < 96)
  | .millraceFlitReceive src dst lambda v => decide (src < 36) && decide (dst < 36) && decide (lambda < 96) && verdictOk v
  | .selfDelivery station cls => decide (station < 36) && decide (cls < 7)
  | .millraceLambdaOut station lambda => decide (station < 36) && decide (lambda < 96)
  | .spareRemapComplete src dst => decide (src < 36) && decide (dst < 36)
  | .peakClearSelected p => pathOk p
  | .peakClearAll p => pathOk p
  | .memRequestIssue r => reqOk r
  | .load q v => reqOk q.req && verdictOk v
  | .store q v => reqOk q.req && verdictOk v
  | .storeData site module _ _ _ => decide (site < 12) && decide (module < 64)
  | .addI64 q v => reqOk q.req && verdictOk v
  | .addF32x2 q v => reqOk q.req && verdictOk v
  | .swap q v => reqOk q.req && verdictOk v
  | .cas q v => reqOk q.req && verdictOk v
  | .maxI64 q v => reqOk q.req && verdictOk v
  | .minI64 q v => reqOk q.req && verdictOk v
  | .maxF32x2 q v => reqOk q.req && verdictOk v
  | .minF32x2 q v => reqOk q.req && verdictOk v
  | .loadData r => decide (r.buf < 53 ∧ r.slot < 8192)
  | .ack r => decide (r.buf < 53 ∧ r.slot < 8192)
  | .timeoutSweep => true
  | .patrolScrub ms _ v => decide (ms < 12) && verdictOk v
  | .stackLaneFail ms _ => decide (ms < 12)
  | .epochEnd => true
  | .blockFetchResponse slot _ _ _ _ => decide (slot < 4194304)
  | .regionDeclare p entry _ => pathOk p && decide (entry < 256)
  | .regionRelease p entry => pathOk p && decide (entry < 256)
  | .regionReleaseComplete entry => decide (entry < 256)
  | .gripDescriptorStart g => decide (g < 16)
  | .descriptorComplete queue _ => decide (queue < 64)
  | .queueEnable p queue base job => pathOk p && decide (queue < 64) && decide (base < 16777216) && decide (job < 256)
  | .queueDisable p queue => pathOk p && decide (queue < 64)
  | .queueReset p queue => pathOk p && decide (queue < 64)
  | .watchArm p slot _ => pathOk p && decide (slot < 1024)
  | .watchNotice slot => decide (slot < 1024)
  | .colHdr ws source h => decide (ws < 4) && decide (source < 36) && colOk h
  | .colLine ws source _ _ => decide (ws < 4) && decide (source < 36)
  | .groupFinish ctx _ _ => decide (ctx < 512)
  | .chunkComplete ctx => decide (ctx < 512)
  | .dueTick ctx member => decide (ctx < 512) && decide (member < 8192)
  | .lateLimitExpiry ctx member => decide (ctx < 512) && decide (member < 8192)
  | .laneRateMeasure ws rate => decide (ws < 4) && decide (rate < 256)
  | .contextSetup p ctx => pathOk p && decide (ctx < 512)
  | .contextAbort p ctx => pathOk p && decide (ctx < 512)
  | .contextFree p ctx => pathOk p && decide (ctx < 512)
  | .contextConstants p ctx _ => pathOk p && decide (ctx < 512)
  | .sitePowerUp site => decide (site < 12)
  | .vsiteReq site code => decide (site < 12) && decide (code < 256)
  | .vsiteStep site => decide (site < 12)
  | .siteOvervolt site => decide (site < 12)
  | .siteUndervolt site => decide (site < 12)
  | .siteOvercurrent site => decide (site < 12)
  | .tsiPowerBumpFail site group => decide (site < 12) && decide (group < 64)
  | .siteTraining site _ => decide (site < 12)
  | .trimInterval site _ => decide (site < 12)
  | .tsiLaneTapWrite p site module lane delay threshold => pathOk p && decide (site < 12) && decide (module < 64) && decide (lane < 69) && decide (delay < 64) && decide (threshold < 32)
  | .tsiTrimFreeze p site _ => pathOk p && decide (site < 12)
  | .laneFailing site module lane _ => decide (site < 12) && decide (module < 64) && decide (lane < 69)
  | .spareCompareDone site module => decide (site < 12) && decide (module < 64)
  | .tsiFlitReceive site module flit errs => decide (site < 12) && decide (module < 64) && flitOk flit && errsOk 288 errs
  | .nakTimeout port => portOk port
  | .hopperRelease site module => decide (site < 12) && decide (module < 64)
  | .signal site _ => decide (site < 12)
  | .streamLine site stream _ _ => decide (site < 12) && decide (stream < 4096)
  | .streamCredit site stream _ _ => decide (site < 12) && decide (stream < 4096)
  | .helloAck site revision => decide (site < 12) && decide (revision < 256)
  | .cap site word _ => decide (site < 12) && decide (word < 32)
  | .capEnd site => decide (site < 12)
  | .resend site => decide (site < 12)
  | .regRead site addr _ => decide (site < 12) && decide (addr < 16777216)
  | .regWrite site addr _ _ => decide (site < 12) && decide (addr < 16777216)
  | .temp site _ => decide (site < 12)
  | .laneFail site module lane => decide (site < 12) && decide (module < 64) && decide (lane < 69)
  | .pauseReq site rate => decide (site < 12) && decide (rate < 4)
  | .slewReq site _ _ _ => decide (site < 12)
  | .moduleOffAck site module seq => decide (site < 12) && decide (module < 64) && decide (seq < 4096)
  | .sidebandLost site => decide (site < 12)
  | .podFlitReceive link lane flit errs => decide (link < 48) && decide (lane < 16) && flitOk flit && errsOk 288 errs
  | .linkTraining link _ => decide (link < 48)
  | .linkHello link _ => decide (link < 48)
  | .laneDrop link lane cause => decide (link < 48) && decide (lane < 16) && decide (cause < 6)
  | .laneMap link _ => decide (link < 48)
  | .laneMapRetry link => decide (link < 48)
  | .route link lane _ _ => decide (link < 48) && decide (lane < 16)
  | .flowAck link _ => decide (link < 48)
  | .flowOpen xs node job cls => decide (xs < 8) && decide (node < 65536) && decide (job < 256) && decide (cls < 7)
  | .flowAckTimer flow => decide (flow < 4096)
  | .fwdMessage xs job m => decide (xs < 8) && decide (job < 256) && decide (1 ≤ m.lines.length ∧ m.lines.length ≤ 256)
  | .timeRequestSend link => decide (link < 48)
  | .time link _ => decide (link < 48)
  | .timeLinkTimeout link => decide (link < 48)
  | .podRtCheck p => pathOk p
  | .routeCheckComplete => true
  | .podRtSwap p => pathOk p
  | .podRtCancel p => pathOk p
  | .podRtCopy p => pathOk p
  | .routeDrainEnd => true
  | .quarantineEval => true
  | .quarantineTimeout link => decide (link < 48)
  | .podQuarClear p => pathOk p
  | .lsInt module _ => decide (module < 16)
  | .laserModulePoll module _ => decide (module < 16)
  | .focusUpdate e _ => decide (e < 36864)
  | .focusLockLost e => decide (e < 36864)
  | .focusSearchTimeout e => decide (e < 36864)
  | .focusRange e => decide (e < 36864)
  | .identityCheck e _ _ => decide (e < 36864)
  | .resweepComplete e _ => decide (e < 36864)
  | .headroomEval _ => true
  | .feedLow feed offsets line power => decide (feed < 16 ∧ offsets.length = 16 ∧ line < 16 ∧ power < 256)
  | .focusTrimInterval _ _ => true
  | .focTrimFreeze p _ => pathOk p
  | .warmSave p => pathOk p
  | .warmSaveComplete _ => true
  | .sensorSample _ => true
  | .sensorFail sensor => decide (sensor < 144)
  | .thermtripRelease => true
  | .coolantStop => true
  | .coolantRestart => true
  | .warmupEnd => true
  | .lowTempReturn station => decide (station < 36)
  | .throttleStep => true
  | .stackTempRead ms _ => decide (ms < 12)
  | .tempCeilingStep site => decide (site < 12)
  | .siteOvertemp site => decide (site < 12)
  | .gafferEvaluation => true
  | .gafferDivide => true
  | .limitCheck site => decide (site < 12)
  | .clampRelease site => decide (site < 12)
  | .vmillRaiseStep => true
  | .vmillLowerStep => true
  | .pmbusFail => true
  | .pmbusAlert => true
  | .sitePowerSample site _ _ => decide (site < 12)
  | .slewGuardEnd site => decide (site < 12)
  | .budgetGrant eid _ _ _ => decide (eid < 256)
  | .budgetQuery eid => decide (eid < 256)
  | .budgetExpiry => true
  | .budgetExcessRelease => true
  | .budgetReleaseAck eid _ => decide (eid < 256)
  | .budgetReleaseRetry => true
  | .paceNotice _ => true
  | .paceNoticeTimer job => decide (job < 256)
  | .paceNoticeExpiry job => decide (job < 256)
  | .energyAttribution _ => true
  | .faultMessage _ => true
  | .fenceRetry _ => true
  | .retryComplete _ _ => true
  | .fltFenceClear p _ => pathOk p
  | .fltAlertAck p => pathOk p
  | .fltFirstClear p => pathOk p
  | .fltOuttakeUnfreeze p => pathOk p
  | .voteScrub _ => true
  | .crewWatchdog core => decide (core < 32)
  | .faultInject p _ => pathOk p
  | .heartbeatSend => true
  | .mirHeartbeat link _ => decide (link < 48)
  | .pairLinkSilence link => decide (link < 48)
  | .pairSilence => true
  | .claimNotice _ => true
  | .claimAtomicWindowEnd => true
  | .claimRecordClear => true
  | .claimRepeat => true
  | .pairSoloTimeout => true
  | .mirStore _ => true
  | .mirWord _ => true
  | .mirConfirm _ => true
  | .mirState _ => true
  | .mirResync _ _ _ _ => true
  | .resyncComplete => true
  | .pairHandover p => pathOk p
  | .powerUp _ _ => true
  | .resetAssert pin => decide (pin < 2)
  | .bootPhase2 => true
  | .bootPhase3 _ _ => true
  | .bootPhase4 _ _ _ => true
  | .bootPhase5 _ _ => true
  | .bootPhase6 _ _ _ => true
  | .bootPhase7 _ _ => true
  | .bootPhase8 _ => true
  | .bootPhase9 => true
  | .bootPhase10 => true
  | .bootPhase11 => true
  | .restart p => pathOk p
  | .dark p => pathOk p
  | .wake p => pathOk p
  | .scriptCheck p => pathOk p
  | .scriptCheckComplete _ => true
  | .flashReadPage p => pathOk p
  | .flashProgram p => pathOk p
  | .flashErase p => pathOk p
  | .flashOpComplete _ => true
  | .keyExchange eid _ _ => decide (eid < 256)
  | .endSession n => decide (n < 8)
  | .sessionHeartbeatMiss n => decide (n < 8)
  | .spdmRequest _ _ => true
  | .roleReenrolArm p => pathOk p
  | .facModeEnter p _ => pathOk p
  | .jobStart p j => pathOk p && decide (j < 256)
  | .jobEnd p j => pathOk p && decide (j < 256)
  | .jobEndComplete j => decide (j < 256)
  | .jobClear p j => pathOk p && decide (j < 256)
  | .auditArchive _ => true
  | .continuitySweep => true
  | .continuity _ _ _ => true
  | .continuityPartnerSilence _ => true
  | .updBegin n _ _ _ _ _ _ => decide (n < 8)
  | .updPiece n _ _ _ _ _ _ => decide (n < 8)
  | .updQuery n => decide (n < 8)
  | .updAbort n _ => decide (n < 8)
  | .updActivate p => pathOk p
  | .updCtrlAbort p => pathOk p
  | .activationComplete _ => true
  | .csRead session addr count => decide (session < 8) && decide (addr < 16777216) && decide (1 ≤ count ∧ count ≤ 256)
  | .csWrite session addr data => decide (session < 8) && decide (addr < 16777216) && decide (1 ≤ data.length ∧ data.length ≤ 256)
  | .mgtCsRead site addr _ => decide (site < 12) && decide (addr < 16777216)
  | .mgtCsWrite site addr _ _ => decide (site < 12) && decide (addr < 16777216)
  | .spdmFrag site msg line length data => decide (site < 12) && decide (msg < 65536) && decide (line < 129) && decide (length < 8193) && decide (1 ≤ data.length ∧ data.length ≤ 3)
  | .registerWrite p addr _ => pathOk p && decide (addr < 16777216)
  | .rcRead p addr => pathOk p && decide (addr < 16777216)
  | .loReadLatch p addr => pathOk p && decide (addr < 16777216)
  | .slateCommit p addr _ => pathOk p && decide (addr < 16777216)
  | .slateApply => true
  | .daily => true
  | .tsiClockFail site module => decide (site < 12) && decide (module < 64)
  | .narrowingComplete site module => decide (site < 12) && decide (module < 64)
  | .siteRateFallbackEnd site _ => decide (site < 12)
  | .memRateFallbackDone ms _ => decide (ms < 12)
  | .sidebandWordError site => decide (site < 12)
  | .vddIoRemoved => true
  | .entdaa address => decide (address < 128)
  | .tapInstruction _ => true
  | .podFlitSend link lane => decide (link < 48) && decide (lane < 16)

end Sys2Proof
end

