-- ==== Sys2Proof/Tests/Slice0.lean ====
section
/-! SUPPORT. The model's own tests: ill-formed commands, figures of the spec's tables and worked examples, and single steps.
`Tests/Witness.lean` holds the states that meet the statements' hypotheses. -/

set_option Elab.async false

namespace Sys2Proof.Tests

open Sys2Proof Sys2Proof.Machine

/-! ### Ill-formed commands: each breaks one check of `Instr.wf` and no other -/

/-- A request, a COL_HDR and a scratchpad access with every field in range. -/
def rq0 : IssueReq := { who := .site 0 0, op := .load, addr := 0 }
def ac0 : CrewAccess := { core := 0, bank := 0, word := 0 }
def hd0 : ColHdr := { context := 0, member := 0, part := 0, count := 1, run := 0, chunk := 0, line := 0 }

theorem test_wf_refuses_0 : [
   .timecodeTick ([{ ac0 with core := 32 }]),
   .timecodeTick ([{ ac0 with bank := 32 }]),
   .timecodeTick ([{ ac0 with word := 65536 }]),
   .timecodeTick ([{ ac0 with bits := 73 }]),
   .preambleReceived 36 0 none none,
   .preambleReceived 0 6 none none,
   .swapArm (.session 8),
   .swapArm (.sideband 12),
   .swapArm (.mgt 12),
   .swapCancel (.session 8),
   .reelStart (.session 8),
   .reelStop (.session 8),
   .slackShortTimeout 36,
   .tcPauseReq (.session 8) 0 0,
   .tcPauseReq (.session 0) 36 0,
   .tcPauseReq (.session 0) 0 4,
   .pauseWindowStart 36,
   .pauseComplete 36,
   .pauseTimeout 36,
   .sluiceFlitReceive 36 0 (.good),
   .sluiceFlitReceive 0 6 (.good),
   .siteStreamForward 36 0,
   .siteStreamForward 0 256,
   .reelStoreWrite (.session 8) 0 0,
   .reelStoreWrite (.session 0) 16777216 0].all (fun i : Instr => !i.wf) = true := by decide +kernel

theorem test_wf_refuses_1 : [
   .reelCheck (.session 8),
   .reelClear (.session 8),
   .millraceFlitSend 36 0 0,
   .millraceFlitSend 0 36 0,
   .millraceFlitSend 0 0 96,
   .millraceFlitReceive 36 0 0 (.clean),
   .millraceFlitReceive 0 36 0 (.clean),
   .millraceFlitReceive 0 0 96 (.clean),
   .millraceFlitReceive 0 0 0 (.symbols false [(288, 1)]),
   .selfDelivery 36 0,
   .selfDelivery 0 7,
   .millraceLambdaOut 36 0,
   .millraceLambdaOut 0 96,
   .spareRemapComplete 36 0,
   .spareRemapComplete 0 36,
   .peakClearSelected (.session 8),
   .peakClearAll (.session 8),
   .memRequestIssue { rq0 with who := .site 12 0 },
   .memRequestIssue { rq0 with who := .site 0 64 },
   .memRequestIssue { rq0 with who := .grip 16 },
   .memRequestIssue { rq0 with who := .millstone 4 },
   .memRequestIssue { rq0 with who := .remote 65536 0 },
   .memRequestIssue { rq0 with who := .remote 0 8 },
   .memRequestIssue { rq0 with job := 256 },
   .load { req := { rq0 with who := .site 12 0 }, buf := 0 } (.clean)].all (fun i : Instr => !i.wf) = true := by decide +kernel

theorem test_wf_refuses_2 : [
   .load { req := rq0, buf := 0 } (.symbols false [(288, 1)]),
   .load { req := rq0, buf := 0 } (.symbols false [(0, 0)]),
   .load { req := rq0, buf := 0 } (.symbols false [(0, 1), (0, 2)]),
   .store { req := { rq0 with who := .site 12 0 }, buf := 0 } (.clean),
   .store { req := rq0, buf := 0 } (.symbols false [(288, 1)]),
   .storeData 12 0 0 0 false,
   .storeData 0 64 0 0 false,
   .addI64 { req := { rq0 with who := .site 12 0 }, buf := 0 } (.clean),
   .addI64 { req := rq0, buf := 0 } (.symbols false [(288, 1)]),
   .addF32x2 { req := { rq0 with who := .site 12 0 }, buf := 0 } (.clean),
   .addF32x2 { req := rq0, buf := 0 } (.symbols false [(288, 1)]),
   .swap { req := { rq0 with who := .site 12 0 }, buf := 0 } (.clean),
   .swap { req := rq0, buf := 0 } (.symbols false [(288, 1)]),
   .cas { req := { rq0 with who := .site 12 0 }, buf := 0 } (.clean),
   .cas { req := rq0, buf := 0 } (.symbols false [(288, 1)]),
   .maxI64 { req := { rq0 with who := .site 12 0 }, buf := 0 } (.clean),
   .maxI64 { req := rq0, buf := 0 } (.symbols false [(288, 1)]),
   .minI64 { req := { rq0 with who := .site 12 0 }, buf := 0 } (.clean),
   .minI64 { req := rq0, buf := 0 } (.symbols false [(288, 1)]),
   .maxF32x2 { req := { rq0 with who := .site 12 0 }, buf := 0 } (.clean),
   .maxF32x2 { req := rq0, buf := 0 } (.symbols false [(288, 1)]),
   .minF32x2 { req := { rq0 with who := .site 12 0 }, buf := 0 } (.clean),
   .minF32x2 { req := rq0, buf := 0 } (.symbols false [(288, 1)]),
   .loadData { buf := 53, slot := 0, gen := 0 },
   .loadData { buf := 0, slot := 8192, gen := 0 }].all (fun i : Instr => !i.wf) = true := by decide +kernel

theorem test_wf_refuses_3 : [
   .ack { buf := 53, slot := 0, gen := 0 },
   .ack { buf := 0, slot := 8192, gen := 0 },
   .patrolScrub 12 0 (.clean),
   .patrolScrub 0 0 (.symbols false [(288, 1)]),
   .stackLaneFail 12 (.lane 0 true),
   .blockFetchResponse 4194304 0 0 false false,
   .regionDeclare (.session 8) 0 ⟨2, 0, 1, 0, 0, 0⟩,
   .regionDeclare (.session 0) 256 ⟨2, 0, 1, 0, 0, 0⟩,
   .regionRelease (.session 8) 0,
   .regionRelease (.session 0) 256,
   .regionReleaseComplete 256,
   .gripDescriptorStart 16,
   .descriptorComplete 64 0,
   .queueEnable (.session 8) 0 0 0,
   .queueEnable (.session 0) 64 0 0,
   .queueEnable (.session 0) 0 16777216 0,
   .queueEnable (.session 0) 0 0 256,
   .queueDisable (.session 8) 0,
   .queueDisable (.session 0) 64,
   .queueReset (.session 8) 0,
   .queueReset (.session 0) 64,
   .watchArm (.session 8) 0 ⟨0, 0, 0, 1, 0, 0⟩,
   .watchArm (.session 0) 1024 ⟨0, 0, 0, 1, 0, 0⟩,
   .watchNotice 1024,
   .colHdr 4 0 hd0].all (fun i : Instr => !i.wf) = true := by decide +kernel

theorem test_wf_refuses_4 : [
   .colHdr 0 36 hd0,
   .colHdr 0 0 { hd0 with context := 512 },
   .colHdr 0 0 { hd0 with member := 8192 },
   .colHdr 0 0 { hd0 with part := 4 },
   .colHdr 0 0 { hd0 with count := 0 },
   .colHdr 0 0 { hd0 with count := 4 },
   .colHdr 0 0 { hd0 with chunk := 16777216 },
   .colHdr 0 0 { hd0 with line := 4294967296 },
   .colLine 4 0 0 false,
   .colLine 0 36 0 false,
   .groupFinish 512 0 0,
   .chunkComplete 512,
   .dueTick 512 0,
   .dueTick 0 8192,
   .lateLimitExpiry 512 0,
   .lateLimitExpiry 0 8192,
   .laneRateMeasure 4 0,
   .laneRateMeasure 0 256,
   .contextSetup (.session 8) 0,
   .contextSetup (.session 0) 512,
   .contextAbort (.session 8) 0,
   .contextAbort (.session 0) 512,
   .contextFree (.session 8) 0,
   .contextFree (.session 0) 512,
   .contextConstants (.session 8) 0 []].all (fun i : Instr => !i.wf) = true := by decide +kernel

theorem test_wf_refuses_5 : [
   .contextConstants (.session 0) 512 [],
   .sitePowerUp 12,
   .vsiteReq 12 0,
   .vsiteReq 0 256,
   .vsiteStep 12,
   .siteOvervolt 12,
   .siteUndervolt 12,
   .siteOvercurrent 12,
   .tsiPowerBumpFail 12 0,
   .tsiPowerBumpFail 0 64,
   .siteTraining 12 {},
   .trimInterval 12 [],
   .tsiLaneTapWrite (.session 8) 0 0 0 0 0,
   .tsiLaneTapWrite (.session 0) 12 0 0 0 0,
   .tsiLaneTapWrite (.session 0) 0 64 0 0 0,
   .tsiLaneTapWrite (.session 0) 0 0 69 0 0,
   .tsiLaneTapWrite (.session 0) 0 0 0 64 0,
   .tsiLaneTapWrite (.session 0) 0 0 0 0 32,
   .tsiTrimFreeze (.session 8) 0 false,
   .tsiTrimFreeze (.session 0) 12 false,
   .laneFailing 12 0 0 false,
   .laneFailing 0 64 0 false,
   .laneFailing 0 0 69 false,
   .spareCompareDone 12 0,
   .spareCompareDone 0 64].all (fun i : Instr => !i.wf) = true := by decide +kernel

theorem test_wf_refuses_6 : [
   .tsiFlitReceive 12 0 {} [],
   .tsiFlitReceive 0 64 {} [],
   .tsiFlitReceive 0 0 { slots := [none, none, none, none, none] } [],
   .tsiFlitReceive 0 0 { cred := [0, 0, 0, 0, 0, 0, 0, 0] } [],
   .tsiFlitReceive 0 0 { cred := [16] } [],
   .tsiFlitReceive 0 0 {} ([(288, 1)]),
   .tsiFlitReceive 0 0 {} ([(0, 0)]),
   .tsiFlitReceive 0 0 {} ([(0, 1), (0, 2)]),
   .nakTimeout (.site 12 0),
   .nakTimeout (.site 0 32),
   .nakTimeout (.lane 48 0),
   .nakTimeout (.lane 0 16),
   .nakTimeout (.lambda 36 0 0),
   .nakTimeout (.lambda 0 36 0),
   .nakTimeout (.lambda 0 0 96),
   .hopperRelease 12 0,
   .hopperRelease 0 64,
   .signal 12 ⟨0, 1, 0, 0⟩,
   .streamLine 12 0 0 false,
   .streamLine 0 4096 0 false,
   .streamCredit 12 0 0 false,
   .streamCredit 0 4096 0 false,
   .helloAck 12 0,
   .helloAck 0 256,
   .cap 12 0 0].all (fun i : Instr => !i.wf) = true := by decide +kernel

theorem test_wf_refuses_7 : [
   .cap 0 32 0,
   .capEnd 12,
   .resend 12,
   .regRead 12 0 0,
   .regRead 0 16777216 0,
   .regWrite 12 0 0 0,
   .regWrite 0 16777216 0 0,
   .temp 12 0,
   .laneFail 12 0 0,
   .laneFail 0 64 0,
   .laneFail 0 0 69,
   .pauseReq 12 0,
   .pauseReq 0 4,
   .slewReq 12 0 0 0,
   .moduleOffAck 12 0 0,
   .moduleOffAck 0 64 0,
   .moduleOffAck 0 0 4096,
   .sidebandLost 12,
   .podFlitReceive 48 0 {} [],
   .podFlitReceive 0 16 {} [],
   .podFlitReceive 0 0 { slots := [none, none, none, none, none] } [],
   .podFlitReceive 0 0 { cred := [0, 0, 0, 0, 0, 0, 0, 0] } [],
   .podFlitReceive 0 0 { cred := [16] } [],
   .podFlitReceive 0 0 {} ([(288, 1)]),
   .linkTraining 48 0].all (fun i : Instr => !i.wf) = true := by decide +kernel

theorem test_wf_refuses_8 : [
   .linkHello 48 ⟨2, false, 0, 0, 1⟩,
   .laneDrop 48 0 0,
   .laneDrop 0 16 0,
   .laneDrop 0 0 6,
   .laneMap 48 ⟨15, 1, 0, 0, 0, false⟩,
   .laneMapRetry 48,
   .route 48 0 ⟨1, 2, 0, 0, 0, 0, 0⟩ false,
   .route 0 16 ⟨1, 2, 0, 0, 0, 0, 0⟩ false,
   .flowAck 48 ⟨1, 2, 0, 0, 0, 0, 0, 8⟩,
   .flowOpen 8 0 0 0,
   .flowOpen 0 65536 0 0,
   .flowOpen 0 0 256 0,
   .flowOpen 0 0 0 7,
   .flowAckTimer 4096,
   .fwdMessage 8 0 ⟨1, 2, 0, false, 0, 0, [0]⟩,
   .fwdMessage 0 256 ⟨1, 2, 0, false, 0, 0, [0]⟩,
   .fwdMessage 0 0 ⟨1, 2, 0, false, 0, 0, []⟩,
   .fwdMessage 0 0 ⟨1, 2, 0, false, 0, 0, List.replicate 257 0⟩,
   .timeRequestSend 48,
   .time 48 ⟨true, true, 0, 2, 0, 0, 0⟩,
   .timeLinkTimeout 48,
   .podRtCheck (.session 8),
   .podRtSwap (.session 8),
   .podRtCancel (.session 8),
   .podRtCopy (.session 8)].all (fun i : Instr => !i.wf) = true := by decide +kernel

theorem test_wf_refuses_9 : [
   .quarantineTimeout 48,
   .podQuarClear (.session 8),
   .lsInt 16 (.alarm),
   .laserModulePoll 16 [],
   .focusUpdate 36864 0,
   .focusLockLost 36864,
   .focusSearchTimeout 36864,
   .focusRange 36864,
   .identityCheck 36864 0 false,
   .resweepComplete 36864 (.failed),
   .feedLow 16 (List.replicate 16 0) 0 0,
   .feedLow 0 (List.replicate 17 0) 0 0,
   .feedLow 0 (List.replicate 16 0) 16 0,
   .feedLow 0 (List.replicate 16 0) 0 256,
   .focTrimFreeze (.session 8) false,
   .warmSave (.session 8),
   .sensorFail 144,
   .lowTempReturn 36,
   .stackTempRead 12 0,
   .tempCeilingStep 12,
   .siteOvertemp 12,
   .limitCheck 12,
   .clampRelease 12,
   .sitePowerSample 12 0 0,
   .slewGuardEnd 12].all (fun i : Instr => !i.wf) = true := by decide +kernel

theorem test_wf_refuses_10 : [
   .budgetGrant 256 0 0 0,
   .budgetQuery 256,
   .budgetReleaseAck 256 0,
   .paceNoticeTimer 256,
   .paceNoticeExpiry 256,
   .fltFenceClear (.session 8) ⟨1, 0⟩,
   .fltAlertAck (.session 8),
   .fltFirstClear (.session 8),
   .fltOuttakeUnfreeze (.session 8),
   .crewWatchdog 32,
   .faultInject (.session 8) ⟨0, 0, 0x21, 1, false, false, false, false, 0, 0⟩,
   .mirHeartbeat 48 ⟨2, 0, false, 0, 0, 0, 0⟩,
   .pairLinkSilence 48,
   .pairHandover (.session 8),
   .resetAssert 2,
   .restart (.session 8),
   .dark (.session 8),
   .wake (.session 8),
   .scriptCheck (.session 8),
   .flashReadPage (.session 8),
   .flashProgram (.session 8),
   .flashErase (.session 8),
   .keyExchange 256 0 ⟨.installer, 0, 0, 0, true, false⟩,
   .endSession 8,
   .sessionHeartbeatMiss 8].all (fun i : Instr => !i.wf) = true := by decide +kernel

theorem test_wf_refuses_11 : [
   .roleReenrolArm (.session 8),
   .facModeEnter (.session 8) false,
   .jobStart (.session 8) 0,
   .jobStart (.session 0) 256,
   .jobEnd (.session 8) 0,
   .jobEnd (.session 0) 256,
   .jobEndComplete 256,
   .jobClear (.session 8) 0,
   .jobClear (.session 0) 256,
   .updBegin 8 0 0 0 0 [] false,
   .updPiece 8 0 0 [] [] false false,
   .updQuery 8,
   .updAbort 8 0,
   .updActivate (.session 8),
   .updCtrlAbort (.session 8),
   .csRead 8 0 1,
   .csRead 0 16777216 1,
   .csRead 0 0 0,
   .csRead 0 0 257,
   .csWrite 8 0 [0],
   .csWrite 0 16777216 [0],
   .csWrite 0 0 [],
   .csWrite 0 0 (List.replicate 257 0),
   .mgtCsRead 12 0 0,
   .mgtCsRead 0 16777216 0].all (fun i : Instr => !i.wf) = true := by decide +kernel

theorem test_wf_refuses_12 : [
   .mgtCsWrite 12 0 0 0,
   .mgtCsWrite 0 16777216 0 0,
   .spdmFrag 12 0 0 0 [0],
   .spdmFrag 0 65536 0 0 [0],
   .spdmFrag 0 0 129 0 [0],
   .spdmFrag 0 0 0 8193 [0],
   .spdmFrag 0 0 0 0 [],
   .spdmFrag 0 0 0 0 (List.replicate 4 0),
   .registerWrite (.session 8) 0 0,
   .registerWrite (.session 0) 16777216 0,
   .rcRead (.session 8) 0,
   .rcRead (.session 0) 16777216,
   .loReadLatch (.session 8) 0,
   .loReadLatch (.session 0) 16777216,
   .slateCommit (.session 8) 0 0,
   .slateCommit (.session 0) 16777216 0,
   .tsiClockFail 12 0,
   .tsiClockFail 0 64,
   .narrowingComplete 12 0,
   .narrowingComplete 0 64,
   .siteRateFallbackEnd 12 0,
   .memRateFallbackDone 12 false,
   .sidebandWordError 12,
   .entdaa 128,
   .podFlitSend 48 0].all (fun i : Instr => !i.wf) = true := by decide +kernel

theorem test_wf_refuses_13 : [
   .podFlitSend 0 16].all (fun i : Instr => !i.wf) = true := by decide +kernel

/-! ### Codes -/

/-- R410's digest of the three bytes "abc", as the standard that the spec names (FIPS 180) prints it. -/
theorem test_sha256 : beNat (sha256 [0x61, 0x62, 0x63]) = 0xBA7816BF8F01CFEA414140DE5DAE2223B00361A396177A9CB410FF61F20015AD := by
  decide +kernel

/-- CRC-32 of the digits 1 to 9 is 0xCBF43926, the check value of its definition. -/
theorem test_crc32 : crc32 [0x31, 0x32, 0x33, 0x34, 0x35, 0x36, 0x37, 0x38, 0x39] = 0xCBF43926 := by decide +kernel

/-- R253: each codeword corrects one symbol; two in one codeword are detected. -/
theorem test_flit_code :
    flitUncorrectable [(0, 1), (1, 1), (2, 1), (3, 1)] = false ∧ flitUncorrectable [(0, 1), (4, 2)] = true
      ∧ flitResidue [(0, 1), (1, 0x80)] = [] := by decide +kernel

/-! ### Figures of the spec's tables and worked examples -/

/-- 06_placement, the worked example of R149: index, home, rank and local line of one offset of an S12. -/
theorem test_home_of_the_worked_example :
    homeIndex 0x1000042A40 = 761 ∧ homeOf State.reset 0x1000042A40 = 5 ∧ homeRank State.reset 761 = 63
      ∧ localLine State.reset 0x1000042A40 = 89478847 := by decide +kernel

/-- 03_sluice, sample entries of the all-gather: SS0 sends to SS2, SS6 and SS8, SS3 to SS1 and SS4. -/
theorem test_entries_of_the_all_gather :
    decodeEntry 0xB06C100018C00004 = { kind := 3, dest := 1, mask := 44, feed := 16, lines := 6336, flags := 4 }
      ∧ decodeEntry 0xA04C100618C00007 = { kind := 2, dest := 1, mask := 12, feed := 16, land := 6, lines := 6336, flags := 7 }
      ∧ (targetsOf (decodeEntry 0xA04C100618C00007)).map kindOf = [(.ss, 1), (.ss, 4)] := by decide +kernel

/-- R60's table of frame slack thresholds, and the 6,336 lines of a port in a frame of 2,048 ticks. -/
theorem test_slack_thresholds :
    [512, 1024, 2048, 4096, 8192].map slackThreshold = [77, 154, 308, 615, 1229] ∧ lineCapacity 2048 = 6336 := by decide

/-- 10_tsi_protocol, the negotiation of a TSI 1.2 die at site 6: words 0 to 6 as agreed. -/
theorem test_negotiation_at_site_6 :
    agreeWord 0 0x00011221 0x00421212 0x12 = 0x00421212 ∧ agreeWord 1 0x00082007 0x00082003 0x12 = 0x00082003
      ∧ agreeWord 2 0x3FF 0x37C 0x12 = 0x37C ∧ agreeWord 3 0x371B 0x1B17 0x12 = 0x171B ∧ agreeWord 4 0xFF 0xF 0x12 = 0xF
      ∧ agreeWord 5 0x0140012C 0x01E08D18 0x12 = 0x01E08D18 ∧ agreeWord 6 0x50000000 0x5A057869 0x12 = 0x50057869 := by decide +kernel

/-- 12_focus, the warm start: elements 3,753 and 16,718, and COARSE 15 shifted by five steps. -/
theorem test_elements_of_the_warm_start :
    elemKind .s12 3753 = some (.podMod 14 9) ∧ elemKind .s12 16718 = some (.mrMod 78) ∧ shiftCoarse 5 15 = 20 := by decide +kernel

/-- R350: f falls from 1.0 at 90 °C to 0.4 at 100 °C; and 270 W of 280 W slow a die by 1.2 %, shown rounded up. -/
theorem test_throttle_factor : baseFactor (deg 90) = 100000 ∧ baseFactor (deg 95) = 70000 ∧ baseFactor (deg 100) = 40000
    ∧ cubeSlow 27000 28000 = 13 := by decide +kernel

/-- R130: a NaN operand gives 0x7FC0_0000, and −0 orders below +0. -/
theorem test_float_corners :
    f32Max 0x7FA00001 0x3F800000 = 0x7FC00000 ∧ f32Max 0x80000000 0 = 0 ∧ f32Min 0 0x80000000 = 0x80000000
      ∧ f32Add 0x3F800000 0x3F800000 = 0x40000000 := by decide +kernel

/-- R124: ADD_I64 wraps, CAS writes on a match only. -/
theorem test_atomics_wrap_and_compare :
    atomicNew .addI64 0xFFFFFFFFFFFFFFFF 1 0 = 0 ∧ atomicNew .cas 5 9 5 = 9 ∧ atomicNew .cas 5 9 6 = 5
      ∧ atomicNew .maxI64 0x8000000000000000 1 0 = 1 := by decide +kernel

/-! ### Single steps -/

/-- The state that an outcome goes on to; the reset state where it does not. -/
def after (o : Out) : State := match o with
  | .next t => t
  | _ => State.reset

/-- R39: a tick of the clock, and the timecode with it once the fields are aligned. -/
theorem test_tick : (after (exec (.timecodeTick []) live)).now = live.now + 1
    ∧ (after (exec (.timecodeTick []) live)).tc.timecode = live.tc.timecode + 1 := by decide +kernel

/-- 02_timecode, "Splice corrections": a pulse 20 ticks late pulls by 8. -/
theorem test_pull_of_a_late_pulse :
    let s := { live with tc.clapMode := 1, tc.reel := .running, tc.closeNo := 3, tc.spliceNo := 3, tc.spliceTicks := [(3, 10 ^ 15 - 20)] }
    tget 0 (after (exec .clapperPulse s)).tc.pulls 3 = 8 ∧ (after (exec .clapperPulse s)).tc.lastOffset = 20 := by decide +kernel

/-- 11_pod_links, "Drop of lane 9 on link 14": the new map and its epoch. -/
theorem test_drop_of_lane_9 :
    let s := modPodLink 14 (fun x => { x with st := 2, map := 0xFFFF, epoch := 4 }) live
    ((podLink (after (exec (.laneDrop 14 9 2) s)) 14).exch.map (fun e => (e.epoch, e.lanes, e.lane, e.cause))) = some (5, 0xFDFF, 9, 2) := by
  decide +kernel

/-- R129: a full store is read back by a load of the same line, with no other line changed. -/
theorem test_store_then_read :
    let t := poolWrite 0 0xFFFFFFFFFFFFFFFF 0x1234 false live
    lineGet t.mem.cells 0 = 0x1234 ∧ lineGet t.mem.cells 64 = 0 ∧ t.mem.cells.length = 2 := by decide +kernel

/-- R415: DARK leaves the ready state only by an installer's write; the operator's changes nothing but the audit. -/
theorem test_dark_needs_the_installer :
    (after (exec (.dark (.session 0)) live)).boot.dark = true ∧ (after (exec (.dark (.session 1)) live)).boot.dark = false := by
  decide +kernel

/-- R376, R378: a fatal fault freezes the ring's view and enters safe state at once. -/
theorem test_refclk_lost_is_fatal :
    let s := { live with tc.refclkLost := some 0 }
    (after (exec .refclkHoldoverExpiry s)).flt.safe = true := by decide +kernel

/-- R446: a register read over the sideband is answered with its tag. -/
theorem test_sideband_read :
    (after (exec (.regRead 0 0x20008 5) liveJob)).csp.lastRsp = [(0, some (5, false, 1))] := by decide +kernel

/-- R451: a _LO read holds the _HI half for the path. -/
theorem test_lo_read_latches :
    (after (exec (.loReadLatch (.session 0) 0x30000) live)).csp.latches = [(.session 0, 0x30004, 232830)] := by decide +kernel

/-- R427: a job that is defined starts, an undefined one does not. -/
theorem test_job_start :
    let s := { live with role.jobs := [(1, { job1 with st := .defined })], role.digest := 5, role.expect := 5 }
    (jobOf (after (exec (.jobStart (.session 1) 1) s)) 1).st = .running
      ∧ (jobOf (after (exec (.jobStart (.session 1) 2) s)) 2).st = .free := by decide +kernel

/-- R383: a fence may be lifted by the installer alone. -/
theorem test_fence_clear :
    let s := { live with flt.map := [(0, some { unit := { type := 3, index := 0 } })] }
    fenced (after (exec (.fltFenceClear (.session 1) { type := 3, index := 0 }) s)) { type := 3, index := 0 } = true := by decide +kernel

/-- R418, R420: an installer's certificate at the enrolled anchor takes the lowest free session. -/
theorem test_key_exchange :
    let s := { live with role.enrolled := [1] }
    let c : Certificate := { role := .installer, serial := 0, keyDigest := 2, anchor := 1, chainOk := true, selfSigned := false }
    (sessionOf (after (exec (.keyExchange 8 0 c) s)) 3).map (·.role) = some .installer := by decide +kernel

/-- R353, R354: a grant from the rack's address sets the budget. -/
theorem test_budget_grant : (after (exec (.budgetGrant 0 7 2000 1000) live)).gaf.budget = 2000
    ∧ (after (exec (.budgetGrant 1 7 2000 1000) live)).gaf.budget = 4866 := by decide +kernel

/-- 13_thermal_power, the step of site 5: 120 W to 280 W within 100 µs without a grant is a break, counted. -/
theorem test_slew_break :
    let s := modPow 0 (fun p => { p with means := [(10 ^ 15 - 10000, 120)], samples := List.replicate 9 280 }) live
    (powOf (after (exec (.sitePowerSample 0 280 750) s)) 0).viol = 1 := by decide +kernel

/-- R188: a watch armed at 1 over a word of 0 waits, and fires when the word reaches it. -/
theorem test_watch_fires :
    let f : WatchFields := { word := 0, threshold := 1, step := 0, mode := 1, site := 0, tag := 0 }
    let s := after (exec (.watchArm (.session 1) 0 f) live)
    (tget {} s.grp.watches 0).st = 1 ∧ (tget {} (millWordWrite 0 1 s).grp.watches 0).st = 2 := by decide +kernel

/-- An unstated pair: the stand-in applies the next mirrored store (R392). -/
theorem test_mirrored_store :
    let m : MirStoreMsg := { mseq := 1, offset := 0, mask := 0xFF, ident := { node := 2, job := 0, flowTag := 0 }, data := 0x7 }
    let s := { live with pair.cfg := some pairCfg0, pair.role := .standIn }
    (after (exec (.mirStore m) s)).pair.mseq = 1 ∧ wordGet (after (exec (.mirStore m) s)).mem.cells 0 = 7 := by decide +kernel

/-- A step takes the front of the queue; an empty queue idles. -/
theorem test_step : step live = .next live
    ∧ (after (step { live with pending := [.timecodeTick [], .splice] })).pending = [.splice] := ⟨rfl, by decide +kernel⟩

/-- At reset: no fault, no script, the ring empty, the throttle factor 1.0, THERMTRIP_N high. -/
theorem test_reset : State.reset.flt.safe = false ∧ State.reset.boot.phase = 0 ∧ State.reset.gaf.f = 1000000
    ∧ State.reset.pins.thermtripN = true ∧ State.reset.pending = [] := by decide

theorem test_reset_memory : Memory.wf State.reset.mem.cells = true := by decide

end Sys2Proof.Tests
end

