-- ==== Sys2Proof/Tests/Witness.lean ====
section
/-! SUPPORT. For each statement, a state and operands that meet the hypotheses of each of its clauses together: `test_wNN`
is about statement ONN. -/

set_option Elab.async false

namespace Sys2Proof.Tests

open Sys2Proof Sys2Proof.Machine

theorem succ_ne (x : Word16) : x + 1 ≠ x := by bv_omega

theorem test_w01 : -- TimecodeAndReferenceClock
    (∃ (s : State), s.tc.fieldsAligned = true)
    ∧ (∃ (s : State), s.tc.fieldsAligned = false
        ∧ s.tc.clapFall = none
        ∧ s.boot.xspiRise = none)
    ∧ (∃ (s : State) (x : Tick), s.tc.fieldsAligned = false
        ∧ s.tc.clapFall = none
        ∧ s.boot.xspiRise = some x
        ∧ x ≤ s.now + 1)
    ∧ (∃ (plus : Bool) (s : State), s.flt.safe = false
        ∧ s.boot.ready = true
        ∧ (∀ x, s.tc.lastStep = some x → x + 5000 ≤ s.now)
        ∧ (if plus then 0 < s.tc.diff else s.tc.diff < 0))
    ∧ (∃ (s : State), s.flt.safe = false
        ∧ s.tc.fieldsAligned = true
        ∧ s.tc.refclkLost = none)
    ∧ (∃ (s : State) (x : Tick), s.flt.safe = false
        ∧ s.tc.refclkLost = some x
        ∧ x + 100000 ≤ s.now)
    ∧ (∃ (skews : List (Nat × Nat)) (s : State), s.flt.safe = false
        ∧ s.tc.fieldsAligned = true
        ∧ s.tc.nextStitch ≤ s.now
        ∧ (skews.map (·.2)).foldl max 0 ≤ 16) :=
  ⟨⟨({ live with tc.fieldsAligned := true } : State), by decide⟩,
    ⟨({ live with tc.fieldsAligned := false, tc.clapFall := none, boot.xspiRise := none } : State), by decide⟩,
    ⟨({ live with tc.fieldsAligned := false, tc.clapFall := none, boot.xspiRise := some 0 } : State), 0, by decide⟩,
    ⟨true, ({ live with tc.diff := 1 } : State), by decide, by decide, (fun x (h : (none : Option _) = some x) => nomatch h), by decide⟩,
    ⟨({ live with tc.fieldsAligned := true, tc.refclkLost := none } : State), by decide⟩,
    ⟨({ live with tc.refclkLost := some 0 } : State), 0, by decide⟩,
    ⟨[], ({ live with tc.fieldsAligned := true } : State), by decide⟩⟩

theorem test_w02 : -- ReelsStartRunSwapAndStop
    (∃ (s : State), s.flt.safe = false
        ∧ reelActive s = true
        ∧ s.tc.frame < passFrames s s.tc.activeSlot
        ∧ s.tc.passStart + s.tc.frame * frameLen s s.tc.activeSlot ≤ s.now)
    ∧ (∃ (s : State), s.flt.safe = false
        ∧ reelActive s = false
        ∧ s.tc.idleDone < s.tc.timecode.toNat / 2048)
    ∧ (∃ (s : State), s.flt.safe = false
        ∧ s.tc.reel = .running
        ∧ passFrames s s.tc.activeSlot ≤ s.tc.frame
        ∧ s.tc.swapArm = false
        ∧ s.tc.passStart + passFrames s s.tc.activeSlot * frameLen s s.tc.activeSlot + s.tc.spliceLen ≤ s.now)
    ∧ (∃ (s : State), s.flt.safe = false
        ∧ s.tc.reel = .stopping
        ∧ passFrames s s.tc.activeSlot ≤ s.tc.frame
        ∧ s.tc.passStart + passFrames s s.tc.activeSlot * frameLen s s.tc.activeSlot + s.tc.spliceLen ≤ s.now)
    ∧ (∃ (p : Path) (s : State), mayWrite s p .o = true
        ∧ s.tc.reel = .noReel
        ∧ s.slu.next = .passed
        ∧ (s.slu.tableMode || !reelOwned s (1 - s.tc.activeSlot)) = true)
    ∧ (∃ (p : Path) (s : State), mayWrite s p .o = true
        ∧ s.tc.reel = .noReel
        ∧ s.slu.next = .empty
        ∧ s.tc.kept = true
        ∧ (s.slu.tableMode || !reelOwned s s.tc.activeSlot) = true)
    ∧ (∃ (p : Path) (s : State), mayWrite s p .o = true
        ∧ s.tc.reel ≠ .noReel)
    ∧ (∃ (p : Path) (s : State), mayWrite s p .o = true
        ∧ s.tc.reel = .running)
    ∧ (∃ (p : Path) (s : State), mayWrite s p .o = true
        ∧ s.slu.swap = .none
        ∧ s.slu.next = .passed
        ∧ s.slu.tableMode = false
        ∧ s.slu.affected.any (stationOwned s) = false)
    ∧ (∃ (p : Path) (s : State), mayWrite s p .o = true
        ∧ s.slu.swap = .none
        ∧ s.slu.next ≠ .passed)
    ∧ (∃ (p : Path) (s : State), mayWrite s p .o = true
        ∧ (s.slu.swap = .draining ∨ s.slu.swap = .waiting))
    ∧ (∃ (s : State), s.slu.swap = .draining
        ∧ s.slu.affected = []) :=
  ⟨⟨({ liveReel with tc.reel := .running, tc.frame := 1, tc.passStart := 0 } : State), by decide⟩,
    ⟨live, by decide⟩,
    ⟨({ live with tc.reel := .running, tc.swapArm := false, tc.frame := 4 } : State), by decide⟩,
    ⟨({ live with tc.reel := .stopping, tc.frame := 4 } : State), by decide⟩,
    ⟨.session 0, ({ live with tc.reel := .noReel, slu.next := .passed } : State), by decide⟩,
    ⟨.session 0, ({ live with tc.reel := .noReel, slu.next := .empty, tc.kept := true } : State), by decide⟩,
    ⟨.session 0, (liveReel : State), by decide⟩,
    ⟨.session 0, ({ live with tc.reel := .running } : State), by decide⟩,
    ⟨.session 0, ({ live with slu.swap := .none, slu.next := .passed, slu.tableMode := false } : State), by decide⟩,
    ⟨.session 0, ({ live with slu.swap := .none } : State), by decide⟩,
    ⟨.session 0, ({ live with slu.swap := .draining } : State), by decide⟩,
    ⟨({ live with slu.swap := .draining, slu.affected := [] } : State), by decide⟩⟩

theorem test_w03 : -- ClapperPullsAndIsLost
    (∃ (s : State) (k : Nat) (d : Int), s.flt.safe = false
        ∧ s.tc.clapMode = 1
        ∧ s.tc.startWait = none
        ∧ reelActive s = true
        ∧ windowOf s = some (k, d)
        ∧ s.tc.clapSeen.contains k = false
        ∧ s.tc.clapState ≠ .lost)
    ∧ (∃ (s : State) (k : Nat) (d : Int), s.flt.safe = false
        ∧ s.tc.clapMode = 1
        ∧ s.tc.startWait = none
        ∧ reelActive s = true
        ∧ windowOf s = some (k, d)
        ∧ s.tc.clapSeen.contains k = true)
    ∧ (∃ (s : State), s.flt.safe = false
        ∧ s.tc.clapMode = 1
        ∧ s.tc.startWait = none
        ∧ reelActive s = true
        ∧ windowOf s = none)
    ∧ (∃ (s : State) (x : Tick), s.flt.safe = false
        ∧ s.tc.clapMode = 1
        ∧ s.tc.startWait = some x
        ∧ s.tc.firstPass = none)
    ∧ (∃ (s : State), s.flt.safe = false
        ∧ s.tc.clapMode = 1
        ∧ reelActive s = true
        ∧ 64 < arrivalOffset s s.tc.closeNo
        ∧ s.tc.clapSeen.contains s.tc.closeNo = true)
    ∧ (∃ (s : State), s.flt.safe = false
        ∧ s.tc.clapMode = 1
        ∧ reelActive s = true
        ∧ 64 < arrivalOffset s s.tc.closeNo
        ∧ s.tc.clapSeen.contains s.tc.closeNo = false
        ∧ s.tc.run = 2
        ∧ s.tc.clapState = .locked
        ∧ standAddr s .clapperLost 1 = none)
    ∧ (∃ (s : State) (x : Tick), s.flt.safe = false
        ∧ s.tc.reel = .waiting
        ∧ s.tc.firstPass = some x
        ∧ x ≤ s.now)
    ∧ (∃ (s : State) (x : Tick), s.flt.safe = false
        ∧ s.tc.reel = .waiting
        ∧ s.tc.startWait = some x
        ∧ s.tc.firstPass = none
        ∧ x + 3 * nominalPass s s.tc.activeSlot ≤ s.now
        ∧ standAddr s .clapperLost 1 = none)
    ∧ (∃ (st : Nat) (s : State) (x : Tick), s.flt.safe = false
        ∧ (tget {} s.tc.slack st).maxSince = some x
        ∧ 850 ≤ s.gaf.vmill
        ∧ x + 100000 ≤ s.now
        ∧ standAddr s .slackShort st = none) :=
  ⟨⟨({ live with tc.clapMode := 1, tc.startWait := none, tc.reel := .running, tc.spliceTicks := [(0, 10 ^ 15)] } : State), 0, 0, by decide⟩,
    ⟨({ live with tc.clapMode := 1, tc.startWait := none, tc.reel := .running, tc.spliceTicks := [(0, 10 ^ 15 - 64)], tc.clapSeen := [0] } : State), 0, 64, by decide⟩,
    ⟨({ live with tc.clapMode := 1, tc.startWait := none, tc.reel := .running } : State), by decide⟩,
    ⟨({ live with tc.clapMode := 1, tc.startWait := some 0, tc.firstPass := none } : State), 0, by decide⟩,
    ⟨({ live with tc.clapMode := 1, tc.reel := .running, tc.spliceTicks := [(0, 10 ^ 15 - 65)], tc.clapSeen := [0] } : State), by decide⟩,
    ⟨({ live with tc.clapMode := 1, tc.reel := .running, tc.run := 2, tc.clapState := .locked, tc.spliceTicks := [(0, 10 ^ 15 - 65)] } : State), by decide⟩,
    ⟨({ live with tc.reel := .waiting, tc.firstPass := some 0 } : State), 0, by decide⟩,
    ⟨({ live with tc.reel := .waiting, tc.startWait := some 0, tc.firstPass := none } : State), 0, by decide⟩,
    ⟨0, ({ live with tc.slack := [(0, { maxSince := some 0 })], gaf.vmill := 850 } : State), 0, by decide⟩⟩

theorem test_w04 : -- PausesChangeTheRate
    (∃ (p : Path) (st : Nat) (rate : Nat) (n : Nat) (a : Nat) (b : Nat) (s : State), mayWrite s p .i = true
        ∧ s.flt.safe = false
        ∧ pausable s st = true
        ∧ rate < 3
        ∧ kindOf st = (.ss, n)
        ∧ pauseOutcome s st rate = (0, some (a, b)))
    ∧ (∃ (p : Path) (st : Nat) (rate : Nat) (why : Nat) (s : State), mayWrite s p .i = true
        ∧ s.flt.safe = false
        ∧ pausable s st = true
        ∧ rate < 3
        ∧ pauseOutcome s st rate = (why, none))
    ∧ (∃ (n : Nat) (rate : Nat) (a : Nat) (b : Nat) (s : State), sbLive s n = true
        ∧ bit (siteFeatures s n) 3 = true
        ∧ s.flt.safe = false
        ∧ pausable s (ssOf n) = true
        ∧ rate < 3
        ∧ kindOf (ssOf n) = (.ss, n)
        ∧ pauseOutcome s (ssOf n) rate = (0, some (a, b)))
    ∧ (∃ (n : Nat) (rate : Nat) (why : Nat) (s : State), sbLive s n = true
        ∧ bit (siteFeatures s n) 3 = true
        ∧ s.flt.safe = false
        ∧ pausable s (ssOf n) = true
        ∧ rate < 3
        ∧ pauseOutcome s (ssOf n) rate = (why, none))
    ∧ (∃ (st : Nat) (rate : Nat) (s : State), (pausable s st = false ∨ 3 ≤ rate))
    ∧ (∃ (st : Nat) (n : Nat) (s : State), s.flt.safe = false
        ∧ (tget {} s.tc.pauses st).st = .scheduled
        ∧ (tget {} s.tc.pauses st).start ≤ s.now
        ∧ kindOf st = (.ss, n))
    ∧ (∃ (st : Nat) (m : Nat) (s : State), s.flt.safe = false
        ∧ (tget {} s.tc.pauses st).st = .scheduled
        ∧ (tget {} s.tc.pauses st).start ≤ s.now
        ∧ kindOf st = (.ms, m)
        ∧ (msSt s m).repairs = 0)
    ∧ (∃ (st : Nat) (m : Nat) (s : State), s.flt.safe = false
        ∧ (tget {} s.tc.pauses st).st = .running
        ∧ s.now ≤ (tget {} s.tc.pauses st).start + 6000
        ∧ kindOf st = (.ms, m))
    ∧ (∃ (st : Nat) (n : Nat) (s : State), s.flt.safe = false
        ∧ (tget {} s.tc.pauses st).st = .running
        ∧ s.now ≤ (tget {} s.tc.pauses st).start + 6000
        ∧ kindOf st = (.ss, n))
    ∧ (∃ (st : Nat) (m : Nat) (s : State), s.flt.safe = false
        ∧ (tget {} s.tc.pauses st).st = .running
        ∧ (tget {} s.tc.pauses st).start + 6000 ≤ s.now
        ∧ kindOf st = (.ms, m))
    ∧ (∃ (st : Nat) (n : Nat) (s : State), s.flt.safe = false
        ∧ (tget {} s.tc.pauses st).st = .running
        ∧ (tget {} s.tc.pauses st).start + 6000 ≤ s.now
        ∧ kindOf st = (.ss, n))
    ∧ (∃ (m : Nat) (s : State), s.flt.safe = false
        ∧ (tget {} s.tc.pauses (msOf m)).st = .draining)
    ∧ (∃ (m : Nat) (s : State), s.flt.safe = false
        ∧ hasMs s.part.variant m = true
        ∧ memFenced s m = false
        ∧ (msSt s m).st ≠ 2)
    ∧ (∃ (m : Nat) (s : State), s.flt.safe = false
        ∧ hasMs s.part.variant m = true
        ∧ memFenced s m = false)
    ∧ (∃ (m : Nat) (line : Nat) (s : State), s.flt.safe = false
        ∧ hasMs s.part.variant m = true
        ∧ (msSt s m).st = 1
        ∧ memFenced s m = false
        ∧ line = (msSt s m).scrubNext
        ∧ s.mem.symErrs = []
        ∧ (((msSt s m).queue.any (fun q => homeOf s (addrOff q.req.addr) == m && localLine s (addrOff q.req.addr) == line)) = false)) :=
  ⟨⟨.session 0, ssOf 0, 0, 0, (pauseOutcome live 1 0).2.get!.1, (pauseOutcome live 1 0).2.get!.2, live, by decide⟩,
    ⟨.session 0, 1, 0, 4, ({ live with tc.pauses := [(1, { st := .scheduled })] } : State), by decide⟩,
    ⟨0, 0, (pauseOutcome live 1 0).2.get!.1, (pauseOutcome live 1 0).2.get!.2, live, by decide⟩,
    ⟨0, 0, 4, ({ live with tc.pauses := [(1, { st := .scheduled })] } : State), by decide⟩,
    ⟨0, 3, live, by decide⟩,
    ⟨ssOf 0, 0, ({ live with tc.pauses := [((ssOf 0), { st := .scheduled })] } : State), by decide⟩,
    ⟨msOf 0, 0, (modMs 0 (fun x => { x with repairs := 0 }) ({ live with tc.pauses := [((msOf 0), { st := .scheduled })] }) : State), by decide⟩,
    ⟨msOf 0, 0, ({ live with tc.pauses := [((msOf 0), { st := .running })], now := 6000 } : State), by decide⟩,
    ⟨ssOf 0, 0, ({ live with tc.pauses := [((ssOf 0), { st := .running })], now := 6000 } : State), by decide⟩,
    ⟨msOf 0, 0, ({ live with tc.pauses := [((msOf 0), { st := .running })] } : State), by decide⟩,
    ⟨ssOf 0, 0, ({ live with tc.pauses := [((ssOf 0), { st := .running })] } : State), by decide⟩,
    ⟨0, ({ live with tc.pauses := [((msOf 0), { st := .draining })] } : State), by decide⟩,
    ⟨0, live, by decide⟩,
    ⟨0, live, by decide⟩,
    ⟨0, 0, (modMs 0 (fun x => { x with st := 1 }) ({ live with mem.symErrs := [] }) : State), by decide⟩⟩

theorem test_w05 : -- PreamblesFlitsAndStreamsLand
    (∃ (st : Nat) (plane : Nat) (src : Nat) (p0 : Option Preamble) (p1 : Option Preamble) (s : State), s.flt.safe = false
        ∧ reelActive s = true
        ∧ s.tc.frame ≠ 0
        ∧ s.slu.judged.contains (st * 8 + plane) = false
        ∧ portDark s st 1 plane = false
        ∧ rxFenced s st plane = false
        ∧ routedTo s st plane = some src
        ∧ ([p0, p1].filterMap id).any (preambleAgrees s src plane) = true)
    ∧ (∃ (st : Nat) (plane : Nat) (src : Nat) (p0 : Option Preamble) (p1 : Option Preamble) (s : State), s.flt.safe = false
        ∧ reelActive s = true
        ∧ s.tc.frame ≠ 0
        ∧ s.slu.judged.contains (st * 8 + plane) = false
        ∧ portDark s st 1 plane = false
        ∧ rxFenced s st plane = false
        ∧ routedTo s st plane = some src
        ∧ ([p0, p1].filterMap id).any (preambleAgrees s src plane) = false
        ∧ ((tget [] s.slu.air (st * 8 + plane)).all (fun f => f.judged || !f.last || !f.final) = true))
    ∧ (∃ (st : Nat) (plane : Nat) (s : State), s.flt.safe = false
        ∧ reelActive s = true
        ∧ s.tc.frame ≠ 0
        ∧ s.slu.judged.contains (st * 8 + plane) = false
        ∧ portDark s st 1 plane = false
        ∧ rxFenced s st plane = true)
    ∧ (∃ (st : Nat) (plane : Nat) (k : Nat) (s : State), st < 64
        ∧ plane < 8
        ∧ k < 2 ^ 18
        ∧ s.tc.frame = k + 1)
    ∧ (∃ (st : Nat) (plane : Nat) (f : AirFlit) (rest : List AirFlit) (x : Line × Bool) (s : State), s.flt.safe = false
        ∧ tget [] s.slu.air (st * 8 + plane) = f :: rest
        ∧ f.accepted = true
        ∧ f.lines = [x]
        ∧ f.count = false
        ∧ f.final = false
        ∧ rxFenced s st plane = false
        ∧ (landDef s s.tc.activeSlot st f.land).kind = 3
        ∧ landFenced s (landDef s s.tc.activeSlot st f.land) = false
        ∧ dailyRange (64 * ((landDef s s.tc.activeSlot st f.land).millLine + (landSt s st f.land).ptr)) = false)
    ∧ (∃ (st : Nat) (plane : Nat) (f : AirFlit) (rest : List AirFlit) (s : State), s.flt.safe = false
        ∧ tget [] s.slu.air (st * 8 + plane) = f :: rest
        ∧ f.accepted = true
        ∧ f.final = false)
    ∧ (∃ (st : Nat) (plane : Nat) (f : AirFlit) (rest : List AirFlit) (s : State), s.flt.safe = false
        ∧ tget [] s.slu.air (st * 8 + plane) = f :: rest
        ∧ f.accepted = true
        ∧ f.final = false)
    ∧ (∃ (st : Nat) (sel : Nat) (s : State) (u : State), s.flt.safe = false
        ∧ (landDef s s.tc.activeSlot st sel).kind = 1
        ∧ (landSt s st sel).fwd < (landSt s st sel).landed
        ∧ bankFenced s (bankAt (64 * ((landDef s s.tc.activeSlot st sel).ringBase + (landSt s st sel).fwd % max 1 (landDef s s.tc.activeSlot st sel).ringLines))) = false
        ∧ lineBad s (64 * ((landDef s s.tc.activeSlot st sel).ringBase + (landSt s st sel).fwd % max 1 (landDef s s.tc.activeSlot st sel).ringLines)) = false
        ∧ siteStreamOut (kindOf st).2 (landDef s s.tc.activeSlot st sel).stream (millLine s (64 * ((landDef s s.tc.activeSlot st sel).ringBase + (landSt s st sel).fwd % max 1 (landDef s s.tc.activeSlot st sel).ringLines)), false) ((landSt s st sel).lastAt.contains ((landSt s st sel).fwd + 1)) s = some u) :=
  ⟨⟨2, 0, 1, some (preambleFlit (({ liveReel with tc.reel := .running } : State)) 0 0 1 0 0 false), none, ({ liveReel with tc.reel := .running } : State), by decide +kernel⟩,
    ⟨2, 0, 1, none, none, ({ liveReel with tc.reel := .running } : State), by decide⟩,
    ⟨2, 0, ({ liveReel with tc.reel := .running, flt.map := [(0, some { unit := uStation 2 })] } : State), by decide⟩,
    ⟨0, 0, 0, ({ live with tc.frame := 0 + 1 } : State), by decide⟩,
    ⟨2, 0, { src := 1, lines := [(7, false)], land := 0, ordered := false, count := false, last := false, ctx := false, final := false, accepted := true }, [], (7, false), ({ live with slu.air := [((2 * 8 + 0), { src := 1, lines := [(7, false)], land := 0, ordered := false, count := false, last := false, ctx := false, final := false, accepted := true } :: [])], slu.store := [(0x1C9C03, 0x30000000)] } : State), by decide +kernel⟩,
    ⟨0, 0, { src := 1, lines := [], land := 0, ordered := false, count := false, last := false, ctx := false, final := false, accepted := true }, [], ({ live with slu.air := [((0 * 8 + 0), { src := 1, lines := [], land := 0, ordered := false, count := false, last := false, ctx := false, final := false, accepted := true } :: [])] } : State), by decide⟩,
    ⟨0, 0, { src := 1, lines := [(7, false)], land := 0, ordered := false, count := false, last := false, ctx := false, final := false, accepted := true }, [], ({ live with slu.air := [((0 * 8 + 0), { src := 1, lines := [(7, false)], land := 0, ordered := false, count := false, last := false, ctx := false, final := false, accepted := true } :: [])] } : State), by decide +kernel⟩,
    ⟨1, 0, { live with slu.store := [(0x1C9803, 0x10000000)], slu.lands := [(256, { landed := 1 })] }, (siteStreamOut 0 0 (0, false) false { live with slu.store := [(0x1C9803, 0x10000000)], slu.lands := [(256, { landed := 1 })] }).getD live, by decide +kernel⟩⟩

theorem test_w06 : -- TheNextReelIsLoadedAndChecked
    (∃ (p : Path) (a : Nat) (s : State), mayWrite s p .o = true
        ∧ slotOfAddr a = some (1 - s.tc.activeSlot)
        ∧ s.tc.activeSlot ≤ 1
        ∧ a % 4 = 0
        ∧ (s.slu.next = .empty ∨ s.slu.next = .loading))
    ∧ (∃ (p : Path) (a : Nat) (s : State), mayWrite s p .o = true
        ∧ slotOfAddr a = some s.tc.activeSlot)
    ∧ (∃ (p : Path) (s : State), mayWrite s p .o = true
        ∧ s.slu.next = .loading)
    ∧ (∃ (f : CheckFail) (s : State), s.slu.next = .checking
        ∧ checkReel s (1 - s.tc.activeSlot) = some f)
    ∧ (∃ (s : State), s.slu.next = .checking
        ∧ checkReel s (1 - s.tc.activeSlot) = none)
    ∧ (∃ (p : Path) (s : State), mayWrite s p .o = true
        ∧ (s.slu.swap = .draining ∨ s.slu.swap = .waiting))
    ∧ (∃ (p : Path) (s : State), mayWrite s p .o = true
        ∧ (s.slu.swap = .none ∨ s.slu.swap = .refused))
    ∧ (∃ (p : Path) (s : State), mayWrite s p .o = false) :=
  ⟨⟨.session 0, 0x500000, ({ live with slu.next := .empty } : State), by decide⟩,
    ⟨.session 0, 0x400000, live, by decide⟩,
    ⟨.session 0, ({ live with slu.next := .loading } : State), by decide⟩,
    ⟨{ code := 5, header := true }, ({ live with slu.next := .checking, slu.store := [] } : State), by decide⟩,
    ⟨({ live with slu.next := .checking } : State), by decide +kernel⟩,
    ⟨.session 0, ({ live with slu.swap := .draining } : State), by decide⟩,
    ⟨.session 0, ({ live with slu.swap := .none } : State), by decide⟩,
    ⟨.session 9, live, by decide⟩⟩

theorem test_w07 : -- MillraceFlitsGoAndArriveInOrder
    (∃ (src : Nat) (dst : Nat) (l : Nat) (s : State), s.flt.safe = false
        ∧ src ≠ dst
        ∧ dueLambda s src dst = some l
        ∧ pausedNow s src = false
        ∧ pausedNow s dst = false
        ∧ (lamOf s src l).unacked.length < 16)
    ∧ (∃ (src : Nat) (dst : Nat) (l : Nat) (s : State), s.flt.safe = false
        ∧ src ≠ dst
        ∧ dueLambda s src dst = some l
        ∧ pausedNow s src = false
        ∧ pausedNow s dst = false
        ∧ 16 ≤ (lamOf s src l).unacked.length)
    ∧ (∃ (src : Nat) (dst : Nat) (l : Nat) (s : State), dueLambda s src dst ≠ some l)
    ∧ (∃ (src : Nat) (dst : Nat) (l : Nat) (f : MrFlit) (rest : List MrFlit) (s : State), s.flt.safe = false
        ∧ carries s src dst l = true
        ∧ (lamOf s src l).chan = f :: rest
        ∧ (((lamOf s src l).uncorr.filter (fun t => decide (s.now < t + 1000000))).length < 16))
    ∧ (∃ (src : Nat) (dst : Nat) (l : Nat) (q : Nat) (f : MrFlit) (rest : List MrFlit) (s : State), s.flt.safe = false
        ∧ carries s src dst l = true
        ∧ (lamOf s src l).chan = f :: rest
        ∧ f.seq = some q
        ∧ f.acks = []
        ∧ q ≠ (lamOf s src l).expect
        ∧ 2048 ≤ (q + 4096 - (lamOf s src l).expect) % 4096)
    ∧ (∃ (src : Nat) (dst : Nat) (l : Nat) (n : Nat) (cls : Nat) (f : MrFlit) (m : MrMsg) (rest : List MrFlit) (s : State), s.flt.safe = false
        ∧ carries s src dst l = true
        ∧ (lamOf s src l).chan = f :: rest
        ∧ f.seq = some (lamOf s src l).expect
        ∧ f.acks = []
        ∧ f.credits = []
        ∧ f.msgs = [(cls, m)]
        ∧ kindOf dst = (.ws, n)
        ∧ (∀ c h ls, m.pay ≠ .col c h ls))
    ∧ (∃ (st : Nat) (cls : Nat) (m : MrMsg) (s : State) (t : State), s.flt.safe = false
        ∧ headReady s st st cls = true
        ∧ takeHead st st cls s = (some m, t))
    ∧ (∃ (st : Nat) (l : Nat) (d : Nat) (s : State), st < 36
        ∧ l < 95
        ∧ (lamOf s st l).out = false
        ∧ lambdaDest st l = some d)
    ∧ (∃ (src : Nat) (dst : Nat) (x : Tick) (s : State), spareOf s src = { dest := some dst, remapping := some x })
    ∧ (∃ (p : Path) (s : State), mayWrite s p .o = true)
    ∧ (∃ (p : Path) (s : State), mayWrite s p .o = true) :=
  ⟨⟨0, 1, 0, live, by decide⟩,
    ⟨0, 1, 0, ({ live with mrc.lambdas := [(0, { unacked := List.replicate 16 { seq := some 0, msgs := [] } })] } : State), by decide⟩,
    ⟨0, 1, 5, live, by decide⟩,
    ⟨0, 1, 0, { seq := some 0, msgs := [] }, [], ({ live with mrc.lambdas := [(0, { chan := [{ seq := some 0, msgs := [] }] })] } : State), by decide⟩,
    ⟨0, 1, 0, 4095, { seq := some 4095, msgs := [] }, [], ({ live with mrc.lambdas := [(0, { chan := [{ seq := some 4095, msgs := [] }] })] } : State), by decide⟩,
    ⟨0, 7, (lambdasIn live 0 7).headD 0, 0, 1, { seq := some 0, msgs := [(1, { pay := .mirConfirm 0 })] }, { pay := .mirConfirm 0 }, [], ({ live with mrc.lambdas := [((lambdasIn live 0 7).headD 0, { chan := [{ seq := some 0, msgs := [(1, { pay := .mirConfirm 0 })] }] })] } : State), by decide, by decide, by decide, by decide, by decide, by decide, by decide, by decide, by simp⟩,
    ⟨0, 1, { pay := .mirConfirm 0, paid := true }, { live with mrc.queues := [(pcKey 0 0 1, [{ pay := .mirConfirm 0 }])] }, (takeHead 0 0 1 { live with mrc.queues := [(pcKey 0 0 1, [{ pay := .mirConfirm 0 }])] }).2, by decide +kernel⟩,
    ⟨0, 0, 1, live, by decide⟩,
    ⟨0, 1, 0, ({ live with mrc.spares := [(0, { dest := some 1, remapping := some 0 })] } : State), by decide⟩,
    ⟨.session 0, live, by decide⟩,
    ⟨.session 0, live, by decide⟩⟩

theorem test_w08 : -- RequestsLeaveAndAnswersReturn
    (∃ (n : Nat) (m : Nat) (j : Nat) (o : Nat) (k : Nat) (r : IssueReq) (s : State), s.flt.safe = false
        ∧ r.who = .site n m
        ∧ r.op = .load
        ∧ r.poison = false
        ∧ siteUp s n = true
        ∧ m < 64
        ∧ misaligned r = false
        ∧ jobOfSite s n = some j
        ∧ r.job = j
        ∧ addrNode r.addr = s.ident.node.toNat
        ∧ allowed s j (addrNode r.addr) (addrOff r.addr) false = true
        ∧ claimOf s (addrNode r.addr) (addrOff r.addr) = none
        ∧ zoneOf s false (addrOff r.addr) = .pool o
        ∧ memFenced s (homeOf s o) = false
        ∧ (msSt s (homeOf s o)).poisonHome = false
        ∧ pairFenced s (ssOf n) (msOf (homeOf s o)) = false
        ∧ freeSlot s (ssOf n) = some k)
    ∧ (∃ (n : Nat) (m : Nat) (r : IssueReq) (s : State), s.flt.safe = false
        ∧ r.who = .site n m
        ∧ r.op = .store
        ∧ siteUp s n = true
        ∧ m < 64)
    ∧ (∃ (n : Nat) (m : Nat) (tag : BitVec 12) (r : IssueReq) (s : State), s.flt.safe = false
        ∧ (s.mem.storeWait.find? (fun w => w.1 == n && w.2.1 == m && w.2.2.tag == tag) = some (n, m, r)))
    ∧ (∃ (n : Nat) (m : Nat) (r : IssueReq) (s : State), s.flt.safe = false
        ∧ r.who = .site n m
        ∧ r.op ≠ .store
        ∧ siteUp s n = true
        ∧ m < 64
        ∧ misaligned r = true)
    ∧ (∃ (a : MemRsp) (src : Nat) (n : Nat) (k : Nat) (m : MrMsg) (o : Outst) (s : State), s.flt.safe = false
        ∧ (findRx s (bufStation a.buf) cRSP (fun p => p == .loadData a) = some (src, m))
        ∧ outst s a.buf a.slot = some o
        ∧ o.gen = a.gen
        ∧ o.req.who = .site n k
        ∧ o.req.op = .load
        ∧ a.status = 0
        ∧ o.node = s.ident.node
        ∧ (s.mem.held.find? (fun r => reqBuf r.req.who == a.buf) = none)
        ∧ (s.mem.mgtHeld.find? (fun r => ssOf r.1 == a.buf) = none))
    ∧ (∃ (a : MemRsp) (src : Nat) (n : Nat) (k : Nat) (m : MrMsg) (o : Outst) (s : State), s.flt.safe = false
        ∧ (findRx s (bufStation a.buf) cRSP (fun p => p == .ack a) = some (src, m))
        ∧ outst s a.buf a.slot = some o
        ∧ o.gen = a.gen
        ∧ o.req.who = .site n k
        ∧ o.req.op ≠ .load
        ∧ a.status = 0
        ∧ a.poison = false
        ∧ (s.mem.held.find? (fun r => reqBuf r.req.who == a.buf) = none)
        ∧ (s.mem.mgtHeld.find? (fun r => ssOf r.1 == a.buf) = none))
    ∧ (∃ (a : MemRsp) (src : Nat) (m : MrMsg) (o : Outst) (s : State), s.flt.safe = false
        ∧ (findRx s (bufStation a.buf) cRSP (fun p => p == .ack a) = some (src, m))
        ∧ outst s a.buf a.slot = some o
        ∧ o.gen ≠ a.gen)
    ∧ (∃ (s : State), s.mem.nextSweep ≤ s.now
        ∧ (∀ p ∈ s.mem.slots, ∀ o x, p.2 = some o → o.sent = some x → s.now < x + s.mem.timeoutUs * 1000))
    ∧ (∃ (b : Nat) (k : Nat) (x : Tick) (o : Outst) (s : State), s.mem.nextSweep ≤ s.now
        ∧ s.mem.slots = [(slotKey b k, some o)]
        ∧ k < 8192
        ∧ o.sent = some x
        ∧ x + s.mem.timeoutUs * 1000 ≤ s.now) :=
  ⟨⟨0, 0, 1, 0, 0, { who := .site 0 0, op := .load, addr := 0x1000000000000, job := 1 }, liveJob, by decide⟩,
    ⟨0, 0, { who := .site 0 0, op := .store, addr := 0x1000000000000, job := 1 }, liveJob, by decide⟩,
    ⟨0, 0, 0, { who := .site 0 0, op := .store, addr := 0x1000000000000, job := 1 }, ({ live with mem.storeWait := [(0, 0, { who := .site 0 0, op := .store, addr := 0x1000000000000, job := 1 })] } : State), by decide +kernel⟩,
    ⟨0, 0, { who := .site 0 0, op := .swap, addr := 2 }, live, by decide⟩,
    ⟨{ buf := 1, slot := 0, gen := 0 }, 0, 0, 0, { pay := .loadData { buf := 1, slot := 0, gen := 0 } }, { req := { who := .site 0 0, op := .load, addr := 0 }, gen := 0, sent := some 0, node := 1, station := 0 }, ({ live with mrc.rx := [(pcKey 0 1 cRSP, [{ pay := .loadData { buf := 1, slot := 0, gen := 0 } }])], mem.slots := [(8192, some { req := { who := .site 0 0, op := .load, addr := 0 }, gen := 0, sent := some 0, node := 1, station := 0 })] } : State), by decide +kernel⟩,
    ⟨{ buf := 1, slot := 0, gen := 0 }, 0, 0, 0, { pay := .ack { buf := 1, slot := 0, gen := 0 } }, { req := { who := .site 0 0, op := .store, addr := 0 }, gen := 0, sent := some 0, node := 1, station := 0 }, ({ live with mrc.rx := [(pcKey 0 1 cRSP, [{ pay := .ack { buf := 1, slot := 0, gen := 0 } }])], mem.slots := [(8192, some { req := { who := .site 0 0, op := .store, addr := 0 }, gen := 0, sent := some 0, node := 1, station := 0 })] } : State), by decide +kernel⟩,
    ⟨{ buf := 1, slot := 0, gen := 1 }, 0, { pay := .ack { buf := 1, slot := 0, gen := 1 } }, { req := { who := .site 0 0, op := .store, addr := 0 }, gen := 0, sent := some 0, node := 1, station := 0 }, ({ live with mrc.rx := [(pcKey 0 1 cRSP, [{ pay := .ack { buf := 1, slot := 0, gen := 1 } }])], mem.slots := [(8192, some { req := { who := .site 0 0, op := .store, addr := 0 }, gen := 0, sent := some 0, node := 1, station := 0 })] } : State), by decide +kernel⟩,
    ⟨live, by decide, (fun _ h => nomatch h)⟩,
    ⟨0, 0, 0, { req := ldReq.req, gen := 0, sent := some 0, node := 1, station := 0 }, ({ live with mem.slots := [(slotKey 0 0, some { req := ldReq.req, gen := 0, sent := some 0, node := 1, station := 0 })] } : State), by decide +kernel⟩⟩

theorem test_w09 : -- LoadsAndStoresAtTheHome
    (∃ (q : MemReq) (s : State) (u : State) (o : Nat), servedAt .load q s u
        ∧ zoneOf u (innerReq u q) (addrOff q.req.addr) = .pool o
        ∧ memFenced u (homeOf u o) = false
        ∧ (msSt u (homeOf u o)).poisonHome = false
        ∧ poisonOf u o = false
        ∧ tget [] u.mem.symErrs (o / 64) = [])
    ∧ (∃ (q : MemReq) (v : Verdict) (s : State) (u : State) (o : Nat), servedAt .load q s u
        ∧ zoneOf u (innerReq u q) (addrOff q.req.addr) = .pool o
        ∧ memFenced u (homeOf u o) = false
        ∧ (msSt u (homeOf u o)).poisonHome = false
        ∧ (poolRead o v u).1.2 = true
        ∧ (∀ x : Outst, outst u q.buf q.slot = some x → x.replica = none))
    ∧ (∃ (q : MemReq) (v : Verdict) (s : State) (u : State) (o : Nat), servedAt .load q s u
        ∧ zoneOf u (innerReq u q) (addrOff q.req.addr) = .pool o
        ∧ memFenced u (homeOf u o) = false
        ∧ (msSt u (homeOf u o)).poisonHome = false
        ∧ (poolRead o v u).1.2 = false)
    ∧ (∃ (u : State) (o : Nat), poisonOf u o = false)
    ∧ (∃ (u : State) (o : Nat), poisonOf u o = true)
    ∧ (∃ (q : MemReq) (s : State) (u : State) (o : Nat), servedAt .load q s u
        ∧ zoneOf u (innerReq u q) (addrOff q.req.addr) = .mill o
        ∧ bankFenced u (bankAt o) = false
        ∧ (∀ k < 8, wordBad u (o / 8 + k) = false))
    ∧ (∃ (q : MemReq) (s : State) (u : State) (o : Nat), servedAt .load q s u
        ∧ zoneOf u (innerReq u q) (addrOff q.req.addr) = .pool o
        ∧ memFenced u (homeOf u o) = true)
    ∧ (∃ (q : MemReq) (s : State) (u : State) (o : Nat), servedAt .store q s u
        ∧ zoneOf u false (addrOff q.req.addr) = .pool o
        ∧ stillsHome u o = false
        ∧ memFenced u (homeOf u o) = false
        ∧ (msSt u (homeOf u o)).poisonHome = false
        ∧ q.req.mask ≠ 0
        ∧ (q.req.mask = fullMask ∨ tget [] u.mem.symErrs (o / 64) = [])
        ∧ u.pair.role = .none)
    ∧ (∃ (q : MemReq) (s : State) (u : State) (o : Nat), servedAt .store q s u
        ∧ zoneOf u false (addrOff q.req.addr) = .pool o
        ∧ stillsHome u o = false
        ∧ memFenced u (homeOf u o) = false
        ∧ (msSt u (homeOf u o)).poisonHome = false
        ∧ q.req.mask = 0)
    ∧ (∃ (q : MemReq) (s : State) (u : State) (o : Nat), servedAt .store q s u
        ∧ zoneOf u false (addrOff q.req.addr) = .mill o
        ∧ bankFenced u (bankAt o) = false
        ∧ dailyRange o = false
        ∧ queueAtLine u (o / 64) = none
        ∧ q.req.mask ≠ 0)
    ∧ (∃ (q : MemReq) (s : State) (u : State) (o : Nat), servedAt .store q s u
        ∧ zoneOf u false (addrOff q.req.addr) = .pool o
        ∧ stillsHome u o = false
        ∧ memFenced u (homeOf u o) = true) :=
  ⟨⟨{ req := { who := .remote 2 0, op := .load, addr := 0x1000000000000 + 0, mask := 1, operand := 1 }, buf := 2, node := 2 }, liveQueued ({ req := { who := .remote 2 0, op := .load, addr := 0x1000000000000 + 0, mask := 1, operand := 1 }, buf := 2, node := 2 }), bankTurn ({ req := { who := .remote 2 0, op := .load, addr := 0x1000000000000 + 0, mask := 1, operand := 1 }, buf := 2, node := 2 }) (taken ({ req := { who := .remote 2 0, op := .load, addr := 0x1000000000000 + 0, mask := 1, operand := 1 }, buf := 2, node := 2 }) (liveQueued ({ req := { who := .remote 2 0, op := .load, addr := 0x1000000000000 + 0, mask := 1, operand := 1 }, buf := 2, node := 2 }))), 0, ⟨rfl, by decide +kernel, .inl (by decide +kernel), taken ({ req := { who := .remote 2 0, op := .load, addr := 0x1000000000000 + 0, mask := 1, operand := 1 }, buf := 2, node := 2 }) (liveQueued ({ req := { who := .remote 2 0, op := .load, addr := 0x1000000000000 + 0, mask := 1, operand := 1 }, buf := 2, node := 2 })), by decide +kernel, .inl rfl, by decide +kernel, rfl⟩, by decide +kernel, by decide +kernel, by decide +kernel, by decide +kernel, by decide +kernel⟩,
    ⟨{ req := { who := .remote 2 0, op := .load, addr := 0x1000000000000 + 0, mask := 1, operand := 1 }, buf := 2, node := 2 }, .clean, { liveQueued ({ req := { who := .remote 2 0, op := .load, addr := 0x1000000000000 + 0, mask := 1, operand := 1 }, buf := 2, node := 2 }) with mem.flips := [(0, true)] }, bankTurn ({ req := { who := .remote 2 0, op := .load, addr := 0x1000000000000 + 0, mask := 1, operand := 1 }, buf := 2, node := 2 }) (taken ({ req := { who := .remote 2 0, op := .load, addr := 0x1000000000000 + 0, mask := 1, operand := 1 }, buf := 2, node := 2 }) ({ liveQueued ({ req := { who := .remote 2 0, op := .load, addr := 0x1000000000000 + 0, mask := 1, operand := 1 }, buf := 2, node := 2 }) with mem.flips := [(0, true)] })), 0, ⟨rfl, by decide +kernel, .inl (by decide +kernel), taken ({ req := { who := .remote 2 0, op := .load, addr := 0x1000000000000 + 0, mask := 1, operand := 1 }, buf := 2, node := 2 }) ({ liveQueued ({ req := { who := .remote 2 0, op := .load, addr := 0x1000000000000 + 0, mask := 1, operand := 1 }, buf := 2, node := 2 }) with mem.flips := [(0, true)] }), by decide +kernel, .inl rfl, by decide +kernel, rfl⟩, by decide +kernel, by decide +kernel, by decide +kernel, by decide +kernel, (fun x h => nomatch (show outst (bankTurn ({ req := { who := .remote 2 0, op := .load, addr := 0x1000000000000 + 0, mask := 1, operand := 1 }, buf := 2, node := 2 }) (taken ({ req := { who := .remote 2 0, op := .load, addr := 0x1000000000000 + 0, mask := 1, operand := 1 }, buf := 2, node := 2 }) ({ liveQueued ({ req := { who := .remote 2 0, op := .load, addr := 0x1000000000000 + 0, mask := 1, operand := 1 }, buf := 2, node := 2 }) with mem.flips := [(0, true)] }))) ({ req := { who := .remote 2 0, op := .load, addr := 0x1000000000000 + 0, mask := 1, operand := 1 }, buf := 2, node := 2 } : MemReq).buf ({ req := { who := .remote 2 0, op := .load, addr := 0x1000000000000 + 0, mask := 1, operand := 1 }, buf := 2, node := 2 } : MemReq).slot = none by decide +kernel).symm.trans h)⟩,
    ⟨{ req := { who := .remote 2 0, op := .load, addr := 0x1000000000000 + 0, mask := 1, operand := 1 }, buf := 2, node := 2 }, .clean, liveQueued ({ req := { who := .remote 2 0, op := .load, addr := 0x1000000000000 + 0, mask := 1, operand := 1 }, buf := 2, node := 2 }), bankTurn ({ req := { who := .remote 2 0, op := .load, addr := 0x1000000000000 + 0, mask := 1, operand := 1 }, buf := 2, node := 2 }) (taken ({ req := { who := .remote 2 0, op := .load, addr := 0x1000000000000 + 0, mask := 1, operand := 1 }, buf := 2, node := 2 }) (liveQueued ({ req := { who := .remote 2 0, op := .load, addr := 0x1000000000000 + 0, mask := 1, operand := 1 }, buf := 2, node := 2 }))), 0, ⟨rfl, by decide +kernel, .inl (by decide +kernel), taken ({ req := { who := .remote 2 0, op := .load, addr := 0x1000000000000 + 0, mask := 1, operand := 1 }, buf := 2, node := 2 }) (liveQueued ({ req := { who := .remote 2 0, op := .load, addr := 0x1000000000000 + 0, mask := 1, operand := 1 }, buf := 2, node := 2 })), by decide +kernel, .inl rfl, by decide +kernel, rfl⟩, by decide +kernel, by decide +kernel, by decide +kernel, by decide +kernel⟩,
    ⟨live, 0, by decide +kernel⟩,
    ⟨{ live with mem.flips := [(0, true)] }, 0, by decide +kernel⟩,
    ⟨{ req := { who := .remote 2 0, op := .load, addr := 0x1000000000000 + 0x400000000000, mask := 1, operand := 1 }, buf := 2, node := 2 }, liveHeld ({ req := { who := .remote 2 0, op := .load, addr := 0x1000000000000 + 0x400000000000, mask := 1, operand := 1 }, buf := 2, node := 2 }), bankTurn ({ req := { who := .remote 2 0, op := .load, addr := 0x1000000000000 + 0x400000000000, mask := 1, operand := 1 }, buf := 2, node := 2 }) (taken ({ req := { who := .remote 2 0, op := .load, addr := 0x1000000000000 + 0x400000000000, mask := 1, operand := 1 }, buf := 2, node := 2 }) (liveHeld ({ req := { who := .remote 2 0, op := .load, addr := 0x1000000000000 + 0x400000000000, mask := 1, operand := 1 }, buf := 2, node := 2 }))), 0, ⟨rfl, by decide +kernel, .inl (by decide +kernel), taken ({ req := { who := .remote 2 0, op := .load, addr := 0x1000000000000 + 0x400000000000, mask := 1, operand := 1 }, buf := 2, node := 2 }) (liveHeld ({ req := { who := .remote 2 0, op := .load, addr := 0x1000000000000 + 0x400000000000, mask := 1, operand := 1 }, buf := 2, node := 2 })), by decide +kernel, .inl rfl, by decide +kernel, rfl⟩, by decide +kernel, by decide +kernel, by decide +kernel⟩,
    ⟨{ req := { who := .remote 2 0, op := .load, addr := 0x1000000000000 + 0, mask := 1, operand := 1 }, buf := 2, node := 2 }, { liveQueued ({ req := { who := .remote 2 0, op := .load, addr := 0x1000000000000 + 0, mask := 1, operand := 1 }, buf := 2, node := 2 }) with flt.map := [(0, some { unit := uMem (homeOf live 0) })] }, bankTurn ({ req := { who := .remote 2 0, op := .load, addr := 0x1000000000000 + 0, mask := 1, operand := 1 }, buf := 2, node := 2 }) (taken ({ req := { who := .remote 2 0, op := .load, addr := 0x1000000000000 + 0, mask := 1, operand := 1 }, buf := 2, node := 2 }) ({ liveQueued ({ req := { who := .remote 2 0, op := .load, addr := 0x1000000000000 + 0, mask := 1, operand := 1 }, buf := 2, node := 2 }) with flt.map := [(0, some { unit := uMem (homeOf live 0) })] })), 0, ⟨rfl, by decide +kernel, .inl (by decide +kernel), taken ({ req := { who := .remote 2 0, op := .load, addr := 0x1000000000000 + 0, mask := 1, operand := 1 }, buf := 2, node := 2 }) ({ liveQueued ({ req := { who := .remote 2 0, op := .load, addr := 0x1000000000000 + 0, mask := 1, operand := 1 }, buf := 2, node := 2 }) with flt.map := [(0, some { unit := uMem (homeOf live 0) })] }), by decide +kernel, .inl rfl, by decide +kernel, rfl⟩, by decide +kernel, by decide +kernel⟩,
    ⟨{ req := { who := .remote 2 0, op := .store, addr := 0x1000000000000 + 0, mask := 1, operand := 1 }, buf := 2, node := 2 }, liveQueued ({ req := { who := .remote 2 0, op := .store, addr := 0x1000000000000 + 0, mask := 1, operand := 1 }, buf := 2, node := 2 }), bankTurn ({ req := { who := .remote 2 0, op := .store, addr := 0x1000000000000 + 0, mask := 1, operand := 1 }, buf := 2, node := 2 }) (taken ({ req := { who := .remote 2 0, op := .store, addr := 0x1000000000000 + 0, mask := 1, operand := 1 }, buf := 2, node := 2 }) (liveQueued ({ req := { who := .remote 2 0, op := .store, addr := 0x1000000000000 + 0, mask := 1, operand := 1 }, buf := 2, node := 2 }))), 0, ⟨rfl, by decide +kernel, .inl (by decide +kernel), taken ({ req := { who := .remote 2 0, op := .store, addr := 0x1000000000000 + 0, mask := 1, operand := 1 }, buf := 2, node := 2 }) (liveQueued ({ req := { who := .remote 2 0, op := .store, addr := 0x1000000000000 + 0, mask := 1, operand := 1 }, buf := 2, node := 2 })), by decide +kernel, .inr (by decide +kernel), by decide +kernel, rfl⟩, by decide +kernel, by decide +kernel, by decide +kernel, by decide +kernel, by decide +kernel, by decide +kernel, by decide +kernel⟩,
    ⟨{ req := { who := .remote 2 0, op := .store, addr := 0x1000000000000 + 0, mask := 0, operand := 1 }, buf := 2, node := 2 }, liveQueued ({ req := { who := .remote 2 0, op := .store, addr := 0x1000000000000 + 0, mask := 0, operand := 1 }, buf := 2, node := 2 }), bankTurn ({ req := { who := .remote 2 0, op := .store, addr := 0x1000000000000 + 0, mask := 0, operand := 1 }, buf := 2, node := 2 }) (taken ({ req := { who := .remote 2 0, op := .store, addr := 0x1000000000000 + 0, mask := 0, operand := 1 }, buf := 2, node := 2 }) (liveQueued ({ req := { who := .remote 2 0, op := .store, addr := 0x1000000000000 + 0, mask := 0, operand := 1 }, buf := 2, node := 2 }))), 0, ⟨rfl, by decide +kernel, .inl (by decide +kernel), taken ({ req := { who := .remote 2 0, op := .store, addr := 0x1000000000000 + 0, mask := 0, operand := 1 }, buf := 2, node := 2 }) (liveQueued ({ req := { who := .remote 2 0, op := .store, addr := 0x1000000000000 + 0, mask := 0, operand := 1 }, buf := 2, node := 2 })), by decide +kernel, .inr (by decide +kernel), by decide +kernel, rfl⟩, by decide +kernel, by decide +kernel, by decide +kernel, by decide +kernel, by decide +kernel⟩,
    ⟨{ req := { who := .remote 2 0, op := .store, addr := 0x1000000000000 + 0x400000000000, mask := 1, operand := 1 }, buf := 2, node := 2 }, liveHeld ({ req := { who := .remote 2 0, op := .store, addr := 0x1000000000000 + 0x400000000000, mask := 1, operand := 1 }, buf := 2, node := 2 }), bankTurn ({ req := { who := .remote 2 0, op := .store, addr := 0x1000000000000 + 0x400000000000, mask := 1, operand := 1 }, buf := 2, node := 2 }) (taken ({ req := { who := .remote 2 0, op := .store, addr := 0x1000000000000 + 0x400000000000, mask := 1, operand := 1 }, buf := 2, node := 2 }) (liveHeld ({ req := { who := .remote 2 0, op := .store, addr := 0x1000000000000 + 0x400000000000, mask := 1, operand := 1 }, buf := 2, node := 2 }))), 0, ⟨rfl, by decide +kernel, .inl (by decide +kernel), taken ({ req := { who := .remote 2 0, op := .store, addr := 0x1000000000000 + 0x400000000000, mask := 1, operand := 1 }, buf := 2, node := 2 }) (liveHeld ({ req := { who := .remote 2 0, op := .store, addr := 0x1000000000000 + 0x400000000000, mask := 1, operand := 1 }, buf := 2, node := 2 })), by decide +kernel, .inr (by decide +kernel), by decide +kernel, rfl⟩, by decide +kernel, by decide +kernel, by decide +kernel, by decide +kernel, by decide +kernel⟩,
    ⟨{ req := { who := .remote 2 0, op := .store, addr := 0x1000000000000 + 0, mask := 1, operand := 1 }, buf := 2, node := 2 }, { liveQueued ({ req := { who := .remote 2 0, op := .store, addr := 0x1000000000000 + 0, mask := 1, operand := 1 }, buf := 2, node := 2 }) with flt.map := [(0, some { unit := uMem (homeOf live 0) })] }, bankTurn ({ req := { who := .remote 2 0, op := .store, addr := 0x1000000000000 + 0, mask := 1, operand := 1 }, buf := 2, node := 2 }) (taken ({ req := { who := .remote 2 0, op := .store, addr := 0x1000000000000 + 0, mask := 1, operand := 1 }, buf := 2, node := 2 }) ({ liveQueued ({ req := { who := .remote 2 0, op := .store, addr := 0x1000000000000 + 0, mask := 1, operand := 1 }, buf := 2, node := 2 }) with flt.map := [(0, some { unit := uMem (homeOf live 0) })] })), 0, ⟨rfl, by decide +kernel, .inl (by decide +kernel), taken ({ req := { who := .remote 2 0, op := .store, addr := 0x1000000000000 + 0, mask := 1, operand := 1 }, buf := 2, node := 2 }) ({ liveQueued ({ req := { who := .remote 2 0, op := .store, addr := 0x1000000000000 + 0, mask := 1, operand := 1 }, buf := 2, node := 2 }) with flt.map := [(0, some { unit := uMem (homeOf live 0) })] }), by decide +kernel, .inr (by decide +kernel), by decide +kernel, rfl⟩, by decide +kernel, by decide +kernel, by decide +kernel⟩⟩

theorem test_w10 : -- AtomicsChangeOneWordAndAnswerTheOld
    (∃ (q : MemReq) (s : State) (u : State) (o : Nat), servedAt .addI64 q s u
        ∧ poolWordOk q u o)
    ∧ (∃ (q : MemReq) (s : State) (u : State) (o : Nat), servedAt .addI64 q s u
        ∧ millWordOk q u o
        ∧ pendingAdds u (serveStation s q) q = [])
    ∧ (∃ (q : MemReq) (s : State) (u : State) (o : Nat), servedAt .addF32x2 q s u
        ∧ poolWordOk q u o)
    ∧ (∃ (q : MemReq) (s : State) (u : State) (o : Nat), servedAt .addF32x2 q s u
        ∧ millWordOk q u o
        ∧ pendingAdds u (serveStation s q) q = [])
    ∧ (∃ (q : MemReq) (s : State) (u : State) (o : Nat), servedAt .swap q s u
        ∧ poolWordOk q u o)
    ∧ (∃ (q : MemReq) (s : State) (u : State) (o : Nat), servedAt .swap q s u
        ∧ millWordOk q u o)
    ∧ (∃ (q : MemReq) (s : State) (u : State) (o : Nat), servedAt .cas q s u
        ∧ poolWordOk q u o)
    ∧ (∃ (q : MemReq) (s : State) (u : State) (o : Nat), servedAt .cas q s u
        ∧ millWordOk q u o)
    ∧ (∃ (q : MemReq) (s : State) (u : State) (o : Nat), servedAt .maxI64 q s u
        ∧ zoneOf u false (addrOff q.req.addr) = .pool o)
    ∧ (∃ (q : MemReq) (s : State) (u : State) (o : Nat), servedAt .maxI64 q s u
        ∧ millWordOk q u o)
    ∧ (∃ (q : MemReq) (s : State) (u : State) (o : Nat), servedAt .minI64 q s u
        ∧ zoneOf u false (addrOff q.req.addr) = .pool o)
    ∧ (∃ (q : MemReq) (s : State) (u : State) (o : Nat), servedAt .minI64 q s u
        ∧ millWordOk q u o)
    ∧ (∃ (q : MemReq) (s : State) (u : State) (o : Nat), servedAt .maxF32x2 q s u
        ∧ zoneOf u false (addrOff q.req.addr) = .pool o)
    ∧ (∃ (q : MemReq) (s : State) (u : State) (o : Nat), servedAt .maxF32x2 q s u
        ∧ millWordOk q u o)
    ∧ (∃ (q : MemReq) (s : State) (u : State) (o : Nat), servedAt .minF32x2 q s u
        ∧ zoneOf u false (addrOff q.req.addr) = .pool o)
    ∧ (∃ (q : MemReq) (s : State) (u : State) (o : Nat), servedAt .minF32x2 q s u
        ∧ millWordOk q u o)
    ∧ (∃ (q : MemReq) (s : State) (u : State) (o : Nat), servedAt .addI64 q s u
        ∧ zoneOf u false (addrOff q.req.addr) = .pool o
        ∧ stillsHome u o = false
        ∧ memFenced u (homeOf u o) = false
        ∧ (msSt u (homeOf u o)).poisonHome = false
        ∧ poisonOf u o = true)
    ∧ (∃ (q : MemReq) (s : State) (u : State) (o : Nat) (more : List (Nat × MrMsg × MemReq)), servedAt .addI64 q s u
        ∧ millWordOk q u o
        ∧ more = pendingAdds u (serveStation s q) q) :=
  ⟨⟨{ req := { who := .remote 2 0, op := .addI64, addr := 0x1000000000000 + 0, mask := 1, operand := 1 }, buf := 2, node := 2 }, liveQueued ({ req := { who := .remote 2 0, op := .addI64, addr := 0x1000000000000 + 0, mask := 1, operand := 1 }, buf := 2, node := 2 }), bankTurn ({ req := { who := .remote 2 0, op := .addI64, addr := 0x1000000000000 + 0, mask := 1, operand := 1 }, buf := 2, node := 2 }) (taken ({ req := { who := .remote 2 0, op := .addI64, addr := 0x1000000000000 + 0, mask := 1, operand := 1 }, buf := 2, node := 2 }) (liveQueued ({ req := { who := .remote 2 0, op := .addI64, addr := 0x1000000000000 + 0, mask := 1, operand := 1 }, buf := 2, node := 2 }))), 0, ⟨rfl, by decide +kernel, .inl (by decide +kernel), taken ({ req := { who := .remote 2 0, op := .addI64, addr := 0x1000000000000 + 0, mask := 1, operand := 1 }, buf := 2, node := 2 }) (liveQueued ({ req := { who := .remote 2 0, op := .addI64, addr := 0x1000000000000 + 0, mask := 1, operand := 1 }, buf := 2, node := 2 })), by decide +kernel, .inr (by decide +kernel), by decide +kernel, rfl⟩, ⟨by decide +kernel, by decide +kernel, by decide +kernel, by decide +kernel, by decide +kernel, by decide +kernel, by decide +kernel⟩⟩,
    ⟨{ req := { who := .remote 2 0, op := .addI64, addr := 0x1000000000000 + 0x400000000000, mask := 1, operand := 1 }, buf := 2, node := 2 }, liveHeld ({ req := { who := .remote 2 0, op := .addI64, addr := 0x1000000000000 + 0x400000000000, mask := 1, operand := 1 }, buf := 2, node := 2 }), bankTurn ({ req := { who := .remote 2 0, op := .addI64, addr := 0x1000000000000 + 0x400000000000, mask := 1, operand := 1 }, buf := 2, node := 2 }) (taken ({ req := { who := .remote 2 0, op := .addI64, addr := 0x1000000000000 + 0x400000000000, mask := 1, operand := 1 }, buf := 2, node := 2 }) (liveHeld ({ req := { who := .remote 2 0, op := .addI64, addr := 0x1000000000000 + 0x400000000000, mask := 1, operand := 1 }, buf := 2, node := 2 }))), 0, ⟨rfl, by decide +kernel, .inl (by decide +kernel), taken ({ req := { who := .remote 2 0, op := .addI64, addr := 0x1000000000000 + 0x400000000000, mask := 1, operand := 1 }, buf := 2, node := 2 }) (liveHeld ({ req := { who := .remote 2 0, op := .addI64, addr := 0x1000000000000 + 0x400000000000, mask := 1, operand := 1 }, buf := 2, node := 2 })), by decide +kernel, .inr (by decide +kernel), by decide +kernel, rfl⟩, ⟨by decide +kernel, by decide +kernel, by decide +kernel, by decide +kernel, by decide +kernel⟩, by decide +kernel⟩,
    ⟨{ req := { who := .remote 2 0, op := .addF32x2, addr := 0x1000000000000 + 0, mask := 1, operand := 1 }, buf := 2, node := 2 }, liveQueued ({ req := { who := .remote 2 0, op := .addF32x2, addr := 0x1000000000000 + 0, mask := 1, operand := 1 }, buf := 2, node := 2 }), bankTurn ({ req := { who := .remote 2 0, op := .addF32x2, addr := 0x1000000000000 + 0, mask := 1, operand := 1 }, buf := 2, node := 2 }) (taken ({ req := { who := .remote 2 0, op := .addF32x2, addr := 0x1000000000000 + 0, mask := 1, operand := 1 }, buf := 2, node := 2 }) (liveQueued ({ req := { who := .remote 2 0, op := .addF32x2, addr := 0x1000000000000 + 0, mask := 1, operand := 1 }, buf := 2, node := 2 }))), 0, ⟨rfl, by decide +kernel, .inl (by decide +kernel), taken ({ req := { who := .remote 2 0, op := .addF32x2, addr := 0x1000000000000 + 0, mask := 1, operand := 1 }, buf := 2, node := 2 }) (liveQueued ({ req := { who := .remote 2 0, op := .addF32x2, addr := 0x1000000000000 + 0, mask := 1, operand := 1 }, buf := 2, node := 2 })), by decide +kernel, .inr (by decide +kernel), by decide +kernel, rfl⟩, ⟨by decide +kernel, by decide +kernel, by decide +kernel, by decide +kernel, by decide +kernel, by decide +kernel, by decide +kernel⟩⟩,
    ⟨{ req := { who := .remote 2 0, op := .addF32x2, addr := 0x1000000000000 + 0x400000000000, mask := 1, operand := 1 }, buf := 2, node := 2 }, liveHeld ({ req := { who := .remote 2 0, op := .addF32x2, addr := 0x1000000000000 + 0x400000000000, mask := 1, operand := 1 }, buf := 2, node := 2 }), bankTurn ({ req := { who := .remote 2 0, op := .addF32x2, addr := 0x1000000000000 + 0x400000000000, mask := 1, operand := 1 }, buf := 2, node := 2 }) (taken ({ req := { who := .remote 2 0, op := .addF32x2, addr := 0x1000000000000 + 0x400000000000, mask := 1, operand := 1 }, buf := 2, node := 2 }) (liveHeld ({ req := { who := .remote 2 0, op := .addF32x2, addr := 0x1000000000000 + 0x400000000000, mask := 1, operand := 1 }, buf := 2, node := 2 }))), 0, ⟨rfl, by decide +kernel, .inl (by decide +kernel), taken ({ req := { who := .remote 2 0, op := .addF32x2, addr := 0x1000000000000 + 0x400000000000, mask := 1, operand := 1 }, buf := 2, node := 2 }) (liveHeld ({ req := { who := .remote 2 0, op := .addF32x2, addr := 0x1000000000000 + 0x400000000000, mask := 1, operand := 1 }, buf := 2, node := 2 })), by decide +kernel, .inr (by decide +kernel), by decide +kernel, rfl⟩, ⟨by decide +kernel, by decide +kernel, by decide +kernel, by decide +kernel, by decide +kernel⟩, by decide +kernel⟩,
    ⟨{ req := { who := .remote 2 0, op := .swap, addr := 0x1000000000000 + 0, mask := 1, operand := 1 }, buf := 2, node := 2 }, liveQueued ({ req := { who := .remote 2 0, op := .swap, addr := 0x1000000000000 + 0, mask := 1, operand := 1 }, buf := 2, node := 2 }), bankTurn ({ req := { who := .remote 2 0, op := .swap, addr := 0x1000000000000 + 0, mask := 1, operand := 1 }, buf := 2, node := 2 }) (taken ({ req := { who := .remote 2 0, op := .swap, addr := 0x1000000000000 + 0, mask := 1, operand := 1 }, buf := 2, node := 2 }) (liveQueued ({ req := { who := .remote 2 0, op := .swap, addr := 0x1000000000000 + 0, mask := 1, operand := 1 }, buf := 2, node := 2 }))), 0, ⟨rfl, by decide +kernel, .inl (by decide +kernel), taken ({ req := { who := .remote 2 0, op := .swap, addr := 0x1000000000000 + 0, mask := 1, operand := 1 }, buf := 2, node := 2 }) (liveQueued ({ req := { who := .remote 2 0, op := .swap, addr := 0x1000000000000 + 0, mask := 1, operand := 1 }, buf := 2, node := 2 })), by decide +kernel, .inr (by decide +kernel), by decide +kernel, rfl⟩, ⟨by decide +kernel, by decide +kernel, by decide +kernel, by decide +kernel, by decide +kernel, by decide +kernel, by decide +kernel⟩⟩,
    ⟨{ req := { who := .remote 2 0, op := .swap, addr := 0x1000000000000 + 0x400000000000, mask := 1, operand := 1 }, buf := 2, node := 2 }, liveHeld ({ req := { who := .remote 2 0, op := .swap, addr := 0x1000000000000 + 0x400000000000, mask := 1, operand := 1 }, buf := 2, node := 2 }), bankTurn ({ req := { who := .remote 2 0, op := .swap, addr := 0x1000000000000 + 0x400000000000, mask := 1, operand := 1 }, buf := 2, node := 2 }) (taken ({ req := { who := .remote 2 0, op := .swap, addr := 0x1000000000000 + 0x400000000000, mask := 1, operand := 1 }, buf := 2, node := 2 }) (liveHeld ({ req := { who := .remote 2 0, op := .swap, addr := 0x1000000000000 + 0x400000000000, mask := 1, operand := 1 }, buf := 2, node := 2 }))), 0, ⟨rfl, by decide +kernel, .inl (by decide +kernel), taken ({ req := { who := .remote 2 0, op := .swap, addr := 0x1000000000000 + 0x400000000000, mask := 1, operand := 1 }, buf := 2, node := 2 }) (liveHeld ({ req := { who := .remote 2 0, op := .swap, addr := 0x1000000000000 + 0x400000000000, mask := 1, operand := 1 }, buf := 2, node := 2 })), by decide +kernel, .inr (by decide +kernel), by decide +kernel, rfl⟩, ⟨by decide +kernel, by decide +kernel, by decide +kernel, by decide +kernel, by decide +kernel⟩⟩,
    ⟨{ req := { who := .remote 2 0, op := .cas, addr := 0x1000000000000 + 0, mask := 1, operand := 1 }, buf := 2, node := 2 }, liveQueued ({ req := { who := .remote 2 0, op := .cas, addr := 0x1000000000000 + 0, mask := 1, operand := 1 }, buf := 2, node := 2 }), bankTurn ({ req := { who := .remote 2 0, op := .cas, addr := 0x1000000000000 + 0, mask := 1, operand := 1 }, buf := 2, node := 2 }) (taken ({ req := { who := .remote 2 0, op := .cas, addr := 0x1000000000000 + 0, mask := 1, operand := 1 }, buf := 2, node := 2 }) (liveQueued ({ req := { who := .remote 2 0, op := .cas, addr := 0x1000000000000 + 0, mask := 1, operand := 1 }, buf := 2, node := 2 }))), 0, ⟨rfl, by decide +kernel, .inl (by decide +kernel), taken ({ req := { who := .remote 2 0, op := .cas, addr := 0x1000000000000 + 0, mask := 1, operand := 1 }, buf := 2, node := 2 }) (liveQueued ({ req := { who := .remote 2 0, op := .cas, addr := 0x1000000000000 + 0, mask := 1, operand := 1 }, buf := 2, node := 2 })), by decide +kernel, .inr (by decide +kernel), by decide +kernel, rfl⟩, ⟨by decide +kernel, by decide +kernel, by decide +kernel, by decide +kernel, by decide +kernel, by decide +kernel, by decide +kernel⟩⟩,
    ⟨{ req := { who := .remote 2 0, op := .cas, addr := 0x1000000000000 + 0x400000000000, mask := 1, operand := 1 }, buf := 2, node := 2 }, liveHeld ({ req := { who := .remote 2 0, op := .cas, addr := 0x1000000000000 + 0x400000000000, mask := 1, operand := 1 }, buf := 2, node := 2 }), bankTurn ({ req := { who := .remote 2 0, op := .cas, addr := 0x1000000000000 + 0x400000000000, mask := 1, operand := 1 }, buf := 2, node := 2 }) (taken ({ req := { who := .remote 2 0, op := .cas, addr := 0x1000000000000 + 0x400000000000, mask := 1, operand := 1 }, buf := 2, node := 2 }) (liveHeld ({ req := { who := .remote 2 0, op := .cas, addr := 0x1000000000000 + 0x400000000000, mask := 1, operand := 1 }, buf := 2, node := 2 }))), 0, ⟨rfl, by decide +kernel, .inl (by decide +kernel), taken ({ req := { who := .remote 2 0, op := .cas, addr := 0x1000000000000 + 0x400000000000, mask := 1, operand := 1 }, buf := 2, node := 2 }) (liveHeld ({ req := { who := .remote 2 0, op := .cas, addr := 0x1000000000000 + 0x400000000000, mask := 1, operand := 1 }, buf := 2, node := 2 })), by decide +kernel, .inr (by decide +kernel), by decide +kernel, rfl⟩, ⟨by decide +kernel, by decide +kernel, by decide +kernel, by decide +kernel, by decide +kernel⟩⟩,
    ⟨{ req := { who := .remote 2 0, op := .maxI64, addr := 0x1000000000000 + 0, mask := 1, operand := 1 }, buf := 2, node := 2 }, liveQueued ({ req := { who := .remote 2 0, op := .maxI64, addr := 0x1000000000000 + 0, mask := 1, operand := 1 }, buf := 2, node := 2 }), bankTurn ({ req := { who := .remote 2 0, op := .maxI64, addr := 0x1000000000000 + 0, mask := 1, operand := 1 }, buf := 2, node := 2 }) (taken ({ req := { who := .remote 2 0, op := .maxI64, addr := 0x1000000000000 + 0, mask := 1, operand := 1 }, buf := 2, node := 2 }) (liveQueued ({ req := { who := .remote 2 0, op := .maxI64, addr := 0x1000000000000 + 0, mask := 1, operand := 1 }, buf := 2, node := 2 }))), 0, ⟨rfl, by decide +kernel, .inl (by decide +kernel), taken ({ req := { who := .remote 2 0, op := .maxI64, addr := 0x1000000000000 + 0, mask := 1, operand := 1 }, buf := 2, node := 2 }) (liveQueued ({ req := { who := .remote 2 0, op := .maxI64, addr := 0x1000000000000 + 0, mask := 1, operand := 1 }, buf := 2, node := 2 })), by decide +kernel, .inr (by decide +kernel), by decide +kernel, rfl⟩, by decide +kernel⟩,
    ⟨{ req := { who := .remote 2 0, op := .maxI64, addr := 0x1000000000000 + 0x400000000000, mask := 1, operand := 1 }, buf := 2, node := 2 }, liveHeld ({ req := { who := .remote 2 0, op := .maxI64, addr := 0x1000000000000 + 0x400000000000, mask := 1, operand := 1 }, buf := 2, node := 2 }), bankTurn ({ req := { who := .remote 2 0, op := .maxI64, addr := 0x1000000000000 + 0x400000000000, mask := 1, operand := 1 }, buf := 2, node := 2 }) (taken ({ req := { who := .remote 2 0, op := .maxI64, addr := 0x1000000000000 + 0x400000000000, mask := 1, operand := 1 }, buf := 2, node := 2 }) (liveHeld ({ req := { who := .remote 2 0, op := .maxI64, addr := 0x1000000000000 + 0x400000000000, mask := 1, operand := 1 }, buf := 2, node := 2 }))), 0, ⟨rfl, by decide +kernel, .inl (by decide +kernel), taken ({ req := { who := .remote 2 0, op := .maxI64, addr := 0x1000000000000 + 0x400000000000, mask := 1, operand := 1 }, buf := 2, node := 2 }) (liveHeld ({ req := { who := .remote 2 0, op := .maxI64, addr := 0x1000000000000 + 0x400000000000, mask := 1, operand := 1 }, buf := 2, node := 2 })), by decide +kernel, .inr (by decide +kernel), by decide +kernel, rfl⟩, ⟨by decide +kernel, by decide +kernel, by decide +kernel, by decide +kernel, by decide +kernel⟩⟩,
    ⟨{ req := { who := .remote 2 0, op := .minI64, addr := 0x1000000000000 + 0, mask := 1, operand := 1 }, buf := 2, node := 2 }, liveQueued ({ req := { who := .remote 2 0, op := .minI64, addr := 0x1000000000000 + 0, mask := 1, operand := 1 }, buf := 2, node := 2 }), bankTurn ({ req := { who := .remote 2 0, op := .minI64, addr := 0x1000000000000 + 0, mask := 1, operand := 1 }, buf := 2, node := 2 }) (taken ({ req := { who := .remote 2 0, op := .minI64, addr := 0x1000000000000 + 0, mask := 1, operand := 1 }, buf := 2, node := 2 }) (liveQueued ({ req := { who := .remote 2 0, op := .minI64, addr := 0x1000000000000 + 0, mask := 1, operand := 1 }, buf := 2, node := 2 }))), 0, ⟨rfl, by decide +kernel, .inl (by decide +kernel), taken ({ req := { who := .remote 2 0, op := .minI64, addr := 0x1000000000000 + 0, mask := 1, operand := 1 }, buf := 2, node := 2 }) (liveQueued ({ req := { who := .remote 2 0, op := .minI64, addr := 0x1000000000000 + 0, mask := 1, operand := 1 }, buf := 2, node := 2 })), by decide +kernel, .inr (by decide +kernel), by decide +kernel, rfl⟩, by decide +kernel⟩,
    ⟨{ req := { who := .remote 2 0, op := .minI64, addr := 0x1000000000000 + 0x400000000000, mask := 1, operand := 1 }, buf := 2, node := 2 }, liveHeld ({ req := { who := .remote 2 0, op := .minI64, addr := 0x1000000000000 + 0x400000000000, mask := 1, operand := 1 }, buf := 2, node := 2 }), bankTurn ({ req := { who := .remote 2 0, op := .minI64, addr := 0x1000000000000 + 0x400000000000, mask := 1, operand := 1 }, buf := 2, node := 2 }) (taken ({ req := { who := .remote 2 0, op := .minI64, addr := 0x1000000000000 + 0x400000000000, mask := 1, operand := 1 }, buf := 2, node := 2 }) (liveHeld ({ req := { who := .remote 2 0, op := .minI64, addr := 0x1000000000000 + 0x400000000000, mask := 1, operand := 1 }, buf := 2, node := 2 }))), 0, ⟨rfl, by decide +kernel, .inl (by decide +kernel), taken ({ req := { who := .remote 2 0, op := .minI64, addr := 0x1000000000000 + 0x400000000000, mask := 1, operand := 1 }, buf := 2, node := 2 }) (liveHeld ({ req := { who := .remote 2 0, op := .minI64, addr := 0x1000000000000 + 0x400000000000, mask := 1, operand := 1 }, buf := 2, node := 2 })), by decide +kernel, .inr (by decide +kernel), by decide +kernel, rfl⟩, ⟨by decide +kernel, by decide +kernel, by decide +kernel, by decide +kernel, by decide +kernel⟩⟩,
    ⟨{ req := { who := .remote 2 0, op := .maxF32x2, addr := 0x1000000000000 + 0, mask := 1, operand := 1 }, buf := 2, node := 2 }, liveQueued ({ req := { who := .remote 2 0, op := .maxF32x2, addr := 0x1000000000000 + 0, mask := 1, operand := 1 }, buf := 2, node := 2 }), bankTurn ({ req := { who := .remote 2 0, op := .maxF32x2, addr := 0x1000000000000 + 0, mask := 1, operand := 1 }, buf := 2, node := 2 }) (taken ({ req := { who := .remote 2 0, op := .maxF32x2, addr := 0x1000000000000 + 0, mask := 1, operand := 1 }, buf := 2, node := 2 }) (liveQueued ({ req := { who := .remote 2 0, op := .maxF32x2, addr := 0x1000000000000 + 0, mask := 1, operand := 1 }, buf := 2, node := 2 }))), 0, ⟨rfl, by decide +kernel, .inl (by decide +kernel), taken ({ req := { who := .remote 2 0, op := .maxF32x2, addr := 0x1000000000000 + 0, mask := 1, operand := 1 }, buf := 2, node := 2 }) (liveQueued ({ req := { who := .remote 2 0, op := .maxF32x2, addr := 0x1000000000000 + 0, mask := 1, operand := 1 }, buf := 2, node := 2 })), by decide +kernel, .inr (by decide +kernel), by decide +kernel, rfl⟩, by decide +kernel⟩,
    ⟨{ req := { who := .remote 2 0, op := .maxF32x2, addr := 0x1000000000000 + 0x400000000000, mask := 1, operand := 1 }, buf := 2, node := 2 }, liveHeld ({ req := { who := .remote 2 0, op := .maxF32x2, addr := 0x1000000000000 + 0x400000000000, mask := 1, operand := 1 }, buf := 2, node := 2 }), bankTurn ({ req := { who := .remote 2 0, op := .maxF32x2, addr := 0x1000000000000 + 0x400000000000, mask := 1, operand := 1 }, buf := 2, node := 2 }) (taken ({ req := { who := .remote 2 0, op := .maxF32x2, addr := 0x1000000000000 + 0x400000000000, mask := 1, operand := 1 }, buf := 2, node := 2 }) (liveHeld ({ req := { who := .remote 2 0, op := .maxF32x2, addr := 0x1000000000000 + 0x400000000000, mask := 1, operand := 1 }, buf := 2, node := 2 }))), 0, ⟨rfl, by decide +kernel, .inl (by decide +kernel), taken ({ req := { who := .remote 2 0, op := .maxF32x2, addr := 0x1000000000000 + 0x400000000000, mask := 1, operand := 1 }, buf := 2, node := 2 }) (liveHeld ({ req := { who := .remote 2 0, op := .maxF32x2, addr := 0x1000000000000 + 0x400000000000, mask := 1, operand := 1 }, buf := 2, node := 2 })), by decide +kernel, .inr (by decide +kernel), by decide +kernel, rfl⟩, ⟨by decide +kernel, by decide +kernel, by decide +kernel, by decide +kernel, by decide +kernel⟩⟩,
    ⟨{ req := { who := .remote 2 0, op := .minF32x2, addr := 0x1000000000000 + 0, mask := 1, operand := 1 }, buf := 2, node := 2 }, liveQueued ({ req := { who := .remote 2 0, op := .minF32x2, addr := 0x1000000000000 + 0, mask := 1, operand := 1 }, buf := 2, node := 2 }), bankTurn ({ req := { who := .remote 2 0, op := .minF32x2, addr := 0x1000000000000 + 0, mask := 1, operand := 1 }, buf := 2, node := 2 }) (taken ({ req := { who := .remote 2 0, op := .minF32x2, addr := 0x1000000000000 + 0, mask := 1, operand := 1 }, buf := 2, node := 2 }) (liveQueued ({ req := { who := .remote 2 0, op := .minF32x2, addr := 0x1000000000000 + 0, mask := 1, operand := 1 }, buf := 2, node := 2 }))), 0, ⟨rfl, by decide +kernel, .inl (by decide +kernel), taken ({ req := { who := .remote 2 0, op := .minF32x2, addr := 0x1000000000000 + 0, mask := 1, operand := 1 }, buf := 2, node := 2 }) (liveQueued ({ req := { who := .remote 2 0, op := .minF32x2, addr := 0x1000000000000 + 0, mask := 1, operand := 1 }, buf := 2, node := 2 })), by decide +kernel, .inr (by decide +kernel), by decide +kernel, rfl⟩, by decide +kernel⟩,
    ⟨{ req := { who := .remote 2 0, op := .minF32x2, addr := 0x1000000000000 + 0x400000000000, mask := 1, operand := 1 }, buf := 2, node := 2 }, liveHeld ({ req := { who := .remote 2 0, op := .minF32x2, addr := 0x1000000000000 + 0x400000000000, mask := 1, operand := 1 }, buf := 2, node := 2 }), bankTurn ({ req := { who := .remote 2 0, op := .minF32x2, addr := 0x1000000000000 + 0x400000000000, mask := 1, operand := 1 }, buf := 2, node := 2 }) (taken ({ req := { who := .remote 2 0, op := .minF32x2, addr := 0x1000000000000 + 0x400000000000, mask := 1, operand := 1 }, buf := 2, node := 2 }) (liveHeld ({ req := { who := .remote 2 0, op := .minF32x2, addr := 0x1000000000000 + 0x400000000000, mask := 1, operand := 1 }, buf := 2, node := 2 }))), 0, ⟨rfl, by decide +kernel, .inl (by decide +kernel), taken ({ req := { who := .remote 2 0, op := .minF32x2, addr := 0x1000000000000 + 0x400000000000, mask := 1, operand := 1 }, buf := 2, node := 2 }) (liveHeld ({ req := { who := .remote 2 0, op := .minF32x2, addr := 0x1000000000000 + 0x400000000000, mask := 1, operand := 1 }, buf := 2, node := 2 })), by decide +kernel, .inr (by decide +kernel), by decide +kernel, rfl⟩, ⟨by decide +kernel, by decide +kernel, by decide +kernel, by decide +kernel, by decide +kernel⟩⟩,
    ⟨{ req := { who := .remote 2 0, op := .addI64, addr := 0x1000000000000 + 0, mask := 1, operand := 1 }, buf := 2, node := 2 }, { liveQueued ({ req := { who := .remote 2 0, op := .addI64, addr := 0x1000000000000 + 0, mask := 1, operand := 1 }, buf := 2, node := 2 }) with mem.flips := [(0, true)] }, bankTurn ({ req := { who := .remote 2 0, op := .addI64, addr := 0x1000000000000 + 0, mask := 1, operand := 1 }, buf := 2, node := 2 }) (taken ({ req := { who := .remote 2 0, op := .addI64, addr := 0x1000000000000 + 0, mask := 1, operand := 1 }, buf := 2, node := 2 }) ({ liveQueued ({ req := { who := .remote 2 0, op := .addI64, addr := 0x1000000000000 + 0, mask := 1, operand := 1 }, buf := 2, node := 2 }) with mem.flips := [(0, true)] })), 0, ⟨rfl, by decide +kernel, .inl (by decide +kernel), taken ({ req := { who := .remote 2 0, op := .addI64, addr := 0x1000000000000 + 0, mask := 1, operand := 1 }, buf := 2, node := 2 }) ({ liveQueued ({ req := { who := .remote 2 0, op := .addI64, addr := 0x1000000000000 + 0, mask := 1, operand := 1 }, buf := 2, node := 2 }) with mem.flips := [(0, true)] }), by decide +kernel, .inr (by decide +kernel), by decide +kernel, rfl⟩, by decide +kernel, by decide +kernel, by decide +kernel, by decide +kernel, by decide +kernel⟩,
    ⟨{ req := { who := .remote 2 0, op := .addI64, addr := 0x1000000000000 + 0x400000000000, mask := 1, operand := 1 }, buf := 2, node := 2 }, liveHeld ({ req := { who := .remote 2 0, op := .addI64, addr := 0x1000000000000 + 0x400000000000, mask := 1, operand := 1 }, buf := 2, node := 2 }), bankTurn ({ req := { who := .remote 2 0, op := .addI64, addr := 0x1000000000000 + 0x400000000000, mask := 1, operand := 1 }, buf := 2, node := 2 }) (taken ({ req := { who := .remote 2 0, op := .addI64, addr := 0x1000000000000 + 0x400000000000, mask := 1, operand := 1 }, buf := 2, node := 2 }) (liveHeld ({ req := { who := .remote 2 0, op := .addI64, addr := 0x1000000000000 + 0x400000000000, mask := 1, operand := 1 }, buf := 2, node := 2 }))), 0, [], ⟨rfl, by decide +kernel, .inl (by decide +kernel), taken ({ req := { who := .remote 2 0, op := .addI64, addr := 0x1000000000000 + 0x400000000000, mask := 1, operand := 1 }, buf := 2, node := 2 }) (liveHeld ({ req := { who := .remote 2 0, op := .addI64, addr := 0x1000000000000 + 0x400000000000, mask := 1, operand := 1 }, buf := 2, node := 2 })), by decide +kernel, .inr (by decide +kernel), by decide +kernel, rfl⟩, ⟨by decide +kernel, by decide +kernel, by decide +kernel, by decide +kernel, by decide +kernel⟩, by decide +kernel⟩⟩

theorem test_w11 : -- RegionsAreDeclaredFetchedAndReleased
    (∃ (p : Path) (i : Nat) (f : RegionFields) (s : State), mayWrite s p .o = true
        ∧ i < 256
        ∧ regionLegal f = true
        ∧ declareReason s i f = 0
        ∧ s.pair.role = .none)
    ∧ (∃ (p : Path) (i : Nat) (f : RegionFields) (s : State), mayWrite s p .o = true
        ∧ i < 256
        ∧ regionLegal f = true
        ∧ declareReason s i f ≠ 0)
    ∧ (∃ (p : Path) (i : Nat) (s : State), mayWrite s p .o = true
        ∧ i < 256
        ∧ (regionOf s i).st = 1)
    ∧ (∃ (i : Nat) (s : State), (regionOf s i).st = 2
        ∧ regionLoads s i = false)
    ∧ (∃ (i : Nat) (s : State), regionLoads s i = true)
    ∧ (∃ (s : State), s.flt.safe = false
        ∧ s.blk.epochDone < s.tc.timecode.toNat / 1000000)
    ∧ (∃ (s : State), s.tc.timecode.toNat / 1000000 ≤ s.blk.epochDone)
    ∧ (∃ (j : Nat) (line : Nat) (k : Nat) (o : Outst) (x : Replica) (s : State), s.flt.safe = false
        ∧ s.mem.slots = [(slotKey 52 k, some o)]
        ∧ k < 8192
        ∧ o.req.who = .engine
        ∧ j < 2 ^ 20
        ∧ line < 1024
        ∧ o.req.compare = fetchKey j x
        ∧ o.req.operand = BitVec.ofNat 64 line
        ∧ tget none s.blk.replicas j = some x
        ∧ x.valid = false
        ∧ x.got = []
        ∧ s.mem.held = []
        ∧ s.mem.mgtHeld = [])
    ∧ (∃ (j : Nat) (line : Nat) (k : Nat) (o : Outst) (x : Replica) (s : State), s.flt.safe = false
        ∧ s.mem.slots = [(slotKey 52 k, some o)]
        ∧ k < 8192
        ∧ o.req.who = .engine
        ∧ j < 2 ^ 20
        ∧ line < 1024
        ∧ o.req.compare = fetchKey j x
        ∧ o.req.operand = BitVec.ofNat 64 line
        ∧ tget none s.blk.replicas j = some x
        ∧ x.valid = false
        ∧ s.mem.held = []
        ∧ s.mem.mgtHeld = []
        ∧ s.blk.waiting = []) :=
  ⟨⟨.session 0, 0, { node := 2, base := 0, blocks := 1, job := 1, mode := 0, threshold := 0 }, ({ liveJob with pair.role := .none } : State), by decide⟩,
    ⟨.session 0, 0, { node := 2, base := 0, blocks := 1, job := 0, mode := 0, threshold := 0 }, live, by decide⟩,
    ⟨.session 0, 0, ({ live with blk.regions := [(0, { st := 1 })] } : State), by decide⟩,
    ⟨0, ({ live with blk.regions := [(0, { st := 2 })] } : State), by decide⟩,
    ⟨0, ({ live with blk.regions := [(0, { st := 2 })], mem.slots := [(0, some { req := ldReq.req, gen := 0, sent := some 0, node := 1, station := 0, region := some 0 })] } : State), by decide⟩,
    ⟨live, by decide⟩,
    ⟨({ live with blk.epochDone := 10 ^ 9 } : State), by decide⟩,
    ⟨0, 0, 0, { req := { who := .engine, op := .load, addr := 0 }, gen := 0, sent := some 0, node := 1, station := 0 }, { region := 0, node := 2, block := 0 }, ({ live with mem.slots := [(slotKey 52 0, some { req := { who := .engine, op := .load, addr := 0 }, gen := 0, sent := some 0, node := 1, station := 0 })], mem.held := [], mem.mgtHeld := [], blk.replicas := [(0, some { region := 0, node := 2, block := 0 })] } : State), by decide +kernel⟩,
    ⟨0, 0, 0, { req := { who := .engine, op := .load, addr := 0 }, gen := 0, sent := some 0, node := 1, station := 0 }, { region := 0, node := 2, block := 0 }, ({ live with mem.slots := [(slotKey 52 0, some { req := { who := .engine, op := .load, addr := 0 }, gen := 0, sent := some 0, node := 1, station := 0 })], mem.held := [], mem.mgtHeld := [], blk.waiting := [], blk.replicas := [(0, some { region := 0, node := 2, block := 0 })] } : State), by decide +kernel⟩⟩

theorem test_w12 : -- QueuesGripsAndWatches
    (∃ (p : Path) (q : Nat) (base : Nat) (job : Nat) (s : State), mayWrite s p .o = true
        ∧ q < 64
        ∧ (queueOf s q).st = 0
        ∧ ringLegal s q base = true
        ∧ jobRunning s job = true
        ∧ s.grp.watches = [])
    ∧ (∃ (p : Path) (q : Nat) (base : Nat) (s : State), mayWrite s p .o = true
        ∧ q < 64
        ∧ (queueOf s q).st = 0
        ∧ ringLegal s q base = false)
    ∧ (∃ (p : Path) (q : Nat) (s : State), mayWrite s p .o = true
        ∧ q < 64
        ∧ (queueOf s q).st ≠ 0)
    ∧ (∃ (p : Path) (q : Nat) (s : State), mayWrite s p .o = true
        ∧ q < 64
        ∧ (queueOf s q).st ≠ 0)
    ∧ (∃ (p : Path) (q : Nat) (s : State), mayWrite s p .o = true
        ∧ q < 64
        ∧ (queueOf s q).st = 2
        ∧ s.grp.watches = [])
    ∧ (∃ (g : Nat) (d : Desc) (s : State), gripFenced s g = false
        ∧ s.flt.safe = false
        ∧ (s.grp.descs.any (fun d => d.grip == g && d.st == .running && !issuedAll s d) = false)
        ∧ (s.grp.descs.find? (fun d => d.grip == g && d.st == .pending && !d.discarded) = some d)
        ∧ d.d.fence = false)
    ∧ (∃ (q : Nat) (n : Nat) (d : Desc) (s : State), s.flt.safe = false
        ∧ (s.grp.descs.find? (fun d => d.queue == q && d.number == n && descReady s d) = some d)
        ∧ d.d.count = false
        ∧ d.d.notify = false)
    ∧ (∃ (p : Path) (slot : Nat) (f : WatchFields) (s : State), mayWrite s p .o = true
        ∧ slot < 1024
        ∧ watchLegal f = true
        ∧ f.mode ≠ 0
        ∧ bankFenced s (bankAt (8 * f.word.toNat)) = false
        ∧ (millWord s f.word.toNat).toNat < f.threshold.toNat)
    ∧ (∃ (p : Path) (slot : Nat) (f : WatchFields) (s : State), mayWrite s p .o = true
        ∧ slot < 1024
        ∧ watchLegal f = true
        ∧ f.mode ≠ 0
        ∧ bankFenced s (bankAt (8 * f.word.toNat)) = false
        ∧ f.threshold.toNat ≤ (millWord s f.word.toNat).toNat)
    ∧ (∃ (p : Path) (slot : Nat) (f : WatchFields) (s : State), mayWrite s p .o = true
        ∧ slot < 1024
        ∧ watchLegal f = true
        ∧ f.mode ≠ 0
        ∧ bankFenced s (bankAt (8 * f.word.toNat)) = true)
    ∧ (∃ (slot : Nat) (word : Nat) (site : Nat) (tag : Word16) (v : Word64) (rest : List (Nat × Nat × Word16 × Word64)) (s : State), watchNotices s slot = (word, site, tag, v) :: rest
        ∧ s.flt.safe = false
        ∧ creditsOf s (wsOf (bankAt (8 * word) / 8)) (ssOf site) cSIG ≠ 0
        ∧ tget [] s.mrc.queues (pcKey (wsOf (bankAt (8 * word) / 8)) (ssOf site) cSIG) = []) :=
  ⟨⟨.session 0, 0, 0x60000, 1, ({ liveJob with grp.watches := [] } : State), by decide⟩,
    ⟨.session 0, 0, 0, live, by decide⟩,
    ⟨.session 0, 0, ({ live with grp.queues := [(0, { st := 1 })] } : State), by decide⟩,
    ⟨.session 0, 0, ({ live with grp.queues := [(0, { st := 1 })] } : State), by decide⟩,
    ⟨.session 0, 0, ({ live with grp.watches := [], grp.queues := [(0, { st := 2 })] } : State), by decide⟩,
    ⟨0, { queue := 0, number := 0, d := { src := 0, dst := 0, rowLines := 1, rows := 1, srcStride := 1, dstStride := 1, counter := 0, increment := 0, fence := false, notify := false, count := false, stream := 0, pin := none, notifySite := 0, tag := 0, badField := false }, grip := 0 }, ({ live with grp.descs := [{ queue := 0, number := 0, d := { src := 0, dst := 0, rowLines := 1, rows := 1, srcStride := 1, dstStride := 1, counter := 0, increment := 0, fence := false, notify := false, count := false, stream := 0, pin := none, notifySite := 0, tag := 0, badField := false }, grip := 0 }] } : State), by decide⟩,
    ⟨0, 0, { queue := 0, number := 0, d := { src := 0, dst := 0, rowLines := 1, rows := 1, srcStride := 1, dstStride := 1, counter := 0, increment := 0, fence := false, notify := false, count := false, stream := 0, pin := none, notifySite := 0, tag := 0, badField := false }, grip := 0, st := .running, done := 1 }, ({ live with grp.descs := [{ queue := 0, number := 0, d := { src := 0, dst := 0, rowLines := 1, rows := 1, srcStride := 1, dstStride := 1, counter := 0, increment := 0, fence := false, notify := false, count := false, stream := 0, pin := none, notifySite := 0, tag := 0, badField := false }, grip := 0, st := .running, done := 1 }] } : State), by decide⟩,
    ⟨.session 0, 0, { word := 0, threshold := 1, step := 0, mode := 1, site := 0, tag := 0 }, live, by decide⟩,
    ⟨.session 0, 0, { word := 0, threshold := 0, step := 0, mode := 1, site := 0, tag := 0 }, live, by decide⟩,
    ⟨.session 0, 0, { word := 0, threshold := 0, step := 0, mode := 1, site := 0, tag := 0 }, ({ live with flt.map := [(0, some { unit := uBank 0 })] } : State), by decide⟩,
    ⟨0, 0, 0, 0, 0, [], ({ live with grp.watches := [(0, { notice := some 0 })] } : State), by decide⟩⟩

theorem test_w13 : -- CollectivesGatherAndDeliver
    (∃ (w : Nat) (src : Nat) (h : ColHdr) (m : MrMsg) (rest : List MrMsg) (s : State), s.flt.safe = false
        ∧ tget [] s.mrc.rx (pcKey src (wsOf w) cCOL) = m :: rest
        ∧ m.pay = .colHdr h)
    ∧ (∃ (w : Nat) (src : Nat) (i : Nat) (h : ColHdr) (data : Line) (poison : Bool) (m : MrMsg) (rest : List MrMsg) (s : State), s.flt.safe = false
        ∧ tget [] s.mrc.rx (pcKey src (wsOf w) cCOL) = m :: rest
        ∧ m.pay = .colLine data poison
        ∧ tget none s.mst.hdr (colKey w src) = some (h, i)
        ∧ millFenced s w = false)
    ∧ (∃ (w : Nat) (src : Nat) (i : Nat) (h : ColHdr) (data : Line) (poison : Bool) (m : MrMsg) (rest : List MrMsg) (s : State), s.flt.safe = false
        ∧ tget [] s.mrc.rx (pcKey src (wsOf w) cCOL) = m :: rest
        ∧ m.pay = .colLine data poison
        ∧ tget none s.mst.hdr (colKey w src) = some (h, i)
        ∧ (millFenced s w = true ∨ (ctxAt s h.context).st = 0 ∨ (ctxAt s h.context).st = 3))
    ∧ (∃ (c : Nat) (chunk : Nat) (h : Chunk) (s : State), s.flt.safe = false
        ∧ (ctxAt s c).st = 2
        ∧ millFenced s (ctxAt s c).mill = false
        ∧ ((ctxAt s c).chunks.find? (fun h => decide (h.finished < (recOf s c).outGroups) || (sendsPartial (recOf s c) h.no && decide (h.partialSent < (recOf s c).groups))) = some h)
        ∧ chunk = h.no % max 1 (recOf s c).chunks
        ∧ (recOf s c).nodes ≤ 1
        ∧ groupReady (recOf s c) h h.finished = true
        ∧ (recOf s c).sched = false
        ∧ ((streamNeeds s (recOf s c) h.no h.finished).all (fun a => (streamLine s c h.no a).isSome) = true))
    ∧ (∃ (c : Nat) (h : Chunk) (rest : List Chunk) (s : State), s.flt.safe = false
        ∧ (ctxAt s c).st = 2
        ∧ (ctxAt s c).chunks = h :: rest
        ∧ h.closed = true
        ∧ chunkDelivered s (recOf s c) h = true)
    ∧ (∃ (c : Nat) (h : Chunk) (rest : List Chunk) (s : State), (ctxAt s c).chunks = h :: rest
        ∧ h.closed = false) :=
  ⟨⟨0, 0, { context := 0, member := 0, part := 0, count := 1, run := 0, chunk := 0, line := 0 }, { pay := .colHdr { context := 0, member := 0, part := 0, count := 1, run := 0, chunk := 0, line := 0 } }, [], ({ live with mrc.rx := [((pcKey 0 (wsOf 0) cCOL), { pay := .colHdr { context := 0, member := 0, part := 0, count := 1, run := 0, chunk := 0, line := 0 } } :: [])] } : State), by decide⟩,
    ⟨0, 0, 0, { context := 0, member := 0, part := 0, count := 1, run := 0, chunk := 0, line := 0 }, 0, false, { pay := .colLine 0 false }, [], ({ live with mrc.rx := [((pcKey 0 (wsOf 0) cCOL), { pay := .colLine 0 false } :: [])], mst.hdr := [((colKey 0 0), some ({ context := 0, member := 0, part := 0, count := 1, run := 0, chunk := 0, line := 0 }, 0))] } : State), by decide +kernel⟩,
    ⟨0, 0, 0, { context := 0, member := 0, part := 0, count := 1, run := 0, chunk := 0, line := 0 }, 0, false, { pay := .colLine 0 false }, [], ({ live with mrc.rx := [((pcKey 0 (wsOf 0) cCOL), { pay := .colLine 0 false } :: [])], mst.hdr := [((colKey 0 0), some ({ context := 0, member := 0, part := 0, count := 1, run := 0, chunk := 0, line := 0 }, 0))] } : State), by decide +kernel⟩,
    ⟨0, 0, { no := 0, members := [(0, { gone := true })] }, { live with mst.ctxs := [(0, { st := 2, chunks := [{ no := 0, members := [(0, { gone := true })] }] })] }, by decide⟩,
    ⟨0, { no := 0, closed := true, finished := 1 }, [], { live with mst.ctxs := [(0, { st := 2, chunks := [{ no := 0, closed := true, finished := 1 }] })] }, by decide⟩,
    ⟨0, { no := 0 }, [], (modCtx 0 (fun x => { x with chunks := { no := 0 } :: [] }) (live) : State), by decide⟩⟩

theorem test_w14 : -- ContextsAndTheirLateMembers
    (∃ (p : Path) (c : Nat) (s : State), mayWrite s p .o = true
        ∧ c < ctxCount s.part.variant
        ∧ setupReason s c (recOf s c) (bindTo s c (recOf s c)) = 0
        ∧ millFenced s (bindTo s c (recOf s c)) = false)
    ∧ (∃ (p : Path) (c : Nat) (s : State), mayWrite s p .o = true
        ∧ c < ctxCount s.part.variant
        ∧ setupReason s c (recOf s c) (bindTo s c (recOf s c)) ≠ 0)
    ∧ (∃ (p : Path) (c : Nat) (s : State), mayWrite s p .o = true
        ∧ c < ctxCount s.part.variant
        ∧ (ctxAt s c).st = 2)
    ∧ (∃ (p : Path) (c : Nat) (s : State), mayWrite s p .o = true
        ∧ c < ctxCount s.part.variant
        ∧ (ctxAt s c).st ≠ 2)
    ∧ (∃ (p : Path) (c : Nat) (s : State), mayWrite s p .o = true
        ∧ c < ctxCount s.part.variant
        ∧ (ctxAt s c).st = 1
        ∧ reelNames s c = false)
    ∧ (∃ (p : Path) (c : Nat) (s : State), mayWrite s p .o = true
        ∧ c < ctxCount s.part.variant
        ∧ (ctxAt s c).st ≠ 0
        ∧ reelNames s c = true)
    ∧ (∃ (p : Path) (c : Nat) (ks : List Word32) (s : State), mayWrite s p .o = true
        ∧ c < ctxCount s.part.variant
        ∧ (ctxAt s c).st ≠ 0
        ∧ ks.length = 8)
    ∧ (∃ (c : Nat) (m : Nat) (h : Chunk) (s : State), s.flt.safe = false
        ∧ ((ctxAt s c).chunks.find? (fun h => (memAt h m).due.isSome && !(memAt h m).dueSeen) = some h)
        ∧ (schedAny s c m = false ∨ frameEnded s ((memAt h m).due.getD 0) = true)
        ∧ h.closed = false
        ∧ memberDone (recOf s c) h m = false
        ∧ (memAt h m).gone = false
        ∧ h.lated = false)
    ∧ (∃ (c : Nat) (m : Nat) (h : Chunk) (s : State), s.flt.safe = false
        ∧ m < 12
        ∧ (recOf s c).late ≠ 2
        ∧ ((ctxAt s c).chunks.find? (fun h => !h.closed && (memAt h m).due.isSome && !(memAt h m).gone && !memberDone (recOf s c) h m && frameEnded s ((memAt h m).due.getD 0 + (recOf s c).lateFrames)) = some h))
    ∧ (∃ (w : Nat) (rate : Nat) (s : State), s.flt.safe = false
        ∧ hasWs s.part.variant w = true
        ∧ 125 ≤ rate
        ∧ standAddr s .millstoneSlow w = none)
    ∧ (∃ (w : Nat) (rate : Nat) (s : State), s.flt.safe = false
        ∧ hasWs s.part.variant w = true
        ∧ rate < 125
        ∧ vmillAtMax s = true
        ∧ (∀ t, s.gaf.lastRaise = some t → t + 1000000 ≤ s.now)
        ∧ standAddr s .millstoneSlow w = none)
    ∧ (∃ (w : Nat) (rate : Nat) (s : State), s.flt.safe = false
        ∧ hasWs s.part.variant w = true
        ∧ rate < 125
        ∧ vmillAtMax s = false) :=
  ⟨⟨.session 0, 0, (liveJob : State), by decide⟩,
    ⟨.session 0, 0, live, by decide⟩,
    ⟨.session 0, 0, (modCtx 0 (fun x => { x with st := 2 }) (live) : State), by decide⟩,
    ⟨.session 0, 0, live, by decide⟩,
    ⟨.session 0, 0, (modCtx 0 (fun x => { x with st := 1 }) (live) : State), by decide⟩,
    ⟨.session 0, 0, { liveReel with slu.store := tset 0 reel2 (0x1C9403 + 0x400 * wsOf 0) 0x40000000, mst.ctxs := [(0, { st := 1 })] }, by decide⟩,
    ⟨.session 0, 0, List.replicate 8 0, { live with mst.ctxs := [(0, { st := 1 })] }, by decide⟩,
    ⟨0, 0, { no := 0, members := [(0, { due := some 0 })] }, { live with mst.ctxs := [(0, { st := 2, chunks := [{ no := 0, members := [(0, { due := some 0 })] }] })] }, by decide⟩,
    ⟨0, 0, { no := 0, members := [(0, { due := some 0 })] }, { live with mst.ctxs := [(0, { st := 2, chunks := [{ no := 0, members := [(0, { due := some 0 })] }] })], tc.frameNo := 2 }, by decide⟩,
    ⟨0, 125, live, by decide⟩,
    ⟨0, 124, ({ live with gaf.vmill := 850 } : State), by decide, by decide, by decide, by decide, (fun x (h : (none : Option _) = some x) => nomatch h), by decide⟩,
    ⟨0, 0, live, by decide⟩⟩

theorem test_w15 : -- SitesArePoweredAndTheirVoltageMoves
    (∃ (n : Nat) (s : State), s.flt.safe = false
        ∧ s.boot.dark = false
        ∧ sitePresent s.part n = true
        ∧ ((siteOf s n).st = 1 ∨ (siteOf s n).st = 5 ∧ siteRetrying s n = true)
        ∧ 9 ≤ s.boot.phase)
    ∧ (∃ (n : Nat) (code : Nat) (s : State), siteOn s n = true
        ∧ code ≤ 90)
    ∧ (∃ (code : Nat), 90 < code)
    ∧ (∃ (n : Nat) (s : State), siteOn s n = true
        ∧ (∀ t, (siteOf s n).lastStep = some t → t + 1000 ≤ s.now)
        ∧ (siteOf s n).vset ≠ max (siteOf s n).limits.min (min (siteOf s n).limits.max (siteOf s n).vreq))
    ∧ (∃ (n : Nat) (s : State), (siteOf s n).vset = max (siteOf s n).limits.min (min (siteOf s n).limits.max (siteOf s n).vreq))
    ∧ (∃ (n : Nat) (s : State), siteOn s n = true)
    ∧ (∃ (n : Nat) (s : State), siteOn s n = true)
    ∧ (∃ (n : Nat) (s : State), siteOn s n = true)
    ∧ (∃ (n : Nat) (g : Nat) (s : State), siteOn s n = true
        ∧ g < 64)
    ∧ (∃ (n : Nat) (m : Nat) (s : State), s.flt.safe = false
        ∧ 2 ≤ (siteOf s n).st
        ∧ (siteOf s n).st ≠ 5
        ∧ m < 64)
    ∧ (∃ (s : State), s.flt.safe = true)
    ∧ (∃ (n : Nat) (x : Tick) (s : State), sbLive s n = true
        ∧ (siteOf s n).neg.lastTempAt = some x
        ∧ x + 1000000 ≤ s.now) :=
  ⟨⟨0, (modSite 0 (fun x => { x with st := 1 }) (live) : State), by decide⟩,
    ⟨0, 0, live, by decide⟩,
    ⟨91, by decide⟩,
    ⟨0, (modSite 0 (fun x => { x with vreq := 41 }) (live) : State), by decide, (fun x (h : (none : Option _) = some x) => nomatch h), by decide⟩,
    ⟨0, live, by decide⟩,
    ⟨0, live, by decide⟩,
    ⟨0, live, by decide⟩,
    ⟨0, live, by decide⟩,
    ⟨0, 0, live, by decide⟩,
    ⟨0, 0, live, by decide⟩,
    ⟨({ live with flt.safe := true } : State), by decide⟩,
    ⟨0, 0, (modSite 0 (fun x => { x with neg.lastTempAt := some 0 }) (live) : State), by decide⟩⟩

theorem test_w16 : -- TheSidebandNegotiatesAndAnswers
    (∃ (n : Nat) (s : State), sbLive s n = true
        ∧ (siteOf s n).neg.aligned = false
        ∧ (siteOf s n).neg.done = false)
    ∧ (∃ (n : Nat) (w : Nat) (s : State), sbLive s n = true
        ∧ (siteOf s n).neg.aligned = true
        ∧ (siteOf s n).neg.done = false
        ∧ w < 32)
    ∧ (∃ (n : Nat) (s : State), sbLive s n = true
        ∧ (siteOf s n).neg.aligned = true
        ∧ (siteOf s n).neg.done = false)
    ∧ (∃ (n : Nat) (m : SbMsg) (s : State), sbLive s n = true
        ∧ (siteOf s n).sb.sent = some m)
    ∧ (∃ (n : Nat) (s : State), sbLive s n = true)
    ∧ (∃ (n : Nat) (s : State), (siteOf s n).sb.start.isSome = true)
    ∧ (∃ (n : Nat) (s : State), sbLive s n = true
        ∧ (siteOf s n).neg.done = true)
    ∧ (∃ (n : Nat) (delta : Nat) (s : State), gafRuns s = true
        ∧ sbLive s n = true
        ∧ siteServing s n = true
        ∧ bit (siteFeatures s n) 2 = true
        ∧ 0 < sgn 10 delta
        ∧ s.gaf.f = 1000000
        ∧ slewRoom s n (sgn 10 delta).natAbs ≠ 0)
    ∧ (∃ (n : Nat) (m : Nat) (seq : Nat) (f : Flit) (s : State), sbLive s n = true
        ∧ 32 ≤ m
        ∧ m < 64
        ∧ (linkOf s n (m % 32)).offWait = true
        ∧ (linkOf s n (m % 32)).held = [f]
        ∧ f.seq.toNat = seq)
    ∧ (∃ (n : Nat) (tag : Byte) (s : State), sbLive s n = true
        ∧ savedRsp s n tag = none
        ∧ csAnswers s = true)
    ∧ (∃ (n : Nat) (tag : Byte) (s : State), sbLive s n = true
        ∧ savedRsp s n tag = none
        ∧ csAnswers s = true)
    ∧ (∃ (n : Nat) (tag : Byte) (w : Bool) (v : Word32) (s : State), sbLive s n = true
        ∧ savedRsp s n tag = some (w, v)) :=
  ⟨⟨0, (modSite 0 (fun x => { x with neg.done := false }) (modSite 0 (fun x => { x with neg.aligned := false }) (live)) : State), by decide⟩,
    ⟨0, 0, (modSite 0 (fun x => { x with neg.done := false }) (modSite 0 (fun x => { x with neg.aligned := true }) (live)) : State), by decide⟩,
    ⟨0, (modSite 0 (fun x => { x with neg.done := false }) (modSite 0 (fun x => { x with neg.aligned := true }) (live)) : State), by decide⟩,
    ⟨0, { kind := .hello, vals := [] }, (modSite 0 (fun x => { x with sb := { start := some 0, sent := some { kind := .hello, vals := [] } } }) (modSite 0 (fun x => { x with sb.sent := some { kind := .hello, vals := [] } }) (live)) : State), by decide⟩,
    ⟨0, live, by decide⟩,
    ⟨0, modSite 0 (fun x => { x with sb := { start := some 0 } }) live, by decide⟩,
    ⟨0, (modSite 0 (fun x => { x with neg.done := true }) (live) : State), by decide⟩,
    ⟨0, 1, ({ live with gaf.f := 1000000 } : State), by decide +kernel⟩,
    ⟨0, 32, 0, {}, (modSite 0 (fun x => { x with links := [(0, { offWait := true, held := [{}] })] }) (live) : State), by decide⟩,
    ⟨0, 0, live, by decide⟩,
    ⟨0, 0, live, by decide⟩,
    ⟨0, 0, true, 7, ({ live with csp.lastRsp := [(0, some (0, true, 7))] } : State), by decide⟩⟩

theorem test_w17 : -- SitesTrainTrimRepairAndDegrade
    (∃ (n : Nat) (r : TrainResult) (s : State), s.flt.safe = false
        ∧ (siteOf s n).st = 2
        ∧ r.answered = false)
    ∧ (∃ (n : Nat) (m : Nat) (r : TrainResult) (s : State), s.flt.safe = false
        ∧ (siteOf s n).st = 2
        ∧ r.answered = true
        ∧ (siteOf s n).neg.done = true
        ∧ (siteOf s n).neg.accepted = true
        ∧ r.clockFail = some m)
    ∧ (∃ (n : Nat) (r : TrainResult) (s : State), s.flt.safe = false
        ∧ (siteOf s n).st = 2
        ∧ r.answered = true
        ∧ (siteOf s n).neg.done = true
        ∧ (siteOf s n).neg.accepted = true
        ∧ r.clockFail = none
        ∧ r.failed = []
        ∧ r.taps = []
        ∧ fld (agreedWord s n 1) 8 6 = 32
        ∧ fld (agreedWord s n 1) 14 6 = 32)
    ∧ (∃ (n : Nat) (s : State), s.flt.safe = false
        ∧ (siteOf s n).st = 3
        ∧ (siteOf s n).freeze = true
        ∧ (∀ x, (siteOf s n).lastTrim = some x → x + 10000 ≤ s.now))
    ∧ (∃ (n : Nat) (k : Nat) (g : Nat) (s : State), s.flt.safe = false
        ∧ (siteOf s n).st = 3
        ∧ (siteOf s n).freeze = false
        ∧ (siteOf s n).lastTrim = none
        ∧ (siteOf s n).targets = [(k, some g)])
    ∧ (∃ (p : Path) (n : Nat) (m : Nat) (lane : Nat) (s : State), mayWrite s p .i = true
        ∧ sitePresent s.part n = true
        ∧ m < 32
        ∧ lane < 69)
    ∧ (∃ (p : Path) (n : Nat) (s : State), mayWrite s p .i = true
        ∧ sitePresent s.part n = true)
    ∧ (∃ (n : Nat) (m : Nat) (lane : Nat) (k : Nat) (stuck : Bool) (s : State), s.flt.safe = false
        ∧ (siteOf s n).st = 3
        ∧ laneFailing s n m lane stuck = true
        ∧ modUp s n m = true
        ∧ m < 32
        ∧ lane < 64
        ∧ ((modOf s n m).st = 1 ∨ lane / 32 = (modOf s n m).half)
        ∧ (modOf s n m).narrowing = none
        ∧ (modOf s n m).repair = none
        ∧ freeSpare (modOf s n m) (lane / 32) = some k)
    ∧ (∃ (n : Nat) (m : Nat) (lane : Nat) (s : State), (∀ p, tget none (siteOf s n).margin (m * 128 + lane) = some p → 8 ≤ p.1 ∧ 4 ≤ p.2)
        ∧ (((tget [] (siteOf s n).laneTimes (m * 128 + lane)).filter (fun t => decide (s.now < t + 1000000))).length ≤ 256))
    ∧ (∃ (n : Nat) (m : Nat) (lane : Nat) (s : State), s.flt.safe = false
        ∧ (siteOf s n).st = 3
        ∧ (modOf s n m).st = 1
        ∧ 32 ≤ m
        ∧ m < 64
        ∧ lane < 64
        ∧ (modOf s n m).narrowing = none
        ∧ (modOf s n m).repair = none
        ∧ (modOf s n m).failing = []
        ∧ freeSpare (modOf s n m) (lane / 32) = none)
    ∧ (∃ (n : Nat) (m : Nat) (lane : Nat) (k : Nat) (s : State), s.flt.safe = false
        ∧ modUp s n m = true
        ∧ (modOf s n m).repair = some (lane, k)
        ∧ (modOf s n m).failing = [])
    ∧ (∃ (n : Nat) (m : Nat) (h : Nat) (s : State), s.flt.safe = false
        ∧ (modOf s n m).narrowing = some h
        ∧ (modOf s n m).failing = []
        ∧ m < 32)
    ∧ (∃ (n : Nat) (x : Tick) (s : State), s.flt.safe = false
        ∧ (siteOf s n).fallbackAt = some x
        ∧ x + 6000 ≤ s.now) :=
  ⟨⟨0, { answered := false }, (modSite 0 (fun x => { x with st := 2 }) (live) : State), by decide⟩,
    ⟨0, 32, { clockFail := some 32 }, (modSite 0 (fun x => { x with neg.accepted := true }) (modSite 0 (fun x => { x with neg.done := true }) (modSite 0 (fun x => { x with st := 2 }) (live))) : State), by decide⟩,
    ⟨0, {}, (modSite 0 (fun x => { x with neg.accepted := true }) (modSite 0 (fun x => { x with neg.done := true }) (modSite 0 (fun x => { x with st := 2 }) (live))) : State), by decide⟩,
    ⟨0, (modSite 0 (fun x => { x with freeze := true }) (modSite 0 (fun x => { x with st := 3 }) (live)) : State), by decide, by decide, by decide, (fun x (h : (none : Option _) = some x) => nomatch h)⟩,
    ⟨0, 0, 0, (modSite 0 (fun x => { x with targets := [(0, some 0)] }) (modSite 0 (fun x => { x with lastTrim := none }) (modSite 0 (fun x => { x with freeze := false }) (modSite 0 (fun x => { x with st := 3 }) (live)))) : State), by decide⟩,
    ⟨.session 0, 0, 0, 0, live, by decide⟩,
    ⟨.session 0, 0, live, by decide⟩,
    ⟨0, 0, 0, 0, true, (modSite 0 (fun x => { x with st := 3 }) (live) : State), by decide⟩,
    ⟨0, 0, 0, live, (fun x (h : (none : Option _) = some x) => nomatch h), by decide⟩,
    ⟨0, 32, 0, (modSite 0 (fun x => { x with mods := [(32, { st := 1, spares := [1, 2, 0x7F, 0x7F] })] }) (modSite 0 (fun x => { x with st := 3 }) (live)) : State), by decide⟩,
    ⟨0, 0, 5, 1, (modSite 0 (fun x => { x with mods := [(0, { st := 1, repair := some (5, 1) })] }) (live) : State), by decide⟩,
    ⟨0, 0, 1, (modSite 0 (fun x => { x with mods := [(0, { st := 1, narrowing := some 1 })] }) (live) : State), by decide⟩,
    ⟨0, 0, (modSite 0 (fun x => { x with fallbackAt := some 0 }) (live) : State), by decide⟩⟩

theorem test_w18 : -- SiteFlitsArriveAndLeave
    (∃ (n : Nat) (k : Nat) (f : Flit) (errs : List (Nat × Byte)) (s : State), flitsCross s n = true
        ∧ k < 32
        ∧ modUp s n k = true
        ∧ (flitUncorrectable errs = true ∨ ((flitDecoded f errs).type ≠ 0 ∧ (flitDecoded f errs).type ≠ 1 ∧ (flitDecoded f errs).type ≠ 3))
        ∧ (linkOf s n k).nakAt = none)
    ∧ (∃ (n : Nat) (k : Nat) (f : Flit) (s : State), flitsCross s n = true
        ∧ k < 32
        ∧ modUp s n k = true
        ∧ f.type = 0
        ∧ f.nak = false)
    ∧ (∃ (n : Nat) (k : Nat) (f : Flit) (s : State) (u : State), flitsCross s n = true
        ∧ k < 32
        ∧ modUp s n k = true
        ∧ f.type = 1
        ∧ f.nak = false
        ∧ takeAck n k f.ack false (laneErrors n k [] s) = u
        ∧ f.seq.toNat = (linkOf u n k).expect
        ∧ (linkOf u n k).expect < 4095
        ∧ f.slots.filterMap id = []
        ∧ (linkOf s n k).inbound = [])
    ∧ (∃ (n : Nat) (k : Nat) (f : Flit) (s : State) (u : State), flitsCross s n = true
        ∧ k < 32
        ∧ modUp s n k = true
        ∧ f.type = 1
        ∧ f.nak = false
        ∧ takeAck n k f.ack false (laneErrors n k [] s) = u
        ∧ f.seq.toNat ≠ (linkOf u n k).expect
        ∧ (linkOf u n k).nakAt = none)
    ∧ (∃ (n : Nat) (k : Nat) (x : Tick) (s : State), s.flt.safe = false
        ∧ (linkOf s n k).nakAt = some x
        ∧ x + nakTicks s n k ≤ s.now)
    ∧ (∃ (l : Nat) (w : Nat) (x : Tick) (s : State), s.flt.safe = false
        ∧ (podLane s l w).nakAt = some x
        ∧ x + 2634 ≤ s.now)
    ∧ (∃ (src : Nat) (dst : Nat) (l : Nat) (x : Tick) (s : State), s.flt.safe = false
        ∧ src < 36
        ∧ carries s src dst l = true
        ∧ (lamOf s src l).nakAt = some x
        ∧ x + 2634 ≤ s.now)
    ∧ (∃ (n : Nat) (k : Nat) (e : HopEntry) (s : State), flitsCross s n = true
        ∧ k < 32
        ∧ modTakes s n (32 + k) = true
        ∧ (linkOf s n k).held.length < 64
        ∧ hopNext s n k = some e)
    ∧ (∃ (n : Nat) (k : Nat) (s : State), (linkOf s n k).nextSeq < 4095)
    ∧ (∃ (n : Nat) (p : SignalPos) (s : State), flitsCross s n = true
        ∧ signalAgreed s n p = true)
    ∧ (∃ (n : Nat) (d : Nat) (j : Nat) (p : SignalPos) (s : State), flitsCross s n = true
        ∧ signalAgreed s n p = true
        ∧ p.node = s.ident.node
        ∧ jobOfSite s n = some j
        ∧ d ≠ n
        ∧ ssOf d ≠ ssOf n
        ∧ pairFenced s (ssOf n) (ssOf d) = false
        ∧ pairLit s (ssOf n) (ssOf d) = true
        ∧ ((List.range 12).filter (fun x => bit p.sites x && siteUp s x && (jobSites s j).contains x) = [d]))
    ∧ (∃ (n : Nat) (m : Nat) (sel : Nat) (data : Line) (d : FeedDef) (s : State) (t : State), flitsCross s n = true
        ∧ m < 4096
        ∧ bit (siteFeatures s n) 5 = true
        ∧ ((pushFeeds s (ssOf n)).find? (fun f => f.1 == m) = some (m, sel, d))
        ∧ tget 0 (siteOf s n).streamIn m ≠ 0
        ∧ (ringPush (ringKey (ssOf n) sel d) d.ringLines (data, false) (modSite n (fun x => { x with streamIn := tset 0 x.streamIn m (tget 0 (siteOf s n).streamIn m - 1) }) s) = some t))
    ∧ (∃ (n : Nat) (m : Nat) (s : State), flitsCross s n = true
        ∧ m < 4096
        ∧ bit (siteFeatures s n) 5 = true
        ∧ ((pushFeeds s (ssOf n)).find? (fun f => f.1 == m) = none))
    ∧ (∃ (n : Nat) (m : Nat) (lines : Nat) (s : State), flitsCross s n = true
        ∧ m < 4096
        ∧ lines < 2 ^ 32
        ∧ bit (siteFeatures s n) 6 = true) :=
  ⟨⟨0, 0, { type := 2 }, [], live, by decide⟩,
    ⟨0, 0, { type := 0 }, live, by decide⟩,
    ⟨0, 0, {}, live, live, by decide +kernel⟩,
    ⟨0, 0, { seq := 1 }, live, takeAck 0 0 0 false (laneErrors 0 0 [] live), by decide +kernel⟩,
    ⟨0, 0, 0, (modSite 0 (fun x => { x with links := [(0, { nakAt := some 0 })] }) (live) : State), by decide⟩,
    ⟨0, 0, 0, ((modPodLane 0 0 (fun x => { x with nakAt := some 0 })) (live) : State), by decide⟩,
    ⟨0, 1, 0, 0, ({ live with mrc.lambdas := [(0, { nakAt := some 0 })] } : State), by decide⟩,
    ⟨0, 0, { slots := [], stream := true }, (modSite 0 (fun x => { x with links := [(0, { hopper := [{ slots := [], stream := true }] })] }) (live) : State), by decide⟩,
    ⟨0, 0, live, by decide⟩,
    ⟨0, { value := 0, sites := 1, tag := 0, node := 1 }, live, by decide⟩,
    ⟨0, 1, 1, { value := 0, sites := 2, tag := 0, node := 1 }, { live with role.jobs := [(1, { job1 with words := tset 0 job1.words 1 3 })] }, by decide⟩,
    ⟨0, 0, 0, 0, feedDef (modSite 0 (fun x => { x with streamIn := [(0, 1)] }) { liveReel with slu.store := [(0x1C0800, 0x4000), (0x1C0803, 0x10000000)] }) 0 1 0, modSite 0 (fun x => { x with streamIn := [(0, 1)] }) { liveReel with slu.store := [(0x1C0800, 0x4000), (0x1C0803, 0x10000000)] }, (ringPush (ringKey (ssOf 0) 0 (feedDef (modSite 0 (fun x => { x with streamIn := [(0, 1)] }) { liveReel with slu.store := [(0x1C0800, 0x4000), (0x1C0803, 0x10000000)] }) 0 1 0)) (feedDef (modSite 0 (fun x => { x with streamIn := [(0, 1)] }) { liveReel with slu.store := [(0x1C0800, 0x4000), (0x1C0803, 0x10000000)] }) 0 1 0).ringLines (0, false) (modSite 0 (fun x => { x with streamIn := tset 0 x.streamIn 0 0 }) (modSite 0 (fun x => { x with streamIn := [(0, 1)] }) { liveReel with slu.store := [(0x1C0800, 0x4000), (0x1C0803, 0x10000000)] }))).getD live, by decide +kernel⟩,
    ⟨0, 0, live, by decide⟩,
    ⟨0, 0, 0, live, by decide⟩⟩

theorem test_w19 : -- PodLinksTrainDropLanesAndAreQuarantined
    (∃ (l : Nat) (m : Word16) (s : State), s.flt.safe = false
        ∧ s.boot.dark = false
        ∧ hasLink s.part.variant l = true
        ∧ 10 ≤ s.boot.phase
        ∧ ((linkFenced s l = false ∧ (podLink s l).st ≤ 1) ∨ linkRetrying s l = true)
        ∧ 4 ≤ (lanesIn m).length)
    ∧ (∃ (l : Nat) (m : Word16) (s : State), s.flt.safe = false
        ∧ s.boot.dark = false
        ∧ hasLink s.part.variant l = true
        ∧ 10 ≤ s.boot.phase
        ∧ linkFenced s l = false
        ∧ (podLink s l).st ≤ 1
        ∧ (lanesIn m).length < 4)
    ∧ (∃ (l : Nat) (c : LinkHelloCmd) (s : State), linkLive s l = true
        ∧ (c.isSwitch = true ∨ (nodeKind s c.node = 1 ∧ c.node ≠ s.ident.node))
        ∧ (podLink s l).st ≠ 3)
    ∧ (∃ (l : Nat) (c : LinkHelloCmd) (s : State), linkLive s l = true
        ∧ c.isSwitch = false
        ∧ c.node = s.ident.node)
    ∧ (∃ (l : Nat) (w : Nat) (cause : Nat) (s : State), dropSeen s l w cause = true
        ∧ linkLive s l = true
        ∧ bit (podLink s l).map w = true
        ∧ w < 16
        ∧ (podLink s l).drops = []
        ∧ (podLink s l).exch = none)
    ∧ (∃ (l : Nat) (w : Nat) (cause : Nat) (s : State), dropSeen s l w cause = false)
    ∧ (∃ (l : Nat) (c : LaneMapCmd) (e : LaneExch) (s : State), linkLive s l = true
        ∧ c.ack = true
        ∧ (podLink s l).exch = some e
        ∧ c.ackEpoch.toNat = e.epoch
        ∧ (podLink s l).drops = []
        ∧ 4 ≤ (lanesIn (e.lanes &&& c.lanes)).length)
    ∧ (∃ (l : Nat) (c : LaneMapCmd) (s : State), linkLive s l = true
        ∧ c.ack = false
        ∧ c.epoch.toNat = (podLink s l).epoch
        ∧ (podLink s l).st ≠ 1)
    ∧ (∃ (l : Nat) (c : LaneMapCmd) (s : State), linkLive s l = true
        ∧ c.ack = false
        ∧ c.epoch.toNat = (podLink s l).epoch
        ∧ (podLink s l).st = 1
        ∧ 4 ≤ (lanesIn ((podLink s l).map &&& c.lanes)).length)
    ∧ (∃ (l : Nat) (e : LaneExch) (s : State), (podLink s l).exch = some e
        ∧ linkLive s l = true
        ∧ e.sent + 5000 ≤ s.now)
    ∧ (∃ (l : Nat) (s : State), s.flt.safe = false
        ∧ l < 48
        ∧ (podLink s l).st = 2
        ∧ (1000 < ((podLink s l).violAt.filter (fun t => decide (s.now < t + 1000000000))).length))
    ∧ (∃ (s : State), (∀ l < 48, ((podLink s l).violAt.filter (fun t => decide (s.now < t + 1000000000))).length ≤ 1000))
    ∧ (∃ (l : Nat) (x : Nat) (rest : List Nat) (s : State), s.flt.safe = false
        ∧ (podLink s l).st = 3
        ∧ (podLink s l).violAt = x :: rest
        ∧ x + 10000000000 ≤ s.now)
    ∧ (∃ (p : Path) (s : State), mayWrite s p .i = true) :=
  ⟨⟨0, 0xFFFF, (modPodLink 0 (fun x => { x with st := 1 }) (live) : State), by decide⟩,
    ⟨0, 7, (modPodLink 0 (fun x => { x with st := 0 }) (live) : State), by decide⟩,
    ⟨0, { node := 2, isSwitch := false, xs := 0, link := 0, rev := 1 }, live, by decide⟩,
    ⟨0, { node := 1, isSwitch := false, xs := 0, link := 0, rev := 1 }, live, by decide⟩,
    ⟨0, 0, 1, (modPodLink 0 (fun x => { x with exch := none }) (modPodLink 0 (fun x => { x with drops := [] }) (live)) : State), by decide⟩,
    ⟨0, 0, 0, live, by decide⟩,
    ⟨0, { lanes := 0xF, epoch := 1, ackEpoch := 1, lane := 0, cause := 0, ack := true }, { epoch := 1, lanes := 0xFFFF, lane := 0, cause := 0, sent := 0 }, (modPodLink 0 (fun x => { x with exch := some { epoch := 1, lanes := 0xFFFF, lane := 0, cause := 0, sent := 0 } }) (modPodLink 0 (fun x => { x with drops := [] }) (modPodLink 0 (fun x => { x with exch := some { epoch := 1, lanes := 0xFFFF, lane := 0, cause := 0, sent := 0 } }) (live))) : State), by decide⟩,
    ⟨0, { lanes := 0xFFFF, epoch := 0, ackEpoch := 0, lane := 0, cause := 0, ack := false }, live, by decide⟩,
    ⟨0, { lanes := 0xF, epoch := 1, ackEpoch := 0, lane := 0, cause := 0, ack := false }, (modPodLink 0 (fun x => { x with st := 1, epoch := 1 }) (modPodLink 0 (fun x => { x with st := 1 }) (live)) : State), by decide⟩,
    ⟨0, { epoch := 1, lanes := 0xFFFF, lane := 0, cause := 0, sent := 0 }, (modPodLink 0 (fun x => { x with exch := some { epoch := 1, lanes := 0xFFFF, lane := 0, cause := 0, sent := 0 } }) (live) : State), by decide⟩,
    ⟨0, (modPodLink 0 (fun x => { x with violAt := List.replicate 1001 (10 ^ 15) }) (modPodLink 0 (fun x => { x with st := 2 }) (live)) : State), by decide +kernel⟩,
    ⟨live, by decide⟩,
    ⟨0, 0, [], (modPodLink 0 (fun x => { x with violAt := 0 :: [] }) (modPodLink 0 (fun x => { x with st := 3 }) (live)) : State), by decide⟩,
    ⟨.session 0, live, by decide⟩⟩

theorem test_w20 : -- FlowsOpenAcknowledgeAndForward
    (∃ (x : Nat) (node : Nat) (job : Nat) (cls : Nat) (c : Nat) (s : State), s.flt.safe = false
        ∧ hasXs s.part.variant x = true
        ∧ nodeKind s (BitVec.ofNat 16 node) = 1
        ∧ txFlow s (BitVec.ofNat 16 node) job cls = none
        ∧ cls < 7
        ∧ job < 256
        ∧ flowWanted s x (BitVec.ofNat 16 node) job cls = true
        ∧ (xsLinks s x).isEmpty = false
        ∧ s.pair.cfg = none
        ∧ takeCtx s = some (c, s))
    ∧ (∃ (l : Nat) (w : Nat) (r : RouteCmd) (f : RxFlow) (s : State), linkLive s l = true
        ∧ w < 16
        ∧ bit (podLink s l).map w = true
        ∧ (podLink s l).st ≠ 4
        ∧ r.cls ≠ 7
        ∧ routeBad s l r = false
        ∧ rxFlow s r.srcNode r.job.toNat r.cls.toNat = some f)
    ∧ (∃ (l : Nat) (w : Nat) (r : RouteCmd) (s : State), linkLive s l = true
        ∧ w < 16
        ∧ bit (podLink s l).map w = true
        ∧ (podLink s l).st ≠ 4
        ∧ r.cls ≠ 7
        ∧ r.destNode ≠ s.ident.node)
    ∧ (∃ (l : Nat) (a : FlowAckCmd) (s : State), linkLive s l = true
        ∧ (podLink s l).st ≠ 4
        ∧ a.destNode ≠ s.ident.node)
    ∧ (∃ (l : Nat) (a : FlowAckCmd) (f : TxFlow) (s : State), linkLive s l = true
        ∧ (podLink s l).st ≠ 4
        ∧ a.destNode = s.ident.node
        ∧ txFlow s a.srcNode a.job.toNat a.cls.toNat = some f
        ∧ (a.fack - f.fack).toNat < 2 ^ 31
        ∧ a.window ≠ 0
        ∧ f.openAt = none)
    ∧ (∃ (c : Nat) (l : Nat) (f : RxFlow) (g : RxFlow) (s : State), s.flt.safe = false
        ∧ (s.pod.rx.find? (fun f => f.ctx == c) = some f)
        ∧ (g = { f with window := if flowStopped s f then f.window else nextWindow s f, stopped := flowStopped s f })
        ∧ (f.dirty = true ∨ g.window ≠ f.window ∨ g.stopped ≠ f.stopped)
        ∧ (f.lastAck + 1000 ≤ s.now ∨ shownWindow g = 0)
        ∧ xsLink s f.xs = some l)
    ∧ (∃ (x : Nat) (m : FwdMsg) (s : State), s.flt.safe = false
        ∧ hasXs s.part.variant x = true
        ∧ m.lines ≠ []
        ∧ m.lines.length ≤ 256
        ∧ (routeOf s m.destNode.toNat).kind = 3
        ∧ m.site < 12
        ∧ siteTakesFwd s m.site = true)
    ∧ (∃ (x : Nat) (m : FwdMsg) (s : State), s.flt.safe = false
        ∧ hasXs s.part.variant x = true
        ∧ m.lines ≠ []
        ∧ m.lines.length ≤ 256
        ∧ (routeOf s m.destNode.toNat).kind = 1
        ∧ (8 ≤ m.hops ∨ (hopUp s m.destNode.toNat = true ∧ m.down = true)))
    ∧ (∃ (x : Nat) (m : FwdMsg) (s : State), s.flt.safe = false
        ∧ hasXs s.part.variant x = true
        ∧ m.lines ≠ []
        ∧ m.lines.length ≤ 256
        ∧ (routeOf s m.destNode.toNat).kind = 0) :=
  ⟨⟨0, 2, 0, 0, 0, ({ live with pair.cfg := none, pod.waiting := [{ st := xsOf 0, cls := 0, node := 2, job := 0, slots := [] }] } : State), by decide +kernel⟩,
    ⟨0, 0, { destNode := 1, srcNode := 2, destXs := 0, srcXs := 0, job := 0, cls := 0, fseq := 0 }, { node := 2, job := 0, cls := 0, xs := 0, srcXs := 0 }, ({ live with pod.rx := [{ node := 2, job := 0, cls := 0, xs := 0, srcXs := 0 }] } : State), by decide⟩,
    ⟨0, 0, { destNode := 3, srcNode := 2, destXs := 0, srcXs := 0, job := 0, cls := 0, fseq := 0 }, live, by decide⟩,
    ⟨0, { destNode := 3, srcNode := 2, destXs := 0, srcXs := 0, job := 0, cls := 0, fack := 0, window := 8 }, live, by decide⟩,
    ⟨0, { destNode := 1, srcNode := 2, destXs := 0, srcXs := 0, job := 0, cls := 0, fack := 0, window := 8 }, { node := 2, job := 0, cls := 0, xs := 0, remoteXs := 0 }, ({ live with pod.tx := [{ node := 2, job := 0, cls := 0, xs := 0, remoteXs := 0 }] } : State), by decide⟩,
    ⟨0, 0, { node := 2, job := 0, cls := 0, xs := 0, srcXs := 0, dirty := true }, (fun f : RxFlow => { f with window := if flowStopped (({ live with pod.rx := [{ node := 2, job := 0, cls := 0, xs := 0, srcXs := 0, dirty := true }] } : State)) f then f.window else nextWindow (({ live with pod.rx := [{ node := 2, job := 0, cls := 0, xs := 0, srcXs := 0, dirty := true }] } : State)) f, stopped := flowStopped (({ live with pod.rx := [{ node := 2, job := 0, cls := 0, xs := 0, srcXs := 0, dirty := true }] } : State)) f }) { node := 2, job := 0, cls := 0, xs := 0, srcXs := 0, dirty := true }, ({ live with pod.rx := [{ node := 2, job := 0, cls := 0, xs := 0, srcXs := 0, dirty := true }] } : State), by decide⟩,
    ⟨0, { destNode := 1, srcNode := 2, site := 0, down := false, hops := 0, msg := 0, lines := [0] }, live, by decide⟩,
    ⟨0, { destNode := 2, srcNode := 2, site := 0, down := true, hops := 8, msg := 0, lines := [0] }, live, by decide⟩,
    ⟨0, { destNode := 9, srcNode := 2, site := 0, down := false, hops := 0, msg := 0, lines := [0] }, live, by decide⟩⟩

theorem test_w21 : -- RouteTablesAreCheckedSwappedAndCopied
    (∃ (p : Path) (s : State), mayWrite s p .i = true
        ∧ s.pod.rtSt ≤ 3)
    ∧ (∃ (n : Nat) (r : Nat) (s : State), s.flt.safe = false
        ∧ s.pod.rtSt = 1
        ∧ tableFail s s.pod.routeNext = some (n, r))
    ∧ (∃ (s : State), s.flt.safe = false
        ∧ s.pod.rtSt = 1
        ∧ tableFail s s.pod.routeNext = none)
    ∧ (∃ (p : Path) (n : Nat) (s : State), mayWrite s p .i = true
        ∧ s.pod.rtSt = 2
        ∧ s.slu.tableMode = false
        ∧ ((rtAffected s).find? (fun n => (runningJobs s).any (fun j => jobMember s j n)) = some n))
    ∧ (∃ (p : Path) (s : State), mayWrite s p .i = true
        ∧ s.pod.rtSt = 2
        ∧ s.slu.tableMode = false
        ∧ reelActive s = true
        ∧ ((rtAffected s).find? (fun n => (runningJobs s).any (fun j => jobMember s j n)) = none))
    ∧ (∃ (p : Path) (s : State), mayWrite s p .i = true
        ∧ s.pod.rtSt = 2
        ∧ s.slu.tableMode = true
        ∧ reelActive s = false)
    ∧ (∃ (s : State), s.flt.safe = false
        ∧ s.pod.rtSt = 4
        ∧ s.pod.tx = []
        ∧ reelActive s = true)
    ∧ (∃ (s : State), s.flt.safe = false
        ∧ s.pod.rtSt = 4
        ∧ s.pod.drainEnd ≤ s.now
        ∧ reelActive s = false)
    ∧ (∃ (p : Path) (s : State), mayWrite s p .i = true
        ∧ (s.pod.rtSt = 4 ∨ s.pod.rtSt = 5))
    ∧ (∃ (p : Path) (s : State), mayWrite s p .i = true)
    ∧ (∃ (p : Path) (s : State), mayWrite s p .i = false) :=
  ⟨⟨.session 0, live, by decide⟩,
    ⟨1, 1, ({ live with pod.rtSt := 1, pod.routeNext := [] } : State), by decide⟩,
    ⟨({ live with pod.rtSt := 1, pod.routeNext := [(1, { kind := 3 })] } : State), by decide⟩,
    ⟨.session 0, 1, ({ liveJob with pod.rtSt := 2, slu.tableMode := false } : State), by decide⟩,
    ⟨.session 0, ({ live with pod.rtSt := 2, slu.tableMode := false, tc.reel := .running } : State), by decide⟩,
    ⟨.session 0, ({ live with pod.rtSt := 2, slu.tableMode := true } : State), by decide⟩,
    ⟨({ live with pod.rtSt := 4, pod.tx := [], tc.reel := .running } : State), by decide⟩,
    ⟨({ live with pod.rtSt := 4 } : State), by decide⟩,
    ⟨.session 0, ({ live with pod.rtSt := 4 } : State), by decide⟩,
    ⟨.session 0, live, by decide⟩,
    ⟨.session 9, live, by decide⟩⟩

theorem test_w22 : -- LanesReceiveAndSendFlits
    (∃ (l : Nat) (w : Nat) (errs : List (Nat × Byte)) (u : State) (t : State) (s : State), linkLive s l = true
        ∧ w < 16
        ∧ bit (podLink s l).map w = true
        ∧ laneStopped (podLink s l) w = false
        ∧ flitUncorrectable errs = true
        ∧ u = laneCorr l w (flitCorrected errs).length s
        ∧ (lately u (podLane u l w).uncorr).length < 16
        ∧ (t = laneReplay l w (modPodLane l w (fun x => { x with uncorr := u.now :: lately u (podLane u l w).uncorr }) u))
        ∧ dropSeen t l w 3 = false)
    ∧ (∃ (l : Nat) (w : Nat) (f : Flit) (errs : List (Nat × Byte)) (u : State) (s : State), linkLive s l = true
        ∧ w < 16
        ∧ bit (podLink s l).map w = true
        ∧ laneStopped (podLink s l) w = false
        ∧ flitUncorrectable errs = false
        ∧ (flitDecoded f errs).type = 0
        ∧ u = laneCorr l w (flitCorrected errs).length s
        ∧ dropSeen u l w 3 = false)
    ∧ (∃ (l : Nat) (w : Nat) (f : Flit) (g : Flit) (errs : List (Nat × Byte)) (v : State) (u : State) (s : State), linkLive s l = true
        ∧ w < 16
        ∧ bit (podLink s l).map w = true
        ∧ laneStopped (podLink s l) w = false
        ∧ flitUncorrectable errs = false
        ∧ g = flitDecoded f errs
        ∧ (g.type = 1 ∨ g.type = 3)
        ∧ v = laneCorr l w (flitCorrected errs).length s
        ∧ dropSeen v l w 3 = false
        ∧ u = laneAck l w g.ack g.nak v
        ∧ laneStopped (podLink u l) w = false
        ∧ g.seq.toNat = (podLane u l w).expect)
    ∧ (∃ (l : Nat) (w : Nat) (f : Flit) (g : Flit) (errs : List (Nat × Byte)) (v : State) (u : State) (s : State), linkLive s l = true
        ∧ w < 16
        ∧ bit (podLink s l).map w = true
        ∧ laneStopped (podLink s l) w = false
        ∧ flitUncorrectable errs = false
        ∧ g = flitDecoded f errs
        ∧ (g.type = 1 ∨ g.type = 3)
        ∧ v = laneCorr l w (flitCorrected errs).length s
        ∧ dropSeen v l w 3 = false
        ∧ u = laneAck l w g.ack g.nak v
        ∧ laneStopped (podLink u l) w = false
        ∧ g.seq.toNat = (podLane u l w).expect + 1
        ∧ (podLane u l w).nakAt = none)
    ∧ (∃ (l : Nat) (w : Nat) (f : TxFlow) (xs : List FlowSlot) (v : State) (s : State), linkLive s l = true
        ∧ dueLane s l = some w
        ∧ (v = modPodLink l (fun x => { x with laneTurn := (w + 1) % 16 }) s)
        ∧ (podLane v l w).held.length < 128
        ∧ pledged v l w = none
        ∧ cmdsFor v l w = []
        ∧ nextFlow v l = some f
        ∧ xs = runOf v f (linkCap v l f.cls - tget 0 (podLink v l).ourUsed f.cls) 4 3 (fromFirst v f)
        ∧ (∀ q, continues v (podLane v l w) f q = false)
        ∧ xs ≠ []
        ∧ xs.any (·.stream) = false)
    ∧ (∃ (l : Nat) (w : Nat) (v : State) (s : State), linkLive s l = true
        ∧ dueLane s l = some w
        ∧ (v = modPodLink l (fun x => { x with laneTurn := (w + 1) % 16 }) s)
        ∧ (podLane v l w).held.length < 128
        ∧ pledged v l w = none
        ∧ cmdsFor v l w ≠ [])
    ∧ (∃ (l : Nat) (w : Nat) (v : State) (s : State), linkLive s l = true
        ∧ dueLane s l = some w
        ∧ (v = modPodLink l (fun x => { x with laneTurn := (w + 1) % 16 }) s)
        ∧ (128 ≤ (podLane v l w).held.length ∨ (pledged v l w = none ∧ cmdsFor v l w = [] ∧ nextFlow v l = none ∧ (List.range 7).any (fun c => decide (tget 0 (podLink v l).owe c ≠ 0)) = false)))
    ∧ (∃ (l : Nat) (w : Nat) (s : State), dueLane s l ≠ some w) :=
  ⟨⟨0, 0, [(0, 1), (4, 2)], laneCorr 0 0 (flitCorrected ([(0, 1), (4, 2)])).length live, laneReplay 0 0 (modPodLane 0 0 (fun x => { x with uncorr := (laneCorr 0 0 (flitCorrected ([(0, 1), (4, 2)])).length live).now :: lately (laneCorr 0 0 (flitCorrected ([(0, 1), (4, 2)])).length live) (podLane (laneCorr 0 0 (flitCorrected ([(0, 1), (4, 2)])).length live) 0 0).uncorr }) (laneCorr 0 0 (flitCorrected ([(0, 1), (4, 2)])).length live)), live, by decide +kernel⟩,
    ⟨0, 0, { type := 0 }, [], laneCorr 0 0 (flitCorrected []).length live, live, by decide +kernel⟩,
    ⟨0, 0, {}, flitDecoded {} [], [], laneCorr 0 0 (flitCorrected []).length live, laneAck 0 0 (flitDecoded {} [] : Flit).ack (flitDecoded {} [] : Flit).nak (laneCorr 0 0 (flitCorrected []).length live), live, by decide +kernel⟩,
    ⟨0, 0, { seq := 1 }, flitDecoded { seq := 1 } [], [], laneCorr 0 0 (flitCorrected []).length live, laneAck 0 0 (flitDecoded { seq := 1 } [] : Flit).ack (flitDecoded { seq := 1 } [] : Flit).nak (laneCorr 0 0 (flitCorrected []).length live), live, by decide +kernel⟩,
    ⟨0, 0, { ctx := 1, node := 2, job := 0, cls := 0, xs := 0, remoteXs := 0, st := 1, window := 8, slots := [{ fseq := 0, slot := { cls := 0, op := 1 } }] }, [{ fseq := 0, slot := { cls := 0, op := 1 } }], modPodLink 0 (fun x => { x with laneTurn := (0 + 1) % 16 }) { live with pod.tx := [{ ctx := 1, node := 2, job := 0, cls := 0, xs := 0, remoteXs := 0, st := 1, window := 8, slots := [{ fseq := 0, slot := { cls := 0, op := 1 } }] }] }, { live with pod.tx := [{ ctx := 1, node := 2, job := 0, cls := 0, xs := 0, remoteXs := 0, st := 1, window := 8, slots := [{ fseq := 0, slot := { cls := 0, op := 1 } }] }] }, by decide +kernel, by decide +kernel, by decide +kernel, by decide +kernel, by decide +kernel, by decide +kernel, by decide +kernel, by decide +kernel, fun _ => rfl, by decide +kernel, by decide +kernel⟩,
    ⟨0, 0, modPodLink 0 (fun x => { x with laneTurn := (0 + 1) % 16 }) (modPodLink 0 (fun x => { x with cmds := [(none, .hello { node := 1, isSwitch := false, xs := 0, link := 0, rev := 1 })] }) (live) : State), (modPodLink 0 (fun x => { x with cmds := [(none, .hello { node := 1, isSwitch := false, xs := 0, link := 0, rev := 1 })] }) (live) : State), by decide⟩,
    ⟨0, 0, modPodLink 0 (fun x => { x with laneTurn := (0 + 1) % 16 }) live, live, by decide⟩,
    ⟨0, 1, live, by decide⟩⟩

theorem test_w23 : -- TimeCrossesThePod
    (∃ (l : Nat) (s : State), linkLive s l = true
        ∧ (podLink s l).hello = true
        ∧ (podLink s l).st ≠ 4
        ∧ ((podLink s l).time.sentAt = none ∨ (∃ a, (podLink s l).time.sentAt = some a ∧ a + 10000 ≤ s.now)))
    ∧ (∃ (l : Nat) (c : TimeCmd) (s : State), linkLive s l = true
        ∧ (podLink s l).st ≠ 4
        ∧ c.resp = false
        ∧ s.pod.upstream = none)
    ∧ (∃ (l : Nat) (c : TimeCmd) (t1 : Word64) (s : State), linkLive s l = true
        ∧ (podLink s l).st ≠ 4
        ∧ c.resp = true
        ∧ (podLink s l).time.t1 = some t1)
    ∧ (∃ (l : Nat) (c : TimeCmd) (s : State), linkLive s l = true
        ∧ (podLink s l).st ≠ 4
        ∧ c.resp = true
        ∧ (podLink s l).time.t1 = none)
    ∧ (∃ (s : State), s.pod.priority ≠ 255
        ∧ bestLink s = none)
    ∧ (∃ (l : Nat) (s : State), bestLink s = some l
        ∧ lexLt [s.pod.priority, s.ident.node.toNat] ((srcKey s l).take 2) = false)
    ∧ (∃ (l : Nat) (a : Tick) (s : State), s.flt.safe = false
        ∧ (podLink s l).time.lastValid = some a
        ∧ a + 100000 ≤ s.now
        ∧ ((List.range 48).any (timeUp (modPodLink l (fun x => { x with time := {} }) s)) = true))
    ∧ (∃ (l : Nat) (a : Tick) (s : State), s.flt.safe = false
        ∧ (podLink s l).time.lastValid = some a
        ∧ a + 100000 ≤ s.now
        ∧ ((List.range 48).any (timeUp (modPodLink l (fun x => { x with time := {} }) s)) = false))
    ∧ (∃ (s : State), s.pod.isSource = false) :=
  ⟨⟨0, (modPodLink 0 (fun x => { x with time.sentAt := none }) (modPodLink 0 (fun x => { x with hello := true }) (live)) : State), by decide, by decide, by decide, .inl (by decide)⟩,
    ⟨0, { resp := false, locked := true, hops := 0, sourceNode := 2, priority := 0, residence := 0, t3 := 0 }, ({ live with pod.upstream := none } : State), by decide⟩,
    ⟨0, { resp := true, locked := true, hops := 0, sourceNode := 2, priority := 0, residence := 0, t3 := 0 }, 0, (modPodLink 0 (fun x => { x with time.t1 := some 0 }) (live) : State), by decide⟩,
    ⟨0, { resp := true, locked := true, hops := 0, sourceNode := 2, priority := 0, residence := 0, t3 := 0 }, (modPodLink 0 (fun x => { x with time.t1 := none }) (live) : State), by decide⟩,
    ⟨({ live with pod.priority := 254 } : State), by decide⟩,
    ⟨0, { modPodLink 0 (fun x => { x with time := { locked := true, priority := 1, source := 2, lastValid := some (10 ^ 15) } }) live with pod.priority := 2 }, by decide⟩,
    ⟨0, 0, modPodLink 4 (fun x => { x with st := 2, map := 0xFFFF, hello := true, time := { lastValid := some (10 ^ 15) } }) (modPodLink 0 (fun x => { x with time := { lastValid := some 0 } }) live), by decide⟩,
    ⟨0, 0, (modPodLink 0 (fun x => { x with time.lastValid := some 0 }) (live) : State), by decide⟩,
    ⟨({ live with pod.isSource := false } : State), by decide⟩⟩

theorem test_w24 : -- LaserModulesAndFeedsFail
    (∃ (m : Nat) (s : State), s.flt.safe = false
        ∧ m < 16
        ∧ 6 ≤ s.boot.phase)
    ∧ (∃ (m : Nat) (u : State) (s : State), s.flt.safe = false
        ∧ m < 16
        ∧ 6 ≤ s.boot.phase
        ∧ u = { s with foc := { s.foc with asserting := m :: s.foc.asserting.filter (· ≠ m) }, pins := { s.pins with lsIntN := false } })
    ∧ (∃ (m : Nat) (k : Nat) (s : State), moduleFeeds s m = [k])
    ∧ (∃ (m : Nat) (s : State), s.flt.safe = false
        ∧ m < 16
        ∧ 6 ≤ s.boot.phase)
    ∧ (∃ (m : Nat) (fs : List LaserFlag) (s : State), s.flt.safe = false
        ∧ m < 16
        ∧ 6 ≤ s.boot.phase
        ∧ fs.contains .leftReady = false
        ∧ fs ≠ [])
    ∧ (∃ (m : Nat) (fs : List LaserFlag) (s : State), s.flt.safe = false
        ∧ m < 16
        ∧ 6 ≤ s.boot.phase
        ∧ fs.contains .leftReady = true)
    ∧ (∃ (k : Nat) (j : Nat) (line : Nat) (power : Nat) (u : State) (s : State), s.flt.safe = false
        ∧ k < 16
        ∧ (fieldsOf s.part.variant).contains (k / 4) = true
        ∧ (feedOf s k).low = false
        ∧ 7 ≤ s.boot.phase
        ∧ (u = modFeedSt k (fun x => { x with line := line % 16, weakest := min 255 power, lit := decide (110 ≤ power ∧ power ≤ 150) }) s)
        ∧ (feedOf u k).role ≠ 3
        ∧ standbyOf u (k / 4) = some j)
    ∧ (∃ (k : Nat) (line : Nat) (power : Nat) (u : State) (s : State), s.flt.safe = false
        ∧ k < 16
        ∧ (fieldsOf s.part.variant).contains (k / 4) = true
        ∧ (feedOf s k).low = false
        ∧ 7 ≤ s.boot.phase
        ∧ (u = modFeedSt k (fun x => { x with line := line % 16, weakest := min 255 power, lit := decide (110 ≤ power ∧ power ≤ 150) }) s)
        ∧ (feedOf u k).role ≠ 3
        ∧ standbyOf u (k / 4) = none)
    ∧ (∃ (k : Nat) (line : Nat) (power : Nat) (u : State) (s : State), s.flt.safe = false
        ∧ k < 16
        ∧ (fieldsOf s.part.variant).contains (k / 4) = true
        ∧ (feedOf s k).low = false
        ∧ 7 ≤ s.boot.phase
        ∧ (u = modFeedSt k (fun x => { x with line := line % 16, weakest := min 255 power, lit := decide (110 ≤ power ∧ power ≤ 150) }) s)
        ∧ (feedOf u k).role = 3) :=
  ⟨⟨0, live, by decide⟩,
    ⟨0, { live with foc := { live.foc with asserting := 0 :: live.foc.asserting.filter (· ≠ 0) }, pins := { live.pins with lsIntN := false } }, live, by decide +kernel⟩,
    ⟨0, 0, ({ live with boot.script := some { script0 with lasers := some [(0, 0, 0)] } } : State), by decide⟩,
    ⟨0, live, by decide⟩,
    ⟨0, [.alarm], live, by decide⟩,
    ⟨0, [.leftReady], live, by decide⟩,
    ⟨0, 1, 0, 0, modFeedSt 0 (fun x => { x with line := 0 % 16, weakest := min 255 0, lit := decide (110 ≤ 0 ∧ 0 ≤ 150) }) (modFeedSt 0 (fun x => { x with low := false }) (live) : State), (modFeedSt 0 (fun x => { x with low := false }) (live) : State), by decide +kernel⟩,
    ⟨0, 0, 0, modFeedSt 0 (fun x => { x with line := 0 % 16, weakest := min 255 0, lit := decide (110 ≤ 0 ∧ 0 ≤ 150) }) (modFeedSt 0 (fun x => { x with low := false }) ({ live with foc.feeds := [(0, { role := 0 }), (1, { role := 1 }), (2, { role := 2 }), (3, { role := 0 })] }) : State), (modFeedSt 0 (fun x => { x with low := false }) ({ live with foc.feeds := [(0, { role := 0 }), (1, { role := 1 }), (2, { role := 2 }), (3, { role := 0 })] }) : State), by decide +kernel⟩,
    ⟨0, 0, 0, modFeedSt 0 (fun x => { x with line := 0 % 16, weakest := min 255 0, lit := decide (110 ≤ 0 ∧ 0 ≤ 150) }) (modFeedSt 0 (fun x => { x with low := false }) ({ live with foc.feeds := [(0, { role := 3, lit := true })] }) : State), (modFeedSt 0 (fun x => { x with low := false }) ({ live with foc.feeds := [(0, { role := 3, lit := true })] }) : State), by decide +kernel⟩⟩

theorem test_w25 : -- ElementLoopsLockSearchAndFail
    (∃ (e : Nat) (d : Int) (m : Int) (f : Int) (s : State), s.flt.safe = false
        ∧ (elemState s e = 2 ∨ (elemState s e = 1 ∧ (elemOf s e).search.isSome = true))
        ∧ m = fineRoom s (elemOf s e)
        ∧ f = clampFine ((elemOf s e).fine + clampI (-m) m d)
        ∧ -1536 ≤ f
        ∧ f ≤ 1536)
    ∧ (∃ (e : Nat) (d : Int) (m : Int) (f : Int) (s : State), s.flt.safe = false
        ∧ (elemState s e = 2 ∨ (elemState s e = 1 ∧ (elemOf s e).search.isSome = true))
        ∧ m = fineRoom s (elemOf s e)
        ∧ f = clampFine ((elemOf s e).fine + clampI (-m) m d)
        ∧ 1536 < f
        ∧ (elemOf s e).trim.coarse.toNat < 31
        ∧ ((elemOf s e).stepAt = none ∨ (∃ a, (elemOf s e).stepAt = some a ∧ a + 10000 ≤ s.now)))
    ∧ (∃ (e : Nat) (d : Int) (m : Int) (f : Int) (s : State), s.flt.safe = false
        ∧ (elemState s e = 2 ∨ (elemState s e = 1 ∧ (elemOf s e).search.isSome = true))
        ∧ m = fineRoom s (elemOf s e)
        ∧ f = clampFine ((elemOf s e).fine + clampI (-m) m d)
        ∧ f < -1536
        ∧ 0 < (elemOf s e).trim.coarse.toNat
        ∧ ((elemOf s e).stepAt = none ∨ (∃ a, (elemOf s e).stepAt = some a ∧ a + 10000 ≤ s.now)))
    ∧ (∃ (e : Nat) (s : State), s.flt.safe = false
        ∧ elemState s e = 2)
    ∧ (∃ (e : Nat) (a : Tick) (s : State), s.flt.safe = false
        ∧ elemState s e = 1
        ∧ (elemOf s e).search = some a
        ∧ a + 100000 ≤ s.now)
    ∧ (∃ (e : Nat) (s : State), s.flt.safe = false
        ∧ (elemState s e = 1 ∨ elemState s e = 2)
        ∧ (driveOf (elemOf s e) = 0 ∨ driveOf (elemOf s e) = 16384))
    ∧ (∃ (e : Nat) (w : Nat) (tone : Nat) (k : ElemKind) (s : State), s.flt.safe = false
        ∧ elemState s e = 2
        ∧ elemKind s.part.variant e = some k
        ∧ channelOf k = some w
        ∧ tone % 16 = w)
    ∧ (∃ (e : Nat) (w : Nat) (tone : Nat) (ok : Bool) (k : ElemKind) (s : State), s.flt.safe = false
        ∧ elemState s e = 2
        ∧ elemKind s.part.variant e = some k
        ∧ channelOf k = some w
        ∧ (ok = false ∨ tone % 16 ≠ w))
    ∧ (∃ (e : Nat) (w : Nat) (k : ElemKind) (s : State), s.flt.safe = false
        ∧ elemState s e = 3
        ∧ (elemOf s e).cause = 2
        ∧ (elemOf s e).failed < 2
        ∧ elemKind s.part.variant e = some k
        ∧ channelOf k = some w
        ∧ fenced s (uElem e) = false)
    ∧ (∃ (e : Nat) (s : State), s.flt.safe = false
        ∧ elemState s e = 3
        ∧ (elemOf s e).cause = 2
        ∧ (elemOf s e).failed < 2
        ∧ fenced s (uElem e) = false) :=
  ⟨⟨0, 0, 1024, 0, live, by decide⟩,
    ⟨0, 1000, 1024, 2000, (modElem 0 (fun x => { x with fine := 1000 }) (modElem 0 (fun x => { x with stepAt := none }) (live)) : State), by decide, by decide, by decide, by decide, by decide, by decide, .inl (by decide)⟩,
    ⟨0, -1000, 1024, -2000, (modElem 0 (fun x => { x with fine := -1000, trim := { coarse := 1 } }) (modElem 0 (fun x => { x with stepAt := none }) (live)) : State), by decide, by decide, by decide, by decide, by decide, by decide, .inl (by decide)⟩,
    ⟨0, live, by decide⟩,
    ⟨0, 0, (modElem 0 (fun x => { x with st := 1 }) (modElem 0 (fun x => { x with search := some 0 }) (live)) : State), by decide⟩,
    ⟨0, live, by decide⟩,
    ⟨0, 0, 0, .sluMod 0 0, live, by decide⟩,
    ⟨0, 0, 0, false, .sluMod 0 0, live, by decide⟩,
    ⟨0, 0, .sluMod 0 0, (modElem 0 (fun x => { x with st := 3, cause := 2 }) (modElem 0 (fun x => { x with cause := 2 }) (live)) : State), by decide⟩,
    ⟨0, (modElem 0 (fun x => { x with st := 3, cause := 2 }) (modElem 0 (fun x => { x with cause := 2 }) (live)) : State), by decide⟩⟩

theorem test_w26 : -- HeadroomTrimsAndTheWarmImage
    (∃ (n : Nat) (d2 : Nat) (m : Nat) (s : State), s.flt.safe = false
        ∧ hasStation s.part.variant n = true
        ∧ s.foc.focused = true
        ∧ medianDrive2 s n = some d2
        ∧ m = (d2 * 255 + 16384) / 32768
        ∧ (tget ({} : Headroom) s.foc.head n).low = false
        ∧ (tget ({} : Headroom) s.foc.head n).high = false
        ∧ 32768 * 5 ≤ d2 * 100
        ∧ d2 * 100 ≤ 32768 * 95)
    ∧ (∃ (n : Nat) (d2 : Nat) (m : Nat) (s : State), s.flt.safe = false
        ∧ hasStation s.part.variant n = true
        ∧ s.foc.focused = true
        ∧ medianDrive2 s n = some d2
        ∧ m = (d2 * 255 + 16384) / 32768
        ∧ (tget ({} : Headroom) s.foc.head n).low = false
        ∧ (tget ({} : Headroom) s.foc.head n).high = false
        ∧ d2 * 100 < 32768 * 5
        ∧ standAddr s .headroomLow n = none)
    ∧ (∃ (n : Nat) (d2 : Nat) (m : Nat) (s : State), s.flt.safe = false
        ∧ hasStation s.part.variant n = true
        ∧ s.foc.focused = true
        ∧ medianDrive2 s n = some d2
        ∧ m = (d2 * 255 + 16384) / 32768
        ∧ (tget ({} : Headroom) s.foc.head n).low = false
        ∧ (tget ({} : Headroom) s.foc.head n).high = false
        ∧ 32768 * 95 < d2 * 100
        ∧ standAddr s .headroomHigh n = none)
    ∧ (∃ (n : Nat) (e : Nat) (x : Elem) (g : TrimRec) (k : ElemKind) (s : State), s.flt.safe = false
        ∧ s.foc.freeze = false
        ∧ hasStation s.part.variant n = true
        ∧ e / 1024 = n
        ∧ s.foc.elems = [(e, x)]
        ∧ x.target = some g
        ∧ elemKind s.part.variant e = some k
        ∧ elemState s e = 2
        ∧ stepFree s x = true
        ∧ trimMet k x.trim g = false)
    ∧ (∃ (s : State), s.foc.freeze = true)
    ∧ (∃ (p : Path) (s : State), mayWrite s p .i = true)
    ∧ (∃ (p : Path) (s : State), mayWrite s p .i = true
        ∧ (s.boot.phase = 7 ∨ s.foc.saving = true))
    ∧ (∃ (p : Path) (s : State), mayWrite s p .i = true
        ∧ s.boot.phase ≠ 7
        ∧ s.foc.saving = false)
    ∧ (∃ (p : Path) (s : State), mayWrite s p .i = false)
    ∧ (∃ (s : State), s.flt.safe = false
        ∧ s.foc.saving = true
        ∧ s.foc.writing = 1)
    ∧ (∃ (s : State), s.flt.safe = false
        ∧ s.foc.saving = true) :=
  ⟨⟨0, 2000, 16, liveDrive 1000, by decide, by decide, by decide, (median_const 1000 (by decide)).trans rfl, by decide, by decide, by decide, by decide, by decide⟩,
    ⟨0, 0, 0, liveDrive 0, by decide, by decide, by decide, (median_const 0 (by decide)).trans rfl, by decide, by decide, by decide, by decide, by decide⟩,
    ⟨0, 31200, 243, liveDrive 15600, by decide, by decide, by decide, (median_const 15600 (by decide)).trans rfl, by decide, by decide, by decide, by decide, by decide⟩,
    ⟨0, 0, { target := some { coarse := 1 } }, { coarse := 1 }, .sluMod 0 0, ({ live with foc.freeze := false, foc.elems := [(0, { target := some { coarse := 1 } })] } : State), by decide⟩,
    ⟨({ live with foc.freeze := true } : State), by decide⟩,
    ⟨.session 0, live, by decide⟩,
    ⟨.session 0, ({ live with boot.phase := 7 } : State), by decide⟩,
    ⟨.session 0, ({ live with foc.saving := false } : State), by decide⟩,
    ⟨.session 9, live, by decide⟩,
    ⟨({ live with foc.saving := true, foc.writing := 1 } : State), by decide⟩,
    ⟨({ live with foc.saving := true } : State), by decide⟩⟩

theorem test_w27 : -- SensorsAreSampledAndTheHardwareStopsAct
    (∃ (s : State), (s.thm.lastSample = none ∨ (∃ a, s.thm.lastSample = some a ∧ a + 10000 ≤ s.now)))
    ∧ (∃ (a : Tick) (s : State), s.thm.lastSample = some a
        ∧ s.now < a + 10000)
    ∧ (∃ (k : Nat) (r : Int) (s : State), (s.thm.lastSample = none ∨ (∃ a, s.thm.lastSample = some a ∧ a + 10000 ≤ s.now))
        ∧ (sensors s).contains k = true
        ∧ sensorUsed s k = true
        ∧ s.thm.hot.contains k = true
        ∧ deg 108 ≤ r
        ∧ s.thm.tripped = false)
    ∧ (∃ (s : State), (2 ≤ (s.thm.trips.filter (fun u => decide (s.now < u + day))).length))
    ∧ (∃ (k : Nat) (a : Tick) (s : State), s.flt.safe = false
        ∧ tget none s.thm.devSince k = some a
        ∧ sensorUsed s k = true
        ∧ a + 10000000 ≤ s.now)
    ∧ (∃ (a : Tick) (s : State), s.thm.coolSince = some a
        ∧ s.thm.tripped = true
        ∧ s.thm.tripLocked = false
        ∧ a + 30000000000 ≤ s.now
        ∧ s.flt.safe = false)
    ∧ (∃ (a : Tick) (s : State), s.thm.coolSince = some a
        ∧ s.thm.tripped = true
        ∧ s.thm.tripLocked = false
        ∧ a + 30000000000 ≤ s.now
        ∧ s.flt.safe = true)
    ∧ (∃ (s : State), s.thm.tripLocked = true)
    ∧ (∃ (s : State), s.thm.coolStop = false
        ∧ 2 ≤ s.boot.phase)
    ∧ (∃ (s : State), (s.thm.coolStop = true ∨ s.boot.phase < 2))
    ∧ (∃ (s : State), s.boot.phase = 1)
    ∧ (∃ (s : State), s.boot.phase ≠ 1
        ∧ s.thm.coolStop = true) :=
  ⟨⟨({ live with thm.lastSample := none } : State), .inl (by decide)⟩,
    ⟨10 ^ 15, ({ live with thm.lastSample := some (10 ^ 15) } : State), by decide⟩,
    ⟨0, deg 108, ({ live with thm.lastSample := none, thm.tripped := false, thm.hot := [0] } : State), .inl (by decide), by decide, by decide, by decide, by decide, by decide⟩,
    ⟨({ live with thm.trips := [10 ^ 15, 10 ^ 15] } : State), by decide⟩,
    ⟨0, 0, ({ live with thm.devSince := [(0, some 0)] } : State), by decide⟩,
    ⟨0, ({ live with thm.coolSince := some 0, thm.tripped := true, thm.tripLocked := false } : State), by decide⟩,
    ⟨0, ({ live with thm.coolSince := some 0, thm.tripped := true, thm.tripLocked := false, flt.safe := true } : State), by decide⟩,
    ⟨({ live with thm.tripLocked := true } : State), by decide⟩,
    ⟨({ live with thm.coolStop := false } : State), by decide⟩,
    ⟨({ live with thm.coolStop := true } : State), by decide⟩,
    ⟨({ live with boot.phase := 1 } : State), by decide⟩,
    ⟨({ live with thm.coolStop := true } : State), by decide⟩⟩

theorem test_w28 : -- StationsStacksAndSitesAnswerTheirTemperature
    (∃ (s : State), s.flt.safe = false
        ∧ s.thm.warmup = true
        ∧ allAtLeast s (deg 10) = true)
    ∧ (∃ (s : State), allAtLeast s (deg 10) = false)
    ∧ (∃ (m : Nat) (x : Int) (s : State), s.flt.safe = false
        ∧ s.boot.dark = false
        ∧ hasMs s.part.variant m = true
        ∧ 8 ≤ s.boot.phase
        ∧ x < deg 90
        ∧ tget 0 s.thm.stackSt m ≠ 2
        ∧ standAddr s .stackHot (36 + m) = none)
    ∧ (∃ (m : Nat) (x : Int) (s : State), s.flt.safe = false
        ∧ s.boot.dark = false
        ∧ hasMs s.part.variant m = true
        ∧ 8 ≤ s.boot.phase
        ∧ deg 95 ≤ x
        ∧ x < deg 105
        ∧ tget 0 s.thm.stackSt m ≠ 2
        ∧ standAddr s .stackHot (36 + m) = none)
    ∧ (∃ (m : Nat) (x : Int) (s : State), s.flt.safe = false
        ∧ s.boot.dark = false
        ∧ hasMs s.part.variant m = true
        ∧ 8 ≤ s.boot.phase
        ∧ deg 105 ≤ x
        ∧ tget 0 s.thm.stackSt m ≠ 2
        ∧ (standAddr s .stackHot (36 + m)).isSome = true)
    ∧ (∃ (m : Nat) (x : Int) (s : State), s.flt.safe = false
        ∧ s.boot.dark = false
        ∧ hasMs s.part.variant m = true
        ∧ 8 ≤ s.boot.phase
        ∧ x < deg 85
        ∧ tget 0 s.thm.stackSt m = 2)
    ∧ (∃ (n : Nat) (s : State), gafRuns s = true
        ∧ siteServing s n = true
        ∧ ((powOf s n).tempAt = none ∨ (∃ a, (powOf s n).tempAt = some a ∧ a + 1000000 ≤ s.now))
        ∧ tjMax s n ≤ (siteOf s n).neg.lastTemp)
    ∧ (∃ (n : Nat) (c : Nat) (b : Tick) (s : State), gafRuns s = true
        ∧ siteServing s n = true
        ∧ ((powOf s n).tempAt = none ∨ (∃ a, (powOf s n).tempAt = some a ∧ a + 1000000 ≤ s.now))
        ∧ (siteOf s n).neg.lastTemp < tjMax s n
        ∧ (powOf s n).tempCeil = some c
        ∧ (powOf s n).coolSince = some b
        ∧ b + 1000000 ≤ s.now
        ∧ c + 5 * agreedPmax s n < 100 * agreedPmax s n)
    ∧ (∃ (n : Nat) (b : Tick) (s : State), gafRuns s = true
        ∧ siteServing s n = true
        ∧ (powOf s n).hotSince = some b
        ∧ b + 100000 ≤ s.now)
    ∧ (∃ (st : Nat) (b : Tick) (u : State) (s : State), s.flt.safe = false
        ∧ tget none s.thm.lowOk st = some b
        ∧ s.thm.lowSt.contains st = true
        ∧ b + 1000000000 ≤ s.now
        ∧ u = { s with thm := { s.thm with lowSt := s.thm.lowSt.filter (· ≠ st), lowOk := tset none s.thm.lowOk st none } }
        ∧ fenceOf u (uStation st) = none)
    ∧ (∃ (st : Nat) (b : Tick) (e : FenceEntry) (u : State) (s : State), s.flt.safe = false
        ∧ tget none s.thm.lowOk st = some b
        ∧ s.thm.lowSt.contains st = true
        ∧ b + 1000000000 ≤ s.now
        ∧ u = { s with thm := { s.thm with lowSt := s.thm.lowSt.filter (· ≠ st), lowOk := tset none s.thm.lowOk st none } }
        ∧ fenceOf u (uStation st) = some e
        ∧ e.kind = 0x84) :=
  ⟨⟨({ live with thm.warmup := true, thm.sens := (List.range 144).map fun k => (k, some 400) } : State), by decide +kernel⟩,
    ⟨live, by decide⟩,
    ⟨0, 0, live, by decide⟩,
    ⟨0, deg 95, live, by decide⟩,
    ⟨0, deg 105, ({ live with flt.standing := [(.stackHot, 36, 0)] } : State), by decide⟩,
    ⟨0, 0, ({ live with thm.stackSt := [(0, 2)] } : State), by decide⟩,
    ⟨0, (modSite 0 (fun x => { x with neg := { x.neg with lastTemp := 1520 } }) (modPow 0 (fun x => { x with tempAt := none }) (live)) : State), by decide, by decide, .inl (by decide), by decide⟩,
    ⟨0, 0, 0, (modPow 0 (fun x => { x with coolSince := some 0 }) (modPow 0 (fun x => { x with tempCeil := some 0 }) (modPow 0 (fun x => { x with tempAt := none }) (live))) : State), by decide, by decide, .inl (by decide), by decide, by decide, by decide, by decide, by decide⟩,
    ⟨0, 0, (modPow 0 (fun x => { x with hotSince := some 0 }) (live) : State), by decide⟩,
    ⟨0, 0, { ({ live with thm.lowOk := [(0, some 0)], thm.lowSt := [0] } : State) with thm := { ({ live with thm.lowOk := [(0, some 0)], thm.lowSt := [0] } : State).thm with lowSt := ({ live with thm.lowOk := [(0, some 0)], thm.lowSt := [0] } : State).thm.lowSt.filter (· ≠ 0), lowOk := tset none ({ live with thm.lowOk := [(0, some 0)], thm.lowSt := [0] } : State).thm.lowOk 0 none } }, ({ live with thm.lowOk := [(0, some 0)], thm.lowSt := [0] } : State), by decide +kernel⟩,
    ⟨0, 0, { unit := uStation 0, kind := 0x84 }, { ({ live with thm.lowOk := [(0, some 0)], thm.lowSt := [0], flt.map := [(0, some { unit := uStation 0, kind := 0x84 })] } : State) with thm := { ({ live with thm.lowOk := [(0, some 0)], thm.lowSt := [0], flt.map := [(0, some { unit := uStation 0, kind := 0x84 })] } : State).thm with lowSt := ({ live with thm.lowOk := [(0, some 0)], thm.lowSt := [0], flt.map := [(0, some { unit := uStation 0, kind := 0x84 })] } : State).thm.lowSt.filter (· ≠ 0), lowOk := tset none ({ live with thm.lowOk := [(0, some 0)], thm.lowSt := [0], flt.map := [(0, some { unit := uStation 0, kind := 0x84 })] } : State).thm.lowOk 0 none } }, ({ live with thm.lowOk := [(0, some 0)], thm.lowSt := [0], flt.map := [(0, some { unit := uStation 0, kind := 0x84 })] } : State), by decide +kernel⟩⟩

theorem test_w29 : -- TheGafferEvaluatesDividesAndClamps
    (∃ (s : State), gafRuns s = true
        ∧ s.gaf.evalDone < s.tc.timecode.toNat / 100000)
    ∧ (∃ (s : State), s.tc.timecode.toNat / 100000 ≤ s.gaf.evalDone)
    ∧ (∃ (s : State), gafRuns s = false)
    ∧ (∃ (n : Nat) (a : Tick) (u : State) (s : State), gafRuns s = true
        ∧ siteServing s n = true
        ∧ (powOf s n).limitAt = some a
        ∧ a + 50000 ≤ s.now
        ∧ (powOf s n).waitLimit = none
        ∧ (u = modPow n (fun q => { q with limitAt := none }) s)
        ∧ (powOf s n).limit < meanNow u n)
    ∧ (∃ (n : Nat) (l : Nat) (a : Tick) (s : State), gafRuns s = true
        ∧ siteServing s n = true
        ∧ (powOf s n).limitAt = none
        ∧ (powOf s n).waitLimit = some (l, a)
        ∧ a ≤ s.now)
    ∧ (∃ (n : Nat) (a : Tick) (s : State), gafRuns s = true
        ∧ (powOf s n).lowSince = some a
        ∧ a + 1000000 ≤ s.now)
    ∧ (∃ (s : State), gafRuns s = true
        ∧ (s.gaf.lastRaise = none ∨ (∃ a, s.gaf.lastRaise = some a ∧ a + 20000 ≤ s.now))
        ∧ millWants s = true
        ∧ s.gaf.vmill < 850)
    ∧ (∃ (s : State), gafRuns s = true
        ∧ (s.gaf.lastLower = none ∨ (∃ a, s.gaf.lastLower = some a ∧ a + 10000000 ≤ s.now))
        ∧ millSpare s = true
        ∧ 550 < s.gaf.vmill)
    ∧ (∃ (s : State), gafRuns s = true)
    ∧ (∃ (s : State), s.flt.safe = false) :=
  ⟨⟨live, by decide⟩,
    ⟨({ live with gaf.evalDone := 10 ^ 10 } : State), by decide⟩,
    ⟨({ live with boot.phase := 4 } : State), by decide⟩,
    ⟨0, 0, modPow 0 (fun q => { q with limitAt := none }) { live with gaf.sites := [(0, { limitAt := some 0, limit := 1, means := [(0, 2)] })] }, { live with gaf.sites := [(0, { limitAt := some 0, limit := 1, means := [(0, 2)] })] }, by decide +kernel⟩,
    ⟨0, 0, 0, (modPow 0 (fun x => { x with waitLimit := some (0, 0) }) (modPow 0 (fun x => { x with limitAt := none }) (live)) : State), by decide⟩,
    ⟨0, 0, (modPow 0 (fun x => { x with lowSince := some 0 }) (live) : State), by decide⟩,
    ⟨({ live with gaf.lastRaise := none, tc.slack := [(0, { lowSince := some 0 })] } : State), by decide, .inl (by decide), by decide, by decide⟩,
    ⟨({ live with gaf.lastLower := none, tc.slack := (List.range 36).map fun k => (k, { recs := [{ tick := 10 ^ 15, frame := 8191, stage := 30, low := false }] }), mst.rate := [(0, 135), (1, 135), (2, 135), (3, 135)] } : State), by decide, .inl (by decide), by decide, by decide⟩,
    ⟨live, by decide⟩,
    ⟨live, by decide⟩⟩

theorem test_w30 : -- SitePowerIsSampledAndSlewIsGuarded
    (∃ (n : Nat) (w : Nat) (mv : Nat) (cur : Nat) (u : State) (s : State), siteOn s n = true
        ∧ (cur = (if mv = 0 then 0 else min 65535 (w * 10000 / mv)))
        ∧ (u = { s with tsi := tupd {} s.tsi n (fun x => { x with mv := BitVec.ofNat 16 (min 65535 mv), current := BitVec.ofNat 16 cur, undervolt := x.undervolt && decide (mv + 75 < 550 + 5 * x.vset), clamped := x.clamped && decide (4000 ≤ cur) }) })
        ∧ ((powOf s n).sampleAt = none ∨ (∃ a, (powOf s n).sampleAt = some a ∧ a + 1000 ≤ s.now))
        ∧ (powOf s n).samples.length ≠ 9)
    ∧ (∃ (n : Nat) (w : Nat) (mv : Nat) (cur : Nat) (u : State) (s : State), siteOn s n = true
        ∧ (cur = (if mv = 0 then 0 else min 65535 (w * 10000 / mv)))
        ∧ (u = { s with tsi := tupd {} s.tsi n (fun x => { x with mv := BitVec.ofNat 16 (min 65535 mv), current := BitVec.ofNat 16 cur, undervolt := x.undervolt && decide (mv + 75 < 550 + 5 * x.vset), clamped := x.clamped && decide (4000 ≤ cur) }) })
        ∧ ((powOf s n).sampleAt = none ∨ (∃ a, (powOf s n).sampleAt = some a ∧ a + 1000 ≤ s.now))
        ∧ (powOf s n).samples.length = 9)
    ∧ (∃ (n : Nat) (s : State), (powOf s n).means = []
        ∧ (powOf s n).clamped = false)
    ∧ (∃ (n : Nat) (m : Nat) (old : Nat) (a : Tick) (s : State), (powOf s n).means = [(a, old)]
        ∧ s.now ≤ a + 100000
        ∧ (powOf s n).slewFrom ≤ a
        ∧ (powOf s n).clamped = false
        ∧ (powOf s n).grant = none
        ∧ (powOf s n).breaks = []
        ∧ (powOf s n).guardEnd = none
        ∧ old + 25 < m)
    ∧ (∃ (n : Nat) (s : State), siteOn s n = false)
    ∧ (∃ (n : Nat) (a : Tick) (s : State), (powOf s n).guardEnd = some a
        ∧ a ≤ s.now)
    ∧ (∃ (n : Nat) (d : Nat) (r : Nat) (s : State), gafRuns s = true
        ∧ sbLive s n = true
        ∧ siteServing s n = true
        ∧ bit (siteFeatures s n) 2 = true
        ∧ 0 < sgn 10 d
        ∧ s.gaf.f = 1000000
        ∧ r = slewRoom s n (sgn 10 d).natAbs
        ∧ 0 < r)
    ∧ (∃ (n : Nat) (d : Nat) (s : State), gafRuns s = true
        ∧ sbLive s n = true
        ∧ siteServing s n = true
        ∧ bit (siteFeatures s n) 2 = true
        ∧ 0 < sgn 10 d
        ∧ s.gaf.f < 1000000) :=
  ⟨⟨0, 0, 0, (if 0 = 0 then 0 else min 65535 (0 * 10000 / 0)), { (modPow 0 (fun x => { x with sampleAt := none }) (live) : State) with tsi := tupd {} (modPow 0 (fun x => { x with sampleAt := none }) (live) : State).tsi 0 (fun x => { x with mv := BitVec.ofNat 16 (min 65535 0), current := BitVec.ofNat 16 (if 0 = 0 then 0 else min 65535 (0 * 10000 / 0)), undervolt := x.undervolt && decide (0 + 75 < 550 + 5 * x.vset), clamped := x.clamped && decide (4000 ≤ (if 0 = 0 then 0 else min 65535 (0 * 10000 / 0))) }) }, (modPow 0 (fun x => { x with sampleAt := none }) (live) : State), by decide +kernel, by decide +kernel, by decide +kernel, .inl (by decide +kernel), by decide +kernel⟩,
    ⟨0, 0, 0, (if 0 = 0 then 0 else min 65535 (0 * 10000 / 0)), { { live with gaf.sites := [(0, { samples := List.replicate 9 5 })] } with tsi := tupd {} { live with gaf.sites := [(0, { samples := List.replicate 9 5 })] }.tsi 0 (fun x => { x with mv := BitVec.ofNat 16 (min 65535 0), current := BitVec.ofNat 16 (if 0 = 0 then 0 else min 65535 (0 * 10000 / 0)), undervolt := x.undervolt && decide (0 + 75 < 550 + 5 * x.vset), clamped := x.clamped && decide (4000 ≤ (if 0 = 0 then 0 else min 65535 (0 * 10000 / 0))) }) }, { live with gaf.sites := [(0, { samples := List.replicate 9 5 })] }, by decide +kernel, by decide +kernel, by decide +kernel, .inl (by decide +kernel), by decide +kernel⟩,
    ⟨0, (modPow 0 (fun x => { x with clamped := false }) (modPow 0 (fun x => { x with means := [] }) (live)) : State), by decide⟩,
    ⟨0, 26, 0, 10 ^ 15, (modPow 0 (fun x => { x with guardEnd := none }) (modPow 0 (fun x => { x with breaks := [] }) (modPow 0 (fun x => { x with grant := none }) (modPow 0 (fun x => { x with clamped := false }) (modPow 0 (fun x => { x with means := [((10 ^ 15), 0)] }) (live))))) : State), by decide⟩,
    ⟨1, live, by decide⟩,
    ⟨0, 0, (modPow 0 (fun x => { x with guardEnd := some 0 }) (live) : State), by decide⟩,
    ⟨0, 1, 1, ({ live with gaf.f := 1000000 } : State), by decide +kernel⟩,
    ⟨0, 1, ({ live with gaf.f := 999999 } : State), by decide⟩⟩

theorem test_w31 : -- BudgetsAreGrantedReleasedAndExpire
    (∃ (e : Nat) (x : Nat) (s : State), fromRack s e = true
        ∧ 1 ≤ x
        ∧ x ≤ 3600000)
    ∧ (∃ (e : Nat) (x : Nat) (s : State), fromRack s e = true
        ∧ (x = 0 ∨ 3600000 < x))
    ∧ (∃ (e : Nat) (s : State), fromRack s e = false)
    ∧ (∃ (e : Nat) (s : State), fromRack s e = true)
    ∧ (∃ (a : Tick) (s : State), gafRuns s = true
        ∧ s.gaf.expiry = some a
        ∧ a ≤ s.now)
    ∧ (∃ (a : Tick) (s : State), gafRuns s = true
        ∧ s.gaf.excessSince = some a
        ∧ a + 100000000 ≤ s.now)
    ∧ (∃ (n : Nat) (s : State), granted s = true
        ∧ 0 < n
        ∧ n ≤ s.gaf.budget)
    ∧ (∃ (e : Nat) (id : Nat) (r : Release) (s : State), s.gaf.release = some r
        ∧ fromRack s e = true
        ∧ r.id.toNat = id)
    ∧ (∃ (id : Nat) (r : Release) (s : State), s.gaf.release = some r
        ∧ r.id.toNat ≠ id)
    ∧ (∃ (r : Release) (s : State), gafRuns s = true
        ∧ s.gaf.release = some r
        ∧ r.sent + 100000000 ≤ s.now
        ∧ r.tries < 4)
    ∧ (∃ (r : Release) (s : State), s.gaf.release = some r
        ∧ 4 ≤ r.tries) :=
  ⟨⟨0, 1, live, by decide⟩,
    ⟨0, 0, live, by decide⟩,
    ⟨5, live, by decide⟩,
    ⟨0, live, by decide⟩,
    ⟨0, ({ live with gaf.expiry := some 0 } : State), by decide⟩,
    ⟨0, ({ live with gaf.excessSince := some 0 } : State), by decide⟩,
    ⟨1, ({ live with gaf.expiry := some 0 } : State), by decide⟩,
    ⟨0, 1, { id := 1, released := 1, kept := 1, reason := 0, sent := 0 }, ({ live with gaf.release := some { id := 1, released := 1, kept := 1, reason := 0, sent := 0 } } : State), by decide⟩,
    ⟨0, { id := 1, released := 1, kept := 1, reason := 0, sent := 0 }, ({ live with gaf.release := some { id := 1, released := 1, kept := 1, reason := 0, sent := 0 } } : State), by decide⟩,
    ⟨{ id := 1, released := 1, kept := 1, reason := 0, sent := 0 }, ({ live with gaf.release := some { id := 1, released := 1, kept := 1, reason := 0, sent := 0 } } : State), by decide⟩,
    ⟨{ id := 1, released := 1, kept := 1, reason := 0, sent := 0, tries := 4 }, ({ live with gaf.release := some { id := 1, released := 1, kept := 1, reason := 0, sent := 0, tries := 4 } } : State), by decide⟩⟩

theorem test_w32 : -- PaceNoticesAndEnergy
    (∃ (m : PaceMsg) (j : Nat) (s : State), gafRuns s = true
        ∧ ((runningJobs s).filter (fun j => jobPod s j == m.podJob) = [j])
        ∧ (s.gaf.paceIn.find? (fun p => p.job == m.podJob && p.source == m.source) = none))
    ∧ (∃ (m : PaceMsg) (p : PaceIn) (j : Nat) (s : State), gafRuns s = true
        ∧ ((runningJobs s).filter (fun j => jobPod s j == m.podJob) = [j])
        ∧ (s.gaf.paceIn.find? (fun p => p.job == m.podJob && p.source == m.source) = some p)
        ∧ m.seq = p.seq)
    ∧ (∃ (m : PaceMsg) (s : State), ((runningJobs s).filter (fun j => jobPod s j == m.podJob) = []))
    ∧ (∃ (s : State), gafRuns s = true)
    ∧ (∃ (j : Nat) (a : Tick) (s : State), gafRuns s = true
        ∧ jobRunning s j = true
        ∧ (tget {} s.gaf.paceOut j).lastSent = some a
        ∧ a + 5000000 ≤ s.now
        ∧ 50 < (tget {} s.gaf.paceOut j).sentValue
        ∧ 50 < (jobSlow s j).1)
    ∧ (∃ (j : Nat) (a : Tick) (s : State), (tget {} s.gaf.paceOut j).lastSent = some a
        ∧ s.now < a + 5000000)
    ∧ (∃ (s : State), gafRuns s = true
        ∧ s.gaf.energyDone < s.tc.timecode.toNat / 1000000)
    ∧ (∃ (n : Nat) (j : Nat) (s : State), gafRuns s = true
        ∧ s.gaf.energyDone < s.tc.timecode.toNat / 1000000
        ∧ n < 12
        ∧ jobOfSite s n = some j
        ∧ s.gaf.lines = []
        ∧ s.gaf.bytes = []
        ∧ s.gaf.energy = [])
    ∧ (∃ (s : State), s.tc.timecode.toNat / 1000000 ≤ s.gaf.energyDone) :=
  ⟨⟨{ podJob := 7, slowdown := 10, source := 2, seq := 1, cause := 0 }, 1, (liveJob : State), by decide⟩,
    ⟨{ podJob := 7, slowdown := 10, source := 2, seq := 1, cause := 0 }, { job := 7, source := 2, seq := 1, slowdown := 5, at_ := 0 }, 1, ({ liveJob with gaf.paceIn := [{ job := 7, source := 2, seq := 1, slowdown := 5, at_ := 0 }] } : State), by decide⟩,
    ⟨{ podJob := 1, slowdown := 10, source := 2, seq := 1, cause := 0 }, live, by decide⟩,
    ⟨live, by decide⟩,
    ⟨1, 0, ({ liveJob with gaf.paceOut := [(1, { lastSent := some 0, sentValue := 51 })], gaf.sites := [(0, { demand := 100, limit := 10 })] } : State), by decide +kernel⟩,
    ⟨0, 10 ^ 15, ({ live with gaf.paceOut := [(0, { lastSent := some (10 ^ 15) })] } : State), by decide⟩,
    ⟨live, by decide⟩,
    ⟨0, 1, ({ liveJob with gaf.lines := [], gaf.bytes := [], gaf.energy := [] } : State), by decide⟩,
    ⟨({ live with gaf.energyDone := 10 ^ 10 } : State), by decide⟩⟩

theorem test_w33 : -- TheCollectorRecordsFencesAndEntersSafeState
    (∃ (m : FaultMsg) (ms : List FaultMsg) (s : State), s.flt.net = m :: ms)
    ∧ (∃ (s : State), s.flt.net = [])
    ∧ (∃ (m : FaultMsg) (s : State), 1 ≤ m.sev.toNat
        ∧ s.flt.frozen = false)
    ∧ (∃ (s : State), s.flt.frozen = true)
    ∧ (∃ (s : State), s.flt.first.isSome = true)
    ∧ (∃ (m : FaultMsg), m.sev = 0)
    ∧ (∃ (m : FaultMsg), m.sev = 3)
    ∧ (∃ (m : FaultMsg) (s : State), m.sev ≠ 3
        ∧ s.flt.safe = true)
    ∧ (∃ (m : FaultMsg) (s : State), m.sev = 0
        ∧ s.flt.safe = false)
    ∧ (∃ (m : FaultMsg) (s : State), m.sev = 2
        ∧ m.kind = 0x61
        ∧ m.block = 4
        ∧ s.flt.safe = false
        ∧ fenced s (uMill m.inst.toNat) = false) :=
  ⟨⟨{ block := 0, inst := 0, kind := 0x21, sev := 1 }, [], ({ live with flt.net := { block := 0, inst := 0, kind := 0x21, sev := 1 } :: [] } : State), by decide⟩,
    ⟨({ live with flt.net := [] } : State), by decide⟩,
    ⟨{ block := 0, inst := 0, kind := 0x21, sev := 1 }, ({ live with flt.frozen := false } : State), by decide⟩,
    ⟨({ live with flt.frozen := true } : State), by decide⟩,
    ⟨{ live with flt.first := some { block := 0, inst := 0, kind := 1, sev := 3 } }, by decide⟩,
    ⟨{ block := 0, inst := 0, kind := 33, sev := 0 }, by decide⟩,
    ⟨{ block := 0, inst := 0, kind := 33, sev := 3 }, by decide⟩,
    ⟨{ block := 0, inst := 0, kind := 0x21, sev := 1 }, ({ live with flt.safe := true } : State), by decide⟩,
    ⟨{ block := 0, inst := 0, kind := 33, sev := 0 }, live, by decide⟩,
    ⟨{ block := 4, inst := 0, kind := 97, sev := 2 }, live, by decide⟩⟩

theorem test_w34 : -- UnitsAreFencedRetriedAndRestored
    (∃ (u : UnitId) (n : Nat) (s : State), fenced s u = false
        ∧ insideFenced s u = false
        ∧ reservedEntry u = none
        ∧ freeEntry s = some n
        ∧ recoveryCount s u < 6)
    ∧ (∃ (u : UnitId) (n : Nat) (s : State), fenced s u = false
        ∧ insideFenced s u = false
        ∧ reservedEntry u = some n
        ∧ 6 ≤ recoveryCount s u)
    ∧ (∃ (u : UnitId) (s : State), fenced s u = false
        ∧ insideFenced s u = true)
    ∧ (∃ (u : UnitId) (s : State), fenced s u = true)
    ∧ (∃ (u : UnitId) (e : FenceEntry) (s : State), s.flt.safe = false
        ∧ fenceOf s u = some e
        ∧ e.st = .fenced
        ∧ e.quietFrom + 5000000000 ≤ s.now
        ∧ 2 ≤ e.unit.type
        ∧ e.unit.type ≠ 7
        ∧ u.type ≠ 8
        ∧ insideFenced s u = false)
    ∧ (∃ (u : UnitId) (e : FenceEntry) (s : State), fenceOf s u = some e
        ∧ e.st = .fenced
        ∧ e.atOnce = false
        ∧ s.now < e.quietFrom + 5000000000)
    ∧ (∃ (u : UnitId) (e : FenceEntry) (s : State), s.flt.safe = false
        ∧ fenceOf s u = some e
        ∧ e.st = .retrying
        ∧ retryMet s u = true)
    ∧ (∃ (u : UnitId) (e : FenceEntry) (s : State), s.flt.safe = false
        ∧ fenceOf s u = some e
        ∧ e.st = .retrying
        ∧ u.type ≠ 2
        ∧ u.type ≠ 10
        ∧ recoveryCount s u < 6)
    ∧ (∃ (u : UnitId) (e : FenceEntry) (s : State), s.flt.safe = false
        ∧ fenceOf s u = some e
        ∧ e.st = .retrying
        ∧ u.type ≠ 2
        ∧ u.type ≠ 10
        ∧ 6 ≤ recoveryCount s u)
    ∧ (∃ (u : UnitId) (e : FenceEntry) (v : State) (s : State) (p : Path), mayWrite s p .i = true
        ∧ fenceOf s u = some e
        ∧ e.st ≠ .retrying
        ∧ retried e = true
        ∧ v = { s with flt := { s.flt with recoveries := tset [] s.flt.recoveries (unitWord u).toNat [] } }
        ∧ insideFenced v u = false)
    ∧ (∃ (s : State) (p : Path), mayWrite s p .i = false) :=
  ⟨⟨{ type := 1, index := 0 }, 0, live, by decide +kernel⟩,
    ⟨{ type := 6, index := 0 }, 512, ({ live with flt.recoveries := [(6, List.replicate 6 (10 ^ 15))] } : State), by decide⟩,
    ⟨{ type := 4, index := 0 }, ({ live with flt.map := [(0, some { unit := uStation 0 })] } : State), by decide⟩,
    ⟨{ type := 3, index := 0 }, ({ live with flt.map := [(0, some { unit := { type := 3, index := 0 } })] } : State), by decide⟩,
    ⟨{ type := 3, index := 0 }, { unit := { type := 3, index := 0 } }, ({ live with flt.map := [(0, some { unit := { type := 3, index := 0 } })] } : State), by decide⟩,
    ⟨{ type := 3, index := 0 }, { unit := { type := 3, index := 0 }, quietFrom := 10 ^ 15 }, ({ live with flt.map := [(0, some { unit := { type := 3, index := 0 }, quietFrom := 10 ^ 15 })] } : State), by decide⟩,
    ⟨{ type := 3, index := 0 }, { unit := { type := 3, index := 0 }, st := .retrying }, ({ live with flt.map := [(0, some { unit := { type := 3, index := 0 }, st := .retrying })] } : State), by decide⟩,
    ⟨{ type := 3, index := 0 }, { unit := { type := 3, index := 0 }, st := .retrying }, ({ live with flt.map := [(0, some { unit := { type := 3, index := 0 }, st := .retrying })] } : State), by decide⟩,
    ⟨{ type := 3, index := 0 }, { unit := { type := 3, index := 0 }, st := .retrying }, ({ live with flt.map := [(0, some { unit := { type := 3, index := 0 }, st := .retrying })], flt.recoveries := [(3, List.replicate 6 (10 ^ 15))] } : State), by decide⟩,
    ⟨{ type := 3, index := 0 }, { unit := { type := 3, index := 0 } }, { ({ live with flt.map := [(0, some { unit := { type := 3, index := 0 } })] } : State) with flt := { ({ live with flt.map := [(0, some { unit := { type := 3, index := 0 } })] } : State).flt with recoveries := tset [] ({ live with flt.map := [(0, some { unit := { type := 3, index := 0 } })] } : State).flt.recoveries (unitWord { type := 3, index := 0 }).toNat [] } }, ({ live with flt.map := [(0, some { unit := { type := 3, index := 0 } })] } : State), .session 0, by decide +kernel⟩,
    ⟨live, .session 9, by decide⟩⟩

theorem test_w35 : -- FaultRegistersTheVotedStoreAndInjection
    (∃ (p : Path) (s : State), (s.flt.safe = true ∨ 5 ≤ s.boot.phase)
        ∧ holds s p .o = true
        ∧ stands s .thermalWarning = false)
    ∧ (∃ (p : Path) (s : State), (s.flt.safe = true ∨ 5 ≤ s.boot.phase)
        ∧ holds s p .o = true
        ∧ stands s .thermalWarning = true)
    ∧ (∃ (p : Path) (s : State), mayWrite s p .i = true)
    ∧ (∃ (p : Path) (s : State), (s.flt.safe = true ∨ 5 ≤ s.boot.phase)
        ∧ holds s p .i = true)
    ∧ (∃ (p : Path) (s : State), holds s p .o = false
        ∧ holds s p .i = false)
    ∧ (∃ (n : Nat) (s : State), s.flt.safe = false
        ∧ n < 7)
    ∧ (∃ (n : Nat) (s : State), s.flt.safe = false
        ∧ n < 7)
    ∧ (∃ (c : Nat) (s : State), s.flt.safe = false
        ∧ crewUp s c = true)
    ∧ (∃ (p : Path) (s : State), s.role.facActive = true
        ∧ mayWrite s p .m = true)
    ∧ (∃ (s : State), s.role.facActive = false) :=
  ⟨⟨.session 0, ({ live with flt.safe := true } : State), by decide⟩,
    ⟨.session 0, ({ live with flt.safe := true, flt.standing := [(.thermalWarning, 0, 0)] } : State), by decide⟩,
    ⟨.session 0, live, by decide⟩,
    ⟨.session 0, ({ live with flt.safe := true } : State), by decide⟩,
    ⟨.session 9, live, by decide⟩,
    ⟨0, live, by decide⟩,
    ⟨0, live, by decide⟩,
    ⟨0, live, by decide⟩,
    ⟨.session 2, ({ live with role.facActive := true } : State), by decide⟩,
    ⟨({ live with role.facActive := false } : State), by decide⟩⟩

theorem test_w36 : -- ThePairBeatsAndNoticesSilence
    (∃ (c : PairCfg) (s : State), s.pair.cfg = some c
        ∧ s.flt.safe = false
        ∧ s.pair.mismatch = false
        ∧ s.pair.nextBeat ≤ s.now
        ∧ 10 ≤ s.boot.phase
        ∧ s.pair.role = .standIn
        ∧ (podLink s c.linkA).st = 2
        ∧ tget 0 (podLink s c.linkA).ourUsed 6 < 64
        ∧ c.linkA ≠ c.linkB
        ∧ (podLink s c.linkB).st = 2
        ∧ tget 0 (podLink s c.linkB).ourUsed 6 < 64)
    ∧ (∃ (s : State), s.now < s.pair.nextBeat)
    ∧ (∃ (l : Nat) (c : PairCfg) (hb : HeartbeatMsg) (s : State), s.pair.cfg = some c
        ∧ s.flt.safe = false
        ∧ (l = c.linkA ∨ l = c.linkB)
        ∧ hb.node = c.partner
        ∧ 10 ≤ s.boot.phase
        ∧ hb.config = pairConfig s
        ∧ hb.forerunner = c.forerunner)
    ∧ (∃ (l : Nat) (c : PairCfg) (hb : HeartbeatMsg) (s : State), s.pair.cfg = some c
        ∧ s.flt.safe = false
        ∧ (l = c.linkA ∨ l = c.linkB)
        ∧ hb.node = c.partner
        ∧ 10 ≤ s.boot.phase
        ∧ hb.config ≠ pairConfig s
        ∧ s.pair.mismatch = false)
    ∧ (∃ (hb : HeartbeatMsg) (s : State), s.pair.role = .standIn
        ∧ hb.role = 1)
    ∧ (∃ (hb : HeartbeatMsg) (s : State), s.pair.role = .lead
        ∧ hb.role = 2)
    ∧ (∃ (c : PairCfg) (s : State), s.pair.cfg = some c
        ∧ s.flt.safe = false
        ∧ s.pair.linkUp.1 = true
        ∧ s.pair.lastHb.1 + 8000 ≤ s.now)
    ∧ (∃ (c : PairCfg) (s : State), s.pair.cfg = some c
        ∧ s.flt.safe = false
        ∧ c.linkA ≠ c.linkB
        ∧ s.pair.linkUp.2 = true
        ∧ s.pair.lastHb.2 + 8000 ≤ s.now)
    ∧ (∃ (s : State), s.flt.safe = false
        ∧ s.pair.role = .lead
        ∧ s.pair.silentAt = none
        ∧ s.pair.lastHb.1 + 8000 ≤ s.now
        ∧ s.pair.lastHb.2 + 8000 ≤ s.now)
    ∧ (∃ (s : State), s.flt.safe = false
        ∧ s.pair.role = .standIn
        ∧ s.pair.silentAt = none
        ∧ s.pair.lastHb.1 + 8000 ≤ s.now
        ∧ s.pair.lastHb.2 + 8000 ≤ s.now)
    ∧ (∃ (s : State), s.flt.safe = false
        ∧ s.pair.role = .resync
        ∧ s.pair.silentAt = none
        ∧ s.pair.lastHb.1 + 8000 ≤ s.now
        ∧ s.pair.lastHb.2 + 8000 ≤ s.now)
    ∧ (∃ (a : Tick) (u : State) (s : State), s.pair.silentAt = some a
        ∧ s.flt.safe = false
        ∧ s.pair.role = .lead
        ∧ a + 20000 ≤ s.now
        ∧ u = confirmTo s.pair.mseq (standBegin .pairSolo 11 0 (pairAddr s) s)) :=
  ⟨⟨pairCfg0, ((modPodLink (pairCfg0 : PairCfg).linkB (fun x => { x with st := 2 })) ((modPodLink (pairCfg0 : PairCfg).linkA (fun x => { x with st := 2 })) ({ live with pair.cfg := some pairCfg0, pair.mismatch := false, pair.role := .standIn })) : State), by decide⟩,
    ⟨({ live with pair.nextBeat := 10 ^ 15 + 1 } : State), by decide⟩,
    ⟨0, pairCfg0, { node := 2, role := 1, forerunner := true, epoch := 0, confirmed := 0, released := 0, config := pairConfig ({ live with pair.cfg := some pairCfg0 }) }, { live with pair.cfg := some pairCfg0 }, by decide, by decide, by decide, by decide, by decide, rfl, by decide⟩,
    ⟨0, pairCfg0, { node := 2, role := 1, forerunner := true, epoch := 0, confirmed := 0, released := 0, config := pairConfig ({ live with pair.cfg := some pairCfg0 }) + 1 }, { live with pair.cfg := some pairCfg0 }, by decide, by decide, by decide, by decide, by decide, succ_ne _, by decide⟩,
    ⟨{ node := 2, role := 1, forerunner := true, epoch := 0, confirmed := 0, released := 0, config := 0 }, ({ live with pair.role := .standIn } : State), by decide⟩,
    ⟨{ node := 2, role := 2, forerunner := true, epoch := 0, confirmed := 0, released := 0, config := 0 }, ({ live with pair.role := .lead } : State), by decide⟩,
    ⟨pairCfg0, ({ live with pair.cfg := some pairCfg0, pair.linkUp.1 := true } : State), by decide⟩,
    ⟨pairCfg0, ({ live with pair.cfg := some pairCfg0, pair.linkUp.2 := true } : State), by decide⟩,
    ⟨({ live with pair.role := .lead, pair.silentAt := none } : State), by decide⟩,
    ⟨({ live with pair.role := .standIn, pair.silentAt := none } : State), by decide⟩,
    ⟨({ live with pair.role := .resync, pair.silentAt := none } : State), by decide⟩,
    ⟨0, confirmTo ({ live with pair.silentAt := some 0, pair.role := .lead } : State).pair.mseq (standBegin .pairSolo 11 0 (pairAddr ({ live with pair.silentAt := some 0, pair.role := .lead } : State)) ({ live with pair.silentAt := some 0, pair.role := .lead } : State)), ({ live with pair.silentAt := some 0, pair.role := .lead } : State), by decide +kernel⟩⟩

theorem test_w37 : -- ClaimsAreMadeKnownKeptAndEnded
    (∃ (c : PairCfg) (u : State) (s : State), s.pair.cfg = some c
        ∧ (u = { s with pair := { s.pair with epoch := s.pair.epoch + 1, role := .claiming, claimAt := some s.now, claimTime := s.tc.timecode, soloFrom := s.now, record := (s.pair.log.filter (fun r => decide (s.pair.released < r.mseq))).take 8192, log := [], early := [], heldAtomics := [], nextRepeat := s.now + 1000000000 } }))
    ∧ (∃ (m : ClaimMsg) (k : Nat) (s : State), s.flt.safe = false
        ∧ s.pair.cfg = none
        ∧ nodeKind s m.claimed = 1
        ∧ claimEntry s m.claimed = none
        ∧ freeClaim s = some k
        ∧ m.newNode ≠ m.claimed
        ∧ s.mem.slots = [])
    ∧ (∃ (m : ClaimMsg) (k : Nat) (e : ClaimEntry) (s : State), s.pair.cfg = none
        ∧ claimEntry s m.claimed = some (k, e)
        ∧ newer m.epoch e.msg.epoch = false)
    ∧ (∃ (m : ClaimMsg) (c : PairCfg) (u : State) (s : State), s.flt.safe = false
        ∧ s.pair.cfg = some c
        ∧ m.claimed.toNat = setNode s
        ∧ servesSet s = true
        ∧ m.newNode ≠ s.ident.node
        ∧ newer m.epoch s.pair.epoch = true
        ∧ u = { s with pair := { s.pair with role := .yielded, work := [], waiting := [], heldAtomics := [], resyncing := false, silentAt := none, outbox := [] }, flt := { s.flt with net := s.flt.net ++ [mkMsg s .pairYield 11 0 (pairAddr s)] } })
    ∧ (∃ (a : Byte) (b : Byte), newer a b = true)
    ∧ (∃ (a : Tick) (s : State), s.flt.safe = false
        ∧ s.pair.claimAt = some a
        ∧ s.pair.role = .claiming
        ∧ a + 20000 ≤ s.now
        ∧ s.pair.heldAtomics = []
        ∧ s.pair.claims = [])
    ∧ (∃ (k : Nat) (e : ClaimEntry) (s : State), s.flt.safe = false
        ∧ s.pair.claimAt = none
        ∧ s.pair.claims = [(k, some e)]
        ∧ e.isOpen = true
        ∧ e.holdUntil ≤ s.now
        ∧ e.held = []
        ∧ s.mem.slots = [])
    ∧ (∃ (a : Tick) (s : State), s.flt.safe = false
        ∧ s.pair.claimAt = some a
        ∧ a + 40000 ≤ s.now)
    ∧ (∃ (a : Tick) (s : State), s.pair.claimAt = some a
        ∧ s.now < a + 40000)
    ∧ (∃ (s : State), s.flt.safe = false
        ∧ s.pair.claimAt.isSome = true
        ∧ servesSet s = true
        ∧ setNode s ≠ s.ident.node.toNat
        ∧ s.pair.nextRepeat ≤ s.now)
    ∧ (∃ (p : Path) (s : State), mayWrite s p .i = true
        ∧ s.pair.role = .standIn)
    ∧ (∃ (p : Path) (s : State), mayWrite s p .i = false) :=
  ⟨⟨pairCfg0, { ({ live with pair.cfg := some pairCfg0 } : State) with pair := { ({ live with pair.cfg := some pairCfg0 } : State).pair with epoch := ({ live with pair.cfg := some pairCfg0 } : State).pair.epoch + 1, role := .claiming, claimAt := some ({ live with pair.cfg := some pairCfg0 } : State).now, claimTime := ({ live with pair.cfg := some pairCfg0 } : State).tc.timecode, soloFrom := ({ live with pair.cfg := some pairCfg0 } : State).now, record := (({ live with pair.cfg := some pairCfg0 } : State).pair.log.filter (fun r => decide (({ live with pair.cfg := some pairCfg0 } : State).pair.released < r.mseq))).take 8192, log := [], early := [], heldAtomics := [], nextRepeat := ({ live with pair.cfg := some pairCfg0 } : State).now + 1000000000 } }, ({ live with pair.cfg := some pairCfg0 } : State), by decide +kernel⟩,
    ⟨{ mask := 1, window := 0, claimed := 2, newNode := 3, epoch := 1, time := 0 }, 0, ({ live with pair.cfg := none, mem.slots := [] } : State), by decide +kernel⟩,
    ⟨{ mask := 1, window := 0, claimed := 2, newNode := 4, epoch := 1, time := 0 }, 0, { msg := { mask := 1, window := 0, claimed := 2, newNode := 3, epoch := 1, time := 0 }, holdUntil := 0 }, ({ live with pair.cfg := none, pair.claims := [(0, some { msg := { mask := 1, window := 0, claimed := 2, newNode := 3, epoch := 1, time := 0 }, holdUntil := 0 })] } : State), by decide⟩,
    ⟨{ mask := 1, window := 0, claimed := 1, newNode := 2, epoch := 1, time := 0 }, pairCfg0, { ({ live with pair.cfg := some pairCfg0, pair.role := .lead } : State) with pair := { ({ live with pair.cfg := some pairCfg0, pair.role := .lead } : State).pair with role := .yielded, work := [], waiting := [], heldAtomics := [], resyncing := false, silentAt := none, outbox := [] }, flt := { ({ live with pair.cfg := some pairCfg0, pair.role := .lead } : State).flt with net := ({ live with pair.cfg := some pairCfg0, pair.role := .lead } : State).flt.net ++ [mkMsg ({ live with pair.cfg := some pairCfg0, pair.role := .lead } : State) .pairYield 11 0 (pairAddr ({ live with pair.cfg := some pairCfg0, pair.role := .lead } : State))] } }, ({ live with pair.cfg := some pairCfg0, pair.role := .lead } : State), by decide +kernel⟩,
    ⟨127, 0, by decide⟩,
    ⟨0, ({ live with pair.claimAt := some 0, pair.role := .claiming, pair.heldAtomics := [], pair.claims := [] } : State), by decide⟩,
    ⟨0, { msg := { mask := 1, window := 0, claimed := 2, newNode := 3, epoch := 1, time := 0 }, holdUntil := 0 }, ({ live with pair.claimAt := none, pair.claims := [(0, some { msg := { mask := 1, window := 0, claimed := 2, newNode := 3, epoch := 1, time := 0 }, holdUntil := 0 })], mem.slots := [] } : State), by decide⟩,
    ⟨0, ({ live with pair.claimAt := some 0 } : State), by decide⟩,
    ⟨10 ^ 15, ({ live with pair.claimAt := some (10 ^ 15) } : State), by decide⟩,
    ⟨{ live with pair.cfg := some { pairCfg0 with scriptLead := false }, pair.role := .claiming, pair.claimAt := some 0 }, by decide⟩,
    ⟨.session 0, ({ live with pair.role := .standIn } : State), by decide⟩,
    ⟨.session 9, live, by decide⟩⟩

theorem test_w38 : -- TheSetIsMirroredAndResynchronised
    (∃ (m : MirStoreMsg) (s : State), s.flt.safe = false
        ∧ s.pair.role = .standIn
        ∧ m.mseq = s.pair.mseq + 1
        ∧ s.pair.early = []
        ∧ inSet s m.offset = true
        ∧ (m.mask = fullMask ∨ tget [] s.mem.symErrs (m.offset / 64) = [])
        ∧ ((pairLinks s).find? (fun l => mirRoom s l 1) = none))
    ∧ (∃ (m : MirStoreMsg) (s : State), s.flt.safe = false
        ∧ s.pair.role = .standIn
        ∧ s.pair.mseq + 1 < m.mseq
        ∧ s.pair.early = []
        ∧ ((pairLinks s).find? (fun l => mirRoom s l 1) = none))
    ∧ (∃ (m : MirWordMsg) (s : State), s.flt.safe = false
        ∧ s.pair.role = .standIn
        ∧ m.mseq = s.pair.mseq + 1
        ∧ s.pair.early = []
        ∧ inSet s m.offset = true
        ∧ tget [] s.mem.symErrs (m.offset / 64) = []
        ∧ ((pairLinks s).find? (fun l => mirRoom s l 1) = none))
    ∧ (∃ (s : State), s.pair.role = .lead)
    ∧ (∃ (n : Nat) (s : State), s.flt.safe = false
        ∧ s.pair.role = .lead
        ∧ s.pair.confirmed < n
        ∧ n ≤ s.pair.mseq
        ∧ s.pair.work = []
        ∧ s.pair.waiting = [])
    ∧ (∃ (n : Nat) (s : State), n ≤ s.pair.confirmed)
    ∧ (∃ (w : MirPending) (a : MemRsp) (s : State), s.flt.safe = false
        ∧ s.pair.role = .lead
        ∧ s.pair.confirmed < s.pair.mseq
        ∧ s.pair.work = [w]
        ∧ w.mseq ≤ s.pair.mseq
        ∧ w.rsp = some a)
    ∧ (∃ (c : PairCfg) (s : State), s.pair.cfg = some c
        ∧ s.flt.safe = false
        ∧ (s.pair.role = .standIn ∨ s.pair.role = .resync))
    ∧ (∃ (off : Nat) (s : State), s.flt.safe = false
        ∧ s.pair.role = .resync
        ∧ inSet s off = true
        ∧ setPos s off = s.pair.resyncLines
        ∧ s.pair.resyncLines % 2 ^ 24 ≤ 2 ^ 24 - 3)
    ∧ (∃ (off : Nat) (s : State), setPos s off ≠ s.pair.resyncLines)
    ∧ (∃ (c : PairCfg) (s : State), s.pair.cfg = some c
        ∧ s.flt.safe = false
        ∧ setLines s ≤ s.pair.resyncLines
        ∧ s.pair.role = .resync
        ∧ c.forerunner = false)
    ∧ (∃ (c : PairCfg) (s : State), s.pair.cfg = some c
        ∧ s.flt.safe = false
        ∧ setLines s ≤ s.pair.resyncLines
        ∧ s.pair.role = .lead
        ∧ s.pair.resyncing = true
        ∧ s.pair.outbox = []
        ∧ standAddr s .pairSolo 0 = none) :=
  ⟨⟨{ mseq := 1, offset := 0, mask := 1, ident := { node := 2, job := 0, flowTag := 0 }, data := 0 }, ({ live with pair.role := .standIn, pair.early := [], pair.cfg := some pairCfg0, pod.links := [(0, { st := 2, ourUsed := [(6, 64)] }), (4, { st := 2, ourUsed := [(6, 64)] })] } : State), by decide⟩,
    ⟨{ mseq := 2, offset := 0, mask := 1, ident := { node := 2, job := 0, flowTag := 0 }, data := 0 }, ({ live with pair.role := .standIn, pair.early := [], pair.cfg := some pairCfg0, pod.links := [(0, { st := 2, ourUsed := [(6, 64)] }), (4, { st := 2, ourUsed := [(6, 64)] })] } : State), by decide⟩,
    ⟨{ mseq := 1, offset := 0, value := 1, result := 0, ident := { node := 2, job := 0, flowTag := 0 } }, ({ live with pair.role := .standIn, pair.early := [], mem.symErrs := [((({ mseq := 1, offset := 0, value := 1, result := 0, ident := { node := 2, job := 0, flowTag := 0 } } : MirWordMsg).offset / 64), [])], pair.cfg := some pairCfg0, pod.links := [(0, { st := 2, ourUsed := [(6, 64)] }), (4, { st := 2, ourUsed := [(6, 64)] })] } : State), by decide⟩,
    ⟨({ live with pair.role := .lead } : State), by decide⟩,
    ⟨1, ({ live with pair.role := .lead, pair.work := [], pair.waiting := [], pair.mseq := 1 } : State), by decide⟩,
    ⟨0, live, by decide⟩,
    ⟨{ mseq := 1, line := 0, rsp := some { buf := 0, slot := 0, gen := 0 }, req := ldReq }, { buf := 0, slot := 0, gen := 0 }, { live with pair.role := .lead, pair.mseq := 1, pair.work := [{ mseq := 1, line := 0, rsp := some { buf := 0, slot := 0, gen := 0 }, req := ldReq }] }, by decide +kernel⟩,
    ⟨pairCfg0, ({ live with pair.cfg := some pairCfg0, pair.role := .standIn } : State), by decide⟩,
    ⟨0, ({ live with pair.role := .resync, pair.cfg := some pairCfg0 } : State), by decide⟩,
    ⟨64, ({ live with pair.cfg := some pairCfg0 } : State), by decide⟩,
    ⟨{ pairCfg0 with forerunner := false }, ({ live with pair.cfg := some { pairCfg0 with forerunner := false }, pair.role := .resync, pair.resyncLines := 2 ^ 24 } : State), by decide⟩,
    ⟨pairCfg0, ({ live with pair.cfg := some pairCfg0, pair.role := .lead, pair.resyncing := true, pair.outbox := [], pair.resyncLines := 2 ^ 24 } : State), by decide⟩⟩

theorem test_w39 : -- PowerUpResetRestartDarkAndWake
    (∃ (s : State), s.boot.phase = 0)
    ∧ (∃ (s : State), s.boot.phase ≠ 0)
    ∧ (∃ (pin : Nat), pin < 2)
    ∧ (∃ (s : State), s.thm.tripLocked = true)
    ∧ (∃ (s : State), s.thm.tripLocked = false)
    ∧ (∃ (p : Path) (u : State) (s : State), mayWrite s p .i = true
        ∧ runningJobs s = []
        ∧ u = audit (some p) 0x12 1 0 (audit (some p) 0x10 0x020004 1 s))
    ∧ (∃ (p : Path) (s : State), mayWrite s p .i = true
        ∧ runningJobs s ≠ [])
    ∧ (∃ (p : Path) (s : State), mayWrite s p .i = true
        ∧ runningJobs s = [])
    ∧ (∃ (p : Path) (s : State), s.boot.dark = true
        ∧ s.flt.safe = false
        ∧ holds s p .i = true)
    ∧ (∃ (p : Path) (s : State), mayWrite s p .i = false)
    ∧ (∃ (s : State), s.boot.dark = false) :=
  ⟨⟨({ live with boot.phase := 0 } : State), by decide⟩,
    ⟨live, by decide⟩,
    ⟨0, by decide⟩,
    ⟨({ live with thm.tripLocked := true } : State), by decide⟩,
    ⟨({ live with thm.tripLocked := false } : State), by decide⟩,
    ⟨.session 0, audit (some (.session 0)) 0x12 1 0 (audit (some (.session 0)) 0x10 0x020004 1 live), live, by decide +kernel⟩,
    ⟨.session 0, (liveJob : State), by decide⟩,
    ⟨.session 0, live, by decide⟩,
    ⟨.session 0, ({ live with boot.dark := true } : State), by decide⟩,
    ⟨.session 9, live, by decide⟩,
    ⟨live, by decide⟩⟩

theorem test_w40 : -- BootChecksFusesFirmwareScriptAndTime
    (∃ (s : State), inPhase s 2 = true
        ∧ s.part.fusesOk = false)
    ∧ (∃ (s : State), inPhase s 2 = true
        ∧ s.part.fusesOk = true
        ∧ s.flt.frozen = false)
    ∧ (∃ (a : ImageCheck) (b : ImageCheck) (n : Nat) (u : State) (s : State), inPhase s 3 = true
        ∧ s.boot.preferred = n
        ∧ n < 2
        ∧ (slotOf s n).st = 3
        ∧ (slotOf s n).attempts < 3
        ∧ u = tryImage n (xspiEnd s)
        ∧ (imageOk u (slotOf u n) (if n = 0 then a else b) = true))
    ∧ (∃ (s : State), inPhase s 3 = true
        ∧ s.boot.preferred = 0
        ∧ (slotOf s 0).st ≠ 3
        ∧ (slotOf s 1).st ≠ 3)
    ∧ (∃ (b : ImageCheck) (u : State) (s : State), inPhase s 3 = true
        ∧ s.boot.preferred = 0
        ∧ (slotOf s 0).st ≠ 3
        ∧ (slotOf s 1).st = 3
        ∧ u = tryImage 1 (xspiEnd s)
        ∧ imageOk u (slotOf u 1) b = true)
    ∧ (∃ (n : Nat) (s : State), n ≠ s.boot.preferred)
    ∧ (∃ (ins : Bool) (c0 : ScriptCopy) (c1 : ScriptCopy) (u : State) (s : State), inPhase s 4 = true
        ∧ u = { s with pins := { s.pins with installEn := ins } }
        ∧ chooseScript u c0 c1 = none)
    ∧ (∃ (ins : Bool) (fell : Bool) (k : Nat) (x : Script) (c0 : ScriptCopy) (c1 : ScriptCopy) (u : State) (s : State), inPhase s 4 = true
        ∧ u = { s with pins := { s.pins with installEn := ins } }
        ∧ chooseScript u c0 c1 = some (k, fell, x))
    ∧ (∃ (st : List Int) (sk : List Int) (s : State), inPhase s 5 = true
        ∧ s.part.variant = .s12
        ∧ ((st.getD 0 0 + st.getD 2 0) - (st.getD 1 0 + st.getD 3 0)).natAbs ≤ 4
        ∧ (sk.any (fun a => sk.any (fun b => decide (8 < (a - b).natAbs))) = false))
    ∧ (∃ (sk : List Int) (s : State), inPhase s 5 = true
        ∧ (sk.any (fun a => sk.any (fun b => decide (8 < (a - b).natAbs))) = true))
    ∧ (∃ (s : State), inPhase s 2 = false)
    ∧ (∃ (s : State), inPhase s 3 = false) :=
  ⟨⟨({ live with part.fusesOk := false, boot.phase := 2 } : State), by decide⟩,
    ⟨({ live with part.fusesOk := true, flt.frozen := false, boot.phase := 2 } : State), by decide⟩,
    ⟨{}, {}, 0, tryImage 0 (xspiEnd (modSlot 0 (fun x => { x with st := 3 }) ({ live with boot.preferred := 0, boot.phase := 3 }) : State)), (modSlot 0 (fun x => { x with st := 3 }) ({ live with boot.preferred := 0, boot.phase := 3 }) : State), by decide +kernel⟩,
    ⟨({ live with boot.preferred := 0, boot.phase := 3, boot.slots := [(0, { st := 4 }), (1, { st := 4 })] } : State), by decide⟩,
    ⟨{}, tryImage 1 (xspiEnd (modSlot 1 (fun x => { x with st := 3 }) ({ live with boot.preferred := 0, boot.phase := 3, boot.slots := [(0, { st := 4 }), (1, { st := 3 })] }) : State)), (modSlot 1 (fun x => { x with st := 3 }) ({ live with boot.preferred := 0, boot.phase := 3, boot.slots := [(0, { st := 4 }), (1, { st := 3 })] }) : State), by decide +kernel⟩,
    ⟨1, live, by decide⟩,
    ⟨false, { content := none }, { content := none }, { ({ live with boot.phase := 4 } : State) with pins := { ({ live with boot.phase := 4 } : State).pins with installEn := false } }, ({ live with boot.phase := 4 } : State), by decide +kernel⟩,
    ⟨false, false, 0, script0, { content := some script0 }, { content := some script0 }, { ({ live with boot.phase := 4 } : State) with pins := { ({ live with boot.phase := 4 } : State).pins with installEn := false } }, ({ live with boot.phase := 4 } : State), by decide +kernel⟩,
    ⟨[], [], ({ live with part.variant := .s12, boot.phase := 5 } : State), by decide⟩,
    ⟨[0, 9], ({ live with boot.phase := 5 } : State), by decide⟩,
    ⟨live, by decide⟩,
    ⟨live, by decide⟩⟩

theorem test_w41 : -- BootLightsFocusesAndClearsMemory
    (∃ (ls : List (Nat × Nat × Nat)) (s : State), inPhase s 6 = true
        ∧ s.boot.script.bind (·.lasers) = some ls
        ∧ ls.length = 16
        ∧ s.flt.map = [])
    ∧ (∃ (s : State), s.boot.script.bind (·.lasers) = none)
    ∧ (∃ (f : List (Nat × Option Nat × TrimRec)) (s : State), inPhase s 7 = true
        ∧ warmChoice s = none
        ∧ (f.all (fun p => p.2.1.isNone) = true))
    ∧ (∃ (w : WarmImage) (n : Nat) (s : State), inPhase s 7 = true
        ∧ warmChoice s = some (n, w)
        ∧ (∀ e, (elemKind s.part.variant e).isSome = true → (imageRec s w e).valid = true))
    ∧ (∃ (w : WarmImage) (n : Nat) (e : Nat) (s : State), inPhase s 7 = true
        ∧ warmChoice s = some (n, w)
        ∧ (elemKind s.part.variant e).isSome = true
        ∧ (imageRec s w e).valid = false)
    ∧ (∃ (e : Nat) (s : State), inPhase s 7 = true
        ∧ (elemKind s.part.variant e).isSome = true)
    ∧ (∃ (s : State), s.boot.kind = 3)
    ∧ (∃ (w : WarmImage) (n : Nat) (s : State), warmChoice s = some (n, w))
    ∧ (∃ (s : State), inPhase s 8 = true
        ∧ (s.part.stackGib = 48 ∨ s.part.stackGib = 36))
    ∧ (∃ (m : Nat) (s : State), inPhase s 8 = true
        ∧ s.part.stackGib ≠ 48
        ∧ s.part.stackGib ≠ 36
        ∧ ((memStations s.part.variant).filter (fun m => !memFenced s m) = [m]))
    ∧ (∃ (m : Nat) (s : State), inPhase s 8 = true
        ∧ (s.part.stackGib = 48 ∨ s.part.stackGib = 36)
        ∧ ((memStations s.part.variant).filter (fun m => !memFenced s m) = [m])) :=
  ⟨⟨List.replicate 16 (0, 0, 0), ({ live with flt.map := [], boot.phase := 6, boot.script := some { script0 with lasers := some (List.replicate 16 (0, 0, 0)) } } : State), by decide⟩,
    ⟨live, by decide⟩,
    ⟨[], ({ live with boot.phase := 7 } : State), by decide⟩,
    ⟨{ valid := true, generation := 1, rest := true }, 1, ({ live with boot.phase := 7, foc.copyA := { valid := true, generation := 1, rest := true } } : State), by decide, by decide, fun e h => by simp only [imageRec]; split <;> simp_all [tget]⟩,
    ⟨{ valid := true, generation := 1, elems := [(0, {})] }, 1, 0, ({ live with boot.phase := 7, foc.copyA := { valid := true, generation := 1, elems := [(0, {})] } } : State), by decide⟩,
    ⟨0, ({ live with boot.phase := 7 } : State), by decide⟩,
    ⟨({ live with boot.kind := 3 } : State), by decide⟩,
    ⟨{ valid := true, generation := 1 }, 1, ({ live with foc.copyA := { valid := true, generation := 1 } } : State), by decide⟩,
    ⟨({ live with part.stackGib := 48, boot.phase := 8 } : State), by decide⟩,
    ⟨0, { live with boot.phase := 8, part.stackGib := 24, flt.map := (List.range 11).map fun k => (k, some { unit := uMem (k + 1) }) }, by decide⟩,
    ⟨0, ({ live with part.stackGib := 48, boot.phase := 8, flt.map := (List.range 11).map fun k => (k, some { unit := uMem (k + 1) }) } : State), by decide⟩⟩

theorem test_w42 : -- BootTrainsSetsTimeAndIsReady
    (∃ (s : State), inPhase s 9 = true
        ∧ (∀ n, n < 12 → (siteOf s n).st ≠ 1 ∧ (siteOf s n).st ≠ 2))
    ∧ (∃ (n : Nat) (s : State), inPhase s 9 = true
        ∧ n < 12
        ∧ siteUp s n = true
        ∧ ((siteOf s n).st = 1 ∨ (siteOf s n).st = 2)
        ∧ (∀ k, k < 12 → k ≠ n → (siteOf s k).st ≠ 1 ∧ (siteOf s k).st ≠ 2))
    ∧ (∃ (s : State), inPhase s 10 = true
        ∧ (timeSelect s).pod.upstream = none)
    ∧ (∃ (l : Nat) (u : State) (s : State), inPhase s 10 = true
        ∧ u = timeSelect s
        ∧ u.pod.upstream = some l)
    ∧ (∃ (s : State), inPhase s 11 = true)
    ∧ (∃ (s : State), s.flt.safe = true) :=
  ⟨⟨{ live with boot.phase := 9 }, by decide⟩,
    ⟨0, { live with boot.phase := 9, tsi := [(0, { st := 2 })] }, by decide⟩,
    ⟨({ live with boot.phase := 10 } : State), by decide⟩,
    ⟨0, timeSelect { modPodLink 0 (fun x => { x with time := { locked := true, priority := 1, source := 2, lastValid := some (10 ^ 15) } }) live with boot.phase := 10 }, { modPodLink 0 (fun x => { x with time := { locked := true, priority := 1, source := 2, lastValid := some (10 ^ 15) } }) live with boot.phase := 10 }, by decide +kernel⟩,
    ⟨({ live with boot.phase := 11 } : State), by decide⟩,
    ⟨({ live with flt.safe := true } : State), by decide⟩⟩

theorem test_w43 : -- TheScriptIsCheckedAndTheFlashWindowWorks
    (∃ (p : Path) (s : State), mayWrite s p .i = true
        ∧ s.boot.checkSt ≠ 1)
    ∧ (∃ (c : ScriptCopy) (x : Script) (n : Nat) (s : State), s.flt.safe = false
        ∧ s.boot.dark = false
        ∧ s.boot.checkSt = 1
        ∧ s.boot.script = some x
        ∧ n = scriptItem s (!(x.installerSigned || installerValid s c)) c)
    ∧ (∃ (p : Path) (s : State), mayWrite s p .i = true
        ∧ s.boot.flashBusy = true)
    ∧ (∃ (p : Path) (s : State), mayWrite s p .i = true
        ∧ s.boot.flashBusy = false)
    ∧ (∃ (p : Path) (s : State), mayWrite s p .i = true
        ∧ s.boot.flashBusy = false
        ∧ flashOpen s (s.boot.flashAddr.toNat / 256 * 256) = true)
    ∧ (∃ (p : Path) (s : State), mayWrite s p .i = true
        ∧ s.boot.flashBusy = false
        ∧ flashOpen s (s.boot.flashAddr.toNat / 4096 * 4096) = true)
    ∧ (∃ (s : State), s.foc.saving = false
        ∧ s.boot.copy < 2)
    ∧ (∃ (s : State), s.boot.flashBusy = true
        ∧ s.boot.flashOp = 3)
    ∧ (∃ (s : State), s.boot.flashBusy = true
        ∧ s.boot.flashOp = 2)
    ∧ (∃ (s : State), s.boot.flashBusy = true)
    ∧ (∃ (x : AuditEntry) (u : State) (s : State), s.flt.safe = false
        ∧ 3 ≤ s.boot.phase
        ∧ s.role.auditSeq ≠ s.role.archived
        ∧ s.role.archiveWait ≤ s.now
        ∧ oldestEntry s = some x
        ∧ (u = writeFlash (archiveBase + 32 * (s.role.archived.toNat % 262144)) (leBytes 32 (auditWord x).toNat) (if s.role.archived.toNat % 262144 % 128 = 0 then eraseFlash (archiveBase + 32 * (s.role.archived.toNat % 262144)) 4096 s else s)))
    ∧ (∃ (s : State), s.flt.safe = false
        ∧ 3 ≤ s.boot.phase
        ∧ s.role.auditSeq ≠ s.role.archived
        ∧ s.role.archiveWait ≤ s.now
        ∧ s.role.archiveTries = 2)
    ∧ (∃ (p : Path) (s : State), mayWrite s p .i = false) :=
  ⟨⟨.session 0, live, by decide⟩,
    ⟨{ content := some script0 }, script0, 0, ({ live with boot.checkSt := 1, boot.script := some script0 } : State), by decide⟩,
    ⟨.session 0, ({ live with boot.flashBusy := true } : State), by decide⟩,
    ⟨.session 0, ({ live with boot.flashBusy := false } : State), by decide⟩,
    ⟨.session 0, ({ live with boot.flashBusy := false, boot.flashAddr := 0x2500000 } : State), by decide⟩,
    ⟨.session 0, ({ live with boot.flashBusy := false, boot.flashAddr := 0x2500000 } : State), by decide⟩,
    ⟨({ live with foc.saving := false } : State), by decide⟩,
    ⟨({ live with boot.flashBusy := true, boot.flashOp := 3 } : State), by decide⟩,
    ⟨({ live with boot.flashBusy := true, boot.flashOp := 2 } : State), by decide⟩,
    ⟨({ live with boot.flashBusy := true } : State), by decide⟩,
    ⟨{ seq := 1 }, writeFlash (archiveBase + 32 * (({ live with role.auditSeq := 2, role.archived := 1, role.audit := [(1023, some { seq := 1 })] } : State).role.archived.toNat % 262144)) (leBytes 32 (auditWord { seq := 1 }).toNat) (if ({ live with role.auditSeq := 2, role.archived := 1, role.audit := [(1023, some { seq := 1 })] } : State).role.archived.toNat % 262144 % 128 = 0 then eraseFlash (archiveBase + 32 * (({ live with role.auditSeq := 2, role.archived := 1, role.audit := [(1023, some { seq := 1 })] } : State).role.archived.toNat % 262144)) 4096 ({ live with role.auditSeq := 2, role.archived := 1, role.audit := [(1023, some { seq := 1 })] } : State) else ({ live with role.auditSeq := 2, role.archived := 1, role.audit := [(1023, some { seq := 1 })] } : State)), ({ live with role.auditSeq := 2, role.archived := 1, role.audit := [(1023, some { seq := 1 })] } : State), by decide +kernel⟩,
    ⟨({ live with role.archiveTries := 2, role.auditSeq := 2 } : State), by decide⟩,
    ⟨.session 9, live, by decide⟩⟩

theorem test_w44 : -- SessionsEnrolmentAndFactoryMode
    (∃ (n : Nat) (c : Certificate) (s : State), 3 ≤ s.boot.phase
        ∧ ((List.range 8).find? (fun n => (sessionOf s n).isNone) = some n)
        ∧ c.chainOk = true
        ∧ c.serial = s.part.serial
        ∧ s.boot.enrolOpen = false
        ∧ anchored s c = true)
    ∧ (∃ (n : Nat) (c : Certificate) (s : State), 3 ≤ s.boot.phase
        ∧ ((List.range 8).find? (fun n => (sessionOf s n).isNone) = some n)
        ∧ c.chainOk = true
        ∧ c.serial = s.part.serial
        ∧ s.boot.enrolOpen = true
        ∧ c.selfSigned = true
        ∧ c.role = .installer
        ∧ s.role.enrolled.length < 4)
    ∧ (∃ (c : Certificate) (s : State), 3 ≤ s.boot.phase
        ∧ ((List.range 8).find? (fun n => (sessionOf s n).isNone) = none ∨ c.chainOk = false ∨ c.serial ≠ s.part.serial))
    ∧ (∃ (c : Certificate), c.role = .none)
    ∧ (∃ (n : Nat) (s : State), (sessionOf s n).isSome = true)
    ∧ (∃ (n : Nat) (x : Session) (s : State), sessionOf s n = some x
        ∧ x.lastBeat + 60000000000 ≤ s.now)
    ∧ (∃ (n : Nat) (x : Session) (s : State), sessionOf s n = some x
        ∧ s.now < x.lastBeat + 60000000000)
    ∧ (∃ (n : Nat) (x : Session) (s : State), 3 ≤ s.boot.phase
        ∧ sessionOf s n = some x)
    ∧ (∃ (s : State), 3 ≤ s.boot.phase)
    ∧ (∃ (x : Script) (s : State), 3 ≤ s.boot.phase
        ∧ s.boot.script = some x)
    ∧ (∃ (p : Path) (s : State), s.role.enrolled.length < 4
        ∧ mayWrite s p .i = true)
    ∧ (∃ (p : Path) (s : State), (4 ≤ s.role.enrolled.length ∨ mayWrite s p .i = false))
    ∧ (∃ (p : Path) (s : State), csOpen s = true
        ∧ pathRole s p = .maker
        ∧ ((s.role.jobs.any (fun x => x.2.st == .running)) = false)
        ∧ s.role.facActive = false)
    ∧ (∃ (p : Path) (b : Bool) (s : State), (pathRole s p ≠ .maker ∨ b = false)) :=
  ⟨⟨3, { role := .installer, serial := 0, keyDigest := 1, anchor := 1, chainOk := true, selfSigned := false }, ({ live with boot.enrolOpen := false, role.enrolled := [1] } : State), by decide +kernel⟩,
    ⟨3, { role := .installer, serial := 0, keyDigest := 1, anchor := 1, chainOk := true, selfSigned := true }, ({ live with boot.enrolOpen := true } : State), by decide⟩,
    ⟨{ role := .installer, serial := 1, keyDigest := 1, anchor := 1, chainOk := true, selfSigned := false }, live, by decide⟩,
    ⟨{ role := .none, serial := 0, keyDigest := 1, anchor := 1, chainOk := true, selfSigned := false }, by decide⟩,
    ⟨0, live, by decide⟩,
    ⟨0, { role := .installer }, live, by decide +kernel⟩,
    ⟨0, { role := .installer, lastBeat := 10 ^ 15 }, ({ live with role.sessions := [(0, some { role := .installer, lastBeat := 10 ^ 15 })] } : State), by decide +kernel⟩,
    ⟨0, { role := .installer }, live, by decide +kernel⟩,
    ⟨live, by decide⟩,
    ⟨script0, ({ live with boot.script := some script0 } : State), by decide⟩,
    ⟨.session 0, live, by decide⟩,
    ⟨.session 9, live, by decide⟩,
    ⟨.session 2, ({ live with role.facActive := false } : State), by decide⟩,
    ⟨.session 0, false, live, by decide⟩⟩

theorem test_w45 : -- JobsAndContinuity
    (∃ (p : Path) (j : Nat) (tag : Nat) (s : State), mayWrite s p .o = true
        ∧ j < 256
        ∧ (jobOf s j).st = .defined
        ∧ startReason s j = 0
        ∧ freeEnergyTag s = some tag)
    ∧ (∃ (p : Path) (j : Nat) (n : Nat) (s : State), mayWrite s p .o = true
        ∧ j < 256
        ∧ (jobOf s j).st = .defined
        ∧ startReason s j = n
        ∧ n ≠ 0)
    ∧ (∃ (s : State), s.boot.ready = false)
    ∧ (∃ (p : Path) (j : Nat) (s : State), mayWrite s p .o = true
        ∧ j < 256
        ∧ (jobOf s j).st = .running)
    ∧ (∃ (j : Nat) (s : State), s.flt.safe = false
        ∧ (jobOf s j).st = .ending
        ∧ ((List.range 256).any (fun i => (regionOf s i).st != 0 && (regionOf s i).job == j) = false))
    ∧ (∃ (j : Nat) (s : State), ((List.range 256).any (fun i => (regionOf s i).st != 0 && (regionOf s i).job == j) = true))
    ∧ (∃ (p : Path) (j : Nat) (s : State), mayWrite s p .o = true
        ∧ j < 256
        ∧ (jobOf s j).st = .defined)
    ∧ (∃ (p : Path) (j : Nat) (s : State), mayWrite s p .o = true
        ∧ (jobOf s j).st = .running)
    ∧ (∃ (p : Path) (s : State), mayWrite s p .o = false)
    ∧ (∃ (s : State), s.boot.ready = true
        ∧ s.flt.safe = false
        ∧ s.boot.dark = false
        ∧ s.role.contDone < sweepsDue s)
    ∧ (∃ (s : State), sweepsDue s ≤ s.role.contDone)
    ∧ (∃ (n : Word16) (d : Word64) (i : Nat) (c : ContPartner) (s : State), s.boot.ready = true
        ∧ s.flt.safe = false
        ∧ s.boot.dark = false
        ∧ (s.role.partners.find? (fun p => (p.2.map (fun c => c.node == n)).getD false) = some (i, some c))
        ∧ d = s.role.expect
        ∧ c.st = 1)
    ∧ (∃ (n : Word16) (i : Nat) (c : ContPartner) (s : State), s.boot.ready = true
        ∧ s.flt.safe = false
        ∧ s.boot.dark = false
        ∧ (s.role.partners.find? (fun p => (p.2.map (fun c => c.node == n)).getD false) = some (i, some c))
        ∧ c.st = 1
        ∧ c.bad = 1)
    ∧ (∃ (i : Nat) (c : ContPartner) (s : State), partnerAt s i = some c
        ∧ c.st ≠ 0
        ∧ s.flt.safe = false
        ∧ c.last + 3000000000 ≤ s.now) :=
  ⟨⟨.session 0, 1, 1, { live with role.jobs := [(1, { job1 with st := .defined })], role.digest := 5, role.expect := 5 }, by decide⟩,
    ⟨.session 0, 0, 1, (modJob 0 (fun x => { x with st := .defined }) (live) : State), by decide⟩,
    ⟨({ live with boot.ready := false } : State), by decide⟩,
    ⟨.session 0, 0, (modJob 0 (fun x => { x with st := .running }) (live) : State), by decide⟩,
    ⟨0, (modJob 0 (fun x => { x with st := .ending }) (live) : State), by decide +kernel⟩,
    ⟨0, ({ live with blk.regions := [(0, { st := 1 })] } : State), by decide⟩,
    ⟨.session 0, 0, (modJob 0 (fun x => { x with st := .defined }) (live) : State), by decide⟩,
    ⟨.session 0, 0, (modJob 0 (fun x => { x with st := .running }) (live) : State), by decide⟩,
    ⟨.session 9, live, by decide⟩,
    ⟨live, by decide⟩,
    ⟨({ live with role.contDone := 10 ^ 7 } : State), by decide⟩,
    ⟨2, 0, 0, { node := 2, st := 1 }, ({ live with role.partners := [(0, some { node := 2, st := 1 })] } : State), by decide⟩,
    ⟨2, 0, { node := 2, st := 1, bad := 1 }, ({ live with role.partners := [(0, some { node := 2, st := 1, bad := 1 })] } : State), by decide⟩,
    ⟨0, { node := 2, st := 1 }, ({ live with role.partners := [(0, some { node := 2, st := 1 })] } : State), by decide⟩⟩

theorem test_w46 : -- FirmwareIsReceivedCheckedAndActivated
    (∃ (n : Nat) (sv : Nat) (pc : Nat) (s : State), updateOpen s n = true
        ∧ s.boot.activating = none
        ∧ (updSlot s).st ≠ 1
        ∧ 1 ≤ pc
        ∧ pc ≤ 4080
        ∧ sv ≤ 63)
    ∧ (∃ (n : Nat) (im : Word32) (s : State), updateOpen s n = true
        ∧ s.boot.activating = none
        ∧ (updSlot s).st = 1
        ∧ (updSlot s).image = im)
    ∧ (∃ (n : Nat) (i : Nat) (im : Word32) (s : State), updateOpen s n = true
        ∧ s.boot.activating = none
        ∧ ((updSlot s).st = 1 ∨ (updSlot s).st = 2)
        ∧ (updSlot s).image = im
        ∧ i < (updSlot s).pieces)
    ∧ (∃ (n : Nat) (im : Word32) (s : State), updateOpen s n = true
        ∧ s.boot.activating = none
        ∧ (updSlot s).image ≠ im)
    ∧ (∃ (n : Nat) (i : Nat) (im : Word32) (s : State), updateOpen s n = true
        ∧ s.boot.activating = none
        ∧ (updSlot s).st = 1
        ∧ (updSlot s).image = im
        ∧ (updSlot s).pieces ≤ i)
    ∧ (∃ (n : Nat) (s : State), updateOpen s n = true)
    ∧ (∃ (n : Nat) (s : State), updateOpen s n = true
        ∧ holds s (.session n) .i = true
        ∧ (updSlot s).st = 1)
    ∧ (∃ (p : Path) (s : State), mayWrite s p .i = true
        ∧ (updSlot s).st = 1)
    ∧ (∃ (p : Path) (s : State), mayWrite s p .i = true
        ∧ s.boot.activating = none
        ∧ (updSlot s).st = 2
        ∧ (updSlot s).got.length = (updSlot s).pieces)
    ∧ (∃ (k : Nat) (c : ImageCheck) (s : State), s.flt.safe = false
        ∧ s.boot.activating = some k
        ∧ imageOk s (slotOf s k) c = true)
    ∧ (∃ (k : Nat) (c : ImageCheck) (s : State), s.flt.safe = false
        ∧ s.boot.activating = some k
        ∧ imageOk s (slotOf s k) c = false)
    ∧ (∃ (p : Path) (s : State), mayWrite s p .i = false) :=
  ⟨⟨0, 0, 1, ({ live with boot.activating := none } : State), by decide⟩,
    ⟨0, 0, ({ live with boot.activating := none, boot.slots := [(0, { pieces := 1, st := 3 }), (1, { st := 1 })] } : State), by decide⟩,
    ⟨0, 0, 0, ({ live with boot.activating := none, boot.slots := [(0, { pieces := 1, st := 3 }), (1, { st := 1, pieces := 1 })] } : State), by decide⟩,
    ⟨0, 1, ({ live with boot.activating := none } : State), by decide⟩,
    ⟨0, 0, 0, ({ live with boot.activating := none, boot.slots := [(0, { pieces := 1, st := 3 }), (1, { st := 1 })] } : State), by decide⟩,
    ⟨0, live, by decide⟩,
    ⟨0, ({ live with boot.slots := [(0, { pieces := 1, st := 3 }), (1, { st := 1 })] } : State), by decide⟩,
    ⟨.session 0, ({ live with boot.slots := [(0, { pieces := 1, st := 3 }), (1, { st := 1 })] } : State), by decide⟩,
    ⟨.session 0, ({ live with boot.activating := none, boot.slots := [(0, { pieces := 1, st := 3 }), (1, { st := 2 })] } : State), by decide⟩,
    ⟨0, {}, ({ live with boot.activating := some 0 } : State), by decide⟩,
    ⟨0, { tagsOk := false }, ({ live with boot.activating := some 0 } : State), by decide⟩,
    ⟨.session 9, live, by decide⟩⟩

theorem test_w47 : -- MessagesReachControlSpace
    (∃ (n : Nat) (k : Nat) (s : State), (sessionOf s n).isSome = true
        ∧ (s.flt.safe = true ∨ 5 ≤ s.boot.phase)
        ∧ 1 ≤ k
        ∧ k ≤ 256)
    ∧ (∃ (n : Nat) (k : Nat) (s : State), (k = 0 ∨ 256 < k ∨ sessionOf s n = none))
    ∧ (∃ (n : Nat) (a : Nat) (d : Word32) (t : State) (s : State), (sessionOf s n).isSome = true
        ∧ (s.flt.safe = true ∨ 5 ≤ s.boot.phase)
        ∧ t = regWrite (.session n) a d s
        ∧ (sessionOf t n).isSome = true)
    ∧ (∃ (n : Nat) (a : Nat) (ds : List Word32) (t : State) (s : State), (sessionOf s n).isSome = true
        ∧ (s.flt.safe = true ∨ 5 ≤ s.boot.phase)
        ∧ 1 ≤ ds.length
        ∧ ds.length ≤ 256
        ∧ t = regWrites (.session n) ds a s
        ∧ (sessionOf t n).isSome = true)
    ∧ (∃ (ds : List Word32), 256 < ds.length)
    ∧ (∃ (n : Nat) (a : Nat) (k : Nat) (src : Nat) (tag : BitVec 12) (m : MrMsg) (u : State) (s : State), s.flt.safe = false
        ∧ mgtWaiting n (isMgtRead n a tag) s = some (src, m, k)
        ∧ u = takeRx (ssOf n) cMGT src m s
        ∧ siteLinkUp u n = true
        ∧ 5 ≤ u.boot.phase)
    ∧ (∃ (n : Nat) (a : Nat) (k : Nat) (src : Nat) (tag : BitVec 12) (d : Word32) (m : MrMsg) (u : State) (s : State), s.flt.safe = false
        ∧ mgtWaiting n (isMgtWrite n a tag d) s = some (src, m, k)
        ∧ u = takeRx (ssOf n) cMGT src m s
        ∧ siteLinkUp u n = true
        ∧ 5 ≤ u.boot.phase)
    ∧ (∃ (n : Nat) (a : Nat) (tag : BitVec 12) (s : State), mgtWaiting n (isMgtRead n a tag) s = none)
    ∧ (∃ (n : Nat) (tag : Byte) (w : Bool) (v : Word32) (s : State), sbLive s n = true
        ∧ savedRsp s n tag = some (w, v))
    ∧ (∃ (n : Nat) (tag : Byte) (s : State), sbLive s n = true
        ∧ csAnswers s = true
        ∧ savedRsp s n tag = none)
    ∧ (∃ (n : Nat) (s : State), siteLinkUp s n = true
        ∧ 3 ≤ s.boot.phase)
    ∧ (∃ (n : Nat) (s : State), siteLinkUp s n = true
        ∧ 3 ≤ s.boot.phase
        ∧ s.csp.frags = [])
    ∧ (∃ (k : Nat) (ds : List Line), (k = 0 ∨ 8192 < k ∨ ds = [] ∨ 3 < ds.length)) :=
  ⟨⟨0, 1, ({ live with flt.safe := true } : State), by decide⟩,
    ⟨0, 0, live, by decide⟩,
    ⟨0, 0, 0, regWrite (.session 0) 0 0 ({ live with flt.safe := true } : State), ({ live with flt.safe := true } : State), by decide +kernel⟩,
    ⟨0, 0, [0], regWrites (.session 0) ([0]) 0 ({ live with flt.safe := true } : State), ({ live with flt.safe := true } : State), by decide +kernel⟩,
    ⟨List.replicate 257 0, by decide +kernel⟩,
    ⟨0, 4, 32, ssOf 0, 0, { pay := .mgtRead 0 32 4 0 }, takeRx (ssOf 0) cMGT (ssOf 0) { pay := .mgtRead 0 32 4 0 } ({ live with mrc.rx := [(pcKey (ssOf 0) (ssOf 0) cMGT, [{ pay := .mgtRead 0 32 4 0 }])] } : State), ({ live with mrc.rx := [(pcKey (ssOf 0) (ssOf 0) cMGT, [{ pay := .mgtRead 0 32 4 0 }])] } : State), by decide +kernel⟩,
    ⟨0, 4, 32, ssOf 0, 0, 5, { pay := .mgtWrite 0 32 4 0 5 }, takeRx (ssOf 0) cMGT (ssOf 0) { pay := .mgtWrite 0 32 4 0 5 } ({ live with mrc.rx := [(pcKey (ssOf 0) (ssOf 0) cMGT, [{ pay := .mgtWrite 0 32 4 0 5 }])] } : State), ({ live with mrc.rx := [(pcKey (ssOf 0) (ssOf 0) cMGT, [{ pay := .mgtWrite 0 32 4 0 5 }])] } : State), by decide +kernel⟩,
    ⟨0, 0, 0, live, by decide⟩,
    ⟨0, 0, true, 7, ({ live with csp.lastRsp := [(0, some (0, true, 7))] } : State), by decide⟩,
    ⟨0, 0, live, by decide⟩,
    ⟨0, live, by decide⟩,
    ⟨0, ({ live with csp.frags := [] } : State), by decide⟩,
    ⟨0, [], by decide⟩⟩

theorem test_w48 : -- RegistersAreReadLatchedClearedAndWritten
    (∃ (p : Path) (a : Nat) (r : Reg) (s : State), readable s a = true
        ∧ regAt s a = some r
        ∧ r.acc = .rc
        ∧ r.lo = false
        ∧ heldBits s p a r ≠ 0)
    ∧ (∃ (p : Path) (s : State), s.flt.safe = false
        ∧ 5 ≤ s.boot.phase
        ∧ s.boot.dark = false
        ∧ holds s p .o = true
        ∧ s.csp.latches = [])
    ∧ (∃ (p : Path) (s : State), s.flt.safe = false
        ∧ 5 ≤ s.boot.phase
        ∧ s.boot.dark = false
        ∧ holds s p .o = true
        ∧ s.csp.latches = [])
    ∧ (∃ (p : Path) (a : Nat) (r : Reg) (h : Reg) (s : State), readable s a = true
        ∧ regAt s a = some r
        ∧ r.acc ≠ .wo
        ∧ r.acc ≠ .rc
        ∧ r.lo = true
        ∧ heldBits s p a r ≠ 0
        ∧ regAt s (a + 4) = some h)
    ∧ (∃ (a : Nat) (s : State), (readable s a = false ∨ regAt s a = none))
    ∧ (∃ (p : Path) (a : Nat) (r : Reg) (s : State), regAt s a = some r
        ∧ heldBits s p a r = 0)
    ∧ (∃ (d : Word32), 12 ≤ fld d 0 4)
    ∧ (∃ (p : Path) (d : Word32) (s : State), mayWrite s p .o = true
        ∧ fld d 0 4 < 12)
    ∧ (∃ (p : Path) (s : State), mayWrite s p .i = true
        ∧ s.csp.staged = [])
    ∧ (∃ (p : Path) (s : State), mayWrite s p .i = true)
    ∧ (∃ (p : Path) (s : State), mayWrite s p .i = true)
    ∧ (∃ (a : Nat) (s : State), (a % 4 ≠ 0 ∨ writable s a = false))
    ∧ (∃ (a : Nat) (s : State), s.flt.safe = true
        ∧ a ≠ 0x100004
        ∧ a ≠ 0x100028)
    ∧ (∃ (p : Path) (s : State), mayWrite s p .o = false
        ∧ mayWrite s p .i = false) :=
  ⟨⟨.session 0, 0x3003C, (regAt live 0x3003C).getD {}, live, by decide⟩,
    ⟨.session 0, ({ live with csp.latches := [] } : State), by decide⟩,
    ⟨.session 0, ({ live with csp.latches := [] } : State), by decide⟩,
    ⟨.session 0, 0x30000, (regAt live 0x30000).getD {}, (regAt live 0x30004).getD {}, live, by decide⟩,
    ⟨1, live, by decide⟩,
    ⟨.session 9, 0x30000, (regAt live 0x30000).getD {}, live, by decide⟩,
    ⟨15, by decide⟩,
    ⟨.session 0, 0, live, by decide⟩,
    ⟨.session 0, ({ live with csp.staged := [] } : State), by decide⟩,
    ⟨.session 0, live, by decide⟩,
    ⟨.session 0, live, by decide⟩,
    ⟨1, live, by decide⟩,
    ⟨0, ({ live with flt.safe := true } : State), by decide⟩,
    ⟨.session 9, live, by decide⟩⟩

theorem test_w49 : -- SlatesCommitAndApplyAndDailiesAreWritten
    (∃ (p : Path) (x : Staged) (s : State), mayWrite s p .o = true
        ∧ s.csp.staged = [x]
        ∧ x.path = p
        ∧ x.slate = .roleJob)
    ∧ (∃ (p : Path) (x : Staged) (s : State), mayWrite s p .i = true
        ∧ s.csp.staged = [x]
        ∧ x.path = p
        ∧ x.slate = .tcClapper)
    ∧ (∃ (p : Path) (s : State), mayWrite s p .o = true
        ∧ s.csp.staged = [])
    ∧ (∃ (p : Path) (s : State), mayWrite s p .o = false)
    ∧ (∃ (c : CommitSet) (v : Word32) (u : State) (s : State), s.flt.safe = false
        ∧ s.boot.dark = false
        ∧ s.csp.committed = [c]
        ∧ c.tick + 1000 ≤ s.tc.lastBoundary
        ∧ c.slate = .tcClapper
        ∧ c.vals = [(0x030034, v)]
        ∧ v ≠ 0x1000
        ∧ u = pushAudit { role := c.role, session := auditSession c.path, action := 0x10, object := 0x030034, detail := v.setWidth 64, key := c.key } { s with csp := { s.csp with committed := [] } })
    ∧ (∃ (c : CommitSet) (s : State), s.flt.safe = false
        ∧ s.boot.dark = false
        ∧ s.csp.committed = [c]
        ∧ c.tick + 1000 ≤ s.tc.lastBoundary
        ∧ setLegal s c = false)
    ∧ (∃ (c : CommitSet) (s : State), s.csp.committed = [c]
        ∧ s.tc.lastBoundary < c.tick + 1000)
    ∧ (∃ (c : CommitSet) (s : State), s.flt.safe = false
        ∧ s.boot.dark = false
        ∧ s.csp.committed = [c]
        ∧ c.tick + 1000 ≤ s.tc.lastBoundary
        ∧ c.slate = .gafJobCap
        ∧ c.vals = [(0x0F0034, 200)])
    ∧ (∃ (s : State), telRuns s = true
        ∧ s.tc.timecode.toNat / 1000000 = s.tel.done + 1
        ∧ bankFenced s 7 = false)
    ∧ (∃ (s : State), telRuns s = true
        ∧ s.tel.done < s.tc.timecode.toNat / 1000000
        ∧ bankFenced s 7 = true)
    ∧ (∃ (s : State), s.tc.timecode.toNat / 1000000 ≤ s.tel.done) :=
  ⟨⟨.session 0, { path := .session 0, slate := .roleJob, vals := [] }, ({ live with csp.staged := [{ path := .session 0, slate := .roleJob, vals := [] }] } : State), by decide⟩,
    ⟨.session 0, { path := .session 0, slate := .tcClapper, vals := [] }, ({ live with csp.staged := [{ path := .session 0, slate := .tcClapper, vals := [] }] } : State), by decide⟩,
    ⟨.session 0, ({ live with csp.staged := [] } : State), by decide⟩,
    ⟨.session 9, live, by decide⟩,
    ⟨{ path := .session 0, slate := .tcClapper, sel := 0, vals := [(0x030034, 1)], tick := 0 }, 1, pushAudit { role := ({ path := .session 0, slate := .tcClapper, sel := 0, vals := [(0x030034, 1)], tick := 0 } : CommitSet).role, session := auditSession ({ path := .session 0, slate := .tcClapper, sel := 0, vals := [(0x030034, 1)], tick := 0 } : CommitSet).path, action := 0x10, object := 0x030034, detail := (1 : Word32).setWidth 64, key := ({ path := .session 0, slate := .tcClapper, sel := 0, vals := [(0x030034, 1)], tick := 0 } : CommitSet).key } { { live with csp.committed := [{ path := .session 0, slate := .tcClapper, sel := 0, vals := [(0x030034, 1)], tick := 0 }], tc.lastBoundary := 1000 } with csp := { { live with csp.committed := [{ path := .session 0, slate := .tcClapper, sel := 0, vals := [(0x030034, 1)], tick := 0 }], tc.lastBoundary := 1000 }.csp with committed := [] } }, { live with csp.committed := [{ path := .session 0, slate := .tcClapper, sel := 0, vals := [(0x030034, 1)], tick := 0 }], tc.lastBoundary := 1000 }, by decide +kernel⟩,
    ⟨{ path := .session 0, slate := .tcClapper, sel := 0, vals := [(0x030034, 0x1000)], tick := 0 }, { live with csp.committed := [{ path := .session 0, slate := .tcClapper, sel := 0, vals := [(0x030034, 0x1000)], tick := 0 }], tc.lastBoundary := 1000 }, by decide⟩,
    ⟨{ path := .session 0, slate := .tcClapper, sel := 0, vals := [], tick := 0 }, ({ live with csp.committed := [{ path := .session 0, slate := .tcClapper, sel := 0, vals := [], tick := 0 }] } : State), by decide⟩,
    ⟨{ path := .session 0, slate := .gafJobCap, sel := 0, vals := [(0x0F0034, 200)], tick := 0 }, { live with csp.committed := [{ path := .session 0, slate := .gafJobCap, sel := 0, vals := [(0x0F0034, 200)], tick := 0 }], tc.lastBoundary := 1000 }, by decide⟩,
    ⟨{ live with tel.done := 999999999 }, by decide⟩,
    ⟨{ live with flt.map := [(0, some { unit := uBank 7 })] }, by decide⟩,
    ⟨{ live with tel.done := 10 ^ 10 }, by decide⟩⟩

theorem test_w50 : -- TheManagementAddressAndTheTestPort
    (∃ (s : State), 3 ≤ s.boot.phase
        ∧ s.pins.porN = true
        ∧ s.pins.i3cAddress = none)
    ∧ (∃ (s : State), (s.pins.i3cAddress.isSome = true ∨ s.boot.phase < 3))
    ∧ (∃ (s : State), s.role.facActive = false)
    ∧ (∃ (s : State), s.role.facActive = true) :=
  ⟨⟨({ live with pins.porN := true, pins.i3cAddress := none } : State), by decide⟩,
    ⟨{ live with pins.i3cAddress := some 8 }, by decide⟩,
    ⟨({ live with role.facActive := false } : State), by decide⟩,
    ⟨({ live with role.facActive := true } : State), by decide⟩⟩

theorem test_w51 : -- StepTakesTheFront
    (∃ (c : Instr) (cs : List Instr) (s : State), s.pending = c :: cs)
    ∧ (∃ (s : State), s.pending = []) :=
  ⟨⟨.timecodeTick [], [], ({ live with pending := (.timecodeTick []) :: [] } : State), by decide⟩,
    ⟨({ live with pending := [] } : State), by decide⟩⟩

theorem test_w52 : -- EveryCommandCompletes
    (∃ (c : Instr) (s : State) (t : State), exec c s = .next t)
    ∧ (∃ (c : Instr) (s : State) (t : State), exec c s = .next t
        ∧ (∀ crew, c ≠ .timecodeTick crew)) :=
  ⟨⟨.drainEnd, live, live, rfl⟩,
    ⟨.drainEnd, live, live, rfl, by simp⟩⟩

theorem test_w53 : -- EveryStepKeepsTheMemoryForm
    (∃ (s : State) (t : State), s.memOk
        ∧ step s = .next t) :=
  ⟨live, live, (by decide : Memory.wf live.mem.cells = true), rfl⟩

theorem test_w55 : -- SafeStateLastsUntilResetOrRestart
    (∃ (k : FaultKind), kindSev k = 3)
    ∧ (∃ (c : Instr) (s : State) (t : State), s.flt.safe = true
        ∧ exec c s = .next t
        ∧ t.flt.safe = false)
    ∧ (∃ (pin : Nat), pin < 2) :=
  ⟨⟨.thermalTrip, by decide⟩,
    ⟨.vddIoRemoved, { live with flt.safe := true }, (match exec .vddIoRemoved { live with flt.safe := true } with | .next t => t | _ => live), by decide, rfl, by decide⟩,
    ⟨0, by decide⟩⟩

theorem test_w56 : -- OneTimeCellsAreNeverUndone
    (∃ (c : Instr) (s : State) (t : State), exec c s = .next t) :=
  ⟨.drainEnd, live, live, rfl⟩

theorem test_w58 : -- MemoryReadsWhatWasWrittenThere
    (∃ (c : List Host.Cell), Memory.wf c = true)
    ∧ (∃ (c : List Host.Cell), Memory.wf c = true)
    ∧ (∃ (c : List Host.Cell), Memory.wf c = true)
    ∧ (∃ (c : List Host.Cell), Memory.wf c = true)
    ∧ (∃ (c : List Host.Cell) (d : List Host.Cell), Memory.wf c = true
        ∧ Memory.wf d = true
        ∧ (∀ x, cellGet c x = cellGet d x)) :=
  ⟨⟨[], by decide⟩,
    ⟨[], by decide⟩,
    ⟨[], by decide⟩,
    ⟨[], by decide⟩,
    ⟨[], [], by decide, by decide, by simp⟩⟩

theorem test_w59 : -- ARepeatedSidebandRequestIsAnsweredOnce
    (∃ (n : Nat) (tag : Byte) (v : Word32) (w : Bool) (s : State), sbLive s n = true
        ∧ tget none s.csp.lastRsp n = some (tag, w, v))
    ∧ (∃ (n : Nat) (tag : Byte) (s : State), sbLive s n = true
        ∧ savedRsp s n tag = none
        ∧ 5 ≤ s.boot.phase)
    ∧ (∃ (n : Nat) (tag : Byte) (s : State), sbLive s n = true
        ∧ savedRsp s n tag = none
        ∧ 5 ≤ s.boot.phase) :=
  ⟨⟨0, 0, 0, false, ({ live with csp.lastRsp := [(0, some (0, false, 0))] } : State), by decide⟩,
    ⟨0, 0, live, by decide⟩,
    ⟨0, 0, live, by decide⟩⟩

theorem test_w60 : -- TheThrottleFactorFallsAndRises
    (∃ (x : Int) (st : Nat) (s : State), gafRuns s = true
        ∧ junction s = some (x, st)
        ∧ deg 95 ≤ x
        ∧ (s.gaf.fStep = none ∨ (∃ a, s.gaf.fStep = some a ∧ a + 1000000 ≤ s.now)))
    ∧ (∃ (x : Int) (st : Nat) (s : State), gafRuns s = true
        ∧ junction s = some (x, st)
        ∧ x < deg 92
        ∧ s.gaf.f < 1000000
        ∧ (s.gaf.fStep = none ∨ (∃ a, s.gaf.fStep = some a ∧ a + 1000000 ≤ s.now)))
    ∧ (∃ (x : Int) (st : Nat) (s : State), junction s = some (x, st)
        ∧ deg 92 ≤ x
        ∧ x < deg 95)
    ∧ (∃ (x : Int) (st : Nat) (s : State), junction s = some (x, st)
        ∧ x < deg 92
        ∧ s.gaf.f = 1000000)
    ∧ (∃ (a : Tick) (s : State), s.gaf.fStep = some a
        ∧ s.now < a + 1000000)
    ∧ (∃ (n : Nat) (d : Nat) (s : State), gafRuns s = true
        ∧ sbLive s n = true
        ∧ siteServing s n = true
        ∧ bit (siteFeatures s n) 2 = true
        ∧ 0 < sgn 10 d
        ∧ s.gaf.f < 1000000)
    ∧ (∃ (n : Nat) (d : Nat) (r : Nat) (s : State), gafRuns s = true
        ∧ sbLive s n = true
        ∧ siteServing s n = true
        ∧ bit (siteFeatures s n) 2 = true
        ∧ sgn 10 d < 0
        ∧ s.gaf.f < 1000000
        ∧ r = slewRoom s n (sgn 10 d).natAbs
        ∧ 0 < r) :=
  ⟨⟨1520, 0, { live with thm.sens := [(0, some 1520)] }, by decide, by decide, by decide, .inl (by decide)⟩,
    ⟨1471, 0, { live with thm.sens := [(0, some 1471)], gaf.f := 999999 }, by decide, by decide, by decide, by decide, .inl (by decide)⟩,
    ⟨1472, 0, { live with thm.sens := [(0, some 1472)] }, by decide⟩,
    ⟨1471, 0, { live with thm.sens := [(0, some 1471)] }, by decide⟩,
    ⟨10 ^ 15, ({ live with gaf.fStep := some (10 ^ 15) } : State), by decide⟩,
    ⟨0, 1, ({ live with gaf.f := 999999 } : State), by decide⟩,
    ⟨0, 1023, 1, ({ live with gaf.f := 999999 } : State), by decide +kernel⟩⟩

end Sys2Proof.Tests
end

section
/-! SUPPORT. The clapper (R55 to R59, R61): what a pulse, the close of a window and the start of a waiting reel do. -/

namespace Sys2Proof.Machine

open Sys2Proof

/-! ### Conditions that stand -/

/-- A condition that did not stand, and is not fatal, is told once and stands (R374). -/
theorem standBegin_new {k : FaultKind} {i : Nat} {s : State} (new : standAddr s k i = none) (mild : kindSev k ≠ 3) (b a : Nat) :
    standBegin k b i a s = { s with flt := { s.flt with
      net := s.flt.net ++ [mkMsg s k b i a]
      standing := (k, i, a) :: s.flt.standing } } := by
  unfold standBegin
  rw [new]
  exact raise_mild mild _ _ _ _

theorem standAddr_congr {s t : State} (h : t.flt.standing = s.flt.standing) (k : FaultKind) (i : Nat) :
    standAddr t k i = standAddr s k i := by
  unfold standAddr
  rw [h]

/-! ### A pulse -/

/-- The first pulse while a START waits fixes the first pass (R59). -/
theorem clapPulse_starting {s : State} (safe : s.flt.safe = false) (follow : s.tc.clapMode = 1)
    (waits : s.tc.startWait.isSome = true) (first : s.tc.firstPass = none) :
    clapPulse s = emit (.clapPulse (s.now + 8)) (firstPulse s) := by
  simp [clapPulse, safe, follow, waits, first]

/-- While a reel runs and no START waits, a pulse is judged by the windows (R56 to R58). -/
theorem clapPulse_running {s : State} (safe : s.flt.safe = false) (follow : s.tc.clapMode = 1)
    (waits : s.tc.startWait = none) (runs : reelActive s = true) :
    clapPulse s = emit (.clapPulse (s.now + 8)) (windowPulse s) := by
  simp [clapPulse, safe, follow, waits, runs]

theorem windowPulse_first {s : State} {k : Nat} {d : Int} (w : windowOf s = some (k, d))
    (seen : s.tc.clapSeen.contains k = false) : windowPulse s = inWindow k d s := by
  simp only [windowPulse, w, seen]
  rfl

theorem windowPulse_second {s : State} {k : Nat} {d : Int} (w : windowOf s = some (k, d))
    (seen : s.tc.clapSeen.contains k = true) : windowPulse s = showOffset d (clapViolation s) := by
  simp only [windowPulse, w, seen, if_true]

theorem windowPulse_outside {s : State} (w : windowOf s = none) (runs : reelActive s = true) :
    windowPulse s = showOffset (nearestOffset s) (clapViolation s) := by
  simp only [windowPulse, w, runs, if_true]

/-- A violation with its offset shown (R57, R70). -/
theorem showOffset_violation (d : Int) (s : State) : showOffset d (clapViolation s) = { s with
    tc := { s.tc with viol := sat32 s.tc.viol 1, lastOffset := clampI (-128) 127 d }
    flt := { s.flt with net := s.flt.net ++ [mkMsg s .partnerProtocol 10 1 0] } } := by
  rw [clapViolation, raise_mild (by decide)]
  rfl

/-- A pulse in its window pulls and locks, unless the clapper is lost (R56, R58). -/
theorem inWindow_pulls {s : State} (notLost : s.tc.clapState ≠ .lost) (k : Nat) (d : Int) : inWindow k d s = { s with
    tc := { s.tc with
      run := 0, relock := 0, lastOffset := clampI (-128) 127 d, clapState := .locked
      clapSeen := k :: s.tc.clapSeen
      pulls := tset 0 s.tc.pulls k (clampI (-8) 8 d)
      spliceLen := if k = s.tc.spliceNo then (16 + clampI (-8) 8 d).toNat else s.tc.spliceLen } } := by
  have held : (s.tc.clapState == ClapState.lost) = false := beq_eq_false_iff_ne.mpr notLost
  simp only [inWindow, held]
  rfl

/-! ### The close of a window -/

/-- A window whose pulse came closes and is dropped (R57). -/
theorem windowClose_seen {s : State} (safe : s.flt.safe = false) (follow : s.tc.clapMode = 1) (runs : reelActive s = true)
    (past : 64 < arrivalOffset s s.tc.closeNo) (seen : s.tc.clapSeen.contains s.tc.closeNo = true) :
    windowClose s = { s with tc := { s.tc with
      closeNo := s.tc.closeNo + 1
      clapSeen := s.tc.clapSeen.filter (· != s.tc.closeNo) } } := by
  unfold windowClose
  dsimp only
  rw [if_neg (by simp [safe, follow, runs, past]), if_pos seen]
  rfl

/-- The third missed window in a row makes a locked clapper lost, with its message (R58). -/
theorem windowClose_third {s : State} (safe : s.flt.safe = false) (follow : s.tc.clapMode = 1) (runs : reelActive s = true)
    (past : 64 < arrivalOffset s s.tc.closeNo) (seen : s.tc.clapSeen.contains s.tc.closeNo = false) (third : s.tc.run = 2)
    (locked : s.tc.clapState = .locked) (new : standAddr s .clapperLost 1 = none) :
    windowClose s = { s with
      tc := { s.tc with
        closeNo := s.tc.closeNo + 1
        clapSeen := s.tc.clapSeen.filter (· != s.tc.closeNo)
        run := 3, relock := 0, clapState := .lost, pulls := [], spliceLen := 16 }
      flt := { s.flt with
        net := s.flt.net ++ [mkMsg s .clapperLost 10 1 0]
        standing := (.clapperLost, 1, 0) :: s.flt.standing } } := by
  have count : min 3 (s.tc.run + 1) = 3 := by rw [third]; rfl
  unfold windowClose
  dsimp only
  rw [if_neg (by simp [safe, follow, runs, past]), if_neg (by rw [seen]; decide), if_pos ⟨count, by simp [locked]⟩]
  rw [standBegin_new ?_ (by decide)]
  · dsimp only [modTc]
    rw [count]
    rfl
  · exact (standAddr_congr (by simp only [modTc_flt]) _ _).trans new

/-! ### What the start of a pass leaves -/

theorem poolRead_standing (off : Nat) (v : Verdict) (s : State) : (poolRead off v s).2.flt.standing = s.flt.standing := by
  have stack : (stackRead off v s).2.flt = s.flt := (stackRead_keep off v s).flt rfl
  simp only [poolRead, poolCheck]
  split
  · split
    · rw [stack]
    · rw [raise_mild (by decide)]
      simp only [sendFault, modMem_flt, (setPoison_keep _ _ _).flt rfl, (modMs_keep _ _ _).flt rfl, stack]
  · rw [(modMs_keep _ _ _).flt rfl, stack]
  · rw [stack]

theorem fetchLines_standing (errs : List (Nat × Verdict)) (st sel m : Nat) (d : FeedDef) :
    ∀ (n : Nat) (s : State), (fetchLines errs st sel m d n s).flt.standing = s.flt.standing
  | 0, _ => rfl
  | n + 1, s => by
    rw [fetchLines]
    split
    · rfl
    · rw [fetchLines_standing errs st sel m d n, (modFeed_keep _ _ _ _).flt rfl, (noteLines_keep _ _ _).flt rfl, modSlu_flt]
      exact poolRead_standing _ _ _

/-- A fold whose every step keeps a value of the state keeps it. -/
theorem foldl_keeps {α β : Type} (v : State → β) {f : State → α → State} (keeps : ∀ s x, v (f s x) = v s) :
    ∀ (xs : List α) (s : State), v (xs.foldl f s) = v s
  | [], _ => rfl
  | x :: xs, s => (foldl_keeps v keeps xs (f s x)).trans (keeps s x)

/-- Fetching for a frame begins and ends no condition that stands. -/
theorem fetchFrame_standing (slot k : Nat) (short : List (Nat × Nat × Nat)) (errs : List (Nat × Verdict)) (s : State) :
    (fetchFrame slot k short errs s).flt.standing = s.flt.standing := by
  unfold fetchFrame
  refine foldl_keeps (·.flt.standing) (fun s m => ?_) _ s
  dsimp only
  split
  · rfl
  · refine foldl_keeps (·.flt.standing) (fun s sel => ?_) _ s
    split
    · exact fetchLines_standing _ _ _ _ _ _ _
    · rfl

/-- The sequencer's part of the state where a pass begins, source mode's pulse apart. -/
theorem sourcePulse_fields (t : Nat) (s : State) : ∃ x, (sourcePulse t s).tc = { s.tc with clapFall := x } := by
  unfold sourcePulse
  split
  · exact ⟨_, rfl⟩
  · exact ⟨s.tc.clapFall, rfl⟩

/-- A pass that begins: its tick, its first frame, the next splice (R51, R55, R56). -/
theorem beginPass_tc (t : Nat) (s : State) : ∃ x, (beginPass t s).tc = { s.tc with
    passStart := t
    frame := 0
    spliceNo := s.tc.spliceNo + 1
    spliceTime := s.tc.timecode
    spliceTicks := tset 0 (s.tc.spliceTicks.filter (fun p => decide (s.tc.spliceNo + 1 ≤ p.1 + 10))) (s.tc.spliceNo + 1) t
    pulls := s.tc.pulls.filter (fun p => decide (s.tc.spliceNo + 1 ≤ p.1 + 10))
    spliceLen := (16 + tget 0 s.tc.pulls (s.tc.spliceNo + 1)).toNat
    clapFall := x } := by
  simp only [beginPass, (syncStreams_keep _).tc rfl, (prefetch_keep _).tc rfl]
  exact sourcePulse_fields t _

/-- A pass begins without a condition beginning or ending. -/
theorem beginPass_standing (t : Nat) (s : State) : (beginPass t s).flt.standing = s.flt.standing := by
  simp only [beginPass, prefetch, (syncStreams_keep _).flt rfl, fetchFrame_standing, (sourcePulse_keep _ _).flt rfl]
  rfl

/-! ### A waiting reel starts -/

/-- The waiting reel set running for the first pass that a pulse fixed (R59). -/
def followed (s : State) : State :=
  undarken (modTc (fun c => { c with reel := .running, startWait := none, firstPass := none, kept := false }) s)

/-- The waiting reel set running freely, with the clapper lost (R59). -/
def freeRunning (s : State) : State :=
  undarken (modTc (fun c => { c with reel := .running, startWait := none, kept := false, clapState := .lost }) s)

/-- At the first pass that a pulse fixed, the waiting reel runs (R59). -/
theorem followStart_due {s : State} {x : Tick} (safe : s.flt.safe = false) (waits : s.tc.reel = .waiting)
    (first : s.tc.firstPass = some x) (due : x ≤ s.now) : followStart s = beginPass x (followed s) := by
  unfold followStart
  rw [first]
  exact if_neg (by simp [safe, waits, due])

/-- Three nominal passes without a pulse: the reel runs freely and the clapper is lost (R59). -/
theorem startTimeout_due {s : State} {x : Tick} (safe : s.flt.safe = false) (waits : s.tc.reel = .waiting)
    (asked : s.tc.startWait = some x) (first : s.tc.firstPass = none) (due : x + 3 * nominalPass s s.tc.activeSlot ≤ s.now) :
    startTimeout s = standBegin .clapperLost 10 1 0 (beginPass s.now (freeRunning s)) := by
  unfold startTimeout
  rw [asked]
  exact if_neg (by simp [safe, waits, first, due])

/-- The pass that a free-running reel begins, with CLAPPER_LOST standing from its start (R59). -/
theorem freeRunning_pass {s : State} (new : standAddr s .clapperLost 1 = none) :
    ∃ t, standBegin .clapperLost 10 1 0 (beginPass s.now (freeRunning s)) = t
      ∧ t.tc.reel = .running ∧ t.tc.passStart = s.now ∧ t.tc.frame = 0 ∧ t.tc.startWait = none ∧ t.tc.clapState = .lost
      ∧ (.clapperLost, 1, 0) ∈ t.flt.standing := by
  obtain ⟨y, begun⟩ := beginPass_tc s.now (freeRunning s)
  have still : standAddr (beginPass s.now (freeRunning s)) .clapperLost 1 = none :=
    (standAddr_congr (beginPass_standing s.now (freeRunning s)) _ _).trans new
  generalize beginPass s.now (freeRunning s) = b at begun still ⊢
  refine ⟨_, standBegin_new still (by decide) 10 0, ?_⟩
  dsimp only
  rw [begun]
  exact ⟨rfl, rfl, rfl, rfl, rfl, List.mem_cons_self⟩

/-- Slack has been low for 100 µs at the highest VDD_MILL (R61). -/
theorem slackShort_due {s : State} {st : Nat} {x : Tick} (safe : s.flt.safe = false)
    (low : (tget {} s.tc.slack st).maxSince = some x) (most : 850 ≤ s.gaf.vmill) (due : x + 100000 ≤ s.now) :
    slackShort st s = standBegin .slackShort 0 st 0 s := by
  unfold slackShort
  rw [low]
  exact if_neg (by simp [safe, vmillAtMax, most, due])

/-- Settles O3: each clause is one case of the function that the command calls. -/
theorem clapperPullsAndIsLost : Obligations.ClapperPullsAndIsLost := by
  unfold Obligations.ClapperPullsAndIsLost
  refine ⟨?_, ?_, ?_, ?_, ?_, ?_, ?_, ?_, ?_⟩
  · intro s k d safe follow waits runs w seen notLost
    show Host.Outcome.next (clapPulse s) = _
    rw [clapPulse_running safe follow waits runs, windowPulse_first w seen, inWindow_pulls notLost]
    rfl
  · intro s k d safe follow waits runs w seen
    show Host.Outcome.next (clapPulse s) = _
    rw [clapPulse_running safe follow waits runs, windowPulse_second w seen, showOffset_violation]
    rfl
  · intro s safe follow waits runs w
    show Host.Outcome.next (clapPulse s) = _
    rw [clapPulse_running safe follow waits runs, windowPulse_outside w runs, showOffset_violation]
    rfl
  · intro s x safe follow waits first
    show Host.Outcome.next (clapPulse s) = _
    rw [clapPulse_starting safe follow (by rw [waits]; rfl) first]
    rfl
  · intro s safe follow runs past seen
    exact congrArg Host.Outcome.next (windowClose_seen safe follow runs past seen)
  · intro s safe follow runs past seen third locked new
    exact congrArg Host.Outcome.next (windowClose_third safe follow runs past seen third locked new)
  · intro s x safe waits first due
    refine ⟨_, congrArg Host.Outcome.next (followStart_due safe waits first due), ?_⟩
    obtain ⟨y, begun⟩ := beginPass_tc x (followed s)
    rw [begun]
    exact ⟨rfl, rfl, rfl, rfl, rfl, rfl, rfl, rfl, rfl⟩
  · intro s x safe waits asked first due new
    obtain ⟨t, runs, fields⟩ := freeRunning_pass new
    exact ⟨t, congrArg Host.Outcome.next ((startTimeout_due safe waits asked first due).trans runs), fields⟩
  · intro st s x safe low most due new
    show Host.Outcome.next (slackShort st s) = _
    rw [slackShort_due safe low most due, standBegin_new new (by decide)]

end Sys2Proof.Machine
end

section
/-! SUPPORT. Time across the pod (R43 to R45, R309 to R311): requests, answers, the choice of a source and its loss. -/

namespace Sys2Proof.Machine

open Sys2Proof

/-! ### Requests and answers -/

/-- A request that is due leaves with what this module says of its source (R309). -/
theorem timeRequest_due {l : Nat} {s : State} (live : linkLive s l = true) (hello : (podLink s l).hello = true)
    (up : (podLink s l).st ≠ 4)
    (spaced : (podLink s l).time.sentAt = none ∨ ∃ a, (podLink s l).time.sentAt = some a ∧ a + 10000 ≤ s.now) :
    timeRequest l s = linkCmd l [none] (.timeRequest (timeOut s false))
      (modPodLink l (fun x => { x with time := { x.time with sentAt := some s.now } }) s) := by
  unfold timeRequest
  dsimp only
  rcases spaced with never | ⟨a, last, due⟩
  · rw [never]
    exact if_neg (by simp [live, hello, up])
  · rw [last]
    exact if_neg (by simp [live, hello, up, due])

/-- On a live link a TIME command is a request, which is answered, or a response (R309). -/
theorem timeCommand_request {l : Nat} {s : State} {c : TimeCmd} (live : linkLive s l = true) (up : (podLink s l).st ≠ 4)
    (asks : c.resp = false) :
    timeCommand l c s = linkCmd l [none] (.timeResponse (timeOut s true) s.tc.timecode) s := by
  unfold timeCommand
  rw [if_neg (by simp [live, up]), if_pos (by rw [asks]; rfl)]

/-- A response to a request in flight gives an offset, and a source is chosen again (R309, R310). -/
theorem timeCommand_response {l : Nat} {s : State} {c : TimeCmd} {t1 : Word64} (live : linkLive s l = true)
    (up : (podLink s l).st ≠ 4) (answers : c.resp = true) (asked : (podLink s l).time.t1 = some t1) :
    timeCommand l c s = timeSelect (modPodLink l (fun x => { x with time := { x.time with
      t1 := none
      offsets := ((((c.t3.toNat : Int) - c.residence.toNat - t1.toNat) - ((s.tc.timecode.toNat : Int) - c.t3.toNat)) :: x.time.offsets).take 16
      lastValid := some s.now
      locked := c.locked
      source := c.sourceNode
      priority := c.priority.toNat
      hops := c.hops.toNat } }) s) := by
  unfold timeCommand
  rw [if_neg (by simp [live, up]), if_neg (by rw [answers]; decide), asked]

/-- A response to nothing changes nothing. -/
theorem timeCommand_unasked {l : Nat} {s : State} {c : TimeCmd} (live : linkLive s l = true) (up : (podLink s l).st ≠ 4)
    (answers : c.resp = true) (asked : (podLink s l).time.t1 = none) : timeCommand l c s = s := by
  unfold timeCommand
  rw [if_neg (by simp [live, up]), if_neg (by rw [answers]; decide), asked]

/-! ### The choice of a source -/

/-- The end of a standing condition touches the fault network alone. -/
theorem standEnd_flt_only (k : FaultKind) (b i : Nat) (s : State) : standEnd k b i s = { s with flt := (standEnd k b i s).flt } := by
  unfold standEnd
  split <;> rfl

/-- With a priority of its own and no better partner the module is the source (R310). -/
theorem timeSelect_source {s : State} (own : s.pod.priority ≠ 255) (alone : bestLink s = none) :
    timeSelect s = standEnd .timeTransferLost 10 0
      (modPod (fun p => { p with upstream := none, isSource := true, locked := true, hops := 0, medianOffset := 0 })
        (modTc (fun t => { t with diff := 0, podSync := true, holdover := false }) s)) := by
  unfold timeSelect
  rw [alone]
  exact if_pos (by simp [own])

/-- The best partner is followed where it is better than the module itself (R310, R311). -/
theorem timeSelect_follows {s : State} {l : Nat} (best : bestLink s = some l)
    (better : lexLt [s.pod.priority, s.ident.node.toNat] ((srcKey s l).take 2) = false) :
    timeSelect s = standEnd .timeTransferLost 10 0 (modTc (fun t => { t with
        diff := medianI (podLink s l).time.offsets / 2, podSync := steady (podLink s l).time.offsets, holdover := false })
      (modPod (fun p => { p with
        upstream := some l, isSource := false, locked := steady (podLink s l).time.offsets
        hops := (podLink s l).time.hops + 1, medianOffset := medianI (podLink s l).time.offsets }) s)) := by
  unfold timeSelect
  rw [best]
  exact if_neg (by simp [better])

/-! ### Links without responses -/

/-- After 100 µs without a valid response a link gives no time: another is followed, or none is left (R45, R311). -/
theorem timeTimeout_due {l : Nat} {a : Tick} {s : State} (safe : s.flt.safe = false)
    (last : (podLink s l).time.lastValid = some a) (due : a + 100000 ≤ s.now) :
    timeTimeout l s = (let u := modPodLink l (fun x => { x with time := {} }) s
      if (List.range 48).any (timeUp u) then timeSelect u else timeLost u) := by
  unfold timeTimeout
  rw [last]
  exact if_neg (by simp [safe, due])

/-- A module that is no source goes into holdover when time transfer is lost (R45). -/
theorem timeLost_follower {s : State} (follower : s.pod.isSource = false) :
    timeLost s = standBegin .timeTransferLost 10 0 0 (modPod (fun p => { p with locked := false, upstream := none })
      (modTc (fun t => { t with podSync := false, holdover := true, diff := 0 }) s)) := by
  unfold timeLost
  exact if_neg (by rw [follower]; decide)

/-- Settles O23: each clause is one case of the function that the command calls. -/
theorem timeCrossesThePod : Obligations.TimeCrossesThePod := by
  unfold Obligations.TimeCrossesThePod
  refine ⟨?_, ?_, ?_, ?_, ?_, ?_, ?_, ?_, ?_, ?_⟩
  · intro l s live hello up spaced
    exact congrArg Host.Outcome.next (timeRequest_due live hello up spaced)
  · intro l w c o s
    rfl
  · intro l c s live up asks lone
    show Host.Outcome.next (timeCommand l c s) = _
    rw [timeCommand_request live up asks, timeOut, lone]
  · intro l c t1 s live up answers asked
    exact congrArg Host.Outcome.next (timeCommand_response live up answers asked)
  · intro l c s live up answers asked
    exact congrArg Host.Outcome.next (timeCommand_unasked live up answers asked)
  · intro s own alone
    refine ⟨_, timeSelect_source own alone, ?_⟩
    rw [standEnd_flt_only]
    exact ⟨rfl, rfl, rfl, rfl, rfl, rfl⟩
  · intro l s best better
    refine ⟨_, timeSelect_follows best better, ?_⟩
    rw [standEnd_flt_only]
    exact ⟨rfl, rfl, rfl, rfl, rfl, rfl, rfl⟩
  · intro l a s safe last due left
    show Host.Outcome.next (timeTimeout l s) = _
    rw [timeTimeout_due safe last due]
    exact congrArg Host.Outcome.next (if_pos left)
  · intro l a s safe last due none
    show Host.Outcome.next (timeTimeout l s) = _
    rw [timeTimeout_due safe last due]
    exact congrArg Host.Outcome.next (if_neg (by rw [none]; decide))
  · intro s follower
    refine ⟨_, timeLost_follower follower, ?_⟩
    rw [(standBegin_keep _ _ _ _ _).tc rfl, (standBegin_keep _ _ _ _ _).pod rfl]
    exact ⟨rfl, rfl, rfl, rfl, rfl⟩

end Sys2Proof.Machine
end

section
/-! SUPPORT. The gaffer (R350, R353, R358 to R361, R474): evaluation, the check of limits, the end of a clamp, VDD_MILL and
the regulators. -/

namespace Sys2Proof.Machine

open Sys2Proof

/-! ### Evaluation -/

/-- An evaluation on a multiple not yet done sets every site's factor and divides the pool (R46, R350). -/
theorem evaluate_due {s : State} (runs : gafRuns s = true) (due : s.gaf.evalDone < s.tc.timecode.toNat / 100000) :
    evaluate s = divide ((List.range 12).foldl (fun s n => modPow n (fun p => { p with factor := baseFactor (beneath s n) }) s)
      (disagreeCheck { s with gaf := { s.gaf with evalDone := s.tc.timecode.toNat / 100000 } })) := by
  unfold evaluate
  exact if_neg (by simp [runs, due])

/-- A multiple done is not done again (R46). -/
theorem evaluate_done {s : State} (done : s.tc.timecode.toNat / 100000 ≤ s.gaf.evalDone) : evaluate s = s := by
  unfold evaluate
  exact if_pos (by simp [done])

/-- f between 90 °C and 100 °C, linear in 1/16 °C (R350). -/
theorem baseFactor_between {x : Int} (low : deg 90 < x) (high : x < deg 100) : (baseFactor x : Int) = 100000 - 375 * (x - deg 90) := by
  unfold baseFactor
  rw [if_neg (Int.not_le.mpr low), if_neg (Int.not_le.mpr high)]
  simp only [deg] at low high ⊢
  omega

theorem baseFactor_cool {x : Int} (h : x ≤ deg 90) : baseFactor x = 100000 := if_pos h

theorem baseFactor_hot {x : Int} (h : deg 100 ≤ x) : baseFactor x = 40000 := by
  have warm : ¬ x ≤ deg 90 := by
    simp only [deg] at h ⊢
    omega
  unfold baseFactor
  rw [if_neg warm, if_pos h]

theorem divideCore_stopped {s : State} (stopped : gafRuns s = false) : divideCore s = s := by
  unfold divideCore
  exact if_pos (by rw [stopped]; rfl)

/-! ### Limits and clamps -/

/-- 50 µs after a POWER_LIMIT a mean above the limit clamps the site, with its message (R360). -/
theorem limitCheck_over {n : Nat} {a : Tick} {s : State} (runs : gafRuns s = true) (serves : siteServing s n = true)
    (sent : (powOf s n).limitAt = some a) (due : a + 50000 ≤ s.now) (noWait : (powOf s n).waitLimit = none)
    (above : (powOf s n).limit < meanNow (modPow n (fun q => { q with limitAt := none }) s) n) :
    limitCheck n s = (let u := modPow n (fun q => { q with limitAt := none }) s
      raiseRated .siteOverLimit n 10000000 9 n (budgetAddr u (meanNow u n)) (modPow n (fun q => { q with clamped := true, lowSince := none }) u)) := by
  unfold limitCheck
  dsimp only
  rw [if_neg (by simp [runs, serves]), sent, noWait]
  dsimp only
  rw [if_pos due, if_pos above]

/-- A higher limit that has waited its 50 µs goes out (R359). -/
theorem limitCheck_waiting {n l : Nat} {a : Tick} {s : State} (runs : gafRuns s = true) (serves : siteServing s n = true)
    (sent : (powOf s n).limitAt = none) (waits : (powOf s n).waitLimit = some (l, a)) (due : a ≤ s.now) :
    limitCheck n s = sendLimit n l s := by
  unfold limitCheck
  dsimp only
  rw [if_neg (by simp [runs, serves]), sent, waits]
  exact if_pos due

/-- The clamp ends 1 ms after the mean fell low (R360). -/
theorem execClampRelease_due {n : Nat} {a : Tick} {s : State} (runs : gafRuns s = true) (low : (powOf s n).lowSince = some a)
    (due : a + 1000000 ≤ s.now) :
    execClampRelease n s = .next (modPow n (fun p => { p with clamped := false, lowSince := none }) s) := by
  unfold execClampRelease
  rw [low]
  exact congrArg Host.Outcome.next (if_pos (by simp [runs, due]))

/-! ### VDD_MILL and the regulators -/

/-- VDD_MILL rises by a step, at most one in 20 µs, to at most 850 mV (R361). -/
theorem vmillRaise_due {s : State} (runs : gafRuns s = true)
    (spaced : s.gaf.lastRaise = none ∨ ∃ a, s.gaf.lastRaise = some a ∧ a + 20000 ≤ s.now) (wants : millWants s = true)
    (below : s.gaf.vmill < 850) :
    vmillRaise s = vmillSet { s with gaf := { s.gaf with
      vmill := min 850 (s.gaf.vmill + 10), lastRaise := some s.now, pmbusFail := false } } := by
  unfold vmillRaise
  dsimp only
  rcases spaced with never | ⟨a, last, due⟩
  · rw [never]
    exact if_neg (by simp [runs, wants, below])
  · rw [last]
    exact if_neg (by simp [runs, wants, below, due])

/-- VDD_MILL falls by a step, at most one in 10 ms, to no less than 550 mV (R361). -/
theorem vmillLower_due {s : State} (runs : gafRuns s = true)
    (spaced : s.gaf.lastLower = none ∨ ∃ a, s.gaf.lastLower = some a ∧ a + 10000000 ≤ s.now) (spare : millSpare s = true)
    (above : 550 < s.gaf.vmill) :
    vmillLower s = vmillSet { s with gaf := { s.gaf with
      vmill := max 550 (s.gaf.vmill - 5), lastLower := some s.now, pmbusFail := false } } := by
  unfold vmillLower
  dsimp only
  rcases spaced with never | ⟨a, last, due⟩
  · rw [never]
    exact if_neg (by simp [runs, spare, above])
  · rw [last]
    exact if_neg (by simp [runs, spare, above, due])

/-- Messages sent one after the other stand in the record newest first. -/
theorem foldl_emit {α : Type} (f : α → OutMsg) : ∀ (xs : List α) (s : State),
    xs.foldl (fun s x => emit (f x) s) s = { s with out := (xs.map f).reverse ++ s.out }
  | [], _ => rfl
  | x :: xs, s => by
    rw [List.foldl_cons, foldl_emit f xs, List.map_cons, List.reverse_cons, List.append_assoc]
    rfl

theorem regulators_eq (cmd : String) (s : State) :
    regulators cmd s = { s with out := ((List.range 7).map (fun i => OutMsg.pmbus (i + 0x40) cmd [])).reverse ++ s.out } :=
  foldl_emit _ _ s

/-- A failed command is noted and told of (R361). -/
theorem execPmbusFail_running {s : State} (runs : gafRuns s = true) :
    execPmbusFail s = .next { s with
      gaf := { s.gaf with pmbusFail := true }
      flt := { s.flt with net := s.flt.net ++ [mkMsg s .pmbusFail 9 63 (budgetAddr s 0)] } } := by
  unfold execPmbusFail
  rw [if_pos runs, raise_mild (by decide)]
  rfl

/-- An alert reads STATUS_WORD of every regulator, then clears every one (R474). -/
theorem execPmbusAlert_awake {s : State} (safe : s.flt.safe = false) :
    execPmbusAlert s = .next { s with
      pins := { s.pins with pmbAlertN := true }
      out := ((List.range 7).map (fun i => OutMsg.pmbus (i + 0x40) "CLEAR_FAULTS" [])).reverse
        ++ (((List.range 7).map (fun i => OutMsg.pmbus (i + 0x40) "STATUS_WORD" [])).reverse ++ s.out) } := by
  unfold execPmbusAlert
  rw [if_neg (by rw [safe]; decide)]
  simp only [regulators_eq]
  rfl

/-- Settles O29: each clause is one case of the function that the command calls. -/
theorem theGafferEvaluatesDividesAndClamps : Obligations.TheGafferEvaluatesDividesAndClamps := by
  unfold Obligations.TheGafferEvaluatesDividesAndClamps
  refine ⟨?_, ?_, ?_, fun _ => rfl, fun _ => divideCore_stopped, ?_, ?_, ?_, ?_, ?_, fun _ => rfl, ?_, ?_⟩
  · intro s runs due
    exact ⟨_, rfl, congrArg Host.Outcome.next (evaluate_due runs due)⟩
  · intro s done
    exact congrArg Host.Outcome.next (evaluate_done done)
  · intro x
    exact ⟨baseFactor_cool, baseFactor_hot, baseFactor_between⟩
  · intro n a u s runs serves sent due noWait hu above
    subst hu
    exact congrArg Host.Outcome.next (limitCheck_over runs serves sent due noWait above)
  · intro n l a s runs serves sent waits due
    exact congrArg Host.Outcome.next (limitCheck_waiting runs serves sent waits due)
  · intro n a s runs low due
    exact execClampRelease_due runs low due
  · intro s runs spaced wants below
    exact congrArg Host.Outcome.next (vmillRaise_due runs spaced wants below)
  · intro s runs spaced spare above
    exact congrArg Host.Outcome.next (vmillLower_due runs spaced spare above)
  · intro s runs
    exact execPmbusFail_running runs
  · intro s safe
    exact ⟨_, execPmbusAlert_awake safe, rfl, rfl, (List.append_assoc _ _ _).symm⟩

end Sys2Proof.Machine
end

section
/-! SUPPORT. Boot phases 2 to 5 and 9 to 11 (R412 to R414, R440): what the end of each phase finds and leaves. -/

namespace Sys2Proof.Machine

open Sys2Proof

/-! ### Phases in general -/

theorem inPhase_safe {s : State} (safe : s.flt.safe = true) (p : Nat) : inPhase s p = false := by
  simp [inPhase, safe]

/-! ### Phase 2 -/

/-- Bad fuses are fatal (R412). -/
theorem bootPhase2_badFuses {s : State} (now : inPhase s 2 = true) (bad : s.part.fusesOk = false) :
    bootPhase2 s = enterSafe (sendFault (mkMsg s .fuseError 10 5 0) s) := by
  unfold bootPhase2
  rw [if_neg (by simp [now]), if_pos (by simp [bad])]
  exact raise_fatal rfl _ _ _ s

theorem copyOuttake_running {s : State} (running : s.flt.frozen = false) : copyOuttake s = s := by
  unfold copyOuttake
  exact if_pos (by simp [running])

/-- The flash's reset leaves the phase, its start and FAULT_N as they are. -/
theorem xspiReset_leaves (s : State) : (xspiReset s).boot.phase = s.boot.phase ∧ (xspiReset s).boot.phaseStart = s.boot.phaseStart
    ∧ (xspiReset s).pins.faultN = s.pins.faultN := by
  unfold xspiReset
  split <;> exact ⟨rfl, rfl, rfl⟩

/-- The flash's reset goes low for 10 µs where phase 3 begins (R480). -/
theorem xspiReset_phase3 {s : State} (at3 : s.boot.phase = 3) : (xspiReset s).pins.xspiResetN = false
    ∧ (xspiReset s).boot.flashDdr = false ∧ (xspiReset s).boot.xspiRise = some (s.now + 10000) := by
  unfold xspiReset
  rw [if_neg (not_not_intro at3)]
  exact ⟨rfl, rfl, rfl⟩

/-- The state after phase 2's work, before the flash's reset: millpond cleared, FAULT_N high, the phase ended (R175, R412). -/
def phase2Done (s : State) : State := endPhase 2 (millClear (modPins (fun p => { p with faultN := true }) s))

/-- Some station is below 5 °C (R343). -/
def anyCold (s : State) : Bool :=
  (stations s.part.variant).any (fun st => match stationTemp s st with
    | some t => decide (t < deg 5)
    | none => false)

/-- A station's temperature reads the sensors in service alone (R340, R342). -/
theorem stationTemp_congr {s t : State} (part : t.part = s.part) (flt : t.flt = s.flt) (thm : t.thm = s.thm) :
    stationTemp t = stationTemp s := by
  have used : sensorUsed t = sensorUsed s := by
    funext k
    simp only [sensorUsed, fenced, fenceOf, part, flt]
  have own : ownTemp t = ownTemp s := by
    funext st
    simp only [ownTemp, used, reading, thm]
  funext st
  simp only [stationTemp, fieldTemp, own, part]

theorem anyCold_congr {s t : State} (part : t.part = s.part) (flt : t.flt = s.flt) (thm : t.thm = s.thm) : anyCold t = anyCold s := by
  simp only [anyCold, stationTemp_congr part flt thm, part]

/-- Phase 2 with good fuses, where no frozen outtake waits to be copied (R412, R413). -/
theorem bootPhase2_good {s : State} (now : inPhase s 2 = true) (good : s.part.fusesOk = true) (running : s.flt.frozen = false) :
    bootPhase2 s = modThm (fun x => { x with warmup := anyCold s }) (xspiReset (phase2Done s)) := by
  have run : (millClear (modPins (fun p => { p with faultN := true }) s)).flt.frozen = false := running
  have kept := xspiReset_keep (phase2Done s)
  rw [← anyCold_congr (s := s) (t := xspiReset (phase2Done s)) kept.part (kept.flt rfl) (kept.thm rfl)]
  unfold bootPhase2
  rw [if_neg (by simp [now]), if_neg (by simp [good]), copyOuttake_running run]
  rfl

theorem phase2Done_phase (s : State) : (phase2Done s).boot.phase = if s.boot.kind = 2 then 5 else 3 := by
  simp only [phase2Done, endPhase, modBoot_boot, true_and]
  rfl

/-! ### Phase 3 -/

/-- The preferred slot's image runs where it verifies (R440). -/
theorem bootPhase3_preferred {a b : ImageCheck} {n : Nat} {s : State} (now : inPhase s 3 = true) (pref : s.boot.preferred = n)
    (whole : (slotOf s n).st = 3) (tries : (slotOf s n).attempts < 3)
    (ok : imageOk (tryImage n (xspiEnd s)) (slotOf (tryImage n (xspiEnd s)) n) (if n = 0 then a else b) = true) :
    bootPhase3 a b s = runImage n (tryImage n (xspiEnd s)) := by
  subst pref
  unfold bootPhase3
  dsimp only
  rw [if_neg (by simp [now]), if_pos ⟨whole, tries⟩]
  exact if_pos ok

/-- The preferred slot holds no whole image: what the other slot holds decides (R440). -/
theorem bootPhase3_other {a b : ImageCheck} {s : State} (now : inPhase s 3 = true) (pref : s.boot.preferred = 0)
    (broken : (slotOf s 0).st ≠ 3) :
    bootPhase3 a b s = if (slotOf s 1).st ≠ 3 then noImage (xspiEnd s)
      else if imageOk (tryImage 1 (xspiEnd s)) (slotOf (tryImage 1 (xspiEnd s)) 1) b = true
        then runImage 1 (tryImage 1 (xspiEnd s)) else noImage (tryImage 1 (xspiEnd s)) := by
  have pref' : (xspiEnd s).boot.preferred = 0 := pref
  unfold bootPhase3
  dsimp only
  rw [if_neg (by simp [now]), pref', if_neg (fun h => broken h.1)]
  rfl

/-- The image that runs, with FIRMWARE_FALLBACK due where the slot was not preferred (R440). -/
theorem runImage_preferred {n : Nat} {s : State} (pref : s.boot.preferred = n) : runImage n s = endPhase 3 { s with
    ident := { s.ident with fwVersion := (slotOf s n).version }
    boot := { s.boot with slot := n, preferred := n } } := by
  unfold runImage
  simp only [pref, ne_eq, not_true_eq_false, decide_false, Bool.false_eq_true, if_false, Bool.or_false]
  rfl

theorem runImage_other {n : Nat} {s : State} (other : n ≠ s.boot.preferred) :
    runImage n s = endPhase 3 (modIdent (fun i => { i with fwVersion := (slotOf s n).version })
      (modBoot (fun b => { b with slot := n, preferred := n, fallbackDue := true }) (newHeader s))) := by
  unfold runImage
  simp only [other, ne_eq, not_false_eq_true, decide_true, if_true, Bool.or_true]
  rfl

/-! ### Phases 4 and 5 -/

/-- Without a valid script phase 4 is fatal (R409). -/
theorem bootPhase4_none {ins : Bool} {c0 c1 : ScriptCopy} {s : State} (now : inPhase s 4 = true)
    (none : chooseScript { s with pins := { s.pins with installEn := ins } } c0 c1 = none) :
    bootPhase4 ins c0 c1 s = raise .scriptInvalid 10 5 0 { s with pins := { s.pins with installEn := ins } } := by
  have none' : chooseScript (modPins (fun p => { p with installEn := ins }) s) c0 c1 = Option.none := none
  unfold bootPhase4
  dsimp only
  rw [if_neg (by simp [now]), none']
  rfl

/-- The chosen script is loaded; the enrolment opens with INSTALL_EN where no key is enrolled or one is armed (R410, R421). -/
theorem bootPhase4_some {ins fell : Bool} {k : Nat} {x : Script} {c0 c1 : ScriptCopy} {s : State} (now : inPhase s 4 = true)
    (some : chooseScript { s with pins := { s.pins with installEn := ins } } c0 c1 = some (k, fell, x)) :
    bootPhase4 ins c0 c1 s = endPhase 4 (modBoot (fun b => { b with
        enrolOpen := ins && (s.role.enrolled.isEmpty || s.role.reenrolArmed) })
      (loadScript k fell x { s with pins := { s.pins with installEn := ins } })) := by
  have some' : chooseScript (modPins (fun p => { p with installEn := ins }) s) c0 c1 = Option.some (k, fell, x) := some
  unfold bootPhase4
  dsimp only
  rw [if_neg (by simp [now]), some']
  rfl

/-- Copies more than 0.5 ns apart are fatal (R41). -/
theorem bootPhase5_apart {st sk : List Int} {s : State} (now : inPhase s 5 = true)
    (apart : sk.any (fun a => sk.any (fun b => decide (8 < (a - b).natAbs))) = true) :
    bootPhase5 st sk s = raise .timecodeAlign 10 0 0 s := by
  unfold bootPhase5
  dsimp only
  rw [if_neg (by simp [now])]
  exact if_pos (by rw [apart, Bool.or_true])

/-- Aligned fields of an S12 start the timecode at 0 (R41, R42). -/
theorem bootPhase5_aligned {st sk : List Int} {s : State} (now : inPhase s 5 = true) (s12 : s.part.variant = .s12)
    (closed : ((st.getD 0 0 + st.getD 2 0) - (st.getD 1 0 + st.getD 3 0)).natAbs ≤ 4)
    (near : sk.any (fun a => sk.any (fun b => decide (8 < (a - b).natAbs))) = false) :
    bootPhase5 st sk s = endPhase 5 (modTc (fun t => { t with
      fieldsAligned := true
      timecode := 0
      phase := tset 0 (tset 0 (tset 0 [] 1 (-st.getD 0 0)) 2 (-st.getD 1 0)) 3 (-(st.getD 0 0 + st.getD 2 0))
      maxSkew := BitVec.ofNat 8 (min 255 (maxAbs sk))
      nextStitch := s.now + 1000000 }) s) := by
  unfold bootPhase5
  dsimp only
  rw [if_neg (by simp [now]), s12]
  exact if_neg (by simp only [near, closed]; decide)

/-- Settles O40: each clause is one case of the function that the command calls. -/
theorem bootChecksFusesFirmwareScriptAndTime : Obligations.BootChecksFusesFirmwareScriptAndTime := by
  unfold Obligations.BootChecksFusesFirmwareScriptAndTime
  refine ⟨?_, ?_, ?_, ?_, ?_, ?_, ?_, ?_, ?_, ?_, ?_, ?_, ?_⟩
  · intro s now bad
    exact ⟨_, congrArg Host.Outcome.next (bootPhase2_badFuses now bad), rfl, rfl, rfl, rfl⟩
  · intro s now good running
    refine ⟨_, congrArg Host.Outcome.next (bootPhase2_good now good running), ?_⟩
    have kept := xspiReset_keep (phase2Done s)
    obtain ⟨phase, start, faultN⟩ := xspiReset_leaves (phase2Done s)
    simp only [modThm_boot, modThm_pins, modThm_mem, modThm_mpd, modThm_role, modThm_thm, phase, start, faultN, kept.mem rfl,
      kept.mpd rfl, kept.role rfl]
    exact ⟨phase2Done_phase s, rfl, rfl, rfl, rfl, rfl,
      fun starts => xspiReset_phase3 ((phase2Done_phase s).trans (if_neg starts)), rfl⟩
  · intro a b n u s now pref _ whole tries hu ok
    subst hu
    show Host.Outcome.next (bootPhase3 a b s) = _
    rw [bootPhase3_preferred now pref whole tries ok]
    exact congrArg Host.Outcome.next (runImage_preferred pref)
  · intro a b s now pref broken other
    exact ⟨_, congrArg Host.Outcome.next ((bootPhase3_other now pref broken).trans (if_pos other)), rfl, rfl, rfl⟩
  · intro a b u s now pref broken whole hu ok
    subst hu
    show Host.Outcome.next (bootPhase3 a b s) = _
    rw [bootPhase3_other now pref broken, if_neg (not_not_intro whole), if_pos ok]
  · exact fun s => ⟨rfl, rfl, rfl⟩
  · intro n s other
    rw [runImage_other other]
    exact ⟨rfl, rfl, rfl, rfl⟩
  · intro ins c0 c1 u s now hu none
    subst hu
    exact congrArg Host.Outcome.next (bootPhase4_none now none)
  · intro ins fell k x c0 c1 u s now hu some
    subst hu
    exact congrArg Host.Outcome.next (bootPhase4_some now some)
  · intro st sk s now s12 closed near
    exact ⟨_, congrArg Host.Outcome.next (bootPhase5_aligned now s12 closed near), rfl, rfl, rfl, rfl, rfl, rfl⟩
  · intro st sk s now apart
    exact congrArg Host.Outcome.next (bootPhase5_apart now apart)
  · intro s other
    exact congrArg Host.Outcome.next (if_pos (by rw [other]; rfl))
  · intro a b s other
    exact congrArg Host.Outcome.next (if_pos (by rw [other]; rfl))

end Sys2Proof.Machine
end

section
/-! SUPPORT. Boot phases 9 to 11 (R242, R412 to R414, R429, R440): sites that have not trained, the time, and READY. -/

namespace Sys2Proof.Machine

open Sys2Proof

/-- What the end of a phase leaves of boot's part (R412). -/
theorem endPhase_boot (p : Nat) (s : State) : (endPhase p s).boot = { s.boot with
    phase := if p = 2 ∧ s.boot.kind = 2 then 5 else p + 1
    phaseMs := tset 0 s.boot.phaseMs p ((s.now - s.boot.phaseStart) / 1000000)
    phaseStart := s.now } := rfl

@[simp] theorem endPhase_tc (p : Nat) (s : State) : (endPhase p s).tc = s.tc := rfl
@[simp] theorem endPhase_gaf (p : Nat) (s : State) : (endPhase p s).gaf = s.gaf := rfl
@[simp] theorem endPhase_role (p : Nat) (s : State) : (endPhase p s).role = s.role := rfl
@[simp] theorem endPhase_tel (p : Nat) (s : State) : (endPhase p s).tel = s.tel := rfl

/-! ### Phase 9 -/

/-- Phase 9's look at one site: one that is still in training is fenced (R242). -/
def fenceUntrained (s : State) (n : Nat) : State :=
  if siteUp s n && ((siteOf s n).st == 1 || (siteOf s n).st == 2) then siteFence n 6 0 0 .tsiTrainFail s else s

theorem bootPhase9_eq {s : State} (now : inPhase s 9 = true) :
    bootPhase9 s = endPhase 9 ((List.range 12).foldl fenceUntrained s) :=
  if_neg (by simp [now])

theorem fenceUntrained_trained {s : State} {n : Nat} (trained : (siteOf s n).st ≠ 1 ∧ (siteOf s n).st ≠ 2) :
    fenceUntrained s n = s :=
  if_neg (by simp [trained.1, trained.2])

theorem fenceUntrained_training {s : State} {n : Nat} (up : siteUp s n = true) (trains : (siteOf s n).st = 1 ∨ (siteOf s n).st = 2) :
    fenceUntrained s n = siteFence n 6 0 0 .tsiTrainFail s := by
  refine if_pos ?_
  rcases trains with h | h <;> simp [up, h]

theorem foldl_fenceUntrained_trained : ∀ (ns : List Nat) {s : State},
    (∀ n ∈ ns, (siteOf s n).st ≠ 1 ∧ (siteOf s n).st ≠ 2) → ns.foldl fenceUntrained s = s
  | [], _, _ => rfl
  | n :: ns, s, trained => by
    rw [List.foldl_cons, fenceUntrained_trained (trained n List.mem_cons_self)]
    exact foldl_fenceUntrained_trained ns (fun k h => trained k (List.mem_cons_of_mem n h))

theorem siteOf_modSite_other {n j : Nat} {f : SiteSt → SiteSt} {s : State} (listed : f (siteOf s n) ≠ {}) (other : j ≠ n) :
    siteOf (modSite n f s) j = siteOf s j := tget_tupd_other s.tsi n j listed other

/-- A site's fence leaves the other sites as they are. -/
theorem siteFence_other (n c m g : Nat) {k : FaultKind} (mild : kindSev k ≠ 3) (s : State) {j : Nat} (other : j ≠ n) :
    siteOf (siteFence n c m g k s) j = siteOf s j := by
  unfold siteFence
  rw [raise_mild mild]
  refine (siteOf_modSite_other ?_ other : siteOf (siteCause n c m g s) j = siteOf s j)
  exact fun e => Bool.noConfusion (congrArg SiteSt.causeNew e)

/-- With one site in training, that site alone is fenced. -/
theorem foldl_fenceUntrained_one : ∀ (ns : List Nat) {s : State} {n : Nat}, ns.Nodup → n ∈ ns → siteUp s n = true →
    (siteOf s n).st = 1 ∨ (siteOf s n).st = 2 → (∀ k ∈ ns, k ≠ n → (siteOf s k).st ≠ 1 ∧ (siteOf s k).st ≠ 2) →
    ns.foldl fenceUntrained s = siteFence n 6 0 0 .tsiTrainFail s
  | [], _, _, _, mem, _, _, _ => nomatch mem
  | k :: ns, s, n, nodup, mem, up, trains, others => by
    obtain ⟨fresh, nodup⟩ := List.nodup_cons.mp nodup
    rw [List.foldl_cons]
    by_cases h : k = n
    · subst h
      rw [fenceUntrained_training up trains]
      refine foldl_fenceUntrained_trained ns (fun j hj => ?_)
      have other : j ≠ k := fun e => fresh (e ▸ hj)
      rw [siteFence_other k 6 0 0 (by decide) s other]
      exact others j (List.mem_cons_of_mem k hj) other
    · rw [fenceUntrained_trained (others k List.mem_cons_self h)]
      exact foldl_fenceUntrained_one ns nodup ((List.mem_cons.mp mem).resolve_left (fun e => h e.symm)) up trains
        (fun j hj => others j (List.mem_cons_of_mem k hj))

/-! ### Phase 10 -/

/-- With no source to follow, holdover begins (R45). -/
theorem bootPhase10_alone {s : State} (now : inPhase s 10 = true) (alone : (timeSelect s).pod.upstream = none) :
    bootPhase10 s = endPhase 10 (timeLost (timeSelect s)) := by
  unfold bootPhase10
  dsimp only
  rw [if_neg (by simp [now]), alone]

/-- The timecode jumps to the pod's time (R43). -/
def jumpTime (s : State) : State :=
  modTc (fun t => { t with timecode := t.timecode + BitVec.ofInt 64 (s.pod.medianOffset / 2), diff := 0, podSync := s.pod.locked }) s

/-- The offsets measured before the jump are dropped, and requests in flight give none. -/
def dropOffsets (s : State) : State :=
  (List.range 48).foldl (fun s l => modPodLink l (fun x => { x with time := { x.time with t1 := none, offsets := [] } }) s) s

/-- Phase 10 where a source is followed: the jump counts the multiples it passes as done (R43, R46). -/
def phase10Jumped (u : State) : State := endPhase 10 (notePassed (dropOffsets (jumpTime u)))

theorem bootPhase10_follows {s : State} {l : Nat} (now : inPhase s 10 = true) (follows : (timeSelect s).pod.upstream = some l) :
    bootPhase10 s = phase10Jumped (timeSelect s) := by
  unfold bootPhase10
  dsimp only
  rw [if_neg (by simp [now]), follows]
  rfl

theorem dropOffsets_tc (s : State) : (dropOffsets s).tc = s.tc := by
  unfold dropOffsets
  refine foldl_keeps (·.tc) (fun _ _ => ?_) _ s
  rfl

/-- The multiples that the timecode has passed are noted as done (R46). -/
theorem notePassed_fields (s : State) : (notePassed s).tc = { s.tc with idleDone := s.tc.timecode.toNat / 2048 }
    ∧ (notePassed s).gaf.evalDone = s.tc.timecode.toNat / 100000 ∧ (notePassed s).gaf.energyDone = s.tc.timecode.toNat / 1000000
    ∧ (notePassed s).tel.done = s.tc.timecode.toNat / 1000000 := ⟨rfl, rfl, rfl, rfl⟩

theorem phase10Jumped_fields (u : State) :
    (phase10Jumped u).tc.timecode = u.tc.timecode + BitVec.ofInt 64 (u.pod.medianOffset / 2) ∧ (phase10Jumped u).tc.diff = 0
    ∧ (phase10Jumped u).tc.podSync = u.pod.locked ∧ (phase10Jumped u).boot.phase = 11
    ∧ (phase10Jumped u).tc.idleDone = (phase10Jumped u).tc.timecode.toNat / 2048
    ∧ (phase10Jumped u).gaf.evalDone = (phase10Jumped u).tc.timecode.toNat / 100000
    ∧ (phase10Jumped u).gaf.energyDone = (phase10Jumped u).tc.timecode.toNat / 1000000
    ∧ (phase10Jumped u).tel.done = (phase10Jumped u).tc.timecode.toNat / 1000000 := by
  have time : (dropOffsets (jumpTime u)).tc = (jumpTime u).tc := dropOffsets_tc (jumpTime u)
  obtain ⟨tc, eval, energy, done⟩ := notePassed_fields (dropOffsets (jumpTime u))
  rw [time] at tc eval energy done
  unfold phase10Jumped
  rw [endPhase_boot]
  simp only [endPhase_tc, endPhase_gaf, endPhase_tel, tc, eval, energy, done, and_true]
  exact ⟨rfl, rfl, rfl, rfl⟩

/-! ### Phase 11 -/

/-- An audit entry leaves boot's part, the digest and the one-time cells as they are (R429). -/
theorem audit_fields (p : Option Path) (action : Nat) (object : Word32) (detail : Word64) (s : State) :
    (audit p action object detail s).boot = s.boot ∧ (audit p action object detail s).role.digest = s.role.digest
    ∧ (audit p action object detail s).role.enrolled = s.role.enrolled := by
  refine ⟨(audit_keep p action object detail s).boot rfl, ?_⟩
  unfold audit pushAudit
  dsimp only
  rw [(mirrorLog_keep _ _ _).role rfl]
  exact ⟨rfl, rfl⟩

/-- Continuity messages leave the digest and the one-time cells as they are (R433). -/
theorem contSend_role (s : State) : (contSend s).role.digest = s.role.digest ∧ (contSend s).role.enrolled = s.role.enrolled := by
  unfold contSend
  extract_lets x t
  have sent : t.role = s.role := foldl_keeps (·.role) (fun s p => by
    split
    · rfl
    · split
      · exact (podSend_keep _ _ _ _ _ _).role rfl
      · rfl) _ s
  have digest : t.role.digest = s.role.digest := congrArg RoleSt.digest sent
  have enrolled : t.role.enrolled = s.role.enrolled := congrArg RoleSt.enrolled sent
  exact ⟨digest, enrolled⟩

/-- READY's first step: the digest stands, the first continuity messages go, and the module is ready (R414, R432). -/
def readyMark (s : State) : State :=
  modBoot (fun b => { b with ready := true })
    (endPhase 11 (capUpdate (contSend (modRole (fun r => { r with digest := digestNow s, contDone := sweepsDue s }) s))))

/-- READY's second step: the running slot's attempts and the rollback counter (R440). -/
def readyImage (s : State) : State :=
  let s := modSlot s.boot.slot (fun x => { x with attempts := 0 }) s
  modBoot (fun b => { b with rollback := max b.rollback (slotOf s b.slot).svn }) s

/-- READY's record in the audit ring (R429). -/
def readyRecord (s : State) : State :=
  let seq := match s.boot.script with
    | some x => x.sequence.toNat
    | none => 0
  audit none 0x31 s.ident.fwVersion (BitVec.ofNat 64 (seq + b2n s.boot.warm * 2 ^ 32)) s

/-- FIRMWARE_FALLBACK where a fallback is due (R440). -/
def tellFallback (s : State) : State :=
  if s.boot.fallbackDue then raise .firmwareFallback 10 5 0 (modBoot (fun b => { b with fallbackDue := false }) s) else s

/-- THERMAL_TRIP of the trip before the start (R346). -/
def tellTrip (s : State) : State :=
  if s.thm.again then
    sendFault (mkMsg s .thermalTrip 8 s.thm.tripStation (thermAddr s.thm.tripTemp 0)) (modThm (fun x => { x with again := false }) s)
  else s

/-- CONTINUITY_MISMATCH where the own state is not matched (R434). -/
def tellMismatch (s : State) : State := if selfMatched s then s else contMismatch s

/-- READY, step by step (R414). -/
def readied (s : State) : State := tellMismatch (tellTrip (tellFallback (readyRecord (readyImage (readyMark s)))))

theorem bootPhase11_eq {s : State} (now : inPhase s 11 = true) : bootPhase11 s = readied s := by
  unfold bootPhase11
  rw [if_neg (by simp [now])]
  extract_lets s1 s2 s3 s4 s5 seq s6 s7 s8
  have mark : readyMark s = s3 := rfl
  clear_value s3
  have image : readyImage s3 = s5 := rfl
  clear_value s5
  have record : readyRecord s5 = s6 := rfl
  clear_value s6
  have fallback : tellFallback s6 = s7 := rfl
  clear_value s7
  have trip : tellTrip s7 = s8 := rfl
  rw [readied, mark, image, record, fallback, trip]
  rfl

theorem readyMark_fields (s : State) : (readyMark s).role.digest = digestNow s ∧ (readyMark s).role.enrolled = s.role.enrolled
    ∧ (readyMark s).boot = { s.boot with
      ready := true
      phase := 12
      phaseMs := tset 0 s.boot.phaseMs 11 ((s.now - s.boot.phaseStart) / 1000000)
      phaseStart := s.now } := by
  obtain ⟨digest, enrolled⟩ := contSend_role (modRole (fun r => { r with digest := digestNow s, contDone := sweepsDue s }) s)
  have sent := contSend_keep (modRole (fun r => { r with digest := digestNow s, contDone := sweepsDue s }) s)
  have shown := capUpdate_keep (contSend (modRole (fun r => { r with digest := digestNow s, contDone := sweepsDue s }) s))
  unfold readyMark
  simp only [modBoot_role, modBoot_boot, endPhase_boot, endPhase_role, shown.boot rfl, shown.now rfl, shown.role rfl, sent.boot rfl,
    sent.now rfl, digest, enrolled]
  exact ⟨rfl, rfl, rfl⟩

/-- The rollback counter never falls, and rises to the running image's SVN (R440). -/
theorem readyImage_fields (s : State) : (readyImage s).role = s.role ∧ (readyImage s).boot.ready = s.boot.ready
    ∧ (readyImage s).boot.phase = s.boot.phase ∧ s.boot.rollback ≤ (readyImage s).boot.rollback
    ∧ (slotOf s s.boot.slot).svn ≤ (readyImage s).boot.rollback := by
  have svn : (slotOf s s.boot.slot).svn ≤ (slotOf (modSlot s.boot.slot (fun x => { x with attempts := 0 }) s) s.boot.slot).svn := by
    by_cases plain : ({ slotOf s s.boot.slot with attempts := 0 } : FwSlot) = {}
    · -- a slot that is its table's default has SVN 0
      exact (congrArg FwSlot.svn plain : (slotOf s s.boot.slot).svn = 0) ▸ Nat.zero_le _
    · exact Nat.le_of_eq (congrArg FwSlot.svn (tget_tupd_self s.boot.slots s.boot.slot (f := fun x => { x with attempts := 0 }) plain)).symm
  exact ⟨rfl, rfl, rfl, Nat.le_max_left _ _, Nat.le_trans svn (Nat.le_max_right _ _)⟩

theorem readyRecord_fields (s : State) : (readyRecord s).boot = s.boot ∧ (readyRecord s).role.digest = s.role.digest
    ∧ (readyRecord s).role.enrolled = s.role.enrolled := by
  unfold readyRecord
  exact audit_fields _ _ _ _ _

theorem tellFallback_fields (s : State) : (tellFallback s).boot = { s.boot with fallbackDue := false }
    ∧ (tellFallback s).role = s.role := by
  unfold tellFallback
  split
  · rw [raise_mild (by decide)]
    exact ⟨rfl, rfl⟩
  · next h =>
    have done : s.boot.fallbackDue = false := eq_false_of_ne_true h
    exact ⟨by rw [← done], rfl⟩

theorem tellTrip_fields (s : State) : (tellTrip s).boot = s.boot ∧ (tellTrip s).role = s.role ∧ (tellTrip s).thm.again = false := by
  unfold tellTrip
  split
  · exact ⟨rfl, rfl, rfl⟩
  · next h => exact ⟨rfl, rfl, eq_false_of_ne_true h⟩

theorem tellMismatch_fields (s : State) : (tellMismatch s).boot = s.boot ∧ (tellMismatch s).role = s.role
    ∧ (tellMismatch s).thm = s.thm := by
  have told := contMismatch_keep s
  unfold tellMismatch
  split
  · exact ⟨rfl, rfl, rfl⟩
  · exact ⟨told.boot rfl, told.role rfl, told.thm rfl⟩

/-- What READY leaves: the digest of the state before it, the rollback counter and the one-time cells (R414, R421, R432, R440). -/
theorem readied_fields (s : State) : (readied s).boot.ready = true ∧ (readied s).boot.phase = 12
    ∧ (readied s).role.digest = digestNow s ∧ s.boot.rollback ≤ (readied s).boot.rollback
    ∧ (slotOf s s.boot.slot).svn ≤ (readied s).boot.rollback ∧ (readied s).boot.fallbackDue = false
    ∧ (readied s).thm.again = false ∧ (readied s).role.enrolled = s.role.enrolled := by
  unfold readied
  obtain ⟨digest, enrolled, boot⟩ := readyMark_fields s
  have svn : slotOf (readyMark s) (readyMark s).boot.slot = slotOf s s.boot.slot := by simp only [slotOf, boot]
  generalize readyMark s = a at digest enrolled boot svn ⊢
  obtain ⟨imageRole, imageReady, imagePhase, imageKept, imageSvn⟩ := readyImage_fields a
  rw [boot] at imageKept
  rw [svn] at imageSvn
  generalize readyImage a = b at imageRole imageReady imagePhase imageKept imageSvn ⊢
  obtain ⟨recordBoot, recordDigest, recordEnrolled⟩ := readyRecord_fields b
  generalize readyRecord b = c at recordBoot recordDigest recordEnrolled ⊢
  obtain ⟨fallbackBoot, fallbackRole⟩ := tellFallback_fields c
  obtain ⟨tripBoot, tripRole, tripAgain⟩ := tellTrip_fields (tellFallback c)
  obtain ⟨endBoot, endRole, endThm⟩ := tellMismatch_fields (tellTrip (tellFallback c))
  simp only [endBoot, endRole, endThm, tripBoot, tripRole, tripAgain, fallbackBoot, fallbackRole, recordBoot, recordDigest,
    recordEnrolled, imageRole, imageReady, imagePhase, boot, digest, enrolled, true_and, and_true]
  exact ⟨imageKept, imageSvn⟩

/-- Settles O42: each clause is one case of the function that the command calls. -/
theorem bootTrainsSetsTimeAndIsReady : Obligations.BootTrainsSetsTimeAndIsReady := by
  unfold Obligations.BootTrainsSetsTimeAndIsReady
  refine ⟨?_, ?_, ?_, ?_, ?_, ?_, ?_⟩
  · intro s now trained
    show Host.Outcome.next (bootPhase9 s) = _
    rw [bootPhase9_eq now, foldl_fenceUntrained_trained _ (fun n h => trained n (List.mem_range.mp h))]
  · intro n s now site up trains others
    show Host.Outcome.next (bootPhase9 s) = _
    rw [bootPhase9_eq now, foldl_fenceUntrained_one _ List.nodup_range (List.mem_range.mpr site) up trains
      (fun k h => others k (List.mem_range.mp h))]
  · exact fun p s => ⟨rfl, rfl, rfl, rfl⟩
  · intro s now alone
    exact congrArg Host.Outcome.next (bootPhase10_alone now alone)
  · intro l u s now hu follows
    subst hu
    exact ⟨_, congrArg Host.Outcome.next (bootPhase10_follows now follows), phase10Jumped_fields _⟩
  · intro s now
    exact ⟨_, congrArg Host.Outcome.next (bootPhase11_eq now), readied_fields s⟩
  · intro s safe
    have stopped (p : Nat) : (!inPhase s p) = true := by rw [inPhase_safe safe]; rfl
    exact ⟨congrArg Host.Outcome.next (if_pos (stopped 9)), congrArg Host.Outcome.next (if_pos (stopped 10)),
      congrArg Host.Outcome.next (if_pos (stopped 11))⟩

end Sys2Proof.Machine
end

section
/-! SUPPORT. Pauses and stack lanes (R63 to R66, R138, R139, R243, R281): the request, the window, its end, and the fallback. -/

namespace Sys2Proof.Machine

open Sys2Proof

/-! ### The request -/

/-- A pause that is granted: scheduled in its window, and shown (R64). -/
def pauseGranted (st rate a b : Nat) (s : State) : State :=
  modTc (fun t => { t with
    pauses := tset {} t.pauses st { st := .scheduled, rate := rate, start := a, windowEnd := b }
    pauseState := 1
    pauseStation := st
    pauseReason := 0
    pauseStart := t.timecode + BitVec.ofNat 64 (a - s.now) }) s

/-- A pause that is refused, with its reason (R64). -/
def pauseRefused (st why : Nat) (s : State) : State :=
  modTc (fun t => { t with pauseState := 3, pauseStation := st, pauseReason := why }) s

/-- A granted request at a site's station is told to the die (R64, R281). -/
theorem pauseRequest_granted {st rate n a b : Nat} {s : State} (safe : s.flt.safe = false) (may : pausable s st = true)
    (named : rate < 3) (site : kindOf st = (.ss, n)) (window : pauseOutcome s st rate = (0, some (a, b))) :
    pauseRequest st rate s = sideband n .pause [rate, 1, 0, a] (pauseGranted st rate a b s) := by
  unfold pauseRequest
  rw [if_neg (by simp [safe, may, named]), window, site]
  rfl

theorem pauseRequest_refused {st rate why : Nat} {s : State} (safe : s.flt.safe = false) (may : pausable s st = true)
    (named : rate < 3) (none : pauseOutcome s st rate = (why, none)) : pauseRequest st rate s = pauseRefused st why s := by
  unfold pauseRequest
  rw [if_neg (by simp [safe, may, named]), none]
  rfl

/-- An installer's request that is no violation is recorded with what it does (R13, R429). -/
theorem pauseWrite_recorded {p : Path} {st rate data : Nat} {s : State} (right : mayWrite s p .i = true) (may : pausable s st = true)
    (named : rate < 3) :
    pauseWrite p st rate data s = audit (some p) 0x10 0x030050 (BitVec.ofNat 64 data) (pauseRequest st rate s) := by
  unfold pauseWrite iWrite
  rw [if_neg (by simp [may, named]), if_pos right]
  rfl

theorem pauseWrite_violation {p : Path} {st rate data : Nat} {s : State} (bad : pausable s st = false ∨ 3 ≤ rate) :
    pauseWrite p st rate data s = s := by
  refine if_pos ?_
  rcases bad with h | h <;> simp [h]

/-- A die's request, where PAUSE is agreed, is one at its site's station; a refusal is answered (R281). -/
theorem execPauseReq_agreed {n rate : Nat} {s : State} (live : sbLive s n = true) (agreed : bit (siteFeatures s n) 3 = true)
    (named : rate < 3) : execPauseReq n rate s = .next (dieRefused n rate (pauseRequest (ssOf n) rate s)) :=
  congrArg Host.Outcome.next (if_neg (by simp [live, agreed, named]))

theorem dieRefused_granted (n m rate a b : Nat) (vals : List Nat) (s : State) :
    dieRefused n rate (sideband m .pause vals (pauseGranted (ssOf n) rate a b s)) = sideband m .pause vals (pauseGranted (ssOf n) rate a b s) := by
  refine if_neg ?_
  rw [(sideband_keep _ _ _ _).tc rfl]
  rintro ⟨refused, -⟩
  exact absurd (show 1 = 3 from refused) (by decide)

theorem dieRefused_refused (n rate why : Nat) (s : State) :
    dieRefused n rate (pauseRefused (ssOf n) why s) = sideband n .pause [rate, 0, why, 0] (pauseRefused (ssOf n) why s) :=
  if_pos ⟨rfl, rfl⟩

/-! ### The window -/

theorem showPause_eq (st v : Nat) (s : State) :
    showPause st v s = modTc (fun t => { t with pauseState := if t.pauseStation = st then v else t.pauseState }) s := by
  unfold showPause
  split
  · next h => simp only [modTc, h, if_true]
  · next h => simp only [modTc, h, if_false]

/-- A pause's entry changes, and its state is shown where it is the latest request's. -/
def pauseMoved (st v : Nat) (p : Pause) (s : State) : State := { s with tc := { s.tc with
  pauses := tset {} s.tc.pauses st p
  pauseState := if s.tc.pauseStation = st then v else s.tc.pauseState } }

theorem showPause_modTc (st v : Nat) (p : Pause) (s : State) :
    showPause st v (modTc (fun t => { t with pauses := tset {} t.pauses st p }) s) = pauseMoved st v p s := showPause_eq _ _ _

/-- At the first boundary of its window a site stops (R65). -/
theorem pauseBegin_site {st n : Nat} {s : State} (safe : s.flt.safe = false) (scheduled : (tget {} s.tc.pauses st).st = .scheduled)
    (due : (tget {} s.tc.pauses st).start ≤ s.now) (site : kindOf st = (.ss, n)) :
    pauseBegin st s = modSite n (fun x => { x with st := 4, oldRate := x.rate })
      (pauseMoved st 2 { tget {} s.tc.pauses st with st := .running } s) := by
  unfold pauseBegin
  dsimp only
  rw [if_neg (by simp [safe, scheduled, due]), showPause_modTc, site]

/-- At the first boundary of its window a memory station without lanes to repair stops (R65, R139). -/
theorem pauseBegin_mem {st m : Nat} {s : State} (safe : s.flt.safe = false) (scheduled : (tget {} s.tc.pauses st).st = .scheduled)
    (due : (tget {} s.tc.pauses st).start ≤ s.now) (mem : kindOf st = (.ms, m)) (whole : (msSt s m).repairs = 0) :
    pauseBegin st s = modMs m (fun x => { x with st := 2, repairs := 0 })
      (pauseMoved st 2 { tget {} s.tc.pauses st with st := .running } s) := by
  unfold pauseBegin
  dsimp only
  rw [if_neg (by simp [safe, scheduled, due]), showPause_modTc, mem]
  dsimp only
  rw [show (msSt (pauseMoved st 2 { tget {} s.tc.pauses st with st := .running } s) m).repairs = 0 from whole]
  rfl

/-! ### The end of a pause -/

theorem pauseDone_mem {st m : Nat} {s : State} (safe : s.flt.safe = false) (runs : (tget {} s.tc.pauses st).st = .running)
    (inTime : s.now ≤ (tget {} s.tc.pauses st).start + 6000) (mem : kindOf st = (.ms, m)) :
    pauseDone st s = modMs m (fun x => { x with
        st := 1, rate := (tget {} s.tc.pauses st).rate, fallback := x.fallback && decide (x.rate ≤ (tget {} s.tc.pauses st).rate) })
      (pauseMoved st 0 {} s) := by
  unfold pauseDone
  dsimp only
  rw [if_neg (by simp [safe, runs, inTime]), showPause_modTc, mem]

theorem pauseDone_site {st n : Nat} {s : State} (safe : s.flt.safe = false) (runs : (tget {} s.tc.pauses st).st = .running)
    (inTime : s.now ≤ (tget {} s.tc.pauses st).start + 6000) (site : kindOf st = (.ss, n)) :
    pauseDone st s = laneQueues n (capUpdate (linksFresh n (handAll n (modSite n (fun x => { x with
      st := 3, rate := (tget {} s.tc.pauses st).rate }) (pauseMoved st 0 {} s))))) := by
  unfold pauseDone
  dsimp only
  rw [if_neg (by simp [safe, runs, inTime]), showPause_modTc, site]

/-- 6 µs without completion: a memory station retrains at 4.0 Gb/s (R66, R139). -/
theorem pauseTimeout_mem {st m : Nat} {s : State} (safe : s.flt.safe = false) (runs : (tget {} s.tc.pauses st).st = .running)
    (late : (tget {} s.tc.pauses st).start + 6000 ≤ s.now) (mem : kindOf st = (.ms, m)) :
    pauseTimeout st s = modMs m (fun x => { x with st := 0, rate := 2 })
      (modTc (fun t => { t with pauses := tset {} t.pauses st { tget {} s.tc.pauses st with st := .draining } }) s) := by
  unfold pauseTimeout
  dsimp only
  rw [if_neg (by simp [safe, runs, late]), mem]

/-- 6 µs without completion: a site returns at its old rate (R66, R243). -/
theorem pauseTimeout_site {st n : Nat} {s : State} (safe : s.flt.safe = false) (runs : (tget {} s.tc.pauses st).st = .running)
    (late : (tget {} s.tc.pauses st).start + 6000 ≤ s.now) (site : kindOf st = (.ss, n)) :
    pauseTimeout st s = laneQueues n (linksFresh n (handAll n (modSite n (fun x => { x with
      st := 3, rate := x.oldRate, fallbackAt := some s.now }) (pauseMoved st 0 {} s)))) := by
  unfold pauseTimeout
  dsimp only
  rw [if_neg (by simp [safe, runs, late]), site, showPause_modTc]
  rfl

/-- Retraining at 4.0 Gb/s ends, well or with the channel failed (R139). -/
theorem memFallback_draining {m : Nat} {s : State} (safe : s.flt.safe = false)
    (drains : (tget {} s.tc.pauses (msOf m)).st = .draining) (ok : Bool) :
    memFallback m ok s = (if ok then sendFault (mkMsg s .memRateFallback 2 m 0)
        (modMs m (fun x => { x with st := 1, rate := 2, fallback := true }) (pauseMoved (msOf m) 0 {} s))
      else sendFault (mkMsg s .memChannelFail 2 m 0) (pauseMoved (msOf m) 0 {} s)) := by
  unfold memFallback
  dsimp only
  rw [if_neg (by simp [safe, drains]), showPause_modTc, raise_mild (by decide), raise_mild (by decide)]
  rfl

/-! ### Stack lanes and the patrol scrub -/

/-- A lane event at a station that serves (R139). -/
theorem stackLane_serving {m : Nat} {s : State} (safe : s.flt.safe = false) (has : hasMs s.part.variant m = true)
    (serves : memFenced s m = false) (ev : StackLaneEvent) :
    stackLane m ev s = (match ev with
      | .lane l true =>
        if (msSt s m).st = 2 then raise .memLaneRepaired 2 m (l * 32) (modMs m (fun x => { x with lanesRepaired := x.lanesRepaired + 1 }) s)
        else modMs m (fun x => { x with repairs := x.repairs + 1 }) s
      | .lane l false => raise .memChannelFail 2 m (l * 32) s
      | .channelTraining c => raise .memChannelFail 2 m c s) :=
  if_neg (by simp [safe, has, serves])

/-- A clean patrol read with no stored symbol in error moves on by one line, round the stack (R138). -/
theorem patrolScrub_clean {m : Nat} {s : State} (safe : s.flt.safe = false) (has : hasMs s.part.variant m = true)
    (up : (msSt s m).st = 1) (serves : memFenced s m = false) (sound : s.mem.symErrs = [])
    (free : ((msSt s m).queue.any (fun q => homeOf s (addrOff q.req.addr) == m && localLine s (addrOff q.req.addr) == (msSt s m).scrubNext)) = false) :
    patrolScrub m (msSt s m).scrubNext .clean s = modMs m (fun x =>
      if stackLines s ≤ (msSt s m).scrubNext + 1 then { x with scrubNext := 0, scrubPasses := x.scrubPasses + 1 }
      else { x with scrubNext := (msSt s m).scrubNext + 1 }) s := by
  have clean : (s.mem.symErrs.isEmpty && Verdict.clean == Verdict.clean) = true := by rw [sound]; decide
  unfold patrolScrub
  dsimp only
  rw [if_neg (by simp [safe, has, up, serves, free]), if_pos clean]
  by_cases last : stackLines s ≤ (msSt s m).scrubNext + 1
  · simp only [last, if_true]
  · simp only [last, if_false]

/-- Settles O4: each clause is one case of the function that the command calls. -/
theorem pausesChangeTheRate : Obligations.PausesChangeTheRate := by
  unfold Obligations.PausesChangeTheRate
  refine ⟨?_, ?_, ?_, ?_, ?_, ?_, ?_, ?_, ?_, ?_, ?_, ?_, ?_, ?_, ?_⟩
  · intro p st rate n a b s right safe may named site window
    show Host.Outcome.next (pauseWrite p st rate _ s) = _
    rw [pauseWrite_recorded right may named, pauseRequest_granted safe may named site window]
    rfl
  · intro p st rate why s right safe may named none
    show Host.Outcome.next (pauseWrite p st rate _ s) = _
    rw [pauseWrite_recorded right may named, pauseRequest_refused safe may named none]
    rfl
  · intro n rate a b s live agreed safe may named site window
    show execPauseReq n rate s = _
    rw [execPauseReq_agreed live agreed named, pauseRequest_granted safe may named site window, dieRefused_granted]
    rfl
  · intro n rate why s live agreed safe may named none
    show execPauseReq n rate s = _
    rw [execPauseReq_agreed live agreed named, pauseRequest_refused safe may named none, dieRefused_refused]
    rfl
  · intro p st rate s bad
    exact congrArg Host.Outcome.next (pauseWrite_violation bad)
  · intro st n s safe scheduled due site
    exact congrArg Host.Outcome.next (pauseBegin_site safe scheduled due site)
  · intro st m s safe scheduled due mem whole
    exact congrArg Host.Outcome.next (pauseBegin_mem safe scheduled due mem whole)
  · intro st m s safe runs inTime mem
    exact congrArg Host.Outcome.next (pauseDone_mem safe runs inTime mem)
  · intro st n s safe runs inTime site
    exact congrArg Host.Outcome.next (pauseDone_site safe runs inTime site)
  · intro st m s safe runs late mem
    exact congrArg Host.Outcome.next (pauseTimeout_mem safe runs late mem)
  · intro st n s safe runs late site
    exact congrArg Host.Outcome.next (pauseTimeout_site safe runs late site)
  · intro m ok s safe drains
    refine ⟨_, congrArg Host.Outcome.next (memFallback_draining safe drains ok), ?_⟩
    cases ok <;> exact ⟨rfl, rfl, rfl, rfl⟩
  · intro m l s safe has serves up
    exact congrArg Host.Outcome.next ((stackLane_serving safe has serves _).trans (if_neg up))
  · intro m l s safe has serves
    exact congrArg Host.Outcome.next ((stackLane_serving safe has serves _).trans (raise_mild (by decide) _ _ _ s))
  · intro m line s safe has up serves next sound free
    subst next
    exact congrArg Host.Outcome.next (patrolScrub_clean safe has up serves sound free)

end Sys2Proof.Machine
end

section
/-! SUPPORT. Preambles, flits and streams (R49, R50, R62, R84 to R86): what a receive port accepts, what lands, and what goes on
to the die. -/

namespace Sys2Proof.Machine

open Sys2Proof

/-- A message names its unit and the timecode, whatever else has changed. -/
theorem mkMsg_modFlt (f : Flt → Flt) (s : State) (k : FaultKind) (b i a : Nat) : mkMsg (modFlt f s) k b i a = mkMsg s k b i a := rfl

theorem mkMsg_modSlu (f : Slu → Slu) (s : State) (k : FaultKind) (b i a : Nat) : mkMsg (modSlu f s) k b i a = mkMsg s k b i a := rfl

/-! ### Preambles -/

/-- A receive port whose preambles are now judged for this frame (R50). -/
def markJudged (key : Nat) (s : State) : State := modSlu (fun u => { u with judged := key :: u.judged }) s

/-- No preamble was decoded. -/
theorem noneDecoded {p0 p1 : Option Preamble} : ([p0, p1].filterMap id).isEmpty = true ↔ p0 = none ∧ p1 = none := by
  cases p0 <;> cases p1 <;> simp

/-- A lit port that is not fenced judges its preambles against what the reel routes to it (R50). -/
theorem preambleReceived_judges {st plane src : Nat} {p0 p1 : Option Preamble} {s : State} (safe : s.flt.safe = false)
    (runs : reelActive s = true) (begun : s.tc.frame ≠ 0) (fresh : s.slu.judged.contains (st * 8 + plane) = false)
    (lit : portDark s st 1 plane = false) (free : rxFenced s st plane = false) (routed : routedTo s st plane = some src) :
    preambleReceived st plane p0 p1 s =
      if ([p0, p1].filterMap id).any (preambleAgrees s src plane) then
        modSlu (fun u => { u with
          air := tupd [] u.air (st * 8 + plane) (·.map (fun f => if f.judged then f else { f with judged := true, accepted := true })) })
          (markJudged (st * 8 + plane) s)
      else
        let t := modFlt (fun f => { f with
          portDiscards := tupd [] f.portDiscards (st * 8 + plane) (fun l => s.now :: l.filter (fun t => decide (s.now < t + 1000000))) })
          (modSlu (fun u => { u with frameDiscard := u.frameDiscard + 1 })
            (dropAir st plane (fun f => !f.judged) (markJudged (st * 8 + plane) s)))
        if ([p0, p1].filterMap id).isEmpty then raise .preambleLost 0 st (plane + 8) t
        else raise .frameSourceMismatch 0 st (plane + 8) t := by
  have now : (dropAir st plane (fun f => !f.judged) (markJudged (st * 8 + plane) s)).now = s.now := (dropAir_keep _ _ _ _).now rfl
  unfold preambleReceived
  dsimp only
  rw [if_neg (by simpa [safe, runs, begun, lit] using fresh), if_neg (by rw [free]; decide), routed]
  dsimp only
  rw [← now]
  rfl

/-- At a fenced port the frame is discarded and not counted (R95). -/
theorem preambleReceived_fenced {st plane : Nat} {p0 p1 : Option Preamble} {s : State} (safe : s.flt.safe = false)
    (runs : reelActive s = true) (begun : s.tc.frame ≠ 0) (fresh : s.slu.judged.contains (st * 8 + plane) = false)
    (lit : portDark s st 1 plane = false) (shut : rxFenced s st plane = true) :
    preambleReceived st plane p0 p1 s = markJudged (st * 8 + plane) (dropAir st plane (fun f => !f.judged) s) := by
  unfold preambleReceived
  dsimp only
  rw [if_neg (by simp only [safe, runs, begun, fresh, lit]; decide), if_pos shut]
  rfl

/-- Where no flit dropped ends a frame with LAST, dropping returns no landing pointer (R50, R83). -/
theorem dropAir_plain {st plane : Nat} {gone : AirFlit → Bool} {s : State}
    (plain : ∀ f ∈ tget [] s.slu.air (st * 8 + plane), gone f = true → (f.last && f.final) = false) :
    dropAir st plane gone s = modSlu (fun u => { u with air := tupd [] u.air (st * 8 + plane) (·.filter (fun f => !gone f)) }) s := by
  unfold dropAir
  dsimp only
  have skips : ∀ (fs : List AirFlit) (t : State), (∀ f ∈ fs, (f.last && f.final) = false) →
      fs.foldl (fun s f => if f.last && f.final then landReturn st f.land s else s) t = t := by
    intro fs
    induction fs with
    | nil => exact fun _ _ => rfl
    | cons f fs ih =>
      intro t none
      rw [List.foldl_cons, if_neg (by rw [none f List.mem_cons_self]; decide)]
      exact ih t (fun g hg => none g (List.mem_cons_of_mem f hg))
  refine skips _ _ (fun f hf => ?_)
  obtain ⟨mem, dropped⟩ := List.mem_filter.mp hf
  exact plain f mem dropped

/-- The check of a preamble covers the fields before it. -/
theorem preambleFields_check (p : Preamble) (c : Word32) : preambleFields { p with check := c } = preambleFields p := rfl

theorem hdrReelId_lt (s : State) (slot : Nat) : hdrReelId s slot < 2 ^ 16 := Nat.mod_lt _ (by decide)

/-- The preamble that a port sends agrees at its receiver in the frame it is sent in (R49, R50). -/
theorem preambleAgrees_preambleFlit {s : State} {st plane k : Nat} (station : st < 64) (port : plane < 8) (record : k < 2 ^ 18)
    (frame : s.tc.frame = k + 1) (feed : Nat) (no : Bool) :
    preambleAgrees s st plane (preambleFlit s s.tc.activeSlot k st plane feed no) = true := by
  have reel := Nat.mod_eq_of_lt (hdrReelId_lt s s.tc.activeSlot)
  have check : ∀ p : Preamble, (crc32 (preambleFields p) == crc32 (preambleFields { p with check := crc32 (preambleFields p) })) = true :=
    fun p => beq_iff_eq.mpr (congrArg crc32 (preambleFields_check p _).symm)
  simp only [preambleAgrees, preambleFlit, check, beq_self_eq_true, Bool.true_and, Bool.and_true, decide_eq_true_eq,
    BitVec.toNat_ofNat, frame, Nat.add_sub_cancel, Nat.mod_eq_of_lt record, Nat.mod_eq_of_lt (show st < 2 ^ 6 from station),
    Nat.mod_eq_of_lt (show plane < 2 ^ 3 from port), reel, and_self]

/-! ### A flit that is not the last of its frame -/

/-- A flit leaves the receive port's queue (R86). -/
def airTaken (st plane : Nat) (rest : List AirFlit) (s : State) : State :=
  modSlu (fun u => { u with air := tset [] u.air (st * 8 + plane) rest }) s

/-- What the landing of a flit reads does not depend on the port's queue. -/
theorem airTaken_reads (st plane : Nat) (rest : List AirFlit) (s : State) : rxFenced (airTaken st plane rest s) = rxFenced s
    ∧ landDef (airTaken st plane rest s) = landDef s ∧ landFenced (airTaken st plane rest s) = landFenced s
    ∧ landSt (airTaken st plane rest s) = landSt s ∧ (airTaken st plane rest s).tc = s.tc := ⟨rfl, rfl, rfl, rfl, rfl⟩

/-- n more lines of the frame that the port receives have landed. -/
def linesCounted (st plane n : Nat) (s : State) : State := modSlu (fun u => { u with
  frameLanded := tset 0 u.frameLanded (st * 8 + plane) (tget 0 u.frameLanded (st * 8 + plane) + n) }) s

/-- The lines that a flit lands, by what its check found and whether the port is fenced (R86, R95). -/
def flitLands (st plane : Nat) (v : SluiceVerdict) (f : AirFlit) (s : State) : Nat × State :=
  if v = .good ∧ rxFenced s st plane = false then landLines st f.land (landDef s s.tc.activeSlot st f.land) f.lines s else (0, s)

/-- A flit that does not end its frame, and whose landing's counter does not move: its lines land, a late one is a slack miss,
and its payload and the flit are noted (R62, R86, R461). -/
theorem sluiceFlit_goesOn {st plane n : Nat} {v : SluiceVerdict} {f : AirFlit} {rest : List AirFlit} {u s : State}
    (safe : s.flt.safe = false) (next : tget [] s.slu.air (st * 8 + plane) = f :: rest) (accepted : f.accepted = true)
    (goesOn : f.final = false) (lands : flitLands st plane v f (airTaken st plane rest s) = (n, u))
    (uncounted : (f.count && !f.ordered && decide (0 < n)) = false) :
    sluiceFlit st plane v s = linesCounted st plane n
      (let t := if v = .stageMiss then slackMissAt st u else u
       let t := if n = 0 then t else noteBytes (ownerTag t st) (64 * n) t
       if n = 0 then t else modSlu (fun x => { x with received := tupd 0 x.received st (· + 1) }) t) := by
  unfold flitLands airTaken at lands
  unfold sluiceFlit
  dsimp only
  rw [next]
  dsimp only
  rw [if_neg (by simp [safe, accepted]), lands]
  dsimp only
  rw [uncounted, goesOn]
  rfl

/-- A late flit is a slack miss of its station (R62). -/
theorem slackMissAt_eq (st : Nat) (s : State) : slackMissAt st s = { s with flt := { s.flt with
    slackMisses := tupd [] s.flt.slackMisses st (fun l => s.now :: l.filter (fun t => decide (s.now < t + 10000000)))
    net := s.flt.net ++ [mkMsg s .slackMiss 0 st 0] } } := by
  unfold slackMissAt
  rw [raise_mild (by decide), mkMsg_modFlt]
  dsimp only [sendFault, modFlt]

/-- A flit that is not good lands nothing. -/
theorem flitLands_bad {st plane : Nat} {v : SluiceVerdict} {f : AirFlit} {s : State} (bad : v ≠ .good) :
    flitLands st plane v f s = (0, s) := if_neg (fun h => bad h.1)

theorem flitLands_good {st plane : Nat} {f : AirFlit} {s : State} (free : rxFenced s st plane = false) :
    flitLands st plane .good f s = landLines st f.land (landDef s s.tc.activeSlot st f.land) f.lines s := if_pos ⟨rfl, free⟩

/-- A line that lands in a millpond range outside the dailies is written at the pointer, which moves on (R82, R83). -/
theorem landLine_range {st sel : Nat} {d : LandDef} {s : State} (range : d.kind = 3)
    (plain : dailyRange (64 * (d.millLine + (landSt s st sel).ptr)) = false) (x : Line × Bool) :
    landLine st sel d x s = (1, modLand st sel (fun y => { y with ptr := (y.ptr + 1) % max 1 d.lines, landed := y.landed + 1 })
      (millWrite (64 * (d.millLine + (landSt s st sel).ptr)) fullMask x.1 x.2 s)) := by
  unfold landLine
  dsimp only
  rw [if_neg (by omega), if_neg (by omega), if_pos range, if_neg (by rw [plain]; decide)]

/-- A millpond write changes the line's masked bytes (R170). -/
theorem millWrite_cells (o : Nat) (mask : Word64) (data : Line) (poison : Bool) (s : State) :
    (millWrite o mask data poison s).mem.cells = lineSet s.mem.cells (millBase + o) mask data := by
  unfold millWrite
  dsimp only
  refine (congrArg Mem.cells (foldl_keeps (·.mem) (fun s k => ?_) _ _)).trans ?_
  · exact (evalWatches_keep _ s).mem rfl
  · rfl

/-- What one line for a millpond range leaves: its bank's turn is used, the line is written, the pointer moves on (R82, R167). -/
def rangeLanded (st sel : Nat) (d : LandDef) (x : Line × Bool) (s : State) : State :=
  modLand st sel (fun y => { y with ptr := (y.ptr + 1) % max 1 d.lines, landed := y.landed + 1 })
    (millWrite (64 * (d.millLine + (landSt s st sel).ptr)) fullMask x.1 x.2 (ownerTurn 1 st (bankAt (64 * d.millLine)) s))

theorem landLines_range {st sel : Nat} {d : LandDef} {s : State} (range : d.kind = 3) (serves : landFenced s d = false)
    (plain : dailyRange (64 * (d.millLine + (landSt s st sel).ptr)) = false) (x : Line × Bool) :
    landLines st sel d [x] s = (1, rangeLanded st sel d x s) := by
  have turn : landSt (ownerTurn 1 st (bankAt (64 * d.millLine)) s) st sel = landSt s st sel := by
    unfold landSt
    rw [(ownerTurn_keep _ _ _ _).slu rfl]
  unfold landLines
  dsimp only
  rw [if_neg (by rw [serves]; decide), if_neg (by omega), if_neg (by omega), if_pos range, List.foldl_cons, List.foldl_nil,
    landLine_range range (by rw [turn]; exact plain), turn]
  simp only [Nat.zero_add, rangeLanded]

/-- The line stands in the millpond, the pointer has moved on, and no fault and no flit of the millrace came of it. -/
theorem rangeLanded_fields (st sel : Nat) (d : LandDef) (x : Line × Bool) (s : State) :
    (rangeLanded st sel d x s).mem.cells
      = lineSet s.mem.cells (millBase + 64 * (d.millLine + (landSt s st sel).ptr)) fullMask x.1
    ∧ (rangeLanded st sel d x s).slu = { s.slu with lands := tupd {} s.slu.lands (landKey st sel) (fun y => { y with
      ptr := (y.ptr + 1) % max 1 d.lines, landed := y.landed + 1 }) }
    ∧ (rangeLanded st sel d x s).flt = s.flt ∧ (rangeLanded st sel d x s).mrc = s.mrc := by
  have turned := ownerTurn_keep 1 st (bankAt (64 * d.millLine)) s
  have written := millWrite_keep (64 * (d.millLine + (landSt s st sel).ptr)) fullMask x.1 x.2
    (ownerTurn 1 st (bankAt (64 * d.millLine)) s)
  unfold rangeLanded modLand
  simp only [modSlu_mem, modSlu_slu, modSlu_flt, modSlu_mrc, millWrite_cells, written.slu rfl, written.flt rfl, written.mrc rfl,
    turned.slu rfl, turned.flt rfl, turned.mrc rfl, turned.mem rfl, and_self]

/-- A good line in a millpond range, with its flit and payload noted (R86, R461). -/
def rangeNoted (st plane sel : Nat) (rest : List AirFlit) (d : LandDef) (x : Line × Bool) (s : State) : State :=
  let u := rangeLanded st sel d x (airTaken st plane rest s)
  linesCounted st plane 1 (modSlu (fun y => { y with received := tupd 0 y.received st (· + 1) }) (noteBytes (ownerTag u st) 64 u))

theorem sluiceFlit_range {st plane : Nat} {f : AirFlit} {rest : List AirFlit} {x : Line × Bool} {s : State} (safe : s.flt.safe = false)
    (next : tget [] s.slu.air (st * 8 + plane) = f :: rest) (accepted : f.accepted = true) (goesOn : f.final = false)
    (uncounted : f.count = false) (one : f.lines = [x]) (free : rxFenced s st plane = false)
    (range : (landDef s s.tc.activeSlot st f.land).kind = 3) (serves : landFenced s (landDef s s.tc.activeSlot st f.land) = false)
    (plain : dailyRange (64 * ((landDef s s.tc.activeSlot st f.land).millLine + (landSt s st f.land).ptr)) = false) :
    sluiceFlit st plane .good s = rangeNoted st plane f.land rest (landDef s s.tc.activeSlot st f.land) x s := by
  obtain ⟨rx, defs, fences, pointers, tc⟩ := airTaken_reads st plane rest s
  rw [← fences] at serves
  rw [← pointers] at plain
  have lands := flitLands_good (f := f) (rx.symm ▸ free)
  rw [one, defs, tc, landLines_range range serves plain] at lands
  rw [sluiceFlit_goesOn safe next accepted goesOn lands (by rw [uncounted]; rfl)]
  simp only [reduceCtorEq, if_false, Nat.one_ne_zero, Nat.mul_one, rangeNoted]

theorem rangeNoted_fields (st plane sel : Nat) (rest : List AirFlit) (d : LandDef) (x : Line × Bool) (s : State) :
    (rangeNoted st plane sel rest d x s).mem.cells
      = lineSet s.mem.cells (millBase + 64 * (d.millLine + (landSt s st sel).ptr)) fullMask x.1
    ∧ landSt (rangeNoted st plane sel rest d x s) st sel = { landSt s st sel with
      ptr := ((landSt s st sel).ptr + 1) % max 1 d.lines, landed := (landSt s st sel).landed + 1 }
    ∧ (rangeNoted st plane sel rest d x s).slu.air = tset [] s.slu.air (st * 8 + plane) rest
    ∧ (rangeNoted st plane sel rest d x s).slu.received = tupd 0 s.slu.received st (· + 1)
    ∧ (rangeNoted st plane sel rest d x s).flt = s.flt ∧ (rangeNoted st plane sel rest d x s).mrc = s.mrc := by
  obtain ⟨cells, slu, flt, mrc⟩ := rangeLanded_fields st sel d x (airTaken st plane rest s)
  obtain ⟨-, -, -, pointers, -⟩ := airTaken_reads st plane rest s
  rw [pointers] at cells
  have listed : ({ landSt s st sel with
      ptr := ((landSt s st sel).ptr + 1) % max 1 d.lines, landed := (landSt s st sel).landed + 1 } : LandSt) ≠ {} :=
    fun e => Nat.succ_ne_zero _ (congrArg LandSt.landed e)
  have moved := tget_tupd_self s.slu.lands (landKey st sel) (f := fun y => { y with
    ptr := (y.ptr + 1) % max 1 d.lines, landed := y.landed + 1 }) listed
  simp only [rangeNoted, linesCounted, noteBytes, modSlu_mem, modSlu_flt, modSlu_mrc, modSlu_slu, modGaf_mem, modGaf_flt,
    modGaf_mrc, modGaf_slu, landSt, cells, slu, flt, mrc]
  exact ⟨rfl, moved, rfl, rfl, rfl, rfl⟩

/-! ### Streams -/

/-- A line of the millpond none of whose words is bad is read as it stands (R172). -/
theorem unitRead_sound {o : Nat} {s : State} (free : bankFenced s (bankAt o) = false) (sound : lineBad s o = false) :
    unitRead o s = ((millLine s o, false), s) := by
  have noWords : (List.range 8).filter (fun k => wordBad s (o / 8 + k)) = [] :=
    List.filter_eq_nil_iff.mpr (fun k hk => fun bad => by
      have : lineBad s o = true := List.any_eq_true.mpr ⟨k, hk, bad⟩
      rw [sound] at this
      cases this)
  unfold unitRead unitLine millMeet
  rw [free, sound, noWords]
  rfl

/-- A landed line of a site stream goes to the site's hopper (R85). -/
theorem streamForward_site {st sel : Nat} {s u : State} (safe : s.flt.safe = false) (site : (landDef s s.tc.activeSlot st sel).kind = 1)
    (waits : (landSt s st sel).fwd < (landSt s st sel).landed)
    (read : unitRead (64 * ((landDef s s.tc.activeSlot st sel).ringBase
      + (landSt s st sel).fwd % max 1 (landDef s s.tc.activeSlot st sel).ringLines)) s
      = ((millLine s (64 * ((landDef s s.tc.activeSlot st sel).ringBase
        + (landSt s st sel).fwd % max 1 (landDef s s.tc.activeSlot st sel).ringLines)), false), s))
    (goes : siteStreamOut (kindOf st).2 (landDef s s.tc.activeSlot st sel).stream
      (millLine s (64 * ((landDef s s.tc.activeSlot st sel).ringBase
        + (landSt s st sel).fwd % max 1 (landDef s s.tc.activeSlot st sel).ringLines)), false)
      ((landSt s st sel).lastAt.contains ((landSt s st sel).fwd + 1)) s = some u) :
    streamForward st sel s = modLand st sel (fun y => { y with
      fwd := y.fwd + 1, lastAt := y.lastAt.filter (fun k => decide (y.fwd + 1 < k)) }) u := by
  unfold streamForward
  dsimp only
  rw [if_neg (by simp [safe, waits]), read]
  dsimp only
  rw [if_pos site, goes]

/-- Settles O5: each clause is one case of the function that the command calls. -/
theorem preamblesFlitsAndStreamsLand : Obligations.PreamblesFlitsAndStreamsLand := by
  unfold Obligations.PreamblesFlitsAndStreamsLand
  refine ⟨?_, ?_, ?_, ?_, ?_, ?_, ?_, ?_⟩
  · intro st plane src p0 p1 s safe runs begun fresh lit free routed agrees
    show Host.Outcome.next (preambleReceived st plane p0 p1 s) = _
    rw [preambleReceived_judges safe runs begun fresh lit free routed, if_pos agrees]
    rfl
  · intro st plane src p0 p1 s safe runs begun fresh lit free routed disagrees plain
    have keeps : ∀ f ∈ tget [] s.slu.air (st * 8 + plane), (!f.judged) = true → (f.last && f.final) = false := by
      intro f mem dropped
      have spared := List.all_eq_true.mp plain f mem
      rw [Bool.not_eq_true'] at dropped
      rw [dropped, Bool.false_or, ← Bool.not_and, Bool.not_eq_true'] at spared
      exact spared
    show Host.Outcome.next (preambleReceived st plane p0 p1 s) = _
    rw [preambleReceived_judges safe runs begun fresh lit free routed, if_neg (by rw [disagrees]; decide),
      dropAir_plain (s := markJudged (st * 8 + plane) s) keeps]
    dsimp only
    rw [raise_mild (by decide), raise_mild (by decide)]
    simp only [mkMsg_modFlt, mkMsg_modSlu, markJudged]
    by_cases undecoded : p0 = none ∧ p1 = none
    · rw [if_pos (noneDecoded.mpr undecoded), if_pos undecoded]
      dsimp only [sendFault, modFlt, modSlu]
    · rw [if_neg (fun h => undecoded (noneDecoded.mp h)), if_neg undecoded]
      dsimp only [sendFault, modFlt, modSlu]
  · intro st plane p0 p1 s safe runs begun fresh lit shut
    exact congrArg Host.Outcome.next (preambleReceived_fenced safe runs begun fresh lit shut)
  · intro st plane feed k no s station port record frame
    exact preambleAgrees_preambleFlit station port record frame feed no
  · intro st plane f rest x s safe next accepted one uncounted goesOn free range serves plain
    exact ⟨_, congrArg Host.Outcome.next (sluiceFlit_range safe next accepted goesOn uncounted one free range serves plain),
      rangeNoted_fields st plane f.land rest _ x s⟩
  · intro st plane f rest s safe next accepted goesOn
    exact congrArg Host.Outcome.next (sluiceFlit_goesOn safe next accepted goesOn (flitLands_bad (by decide)) (by simp))
  · intro st plane f rest s safe next accepted goesOn
    refine ⟨_, congrArg Host.Outcome.next (sluiceFlit_goesOn safe next accepted goesOn (flitLands_bad (by decide)) (by simp)), ?_⟩
    simp only [if_true, slackMissAt_eq]
    exact ⟨rfl, rfl, rfl⟩
  · intro st sel s u safe site waits free sound goes
    exact congrArg Host.Outcome.next (streamForward_site safe site waits (unitRead_sound free sound) goes)

end Sys2Proof.Machine
end

section
/-! SUPPORT. The reel store and the checks (R93, R94, R98, R100): a word written, CHECK, what the checks find, and CLEAR. -/

namespace Sys2Proof.Machine

open Sys2Proof

/-! ### What an audit entry changes -/

theorem mirrorLog_pair_only (index : Nat) (data : Line) (s : State) :
    mirrorLog index data s = { s with pair := (mirrorLog index data s).pair } := by
  unfold mirrorLog
  split
  · rfl
  · rfl

/-- An audit entry changes the ring, which is part of the roles, and what the lead sends its stand-in (R391, R429). -/
theorem audit_role_pair_only (p : Option Path) (action : Nat) (object : Word32) (detail : Word64) (s : State) :
    audit p action object detail s
      = { s with role := (audit p action object detail s).role, pair := (audit p action object detail s).pair } := by
  unfold audit pushAudit
  dsimp only
  rw [mirrorLog_pair_only]
  rfl

theorem audit_digestNext (p : Option Path) (action : Nat) (object : Word32) (detail : Word64) (s : State) :
    (audit p action object detail s).role.digestNext = s.role.digestNext := by
  unfold audit pushAudit
  dsimp only
  rw [(mirrorLog_keep _ _ _).role rfl]
  rfl

/-! ### The right of an operator -/

/-- Without that right no access changes the next slot (R93). -/
theorem execReel_refused {p : Path} {s : State} (noRight : mayWrite s p .o = false) (a : Nat) (w : Word32) :
    execReelStoreWrite p a w s = .next s ∧ execReelCheck p s = .next s ∧ execReelClear p s = .next s := by
  have held : ¬ mayWrite s p .o = true := by rw [noRight]; decide
  exact ⟨congrArg Host.Outcome.next (if_neg held), congrArg Host.Outcome.next (if_neg held),
    congrArg Host.Outcome.next (if_neg held)⟩

/-! ### A word of the reel store -/

/-- A whole word of the slot that is not active is stored; a slot not yet checked has no swap to withdraw (R93). -/
theorem reelWrite_next {a : Nat} {w : Word32} {s : State} (here : slotOfAddr a = some (1 - s.tc.activeSlot))
    (slot : s.tc.activeSlot ≤ 1) (aligned : a % 4 = 0) (unchecked : s.slu.next = .empty ∨ s.slu.next = .loading) :
    reelWrite a w s = modSlu (fun u => { u with store := tset 0 u.store (a / 4) w, next := .loading }) s := by
  unfold reelWrite
  rw [here]
  dsimp only
  rw [if_neg (by omega)]
  rcases unchecked with empty | loading
  · rw [empty]
  · rw [loading]

/-- The active slot takes no word (R93). -/
theorem reelWrite_active {a : Nat} {w : Word32} {s : State} (here : slotOfAddr a = some s.tc.activeSlot) :
    reelWrite a w s = s := by
  unfold reelWrite
  rw [here]
  exact if_pos (.inl rfl)

/-! ### The checks -/

theorem reelCheck_loading {s : State} (loading : s.slu.next = .loading) :
    reelCheck s = modSlu (fun u => { u with next := .checking }) s :=
  if_pos loading

/-- A reel that fails is refused with what failed, and an armed swap is off (R94). -/
theorem checkDone_fails {f : CheckFail} {s : State} (checking : s.slu.next = .checking)
    (fails : checkReel s (1 - s.tc.activeSlot) = some f) :
    checkDone s = modTc (fun t => { t with lastRefused := true, swapArm := false }) (modSlu (fun u => { u with
      next := .refused, ckHeader := f.header, ckCode := f.code, ckRecord := f.record, ckStation := f.station
      ckPlane := f.plane }) s) := by
  unfold checkDone
  rw [if_neg (not_not_intro checking)]
  dsimp only
  rw [fails]

/-- The next slot's reel, passed: its affected stations and the digest with it active, before the audit entry (R94, R98, R429). -/
def reelPassed (s : State) : State := { s with
  slu := { s.slu with
    next := .passed, ckHeader := false, ckCode := 0, ckRecord := 0, ckStation := 0, ckPlane := 0
    affected := affectedBy s s.tc.activeSlot (1 - s.tc.activeSlot) }
  tc := { s.tc with lastRefused := false, checkTick := s.now }
  role := { s.role with digestNext := digestOf s (1 - s.tc.activeSlot) } }

/-- A reel that passes is entered in the audit ring with its number and digest (R94, R429). -/
theorem checkDone_passes {s : State} (checking : s.slu.next = .checking)
    (passes : checkReel s (1 - s.tc.activeSlot) = none) :
    ∃ object, checkDone s = audit none 3 object (digestOf s (1 - s.tc.activeSlot)) (reelPassed s) := by
  unfold checkDone
  rw [if_neg (not_not_intro checking)]
  dsimp only
  rw [passes]
  exact ⟨_, rfl⟩

/-! ### CLEAR -/

/-- An armed swap is withdrawn with its reason (R100). -/
theorem withdraw_armed {s : State} (armed : s.slu.swap = .draining ∨ s.slu.swap = .waiting) :
    withdraw s = modSlu (fun u => { u with swap := .none, reason := 3 })
      (modTc (fun t => { t with swapArm := false, swapDeferred := false }) s) :=
  if_pos (by simpa using armed)

/-- Where no swap is armed only the sequencer's two flags go (R100). -/
theorem withdraw_unarmed {s : State} (unarmed : s.slu.swap = .none ∨ s.slu.swap = .refused) :
    withdraw s = modTc (fun t => { t with swapArm := false, swapDeferred := false }) s := by
  refine if_neg ?_
  rcases unarmed with none | refused
  · rw [none]; decide
  · rw [refused]; decide

/-- CLEAR empties the slot and withdraws the swap that is armed for it (R93, R100). -/
theorem reelClear_armed {s : State} (armed : s.slu.swap = .draining ∨ s.slu.swap = .waiting) :
    reelClear s = { s with
      tc := { s.tc with swapArm := false, swapDeferred := false }
      slu := { s.slu with next := .empty, swap := .none, reason := 3 } } := by
  rw [reelClear, withdraw_armed armed]
  rfl

/-- CLEAR with no swap armed keeps what the last swap came to (R93). -/
theorem reelClear_unarmed {s : State} (unarmed : s.slu.swap = .none ∨ s.slu.swap = .refused) :
    reelClear s = { s with
      tc := { s.tc with swapArm := false, swapDeferred := false }
      slu := { s.slu with next := .empty } } := by
  rw [reelClear, withdraw_unarmed unarmed]
  rfl

/-- Settles O6: each clause is one case of the function that the command calls. -/
theorem theNextReelIsLoadedAndChecked : Obligations.TheNextReelIsLoadedAndChecked := by
  unfold Obligations.TheNextReelIsLoadedAndChecked
  refine ⟨?_, ?_, ?_, ?_, ?_, ?_, ?_, ?_⟩
  · intro p a w s right here slot aligned unchecked
    exact congrArg Host.Outcome.next ((if_pos right).trans (reelWrite_next here slot aligned unchecked))
  · intro p a w s right here
    exact congrArg Host.Outcome.next ((if_pos right).trans (reelWrite_active here))
  · intro p s right loading
    exact congrArg Host.Outcome.next ((if_pos right).trans (reelCheck_loading loading))
  · intro f s checking fails
    exact congrArg Host.Outcome.next (checkDone_fails checking fails)
  · intro s checking passes
    obtain ⟨object, done⟩ := checkDone_passes checking passes
    refine ⟨_, congrArg Host.Outcome.next done, ?_⟩
    have kept := audit_keep none 3 object (digestOf s (1 - s.tc.activeSlot)) (reelPassed s)
    refine ⟨kept.slu rfl, kept.tc rfl, audit_digestNext _ _ _ _ _, ?_⟩
    rw [kept.slu rfl, kept.tc rfl]
    exact audit_role_pair_only _ _ _ _ _
  · intro p s right armed
    exact congrArg Host.Outcome.next ((if_pos right).trans (reelClear_armed armed))
  · intro p s right unarmed
    exact congrArg Host.Outcome.next ((if_pos right).trans (reelClear_unarmed unarmed))
  · intro p a w s noRight
    exact execReel_refused noRight a w

end Sys2Proof.Machine
end


section
/-! SUPPORT. The millrace (R103, R104, R107, R109, R117, R118, R120, R490): the next flit of a pair, a flit that arrives, and a wavelength
that is lost. -/

namespace Sys2Proof.Machine

open Sys2Proof

/-! ### Tables -/

/-- An entry that stands keeps standing when another key is written, with the default too. -/
theorem tget_tset_listed {α : Type} [DecidableEq α] {d : α} (t : Tab α) (i j : Nat) (v : α) (listed : tget d t j ≠ d) (other : j ≠ i) :
    tget d (tset d t i v) j = tget d t j := by
  by_cases unlists : v = d
  · subst unlists
    induction t with
    | nil => exact absurd rfl listed
    | cons a t ih =>
      simp only [tget] at listed
      simp only [tset, if_true]
      split
      · rfl
      · split
        · have : ¬ j = a.1 := by omega
          have : ¬ j < a.1 := fun h => by simp [*] at listed
          simp [tget, *]
        · simp only [tget]
          split
          · rfl
          · split
            · rfl
            · exact ih (by simpa [*] using listed)
  · exact tget_tset_other t i j unlists other

/-! ### A flit on its wavelength -/

/-- A wavelength that carries a flit is not as at reset. -/
theorem lambda_listed {y : Lambda} (carries : y.chan ≠ []) : y ≠ {} := fun e => carries (congrArg Lambda.chan e)

/-- An idle flit stands last on its wavelength, which it occupies (R103, R104). -/
theorem lamOf_putFlit_idle {f : MrFlit} (idle : f.type = 0) (src dst l : Nat) (s : State) :
    lamOf (putFlit src dst l f s) src l
      = { lamOf s src l with chan := (lamOf s src l).chan ++ [f], busyUntil := s.now + flitTicks } := by
  unfold putFlit lamOf
  simp only [idle, if_true, modMrc_mrc]
  exact tget_tupd_self _ _ (lambda_listed (by simp))

/-- A flit with a number also takes its place in the replay buffer (R104). -/
theorem lamOf_putFlit_data {f : MrFlit} (data : f.type ≠ 0) (src dst l : Nat) (s : State) :
    lamOf (putFlit src dst l f s) src l = { lamOf s src l with
      nextSeq := ((lamOf s src l).nextSeq + 1) % 4096
      unacked := (lamOf s src l).unacked ++ [f]
      chan := (lamOf s src l).chan ++ [f]
      busyUntil := s.now + flitTicks } := by
  unfold putFlit lamOf
  simp only [data, if_false, modMrc_mrc]
  exact tget_tupd_self _ _ (lambda_listed (by simp))

theorem putFlit_lamTurn (src dst l : Nat) (f : MrFlit) (s : State) :
    tget 0 (putFlit src dst l f s).mrc.lamTurn (pairKey src dst) = l + 1 :=
  tget_tset_self _ _ (Nat.succ_ne_zero l)

/-- The NAKs that a header takes with it leave every other part of a wavelength as it was. -/
theorem clearHeader_unacked {src dst src' l : Nat} {s : State} (credits : List (Nat × Nat)) (acks : List (Nat × Nat × Bool))
    (waits : (lamOf s src' l).unacked ≠ []) :
    (lamOf (clearHeader src dst credits acks s) src' l).unacked = (lamOf s src' l).unacked := by
  unfold clearHeader lamOf at *
  dsimp only
  generalize s.mrc.lambdas = t at waits ⊢
  induction acks generalizing t with
  | nil => rfl
  | cons a acks ih =>
    have step : (tget {} (tupd {} t (dst * 96 + a.1) (fun x => { x with nak := false })) (src' * 96 + l)).unacked
        = (tget {} t (src' * 96 + l)).unacked := by
      by_cases same : src' * 96 + l = dst * 96 + a.1
      · rw [same] at waits ⊢
        rw [tget_tupd_self t _ (fun e => waits (congrArg Lambda.unacked e))]
      · exact congrArg Lambda.unacked (tget_tset_listed t _ _ _ (fun e => waits (congrArg Lambda.unacked e)) same)
    rw [List.foldl_cons, ih _ (by rw [step]; exact waits), step]

/-! ### What a flit takes with it -/

theorem stampReq_cells (src : Nat) (m : MrMsg) (s : State) : (stampReq src m s).mem.cells = s.mem.cells := by
  unfold stampReq
  split
  · split
    · split
      · split
        · rfl
        · rfl
      · rfl
    · rfl
  · rfl

/-- A message that leaves its class queue changes no byte of memory. -/
theorem takeHead_cells (src dst cls : Nat) (s : State) : (takeHead src dst cls s).2.mem.cells = s.mem.cells := by
  have launched : ∀ m, (launch src cls m s).mem = s.mem := fun m => (launch_keep _ _ _ _).mem rfl
  have credited : ∀ m t, (takeCredits src dst cls m t).mem = t.mem := fun m t => (takeCredits_keep _ _ _ _ _).mem rfl
  unfold takeHead
  extract_lets -merge -underBinder +onlyGivenNames u
  have same : u.mem = s.mem := by
    simp only [u]
    split
    · split
      · rfl
      · exact launched _
    · rfl
  split
  · exact congrArg Mem.cells same
  · refine (stampReq_cells _ _ _).trans ((congrArg Mem.cells ?_).trans (congrArg Mem.cells same))
    dsimp only
    split
    · rfl
    · exact credited _ _

/-- SIG messages join what the flit holds (R109 step 1). -/
theorem fillSig_joins (src dst : Nat) : ∀ (fuel rem : Nat) (acc : List (Nat × MrMsg)) (s : State),
    acc <+: (fillSig src dst fuel rem acc s).2.1 ∧ (fillSig src dst fuel rem acc s).2.2.mem.cells = s.mem.cells
  | 0, _, _, _ => ⟨List.prefix_rfl, rfl⟩
  | fuel + 1, rem, acc, s => by
    have cells := takeHead_cells src dst cSIG s
    rw [fillSig]
    split
    · split
      · split
        next m t taken =>
          rw [taken] at cells
          obtain ⟨joins, kept⟩ := fillSig_joins src dst fuel (rem - m.slots) (acc ++ [(cSIG, m)]) t
          exact ⟨(List.prefix_append acc _).trans joins, kept.trans cells⟩
        next t taken =>
          rw [taken] at cells
          exact ⟨List.prefix_rfl, cells⟩
      · exact ⟨List.prefix_rfl, rfl⟩
    · exact ⟨List.prefix_rfl, rfl⟩

/-- The other classes join it in rotation (R109 step 2). -/
theorem fillRot_joins (src dst : Nat) : ∀ (fuel turn rem : Nat) (acc : List (Nat × MrMsg)) (s : State),
    acc <+: (fillRot src dst fuel turn rem acc s).2.1 ∧ (fillRot src dst fuel turn rem acc s).2.2.mem.cells = s.mem.cells
  | 0, _, _, _, _ => ⟨List.prefix_rfl, rfl⟩
  | fuel + 1, turn, rem, acc, s => by
    rw [fillRot]
    dsimp only
    split
    · exact ⟨List.prefix_rfl, rfl⟩
    next k _ =>
      have cells := takeHead_cells src dst (rotation.getD ((turn + k) % 6) 3) s
      split
      next m t taken =>
        rw [taken] at cells
        obtain ⟨joins, kept⟩ := fillRot_joins src dst fuel ((turn + k + 1) % 6) (rem - m.slots)
          (acc ++ [(rotation.getD ((turn + k) % 6) 3, m)]) t
        exact ⟨(List.prefix_append acc _).trans joins, kept.trans cells⟩
      next t taken =>
        rw [taken] at cells
        exact ⟨List.prefix_rfl, cells⟩

/-- The messages of a removed wavelength that the pair's next flit takes, and those that it leaves (R117). -/
def takesAgain (src dst : Nat) (s : State) : List (Nat × MrMsg) × List (Nat × MrMsg) :=
  fillResend 4 (tget [] s.mrc.resend (pairKey src dst))

/-- The flit with those and the SIG messages that may leave (R109 step 1): slots left, messages, and the state without them. -/
def fillFirst (src dst : Nat) (s : State) : Nat × List (Nat × MrMsg) × State :=
  fillSig src dst 4 (4 - ((takesAgain src dst s).1.map (fun m => m.2.slots)).sum) (takesAgain src dst s).1
    (modMrc (fun m => { m with resend := tset [] m.resend (pairKey src dst) (takesAgain src dst s).2 }) s)

/-- The whole flit, with what the rotation adds (R109 step 2): the rotation, its messages, and the state without them. -/
def fillFlit (src dst : Nat) (s : State) : Nat × List (Nat × MrMsg) × State :=
  let sig := fillFirst src dst s
  fillRot src dst 4 (tget 0 sig.2.2.mrc.turn (pairKey src dst)) sig.1 sig.2.1 sig.2.2

theorem fillFlit_joins (src dst : Nat) (s : State) :
    (takesAgain src dst s).1 <+: (fillFlit src dst s).2.1 ∧ (fillFlit src dst s).2.2.mem.cells = s.mem.cells := by
  obtain ⟨sig, sigCells⟩ : _ <+: (fillFirst src dst s).2.1 ∧ (fillFirst src dst s).2.2.mem.cells = s.mem.cells :=
    fillSig_joins src dst 4 _ (takesAgain src dst s).1 _
  obtain ⟨rot, rotCells⟩ := fillRot_joins src dst 4 (tget 0 (fillFirst src dst s).2.2.mrc.turn (pairKey src dst))
    (fillFirst src dst s).1 (fillFirst src dst s).2.1 (fillFirst src dst s).2.2
  exact ⟨sig.trans rot, rotCells.trans sigCells⟩

/-- Filling a flit moves messages of the millrace and stamps requests, nothing else. -/
theorem fillFlit_keep (src dst : Nat) (s : State) : Keep 24 s (fillFlit src dst s).2.2 := by
  have first : Keep 24 s (fillFirst src dst s).2.2 :=
    Keep.step (fillSig_keep _ _ _ _ _ _) rfl ((modMrc_keep _ s).mono rfl)
  exact first.trans (fillRot_keep _ _ _ _ _ _ _)

/-! ### Sending -/

/-- A pair's flit that may go: its wavelength is due and neither station is paused (R65, R103). -/
structure MayGo (s : State) (src dst l : Nat) : Prop where
  safe : s.flt.safe = false
  apart : src ≠ dst
  due : dueLambda s src dst = some l
  srcRuns : pausedNow s src = false
  dstRuns : pausedNow s dst = false

theorem MayGo.guard {s : State} {src dst l : Nat} (go : MayGo s src dst l) :
    (s.flt.safe || src == dst || dueLambda s src dst != some l || pausedNow s src || pausedNow s dst) = false := by
  simp [go.safe, go.apart, go.due, go.srcRuns, go.dstRuns]

/-- The idle flit of a pair: acknowledgements alone (R104). -/
def idleFlit (src dst : Nat) (s : State) : MrFlit := { type := 0, seq := none, msgs := [], acks := ackList s src dst }

def sendIdle (src dst l : Nat) (s : State) : State :=
  putFlit src dst l (idleFlit src dst s) (clearHeader src dst [] (ackList s src dst) s)

/-- The flit with a number that a wavelength sends with messages or credits (R104, R107). -/
def dataFlit (x : Lambda) (src dst : Nat) (msgs : List (Nat × MrMsg)) (s : State) : MrFlit :=
  { seq := some x.nextSeq, msgs := msgs, acks := ackList s src dst, credits := creditList s src dst }

/-- That flit on its wavelength, before it is counted. -/
def putData (x : Lambda) (src dst l : Nat) (msgs : List (Nat × MrMsg)) (s : State) : State :=
  putFlit src dst l (dataFlit x src dst msgs s) (clearHeader src dst (creditList s src dst) (ackList s src dst) s)

def sendData (x : Lambda) (src dst l turn : Nat) (msgs : List (Nat × MrMsg)) (s : State) : State :=
  portBytes msgs (countTx src ((msgs.map (fun m => m.2.bytes)).sum)
    (modMrc (fun m => { m with turn := tset 0 m.turn (pairKey src dst) turn }) (putData x src dst l msgs s)))

/-- With the replay buffer full only an idle flit goes (R104). -/
theorem millraceSend_full {src dst l : Nat} {s : State} (go : MayGo s src dst l) (full : 16 ≤ (lamOf s src l).unacked.length) :
    millraceSend src dst l s = sendIdle src dst l s := by
  unfold millraceSend
  dsimp only
  rw [if_neg (by rw [go.guard]; decide), if_pos full]
  rfl

/-- Else the flit is filled, and one that holds nothing goes idle (R104, R109). -/
theorem millraceSend_room {src dst l : Nat} {s : State} (go : MayGo s src dst l) (room : (lamOf s src l).unacked.length < 16) :
    millraceSend src dst l s =
      let r := fillFlit src dst s
      if r.2.1.isEmpty && (creditList r.2.2 src dst).isEmpty then sendIdle src dst l r.2.2
      else sendData (lamOf s src l) src dst l r.1 r.2.1 r.2.2 := by
  unfold millraceSend
  dsimp only
  rw [if_neg (by rw [go.guard]; decide), if_neg (by omega)]
  rfl

theorem sendIdle_keep (src dst l : Nat) (s : State) : Keep 8 s (sendIdle src dst l s) :=
  (clearHeader_keep _ _ _ _ _).trans (putFlit_keep _ _ _ _ _)

theorem sendIdle_lamOf (src dst l : Nat) (s : State) :
    lamOf (sendIdle src dst l s) src l = { lamOf (clearHeader src dst [] (ackList s src dst) s) src l with
      chan := (lamOf (clearHeader src dst [] (ackList s src dst) s) src l).chan ++ [idleFlit src dst s]
      busyUntil := s.now + flitTicks } :=
  lamOf_putFlit_idle rfl _ _ _ _

theorem putData_keep (x : Lambda) (src dst l : Nat) (msgs : List (Nat × MrMsg)) (s : State) : Keep 8 s (putData x src dst l msgs s) :=
  (clearHeader_keep _ _ _ _ _).trans (putFlit_keep _ _ _ _ _)

theorem sendData_keep (x : Lambda) (src dst l turn : Nat) (msgs : List (Nat × MrMsg)) (s : State) :
    Keep 8200 s (sendData x src dst l turn msgs s) :=
  Keep.step (portBytes_keep _ _) rfl (Keep.step (countTx_keep _ _ _) rfl (Keep.step (modMrc_keep _ _) rfl
    ((putData_keep x src dst l msgs s).mono rfl)))

/-- Counting a flit leaves it on its wavelength. -/
theorem sendData_lambdas (x : Lambda) (src dst l turn : Nat) (msgs : List (Nat × MrMsg)) (s : State) :
    (sendData x src dst l turn msgs s).mrc.lambdas = (putData x src dst l msgs s).mrc.lambdas
      ∧ (sendData x src dst l turn msgs s).mrc.lamTurn = (putData x src dst l msgs s).mrc.lamTurn := by
  unfold sendData
  rw [(portBytes_keep _ _).mrc rfl]
  exact ⟨rfl, rfl⟩

theorem sendData_lamOf (x : Lambda) (src dst l turn : Nat) (msgs : List (Nat × MrMsg)) (s : State) :
    ∃ y : Lambda, lamOf (sendData x src dst l turn msgs s) src l = { y with
      nextSeq := (y.nextSeq + 1) % 4096
      unacked := y.unacked ++ [dataFlit x src dst msgs s]
      chan := y.chan ++ [dataFlit x src dst msgs s]
      busyUntil := s.now + flitTicks } := by
  have numbered : (dataFlit x src dst msgs s).type ≠ 0 := show (1 : BitVec 4) ≠ 0 by decide
  refine ⟨_, Eq.trans (congrArg (fun t => tget ({} : Lambda) t (src * 96 + l)) (sendData_lambdas x src dst l turn msgs s).1)
    (lamOf_putFlit_data numbered src dst l (clearHeader src dst (creditList s src dst) (ackList s src dst) s))⟩

/-- What a wavelength's next flit does (R103, R104, R109, R117): it stands last on its wavelength and holds what goes again
first; with messages or credits it has the next number and waits for its acknowledgement. -/
theorem millraceSend_sends {src dst l : Nat} {s : State} (go : MayGo s src dst l) (room : (lamOf s src l).unacked.length < 16) :
    ∃ t f y, millraceSend src dst l s = t ∧ lamOf t src l = y ∧ y.chan.getLast? = some f
      ∧ y.busyUntil = s.now + flitTicks ∧ tget 0 t.mrc.lamTurn (pairKey src dst) = l + 1
      ∧ (takesAgain src dst s).1 <+: f.msgs
      ∧ (f.msgs = [] → f.credits = [] → f.seq = none)
      ∧ (f.msgs ≠ [] ∨ f.credits ≠ [] → f.seq = some (lamOf s src l).nextSeq ∧ y.unacked.getLast? = some f)
      ∧ t.mem.cells = s.mem.cells ∧ t.flt = s.flt := by
  obtain ⟨joins, cells⟩ := fillFlit_joins src dst s
  have kept := fillFlit_keep src dst s
  rw [millraceSend_room go room]
  dsimp only
  generalize fillFlit src dst s = r at joins cells kept ⊢
  split
  next nothing =>
    have sent := sendIdle_keep src dst l r.2.2
    simp only [Bool.and_eq_true, List.isEmpty_iff] at nothing
    refine ⟨_, idleFlit src dst r.2.2, _, rfl, sendIdle_lamOf src dst l r.2.2, List.getLast?_concat, ?_, putFlit_lamTurn _ _ _ _ _,
      ?_, fun _ _ => rfl, ?_, ?_, (sent.flt rfl).trans (kept.flt rfl)⟩
    · exact congrArg (· + flitTicks) (kept.now rfl)
    · rw [nothing.1] at joins
      exact joins
    · simp [idleFlit]
    · rw [sent.mem rfl, cells]
  next something =>
    have sent := sendData_keep (lamOf s src l) src dst l r.1 r.2.1 r.2.2
    obtain ⟨y, placed⟩ := sendData_lamOf (lamOf s src l) src dst l r.1 r.2.1 r.2.2
    refine ⟨_, dataFlit (lamOf s src l) src dst r.2.1 r.2.2, _, rfl, placed, List.getLast?_concat, ?_, ?_, joins, ?_,
      fun _ => ⟨rfl, List.getLast?_concat⟩, ?_, (sent.flt rfl).trans (kept.flt rfl)⟩
    · exact congrArg (· + flitTicks) (kept.now rfl)
    · rw [(sendData_lambdas _ _ _ _ _ _ _).2]
      exact putFlit_lamTurn _ _ _ _ _
    · intro noMsgs noCredits
      exact absurd (by rw [show r.2.1 = [] from noMsgs, show creditList r.2.2 src dst = [] from noCredits]; rfl) something
    · rw [sent.mem rfl, cells]

/-- With 16 flits not acknowledged an idle flit goes, which takes no message (R104). -/
theorem millraceSend_idles {src dst l : Nat} {s : State} (go : MayGo s src dst l) (full : 16 ≤ (lamOf s src l).unacked.length) :
    ∃ t f, millraceSend src dst l s = t ∧ (lamOf t src l).chan.getLast? = some f ∧ f.seq = none ∧ f.msgs = []
      ∧ f.acks = ackList s src dst ∧ (lamOf t src l).unacked = (lamOf s src l).unacked ∧ t.mrc.queues = s.mrc.queues := by
  have waits : (lamOf s src l).unacked ≠ [] := by
    intro none
    rw [none] at full
    exact absurd full (by decide)
  rw [millraceSend_full go full]
  refine ⟨_, idleFlit src dst s, rfl, ?_, rfl, rfl, rfl, ?_, rfl⟩
  · rw [sendIdle_lamOf]
    exact List.getLast?_concat
  · rw [sendIdle_lamOf]
    exact clearHeader_unacked _ _ waits

/-! ### Receiving -/

/-- A wavelength as its receiver finds it changed. -/
def setLambda (src l : Nat) (y : Lambda) (s : State) : State :=
  modMrc (fun m => { m with lambdas := tset {} m.lambdas (src * 96 + l) y }) s

/-- A wavelength that brings a flit in service (R104). -/
structure Brings (s : State) (src dst l : Nat) (f : MrFlit) (rest : List MrFlit) : Prop where
  safe : s.flt.safe = false
  carries : carries s src dst l = true
  front : (lamOf s src l).chan = f :: rest

/-- A flit that the code cannot correct is dropped and a NAK is due (R104); 16 in a millisecond keep the wavelength (R117). -/
theorem millraceReceive_bad {s : State} {src dst l : Nat} {f : MrFlit} {rest : List MrFlit} {v : Verdict}
    (brings : Brings s src dst l f rest) (bad : flitBad v = true)
    (few : ((lamOf s src l).uncorr.filter (fun t => decide (s.now < t + 1000000))).length < 16) :
    millraceReceive src dst l v s = setLambda src l { lamOf s src l with
      chan := rest
      uncorr := s.now :: ((lamOf s src l).uncorr.filter (fun t => decide (s.now < t + 1000000)))
      nak := true
      nakAt := some ((lamOf s src l).nakAt.getD s.now) } s := by
  have since : ((lamOf s src l).nakAt.orElse fun _ => some s.now) = some ((lamOf s src l).nakAt.getD s.now) := by
    cases (lamOf s src l).nakAt <;> rfl
  unfold millraceReceive
  dsimp only
  rw [brings.front]
  dsimp only
  rw [if_neg (by simp [brings.safe, brings.carries]), if_pos bad, if_neg (by simp only [List.length_cons]; omega), since]
  rfl

/-- A flit received already is dropped (R104). -/
theorem millraceReceive_old {s : State} {src dst l q : Nat} {f : MrFlit} {rest : List MrFlit}
    (brings : Brings s src dst l f rest) (number : f.seq = some q) (noAcks : f.acks = [])
    (other : q ≠ (lamOf s src l).expect) (behind : 2048 ≤ (q + 4096 - (lamOf s src l).expect) % 4096) :
    millraceReceive src dst l .clean s = setLambda src l { lamOf s src l with chan := rest } s := by
  have notAhead : decide ((q + 4096 - (lamOf s src l).expect) % 4096 < 2048) = false := decide_eq_false (by omega)
  unfold millraceReceive
  dsimp only
  rw [brings.front]
  dsimp only
  rw [if_neg (by simp [brings.safe, brings.carries]), if_neg (by decide), number]
  dsimp only
  rw [if_pos other, noAcks, notAhead, Bool.or_false]
  rfl

/-- The expected flit: the wavelength moves on, the flit is counted, and its messages arrive (R104, R107). -/
theorem millraceReceive_expected {s : State} {src dst l : Nat} {f : MrFlit} {rest : List MrFlit}
    (brings : Brings s src dst l f rest) (number : f.seq = some (lamOf s src l).expect) (noAcks : f.acks = [])
    (noCredits : f.credits = []) :
    millraceReceive src dst l .clean s = f.msgs.foldl (fun s m => arrive src dst m.1 m.2 s)
      (portBytes f.msgs (countRx dst ((f.msgs.map (fun m => m.2.bytes)).sum) (setLambda src l { lamOf s src l with
        chan := rest, expect := ((lamOf s src l).expect + 1) % 4096, nakAt := none } s))) := by
  unfold millraceReceive
  dsimp only
  rw [brings.front]
  dsimp only
  rw [if_neg (by simp [brings.safe, brings.carries]), if_neg (by decide), number]
  dsimp only
  rw [if_neg (not_not_intro rfl), noAcks, noCredits]
  rfl

/-- At a millstone's station nothing is delivered without a command. -/
theorem autoDeliver_millstone {dst n : Nat} (kind : kindOf dst = (.ws, n)) (src cls : Nat) (m : MrMsg) (s : State) :
    autoDeliver src dst cls m s = s := by
  unfold autoDeliver
  rw [kind]

theorem drainRx_millstone {dst n : Nat} (kind : kindOf dst = (.ws, n)) (src cls : Nat) : ∀ (fuel : Nat) (s : State),
    drainRx src dst cls fuel s = s
  | 0, _ => rfl
  | _ + 1, s => by
    have stays : (tget [] s.mrc.rx (pcKey src dst cls)).foldl (fun s m => autoDeliver src dst cls m s) s = s :=
      foldl_keeps (fun s => s) (fun s m => autoDeliver_millstone kind src cls m s) _ s
    rw [drainRx, stays, if_pos rfl]

/-- A message for a millstone that is no collective data waits in its receive buffer (R107). -/
theorem arrive_millstone {dst n : Nat} (kind : kindOf dst = (.ws, n)) {m : MrMsg} (plain : ∀ c h ls, m.pay ≠ .col c h ls)
    (src cls : Nat) (s : State) : arrive src dst cls m s = putRx src dst cls m s := by
  unfold arrive
  split
  next c h ls pay _ => exact absurd pay (plain c h ls)
  next =>
    rw [if_neg (by rw [kind]; simp), drainRx_millstone kind, autoDeliver_millstone kind]
    exact ite_self _

/-- A flit without payload counts no bytes to a tag (R370). -/
theorem portBytes_none (cls : Nat) {m : MrMsg} (none : m.bytes = 0) (s : State) : portBytes [(cls, m)] s = s := by
  unfold portBytes
  rw [List.foldl_cons, List.foldl_nil]
  exact if_pos none

/-! ### Losing a wavelength -/

/-- A last wavelength lost changes the pair's service and what is told of it, not what is to be sent (R118). -/
theorem lastLost_fields (src dst : Nat) (s : State) : (lastLost src dst s).mrc.lambdas = s.mrc.lambdas
    ∧ (lastLost src dst s).mrc.lambdaOutCount = s.mrc.lambdaOutCount ∧ (lastLost src dst s).mrc.resend = s.mrc.resend
    ∧ s.flt.net <+: (lastLost src dst s).flt.net := by
  unfold lastLost
  dsimp only
  split
  · exact ⟨rfl, rfl, rfl, List.prefix_rfl⟩
  · rw [raise_mild (by decide)]
    exact ⟨rfl, rfl, rfl, List.prefix_append _ _⟩

/-- A wavelength taken from its pair's stripe, with its message sent (R117). -/
def stripeLoses (src l d : Nat) (s : State) : State :=
  sendFault (mkMsg s .millraceLambdaOut 0 src (l * 16 + d * 2 ^ 11)) (resendFrom src d (lamOf s src l) (modMrc (fun m => { m with
    lambdas := tset {} m.lambdas (src * 96 + l) { out := true }, lambdaOutCount := m.lambdaOutCount + 1 }) s))

/-- A wavelength of a pair fails: it leaves the stripe, and the pair may have lost its last (R117, R118). -/
theorem lambdaOut_own {src l d : Nat} {s : State} (own : l < 95) (serves : (lamOf s src l).out = false) (leads : lambdaDest src l = some d) :
    lambdaOut src l s = if (lambdasIn (stripeLoses src l d s) src d).isEmpty && (spareOf (stripeLoses src l d s) src).dest != some d
      then lastLost src d (stripeLoses src l d s) else stripeLoses src l d s := by
  have notSpare : l ≠ 95 := by omega
  unfold lambdaOut
  dsimp only
  rw [if_neg (by rw [serves]; decide), if_neg notSpare, leads]
  dsimp only
  rw [raise_mild (by decide)]
  simp only [if_neg notSpare]
  rfl

/-- What a failed wavelength leaves (R117, log entry 94). -/
theorem lambdaOut_fields {src l d : Nat} {s : State} (own : l < 95) (serves : (lamOf s src l).out = false) (leads : lambdaDest src l = some d) :
    (lambdaOut src l s).mrc.lambdas = tset {} s.mrc.lambdas (src * 96 + l) { out := true }
    ∧ (lambdaOut src l s).mrc.lambdaOutCount = s.mrc.lambdaOutCount + 1
    ∧ (lambdaOut src l s).mrc.resend
      = tupd [] s.mrc.resend (pairKey src d) (· ++ ((notAccepted (lamOf s src l)).map (·.msgs)).flatten)
    ∧ s.flt.net ++ [mkMsg s .millraceLambdaOut 0 src (l * 16 + d * 2 ^ 11)] <+: (lambdaOut src l s).flt.net := by
  rw [lambdaOut_own own serves leads]
  split
  · exact lastLost_fields src d (stripeLoses src l d s)
  · exact ⟨rfl, rfl, rfl, List.prefix_rfl⟩

/-- Settles O7: each clause is one case of the function that the command calls. -/
theorem millraceFlitsGoAndArriveInOrder : Obligations.MillraceFlitsGoAndArriveInOrder := by
  unfold Obligations.MillraceFlitsGoAndArriveInOrder
  refine ⟨?_, ?_, ?_, ?_, ?_, ?_, ?_, ?_, ?_, ?_, ?_⟩
  · intro src dst l s safe apart due srcRuns dstRuns room
    obtain ⟨t, f, y, sends, fields⟩ := millraceSend_sends ⟨safe, apart, due, srcRuns, dstRuns⟩ room
    exact ⟨t, f, y, congrArg Host.Outcome.next sends, fields⟩
  · intro src dst l s safe apart due srcRuns dstRuns full
    obtain ⟨t, f, sends, fields⟩ := millraceSend_idles ⟨safe, apart, due, srcRuns, dstRuns⟩ full
    exact ⟨t, f, congrArg Host.Outcome.next sends, fields⟩
  · intro src dst l s notDue
    exact congrArg Host.Outcome.next (if_pos (by simp [notDue]))
  · intro src dst l w f rest s safe carries next few
    exact congrArg Host.Outcome.next (millraceReceive_bad ⟨safe, carries, next⟩ rfl few)
  · intro src dst l q f rest s safe carries next number noAcks other behind
    exact congrArg Host.Outcome.next (millraceReceive_old ⟨safe, carries, next⟩ number noAcks other behind)
  · intro src dst l n cls f m rest s safe carries next number noAcks noCredits one kind plain
    refine ⟨_, congrArg Host.Outcome.next (millraceReceive_expected ⟨safe, carries, next⟩ number noAcks noCredits), ?_⟩
    rw [one, List.foldl_cons, List.foldl_nil, arrive_millstone kind plain]
    have counted := portBytes_keep [(cls, m)] (countRx dst (([(cls, m)].map (fun m => m.2.bytes)).sum) (setLambda src l
      { lamOf s src l with chan := rest, expect := ((lamOf s src l).expect + 1) % 4096, nakAt := none } s))
    refine ⟨?_, ?_, ?_, counted.mem rfl, counted.flt rfl⟩
    · exact (congrArg Mrc.lambdas (counted.mrc rfl)).trans rfl
    · exact (congrArg (fun c : Mrc => tupd [] c.rx (pcKey src dst cls) (· ++ [m])) (counted.mrc rfl)).trans rfl
    · intro none
      rw [portBytes_none cls none]
      rfl
  · intro st cls m s t safe ready taken
    show Host.Outcome.next (selfDeliver st cls s) = _
    unfold selfDeliver
    rw [if_pos (by simp [ready, safe]), taken]
  · intro st l d s station own serves leads
    exact ⟨_, congrArg Host.Outcome.next (if_pos ⟨by omega, station⟩), lambdaOut_fields own serves leads⟩
  · intro src dst x s remaps
    show Host.Outcome.next (spareRemapDone src dst s) = _
    unfold spareRemapDone
    rw [remaps]
    exact congrArg Host.Outcome.next (if_pos (by simp))
  · intro p s right
    exact congrArg Host.Outcome.next (if_pos right)
  · intro p s right
    exact congrArg Host.Outcome.next (if_pos right)

end Sys2Proof.Machine
end


section
/-! SUPPORT. Memory requests and their answers (R108, R126 to R128, R141 to R145): what a die's request takes, what its answer frees,
and the sweep. -/

namespace Sys2Proof.Machine

open Sys2Proof

/-! ### A request on its way -/

/-- A pool line is never reached but over the millrace (R168). -/
theorem direct_pool {s : State} {off o : Nat} (zone : zoneOf s false off = .pool o) (who : Requester) : direct s who off = false := by
  unfold direct
  rw [zone]

/-- What a response slot holds of a request that is to leave over the millrace (R108, R143, R145). -/
def requestOut (r : IssueReq) (node : Word16) (dst k : Nat) (s : State) : Outst :=
  { req := r, gen := tget 0 s.mem.gens (slotKey (reqBuf r.who) k), sent := none, node := node, station := dst }

/-- That slot, taken. -/
def takeSlot (r : IssueReq) (node : Word16) (dst k : Nat) (s : State) : State :=
  modMem (fun m => { m with slots := tset none m.slots (slotKey (reqBuf r.who) k) (some (requestOut r node dst k s)) }) s

/-- With a response slot free a load takes it and goes to its home's station with the slot's generation (R108, R145). -/
theorem sendReq_load {r : IssueReq} {node : Word16} {dst k : Nat} {s : State} (load : r.op = .load)
    (reached : pairFenced s (reqStation r.who) dst = false) (free : freeSlot s (reqBuf r.who) = some k) :
    sendReq r node dst true none none s = sendMsg (reqStation r.who) dst cREQ
      { pay := .req { req := r, buf := reqBuf r.who, slot := k, gen := tget 0 s.mem.gens (slotKey (reqBuf r.who) k), node := s.ident.node }
        fence := r.fence, job := r.job } (takeSlot r node dst k s) := by
  have notStore : r.op ≠ .store := by rw [load]; decide
  unfold sendReq
  dsimp only
  rw [if_neg (by simp [reached]), free]
  dsimp only
  rw [if_neg notStore, if_neg notStore, Option.isNone_none, Bool.and_true, if_pos rfl, if_pos rfl]
  rfl

/-- A request for a pool line goes to its home where the home serves (R142, R148). -/
theorem issueLocal_pool {r : IssueReq} {node : Word16} {o : Nat} {s : State} (zone : zoneOf s false (addrOff r.addr) = .pool o)
    (serves : memFenced s (homeOf s o) = false) (sound : (msSt s (homeOf s o)).poisonHome = false) :
    issueLocal r node false none none s = sendReq r node (msOf (homeOf s o)) true none none s := by
  have home : homeStation s false (addrOff r.addr) = some (msOf (homeOf s o)) := by
    unfold homeStation
    rw [zone]
  unfold issueLocal
  dsimp only
  rw [zone, home, direct_pool zone]
  exact if_neg (by simp [serves, sound])

/-- A permitted, aligned load of the own node's memory that no claim redirects is a local request (R141, R156). -/
theorem issueMem_own_load {r : IssueReq} {s : State} (unit : r.who ≠ .engine) (load : r.op = .load) (job : reqJob s r = some r.job)
    (aligned : misaligned r = false) (own : addrNode r.addr = s.ident.node.toNat)
    (permitted : allowed s r.job (addrNode r.addr) (addrOff r.addr) false = true)
    (unclaimed : claimOf s (addrNode r.addr) (addrOff r.addr) = none) :
    issueMem r s = issueLocal r s.ident.node false none none s := by
  have reads : (r.op != .load) = false := by rw [load]; rfl
  have outer : (r.who == .engine) = false := beq_eq_false_iff_ne.mpr unit
  unfold issueMem
  simp only [job, Option.getD_some, reads, outer, aligned, permitted, unclaimed]
  simp [own]

/-- A misaligned request is a violation (R125, R141). -/
theorem issueMem_misaligned {r : IssueReq} (odd : misaligned r = true) (s : State) :
    issueMem r s = violate { r with job := (reqJob s r).getD 0 } s := by
  have still : misaligned { r with job := (reqJob s r).getD 0 } = true := odd
  unfold issueMem
  dsimp only
  rw [still]
  rfl

/-- A die's request that is no store is issued as it is presented, without a poison flag (R126, R256). -/
theorem execMemRequestIssue_site {r : IssueReq} {n m : Nat} {s : State} (safe : s.flt.safe = false) (who : r.who = .site n m)
    (up : siteUp s n = true) (inRange : m < 64) (noStore : r.op ≠ .store) :
    execMemRequestIssue r s = .next (issueMem { r with poison := false } s) := by
  unfold execMemRequestIssue
  rw [if_neg (by rw [safe]; decide), who]
  dsimp only
  rw [if_neg (by simp [up]; omega), if_neg noStore]

/-! ### What a die is told -/

/-- A slot toward a die changes its site alone. -/
theorem siteDeliver_tsi_only (n : Nat) (origin : Option Nat) (x : Slot) (s : State) :
    siteDeliver n origin x s = { s with tsi := (siteDeliver n origin x s).tsi } := by
  unfold siteDeliver hopperOffer
  split
  · rfl
  · split
    · rfl
    · rfl

/-- A choice of hopper depends on the sites alone. -/
theorem pickModule_congr {s u : State} (site : siteOf u = siteOf s) : pickModule u = pickModule s := by
  have link : linkOf u = linkOf s := by
    funext n k
    rw [linkOf, linkOf, site]
  have up : modUp u = modUp s := by
    funext n m
    rw [modUp, modUp, modOf, modOf, site]
  have takes : modTakes u = modTakes s := by
    funext n m
    rw [modTakes, modTakes, up, modOf, modOf, site]
  funext n origin
  unfold pickModule shortest upModules
  rw [link, up, takes]

theorem hopperPut_tsi_congr {s u : State} (sites : u.tsi = s.tsi) (n k : Nat) (e : HopEntry) :
    (hopperPut n k e u).tsi = (hopperPut n k e s).tsi := by
  simp only [hopperPut, modCount, modLink, modSite_tsi, linkOf, siteOf, sites]

/-- What a die is told depends on the sites alone. -/
theorem siteDeliver_tsi_congr {s u : State} (sites : u.tsi = s.tsi) (n : Nat) (origin : Option Nat) (x : Slot) :
    (siteDeliver n origin x u).tsi = (siteDeliver n origin x s).tsi := by
  have site : siteOf u = siteOf s := by
    funext n
    rw [siteOf, siteOf, sites]
  unfold siteDeliver hopperOffer
  rw [pickModule_congr site]
  cases pickModule s n origin with
  | none => exact sites
  | some k =>
    have link : linkOf u n k = linkOf s n k := by rw [linkOf, linkOf, site]
    dsimp only
    rw [link]
    by_cases room : (linkOf s n k).hopper.length < 96
    · rw [if_pos room, if_pos room]
      exact hopperPut_tsi_congr sites n k _
    · rw [if_neg room, if_neg room]
      simp only [modSite_tsi, sites]

/-- The slot that answers a die's load (R128, R256). -/
def loadSlot (n : Nat) (r : IssueReq) (a : MemRsp) (s : State) : Slot :=
  { cls := 3, op := 0, tag := r.tag, data := a.data, poison := a.poison && sitePoison s n }

theorem deliver_site_load {r : IssueReq} {n k : Nat} (who : r.who = .site n k) (load : r.op = .load) (a : MemRsp) (s : State) :
    deliver r a s = siteDeliver n (some k) (loadSlot n r a s) s := by
  unfold deliver
  rw [who]
  exact if_pos load

theorem deliver_site_ack {r : IssueReq} {n k : Nat} (who : r.who = .site n k) (noLoad : r.op ≠ .load) (a : MemRsp) (s : State) :
    deliver r a s = siteDeliver n (some k) (ackSlot r.tag a.result a.status.toNat) s := by
  unfold deliver
  rw [who]
  exact if_neg noLoad

/-- An answer to a die changes its site alone. -/
theorem deliver_site_tsi_only {r : IssueReq} {n k : Nat} (who : r.who = .site n k) (a : MemRsp) (s : State) :
    deliver r a s = { s with tsi := (deliver r a s).tsi } := by
  by_cases load : r.op = .load
  · rw [deliver_site_load who load]
    exact siteDeliver_tsi_only _ _ _ _
  · rw [deliver_site_ack who load]
    exact siteDeliver_tsi_only _ _ _ _

/-- A die's violation is counted and answered at once (R141). -/
theorem violate_site {r : IssueReq} {n k : Nat} (who : r.who = .site n k) (s : State) : ∃ sites,
    violate r s = { s with mem := { s.mem with violations := sat32 s.mem.violations 1 }, tsi := sites } :=
  ⟨_, deliver_site_tsi_only who _ _⟩

/-! ### An answer and its slot -/

/-- With nothing that waits for the buffer a free slot stays free (R108). -/
theorem retryHeld_none {b : Nat} {s : State} (noMem : s.mem.held.find? (fun r => reqBuf r.req.who == b) = none)
    (noMgt : s.mem.mgtHeld.find? (fun r => ssOf r.1 == b) = none) : retryHeld b s = s := by
  unfold retryHeld
  dsimp only
  rw [noMgt]
  dsimp only
  rw [noMem, ite_self]

/-- A response slot freed, its generation advanced (R145). -/
def freedSlot (b k : Nat) (s : State) : State :=
  modMem (fun m => { m with slots := tset none m.slots (slotKey b k) none, gens := tupd 0 m.gens (slotKey b k) (· + 1) }) s

theorem releaseSlot_none {b k : Nat} {s : State} (noMem : s.mem.held.find? (fun r => reqBuf r.req.who == b) = none)
    (noMgt : s.mem.mgtHeld.find? (fun r => ssOf r.1 == b) = none) : releaseSlot b k s = freedSlot b k s :=
  retryHeld_none (s := freedSlot b k s) noMem noMgt

/-- A current answer without a failure is handed over and its slot released (R128, R145). -/
theorem complete_current {a : MemRsp} {o : Outst} {s : State} (waits : outst s a.buf a.slot = some o) (current : o.gen = a.gen)
    (done : a.status = 0) (sound : o.node = s.ident.node ∨ a.poison = false) :
    complete a s = releaseSlot a.buf a.slot (deliver o.req a s) := by
  have notFailed : ¬ (a.status ≠ 0 ∨ ((o.node != s.ident.node) = true ∧ a.poison = true)) := by
    rcases sound with home | clean
    · simp [done, home]
    · simp [done, clean]
  unfold complete
  rw [waits]
  dsimp only
  rw [if_neg (not_not_intro current), if_neg notFailed]

/-- An answer whose generation is not current is counted and no more (R145). -/
theorem complete_stale {a : MemRsp} {o : Outst} {s : State} (waits : outst s a.buf a.slot = some o) (stale : o.gen ≠ a.gen) :
    complete a s = modMem (fun m => { m with lateRsp := sat32 m.lateRsp 1 }) s := by
  unfold complete
  rw [waits]
  exact if_pos stale

theorem rspArrive_found {isLoad : Bool} {a : MemRsp} {src : Nat} {m : MrMsg} {s : State} (safe : s.flt.safe = false)
    (found : findRx s (bufStation a.buf) cRSP (fun p => p == (if isLoad then .loadData a else .ack a)) = some (src, m)) :
    rspArrive isLoad a s = complete a (takeRx (bufStation a.buf) cRSP src m s) := by
  unfold rspArrive
  dsimp only
  rw [found]
  exact if_neg (by rw [safe]; decide)

/-- A die's current answer: its slot is free with the next generation, the die has it, and the receive buffer is without it
(R107, R128, R145). -/
theorem rspArrive_site {isLoad : Bool} {a : MemRsp} {src n k : Nat} {m : MrMsg} {o : Outst} {s : State} (safe : s.flt.safe = false)
    (found : findRx s (bufStation a.buf) cRSP (fun p => p == (if isLoad then .loadData a else .ack a)) = some (src, m))
    (waits : outst s a.buf a.slot = some o) (current : o.gen = a.gen) (who : o.req.who = .site n k) (done : a.status = 0)
    (sound : o.node = s.ident.node ∨ a.poison = false) (noMem : s.mem.held.find? (fun r => reqBuf r.req.who == a.buf) = none)
    (noMgt : s.mem.mgtHeld.find? (fun r => ssOf r.1 == a.buf) = none) :
    (rspArrive isLoad a s).mem = (freedSlot a.buf a.slot s).mem
      ∧ (rspArrive isLoad a s).tsi = (deliver o.req a (takeRx (bufStation a.buf) cRSP src m s)).tsi
      ∧ (rspArrive isLoad a s).mrc = (takeRx (bufStation a.buf) cRSP src m s).mrc ∧ (rspArrive isLoad a s).flt = s.flt := by
  have taken := takeRx_keep (bufStation a.buf) cRSP src m s
  rw [rspArrive_found safe found]
  generalize takeRx (bufStation a.buf) cRSP src m s = u at taken ⊢
  have mem := taken.mem rfl
  have told := deliver_site_tsi_only who a u
  have toldMem : (deliver o.req a u).mem = s.mem := (congrArg State.mem told).trans mem
  rw [complete_current (by rw [outst, mem]; exact waits) current done (by rw [taken.ident rfl]; exact sound),
    releaseSlot_none (by rw [toldMem]; exact noMem) (by rw [toldMem]; exact noMgt)]
  simp only [freedSlot, modMem_mem, modMem_tsi, modMem_mrc, modMem_flt, toldMem, true_and]
  exact ⟨(congrArg State.mrc told).trans rfl, (congrArg State.flt told).trans (taken.flt rfl)⟩

/-! ### The sweep -/

/-- A response slot whose request left its station longer ago than the limit (R143). -/
def overdue (s : State) (p : Nat × Option Outst) : Option Nat :=
  match p.2 with
  | some o => (match o.sent with
      | some t => if t + s.mem.timeoutUs * 1000 ≤ s.now then some p.1 else none
      | none => none)
  | none => none

/-- The sweep at its time: the next is due at the next microsecond, and what is overdue fails (R143). -/
theorem sweep_due {s : State} (due : s.mem.nextSweep ≤ s.now) : sweep s = (s.mem.slots.filterMap (overdue s)).foldl
    (fun s k => expire (k / 8192) (k % 8192) s) (modMem (fun m => { m with nextSweep := (s.now / 1000 + 1) * 1000 }) s) := by
  unfold sweep
  rw [if_neg (Nat.not_lt.mpr due)]
  rfl

theorem overdue_sent {s : State} {p : Nat × Option Outst} {o : Outst} {x : Tick} (waits : p.2 = some o) (left : o.sent = some x) :
    overdue s p = if x + s.mem.timeoutUs * 1000 ≤ s.now then some p.1 else none := by
  unfold overdue
  rw [waits]
  dsimp only
  rw [left]

theorem overdue_none {s : State} {p : Nat × Option Outst}
    (fresh : ∀ o x, p.2 = some o → o.sent = some x → s.now < x + s.mem.timeoutUs * 1000) : overdue s p = none := by
  cases waits : p.2 with
  | none => rw [overdue, waits]
  | some o =>
    cases left : o.sent with
    | none =>
      rw [overdue, waits]
      dsimp only
      rw [left]
    | some x =>
      rw [overdue_sent waits left, if_neg (Nat.not_le.mpr (fresh o x waits left))]

/-- Settles O8: each clause is one case of the function that the command calls. -/
theorem requestsLeaveAndAnswersReturn : Obligations.RequestsLeaveAndAnswersReturn := by
  unfold Obligations.RequestsLeaveAndAnswersReturn
  refine ⟨?_, ?_, ?_, ?_, ?_, ?_, ?_, ?_, ?_⟩
  · intro n m j o k r s safe who load clean up inRange aligned running job own permitted unclaimed zone serves sound reached free
    subst job
    have asPresented : { r with poison := false } = r := by rw [← clean]
    have unit : r.who ≠ .engine := by rw [who]; exact Requester.noConfusion
    have owner : reqJob s r = some r.job := by rw [reqJob, who]; exact running
    have station : reqStation r.who = ssOf n := by rw [who]; rfl
    have buffer : reqBuf r.who = ssOf n := by rw [who]; rfl
    rw [← station] at reached
    rw [← buffer] at free
    have goes := (issueMem_own_load unit load owner aligned own permitted unclaimed).trans
      ((issueLocal_pool zone serves sound).trans (sendReq_load load reached free))
    have issued := execMemRequestIssue_site safe who up inRange (by rw [load]; decide)
    rw [asPresented, goes] at issued
    refine ⟨_, issued, ?_, ?_⟩
    · rw [(sendMsg_keep _ _ _ _ _).mem rfl, ← buffer]
      rfl
    · rw [(sendMsg_keep _ _ _ _ _).mem rfl, station, buffer]
      rfl
  · intro n m r s safe who store up inRange
    show execMemRequestIssue r s = _
    unfold execMemRequestIssue
    rw [if_neg (by rw [safe]; decide), who]
    dsimp only
    rw [if_neg (by simp [up]; omega), if_pos store]
    rfl
  · intro n m tag data poison r s safe waits
    show execStoreData n m tag data poison s = _
    unfold execStoreData storeData
    rw [if_neg (by rw [safe]; decide), waits]
    rfl
  · intro n m r s safe who noStore up inRange odd
    show ∃ t, execMemRequestIssue r s = _ ∧ _
    rw [execMemRequestIssue_site safe who up inRange noStore, issueMem_misaligned (r := { r with poison := false }) odd]
    obtain ⟨sites, refused⟩ := violate_site (r := { r with poison := false, job := _ }) who s
    rw [refused]
    exact ⟨_, rfl, rfl, rfl⟩
  · intro a src n k m o s safe found waits current who load done home noMem noMgt
    obtain ⟨mem, tsi, mrc, flt⟩ := rspArrive_site (isLoad := true) safe found waits current who done (.inl home) noMem noMgt
    have sites := (takeRx_keep (bufStation a.buf) cRSP src m s).tsi rfl
    have flows := gripFlow_keep (rspArrive true a s)
    refine ⟨_, rfl, (flows.mem rfl).trans mem, (flows.tsi rfl).trans (tsi.trans ?_), (flows.mrc rfl).trans mrc, (flows.flt rfl).trans flt⟩
    rw [deliver_site_load who load, siteDeliver_tsi_congr sites, loadSlot, sitePoison, siteFeatures, agreedWord, siteOf, sites]
    rfl
  · intro a src n k m o s safe found waits current who noLoad done clean noMem noMgt
    obtain ⟨mem, tsi, mrc, flt⟩ := rspArrive_site (isLoad := false) safe found waits current who done (.inr clean) noMem noMgt
    have sites := (takeRx_keep (bufStation a.buf) cRSP src m s).tsi rfl
    refine ⟨_, rfl, mem, tsi.trans ?_, mrc, flt⟩
    rw [deliver_site_ack who noLoad, siteDeliver_tsi_congr sites, done]
    rfl
  · intro a src m o s safe found waits stale
    have taken := takeRx_keep (bufStation a.buf) cRSP src m s
    have late := (rspArrive_found (isLoad := false) safe found).trans
      (complete_stale (by rw [outst, taken.mem rfl]; exact waits) stale)
    refine ⟨_, congrArg Host.Outcome.next late, ?_, taken.tsi rfl, rfl⟩
    rw [modMem_mem, taken.mem rfl]
  · intro s due fresh
    show Host.Outcome.next (sweep s) = _
    rw [sweep_due due, List.filterMap_eq_nil_iff.mpr (fun p mem => overdue_none (fresh p mem))]
    rfl
  · intro b k x o s due one small left late
    have key : slotKey b k / 8192 = b ∧ slotKey b k % 8192 = k := by
      unfold slotKey
      omega
    show Host.Outcome.next (sweep s) = _
    rw [sweep_due due, one, List.filterMap_cons, overdue_sent rfl left, if_pos late, List.filterMap_nil, List.foldl_cons, List.foldl_nil,
      key.1, key.2]
    rfl

end Sys2Proof.Machine
end


section
/-! SUPPORT. Flits of a site (R253, R264 to R266): the expected flit, and a link table out of its canonical form. -/

namespace Sys2Proof.Machine

open Sys2Proof

/-! ### A site in service keeps what is written to it -/

/-- A site that is in some state is listed, so that it reads back what was written. -/
theorem siteOf_modSite {n : Nat} {f : SiteSt → SiteSt} {s : State} (listed : (f (siteOf s n)).st ≠ 0) :
    siteOf (modSite n f s) n = f (siteOf s n) :=
  tget_tupd_self _ _ (fun e => listed (congrArg SiteSt.st e))

/-- From s to t only what site n holds has changed, and its state has not. -/
structure SiteHolds (n : Nat) (s t : State) : Prop where
  rest : t = { s with tsi := t.tsi }
  st : (siteOf t n).st = (siteOf s n).st

theorem SiteHolds.trans {n : Nat} {s t u : State} (a : SiteHolds n s t) (b : SiteHolds n t u) : SiteHolds n s u where
  rest := by rw [b.rest, a.rest]
  st := b.st.trans a.st

theorem SiteHolds.listed {n : Nat} {s t : State} (h : SiteHolds n s t) (listed : (siteOf s n).st ≠ 0) : (siteOf t n).st ≠ 0 := by
  rw [h.st]
  exact listed

theorem modSite_holds {n : Nat} {f : SiteSt → SiteSt} {s : State} (listed : (siteOf s n).st ≠ 0)
    (st : (f (siteOf s n)).st = (siteOf s n).st) : SiteHolds n s (modSite n f s) :=
  ⟨rfl, by rw [siteOf_modSite (by rw [st]; exact listed), st]⟩

theorem modLink_holds {n : Nat} {s : State} (listed : (siteOf s n).st ≠ 0) (k : Nat) (f : SiteLink → SiteLink) :
    SiteHolds n s (modLink n k f s) := modSite_holds listed rfl

theorem modCount_holds {n : Nat} {s : State} (listed : (siteOf s n).st ≠ 0) (f : SiteCount → SiteCount) :
    SiteHolds n s (modCount n f s) := modSite_holds listed rfl

theorem linkOf_modLink {n k : Nat} {f : SiteLink → SiteLink} {s : State} (listed : (siteOf s n).st ≠ 0) (kept : f (linkOf s n k) ≠ {}) :
    linkOf (modLink n k f s) n k = f (linkOf s n k) := by
  rw [linkOf, modLink, siteOf_modSite listed]
  exact tget_tupd_self _ _ kept

theorem linkOf_modCount {n : Nat} {s : State} (listed : (siteOf s n).st ≠ 0) (k : Nat) (f : SiteCount → SiteCount) :
    linkOf (modCount n f s) n k = linkOf s n k := by
  rw [linkOf, linkOf, modCount, siteOf_modSite listed]

/-- Flits cross only at a site in service (R254). -/
theorem flitsCross_serves {s : State} {n : Nat} (crosses : flitsCross s n = true) : (siteOf s n).st = 3 := by
  unfold flitsCross at crosses
  simp only [Bool.and_eq_true, beq_iff_eq] at crosses
  exact crosses.1.2

/-- Flits go on crossing while only what the site holds changes. -/
theorem SiteHolds.crosses {n : Nat} {s t : State} (h : SiteHolds n s t) : flitsCross t n = flitsCross s n := by
  unfold flitsCross siteLinkUp
  rw [h.st, h.rest]
  rfl

/-! ### The expected flit -/

/-- What the expected flit does to its module's link (R264, R265). -/
def linkMoves (f : Flit) (l : SiteLink) : SiteLink :=
  { l with
    expect := (l.expect + 1) % 4096
    nakAt := none
    nak := false
    used := (List.range 7).foldl (fun t c => tupd 0 t c (· - f.cred.getD c 0)) l.used }

/-- The expected flit, without slots, in the inbound hopper of its module. -/
def flitTaken (n k : Nat) (f : Flit) (s : State) : State :=
  inboundPut n k { f with slots := [] } (modCount n (fun c => { c with corr := c.corr }) (modLink n k (linkMoves f) s))

theorem siteFlit_inOrder {n k : Nat} {f : Flit} {s u : State} (crosses : flitsCross s n = true) (inRange : k < 32)
    (up : modUp s n k = true) (data : f.type = 1) (noNak : f.nak = false)
    (took : takeAck n k f.ack false (laneErrors n k [] s) = u) (inOrder : f.seq.toNat = (linkOf u n k).expect)
    (noSlots : f.slots.filterMap id = []) :
    siteFlit n k f [] s = if flitsCross (flitTaken n k f u) n then handModule n k (flitTaken n k f u) else flitTaken n k f u := by
  have decoded : flitDecoded f [] = f := if_pos (by decide)
  have clean : flitCorrected [] = [] := by decide
  have correct : flitUncorrectable [] = false := by decide
  have notIdle : f.type ≠ 0 := by rw [data]; decide
  have notStream : f.type ≠ 3 := by rw [data]; decide
  rw [← noNak] at took
  unfold siteFlit
  dsimp only
  rw [decoded, clean, correct, if_neg (by simp [crosses, up]; omega), if_neg (by simp [data]), took, if_neg notIdle,
    if_neg (not_not_intro inOrder), if_neg notStream, noSlots]
  rfl

/-- A flit joins the inbound hopper of its module (R67). -/
theorem inboundPut_fields {n k : Nat} {s : State} (listed : (siteOf s n).st ≠ 0) (f : Flit) : SiteHolds n s (inboundPut n k f s)
    ∧ linkOf (inboundPut n k f s) n k = { linkOf s n k with inbound := (linkOf s n k).inbound ++ [f] } := by
  have put := modLink_holds listed k (fun l => { l with inbound := l.inbound ++ [f] })
  have putListed := put.listed listed
  unfold inboundPut
  dsimp only
  refine ⟨put.trans (modCount_holds putListed _), (linkOf_modCount putListed k _).trans (linkOf_modLink listed (fun e => ?_))⟩
  exact absurd (congrArg SiteLink.inbound e) (by simp)

/-- With the flit taken the sequence has moved on and the inbound hopper holds it (R67, R264). -/
theorem flitTaken_fields {n k : Nat} {f : Flit} {s : State} (listed : (siteOf s n).st ≠ 0) (moves : linkMoves f (linkOf s n k) ≠ {}) :
    SiteHolds n s (flitTaken n k f s) ∧ linkOf (flitTaken n k f s) n k
      = { linkMoves f (linkOf s n k) with inbound := (linkOf s n k).inbound ++ [{ f with slots := [] }] } := by
  have moved := modLink_holds listed k (linkMoves f)
  have counted := moved.trans (modCount_holds (moved.listed listed) (fun c => { c with corr := c.corr }))
  obtain ⟨put, link⟩ := inboundPut_fields (k := k) (counted.listed listed) { f with slots := [] }
  rw [linkOf_modCount (moved.listed listed), linkOf_modLink listed moves] at link
  exact ⟨counted.trans put, link⟩

/-- A data flit without slots leaves the inbound hopper, and that is all (R111). -/
theorem handOn_empty {n k : Nat} {f : Flit} (data : f.type = 1) (noSlots : f.slots = []) (s : State) :
    handOn n k f s = modLink n k (fun l => { l with inbound := l.inbound.erase f }) s := by
  have notStream : f.type ≠ 3 := by rw [data]; decide
  unfold handOn
  dsimp only
  rw [if_neg notStream, noSlots]
  simp only [if_neg notStream]
  rfl

/-- The clause of O18 on the expected flit holds where the link that the acknowledgement leaves has an empty inbound hopper, as it
has in a table that lists each module once. -/
theorem siteFlit_expected {n k : Nat} {f : Flit} {s u : State} (crosses : flitsCross s n = true) (inRange : k < 32)
    (up : modUp s n k = true) (data : f.type = 1) (noNak : f.nak = false)
    (took : takeAck n k f.ack false (laneErrors n k [] s) = u) (inOrder : f.seq.toNat = (linkOf u n k).expect)
    (noWrap : (linkOf u n k).expect < 4095) (noSlots : f.slots.filterMap id = []) (empty : (linkOf u n k).inbound = []) :
    linkOf (siteFlit n k f [] s) n k = linkMoves f (linkOf u n k)
      ∧ siteFlit n k f [] s = { s with tsi := (siteFlit n k f [] s).tsi } := by
  have listed : (siteOf s n).st ≠ 0 := by rw [flitsCross_serves crosses]; decide
  have noted : SiteHolds n s (laneErrors n k [] s) := modSite_holds listed rfl
  have acked : SiteHolds n s u := by
    rw [← took]
    exact noted.trans (modLink_holds (noted.listed listed) _ _)
  have moves : linkMoves f (linkOf u n k) ≠ {} := fun e => by
    have reset := congrArg SiteLink.expect e
    simp only [linkMoves] at reset
    omega
  obtain ⟨taken, link⟩ := flitTaken_fields (acked.listed listed) moves
  have holds := acked.trans taken
  have tListed := holds.listed listed
  rw [empty, List.nil_append] at link
  rw [siteFlit_inOrder crosses inRange up data noNak took inOrder noSlots, holds.crosses, if_pos crosses, handModule, link,
    List.foldl_cons, List.foldl_nil, handOn_empty (f := { f with slots := [] }) data rfl]
  have handed : { linkMoves f (linkOf u n k) with inbound := [{ f with slots := [] }].erase { f with slots := [] } }
      = linkMoves f (linkOf u n k) := by
    rw [List.erase_cons_head, ← empty]
    rfl
  refine ⟨?_, (holds.trans (modLink_holds tListed _ _)).rest⟩
  rw [linkOf_modLink tListed, link]
  · exact handed
  · rw [link]
    exact fun e => moves (handed.symm.trans e)

/-! ### A table that lists a module twice -/

/-- Site 0 in service with D2B module 0 full, and a link table out of its canonical form, which lists that module twice: first a
link whose one held flit waits for its acknowledgement, behind it one with a flit in its inbound hopper. -/
def twiceListed : State := { State.reset with tsi := [(0, {
  st := 3
  mods := [(0, { st := 1 })]
  links := [(0, { held := [{}] }), (0, { expect := 1, inbound := [{}] })] })] }

/-- Once its held flit is acknowledged the first entry is as at reset and leaves the table, and the second one shows. -/
theorem twiceListed_acked :
    linkOf (takeAck 0 0 0 false (laneErrors 0 0 [] twiceListed)) 0 0 = { expect := 1, inbound := [{}] } := by
  decide +kernel

/-- The flit that this link expects is handed on, and with it what stood in the inbound hopper. -/
theorem twiceListed_handed : (linkOf (siteFlit 0 0 { seq := 1 } [] twiceListed) 0 0).inbound = [] := by
  decide +kernel

/-- Refutes O18, at its clause on the expected flit: that the inbound hopper is empty is asked of the link before the acknowledgement
is taken, and the link after it may be another one where a table lists a module twice (`siteFlit_expected` asks it of that
one). The clause then keeps an inbound hopper that the command has handed on. -/
theorem not_siteFlitsArriveAndLeave : ¬ Obligations.SiteFlitsArriveAndLeave := by
  unfold Obligations.SiteFlitsArriveAndLeave
  rintro ⟨-, -, expected, -⟩
  obtain ⟨t, run, link, -⟩ := expected 0 0 { seq := 1 } twiceListed _ (by decide) (by decide) (by decide) rfl rfl rfl
    (by rw [twiceListed_acked]; rfl) (by rw [twiceListed_acked]; decide) rfl rfl
  have same : siteFlit 0 0 { seq := 1 } [] twiceListed = t := Host.Outcome.next.inj run
  have kept : (linkOf t 0 0).inbound = [{}] := by rw [link, twiceListed_acked]
  rw [← same, twiceListed_handed] at kept
  cases kept

end Sys2Proof.Machine
end


section
/-! SUPPORT. What the cells of memory read after a write (R129, R130): a byte, a masked line, a word, a cleared range, and why
equal memories are equal lists. -/

namespace Sys2Proof.Machine

open Sys2Proof

/-! ### One byte -/

theorem cellsFrom_cons {lo k : Nat} {v : Byte} {t : List Host.Cell} :
    cellsFrom lo ((k, v) :: t) = true ↔ (lo ≤ k ∧ v ≠ memDefault) ∧ cellsFrom (k + 1) t = true := by
  simp only [cellsFrom, Bool.and_eq_true, decide_eq_true_eq]

/-- Below the least listed address memory reads as unlisted. -/
theorem cellGet_below {c : List Host.Cell} {lo x : Nat} (w : cellsFrom lo c = true) (below : x < lo) : cellGet c x = memDefault := by
  cases c with
  | nil => rfl
  | cons e t =>
    obtain ⟨⟨least, -⟩, -⟩ := cellsFrom_cons.mp w
    rw [cellGet, if_neg (by omega), if_pos (by omega)]

theorem cellGet_cellSet_from {c : List Host.Cell} {lo : Nat} (w : cellsFrom lo c = true) (a x : Nat) (b : Byte) :
    cellGet (cellSet c a b) x = if x = a then b else cellGet c x := by
  induction c generalizing lo with
  | nil => by_cases unlisted : b = memDefault <;> simp [cellSet, cellGet, unlisted]
  | cons e t ih =>
    obtain ⟨k, v⟩ := e
    obtain ⟨-, rest⟩ := cellsFrom_cons.mp w
    have low : x < k + 1 → cellGet t x = memDefault := cellGet_below rest
    rcases Nat.lt_trichotomy a k with before | same | after
    · grind [cellSet, cellGet]
    · grind [cellSet, cellGet]
    · rw [cellSet, if_neg (by omega), if_neg (by omega), cellGet, cellGet, ih rest]
      grind

theorem cellGet_cellSet {c : List Host.Cell} (w : Memory.wf c = true) (a x : Nat) (b : Byte) :
    cellGet (cellSet c a b) x = if x = a then b else cellGet c x :=
  cellGet_cellSet_from w a x b

/-! ### Lines and words -/

theorem cellGet_lineSetN {c : List Host.Cell} (w : Memory.wf c = true) (a x : Nat) (m : Word64) (l : Line) (n : Nat) :
    cellGet (lineSetN a m l n c) x = if a ≤ x ∧ x < a + n ∧ m.getLsbD (x - a) = true then lineByte l (x - a) else cellGet c x := by
  induction n generalizing c with
  | zero => rw [lineSetN, if_neg (by omega)]
  | succ n ih =>
    have offset : x = a + n → x - a = n := by omega
    rw [lineSetN]
    by_cases last : m.getLsbD n = true
    · rw [if_pos last, ih (cellSet_wf _ _ _ w), cellGet_cellSet w]
      grind
    · rw [if_neg last, ih w]
      grind

theorem cellGet_wordSetN {c : List Host.Cell} (w : Memory.wf c = true) (a x : Nat) (v : Word64) (n : Nat) :
    cellGet (wordSetN a v n c) x = if a ≤ x ∧ x < a + n then v.extractLsb' (8 * (x - a)) 8 else cellGet c x := by
  induction n generalizing c with
  | zero => rw [wordSetN, if_neg (by omega)]
  | succ n ih =>
    have offset : x = a + n → x - a = n := by omega
    rw [wordSetN, ih (cellSet_wf _ _ _ w), cellGet_cellSet w]
    grind

/-! ### A range -/

/-- What is left of memory where the cells at some addresses are removed. -/
theorem cellGet_filter (keep : Nat → Bool) {c : List Host.Cell} {lo : Nat} (w : cellsFrom lo c = true) (x : Nat) :
    cellGet (c.filter (fun e => keep e.1)) x = if keep x = true then cellGet c x else memDefault := by
  induction c generalizing lo with
  | nil => simp [cellGet]
  | cons e t ih =>
    obtain ⟨k, v⟩ := e
    obtain ⟨-, rest⟩ := cellsFrom_cons.mp w
    have low : x < k + 1 → cellGet t x = memDefault := cellGet_below rest
    by_cases kept : keep k = true
    · rw [List.filter_cons, if_pos kept, cellGet, cellGet, ih rest]
      grind
    · rw [List.filter_cons, if_neg kept, cellGet, ih rest]
      grind

theorem cellGet_cellsClear {c : List Host.Cell} (w : Memory.wf c = true) (lo hi x : Nat) :
    cellGet (cellsClear c lo hi) x = if lo ≤ x ∧ x < hi then memDefault else cellGet c x := by
  have outside : (decide (x < lo) || decide (hi ≤ x)) = true ↔ ¬(lo ≤ x ∧ x < hi) := by
    simp only [Bool.or_eq_true, decide_eq_true_eq]
    omega
  rw [cellsClear, cellGet_filter (fun k => decide (k < lo) || decide (hi ≤ k)) w]
  by_cases inside : lo ≤ x ∧ x < hi
  · rw [if_pos inside, if_neg (fun kept => outside.mp kept inside)]
  · rw [if_neg inside, if_pos (outside.mpr inside)]

/-! ### Equal memories -/

/-- The least address that memory lists reads as it is listed, and not as unlisted. -/
theorem cellGet_head (k : Nat) (v : Byte) (t : List Host.Cell) : cellGet ((k, v) :: t) k = v := by
  rw [cellGet, if_pos rfl]

/-- Memories of one form that read the same begin with the same cell, and what is behind it reads the same. -/
theorem cells_ext {c d : List Host.Cell} {lo hi : Nat} (wc : cellsFrom lo c = true) (wd : cellsFrom hi d = true)
    (same : ∀ x, cellGet c x = cellGet d x) : c = d := by
  induction c generalizing lo hi d with
  | nil =>
    cases d with
    | nil => rfl
    | cons f u =>
      obtain ⟨⟨-, listed⟩, -⟩ := cellsFrom_cons.mp wd
      exact absurd ((cellGet_head f.1 f.2 u).symm.trans (same f.1).symm) listed
  | cons e t ih =>
    obtain ⟨k, v⟩ := e
    obtain ⟨⟨-, listed⟩, rest⟩ := cellsFrom_cons.mp wc
    cases d with
    | nil => exact absurd ((cellGet_head k v t).symm.trans (same k)) listed
    | cons f u =>
      obtain ⟨j, z⟩ := f
      obtain ⟨⟨-, listed'⟩, rest'⟩ := cellsFrom_cons.mp wd
      have atK := same k
      have atJ := same j
      have key : k = j := by grind [cellGet]
      subst key
      have value : v = z := by rwa [cellGet_head, cellGet_head] at atK
      subst value
      have tails : ∀ x, cellGet t x = cellGet u x := fun x => by
        by_cases below : x < k + 1
        · rw [cellGet_below rest below, cellGet_below rest' below]
        · have behind := same x
          rwa [cellGet, cellGet, if_neg (by omega), if_neg (by omega), if_neg (by omega), if_neg (by omega)] at behind
      rw [ih rest rest' tails]

/-- Settles O58: a write of a line or a word is a write of each of its bytes, and a table in its canonical form is fixed by what it
reads. -/
theorem memoryReadsWhatWasWrittenThere : Obligations.MemoryReadsWhatWasWrittenThere := by
  unfold Obligations.MemoryReadsWhatWasWrittenThere
  exact ⟨fun _ a x b w => ⟨cellSet_wf _ _ _ w, cellGet_cellSet w a x b⟩,
    fun _ a x m l w => ⟨lineSet_wf _ _ _ _ w, cellGet_lineSetN w a x m l 64⟩,
    fun _ a x v w => ⟨wordSet_wf _ _ _ w, cellGet_wordSetN w a x v 8⟩,
    fun _ lo hi x w => ⟨cellsClear_wf _ _ _ w, cellGet_cellsClear w lo hi x⟩,
    fun _ _ => cells_ext⟩

end Sys2Proof.Machine
end


section
/-! SUPPORT. Boot phases 6 to 8 (R134, R135, R245, R315, R318, R335, R336): the feeds light, the elements start from a warm image
or without one, and the stacks are cleared and trained. -/

namespace Sys2Proof.Machine

open Sys2Proof

@[simp] theorem endPhase_flt (p : Nat) (s : State) : (endPhase p s).flt = s.flt := rfl

/-! ### Phase 6 -/

/-- Nothing is fenced where the fence map is empty. -/
theorem fenced_mapless {s : State} (clear : s.flt.map = []) (u : UnitId) : fenced s u = false := by
  unfold fenced fenceOf
  rw [clear]
  rfl

/-- The feeds of the variant, each in its role with the weakest line that was measured, where every light and marker is good
(R315, R318). -/
def litFeeds (v : Variant) (lv : List (Nat × Nat × Nat)) : Tab Feed :=
  ((List.range 16).filter (fun k => (fieldsOf v).contains (k / 4))).foldl (fun t k => tset {} t k ({
    role := k % 4
    lit := true
    marked := true
    weakest := ((lv.find? (fun x => x.1 == k)).map (·.2.1)).getD 0
    line := ((lv.find? (fun x => x.1 == k)).map (·.2.2)).getD 0 } : Feed)) []

theorem bootPhase6_waits {s : State} (none : s.boot.script.bind (·.lasers) = none) (absent failed : List Nat) (lv : List (Nat × Nat × Nat)) :
    bootPhase6 absent failed lv s = s := by
  unfold bootPhase6
  rw [none]

/-- With every feed of the variant in the laser map, every module there and nothing fenced, no feed fails (R318). -/
theorem bootPhase6_lights {lv ls : List (Nat × Nat × Nat)} {s : State} (now : inPhase s 6 = true)
    (lasers : s.boot.script.bind (·.lasers) = some ls) (whole : ls.length = 16) (clear : s.flt.map = []) :
    ∃ ready, bootPhase6 [] [] lv s = endPhase 6 (modPins (fun p => { p with lsEn := true })
      (modFoc (fun f => { f with ready := ready, feeds := litFeeds s.part.variant lv }) s)) := by
  unfold bootPhase6
  rw [lasers]
  dsimp only
  rw [if_neg (by simp [now])]
  have listed : ∀ k ∈ (List.range 16).filter (fun k => (fieldsOf s.part.variant).contains (k / 4)), ∃ x, ls[k]? = some x := by
    intro k hk
    have inMap : k < ls.length := whole ▸ List.mem_range.mp (List.mem_filter.mp hk).1
    exact ⟨_, List.getElem?_eq_getElem inMap⟩
  rw [(List.filter_eq_nil_iff (l := (List.range 16).filter (fun k => (fieldsOf s.part.variant).contains (k / 4)))).mpr]
  · exact ⟨_, rfl⟩
  · intro k hk
    obtain ⟨x, entry⟩ := listed k hk
    rw [entry, fenced_mapless]
    · simp
    · exact clear

/-! ### Phase 7 -/

/-- The state once the elements have started from an image or without one, `back` of them having fallen back (R335, R336). -/
def focusStart (elems : Tab Elem) (back : Nat) (img : Option (Nat × WarmImage)) (s : State) : State :=
  modFoc (fun f => { f with
    elems := elems
    focused := true
    start := if img.isNone then 1 else if back = 0 then 2 else 3
    fallbacks := min 65535 back
    source := (img.map (·.1)).getD 0
    generation := (img.map (fun p => p.2.generation.toNat)).getD 0
    ms := (s.now - s.boot.phaseStart) / 1000000 }) s

/-- One element that did not lock, with its cause (R325, R326, R329). -/
def loseElem (s : State) (p : Nat × Nat) : State :=
  if (elemKind s.part.variant p.1).isNone then s
  else if p.2 = 2 then elemOut p.1 2 0 .wrongLock (modFoc (fun f => { f with wrongLocks := sat32 f.wrongLocks 1 }) s)
  else elemOut p.1 (if p.2 = 3 then 3 else 1) 0 (if p.2 = 3 then .focusRange else .focusLost)
    (modFoc (fun f => { f with lockLost := sat32 f.lockLost 1 }) s)

theorem startWrong_noTone {found : List (Nat × Option Nat × TrimRec)} (none : found.all (fun p => p.2.1.isNone) = true) (s : State) :
    startWrong found s = s := by
  unfold startWrong
  induction found with
  | nil => rfl
  | cons p found ih =>
    rw [List.all_cons, Bool.and_eq_true] at none
    rw [List.foldl_cons, Option.isNone_iff_eq_none.mp none.1]
    exact ih none.2

/-- Phase 7 where no check of an identity failed: only the elements that did not lock are messages (R329, R335, R336). -/
theorem bootPhase7_noTone {s : State} (now : inPhase s 7 = true) {found : List (Nat × Option Nat × TrimRec)}
    (noTone : found.all (fun p => p.2.1.isNone) = true) {img : Option (Nat × WarmImage)} (choice : warmChoice s = img)
    {back : Nat} (fell : (img.map (fun p => fellBack s p.2 found)).getD 0 = back) (lost : List (Nat × Nat)) :
    ∃ elems, bootPhase7 found lost s = endPhase 7 (modBoot (fun x => { x with warm := img.isSome })
      (loadTaps (img.map (·.2)) (lost.foldl loseElem (focusStart elems back img s)))) := by
  subst choice fell
  unfold bootPhase7
  rw [if_neg (by simp [now])]
  dsimp only
  rw [startWrong_noTone noTone]
  exact ⟨_, rfl⟩

theorem loseElem_unlocked {e : Nat} {s : State} (there : (elemKind s.part.variant e).isSome = true) :
    loseElem s (e, 1) = elemOut e 1 0 .focusLost (modFoc (fun f => { f with lockLost := sat32 f.lockLost 1 }) s) :=
  if_neg (by simpa [Option.isSome_iff_ne_none] using there)

theorem fellBack_eq_zero {w : WarmImage} {s : State}
    (valid : ∀ e, (elemKind s.part.variant e).isSome = true → (imageRec s w e).valid = true) : fellBack s w [] = 0 := by
  rw [fellBack, List.length_eq_zero_iff, List.filter_eq_nil_iff]
  intro e _
  simpa using valid e

theorem elemKind_lt {v : Variant} {e : Nat} (there : (elemKind v e).isSome = true) : e < 36864 := by
  by_cases near : e < 36864
  · exact near
  · have off : hasStation v (e / 1024) = false := by
      rw [hasStation, decide_eq_false (by omega), Bool.false_and]
    rw [elemKind, off] at there
    cases there

theorem fellBack_pos {w : WarmImage} {e : Nat} {s : State} (there : (elemKind s.part.variant e).isSome = true)
    (invalid : (imageRec s w e).valid = false) (found : List (Nat × Option Nat × TrimRec)) : 0 < fellBack s w found := by
  refine List.length_pos_of_mem (a := e) (List.mem_filter.mpr ⟨List.mem_range.mpr (elemKind_lt there), ?_⟩)
  simp [there, invalid]

/-- The taps of an image go to the sites alone, and read nothing of the focus units (R245). -/
theorem loadTaps_modFoc (f : Foc → Foc) (img : Option WarmImage) (s : State) :
    loadTaps img (modFoc f s) = modFoc f (loadTaps img s) := by
  cases img with
  | none => rfl
  | some w =>
    refine List.foldl_hom (modFoc f) (fun s n => ?_)
    dsimp only
    rw [modFoc_part, apply_ite (modFoc f)]
    rfl

theorem loadTaps_sites (img : Option WarmImage) (s : State) : ∃ sites, loadTaps img s = { s with tsi := sites } := by
  cases img with
  | none => exact ⟨_, rfl⟩
  | some w =>
    have kept := foldl_keeps (fun t : State => { t with tsi := s.tsi }) (f := fun s n =>
      let t := warmTaps w n
      if t.isEmpty || !sitePresent s.part n then s else modSite n (fun x => { x with taps := t }) s)
      (fun t n => by dsimp only; split <;> rfl) (List.range 12) s
    exact ⟨_, congrArg (fun t : State => { t with tsi := (loadTaps (some w) s).tsi }) kept⟩

theorem warmChoice_valid {n : Nat} {w : WarmImage} {s : State} (warm : warmChoice s = some (n, w)) : w.valid = true := by
  unfold warmChoice at warm
  split at warm
  · cases warm
  · simpa using List.find?_some warm

/-! ### Phase 8 -/

/-- The pool cleared to zero, with no POISON and no symbol in error (R135). -/
def clearPool (s : State) : State :=
  modMem (fun x => { x with cells := x.cells.filter (fun c => decide (millBase ≤ c.1)), flips := [], symErrs := [], cleared := true }) s

/-- A stack newly in service: at full rate, with nothing repaired or poisoned (R134). -/
def stackReady (x : MsSt) : MsSt :=
  { x with st := 1, rate := 0, lanesRepaired := 0, fallback := false, repairs := 0, poisonHome := false, allPoison := false }

/-- One stack trains, or fails with MEM_CHANNEL_FAIL (R134). -/
def trainStack (failed : List (Nat × Nat)) (s : State) (m : Nat) : State :=
  match failed.find? (fun p => p.1 == m) with
  | some (_, c) => raise .memChannelFail 2 m (c % 32) s
  | none => modMs m stackReady s

theorem bootPhase8_capacity {s : State} (now : inPhase s 8 = true) (fits : s.part.stackGib = 48 ∨ s.part.stackGib = 36)
    (failed : List (Nat × Nat)) : bootPhase8 failed s = endPhase 8 (capUpdate
      (((memStations s.part.variant).filter (fun m => !memFenced s m)).foldl (trainStack failed) (clearPool s))) := by
  unfold bootPhase8
  rw [if_neg (by simp [now])]
  exact congrArg (fun f => endPhase 8 (capUpdate (List.foldl (trainStack f) (clearPool s) _))) (if_pos fits)

/-- A stack of another capacity than 48 or 36 GiB fails (R134). -/
theorem bootPhase8_otherCapacity {s : State} (now : inPhase s 8 = true) (no48 : s.part.stackGib ≠ 48) (no36 : s.part.stackGib ≠ 36)
    (failed : List (Nat × Nat)) : bootPhase8 failed s = endPhase 8 (capUpdate
      (((memStations s.part.variant).filter (fun m => !memFenced s m)).foldl
        (trainStack (((memStations s.part.variant).filter (fun m => !memFenced s m)).map (fun m => (m, 0)) ++ failed)) (clearPool s))) := by
  unfold bootPhase8
  rw [if_neg (by simp [now])]
  exact congrArg (fun f => endPhase 8 (capUpdate (List.foldl (trainStack f) (clearPool s) _))) (if_neg (by simp [no48, no36]))

theorem trainStack_fails {failed : List (Nat × Nat)} {m c : Nat} (found : failed.find? (fun p => p.1 == m) = some (m, c)) (s : State) :
    trainStack failed s m = raise .memChannelFail 2 m (c % 32) s := by
  rw [trainStack, found]

/-- Stacks that all train change the memory stations alone. -/
theorem foldl_trainStack_none (ms : List Nat) (s : State) : ms.foldl (trainStack []) s =
    modMem (fun x => { x with stations := ms.foldl (fun t m => tupd {} t m stackReady) x.stations }) s := by
  induction ms generalizing s with
  | nil => rfl
  | cons m ms ih => exact ih _

/-- The capability words follow, and nothing else (R459). -/
theorem capUpdate_words (s : State) : ∃ i, capUpdate s = { s with ident := i } := by
  unfold capUpdate
  dsimp only
  split <;> exact ⟨_, rfl⟩

/-- What is raised for a stack that fails joins the network (R134, R373). -/
theorem memChannelFail_net (m c : Nat) (s : State) :
    (endPhase 8 (capUpdate (raise .memChannelFail 2 m c (clearPool s)))).flt.net = s.flt.net ++ [mkMsg s .memChannelFail 2 m c] := by
  rw [endPhase_flt, (capUpdate_keep _).flt rfl, raise_mild (by decide)]
  rfl

/-- Settles O41: each clause is one case of the function that the command calls. -/
theorem bootLightsFocusesAndClearsMemory : Obligations.BootLightsFocusesAndClearsMemory := by
  unfold Obligations.BootLightsFocusesAndClearsMemory
  refine ⟨?_, ?_, ?_, ?_, ?_, ?_, ?_, ?_, ?_, ?_, ?_⟩
  · intro lv ls s now lasers whole clear
    obtain ⟨ready, lit⟩ := bootPhase6_lights (lv := lv) now lasers whole clear
    exact ⟨_, congrArg Host.Outcome.next lit, rfl, rfl, rfl, rfl⟩
  · intro absent failed lv s none
    exact congrArg Host.Outcome.next (bootPhase6_waits none absent failed lv)
  · intro found s now cold noTone
    obtain ⟨elems, run⟩ := bootPhase7_noTone now noTone cold rfl []
    exact ⟨_, congrArg Host.Outcome.next run, rfl, rfl, rfl, rfl, rfl, rfl, rfl⟩
  · intro w n s now warm valid
    obtain ⟨elems, run⟩ := bootPhase7_noTone now (found := []) rfl warm (by simpa using fellBack_eq_zero valid) []
    rw [List.foldl_nil, focusStart, loadTaps_modFoc] at run
    dsimp only [Option.map_some] at run
    obtain ⟨sites, taps⟩ := loadTaps_sites (some w) s
    rw [taps] at run ⊢
    exact ⟨_, congrArg Host.Outcome.next run, rfl, rfl, rfl, rfl, rfl, rfl, rfl, rfl, rfl⟩
  · intro w n e s now warm there invalid
    obtain ⟨back, fell⟩ : ∃ back, fellBack s w [] = back := ⟨_, rfl⟩
    have some : 0 < back := fell ▸ fellBack_pos there invalid []
    obtain ⟨elems, run⟩ := bootPhase7_noTone now (found := []) rfl warm (by simpa using fell) []
    rw [List.foldl_nil, focusStart, loadTaps_modFoc] at run
    generalize loadTaps _ s = loaded at run
    exact ⟨_, congrArg Host.Outcome.next run, if_neg (Nat.pos_iff_ne_zero.mp some), Nat.le_min.mpr ⟨by decide, some⟩, rfl⟩
  · intro e s now there
    obtain ⟨back, fell⟩ : ∃ back, ((warmChoice s).map (fun p => fellBack s p.2 [])).getD 0 = back := ⟨_, rfl⟩
    obtain ⟨elems, run⟩ := bootPhase7_noTone now (found := []) rfl rfl fell [(e, 1)]
    rw [List.foldl_cons, List.foldl_nil, loseElem_unlocked (s := focusStart elems back (warmChoice s) s) there] at run
    refine ⟨modFoc (fun f => { f with lockLost := sat32 f.lockLost 1 }) (focusStart elems back (warmChoice s) s), rfl, rfl, rfl, _,
      congrArg Host.Outcome.next run, rfl, (loadTaps_keep _ _).flt rfl, (loadTaps_keep _ _).foc rfl⟩
  · exact fun s tripped => if_pos tripped
  · exact fun w n s warm => warmChoice_valid warm
  · intro s now fits
    have run := bootPhase8_capacity now fits []
    rw [foldl_trainStack_none] at run
    obtain ⟨words, cap⟩ := capUpdate_words (modMem _ (clearPool s))
    rw [cap] at run
    refine ⟨_, congrArg Host.Outcome.next run, rfl, rfl, rfl, rfl, rfl, ?_, rfl⟩
    exact (congrArg (·.mem.stations) (foldl_trainStack_none _ s)).symm
  · intro m s now no48 no36 one
    have run := bootPhase8_otherCapacity now no48 no36 []
    rw [one, List.foldl_cons, List.foldl_nil, trainStack_fails (c := 0) (by simp)] at run
    exact ⟨_, congrArg Host.Outcome.next run, rfl, memChannelFail_net m (0 % 32) s⟩
  · intro m c s now fits one
    have run := bootPhase8_capacity now fits [(m, c)]
    rw [one, List.foldl_cons, List.foldl_nil, trainStack_fails (c := c) (by simp)] at run
    exact ⟨_, congrArg Host.Outcome.next run, rfl, memChannelFail_net m (c % 32) s⟩

end Sys2Proof.Machine
end


section
/-! SUPPORT. POISON of a pool line (R137, R140): what a read that finds a line uncorrectable stores, what an atomic that meets a
poisoned line mends, and the states in which these are not what O9 and O10 say. -/

namespace Sys2Proof.Machine

open Sys2Proof

/-! ### A read that finds its line uncorrectable -/

/-- A stored POISON bit reads back where the table of lines that differ from their station's POISON keeps what is written to it. -/
theorem poisonOf_setPoison {off : Nat} {s : State}
    (kept : ∀ b, tget false (tset false s.mem.flips (off / 64) b) (off / 64) = b) (p : Bool) : poisonOf (setPoison off p s) off = p := by
  show ((msSt s (homeOf s off)).allPoison != tget false (tset false s.mem.flips (off / 64) (p != (msSt s (homeOf s off)).allPoison)) (off / 64)) = p
  rw [kept]
  cases p <;> cases (msSt s (homeOf s off)).allPoison <;> rfl

/-- A line that is uncorrectable and was not poisoned is stored back with POISON, and answered as the error line (R137). -/
theorem poolRead_uncorrectable {off : Nat} {s : State} (k : Nat) (clear : poisonOf s off = false)
    (kept : ∀ b, tget false (tset false s.mem.flips (off / 64) b) (off / 64) = b) :
    (poolRead off (.uncorrectable k) s).1 = (errorLine, true) := by
  have check : poolCheck off (.uncorrectable k) s = raise .lineUncorrectable 2 (homeOf s off) off
      (modMem (fun m => { m with symErrs := tset [] m.symErrs (off / 64) [] })
        (setPoison off true (modMs (homeOf s off) (fun m => { m with uncorr := sat32 m.uncorr 1 }) s))) :=
    if_neg (show ¬poisonOf s off = true by rw [clear]; decide)
  have poisoned : poisonOf (poolCheck off (.uncorrectable k) s) off = true := by
    rw [check, raise_mild (by decide)]
    exact poisonOf_setPoison (s := modMs (homeOf s off) (fun m => { m with uncorr := sat32 m.uncorr 1 }) s) kept true
  exact if_pos poisoned

/-- A station whose lines are all poisoned, with line 0 listed twice among those that are not. -/
def flipListedTwice : State := { State.reset with mem := { State.reset.mem with
  flips := [(0, true), (0, true)]
  stations := [(homeOf State.reset 0, { allPoison := true })] } }

/-- Refutes O9, at its clause on a read that finds its line uncorrectable: in a table out of its canonical form, which lists the line
twice, the entry behind shows once the first is taken out, and the line that was to be stored with POISON is answered as it stands.
The clause holds where the table keeps what is written to it (`poolRead_uncorrectable`). -/
theorem not_loadsAndStoresAtTheHome : ¬ Obligations.LoadsAndStoresAtTheHome := by
  unfold Obligations.LoadsAndStoresAtTheHome
  rintro ⟨-, -, -, uncorrectable, -⟩
  have answered := uncorrectable flipListedTwice 0 0 (by decide +kernel)
  have stands : (poolRead 0 (.uncorrectable 0) flipListedTwice).1.2 = false := by decide +kernel
  rw [answered] at stands
  cases stands

/-! ### An atomic on a poisoned line -/

/-- A clean read of a line without a symbol in error finds nothing to correct and nothing to mend (R136, R137). -/
theorem poolMend_clean {off : Nat} {s : State} (clean : tget [] s.mem.symErrs (off / 64) = []) : poolMend off .clean s = s := by
  have check : poolCheck off .clean s = s := by
    unfold poolCheck stackRead
    rw [clean]
    rfl
  unfold poolMend
  dsimp only
  rw [check, clean]

/-- An atomic fails on a poisoned line, and leaves a line without a symbol in error as it is (R137, R142). -/
theorem atomicAt_poisoned {q : MemReq} {o : Nat} {s : State} (home : Nat) (inPool : millOnly q.req.op = false)
    (free : stillsHome s o = false) (serves : memFenced s (homeOf s o) = false) (stays : (msSt s (homeOf s o)).poisonHome = false)
    (poisoned : poisonOf s o = true) (clean : tget [] s.mem.symErrs (o / 64) = []) :
    atomicAt home q .clean s (.pool o) = failHome home q (noteLines (jobTag s q.req.job) 1 s) := by
  have line : o / 64 * 64 / 64 = o / 64 := by omega
  unfold atomicAt
  dsimp only
  rw [if_neg (by simp [inPool, free]), if_neg (by simp [serves, stays]), poolMend_clean (by rw [line]; exact clean)]
  exact if_pos poisoned

/-- An add of node 2 to word 0 of the pool. -/
def addToWord : MemReq :=
  { req := { who := .remote 2 0, op := .addI64, addr := 0x1000000000000, mask := 1, operand := 1 }, buf := 2, node := 2 }

/-- Its home holds it, and its line stands with POISON and with one symbol in error, as after a load of a poisoned line that met
that symbol (R134, R137). -/
def poisonWithError : State := { State.reset with
  ident := { State.reset.ident with node := 1 }
  mem := { State.reset.mem with
    addressable := 384
    stations := [(homeOf State.reset 0, { st := 1, queue := [addToWord] })]
    flips := [(0, true)]
    symErrs := [(0, [(0, 1)])] } }

/-- The home has taken the add. -/
def addTaken : State := (accept (serveStation poisonWithError addToWord) addToWord poisonWithError).getD poisonWithError

theorem poisonWithError_served : servedAt .addI64 addToWord poisonWithError (bankTurn addToWord addTaken) :=
  ⟨rfl, by decide +kernel, .inr ⟨0, by decide +kernel⟩, addTaken, by decide +kernel, .inr (by decide +kernel), by decide +kernel, rfl⟩

/-- Refutes O10, at its clause on a poisoned line: the atomic fails, but its read corrects the symbol in error, counts it and mends
the stored line (R137), so that memory is not left as it was. The clause holds where no symbol of the line is in error
(`atomicAt_poisoned`). -/
theorem not_atomicsChangeOneWordAndAnswerTheOld : ¬ Obligations.AtomicsChangeOneWordAndAnswerTheOld := by
  unfold Obligations.AtomicsChangeOneWordAndAnswerTheOld
  rintro ⟨-, -, -, -, -, -, -, -, -, -, -, -, -, -, -, -, poisoned, -⟩
  obtain ⟨t, run, same, -⟩ := poisoned addToWord _ _ 0 poisonWithError_served (by decide +kernel) (by decide +kernel) (by decide +kernel)
    (by decide +kernel) (by decide +kernel)
  have mended : (reach .addI64 addToWord .clean poisonWithError).mem.symErrs = [] := by decide +kernel
  have left : (bankTurn addToWord addTaken).mem.symErrs = [(0, [(0, 1)])] := by decide +kernel
  rw [Host.Outcome.next.inj run, same, left] at mended
  cases mended

end Sys2Proof.Machine
end


section
/-! SUPPORT. The blocking engine (R153 to R164): what the start of a fetch may change, the entry of a region from its declaration to
the end of its release, the end of an epoch, and the answer to a load of a fetch. -/

namespace Sys2Proof.Machine

open Sys2Proof

/-! ### Fetches start -/

/-- A fetch asked for is not wanted, waits for one of the 64 places, finds no replica slot, or takes one (R157, R159). -/
theorem startFetch_cases (region node block : Nat) (s : State) : startFetch region node block s = s
    ∨ startFetch region node block s = modBlk (fun b => { b with
        waiting := (b.waiting ++ [(region, node, block)]).mergeSort (fun x y => decide (x.2.2 ≤ y.2.2)) }) s
    ∨ startFetch region node block s = modBlk (fun b => { b with full := b.full + 1 }) s
    ∨ ∃ j, startFetch region node block s = modBlk (fun b => { b with
        replicas := tset none b.replicas j (some { region := region, id := b.nextFetch, node := BitVec.ofNat 16 node, block := block })
        nextFetch := b.nextFetch + 1
        flight := b.flight ++ [j] }) s := by
  unfold startFetch
  split
  · exact .inl rfl
  · split
    · exact .inr (.inl rfl)
    · split
      · exact .inr (.inr (.inl rfl))
      next j _ => exact .inr (.inr (.inr ⟨j, rfl⟩))

/-- From s to t the blocking engine has done no more than to start fetches. -/
def FetchesOnly (s t : State) : Prop := ∃ replicas waiting flight nextFetch full, t = { s with blk := { s.blk with
  replicas := replicas, waiting := waiting, flight := flight, nextFetch := nextFetch, full := full } }

theorem FetchesOnly.refl (s : State) : FetchesOnly s s := ⟨_, _, _, _, _, rfl⟩

theorem FetchesOnly.trans {s t u : State} (a : FetchesOnly s t) (b : FetchesOnly t u) : FetchesOnly s u := by
  obtain ⟨_, _, _, _, _, rfl⟩ := a
  obtain ⟨_, _, _, _, _, rfl⟩ := b
  exact ⟨_, _, _, _, _, rfl⟩

theorem startFetch_fetchesOnly (region node block : Nat) (s : State) : FetchesOnly s (startFetch region node block s) := by
  rcases startFetch_cases region node block s with e | e | e | ⟨j, e⟩ <;> rw [e] <;> exact ⟨_, _, _, _, _, rfl⟩

theorem startWaiting_fetchesOnly : ∀ (n : Nat) (s : State), FetchesOnly s (startWaiting n s)
  | 0, s => FetchesOnly.refl s
  | n + 1, s => by
    unfold startWaiting
    split
    · exact FetchesOnly.refl s
    · split
      · exact FetchesOnly.refl s
      · exact FetchesOnly.trans ⟨_, _, _, _, _, rfl⟩ ((startFetch_fetchesOnly _ _ _ _).trans (startWaiting_fetchesOnly n _))

theorem countedFetches_fetchesOnly (s : State) : FetchesOnly s (countedFetches s) :=
  List.foldlRecOn _ _ (FetchesOnly.refl s) fun _ started _ _ => started.trans (startFetch_fetchesOnly _ _ _ _)

/-! ### A region is declared -/

/-- A legal declaration by a path that may make it changes the entry, and the slate's fields in effect (R153, R164). -/
theorem regionDeclare_legal {p : Path} {i : Nat} {f : RegionFields} {s : State} (right : mayWrite s p .o = true) (inRange : i < 256)
    (legal : regionLegal f = true) : exec (.regionDeclare p i f) s = .next (declareRegion i f (regionEffect i f s)) := by
  show execRegionDeclare p i f s = _
  unfold execRegionDeclare
  rw [if_pos (by simp [right, inRange, legal])]

/-- The slate's fields are control space's own (R164, R453). -/
theorem regionEffect_csp (i : Nat) (f : RegionFields) (s : State) : ∃ effect,
    regionEffect i f s = { s with csp := { s.csp with effect := effect } } := ⟨_, rfl⟩

/-- A declaration that nothing stands against enters its region; outside a pair nothing is copied (R153, R158, R391). -/
theorem declareRegion_entered {i : Nat} {f : RegionFields} {s : State} (noReason : declareReason s i f = 0) (alone : s.pair.role = .none) :
    declareRegion i f s = { s with blk := { s.blk with regions := tset {} s.blk.regions i {
      st := 1
      reason := 0
      node := f.node
      base := f.base
      blocks := f.blocks.toNat
      job := f.job.toNat
      mode := f.mode.toNat
      threshold := f.threshold.toNat
      fromEpoch := s.tc.timecode.toNat / 1000000 + 1 } } } := by
  unfold declareRegion
  dsimp only
  rw [if_neg (not_not_intro noReason), alone]
  rfl

theorem declareRegion_refused {i : Nat} {f : RegionFields} {s : State} (reason : declareReason s i f ≠ 0) :
    declareRegion i f s = { s with blk := { s.blk with
      regions := tupd {} s.blk.regions i (fun e => { e with reason := declareReason s i f }) } } := if_pos reason

/-! ### A region is released -/

/-- An entry of a table that was written to was there before, or is the one written. -/
theorem mem_tset {α : Type} [DecidableEq α] {d : α} {t : Tab α} {i : Nat} {v : α} {p : Nat × α} (there : p ∈ tset d t i v) :
    p ∈ t ∨ p = (i, v) := by
  induction t with
  | nil =>
    simp only [tset] at there
    split at there
    · exact .inl there
    · exact .inr (List.mem_singleton.mp there)
  | cons a t ih =>
    simp only [tset] at there
    split at there
    · split at there
      · exact .inl there
      · exact (List.mem_cons.mp there).symm
    · split at there
      · split at there
        · exact .inl (List.mem_cons_of_mem _ there)
        · exact (List.mem_cons.mp there).symm.imp_left (List.mem_cons_of_mem _)
      · rcases List.mem_cons.mp there with e | later
        · exact .inl (List.mem_cons.mpr (.inl e))
        · exact (ih later).imp_left (List.mem_cons_of_mem _)

/-- No replica of region i stands or is fetched, and no fetch of it waits. -/
structure WithoutRegion (i : Nat) (b : Blk) : Prop where
  replicas : ∀ q ∈ b.replicas, ∃ x, q.2 = some x ∧ x.region ≠ i
  waiting : ∀ w ∈ b.waiting, w.1 ≠ i

theorem startFetch_withoutRegion {i region : Nat} (other : region ≠ i) (node block : Nat) {s : State} (gone : WithoutRegion i s.blk) :
    WithoutRegion i (startFetch region node block s).blk := by
  rcases startFetch_cases region node block s with e | e | e | ⟨j, e⟩ <;> rw [e]
  · exact gone
  · refine ⟨gone.replicas, fun w there => ?_⟩
    rcases List.mem_append.mp (List.mem_mergeSort.mp there) with old | new
    · exact gone.waiting w old
    · rw [List.mem_singleton.mp new]
      exact other
  · exact ⟨gone.replicas, gone.waiting⟩
  · refine ⟨fun q there => ?_, gone.waiting⟩
    rcases mem_tset there with old | rfl
    · exact gone.replicas q old
    · exact ⟨_, rfl, other⟩

/-- The fetches that waited are of other regions, so that none of them brings the region back. -/
theorem startWaiting_withoutRegion {i : Nat} : ∀ (n : Nat) {s : State}, WithoutRegion i s.blk → WithoutRegion i (startWaiting n s).blk
  | 0, _, gone => gone
  | n + 1, s, gone => by
    unfold startWaiting
    split
    · exact gone
    next w rest waits =>
      split
      · exact gone
      · have listed : ∀ v ∈ w :: rest, v.1 ≠ i := waits ▸ gone.waiting
        exact startWaiting_withoutRegion n (startFetch_withoutRegion (listed w List.mem_cons_self) _ _
          ⟨gone.replicas, fun v there => listed v (List.mem_cons_of_mem w there)⟩)

/-- A region leaves the engine: its entry drains, and nothing else of it is left (R155, R157, R160). -/
def leaveRegion (i : Nat) (s : State) : State := modBlk (fun b => { b with
  regions := tupd {} b.regions i (fun e => { e with st := 2 })
  replicas := b.replicas.filter (fun p => match p.2 with | some x => x.region != i | none => false)
  flight := b.flight.filter (fun j => match tget none b.replicas j with | some x => x.region != i | none => false)
  waiting := b.waiting.filter (fun w => w.1 != i)
  tracker := b.tracker.filter (fun t => t.2.2.1 != i) }) s

theorem leaveRegion_withoutRegion (i : Nat) (s : State) : WithoutRegion i (leaveRegion i s).blk := by
  refine ⟨fun q there => ?_, fun w there => bne_iff_ne.mp (List.mem_filter.mp there).2⟩
  have kept := (List.mem_filter.mp there).2
  split at kept
  next x held => exact ⟨x, held, bne_iff_ne.mp kept⟩
  · cases kept

theorem leaveRegion_tracker {i : Nat} {s : State} {w : Nat × Nat × Nat × Nat} (there : w ∈ (leaveRegion i s).blk.tracker) : w.2.2.1 ≠ i :=
  bne_iff_ne.mp (List.mem_filter.mp there).2

theorem regionRelease_declared {p : Path} {i : Nat} {s : State} (right : mayWrite s p .o = true) (inRange : i < 256)
    (declared : (regionOf s i).st = 1) :
    exec (.regionRelease p i) s = .next (startWaiting (leaveRegion i s).blk.waiting.length (leaveRegion i s)) := by
  show execRegionRelease p i s = _
  unfold execRegionRelease releaseRegion
  rw [if_pos (by simp [right, inRange]), if_neg (not_not_intro declared)]
  rfl

/-! ### An epoch ends -/

theorem epochEnd_due {s : State} (safe : s.flt.safe = false) (due : s.blk.epochDone < s.tc.timecode.toNat / 1000000) :
    epochEnd s = modBlk (fun b => { b with
      tracker := []
      untracked := []
      epochDone := s.tc.timecode.toNat / 1000000
      fullEpochs := b.fullEpochs + 1
      gripMean := b.gripSum, gripSum := []
      mstMean := b.mstSum, mstSum := [] }) (countedFetches s) :=
  if_neg (by simp [safe, due])

theorem epochEnd_done {s : State} (done : s.tc.timecode.toNat / 1000000 ≤ s.blk.epochDone) : epochEnd s = s :=
  if_pos (by simp [done])

/-! ### The answer to a load of a fetch -/

/-- The key of a fetch's loads tells its replica slot (R157). -/
theorem fetchKey_slot {j : Nat} (slot : j < 2 ^ 20) (x : Replica) : (fetchKey j x).toNat % 2 ^ 20 = j := by
  rw [fetchKey, BitVec.toNat_ofNat, Nat.mod_mod_of_dvd _ (by decide : 2 ^ 20 ∣ 2 ^ 64), Nat.mul_add_mod_self_right, Nat.mod_eq_of_lt slot]

theorem slotKey_buffer {b k : Nat} (inBuffer : k < 8192) : slotKey b k / 8192 = b := by
  unfold slotKey
  omega

theorem slotKey_slot {b k : Nat} (inBuffer : k < 8192) : slotKey b k % 8192 = k := by
  unfold slotKey
  omega

section
variable {j line k : Nat} {o : Outst} {x : Replica} {s : State}

/-- The one load that is outstanding is the line's: its answer goes to the fetch, and its slot is free (R145, R157). A failed one is
counted and reported first (R142, R144). -/
theorem blockFetchResponse_outstanding (safe : s.flt.safe = false) (slots : s.mem.slots = [(slotKey 52 k, some o)]) (inBuffer : k < 8192)
    (engine : o.req.who = .engine) (slot : j < 2 ^ 20) (inBlock : line < 1024) (key : o.req.compare = fetchKey j x)
    (asked : o.req.operand = BitVec.ofNat 64 line) (data : Line) (failed : Bool) :
    exec (.blockFetchResponse j line data false failed) s = .next (releaseSlot 52 k (fetchLine (fetchKey j x) line data failed
      (if failed then failAccess o.req .targetFenced s else s))) := by
  have hit : (o.req.who == .engine && o.req.compare.toNat % 2 ^ 20 == j && o.req.operand == BitVec.ofNat 64 line) = true := by
    rw [engine, key, asked, fetchKey_slot slot, beq_self_eq_true, beq_self_eq_true, beq_self_eq_true]
    rfl
  have number : o.req.operand.toNat = line := by
    rw [asked, BitVec.toNat_ofNat]
    omega
  show execBlockFetchResponse j line data false failed s = _
  unfold execBlockFetchResponse blockResponse
  rw [if_neg (by rw [safe]; decide), slots]
  dsimp only [List.findSome?_cons]
  rw [if_pos hit]
  dsimp only
  unfold deliver
  rw [engine]
  dsimp only
  rw [slotKey_buffer inBuffer, slotKey_slot inBuffer, key, number]
  cases failed <;> rfl

/-- Nothing waits for a slot, so that the only one taken is free and the rest stays as it is (R108, R145). -/
theorem releaseSlot_only (slots : s.mem.slots = [(slotKey 52 k, some o)]) (noMem : s.mem.held = []) (noMgt : s.mem.mgtHeld = []) :
    releaseSlot 52 k s = modMem (fun m => { m with slots := [], gens := tupd 0 m.gens (slotKey 52 k) (· + 1) }) s := by
  have freed : tset none s.mem.slots (slotKey 52 k) none = [] := by
    rw [slots]
    simp [tset]
  rw [releaseSlot_none (by rw [noMem]; rfl) (by rw [noMgt]; rfl), freedSlot, modMem, freed]
  rfl

/-- A full write of a pool line changes its bytes, its symbols in error and its POISON, and nothing else (R129, R137). -/
theorem poolWrite_full (off : Nat) (data : Line) (poison : Bool) (s : State) : ∃ flips,
    poolWrite off fullMask data poison s = { s with mem := { s.mem with
      cells := lineSet s.mem.cells off fullMask data
      flips := flips
      symErrs := tset [] s.mem.symErrs (off / 64) [] } } := by
  unfold poolWrite setPoison modMem
  dsimp only
  rw [if_pos rfl]
  exact ⟨_, rfl⟩

/-- The first line of a fetch is kept, and 1,023 are still to come (R157). -/
theorem fetchLine_first (slot : j < 2 ^ 20) (stands : tget none s.blk.replicas j = some x) (inFlight : x.valid = false) (first : x.got = [])
    (line : Nat) (data : Line) : fetchLine (fetchKey j x) line data false s = modBlk (fun b => { b with
      replicas := tset none b.replicas j (some { x with got := [line], valid := false }) })
        (poolWrite (s.mem.addressable * 2 ^ 30 + 65536 * j + 64 * line) fullMask data false s) := by
  unfold fetchLine
  dsimp only
  rw [fetchKey_slot slot, stands]
  dsimp only
  rw [if_neg (by simp [inFlight]), first]
  rfl

/-- A failed line abandons its fetch; no other waits for the place (R160). -/
theorem fetchLine_failed (slot : j < 2 ^ 20) (stands : tget none s.blk.replicas j = some x) (inFlight : x.valid = false)
    (noneWaits : s.blk.waiting = []) (line : Nat) (data : Line) : fetchLine (fetchKey j x) line data true s = dropReplica j s := by
  unfold fetchLine
  dsimp only
  rw [fetchKey_slot slot, stands]
  dsimp only
  rw [if_neg (by simp [inFlight]), if_pos rfl, noneWaits]
  rfl

theorem failAccess_fields (r : IssueReq) (f : FaultKind) (s : State) : (failAccess r f s).blk = s.blk
    ∧ (failAccess r f s).mem = { s.mem with failures := sat32 s.mem.failures 1 } :=
  ⟨(failAccess_keep r f s).blk rfl, (raiseRated_keep f _ _ _ _ _ (modMem (fun m => { m with failures := sat32 m.failures 1 }) s)).mem rfl⟩

end

/-- Settles O11: a declaration by what stands against it (`declareRegion_entered`, `declareRegion_refused`); a release because the
fetches that then start are of other regions (`startWaiting_withoutRegion`); the end of an epoch because the fetches that start at it
leave the sums and the regions (`countedFetches_fetchesOnly`); an answer by the one load it meets (`blockFetchResponse_outstanding`). -/
theorem regionsAreDeclaredFetchedAndReleased : Obligations.RegionsAreDeclaredFetchedAndReleased := by
  unfold Obligations.RegionsAreDeclaredFetchedAndReleased
  refine ⟨?declared, ?refused, ?released, ?completed, ?outstanding, ?epoch, ?noEpoch, ?fetched, ?failed⟩
  case declared =>
    intro p i f s right inRange legal noReason alone
    refine ⟨_, regionDeclare_legal right inRange legal, ?_⟩
    obtain ⟨effect, shown⟩ := regionEffect_csp i f s
    rw [shown, declareRegion_entered]
    · exact ⟨rfl, rfl⟩
    · exact noReason
    · exact alone
  case refused =>
    intro p i f s right inRange legal reason
    refine ⟨_, regionDeclare_legal right inRange legal, ?_⟩
    obtain ⟨effect, shown⟩ := regionEffect_csp i f s
    rw [shown, declareRegion_refused]
    · exact ⟨rfl, rfl⟩
    · exact reason
  case released =>
    intro p i s right inRange declared
    refine ⟨_, regionRelease_declared right inRange declared, ?_⟩
    have gone := startWaiting_withoutRegion (leaveRegion i s).blk.waiting.length (leaveRegion_withoutRegion i s)
    obtain ⟨_, _, _, _, _, only⟩ := startWaiting_fetchesOnly (leaveRegion i s).blk.waiting.length (leaveRegion i s)
    rw [only] at gone ⊢
    exact ⟨rfl, gone.replicas, gone.waiting, fun _ there => leaveRegion_tracker there, rfl⟩
  case completed =>
    intro i s draining noLoads
    exact congrArg Host.Outcome.next (if_pos ⟨draining, noLoads⟩)
  case outstanding =>
    intro i s loads
    exact congrArg Host.Outcome.next (if_neg (by simp [loads]))
  case epoch =>
    intro s safe due
    refine ⟨_, congrArg Host.Outcome.next (epochEnd_due safe due), ?_⟩
    obtain ⟨_, _, _, _, _, only⟩ := countedFetches_fetchesOnly s
    rw [only]
    exact ⟨rfl, rfl, rfl, rfl, rfl, rfl, rfl, rfl, rfl, rfl⟩
  case noEpoch =>
    intro s done
    exact congrArg Host.Outcome.next (epochEnd_done done)
  case fetched =>
    intro j line k data o x s safe slots inBuffer engine slot inBlock key asked stands inFlight first noMem noMgt
    refine ⟨_, blockFetchResponse_outstanding safe slots inBuffer engine slot inBlock key asked data false, ?_⟩
    rw [if_neg (by decide), fetchLine_first slot stands inFlight first]
    obtain ⟨_, stored⟩ := poolWrite_full (s.mem.addressable * 2 ^ 30 + 65536 * j + 64 * line) data false s
    rw [stored, releaseSlot_only (o := o)] <;> dsimp only [modMem, modBlk]
    · exact ⟨rfl, rfl, rfl, rfl⟩
    · exact slots
    · exact noMem
    · exact noMgt
  case failed =>
    intro j line k data o x s safe slots inBuffer engine slot inBlock key asked stands inFlight noMem noMgt noneWaits
    refine ⟨_, blockFetchResponse_outstanding safe slots inBuffer engine slot inBlock key asked data true, ?_⟩
    rw [if_pos rfl]
    obtain ⟨blk, mem⟩ := failAccess_fields o.req .targetFenced s
    generalize failAccess o.req .targetFenced s = u at blk mem ⊢
    rw [fetchLine_failed slot (by rw [blk]; exact stands) inFlight (by rw [blk]; exact noneWaits),
      releaseSlot_only (o := o)]
    · refine ⟨?_, (congrArg Mem.failures mem :), (congrArg Mem.cells mem :)⟩
      show (dropReplica j u).blk = _
      rw [dropReplica, modBlk_blk, blk]
    · exact (congrArg Mem.slots mem).trans slots
    · exact (congrArg Mem.held mem).trans noMem
    · exact (congrArg Mem.mgtHeld mem).trans noMgt

end Sys2Proof.Machine
end


section
/-! SUPPORT. The notices of a watch slot (R189, R190): the oldest one leaves, and a table of watches out of its canonical form. -/

namespace Sys2Proof.Machine

open Sys2Proof

/-- A message sent leaves the notices of every watch slot as they are. -/
theorem watchNotices_sendMsg (src dst cls : Nat) (m : MrMsg) (s : State) (slot : Nat) :
    watchNotices (sendMsg src dst cls m s) slot = watchNotices s slot := by
  unfold watchNotices
  rw [(sendMsg_keep src dst cls m s).grp rfl]

/-- The notices of a watch that wait, those of its slot's earlier watches first. -/
def noticesOf (w : Watch) : List (Nat × Nat × Word16 × Word64) :=
  w.old ++ (w.notice.map fun v => (w.word, w.site, w.tag, v)).toList

theorem watchNotices_eq (s : State) (slot : Nat) : watchNotices s slot = noticesOf (tget {} s.grp.watches slot) := by
  unfold watchNotices noticesOf
  dsimp only
  cases (tget {} s.grp.watches slot).notice <;> rfl

/-- A watch without its oldest notice: one of an earlier watch goes before its own. -/
def withoutOldest (w : Watch) : Watch := if w.old.isEmpty then { w with notice := none } else { w with old := w.old.tail }

theorem noticesOf_withoutOldest (w : Watch) : noticesOf (withoutOldest w) = (noticesOf w).tail := by
  unfold noticesOf withoutOldest
  cases w.old with
  | nil => cases w.notice <;> rfl
  | cons n ns => rfl

/-- The oldest notice of a slot taken from it. -/
def noticeTaken (slot : Nat) (s : State) : State :=
  modGrp (fun g => { g with watches := tset {} g.watches slot (withoutOldest (tget {} g.watches slot)) }) s

section
variable {slot word site : Nat} {tag : Word16} {v : Word64} {rest : List (Nat × Nat × Word16 × Word64)} {s : State}

/-- With a SIG credit and an empty queue before it the oldest notice leaves on the SIG class (R189, R190). -/
theorem watchNotice_leaves (waits : watchNotices s slot = (word, site, tag, v) :: rest) (safe : s.flt.safe = false)
    (credit : creditsOf s (wsOf (bankAt (8 * word) / 8)) (ssOf site) cSIG ≠ 0)
    (first : tget [] s.mrc.queues (pcKey (wsOf (bankAt (8 * word) / 8)) (ssOf site) cSIG) = []) :
    watchNotice slot s = sendMsg (wsOf (bankAt (8 * word) / 8)) (ssOf site) cSIG { pay := .watchNotice site v slot tag }
      (noticeTaken slot s) := by
  unfold watchNotice
  rw [waits]
  exact if_neg (by simp [safe, credit, first])

/-- Where the table of watches keeps what is written to it, the younger notices of the slot go on waiting (R189). -/
theorem watchNotices_noticeTaken (waits : watchNotices s slot = (word, site, tag, v) :: rest)
    (kept : ∀ w, tget {} (tset {} s.grp.watches slot w) slot = w) : watchNotices (noticeTaken slot s) slot = rest := by
  have taken : tget {} (noticeTaken slot s).grp.watches slot = withoutOldest (tget {} s.grp.watches slot) := kept _
  rw [watchNotices_eq, taken, noticesOf_withoutOldest, ← watchNotices_eq, waits, List.tail_cons]

end

/-- Watch slot 0 in a table out of its canonical form, which lists it twice: first turned off while a notice of its earlier watch
waits, behind that a watch that has fired. -/
def slotListedTwice : State := { State.reset with grp := { State.reset.grp with watches := [
  (0, { old := [(0, 0, 0, 1)] }),
  (0, { st := 2, mode := 1, threshold := 1, notice := some 1 })] } }

/-- With its one notice gone the first entry is as at reset and leaves the table, and the second one shows. -/
theorem slotListedTwice_taken : watchNotices (noticeTaken 0 slotListedTwice) 0 = [(0, 0, 0, 1)] := by
  decide +kernel

/-- Refutes O12, at its clause on the oldest waiting notice: in a table out of its canonical form, which lists the slot twice, the
entry behind shows once the first is as at reset, and its notice waits where the clause leaves none. The clause holds where the
table keeps what is written to it (`watchNotice_leaves`, `watchNotices_noticeTaken`). -/
theorem not_queuesGripsAndWatches : ¬ Obligations.QueuesGripsAndWatches := by
  unfold Obligations.QueuesGripsAndWatches
  rintro ⟨-, -, -, -, -, -, -, -, -, -, leaves⟩
  have waits : watchNotices slotListedTwice 0 = [(0, 0, 0, 1)] := rfl
  have safe : slotListedTwice.flt.safe = false := rfl
  have credit : creditsOf slotListedTwice (wsOf (bankAt (8 * 0) / 8)) (ssOf 0) cSIG ≠ 0 := by decide +kernel
  have first : tget [] slotListedTwice.mrc.queues (pcKey (wsOf (bankAt (8 * 0) / 8)) (ssOf 0) cSIG) = [] := rfl
  obtain ⟨u, run, noneLeft, -⟩ := leaves 0 0 0 0 1 [] slotListedTwice waits safe credit first
  have sent := (watchNotice_leaves waits safe credit first).symm.trans (Host.Outcome.next.inj run)
  have same := congrArg (watchNotices · 0) sent
  simp only [watchNotices_sendMsg, noneLeft, slotListedTwice_taken] at same
  cases same

end Sys2Proof.Machine
end


section
/-! SUPPORT. Collective contexts (R203 to R206, R219 to R221): a context after a change of one, COL lines as they come, and what the
finish of a group and the delivery of a chunk leave in the context. -/

namespace Sys2Proof.Machine

open Sys2Proof

/-! ### A context after a change -/

theorem ctxAt_congr {s t : State} (same : t.mst.ctxs = s.mst.ctxs) (c : Nat) : ctxAt t c = ctxAt s c := by
  rw [ctxAt, same, ← ctxAt]

/-- A context that is not free is not as at reset, so that the table lists it. -/
theorem context_listed {x : MstCtx} (notFree : x.st ≠ 0) : x ≠ {} := fun e => notFree (congrArg MstCtx.st e)

theorem ctxAt_modCtx {c : Nat} {f : MstCtx → MstCtx} {s : State} (listed : f (ctxAt s c) ≠ {}) :
    ctxAt (modCtx c f s) c = f (ctxAt s c) := tget_tupd_self _ _ listed

theorem ctxAt_modChunk {c : Nat} {s : State} (notFree : (ctxAt s c).st ≠ 0) (no : Nat) (f : Chunk → Chunk) :
    ctxAt (modChunk c no f s) c =
      { ctxAt s c with chunks := (ctxAt s c).chunks.map (fun h => if h.no = no then f h else h) } :=
  ctxAt_modCtx (context_listed notFree)

/-! ### COL headers and lines -/

theorem millFenced_congr {s t : State} (same : t.flt = s.flt) (w : Nat) : millFenced t w = millFenced s w := by
  simp only [millFenced, stationFenced, fenced, fenceOf, same]

/-- A message taken out of its buffer changes nothing of the millstones. -/
theorem takeRx_mst (dst cls src : Nat) (m : MrMsg) (s : State) : (takeRx dst cls src m s).mst = s.mst :=
  (takeRx_keep dst cls src m s).mst rfl

/-- A line taken out of its buffer: the header's next line is awaited, or none after its last (R205). -/
def lineTaken (w src i : Nat) (h : ColHdr) (m : MrMsg) (s : State) : State :=
  modMst (fun x => { x with hdr := tset none x.hdr (colKey w src) (if i + 1 = h.count then none else some (h, i + 1)) })
    (takeRx (wsOf w) cCOL src m s)

theorem lineTaken_mst (w src i : Nat) (h : ColHdr) (m : MrMsg) (s : State) : (lineTaken w src i h m s).mst = { s.mst with
    hdr := tset none s.mst.hdr (colKey w src) (if i + 1 = h.count then none else some (h, i + 1)) } := by
  rw [lineTaken, modMst_mst, takeRx_mst]

theorem lineTaken_millFenced (w src i : Nat) (h : ColHdr) (m : MrMsg) (s : State) :
    millFenced (lineTaken w src i h m s) w = millFenced s w :=
  millFenced_congr ((takeRx_keep (wsOf w) cCOL src m s).flt rfl) w

theorem colHdr_head {w src : Nat} {h : ColHdr} {m : MrMsg} {rest : List MrMsg} {s : State} (safe : s.flt.safe = false)
    (first : tget [] s.mrc.rx (pcKey src (wsOf w) cCOL) = m :: rest) (header : m.pay = .colHdr h) :
    colHdr w src h s = modMst (fun x => { x with hdr := tset none x.hdr (colKey w src) (some (h, 0)) })
      (takeRx (wsOf w) cCOL src m s) := by
  unfold colHdr
  rw [first]
  exact if_neg (by simp [safe, header])

/-- The line at the head of its buffer is placed by the header it follows, at a millstone that is not fenced (R205, R225). -/
theorem colLine_head {w src i : Nat} {h : ColHdr} {data : Line} {poison : Bool} {m : MrMsg} {rest : List MrMsg} {s : State}
    (safe : s.flt.safe = false) (first : tget [] s.mrc.rx (pcKey src (wsOf w) cCOL) = m :: rest) (line : m.pay = .colLine data poison)
    (awaited : tget none s.mst.hdr (colKey w src) = some (h, i)) :
    colLine w src data poison s = if millFenced s w then mstDiscard 1 (lineTaken w src i h m s)
      else placeCol h i (data, poison) (lineTaken w src i h m s) := by
  unfold colLine
  rw [first, awaited, ← lineTaken_millFenced w src i h m s]
  exact if_neg (by simp [safe, line])

/-- No line is placed in a context that is free or fenced (R205). -/
theorem placeCol_notSetUp {h : ColHdr} {s : State} (notSetUp : (ctxAt s h.context).st = 0 ∨ (ctxAt s h.context).st = 3) (i : Nat)
    (x : Line × Bool) : placeCol h i x s = mstDiscard 1 s := by
  unfold placeCol
  dsimp only
  rw [if_neg (by omega)]

/-! ### What leaves the progress of a context as it is -/

/-- The progress of a context: its state, its run, and the groups finished of each of its chunks. -/
def progressOf (s : State) (c : Nat) : Nat × Word64 × List (Nat × Nat) :=
  ((ctxAt s c).st, (ctxAt s c).run, (ctxAt s c).chunks.map (fun k => (k.no, k.finished)))

/-- From s to t the progress of a context that is not free stays as it is. -/
def ProgressKept (c : Nat) (s t : State) : Prop := (ctxAt s c).st ≠ 0 → progressOf t c = progressOf s c

theorem ProgressKept.refl (c : Nat) (s : State) : ProgressKept c s s := fun _ => rfl

theorem ProgressKept.notFree {c : Nat} {s t : State} (k : ProgressKept c s t) (notFree : (ctxAt s c).st ≠ 0) : (ctxAt t c).st ≠ 0 := by
  have same : (ctxAt t c).st = (ctxAt s c).st := congrArg Prod.fst (k notFree)
  rwa [same]

theorem ProgressKept.trans {c : Nat} {s t u : State} (a : ProgressKept c s t) (b : ProgressKept c t u) : ProgressKept c s u :=
  fun notFree => (b (a.notFree notFree)).trans (a notFree)

theorem ProgressKept.ofCtxs {s t : State} (same : t.mst.ctxs = s.mst.ctxs) (c : Nat) : ProgressKept c s t := fun _ => by
  unfold progressOf
  rw [ctxAt_congr same]

/-- What does not change the millstones changes no progress. -/
theorem Keep.progress {m : Nat} {s t : State} (k : Keep m s t) (noMill : m.testBit 8 = false) (c : Nat) : ProgressKept c s t :=
  .ofCtxs (congrArg Mst.ctxs (k.mst noMill)) c

theorem ProgressKept.ite {c : Nat} {s a b : State} {p : Prop} [Decidable p] (x : ProgressKept c s a) (y : ProgressKept c s b) :
    ProgressKept c s (if p then a else b) := by
  split
  · exact x
  · exact y

theorem ProgressKept.foldl {c : Nat} {α : Type} {f : State → α → State} (step : ∀ s x, ProgressKept c s (f s x)) :
    ∀ (xs : List α) (s : State), ProgressKept c s (xs.foldl f s)
  | [], s => .refl c s
  | x :: xs, s => (step s x).trans (.foldl step xs (f s x))

theorem modChunk_progressKept (c no : Nat) {f : Chunk → Chunk} (s : State)
    (keeps : ∀ h, (f h).no = h.no ∧ (f h).finished = h.finished := by exact fun _ => ⟨rfl, rfl⟩) :
    ProgressKept c s (modChunk c no f s) := fun notFree => by
  have each : ∀ h : Chunk, ((if h.no = no then f h else h).no, (if h.no = no then f h else h).finished) = (h.no, h.finished) := by
    intro h
    split
    · rw [(keeps h).1, (keeps h).2]
    · rfl
  simp [progressOf, ctxAt_modChunk notFree, Function.comp_def, each]

theorem mstWrite_progressKept (c no : Nat) (a : Word64) (x : Line × Bool) (s : State) : ProgressKept c s (mstWrite c no a x s) := by
  unfold mstWrite
  split
  · refine .ite ?failed ?stored
    case failed =>
      refine .trans ?_ (modChunk_progressKept c no _)
      exact .ite ((mstFails_keep _ _ _ _ _).progress rfl c) (.refl c s)
    case stored =>
      refine .trans ?_ ((afterMill_keep _ _ _ _).progress rfl c)
      refine .trans ?_ ((millWrite_keep _ _ _ _ _).progress rfl c)
      exact (ownerTurn_keep _ _ _ _).progress rfl c
  · refine .trans ?_ (modChunk_progressKept c no _)
    exact .ofCtxs rfl c

theorem planGroup_progressKept (c no g : Nat) (xs : List (Line × Bool)) (s : State) : ProgressKept c s (planGroup c no g xs s) := by
  unfold planGroup
  extract_lets -merge -underBinder +onlyGivenNames r w key fed ring after queued
  have hQueued : ProgressKept c s queued := by
    refine .ite ?_ (.refl c s)
    refine .trans ?_ (modChunk_progressKept c no _)
    exact (modSlu_keep _ _).progress rfl c
  refine .ite (hQueued.trans ?_) hQueued
  refine .foldl (fun s p => ?_) _ _
  exact mstWrite_progressKept c no _ p.1 s

/-- Before it counts the group as finished, its owner changes no progress (R206, R213 to R219). -/
theorem ownerFinish_eq_groupDone (c : Nat) (h : Chunk) (s : State) : ∃ u, ownerFinish c h s = groupDone c h.no u ∧ ProgressKept c s u := by
  unfold ownerFinish
  dsimp only
  generalize ownerResult s c (recOf s c) h h.finished = result
  obtain ⟨xs, bits, outs⟩ := result
  refine ⟨_, rfl, ?_⟩
  refine .trans ?delivered (.foldl (fun s k => (sendPart_keep _ _ _ _ _ _ s).progress rfl c) _ _)
  refine .trans ?written (.ite (planGroup_progressKept c _ _ _ _) (.refl c _))
  refine .trans ?counted (.foldl (fun s o => .foldl (fun s p => mstWrite_progressKept c _ _ _ s) _ s) _ _)
  refine .trans ?noted (.ite (.refl c _) (.ofCtxs rfl c))
  refine .trans ?met (modChunk_progressKept c _ _)
  exact .foldl (fun s a => (meetLine_keep _ _ a s).progress rfl c) _ s

/-! ### A group is finished -/

theorem groupDone_progress {c : Nat} {s : State} (notFree : (ctxAt s c).st ≠ 0) (no : Nat) :
    (ctxAt (groupDone c no s) c).run = (ctxAt s c).run ∧
    (ctxAt (groupDone c no s) c).chunks.map (fun k => (k.no, k.finished)) =
      ((ctxAt s c).chunks.map (fun k => (k.no, k.finished))).map (fun p => (p.1, if p.1 = no then p.2 + 1 else p.2)) := by
  have done : ctxAt (groupDone c no s) c = _ := ctxAt_modChunk notFree no (fun h => { h with finished := h.finished + 1 })
  rw [done]
  refine ⟨rfl, ?_⟩
  rw [List.map_map, List.map_map]
  refine List.map_congr_left fun k _ => ?_
  dsimp only [Function.comp_apply]
  split <;> rfl

theorem ownerFinish_progress {c : Nat} {s : State} (notFree : (ctxAt s c).st ≠ 0) (h : Chunk) :
    (ctxAt (ownerFinish c h s) c).chunks.map (fun k => (k.no, k.finished)) =
      (ctxAt s c).chunks.map (fun k => (k.no, if k.no = h.no then k.finished + 1 else k.finished)) ∧
    (ctxAt (ownerFinish c h s) c).run = (ctxAt s c).run := by
  obtain ⟨u, eq, kept⟩ := ownerFinish_eq_groupDone c h s
  obtain ⟨run, counts⟩ := groupDone_progress (kept.notFree notFree) h.no
  obtain ⟨-, sameRun, same⟩ : _ ∧ _ ∧ _ := by simpa only [progressOf, Prod.mk.injEq] using kept notFree
  rw [eq, counts, run, same, sameRun, List.map_map]
  exact ⟨rfl, rfl⟩

/-- The next group of a chunk that is ready at its owner is finished (R206). -/
theorem groupFinish_owner {c chunk : Nat} {h : Chunk} {s : State} (safe : s.flt.safe = false) (running : (ctxAt s c).st = 2)
    (up : millFenced s (ctxAt s c).mill = false)
    (next : (ctxAt s c).chunks.find? (fun h => decide (h.finished < (recOf s c).outGroups) ||
      (sendsPartial (recOf s c) h.no && decide (h.partialSent < (recOf s c).groups))) = some h)
    (named : chunk = h.no % max 1 (recOf s c).chunks) (alone : (recOf s c).nodes ≤ 1)
    (complete : groupReady (recOf s c) h h.finished = true) (noFeed : (recOf s c).sched = false)
    (streams : (streamNeeds s (recOf s c) h.no h.finished).all (fun a => (streamLine s c h.no a).isSome) = true) :
    groupFinish c chunk h.finished s = ownerFinish c h s := by
  unfold groupFinish
  dsimp only
  rw [if_neg (by simp [safe, running, up]), next]
  dsimp only
  rw [if_neg (by simp [named]), if_pos (.inr alone), if_pos ⟨rfl, complete, by simp [noFeed], streams⟩]

/-! ### A chunk is delivered -/

/-- The record of a run that ends changes the context at its end alone: the next run begins, with the chunks as they are (R221). -/
theorem runRecord_eq (c : Nat) (s : State) : ∃ f u, runRecord c s = modCtx c f u ∧ u.mst.ctxs = s.mst.ctxs ∧
    ∀ x, (f x).st = x.st ∧ (f x).chunks = x.chunks ∧ (f x).run = x.run + 1 := by
  generalize whole : runRecord c s = t
  unfold runRecord at whole
  extract_lets -merge -underBinder +onlyGivenNames r x line written counted recorded mirrored at whole
  refine ⟨_, mirrored, whole.symm, ?same, ?fields⟩
  case fields => exact fun _ => ⟨rfl, rfl, rfl⟩
  have hWritten : written.mst.ctxs = s.mst.ctxs := by
    unfold written
    refine foldl_keeps (·.mst.ctxs) (fun s i => ?_) _ s
    dsimp only
    split
    · rfl
    · rw [(millWrite_keep _ _ _ _ _).mst rfl]
  clear_value written
  have hRecorded : recorded.mst.ctxs = written.mst.ctxs := by
    unfold recorded
    split
    · rfl
    · rw [(raiseRated_keep _ _ _ _ _ _ _).mst rfl]
      rfl
  clear_value recorded
  have hMirrored : mirrored.mst.ctxs = recorded.mst.ctxs := by
    unfold mirrored
    split
    · refine foldl_keeps (·.mst.ctxs) (fun s i => ?_) _ _
      rfl
    · rfl
  rw [hMirrored, hRecorded, hWritten]

theorem runRecord_context {c : Nat} {s : State} (notFree : (ctxAt s c).st ≠ 0) : (ctxAt (runRecord c s) c).st = (ctxAt s c).st
    ∧ (ctxAt (runRecord c s) c).chunks = (ctxAt s c).chunks ∧ (ctxAt (runRecord c s) c).run = (ctxAt s c).run + 1 := by
  obtain ⟨f, u, eq, same, fields⟩ := runRecord_eq c s
  have here := ctxAt_congr same c
  rw [eq, ctxAt_modCtx, here]
  · exact fields (ctxAt s c)
  · exact context_listed (by rw [(fields _).1, here]; exact notFree)

/-- A running context without open chunks is ready once its run has ended (R203). -/
def runEnded (last : Bool) (x : MstCtx) : MstCtx :=
  if x.chunks.isEmpty && x.st == 2 then { x with st := if last then 1 else 2 } else x

theorem runEnded_fields {x : MstCtx} (running : x.st = 2) (last : Bool) : (runEnded last x).chunks = x.chunks
    ∧ (runEnded last x).run = x.run ∧ (runEnded last x).st ≠ 0 := by
  unfold runEnded
  split
  · exact ⟨rfl, rfl, by cases last <;> simp⟩
  · exact ⟨rfl, rfl, by rw [running]; decide⟩

/-- A delivered chunk leaves its context, and the last one of a run ends it (R220). -/
theorem deliverChunk_context {c : Nat} {s : State} (running : (ctxAt s c).st = 2) (h : Chunk) (last : Bool) :
    (ctxAt (deliverChunk c h last s) c).chunks = (ctxAt s c).chunks.filter (fun y => y.no != h.no)
    ∧ (last = true → (ctxAt (deliverChunk c h last s) c).run = (ctxAt s c).run + 1) := by
  unfold deliverChunk
  extract_lets -merge -underBinder +onlyGivenNames r left recorded w added told
  have hLeft : (ctxAt left c).st = 2 ∧ (ctxAt left c).chunks = (ctxAt s c).chunks.filter (fun y => y.no != h.no)
      ∧ (ctxAt left c).run = (ctxAt s c).run := by
    unfold left
    rw [ctxAt_modCtx (context_listed (by rw [running]; decide))]
    exact ⟨running, rfl, rfl⟩
  obtain ⟨leftSt, leftChunks, leftRun⟩ := hLeft
  have hRecorded : (ctxAt recorded c).st = 2 ∧ (ctxAt recorded c).chunks = (ctxAt left c).chunks
      ∧ (last = true → (ctxAt recorded c).run = (ctxAt left c).run + 1) := by
    unfold recorded
    split
    · obtain ⟨st, chunks, run⟩ := runRecord_context (c := c) (s := left) (by rw [leftSt]; decide)
      exact ⟨st.trans leftSt, chunks, fun _ => run⟩
    · exact ⟨leftSt, rfl, fun isLast => absurd isLast ‹_›⟩
  obtain ⟨recordedSt, recordedChunks, recordedRun⟩ := hRecorded
  have hTold : told.mst = recorded.mst := by
    have counted : added.2.mst = recorded.mst := by
      unfold added
      rw [(counterAdd_keep _ _ _ _).mst rfl, (ownerTurn_keep _ _ _ _).mst rfl]
    unfold told
    split
    · exact counted
    · rw [(mstFails_keep _ _ _ _ _).mst rfl, counted]
  have here : ctxAt told c = ctxAt recorded c := ctxAt_congr (congrArg Mst.ctxs hTold) c
  obtain ⟨chunks, run, notFree⟩ := runEnded_fields (x := ctxAt told c) (by rw [here]; exact recordedSt) last
  have ended : ctxAt (modCtx c (runEnded last) told) c = runEnded last (ctxAt told c) := ctxAt_modCtx (context_listed notFree)
  show (ctxAt (modCtx c (runEnded last) told) c).chunks = _ ∧ (last = true → (ctxAt (modCtx c (runEnded last) told) c).run = _)
  rw [ended, chunks, run, here, recordedChunks, leftChunks]
  exact ⟨rfl, fun isLast => by rw [recordedRun isLast, leftRun]⟩

theorem chunkComplete_delivers {c : Nat} {h : Chunk} {rest : List Chunk} {s : State} (safe : s.flt.safe = false)
    (oldest : (ctxAt s c).chunks = h :: rest) (closed : h.closed = true) (done : chunkDelivered s (recOf s c) h = true) :
    chunkComplete c s = deliverChunk c h (h.no % max 1 (recOf s c).chunks + 1 == (recOf s c).chunks) s := by
  unfold chunkComplete
  rw [oldest]
  exact if_neg (by simp [safe, closed, done])

theorem chunkComplete_open {c : Nat} {h : Chunk} {rest : List Chunk} {s : State} (oldest : (ctxAt s c).chunks = h :: rest)
    (isOpen : h.closed = false) : chunkComplete c s = s := by
  unfold chunkComplete
  rw [oldest]
  exact if_pos (by simp [isOpen])

/-- Settles O13: a header and a line by what stands at the head of the buffer (`colHdr_head`, `colLine_head`); a finished group because
all that its owner does before it counts the group leaves the progress of the context (`ownerFinish_eq_groupDone`); a delivery by what
the record of a run leaves in the context (`runRecord_context`, `deliverChunk_context`). -/
theorem collectivesGatherAndDeliver : Obligations.CollectivesGatherAndDeliver := by
  unfold Obligations.CollectivesGatherAndDeliver
  refine ⟨?header, ?placed, ?discarded, ?finished, ?delivered, ?stillOpen⟩
  case header =>
    intro w src h m rest s safe first header
    exact congrArg Host.Outcome.next (colHdr_head safe first header)
  case placed =>
    intro w src i h data poison m rest s safe first line awaited up
    exact congrArg Host.Outcome.next ((colLine_head safe first line awaited).trans (if_neg (by simp [up])))
  case discarded =>
    intro w src i h data poison m rest s safe first line awaited noPlace
    have gone : colLine w src data poison s = mstDiscard 1 (lineTaken w src i h m s) := by
      rw [colLine_head safe first line awaited]
      split
      · rfl
      · have same : ctxAt (lineTaken w src i h m s) h.context = ctxAt s h.context :=
          ctxAt_congr (by rw [lineTaken_mst]) h.context
        exact placeCol_notSetUp (by rw [same]; exact noPlace.resolve_left ‹_›) i _
    refine ⟨_, congrArg Host.Outcome.next gone, ?_, rfl⟩
    rw [mstDiscard, modMst_mst, lineTaken_mst]
  case finished =>
    intro c chunk h s safe running up next named alone complete noFeed streams
    refine ⟨_, congrArg Host.Outcome.next (groupFinish_owner safe running up next named alone complete noFeed streams), rfl, ?_⟩
    exact ownerFinish_progress (by rw [running]; decide) h
  case delivered =>
    intro c h rest s safe running oldest closed done
    refine ⟨_, congrArg Host.Outcome.next (chunkComplete_delivers safe oldest closed done), rfl, ?_⟩
    obtain ⟨chunks, run⟩ := deliverChunk_context running h (h.no % max 1 (recOf s c).chunks + 1 == (recOf s c).chunks)
    exact ⟨chunks, fun isLast => run (beq_iff_eq.mpr isLast)⟩
  case stillOpen =>
    intro c h rest s oldest isOpen
    exact congrArg Host.Outcome.next (chunkComplete_open oldest isOpen)

end Sys2Proof.Machine
end


section
/-! SUPPORT. The life of a context (R194, R203, R218, R222, R223): set-up, constants, abort and free, a member that is late, and the
lane rate of a millstone. -/

namespace Sys2Proof.Machine

open Sys2Proof

/-! ### Set-up, abort, free and constants -/

section
variable {p : Path} {c : Nat} {s : State}

/-- An operator's command for a context of the variant is carried out. -/
theorem command_carriedOut (right : mayWrite s p .o = true) (inRange : c < ctxCount s.part.variant) {t u : State} (does : t = u) :
    (.next (if mayWrite s p .o && decide (c < ctxCount s.part.variant) then t else s) : Out) = .next u := by
  rw [if_pos (by simp [right, inRange]), does]

/-- A set-up that no check refuses binds the context, ready, with the constants of its record (R203). -/
theorem ctxSetup_passes (noReason : setupReason s c (recOf s c) (bindTo s c (recOf s c)) = 0)
    (up : millFenced s (bindTo s c (recOf s c)) = false) :
    ctxSetup c s = modCtx c (fun _ => { st := 1, mill := bindTo s c (recOf s c), ks := (recOf s c).ks }) s := by
  unfold ctxSetup
  dsimp only
  rw [if_neg (not_not_intro noReason), up]
  rfl

theorem ctxSetup_refused (reason : setupReason s c (recOf s c) (bindTo s c (recOf s c)) ≠ 0) :
    ctxSetup c s = modCtx c (fun x => { x with reason := setupReason s c (recOf s c) (bindTo s c (recOf s c)) }) s := if_pos reason

theorem ctxAbort_running (running : (ctxAt s c).st = 2) : ctxAbort c s = modCtx c (fun y => { y with st := 1 }) (endRun c 0x40 s) :=
  if_pos running

theorem ctxAbort_idle (idle : (ctxAt s c).st ≠ 2) : ctxAbort c s = s := if_neg idle

theorem ctxFree_named (notFree : (ctxAt s c).st ≠ 0) (named : reelNames s c = true) :
    ctxFree c s = modCtx c (fun y => { y with reason := 7 }) s :=
  (if_neg notFree).trans (if_pos named)

theorem ctxFree_ready (ready : (ctxAt s c).st = 1) (unnamed : reelNames s c = false) : ctxFree c s = ctxDrop c s := by
  unfold ctxFree
  dsimp only
  rw [if_neg (by rw [ready]; decide), if_neg (by rw [unnamed]; decide), if_neg (by rw [ready]; decide)]

/-- A context is changed to what the change makes of it as it stands. -/
theorem modCtx_congr {f g : MstCtx → MstCtx} (same : f (ctxAt s c) = g (ctxAt s c)) : modCtx c f s = modCtx c g s := by
  have stored : f (tget {} s.mst.ctxs c) = g (tget {} s.mst.ctxs c) := same
  unfold modCtx modMst tupd
  dsimp only
  rw [stored]

/-- Eight constants replace all those of a context that is not free (R218). -/
theorem ctxConstants_all {ks : List Word32} (notFree : (ctxAt s c).st ≠ 0) (eight : ks.length = 8) :
    ctxConstants c ks s = modCtx c (fun x => { x with ks := ks }) s := by
  have all : ∀ old : List Word32, (ks ++ old.drop ks.length).take 8 = ks := fun old => by rw [← eight, List.take_left]
  exact modCtx_congr ((if_neg notFree).trans (by rw [all]))

end

/-! ### A member that waits at its due tick -/

section
variable {c m : Nat} {h : Chunk} {s : State}

/-- The first late member of a chunk is reported with it, and the chunk counts (R222). -/
theorem dueTick_late (safe : s.flt.safe = false)
    (oldest : (ctxAt s c).chunks.find? (fun h => (memAt h m).due.isSome && !(memAt h m).dueSeen) = some h)
    (come : schedAny s c m = false ∨ frameEnded s ((memAt h m).due.getD 0) = true) (isOpen : h.closed = false)
    (waits : memberDone (recOf s c) h m = false) (counted : (memAt h m).gone = false) (first : h.lated = false) :
    dueTick c m s = markLate c h.no (reportLate c h.no m s.now none
      (modChunk c h.no (modMember m (fun y => { y with dueSeen := true })) s)) := by
  unfold dueTick
  rw [oldest]
  dsimp only
  rw [if_neg (by rcases come with h | h <;> simp [safe, h]), if_pos (by simp [isOpen, waits, counted]), if_neg (by simp [first])]
  rfl

/-- At its late limit a member at a site is given up, unless the policy waits (R223). -/
theorem lateLimit_site (safe : s.flt.safe = false) (isLocal : m < 12) (policy : (recOf s c).late ≠ 2)
    (oldest : (ctxAt s c).chunks.find? (fun h => !h.closed && (memAt h m).due.isSome && !(memAt h m).gone &&
      !memberDone (recOf s c) h m && frameEnded s ((memAt h m).due.getD 0 + (recOf s c).lateFrames)) = some h) :
    lateLimit c m s = mstProgress c h.no (giveUp c h.no m s) := by
  unfold lateLimit
  dsimp only
  rw [if_neg (by rw [safe]; decide), if_pos isLocal, oldest]
  exact if_neg policy

end

/-- A context with an open chunk is not as at reset, so that the table lists it. -/
theorem context_listed_of_chunks {x : MstCtx} (nonempty : x.chunks ≠ []) : x ≠ {} := fun e => nonempty (congrArg MstCtx.chunks e)

theorem ctxAt_modChunk_of_chunks {c : Nat} {s : State} (nonempty : (ctxAt s c).chunks ≠ []) (no : Nat) (f : Chunk → Chunk) :
    ctxAt (modChunk c no f s) c =
      { ctxAt s c with chunks := (ctxAt s c).chunks.map (fun h => if h.no = no then f h else h) } :=
  ctxAt_modCtx (context_listed_of_chunks (by simpa using nonempty))

theorem ctxAt_reportLate (c no m : Nat) (a : Tick) (late : Option Nat) (s : State) : ctxAt (reportLate c no m a late s) c =
    { ctxAt s c with lates := { member := m, no := no, at_ := a, late := late } :: (ctxAt s c).lates } :=
  ctxAt_modCtx (fun e => List.cons_ne_nil _ _ (congrArg MstCtx.lates e))

theorem ctxAt_markLate {c : Nat} {s : State} (nonempty : (ctxAt s c).chunks ≠ []) (no : Nat) : ctxAt (markLate c no s) c =
    { ctxAt s c with
      late := sat32 (ctxAt s c).late 1
      chunks := (ctxAt s c).chunks.map (fun h => if h.no = no then { h with lated := true } else h) } := by
  have lated := ctxAt_modChunk_of_chunks nonempty no (fun h => { h with lated := true })
  rw [markLate, ctxAt_modCtx, lated]
  rw [lated]
  exact context_listed_of_chunks (by simpa using nonempty)

/-- The chunk counts once in the lateness of its context, with its member (R222). -/
theorem dueTick_late_context {c m : Nat} {h : Chunk} {s : State} (safe : s.flt.safe = false)
    (oldest : (ctxAt s c).chunks.find? (fun h => (memAt h m).due.isSome && !(memAt h m).dueSeen) = some h)
    (come : schedAny s c m = false ∨ frameEnded s ((memAt h m).due.getD 0) = true) (isOpen : h.closed = false)
    (waits : memberDone (recOf s c) h m = false) (counted : (memAt h m).gone = false) (first : h.lated = false) :
    (ctxAt (dueTick c m s) c).late = sat32 (ctxAt s c).late 1 ∧
    (ctxAt (dueTick c m s) c).lates = { member := m, no := h.no, at_ := s.now } :: (ctxAt s c).lates := by
  have nonempty : (ctxAt s c).chunks ≠ [] := List.ne_nil_of_mem (List.mem_of_find?_eq_some oldest)
  have seen := ctxAt_modChunk_of_chunks nonempty h.no (modMember m (fun y => { y with dueSeen := true }))
  rw [dueTick_late safe oldest come isOpen waits counted first,
    ctxAt_markLate (by rw [ctxAt_reportLate, seen]; simpa using nonempty), ctxAt_reportLate, seen]
  exact ⟨rfl, rfl⟩

/-! ### The lane rate of a millstone -/

/-- The lane rate that a millstone shows (R194). -/
def rateShown (w rate : Nat) (s : State) : State := modMst (fun m => { m with rate := tset 0 m.rate w (BitVec.ofNat 8 rate) }) s

section
variable {w rate : Nat} {s : State}

/-- A rate that is reached is only shown, where no MILLSTONE_SLOW stands that it would clear (R194, R374). -/
theorem laneRate_reached (safe : s.flt.safe = false) (there : hasWs s.part.variant w = true) (reached : 125 ≤ rate)
    (new : standAddr s .millstoneSlow w = none) : laneRate w rate s = rateShown w rate s := by
  unfold laneRate
  rw [if_neg (by simp [safe, there])]
  dsimp only
  rw [if_neg (by simpa using reached)]
  unfold standEnd
  rw [standAddr_congr (s := s) (by rfl), new]
  rfl

/-- A lower rate is no fault unless VDD_MILL has stood at its maximum (R194). -/
theorem laneRate_lowSupply (safe : s.flt.safe = false) (there : hasWs s.part.variant w = true) (below : rate < 125)
    (supply : vmillAtMax s = false) : laneRate w rate s = rateShown w rate s := by
  have shown : vmillAtMax (rateShown w rate s) = false := supply
  unfold laneRate
  rw [if_neg (by simp [safe, there])]
  dsimp only
  rw [if_pos (by simpa using below), ← rateShown, shown]
  rfl

/-- A lower rate after a millisecond at the maximum of VDD_MILL begins MILLSTONE_SLOW (R194). -/
theorem laneRate_slow (safe : s.flt.safe = false) (there : hasWs s.part.variant w = true) (below : rate < 125)
    (supply : vmillAtMax s = true) (stood : ∀ t, s.gaf.lastRaise = some t → t + 1000000 ≤ s.now) :
    laneRate w rate s = standBegin .millstoneSlow 4 w 0 (rateShown w rate s) := by
  have shown : vmillAtMax (rateShown w rate s) = true := supply
  have lastRaise : (rateShown w rate s).gaf.lastRaise = s.gaf.lastRaise := rfl
  unfold laneRate
  rw [if_neg (by simp [safe, there])]
  dsimp only
  rw [if_pos (by simpa using below), ← rateShown, shown, lastRaise, Bool.true_and]
  refine if_pos ?_
  cases last : s.gaf.lastRaise with
  | none => rfl
  | some t => exact decide_eq_true (stood t last)

end

/-- Settles O14: a command for a context by its state and by what stands against it; a due tick because the context has an open chunk,
so that the table keeps what is written (`dueTick_late_context`), which the check of pace leaves as it is; a late limit and a lane
rate by their cases. -/
theorem contextsAndTheirLateMembers : Obligations.ContextsAndTheirLateMembers := by
  unfold Obligations.ContextsAndTheirLateMembers
  refine ⟨?setUp, ?refused, ?aborted, ?idle, ?freed, ?named, ?constants, ?late, ?givenUp, ?reached, ?slow, ?lowSupply⟩
  case setUp =>
    intro p c s right inRange noReason up
    exact command_carriedOut right inRange (ctxSetup_passes noReason up)
  case refused =>
    intro p c s right inRange reason
    exact command_carriedOut right inRange (ctxSetup_refused reason)
  case aborted =>
    intro p c s right inRange running
    refine ⟨_, command_carriedOut right inRange (ctxAbort_running running), ?_, rfl⟩
    rw [ctxAt_modCtx (context_listed Nat.one_ne_zero)]
  case idle =>
    intro p c s right inRange idle
    exact command_carriedOut right inRange (ctxAbort_idle idle)
  case freed =>
    intro p c s right inRange ready unnamed
    exact command_carriedOut right inRange (ctxFree_ready ready unnamed)
  case named =>
    intro p c s right inRange notFree named
    exact command_carriedOut right inRange (ctxFree_named notFree named)
  case constants =>
    intro p c ks s right inRange notFree eight
    exact command_carriedOut right inRange (ctxConstants_all notFree eight)
  case late =>
    intro c m h s safe oldest come isOpen waits counted first
    refine ⟨_, rfl, ?_⟩
    have pace := paceCheck_keep (recOf s c).job (dueTick c m s)
    have tick := dueTick_keep c m s
    have here : ctxAt (paceCheck (recOf s c).job (dueTick c m s)) c = ctxAt (dueTick c m s) c :=
      ctxAt_congr (congrArg Mst.ctxs (pace.mst rfl)) c
    obtain ⟨late, lates⟩ := dueTick_late_context safe oldest come isOpen waits counted first
    rw [here]
    exact ⟨late, lates, (pace.mem rfl).trans (tick.mem rfl), (pace.slu rfl).trans (tick.slu rfl)⟩
  case givenUp =>
    intro c m h s safe isLocal policy oldest
    exact congrArg (fun t => Host.Outcome.next (paceCheck (recOf s c).job t)) (lateLimit_site safe isLocal policy oldest)
  case reached =>
    intro w rate s safe there reached new
    exact congrArg Host.Outcome.next (laneRate_reached safe there reached new)
  case slow =>
    intro w rate s safe there below supply stood new
    refine congrArg Host.Outcome.next ((laneRate_slow safe there below supply stood).trans ?_)
    exact standBegin_new ((standAddr_congr (by rfl) _ _).trans new) (by decide) 4 0
  case lowSupply =>
    intro w rate s safe there below supply
    exact congrArg Host.Outcome.next (laneRate_lowSupply safe there below supply)

end Sys2Proof.Machine
end


section
/-! SUPPORT. The power of a site (R239 to R242, R249): power-up, the steps of VSITE, and what each protection does. -/

namespace Sys2Proof.Machine

open Sys2Proof

section
variable {n : Nat} {s : State}

/-! ### Power-up -/

/-- What a power-up makes of the site: its setting at START, its sideband and its negotiation begun (R241, R242). -/
def poweredUp (n : Nat) (s : State) (y : SiteSt) : SiteSt := { y with
  st := 2
  on := true
  vsio := true
  sb := { start := some s.now }
  vset := y.limits.start
  vreq := y.limits.start
  overvolt := false
  undervolt := false
  groupFail := false
  clamped := false
  mods := []
  links := []
  neg := { base := baseWords s n, lastTempAt := some s.now } }

theorem sitePowerUp_starts (safe : s.flt.safe = false) (lit : s.boot.dark = false) (present : sitePresent s.part n = true)
    (down : (siteOf s n).st = 1 ∨ (siteOf s n).st = 5 ∧ siteRetrying s n = true) (phase : 9 ≤ s.boot.phase) :
    sitePowerUp n s = emit (.sideband n .hello [0x21])
      (modPins (fun p => { p with siteRstHigh := n :: p.siteRstHigh.filter (· ≠ n) }) (modSite n (poweredUp n s) s)) := by
  have booted : ¬ s.boot.phase < 9 := Nat.not_lt.mpr phase
  have ready : ((siteOf s n).st == 1 || ((siteOf s n).st == 5 && siteRetrying s n)) = true := by simpa using down
  unfold sitePowerUp
  dsimp only
  rw [ready, if_neg (by simp [safe, lit, present, booted])]
  rfl

theorem sitePowerUp_safe (safe : s.flt.safe = true) : sitePowerUp n s = s := if_pos (by rw [safe]; rfl)

/-! ### VSITE -/

/-- Where VSITE moves to: the request, within the installer's limits (R239). -/
def vsiteGoal (x : SiteSt) : Nat := max x.limits.min (min x.limits.max x.vreq)

theorem vsiteStep_moves (on : siteOn s n = true) (spaced : ∀ t, (siteOf s n).lastStep = some t → t + 1000 ≤ s.now)
    (away : (siteOf s n).vset ≠ vsiteGoal (siteOf s n)) :
    vsiteStep n s = modSite n (fun y => { y with
      vset := if y.vset < vsiteGoal (siteOf s n) then y.vset + 1 else y.vset - 1
      lastStep := some s.now }) s := by
  have far : ((siteOf s n).vset == vsiteGoal (siteOf s n)) = false := by simpa using away
  unfold vsiteStep
  dsimp only
  rw [← vsiteGoal, far, on]
  cases last : (siteOf s n).lastStep with
  | none => rfl
  | some t => exact if_neg (by simp [spaced t last])

theorem vsiteStep_there (there : (siteOf s n).vset = vsiteGoal (siteOf s n)) : vsiteStep n s = s := by
  unfold vsiteStep
  dsimp only
  rw [← vsiteGoal, there]
  exact if_pos (by simp)

/-! ### Protections -/

/-- In safe state no site's regulator delivers (R378). -/
theorem siteOn_safe (safe : s.flt.safe = true) : siteOn s n = false := by
  unfold siteOn
  rw [safe]
  rfl

/-- What is asked of a site under power does nothing to one that has none. -/
theorem sitePowered_only {t : State} (off : siteOn s n = false) : (if !siteOn s n then s else t) = s := if_pos (by rw [off]; rfl)

theorem sitePowered_does {t : State} (on : siteOn s n = true) : (if !siteOn s n then s else t) = t := if_neg (by rw [on]; decide)

/-- A fence for a cause of the site's own records the cause and reports it (R249, R251). -/
theorem siteFence_mild {k : FaultKind} (mild : kindSev k ≠ 3) (cause m g : Nat) (s : State) :
    siteFence n cause m g k s = sendFault (mkMsg s k 1 n (m + g * 2 ^ 13)) (siteCause n cause m g s) := raise_mild mild _ _ _ _

/-- A condition of a site that fences nothing is recorded at the site and reported (R240). -/
theorem siteRaise_mild {k : FaultKind} (mild : kindSev k ≠ 3) (f : SiteSt → SiteSt) :
    raise k 1 n 0 (modSite n f s) = sendFault (mkMsg s k 1 n 0) (modSite n f s) := raise_mild mild _ _ _ _

/-- A sideband without an answer or a TEMP for 1 ms fences its site (R249, R274). -/
theorem sidebandLost_silent {x : Tick} (live : sbLive s n = true) (last : (siteOf s n).neg.lastTempAt = some x)
    (silent : x + 1000000 ≤ s.now) : sidebandLost n s = siteFence n 7 0 0 .tsiSidebandLost s := by
  unfold sidebandLost
  rw [last]
  exact if_neg (by simp [live, silent])

end

/-- Settles O15: power-up and VSITE by their cases; each protection by whether the site's regulator delivers, which none does in safe
state. -/
theorem sitesArePoweredAndTheirVoltageMoves : Obligations.SitesArePoweredAndTheirVoltageMoves := by
  unfold Obligations.SitesArePoweredAndTheirVoltageMoves
  refine ⟨?powerUp, ?request, ?reserved, ?step, ?there, ?overvolt, ?undervolt, ?overcurrent, ?powerBump, ?clock, ?safe, ?sideband⟩
  case powerUp =>
    intro n s safe lit present down phase
    exact congrArg Host.Outcome.next (sitePowerUp_starts safe lit present down phase)
  case request =>
    intro n code s on inRange
    exact congrArg Host.Outcome.next (if_neg (by simp [on, inRange]))
  case reserved =>
    intro n code s reserved
    exact congrArg Host.Outcome.next (if_pos (by simp [reserved]))
  case step =>
    intro n s on spaced away
    exact congrArg Host.Outcome.next (vsiteStep_moves on spaced away)
  case there =>
    intro n s there
    exact congrArg Host.Outcome.next (vsiteStep_there there)
  case overvolt =>
    intro n s on
    exact congrArg Host.Outcome.next ((sitePowered_does on).trans (siteFence_mild (by decide) 5 0 0 _))
  case undervolt =>
    intro n s on
    exact congrArg Host.Outcome.next ((sitePowered_does on).trans (siteRaise_mild (by decide) _))
  case overcurrent =>
    intro n s on
    exact congrArg Host.Outcome.next ((sitePowered_does on).trans (siteRaise_mild (by decide) _))
  case powerBump =>
    intro n g s on inRange
    exact congrArg Host.Outcome.next (if_neg (by simp [on, inRange]))
  case clock =>
    intro n m s safe up notFenced inRange
    have powered : decide ((siteOf s n).st < 2) = false := decide_eq_false (Nat.not_lt.mpr up)
    have serves : ((siteOf s n).st == 5) = false := beq_false_of_ne notFenced
    have known : decide (64 ≤ m) = false := decide_eq_false (Nat.not_le.mpr inRange)
    exact congrArg Host.Outcome.next (if_neg (by rw [safe, powered, serves, known]; decide))
  case safe =>
    intro n g s safe
    have off : siteOn s n = false := siteOn_safe safe
    exact ⟨congrArg Host.Outcome.next (sitePowerUp_safe safe), congrArg Host.Outcome.next (sitePowered_only off),
      congrArg Host.Outcome.next (sitePowered_only off), congrArg Host.Outcome.next (sitePowered_only off),
      congrArg Host.Outcome.next (if_pos (by simp [off]))⟩
  case sideband =>
    intro n x s live last silent
    exact congrArg Host.Outcome.next (sidebandLost_silent live last silent)

end Sys2Proof.Machine
end


section
/-! SUPPORT. Training, trims, repair and degrade of a site (R242 to R250, R267): a clean training, the steps of taps, what a failing
lane starts, and how a swap, a narrowing and a fallback end. -/

namespace Sys2Proof.Machine

open Sys2Proof

section
variable {n m : Nat} {s : State}

/-! ### Training -/

theorem siteTraining_unanswered {r : TrainResult} (safe : s.flt.safe = false) (powered : (siteOf s n).st = 2)
    (silent : r.answered = false) : siteTraining n r s = siteFence n 7 0 0 .tsiSidebandLost s :=
  (if_neg (by simp [safe, powered])).trans (if_pos (by simp [silent]))

theorem siteTraining_clockFail {r : TrainResult} {k : Nat} (safe : s.flt.safe = false) (powered : (siteOf s n).st = 2)
    (answered : r.answered = true) (done : (siteOf s n).neg.done = true) (accepted : (siteOf s n).neg.accepted = true)
    (lost : r.clockFail = some k) : siteTraining n r s = siteFence n 3 k 0 .tsiClockFail s := by
  unfold siteTraining
  dsimp only
  rw [if_neg (by simp [safe, powered]), if_neg (by simp [answered]), if_neg (by simp [done, accepted]), lost]

/-- All modules of both ways, whole. -/
def wholeModules : Tab SiteMod := (List.range 64).map (fun m => (m, ({ st := 1 } : SiteMod)))

theorem trainModule_clean : trainModule [] = { st := 1 } := by decide

/-- A lane test in which no lane fails leaves every module whole (R244). -/
theorem trainModules_clean : (List.range 32 ++ (List.range 32).map (· + 32)).foldl
    (fun t m => tset {} t m (trainModule [])) ([] : Tab SiteMod) = wholeModules := by
  simp only [trainModule_clean]
  decide +kernel

/-- With every module whole, neither way has fewer than eight (R244). -/
theorem wholeModules_enough :
    ¬ (((List.range 32).filter (fun k => (tget {} wholeModules (0 + k)).st != 0)).length < 8
      ∨ ((List.range 32).filter (fun k => (tget {} wholeModules (32 + k)).st != 0)).length < 8) := by
  decide +kernel

/-- What a clean training makes of the site: in service at the highest agreed rate (R242). -/
def trainedClean (n : Nat) (s : State) (y : SiteSt) : SiteSt := { y with
  st := 3
  rate := ((List.range 3).find? (siteRateOk s n)).getD 0
  oldRate := ((List.range 3).find? (siteRateOk s n)).getD 0
  mods := wholeModules
  links := []
  targets := [] }

/-- A site is changed to what the change makes of it as it stands. -/
theorem modSite_congr {f g : SiteSt → SiteSt} (same : f (siteOf s n) = g (siteOf s n)) : modSite n f s = modSite n g s := by
  have stored : f (tget {} s.tsi n) = g (tget {} s.tsi n) := same
  unfold modSite tupd
  rw [stored]

theorem siteTraining_clean {r : TrainResult} (safe : s.flt.safe = false) (powered : (siteOf s n).st = 2)
    (answered : r.answered = true) (done : (siteOf s n).neg.done = true) (accepted : (siteOf s n).neg.accepted = true)
    (locked : r.clockFail = none) (noneFailed : r.failed = []) (noneSwept : r.taps = [])
    (d2b : fld (agreedWord s n 1) 8 6 = 32) (b2d : fld (agreedWord s n 1) 14 6 = 32) :
    siteTraining n r s = capUpdate (syncStreams (modSite n (trainedClean n s) s)) := by
  unfold siteTraining
  dsimp only
  rw [if_neg (by simp [safe, powered]), if_neg (by simp [answered]), if_neg (by simp [done, accepted]), locked]
  dsimp only
  simp only [d2b, b2d, noneFailed, noneSwept, List.filter_nil, List.map_nil, List.foldl_nil, trainModules_clean]
  rw [if_neg wholeModules_enough]
  exact congrArg (fun t => capUpdate (syncStreams t)) (modSite_congr rfl)

/-! ### Trims -/

/-- A tap stands, or moves by one in its threshold or by one in its delay (R246). -/
theorem tapStep_oneStep (cur goal : Nat) : tapStep cur goal = cur ∨ tapStep cur goal = cur + 1 ∨ tapStep cur goal + 1 = cur
    ∨ tapStep cur goal = cur + 32 ∨ tapStep cur goal + 32 = cur := by
  unfold tapStep
  dsimp only
  repeat' split
  all_goals omega

/-- What every trim interval notes: its tick, and the eyes as measured (R246, R247). -/
def trimNoted (n : Nat) (moves : List LaneTrim) (s : State) : State := modSite n (fun y => { y with
  lastTrim := some s.now
  margin := moves.foldl (fun t v => tset none t (v.module * 128 + v.lane) (some (v.width % 64, v.height % 32))) y.margin }) s

/-- A trim interval is due in service 10 µs after the last one (R246). -/
def trimDue (n : Nat) (s : State) : Prop :=
  s.flt.safe = false ∧ (siteOf s n).st = 3 ∧ ∀ x, (siteOf s n).lastTrim = some x → x + 10000 ≤ s.now

theorem trimInterval_frozen (due : trimDue n s) (frozen : (siteOf s n).freeze = true) (moves : List LaneTrim) :
    trimInterval n moves s = trimNoted n moves s := by
  obtain ⟨safe, serves, spaced⟩ := due
  unfold trimInterval
  dsimp only
  rw [frozen, if_pos rfl]
  cases last : (siteOf s n).lastTrim with
  | none => exact if_neg (by simp [safe, serves])
  | some x => exact if_neg (by simp [safe, serves, spaced x last])

/-- A lane takes one step toward its target, which is dropped once reached (R246). -/
def targetStep (k g : Nat) (y : SiteSt) : SiteSt := { y with
  taps := tupd 0 y.taps (y.rate * 8192 + k) (fun c => tapStep c g)
  targets := if tget 0 (tupd 0 y.taps (y.rate * 8192 + k) (fun c => tapStep c g)) (y.rate * 8192 + k) != g then [(k, some g)] else [] }

theorem trimNoted_site (serves : (siteOf s n).st = 3) : siteOf (trimNoted n [] s) n = { siteOf s n with lastTrim := some s.now } :=
  siteOf_modSite (by rw [serves]; decide)

theorem trimInterval_oneTarget {k g : Nat} (due : trimDue n s) (thawed : (siteOf s n).freeze = false)
    (one : (siteOf s n).targets = [(k, some g)]) : trimInterval n [] s = modSite n (targetStep k g) (trimNoted n [] s) := by
  obtain ⟨safe, serves, spaced⟩ := due
  have kept : (siteOf (trimNoted n [] s) n).targets = [(k, some g)] := by rw [trimNoted_site serves, one]
  unfold trimInterval
  dsimp only
  rw [← trimNoted, thawed, if_neg Bool.false_ne_true]
  refine (if_neg ?due).trans (modSite_congr ?step)
  case due =>
    cases last : (siteOf s n).lastTrim with
    | none => simp [safe, serves]
    | some x => simp [safe, serves, spaced x last]
  case step =>
    dsimp only [targetStep]
    rw [kept]
    simp [List.filter_cons]

/-- A write of the installer takes effect and is audited (R429). -/
theorem iWrite_installer {p : Path} {addr data : Nat} {f : State → State} (right : mayWrite s p .i = true) :
    iWrite p addr data f s = audit (some p) 0x10 (BitVec.ofNat 32 addr) (BitVec.ofNat 64 data) (f s) := if_pos right

/-! ### A failing lane -/

/-- A lane whose eye is wide and high enough, that corrects little and toggles, is not failing (R247). -/
theorem laneFailing_healthy {lane : Nat}
    (eye : ∀ p, tget none (siteOf s n).margin (m * 128 + lane) = some p → 8 ≤ p.1 ∧ 4 ≤ p.2)
    (few : ((tget [] (siteOf s n).laneTimes (m * 128 + lane)).filter (fun t => decide (s.now < t + 1000000))).length ≤ 256) :
    laneFailing s n m lane false = false := by
  have rare := Nat.not_lt.mpr few
  unfold laneFailing
  dsimp only
  cases measured : tget none (siteOf s n).margin (m * 128 + lane) with
  | none => simp [rare]
  | some p =>
    obtain ⟨wide, high⟩ := eye p measured
    simp [rare, Nat.not_lt.mpr wide, Nat.not_lt.mpr high]

/-- No failing lane of the other half waits to be handled (R250). -/
def otherHalfWhole (x : SiteMod) (h : Nat) : Bool := !x.failing.any (fun f => f / 32 != h)

/-- A data lane that fails in a module with no repair or narrowing in progress takes its half's free spare; without one the module
keeps its other half, where that is whole, or turns off (R248, R250). -/
theorem laneFail_data {lane : Nat} (safe : s.flt.safe = false) (serves : (siteOf s n).st = 3) (up : modUp s n m = true)
    (data : lane < 64) (used : (modOf s n m).st = 2 → lane / 32 = (modOf s n m).half) (notNarrowing : (modOf s n m).narrowing = none)
    (noRepair : (modOf s n m).repair = none) :
    laneFail n m lane s = (freeSpare (modOf s n m) (lane / 32)).elim
      (if (modOf s n m).st = 1 ∧ otherHalfWhole (modOf s n m) (lane / 32) = true then
        sideband n .narrow [m, 1 - lane / 32] (modMod n m (fun y => { y with narrowing := some (1 - lane / 32) }) s)
      else moduleOff n m s)
      (fun k => sideband n .repair [m, lane, k % 2] (modMod n m (fun y => { y with repair := some (lane, k) }) s)) := by
  have counts : laneFor (modOf s n m) lane = some lane := if_pos data
  unfold laneFail
  dsimp only
  rw [if_neg (by simp [safe, serves, up]), counts]
  dsimp only
  rw [if_neg (Nat.not_le.mpr data), if_neg (fun away => away.2 (used away.1)), if_neg (by simp [serves, notNarrowing]), noRepair,
    if_neg (by decide)]
  dsimp only
  rw [Bool.and_true, ← otherHalfWhole]
  cases freeSpare (modOf s n m) (lane / 32) with
  | none => rfl
  | some k => rfl

/-! ### What a repair or a narrowing leaves -/

/-- A site with a module in service is listed, so that it reads back what was written. -/
theorem siteOf_modSite_up {f : SiteSt → SiteSt} (up : (tget {} (f (siteOf s n)).mods m).st ≠ 0) :
    siteOf (modSite n f s) n = f (siteOf s n) :=
  tget_tupd_self _ _ (fun e => up (by rw [show f (siteOf s n) = {} from e]; rfl))

/-- A module in service reads back what was written, and so does the count of its site. -/
theorem modCount_modMod_site {f : SiteMod → SiteMod} {g : SiteCount → SiteCount} (up : (f (modOf s n m)).st ≠ 0) :
    modOf (modCount n g (modMod n m f s)) n m = f (modOf s n m)
      ∧ (siteOf (modCount n g (modMod n m f s)) n).count = g (siteOf s n).count := by
  have written : tget {} (tupd {} (siteOf s n).mods m f) m = f (modOf s n m) :=
    tget_tupd_self _ _ (fun e => up (congrArg SiteMod.st e))
  have listed : siteOf (modMod n m f s) n = { siteOf s n with mods := tupd {} (siteOf s n).mods m f } :=
    siteOf_modSite_up (m := m) (by dsimp only; rw [written]; exact up)
  have counted : siteOf (modCount n g (modMod n m f s)) n
      = { siteOf s n with mods := tupd {} (siteOf s n).mods m f, count := g (siteOf s n).count } := by
    rw [modCount, siteOf_modSite_up (m := m) (by rw [listed]; dsimp only; rw [written]; exact up), listed]
  rw [modOf, counted]
  exact ⟨written, rfl⟩

/-- A message waits at a site's sideband for its windows (R272). -/
def sbQueued (kind : SbKind) (vals : List Nat) (x : SiteSt) : SiteSt :=
  { x with sb := if x.sb.start.isSome then { x.sb with queue := x.sb.queue ++ [{ kind := kind, vals := vals }] } else x.sb }

/-- A message for the die leaves a module in service and the count of its site as they are (R272). -/
theorem sideband_site (up : (modOf s n m).st ≠ 0) (kind : SbKind) (vals : List Nat) :
    modOf (sideband n kind vals s) n m = modOf s n m ∧ (siteOf (sideband n kind vals s) n).count = (siteOf s n).count := by
  have site : siteOf (sideband n kind vals s) n = sbQueued kind vals (siteOf s n) :=
    siteOf_modSite_up (f := sbQueued kind vals) (m := m) up
  rw [modOf, site]
  exact ⟨rfl, rfl⟩

/-- Without lanes that wait, nothing follows (R250). -/
theorem laneQueue_empty (none : (modOf s n m).failing = []) : laneQueue n m s = s := by
  unfold laneQueue
  rw [none]
  rfl

/-- The spare stands for its lane, which is counted; die and collector are told (R248). -/
def repairTold (n m lane k : Nat) (s : State) : State :=
  sendFault (mkMsg s .tsiLaneRepaired 1 n (m + lane * 64)) (sideband n .repairDone [m, lane, k % 2]
    (modCount n (fun c => { c with swaps := min 65535 (c.swaps + 1) })
      (modMod n m (fun x => { x with repair := none, spares := x.spares.set k lane }) s)))

theorem repairTold_site (up : (modOf s n m).st ≠ 0) (lane k : Nat) :
    modOf (repairTold n m lane k s) n m = { modOf s n m with repair := none, spares := (modOf s n m).spares.set k lane }
      ∧ (siteOf (repairTold n m lane k s) n).count
        = { (siteOf s n).count with swaps := min 65535 ((siteOf s n).count.swaps + 1) } := by
  obtain ⟨stored, count⟩ := modCount_modMod_site (s := s) (n := n) (m := m)
    (f := fun x => { x with repair := none, spares := x.spares.set k lane })
    (g := fun c => { c with swaps := min 65535 (c.swaps + 1) }) up
  obtain ⟨told, toldCount⟩ := sideband_site (fun off => up ((congrArg SiteMod.st stored).symm.trans off)) .repairDone [m, lane, k % 2]
  exact ⟨told.trans stored, toldCount.trans count⟩

theorem repairTold_rest (lane k : Nat) : repairTold n m lane k s = { s with
    tsi := (repairTold n m lane k s).tsi
    flt := (repairTold n m lane k s).flt
    out := .sideband n .repairDone [m, lane, k % 2] :: s.out } := by
  unfold repairTold sendFault sideband emit modCount modMod modSite
  dsimp only

theorem modUp_listed (up : modUp s n m = true) : (modOf s n m).st ≠ 0 := by
  unfold modUp at up
  intro off
  rw [off] at up
  exact absurd up (by decide)

theorem spareDone_selects {lane k : Nat} (safe : s.flt.safe = false) (up : modUp s n m = true)
    (swap : (modOf s n m).repair = some (lane, k)) : spareDone n m s = laneQueue n m (repairTold n m lane k s) := by
  unfold spareDone
  rw [swap]
  dsimp only
  rw [if_neg (by simp [safe, up]), raise_mild (by decide)]
  rfl

/-- The module carries on with the half that it keeps, which is counted; the collector is told (R248). -/
def narrowingTold (n m h : Nat) (s : State) : State :=
  sendFault (mkMsg s .moduleNarrowed 1 n m) (modCount n (fun c => { c with narrows := min 255 (c.narrows + 1) })
    (modMod n m (fun x => { x with st := 2, half := h, narrowing := none, failing := x.failing.filter (fun l => l / 32 == h) }) s))

theorem narrowingTold_site (n m h : Nat) (s : State) :
    modOf (narrowingTold n m h s) n m = { modOf s n m with
        st := 2, half := h, narrowing := none, failing := (modOf s n m).failing.filter (fun l => l / 32 == h) }
      ∧ (siteOf (narrowingTold n m h s) n).count
        = { (siteOf s n).count with narrows := min 255 ((siteOf s n).count.narrows + 1) } :=
  modCount_modMod_site (s := s) (n := n) (m := m)
    (f := fun x => { x with st := 2, half := h, narrowing := none, failing := x.failing.filter (fun l => l / 32 == h) })
    (g := fun c => { c with narrows := min 255 (c.narrows + 1) }) (Nat.succ_ne_zero 1)

theorem narrowDone_keeps {h : Nat} (safe : s.flt.safe = false) (narrows : (modOf s n m).narrowing = some h) (d2b : m < 32) :
    narrowDone n m s = laneQueue n m (capUpdate (narrowingTold n m h s)) := by
  unfold narrowDone
  rw [narrows]
  dsimp only
  rw [if_neg (by simp [safe]), if_pos d2b, raise_mild (by decide)]
  rfl

/-- A fallback after which every module came up ends with its message alone (R243). -/
theorem fallbackEnd_allUp {x : Tick} (safe : s.flt.safe = false) (fell : (siteOf s n).fallbackAt = some x) (elapsed : x + 6000 ≤ s.now) :
    fallbackEnd n 0 s = capUpdate (sendFault (mkMsg s .tsiRateFallback 1 n 0) (modSite n (fun y => { y with fallbackAt := none }) s)) := by
  have noneOff : ∀ t : State, (List.range 64).filter (fun m => modUp t n m && decide (0 / 2 ^ m % 2 = 1)) = [] := fun t => by simp
  unfold fallbackEnd
  rw [fell]
  dsimp only
  rw [if_neg (by simp [safe, elapsed]), noneOff, raise_mild (by decide)]
  rfl

end

/-- Settles O17: a training by its result; a trim by FREEZE; a failing lane by its half's free spare (`laneFail_data`); the end of a
swap or a narrowing because a module in service reads back what is written to it (`modCount_modMod_site`). -/
theorem sitesTrainTrimRepairAndDegrade : Obligations.SitesTrainTrimRepairAndDegrade := by
  unfold Obligations.SitesTrainTrimRepairAndDegrade
  refine ⟨?unanswered, ?clock, ?trained, ?frozen, ?oneStep, ?target, ?tapWrite, ?freeze, ?spare, ?healthy, ?narrow, ?compared,
    ?narrowed, ?fallback⟩
  case unanswered =>
    intro n r s safe powered silent
    exact congrArg Host.Outcome.next (siteTraining_unanswered safe powered silent)
  case clock =>
    intro n m r s safe powered answered done accepted lost
    exact congrArg Host.Outcome.next (siteTraining_clockFail safe powered answered done accepted lost)
  case trained =>
    intro n r s safe powered answered done accepted locked noneFailed noneSwept d2b b2d
    exact ⟨_, congrArg Host.Outcome.next
      (siteTraining_clean safe powered answered done accepted locked noneFailed noneSwept d2b b2d), rfl⟩
  case frozen =>
    intro n moves s safe serves frozen spaced
    exact congrArg Host.Outcome.next (trimInterval_frozen ⟨safe, serves, spaced⟩ frozen moves)
  case oneStep => exact tapStep_oneStep
  case target =>
    intro n k g s safe serves thawed first one
    have due : trimDue n s := ⟨safe, serves, fun x last => nomatch first.symm.trans last⟩
    have noted := trimNoted_site serves
    have site : siteOf (modSite n (targetStep k g) (trimNoted n [] s)) n
        = targetStep k g { siteOf s n with lastTrim := some s.now } := by
      rw [siteOf_modSite, noted]
      rw [noted]
      exact fun off => nomatch serves.symm.trans off
    refine ⟨_, congrArg Host.Outcome.next (trimInterval_oneTarget due thawed one), ?_, ?_, rfl⟩
    · rw [site]
      rfl
    · rw [site]
      rfl
  case tapWrite =>
    intro p n m lane d th s right present d2b inRange
    have taken : laneTapWrite n m lane d th s = _ := if_neg (by simp [present, d2b, inRange])
    refine congrArg Host.Outcome.next ((iWrite_installer right).trans ?_)
    rw [taken]
    rfl
  case freeze =>
    intro p n on s right present
    exact congrArg Host.Outcome.next ((if_pos present).trans (iWrite_installer right))
  case spare =>
    intro n m lane k stuck s safe serves fails up d2b data used notNarrowing noRepair free
    have inUse : (modOf s n m).st = 2 → lane / 32 = (modOf s n m).half := fun half => used.resolve_left (by rw [half]; decide)
    refine congrArg Host.Outcome.next ((if_pos (by simp [d2b, fails])).trans ?_)
    rw [laneFail_data safe serves up data inUse notNarrowing noRepair, free]
    rfl
  case healthy =>
    intro n m lane s eye few
    exact congrArg Host.Outcome.next (if_neg (by simp [laneFailing_healthy eye few]))
  case narrow =>
    intro n m lane s safe serves whole b2d inRange data notNarrowing noRepair noneFail noSpare
    have up : modUp s n m = true := by simp [modUp, whole]
    have inUse : (modOf s n m).st = 2 → lane / 32 = (modOf s n m).half := fun half => nomatch whole.symm.trans half
    have other : otherHalfWhole (modOf s n m) (lane / 32) = true := by simp [otherHalfWhole, noneFail]
    refine congrArg Host.Outcome.next ((if_pos ⟨b2d, inRange⟩).trans ?_)
    rw [laneFail_data safe serves up data inUse notNarrowing noRepair, noSpare]
    exact if_pos ⟨whole, other⟩
  case compared =>
    intro n m lane k s safe up swap noneWait
    obtain ⟨stored, count⟩ := repairTold_site (modUp_listed up) lane k
    have quiet : laneQueue n m (repairTold n m lane k s) = repairTold n m lane k s :=
      laneQueue_empty (by rw [stored]; exact noneWait)
    refine ⟨repairTold n m lane k s, congrArg Host.Outcome.next ((spareDone_selects safe up swap).trans quiet), ?_, ?_, ?_, rfl,
      repairTold_rest lane k⟩
    · rw [stored]
    · rw [stored]
    · rw [count]
  case narrowed =>
    intro n m h s safe narrows noneWait d2b
    obtain ⟨stored, count⟩ := narrowingTold_site n m h s
    have cap := capUpdate_keep (narrowingTold n m h s)
    have site : siteOf (capUpdate (narrowingTold n m h s)) n = siteOf (narrowingTold n m h s) n := by
      rw [siteOf, siteOf, cap.tsi rfl]
    have kept : modOf (capUpdate (narrowingTold n m h s)) n m = modOf (narrowingTold n m h s) n m := by rw [modOf, site, ← modOf]
    rw [stored] at kept
    have quiet : laneQueue n m (capUpdate (narrowingTold n m h s)) = capUpdate (narrowingTold n m h s) :=
      laneQueue_empty ((congrArg SiteMod.failing kept).trans (by rw [noneWait]; rfl))
    refine ⟨_, congrArg Host.Outcome.next ((narrowDone_keeps safe narrows d2b).trans quiet), congrArg SiteMod.st kept,
      congrArg SiteMod.half kept, congrArg SiteMod.narrowing kept, ?_, cap.flt rfl⟩
    rw [site, count]
  case fallback =>
    intro n x s safe fell elapsed
    obtain ⟨words, cap⟩ := capUpdate_words
      (sendFault (mkMsg s .tsiRateFallback 1 n 0) (modSite n (fun y => { y with fallbackAt := none }) s))
    exact ⟨_, congrArg Host.Outcome.next ((fallbackEnd_allUp safe fell elapsed).trans cap), rfl, rfl, rfl⟩

end Sys2Proof.Machine
end


section
/-! SUPPORT. The sideband of a site (R267, R271 to R277, R446): what its messages leave, and what a negotiation agrees on. -/

namespace Sys2Proof.Machine

open Sys2Proof

section
variable {n : Nat} {s : State}

/-! ### Messages to the die -/

/-- A site whose sideband runs is listed. -/
theorem sbLive_listed (live : sbLive s n = true) : (siteOf s n).st ≠ 0 := by
  unfold sbLive at live
  simp only [Bool.and_eq_true, decide_eq_true_eq] at live
  obtain ⟨-, powered, -⟩ := live
  omega

/-- What the die asks is done while the site's sideband runs. -/
theorem sbLive_does {t : State} (live : sbLive s n = true) : (if !sbLive s n then s else t) = t := if_neg (by rw [live]; decide)

/-- A message for the die waits at the sideband of a listed site (R272). -/
theorem sideband_listed (listed : (siteOf s n).st ≠ 0) (kind : SbKind) (vals : List Nat) :
    siteOf (sideband n kind vals s) n = sbQueued kind vals (siteOf s n) := siteOf_modSite (f := sbQueued kind vals) listed

/-- A sideband that runs queues a message, whatever else the site holds (R272). -/
theorem sideband_started (started : (siteOf s n).sb.start.isSome = true) (kind : SbKind) (vals : List Nat) :
    (siteOf (sideband n kind vals s) n).sb
      = { (siteOf s n).sb with queue := (siteOf s n).sb.queue ++ [{ kind := kind, vals := vals }] } := by
  have queued : (sbQueued kind vals (siteOf s n)).sb
      = { (siteOf s n).sb with queue := (siteOf s n).sb.queue ++ [{ kind := kind, vals := vals }] } := if_pos started
  have site : siteOf (sideband n kind vals s) n = sbQueued kind vals (siteOf s n) := by
    refine tget_tupd_self (f := sbQueued kind vals) _ _ (fun reset => ?_)
    have empty : (sbQueued kind vals (siteOf s n)).sb = {} := congrArg SiteSt.sb reset
    rw [show (siteOf s n).sb.start = none from congrArg Sideband.start (queued.symm.trans empty)] at started
    cases started
  rw [site, queued]

/-- Messages of a list wait at a site's sideband. -/
def sbAllQueued (ms : List SbMsg) (x : SiteSt) : SiteSt :=
  { x with sb := if x.sb.start.isSome then { x.sb with queue := x.sb.queue ++ ms } else x.sb }

theorem sbAllQueued_nil (x : SiteSt) : sbAllQueued [] x = x := by
  unfold sbAllQueued
  rw [List.append_nil, ite_self]

theorem sbAllQueued_append (ms ks : List SbMsg) (x : SiteSt) : sbAllQueued ks (sbAllQueued ms x) = sbAllQueued (ms ++ ks) x := by
  unfold sbAllQueued
  cases started : x.sb.start.isSome
  · simp [started]
  · simp [started, List.append_assoc]

/-- Messages for the die, one after the other. -/
def sbTell (n : Nat) (ms : List SbMsg) (s : State) : State := ms.foldl (fun s m => sideband n m.kind m.vals s) s

/-- They wait in their order (R272). -/
theorem sbTell_site : ∀ (ms : List SbMsg) {s : State}, (siteOf s n).st ≠ 0 → siteOf (sbTell n ms s) n = sbAllQueued ms (siteOf s n)
  | [], s, _ => (sbAllQueued_nil _).symm
  | m :: ms, s, listed => by
    have first : siteOf (sideband n m.kind m.vals s) n = sbAllQueued [m] (siteOf s n) := sideband_listed listed _ _
    have rest := sbTell_site ms (s := sideband n m.kind m.vals s) (by rw [first]; exact listed)
    rw [first, sbAllQueued_append] at rest
    exact rest

/-- They stand in the record newest first, and nothing but the site changes besides. -/
theorem sbTell_rest : ∀ (ms : List SbMsg) (s : State), sbTell n ms s = { s with
    tsi := (sbTell n ms s).tsi
    out := (ms.map (fun m => OutMsg.sideband n m.kind m.vals)).reverse ++ s.out }
  | [], _ => rfl
  | m :: ms, s => (sbTell_rest ms (sideband n m.kind m.vals s)).trans (by
    rw [List.map_cons, List.reverse_cons, List.append_assoc]
    rfl)

/-! ### Negotiation -/

/-- While the negotiation is open, what changes in it is heard (R249). -/
theorem heard_modNeg (listed : (siteOf s n).st ≠ 0) {f : SiteNeg → SiteNeg} (notDone : (f (siteOf s n).neg).done = false) :
    siteOf (heard n (modNeg n f s)) n = { siteOf s n with neg := { f (siteOf s n).neg with lastTempAt := some s.now } }
      ∧ heard n (modNeg n f s) = { s with tsi := (heard n (modNeg n f s)).tsi } := by
  have changed : siteOf (modNeg n f s) n = { siteOf s n with neg := f (siteOf s n).neg } := siteOf_modSite listed
  have hears : heard n (modNeg n f s) = modNeg n (fun g => { g with lastTempAt := some s.now }) (modNeg n f s) :=
    if_neg (by rw [changed]; simp [notDone])
  rw [hears]
  refine ⟨?_, rfl⟩
  rw [modNeg, siteOf_modSite (by rw [changed]; exact listed), changed]

/-- HELLO_ACK aligns the die and is heard (R271, R276). -/
def dieAligned (n : Nat) (rev : Byte) (s : State) : State := heard n (modNeg n (fun g => { g with aligned := true, ackRev := rev }) s)

/-- The words that the base sends (R275, R276). -/
def baseSays (g : SiteNeg) : List SbMsg :=
  g.base.map (fun p => { kind := .cap, vals := [p.1, p.2.toNat] }) ++ [{ kind := .capEnd, vals := [7] }]

theorem helloAck_aligns {rev : Byte} (live : sbLive s n = true) (notAligned : (siteOf s n).neg.aligned = false) :
    helloAck n rev s = sbTell n (baseSays (siteOf (dieAligned n rev s) n).neg) (dieAligned n rev s) := by
  unfold helloAck sbTell baseSays
  rw [if_neg (by simp [live, notAligned]), List.foldl_append, List.foldl_map]
  rfl

/-- The words of the die with one that has newly come (R276, R277). -/
def capKept (w : Nat) (v : Word32) (g : SiteNeg) : SiteNeg := { g with
  die := if w < 8 then tset 0 g.die w v else g.die
  dieSent := if g.dieSent.contains w then g.dieSent else g.dieSent ++ [w]
  unsupported := if w < 8 then g.unsupported else g.unsupported ||| BitVec.ofNat 32 (2 ^ w) }

theorem capWordIn_kept {w : Nat} {v : Word32} (live : sbLive s n = true) (aligned : (siteOf s n).neg.aligned = true)
    (notDone : (siteOf s n).neg.done = false) (inRange : w < 32) : capWordIn n w v s = heard n (modNeg n (capKept w v) s) :=
  if_neg (by simp [live, aligned, notDone, inRange])

/-! ### A table written key by key -/

/-- Writing the default at a key above those listed leaves the table as it is. -/
theorem tset_default_above {α : Type} [DecidableEq α] {d : α} {i : Nat} : ∀ {t : Tab α}, (∀ p ∈ t, p.1 < i) → tset d t i d = t
  | [], _ => if_pos rfl
  | p :: t, below => by
    have first : p.1 < i := below p List.mem_cons_self
    rw [tset, if_neg (by omega), if_neg (by omega), tset_default_above (fun q there => below q (List.mem_cons_of_mem _ there))]

theorem tget_above {α : Type} {d : α} {i : Nat} : ∀ {t : Tab α}, (∀ p ∈ t, p.1 < i) → tget d t i = d
  | [], _ => rfl
  | p :: t, below => by
    have first : p.1 < i := below p List.mem_cons_self
    rw [tget, if_neg (by omega), if_neg (by omega), tget_above (fun q there => below q (List.mem_cons_of_mem _ there))]

/-- A table written at the keys from 0 on, in their order. -/
def tabulate {α : Type} [DecidableEq α] (d : α) (f : Nat → α) (k : Nat) : Tab α :=
  (List.range k).foldl (fun t i => tset d t i (f i)) []

theorem tabulate_succ {α : Type} [DecidableEq α] (d : α) (f : Nat → α) (k : Nat) :
    tabulate d f (k + 1) = tset d (tabulate d f k) k (f k) := by
  rw [tabulate, List.range_succ, List.foldl_append]
  rfl

theorem tabulate_below {α : Type} [DecidableEq α] (d : α) (f : Nat → α) : ∀ k, ∀ p ∈ tabulate d f k, p.1 < k
  | 0, p, there => absurd there List.not_mem_nil
  | k + 1, p, there => by
    rw [tabulate_succ] at there
    rcases mem_tset there with old | rfl
    · exact Nat.lt_succ_of_lt (tabulate_below d f k p old)
    · exact Nat.lt_succ_self k

/-- It reads what was written, the default too. -/
theorem tget_tabulate {α : Type} [DecidableEq α] (d : α) (f : Nat → α) : ∀ {k i : Nat}, i < k → tget d (tabulate d f k) i = f i
  | k + 1, i, inRange => by
    have below := tabulate_below d f k
    rw [tabulate_succ]
    rcases Nat.lt_succ_iff_lt_or_eq.mp inRange with old | rfl
    · by_cases unlisted : f k = d
      · rw [unlisted, tset_default_above below, tget_tabulate d f old]
      · rw [tget_tset_other _ _ _ unlisted (Nat.ne_of_lt old), tget_tabulate d f old]
    · by_cases unlisted : f i = d
      · rw [unlisted, tset_default_above below, tget_above below]
      · exact tget_tset_self _ _ unlisted

/-! ### The agreement -/

/-- An agreed word of the two sides, by its rule (R275, R276). -/
def negAgreed (g : SiteNeg) (k : Nat) : Word32 :=
  agreeWord k (tget 0 g.base k) (tget 0 g.die k) (min (fld (tget 0 g.base 0) 0 8) (fld (tget 0 g.die 0) 0 8))

/-- The base refuses the site (R276). -/
def negRefused (g : SiteNeg) : Bool := agreeFails (negAgreed g) (fun k => tget 0 g.die k)

/-- The negotiation as the base closes it (R276, R277). -/
def negClosed (now : Tick) (g : SiteNeg) : SiteNeg := { g with
  agreed := tabulate 0 (negAgreed g) 8
  revision := min (fld (tget 0 g.base 0) 0 8) (fld (tget 0 g.die 0) 0 8)
  done := true
  accepted := !negRefused g
  legacy := decide (min (fld (tget 0 g.base 0) 0 8) (fld (tget 0 g.die 0) 0 8) < 0x20)
  newer := decide (0x21 < fld (tget 0 g.die 0) 0 8)
  lastTempAt := some now }

/-- The words of a closed negotiation are those that its rules give. -/
theorem negClosed_agreed {k : Nat} (now : Tick) (g : SiteNeg) (inRange : k < 8) : tget 0 (negClosed now g).agreed k = negAgreed g k := by
  unfold negClosed
  dsimp only
  rw [tget_tabulate (0 : Word32) (negAgreed g) inRange]

/-- What the base answers (R277): its own eight words as agreed, what else the die sent as unsupported, and its verdict. -/
def agreementSays (g : SiteNeg) : List SbMsg :=
  ((List.range 32).filter (fun k => decide (k < 8) || g.dieSent.contains k)).map
      (fun k => { kind := .agreed, vals := if k < 8 then [k, (negAgreed g k).toNat, 0] else [k, 0, 1] })
    ++ [{ kind := .agreedEnd, vals := [b2n (!negRefused g)] }]

/-- The negotiation closed and the die told of it, a refusal not yet acted on. -/
def agreementTold (n : Nat) (s : State) : State := sbTell n (agreementSays (siteOf s n).neg) (modNeg n (negClosed s.now) s)

theorem capEnd_closes (live : sbLive s n = true) (aligned : (siteOf s n).neg.aligned = true) (notDone : (siteOf s n).neg.done = false) :
    capEnd n s = if negRefused (siteOf s n).neg then siteFence n 6 0 0 .tsiTrainFail (agreementTold n s) else agreementTold n s := by
  unfold capEnd agreementTold sbTell agreementSays
  dsimp only
  rw [if_neg (by simp [live, aligned, notDone]), List.foldl_append, List.foldl_map]
  rfl

/-- The die is told, and only the site and the record change. -/
theorem agreementTold_fields (listed : (siteOf s n).st ≠ 0) :
    (siteOf (agreementTold n s) n).neg = negClosed s.now (siteOf s n).neg
      ∧ (siteOf (agreementTold n s) n).st ≠ 0
      ∧ (agreementTold n s).tc = s.tc ∧ (agreementTold n s).flt = s.flt
      ∧ (agreementTold n s).out.head? = some (.sideband n .agreedEnd [b2n (!negRefused (siteOf s n).neg)]) := by
  have closed : siteOf (modNeg n (negClosed s.now) s) n = { siteOf s n with neg := negClosed s.now (siteOf s n).neg } :=
    siteOf_modSite listed
  have told := sbTell_site (agreementSays (siteOf s n).neg) (s := modNeg n (negClosed s.now) s) (by rw [closed]; exact listed)
  have rest := sbTell_rest (n := n) (agreementSays (siteOf s n).neg) (modNeg n (negClosed s.now) s)
  rw [closed] at told
  rw [← agreementTold] at told rest
  refine ⟨by rw [told]; rfl, by rw [told]; exact listed, (congrArg State.tc rest).trans rfl, (congrArg State.flt rest).trans rfl, ?_⟩
  rw [rest, agreementSays, List.map_append, List.reverse_append]
  rfl

/-- A fence for a cause of the site's own adds its message and the cause, and leaves the rest (R249, R251). -/
theorem siteFence_fields {k : FaultKind} (mild : kindSev k ≠ 3) (listed : (siteOf s n).st ≠ 0) (cause m g : Nat) :
    siteOf (siteFence n cause m g k s) n = { siteOf s n with cause := cause, causeModule := m, causeGroup := g, causeNew := true }
      ∧ (siteFence n cause m g k s).flt = { s.flt with net := s.flt.net ++ [mkMsg s k 1 n (m + g * 2 ^ 13)] }
      ∧ (siteFence n cause m g k s).out = s.out := by
  have caused : siteOf (siteCause n cause m g s) n
      = { siteOf s n with cause := cause, causeModule := m, causeGroup := g, causeNew := true } := siteOf_modSite listed
  rw [siteFence_mild mild]
  exact ⟨caused, rfl, rfl⟩

/-- CAP_END closes the negotiation; a refusal fences the site and is reported (R249, R276, R277). -/
theorem capEnd_fields (live : sbLive s n = true) (aligned : (siteOf s n).neg.aligned = true) (notDone : (siteOf s n).neg.done = false) :
    (siteOf (capEnd n s) n).neg = negClosed s.now (siteOf s n).neg
      ∧ (capEnd n s).out.head? = some (.sideband n .agreedEnd [b2n (!negRefused (siteOf s n).neg)])
      ∧ (capEnd n s).flt = if !negRefused (siteOf s n).neg then s.flt
          else { s.flt with net := s.flt.net ++ [mkMsg s .tsiTrainFail 1 n 0] } := by
  obtain ⟨neg, listed, tc, flt, told⟩ := agreementTold_fields (sbLive_listed live)
  rw [capEnd_closes live aligned notDone]
  cases refused : negRefused (siteOf s n).neg
  case false =>
    rw [refused] at told
    exact ⟨neg, told, flt⟩
  case true =>
    rw [refused] at told
    obtain ⟨site, sent, out⟩ := siteFence_fields (k := .tsiTrainFail) (by decide) listed 6 0 0
    rw [if_pos rfl, site, sent, out, flt, mkMsg, tc]
    exact ⟨neg, told, rfl⟩

/-! ### Requests of the die -/

/-- A RESEND of the die counted (R272). -/
def resendCounted (n : Nat) (s : State) : State := modCount n (fun c => { c with resendGot := min 65535 (c.resendGot + 1) }) s

/-- RESEND repeats the message whose word went out last, and is counted (R272). -/
theorem resendSb_again {m : SbMsg} (live : sbLive s n = true) (sent : (siteOf s n).sb.sent = some m) :
    siteOf (resendSb n s) n = { siteOf s n with
        count := { (siteOf s n).count with resendGot := min 65535 ((siteOf s n).count.resendGot + 1) }
        sb := sbAgain (siteOf s n).sb }
      ∧ resendSb n s = { s with tsi := (resendSb n s).tsi, out := .sideband n m.kind m.vals :: s.out } := by
  have counted : siteOf (resendCounted n s) n = { siteOf s n with
      count := { (siteOf s n).count with resendGot := min 65535 ((siteOf s n).count.resendGot + 1) } } :=
    siteOf_modSite (sbLive_listed live)
  have again : resendSb n s
      = emit (.sideband n m.kind m.vals) (modSite n (fun x => { x with sb := sbAgain x.sb }) (resendCounted n s)) := by
    unfold resendSb
    rw [sbLive_does live]
    dsimp only
    rw [← resendCounted, counted, sent]
  have stored := siteOf_modSite (n := n) (f := fun x => { x with sb := sbAgain x.sb }) (s := resendCounted n s)
    (by rw [counted]; exact sbLive_listed live)
  rw [counted] at stored
  rw [again]
  exact ⟨stored, rfl⟩

/-- A condition that goes on counts from when it began. -/
theorem since_getD (on : Prop) [Decidable on] (x : Option Tick) (now : Tick) :
    (if decide on then (match x with | some u => some u | none => some now) else none) = if on then some (x.getD now) else none := by
  by_cases goesOn : on
  · rw [if_pos (decide_eq_true goesOn), if_pos goesOn]
    cases x <;> rfl
  · rw [if_neg (by rw [decide_eq_false goesOn]; decide), if_neg goesOn]

/-- TEMP is kept, and the gaffer compares it with TJMAX (R274, R349). -/
theorem tempReport_kept {c : Int} (live : sbLive s n = true) (done : (siteOf s n).neg.done = true) :
    tempReport n c s = modPow n (fun p => { p with
        hotSince := if tjMax s n + deg 10 ≤ c then some (p.hotSince.getD s.now) else none
        coolSince := if c < tjMax s n - deg 2 then some (p.coolSince.getD s.now) else none })
      (modNeg n (fun g => { g with lastTemp := c, lastTempAt := some s.now }) s) := by
  simp only [← since_getD]
  exact if_neg (by simp [live, done])

/-- A SLEW_REQ for a rise is answered with the room it has, 0 where it is refused (R363). -/
theorem slewReq_rising {delta window r : Nat} {tag : Byte} (runs : gafRuns s = true) (live : sbLive s n = true)
    (serves : siteServing s n = true) (agreed : bit (siteFeatures s n) 2 = true) (rises : 0 < sgn 10 delta)
    (room : (if 0 < sgn 10 delta ∧ s.gaf.f < 1000000 then 0 else slewRoom s n (sgn 10 delta).natAbs) = r) :
    slewReq n delta window tag s = sideband n .slewGrant [uns 10 (r : Int), window, tag.toNat]
      (if r = 0 then s else modPow n (fun p => { p with grant := some ((r : Int), s.now + 1000 * window) }) s) := by
  have notFalling : ¬ sgn 10 delta < 0 := by omega
  unfold slewReq
  dsimp only
  rw [if_neg (by simp [runs, live, serves, agreed]), if_neg notFalling, room]

/-- While the throttle factor is 1 it has the room of the ledger (R352, R363). -/
theorem slewReq_granted {delta window : Nat} {tag : Byte} (runs : gafRuns s = true) (live : sbLive s n = true)
    (serves : siteServing s n = true) (agreed : bit (siteFeatures s n) 2 = true) (rises : 0 < sgn 10 delta)
    (full : s.gaf.f = 1000000) (room : slewRoom s n (sgn 10 delta).natAbs ≠ 0) :
    slewReq n delta window tag s = sideband n .slewGrant
      [uns 10 (slewRoom s n (sgn 10 delta).natAbs : Nat), window, tag.toNat]
      (modPow n (fun p => { p with grant := some ((slewRoom s n (sgn 10 delta).natAbs : Nat), s.now + 1000 * window) }) s) := by
  have unthrottled : ¬ (0 < sgn 10 delta ∧ s.gaf.f < 1000000) := fun throttled => absurd throttled.2 (by rw [full]; decide)
  rw [slewReq_rising runs live serves agreed rises (if_neg unthrottled), if_neg room]

/-- A MODULE_OFF_ACK of the last held flit leaves nothing to send again (R267). -/
theorem moduleOffAck_last {m : Nat} {f : Flit} (live : sbLive s n = true) (b2d : 32 ≤ m) (inRange : m < 64)
    (waits : (linkOf s n (m % 32)).offWait = true) (held : (linkOf s n (m % 32)).held = [f]) :
    moduleOffAck n m f.seq.toNat s = rerouteSlots n (m % 32) (linkOf s n (m % 32)).hopper (modLink n (m % 32)
      (fun y => { y with held := [], heldNo := [], hopper := [], offWait := false, used := [] }) s) := by
  unfold moduleOffAck
  dsimp only
  rw [if_neg (by simp [live, waits]; omega), held, List.findIdx?_cons, if_pos (beq_self_eq_true _)]
  rfl

/-- A new tag of a register access is carried out, and one already answered gets its answer again (R446). -/
theorem sbRead_new {a : Nat} {tag : Byte} (live : sbLive s n = true) (new : savedRsp s n tag = none) (answers : csAnswers s = true) :
    sbRead n a tag s = regRsp n tag false (regRead (.sideband n) a s).1 (regRead (.sideband n) a s).2 := by
  unfold sbRead
  rw [sbLive_does live, new, answers]
  rfl

theorem sbWrite_new {a : Nat} {tag : Byte} {d : Word32} (live : sbLive s n = true) (new : savedRsp s n tag = none)
    (answers : csAnswers s = true) : sbWrite n a tag d s = regRsp n tag true 0 (regWrite (.sideband n) a d s) := by
  unfold sbWrite
  rw [sbLive_does live, new, answers]
  rfl

theorem sbRead_saved {a : Nat} {tag : Byte} {w : Bool} {v : Word32} (live : sbLive s n = true) (saved : savedRsp s n tag = some (w, v)) :
    sbRead n a tag s = sideband n .regRsp [tag.toNat, b2n w, v.toNat] s := by
  unfold sbRead
  rw [sbLive_does live, saved]

theorem sbWrite_saved {a : Nat} {tag : Byte} {w : Bool} {v d : Word32} (live : sbLive s n = true)
    (saved : savedRsp s n tag = some (w, v)) : sbWrite n a tag d s = sideband n .regRsp [tag.toNat, b2n w, v.toNat] s := by
  unfold sbWrite
  rw [sbLive_does live, saved]

end

/-- Settles O16: each clause by what its command does at a site whose sideband runs, which is listed and so reads back what is
written to it; the agreed words by the table that the base writes from the first on. -/
theorem theSidebandNegotiatesAndAnswers : Obligations.TheSidebandNegotiatesAndAnswers := by
  unfold Obligations.TheSidebandNegotiatesAndAnswers
  refine ⟨?helloAck, ?cap, ?capEnd, ?resend, ?wordError, ?message, ?temp, ?slewReq, ?offAck, ?read, ?write, ?again, ?response⟩
  case helloAck =>
    intro n rev s live notAligned notDone
    obtain ⟨site, rest⟩ := heard_modNeg (f := fun g => { g with aligned := true, ackRev := rev }) (sbLive_listed live) notDone
    rw [← dieAligned] at site rest
    have told := sbTell_site (baseSays (siteOf (dieAligned n rev s) n).neg) (n := n) (s := dieAligned n rev s)
      (by rw [site]; exact sbLive_listed live)
    have record := sbTell_rest (n := n) (baseSays (siteOf (dieAligned n rev s) n).neg) (dieAligned n rev s)
    refine ⟨_, congrArg Host.Outcome.next (helloAck_aligns live notAligned), ?_, ?_, fun started => ?_, ?_⟩
    · rw [told, site]
      rfl
    · rw [record, baseSays, site, rest]
      simp
    · rw [told, site]
      exact congrArg Sideband.queue (if_pos started)
    · rw [record, rest]
  case cap =>
    intro n w v s live aligned notDone inRange
    obtain ⟨site, rest⟩ := heard_modNeg (f := capKept w v) (sbLive_listed live) notDone
    exact ⟨_, congrArg Host.Outcome.next (capWordIn_kept live aligned notDone inRange), congrArg SiteSt.neg site, rest⟩
  case capEnd =>
    intro n s live aligned notDone
    obtain ⟨neg, told, flt⟩ := capEnd_fields live aligned notDone
    refine ⟨capEnd n s, rfl, ?_⟩
    rw [neg]
    exact ⟨rfl, rfl, rfl, fun k inRange => negClosed_agreed _ _ inRange, rfl, told, flt⟩
  case resend =>
    intro n m s live sent
    obtain ⟨site, rest⟩ := resendSb_again live sent
    exact ⟨_, rfl, congrArg SiteSt.count site, congrArg SiteSt.sb site, rest⟩
  case wordError =>
    intro n s live
    exact congrArg Host.Outcome.next (sbLive_does live)
  case message =>
    intro n kind vals s started
    exact ⟨_, rfl, sideband_started started kind vals, rfl⟩
  case temp =>
    intro n c s live done
    refine ⟨_, congrArg Host.Outcome.next (tempReport_kept live done), ?_, rfl, rfl⟩
    exact congrArg SiteSt.neg (siteOf_modSite (f := fun x => { x with neg := { x.neg with lastTemp := c, lastTempAt := some s.now } })
      (sbLive_listed live))
  case slewReq =>
    intro n delta window tag s runs live serves agreed rises full room
    exact congrArg Host.Outcome.next (slewReq_granted runs live serves agreed rises full room)
  case offAck =>
    intro n m seq f s live b2d inRange waits held named
    rw [← named]
    exact congrArg Host.Outcome.next (moduleOffAck_last live b2d inRange waits held)
  case read =>
    intro n a tag s live new answers
    exact congrArg Host.Outcome.next (sbRead_new live new answers)
  case write =>
    intro n a tag d s live new answers
    exact congrArg Host.Outcome.next (sbWrite_new live new answers)
  case again =>
    intro n a tag w v d s live saved
    exact ⟨congrArg Host.Outcome.next (sbRead_saved live saved), congrArg Host.Outcome.next (sbWrite_saved live saved)⟩
  case response =>
    intro n tag w v s
    rfl

end Sys2Proof.Machine
end


section
/-! SUPPORT. The power of a site as the gaffer samples it (R280, R352, R362, R363): samples, 10 µs means, the slew rule and its ledger. -/

namespace Sys2Proof.Machine

open Sys2Proof

section
variable {n : Nat} {s : State}

/-! ### Samples -/

/-- What a sample shows of the site: VSITE, the current, and whether the droop and the clamp go on (R240, R251). -/
def sampleShown (n w mv : Nat) (s : State) : State := modSite n (fun x => { x with
  mv := BitVec.ofNat 16 (min 65535 mv)
  current := BitVec.ofNat 16 (if mv = 0 then 0 else min 65535 (w * 10000 / mv))
  undervolt := x.undervolt && decide (mv + 75 < 550 + 5 * x.vset)
  clamped := x.clamped && decide (4000 ≤ (if mv = 0 then 0 else min 65535 (w * 10000 / mv))) }) s

/-- A sample kept among those since the latest mean. -/
def sampleKept (n w mv : Nat) (s : State) : State :=
  modPow n (fun q => { q with sampleAt := some s.now, samples := w :: (powOf s n).samples }) (sampleShown n w mv s)

theorem powerSample_due {w mv : Nat} (on : siteOn s n = true)
    (due : (powOf s n).sampleAt = none ∨ ∃ a, (powOf s n).sampleAt = some a ∧ a + 1000 ≤ s.now) :
    powerSample n w mv s = if (w :: (powOf s n).samples).length = 10
      then newMean n ((w :: (powOf s n).samples).sum / 10) (sampleKept n w mv s) else sampleKept n w mv s := by
  unfold powerSample
  dsimp only
  rcases due with never | ⟨a, last, spaced⟩
  · rw [never, if_neg (by simp [on])]
    rfl
  · rw [last, if_neg (by simp [on, spaced])]
    rfl

theorem powerSample_off {w mv : Nat} (off : siteOn s n = false) : powerSample n w mv s = s := if_pos (by simp [off])

/-! ### Means and the slew rule -/

/-- The power state of a site with something listed in it reads back what was written. -/
theorem powOf_modPow {f : SitePow → SitePow} (listed : (f (powOf s n)).means ≠ []) : powOf (modPow n f s) n = f (powOf s n) :=
  tget_tupd_self _ _ (fun reset => listed (congrArg SitePow.means reset))

theorem modPow_congr {f g : SitePow → SitePow} (same : f (powOf s n) = g (powOf s n)) : modPow n f s = modPow n g s := by
  unfold modPow modGaf tupd
  dsimp only
  rw [show f (tget {} s.gaf.sites n) = g (tget {} s.gaf.sites n) from same]

/-- The changes by which a mean breaks the slew rule (R362). -/
def slewBreaks (s : State) (n mean : Nat) : List Int :=
  (((powOf s n).means.filter (fun m => decide (s.now ≤ m.1 + 100000 ∧ (powOf s n).slewFrom ≤ m.1))).filter
    (fun m => decide (slewAllow (powOf s n) m.1 (slewChange (powOf s n) m.2 mean) < (slewChange (powOf s n) m.2 mean).natAbs))).map
    (fun m => slewChange (powOf s n) m.2 mean)

/-- A mean among those of the last millisecond, newest first. -/
def meanKept (now : Tick) (mean : Nat) (p : SitePow) : SitePow := { p with
  means := (now, mean) :: p.means.filter (fun m => decide (now < m.1 + 1000000))
  samples := []
  lowSince := if p.clamped && decide (100 * mean ≤ 95 * p.limit)
    then (match p.lowSince with | some t => some t | none => some now) else none }

/-- A break counted, which engages the guard as the sixteenth within 1 s (R362). -/
def breakCounted (now : Tick) (bs : List Tick) (p : SitePow) : SitePow := { p with
  slewFrom := now
  viol := sat32 p.viol 1
  breaks := bs
  guardEnd := if p.guardEnd = none ∧ 16 ≤ bs.length then some (now + 1000000000) else p.guardEnd }

theorem newMean_within {mean : Nat} (noBreak : slewBreaks s n mean = []) : newMean n mean s = modPow n (meanKept s.now mean) s :=
  if_pos (by rw [← slewBreaks, noBreak]; rfl)

/-- A mean kept that breaks the rule, and its break counted among those of the last second. -/
def meanBroken (n mean : Nat) (s : State) : State :=
  modPow n (breakCounted s.now (s.now :: (powOf (modPow n (meanKept s.now mean) s) n).breaks.filter
    (fun t => decide (s.now < t + 1000000000)))) (modPow n (meanKept s.now mean) s)

/-- A break is reported, which leaves the gaffer's state as it is. -/
theorem newMean_breaks {mean : Nat} (breaks : slewBreaks s n mean ≠ []) : (newMean n mean s).gaf = (meanBroken n mean s).gaf := by
  have told : newMean n mean s = raiseRated .slewViolation n 10000000 9 n
      (budgetAddr (modPow n (meanKept s.now mean) s) (((slewBreaks s n mean).map (fun d => d.natAbs)).foldl max 0))
      (meanBroken n mean s) := if_neg (by rw [← slewBreaks]; simpa using breaks)
  rw [told, (raiseRated_keep _ _ _ _ _ _ _).gaf rfl]

/-- A rise beyond what a site without a grant may change by breaks the slew rule (R362). -/
theorem slewBreaks_rise {mean old : Nat} {a : Tick} (means : (powOf s n).means = [(a, old)]) (recent : s.now ≤ a + 100000)
    (judged : (powOf s n).slewFrom ≤ a) (noGrant : (powOf s n).grant = none) (beyond : old + 25 < mean) :
    slewBreaks s n mean = [(mean : Int) - old] := by
  have change : slewChange (powOf s n) old mean = (mean : Int) - old := if_pos (by omega)
  have allowed : slewAllow (powOf s n) a ((mean : Int) - old) = 25 := by rw [slewAllow, noGrant]
  have far : 25 < ((mean : Int) - old).natAbs := by omega
  simp [slewBreaks, means, recent, judged, change, allowed, far]

/-- A first break in 1 s: counted, and the level from which later changes are judged (R362). -/
theorem newMean_firstBreak {mean : Nat} (breaks : slewBreaks s n mean ≠ []) (noBreaks : (powOf s n).breaks = []) :
    powOf (newMean n mean s) n = breakCounted s.now [s.now] (meanKept s.now mean (powOf s n)) := by
  have kept : powOf (modPow n (meanKept s.now mean) s) n = meanKept s.now mean (powOf s n) := powOf_modPow (List.cons_ne_nil _ _)
  have earlier : (meanKept s.now mean (powOf s n)).breaks = [] := noBreaks
  rw [powOf, newMean_breaks breaks, ← powOf, meanBroken, powOf_modPow (by rw [kept]; exact List.cons_ne_nil _ _), kept, earlier]
  rfl

/-- The slew guard ends at its time (R362). -/
theorem execSlewGuardEnd_elapsed {a : Tick} (ends : (powOf s n).guardEnd = some a) (elapsed : a ≤ s.now) :
    execSlewGuardEnd n s = .next (modPow n (fun p => { p with guardEnd := none }) s) := by
  unfold execSlewGuardEnd
  rw [ends]
  exact congrArg Host.Outcome.next (if_pos elapsed)

/-! ### The ledger -/

/-- The ledger grants no more than is asked (R363). -/
theorem slewRoom_le (s : State) (m : Nat) : ∀ a, slewRoom s m a ≤ a
  | 0 => Nat.le_refl 0
  | a + 1 => by
    unfold slewRoom
    split
    · exact Nat.le_refl _
    · exact Nat.le_succ_of_le (slewRoom_le s m a)

/-- While the throttle factor is below 1 a rise is refused (R352). -/
theorem slewReq_refused {delta window : Nat} {tag : Byte} (runs : gafRuns s = true) (live : sbLive s n = true)
    (serves : siteServing s n = true) (agreed : bit (siteFeatures s n) 2 = true) (rises : 0 < sgn 10 delta)
    (throttled : s.gaf.f < 1000000) : slewReq n delta window tag s = sideband n .slewGrant [0, window, tag.toNat] s :=
  slewReq_rising runs live serves agreed rises (if_pos ⟨rises, throttled⟩)

end

/-- Settles O30: a sample by how many it makes, a mean by the changes that break the slew rule, a request by the throttle factor and
the ledger. -/
theorem sitePowerIsSampledAndSlewIsGuarded : Obligations.SitePowerIsSampledAndSlewIsGuarded := by
  unfold Obligations.SitePowerIsSampledAndSlewIsGuarded
  refine ⟨?kept, ?tenth, ?first, ?broken, ?off, ?guard, ?granted, ?refused, ?room⟩
  case kept =>
    intro n w mv cur u s on current shown due notTenth
    subst current
    subst shown
    refine congrArg Host.Outcome.next ((powerSample_due on due).trans (if_neg fun ten => notTenth ?_))
    rw [List.length_cons] at ten
    omega
  case tenth =>
    intro n w mv cur u s on current shown due nine
    subst current
    subst shown
    refine congrArg Host.Outcome.next ((powerSample_due on due).trans ((if_pos ?_).trans ?_))
    · rw [List.length_cons, nine]
    · rw [List.sum_cons]
      rfl
  case first =>
    intro n m s noMeans free
    have noBreak : slewBreaks s n m = [] := by rw [slewBreaks, noMeans]; rfl
    refine (newMean_within noBreak).trans (modPow_congr ?_)
    rw [meanKept, noMeans, free]
    rfl
  case broken =>
    intro n m old a s means recent judged free noGrant noBreaks noGuard beyond
    have breaks : slewBreaks s n m ≠ [] := by
      rw [slewBreaks_rise means recent judged noGrant beyond]
      exact List.cons_ne_nil _ _
    have stored := newMean_firstBreak breaks noBreaks
    refine ⟨_, rfl, congrArg SitePow.viol stored, congrArg SitePow.breaks stored, ?_⟩
    rw [stored, breakCounted, meanKept, means]
    simp only [List.filter_cons, List.filter_nil, decide_eq_true_eq]
  case off =>
    intro n w mv s off
    exact congrArg Host.Outcome.next (powerSample_off off)
  case guard =>
    intro n a s ends elapsed
    exact execSlewGuardEnd_elapsed ends elapsed
  case granted =>
    intro n d win r tag s runs live serves agreed rises full room positive
    subst room
    exact congrArg Host.Outcome.next (slewReq_granted runs live serves agreed rises full (Nat.ne_of_gt positive))
  case refused =>
    intro n d win tag s runs live serves agreed rises throttled
    exact congrArg Host.Outcome.next (slewReq_refused runs live serves agreed rises throttled)
  case room =>
    intro n m s
    exact slewRoom_le s n m

end Sys2Proof.Machine
end


section
/-! SUPPORT. The lanes of a pod link (R264 to R266, R286 to R289, R293): a flit that comes, and the flit that goes. -/

namespace Sys2Proof.Machine

open Sys2Proof

section
variable {l w : Nat} {s : State}

/-! ### Flits that come -/

section
variable {f : Flit} {errs : List (Nat × Byte)}

/-- A lane in use takes flits: its link is live, the map has it, and it has not dropped. -/
structure LaneTakes (s : State) (l w : Nat) : Prop where
  live : linkLive s l = true
  inRange : w < 16
  mapped : bit (podLink s l).map w = true
  running : laneStopped (podLink s l) w = false

theorem LaneTakes.guard (takes : LaneTakes s l w) :
    (!linkLive s l || decide (16 ≤ w) || !bit (podLink s l).map w || laneStopped (podLink s l) w) = false := by
  obtain ⟨live, inRange, mapped, running⟩ := takes
  simp [live, inRange, mapped, running]

/-- The corrected symbols of a flit attributed to its lane (R293). -/
def flitNoted (l w : Nat) (errs : List (Nat × Byte)) (s : State) : State := laneCorr l w (flitCorrected errs).length s

/-- An uncorrectable flit counted, and its replay asked for (R265, R293). -/
def flitLost (l w : Nat) (u : State) : State :=
  laneReplay l w (modPodLane l w (fun x => { x with uncorr := u.now :: lately u (podLane u l w).uncorr }) u)

/-- A flit that fails to decode asks for replay; below the limits that drop the lane that is all (R265, R293). -/
theorem podReceive_lost (takes : LaneTakes s l w) (lost : flitUncorrectable errs = true)
    (few : (lately (flitNoted l w errs s) (podLane (flitNoted l w errs s) l w).uncorr).length < 16)
    (stays : dropSeen (flitLost l w (flitNoted l w errs s)) l w 3 = false) :
    podReceive l w f errs s = flitLost l w (flitNoted l w errs s) := by
  unfold podReceive
  dsimp only
  rw [if_neg (by rw [takes.guard]; decide), if_pos (by rw [lost]; rfl), ← flitNoted, ← flitLost,
    if_neg (by rw [List.length_cons]; omega), if_neg (by rw [stays]; decide)]

/-- What a sequenced flit does with its lane once its acknowledgement is taken (R264, R265, R312). -/
def flitSequenced (l w : Nat) (g : Flit) (u : State) : State :=
  if g.seq.toNat ≠ (podLane u l w).expect then
    laneReplay l w (if decide ((g.seq.toNat + 4096 - (podLane u l w).expect) % 4096 < 2048) && (podLane u l w).nakAt.isNone
      then podViolation l u else u)
  else
    podSlots l w (g.type == 3) 4 (g.slots.filterMap id)
      (modPodLink l (fun x => { x with
          ourUsed := (List.range 7).foldl (fun t c => tupd 0 t c (· - g.cred.getD c 0)) x.ourUsed
          rxFlits := x.rxFlits + 1
          rxBytes := x.rxBytes + BitVec.ofNat 64 (flitBytes (g.type == 3) (g.slots.filterMap id)) })
        (modPodLane l w (fun x => { x with expect := (x.expect + 1) % 4096, nak := false, nakAt := none }) u))

/-- A flit of a known type that decodes gives its acknowledgement, and then, unless it is idle or the lane has dropped, what it
carries (R264, R266). -/
theorem podReceive_decoded (takes : LaneTakes s l w) (decodes : flitUncorrectable errs = false)
    (known : (flitDecoded f errs).type = 0 ∨ (flitDecoded f errs).type = 1 ∨ (flitDecoded f errs).type = 3)
    (stays : dropSeen (flitNoted l w errs s) l w 3 = false) :
    podReceive l w f errs s =
      (let u := laneAck l w (flitDecoded f errs).ack (flitDecoded f errs).nak (flitNoted l w errs s)
       if (flitDecoded f errs).type = 0 ∨ laneStopped (podLink u l) w = true then u else flitSequenced l w (flitDecoded f errs) u) := by
  have typed : (!((flitDecoded f errs).type == 0 || (flitDecoded f errs).type == 1 || (flitDecoded f errs).type == 3)) = false := by
    rcases known with idle | data | stream <;> simp [*]
  unfold podReceive
  dsimp only
  rw [if_neg (by rw [takes.guard]; decide), if_neg (by rw [decodes, typed]; decide), ← flitNoted, if_neg (by rw [stays]; decide)]
  rfl

/-- A data or stream flit on a lane that goes on is judged by its SEQ (R264). -/
theorem podReceive_sequenced {u : State} (takes : LaneTakes s l w) (decodes : flitUncorrectable errs = false)
    (carries : (flitDecoded f errs).type = 1 ∨ (flitDecoded f errs).type = 3) (stays : dropSeen (flitNoted l w errs s) l w 3 = false)
    (acked : u = laneAck l w (flitDecoded f errs).ack (flitDecoded f errs).nak (flitNoted l w errs s))
    (goesOn : laneStopped (podLink u l) w = false) : podReceive l w f errs s = flitSequenced l w (flitDecoded f errs) u := by
  rw [podReceive_decoded takes decodes (.inr carries) stays]
  dsimp only
  rw [← acked]
  refine if_neg ?_
  rintro (idle | stopped)
  · rw [idle] at carries
    exact absurd carries (by decide)
  · exact absurd (goesOn.symm.trans stopped) (by decide)

/-- The flit after the expected one shows a gap, a violation where no replay has been asked for yet (R265, R312). -/
theorem flitSequenced_gap {g : Flit} {u : State} (skips : g.seq.toNat = (podLane u l w).expect + 1) (first : (podLane u l w).nakAt = none) :
    flitSequenced l w g u = laneReplay l w (podViolation l u) := by
  have ahead : ((podLane u l w).expect + 1 + 4096 - (podLane u l w).expect) % 4096 = 1 := by omega
  unfold flitSequenced
  rw [skips, if_pos (Nat.succ_ne_self _), ahead, first]
  rfl

end

/-! ### The flit that goes -/

/-- The turn passed on to the lane after this one (R287). -/
def turnPassed (l w : Nat) (s : State) : State := modPodLink l (fun x => { x with laneTurn := (w + 1) % 16 }) s

theorem podFlitSend_due (live : linkLive s l = true) (due : dueLane s l = some w) :
    podFlitSend l w s = modPodLane l w (fun y => { y with busyUntil := s.now + flitTicks }) (fillLane l w (turnPassed l w s)) :=
  if_neg (by simp [live, due])

theorem podFlitSend_notDue (notDue : dueLane s l ≠ some w) : podFlitSend l w s = s := if_pos (by simp [notDue])

section
variable (room : (podLane s l w).held.length < 128) (noGroup : pledged s l w = none)
include room noGroup

/-- Link commands that wait go before a new run (R289). -/
theorem fillLane_commands (waiting : cmdsFor s l w ≠ []) : fillLane l w s = sendCmds l w (cmdsFor s l w) s := by
  unfold fillLane
  dsimp only
  rw [if_neg (Nat.not_le.mpr room), noGroup]
  exact if_pos (by simpa using waiting)

theorem fillLane_noCommands (nothing : cmdsFor s l w = []) (noFlow : nextFlow s l = none)
    (noCredit : (List.range 7).any (fun c => decide (tget 0 (podLink s l).owe c ≠ 0)) = false) : fillLane l w s = laneIdle l w s := by
  unfold fillLane
  dsimp only
  rw [if_neg (Nat.not_le.mpr room), noGroup, nothing, noFlow]
  refine (if_neg (by decide)).trans ?_
  exact if_neg (by rw [noCredit]; decide)

/-- A new run goes with its ROUTE where one flit has room for both (R287 to R289). -/
theorem fillLane_newRun {f : TxFlow} {xs : List FlowSlot} (nothing : cmdsFor s l w = []) (next : nextFlow s l = some f)
    (run : xs = runOf s f (linkCap s l f.cls - tget 0 (podLink s l).ourUsed f.cls) 4 3 (fromFirst s f))
    (new : ∀ q, continues s (podLane s l w) f q = false) (fits : xs ≠ []) (noStream : xs.any (·.stream) = false) :
    fillLane l w s = sendRun l w f xs false s := by
  unfold fillLane
  dsimp only
  rw [if_neg (Nat.not_le.mpr room), noGroup, nothing, next]
  refine (if_neg (by decide)).trans ?_
  dsimp only
  rw [← run, if_neg (by rw [new]; decide)]
  exact if_neg (by simp [fits, noStream])

end

/-- A lane whose replay buffer is full sends an idle flit (R266). -/
theorem fillLane_full (full : 128 ≤ (podLane s l w).held.length) : fillLane l w s = laneIdle l w s := if_pos full

/-- An idle flit carries the acknowledgement of its lane, and only the pod and the record change (R104, R266, R286). -/
theorem podFlitSend_idle (live : linkLive s l = true) (due : dueLane s l = some w)
    (idle : fillLane l w (turnPassed l w s) = laneIdle l w (turnPassed l w s)) :
    (podFlitSend l w s).out = .podFlit l w (laneStamp (podLane (turnPassed l w s) l w) { type := 0 }) :: s.out
      ∧ podFlitSend l w s = { s with pod := (podFlitSend l w s).pod, out := (podFlitSend l w s).out } := by
  rw [podFlitSend_due live due, idle]
  unfold laneIdle modPodLane modPodLink modPod emit
  exact ⟨rfl, rfl⟩

end

/-- Settles O22: a flit that comes by whether it decodes, its type and its SEQ; a lane that is due by what it has to send. -/
theorem lanesReceiveAndSendFlits : Obligations.LanesReceiveAndSendFlits := by
  unfold Obligations.LanesReceiveAndSendFlits
  refine ⟨?lost, ?replay, ?idle, ?expected, ?gap, ?run, ?commands, ?nothing, ?notDue⟩
  case lost =>
    intro l w f errs u t s live inRange mapped running lost noted few asked stays
    subst noted
    subst asked
    exact congrArg Host.Outcome.next (podReceive_lost ⟨live, inRange, mapped, running⟩ lost few stays)
  case replay =>
    intro l w s
    exact ⟨_, rfl, rfl, fun _ => rfl⟩
  case idle =>
    intro l w f errs u s live inRange mapped running decodes idle noted stays
    subst noted
    refine congrArg Host.Outcome.next ((podReceive_decoded ⟨live, inRange, mapped, running⟩ decodes (.inl idle) stays).trans ?_)
    exact if_pos (.inl idle)
  case expected =>
    intro l w f g errs v u s live inRange mapped running decodes decoded carries noted stays acked goesOn inOrder
    subst decoded noted
    have judged := podReceive_sequenced ⟨live, inRange, mapped, running⟩ decodes carries stays acked goesOn
    exact congrArg Host.Outcome.next (judged.trans (if_neg (not_not_intro inOrder)))
  case gap =>
    intro l w f g errs v u s live inRange mapped running decodes decoded carries noted stays acked goesOn skips first
    subst decoded noted
    have judged := podReceive_sequenced ⟨live, inRange, mapped, running⟩ decodes carries stays acked goesOn
    exact congrArg Host.Outcome.next (judged.trans (flitSequenced_gap skips first))
  case run =>
    intro l w f xs v s live due turn room noGroup nothing next run new fits noStream
    subst turn
    refine congrArg Host.Outcome.next ((podFlitSend_due live due).trans (congrArg _ ?_))
    exact fillLane_newRun room noGroup nothing next run new fits noStream
  case commands =>
    intro l w v s live due turn room noGroup waiting
    subst turn
    exact congrArg Host.Outcome.next ((podFlitSend_due live due).trans (congrArg _ (fillLane_commands room noGroup waiting)))
  case nothing =>
    intro l w v s live due turn nothing
    subst turn
    have idle : fillLane l w (turnPassed l w s) = laneIdle l w (turnPassed l w s) := by
      by_cases full : 128 ≤ (podLane (turnPassed l w s) l w).held.length
      · exact fillLane_full full
      · obtain full' | ⟨noGroup, noCommands, noFlow, noCredit⟩ := nothing
        · exact absurd full' full
        · exact fillLane_noCommands (Nat.lt_of_not_le full) noGroup noCommands noFlow noCredit
    obtain ⟨out, rest⟩ := podFlitSend_idle live due idle
    exact ⟨_, rfl, out, rest⟩
  case notDue =>
    intro l w s notDue
    exact congrArg Host.Outcome.next (podFlitSend_notDue notDue)

end Sys2Proof.Machine
end


section
/-! SUPPORT. Pod links (R290, R291, R293 to R295, R313): training, what a partner says, the exchange of a lane map, and quarantine. -/

namespace Sys2Proof.Machine

open Sys2Proof

/-! ### What changes beside the pod -/

/-- Where only the pod, the fault network, the capability words and the record may change, the state is written out by them. -/
theorem Keep.podParts {s t : State} (k : Keep 5260288 s t) :
    t = { s with pod := t.pod, flt := t.flt, ident := t.ident, out := t.out } := by
  obtain ⟨part, pending, _, _, _, _, now, tc, slu, mrc, mem, blk, mpd, grp, mst, tsi, _, foc, thm, gaf, _, pair, role, boot, csp, tel, _,
    pins, _⟩ := k
  cases s
  cases t
  simp only [State.mk.injEq]
  exact ⟨part, now rfl, pending, tc rfl, slu rfl, mrc rfl, mem rfl, blk rfl, mpd rfl, grp rfl, mst rfl, tsi rfl, trivial, foc rfl, thm rfl,
    gaf rfl, trivial, pair rfl, role rfl, boot rfl, csp rfl, tel rfl, trivial, pins rfl, trivial⟩

/-- A message that is not fatal changes the fault network alone. -/
theorem raise_mild_keep {k : FaultKind} (mild : kindSev k ≠ 3) (b i a : Nat) (s : State) : Keep 16384 s (raise k b i a s) := by
  rw [raise_mild mild]
  exact sendFault_keep _ _

theorem standBegin_mild_keep {k : FaultKind} (mild : kindSev k ≠ 3) (b i a : Nat) (s : State) : Keep 16384 s (standBegin k b i a s) := by
  unfold standBegin
  split
  · exact Keep.refl _ _
  · exact (modFlt_keep (fun x => { x with standing := (k, i, a) :: x.standing }) s (fun _ w => w)).trans (raise_mild_keep mild _ _ _ _)

/-! ### A link after a change of one -/

/-- A link that is not down is not as at reset, so that the table lists it. -/
theorem podLink_listed {x : PodLink} (notDown : x.st ≠ 0) : x ≠ {} := fun e => notDown (congrArg PodLink.st e)

theorem podLink_congr {s t : State} (same : t.pod.links = s.pod.links) (l : Nat) : podLink t l = podLink s l := by
  rw [podLink, same, podLink]

/-- What does not change the pod changes no link. -/
theorem Keep.podLink {m : Nat} {s t : State} (k : Keep m s t) (noPod : m.testBit 10 = false) (l : Nat) : podLink t l = podLink s l :=
  podLink_congr (congrArg Pod.links (k.pod noPod)) l

theorem podLink_modPodLink {l : Nat} {f : PodLink → PodLink} {s : State} (listed : f (podLink s l) ≠ {}) :
    podLink (modPodLink l f s) l = f (podLink s l) := tget_tupd_self _ _ listed

/-- A change of one link leaves those that are not down as they are. -/
theorem podLink_modPodLink_other {l k : Nat} (f : PodLink → PodLink) {s : State} (notDown : (podLink s k).st ≠ 0) (other : k ≠ l) :
    podLink (modPodLink l f s) k = podLink s k := tget_tset_listed _ _ _ _ (podLink_listed notDown) other

/-- The pod without its sending flows. -/
def podWithoutTx (s : State) : Pod := { s.pod with tx := [] }

/-- Flows that move to other stations change nothing but the sending flows (R297). -/
theorem moveFlows_podWithoutTx (s : State) : podWithoutTx (moveFlows s) = podWithoutTx s :=
  foldl_keeps podWithoutTx (fun s f => by
    split
    · split
      · split <;> rfl
      · rfl
    · rfl) _ s

/-- Where a link changes, flows move to the stations with links left and the capability words follow (R297, R459). -/
def flowsFollow (s : State) : State := capUpdate (moveFlows s)

theorem flowsFollow_keep (s : State) : Keep 1049600 s (flowsFollow s) :=
  Keep.step (capUpdate_keep _) rfl ((moveFlows_keep s).mono rfl)

theorem flowsFollow_podLink (s : State) (l : Nat) : podLink (flowsFollow s) l = podLink s l :=
  ((capUpdate_keep _).podLink rfl l).trans (podLink_congr (congrArg Pod.links (moveFlows_podWithoutTx s) :) l)

section
variable {l w cause : Nat} {s : State}

theorem linkLive_notDown (live : linkLive s l = true) : (podLink s l).st ≠ 0 := by
  simp only [linkLive, Bool.and_eq_true, decide_eq_true_eq] at live
  omega

theorem podLink_linkCmd (notDown : (podLink s l).st ≠ 0) (lanes : List (Option Nat)) (c : LinkOut) :
    podLink (linkCmd l lanes c s) l = { podLink s l with cmds := (podLink s l).cmds ++ lanes.map (fun w => (w, c)) } :=
  podLink_modPodLink (podLink_listed notDown)

theorem linkCmd_cmds {lanes : List (Option Nat)} (nonempty : lanes ≠ []) (c : LinkOut) :
    (podLink (linkCmd l lanes c s) l).cmds = (podLink s l).cmds ++ lanes.map (fun w => (w, c)) :=
  congrArg PodLink.cmds (podLink_modPodLink fun e => nonempty (List.map_eq_nil_iff.mp (List.append_eq_nil_iff.mp (congrArg PodLink.cmds e)).2))

/-! ### Training -/

/-- A link that may train: in a lit module from boot phase 10 on, down or training and not fenced, or retried (R290, R383). -/
structure MayTrain (s : State) (l : Nat) : Prop where
  safe : s.flt.safe = false
  lit : s.boot.dark = false
  there : hasLink s.part.variant l = true
  booted : 10 ≤ s.boot.phase
  fit : (linkFenced s l = false ∧ (podLink s l).st ≤ 1) ∨ linkRetrying s l = true

theorem MayTrain.guard (may : MayTrain s l) :
    (s.flt.safe || s.boot.dark || !hasLink s.part.variant l || decide (s.boot.phase < 10)
      || !((!linkFenced s l && decide ((podLink s l).st ≤ 1)) || linkRetrying s l)) = false := by
  obtain ⟨safe, lit, there, booted, fit⟩ := may
  have late : ¬ s.boot.phase < 10 := Nat.not_lt.mpr booted
  rcases fit with ⟨noFence, low⟩ | retry
  · simp [safe, lit, there, late, noFence, low]
  · simp [safe, lit, there, late, retry]

/-- A link whose lanes have passed: map epoch 1, and nothing left of an earlier partner (R290, R294). -/
def trainedLink (lanes : Word16) (y : PodLink) : PodLink := { y with
  st := 1
  map := lanes
  epoch := 1
  exch := none
  drops := []
  hello := false
  theirUsed := []
  ourUsed := []
  owe := []
  cmds := []
  laneTurn := 0
  lanes := []
  time := {} }

/-- With four lanes or more the link sends its map on every lane, and LINK_HELLO (R290). -/
theorem linkTraining_passes {m : Word16} (may : MayTrain s l) (enough : 4 ≤ (lanesIn m).length) :
    linkTraining l m s = linkCmd l [none]
      (.hello { node := s.ident.node, isSwitch := false, xs := BitVec.ofNat 3 (l / 6), link := BitVec.ofNat 6 l, rev := 0x10 })
      (linkCmd l ((lanesIn m).map some) (mapCmd m 1 0 0 0 false) (modPodLink l (trainedLink m) s)) :=
  (if_neg (by rw [may.guard]; decide)).trans (if_neg (Nat.not_lt.mpr enough))

theorem linkTraining_fails {m : Word16} (may : MayTrain s l) (few : (lanesIn m).length < 4) : linkTraining l m s = linkDown l s :=
  (if_neg (by rw [may.guard]; decide)).trans (if_pos few)

/-! ### The partner -/

/-- What LINK_HELLO says of the partner (R291). -/
def partnerKnown (c : LinkHelloCmd) (x : PodLink) : PodLink := { x with
  partnerNode := c.node
  partnerSwitch := c.isSwitch
  partnerXs := c.xs.toNat
  partnerLink := c.link.toNat
  hello := true }

section
variable {c : LinkHelloCmd}

theorem podLink_partnerKnown : podLink (modPodLink l (partnerKnown c) s) l = partnerKnown c (podLink s l) :=
  podLink_modPodLink fun e => Bool.noConfusion (congrArg PodLink.hello e)

/-- A link whose partner has said what it is changes to a state that is not down. -/
theorem podLink_helloSt {x : Nat} (notDown : x ≠ 0) :
    podLink (modPodLink l (fun y => { y with st := x }) (modPodLink l (partnerKnown c) s)) l
      = { partnerKnown c (podLink s l) with st := x } := by
  rw [podLink_modPodLink (podLink_listed notDown), podLink_partnerKnown]

/-- A switch, or another module of stage 1, brings up a link that is not in quarantine (R291). -/
theorem linkHello_up (live : linkLive s l = true) (good : c.isSwitch = true ∨ (nodeKind s c.node = 1 ∧ c.node ≠ s.ident.node))
    (free : (podLink s l).st ≠ 3) :
    linkHello l c s = flowsFollow (modPodLink l (fun x => { x with st := 2 }) (modPodLink l (partnerKnown c) s)) := by
  have noQuarantine : (podLink (modPodLink l (partnerKnown c) s) l).st ≠ 3 := by
    rw [podLink_partnerKnown]
    exact free
  have rightPartner : (!c.isSwitch && (nodeKind s c.node != 1 || c.node == s.ident.node)) = false := by
    rcases good with switch | ⟨stage1, other⟩
    · simp [switch]
    · simp [stage1, other]
  refine (if_neg (by rw [live]; decide)).trans ((if_neg ?_).trans (if_neg noQuarantine))
  exact fun bad => Bool.noConfusion (rightPartner.symm.trans bad)

/-- A link whose partner is this module itself is miswired (R291). -/
theorem linkHello_ownNode (live : linkLive s l = true) (noSwitch : c.isSwitch = false) (own : c.node = s.ident.node) :
    linkHello l c s = raise .linkMiswired 3 l (c.node.toNat * 256)
      (flowsFollow (modPodLink l (fun x => { x with st := 4 }) (modPodLink l (partnerKnown c) s))) := by
  have wrongPartner : (!c.isSwitch && (nodeKind s c.node != 1 || c.node == s.ident.node)) = true := by simp [noSwitch, own]
  have address : linkAddr (modPodLink l (partnerKnown c) s) l 0 0 = c.node.toNat * 256 := by
    rw [linkAddr, podLink_partnerKnown]
    exact Nat.zero_add _
  rw [← address]
  exact (if_neg (by rw [live]; decide)).trans (if_pos wrongPartner)

theorem helloSt_keep (x : Nat) :
    Keep 1049600 s (flowsFollow (modPodLink l (fun y => { y with st := x }) (modPodLink l (partnerKnown c) s))) :=
  Keep.step (flowsFollow_keep _) rfl (Keep.step (modPodLink_keep _ _ _) rfl ((modPodLink_keep _ _ _).mono rfl))

end

/-! ### A lane that drops -/

/-- What an exchange of the lane map reads of a link. -/
def linkCore (x : PodLink) : Nat × Word16 × Nat × Option LaneExch × List (Nat × Nat) := (x.st, x.map, x.epoch, x.exch, x.drops)

theorem modPodLink_core {f : PodLink → PodLink} (same : ∀ x, linkCore (f x) = linkCore x) (notDown : (podLink s l).st ≠ 0) :
    linkCore (podLink (modPodLink l f s) l) = linkCore (podLink s l) := by
  have st : (f (podLink s l)).st = (podLink s l).st := congrArg Prod.fst (same _)
  rw [podLink_modPodLink (podLink_listed (by rw [st]; exact notDown)), same]

/-- A fold whose every step leaves a link's part in an exchange as it is, while the link is not down, leaves it as it is. -/
theorem foldl_core {α : Type} {f : State → α → State}
    (keeps : ∀ s x, (podLink s l).st ≠ 0 → linkCore (podLink (f s x) l) = linkCore (podLink s l)) :
    ∀ (xs : List α) {s : State}, (podLink s l).st ≠ 0 → linkCore (podLink (xs.foldl f s) l) = linkCore (podLink s l)
  | [], _, _ => rfl
  | x :: xs, s, notDown => by
    have st : (podLink (f s x) l).st = (podLink s l).st := congrArg Prod.fst (keeps s x notDown)
    exact (foldl_core keeps xs (by rw [st]; exact notDown)).trans (keeps s x notDown)

theorem modPodLane_core (f : PodLane → PodLane) (notDown : (podLink s l).st ≠ 0) :
    linkCore (podLink (modPodLane l w f s) l) = linkCore (podLink s l) := modPodLink_core (fun _ => rfl) notDown

/-- The slots of a dropped lane go to other lanes, and the link stays as it is (R295). -/
theorem laneMoved_core (w : Nat) (notDown : (podLink s l).st ≠ 0) :
    linkCore (podLink (laneMoved l w s) l) = linkCore (podLink s l) := by
  unfold laneMoved
  extract_lets held again queued
  have first : linkCore (podLink queued l) = linkCore (podLink s l) := modPodLink_core (fun _ => rfl) notDown
  have st : (podLink queued l).st = (podLink s l).st := congrArg Prod.fst first
  clear_value queued
  exact (modPodLane_core _ (fun down => notDown (st.symm.trans down))).trans first

/-- The exchange that takes a dropped lane out of the map (R294, R295). -/
def dropExch (s : State) (l w cause : Nat) : LaneExch :=
  { epoch := (podLink s l).epoch + 1, lanes := (podLink s l).map &&& ~~~ (laneBit w), lane := w, cause := cause, sent := s.now }

theorem startExch_drop (dropped : cause ≠ 0) : startExch l w cause s = sendLaneMap l (dropExch s l w cause)
    (modPodLink l (fun y => { y with exch := some (dropExch s l w cause) }) s) := by
  unfold startExch
  dsimp only
  rw [if_neg dropped]
  rfl

theorem dropExch_laneMoved (notDown : (podLink s l).st ≠ 0) : dropExch (laneMoved l w s) l w cause = dropExch s l w cause := by
  have core := laneMoved_core w notDown
  simp only [linkCore, Prod.mk.injEq] at core
  obtain ⟨_, map, epoch, _⟩ := core
  rw [dropExch, map, epoch, (laneMoved_keep l w s).now rfl, dropExch]

theorem dropSeen_cause (seen : dropSeen s l w cause = true) : cause ≠ 0 := by
  rintro rfl
  exact Bool.noConfusion seen

/-- A lane of the map that drops while no exchange runs begins one (R294). -/
theorem laneDrop_begins (live : linkLive s l = true) (mapped : bit (podLink s l).map w = true) (inRange : w < 16)
    (noDrop : (podLink s l).drops = []) (noExch : (podLink s l).exch = none) :
    laneDrop l w cause s = startExch l w cause (laneMoved l w s) := by
  unfold laneDrop
  dsimp only
  rw [if_neg (by simp [live, mapped, inRange, noDrop]), noExch]

/-- The exchange that a drop begins, told on the other lanes (R294, R295). -/
theorem startExch_moved (dropped : cause ≠ 0) (notDown : (podLink s l).st ≠ 0) :
    let t := startExch l w cause (laneMoved l w s)
    (podLink t l).exch = some (dropExch s l w cause) ∧ (podLink t l).map = (podLink s l).map
      ∧ t.out = .podCmd l (linkOutVals (mapCmd (dropExch s l w cause).lanes (dropExch s l w cause).epoch 0 w cause false)).1
          (linkOutVals (mapCmd (dropExch s l w cause).lanes (dropExch s l w cause).epoch 0 w cause false)).2 :: s.out := by
  have core := laneMoved_core w notDown
  simp only [linkCore, Prod.mk.injEq] at core
  obtain ⟨st, map, _⟩ := core
  have stays : (podLink (laneMoved l w s) l).st ≠ 0 := by rw [st]; exact notDown
  have begun : podLink (modPodLink l (fun y => { y with exch := some (dropExch s l w cause) }) (laneMoved l w s)) l
      = { podLink (laneMoved l w s) l with exch := some (dropExch s l w cause) } := podLink_modPodLink (podLink_listed stays)
  dsimp only
  rw [startExch_drop dropped, dropExch_laneMoved notDown, sendLaneMap, podLink_linkCmd (by rw [begun]; exact stays), begun]
  refine ⟨rfl, map, ?_⟩
  rw [← (laneMoved_keep l w s).out rfl]
  rfl

/-! ### The agreed map -/

/-- A lane that the agreed map has lost: its slots move, and its drop is counted and told of (R293, R295). -/
def laneLost (l cause : Nat) (s : State) (w : Nat) : State :=
  raise .laneDrop 3 l (linkAddr s l w cause)
    (modPod (fun p => { p with laneDrops := sat32 p.laneDrops 1 })
      (modPodLink l (fun x => { x with lastLane := w, lastCause := cause }) (laneMoved l w s)))

theorem laneLost_keep (l cause : Nat) (s : State) (w : Nat) : Keep 17408 s (laneLost l cause s w) :=
  Keep.step (raise_mild_keep (by decide) _ _ _ _) rfl
    (Keep.step (modPod_keep _ _) rfl (Keep.step (modPodLink_keep _ _ _) rfl ((laneMoved_keep l w s).mono rfl)))

theorem laneLost_core (notDown : (podLink s l).st ≠ 0) : linkCore (podLink (laneLost l cause s w) l) = linkCore (podLink s l) := by
  have moved := laneMoved_core w notDown
  have st : (podLink (laneMoved l w s) l).st = (podLink s l).st := congrArg Prod.fst moved
  have noted : linkCore (podLink (modPodLink l (fun x => { x with lastLane := w, lastCause := cause }) (laneMoved l w s)) l)
      = linkCore (podLink (laneMoved l w s) l) := modPodLink_core (fun _ => rfl) (by rw [st]; exact notDown)
  rw [laneLost, (raise_mild_keep (by decide) _ _ _ _).podLink rfl]
  exact noted.trans moved

/-- The agreed map in effect: gained lanes begin anew, and lost ones give up their slots (R294, R295). -/
def mapTaken (l : Nat) (agreed : Word16) (epoch cause : Nat) (s : State) : State :=
  (lanesIn ((podLink s l).map &&& ~~~ agreed)).foldl (laneLost l cause)
    ((lanesIn (agreed &&& ~~~ (podLink s l).map)).foldl (fun s w => modPodLane l w (fun _ => {}) s)
      (modPodLink l (fun x => { x with map := agreed, epoch := epoch, exch := none }) s))

theorem mapTaken_keep (l : Nat) (agreed : Word16) (epoch cause : Nat) (s : State) : Keep 17408 s (mapTaken l agreed epoch cause s) :=
  Keep.foldl (laneLost_keep l cause) _
    (Keep.foldl (fun _ _ => (modPodLane_keep _ _ _ _).mono rfl) _ ((modPodLink_keep _ _ _).mono rfl))

theorem mapTaken_core {agreed : Word16} {epoch : Nat} (notDown : (podLink s l).st ≠ 0) :
    linkCore (podLink (mapTaken l agreed epoch cause s) l) = ((podLink s l).st, agreed, epoch, none, (podLink s l).drops) := by
  have set : podLink (modPodLink l (fun x => { x with map := agreed, epoch := epoch, exch := none }) s) l
      = { podLink s l with map := agreed, epoch := epoch, exch := none } := podLink_modPodLink (podLink_listed notDown)
  have notDown₁ : (podLink (modPodLink l (fun x => { x with map := agreed, epoch := epoch, exch := none }) s) l).st ≠ 0 := by
    rw [set]
    exact notDown
  have gained := foldl_core (f := fun s w => modPodLane l w (fun _ => {}) s) (fun _ _ => modPodLane_core _)
    (lanesIn (agreed &&& ~~~ (podLink s l).map)) notDown₁
  have notDown₂ := fun down => notDown₁ ((congrArg Prod.fst gained).symm.trans down)
  rw [mapTaken, foldl_core (fun _ _ => laneLost_core) _ notDown₂, gained, set]
  rfl

/-- With four lanes left and no drop waiting, the agreed map ends the exchange (R294). -/
theorem mapAgreed_settles {agreed : Word16} {epoch : Nat} (notDown : (podLink s l).st ≠ 0) (noDrop : (podLink s l).drops = [])
    (enough : 4 ≤ (lanesIn agreed).length) (lane : Nat) : mapAgreed l agreed epoch lane cause s
      = modPodLink l (fun x => { x with drops := [] }) (mapTaken l agreed epoch cause s) := by
  have core := mapTaken_core (cause := cause) (agreed := agreed) (epoch := epoch) notDown
  have drops : (podLink (mapTaken l agreed epoch cause s) l).drops = [] := by
    rw [← noDrop]
    exact congrArg (·.2.2.2.2) core
  refine (if_neg (Nat.not_lt.mpr enough)).trans ?_
  split
  · rfl
  next waits => exact nomatch (congrArg (List.filter _) drops).symm.trans waits

theorem mapAgreed_fields {agreed : Word16} {epoch : Nat} (notDown : (podLink s l).st ≠ 0) (noDrop : (podLink s l).drops = [])
    (enough : 4 ≤ (lanesIn agreed).length) (lane : Nat) :
    let t := mapAgreed l agreed epoch lane cause s
    (podLink t l).map = agreed ∧ (podLink t l).epoch = epoch ∧ (podLink t l).exch = none ∧ Keep 17408 s t := by
  have core := mapTaken_core (cause := cause) (agreed := agreed) (epoch := epoch) notDown
  simp only [linkCore, Prod.mk.injEq] at core
  obtain ⟨st, map, epoch, exch, _⟩ := core
  dsimp only
  rw [mapAgreed_settles notDown noDrop enough, podLink_modPodLink (podLink_listed (fun down => notDown (st.symm.trans down)))]
  exact ⟨map, epoch, exch, Keep.step (modPodLink_keep _ _ _) rfl (mapTaken_keep _ _ _ _ _)⟩

/-! ### LANE_MAP -/

section
variable {c : LaneMapCmd}

/-- The answer of the epoch of the exchange makes the common map agreed (R294). -/
theorem laneMap_answer {e : LaneExch} (live : linkLive s l = true) (answers : c.ack = true) (runs : (podLink s l).exch = some e)
    (same : c.ackEpoch.toNat = e.epoch) : laneMap l c s = mapAgreed l (e.lanes &&& c.lanes) e.epoch e.lane e.cause s := by
  unfold laneMap
  dsimp only
  rw [if_neg (by rw [live]; decide), if_pos answers, runs]
  exact if_pos same

/-- A map of the epoch that stands: training takes the common lanes, and a trained link answers with its own map (R290, R294). -/
theorem laneMap_sameEpoch (live : linkLive s l = true) (asks : c.ack = false) (same : c.epoch.toNat = (podLink s l).epoch) :
    laneMap l c s = if (podLink s l).st = 1 then
        if (lanesIn ((podLink s l).map &&& c.lanes)).length < 4 then linkDown l s
        else modPodLink l (fun y => { y with map := (podLink s l).map &&& c.lanes }) s
      else linkCmd l [none] (mapCmd (podLink s l).map c.epoch.toNat c.epoch.toNat c.lane.toNat c.cause.toNat true) s := by
  unfold laneMap
  dsimp only
  rw [if_neg (by rw [live]; decide), if_neg (by rw [asks]; decide), if_neg (Nat.not_lt.mpr (Nat.le_of_eq same.symm)), if_pos same]

end

/-- Without an answer for 5 µs the map of the exchange goes again (R294). -/
theorem laneMapRetry_due {e : LaneExch} (runs : (podLink s l).exch = some e) (live : linkLive s l = true) (waited : e.sent + 5000 ≤ s.now) :
    laneMapRetry l s = sendLaneMap l e (modPodLink l (fun x => { x with exch := some { e with sent := s.now } }) s) := by
  unfold laneMapRetry
  rw [runs]
  exact if_neg (by simp [live, waited])

/-! ### Quarantine -/

/-- The violations of a link within the last second (R313). -/
def violations (s : State) (l : Nat) : Nat := ((podLink s l).violAt.filter (fun t => decide (s.now < t + 1000000000))).length

/-- A link in quarantine, with its message (R313). -/
def quarantined (l : Nat) (s : State) : State :=
  standBegin .linkQuarantine 3 l (linkAddr s l 0 0) (flowsFollow (modPodLink l (fun y => { y with st := 3 }) s))

/-- What the evaluation does with one link (R313). -/
def judgeLink (s : State) (l : Nat) : State := if (podLink s l).st = 2 ∧ 1000 < violations s l then quarantined l s else s

theorem quarantineEval_running (safe : s.flt.safe = false) : quarantineEval s = (List.range 48).foldl judgeLink s :=
  if_neg (by rw [safe]; decide)

theorem quarantined_keep (l : Nat) (s : State) : Keep 1065984 s (quarantined l s) :=
  Keep.step (standBegin_mild_keep (by decide) _ _ _ _) rfl
    (Keep.step (flowsFollow_keep _) rfl ((modPodLink_keep _ _ _).mono rfl))

theorem judgeLink_keep (s : State) (l : Nat) : Keep 1065984 s (judgeLink s l) := Keep.ite (quarantined_keep l s) (Keep.refl _ _)

theorem quarantined_podLink (l k : Nat) (s : State) :
    podLink (quarantined l s) k = podLink (modPodLink l (fun y => { y with st := 3 }) s) k :=
  ((standBegin_mild_keep (by decide) _ _ _ _).podLink rfl k).trans (flowsFollow_podLink _ k)

theorem quarantined_st (l : Nat) (s : State) : (podLink (quarantined l s) l).st = 3 := by
  rw [quarantined_podLink, podLink_modPodLink (podLink_listed (by simp))]

/-- Judging one link leaves the others that are not down as they are. -/
theorem judgeLink_other {k : Nat} (notDown : (podLink s k).st ≠ 0) (other : k ≠ l) : podLink (judgeLink s l) k = podLink s k := by
  unfold judgeLink
  split
  · rw [quarantined_podLink, podLink_modPodLink_other _ notDown other]
  · rfl

/-- A link that is in quarantine, or that is about to be judged so. -/
def Overrun (s : State) (l : Nat) : Prop := (podLink s l).st = 3 ∨ ((podLink s l).st = 2 ∧ 1000 < violations s l)

theorem judgeLink_self (overrun : Overrun s l) : (podLink (judgeLink s l) l).st = 3 := by
  rcases overrun with already | counted
  · rw [judgeLink, if_neg (fun h => by omega)]
    exact already
  · rw [judgeLink, if_pos counted]
    exact quarantined_st l s

theorem judgeLink_overrun (overrun : Overrun s l) (k : Nat) : Overrun (judgeLink s k) l := by
  by_cases same : l = k
  · subst same
    exact .inl (judgeLink_self overrun)
  · have notDown : (podLink s l).st ≠ 0 := by rcases overrun with h | ⟨h, _⟩ <;> omega
    rw [Overrun, violations, judgeLink_other notDown same, (judgeLink_keep s k).now rfl]
    exact overrun

theorem judgeLink_stays (already : (podLink s l).st = 3) (k : Nat) : (podLink (judgeLink s k) l).st = 3 := by
  by_cases same : l = k
  · subst same
    exact judgeLink_self (.inl already)
  · rw [judgeLink_other (by rw [already]; decide) same]
    exact already

/-- Once it has been judged, an overrun link is in quarantine, whatever links come before it and after it. -/
theorem foldl_judgeLink (ks : List Nat) (there : l ∈ ks) (overrun : Overrun s l) : (podLink (ks.foldl judgeLink s) l).st = 3 := by
  induction ks generalizing s with
  | nil => cases there
  | cons k ks ih =>
    rcases List.mem_cons.mp there with rfl | later
    · exact List.foldlRecOn ks judgeLink (motive := fun t => (podLink t l).st = 3) (judgeLink_self overrun)
        (fun _ already k _ => judgeLink_stays already k)
    · exact ih later (judgeLink_overrun overrun k)

/-- With no link above a thousand violations the evaluation does nothing (R313). -/
theorem quarantineEval_calm (calm : ∀ l < 48, violations s l ≤ 1000) : quarantineEval s = s := by
  by_cases safe : s.flt.safe = true
  · exact if_pos safe
  · rw [quarantineEval_running (Bool.eq_false_iff.mpr safe)]
    refine List.foldlRecOn (List.range 48) judgeLink (motive := (· = s)) rfl ?_
    rintro _ rfl l inRange
    exact if_neg fun overrun => Nat.not_lt.mpr (calm l (List.mem_range.mp inRange)) overrun.2

/-- A quarantine that ends brings the link up again, without the violations that brought it (R313). -/
theorem quarantineEnd_podLink (quarantine : (podLink s l).st = 3) :
    podLink (quarantineEnd l s) l = { podLink s l with st := 2, violAt := [] } := by
  have ends : quarantineEnd l s = standEnd .linkQuarantine 3 l
      (flowsFollow (modPodLink l (fun x => { x with st := 2, violAt := [] }) s)) := if_neg (not_not_intro quarantine)
  rw [ends, (standEnd_keep _ _ _ _).podLink rfl, flowsFollow_podLink, podLink_modPodLink (podLink_listed (by simp))]

/-- Ten seconds without a violation end a quarantine (R313). -/
theorem quarantineTimeout_quiet {x : Tick} {rest : List Tick} (safe : s.flt.safe = false) (last : (podLink s l).violAt = x :: rest)
    (quiet : x + 10000000000 ≤ s.now) : quarantineTimeout l s = quarantineEnd l s := by
  unfold quarantineTimeout
  rw [last]
  exact if_neg (by simp [safe, quiet])

end

/-- Settles O19: a link that is not down stays listed, so that it reads back what its training, its partner, an exchange or a judgement
makes of it; the rest of each clause is what the functions called may change (`Keep.podParts`). -/
theorem podLinksTrainDropLanesAndAreQuarantined : Obligations.PodLinksTrainDropLanesAndAreQuarantined := by
  unfold Obligations.PodLinksTrainDropLanesAndAreQuarantined
  refine ⟨?trains, ?command, ?fails, ?up, ?miswired, ?drops, ?unseen, ?agreed, ?answers, ?common, ?again, ?sent, ?quarantine, ?calm, ?ends,
    ?installer⟩
  case trains =>
    intro l m s safe lit there booted fit enough
    exact congrArg Host.Outcome.next (linkTraining_passes ⟨safe, lit, there, booted, fit⟩ enough)
  case command =>
    intro l lanes c s
    rfl
  case fails =>
    intro l m s safe lit there booted noFence low few
    exact congrArg Host.Outcome.next (linkTraining_fails ⟨safe, lit, there, booted, .inl ⟨noFence, low⟩⟩ few)
  case up =>
    intro l c s live good free
    refine ⟨_, congrArg Host.Outcome.next (linkHello_up live good free), ?_, ?_⟩
    · rw [flowsFollow_podLink, podLink_helloSt (by decide)]
      rfl
    · have kept := helloSt_keep (l := l) (c := c) (s := s) 2
      have parts := (kept.mono (m' := 5260288) rfl).podParts
      rwa [kept.flt rfl, kept.out rfl] at parts
  case miswired =>
    intro l c s live noSwitch own
    refine ⟨_, congrArg Host.Outcome.next (linkHello_ownNode live noSwitch own), ?_⟩
    have kept := helloSt_keep (l := l) (c := c) (s := s) 4
    have told := Keep.step (raise_mild_keep (k := .linkMiswired) (by decide) 3 l (c.node.toNat * 256) _) rfl (kept.mono (m' := 1065984) rfl)
    have link := ((raise_mild_keep (k := .linkMiswired) (by decide) 3 l (c.node.toNat * 256) _).podLink rfl l).trans
      ((flowsFollow_podLink _ l).trans (podLink_helloSt (l := l) (c := c) (s := s) (x := 4) (by decide)))
    refine ⟨by rw [link], by rw [link]; rfl, ?_, ?_⟩
    · rw [raise_mild (by decide), sendFault_flt, kept.flt rfl, mkMsg, kept.tc rfl]
      rfl
    · have parts := (told.mono (m' := 5260288) rfl).podParts
      rwa [told.out rfl] at parts
  case drops =>
    intro l w cause s seen live mapped inRange noDrop noExch
    refine ⟨_, congrArg Host.Outcome.next ((if_pos seen).trans (laneDrop_begins live mapped inRange noDrop noExch)), ?_⟩
    obtain ⟨exch, map, out⟩ := startExch_moved (w := w) (dropSeen_cause seen) (linkLive_notDown live)
    refine ⟨exch, map, ⟨_, rfl, out⟩, ?_⟩
    have kept : Keep 4195328 s (startExch l w cause (laneMoved l w s)) :=
      Keep.step (startExch_keep _ _ _ _) rfl ((laneMoved_keep l w s).mono rfl)
    have parts := (kept.mono (m' := 5260288) rfl).podParts
    rwa [kept.flt rfl, kept.ident rfl] at parts
  case unseen =>
    intro l w cause s unseen
    exact congrArg Host.Outcome.next (if_neg (by rw [unseen]; decide))
  case agreed =>
    intro l c e s live answers runs same noDrop enough
    refine ⟨_, congrArg Host.Outcome.next (laneMap_answer live answers runs same), ?_⟩
    obtain ⟨map, epoch, exch, kept⟩ := mapAgreed_fields (cause := e.cause) (epoch := e.epoch) (linkLive_notDown live) noDrop enough e.lane
    refine ⟨map, epoch, exch, ?_⟩
    have parts := (kept.mono (m' := 5260288) rfl).podParts
    rwa [kept.ident rfl, kept.out rfl] at parts
  case answers =>
    intro l c s live asks same trained
    exact congrArg Host.Outcome.next ((laneMap_sameEpoch live asks same).trans (if_neg trained))
  case common =>
    intro l c s live asks same training enough
    exact congrArg Host.Outcome.next
      ((laneMap_sameEpoch live asks same).trans ((if_pos training).trans (if_neg (Nat.not_lt.mpr enough))))
  case again =>
    intro l e s runs live waited
    exact congrArg Host.Outcome.next (laneMapRetry_due runs live waited)
  case sent =>
    intro l e s
    rfl
  case quarantine =>
    intro l s safe inRange up many
    refine ⟨_, congrArg Host.Outcome.next (quarantineEval_running safe), ?_, ?_⟩
    · exact foldl_judgeLink _ (List.mem_range.mpr inRange) (.inr ⟨up, many⟩)
    · have kept : Keep 1065984 s ((List.range 48).foldl judgeLink s) := Keep.foldl judgeLink_keep _ (Keep.refl _ _)
      have parts := (kept.mono (m' := 5260288) rfl).podParts
      rwa [kept.out rfl] at parts
  case calm =>
    intro s calm
    exact congrArg Host.Outcome.next (quarantineEval_calm calm)
  case ends =>
    intro l x rest s safe quarantine last quiet
    refine ⟨_, congrArg Host.Outcome.next (quarantineTimeout_quiet safe last quiet), ?_⟩
    rw [quarantineEnd_podLink quarantine]
    exact ⟨rfl, rfl⟩
  case installer =>
    intro p s right
    exact congrArg Host.Outcome.next (iWrite_installer right)

end Sys2Proof.Machine
end


section
/-! SUPPORT. Flows and forwarded messages (R289, R296, R298, R299, R302, R304 to R306, R312): the opening of a flow, ROUTE and FLOW_ACK as
they come, the FLOW_ACK that is due, and a forwarded message by the entry of its destination. -/

namespace Sys2Proof.Machine

open Sys2Proof

section
variable {s : State}

/-! ### A flow opens -/

/-- A flow as it is given its context (R296, R302). -/
def newFlow (s : State) (c x : Nat) (node : Word16) (job cls : Nat) : TxFlow :=
  { ctx := c, node := node, job := job, cls := cls, xs := x, remoteXs := flowRemote s node job cls, lastUse := s.now }

/-- What waits for a flow that does not stand yet, toward a module of stage 1, from a station with a link in service (R296, R302). -/
structure FlowAwaited (s : State) (x : Nat) (node : Word16) (job cls : Nat) : Prop where
  safe : s.flt.safe = false
  there : hasXs s.part.variant x = true
  stage1 : nodeKind s node = 1
  new : txFlow s node job cls = none
  inClass : cls < 7
  inJobs : job < 256
  wanted : flowWanted s x node job cls = true
  linked : (xsLinks s x).isEmpty = false

/-- A flow that a message waits for takes a free context, sends its open request and takes what waits (R296, R302). -/
theorem flowOpen_awaited {x job cls c : Nat} {node : Word16} (awaited : FlowAwaited s x node job cls) (alone : s.pair.cfg = none)
    (free : takeCtx s = some (c, s)) :
    flowOpen x node job cls s = drainXs (xsOf x) cls (joinWaiting node job cls
      (openRequest (newFlow s c x node job cls) { s with pod := { s.pod with tx := s.pod.tx ++ [newFlow s c x node job cls] } })) := by
  obtain ⟨safe, there, stage1, new, inClass, inJobs, wanted, linked⟩ := awaited
  have inRange : ¬ (7 ≤ cls ∨ 256 ≤ job) := by omega
  unfold flowOpen
  rw [if_neg (by simp [safe, there, stage1, new, inRange, wanted, linked]), free]
  dsimp only
  rw [alone]
  rfl

/-! ### ROUTE -/

section
variable {l w : Nat} {r : RouteCmd} {opens : Bool}

/-- A link that takes commands: live, with the lane in its map, and not miswired. -/
structure LaneHears (s : State) (l w : Nat) : Prop where
  live : linkLive s l = true
  inRange : w < 16
  mapped : bit (podLink s l).map w = true
  wired : (podLink s l).st ≠ 4

theorem LaneHears.guard (hears : LaneHears s l w) :
    (!linkLive s l || decide (16 ≤ w) || !bit (podLink s l).map w || (podLink s l).st == 4) = false := by
  obtain ⟨live, inRange, mapped, wired⟩ := hears
  simp [live, inRange, mapped, wired]

theorem class_known (known : r.cls ≠ 7) : r.cls.toNat ≠ 7 := fun seven => known (BitVec.eq_of_toNat_eq seven)

/-- A run that follows on its lane (R289). -/
def runNoted (l w : Nat) (r : RouteCmd) (bad : Bool) (s : State) : State :=
  modPodLane l w (fun y => { y with run := some r, runSeq := r.fseq, runBad := bad }) s

/-- The slots of a known flow follow on the lane of its ROUTE (R289). -/
theorem route_known {f : RxFlow} (hears : LaneHears s l w) (known : r.cls ≠ 7) (allowed : routeBad s l r = false)
    (stands : rxFlow s r.srcNode r.job.toNat r.cls.toNat = some f) : route l w r false s = runNoted l w r false s := by
  unfold route
  dsimp only
  rw [if_neg (by rw [hears.guard]; decide), if_neg (class_known known), if_neg (by rw [allowed]; decide), stands]
  rfl

/-- A run that no rule allows is a violation and is discarded whole (R312). -/
theorem route_bad (hears : LaneHears s l w) (known : r.cls ≠ 7) (bad : routeBad s l r = true) :
    route l w r opens s = podViolation l (runNoted l w r true s) :=
  (if_neg (by rw [hears.guard]; decide)).trans ((if_neg (class_known known)).trans (if_pos bad))

theorem routeBad_otherNode (other : r.destNode ≠ s.ident.node) : routeBad s l r = true := by simp [routeBad, other]

end

/-! ### FLOW_ACK -/

section
variable {l : Nat} {a : FlowAckCmd} (live : linkLive s l = true) (wired : (podLink s l).st ≠ 4)
include live wired

/-- A FLOW_ACK for another node is a violation (R312). -/
theorem flowAck_otherNode (other : a.destNode ≠ s.ident.node) : flowAck l a s = podViolation l s := by
  unfold flowAck
  rw [if_neg (by simp [live, wired]), if_neg (by simpa using other)]

/-- A FLOW_ACK that leaves the flow open moves FACK on, drops the slots that it has passed and sets the window (R298). -/
theorem flowAck_open {f : TxFlow} (own : a.destNode = s.ident.node)
    (stands : txFlow s a.srcNode a.job.toNat a.cls.toNat = some f) (ahead : (a.fack - f.fack).toNat < 2 ^ 31) (opened : a.window ≠ 0)
    (noRequest : f.openAt = none) :
    flowAck l a s = drainXs (xsOf f.xs) f.cls (joinWaiting f.node f.job f.cls (modTx f.node f.job f.cls (fun x => { x with
      fack := a.fack
      window := a.window.toNat
      slots := f.slots.filter (fun y => decide ((y.fseq - a.fack).toNat < 2 ^ 31))
      st := 1
      openAt := none
      lastUse := s.now }) s)) := by
  have nonzero : a.window.toNat ≠ 0 := fun zero => opened (BitVec.eq_of_toNat_eq zero)
  unfold flowAck
  rw [if_neg (by simp [live, wired]), if_pos (by simpa using own), stands]
  simp only [ahead, nonzero, noRequest, decide_true, decide_false, if_true, Bool.false_and, Bool.false_eq_true, if_false]

end

/-! ### The FLOW_ACK that is due -/

section
variable {f : RxFlow}

/-- The flow with the window that its receiver grants next (R299), or without credits in a drain (R100). -/
def regranted (s : State) (f : RxFlow) : RxFlow :=
  { f with window := if flowStopped s f then f.window else nextWindow s f, stopped := flowStopped s f }

/-- A changed window or FACK is told once per microsecond, a window of 0 at once (R298). -/
theorem flowAckTimer_due {c : Nat} (safe : s.flt.safe = false) (stands : s.pod.rx.find? (fun f => f.ctx == c) = some f)
    (changed : f.dirty = true ∨ (regranted s f).window ≠ f.window ∨ (regranted s f).stopped ≠ f.stopped)
    (due : f.lastAck + 1000 ≤ s.now ∨ shownWindow (regranted s f) = 0) :
    flowAckTimer c s = sendFlowAck f (shownWindow (regranted s f)) (modRx c (fun _ => regranted s f) s) := by
  have tells : (f.dirty || (regranted s f).window != f.window || (regranted s f).stopped != f.stopped) = true := by
    rcases changed with dirty | window | stopped
    · simp [dirty]
    · simp [window]
    · simp [stopped]
  have late : (decide (s.now < f.lastAck + 1000) && decide (shownWindow (regranted s f) ≠ 0)) = false := by
    rcases due with late | none
    · simp [Nat.not_lt.mpr late]
    · simp [none]
  have guard : (s.flt.safe || !(f.dirty || (regranted s f).window != f.window || (regranted s f).stopped != f.stopped)
      || (decide (s.now < f.lastAck + 1000) && decide (shownWindow (regranted s f) ≠ 0))) = false := by
    rw [safe, tells, late]
    rfl
  unfold flowAckTimer
  rw [stands]
  exact if_neg fun tellsNot => Bool.noConfusion (guard.symm.trans tellsNot)

/-- FLOW_ACK of a receiving flow, with the window that it shows (R298). -/
def ackOf (s : State) (f : RxFlow) (window : Nat) : FlowAckCmd :=
  { destNode := f.node, srcNode := s.ident.node, destXs := BitVec.ofNat 3 f.srcXs, srcXs := BitVec.ofNat 3 f.xs
    job := BitVec.ofNat 8 f.job, cls := BitVec.ofNat 3 f.cls, fack := f.fack, window := BitVec.ofNat 16 window }

theorem sendFlowAck_linked {l : Nat} (linked : xsLink s f.xs = some l) (window : Nat) : sendFlowAck f window s
    = modRx f.ctx (fun x => { x with dirty := false, lastAck := s.now }) (linkCmd l [none] (.flowAck (ackOf s f window)) s) := by
  unfold sendFlowAck
  rw [linked]
  rfl

end

/-! ### Forwarded messages -/

section
variable {x job : Nat} {m : FwdMsg}

/-- A forwarded message is handled by the route entry of its destination (R305). -/
theorem execFwdMessage_whole (safe : s.flt.safe = false) (there : hasXs s.part.variant x = true) (nonempty : m.lines ≠ [])
    (few : m.lines.length ≤ 256) : execFwdMessage x job m s = .next (fwdRoute (xsOf x) job false m s) :=
  congrArg Host.Outcome.next (if_neg (by simp [safe, there, nonempty, few]))

theorem fwdRoute_here {st : Nat} {fence : Bool} (here : (routeOf s m.destNode.toNat).kind = 3) (there : m.site < 12)
    (takes : siteTakesFwd s m.site = true) : fwdRoute st job fence m s = sendFwd st (ssOf m.site) job 0 fence m s :=
  (if_pos here).trans (if_pos ⟨there, takes⟩)

/-- A ninth hop, or one upward after a way down, is an error of the tables (R304, R306). -/
theorem fwdRoute_wrongHop {st : Nat} {fence : Bool} (direct : (routeOf s m.destNode.toNat).kind = 1)
    (wrong : 8 ≤ m.hops ∨ (hopUp s m.destNode.toNat = true ∧ m.down = true)) :
    fwdRoute st job fence m s = raise .fwdRouteError 0 st 0 (fwdDiscard s) := by
  have wrongHop : 8 < m.hops + 1 ∨ (hopUp s m.destNode.toNat = true ∧ m.down = true) := wrong.imp_left Nat.lt_succ_of_le
  unfold fwdRoute
  rw [if_neg (by rw [direct]; decide), if_pos (.inl direct), if_pos direct, if_pos wrongHop]

theorem fwdRoute_unlisted {st : Nat} {fence : Bool} (unlisted : (routeOf s m.destNode.toNat).kind = 0) :
    fwdRoute st job fence m s = fwdDiscard s :=
  (if_neg (by rw [unlisted]; decide)).trans (if_neg (by rw [unlisted]; decide))

end

end

/-- Settles O20: each command by the case of its function that the hypotheses select. -/
theorem flowsOpenAcknowledgeAndForward : Obligations.FlowsOpenAcknowledgeAndForward := by
  unfold Obligations.FlowsOpenAcknowledgeAndForward
  refine ⟨?opens, ?route, ?badRoute, ?otherNode, ?acks, ?tells, ?here, ?wrongHop, ?unlisted⟩
  case opens =>
    intro x node job cls c s safe there stage1 new inClass inJobs wanted linked alone free
    refine ⟨newFlow s c x (BitVec.ofNat 16 node) job cls, rfl, rfl, rfl, rfl, rfl, rfl, rfl, rfl, congrArg Host.Outcome.next ?_⟩
    exact flowOpen_awaited ⟨safe, there, stage1, new, inClass, inJobs, wanted, linked⟩ alone free
  case route =>
    intro l w r f s live inRange mapped wired known allowed stands
    exact congrArg Host.Outcome.next (route_known ⟨live, inRange, mapped, wired⟩ known allowed stands)
  case badRoute =>
    intro l w r opens s live inRange mapped wired known other
    exact congrArg Host.Outcome.next (route_bad ⟨live, inRange, mapped, wired⟩ known (routeBad_otherNode other))
  case otherNode =>
    intro l a s live wired other
    exact congrArg (fun t => Host.Outcome.next (openWaiting t)) (flowAck_otherNode live wired other)
  case acks =>
    intro l a f s live wired own stands ahead opened noRequest
    exact congrArg (fun t => Host.Outcome.next (openWaiting t)) (flowAck_open live wired own stands ahead opened noRequest)
  case tells =>
    intro c l f g s safe stands granted changed due linked
    obtain rfl : g = regranted s f := granted
    have sends := (flowAckTimer_due safe stands changed due).trans
      (sendFlowAck_linked (s := modRx c (fun _ => regranted s f) s) linked (shownWindow (regranted s f)))
    have ctx : f.ctx = c := by simpa using List.find?_some stands
    refine ⟨_, _, congrArg Host.Outcome.next sends, ?_, rfl, rfl, ?_, rfl⟩
    · refine (List.map_map ..).trans (List.map_congr_left fun x _ => ?_)
      have granted : (regranted s f).ctx = c := ctx
      by_cases same : x.ctx = c
      · simp [same, ctx, granted]
        rfl
      · simp [same, ctx]
    · exact linkCmd_cmds (s := modRx c (fun _ => regranted s f) s) (List.cons_ne_nil _ _) _
  case here =>
    intro x job m s safe there lines few here inRange takes
    rw [← fwdRoute_here (st := xsOf x) (job := job) (fence := false) here inRange takes]
    exact execFwdMessage_whole safe there lines few
  case wrongHop =>
    intro x job m s safe there lines few direct wrong
    refine (execFwdMessage_whole safe there lines few).trans (congrArg Host.Outcome.next ?_)
    rw [fwdRoute_wrongHop direct wrong, raise_mild (by decide)]
    rfl
  case unlisted =>
    intro x job m s safe there lines few unlisted
    exact (execFwdMessage_whole safe there lines few).trans (congrArg Host.Outcome.next (fwdRoute_unlisted unlisted))

end Sys2Proof.Machine
end


section
/-! SUPPORT. Route tables (R306 to R308, R314): what delivery and the moving of flows leave of them, the swap, and the withdrawal of an
armed one. -/

namespace Sys2Proof.Machine

open Sys2Proof

/-! ### What leaves the route tables as they are -/

/-- The active and the next table, the state of the next one, and the nodes whose flows a drain holds back. -/
def tablesOf (s : State) : Tab RouteEntry × Tab RouteEntry × Nat × List Nat :=
  (s.pod.route, s.pod.routeNext, s.pod.rtSt, s.pod.drainNodes)

/-- What does not change the pod changes no table. -/
theorem Keep.tables {m : Nat} {s t : State} (k : Keep m s t) (noPod : m.testBit 10 = false) : tablesOf t = tablesOf s := by
  rw [tablesOf, k.pod noPod, tablesOf]

theorem podPeak_tables (x cls : Nat) (s : State) : tablesOf (podPeak x cls s) = tablesOf s :=
  foldl_keeps tablesOf (fun s l => by split <;> rfl) _ s

theorem flowPut_tables (f : TxFlow) (xs : List Slot) (s : State) : tablesOf (flowPut f xs s) = tablesOf s :=
  podPeak_tables _ _ _

theorem flowReq_tables {f : TxFlow} {q : MemReq} {s t : State} (joins : flowReq f q s = some t) : tablesOf t = tablesOf s := by
  unfold flowReq at joins
  dsimp only at joins
  split at joins
  · cases joins
  · cases joins
    exact flowPut_tables _ _ _

/-- A message that an external station takes joins its flow or the pair link (R296, R302). -/
theorem xsAccept_tables {st cls : Nat} {m : MrMsg} {s t : State} (takes : xsAccept st cls m s = some t) : tablesOf t = tablesOf s := by
  unfold xsAccept at takes
  split at takes
  · split at takes
    · cases takes
      rfl
    · cases takes
  · split at takes
    · cases takes
    · split at takes
      · cases takes
      · split at takes
        · exact flowReq_tables takes
        · cases takes
          exact flowPut_tables _ _ _

theorem fwdToFlow_tables {dst src : Nat} {m : MrMsg} {s t : State} (enters : fwdToFlow dst src m s = some t) : tablesOf t = tablesOf s := by
  unfold fwdToFlow at enters
  split at enters
  · cases enters
  · split at enters
    · split at enters
      · cases enters
        exact flowPut_tables _ _ _
      · cases enters
    · split at enters
      · split at enters
        · cases enters
          exact flowPut_tables _ _ _
        · cases enters
      · cases enters
    · cases enters

theorem returnCredits_tables (src dst cls n : Nat) (s : State) : tablesOf (returnCredits src dst cls n s) = tablesOf s :=
  foldl_keeps tablesOf (f := fun s (d : Nat × List Word32) => flowDelivered d.1 d.2 s) (fun _ _ => rfl) _ _

theorem takeRx_tables (dst cls src : Nat) (m : MrMsg) (s : State) : tablesOf (takeRx dst cls src m s) = tablesOf s := by
  unfold takeRx freeSlots
  split
  · exact returnCredits_tables _ _ _ _ _
  · rfl

theorem autoDeliver_tables (src dst cls : Nat) (m : MrMsg) (s : State) : tablesOf (autoDeliver src dst cls m s) = tablesOf s := by
  unfold autoDeliver
  split
  · split
    next t taken =>
      rw [takeRx_tables]
      split at taken
      · exact fwdToFlow_tables taken
      · exact xsAccept_tables taken
    · rfl
  · dsimp only
    split
    · split
      · split
        · exact takeRx_tables _ _ _ _ _
        · split
          · rw [takeRx_tables, (siteDeliver_keep _ _ _ _).tables rfl]
          · rfl
      · rfl
    · split
      · split
        next t taken => rw [takeRx_tables, (Keep.ofOpt taken (fwdToSite_keep _ _ _ _ _)).tables rfl]
        · rfl
      · rfl
  · rfl

theorem drainRx_tables (src dst cls : Nat) : ∀ (fuel : Nat) (s : State), tablesOf (drainRx src dst cls fuel s) = tablesOf s
  | 0, _ => rfl
  | fuel + 1, s => by
    have delivered : tablesOf ((tget [] s.mrc.rx (pcKey src dst cls)).foldl (fun s m => autoDeliver src dst cls m s) s) = tablesOf s :=
      foldl_keeps tablesOf (fun s m => autoDeliver_tables src dst cls m s) _ s
    unfold drainRx
    dsimp only
    split
    · exact delivered
    · exact (drainRx_tables src dst cls fuel _).trans delivered

theorem drainXs_tables (st cls : Nat) (s : State) : tablesOf (drainXs st cls s) = tablesOf s :=
  foldl_keeps tablesOf (fun _ _ => drainRx_tables _ _ _ _ _) _ s

/-- Admission resumes: at every external station each class enters its flows again (R308, R314). -/
def admitAll (s : State) : State :=
  (List.range 8).foldl (fun s x => [1, 2, 3, 4, 5].foldl (fun s c => drainXs (xsOf x) c s) s) s

theorem admitAll_tables (s : State) : tablesOf (admitAll s) = tablesOf s :=
  foldl_keeps tablesOf (fun _ _ => foldl_keeps tablesOf (fun _ _ => drainXs_tables _ _ _) _ _) _ s

theorem admitAll_role (s : State) : (admitAll s).role = s.role :=
  foldl_keeps (·.role) (fun _ _ => foldl_keeps (·.role) (fun _ _ => (drainXs_keep _ _ _).role rfl) _ _) _ s

theorem moveFlows_tables (s : State) : tablesOf (moveFlows s) = tablesOf s :=
  (congrArg (fun p : Pod => (p.route, p.routeNext, p.rtSt, p.drainNodes)) (moveFlows_podWithoutTx s) :)

theorem audit_tables (p : Option Path) (action : Nat) (object : Word32) (detail : Word64) (s : State) :
    tablesOf (audit p action object detail s) = tablesOf s := (audit_keep _ _ _ _ _).tables rfl

/-- A change of the digest or its expected values changes the roles, and may tell of a mismatch (R434). -/
theorem contChange_fields (f : RoleSt → RoleSt) (s : State) : (contChange f s).role = f s.role ∧ tablesOf (contChange f s) = tablesOf s := by
  unfold contChange
  dsimp only
  split
  · exact ⟨(contMismatch_keep _).role rfl, (contMismatch_keep _).tables rfl⟩
  · exact ⟨rfl, rfl⟩

/-! ### The check -/

section
variable {s : State}

theorem rtCheck_idle (idle : s.pod.rtSt ≤ 3) : rtCheck s = modPod (fun p => { p with rtSt := 1, rtReason := 0, rtNode := 0 }) s :=
  if_neg (by omega)

section
variable (safe : s.flt.safe = false) (checking : s.pod.rtSt = 1)
include safe checking

theorem rtCheckDone_fails {n r : Nat} (fails : tableFail s s.pod.routeNext = some (n, r)) :
    rtCheckDone s = modPod (fun p => { p with rtSt := 3, rtReason := r, rtNode := n }) s := by
  unfold rtCheckDone
  rw [if_neg (by simp [safe, checking]), fails]

theorem rtCheckDone_passes (passes : tableFail s s.pod.routeNext = none) :
    rtCheckDone s = modPod (fun p => { p with rtSt := 2, rtReason := 0, rtNode := 0 }) s := by
  unfold rtCheckDone
  rw [if_neg (by simp [safe, checking]), passes]

end

/-! ### The swap -/

/-- While a reel runs the swap stays armed (R308). -/
theorem routeNow_running (runs : reelActive s = true) : routeNow s = s := if_pos runs

theorem routeNow_stopped (stopped : reelActive s = false) : routeNow s = routeSwap s := if_neg (by rw [stopped]; decide)

section
variable (passed : s.pod.rtSt = 2) (off : s.slu.tableMode = false)
include passed off

/-- Between jobs an affected node of which a running job has a member refuses the swap (R308). -/
theorem rtSwap_member {n : Nat} (member : (rtAffected s).find? (fun n => (runningJobs s).any (fun j => jobMember s j n)) = some n) :
    rtSwap s = modPod (fun p => { p with rtSt := 3, rtReason := 6, rtNode := n }) s := by
  unfold rtSwap
  rw [if_neg (not_not_intro passed)]
  dsimp only
  rw [if_neg (by rw [off]; decide), member]

/-- With none it is armed without a drain (R308). -/
theorem rtSwap_noMember (noMember : (rtAffected s).find? (fun n => (runningJobs s).any (fun j => jobMember s j n)) = none) :
    rtSwap s = routeNow (modPod (fun p => { p with rtSt := 5, rtReason := 0, drainNodes := [] }) s) := by
  unfold rtSwap
  rw [if_neg (not_not_intro passed)]
  dsimp only
  rw [if_neg (by rw [off]; decide), noMember]

end

/-- In table mode the flows of the affected nodes drain first, for two frames and the longest round trip (R308). -/
theorem rtSwap_tableMode (passed : s.pod.rtSt = 2) (on : s.slu.tableMode = true) (stopped : reelActive s = false) :
    rtSwap s = modPod (fun p => { p with
      rtSt := 4
      rtReason := 0
      drainNodes := rtAffected s
      drainEnd := s.now + 2 * 2048 + ((s.pod.tx.filter (fun f => (rtAffected s).contains f.node.toNat)).map (·.rtt)).foldl max 0 }) s := by
  unfold rtSwap
  rw [if_neg (not_not_intro passed)]
  dsimp only
  rw [if_pos on, if_neg (by rw [stopped]; decide)]

/-- The drain ends with the last slot of the affected flows, or at its limit (R308). -/
theorem routeDrainEnd_due (safe : s.flt.safe = false) (drains : s.pod.rtSt = 4) (due : s.pod.tx = [] ∨ s.pod.drainEnd ≤ s.now) :
    routeDrainEnd s = routeNow (modPod (fun p => { p with rtSt := 5 }) s) := by
  refine if_neg ?_
  rcases due with noFlow | late
  · simp [safe, drains, noFlow]
  · simp [safe, drains, late]

/-- The next table made the active one, with its identity (R308, R431). -/
def tableTaken (s : State) : State :=
  modRole (fun r => { r with routeId := r.routeIdNext })
    (modPod (fun p => { p with route := p.routeNext, rtSt := 0, rtReason := 0, drainNodes := [] }) s)

/-- The continuity digest follows the table, and the flows move to the stations of their new sets (R308, R431). -/
def tableFollowed (s : State) : State := moveFlows (contChange (fun r => { r with digest := digestNow s }) s)

theorem tableFollowed_fields (s : State) : (tableFollowed s).role.routeId = s.role.routeId ∧ tablesOf (tableFollowed s) = tablesOf s := by
  obtain ⟨role, tables⟩ := contChange_fields (fun r => { r with digest := digestNow s }) s
  exact ⟨by rw [tableFollowed, (moveFlows_keep _).role rfl, role], (moveFlows_tables _).trans tables⟩

theorem routeSwap_armed (armed : s.pod.rtSt = 5) :
    routeSwap s = if s.pod.drainNodes.isEmpty then tableFollowed (tableTaken s) else admitAll (tableFollowed (tableTaken s)) :=
  if_neg (not_not_intro armed)

/-- A swap that takes effect makes the next table the active one; nothing is armed or drained any more (R308). -/
theorem routeSwap_fields (armed : s.pod.rtSt = 5) :
    (routeSwap s).role.routeId = s.role.routeIdNext ∧ tablesOf (routeSwap s) = (s.pod.routeNext, s.pod.routeNext, 0, []) := by
  obtain ⟨routeId, tables⟩ := tableFollowed_fields (tableTaken s)
  rw [routeSwap_armed armed]
  split
  · exact ⟨routeId, tables⟩
  · rw [admitAll_role, admitAll_tables]
    exact ⟨routeId, tables⟩

/-! ### Withdrawal and copy -/

/-- CANCEL makes an armed table passed again and admits what the drain held back (R314). -/
theorem rtCancel_tables (armed : s.pod.rtSt = 4 ∨ s.pod.rtSt = 5) : tablesOf (rtCancel s) = (s.pod.route, s.pod.routeNext, 2, []) := by
  have withdrawn : rtCancel s = admitAll (modPod (fun p => { p with rtSt := 2, drainNodes := [] }) s) := if_pos armed
  rw [withdrawn, admitAll_tables]
  rfl

theorem rtCancel_route (s : State) : (rtCancel s).pod.route = s.pod.route := by
  by_cases armed : s.pod.rtSt = 4 ∨ s.pod.rtSt = 5
  · exact congrArg Prod.fst (rtCancel_tables armed)
  · exact congrArg (fun t : State => t.pod.route) (if_neg armed)

/-- A write without the installer's right does nothing (R314, R449). -/
theorem iWrite_refused {p : Path} {addr data : Nat} {f : State → State} (noRight : mayWrite s p .i = false) : iWrite p addr data f s = s :=
  if_neg (by rw [noRight]; decide)

end

/-- Settles O21: a write by the installer's right (`iWrite_installer`); the swap because neither delivery nor the moving of flows
changes a table (`routeSwap_fields`). -/
theorem routeTablesAreCheckedSwappedAndCopied : Obligations.RouteTablesAreCheckedSwappedAndCopied := by
  unfold Obligations.RouteTablesAreCheckedSwappedAndCopied
  refine ⟨?check, ?fails, ?passes, ?member, ?arms, ?drains, ?drained, ?swaps, ?cancel, ?copy, ?noRight⟩
  case check =>
    intro p s right idle
    refine congrArg Host.Outcome.next ((iWrite_installer right).trans ?_)
    rw [rtCheck_idle idle]
    rfl
  case fails =>
    intro n r s safe checking fails
    exact congrArg Host.Outcome.next (rtCheckDone_fails safe checking fails)
  case passes =>
    intro s safe checking passes
    exact congrArg Host.Outcome.next (rtCheckDone_passes safe checking passes)
  case member =>
    intro p n s right passed off member
    refine congrArg Host.Outcome.next ((iWrite_installer right).trans ?_)
    rw [rtSwap_member passed off member]
    rfl
  case arms =>
    intro p s right passed off runs noMember
    refine congrArg Host.Outcome.next ((iWrite_installer right).trans ?_)
    rw [rtSwap_noMember passed off noMember, routeNow_running (s := modPod _ s) runs]
    rfl
  case drains =>
    intro p s right passed on stopped
    refine congrArg Host.Outcome.next ((iWrite_installer right).trans ?_)
    rw [rtSwap_tableMode passed on stopped]
    rfl
  case drained =>
    intro s safe drains noFlow runs
    exact congrArg Host.Outcome.next ((routeDrainEnd_due safe drains (.inl noFlow)).trans (routeNow_running runs))
  case swaps =>
    intro s safe drains late stopped
    refine ⟨_, rfl, ?_⟩
    rw [routeDrainEnd_due safe drains (.inr late), routeNow_stopped (s := modPod _ s) stopped]
    obtain ⟨routeId, tables⟩ := routeSwap_fields (s := modPod (fun p => { p with rtSt := 5 }) s) rfl
    simp only [tablesOf, Prod.mk.injEq] at tables
    obtain ⟨route, _, rtSt, drainNodes⟩ := tables
    exact ⟨route, rtSt, routeId, drainNodes⟩
  case cancel =>
    intro p s right armed
    refine ⟨_, congrArg Host.Outcome.next (iWrite_installer right), ?_⟩
    have tables := (audit_tables (some p) 0x10 (BitVec.ofNat 32 0x0C0030) (BitVec.ofNat 64 4) (rtCancel s)).trans (rtCancel_tables armed)
    simp only [tablesOf, Prod.mk.injEq] at tables
    obtain ⟨route, routeNext, rtSt, drainNodes⟩ := tables
    exact ⟨rtSt, drainNodes, route, routeNext⟩
  case copy =>
    intro p s right
    refine ⟨_, congrArg Host.Outcome.next (iWrite_installer right), ?_⟩
    rw [(audit_keep _ _ _ _ _).pod rfl]
    exact ⟨rtCancel_route s, rtCancel_route s, rfl⟩
  case noRight =>
    intro p s noRight
    have nothing : ∀ addr data f, Host.Outcome.next (iWrite p addr data f s) = (.next s : Out) :=
      fun _ _ _ => congrArg Host.Outcome.next (iWrite_refused noRight)
    exact ⟨nothing _ _ _, nothing _ _ _, nothing _ _ _, nothing _ _ _⟩

end Sys2Proof.Machine
end


section
/-! SUPPORT. Laser modules and feeds (R315 to R318, R331, R332): what an interrupt and a poll of a module leave, and what a feed that
falls low hands to the standby feed of its field. -/

namespace Sys2Proof.Machine

open Sys2Proof

/-- Where only the sluice, the free values, the focus units and the fault network may change, the state is written out by them. -/
theorem Keep.feedParts {s t : State} (k : Keep 18452 s t) :
    t = { s with slu := t.slu, mem := t.mem, foc := t.foc, flt := t.flt } := by
  obtain ⟨part, pending, _, _, _, _, now, tc, _, mrc, _, blk, mpd, grp, mst, tsi, pod, _, thm, gaf, _, pair, role, boot, csp, tel, ident,
    pins, out⟩ := k
  cases s
  cases t
  simp only [State.mk.injEq]
  exact ⟨part, now rfl, pending, tc rfl, trivial, mrc rfl, trivial, blk rfl, mpd rfl, grp rfl, mst rfl, tsi rfl, pod rfl, trivial, thm rfl,
    gaf rfl, trivial, pair rfl, role rfl, boot rfl, csp rfl, tel rfl, ident rfl, pins rfl, out rfl⟩

/-- A message tells of the state only its time (R373). -/
theorem mkMsg_congr {s t : State} (time : t.tc = s.tc) (k : FaultKind) (b i a : Nat) : mkMsg t k b i a = mkMsg s k b i a := by
  unfold mkMsg
  rw [time]

/-! ### Modules -/

section
variable {m : Nat} {s : State}

/-- From boot phase 6 on the sixteen modules are heard, outside safe state. -/
theorem lasersHeard (safe : s.flt.safe = false) (inRange : m < 16) (booted : 6 ≤ s.boot.phase) :
    ¬ (s.flt.safe || decide (16 ≤ m ∨ s.boot.phase < 6)) = true := by
  rw [safe, decide_eq_false (by omega)]
  decide

/-- A module that lights one feed is told of once: corrected for a warning, else degraded (R318). -/
theorem laserFault_feed {k : Nat} (feeds : moduleFeeds s m = [k]) (warn : Bool) :
    laserFault m warn s = sendFault { mkMsg s .laserModule 7 (feedUnit k) (k * 2 ^ 16) with sev := if warn then 0 else 1 } s := by
  unfold laserFault
  rw [feeds]
  cases warn <;> rfl

theorem laserReady_contains (m : Nat) (s : State) : (laserReady m true s).foc.ready.contains m = true := by
  change (if s.foc.ready.contains m then s.foc.ready else m :: s.foc.ready).contains m = true
  split
  · assumption
  · rw [List.contains_cons, beq_self_eq_true, Bool.true_or]

/-- A poll that shows flags, and the module ready, keeps its hold on the interrupt (R318). -/
theorem laserPoll_flagged (safe : s.flt.safe = false) (inRange : m < 16) (booted : 6 ≤ s.boot.phase) {fs : List LaserFlag}
    (isReady : fs.contains .leftReady = false) (flagged : fs ≠ []) : laserPoll m fs s = laserReady m true s := by
  unfold laserPoll
  rw [if_neg (lasersHeard safe inRange booted), isReady]
  simp only [List.isEmpty_eq_false_iff.mpr flagged]
  rfl

theorem laserPoll_leftReady (safe : s.flt.safe = false) (inRange : m < 16) (booted : 6 ≤ s.boot.phase) {fs : List LaserFlag}
    (left : fs.contains .leftReady = true) : laserPoll m fs s = laserFault m false (laserReady m false s) :=
  (if_neg (lasersHeard safe inRange booted)).trans (if_pos left)

end

/-! ### Feeds -/

/-- The feeds once `k`, which fell low, has given its role to `j` and stands by itself (R331). -/
def rolesMoved (k j : Nat) (u : State) : State :=
  modFeedSt j (fun x => { x with role := (feedOf u k).role }) (modFeedSt k (fun x => { x with low := true, role := 3 }) u)

/-- The elements of a field's role step FINE by the difference of the two feeds (R331). -/
def elemsStepped (field role : Nat) (off : List Int) (v : State) : State :=
  (roleElems v field role).foldl (fun s e => modElem e (feedStep s.now off e) s) v

/-- While the feeds change, a field's sluice role, and no other, is without light (R331). -/
def interrupted (field role : Nat) (s : State) : State := if role = 0 then sluiceGap field s else s

theorem elemsStepped_elems (field role : Nat) (off : List Int) (v : State) :
    elemsStepped field role off v = { v with foc := { v.foc with elems := (elemsStepped field role off v).foc.elems } } := by
  have kept := foldl_keeps (fun t : State => { t with foc := { t.foc with elems := v.foc.elems } })
    (f := fun s e => modElem e (feedStep s.now off e) s) (fun _ _ => rfl) (roleElems v field role) v
  exact congrArg (fun t : State => { t with foc := { t.foc with elems := (elemsStepped field role off v).foc.elems } }) kept

theorem sluiceGap_mem (field : Nat) (s : State) : (sluiceGap field s).mem = { s.mem with freeCtr := s.mem.freeCtr + 1 } :=
  (gapDrop_keep _ _ _).mem rfl

section
variable {field role : Nat} {s : State}

theorem interrupted_foc : (interrupted field role s).foc = s.foc := by
  unfold interrupted
  split
  · exact (sluiceGap_keep _ _).foc rfl
  · rfl

theorem interrupted_mem : ∃ c, (interrupted field role s).mem = { s.mem with freeCtr := c } := by
  unfold interrupted
  split
  · exact ⟨_, sluiceGap_mem _ _⟩
  · exact ⟨s.mem.freeCtr, rfl⟩

end

section
variable {k : Nat} {off : List Int} {u : State}

theorem feedMove_standby {j : Nat} (standby : standbyOf u (k / 4) = some j) :
    feedMove k off false u = some (modFoc (fun c => { c with failovers := sat32 c.failovers 1 })
      (interrupted (k / 4) (feedOf u k).role (elemsStepped (k / 4) (feedOf u k).role off (rolesMoved k j u)))) := by
  unfold feedMove
  rw [standby]
  simp only [Bool.or_false]
  rfl

theorem feedMove_none (alone : standbyOf u (k / 4) = none) (lost : Bool) : feedMove k off lost u = none := by
  unfold feedMove
  rw [alone]

/-- A feed that has a role and falls low gives it to the standby feed: what changes are roles, FINE, the count of failovers and, for
the gap in the sluice's light, the sluice with a free value drawn (R331). -/
theorem feedFail_hands (hasRole : (feedOf u k).role ≠ 3) {j : Nat} (standby : standbyOf u (k / 4) = some j) :
    ∃ w c, feedFail k off false u = sendFault (mkMsg u .feedLow 7 (feedUnit k) (k * 2 ^ 16)) w ∧ Keep 2068 u w
      ∧ w.foc = { (elemsStepped (k / 4) (feedOf u k).role off (rolesMoved k j u)).foc with failovers := sat32 u.foc.failovers 1 }
      ∧ w.mem = { u.mem with freeCtr := c } := by
  have moved := feedMove_standby (off := off) standby
  have kept := feedMove_keep k off false u _ moved
  obtain ⟨c, mem⟩ := interrupted_mem (field := k / 4) (role := (feedOf u k).role)
    (s := elemsStepped (k / 4) (feedOf u k).role off (rolesMoved k j u))
  refine ⟨_, c, ?told, kept, ?foc, ?mem⟩
  case told =>
    unfold feedFail
    rw [moved, if_neg hasRole]
    exact (raise_mild (by decide) _ _ _ _).trans (congrArg (sendFault · _) (mkMsg_congr (kept.tc rfl) _ _ _ _))
  case foc =>
    rw [modFoc_foc, interrupted_foc, elemsStepped_elems]
    rfl
  case mem =>
    rw [modFoc_mem, mem, elemsStepped_elems]
    rfl

/-- With no standby feed the role is without light (R332). -/
theorem feedFail_alone (hasRole : (feedOf u k).role ≠ 3) (alone : standbyOf u (k / 4) = none) :
    feedFail k off false u = capUpdate (raise .feedLost 7 (feedUnit k) (k * 2 ^ 16)
      (modFeedSt k (fun x => { x with low := true, lost := true }) u)) := by
  unfold feedFail
  rw [feedMove_none alone]
  exact if_neg hasRole

/-- A standby feed that falls low has no role to give (R331). -/
theorem feedFail_standing (standsBy : (feedOf u k).role = 3) :
    feedFail k off false u = sendFault (mkMsg u .feedLow 7 (feedUnit k) (k * 2 ^ 16)) (modFeedSt k (fun x => { x with low := true }) u) := by
  unfold feedFail
  simp only [Bool.or_false]
  exact (if_pos standsBy).trans (raise_mild (by decide) _ _ _ _)

theorem feedOf_modFeedSt {f : Feed → Feed} (listed : f (feedOf u k) ≠ {}) : feedOf (modFeedSt k f u) k = f (feedOf u k) :=
  tget_tupd_self _ _ listed

/-- A feed of the variant that was not low falls low, with what the tap monitors read of it (R331). -/
theorem execFeedLow_falls {line power : Nat} {s : State} (safe : s.flt.safe = false) (inRange : k < 16)
    (built : (fieldsOf s.part.variant).contains (k / 4) = true) (good : (feedOf s k).low = false) (booted : 7 ≤ s.boot.phase) :
    execFeedLow k off line power s = .next (feedFail k off false (feedLevel k line power s)) :=
  congrArg Host.Outcome.next (if_neg (by rw [safe, built, good, decide_eq_false (by omega), decide_eq_false (by omega)]; decide))

end

/-- Settles O24: a module's interrupt and poll branch by branch; the move of a role by what it leaves (`feedMove_leaves`), whose gap in
the sluice's light touches the sluice and the free values alone. -/
theorem laserModulesAndFeedsFail : Obligations.LaserModulesAndFeedsFail := by
  unfold Obligations.LaserModulesAndFeedsFail
  refine ⟨?leftReady, ?flag, ?message, ?quietPoll, ?flaggedPoll, ?leftPoll, ?moves, ?alone, ?standby⟩
  case leftReady =>
    intro m s safe inRange booted
    exact congrArg Host.Outcome.next (if_neg (lasersHeard safe inRange booted))
  case flag =>
    rintro m lane u s safe inRange booted rfl
    have heard := lasersHeard safe inRange booted
    exact ⟨congrArg Host.Outcome.next (if_neg heard), congrArg Host.Outcome.next (if_neg heard),
      congrArg Host.Outcome.next (if_neg heard)⟩
  case message =>
    intro m k warn s feeds
    exact laserFault_feed feeds warn
  case quietPoll =>
    intro m s safe inRange booted
    exact ⟨_, congrArg Host.Outcome.next (if_neg (lasersHeard safe inRange booted)), laserReady_contains m s, rfl, rfl, rfl⟩
  case flaggedPoll =>
    intro m fs s safe inRange booted isReady flagged
    exact congrArg Host.Outcome.next (laserPoll_flagged safe inRange booted isReady flagged)
  case leftPoll =>
    intro m fs s safe inRange booted left
    exact congrArg Host.Outcome.next (laserPoll_leftReady safe inRange booted left)
  case moves =>
    rintro k j line power off u s safe inRange built good booted level hasRole standby
    obtain ⟨w, c, hands, kept, foc, mem⟩ := feedFail_hands (off := off) hasRole standby
    have falls : exec (.feedLow k off line power) s = .next (feedFail k off false u) :=
      level ▸ execFeedLow_falls safe inRange built good booted
    have whole : Keep 18452 s w := Keep.step kept rfl (level ▸ (feedLevel_keep k line power s).mono rfl)
    have stepped := elemsStepped_elems (k / 4) (feedOf u k).role off (rolesMoved k j u)
    refine ⟨_, rolesMoved k j u, falls.trans (congrArg Host.Outcome.next hands), rfl, ?feeds, ?failovers, ?elems, ?net, ?rest⟩
    case feeds => rw [sendFault_foc, foc, stepped]
    case failovers => rw [sendFault_foc, foc, level]; rfl
    case elems => rw [sendFault_foc, foc]; rfl
    case net => rw [sendFault_flt, kept.flt rfl, level]; rfl
    case rest =>
      rw [(Keep.step (sendFault_keep _ w) rfl whole).feedParts]
      dsimp only
      rw [sendFault_mem, mem, level]
      rfl
  case alone =>
    rintro k line power off u s safe inRange built good booted rfl hasRole alone
    exact (execFeedLow_falls safe inRange built good booted).trans (congrArg Host.Outcome.next (feedFail_alone hasRole alone))
  case standby =>
    rintro k line power off u s safe inRange built good booted rfl standsBy
    refine ⟨_, (execFeedLow_falls safe inRange built good booted).trans (congrArg Host.Outcome.next (feedFail_standing standsBy)), ?_, rfl, rfl⟩
    have listed : { feedOf (feedLevel k line power s) k with low := true } ≠ ({} : Feed) := fun e => Bool.noConfusion (congrArg Feed.low e)
    exact congrArg Feed.low (feedOf_modFeedSt listed)

end Sys2Proof.Machine
end

section
/-! SUPPORT. The loops of tunable elements (R322 to R329, R381): an update of a loop, a lock that is lost, an element that leaves service
by its cause, and a re-sweep. -/

namespace Sys2Proof.Machine

open Sys2Proof

/-! ### An update of a loop -/

/-- A step is free where none was taken in the last 10 µs (R334). -/
theorem stepFree_spaced {x : Elem} {s : State} (spaced : x.stepAt = none ∨ ∃ a, x.stepAt = some a ∧ a + 10000 ≤ s.now) :
    stepFree s x = true := by
  unfold stepFree
  rcases spaced with never | ⟨a, last, long⟩
  · rw [never]
  · rw [last]
    exact decide_eq_true long

section
variable {e : Nat} {d f : Int} {s : State}

/-- FINE after an update: it moves within its bound and its range (R322, R324, R325). -/
def fineAfter (s : State) (e : Nat) (d : Int) : Int :=
  clampFine ((elemOf s e).fine + clampI (-fineRoom s (elemOf s e)) (fineRoom s (elemOf s e)) d)

/-- The loop of an element that is locked or searches runs (R323, R325). -/
theorem loopRuns (safe : s.flt.safe = false) (runs : elemState s e = 2 ∨ (elemState s e = 1 ∧ (elemOf s e).search.isSome = true)) :
    ¬ (s.flt.safe || (elemState s e != 2 && !(elemState s e == 1 && (elemOf s e).search.isSome))) = true := by
  rcases runs with locked | ⟨acquiring, searches⟩
  · simp [safe, locked]
  · simp [safe, acquiring, searches]

variable (safe : s.flt.safe = false) (runs : elemState s e = 2 ∨ (elemState s e = 1 ∧ (elemOf s e).search.isSome = true))
  (fine : fineAfter s e d = f)
include safe runs fine

/-- FINE within ±1,536 moves alone (R323). -/
theorem focusUpdate_fine  (low : -1536 ≤ f) (high : f ≤ 1536) :
    focusUpdate e d s = modElem e (fun y => { y with
      st := 2
      search := none
      fine := f
      moved := (s.now, (f - (elemOf s e).fine).natAbs) :: y.moved.filter (fun p => decide (s.now < p.1 + 10000)) }) s := by
  unfold focusUpdate
  unfold fineAfter at fine
  dsimp only
  rw [if_neg (loopRuns safe runs), fine, decide_eq_false (show ¬ 1536 < f by omega), decide_eq_false (show ¬ f < -1536 by omega)]
  simp only [Bool.false_and, Bool.or_self, Bool.and_false, Bool.false_eq_true, if_false]

/-- Past 1,536 COARSE steps up and FINE goes back by 512 (R323, R334). -/
theorem focusUpdate_up  (past : 1536 < f) (room : (elemOf s e).trim.coarse.toNat < 31) (free : stepFree s (elemOf s e) = true) :
    focusUpdate e d s = modElem e (fun y => { y with
      st := 2
      search := none
      fine := f - 512
      trim := { y.trim with coarse := y.trim.coarse + 1 }
      stepAt := some s.now
      moved := (s.now, (f - (elemOf s e).fine).natAbs) :: y.moved.filter (fun p => decide (s.now < p.1 + 10000)) }) s := by
  unfold focusUpdate
  unfold fineAfter at fine
  dsimp only
  rw [if_neg (loopRuns safe runs), fine, decide_eq_true past, decide_eq_true room, free]
  simp only [Bool.true_and, Bool.true_or, if_true]

/-- Past −1,536 COARSE steps down and FINE goes back by 512 (R323, R334). -/
theorem focusUpdate_down  (past : f < -1536) (room : 0 < (elemOf s e).trim.coarse.toNat) (free : stepFree s (elemOf s e) = true) :
    focusUpdate e d s = modElem e (fun y => { y with
      st := 2
      search := none
      fine := f + 512
      trim := { y.trim with coarse := y.trim.coarse - 1 }
      stepAt := some s.now
      moved := (s.now, (f - (elemOf s e).fine).natAbs) :: y.moved.filter (fun p => decide (s.now < p.1 + 10000)) }) s := by
  unfold focusUpdate
  unfold fineAfter at fine
  dsimp only
  rw [if_neg (loopRuns safe runs), fine, decide_eq_false (show ¬ 1536 < f by omega), decide_eq_true past, decide_eq_true room, free]
  simp only [Bool.false_and, Bool.true_and, Bool.or_true, Bool.false_eq_true, if_true, if_false]

end

theorem fineRoom_locked {x : Elem} {s : State} (locked : x.search = none) : fineRoom s x = 1024 - (movedOf s x : Int) := by
  unfold fineRoom
  rw [locked]

/-- In a search the bound holds for its first 10 µs (R324, R325). -/
theorem fineRoom_searching {x : Elem} {a : Tick} {s : State} (searches : x.search = some a) :
    fineRoom s x = if s.now < a + 10000 then 1024 - (movedOf s x : Int) else 2048 := by
  unfold fineRoom
  rw [searches]

/-! ### Leaving service -/

/-- An element that leaves service with no tone is named alone in its message (R326). -/
theorem elemOut_noTone (e cause : Nat) (k : FaultKind) (s : State) : elemOut e cause 0 k s
    = elemEffect e (raise k 7 (e / 1024) e (modElem e (fun x => { x with st := 3, cause := cause, search := none }) s)) := by
  rw [elemOut, Nat.zero_mul, Nat.add_zero]

section
variable {e : Nat} {s : State}

theorem searchTimeout_fails {a : Tick} (safe : s.flt.safe = false) (acquiring : elemState s e = 1)
    (searches : (elemOf s e).search = some a) (long : a + 100000 ≤ s.now) :
    searchTimeout e s = elemOut e 1 0 .focusLost (modFoc (fun f => { f with lockLost := sat32 f.lockLost 1 }) s) := by
  unfold searchTimeout
  rw [searches]
  exact if_neg (by simp [safe, acquiring, long])

theorem focusRange_fails (safe : s.flt.safe = false) (lit : elemState s e = 1 ∨ elemState s e = 2)
    (atEnd : driveOf (elemOf s e) = 0 ∨ driveOf (elemOf s e) = 16384) :
    focusRange e s = elemOut e 3 0 .focusRange (modFoc (fun f => { f with lockLost := sat32 f.lockLost 1 }) s) := by
  have inside : ¬ (0 < driveOf (elemOf s e) ∧ driveOf (elemOf s e) < 16384) := by omega
  refine if_neg ?_
  rcases lit with h | h <;> simp [safe, h, inside]

/-- An identity check of a locked ring records what it read, and lets the ring serve on or not (R328, R329). -/
theorem identityCheck_locked {w : Nat} {k : ElemKind} (safe : s.flt.safe = false) (locked : elemState s e = 2)
    (kind : elemKind s.part.variant e = some k) (channel : channelOf k = some w) (tone : Nat) {clear pass : Bool}
    (passes : (clear && decide (tone % 16 = w)) = pass) :
    identityCheck e tone clear s =
      if pass then modElem e (fun x => { x with tone := some (tone % 16), toneOk := pass }) s
      else elemOut e 2 (tone % 16) .wrongLock (modFoc (fun f => { f with wrongLocks := sat32 f.wrongLocks 1 })
        (modElem e (fun x => { x with tone := some (tone % 16), toneOk := pass }) s)) := by
  have ring : (elemKind s.part.variant e).bind channelOf = some w := by rw [kind]; exact channel
  unfold identityCheck
  rw [ring]
  dsimp only
  rw [passes]
  exact if_neg (by simp [safe, locked])

end

/-! ### A re-sweep -/

section
variable {e : Nat} {s : State}

variable (safe : s.flt.safe = false) (out : elemState s e = 3) (wrong : (elemOf s e).cause = 2) (few : (elemOf s e).failed < 2)
include safe out wrong few

/-- A wrong lock that has not failed both ways is swept again (R329). -/
theorem resweepRuns :
    ¬ (s.flt.safe || elemState s e != 3 || (elemOf s e).cause != 2 || decide (2 ≤ (elemOf s e).failed)) = true := by
  simp [safe, out, wrong, few]

theorem resweep_locked {c w : Nat} {k : ElemKind} (kind : elemKind s.part.variant e = some k) (channel : channelOf k = some w)
    (free : fenced s (uElem e) = false) :
    resweep e (.locked c) s = liftFence (uElem e) (modElem e (fun y => { y with
      st := 2
      cause := 0
      trim := { y.trim with coarse := BitVec.ofNat 5 c }
      fine := 0
      tone := some w
      toneOk := true
      failed := 0
      sweptDown := !y.sweptDown }) s) := by
  have ring : ((elemKind s.part.variant e).bind channelOf).getD 0 = w := by rw [kind, Option.bind_some, channel, Option.getD_some]
  unfold resweep
  dsimp only
  rw [if_neg (resweepRuns safe out wrong few), free, if_neg Bool.false_ne_true, ring]

theorem resweep_failed (free : fenced s (uElem e) = false) :
    resweep e .failed s = modEntry (uElem e) (fun y => { y with quietFrom := s.now })
      (modElem e (fun y => { y with failed := y.failed + 1, sweptDown := !y.sweptDown }) s) := by
  unfold resweep
  dsimp only
  rw [if_neg (resweepRuns safe out wrong few), free, if_neg Bool.false_ne_true]
  refine if_neg ?_
  rw [show fenced (modElem e _ s) (uElem e) = false from free]
  exact Bool.false_ne_true

end

/-- Settles O25: the three ranges of FINE after an update, the bound on its movement, each cause of leaving service, and a re-sweep. -/
theorem elementLoopsLockSearchAndFail : Obligations.ElementLoopsLockSearchAndFail := by
  unfold Obligations.ElementLoopsLockSearchAndFail
  refine ⟨?within, ?up, ?down, ?room, ?lockLost, ?searchFails, ?range, ?rightTone, ?wrongTone, ?locks, ?fails⟩
  case within =>
    rintro e d m f s safe runs rfl fine low high
    exact congrArg Host.Outcome.next (focusUpdate_fine safe runs fine.symm low high)
  case up =>
    rintro e d m f s safe runs rfl fine past room spaced
    exact congrArg Host.Outcome.next (focusUpdate_up safe runs fine.symm past room (stepFree_spaced spaced))
  case down =>
    rintro e d m f s safe runs rfl fine past room spaced
    exact congrArg Host.Outcome.next (focusUpdate_down safe runs fine.symm past room (stepFree_spaced spaced))
  case room => exact fun x s => ⟨fineRoom_locked, fun _ => fineRoom_searching⟩
  case lockLost =>
    intro e s safe locked
    exact congrArg Host.Outcome.next (if_neg (by simp [safe, locked]))
  case searchFails =>
    intro e a s safe acquiring searches long
    exact congrArg Host.Outcome.next ((searchTimeout_fails safe acquiring searches long).trans (elemOut_noTone _ _ _ _))
  case range =>
    intro e s safe lit atEnd
    exact congrArg Host.Outcome.next ((focusRange_fails safe lit atEnd).trans (elemOut_noTone _ _ _ _))
  case rightTone =>
    rintro e w tone k s safe locked kind channel rfl
    exact congrArg Host.Outcome.next (identityCheck_locked (pass := true) safe locked kind channel tone (decide_eq_true rfl))
  case wrongTone =>
    intro e w tone ok k s safe locked kind channel wrong
    have fails : (ok && decide (tone % 16 = w)) = false := by
      rcases wrong with unclear | other
      · rw [unclear, Bool.false_and]
      · rw [decide_eq_false other, Bool.and_false]
    exact congrArg Host.Outcome.next (identityCheck_locked safe locked kind channel tone fails)
  case locks =>
    intro e c w k s safe out wrong few kind channel free
    exact congrArg Host.Outcome.next (resweep_locked safe out wrong few kind channel free)
  case fails =>
    intro e s safe out wrong few free
    exact congrArg Host.Outcome.next (resweep_failed safe out wrong few free)

end Sys2Proof.Machine
end

section
/-! SUPPORT. Headroom, trims and the warm image (R330, R333 to R335, R337, R338): an evaluation by the median, one step of one element's
trims, and a save from its command to its end. -/

namespace Sys2Proof.Machine

open Sys2Proof

/-! ### Headroom -/

section
variable {n d2 : Nat} {s : State}

/-- The new entry of a unit whose flags were clear: flags by the median alone (R330). -/
def headFresh (s : State) (n d2 : Nat) (low high : Bool) : Headroom :=
  { median := (d2 * 255 + 16384) / 32768
    history := (s.now, (d2 * 255 + 16384) / 32768)
      :: (tget ({} : Headroom) s.foc.head n).history.filter (fun p => decide (s.now < p.1 + 1000000000))
    low := low, high := high, clear := 0 }

/-- An evaluation of a unit whose flags were clear begins what its median calls for (R330). -/
theorem headroom_fresh (safe : s.flt.safe = false) (built : hasStation s.part.variant n = true) (focused : s.foc.focused = true)
    (median : medianDrive2 s n = some d2) (noLow : (tget ({} : Headroom) s.foc.head n).low = false)
    (noHigh : (tget ({} : Headroom) s.foc.head n).high = false) {low high : Bool} (isLow : decide (d2 * 100 < 32768 * 5) = low)
    (isHigh : decide (32768 * 95 < d2 * 100) = high) :
    headroom n s =
      let t := modFoc (fun f => { f with head := tset {} f.head n (headFresh s n d2 low high) }) s
      let t := if low then standBegin .headroomLow 7 n 0 t else t
      if high then standBegin .headroomHigh 7 n 0 t else t := by
  unfold headroom
  rw [median]
  dsimp only
  rw [if_neg (by simp [safe, built, focused]), noLow, noHigh, isLow, isHigh]
  simp only [Bool.false_eq_true, if_false, Bool.not_false, Bool.and_true, Bool.false_and]
  rfl

/-- A flag that begins shows in the unit's entry and is told once, and nothing else changes (R330, R374). -/
theorem headroom_begins {k : FaultKind} (new : standAddr s k n = none) (mild : kindSev k ≠ 3) {h : Headroom} (listed : h ≠ {}) :
    ∃ t, standBegin k 7 n 0 (modFoc (fun f => { f with head := tset {} f.head n h }) s) = t ∧ tget {} t.foc.head n = h
      ∧ t.flt.net = s.flt.net ++ [mkMsg s k 7 n 0]
      ∧ t = { s with foc := { s.foc with head := t.foc.head }, flt := { s.flt with net := t.flt.net, standing := t.flt.standing } } :=
  ⟨_, standBegin_new (s := modFoc _ s) new mild _ _, tget_tset_self _ _ listed, rfl, rfl⟩

end

/-! ### Trims -/

section
variable {n e : Nat} {s : State}

/-- With one element that has a target, and no move measured, a trim interval steps that element (R334). -/
theorem trimFocus_one {x : Elem} {g : TrimRec} {k : ElemKind} (safe : s.flt.safe = false) (thawed : s.foc.freeze = false)
    (built : hasStation s.part.variant n = true) (unit : e / 1024 = n) (elems : s.foc.elems = [(e, x)]) (target : x.target = some g)
    (kind : elemKind s.part.variant e = some k) (serves : elemState s e = 2) (free : stepFree s x = true)
    (unmet : trimMet k x.trim g = false) :
    trimFocus n [] s = modElem e (fun y => { y with
      trim := trimStep k x.trim g
      stepAt := some s.now
      target := if y.target.isSome && trimMet k (trimStep k x.trim g) g then none else y.target }) s := by
  have aims : (s.foc.elems.filter (fun p => p.1 / 1024 == n && p.2.target.isSome)).map (·.1) = [e] := by
    simp [elems, unit, target]
  have itself : elemOf s e = x := by
    rw [elemOf, elems]
    exact if_pos rfl
  have moves : trimStep k x.trim g ≠ x.trim := beq_eq_false_iff_ne.mp unmet
  unfold trimFocus
  rw [if_neg (by simp [safe, thawed, built])]
  dsimp only
  rw [aims]
  simp only [List.map_nil, List.filter_nil, List.append_nil, List.eraseDups_cons, List.eraseDups_nil, List.foldl_cons, List.foldl_nil]
  rw [kind, itself]
  dsimp only
  rw [serves, free, target, if_neg (by decide)]
  simp only [moves, if_false]

/-- FREEZE holds trims (R334). -/
theorem trimFocus_frozen (frozen : s.foc.freeze = true) (moves : List (Nat × Nat × Nat × Nat)) : trimFocus n moves s = s :=
  if_pos (by rw [frozen, Bool.or_true, Bool.true_or])

end

/-! ### The warm image -/

section
variable {s : State}

theorem warmSave_refused (busy : s.boot.phase = 7 ∨ s.foc.saving = true) :
    warmSave s = modFoc (fun f => { f with saveFailed := true }) s := if_pos busy

/-- A save goes to the copy with the lower GENERATION, and to the first of two that are not valid (R338). -/
theorem warmSave_starts (later : s.boot.phase ≠ 7) (idle : s.foc.saving = false) :
    warmSave s = modFoc (fun f => { f with
      saving := true
      saveFailed := false
      writing := if s.foc.copyA.valid = true ∧ (s.foc.copyB.valid = false ∨ s.foc.copyB.generation ≤ s.foc.copyA.generation)
        then 2 else 1 }) s := by
  unfold warmSave
  rw [if_neg (by simp [later, idle])]
  simp only [Bool.and_eq_true, Bool.or_eq_true, Bool.not_eq_true', decide_eq_true_eq]

/-- A save that fails says so and writes nothing (R338). -/
theorem saveDone_failed (safe : s.flt.safe = false) (runs : s.foc.saving = true) :
    saveDone false s = modFoc (fun f => { f with saving := false, saveFailed := true }) s := by
  unfold saveDone
  rw [if_neg (by simp [safe, runs])]
  rfl

/-- The image that a save of copy A leaves: the next GENERATION after copy B's, the time, and what stands (R337, R338). -/
def imageAfterB (s : State) : WarmImage :=
  { valid := true
    generation := (if s.foc.copyB.valid then s.foc.copyB.generation else 0) + 1
    savedAt := s.tc.timecode
    tempSaved := medianTemp s
    elems := allRecords s
    taps := siteTaps s
    rest := true }

theorem imageAfterB_elems (s : State) : (imageAfterB s).elems = allRecords s := by rw [imageAfterB]

theorem saveDone_copyA (safe : s.flt.safe = false) (runs : s.foc.saving = true) (first : s.foc.writing = 1) :
    saveDone true s = { s with
      foc := { s.foc with saving := false, copyA := imageAfterB s }
      boot := { s.boot with flash := tclear s.boot.flash warmA (warmA + warmSize) } } := by
  unfold saveDone
  rw [if_neg (by simp [safe, runs])]
  simp only [modFoc, modBoot, first, if_true]
  rfl

end

/-- Settles O26: an evaluation from clear flags (`headroom_fresh`) in its three ranges, a trim interval with one target, and the
commands and the end of a save. -/
theorem headroomTrimsAndTheWarmImage : Obligations.HeadroomTrimsAndTheWarmImage := by
  unfold Obligations.HeadroomTrimsAndTheWarmImage
  refine ⟨?middle, ?low, ?high, ?trim, ?frozen, ?freeze, ?refused, ?starts, ?noRight, ?saved, ?failed⟩
  case middle =>
    rintro n d2 m s safe built focused median rfl noLow noHigh aboveLow belowHigh
    exact congrArg Host.Outcome.next (headroom_fresh safe built focused median noLow noHigh
      (decide_eq_false (Nat.not_lt.mpr aboveLow)) (decide_eq_false (Nat.not_lt.mpr belowHigh)))
  case low =>
    rintro n d2 m s safe built focused median rfl noLow noHigh isLow new
    obtain ⟨t, begins, head, net, rest⟩ := headroom_begins new (by decide) (h := headFresh s n d2 true false)
      (fun e => Bool.noConfusion (congrArg Headroom.low e))
    have fresh := headroom_fresh safe built focused median noLow noHigh (decide_eq_true isLow)
      (decide_eq_false (show ¬ 32768 * 95 < d2 * 100 by omega))
    exact ⟨t, congrArg Host.Outcome.next (fresh.trans begins), congrArg Headroom.low head, congrArg Headroom.median head, net, rest⟩
  case high =>
    rintro n d2 m s safe built focused median rfl noLow noHigh isHigh new
    obtain ⟨t, begins, head, net, rest⟩ := headroom_begins new (by decide) (h := headFresh s n d2 false true)
      (fun e => Bool.noConfusion (congrArg Headroom.high e))
    have fresh := headroom_fresh safe built focused median noLow noHigh
      (decide_eq_false (show ¬ d2 * 100 < 32768 * 5 by omega)) (decide_eq_true isHigh)
    exact ⟨t, congrArg Host.Outcome.next (fresh.trans begins), congrArg Headroom.high head, congrArg Headroom.median head, net, rest⟩
  case trim =>
    intro n e x g k s safe thawed built unit elems target kind serves free unmet
    refine congrArg Host.Outcome.next ((trimFocus_one safe thawed built unit elems target kind serves free unmet).trans ?_)
    have itself : tget {} s.foc.elems e = x := by
      rw [elems]
      exact if_pos rfl
    rw [modElem, modFoc, tupd, itself, target]
    rfl
  case frozen => exact fun n moves s frozen => congrArg Host.Outcome.next (trimFocus_frozen frozen moves)
  case freeze => exact fun p on s right => congrArg Host.Outcome.next (iWrite_installer right)
  case refused =>
    intro p s right busy
    refine congrArg Host.Outcome.next ((iWrite_installer right).trans ?_)
    rw [warmSave_refused busy]
    rfl
  case starts =>
    intro p s right later idle
    refine congrArg Host.Outcome.next ((iWrite_installer right).trans ?_)
    rw [warmSave_starts later idle]
    rfl
  case noRight =>
    exact fun p on s noRight => ⟨congrArg Host.Outcome.next (iWrite_refused noRight), congrArg Host.Outcome.next (iWrite_refused noRight)⟩
  case saved =>
    intro s safe runs first
    exact ⟨_, congrArg Host.Outcome.next (saveDone_copyA safe runs first), rfl, rfl, rfl, rfl, rfl, imageAfterB_elems s, rfl, rfl, rfl⟩
  case failed => exact fun s safe runs => congrArg Host.Outcome.next (saveDone_failed safe runs)

end Sys2Proof.Machine
end

section
/-! SUPPORT. What every command keeps, read off the masks of Laws/Keep: the parts that `touches` does not list, safe state but for the
four commands that may end it, the one-time cells, and the form of memory. -/

namespace Sys2Proof.Machine

open Sys2Proof

/-! ### Parts and the bits of a mask -/

/-- The bit of a part in the masks of Laws/Keep. -/
def Piece.bit : Piece → Nat
  | .now => 0
  | .tc => 1
  | .slu => 2
  | .mrc => 3
  | .mem => 4
  | .blk => 5
  | .mpd => 6
  | .grp => 7
  | .mst => 8
  | .tsi => 9
  | .pod => 10
  | .foc => 11
  | .thm => 12
  | .gaf => 13
  | .flt => 14
  | .pair => 15
  | .role => 16
  | .boot => 17
  | .csp => 18
  | .tel => 19
  | .ident => 20
  | .pins => 21
  | .out => 22

theorem Keep.same {m : Nat} {s t : State} (k : Keep m s t) : ∀ p : Piece, m.testBit p.bit = false → p.same s t
  | .now => k.now
  | .tc => k.tc
  | .slu => k.slu
  | .mrc => k.mrc
  | .mem => k.mem
  | .blk => k.blk
  | .mpd => k.mpd
  | .grp => k.grp
  | .mst => k.mst
  | .tsi => k.tsi
  | .pod => k.pod
  | .foc => k.foc
  | .thm => k.thm
  | .gaf => k.gaf
  | .flt => k.flt
  | .pair => k.pair
  | .role => k.role
  | .boot => k.boot
  | .csp => k.csp
  | .tel => k.tel
  | .ident => k.ident
  | .pins => k.pins
  | .out => k.out

def Piece.all : List Piece :=
  [.now, .tc, .slu, .mrc, .mem, .blk, .mpd, .grp, .mst, .tsi, .pod, .foc, .thm, .gaf, .flt, .pair, .role, .boot, .csp, .tel, .ident, .pins, .out]

theorem Piece.mem_all (p : Piece) : p ∈ Piece.all := by cases p <;> decide

/-- The commands that may end safe state. -/
def endsSafe : Instr → Bool
  | .resetAssert _ | .vddIoRemoved | .thermtripRelease | .coolantRestart => true
  | _ => false

/-- A mask allows no more than what a command touches, and the end of safe state only to a command that may bring it. -/
def maskFits (c : Instr) (m : Nat) : Bool :=
  Piece.all.all (fun p => (touches c).contains p || !m.testBit p.bit) && (endsSafe c || !m.testBit 23)

/-- A command goes on, and keeps what a mask that fits it does not name. -/
def Within (c : Instr) (s : State) : Prop := ∃ t m, exec c s = .next t ∧ Keep m s t ∧ maskFits c m = true

theorem within {c : Instr} {s : State} {m : Nat} (keeps : ∃ t, exec c s = .next t ∧ Keep m s t) (fits : maskFits c m = true) : Within c s := by
  obtain ⟨t, goes, kept⟩ := keeps
  exact ⟨t, m, goes, kept, fits⟩

theorem exec_within : ∀ (c : Instr) (s : State), Within c s
  | .timecodeTick a0, s => within (execTimecodeTick_keep a0 s) rfl
  | .timeCorrectionStep a0, s => within (execTimeCorrectionStep_keep a0 s) rfl
  | .refclkLoss, s => within (execRefclkLoss_keep s) rfl
  | .refclkHoldoverExpiry, s => within (execRefclkHoldoverExpiry_keep s) rfl
  | .stitchRemeasure a0, s => within (execStitchRemeasure_keep a0 s) rfl
  | .frameBoundary a0, s => within (execFrameBoundary_keep a0 s) rfl
  | .preambleReceived a0 a1 a2 a3, s => within (execPreambleReceived_keep a0 a1 a2 a3 s) rfl
  | .splice, s => within (execSplice_keep s) rfl
  | .swapArm a0, s => within (execSwapArm_keep a0 s) rfl
  | .swapCancel a0, s => within (execSwapCancel_keep a0 s) rfl
  | .reelStart a0, s => within (execReelStart_keep a0 s) rfl
  | .reelStop a0, s => within (execReelStop_keep a0 s) rfl
  | .clapperPulse, s => within (execClapperPulse_keep s) rfl
  | .clapperWindowClose, s => within (execClapperWindowClose_keep s) rfl
  | .followFirstPass, s => within (execFollowFirstPass_keep s) rfl
  | .clapperStartTimeout, s => within (execClapperStartTimeout_keep s) rfl
  | .slackShortTimeout a0, s => within (execSlackShortTimeout_keep a0 s) rfl
  | .tcPauseReq a0 a1 a2, s => within (execTcPauseReq_keep a0 a1 a2 s) rfl
  | .pauseWindowStart a0, s => within (execPauseWindowStart_keep a0 s) rfl
  | .pauseComplete a0, s => within (execPauseComplete_keep a0 s) rfl
  | .pauseTimeout a0, s => within (execPauseTimeout_keep a0 s) rfl
  | .sluiceFlitReceive a0 a1 a2, s => within (execSluiceFlitReceive_keep a0 a1 a2 s) rfl
  | .siteStreamForward a0 a1, s => within (execSiteStreamForward_keep a0 a1 s) rfl
  | .reelStoreWrite a0 a1 a2, s => within (execReelStoreWrite_keep a0 a1 a2 s) rfl
  | .reelCheck a0, s => within (execReelCheck_keep a0 s) rfl
  | .reelCheckComplete, s => within (execReelCheckComplete_keep s) rfl
  | .reelClear a0, s => within (execReelClear_keep a0 s) rfl
  | .drainEnd, s => within (execDrainEnd_keep s) rfl
  | .millraceFlitSend a0 a1 a2, s => within (execMillraceFlitSend_keep a0 a1 a2 s) rfl
  | .millraceFlitReceive a0 a1 a2 a3, s => within (execMillraceFlitReceive_keep a0 a1 a2 a3 s) rfl
  | .selfDelivery a0 a1, s => within (execSelfDelivery_keep a0 a1 s) rfl
  | .millraceLambdaOut a0 a1, s => within (execMillraceLambdaOut_keep a0 a1 s) rfl
  | .spareRemapComplete a0 a1, s => within (execSpareRemapComplete_keep a0 a1 s) rfl
  | .peakClearSelected a0, s => within (execPeakClearSelected_keep a0 s) rfl
  | .peakClearAll a0, s => within (execPeakClearAll_keep a0 s) rfl
  | .memRequestIssue a0, s => within (execMemRequestIssue_keep a0 s) rfl
  | .load a0 a1, s => within (execLoad_keep a0 a1 s) rfl
  | .store a0 a1, s => within (execStore_keep a0 a1 s) rfl
  | .storeData a0 a1 a2 a3 a4, s => within (execStoreData_keep a0 a1 a2 a3 a4 s) rfl
  | .addI64 a0 a1, s => within (execAddI64_keep a0 a1 s) rfl
  | .addF32x2 a0 a1, s => within (execAddF32x2_keep a0 a1 s) rfl
  | .swap a0 a1, s => within (execSwap_keep a0 a1 s) rfl
  | .cas a0 a1, s => within (execCas_keep a0 a1 s) rfl
  | .maxI64 a0 a1, s => within (execMaxI64_keep a0 a1 s) rfl
  | .minI64 a0 a1, s => within (execMinI64_keep a0 a1 s) rfl
  | .maxF32x2 a0 a1, s => within (execMaxF32x2_keep a0 a1 s) rfl
  | .minF32x2 a0 a1, s => within (execMinF32x2_keep a0 a1 s) rfl
  | .loadData a0, s => within (execLoadData_keep a0 s) rfl
  | .ack a0, s => within (execAck_keep a0 s) rfl
  | .timeoutSweep, s => within (execTimeoutSweep_keep s) rfl
  | .patrolScrub a0 a1 a2, s => within (execPatrolScrub_keep a0 a1 a2 s) rfl
  | .stackLaneFail a0 a1, s => within (execStackLaneFail_keep a0 a1 s) rfl
  | .epochEnd, s => within (execEpochEnd_keep s) rfl
  | .blockFetchResponse a0 a1 a2 a3 a4, s => within (execBlockFetchResponse_keep a0 a1 a2 a3 a4 s) rfl
  | .regionDeclare a0 a1 a2, s => within (execRegionDeclare_keep a0 a1 a2 s) rfl
  | .regionRelease a0 a1, s => within (execRegionRelease_keep a0 a1 s) rfl
  | .regionReleaseComplete a0, s => within (execRegionReleaseComplete_keep a0 s) rfl
  | .gripDescriptorStart a0, s => within (execGripDescriptorStart_keep a0 s) rfl
  | .descriptorComplete a0 a1, s => within (execDescriptorComplete_keep a0 a1 s) rfl
  | .queueEnable a0 a1 a2 a3, s => within (execQueueEnable_keep a0 a1 a2 a3 s) rfl
  | .queueDisable a0 a1, s => within (execQueueDisable_keep a0 a1 s) rfl
  | .queueReset a0 a1, s => within (execQueueReset_keep a0 a1 s) rfl
  | .watchArm a0 a1 a2, s => within (execWatchArm_keep a0 a1 a2 s) rfl
  | .watchNotice a0, s => within (execWatchNotice_keep a0 s) rfl
  | .colHdr a0 a1 a2, s => within (execColHdr_keep a0 a1 a2 s) rfl
  | .colLine a0 a1 a2 a3, s => within (execColLine_keep a0 a1 a2 a3 s) rfl
  | .groupFinish a0 a1 a2, s => within (execGroupFinish_keep a0 a1 a2 s) rfl
  | .chunkComplete a0, s => within (execChunkComplete_keep a0 s) rfl
  | .dueTick a0 a1, s => within (execDueTick_keep a0 a1 s) rfl
  | .lateLimitExpiry a0 a1, s => within (execLateLimitExpiry_keep a0 a1 s) rfl
  | .laneRateMeasure a0 a1, s => within (execLaneRateMeasure_keep a0 a1 s) rfl
  | .contextSetup a0 a1, s => within (execContextSetup_keep a0 a1 s) rfl
  | .contextAbort a0 a1, s => within (execContextAbort_keep a0 a1 s) rfl
  | .contextFree a0 a1, s => within (execContextFree_keep a0 a1 s) rfl
  | .contextConstants a0 a1 a2, s => within (execContextConstants_keep a0 a1 a2 s) rfl
  | .sitePowerUp a0, s => within (execSitePowerUp_keep a0 s) rfl
  | .vsiteReq a0 a1, s => within (execVsiteReq_keep a0 a1 s) rfl
  | .vsiteStep a0, s => within (execVsiteStep_keep a0 s) rfl
  | .siteOvervolt a0, s => within (execSiteOvervolt_keep a0 s) rfl
  | .siteUndervolt a0, s => within (execSiteUndervolt_keep a0 s) rfl
  | .siteOvercurrent a0, s => within (execSiteOvercurrent_keep a0 s) rfl
  | .tsiPowerBumpFail a0 a1, s => within (execTsiPowerBumpFail_keep a0 a1 s) rfl
  | .siteTraining a0 a1, s => within (execSiteTraining_keep a0 a1 s) rfl
  | .trimInterval a0 a1, s => within (execTrimInterval_keep a0 a1 s) rfl
  | .tsiLaneTapWrite a0 a1 a2 a3 a4 a5, s => within (execTsiLaneTapWrite_keep a0 a1 a2 a3 a4 a5 s) rfl
  | .tsiTrimFreeze a0 a1 a2, s => within (execTsiTrimFreeze_keep a0 a1 a2 s) rfl
  | .laneFailing a0 a1 a2 a3, s => within (execLaneFailing_keep a0 a1 a2 a3 s) rfl
  | .spareCompareDone a0 a1, s => within (execSpareCompareDone_keep a0 a1 s) rfl
  | .tsiFlitReceive a0 a1 a2 a3, s => within (execTsiFlitReceive_keep a0 a1 a2 a3 s) rfl
  | .nakTimeout a0, s => within (execNakTimeout_keep a0 s) rfl
  | .hopperRelease a0 a1, s => within (execHopperRelease_keep a0 a1 s) rfl
  | .signal a0 a1, s => within (execSignal_keep a0 a1 s) rfl
  | .streamLine a0 a1 a2 a3, s => within (execStreamLine_keep a0 a1 a2 a3 s) rfl
  | .streamCredit a0 a1 a2 a3, s => within (execStreamCredit_keep a0 a1 a2 a3 s) rfl
  | .helloAck a0 a1, s => within (execHelloAck_keep a0 a1 s) rfl
  | .cap a0 a1 a2, s => within (execCap_keep a0 a1 a2 s) rfl
  | .capEnd a0, s => within (execCapEnd_keep a0 s) rfl
  | .resend a0, s => within (execResend_keep a0 s) rfl
  | .regRead a0 a1 a2, s => within (execRegRead_keep a0 a1 a2 s) rfl
  | .regWrite a0 a1 a2 a3, s => within (execRegWrite_keep a0 a1 a2 a3 s) rfl
  | .temp a0 a1, s => within (execTemp_keep a0 a1 s) rfl
  | .laneFail a0 a1 a2, s => within (execLaneFail_keep a0 a1 a2 s) rfl
  | .pauseReq a0 a1, s => within (execPauseReq_keep a0 a1 s) rfl
  | .slewReq a0 a1 a2 a3, s => within (execSlewReq_keep a0 a1 a2 a3 s) rfl
  | .moduleOffAck a0 a1 a2, s => within (execModuleOffAck_keep a0 a1 a2 s) rfl
  | .sidebandLost a0, s => within (execSidebandLost_keep a0 s) rfl
  | .podFlitReceive a0 a1 a2 a3, s => within (execPodFlitReceive_keep a0 a1 a2 a3 s) rfl
  | .linkTraining a0 a1, s => within (execLinkTraining_keep a0 a1 s) rfl
  | .linkHello a0 a1, s => within (execLinkHello_keep a0 a1 s) rfl
  | .laneDrop a0 a1 a2, s => within (execLaneDrop_keep a0 a1 a2 s) rfl
  | .laneMap a0 a1, s => within (execLaneMap_keep a0 a1 s) rfl
  | .laneMapRetry a0, s => within (execLaneMapRetry_keep a0 s) rfl
  | .route a0 a1 a2 a3, s => within (execRoute_keep a0 a1 a2 a3 s) rfl
  | .flowAck a0 a1, s => within (execFlowAck_keep a0 a1 s) rfl
  | .flowOpen a0 a1 a2 a3, s => within (execFlowOpen_keep a0 a1 a2 a3 s) rfl
  | .flowAckTimer a0, s => within (execFlowAckTimer_keep a0 s) rfl
  | .fwdMessage a0 a1 a2, s => within (execFwdMessage_keep a0 a1 a2 s) rfl
  | .timeRequestSend a0, s => within (execTimeRequestSend_keep a0 s) rfl
  | .time a0 a1, s => within (execTime_keep a0 a1 s) rfl
  | .timeLinkTimeout a0, s => within (execTimeLinkTimeout_keep a0 s) rfl
  | .podRtCheck a0, s => within (execPodRtCheck_keep a0 s) rfl
  | .routeCheckComplete, s => within (execRouteCheckComplete_keep s) rfl
  | .podRtSwap a0, s => within (execPodRtSwap_keep a0 s) rfl
  | .podRtCancel a0, s => within (execPodRtCancel_keep a0 s) rfl
  | .podRtCopy a0, s => within (execPodRtCopy_keep a0 s) rfl
  | .routeDrainEnd, s => within (execRouteDrainEnd_keep s) rfl
  | .quarantineEval, s => within (execQuarantineEval_keep s) rfl
  | .quarantineTimeout a0, s => within (execQuarantineTimeout_keep a0 s) rfl
  | .podQuarClear a0, s => within (execPodQuarClear_keep a0 s) rfl
  | .lsInt a0 a1, s => within (execLsInt_keep a0 a1 s) rfl
  | .laserModulePoll a0 a1, s => within (execLaserModulePoll_keep a0 a1 s) rfl
  | .focusUpdate a0 a1, s => within (execFocusUpdate_keep a0 a1 s) rfl
  | .focusLockLost a0, s => within (execFocusLockLost_keep a0 s) rfl
  | .focusSearchTimeout a0, s => within (execFocusSearchTimeout_keep a0 s) rfl
  | .focusRange a0, s => within (execFocusRange_keep a0 s) rfl
  | .identityCheck a0 a1 a2, s => within (execIdentityCheck_keep a0 a1 a2 s) rfl
  | .resweepComplete a0 a1, s => within (execResweepComplete_keep a0 a1 s) rfl
  | .headroomEval a0, s => within (execHeadroomEval_keep a0 s) rfl
  | .feedLow a0 a1 a2 a3, s => within (execFeedLow_keep a0 a1 a2 a3 s) rfl
  | .focusTrimInterval a0 a1, s => within (execFocusTrimInterval_keep a0 a1 s) rfl
  | .focTrimFreeze a0 a1, s => within (execFocTrimFreeze_keep a0 a1 s) rfl
  | .warmSave a0, s => within (execWarmSave_keep a0 s) rfl
  | .warmSaveComplete a0, s => within (execWarmSaveComplete_keep a0 s) rfl
  | .sensorSample a0, s => within (execSensorSample_keep a0 s) rfl
  | .sensorFail a0, s => within (execSensorFail_keep a0 s) rfl
  | .thermtripRelease, s => within (execThermtripRelease_keep s) rfl
  | .coolantStop, s => within (execCoolantStop_keep s) rfl
  | .coolantRestart, s => within (execCoolantRestart_keep s) rfl
  | .warmupEnd, s => within (execWarmupEnd_keep s) rfl
  | .lowTempReturn a0, s => within (execLowTempReturn_keep a0 s) rfl
  | .throttleStep, s => within (execThrottleStep_keep s) rfl
  | .stackTempRead a0 a1, s => within (execStackTempRead_keep a0 a1 s) rfl
  | .tempCeilingStep a0, s => within (execTempCeilingStep_keep a0 s) rfl
  | .siteOvertemp a0, s => within (execSiteOvertemp_keep a0 s) rfl
  | .gafferEvaluation, s => within (execGafferEvaluation_keep s) rfl
  | .gafferDivide, s => within (execGafferDivide_keep s) rfl
  | .limitCheck a0, s => within (execLimitCheck_keep a0 s) rfl
  | .clampRelease a0, s => within (execClampRelease_keep a0 s) rfl
  | .vmillRaiseStep, s => within (execVmillRaiseStep_keep s) rfl
  | .vmillLowerStep, s => within (execVmillLowerStep_keep s) rfl
  | .pmbusFail, s => within (execPmbusFail_keep s) rfl
  | .pmbusAlert, s => within (execPmbusAlert_keep s) rfl
  | .sitePowerSample a0 a1 a2, s => within (execSitePowerSample_keep a0 a1 a2 s) rfl
  | .slewGuardEnd a0, s => within (execSlewGuardEnd_keep a0 s) rfl
  | .budgetGrant a0 a1 a2 a3, s => within (execBudgetGrant_keep a0 a1 a2 a3 s) rfl
  | .budgetQuery a0, s => within (execBudgetQuery_keep a0 s) rfl
  | .budgetExpiry, s => within (execBudgetExpiry_keep s) rfl
  | .budgetExcessRelease, s => within (execBudgetExcessRelease_keep s) rfl
  | .budgetReleaseAck a0 a1, s => within (execBudgetReleaseAck_keep a0 a1 s) rfl
  | .budgetReleaseRetry, s => within (execBudgetReleaseRetry_keep s) rfl
  | .paceNotice a0, s => within (execPaceNotice_keep a0 s) rfl
  | .paceNoticeTimer a0, s => within (execPaceNoticeTimer_keep a0 s) rfl
  | .paceNoticeExpiry a0, s => within (execPaceNoticeExpiry_keep a0 s) rfl
  | .energyAttribution a0, s => within (execEnergyAttribution_keep a0 s) rfl
  | .faultMessage a0, s => within (execFaultMessage_keep a0 s) rfl
  | .fenceRetry a0, s => within (execFenceRetry_keep a0 s) rfl
  | .retryComplete a0 a1, s => within (execRetryComplete_keep a0 a1 s) rfl
  | .fltFenceClear a0 a1, s => within (execFltFenceClear_keep a0 a1 s) rfl
  | .fltAlertAck a0, s => within (execFltAlertAck_keep a0 s) rfl
  | .fltFirstClear a0, s => within (execFltFirstClear_keep a0 s) rfl
  | .fltOuttakeUnfreeze a0, s => within (execFltOuttakeUnfreeze_keep a0 s) rfl
  | .voteScrub a0, s => within (execVoteScrub_keep a0 s) rfl
  | .crewWatchdog a0, s => within (execCrewWatchdog_keep a0 s) rfl
  | .faultInject a0 a1, s => within (execFaultInject_keep a0 a1 s) rfl
  | .heartbeatSend, s => within (execHeartbeatSend_keep s) rfl
  | .mirHeartbeat a0 a1, s => within (execMirHeartbeat_keep a0 a1 s) rfl
  | .pairLinkSilence a0, s => within (execPairLinkSilence_keep a0 s) rfl
  | .pairSilence, s => within (execPairSilence_keep s) rfl
  | .claimNotice a0, s => within (execClaimNotice_keep a0 s) rfl
  | .claimAtomicWindowEnd, s => within (execClaimAtomicWindowEnd_keep s) rfl
  | .claimRecordClear, s => within (execClaimRecordClear_keep s) rfl
  | .claimRepeat, s => within (execClaimRepeat_keep s) rfl
  | .pairSoloTimeout, s => within (execPairSoloTimeout_keep s) rfl
  | .mirStore a0, s => within (execMirStore_keep a0 s) rfl
  | .mirWord a0, s => within (execMirWord_keep a0 s) rfl
  | .mirConfirm a0, s => within (execMirConfirm_keep a0 s) rfl
  | .mirState a0, s => within (execMirState_keep a0 s) rfl
  | .mirResync a0 a1 a2 a3, s => within (execMirResync_keep a0 a1 a2 a3 s) rfl
  | .resyncComplete, s => within (execResyncComplete_keep s) rfl
  | .pairHandover a0, s => within (execPairHandover_keep a0 s) rfl
  | .powerUp a0 a1, s => within (execPowerUp_keep a0 a1 s) rfl
  | .resetAssert a0, s => within (execResetAssert_keep a0 s) rfl
  | .bootPhase2, s => within (execBootPhase2_keep s) rfl
  | .bootPhase3 a0 a1, s => within (execBootPhase3_keep a0 a1 s) rfl
  | .bootPhase4 a0 a1 a2, s => within (execBootPhase4_keep a0 a1 a2 s) rfl
  | .bootPhase5 a0 a1, s => within (execBootPhase5_keep a0 a1 s) rfl
  | .bootPhase6 a0 a1 a2, s => within (execBootPhase6_keep a0 a1 a2 s) rfl
  | .bootPhase7 a0 a1, s => within (execBootPhase7_keep a0 a1 s) rfl
  | .bootPhase8 a0, s => within (execBootPhase8_keep a0 s) rfl
  | .bootPhase9, s => within (execBootPhase9_keep s) rfl
  | .bootPhase10, s => within (execBootPhase10_keep s) rfl
  | .bootPhase11, s => within (execBootPhase11_keep s) rfl
  | .restart a0, s => within (execRestart_keep a0 s) rfl
  | .dark a0, s => within (execDark_keep a0 s) rfl
  | .wake a0, s => within (execWake_keep a0 s) rfl
  | .scriptCheck a0, s => within (execScriptCheck_keep a0 s) rfl
  | .scriptCheckComplete a0, s => within (execScriptCheckComplete_keep a0 s) rfl
  | .flashReadPage a0, s => within (execFlashReadPage_keep a0 s) rfl
  | .flashProgram a0, s => within (execFlashProgram_keep a0 s) rfl
  | .flashErase a0, s => within (execFlashErase_keep a0 s) rfl
  | .flashOpComplete a0, s => within (execFlashOpComplete_keep a0 s) rfl
  | .keyExchange a0 a1 a2, s => within (execKeyExchange_keep a0 a1 a2 s) rfl
  | .endSession a0, s => within (execEndSession_keep a0 s) rfl
  | .sessionHeartbeatMiss a0, s => within (execSessionHeartbeatMiss_keep a0 s) rfl
  | .spdmRequest a0 a1, s => within (execSpdmRequest_keep a0 a1 s) rfl
  | .roleReenrolArm a0, s => within (execRoleReenrolArm_keep a0 s) rfl
  | .facModeEnter a0 a1, s => within (execFacModeEnter_keep a0 a1 s) rfl
  | .jobStart a0 a1, s => within (execJobStart_keep a0 a1 s) rfl
  | .jobEnd a0 a1, s => within (execJobEnd_keep a0 a1 s) rfl
  | .jobEndComplete a0, s => within (execJobEndComplete_keep a0 s) rfl
  | .jobClear a0 a1, s => within (execJobClear_keep a0 a1 s) rfl
  | .auditArchive a0, s => within (execAuditArchive_keep a0 s) rfl
  | .continuitySweep, s => within (execContinuitySweep_keep s) rfl
  | .continuity a0 a1 a2, s => within (execContinuity_keep a0 a1 a2 s) rfl
  | .continuityPartnerSilence a0, s => within (execContinuityPartnerSilence_keep a0 s) rfl
  | .updBegin a0 a1 a2 a3 a4 a5 a6, s => within (execUpdBegin_keep a0 a1 a2 a3 a4 a5 a6 s) rfl
  | .updPiece a0 a1 a2 a3 a4 a5 a6, s => within (execUpdPiece_keep a0 a1 a2 a3 a4 a5 a6 s) rfl
  | .updQuery a0, s => within (execUpdQuery_keep a0 s) rfl
  | .updAbort a0 a1, s => within (execUpdAbort_keep a0 a1 s) rfl
  | .updActivate a0, s => within (execUpdActivate_keep a0 s) rfl
  | .updCtrlAbort a0, s => within (execUpdCtrlAbort_keep a0 s) rfl
  | .activationComplete a0, s => within (execActivationComplete_keep a0 s) rfl
  | .csRead a0 a1 a2, s => within (execCsRead_keep a0 a1 a2 s) rfl
  | .csWrite a0 a1 a2, s => within (execCsWrite_keep a0 a1 a2 s) rfl
  | .mgtCsRead a0 a1 a2, s => within (execMgtCsRead_keep a0 a1 a2 s) rfl
  | .mgtCsWrite a0 a1 a2 a3, s => within (execMgtCsWrite_keep a0 a1 a2 a3 s) rfl
  | .spdmFrag a0 a1 a2 a3 a4, s => within (execSpdmFrag_keep a0 a1 a2 a3 a4 s) rfl
  | .registerWrite a0 a1 a2, s => within (execRegisterWrite_keep a0 a1 a2 s) rfl
  | .rcRead a0 a1, s => within (execRcRead_keep a0 a1 s) rfl
  | .loReadLatch a0 a1, s => within (execLoReadLatch_keep a0 a1 s) rfl
  | .slateCommit a0 a1 a2, s => within (execSlateCommit_keep a0 a1 a2 s) rfl
  | .slateApply, s => within (execSlateApply_keep s) rfl
  | .daily, s => within (execDaily_keep s) rfl
  | .tsiClockFail a0 a1, s => within (execTsiClockFail_keep a0 a1 s) rfl
  | .narrowingComplete a0 a1, s => within (execNarrowingComplete_keep a0 a1 s) rfl
  | .siteRateFallbackEnd a0 a1, s => within (execSiteRateFallbackEnd_keep a0 a1 s) rfl
  | .memRateFallbackDone a0 a1, s => within (execMemRateFallbackDone_keep a0 a1 s) rfl
  | .sidebandWordError a0, s => within (execSidebandWordError_keep a0 s) rfl
  | .vddIoRemoved, s => within (execVddIoRemoved_keep s) rfl
  | .entdaa a0, s => within (execEntdaa_keep a0 s) rfl
  | .tapInstruction a0, s => within (execTapInstruction_keep a0 s) rfl
  | .podFlitSend a0 a1, s => within (execPodFlitSend_keep a0 a1 s) rfl

theorem Keep.touched {c : Instr} {m : Nat} {s t : State} (k : Keep m s t) (fits : maskFits c m = true) {p : Piece}
    (untouched : (touches c).contains p = false) : p.same s t := by
  obtain ⟨parts, -⟩ := (Bool.and_eq_true _ _).mp fits
  have here := List.all_eq_true.mp parts p (Piece.mem_all p)
  rw [untouched, Bool.false_or, Bool.not_eq_true'] at here
  exact k.same p here

theorem Keep.staysSafe {c : Instr} {m : Nat} {s t : State} (k : Keep m s t) (fits : maskFits c m = true) (keeps : endsSafe c = false)
    (safe : s.flt.safe = true) : t.flt.safe = true := by
  obtain ⟨-, ends⟩ := (Bool.and_eq_true _ _).mp fits
  rw [keeps, Bool.false_or, Bool.not_eq_true'] at ends
  exact k.safe ends safe

/-- What is known of the state that a command answers. -/
theorem exec_next {c : Instr} {s t : State} (goes : exec c s = .next t) : ∃ m, Keep m s t ∧ maskFits c m = true := by
  obtain ⟨u, m, goesOn, kept, fits⟩ := exec_within c s
  cases goes.symm.trans goesOn
  exact ⟨m, kept, fits⟩

/-- A part that the mask names is the new one, every other part the old one. -/
theorem kept_or_new {α : Type} {b : Bool} {x y : α} (kept : b = false → x = y) : x = bif b then x else y := by
  cases b with
  | false => exact kept rfl
  | true => rfl

/-- A state that a function answers, written part by part from the state before. -/
theorem Keep.rebuild {m : Nat} {s t : State} (k : Keep m s t) : t = { s with
    now := bif m.testBit 0 then t.now else s.now
    tc := bif m.testBit 1 then t.tc else s.tc
    slu := bif m.testBit 2 then t.slu else s.slu
    mrc := bif m.testBit 3 then t.mrc else s.mrc
    mem := bif m.testBit 4 then t.mem else s.mem
    blk := bif m.testBit 5 then t.blk else s.blk
    mpd := bif m.testBit 6 then t.mpd else s.mpd
    grp := bif m.testBit 7 then t.grp else s.grp
    mst := bif m.testBit 8 then t.mst else s.mst
    tsi := bif m.testBit 9 then t.tsi else s.tsi
    pod := bif m.testBit 10 then t.pod else s.pod
    foc := bif m.testBit 11 then t.foc else s.foc
    thm := bif m.testBit 12 then t.thm else s.thm
    gaf := bif m.testBit 13 then t.gaf else s.gaf
    flt := bif m.testBit 14 then t.flt else s.flt
    pair := bif m.testBit 15 then t.pair else s.pair
    role := bif m.testBit 16 then t.role else s.role
    boot := bif m.testBit 17 then t.boot else s.boot
    csp := bif m.testBit 18 then t.csp else s.csp
    tel := bif m.testBit 19 then t.tel else s.tel
    ident := bif m.testBit 20 then t.ident else s.ident
    pins := bif m.testBit 21 then t.pins else s.pins
    out := bif m.testBit 22 then t.out else s.out } := by
  obtain ⟨part, pending, -, -, -, -, now, tc, slu, mrc, mem, blk, mpd, grp, mst, tsi, pod, foc, thm, gaf, flt, pair, role, boot, csp, tel,
    ident, pins, out⟩ := k
  cases t
  simp only [State.mk.injEq]
  exact ⟨part, kept_or_new now, pending, kept_or_new tc, kept_or_new slu, kept_or_new mrc, kept_or_new mem, kept_or_new blk, kept_or_new mpd, kept_or_new grp, kept_or_new mst, kept_or_new tsi, kept_or_new pod, kept_or_new foc, kept_or_new thm, kept_or_new gaf, kept_or_new flt, kept_or_new pair, kept_or_new role, kept_or_new boot, kept_or_new csp, kept_or_new tel, kept_or_new ident, kept_or_new pins, kept_or_new out⟩

/-! ### Safe state -/

theorem resetAssert_safe (por : Bool) (s : State) : (resetAssert por s).flt.safe = false := rfl

theorem execResetAssert_stays {pin : Nat} {s t : State} (safe : s.flt.safe = true) (goes : exec (.resetAssert pin) s = .next t)
    (left : t.flt.safe = false) : pin < 2 := by
  by_contra far
  have stays : exec (.resetAssert pin) s = .next s := by
    show execResetAssert pin s = _
    rw [execResetAssert, if_neg (by omega), if_neg (by omega)]
  cases goes.symm.trans stays
  rw [safe] at left
  cases left

/-- THERMTRIP_RELEASE acts only while a trip stands that nothing holds, 30 s after every sensor is below 75 °C (R346). -/
theorem thermtripRelease_leaves {s : State} (safe : s.flt.safe = true) (left : (thermtripRelease s).flt.safe = false) :
    s.thm.tripped = true ∧ s.thm.tripLocked = false ∧ ∃ u, s.thm.coolSince = some u ∧ u + 30000000000 ≤ s.now := by
  unfold thermtripRelease at left
  split at left
  case h_1 => rw [safe] at left; cases left
  case h_2 u since =>
    split at left
    case isTrue => rw [safe] at left; cases left
    case isFalse due =>
      simp only [Bool.or_eq_true, Bool.not_eq_true', decide_eq_true_eq, not_or, Bool.not_eq_false, Bool.not_eq_true, Nat.not_lt] at due
      exact ⟨due.1.1, due.1.2, u, since, due.2⟩

theorem coolantRestart_leaves {s : State} (safe : s.flt.safe = true) (left : (coolantRestart s).flt.safe = false) : s.thm.coolStop = true := by
  by_contra running
  have same : (coolantRestart s).flt = s.flt := by
    unfold coolantRestart
    dsimp only
    split
    · rfl
    · split
      case isTrue stopped => exact absurd stopped running
      case isFalse => rfl
  rw [same, safe] at left
  cases left

/-! ### The statements about every command -/

/-- Settles O51. -/
theorem stepTakesTheFront : Obligations.StepTakesTheFront := by
  unfold Obligations.StepTakesTheFront
  refine ⟨fun c cs s front => step_front c cs s front, fun s idle => ?_⟩
  unfold step
  rw [idle]

theorem touches_now {c : Instr} (noTick : ∀ crew, c ≠ .timecodeTick crew) : (touches c).contains .now = false := by
  cases c
  case timecodeTick crew => exact absurd rfl (noTick crew)
  all_goals rfl

/-- Only the tick counts, and none of what else a tick does changes the count (R39). -/
theorem tick_now (s : State) : (tick s).now = s.now + 1 := by
  have early : (xspiTick (clapOutEnd (countTick { s with now := s.now + 1 }))).now = s.now + 1 :=
    ((xspiTick_keep _).now rfl).trans (((clapOutEnd_keep _).now rfl).trans ((countTick_keep _).now rfl))
  unfold tick
  dsimp only
  split
  · exact early
  · exact ((mstTick_keep _).now rfl).trans (((gripTick_keep _).now rfl).trans (((podStall_keep _).now rfl).trans
      (((dmaTick_keep _).now rfl).trans (((stallTick_keep _).now rfl).trans (((sbTicks_keep _).now rfl).trans early)))))

theorem execTimecodeTick_now (crew : List CrewAccess) (s : State) : ∃ t, exec (.timecodeTick crew) s = .next t ∧ t.now = s.now + 1 :=
  ⟨_, rfl, (tick_now _).trans (congrArg (· + 1) ((crewTurn_keep crew s).now rfl))⟩

/-- Settles O52, by what the mask of each command leaves out (`exec_within`). -/
theorem everyCommandCompletes : Obligations.EveryCommandCompletes := by
  unfold Obligations.EveryCommandCompletes
  refine ⟨?goes, ?keeps, ?clock, execTimecodeTick_now⟩
  case goes =>
    intro c s
    obtain ⟨t, m, goes, -, -⟩ := exec_within c s
    exact ⟨t, goes⟩
  case keeps =>
    intro c s t goes
    obtain ⟨m, kept, -⟩ := exec_next goes
    exact ⟨kept.pending, kept.part⟩
  case clock =>
    intro c s t goes noTick
    obtain ⟨m, kept, fits⟩ := exec_next goes
    exact kept.touched fits (touches_now noTick)

/-- Settles O53: a step is a command on the state with the queue's rest, whose memory is the same, and every command keeps the form of
memory. -/
theorem everyStepKeepsTheMemoryForm : Obligations.EveryStepKeepsTheMemoryForm := by
  unfold Obligations.EveryStepKeepsTheMemoryForm
  intro s t ok goes
  unfold step at goes
  split at goes
  case h_1 => cases goes; exact ok
  case h_2 c cs front =>
    obtain ⟨m, kept, -⟩ := exec_next goes
    exact kept.wf ok

/-- Settles O54. -/
theorem resetLeavesWhatTheManualGives : Obligations.ResetLeavesWhatTheManualGives := by
  unfold Obligations.ResetLeavesWhatTheManualGives
  and_intros <;> rfl

/-- Settles O55: a fatal message enters safe state at once (`raise_fatal`); of the commands whose mask may end it, each acts only under its
own condition. -/
theorem safeStateLastsUntilResetOrRestart : Obligations.SafeStateLastsUntilResetOrRestart := by
  unfold Obligations.SafeStateLastsUntilResetOrRestart
  refine ⟨?enters, ?lasts, ?reset⟩
  case enters =>
    intro k b i a s fatal
    rw [raise_fatal fatal]
    exact ⟨rfl, rfl, rfl⟩
  case lasts =>
    intro c s t safe goes left
    obtain ⟨m, kept, fits⟩ := exec_next goes
    cases ends : endsSafe c with
    | false =>
      rw [kept.staysSafe fits ends safe] at left
      cases left
    | true =>
      unfold endsSafe at ends
      split at ends
      case h_1 pin => exact .inl ⟨pin, execResetAssert_stays safe goes left, rfl⟩
      case h_2 => exact .inr (.inl rfl)
      case h_3 =>
        cases goes
        exact .inr (.inr (.inl ⟨rfl, thermtripRelease_leaves safe left⟩))
      case h_4 =>
        cases goes
        exact .inr (.inr (.inr ⟨rfl, coolantRestart_leaves safe left⟩))
      case h_5 => cases ends
  case reset =>
    intro pin s isPin
    obtain rfl | rfl : pin = 0 ∨ pin = 1 := by omega
    · exact ⟨_, rfl, resetAssert_safe true s⟩
    · exact ⟨_, rfl, resetAssert_safe false s⟩

/-- Settles O56: no function of the machine undoes a one-time cell (`exec_keep`). -/
theorem oneTimeCellsAreNeverUndone : Obligations.OneTimeCellsAreNeverUndone := by
  unfold Obligations.OneTimeCellsAreNeverUndone
  intro c s t goes
  obtain ⟨m, kept, -⟩ := exec_next goes
  obtain ⟨ks, added⟩ := kept.enrolled
  exact ⟨⟨ks, added.symm⟩, kept.rollback⟩

/-- Settles O57: the mask of each command names no more than its entry of `touches` (`exec_within`). -/
theorem commandsChangeOnlyTheirParts : Obligations.CommandsChangeOnlyTheirParts := by
  unfold Obligations.CommandsChangeOnlyTheirParts
  intro c s
  obtain ⟨t, m, goes, kept, fits⟩ := exec_within c s
  exact ⟨t, goes, fun p untouched => kept.touched fits untouched⟩

end Sys2Proof.Machine
end

section
/-! SUPPORT. Sensors and the hardware stops (R340, R342, R345 to R347): what a sample leaves, the trip and its end, and the coolant. -/

namespace Sys2Proof.Machine

open Sys2Proof

/-! ### The sites go off together -/

/-- Sites changed one after the other are a change of the table of sites alone. -/
theorem foldl_modSite (f : Nat → SiteSt → SiteSt) : ∀ (ns : List Nat) (s : State),
    ns.foldl (fun s n => modSite n (f n) s) s = { s with tsi := ns.foldl (fun t n => tupd {} t n (f n)) s.tsi }
  | [], _ => rfl
  | n :: ns, s => by
    rw [List.foldl_cons, foldl_modSite f ns]
    rfl

/-- The regulators of every site off, as a hardware stop leaves them (R346, R347). -/
@[irreducible] def sitesOff (t : Tab SiteSt) : Tab SiteSt := (List.range 12).foldl (fun t n => tupd {} t n (fun x => { x with on := false })) t

theorem foldl_siteOff (s : State) :
    (List.range 12).foldl (fun s n => modSite n (fun x => { x with on := false }) s) s = { s with tsi := sitesOff s.tsi } := by
  unfold sitesOff
  exact foldl_modSite (fun _ x => { x with on := false }) _ s

/-! ### The trip -/

/-- The thermal block after a trip at sensor k that read x (R345, R346). -/
def tripNoted (k : Nat) (x : Int) (s : State) : Thm :=
  let trips := s.now :: s.thm.trips.filter (fun u => decide (s.now < u + day))
  { s.thm with
    trips := trips, tripLocked := s.thm.tripLocked || decide (3 ≤ trips.length), cause := 0, tripStation := k / 4, tripTemp := x
    tripped := true, again := true, hot := [] }

theorem trip_eq (k : Nat) (x : Int) (s : State) :
    trip k x s = enterSafe (sendFault (mkMsg s .thermalTrip 8 (k / 4) (thermAddr x k)) { s with
      thm := tripNoted k x s
      pins := { s.pins with thermtripN := false }
      gaf := { s.gaf with release := none }
      tsi := sitesOff s.tsi }) := by
  unfold trip
  dsimp only
  rw [foldl_siteOff, raise_fatal rfl]
  rfl

/-- The third trip within 24 h holds THERMTRIP_N (R346). -/
theorem trip_third {s : State} (two : 2 ≤ (s.thm.trips.filter (fun u => decide (s.now < u + day))).length) (k : Nat) (x : Int) :
    (trip k x s).thm.tripLocked = true := by
  rw [trip_eq]
  refine (Bool.or_eq_true _ _).mpr (.inr (decide_eq_true ?_))
  rw [List.length_cons]
  omega

/-! ### A sample -/

/-- What a sample leaves of the thermal block beside the levels and the counts: readings, the last hot sensors, and the trip. -/
def sampleOf (x : Thm) : Option Tick × Tab (Option Int) × List Nat × Bool × List Tick :=
  (x.lastSample, x.sens, x.hot, x.tripped, x.trips)

theorem deviations_kept (s : State) : sampleOf (deviations s).thm = sampleOf s.thm := by
  unfold deviations
  refine foldl_keeps (fun s => sampleOf s.thm) (fun u k => ?_) _ s
  rfl

theorem Keep.sampleOf {m : Nat} {s t : State} (k : Keep m s t) (noThm : m.testBit 12 = false) :
    sampleOf t.thm = sampleOf s.thm := by
  rw [k.thm noThm]

theorem thermLevel_kept (s : State) : sampleOf (thermLevel s).thm = sampleOf s.thm := by
  have begins (k : FaultKind) (i a : Nat) (u : State) : sampleOf (if stands u k then u else standBegin k 8 i a u).thm = sampleOf u.thm := by
    split
    · rfl
    · exact (standBegin_keep _ _ _ _ _).sampleOf rfl
  have moves (warn : Bool) (k : FaultKind) (i a : Nat) (u : State) :
      sampleOf (if warn then (if stands u k then u else standBegin k 8 i a u) else standEndAll k 8 u).thm = sampleOf u.thm := by
    cases warn
    · exact (standEndAll_keep _ _ _).sampleOf rfl
    · exact begins k i a u
  unfold thermLevel
  split
  · rfl
  · exact (moves _ _ _ _ _).trans (moves _ _ _ _ _)

theorem lowTemps_kept (s : State) : sampleOf (lowTemps s).thm = sampleOf s.thm := by
  unfold lowTemps
  split
  · rfl
  · refine foldl_keeps (fun s => sampleOf s.thm) (fun u st => ?_) _ s
    split
    · rfl
    · split
      · rfl
      · split
        · exact (raise_keep _ _ _ _ _).sampleOf rfl
        · rfl

/-- The readings of a sample and its time, before anything is judged (R340, R342). -/
def readingsTaken (rs : List (Nat × Int)) (s : State) : State :=
  deviations (modThm (fun x => { x with
    lastSample := some s.now
    sens := (rs.filter (fun r => (sensors s).contains r.1)).foldl (fun t r => tset none t r.1 (some r.2)) x.sens }) s)

/-- The sensors in service at 108 °C or more. -/
def hotSensors (s : State) : List Nat :=
  (sensors s).filter (fun k => sensorUsed s k && (match reading s k with | some t => decide (deg 108 ≤ t) | none => false))

/-- The hot sensors and since when all have been cool. -/
def hotNoted (s : State) : State :=
  let cool := (sensors s).all (fun k => match reading s k with | some t => decide (t < deg 75) | none => false)
  modThm (fun x => { x with
    hot := hotSensors s
    coolSince := if cool then (match x.coolSince with | some u => some u | none => some s.now) else none }) s

/-- The conditions by their limits, once phase 2 has begun. -/
def levelsJudged (s : State) : State := if decide (2 ≤ s.boot.phase) then lowTemps (thermLevel s) else s

/-- What a sample that is due has done before a trip is decided. -/
def sampled (rs : List (Nat × Int)) (s : State) : State := levelsJudged (hotNoted (readingsTaken rs s))

/-- A sample is due 10 µs after the last (R340). -/
def SampleDue (s : State) : Prop := s.thm.lastSample = none ∨ ∃ a, s.thm.lastSample = some a ∧ a + 10000 ≤ s.now

/-- A sensor that was hot in the last sample and is in this one. -/
def hotAgain (rs : List (Nat × Int)) (s : State) : Option Nat :=
  (hotSensors (readingsTaken rs s)).find? (fun k => (readingsTaken rs s).thm.hot.contains k)

/-- The trip that a sensor hot again brings, unless one stands (R345). -/
def tripOn (again : Option Nat) (s : State) : State :=
  match again with
  | some k => if s.thm.tripped then s else trip k ((reading s k).getD 0) s
  | none => s

theorem sensorSample_due {s : State} (due : SampleDue s) (rs : List (Nat × Int)) :
    sensorSample rs s = tripOn (hotAgain rs s) (sampled rs s) := by
  unfold sensorSample
  rcases due with first | ⟨a, last, spaced⟩
  · rw [first]
    exact if_neg (by simp)
  · rw [last]
    exact if_neg (by simp [spaced])

theorem sensorSample_early {a : Tick} {s : State} (last : s.thm.lastSample = some a) (early : s.now < a + 10000) (rs : List (Nat × Int)) :
    sensorSample rs s = s := by
  unfold sensorSample
  rw [last]
  exact if_pos (by simp [early])

theorem sampled_sampleOf (rs : List (Nat × Int)) (s : State) : sampleOf (sampled rs s).thm =
    (some s.now, (rs.filter (fun r => (sensors s).contains r.1)).foldl (fun t r => tset none t r.1 (some r.2)) s.thm.sens,
      hotSensors (readingsTaken rs s), s.thm.tripped, s.thm.trips) := by
  have taken := deviations_kept (modThm (fun x => { x with
    lastSample := some s.now
    sens := (rs.filter (fun r => (sensors s).contains r.1)).foldl (fun t r => tset none t r.1 (some r.2)) x.sens }) s)
  have judged : sampleOf (sampled rs s).thm = sampleOf (hotNoted (readingsTaken rs s)).thm := by
    unfold sampled levelsJudged
    split
    · exact (lowTemps_kept _).trans (thermLevel_kept _)
    · rfl
  simp only [sampleOf, readingsTaken, Prod.mk.injEq] at taken judged ⊢
  obtain ⟨time, sens, -, tripped, trips⟩ := taken
  obtain ⟨jTime, jSens, jHot, jTripped, jTrips⟩ := judged
  exact ⟨jTime.trans time, jSens.trans sens, jHot, jTripped.trans tripped, jTrips.trans trips⟩

theorem tripOn_readings (again : Option Nat) (s : State) :
    (tripOn again s).thm.lastSample = s.thm.lastSample ∧ (tripOn again s).thm.sens = s.thm.sens := by
  unfold tripOn
  split
  · split
    · exact ⟨rfl, rfl⟩
    · rw [trip_eq]
      exact ⟨rfl, rfl⟩
  · exact ⟨rfl, rfl⟩

theorem tripOn_keep (again : Option Nat) (s : State) : Keep 2126336 s (tripOn again s) := by
  unfold tripOn
  split
  · exact Keep.ite (Keep.refl _ _) (trip_keep _ _ _)
  · exact Keep.refl _ _

theorem sampled_keep (rs : List (Nat × Int)) (s : State) : Keep 2117632 s (sampled rs s) := by
  have read : Keep 4096 s (readingsTaken rs s) := Keep.step (deviations_keep _) rfl (modThm_keep _ _)
  have noted : Keep 4096 s (hotNoted (readingsTaken rs s)) := read.trans (by unfold hotNoted; exact modThm_keep _ _)
  have taken : Keep 2117632 s (hotNoted (readingsTaken rs s)) := noted.mono rfl
  unfold sampled levelsJudged
  split
  · exact Keep.step (lowTemps_keep _) rfl (Keep.step (thermLevel_keep _) rfl taken)
  · exact taken

theorem sensorUsed_congr {s t : State} (part : t.part = s.part) (flt : t.flt = s.flt) (k : Nat) : sensorUsed t k = sensorUsed s k := by
  unfold sensorUsed fenced fenceOf
  rw [part, flt]

theorem sensors_congr {s t : State} (part : t.part = s.part) : sensors t = sensors s := by
  unfold sensors
  rw [part]

/-- A sensor in service whose reading is 108 °C or more, hot in the last sample too, is found (R345). -/
theorem hotAgain_found {k : Nat} {x : Int} {s : State} (there : (sensors s).contains k = true) (used : sensorUsed s k = true)
    (was : s.thm.hot.contains k = true) (isHot : deg 108 ≤ x) : ∃ j, hotAgain [(k, x)] s = some j := by
  have kept : Keep 4096 s (readingsTaken [(k, x)] s) := Keep.step (deviations_keep _) rfl (modThm_keep _ _)
  have taken := deviations_kept (modThm (fun y => { y with
    lastSample := some s.now
    sens := ([(k, x)].filter (fun r => (sensors s).contains r.1)).foldl (fun t r => tset none t r.1 (some r.2)) y.sens }) s)
  simp only [sampleOf, Prod.mk.injEq] at taken
  obtain ⟨-, sens, hot, -, -⟩ := taken
  have reads : reading (readingsTaken [(k, x)] s) k = some x := by
    unfold reading readingsTaken
    rw [sens]
    simp only [List.filter_cons, there, if_true, List.filter_nil, List.foldl_cons, List.foldl_nil]
    exact tget_tset_self _ _ (by simp)
  refine Option.isSome_iff_exists.mp (List.find?_isSome.mpr ⟨k, ?_, ?_⟩)
  · refine List.mem_filter.mpr ⟨?_, ?_⟩
    · rw [sensors_congr kept.part]
      exact List.contains_iff_mem.mp there
    · rw [sensorUsed_congr kept.part (kept.flt rfl), used, reads]
      simpa using isHot
  · show (readingsTaken [(k, x)] s).thm.hot.contains k = true
    unfold readingsTaken
    rw [hot]
    exact was

/-! ### The ends of the stops -/

theorem sensorFail_due {k : Nat} {a : Tick} {s : State} (safe : s.flt.safe = false) (off : tget none s.thm.devSince k = some a)
    (used : sensorUsed s k = true) (due : a + 10000000 ≤ s.now) : sensorFail k s = { s with
      thm := { s.thm with devSince := tset none s.thm.devSince k none }
      flt := { s.flt with net := s.flt.net ++ [mkMsg s .sensorFail 8 (k / 4) (thermAddr ((reading s k).getD 0) k)] } } := by
  unfold sensorFail
  rw [off]
  dsimp only
  rw [if_neg (by simp [safe, used, due]), raise_mild (by decide)]
  rfl

theorem thermtripRelease_due {a : Tick} {s : State} (cool : s.thm.coolSince = some a) (tripped : s.thm.tripped = true)
    (loose : s.thm.tripLocked = false) (due : a + 30000000000 ≤ s.now) : thermtripRelease s =
      (let u := { s with thm := { s.thm with tripped := false }, pins := { s.pins with thermtripN := true } }
       if s.flt.safe then restartAfterStop u else u) := by
  unfold thermtripRelease
  rw [cool]
  dsimp only
  rw [if_neg (by simp [tripped, loose, due])]
  rfl

theorem thermtripRelease_held {s : State} (locked : s.thm.tripLocked = true) : thermtripRelease s = s := by
  unfold thermtripRelease
  split
  · rfl
  · exact if_pos (by simp [locked])

theorem coolantStop_running {s : State} (first : s.thm.coolStop = false) (begun : 2 ≤ s.boot.phase) : ∃ m, coolantStop s =
    enterSafe (sendFault m { s with
      thm := { s.thm with cause := 1, coolStop := true }
      gaf := { s.gaf with release := none }
      pins := { s.pins with coolantOk := false }
      tsi := sitesOff s.tsi }) := by
  unfold coolantStop
  dsimp only
  rw [if_neg (by simp [first]; omega), foldl_siteOff]
  obtain ⟨x, st⟩ := (junction (modPins (fun p => { p with coolantOk := false }) s)).getD (0, 0)
  exact ⟨_, raise_fatal rfl _ _ _ _⟩

theorem coolantStop_only {s : State} (idle : s.thm.coolStop = true ∨ s.boot.phase < 2) :
    coolantStop s = { s with pins := { s.pins with coolantOk := false } } :=
  if_pos (by rcases idle with stopped | early <;> simp [*])

theorem coolantRestart_waiting {s : State} (waits : s.boot.phase = 1) :
    coolantRestart s = beginBoot s.boot.kind 2 { s with pins := { s.pins with coolantOk := true } } := if_pos waits

theorem coolantRestart_stopped {s : State} (later : s.boot.phase ≠ 1) (stopped : s.thm.coolStop = true) :
    coolantRestart s = restartAfterStop { s with pins := { s.pins with coolantOk := true }, thm := { s.thm with coolStop := false } } :=
  (if_neg later).trans (if_pos stopped)

/-- Settles O27: a sample that is due is `tripOn` over `sampled`; the stops and their ends are one case each. -/
theorem sensorsAreSampledAndTheHardwareStopsAct : Obligations.SensorsAreSampledAndTheHardwareStopsAct := by
  unfold Obligations.SensorsAreSampledAndTheHardwareStopsAct
  refine ⟨?sample, ?early, ?trips, ?third, ?fails, ?released, ?restarts, ?held, ?stops, ?stopped, ?waiting, ?again⟩
  case sample =>
    intro rs s due
    have kept := sampled_sampleOf rs s
    simp only [sampleOf, Prod.mk.injEq] at kept
    obtain ⟨time, sens, -, -, -⟩ := kept
    obtain ⟨sameTime, sameSens⟩ := tripOn_readings (hotAgain rs s) (sampled rs s)
    exact ⟨_, congrArg Host.Outcome.next (sensorSample_due due rs), sameTime.trans time, sameSens.trans sens,
      (((sampled_keep rs s).mono (m' := 2126336) rfl).trans (tripOn_keep _ _)).rebuild⟩
  case early => exact fun rs a s last early => congrArg Host.Outcome.next (sensorSample_early last early rs)
  case trips =>
    intro k r s due there used was isHot stood
    obtain ⟨j, again⟩ := hotAgain_found there used was isHot
    have kept := sampled_sampleOf [(k, r)] s
    simp only [sampleOf, Prod.mk.injEq] at kept
    obtain ⟨-, -, -, tripped, trips⟩ := kept
    have sampleKept := sampled_keep [(k, r)] s
    refine ⟨_, congrArg Host.Outcome.next (sensorSample_due due _), ?_⟩
    obtain ⟨x, does⟩ : ∃ x, tripOn (hotAgain [(k, r)] s) (sampled [(k, r)] s) = trip j x (sampled [(k, r)] s) := by
      rw [again]
      exact ⟨_, if_neg (by rw [tripped, stood]; decide)⟩
    rw [does, trip_eq]
    refine ⟨rfl, rfl, rfl, ?_, rfl, rfl, rfl, rfl, rfl, ?_⟩
    · show _ :: (sampled [(k, r)] s).thm.trips.filter _ = _
      rw [trips, sampleKept.now rfl]
    · rw [foldl_siteOff]
      show sitesOff (sampled [(k, r)] s).tsi = sitesOff s.tsi
      rw [sampleKept.tsi rfl]
  case third => exact fun k a s two => trip_third two k a
  case fails => exact fun k a s safe off used due => congrArg Host.Outcome.next (sensorFail_due safe off used due)
  case released =>
    intro a s cool tripped loose due safe
    refine congrArg Host.Outcome.next ((thermtripRelease_due cool tripped loose due).trans ?_)
    exact if_neg (by rw [safe]; decide)
  case restarts =>
    exact fun a s cool tripped loose due safe => congrArg Host.Outcome.next ((thermtripRelease_due cool tripped loose due).trans (if_pos safe))
  case held => exact fun s locked => congrArg Host.Outcome.next (thermtripRelease_held locked)
  case stops =>
    intro s first begun
    obtain ⟨m, does⟩ := coolantStop_running first begun
    refine ⟨_, congrArg Host.Outcome.next does, rfl, rfl, rfl, rfl, rfl, rfl, rfl, ?_⟩
    rw [foldl_siteOff]
    rfl
  case stopped => exact fun s idle => congrArg Host.Outcome.next (coolantStop_only idle)
  case waiting => exact fun s waits => congrArg Host.Outcome.next (coolantRestart_waiting waits)
  case again => exact fun s later stopped => congrArg Host.Outcome.next (coolantRestart_stopped later stopped)

end Sys2Proof.Machine
end

section
/-! SUPPORT. Stations, stacks and sites by their temperature (R343, R344, R348, R349, R352): the warm-up, the return of a cold station,
the stacks, the ceilings of sites, and the throttle factor, which a division of the power leaves as it is. -/

namespace Sys2Proof.Machine

open Sys2Proof

/-! ### Stations -/

theorem execWarmupEnd_due {s : State} (safe : s.flt.safe = false) (warms : s.thm.warmup = true) (warm : allAtLeast s (deg 10) = true) :
    execWarmupEnd s = .next { s with thm := { s.thm with warmup := false }, boot := { s.boot with phaseStart := s.now } } :=
  congrArg Host.Outcome.next (if_neg (by simp [safe, warms, warm]))

theorem execWarmupEnd_cold {s : State} (cold : allAtLeast s (deg 10) = false) : execWarmupEnd s = .next s :=
  congrArg Host.Outcome.next (if_pos (by simp [cold]))

/-- A station whose time at 12 °C has passed is no longer counted as cold (R343). -/
def coldEnded (st : Nat) (s : State) : State :=
  { s with thm := { s.thm with lowSt := s.thm.lowSt.filter (· ≠ st), lowOk := tset none s.thm.lowOk st none } }

section
variable {st : Nat} {b : Tick} {s : State} (safe : s.flt.safe = false) (since : tget none s.thm.lowOk st = some b)
  (low : s.thm.lowSt.contains st = true) (due : b + 1000000000 ≤ s.now)
include safe since low due

theorem lowTempReturn_free (free : fenceOf (coldEnded st s) (uStation st) = none) : lowTempReturn st s = coldEnded st s := by
  unfold lowTempReturn
  rw [since]
  refine (if_neg (by simp only [safe, low]; simp [due])).trans ?_
  show (match fenceOf (coldEnded st s) (uStation st) with | some e => _ | none => _) = _
  rw [free]
  rfl

theorem lowTempReturn_fenced {e : FenceEntry} (stands : fenceOf (coldEnded st s) (uStation st) = some e) (cold : e.kind = 0x84) :
    lowTempReturn st s = restore (uStation st) (coldEnded st s) := by
  unfold lowTempReturn
  rw [since]
  refine (if_neg (by simp only [safe, low]; simp [due])).trans ?_
  show (match fenceOf (coldEnded st s) (uStation st) with | some e => _ | none => _) = _
  rw [stands]
  exact if_pos cold

end

/-! ### Stacks -/

theorem deg_mono {a b : Int} (le : a ≤ b) : deg a ≤ deg b := Int.mul_le_mul_of_nonneg_left le (by decide)

/-- A stack whose temperature is read (R348). -/
def StackRead (m : Nat) (s : State) : Prop :=
  s.flt.safe = false ∧ s.boot.dark = false ∧ hasMs s.part.variant m = true ∧ 8 ≤ s.boot.phase

/-- The reading of a stack is kept. -/
def stackNoted (m : Nat) (x : Int) (s : State) : State := { s with thm := { s.thm with stackTemp := tset 0 s.thm.stackTemp m x } }

/-- STACK_HOT of a stack: from 95 °C, until below 90 °C. -/
def stackStays (m : Nat) (x : Int) (s : State) : Bool := decide (deg 95 ≤ x) || ((standAddr s .stackHot (36 + m)).isSome && decide (deg 90 ≤ x))

/-- STACK_HOT as a reading leaves it. -/
def stackHotJudged (m : Nat) (x : Int) (s : State) : State :=
  if stackStays m x s then standBegin .stackHot 8 (36 + m) (thermAddr x 0) s else standEnd .stackHot 8 (36 + m) s

theorem stackTemp_read {m : Nat} {s : State} (read : StackRead m s) (x : Int) : stackTemp m x s =
    (let t := stackHotJudged m x (stackNoted m x s)
     if tget 0 s.thm.stackSt m = 2 then
       (if x < deg 85 then modThm (fun y => { y with stackSt := tset 0 y.stackSt m 0 }) t else t)
     else if deg 105 ≤ x then
       raise .stackOvertemp 8 (36 + m) (thermAddr x 0) (modThm (fun y => { y with stackSt := tset 0 y.stackSt m 2 }) t)
     else modThm (fun y => { y with stackSt := tset 0 y.stackSt m (if stackStays m x (stackNoted m x s) then 1 else 0) }) t) := by
  obtain ⟨safe, lit, there, booted⟩ := read
  exact if_neg (by simp [safe, lit, there, booted])

theorem stackHotJudged_keep (m : Nat) (x : Int) (s : State) : Keep 2113536 s (stackHotJudged m x s) :=
  Keep.ite (standBegin_keep _ _ _ _ _) ((standEnd_keep _ _ _ _).mono rfl)

/-- A condition that does not stand ends without a message (R374). -/
theorem standEnd_none {k : FaultKind} {i : Nat} {s : State} (none : standAddr s k i = none) (b : Nat) : standEnd k b i s = s := by
  unfold standEnd
  rw [none]

/-- A condition that stands is not told again (R374). -/
theorem standBegin_standing {k : FaultKind} {i : Nat} {s : State} (stands : (standAddr s k i).isSome = true) (b a : Nat) :
    standBegin k b i a s = s := by
  obtain ⟨x, there⟩ := Option.isSome_iff_exists.mp stands
  unfold standBegin
  rw [there]

theorem stackTemp_cool {m : Nat} {x : Int} {s : State} (read : StackRead m s) (cool : x < deg 90) (notRaised : tget 0 s.thm.stackSt m ≠ 2)
    (calm : standAddr s .stackHot (36 + m) = none) : stackTemp m x s = { s with thm := { s.thm with
      stackTemp := tset 0 s.thm.stackTemp m x
      stackSt := tset 0 s.thm.stackSt m 0 } } := by
  have below : ¬ deg 105 ≤ x := fun hot => Int.not_lt.mpr ((deg_mono (by decide)).trans hot) cool
  have notHot : ¬ deg 95 ≤ x := fun hot => Int.not_lt.mpr ((deg_mono (by decide)).trans hot) cool
  have stays : stackStays m x (stackNoted m x s) = false := by
    rw [stackStays, decide_eq_false notHot, decide_eq_false (Int.not_le.mpr cool), Bool.and_false]
    rfl
  rw [stackTemp_read read]
  dsimp only
  rw [if_neg notRaised, if_neg below, stays, stackHotJudged, stays]
  exact congrArg (modThm _) (standEnd_none (s := stackNoted m x s) calm 8)

theorem stackTemp_hot {m : Nat} {x : Int} {s : State} (read : StackRead m s) (hot : deg 95 ≤ x) (below : x < deg 105)
    (notRaised : tget 0 s.thm.stackSt m ≠ 2) (calm : standAddr s .stackHot (36 + m) = none) : stackTemp m x s = { s with
      thm := { s.thm with
        stackTemp := tset 0 s.thm.stackTemp m x
        stackSt := tset 0 s.thm.stackSt m 1 }
      flt := { s.flt with
        net := s.flt.net ++ [mkMsg s .stackHot 8 (36 + m) (thermAddr x 0)]
        standing := (.stackHot, 36 + m, thermAddr x 0) :: s.flt.standing } } := by
  have stays : stackStays m x (stackNoted m x s) = true := (Bool.or_eq_true _ _).mpr (.inl (decide_eq_true hot))
  rw [stackTemp_read read]
  dsimp only
  rw [if_neg notRaised, if_neg (Int.not_le.mpr below), stays, stackHotJudged, stays]
  exact congrArg (modThm _) (standBegin_new (s := stackNoted m x s) calm (by decide) 8 _)

theorem stackTemp_overtemp {m : Nat} {x : Int} {s : State} (read : StackRead m s) (hotter : deg 105 ≤ x)
    (notRaised : tget 0 s.thm.stackSt m ≠ 2) (stands : (standAddr s .stackHot (36 + m)).isSome = true) : stackTemp m x s = { s with
      thm := { s.thm with
        stackTemp := tset 0 s.thm.stackTemp m x
        stackSt := tset 0 s.thm.stackSt m 2 }
      flt := { s.flt with net := s.flt.net ++ [mkMsg s .stackOvertemp 8 (36 + m) (thermAddr x 0)] } } := by
  have stays : stackStays m x (stackNoted m x s) = true := by
    exact (Bool.or_eq_true _ _).mpr (.inl (decide_eq_true ((deg_mono (by decide)).trans hotter)))
  rw [stackTemp_read read]
  dsimp only
  rw [if_neg notRaised, if_pos hotter, stackHotJudged, stays, if_pos rfl, standBegin_standing (s := stackNoted m x s) stands, raise_mild (by decide)]
  rfl

theorem stackTemp_cooled {m : Nat} {x : Int} {s : State} (read : StackRead m s) (cool : x < deg 85) (raised : tget 0 s.thm.stackSt m = 2) :
    (stackTemp m x s).thm.stackSt = tset 0 s.thm.stackSt m 0 := by
  rw [stackTemp_read read]
  dsimp only
  rw [if_pos raised, if_pos cool]
  show tset 0 (stackHotJudged m x (stackNoted m x s)).thm.stackSt m 0 = _
  rw [(stackHotJudged_keep m x _).thm rfl]
  rfl

/-! ### Sites -/

/-- The ceiling of a site moves once per millisecond (R349). -/
def CeilingDue (n : Nat) (s : State) : Prop := (powOf s n).tempAt = none ∨ ∃ a, (powOf s n).tempAt = some a ∧ a + 1000000 ≤ s.now

section
variable {n : Nat} {s : State} (runs : gafRuns s = true) (serves : siteServing s n = true)
include runs serves

theorem tempStep_due (due : CeilingDue n s) : tempStep n s = (if tjMax s n ≤ (siteOf s n).neg.lastTemp then
      divide (standBegin .siteHot 9 n (budgetAddr s (meanNow s n)) (modPow n (fun q => { q with
        tempCeil := some (max (100 * agreedPidle s n) ((powOf s n).tempCeil.getD (100 * agreedPmax s n) - 10 * agreedPmax s n))
        tempAt := some s.now }) s))
    else match (powOf s n).tempCeil, (powOf s n).coolSince with
      | some c, some t =>
        if s.now < t + 1000000 then s
        else
          let c := c + 5 * agreedPmax s n
          let u := modPow n (fun q => { q with tempCeil := if 100 * agreedPmax s n ≤ c then none else some c, tempAt := some s.now }) s
          divide (if 100 * agreedPmax s n ≤ c then standEnd .siteHot 9 n u else u)
      | _, _ => s) := by
  unfold tempStep
  refine (if_neg ?_).trans rfl
  rcases due with first | ⟨a, last, spaced⟩
  · rw [first]
    simp [runs, serves]
  · rw [last]
    simp [runs, serves, spaced]

theorem siteOvertemp_due {b : Tick} (hot : (powOf s n).hotSince = some b) (due : b + 100000 ≤ s.now) :
    siteOvertemp n s = raise .siteOvertemp 9 n (budgetAddr s (meanNow s n))
      (siteCause n 0 0 0 (modPow n (fun p => { p with hotSince := none }) s)) := by
  unfold siteOvertemp
  rw [hot]
  exact if_neg (by simp [runs, serves, due])

end

/-- Settles O28: each clause is one case of the reading, of the ceiling's step or of the station's return. -/
theorem stationsStacksAndSitesAnswerTheirTemperature : Obligations.StationsStacksAndSitesAnswerTheirTemperature := by
  unfold Obligations.StationsStacksAndSitesAnswerTheirTemperature
  refine ⟨?warm, ?cold, ?cool, ?hot, ?hotter, ?cooled, ?falls, ?rises, ?overtemp, ?free, ?fenced⟩
  case warm => exact fun s safe warms warm => execWarmupEnd_due safe warms warm
  case cold => exact fun s cold => execWarmupEnd_cold cold
  case cool =>
    exact fun m x s safe lit there booted cool notRaised calm =>
      congrArg Host.Outcome.next (stackTemp_cool ⟨safe, lit, there, booted⟩ cool notRaised calm)
  case hot =>
    intro m x s safe lit there booted hot below notRaised calm
    exact ⟨_, congrArg Host.Outcome.next (stackTemp_hot ⟨safe, lit, there, booted⟩ hot below notRaised calm), rfl,
      tget_tset_self _ _ (by decide), rfl, rfl⟩
  case hotter =>
    intro m x s safe lit there booted hotter notRaised stands
    exact ⟨_, congrArg Host.Outcome.next (stackTemp_overtemp ⟨safe, lit, there, booted⟩ hotter notRaised stands),
      tget_tset_self _ _ (by decide), rfl⟩
  case cooled =>
    exact fun m x s safe lit there booted cool raised => ⟨_, rfl, stackTemp_cooled ⟨safe, lit, there, booted⟩ cool raised⟩
  case falls =>
    exact fun n s runs serves due hot => congrArg Host.Outcome.next ((tempStep_due runs serves due).trans (if_pos hot))
  case rises =>
    intro n c b s runs serves due cool ceils since waited below
    refine congrArg Host.Outcome.next ((tempStep_due runs serves due).trans ((if_neg (Int.not_le.mpr cool)).trans ?_))
    rw [ceils, since]
    dsimp only
    rw [if_neg (Nat.not_lt.mpr waited), if_neg (Nat.not_le.mpr below), if_neg (Nat.not_le.mpr below)]
  case overtemp => exact fun n b s runs serves hot due => congrArg Host.Outcome.next (siteOvertemp_due runs serves hot due)
  case free =>
    rintro st b u s safe since low due rfl free
    exact congrArg Host.Outcome.next (lowTempReturn_free safe since low due free)
  case fenced =>
    rintro st b e u s safe since low due rfl stands cold
    exact congrArg Host.Outcome.next (lowTempReturn_fenced safe since low due stands cold)

/-! ### The throttle factor -/

theorem sendLimit_f (n l : Nat) (s : State) : (sendLimit n l s).gaf.f = s.gaf.f := by
  unfold sendLimit
  exact (congrArg Gaf.f ((sideband_keep _ _ _ _).gaf rfl)).trans rfl

theorem release_f (reason amount : Nat) (s : State) : (release reason amount s).gaf.f = s.gaf.f := by
  unfold release
  split <;> rfl

theorem shortCheck_gaf (s : State) : (shortCheck s).gaf = s.gaf := by
  unfold shortCheck
  split
  · exact (standBegin_keep _ _ _ _ _).gaf rfl
  · exact (standEnd_keep _ _ _ _).gaf rfl

theorem excessCheck_f (s : State) : (excessCheck s).gaf.f = s.gaf.f := by
  rfl

theorem raiseLimit_f (quiet : Bool) (x : Nat × Nat) (s : State) : (if quiet then sendLimit x.1 x.2 s
    else modPow x.1 (fun p => { p with waitLimit := some (x.2, s.now + 50000) }) s).gaf.f = s.gaf.f := by
  split
  · exact sendLimit_f _ _ _
  · rfl

theorem divideCore_f (s : State) : (divideCore s).gaf.f = s.gaf.f := by
  unfold divideCore
  split
  · rfl
  · obtain ⟨parts, shares⟩ := division s
    dsimp only
    rw [excessCheck_f, shortCheck_gaf, foldl_keeps (fun t => t.gaf.f) ?highs, foldl_keeps (fun t => t.gaf.f) ?others,
      foldl_keeps (fun t => t.gaf.f) ?lows, foldl_keeps (fun t => t.gaf.f) ?idle]
    · rfl
    case lows => exact fun _ _ => sendLimit_f _ _ _
    case idle => exact fun _ _ => rfl
    case others =>
      intro u x
      split <;> rfl
    case highs =>
      intro u x
      split
      · split
        · rfl
        · exact raiseLimit_f _ _ _
      · exact raiseLimit_f _ _ _

theorem foldl_modPow_f {ns : List Nat} (f : State → Nat → SitePow → SitePow) (s : State) :
    (ns.foldl (fun u n => modPow n (f u n) u) s).gaf.f = s.gaf.f :=
  foldl_keeps (fun u => u.gaf.f) (f := fun u n => modPow n (f u n) u) (fun _ _ => rfl) ns s

theorem applyPace_f (j : Nat) (s : State) : (applyPace j s).gaf.f = s.gaf.f := by
  unfold applyPace
  extract_lets sd told u
  have same : u.gaf.f = s.gaf.f := by
    show (if _ then _ else s).gaf.f = _
    split
    · exact (foldl_keeps (fun t => t.gaf.f) (fun _ _ => congrArg Gaf.f ((sideband_keep _ _ _ _).gaf rfl)) _ _).trans rfl
    · rfl
  refine Eq.trans ?_ same
  split
  · split
    · rfl
    · split
      · exact (divideCore_f _).trans ((release_f _ _ _).trans (foldl_modPow_f _ _))
      · exact (divideCore_f _).trans (foldl_modPow_f _ _)
  · split
    · rfl
    · exact (divideCore_f _).trans (foldl_modPow_f _ _)

theorem receivePace_f (m : PaceMsg) (s : State) : (receivePace m s).gaf.f = s.gaf.f := by
  unfold receivePace
  extract_lets js same newer e
  split
  · rfl
  · split
    · rfl
    · exact (foldl_keeps (fun u => u.gaf.f) (fun _ _ => applyPace_f _ _) _ _).trans rfl

theorem sendPace_f (j sd cause : Nat) (s : State) : (sendPace j sd cause s).gaf.f = s.gaf.f := by
  unfold sendPace
  refine (receivePace_f _ _).trans (foldl_keeps (·.gaf.f) (fun u node => ?_) _ _)
  split
  · exact congrArg Gaf.f ((sendMsg_keep _ _ _ _ _).gaf rfl)
  · rfl

theorem paceCheck_f (j : Nat) (s : State) : (paceCheck j s).gaf.f = s.gaf.f := by
  unfold paceCheck
  dsimp only
  split
  · rfl
  · split
    · split
      · exact sendPace_f _ _ _ _
      · rfl
    · split
      · exact sendPace_f _ _ _ _
      · rfl

/-- A division of the power leaves the throttle factor as it is (R352, R358). -/
theorem divide_f (s : State) : (divide s).gaf.f = s.gaf.f :=
  (foldl_keeps (·.gaf.f) (fun _ _ => paceCheck_f _ _) _ _).trans (divideCore_f s)

/-- The factor moves once per millisecond (R352). -/
def ThrottleDue (s : State) : Prop := s.gaf.fStep = none ∨ ∃ a, s.gaf.fStep = some a ∧ a + 1000000 ≤ s.now

theorem throttleStep_due {x : Int} {st : Nat} {s : State} (runs : gafRuns s = true) (hottest : junction s = some (x, st)) (due : ThrottleDue s) :
    throttleStep s = (if deg 95 ≤ x then divide { s with gaf := { s.gaf with fStep := some s.now, f := max 400000 (s.gaf.f * 9 / 10) } }
      else if x < deg 92 then
        (if s.gaf.f = 1000000 then s else divide { s with gaf := { s.gaf with fStep := some s.now, f := min 1000000 (s.gaf.f + 50000) } })
      else s) := by
  unfold throttleStep
  rw [hottest]
  rcases due with first | ⟨a, last, spaced⟩
  · rw [first]
    exact if_neg (by simp [runs])
  · rw [last]
    exact if_neg (by simp [runs, spaced])

theorem throttleStep_stays {x : Int} {st : Nat} {s : State} (hottest : junction s = some (x, st)) (below : x < deg 95)
    (still : deg 92 ≤ x ∨ s.gaf.f = 1000000) : throttleStep s = s := by
  unfold throttleStep
  rw [hottest]
  dsimp only
  rw [if_neg (Int.not_le.mpr below)]
  rcases still with between | full
  · rw [if_neg (Int.not_lt.mpr between), ite_self]
  · rw [if_pos full, ite_self, ite_self]

theorem throttleStep_early {a : Tick} {s : State} (last : s.gaf.fStep = some a) (early : s.now < a + 1000000) : throttleStep s = s := by
  unfold throttleStep
  rw [last]
  dsimp only
  split
  · rfl
  · exact if_pos (by simp [early])

/-- A fall of power is granted what the ledger has room for, throttled or not (R352, R363). -/
theorem slewReq_falling {n d win : Nat} {tag : Byte} {s : State} (runs : gafRuns s = true) (live : sbLive s n = true)
    (serves : siteServing s n = true) (agreed : bit (siteFeatures s n) 2 = true) (falls : sgn 10 d < 0)
    (room : 0 < slewRoom s n (sgn 10 d).natAbs) : slewReq n d win tag s =
      sideband n .slewGrant [uns 10 (-(slewRoom s n (sgn 10 d).natAbs : Int)), win, tag.toNat]
        (modPow n (fun p => { p with grant := some (-(slewRoom s n (sgn 10 d).natAbs : Int), s.now + 1000 * win) }) s) := by
  have notRise : ¬ (0 < sgn 10 d ∧ s.gaf.f < 1000000) := fun ⟨rises, _⟩ => absurd rises (Int.not_lt.mpr (Int.le_of_lt falls))
  refine (if_neg (by simp [runs, live, serves, agreed])).trans ?_
  dsimp only
  rw [if_neg notRise, if_pos falls, if_neg (Nat.ne_of_gt room)]

/-- Settles O60: the cases of the step (`throttleStep_due`), whose division keeps the factor (`divide_f`), and of the request. -/
theorem theThrottleFactorFallsAndRises : Obligations.TheThrottleFactorFallsAndRises := by
  unfold Obligations.TheThrottleFactorFallsAndRises
  refine ⟨rfl, ?falls, ?rises, ?between, ?full, ?early, ?refused, ?granted⟩
  case falls =>
    intro x st s runs hottest hot due
    exact ⟨_, congrArg Host.Outcome.next ((throttleStep_due runs hottest due).trans (if_pos hot)), divide_f _, rfl⟩
  case rises =>
    intro x st s runs hottest cool below due
    have notHot : ¬ deg 95 ≤ x := by
      simp only [deg] at cool ⊢
      omega
    exact ⟨_, congrArg Host.Outcome.next ((throttleStep_due runs hottest due).trans
      ((if_neg notHot).trans ((if_pos cool).trans (if_neg (Nat.ne_of_lt below))))), divide_f _, rfl⟩
  case between => exact fun x st s hottest low high => congrArg Host.Outcome.next (throttleStep_stays hottest high (.inl low))
  case full =>
    intro x st s hottest cool full
    refine congrArg Host.Outcome.next (throttleStep_stays hottest ?_ (.inr full))
    simp only [deg] at cool ⊢
    omega
  case early => exact fun a s last early => congrArg Host.Outcome.next (throttleStep_early last early)
  case refused =>
    exact fun n d win tag s runs live serves agreed rise throttled =>
      congrArg Host.Outcome.next (slewReq_refused runs live serves agreed rise throttled)
  case granted =>
    rintro n d win r tag s runs live serves agreed fall throttled rfl room
    exact congrArg Host.Outcome.next (slewReq_falling runs live serves agreed fall room)

end Sys2Proof.Machine
end

section
/-! SUPPORT. The timecode (R40, R42, R44), the sideband's latest answer (R446), the management address (R481) and the test port
(R483). -/

namespace Sys2Proof.Machine

open Sys2Proof

/-! ### The latest answer to a site -/

theorem savedRsp_last {n : Nat} {tag : Byte} {w : Bool} {v : Word32} {s : State} (last : tget none s.csp.lastRsp n = some (tag, w, v)) :
    savedRsp s n tag = some (w, v) := by
  unfold savedRsp
  rw [last]
  exact if_pos rfl

/-- An answer is the latest one of its site (R446). -/
theorem savedRsp_regRsp (n : Nat) (tag : Byte) (w : Bool) (v : Word32) (s : State) : savedRsp (regRsp n tag w v s) n tag = some (w, v) := by
  refine savedRsp_last ?_
  show tget none (sideband n .regRsp _ (modCsp _ s)).csp.lastRsp n = _
  rw [(sideband_keep _ _ _ _).csp rfl]
  exact tget_tset_self _ _ (Option.some_ne_none _)

theorem csAnswers_booted {s : State} (booted : 5 ≤ s.boot.phase) : csAnswers s = true := by simp [csAnswers, booted]

/-- Settles O59: an answer is kept as the latest (`savedRsp_regRsp`), and a request with its tag is answered from it. -/
theorem aRepeatedSidebandRequestIsAnsweredOnce : Obligations.ARepeatedSidebandRequestIsAnsweredOnce := by
  unfold Obligations.ARepeatedSidebandRequestIsAnsweredOnce
  refine ⟨?repeated, ?read, ?write⟩
  case repeated =>
    exact fun n a tag d v w s live last => ⟨congrArg Host.Outcome.next (sbRead_saved live (savedRsp_last last)),
      congrArg Host.Outcome.next (sbWrite_saved live (savedRsp_last last))⟩
  case read =>
    exact fun n a tag s live new booted => ⟨_, _, rfl, congrArg Host.Outcome.next (sbRead_new live new (csAnswers_booted booted)), rfl,
      fun still => congrArg Host.Outcome.next (sbRead_saved still (savedRsp_regRsp _ _ _ _ _))⟩
  case write =>
    exact fun n a tag d s live new booted => ⟨_, _, rfl, congrArg Host.Outcome.next (sbWrite_new live new (csAnswers_booted booted)), rfl,
      fun still => congrArg Host.Outcome.next (sbWrite_saved still (savedRsp_regRsp _ _ _ _ _))⟩

/-! ### The management address and the test port -/

theorem execEntdaa_given {s : State} (a : Nat) (booted : 3 ≤ s.boot.phase) (out : s.pins.porN = true) (free : s.pins.i3cAddress = none) :
    execEntdaa a s = .next { s with pins := { s.pins with i3cAddress := some a } } :=
  congrArg Host.Outcome.next (if_pos (by simp [portOpen, booted, out, free]))

theorem execEntdaa_refused {s : State} (a : Nat) (refused : s.pins.i3cAddress.isSome = true ∨ s.boot.phase < 3) : execEntdaa a s = .next s := by
  refine congrArg Host.Outcome.next (if_neg ?_)
  rcases refused with taken | early
  · simp [Option.isNone_eq_false_iff.mpr taken]
  · simp [portOpen, Nat.not_le.mpr early]

theorem tapInstruction_unknown {s : State} (c : Nat) (ordinary : s.role.facActive = false) :
    tapInstruction (.other c) s = { s with pins := { s.pins with tap := .bypass }, out := .tdo .bypass 0 :: s.out } := by
  have bypass : tapActs s (.other c) = .bypass := by simp [tapActs, ordinary]
  unfold tapInstruction
  rw [bypass]
  rfl

theorem tapInstruction_makers {s : State} (c : Nat) (factory : s.role.facActive = true) :
    tapInstruction (.other c) s = { s with pins := { s.pins with tap := .other c } } := by
  have itself : tapActs s (.other c) = .other c := by simp [tapActs, factory]
  unfold tapInstruction
  rw [itself]
  rfl

theorem idCode_toNat : idCode.toNat = 0xB * 2 ^ 28 + 0x5A12 * 2 ^ 12 + Config.makerJedec.toNat * 2 + 1 := by
  have width : Config.makerJedec.toNat < 2 ^ 11 := Config.makerJedec.isLt
  rw [idCode, BitVec.toNat_ofNat, Nat.mod_eq_of_lt (by omega)]

/-- Settles O50, case by case of the address and of the instruction; the fields of the identification code by `idCode_toNat`. -/
theorem theManagementAddressAndTheTestPort : Obligations.TheManagementAddressAndTheTestPort := by
  unfold Obligations.TheManagementAddressAndTheTestPort
  have width : Config.makerJedec.toNat < 2 ^ 11 := Config.makerJedec.isLt
  refine ⟨fun a s => execEntdaa_given a, fun a s => execEntdaa_refused a, fun s => rfl, fun s => rfl, fun s => rfl,
    fun c s ordinary => congrArg Host.Outcome.next (tapInstruction_unknown c ordinary),
    fun c s factory => congrArg Host.Outcome.next (tapInstruction_makers c factory), ?lowest, ?version, ?partNumber⟩
  case lowest =>
    rw [BitVec.getLsbD, idCode_toNat, Nat.testBit_zero]
    exact decide_eq_true (by omega)
  case version =>
    rw [idCode_toNat]
    omega
  case partNumber =>
    rw [idCode_toNat]
    omega

/-! ### The tick -/

/-- What a tick does first: the count, CLAP_OUT's end and the flash's (R40, R475). -/
def ticked (s : State) : State := xspiTick (clapOutEnd (countTick { s with now := s.now + 1 }))

theorem tick_keeps_tc (s : State) : (tick s).tc = (clapOutEnd (countTick { s with now := s.now + 1 })).tc := by
  unfold tick
  dsimp only
  split
  · exact (xspiTick_keep _).tc rfl
  · rw [(mstTick_keep _).tc rfl, (gripTick_keep _).tc rfl, (podStall_keep _).tc rfl, (dmaTick_keep _).tc rfl, (stallTick_keep _).tc rfl,
      (sbTicks_keep _).tc rfl, (xspiTick_keep _).tc rfl]

theorem tick_keeps_pins (s : State) : (tick s).pins = (ticked s).pins := by
  unfold tick
  dsimp only
  split
  · rfl
  · rw [(mstTick_keep _).pins rfl, (gripTick_keep _).pins rfl, (podStall_keep _).pins rfl, (dmaTick_keep _).pins rfl,
      (stallTick_keep _).pins rfl, (sbTicks_keep _).pins rfl]
    rfl

theorem xspiTick_clapOut (s : State) : (xspiTick s).pins.clapOut = s.pins.clapOut := by
  unfold xspiTick
  split
  · rfl
  · split <;> rfl

/-- CLAP_OUT's end leaves every other part of the timecode (R44). -/
theorem clapOutEnd_tc (s : State) : (clapOutEnd s).tc = { s.tc with clapFall := (clapOutEnd s).tc.clapFall } := by
  unfold clapOutEnd
  split
  · rfl
  · split <;> rfl

theorem clapOutEnd_due {x : Tick} {s : State} (stands : s.tc.clapFall = some x) (due : x ≤ s.now) :
    clapOutEnd s = { s with tc := { s.tc with clapFall := none }, pins := { s.pins with clapOut := false } } := by
  unfold clapOutEnd
  rw [stands]
  exact if_neg (Nat.not_lt.mpr due)

theorem countTick_aligned {s : State} (aligned : s.tc.fieldsAligned = true) : countTick s =
    { s with tc := { s.tc with timecode := s.tc.timecode + BitVec.ofInt 64 (1 + s.tc.stepDue), stepDue := 0 } } := if_pos aligned

section
variable {s : State} (aligned : s.tc.fieldsAligned = true)
include aligned

theorem tick_tc : (tick s).tc = { s.tc with
    timecode := s.tc.timecode + BitVec.ofInt 64 (1 + s.tc.stepDue)
    stepDue := 0
    clapFall := (tick s).tc.clapFall } := by
  rw [tick_keeps_tc, clapOutEnd_tc, countTick_aligned (s := { s with now := s.now + 1 }) aligned]

theorem tick_clapOut {x : Tick} (stands : s.tc.clapFall = some x) (due : x ≤ s.now + 1) :
    (tick s).pins.clapOut = false ∧ (tick s).tc.clapFall = none := by
  have ended := clapOutEnd_due (x := x) (s := countTick { s with now := s.now + 1 })
    (by rw [countTick_aligned (s := { s with now := s.now + 1 }) aligned]; exact stands)
    (by rw [(countTick_keep _).now rfl]; exact due)
  constructor
  · rw [tick_keeps_pins, ticked, xspiTick_clapOut, ended]
  · rw [tick_keeps_tc, ended]

end

/-- A tick before the copies are released moves the count and the flash's reset alone (R40). -/
theorem tick_unreleased {s : State} (unreleased : s.tc.fieldsAligned = false) (low : s.tc.clapFall = none) :
    tick s = xspiTick { s with now := s.now + 1 } := by
  have counted : countTick { s with now := s.now + 1 } = { s with now := s.now + 1 } := if_neg (by simp [unreleased])
  have silent : clapOutEnd { s with now := s.now + 1 } = { s with now := s.now + 1 } := by
    unfold clapOutEnd
    dsimp only
    rw [low]
  unfold tick
  dsimp only
  rw [counted, silent, (xspiTick_keep _).tc rfl]
  exact if_pos (by simp [unreleased])

theorem xspiTick_idle {s : State} (idle : s.boot.xspiRise = none) : xspiTick s = s := by
  unfold xspiTick
  rw [idle]

theorem xspiTick_due {x : Tick} {s : State} (stands : s.boot.xspiRise = some x) (due : x ≤ s.now) : xspiTick s = xspiEnd s := by
  unfold xspiTick
  rw [stands]
  exact if_neg (Nat.not_lt.mpr due)

/-! ### Corrections and the reference -/

theorem correction_due {plus : Bool} {s : State} (safe : s.flt.safe = false) (ready : s.boot.ready = true)
    (spaced : ∀ x, s.tc.lastStep = some x → x + 5000 ≤ s.now) (toward : if plus then 0 < s.tc.diff else s.tc.diff < 0) :
    correction plus s = { s with tc := { s.tc with
      lastStep := some s.now
      stepDue := if plus then 1 else -1
      diff := if plus then s.tc.diff - 1 else s.tc.diff + 1
      plusSteps := if plus then s.tc.plusSteps + 1 else s.tc.plusSteps
      minusSteps := if plus then s.tc.minusSteps else s.tc.minusSteps + 1 } } := by
  have wanted : (if plus then decide (0 < s.tc.diff) else decide (s.tc.diff < 0)) = true := by
    cases plus <;> exact decide_eq_true toward
  unfold correction
  refine (if_neg ?_).trans rfl
  cases last : s.tc.lastStep with
  | none => simp only [safe, ready, wanted]; decide
  | some x => simp only [safe, ready, wanted, decide_eq_true (spaced x last)]; decide

theorem execRefclkHoldoverExpiry_due {x : Tick} {s : State} (safe : s.flt.safe = false) (lost : s.tc.refclkLost = some x)
    (due : x + 100000 ≤ s.now) : execRefclkHoldoverExpiry s =
      .next (enterSafe (sendFault (mkMsg s .refclkLost 10 0 0) { s with tc := { s.tc with refclkLost := none } })) := by
  unfold execRefclkHoldoverExpiry
  rw [lost]
  refine congrArg Host.Outcome.next ((if_neg (by simp [safe, due])).trans ?_)
  exact raise_fatal (k := .refclkLost) rfl 10 0 0 _

theorem execStitchRemeasure_small {skews : List (Nat × Nat)} {s : State} (safe : s.flt.safe = false) (aligned : s.tc.fieldsAligned = true)
    (due : s.tc.nextStitch ≤ s.now) (small : (skews.map (·.2)).foldl max 0 ≤ 16) : execStitchRemeasure skews s = .next { s with tc := { s.tc with
      maxSkew := BitVec.ofNat 8 ((skews.map (·.2)).foldl max 0)
      nextStitch := s.now + 1000000 } } := by
  refine congrArg Host.Outcome.next ((if_neg (by simp [safe, aligned, due])).trans ?_)
  dsimp only
  rw [if_neg (Nat.not_lt.mpr small), Nat.min_eq_left (small.trans (by decide))]
  rfl

/-- Settles O1: the timecode is the count's and CLAP_OUT's first part of the tick, since what follows leaves it as it is. -/
theorem timecodeAndReferenceClock : Obligations.TimecodeAndReferenceClock := by
  unfold Obligations.TimecodeAndReferenceClock
  refine ⟨?tick, ?idle, ?flash, ?step, ?lost, ?expiry, ?stitch⟩
  case tick =>
    intro crew s aligned
    have turn := crewTurn_keep crew s
    have same : (crewTurn crew s).tc = s.tc := turn.tc rfl
    have now : (crewTurn crew s).now = s.now := turn.now rfl
    obtain ⟨t, goes, kept⟩ := execTimecodeTick_keep crew s
    obtain rfl : tick (crewTurn crew s) = t := Host.Outcome.next.inj goes
    refine ⟨_, goes, (tick_now _).trans (congrArg (· + 1) now), ?_, ?_, kept.rebuild⟩
    · exact (tick_tc (same ▸ aligned)).trans (by rw [same])
    · exact fun x stands due => tick_clapOut (same ▸ aligned) (same ▸ stands) (now ▸ due)
  case idle =>
    exact fun s unreleased low idle => congrArg Host.Outcome.next ((tick_unreleased unreleased low).trans (xspiTick_idle idle))
  case flash =>
    exact fun s x unreleased low stands due =>
      congrArg Host.Outcome.next ((tick_unreleased unreleased low).trans (xspiTick_due stands due))
  case step => exact fun plus s safe ready spaced toward => congrArg Host.Outcome.next (correction_due safe ready spaced toward)
  case lost =>
    intro s safe aligned running
    refine congrArg Host.Outcome.next ((if_neg (by simp [safe])).trans ((if_pos aligned).trans ?_))
    simp only [modTc, running]
  case expiry => exact fun s x safe lost due => ⟨_, execRefclkHoldoverExpiry_due safe lost due, rfl, rfl, rfl⟩
  case stitch => exact fun skews s safe aligned due small => execStitchRemeasure_small safe aligned due small

end Sys2Proof.Machine
end

section
/-! SUPPORT. Budgets (R354 to R356), pace notices (R364 to R366) and the energy of a millisecond (R369, R370). -/

namespace Sys2Proof.Machine

open Sys2Proof

/-! ### Budgets -/

section
variable {e id w x : Nat} {s : State}

theorem budgetGrant_legal (rack : fromRack s e = true) (least : 1 ≤ x) (most : x ≤ 3600000) : budgetGrant e id w x s =
    (let t := divide { s with gaf := { s.gaf with
      budget := w
      grantId := BitVec.ofNat 32 id
      expiry := some (s.now + 1000000 * x)
      release := none
      withheld := 0
      excessSince := none } }
    emit (.rack e "BUDGET_ACK" [id, b2n (decide (100 * w < minBudget t)), w, wattsUp (minBudget t)]) t) :=
  (if_neg (by simp [rack])).trans (if_neg (by omega))

theorem budgetGrant_illegal (rack : fromRack s e = true) (wrong : x = 0 ∨ 3600000 < x) : budgetGrant e id w x s =
    emit (.rack e "BUDGET_ACK" [id, 2, (freshWord s).1 % 65536, wattsUp (minBudget (freshWord s).2)]) (freshWord s).2 :=
  (if_neg (by simp [rack])).trans (if_pos wrong)

theorem budgetGrant_other (other : fromRack s e = false) : budgetGrant e id w x s = s := if_pos (by simp [other])

end

theorem execBudgetExpiry_due {a : Tick} {s : State} (runs : gafRuns s = true) (ends : s.gaf.expiry = some a) (due : a ≤ s.now) :
    execBudgetExpiry s = .next (divide { s with
      gaf := { s.gaf with budget := s.gaf.fallback, grantId := 0, expiry := none, release := none, withheld := 0 }
      flt := { s.flt with net := s.flt.net ++ [mkMsg s .budgetExpired 9 63 (budgetAddr s s.gaf.fallback)] } }) := by
  unfold execBudgetExpiry
  rw [ends]
  refine congrArg Host.Outcome.next ((if_neg (by simp [runs, due])).trans (congrArg divide ?_))
  exact raise_mild (k := .budgetExpired) (by decide) 9 63 _ _

theorem execBudgetExcessRelease_due {a : Tick} {s : State} (runs : gafRuns s = true) (since : s.gaf.excessSince = some a)
    (due : a + 100000000 ≤ s.now) :
    execBudgetExcessRelease s = .next (divide (release 1 ((100 * s.gaf.budget - s.gaf.alloc) / 100) s)) := by
  unfold execBudgetExcessRelease
  rw [since]
  exact congrArg Host.Outcome.next (if_neg (by simp [runs, due]))

theorem release_granted {why n : Nat} {s : State} (stands : granted s = true) (some_ : 0 < n) (held : n ≤ s.gaf.budget) :
    release why n s = { s with
      gaf := { s.gaf with
        budget := s.gaf.budget - n
        release := some { id := s.gaf.grantId, released := n, kept := s.gaf.budget - n, reason := why, sent := s.now }
        excessSince := none }
      out := .rack s.gaf.rackEid "BUDGET_RELEASE" [s.gaf.grantId.toNat, n, s.gaf.budget - n, why] :: s.out } :=
  if_pos (by simp [stands, some_, held])

section
variable {r : Release} {s : State} (stands : s.gaf.release = some r)
include stands

theorem execBudgetReleaseAck_named {e id : Nat} (rack : fromRack s e = true) (named : r.id.toNat = id) :
    execBudgetReleaseAck e id s = .next { s with gaf := { s.gaf with release := none } } := by
  unfold execBudgetReleaseAck
  rw [stands]
  exact congrArg Host.Outcome.next (if_pos (by simp [rack, named]))

theorem execBudgetReleaseAck_other {id : Nat} (e : Nat) (other : r.id.toNat ≠ id) : execBudgetReleaseAck e id s = .next s := by
  unfold execBudgetReleaseAck
  rw [stands]
  exact congrArg Host.Outcome.next (if_neg (by simp [other]))

theorem execBudgetReleaseRetry_due (runs : gafRuns s = true) (due : r.sent + 100000000 ≤ s.now) (more : r.tries < 4) :
    execBudgetReleaseRetry s = .next { s with
      gaf := { s.gaf with release := some { r with sent := s.now, tries := r.tries + 1 } }
      out := .rack s.gaf.rackEid "BUDGET_RELEASE" [r.id.toNat, r.released, r.kept, r.reason] :: s.out } := by
  unfold execBudgetReleaseRetry
  rw [stands]
  exact congrArg Host.Outcome.next (if_neg (by simp [runs, due, more]))

theorem execBudgetReleaseRetry_spent (spent : 4 ≤ r.tries) : execBudgetReleaseRetry s = .next s := by
  unfold execBudgetReleaseRetry
  rw [stands]
  exact congrArg Host.Outcome.next (if_pos (by simp [spent]))

end

/-- Settles O31: each clause is one case of the grant, of its end or of the release. -/
theorem budgetsAreGrantedReleasedAndExpire : Obligations.BudgetsAreGrantedReleasedAndExpire := by
  unfold Obligations.BudgetsAreGrantedReleasedAndExpire
  refine ⟨?legal, ?illegal, ?other, ?query, ?expiry, ?excess, ?release, ?acked, ?notNamed, ?again, ?spent⟩
  case legal => exact fun e id w x s rack least most => ⟨_, congrArg Host.Outcome.next (budgetGrant_legal rack least most), rfl⟩
  case illegal => exact fun e id w x s rack wrong => ⟨_, congrArg Host.Outcome.next (budgetGrant_illegal rack wrong)⟩
  case other =>
    exact fun e id w x s other => ⟨congrArg Host.Outcome.next (budgetGrant_other other), congrArg Host.Outcome.next (if_neg (by simp [other]))⟩
  case query => exact fun e s rack => congrArg Host.Outcome.next (if_pos rack)
  case expiry => exact fun a s runs ends due => execBudgetExpiry_due runs ends due
  case excess => exact fun a s runs since due => execBudgetExcessRelease_due runs since due
  case release => exact fun why n s stands some_ held => release_granted stands some_ held
  case acked => exact fun e id r s stands rack named => execBudgetReleaseAck_named stands rack named
  case notNamed => exact fun e id r s stands other => execBudgetReleaseAck_other stands e other
  case again => exact fun r s runs stands due more => execBudgetReleaseRetry_due stands runs due more
  case spent => exact fun r s stands spent => execBudgetReleaseRetry_spent stands spent

/-! ### Pace notices -/

/-- Whether a kept notice is of the job and the source of another. -/
def sameNotice (m : PaceMsg) (p : PaceIn) : Bool := p.job == m.podJob && p.source == m.source

section
variable {m : PaceMsg} {j : Nat} {s : State} (ours : (runningJobs s).filter (fun j => jobPod s j == m.podJob) = [j])
include ours

theorem receivePace_first (first : s.gaf.paceIn.find? (sameNotice m) = none) : receivePace m s =
    applyPace j { s with gaf := { s.gaf with paceIn := s.gaf.paceIn.filter (fun p => !sameNotice m p) ++
      [{ job := m.podJob, source := m.source, seq := m.seq, slowdown := m.slowdown, at_ := s.now }] } } := by
  unfold sameNotice at first
  unfold receivePace
  dsimp only
  rw [ours, first]
  rfl

theorem receivePace_again {p : PaceIn} (last : s.gaf.paceIn.find? (sameNotice m) = some p) (same : m.seq = p.seq) : receivePace m s = s := by
  unfold sameNotice at last
  unfold receivePace
  dsimp only
  rw [ours, last, same]
  simp

end

theorem receivePace_elsewhere {m : PaceMsg} {s : State} (elsewhere : (runningJobs s).filter (fun j => jobPod s j == m.podJob) = []) :
    receivePace m s = s := by
  unfold receivePace
  dsimp only
  rw [elsewhere]
  rfl

/-! ### Energy -/

/-- The tag that pays for a site (R370). -/
def siteTag (s : State) (n : Nat) : Nat := match jobOfSite s n with
  | some j => jobTag s j
  | none => 0

/-- Nothing but the energy of the tags changes. -/
def OnlyEnergy (s t : State) : Prop := ∃ x, t = { s with gaf := { s.gaf with energy := x } }

theorem OnlyEnergy.trans {s t u : State} (first : OnlyEnergy s t) (next : OnlyEnergy t u) : OnlyEnergy s u := by
  obtain ⟨x, rfl⟩ := first
  obtain ⟨y, rfl⟩ := next
  exact ⟨y, rfl⟩

theorem OnlyEnergy.foldl {α : Type} {f : State → α → State} (keeps : ∀ s x, OnlyEnergy s (f s x)) :
    ∀ (xs : List α) (s : State), OnlyEnergy s (xs.foldl f s)
  | [], _ => ⟨_, rfl⟩
  | x :: xs, s => (keeps s x).trans (OnlyEnergy.foldl keeps xs (f s x))

theorem addEnergy_only (tag e : Nat) (s : State) : OnlyEnergy s (addEnergy tag e s) := ⟨_, rfl⟩

theorem shareEnergy_only (e : Nat) (w : Tab Nat) (s : State) : OnlyEnergy s (shareEnergy e w s) := by
  unfold shareEnergy
  dsimp only
  split
  · exact addEnergy_only _ _ _
  · exact (OnlyEnergy.foldl (fun _ _ => addEnergy_only _ _ _) _ _).trans (addEnergy_only _ _ _)

/-- The energy read for a site, with its regulator's 8 %, for the memory and for the base (R370). -/
def readSum (readings : List (Nat × Nat)) (p : Nat → Bool) : Nat := ((readings.filter (fun r => p r.1)).map (·.2)).sum
def siteEnergy (readings : List (Nat × Nat)) (n : Nat) : Nat := readSum readings (· == n) * 108 / 100
def memEnergy (readings : List (Nat × Nat)) : Nat := readSum readings (fun k => decide (0x44 ≤ k ∧ k ≤ 0x46))
def baseEnergy (readings : List (Nat × Nat)) : Nat := readSum readings (fun k => decide (0x40 ≤ k ∧ k ≤ 0x43) || k == 0x50)

/-- The energy of the sites is added to their tags. -/
def sitesAdded (readings : List (Nat × Nat)) (ns : List Nat) (s : State) : State :=
  ns.foldl (fun u n => addEnergy (siteTag u n) (siteEnergy readings n) u) s

/-- All the energy of the millisecond is added to the tags. -/
def energyAdded (readings : List (Nat × Nat)) (s : State) : State :=
  let t := sitesAdded readings (List.range 12) s
  let u := shareEnergy (memEnergy readings) t.gaf.lines t
  shareEnergy (baseEnergy readings) t.gaf.bytes u

theorem energyAdded_only (readings : List (Nat × Nat)) (s : State) : OnlyEnergy s (energyAdded readings s) :=
  ((OnlyEnergy.foldl (fun _ _ => addEnergy_only _ _ _) _ _).trans (shareEnergy_only _ _ _)).trans (shareEnergy_only _ _ _)

theorem attributeEnergy_due {readings : List (Nat × Nat)} {s : State} (runs : gafRuns s = true)
    (due : s.gaf.energyDone < s.tc.timecode.toNat / 1000000) : attributeEnergy readings s = { energyAdded readings s with
      gaf := { (energyAdded readings s).gaf with
        energyDone := s.tc.timecode.toNat / 1000000
        lines := []
        bytes := []
        measured := (((List.range 12).map (siteEnergy readings)).sum + memEnergy readings + baseEnergy readings) / 1000 }
      out := ((List.range 7).map (fun i => OutMsg.pmbus (i + 0x40) "READ_EOUT" [])).reverse ++ (energyAdded readings s).out } := by
  have eq : attributeEnergy readings s = modGaf (fun g => { g with
      energyDone := s.tc.timecode.toNat / 1000000
      lines := []
      bytes := []
      measured := (((List.range 12).map (siteEnergy readings)).sum + memEnergy readings + baseEnergy readings) / 1000 })
      (regulators "READ_EOUT" (energyAdded readings s)) := (if_neg (by simp [runs, due])).trans rfl
  rw [eq, regulators_eq]
  rfl

/-! A table of one tag. -/

theorem tset_nil {α : Type} [DecidableEq α] (d v : α) (i : Nat) : tset d [] i v = if v = d then [] else [(i, v)] := rfl

/-- Adding nothing to the energy of any tag leaves a table of one tag as it is. -/
theorem tupd_one_zero (i k : Nat) (v : BitVec 64) : tupd 0 (tset 0 [] i v) k (· + BitVec.ofNat 64 0) = tset 0 [] i v := by
  rw [tupd, BitVec.add_zero]
  by_cases none : v = 0
  · rw [tset_nil, if_pos none]
    rfl
  · rw [tset_nil, if_neg none]
    rcases Nat.lt_trichotomy k i with below | rfl | above
    · simp [tget, tset, below, Nat.ne_of_lt below]
    · simp only [tget, tset, if_true, Nat.lt_irrefl, if_false, if_neg none]
    · simp [tget, tset, Nat.not_lt.mpr (Nat.le_of_lt above), Nat.ne_of_gt above]

theorem tget_one {α : Type} [DecidableEq α] (d : α) (i : Nat) (v : α) : tget d (tset d [] i v) i = v := by
  by_cases none : v = d
  · rw [none, tset_nil, if_pos rfl]
    rfl
  · exact tget_tset_self _ _ none

theorem OnlyEnergy.siteTag {s t : State} (only : OnlyEnergy s t) (n : Nat) : siteTag t n = siteTag s n := by
  obtain ⟨x, rfl⟩ := only
  rfl

theorem addEnergy_zero {s : State} {i : Nat} {v : BitVec 64} (one : s.gaf.energy = tset 0 [] i v) (k : Nat) :
    (addEnergy k 0 s).gaf.energy = tset 0 [] i v := by
  show tupd 0 s.gaf.energy (k % 16) (· + BitVec.ofNat 64 0) = _
  rw [one, tupd_one_zero]

theorem sitesAdded_zero {readings : List (Nat × Nat)} {i : Nat} {v : BitVec 64} : ∀ {ns : List Nat} {s : State},
    (∀ k ∈ ns, siteEnergy readings k = 0) → s.gaf.energy = tset 0 [] i v → (sitesAdded readings ns s).gaf.energy = tset 0 [] i v
  | [], _, _, one => one
  | n :: ns, s, zero, one => by
    rw [List.forall_mem_cons] at zero
    obtain ⟨none, rest⟩ := zero
    refine sitesAdded_zero (ns := ns) rest ?_
    show (addEnergy _ (siteEnergy readings n) s).gaf.energy = _
    rw [none]
    exact addEnergy_zero one _

theorem shareEnergy_zero {s : State} {i : Nat} {v : BitVec 64} (one : s.gaf.energy = tset 0 [] i v) :
    (shareEnergy 0 [] s).gaf.energy = tset 0 [] i v := addEnergy_zero one 0

section
variable {n e : Nat}

theorem siteEnergy_read : siteEnergy [(n, e)] n = e * 108 / 100 := by simp [siteEnergy, readSum]

theorem siteEnergy_unread {k : Nat} (other : n ≠ k) : siteEnergy [(n, e)] k = 0 := by simp [siteEnergy, readSum, other]

theorem memEnergy_site (site : n < 12) : memEnergy [(n, e)] = 0 := by
  have below : ¬ 0x44 ≤ n := by omega
  simp [memEnergy, readSum, below]

theorem baseEnergy_site (site : n < 12) : baseEnergy [(n, e)] = 0 := by
  have below : ¬ 0x40 ≤ n := by omega
  have notRail : n ≠ 0x50 := by omega
  simp [baseEnergy, readSum, below, notRail]

/-- The sites in order, about one of them: no other stands before or after it as itself. -/
theorem sites_around (site : n < 12) : ∃ before after, List.range 12 = before ++ n :: after ∧ (∀ k ∈ before, n ≠ k) ∧ ∀ k ∈ after, n ≠ k := by
  obtain ⟨before, after, split⟩ := List.append_of_mem (List.mem_range.mpr site)
  have apart : (before ++ n :: after).Nodup := split ▸ List.nodup_range
  rw [List.nodup_middle, List.nodup_cons] at apart
  exact ⟨before, after, split, fun k there same => apart.1 (List.mem_append_left _ (same ▸ there)),
    fun k there same => apart.1 (List.mem_append_right _ (same ▸ there))⟩

theorem sitesSum_one (site : n < 12) : ((List.range 12).map (siteEnergy [(n, e)])).sum = e * 108 / 100 := by
  have zero : ∀ ns : List Nat, (∀ k ∈ ns, n ≠ k) → (ns.map (siteEnergy [(n, e)])).sum = 0 := by
    intro ns apart
    refine List.sum_eq_zero fun x there => ?_
    obtain ⟨k, listed, rfl⟩ := List.mem_map.mp there
    exact siteEnergy_unread (apart k listed)
  obtain ⟨before, after, split, noneBefore, noneAfter⟩ := sites_around site
  rw [split, List.map_append, List.map_cons, List.sum_append, List.sum_cons, zero before noneBefore, zero after noneAfter, siteEnergy_read]
  omega

theorem sitesAdded_one {s : State} (site : n < 12) (fresh : s.gaf.energy = []) :
    (sitesAdded [(n, e)] (List.range 12) s).gaf.energy = tset 0 [] (siteTag s n % 16) (BitVec.ofNat 64 (e * 108 / 100)) := by
  obtain ⟨before, after, split, noneBefore, noneAfter⟩ := sites_around site
  have until_ : (sitesAdded [(n, e)] before s).gaf.energy = [] :=
    sitesAdded_zero (i := 0) (v := 0) (fun k listed => siteEnergy_unread (noneBefore k listed)) fresh
  have same := (OnlyEnergy.foldl (fun u k => addEnergy_only (siteTag u k) (siteEnergy [(n, e)] k) u) before s).siteTag n
  rw [split, sitesAdded, List.foldl_append, List.foldl_cons]
  refine sitesAdded_zero (ns := after) (fun k listed => siteEnergy_unread (noneAfter k listed)) ?_
  rw [same, siteEnergy_read]
  show tupd 0 (sitesAdded [(n, e)] before s).gaf.energy (siteTag s n % 16) (· + BitVec.ofNat 64 (e * 108 / 100)) = _
  rw [until_, tupd, tget]
  exact congrArg (tset 0 [] _) (BitVec.zero_add _)

theorem energyAdded_one {s : State} (site : n < 12) (noLines : s.gaf.lines = []) (noBytes : s.gaf.bytes = []) (fresh : s.gaf.energy = []) :
    (energyAdded [(n, e)] s).gaf.energy = tset 0 [] (siteTag s n % 16) (BitVec.ofNat 64 (e * 108 / 100)) := by
  have only : OnlyEnergy s (sitesAdded [(n, e)] (List.range 12) s) := OnlyEnergy.foldl (fun _ _ => addEnergy_only _ _ _) _ _
  have lines : (sitesAdded [(n, e)] (List.range 12) s).gaf.lines = [] := by
    obtain ⟨x, eq⟩ := only
    rw [eq]
    exact noLines
  have bytes : (sitesAdded [(n, e)] (List.range 12) s).gaf.bytes = [] := by
    obtain ⟨x, eq⟩ := only
    rw [eq]
    exact noBytes
  unfold energyAdded
  dsimp only
  rw [lines, bytes, memEnergy_site site, baseEnergy_site site]
  exact shareEnergy_zero (shareEnergy_zero (sitesAdded_one site fresh))

end

/-- Settles O32: notices by their source; the energy of a millisecond changes nothing but the tags' counters (`energyAdded_only`), and
that of one site reaches one tag (`energyAdded_one`). -/
theorem paceNoticesAndEnergy : Obligations.PaceNoticesAndEnergy := by
  unfold Obligations.PaceNoticesAndEnergy
  refine ⟨?first, ?again, ?elsewhere, ?dropped, ?sent, ?early, ?attributed, ?one, ?twice⟩
  case first => exact fun m j s runs ours first => congrArg Host.Outcome.next ((if_pos runs).trans (receivePace_first ours first))
  case again => exact fun m p j s runs ours last same => congrArg Host.Outcome.next ((if_pos runs).trans (receivePace_again ours last same))
  case elsewhere => exact fun m s elsewhere => congrArg Host.Outcome.next (by rw [receivePace_elsewhere elsewhere, ite_self])
  case dropped => exact fun j s runs => congrArg Host.Outcome.next (if_pos runs)
  case sent =>
    intro j a s runs running last due told slow
    show execPaceNoticeTimer j s = _
    unfold execPaceNoticeTimer
    dsimp only
    rw [last]
    exact congrArg Host.Outcome.next (if_pos (by rw [runs, running, decide_eq_true due, decide_eq_true told, decide_eq_true slow]; rfl))
  case early =>
    intro j a s last early
    show execPaceNoticeTimer j s = _
    unfold execPaceNoticeTimer
    dsimp only
    rw [last]
    exact congrArg Host.Outcome.next (if_neg (by simp [Nat.not_le.mpr early]))
  case attributed =>
    intro readings s runs due
    obtain ⟨x, only⟩ := energyAdded_only readings s
    refine ⟨_, congrArg Host.Outcome.next (attributeEnergy_due runs due), rfl, rfl, rfl, ?_⟩
    rw [only]
  case one =>
    intro n e j s runs due site runsHere noLines noBytes fresh
    have tag : siteTag s n = jobTag s j := by rw [siteTag, runsHere]
    refine ⟨_, congrArg Host.Outcome.next (attributeEnergy_due runs due), ?_, ?_⟩
    · dsimp only
      rw [sitesSum_one site, memEnergy_site site, baseEnergy_site site]
      rfl
    · dsimp only
      rw [energyAdded_one site noLines noBytes fresh, tag, tget_one]
  case twice => exact fun readings s done => congrArg Host.Outcome.next (if_pos (by simp [done]))

end Sys2Proof.Machine
end

section
/-! SUPPORT. The fault collector (R376 to R378), the fence map with its retries (R381, R383, R384), and the fault registers, the voted
store and injection (R377, R379, R386 to R389). -/

namespace Sys2Proof.Machine

open Sys2Proof

/-! ### The fence map -/

section
variable {u : UnitId} {s : State}

theorem enterFence_new {n : Nat} (k : Byte) (free : fenced s u = false) (outside : insideFenced s u = false)
    (entry : entryFor s u = some (n, u)) : enterFence u k s = (some (u, decide (6 ≤ recoveryCount s u)),
      setEntry n (some { unit := u, st := if decide (6 ≤ recoveryCount s u) then .held else .fenced, kind := k, quietFrom := s.now }) s) := by
  unfold enterFence
  rw [if_neg (by simp [free]), if_neg (by simp [outside]), entry]

theorem entryFor_free {n : Nat} (unreserved : reservedEntry u = none) (free : freeEntry s = some n) : entryFor s u = some (n, u) := by
  unfold entryFor
  rw [unreserved, free]

theorem entryFor_reserved {n : Nat} (reserved : reservedEntry u = some n) : entryFor s u = some (n, u) := by
  unfold entryFor
  rw [reserved]

theorem enterFence_inside (k : Byte) (free : fenced s u = false) (inside : insideFenced s u = true) : enterFence u k s = (none, s) := by
  unfold enterFence
  rw [if_neg (by simp [free]), if_pos inside]

theorem enterFence_again (k : Byte) (again : fenced s u = true) : (enterFence u k s).1 = none := by
  unfold enterFence
  rw [if_pos again]

theorem entryKey_eq (s : State) (u : UnitId) : entryKey s u = (s.flt.map.find? (fun p => p.2.any (fun e => e.unit == u))).map (·.1) := by
  unfold entryKey
  congr 2
  funext p
  cases p.2 <;> rfl

/-- A unit that is not fenced has no entry to change (R381). -/
theorem modEntry_free (f : FenceEntry → FenceEntry) (free : fenced s u = false) : modEntry u f s = s := by
  have none_ : entryKey s u = none := by
    rw [fenced, fenceOf, List.find?_filterMap] at free
    rw [entryKey_eq]
    cases found : s.flt.map.find? (fun p => p.2.any (fun e => e.unit == u)) with
    | none => rfl
    | some p =>
      have holds := List.find?_some found
      rw [found] at free
      cases entry : p.2 with
      | none => simp [entry] at holds
      | some e => simp [entry] at free
  unfold modEntry
  rw [none_]

end

/-! ### Retries -/

section
variable {u : UnitId} {e : FenceEntry} {s : State} (entry : fenceOf s u = some e)
include entry

theorem fenceRetry_due (safe : s.flt.safe = false) (fencedNow : e.st = .fenced) (due : e.quietFrom + 5000000000 ≤ s.now)
    (above : 2 ≤ e.unit.type) (noStation : e.unit.type ≠ 7) (noStack : u.type ≠ 8) (outside : insideFenced s u = false) :
    fenceRetry u s = retryBegin u s := by
  unfold fenceRetry
  rw [entry]
  exact if_neg (by simp [safe, fencedNow, due, above, noStation, noStack, outside, retried])

theorem fenceRetry_early (asked : e.atOnce = false) (early : s.now < e.quietFrom + 5000000000) : fenceRetry u s = s := by
  unfold fenceRetry
  rw [entry]
  exact if_pos (by simp [asked, Nat.not_le.mpr early])

theorem retryComplete_succeeds (safe : s.flt.safe = false) (runs : e.st = .retrying) (met : retryMet s u = true) :
    retryComplete u true s = restore u s := by
  unfold retryComplete
  rw [entry]
  exact (if_neg (by simp [safe, runs])).trans ((if_pos rfl).trans (if_pos met))

theorem retryComplete_fails (safe : s.flt.safe = false) (runs : e.st = .retrying) (noSite : u.type ≠ 2) (noLink : u.type ≠ 10) :
    retryComplete u false s = (if 6 ≤ recoveryCount s u then unitMsg .recoveryLimit u (modEntry u (fun e => { e with st := .held }) s)
      else modEntry u (fun e => { e with st := .fenced, quietFrom := s.now }) s) := by
  have still : retryFailed u s = (if 6 ≤ recoveryCount s u then unitMsg .recoveryLimit u (modEntry u (fun e => { e with st := .held }) s)
      else modEntry u (fun e => { e with st := .fenced, quietFrom := s.now }) s) := by
    have stays : (if u.type = 2 ∧ (siteOf s (u.index % 16)).on = true then sitePowerDown (u.index % 16) 5 s else s) = s :=
      if_neg fun ⟨site, _⟩ => noSite site
    unfold retryFailed
    dsimp only
    rw [stays, if_neg noLink]
  unfold retryComplete
  rw [entry]
  exact (if_neg (by simp [safe, runs])).trans ((if_neg (by decide)).trans still)

theorem fenceClear_begins (idle : e.st ≠ .retrying) (again : retried e = true)
    (outside : insideFenced { s with flt := { s.flt with recoveries := tset [] s.flt.recoveries (unitWord u).toNat [] } } u = false) :
    fenceClear u s = retryBegin u { s with flt := { s.flt with recoveries := tset [] s.flt.recoveries (unitWord u).toNat [] } } := by
  unfold fenceClear
  rw [entry]
  refine if_neg ?_
  rintro (runs | never | inside)
  · exact idle runs
  · rw [again] at never
    exact absurd never (by decide)
  · exact absurd (inside.symm.trans outside) (by decide)

end

/-- Settles O34: an entry by `entryFor`, a retry by the state of its entry. -/
theorem unitsAreFencedRetriedAndRestored : Obligations.UnitsAreFencedRetriedAndRestored := by
  unfold Obligations.UnitsAreFencedRetriedAndRestored
  refine ⟨?free, ?reserved, ?inside, ?again, ?due, ?early, ?succeeds, ?fails, ?limit, ?cleared, ?noRight⟩
  case free =>
    intro u k n s free outside unreserved entry few
    rw [enterFence_new k free outside (entryFor_free unreserved entry), decide_eq_false (Nat.not_le.mpr few)]
    rfl
  case reserved =>
    intro u k n s free outside reserved many
    rw [enterFence_new k free outside (entryFor_reserved reserved), decide_eq_true many]
    rfl
  case inside => exact fun u k s free inside => enterFence_inside k free inside
  case again => exact fun u k s again => enterFence_again k again
  case due =>
    exact fun u e s safe entry fencedNow due above noStation noStack outside =>
      congrArg Host.Outcome.next (fenceRetry_due entry safe fencedNow due above noStation noStack outside)
  case early => exact fun u e s entry _ asked early => congrArg Host.Outcome.next (fenceRetry_early entry asked early)
  case succeeds => exact fun u e s safe entry runs met => congrArg Host.Outcome.next (retryComplete_succeeds entry safe runs met)
  case fails =>
    exact fun u e s safe entry runs noSite noLink few => congrArg Host.Outcome.next
      ((retryComplete_fails entry safe runs noSite noLink).trans (if_neg (Nat.not_le.mpr few)))
  case limit =>
    exact fun u e s safe entry runs noSite noLink many => congrArg Host.Outcome.next
      ((retryComplete_fails entry safe runs noSite noLink).trans (if_pos many))
  case cleared =>
    rintro u e v s p right entry idle again rfl outside
    refine congrArg Host.Outcome.next ((iWrite_installer right).trans ?_)
    rw [fenceClear_begins entry idle again outside]
    rfl
  case noRight => exact fun u s p noRight => congrArg Host.Outcome.next (iWrite_refused noRight)

/-! ### The registers of the collector -/

theorem fltOpen_iff {s : State} (opened : s.flt.safe = true ∨ 5 ≤ s.boot.phase) : fltOpen s = true := by
  rcases opened with safe | booted
  · simp [fltOpen, safe]
  · simp [fltOpen, booted]

section
variable {p : Path} {s : State} (opened : s.flt.safe = true ∨ 5 ≤ s.boot.phase)
include opened

theorem execFltAlertAck_open (right : holds s p .o = true) : execFltAlertAck p s = .next { s with
    flt := { s.flt with pending := false }
    pins := { s.pins with alertN := !(stands s .thermalWarning || false) } } :=
  congrArg Host.Outcome.next (if_pos (by simp [fltOpen_iff opened, right]))

theorem execFltOuttakeUnfreeze_open (right : holds s p .i = true) : execFltOuttakeUnfreeze p s = .next
    (audit (some p) 0x10 0x100028 1 { s with flt := { s.flt with frozen := false, copied := false } }) :=
  congrArg Host.Outcome.next (if_pos (by simp [fltOpen_iff opened, right]))

end

section
variable {n : Nat} {s : State} (safe : s.flt.safe = false) (item : n < 7)
include safe item

theorem voteScrub_scrubbed : voteScrub [(n, .scrubbed)] s = { s with flt := { s.flt with
    scrubs := sat16 s.flt.scrubs 1
    items := s.flt.items ||| BitVec.ofNat 7 (2 ^ n)
    net := s.flt.net ++ [mkMsg s .voteScrubbed 10 4 n] } } :=
  (if_neg (by simp [safe, item])).trans (raise_mild (k := .voteScrubbed) (by decide) 10 4 n _)

theorem voteScrub_lost : voteScrub [(n, .lost)] s = enterSafe (sendFault (mkMsg s .voteLost 10 4 n) s) :=
  (if_neg (by simp [safe, item])).trans (raise_fatal (k := .voteLost) rfl 10 4 n s)

end

theorem voteScrub_agree (n : Nat) (s : State) : voteScrub [(n, .agree)] s = s := ite_self _

theorem crewWatchdog_expires {c : Nat} {s : State} (safe : s.flt.safe = false) (up : crewUp s c = true) : crewWatchdog c s =
    raise .crewFault 12 c (Config.freeWord (nextFree s).1).toNat (nextFree s).2 := if_neg (by simp [safe, up])

theorem execFaultInject_maker {p : Path} {s : State} (factory : s.role.facActive = true) (right : mayWrite s p .m = true) (m : FaultMsg) :
    execFaultInject p m s = .next (audit (some p) 0x10 ((Config.freeWord (nextFree s).1).setWidth 32)
      (Config.freeWord (nextFree (nextFree s).2).1) (faultInject m (nextFree (nextFree s).2).2)) :=
  congrArg Host.Outcome.next (if_pos (by simp [factory, right]))

/-- Settles O35: each register by the right of the path, each event by what it raises. -/
theorem faultRegistersTheVotedStoreAndInjection : Obligations.FaultRegistersTheVotedStoreAndInjection := by
  unfold Obligations.FaultRegistersTheVotedStoreAndInjection
  refine ⟨?ack, ?warned, ?first, ?unfreeze, ?noRight, ?scrubbed, ?lost, ?agree, ?watchdog, ?inject, ?notFactory⟩
  case ack =>
    intro p s opened right cool
    refine (execFltAlertAck_open opened right).trans ?_
    rw [cool]
    rfl
  case warned =>
    intro p s opened right warned
    refine (execFltAlertAck_open opened right).trans ?_
    rw [warned]
    rfl
  case first => exact fun p s right => congrArg Host.Outcome.next (iWrite_installer right)
  case unfreeze => exact fun p s opened right => execFltOuttakeUnfreeze_open opened right
  case noRight =>
    intro p s noOperator noInstaller
    exact ⟨congrArg Host.Outcome.next (if_neg (by simp [noOperator])),
      congrArg Host.Outcome.next (iWrite_refused (by rw [mayWrite, noInstaller, Bool.and_false])),
      congrArg Host.Outcome.next (if_neg (by simp [noInstaller]))⟩
  case scrubbed => exact fun n s safe item => congrArg Host.Outcome.next (voteScrub_scrubbed safe item)
  case lost => exact fun n s safe item => ⟨_, congrArg Host.Outcome.next (voteScrub_lost safe item), rfl, rfl, rfl, rfl⟩
  case agree => exact fun n s => congrArg Host.Outcome.next (voteScrub_agree n s)
  case watchdog =>
    exact fun c s safe up => ⟨_, congrArg Host.Outcome.next ((crewWatchdog_expires safe up).trans (raise_mild (k := .crewFault) (by decide) _ _ _ _))⟩
  case inject => exact fun p m s factory right => ⟨_, _, _, execFaultInject_maker factory right m, rfl⟩
  case notFactory => exact fun p m s ordinary => congrArg Host.Outcome.next (if_neg (by simp [ordinary]))

/-! ### The collector -/

/-- A message as the collector records it: the first one that is no mere correction is marked (R376). -/
def asRecorded (m : FaultMsg) (s : State) : FaultMsg := { m with first := decide (1 ≤ m.sev.toNat) && s.flt.first.isNone }

/-- The records of the collector after a message (R376, R377). -/
def recordedFlt (m : FaultMsg) (s : State) : Flt := { s.flt with
  counts := tupd 0 s.flt.counts m.kind.toNat (fun c => sat32 c 1)
  first := if decide (1 ≤ m.sev.toNat) && s.flt.first.isNone then some (asRecorded m s) else s.flt.first
  ring := if s.flt.frozen then s.flt.ring else tset none s.flt.ring s.flt.head (some (asRecorded m s))
  head := if s.flt.frozen then s.flt.head else (s.flt.head + 1) % 32
  frozen := s.flt.frozen || m.sev == 3
  pending := s.flt.pending || decide (1 ≤ m.sev.toNat) }

theorem record_eq (m : FaultMsg) (s : State) : record m s = { s with
    flt := recordedFlt m s
    pins := { s.pins with alertN := !(stands s .thermalWarning || (recordedFlt m s).pending) }
    pair := (record m s).pair } := by
  unfold record
  dsimp only
  split
  · rfl
  · exact mirrorLog_pair_only _ _ _

theorem record_flt (m : FaultMsg) (s : State) : (record m s).flt = recordedFlt m s := by rw [record_eq]

theorem noteTriggers_flt (m : FaultMsg) (s : State) : (noteTriggers m s).flt.map = s.flt.map ∧ (noteTriggers m s).flt.safe = s.flt.safe
    ∧ (noteTriggers m s).flt.first = s.flt.first := ⟨rfl, rfl, rfl⟩

theorem collect_fatal {m : FaultMsg} (fatal : m.sev = 3) (s : State) : collect true m s = enterSafe (record m s) := if_pos (by simp [fatal])

theorem collect_inSafe {m : FaultMsg} {s : State} (notFatal : m.sev ≠ 3) (safe : s.flt.safe = true) : collect true m s = record m s :=
  (if_neg (by rw [beq_false_of_ne notFatal, Bool.and_false]; decide)).trans (if_pos ((congrArg Flt.safe (record_flt m s)).trans safe))

section
variable {m : FaultMsg} {s : State} (safe : s.flt.safe = false)
include safe

theorem collect_corrected (corrected : m.sev = 0) : collect true m s = noteTriggers m (record m s) := by
  have stillOut : (record m s).flt.safe = false := (congrArg Flt.safe (record_flt m s)).trans safe
  have notFatal : ¬ ((true || m.injected) && m.sev == 3) = true := by simp [corrected]
  unfold collect
  dsimp only
  rw [if_neg notFatal, if_neg (by simp [stillOut]), if_pos corrected]
  have nothing : fencesOf (noteTriggers m (record m s)) m = [] := if_pos corrected
  rw [if_pos (by simp), nothing]
  rfl

theorem collect_millstone (degraded : m.sev = 2) (kind : m.kind = 0x61) (block : m.block = 4)
    (free : fenced s (uMill m.inst.toNat) = false) :
    collect true m s = fenceUnit (uMill m.inst.toNat) 0x61 false (noteTriggers m (record m s)) := by
  have stillOut : (record m s).flt.safe = false := (congrArg Flt.safe (record_flt m s)).trans safe
  have fences : ∀ t, fencesOf t m = [(uMill m.inst.toNat, false)] := by
    intro t
    unfold fencesOf
    rw [degraded, kind]
    rfl
  have names : namesOf m = [uMill m.inst.toNat] := by
    unfold namesOf
    rw [block]
    rfl
  have stillFree : fenced (noteTriggers m (record m s)) (uMill m.inst.toNat) = false := by
    refine Eq.trans ?_ free
    unfold fenced fenceOf
    rw [(noteTriggers_flt m _).1, record_flt]
    rfl
  unfold collect
  dsimp only
  rw [if_neg (by simp [degraded]), if_neg (by simp [stillOut]), if_neg (by simp [degraded]), if_pos (by simp), names, fences,
    List.foldl_cons, List.foldl_nil, List.foldl_cons, List.foldl_nil, modEntry_free _ stillFree, kind]

end

/-- Settles O33: what the collector records by `recordedFlt`, what it fences by the kind of the message. -/
theorem theCollectorRecordsFencesAndEntersSafeState : Obligations.TheCollectorRecordsFencesAndEntersSafeState := by
  unfold Obligations.TheCollectorRecordsFencesAndEntersSafeState
  refine ⟨fun m s => rfl, ?oldest, ?empty, ?kept, ?frozen, ?first, ?mild, ?fatal, ?safe, ?corrected, ?millstone⟩
  case oldest =>
    intro m ms s net
    refine congrArg Host.Outcome.next ?_
    unfold faultMessage
    rw [net]
    rfl
  case empty =>
    intro s net
    refine congrArg Host.Outcome.next ?_
    unfold faultMessage
    rw [net]
  case kept =>
    intro m s degraded running
    have sev : decide (1 ≤ m.sev.toNat) = true := decide_eq_true degraded
    refine ⟨_, rfl, ?_⟩
    rw [record_eq]
    dsimp only [recordedFlt, asRecorded]
    rw [sev, running]
    refine ⟨rfl, Bool.or_true _, rfl, Bool.false_or _, ?_, tget_tset_self _ _ (Option.some_ne_none _), ?_, rfl⟩
    · rw [Bool.or_true, Bool.or_true]
      rfl
    · cases s.flt.first <;> rfl
  case frozen =>
    intro m s frozen
    rw [record_flt]
    dsimp only [recordedFlt]
    rw [frozen]
    exact ⟨rfl, rfl, rfl, rfl⟩
  case first =>
    intro m s taken
    rw [record_flt]
    refine if_neg ?_
    simp [Option.isNone_eq_false_iff.mpr taken]
  case mild =>
    intro m s corrected
    rw [record_flt]
    dsimp only [recordedFlt]
    rw [corrected]
    exact ⟨rfl, Bool.or_false _, rfl⟩
  case fatal =>
    intro m s fatal
    refine ⟨_, congrArg Host.Outcome.next (collect_fatal fatal s), rfl, rfl, ?_, rfl, rfl, rfl, ?_⟩
    · show (record m s).flt.frozen = true
      rw [record_flt]
      dsimp only [recordedFlt]
      rw [fatal]
      exact Bool.or_true _
    · show (record m s).flt.map = _
      rw [record_flt]
      rfl
  case safe => exact fun m s notFatal safe => congrArg Host.Outcome.next (collect_inSafe notFatal safe)
  case corrected =>
    intro m s corrected safe
    refine ⟨_, congrArg Host.Outcome.next (collect_corrected safe corrected),
      (congrArg Flt.map (record_flt m s)).trans rfl, (congrArg Flt.safe (record_flt m s)).trans safe, (congrArg Flt.first (record_flt m s)).trans ?_⟩
    dsimp only [recordedFlt]
    rw [corrected]
    rfl
  case millstone =>
    exact fun m s degraded kind block safe free =>
      ⟨_, congrArg Host.Outcome.next (collect_millstone safe degraded kind block free), rfl⟩

end Sys2Proof.Machine
end

section
/-! SUPPORT. The pair: its heartbeats and their silence (R390, R393, R394, R398, R401), and the claim with its notices (R394 to R400). -/

namespace Sys2Proof.Machine

open Sys2Proof

/-! ### Heartbeats -/

theorem countMisses_eq (s : State) : ∃ n, countMisses s = { s with pair := { s.pair with hbMiss := n } } := by
  unfold countMisses
  dsimp only
  split
  · exact ⟨s.pair.hbMiss, rfl⟩
  · exact ⟨_, rfl⟩

theorem mirRoom_free {s : State} {l : Nat} (up : (podLink s l).st = 2) (credits : tget 0 (podLink s l).ourUsed 6 < 64) :
    mirRoom s l 1 = true := by simp [mirRoom, up, Nat.succ_le_of_lt credits]

/-- The words of a stand-in's heartbeat (R392). -/
def standInBeat (c : PairCfg) (s : State) : List Nat :=
  [s.ident.node.toNat, 2 + 4 * b2n c.forerunner, s.pair.epoch.toNat, s.pair.confirmed, 0, (pairConfig s).toNat]

theorem beat_standIn {c : PairCfg} {s : State} {l : Nat} (pair : s.pair.cfg = some c) (standIn : s.pair.role = .standIn)
    (room : mirRoom s l 1 = true) : beat l s = mirSend l 1 "MIR_HEARTBEAT" (standInBeat c s) s := by
  have role : beatRole s = 2 := by
    unfold beatRole
    rw [standIn]
  unfold beat standInBeat
  rw [if_neg (by simp [room]), pair, role]
  rfl

theorem mirSend_eq (l n : Nat) (name : String) (vals : List Nat) (s : State) : ∃ pod,
    mirSend l n name vals s = { s with pod := pod, out := .podCmd l name vals :: s.out } := ⟨_, rfl⟩

theorem pump_notLead {ls : List Nat} {s : State} (notLead : (s.pair.role != .lead) = true) (fuel : Nat) : pump ls (fuel + 1) s = s := by
  unfold pump
  exact if_pos notLead

/-- A heartbeat on one link leaves the credits of another that is up. -/
theorem mirRoom_mirSend_other {l k : Nat} {s : State} (n : Nat) (name : String) (vals : List Nat) (up : (podLink s k).st = 2) (other : k ≠ l) :
    mirRoom (mirSend l n name vals s) k 1 = mirRoom s k 1 := by
  have same : podLink (mirSend l n name vals s) k = podLink s k :=
    podLink_modPodLink_other (l := l) _ (by rw [up]; decide) other
  unfold mirRoom
  rw [same]

/-- A stand-in's heartbeats are due and its missed ones counted (R393). -/
def beatDue (misses : Word32) (s : State) : State :=
  { s with pair := { s.pair with nextBeat := s.now + 1000, releasedSent := [], hbMiss := misses } }

theorem heartbeatSend_standIn {c : PairCfg} {s : State} (pair : s.pair.cfg = some c) (safe : s.flt.safe = false) (due : s.pair.nextBeat ≤ s.now)
    (booted : 10 ≤ s.boot.phase) (standIn : s.pair.role = .standIn) (roomA : mirRoom s c.linkA 1 = true) (roomB : mirRoom s c.linkB 1 = true)
    (upB : (podLink s c.linkB).st = 2) (apart : c.linkA ≠ c.linkB) : ∃ misses,
    heartbeatSend s = mirSend c.linkB 1 "MIR_HEARTBEAT" (standInBeat c s) (mirSend c.linkA 1 "MIR_HEARTBEAT" (standInBeat c s)
      (beatDue misses s)) := by
  have role : beatRole s = 2 := by
    unfold beatRole
    rw [standIn]
  obtain ⟨misses, missed⟩ : ∃ misses, countMisses { s with pair := { s.pair with nextBeat := s.now + 1000, releasedSent := [] } }
      = beatDue misses s := countMisses_eq _
  refine ⟨misses, ?_⟩
  unfold heartbeatSend
  rw [pair]
  refine (if_neg (by simp [safe, due, booted])).trans ?_
  rw [role]
  show pump [c.linkA, c.linkB] 64 (beat c.linkB (beat c.linkA
    (countMisses { s with pair := { s.pair with nextBeat := s.now + 1000, releasedSent := [] } }))) = _
  rw [missed, beat_standIn (s := beatDue misses s) pair standIn roomA,
    beat_standIn (s := mirSend c.linkA 1 "MIR_HEARTBEAT" (standInBeat c (beatDue misses s)) (beatDue misses s)) pair standIn]
  · exact pump_notLead (by show (s.pair.role != .lead) = true; rw [standIn]; rfl) 63
  · exact (mirRoom_mirSend_other 1 "MIR_HEARTBEAT" (standInBeat c s) upB apart.symm).trans roomB

/-- A heartbeat from the partner marks its link (R393). -/
def beatHeard (l : Nat) (c : PairCfg) (s : State) : State := { s with pair := { s.pair with
  mismatch := false
  silentAt := none
  linkUp := if l = c.linkA then (true, s.pair.linkUp.2) else (s.pair.linkUp.1, true)
  lastHb := if l = c.linkA then (s.now, s.pair.lastHb.2) else (s.pair.lastHb.1, s.now) } }

section
variable {l : Nat} {c : PairCfg} {hb : HeartbeatMsg} {s : State} (pair : s.pair.cfg = some c) (safe : s.flt.safe = false)
  (link : l = c.linkA ∨ l = c.linkB) (partner : hb.node = c.partner) (booted : 10 ≤ s.boot.phase)
include pair safe link partner booted

theorem mirHeartbeat_agrees (config : hb.config = pairConfig s) (mode : hb.forerunner = c.forerunner) :
    mirHeartbeat l hb s = beatEffect c hb (beatHeard l c s) := by
  unfold mirHeartbeat
  rw [pair]
  exact (if_neg (by simpa [safe, partner, booted] using link.resolve_left)).trans (if_neg (by simp [config, mode]))

theorem mirHeartbeat_differs (config : hb.config ≠ pairConfig s) (first : s.pair.mismatch = false) : mirHeartbeat l hb s = { s with
    pair := { s.pair with mismatch := true, role := .none }
    flt := { s.flt with net := s.flt.net ++ [mkMsg s .pairConfigMismatch 11 0 (pairAddr s)] } } := by
  unfold mirHeartbeat
  rw [pair]
  refine (if_neg (by simpa [safe, partner, booted] using link.resolve_left)).trans ((if_pos ?_).trans ((if_neg (by simp [first])).trans ?_))
  · rw [bne_iff_ne.mpr config]
    rfl
  · exact raise_mild (k := .pairConfigMismatch) (by decide) 11 0 _ _

end

/-! ### Silence -/

section
variable {c : PairCfg} {s : State} (pair : s.pair.cfg = some c) (safe : s.flt.safe = false)
include pair safe

theorem linkSilence_first (up : s.pair.linkUp.1 = true) (silent : s.pair.lastHb.1 + 8000 ≤ s.now) : linkSilence c.linkA s = { s with
    pair := { s.pair with linkUp := (false, s.pair.linkUp.2) }
    flt := { s.flt with net := s.flt.net ++ [mkMsg s .pairLinkDown 11 0 (pairAddr s)] } } := by
  unfold linkSilence
  rw [pair]
  refine (if_neg (by simp [safe])).trans ((if_pos ⟨rfl, up, silent⟩).trans ?_)
  exact raise_mild (k := .pairLinkDown) (by decide) 11 0 _ _

theorem linkSilence_second (apart : c.linkA ≠ c.linkB) (up : s.pair.linkUp.2 = true) (silent : s.pair.lastHb.2 + 8000 ≤ s.now) :
    linkSilence c.linkB s = { s with
      pair := { s.pair with linkUp := (s.pair.linkUp.1, false) }
      flt := { s.flt with net := s.flt.net ++ [mkMsg s .pairLinkDown 11 0 (pairAddr s)] } } := by
  unfold linkSilence
  rw [pair]
  refine (if_neg (by simp [safe])).trans ((if_neg fun ⟨same, _⟩ => apart same.symm).trans ((if_pos ⟨rfl, up, silent⟩).trans ?_))
  exact raise_mild (k := .pairLinkDown) (by decide) 11 0 _ _

end

/-- Silence on both links is noticed (R393). -/
def silenceNoticed (s : State) : State := { s with
  pair := { s.pair with silentAt := some s.now }
  flt := { s.flt with net := s.flt.net ++ [mkMsg s .pairHeartbeatLost 11 0 (pairAddr s)] } }

/-- Both links have carried no heartbeat for 8 µs, which is not noticed yet, and the module has a role (R393). -/
def SilenceDue (s : State) : Prop := s.flt.safe = false ∧ (s.pair.role == .none) = false ∧ (s.pair.role == .yielded) = false
  ∧ s.pair.silentAt = none ∧ s.pair.lastHb.1 + 8000 ≤ s.now ∧ s.pair.lastHb.2 + 8000 ≤ s.now

/-- What the silence makes of each role (R394, R398, R401). -/
def silenceAnswered (s : State) : State :=
  match s.pair.role with
  | .standIn => claimSet s
  | .resync => modPair (fun p => { p with role := .none, resyncLines := 0, log := [], early := [], copies := [] }) (clearSet s)
  | .lead => modPair (fun p => { p with resyncing := false, resyncLines := 0, outbox := [] }) s
  | _ => s

theorem silenceAnswered_lead {s : State} (lead : s.pair.role = .lead) :
    silenceAnswered s = { s with pair := { s.pair with resyncing := false, resyncLines := 0, outbox := [] } } := by
  unfold silenceAnswered
  rw [lead]
  rfl

theorem silenceAnswered_standIn {s : State} (standIn : s.pair.role = .standIn) : silenceAnswered s = claimSet s := by
  unfold silenceAnswered
  rw [standIn]

theorem silenceAnswered_resync {s : State} (resync : s.pair.role = .resync) : silenceAnswered s =
    modPair (fun p => { p with role := .none, resyncLines := 0, log := [], early := [], copies := [] }) (clearSet s) := by
  unfold silenceAnswered
  rw [resync]

theorem pairSilence_due {s : State} (due : SilenceDue s) : pairSilence s = silenceAnswered (silenceNoticed s) := by
  obtain ⟨safe, some_, serving, unnoticed, silentA, silentB⟩ := due
  have told : pairFault .pairHeartbeatLost (modPair (fun p => { p with silentAt := some s.now }) s) = silenceNoticed s :=
    raise_mild (k := .pairHeartbeatLost) (by decide) 11 0 _ _
  unfold pairSilence
  refine (if_neg (by simp only [safe, some_, serving, unnoticed]; simp [silentA, silentB])).trans ?_
  rw [told]
  rfl

theorem soloTimeout_due {a : Tick} {s : State} (since : s.pair.silentAt = some a) (safe : s.flt.safe = false) (lead : s.pair.role = .lead)
    (due : a + 20000 ≤ s.now) : soloTimeout s =
      (let u := confirmTo s.pair.mseq (standBegin .pairSolo 11 0 (pairAddr s) s)
       retryWaiting { u with pair := { u.pair with role := .leadSolo, soloFrom := u.now } }) := by
  unfold soloTimeout
  rw [since]
  refine (if_neg (by simp [safe, lead, due])).trans ?_
  dsimp only
  rw [(standBegin_keep _ _ _ _ _).pair rfl]
  rfl

/-- Settles O36: heartbeats by the role and what they carry, silence by the role that notices it (`pairSilence_due`). -/
theorem thePairBeatsAndNoticesSilence : Obligations.ThePairBeatsAndNoticesSilence := by
  unfold Obligations.ThePairBeatsAndNoticesSilence
  refine ⟨?sent, ?early, ?agrees, ?differs, ?released, ?confirms, ?first, ?second, ?lead, ?standIn, ?resync, ?solo⟩
  case sent =>
    intro c s pair safe _ due booted standIn upA creditsA apart upB creditsB
    obtain ⟨misses, sent⟩ := heartbeatSend_standIn pair safe due booted standIn (mirRoom_free upA creditsA) (mirRoom_free upB creditsB) upB apart
    obtain ⟨podA, sentA⟩ := mirSend_eq c.linkA 1 "MIR_HEARTBEAT" (standInBeat c s) (beatDue misses s)
    rw [sentA] at sent
    obtain ⟨podB, sentB⟩ := mirSend_eq c.linkB 1 "MIR_HEARTBEAT" (standInBeat c s)
      { beatDue misses s with pod := podA, out := .podCmd c.linkA "MIR_HEARTBEAT" (standInBeat c s) :: (beatDue misses s).out }
    rw [sentB] at sent
    exact ⟨_, congrArg Host.Outcome.next sent, rfl, rfl, rfl⟩
  case early =>
    intro s early
    refine congrArg Host.Outcome.next ?_
    unfold heartbeatSend
    split
    · rfl
    · exact if_pos (by simp [early])
  case agrees =>
    exact fun l c hb s pair safe link partner booted config mode =>
      congrArg Host.Outcome.next (mirHeartbeat_agrees pair safe link partner booted config mode)
  case differs =>
    exact fun l c hb s pair safe link partner booted config first =>
      congrArg Host.Outcome.next (mirHeartbeat_differs pair safe link partner booted config first)
  case released =>
    intro c hb s standIn one
    unfold beatEffect
    rw [standIn, one]
    rfl
  case confirms =>
    intro c hb s lead two
    unfold beatEffect
    rw [lead, two]
    rfl
  case first => exact fun c s pair safe up silent => congrArg Host.Outcome.next (linkSilence_first pair safe up silent)
  case second => exact fun c s pair safe apart up silent => congrArg Host.Outcome.next (linkSilence_second pair safe apart up silent)
  case lead =>
    exact fun s safe lead unnoticed silentA silentB => congrArg Host.Outcome.next
      ((pairSilence_due ⟨safe, by rw [lead]; rfl, by rw [lead]; rfl, unnoticed, silentA, silentB⟩).trans
        (silenceAnswered_lead (s := silenceNoticed s) lead))
  case standIn =>
    exact fun s safe standIn unnoticed silentA silentB => congrArg Host.Outcome.next
      ((pairSilence_due ⟨safe, by rw [standIn]; rfl, by rw [standIn]; rfl, unnoticed, silentA, silentB⟩).trans
        (silenceAnswered_standIn (s := silenceNoticed s) standIn))
  case resync =>
    exact fun s safe resync unnoticed silentA silentB => ⟨_, congrArg Host.Outcome.next
      ((pairSilence_due ⟨safe, by rw [resync]; rfl, by rw [resync]; rfl, unnoticed, silentA, silentB⟩).trans
        (silenceAnswered_resync (s := silenceNoticed s) resync)), rfl, rfl, rfl, rfl⟩
  case solo =>
    rintro a u s since safe lead due rfl
    exact congrArg Host.Outcome.next (soloTimeout_due since safe lead due)

/-! ### Claims -/

theorem againAll_noSlots {m : ClaimMsg} {p : MemOp → Bool} {s : State} (idle : s.mem.slots = []) : againAll m p s = s := by
  unfold againAll
  rw [idle]
  rfl

theorem newer_asymm {a b : Byte} (ab : newer a b = true) : newer b a = false := by
  simp only [newer, decide_eq_true_eq, decide_eq_false_iff_not, BitVec.toNat_sub] at ab ⊢
  omega

theorem claimTable_new {m : ClaimMsg} {k : Nat} {s : State} (unknown : claimEntry s m.claimed = none) (free : freeClaim s = some k)
    (another : m.newNode ≠ m.claimed) (idle : s.mem.slots = []) : claimTable m s = setClaim k
      (some { msg := m, holdUntil := s.now + (lastAtomic m.time.toNat - s.tc.timecode.toNat), held := [] }) s := by
  unfold claimTable
  rw [unknown]
  refine (if_neg (by simp)).trans ((if_neg another).trans ?_)
  dsimp only [Option.map, Option.orElse]
  rw [free]
  exact againAll_noSlots idle

theorem claimTable_old {m : ClaimMsg} {k : Nat} {e : ClaimEntry} {s : State} (known : claimEntry s m.claimed = some (k, e))
    (old : newer m.epoch e.msg.epoch = false) : claimTable m s = s := by
  unfold claimTable
  rw [known]
  exact if_pos (by simp [old])

theorem claimNotice_apart {m : ClaimMsg} {s : State} (noPair : s.pair.cfg = none) : claimNotice m s =
    (if s.flt.safe then s else if nodeKind s m.claimed = 1 ∨ m.claimed = s.ident.node then claimTable m s else s) := by
  unfold claimNotice
  rw [noPair]
  rfl

/-- The lead has yielded (R398). -/
def yieldTold (s : State) : State := { s with
  pair := { s.pair with role := .yielded, work := [], waiting := [], heldAtomics := [], resyncing := false, silentAt := none, outbox := [] }
  flt := { s.flt with net := s.flt.net ++ [mkMsg s .pairYield 11 0 (pairAddr s)] } }

theorem claimNotice_yields {m : ClaimMsg} {c : PairCfg} {s : State} (safe : s.flt.safe = false) (pair : s.pair.cfg = some c)
    (ours : m.claimed.toNat = setNode s) (serving : servesSet s = true) (another : m.newNode ≠ s.ident.node)
    (newest : newer m.epoch s.pair.epoch = true) : claimNotice m s =
      (if nodeKind s m.claimed = 1 ∨ m.claimed = s.ident.node then claimTable m (yieldTold s) else yieldTold s) := by
  have told : yieldSet (pairFault .pairYield s) = yieldTold s :=
    congrArg yieldSet (raise_mild (k := .pairYield) (by decide) 11 0 _ _)
  have yields : (s.pair.cfg.isSome && decide (m.claimed.toNat = setNode s) && servesSet s && m.newNode != s.ident.node
      && newer m.epoch s.pair.epoch) = true := by simp [pair, ours, serving, another, newest]
  unfold claimNotice
  refine (if_neg (by simp [safe])).trans ?_
  simp only [yields, if_true, told]
  rfl

section
variable {s : State} (safe : s.flt.safe = false)
include safe

theorem atomicWindowEnd_claimer {a : Tick} (since : s.pair.claimAt = some a) (claiming : s.pair.role = .claiming) (due : a + 20000 ≤ s.now)
    (noneHeld : s.pair.heldAtomics = []) (noClaims : s.pair.claims = []) :
    atomicWindowEnd s = { s with pair := { s.pair with role := .leadSolo, heldAtomics := [] } } := by
  unfold atomicWindowEnd
  refine (if_neg (by simp [safe])).trans ?_
  rw [since]
  dsimp only
  rw [if_pos (by simp [claiming, lastAtomic, due]), noneHeld, List.foldl_nil]
  exact (congrArg (List.foldl _ _) noClaims).trans rfl

theorem atomicWindowEnd_requester {k : Nat} {e : ClaimEntry} (noClaim : s.pair.claimAt = none) (one : s.pair.claims = [(k, some e)])
    (opened : e.isOpen = true) (due : e.holdUntil ≤ s.now) (noneHeld : e.held = []) (idle : s.mem.slots = []) :
    atomicWindowEnd s = { s with pair := { s.pair with claims := [(k, some { e with isOpen := false, held := [] })] } } := by
  have replaced : tset none s.pair.claims k (some { e with isOpen := false, held := [] }) = [(k, some { e with isOpen := false, held := [] })] := by
    rw [one]
    simp [tset]
  unfold atomicWindowEnd
  refine (if_neg (by simp [safe])).trans ?_
  rw [noClaim]
  dsimp only
  rw [one, List.foldl_cons, List.foldl_nil]
  dsimp only
  rw [if_pos (by simp [opened, due]), noneHeld, List.foldl_nil, againAll_noSlots (by exact idle)]
  exact congrArg (fun claims => { s with pair := { s.pair with claims := claims } }) replaced

end

theorem execClaimRecordClear_due {a : Tick} {s : State} (safe : s.flt.safe = false) (since : s.pair.claimAt = some a) (due : a + 40000 ≤ s.now) :
    execClaimRecordClear s = .next { s with pair := { s.pair with record := [] } } := by
  unfold execClaimRecordClear
  rw [since]
  exact congrArg Host.Outcome.next (if_neg (by simp [safe, due]))

theorem execClaimRecordClear_early {a : Tick} {s : State} (since : s.pair.claimAt = some a) (early : s.now < a + 40000) :
    execClaimRecordClear s = .next s := by
  unfold execClaimRecordClear
  rw [since]
  exact congrArg Host.Outcome.next (if_pos (by simp [early]))

/-- Settles O37: a claim as it is written, a notice by the claim table, the windows by their ticks. -/
theorem claimsAreMadeKnownKeptAndEnded : Obligations.ClaimsAreMadeKnownKeptAndEnded := by
  unfold Obligations.ClaimsAreMadeKnownKeptAndEnded
  refine ⟨?claims, ?enters, ?old, ?yields, fun a b => newer_asymm, ?claimer, ?requester, ?cleared, ?early, ?repeated, ?handover, ?noRight⟩
  case claims =>
    rintro c u s pair rfl
    unfold claimSet
    rw [pair]
    rfl
  case enters =>
    intro m k s safe noPair known unknown free another idle
    refine congrArg Host.Outcome.next ((claimNotice_apart noPair).trans ((if_neg (by simp [safe])).trans ((if_pos (.inl known)).trans ?_)))
    exact claimTable_new unknown free another idle
  case old =>
    intro m k e s noPair known old
    refine congrArg Host.Outcome.next ((claimNotice_apart noPair).trans ?_)
    rw [claimTable_old known old, ite_self, ite_self]
  case yields =>
    rintro m c u s safe pair ours serving another newest rfl
    exact congrArg Host.Outcome.next (claimNotice_yields safe pair ours serving another newest)
  case claimer =>
    exact fun a s safe since claiming due noneHeld noClaims =>
      congrArg Host.Outcome.next (atomicWindowEnd_claimer safe since claiming due noneHeld noClaims)
  case requester =>
    exact fun k e s safe noClaim one opened due noneHeld idle =>
      congrArg Host.Outcome.next (atomicWindowEnd_requester safe noClaim one opened due noneHeld idle)
  case cleared => exact fun a s safe since due => execClaimRecordClear_due safe since due
  case early => exact fun a s since early => execClaimRecordClear_early since early
  case repeated =>
    exact fun s safe stands serving another due =>
      congrArg Host.Outcome.next (if_neg (by simp [safe, Option.isNone_eq_false_iff.mpr stands, serving, another, due]))
  case handover =>
    intro p s right standIn
    refine congrArg Host.Outcome.next ((iWrite_installer right).trans ?_)
    exact congrArg (audit (some p) 0x10 0x110020 1) (if_pos (by rw [standIn]; rfl))
  case noRight => exact fun p s noRight => congrArg Host.Outcome.next (iWrite_refused noRight)

end Sys2Proof.Machine
end

section
/-! SUPPORT. Mirrored work at the stand-in and its confirmation at the lead (R391, R392, R397), state records, and the copying of the set
(R399, R400). -/

namespace Sys2Proof.Machine

open Sys2Proof

/-! ### Mirrored work -/

/-- What the stand-in notes of a mirrored store or atomic (R397). -/
def mirNoted : MirIn → MirRecord
  | .store x => { mseq := x.mseq, ident := x.ident, result := none }
  | .word x => { mseq := x.mseq, ident := x.ident, result := some x.result }

/-- A pair link whose credits let a confirmation leave. -/
def confirmLink (s : State) : Option Nat := (pairLinks s).find? (fun l => mirRoom s l 1)

theorem confirmLink_congr {s t : State} (pod : t.pod = s.pod) (cfg : t.pair.cfg = s.pair.cfg) : confirmLink t = confirmLink s := by
  unfold confirmLink pairLinks mirRoom podLink
  rw [pod, cfg]

theorem mirApply_pair (m : MirIn) (s : State) : (mirApply m s).pair = { s.pair with
    mseq := (mirNoted m).mseq
    confirmed := (mirNoted m).mseq
    log := s.pair.log ++ [mirNoted m] } := by
  cases m with
  | store x =>
    have same : (if inSet s x.offset then poolWrite x.offset x.mask x.data false (if x.mask = fullMask then s else poolMend x.offset .clean s)
        else s).pair = s.pair := by
      split
      · refine ((poolWrite_keep _ _ _ _ _).pair rfl).trans ?_
        split
        · rfl
        · exact (poolMend_keep _ _ _).pair rfl
      · rfl
    unfold mirApply mirNoted modPair
    dsimp only
    rw [same]
  | word x =>
    have same : (if inSet s x.offset then modMem (fun y => { y with cells := wordSet y.cells x.offset x.value })
        (poolMend (x.offset / 64 * 64) .clean s) else s).pair = s.pair := by
      split
      · exact (poolMend_keep _ _ _).pair rfl
      · rfl
    unfold mirApply mirNoted modPair
    dsimp only
    rw [same]

theorem mirApply_store {x : MirStoreMsg} {s : State} (inside : inSet s x.offset = true)
    (clean : x.mask = fullMask ∨ tget [] s.mem.symErrs (x.offset / 64) = []) :
    (mirApply (.store x) s).mem = (poolWrite x.offset x.mask x.data false s).mem := by
  have mended : (if x.mask = fullMask then s else poolMend x.offset .clean s) = s := by
    split
    next => rfl
    next partial_ => exact poolMend_clean (clean.resolve_left partial_)
  unfold mirApply
  dsimp only
  rw [if_pos inside, mended]
  rfl

theorem mirApply_word {x : MirWordMsg} {s : State} (inside : inSet s x.offset = true) (clean : tget [] s.mem.symErrs (x.offset / 64) = []) :
    mirApply (.word x) s = { s with
      mem := { s.mem with cells := wordSet s.mem.cells x.offset x.value }
      pair := { s.pair with mseq := x.mseq, confirmed := x.mseq, log := s.pair.log ++ [{ mseq := x.mseq, ident := x.ident, result := some x.result }] } } := by
  have sameLine : x.offset / 64 * 64 / 64 = x.offset / 64 := Nat.mul_div_cancel _ (by decide)
  unfold mirApply
  dsimp only
  rw [if_pos inside, poolMend_clean (by rw [sameLine]; exact clean)]
  rfl

/-- The work that has come early. -/
def withEarly (ms : List MirIn) (s : State) : State := { s with pair := { s.pair with early := ms } }

theorem keptEarly {s : State} (noneEarly : s.pair.early = []) (m : MirIn) :
    modPair (fun p => { p with early := p.early ++ [m] }) s = withEarly [m] s :=
  congrArg (fun ms => withEarly ms s) (congrArg (· ++ [m]) noneEarly)

theorem mirDrain_idle {s : State} (gap : s.pair.early.find? (fun m => mseqOf m == s.pair.mseq + 1) = none) (fuel : Nat) :
    mirDrain (fuel + 1) s = s := by
  unfold mirDrain
  rw [gap]

section
variable {m : MirIn} {s : State} (safe : s.flt.safe = false) (standIn : s.pair.role = .standIn) (noneEarly : s.pair.early = [])
  (quiet : confirmLink s = none)
include safe standIn noneEarly quiet

/-- Work whose MSEQ is next is applied at once (R392). -/
theorem mirArrive_next (next : mseqOf m = s.pair.mseq + 1) :
    mirArrive m s = mirApply m (withEarly [] s) := by
  have later : s.pair.mseq < mseqOf m := by omega
  have drained : mirDrain 1 (withEarly [m] s) = mirApply m (withEarly [] s) := by
    have found : [m].find? (fun x => mseqOf x == s.pair.mseq + 1) = some m := List.find?_cons_of_pos (by simp [next])
    have taken : [m].filter (fun x => mseqOf x != mseqOf m) = [] := List.filter_cons_of_neg (by simp)
    unfold mirDrain
    rw [show (withEarly [m] s).pair.early.find? (fun x => mseqOf x == (withEarly [m] s).pair.mseq + 1) = some m from found]
    exact congrArg (fun ms => mirApply m (withEarly ms s)) taken
  have still : confirmLink (mirApply m (withEarly [] s)) = none :=
    (confirmLink_congr ((mirApply_keep _ _).pod rfl) ((congrArg PairSt.cfg (mirApply_pair _ _)).trans rfl)).trans quiet
  unfold mirArrive
  refine (if_neg (by simp [safe, standIn])).trans ?_
  dsimp only
  rw [noneEarly, if_pos ⟨later, rfl⟩, keptEarly noneEarly m]
  show (match confirmLink (mirDrain 1 _) with | some l => _ | none => _) = _
  rw [drained, still]
  exact drained

/-- Work that comes early waits (R392). -/
theorem mirArrive_early (early : s.pair.mseq + 1 < mseqOf m) : mirArrive m s = withEarly [m] s := by
  have waits : mirDrain 1 (withEarly [m] s) = (withEarly [m] s) :=
    mirDrain_idle (List.find?_cons_of_neg (by simp [withEarly, Nat.ne_of_gt early])) 0
  unfold mirArrive
  refine (if_neg (by simp [safe, standIn])).trans ?_
  dsimp only
  rw [noneEarly, if_pos ⟨by omega, rfl⟩, keptEarly noneEarly m]
  show (match confirmLink (mirDrain 1 _) with | some l => _ | none => _) = _
  rw [waits, confirmLink_congr (s := s) (t := (withEarly [m] s)) rfl rfl, quiet]
  exact waits

end

theorem mirArrive_lead {m : MirIn} {s : State} (lead : s.pair.role = .lead) : mirArrive m s = s :=
  if_pos (by rw [lead]; exact Bool.or_true _)

/-! ### Confirmation -/

/-- The lead knows all up to an MSEQ as confirmed (R392). -/
def confirmed (n : Nat) (s : State) : State := { s with pair := { s.pair with
  work := s.pair.work.filter (fun w => decide (n < w.mseq))
  confirmed := n
  released := n } }

theorem mirConfirm_more {n : Nat} {s : State} (safe : s.flt.safe = false) (lead : s.pair.role = .lead) (more : s.pair.confirmed < n)
    (sent : n ≤ s.pair.mseq) : mirConfirm n s =
      retryWaiting ((s.pair.work.filter (fun w => decide (w.mseq ≤ n))).foldl (fun s w => match w.rsp with
        | some a => respond (serveStation s w.req) w.req a s
        | none => s) (confirmed n s)) := by
  refine (if_neg (by simp [safe, lead])).trans ((if_neg (Nat.not_le.mpr more)).trans ?_)
  rw [Nat.min_eq_left sent]
  rfl

theorem mirConfirm_old {n : Nat} {s : State} (old : n ≤ s.pair.confirmed) : mirConfirm n s = s := by
  unfold mirConfirm confirmTo
  rw [if_pos old, ite_self]

/-! ### State records and the copying of the set -/

theorem mirState_placed {c : PairCfg} {r : MirStateRec} {s : State} (pair : s.pair.cfg = some c) (safe : s.flt.safe = false)
    (partner : s.pair.role = .standIn ∨ s.pair.role = .resync) : mirState r s =
      (let o := 64 * ((c.stateBase.toNat + (placeRecord s.pair.copies r).1) % 2 ^ 21)
       let t := { s with pair := { s.pair with copies := (placeRecord s.pair.copies r).2 } }
       if bankFenced t (o / 0x400000) then t else millWrite o fullMask (recordLine r) false t) := by
  unfold mirState
  rw [pair]
  refine (if_neg ?_).trans rfl
  rcases partner with standIn | resync
  · simp [safe, standIn]
  · simp [safe, resync]

theorem mirResync_next {off : Nat} {a b c : Line} {s : State} (safe : s.flt.safe = false) (resync : s.pair.role = .resync)
    (inside : inSet s off = true) (next : setPos s off = s.pair.resyncLines) (within : s.pair.resyncLines % 2 ^ 24 ≤ 2 ^ 24 - 3) :
    mirResync off [a, b, c] s = modPair (fun p => { p with resyncLines := p.resyncLines + 3 })
      (poolWrite (off + 128) fullMask c false (poolWrite (off + 64) fullMask b false (poolWrite off fullMask a false s))) := by
  have three : min 3 (2 ^ 24 - setPos s off % 2 ^ 24) = 3 := by
    rw [next]
    exact Nat.min_eq_left (by omega)
  refine (if_neg (by simp [safe, resync, inside, next])).trans ?_
  dsimp only
  rw [three]
  rfl

section
variable {c : PairCfg} {s : State} (pair : s.pair.cfg = some c) (safe : s.flt.safe = false) (whole : setLines s ≤ s.pair.resyncLines)
include pair safe whole

theorem resyncComplete_partner (resync : s.pair.role = .resync) (native : c.forerunner = false) :
    resyncComplete s = { s with pair := { s.pair with role := .standIn } } := by
  unfold resyncComplete
  rw [pair]
  refine (if_neg (by simp [safe, whole])).trans ?_
  rw [resync]
  exact if_neg (by simp [native])

theorem resyncComplete_lead (lead : s.pair.role = .lead) (copying : s.pair.resyncing = true) (empty : s.pair.outbox = [])
    (mirroring : standAddr s .pairSolo 0 = none) : resyncComplete s = { s with
      pair := { s.pair with resyncing := false }
      flt := { s.flt with net := s.flt.net ++ [mkMsg s .pairResyncDone 11 0 (pairAddr s)] } } := by
  unfold resyncComplete
  rw [pair]
  refine (if_neg (by simp [safe, whole])).trans ?_
  rw [lead]
  refine (if_pos (by simp [copying, empty])).trans ?_
  rw [standEnd_none (s := modPair (fun p => { p with resyncing := false }) s) mirroring]
  exact raise_mild (k := .pairResyncDone) (by decide) 11 0 _ _

end

/-- Settles O38: work by its MSEQ (`mirArrive_next`, `mirArrive_early`), confirmations by what they cover, the copy by its pointer. -/
theorem theSetIsMirroredAndResynchronised : Obligations.TheSetIsMirroredAndResynchronised := by
  unfold Obligations.TheSetIsMirroredAndResynchronised
  refine ⟨?store, ?early, ?word, ?atLead, ?confirm, ?old, ?answered, ?record, ?resync, ?outOfPlace, ?partner, ?lead⟩
  case store =>
    intro m s safe standIn next noneEarly inside clean quiet
    have goes := mirArrive_next (m := .store m) safe standIn noneEarly quiet next
    have pair := mirApply_pair (.store m) (withEarly [] s)
    refine ⟨_, congrArg Host.Outcome.next goes, ?_, congrArg PairSt.mseq pair, congrArg PairSt.confirmed pair, congrArg PairSt.log pair,
      congrArg PairSt.early pair⟩
    refine (mirApply_store (s := (withEarly [] s)) inside clean).trans ?_
    unfold poolWrite
    split <;> rfl
  case early =>
    exact fun m s safe standIn early noneEarly quiet =>
      congrArg Host.Outcome.next (mirArrive_early (m := .store m) safe standIn noneEarly quiet early)
  case word =>
    exact fun m s safe standIn next noneEarly inside clean quiet => congrArg Host.Outcome.next
      ((mirArrive_next (m := .word m) safe standIn noneEarly quiet next).trans
        (mirApply_word (s := (withEarly [] s)) inside clean))
  case atLead => exact fun m s lead => congrArg Host.Outcome.next (mirArrive_lead lead)
  case confirm =>
    intro n s safe lead more sent noWork noWaiting
    refine congrArg Host.Outcome.next ((mirConfirm_more safe lead more sent).trans ?_)
    have work : s.pair.work.filter (fun w => decide (n < w.mseq)) = s.pair.work := by rw [noWork]; rfl
    have done : s.pair.work.filter (fun w => decide (w.mseq ≤ n)) = [] := by rw [noWork]; rfl
    rw [done, List.foldl_nil]
    unfold retryWaiting
    rw [show (confirmed n s).pair.waiting = [] from noWaiting, List.foldl_nil]
    exact congr (congrArg (fun work waiting => { s with pair := { s.pair with work := work, waiting := waiting, confirmed := n, released := n } })
      work) noWaiting.symm
  case old => exact fun n s old => congrArg Host.Outcome.next (mirConfirm_old old)
  case answered =>
    intro w a s safe lead more one sent rsp
    refine congrArg Host.Outcome.next ((mirConfirm_more safe lead more (Nat.le_refl _)).trans ?_)
    have done : s.pair.work.filter (fun w => decide (w.mseq ≤ s.pair.mseq)) = [w] := by
      rw [one, List.filter_cons_of_pos (by simp [sent])]
      rfl
    have left : confirmed s.pair.mseq s = { s with pair := { s.pair with
        work := [], confirmed := s.pair.mseq, released := s.pair.mseq } } := by
      unfold confirmed
      rw [one, List.filter_cons_of_neg (by simp [sent])]
      rfl
    rw [done, left, List.foldl_cons, List.foldl_nil, rsp]
  case record =>
    intro c r s pair safe partner
    refine ⟨_, congrArg Host.Outcome.next (mirState_placed pair safe partner), ?_, fun free => ?_, fun fenced => ?_⟩
    · dsimp only
      split
      · rfl
      · exact (millWrite_keep _ _ _ _ _).pair rfl
    · exact if_neg (fun fenced => absurd (fenced.symm.trans free) (by decide))
    · exact if_pos fenced
  case resync =>
    intro off a b c s safe resync inside next within
    refine ⟨_, congrArg Host.Outcome.next (mirResync_next safe resync inside next within), ?_, rfl⟩
    show (poolWrite _ _ _ _ _).pair.resyncLines + 3 = _
    rw [(poolWrite_keep _ _ _ _ _).pair rfl, (poolWrite_keep _ _ _ _ _).pair rfl, (poolWrite_keep _ _ _ _ _).pair rfl]
  case outOfPlace =>
    exact fun off a b c s other => congrArg Host.Outcome.next (if_pos (by simp [other]))
  case partner =>
    exact fun c s pair safe whole resync native => congrArg Host.Outcome.next (resyncComplete_partner pair safe whole resync native)
  case lead =>
    exact fun c s pair safe whole lead copying empty mirroring =>
      congrArg Host.Outcome.next (resyncComplete_lead pair safe whole lead copying empty mirroring)

end Sys2Proof.Machine
end

section
/-! SUPPORT. Power-up, reset and restart (R376, R412, R416, R417, R422, R456, R475, R477, R480), and the dark state with its wake (R415). -/

namespace Sys2Proof.Machine

open Sys2Proof

/-! ### Power-up and reset -/

theorem powerUp_first {s : State} (off : s.boot.phase = 0) (ms : Nat) (ok : Bool) : powerUp ms ok s = { s with
    pins := { s.pins with porN := true, pwrgd := true, coolantOk := ok, faultN := false, xspiDriven := true }
    mpd := { s.mpd with clearing := ok }
    boot := { s.boot with
      phaseMs := tset 0 s.boot.phaseMs 1 ms
      kind := 0
      phase := if ok then 2 else 1
      ready := false
      phaseStart := s.now } } := by
  refine (if_neg fun on => on off).trans ?_
  cases ok <;> rfl

theorem powerUp_again {s : State} (on : s.boot.phase ≠ 0) (ms : Nat) (ok : Bool) : powerUp ms ok s = s := if_pos on

/-- Where no warm image is being saved the flash keeps every byte (R338). -/
theorem keptFlash_idle {s : State} (idle : s.foc.saving = false) : keptFlash s = s.boot.flash := if_pos (by rw [idle]; rfl)

/-- A reset by a pin leaves the trip's record, but that POR_N's release clears one that is held (R346, R477). -/
def resetThm (t : Thm) : Thm :=
  if t.tripLocked then { keptThm t with trips := [], tripLocked := false, tripped := false, again := false, coolStop := false }
  else { keptThm t with coolStop := false }

theorem resetAssert_thm (por : Bool) (s : State) : (resetAssert por s).thm = resetThm s.thm := rfl

theorem resetThm_unlocked (t : Thm) : (resetThm t).tripLocked = false := by
  unfold resetThm
  split
  next => rfl
  next free => exact (Bool.not_eq_true _).mp free

theorem resetThm_locked {t : Thm} (held : t.tripLocked = true) :
    (resetThm t).trips = [] ∧ (resetThm t).tripped = false := by
  unfold resetThm
  rw [if_pos held]
  exact ⟨rfl, rfl⟩

theorem execResetAssert_pin {pin : Nat} (isPin : pin < 2) (s : State) : execResetAssert pin s = .next (resetAssert (pin == 0) s) := by
  match pin, isPin with
  | 0, _ => rfl
  | 1, _ => rfl

theorem vddIoRemoved_clears (s : State) : (vddIoRemoved s).flt = {} ∧ (vddIoRemoved s).thm = {} ∧ (vddIoRemoved s).boot.phase = 0
    ∧ (vddIoRemoved s).boot.rollback = s.boot.rollback ∧ (vddIoRemoved s).role.enrolled = s.role.enrolled
    ∧ (vddIoRemoved s).mem.cells = s.mem.cells := ⟨rfl, rfl, rfl, rfl, rfl, rfl⟩

/-! ### Restart, dark and wake by a path -/

section
variable {p : Path} {s : State}

theorem execRestart_right (right : mayWrite s p .i = true) (idle : runningJobs s = []) :
    execRestart p s = .next (restartBase 1 (bootControl p 1 1 s)) := congrArg Host.Outcome.next (if_pos (by simp [right, idle]))

theorem execDark_right (right : mayWrite s p .i = true) (idle : runningJobs s = []) :
    execDark p s = .next (goDark (bootControl p 2 2 s)) := congrArg Host.Outcome.next (if_pos (by simp [right, idle]))

theorem bootControl_refused (refused : (mayWrite s p .i && (runningJobs s).isEmpty) = false) :
    execRestart p s = .next s ∧ execDark p s = .next s :=
  ⟨congrArg Host.Outcome.next (if_neg (by rw [refused]; decide)), congrArg Host.Outcome.next (if_neg (by rw [refused]; decide))⟩

end

/-- A restart begins phase 2 and keeps what the always-on domain, the flash and the one-time cells hold (R376, R416). -/
theorem restartBase_fields (s : State) : ∃ t, restartBase 1 s = t ∧ t.boot.phase = 2 ∧ t.boot.kind = 1 ∧ t.boot.ready = false
    ∧ t.boot.slots = s.boot.slots ∧ t.boot.rollback = s.boot.rollback ∧ t.boot.flash = keptFlash s ∧ t.role.enrolled = s.role.enrolled
    ∧ t.role.audit = s.role.audit ∧ t.role.sessions = [] ∧ t.role.jobs = [] ∧ t.flt.first = s.flt.first ∧ t.flt.map = [] ∧ t.tsi = []
    ∧ t.tc.timecode = 0 ∧ t.mem.cells = s.mem.cells ∧ t.pins.faultN = true ∧ t.now = s.now :=
  ⟨_, rfl, rfl, rfl, rfl, rfl, rfl, rfl, rfl, rfl, rfl, rfl, rfl, rfl, rfl, rfl, rfl, rfl, rfl⟩

theorem bootControl_enrolled (p : Path) (data object : Nat) (s : State) : (bootControl p data object s).role.enrolled = s.role.enrolled := by
  obtain ⟨-, -, second⟩ := audit_fields (some p) 0x12 (BitVec.ofNat 32 object) 0 (audit (some p) 0x10 0x020004#32 (BitVec.ofNat 64 data) s)
  obtain ⟨-, -, first⟩ := audit_fields (some p) 0x10 0x020004#32 (BitVec.ofNat 64 data) s
  exact second.trans first

/-! ### Going dark -/

/-- The sites, the lasers and the stacks are off (R415). -/
@[irreducible] def darkened (s : State) : State :=
  let sites := (List.range 12).foldl (fun u n => if sitePresent u.part n && (siteOf u n).st != 5 then sitePowerDown n 1 u else u) s
  let lasers := modPins (fun p => { p with lsEn := false }) sites
  (memStations lasers.part.variant).foldl (fun u m => if memFenced u m then u else modMs m (fun x => { x with st := 0 }) u) lasers

/-- The pod links are down, and no reel runs (R415). -/
@[irreducible] def linksDropped (s : State) : State :=
  (List.range 48).foldl (fun u l => if hasLink u.part.variant l then linkDrop l u else u) s
@[irreducible] def reelEnded (s : State) : State := if reelActive s || s.tc.reel == .waiting then endReel s else s

theorem goDark_eq (s : State) : goDark s = modBoot (fun b => { b with dark := true, ready := false })
    (modSlu (fun u => { u with feeds := [], lands := [], rings := [], air := [], judged := [], frameLanded := [], swap := .none })
      (modTc (fun t => { t with startWait := none, firstPass := none, passCount := 0, spliceTime := 0 })
        (reelEnded (linksDropped (darkened s))))) := by
  unfold goDark reelEnded linksDropped darkened
  dsimp only

theorem linksDropped_keep (s : State) : Keep 1049600 s (linksDropped s) := by
  unfold linksDropped
  exact Keep.foldl (fun _ _ => Keep.ite (linkDrop_keep _ _) ((Keep.refl 0 _).mono rfl)) _ ((Keep.refl 0 s).mono rfl)

theorem reelEnded_keep (s : State) : Keep 6 s (reelEnded s) := by
  unfold reelEnded
  exact Keep.ite (endReel_keep s) ((Keep.refl 0 s).mono rfl)

theorem darkened_cells (s : State) : (darkened s).mem.cells = s.mem.cells := by
  unfold darkened
  dsimp only
  rw [foldl_keeps (fun u => u.mem.cells) ?arrays, modPins_mem, foldl_keeps (fun u => u.mem.cells) ?sites]
  case arrays =>
    intro u m
    split <;> rfl
  case sites =>
    intro u n
    split <;> rfl

theorem darkened_lsEn (s : State) : (darkened s).pins.lsEn = false := by
  unfold darkened
  dsimp only
  rw [foldl_keeps (fun u => u.pins.lsEn) ?arrays]
  · rfl
  case arrays =>
    intro u m
    split <;> rfl

/-- What follows keeps the pins and memory (R415). -/
theorem goDark_follows (s : State) : (goDark s).pins = (darkened s).pins ∧ (goDark s).mem = (darkened s).mem := by
  have links := linksDropped_keep (darkened s)
  have reel := reelEnded_keep (linksDropped (darkened s))
  rw [goDark_eq]
  exact ⟨(reel.pins rfl).trans (links.pins rfl), (reel.mem rfl).trans (links.mem rfl)⟩

/-- The dark state (R415). -/
theorem goDark_fields (s : State) : (goDark s).boot.dark = true ∧ (goDark s).boot.ready = false ∧ (goDark s).pins.lsEn = false
    ∧ (goDark s).slu.swap = .none ∧ (goDark s).slu.feeds = [] ∧ (goDark s).slu.lands = [] ∧ (goDark s).slu.rings = []
    ∧ (goDark s).slu.air = [] ∧ (goDark s).tc.startWait = none ∧ (goDark s).flt = s.flt ∧ (goDark s).mem.cells = s.mem.cells := by
  obtain ⟨pins, mem⟩ := goDark_follows s
  rw [pins, mem, darkened_lsEn, darkened_cells, (goDark_keep s).flt rfl, goDark_eq]
  exact ⟨rfl, rfl, rfl, rfl, rfl, rfl, rfl, rfl, rfl, rfl, rfl⟩

/-! ### Waking -/

theorem startValues_role (x : Script) (s : State) : (startValues x s).role = { s.role with partners := partnerTab x } := by
  unfold startValues
  dsimp only
  rw [foldl_keeps (fun u => u.role) fun _ _ => modSite_role _ _ _]
  rfl

theorem startValues_gaf (x : Script) (s : State) : (startValues x s).gaf = { s.gaf with ctrl := x.gafCtrl } := by
  unfold startValues
  dsimp only
  rw [foldl_keeps (fun u => u.gaf) fun _ _ => modSite_gaf _ _ _]
  rfl

theorem wakeState_fields (s : State) : (wakeState s).boot.dark = false ∧ (wakeState s).mem.cells = s.mem.cells
    ∧ (wakeState s).flt = s.flt ∧ (wakeState s).role.enrolled = s.role.enrolled ∧ (wakeState s).gaf.energy = s.gaf.energy := by
  unfold wakeState
  dsimp only
  split
  · rw [(startValues_keep _ _).boot rfl, (startValues_keep _ _).mem rfl, (startValues_keep _ _).flt rfl, startValues_role, startValues_gaf]
    exact ⟨rfl, rfl, rfl, rfl, rfl⟩
  · exact ⟨rfl, rfl, rfl, rfl, rfl⟩

/-- Settles O39: what each of them keeps is read off the state it builds; the audit entries before a restart, dark or wake touch the
audit ring alone. -/
theorem powerUpResetRestartDarkAndWake : Obligations.PowerUpResetRestartDarkAndWake := by
  unfold Obligations.PowerUpResetRestartDarkAndWake
  refine ⟨?first, ?again, ?reset, ?released, ?kept, ?vddIo, ?restart, ?busy, ?dark, ?wake, ?woken, ?noRight, ?lit⟩
  case first => exact fun ms ok s off => congrArg Host.Outcome.next (powerUp_first off ms ok)
  case again => exact fun ms ok s on => congrArg Host.Outcome.next (powerUp_again on ms ok)
  case reset =>
    exact fun pin s isPin => ⟨_, execResetAssert_pin isPin s, rfl, rfl, rfl, rfl, fun idle => keptFlash_idle idle, rfl, rfl, rfl, rfl, rfl, rfl,
      rfl, rfl, rfl, rfl, rfl, rfl, rfl, resetThm_unlocked _, rfl, rfl, rfl, rfl, rfl, rfl⟩
  case released =>
    intro s held
    obtain ⟨noTrips, noTrip⟩ := resetThm_locked held
    exact ⟨_, execResetAssert_pin (by decide) s, if_pos held, noTrips, noTrip⟩
  case kept =>
    intro s free
    have notHeld : ¬ s.thm.tripLocked = true := by rw [free]; decide
    refine ⟨_, execResetAssert_pin (by decide) s, if_neg notHeld, ?_⟩
    rw [resetAssert_thm, resetThm, if_neg notHeld]
    rfl
  case vddIo => exact fun s => ⟨_, rfl, vddIoRemoved_clears s⟩
  case restart =>
    rintro p u s right idle rfl
    have audited := bootControl_keep p 1 1 s
    obtain ⟨t, restarted, phase, kind, ready, slots, rollback, flash, enrolled, audit, sessions, jobs, first, map, tsi, timecode, cells, faultN,
      now⟩ := restartBase_fields (bootControl p 1 1 s)
    have flashKept : s.foc.saving = false → t.boot.flash = s.boot.flash := fun idle => by
      rw [flash, keptFlash_idle (by rw [audited.foc rfl]; exact idle), audited.boot rfl]
    exact ⟨t, (execRestart_right right idle).trans (congrArg Host.Outcome.next restarted), phase, kind, ready,
      slots.trans (congrArg Boot.slots (audited.boot rfl)), rollback.trans (congrArg Boot.rollback (audited.boot rfl)), flashKept,
      enrolled.trans (bootControl_enrolled p 1 1 s), audit, sessions, jobs, first.trans (congrArg Flt.first (audited.flt rfl)), map, tsi, timecode,
      cells.trans (congrArg Mem.cells (audited.mem rfl)), faultN, now.trans (audited.now rfl)⟩
  case busy =>
    exact fun p s _ running => bootControl_refused (by rw [List.isEmpty_eq_false_iff.mpr running, Bool.and_false])
  case dark =>
    intro p s right idle
    have audited := bootControl_keep p 2 2 s
    obtain ⟨dark, ready, lsEn, swap, feeds, lands, rings, air, start, flt, cells⟩ := goDark_fields (bootControl p 2 2 s)
    exact ⟨_, execDark_right right idle, dark, ready, lsEn, swap, feeds, lands, rings, air, start,
      congrArg Flt.map (flt.trans (audited.flt rfl)), cells.trans (congrArg Mem.cells (audited.mem rfl))⟩
  case wake =>
    exact fun p s dark safe right => congrArg Host.Outcome.next (if_pos (by simp [dark, safe, right]))
  case woken => exact wakeState_fields
  case noRight => exact fun p s noRight => bootControl_refused (by rw [noRight, Bool.false_and])
  case lit => exact fun p s lit => congrArg Host.Outcome.next (if_neg (by simp [lit]))

end Sys2Proof.Machine
end

section
/-! SUPPORT. The check of a script, the flash window and the audit archive (R405, R411, R430), and jobs with the continuity of the sweep
partners (R425 to R428, R433 to R435). -/

namespace Sys2Proof.Machine

open Sys2Proof

/-! ### The script's check -/

theorem scriptCheck_idle {s : State} (p : Path) (idle : s.boot.checkSt ≠ 1) : scriptCheck p s =
    { s with boot := { s.boot with checkSt := 1, checkCopy := 1 - s.boot.copy, checkItem := 0, checkPath := some p } } := if_neg idle

theorem scriptChecked_runs {c : ScriptCopy} {x : Script} {s : State} (safe : s.flt.safe = false) (lit : s.boot.dark = false)
    (runs : s.boot.checkSt = 1) (used : s.boot.script = some x) : scriptChecked c s =
      (let n := scriptItem s (!(x.installerSigned || installerValid s c)) c
       audit s.boot.checkPath 0x11 (BitVec.ofNat 32 (copySeq c)) (if n = 0 then 1 else 0)
        { s with boot := { s.boot with checkSt := if n = 0 then 2 else 3, checkItem := n, checkPath := none } }) := by
  unfold scriptChecked
  rw [used]
  exact if_neg (by simp [safe, lit, runs])

/-! ### The flash window -/

section
variable {s : State} (busy : s.boot.flashBusy = true)
include busy

theorem flashRead_busy : flashRead s = flashRefuse s := if_pos busy

theorem flashStart_busy (op size : Nat) : flashStart op size s = flashRefuse s := if_pos (by simp [busy])

theorem flashDone_erased (erase : s.boot.flashOp = 3) : flashDone true s =
    modBoot (fun b => { b with flashBusy := false, flashError := false, flashData := [] }) (eraseFlash s.boot.flashAt 4096 s) := by
  unfold flashDone
  refine (if_neg (by simp [busy])).trans ?_
  dsimp only
  rw [if_neg (by decide), erase, if_neg (by decide)]
  rfl

theorem flashDone_programmed (program : s.boot.flashOp = 2) : flashDone true s =
    modBoot (fun b => { b with flashBusy := false, flashError := false, flashData := [] })
      ((List.range 256).foldl (fun v i => programByte (s.boot.flashAt + i) (nthByte (tget 0 v.boot.flashData (i / 4)).toNat (i % 4)) v) s) := by
  unfold flashDone
  refine (if_neg (by simp [busy])).trans ?_
  dsimp only
  rw [if_neg (by decide), if_pos program]
  rfl

theorem flashDone_failed : flashDone false s = modBoot (fun b => { b with flashBusy := false, flashError := true, flashData := [] })
    (flashFailed s.boot.flashOp s.boot.flashAt (if s.boot.flashOp = 2 then 256 else 4096) s) := by
  unfold flashDone
  refine (if_neg (by simp [busy])).trans ?_
  dsimp only
  rw [if_pos (by decide)]
  rfl

end

/-- The words of the page at the window's address (R405). -/
@[irreducible] def pageRead (s : State) : Tab Word32 :=
  (List.range 64).foldl (fun u k => tset 0 u k (BitVec.ofNat 32 (((List.range 4).map (fun i =>
    (flashByte s (s.boot.flashAddr.toNat / 256 * 256 + 4 * k + i)).toNat * 256 ^ i)).sum))) []

theorem flashRead_idle {s : State} (idle : s.boot.flashBusy = false) :
    flashRead s = modBoot (fun b => { b with flashBuf := pageRead s, flashRefused := false, flashError := false }) s := by
  unfold pageRead
  exact if_neg (by simp [idle])

theorem flashStart_open {op size : Nat} {s : State} (idle : s.boot.flashBusy = false)
    (opened : flashOpen s (s.boot.flashAddr.toNat / size * size) = true) : flashStart op size s = { s with boot := { s.boot with
      flashBusy := true
      flashOp := op
      flashAt := s.boot.flashAddr.toNat / size * size
      flashData := s.boot.flashBuf
      flashRefused := false
      flashError := false } } := if_neg (by simp [idle, opened])

theorem flashOpen_iff {s : State} (idle : s.foc.saving = false) (a : Nat) : flashOpen s a = true ↔
    (scriptBase (1 - s.boot.copy) ≤ a ∧ a < scriptBase (1 - s.boot.copy) + 0x400000) ∨ (warmA ≤ a ∧ a < warmA + 0x200000) := by
  simp [flashOpen, idle]

/-! ### The archive -/

/-- An entry waits to be archived, and an attempt may be made (R430). -/
def ArchiveDue (s : State) : Prop :=
  s.flt.safe = false ∧ 3 ≤ s.boot.phase ∧ s.role.auditSeq ≠ s.role.archived ∧ s.role.archiveWait ≤ s.now

section
variable {s : State} (due : ArchiveDue s)
include due

theorem archive_written {x : AuditEntry} (oldest : oldestEntry s = some x) : archive true s =
    modRole (fun r => { r with archived := r.archived + 1, archiveTries := 0, archiveWait := 0 })
      (writeFlash (archiveBase + 32 * (s.role.archived.toNat % 262144)) (leBytes 32 (auditWord x).toNat)
        (if s.role.archived.toNat % 262144 % 128 = 0 then eraseFlash (archiveBase + 32 * (s.role.archived.toNat % 262144)) 4096 s else s)) := by
  obtain ⟨safe, booted, waits, timed⟩ := due
  have still : oldestEntry (if s.role.archived.toNat % 262144 % 128 = 0
      then eraseFlash (archiveBase + 32 * (s.role.archived.toNat % 262144)) 4096 s else s) = some x := by
    have role : (if s.role.archived.toNat % 262144 % 128 = 0
        then eraseFlash (archiveBase + 32 * (s.role.archived.toNat % 262144)) 4096 s else s).role = s.role := by
      split
      · exact (eraseFlash_keep _ _ _).role rfl
      · rfl
    unfold oldestEntry at oldest ⊢
    rw [role]
    exact oldest
  unfold archive
  refine (if_neg (by simp [safe, booted, waits, timed])).trans ((if_neg (by decide)).trans ?_)
  dsimp only
  rw [still]

theorem archive_thirdFailure (second : s.role.archiveTries = 2) : archive false s = { s with
    role := { s.role with archiveTries := 3, archiveWait := s.now + 1000000000 }
    flt := { s.flt with net := s.flt.net ++ [mkMsg s .auditArchiveFail 10 7 0] } } := by
  obtain ⟨safe, booted, waits, timed⟩ := due
  unfold archive
  refine (if_neg (by simp [safe, booted, waits, timed])).trans ((if_pos (by decide)).trans ?_)
  dsimp only
  rw [second]
  exact raise_mild (k := .auditArchiveFail) (by decide) 10 7 0 _

end

/-- Settles O43: the check by the copy's first failing item, the window by whether it is busy and what is open. -/
theorem theScriptIsCheckedAndTheFlashWindowWorks : Obligations.TheScriptIsCheckedAndTheFlashWindowWorks := by
  unfold Obligations.TheScriptIsCheckedAndTheFlashWindowWorks
  refine ⟨?check, ?checked, ?busy, ?read, ?program, ?erase, fun a s idle _ => flashOpen_iff idle a, ?erased, ?programmed, ?failed, ?archived,
    ?third, ?noRight⟩
  case check =>
    intro p s right idle
    refine congrArg Host.Outcome.next ((iWrite_installer right).trans ?_)
    rw [scriptCheck_idle p idle]
    rfl
  case checked =>
    rintro c x n s safe lit runs used rfl
    exact congrArg Host.Outcome.next (scriptChecked_runs safe lit runs used)
  case busy =>
    intro p s right busy
    refine ⟨congrArg Host.Outcome.next ((iWrite_installer right).trans ?_), congrArg Host.Outcome.next ((iWrite_installer right).trans ?_),
      congrArg Host.Outcome.next ((iWrite_installer right).trans ?_)⟩
    · rw [flashRead_busy busy]
      rfl
    · rw [flashStart_busy busy]
      rfl
    · rw [flashStart_busy busy]
      rfl
  case read =>
    intro p s right idle
    refine ⟨flashRead s, congrArg Host.Outcome.next ((iWrite_installer right).trans rfl), ?_⟩
    rw [flashRead_idle idle]
    refine ⟨rfl, rfl, rfl, (show _ = pageRead s from rfl).trans ?_⟩
    unfold pageRead
    rfl
  case program =>
    intro p s right idle opened
    refine congrArg Host.Outcome.next ((iWrite_installer right).trans ?_)
    rw [flashStart_open idle opened]
    rfl
  case erase =>
    intro p s right idle opened
    refine congrArg Host.Outcome.next ((iWrite_installer right).trans ?_)
    rw [flashStart_open idle opened]
    rfl
  case erased => exact fun s busy erase => ⟨_, rfl, congrArg Host.Outcome.next (flashDone_erased busy erase)⟩
  case programmed => exact fun s busy program => ⟨_, rfl, congrArg Host.Outcome.next (flashDone_programmed busy program)⟩
  case failed => exact fun s busy => ⟨_, congrArg Host.Outcome.next (flashDone_failed busy), rfl, rfl⟩
  case archived =>
    rintro x u s safe booted waits timed oldest rfl
    exact congrArg Host.Outcome.next (archive_written ⟨safe, booted, waits, timed⟩ oldest)
  case third =>
    exact fun s safe booted waits timed second => congrArg Host.Outcome.next (archive_thirdFailure ⟨safe, booted, waits, timed⟩ second)
  case noRight =>
    exact fun p s noRight => ⟨congrArg Host.Outcome.next (iWrite_refused noRight), congrArg Host.Outcome.next (iWrite_refused noRight),
      congrArg Host.Outcome.next (iWrite_refused noRight), congrArg Host.Outcome.next (iWrite_refused noRight)⟩

/-! ### Jobs -/

theorem jobOf_modJob {j : Nat} {f : Job → Job} {s : State} (listed : f (jobOf s j) ≠ {}) : jobOf (modJob j f s) j = f (jobOf s j) :=
  tget_tupd_self _ _ listed

theorem job_listed {x : Job} (notFree : x.st ≠ .free) : x ≠ {} := fun none => notFree (congrArg Job.st none)

/-- An audit entry takes the next number and touches no job (R429). -/
theorem audit_jobs (p : Option Path) (action : Nat) (object : Word32) (detail : Word64) (s : State) :
    (audit p action object detail s).role.jobs = s.role.jobs ∧ (audit p action object detail s).role.auditSeq = s.role.auditSeq + 1 := by
  unfold audit pushAudit
  dsimp only
  rw [(mirrorLog_keep _ _ _).role rfl]
  exact ⟨rfl, rfl⟩

section
variable {p : Path} {j : Nat} {s : State} (defined_ : (jobOf s j).st = .defined)
include defined_

theorem startJob_passes {tag : Nat} (passes : startReason s j = 0) (free : freeEnergyTag s = some tag) : startJob p j s =
    divide (audit (some p) 1 (BitVec.ofNat 32 j) (tagEnergy s tag) (modJob j (fun x => { x with st := .running, tag := tag, reason := 0 }) s)) := by
  unfold startJob
  rw [if_neg (by simp [defined_]), passes, free]
  rfl

theorem startJob_refused {n : Nat} (reason : startReason s j = n) (fails : n ≠ 0) :
    startJob p j s = modJob j (fun x => { x with reason := n }) s := by
  unfold startJob
  rw [if_neg (by simp [defined_]), reason]
  match n, fails with
  | n + 1, _ => rfl

theorem clearJob_defined : clearJob j s = { s with role := { s.role with jobs := tset {} s.role.jobs j {} } } := if_neg (by simp [defined_])

end

theorem startReason_unready {s : State} (j : Nat) (unready : s.boot.ready = false) : startReason s j ≠ 0 := by
  unfold startReason
  rw [unready]
  split_ifs <;> simp_all

/-- A job that ends, and the audit entry of its end (R428, R429). -/
def endRecorded (p : Path) (j : Nat) (s : State) : State :=
  audit (some p) 2 (BitVec.ofNat 32 j) (tagEnergy s (jobOf s j).tag) (modJob j (fun x => { x with st := .ending }) s)

/-- What follows the audit entry at a job's end touches no job (R428). -/
theorem endJob_role {p : Path} {j : Nat} {s : State} (running : (jobOf s j).st = .running) :
    (endJob p j s).role = (endRecorded p j s).role := by
  unfold endJob
  rw [if_neg (by simp [running])]
  dsimp only
  rw [(divide_keep _).role rfl, modGaf_role, foldl_keeps (fun t => t.role) fun _ _ => (modPow_keep _ _ _).role rfl,
    foldl_keeps (fun t => t.role) ?regions, (ctxJobEnds_keep _ _).role rfl, foldl_keeps (fun t => t.role) ?queues]
  · rfl
  case regions =>
    intro t i
    split
    · exact (releaseRegion_keep _ _).role rfl
    · rfl
  case queues =>
    intro t q
    split
    · exact (disableQueue_keep _ _).role rfl
    · rfl

theorem endRecorded_job {p : Path} {j : Nat} {s : State} : jobOf (endRecorded p j s) j = { jobOf s j with st := .ending }
    ∧ (endRecorded p j s).role.auditSeq = s.role.auditSeq + 1 := by
  obtain ⟨jobs, number⟩ := audit_jobs (some p) 2 (BitVec.ofNat 32 j)
    (tagEnergy s (jobOf s j).tag)
    (modJob j (fun x => { x with st := .ending }) s)
  refine ⟨(congrArg (fun jobs => tget ({} : Job) jobs j) jobs).trans (jobOf_modJob (job_listed (by simp))), number⟩

theorem jobEnded_freed {j : Nat} {s : State} (ending : (jobOf s j).st = .ending)
    (freed : (List.range 256).any (fun i => (regionOf s i).st != 0 && (regionOf s i).job == j) = false) :
    jobEnded j s = modJob j (fun x => { x with st := .defined, tag := 0 }) s := by
  unfold jobEnded
  rw [freed]
  exact if_neg (by simp [ending])

theorem jobEnded_held {j : Nat} {s : State} (held : (List.range 256).any (fun i => (regionOf s i).st != 0 && (regionOf s i).job == j) = true) :
    jobEnded j s = s := by
  unfold jobEnded
  rw [held]
  exact if_pos (by simp)

theorem jobCommand_right {p : Path} {j : Nat} {s : State} (right : mayWrite s p .o = true) (within : j < 256) :
    (mayWrite s p .o && decide (j < 256)) = true := by rw [right, decide_eq_true within]; rfl

/-! ### Continuity -/

/-- The base judges its partners (R434). -/
def ContRuns (s : State) : Prop := s.boot.ready = true ∧ s.flt.safe = false ∧ s.boot.dark = false

section
variable {n : Word16} {i : Nat} {c : ContPartner} {s : State}
  (partner : s.role.partners.find? (fun p => (p.2.map (fun c => c.node == n)).getD false) = some (i, some c)) (matched : c.st = 1)
include partner matched

theorem contMessage_matches (d : Word64) (expected : d = s.role.expect) : contMessage n d true s =
    modPartner i (fun y => { y with bad := 0, good := min 2 (c.good + 1), st := 1, last := s.now }) s := by
  unfold contMessage
  rw [partner]
  dsimp only
  rw [expected, matched]
  simp

theorem contMessage_mismatches (d : Word64) (once : c.bad = 1) : contMessage n d false s =
    contMismatch (modPartner i (fun y => { y with bad := 2, good := 0, st := 2, last := s.now }) s) := by
  unfold contMessage
  rw [partner]
  dsimp only
  rw [once, matched]
  simp

end

/-- Settles O45: a start by its checks, an end by what follows its audit entry (`endJob_role`), a partner by its last two messages. -/
theorem jobsAndContinuity : Obligations.JobsAndContinuity := by
  unfold Obligations.JobsAndContinuity
  refine ⟨?starts, ?refused, fun j s => startReason_unready j, ?ends, ?freed, ?held, ?cleared, ?running, ?noRight, ?sweep, ?early, ?matched,
    ?mismatched, ?silent⟩
  case starts =>
    intro p j tag s right within defined_ passes free
    refine ⟨_, rfl, ?_, congrArg Host.Outcome.next ((if_pos (jobCommand_right right within)).trans (startJob_passes defined_ passes free))⟩
    rw [jobRunning, jobOf_modJob (job_listed (by simp))]
    rfl
  case refused =>
    exact fun p j n s right within defined_ reason fails =>
      congrArg Host.Outcome.next ((if_pos (jobCommand_right right within)).trans (startJob_refused defined_ reason fails))
  case ends =>
    intro p j s right within running
    have role := endJob_role (p := p) running
    obtain ⟨job, number⟩ := endRecorded_job (p := p) (j := j) (s := s)
    have ended : jobOf (endJob p j s) j = { jobOf s j with st := .ending } := (congrArg (fun r => tget ({} : Job) (RoleSt.jobs r) j) role).trans job
    exact ⟨_, congrArg Host.Outcome.next (if_pos (jobCommand_right right within)), congrArg Job.st ended, (congrArg Job.tag ended).trans rfl,
      (congrArg RoleSt.auditSeq role).trans number⟩
  case freed => exact fun j s safe ending freed => congrArg Host.Outcome.next ((if_neg (by simp [safe])).trans (jobEnded_freed ending freed))
  case held => exact fun j s held => congrArg Host.Outcome.next (by rw [jobEnded_held held, ite_self])
  case cleared =>
    exact fun p j s right within defined_ =>
      congrArg Host.Outcome.next ((if_pos (jobCommand_right right within)).trans (clearJob_defined defined_))
  case running =>
    intro p j s _ running
    have stays : clearJob j s = s := if_pos (by simp [running])
    exact congrArg Host.Outcome.next (by rw [stays, ite_self])
  case noRight =>
    exact fun p j s noRight => ⟨congrArg Host.Outcome.next (if_neg (by simp [noRight])), congrArg Host.Outcome.next (if_neg (by simp [noRight])),
      congrArg Host.Outcome.next (if_neg (by simp [noRight]))⟩
  case sweep =>
    exact fun s ready safe lit due => congrArg Host.Outcome.next (if_neg (by simp [ready, safe, lit, due]))
  case early => exact fun s early => congrArg Host.Outcome.next (if_pos (by simp [early]))
  case matched =>
    exact fun n d i c s ready safe lit partner expected matched => congrArg Host.Outcome.next
      ((if_neg (by simp [ready, safe, lit])).trans (contMessage_matches partner matched d expected))
  case mismatched =>
    exact fun n d i c s ready safe lit partner matched once => congrArg Host.Outcome.next
      ((if_neg (by simp [ready, safe, lit])).trans (contMessage_mismatches partner matched d once))
  case silent =>
    intro i c s partner known safe silent
    show execContinuityPartnerSilence i s = _
    unfold execContinuityPartnerSilence
    rw [partner]
    exact congrArg Host.Outcome.next (if_neg (by simp [known, safe, Nat.not_lt.mpr silent]))

end Sys2Proof.Machine
end

section
/-! SUPPORT. Sessions, enrolment and factory test mode (R417 to R422), and the field update (R436 to R441). -/

namespace Sys2Proof.Machine

open Sys2Proof

/-! ### Opening a session -/

/-- An audit entry touches neither the sessions nor what the cells and the enrolment hold (R429). -/
theorem audit_sessions (p : Option Path) (action : Nat) (object : Word32) (detail : Word64) (s : State) :
    (audit p action object detail s).role.sessions = s.role.sessions
    ∧ (audit p action object detail s).role.reenrolArmed = s.role.reenrolArmed
    ∧ (audit p action object detail s).role.facActive = s.role.facActive := by
  unfold audit pushAudit
  dsimp only
  rw [(mirrorLog_keep _ _ _).role rfl]
  exact ⟨rfl, rfl, rfl⟩

section
variable {e via : Nat} {c : Certificate} {s : State} (booted : 3 ≤ s.boot.phase)
include booted

theorem portOpen_booted : portOpen s = true := decide_eq_true booted

section
variable {n : Nat} (place : (List.range 8).find? (fun n => (sessionOf s n).isNone) = some n) (chain : c.chainOk = true)
  (named : c.serial = s.part.serial)
include place chain named

theorem keyExchange_anchored (closed : s.boot.enrolOpen = false) (ends : anchored s c = true) :
    keyExchange e via c s = openSession n e via c s := by
  unfold keyExchange
  rw [if_neg (by simp [portOpen_booted booted]), place]
  exact (if_neg (by simp [chain, named])).trans ((if_neg (by simp [closed])).trans (if_pos ends))

/-- The first self-signed installer certificate takes the next cell (R421). -/
theorem keyExchange_enrols (opened : s.boot.enrolOpen = true) (selfSigned : c.selfSigned = true) (installer : c.role = .installer)
    (free : s.role.enrolled.length < 4) : keyExchange e via c s =
      audit (some (.session n)) 0x14 (BitVec.ofNat 32 s.role.enrolled.length) (c.keyDigest.setWidth 64)
        (openSession n e via c { s with
          boot := { s.boot with enrolOpen := false }
          role := { s.role with enrolled := s.role.enrolled ++ [c.keyDigest], reenrolArmed := false } }) := by
  unfold keyExchange
  rw [if_neg (by simp [portOpen_booted booted]), place]
  refine (if_neg (by simp [chain, named])).trans ((if_pos ?_).trans rfl)
  rw [opened, selfSigned, installer, decide_eq_true free]
  rfl

end

theorem keyExchange_refused (refused : (List.range 8).find? (fun n => (sessionOf s n).isNone) = none ∨ c.chainOk = false ∨ c.serial ≠ s.part.serial) :
    keyExchange e via c s = emit (.spdm 8 "ERROR" []) s := by
  unfold keyExchange
  rw [if_neg (by simp [portOpen_booted booted])]
  cases place : (List.range 8).find? (fun n => (sessionOf s n).isNone) with
  | none => rfl
  | some n =>
    refine if_pos ?_
    rcases refused with full | broken | another
    · rw [place] at full
      exact absurd full (by simp)
    · simp [broken]
    · simp [another]

theorem spdmRequest_refused {q : SpdmReq} (refused : (q == .other || inSession q) = true) :
    spdmRequest none q s = emit (.spdm 8 "ERROR" []) s := by
  refine (if_neg (by simp [portOpen_booted booted])).trans (if_pos ?_)
  simpa using refused

theorem spdmRequest_measures {x : Script} (script : s.boot.script = some x) : spdmRequest none .getMeasurements s =
    emit (.spdm 8 "MEASUREMENTS" [(Config.firmwareDigest s.ident.fwVersion).toNat,
      (Config.scriptDigest x.sequence x.serial).toNat, s.role.digest.toNat]) s := by
  have allowed : ¬ (SpdmReq.getMeasurements == .other || ((none : Option Nat).isSome || inSession .getMeasurements) && !false) = true := by
    decide
  refine (if_neg (by simp [portOpen_booted booted])).trans ((if_neg allowed).trans ?_)
  dsimp only
  rw [if_pos (show (SpdmReq.getMeasurements == .getMeasurements) = true from rfl),
    if_neg (show ¬ (SpdmReq.getMeasurements == .heartbeat) = true by decide), script]
  rfl

theorem spdmRequest_heartbeat {n : Nat} {x : Session} (opened : sessionOf s n = some x) : spdmRequest (some n) .heartbeat s = { s with
    role := { s.role with sessions := tset none s.role.sessions n (some { x with lastBeat := s.now }) }
    out := .spdm n "HEARTBEAT_ACK" [] :: s.out } := by
  have beats : tupd none s.role.sessions n (fun o => o.map (fun x => { x with lastBeat := s.now })) =
      tset none s.role.sessions n (some { x with lastBeat := s.now }) := by
    unfold tupd
    rw [show tget none s.role.sessions n = some x from opened]
    rfl
  refine (if_neg (by simp [portOpen_booted booted])).trans ((if_neg (by simp [opened])).trans ?_)
  dsimp only
  rw [if_pos (show (SpdmReq.heartbeat == .heartbeat) = true from rfl)]
  exact congrArg (fun sessions => { s with
    role := { s.role with sessions := sessions }
    out := .spdm n "HEARTBEAT_ACK" [] :: s.out }) beats

end

theorem execSessionHeartbeatMiss_silent {n : Nat} {x : Session} {s : State} (opened : sessionOf s n = some x)
    (silent : x.lastBeat + 60000000000 ≤ s.now) : execSessionHeartbeatMiss n s = .next (closeSession n s) := by
  unfold execSessionHeartbeatMiss
  rw [opened]
  exact congrArg Host.Outcome.next (if_neg (Nat.not_lt.mpr silent))

theorem execSessionHeartbeatMiss_heard {n : Nat} {x : Session} {s : State} (opened : sessionOf s n = some x)
    (heard : s.now < x.lastBeat + 60000000000) : execSessionHeartbeatMiss n s = .next s := by
  unfold execSessionHeartbeatMiss
  rw [opened]
  exact congrArg Host.Outcome.next (if_pos heard)

/-! ### Factory test mode -/

/-- INSTALL_EN is read, the mode entered and recorded (R422). -/
def facEntered (p : Path) (s : State) : State :=
  audit (some p) 0x20 0 0 (audit (some p) 0x10 0x1F0000#32 1
    { s with pins := { s.pins with installEn := true }, role := { s.role with facActive := true } })

theorem facEnter_maker {p : Path} {s : State} (opened : csOpen s = true) (maker : pathRole s p = .maker)
    (idle : (s.role.jobs.any (fun x => x.2.st == .running)) = false) (ordinary : s.role.facActive = false) :
    facEnter p true s = raise .factoryMode 10 5 0 (facEntered p s) := by
  have maker' : pathRole (modPins (fun x => { x with installEn := true }) s) p = .maker := maker
  have opened' : csOpen (modPins (fun x => { x with installEn := true }) s) = true := opened
  have idle' : ((modPins (fun x => { x with installEn := true }) s).role.jobs.any (fun x => x.2.st == .running)) = false := idle
  have ordinary' : (modPins (fun x => { x with installEn := true }) s).role.facActive = false := ordinary
  unfold facEnter
  dsimp only
  rw [maker', opened', idle', ordinary', if_neg (by decide)]
  rfl

theorem facEnter_refused {p : Path} {b : Bool} {s : State} (refused : pathRole s p ≠ .maker ∨ b = false) :
    facEnter p b s = { s with pins := { s.pins with installEn := b } } := by
  refine if_pos ?_
  rcases refused with other | low
  · have other' : pathRole (modPins (fun x => { x with installEn := b }) s) p ≠ .maker := other
    simp [other']
  · simp [low]

/-- What entering the mode leaves (R422). -/
theorem facEntered_fields (p : Path) (s : State) : (facEntered p s).role.facActive = true ∧ (facEntered p s).pins.installEn = true
    ∧ (facEntered p s).flt = s.flt ∧ (facEntered p s).tc = s.tc := by
  obtain ⟨-, -, second⟩ := audit_sessions (some p) 0x20 0 0 (audit (some p) 0x10 0x1F0000#32 1
    { s with pins := { s.pins with installEn := true }, role := { s.role with facActive := true } })
  obtain ⟨-, -, first⟩ := audit_sessions (some p) 0x10 0x1F0000#32 1
    { s with pins := { s.pins with installEn := true }, role := { s.role with facActive := true } }
  have kept := (audit_keep (some p) 0x10 0x1F0000#32 1
    { s with pins := { s.pins with installEn := true }, role := { s.role with facActive := true } }).trans
      (audit_keep (some p) 0x20 0 0 _)
  exact ⟨second.trans first, congrArg Pins.installEn (kept.pins rfl), kept.flt rfl, kept.tc rfl⟩

/-- Settles O44: a key exchange by the certificate and the places, a request by its session, the mode by its conditions. -/
theorem sessionsEnrolmentAndFactoryMode : Obligations.SessionsEnrolmentAndFactoryMode := by
  unfold Obligations.SessionsEnrolmentAndFactoryMode
  refine ⟨?opens, ?enrols, ?refused, ?noRole, ?ends, ?silent, ?heard, ?beat, ?outside, ?measures, ?arms, ?notArmed, ?enters, ?notEntered⟩
  case opens =>
    exact fun e via n c s booted place chain named closed ends =>
      congrArg Host.Outcome.next (keyExchange_anchored booted place chain named closed ends)
  case enrols =>
    intro e via n c s booted place chain named opened selfSigned installer free
    refine ⟨_, congrArg Host.Outcome.next (keyExchange_enrols booted place chain named opened selfSigned installer free), ?_⟩
    obtain ⟨boot, -, enrolled⟩ := audit_fields (some (.session n)) 0x14 (BitVec.ofNat 32 s.role.enrolled.length) (c.keyDigest.setWidth 64)
      (openSession n e via c { s with
        boot := { s.boot with enrolOpen := false }
        role := { s.role with enrolled := s.role.enrolled ++ [c.keyDigest], reenrolArmed := false } })
    obtain ⟨sessions, armed, -⟩ := audit_sessions (some (.session n)) 0x14 (BitVec.ofNat 32 s.role.enrolled.length) (c.keyDigest.setWidth 64)
      (openSession n e via c { s with
        boot := { s.boot with enrolOpen := false }
        role := { s.role with enrolled := s.role.enrolled ++ [c.keyDigest], reenrolArmed := false } })
    refine ⟨enrolled, congrArg Boot.enrolOpen boot, armed, (audit_keep _ _ _ _ _).out rfl, ?_⟩
    rw [sessionOf, sessions, ← installer]
    exact tget_tset_self _ _ (Option.some_ne_none _)
  case refused => exact fun e via c s booted refused => congrArg Host.Outcome.next (keyExchange_refused booted refused)
  case noRole =>
    intro c s noRole
    unfold anchored
    rw [noRole]
  case ends => exact fun n s opened => congrArg Host.Outcome.next (if_pos opened)
  case silent => exact fun n x s opened silent => execSessionHeartbeatMiss_silent opened silent
  case heard => exact fun n x s opened heard => execSessionHeartbeatMiss_heard opened heard
  case beat => exact fun n x s booted opened => congrArg Host.Outcome.next (spdmRequest_heartbeat booted opened)
  case outside =>
    exact fun s booted => ⟨congrArg Host.Outcome.next (spdmRequest_refused booted rfl), congrArg Host.Outcome.next (spdmRequest_refused booted rfl),
      congrArg Host.Outcome.next (if_neg (by simp [portOpen_booted booted]))⟩
  case measures => exact fun x s booted script => congrArg Host.Outcome.next (spdmRequest_measures booted script)
  case arms =>
    exact fun p s free right => congrArg Host.Outcome.next ((if_neg (Nat.not_le.mpr free)).trans (iWrite_installer right))
  case notArmed =>
    intro p s refused
    refine congrArg Host.Outcome.next ?_
    rcases refused with full | noRight
    · exact if_pos full
    · rw [iWrite_refused noRight, ite_self]
  case enters =>
    intro p s opened maker idle ordinary
    obtain ⟨active, install, flt, tc⟩ := facEntered_fields p s
    refine ⟨_, congrArg Host.Outcome.next ((facEnter_maker opened maker idle ordinary).trans (raise_mild (k := .factoryMode) (by decide) 10 5 0 _)),
      active, install, ?_⟩
    show (facEntered p s).flt.net ++ _ = _
    rw [flt, mkMsg_congr tc]
  case notEntered => exact fun p b s refused => congrArg Host.Outcome.next (facEnter_refused refused)

/-! ### The field update -/

theorem slotOf_modSlot {k : Nat} {f : FwSlot → FwSlot} {s : State} (listed : f (slotOf s k) ≠ {}) :
    slotOf (modSlot k f s) k = f (slotOf s k) := tget_tupd_self _ _ listed

theorem slot_listed {x : FwSlot} (notEmpty : x.st ≠ 0) : x ≠ {} := fun none => notEmpty (congrArg FwSlot.st none)

section
variable {n : Nat} {im : Word32} {s : State} (opened : updateOpen s n = true)
include opened

section
variable (idle : s.boot.activating = none)
include idle

theorem updBegin_new {sv pc : Nat} {ve : Word32} {key : List Byte} (free : (updSlot s).st ≠ 1) (least : 1 ≤ pc) (most : pc ≤ 4080) (svn : sv ≤ 63) :
    updBegin n im ve sv pc key true s = beginAnswer n im 0 (beginSlot im ve sv pc key s) := by
  unfold updBegin
  rw [if_neg (by simp [opened]), if_neg (by simp [idle]), if_neg (fun ⟨receiving, _⟩ => free receiving),
    if_neg (fun ⟨receiving, _⟩ => free receiving), if_neg (by omega), if_neg (by decide)]

theorem updBegin_again {sv pc : Nat} {ve : Word32} {key : List Byte} (ok : Bool) (receiving : (updSlot s).st = 1) (same : (updSlot s).image = im) :
    updBegin n im ve sv pc key ok s = beginAnswer n im 1 s := by
  unfold updBegin
  rw [if_neg (by simp [opened]), if_neg (by simp [idle]), if_pos ⟨receiving, same⟩]

theorem updPiece_other {i : Nat} {d tg : List Byte} (a b : Bool) (other : (updSlot s).image ≠ im) :
    updPiece n im i d tg a b s = pieceAnswer n im i 6 s := by
  unfold updPiece
  dsimp only
  rw [if_neg (by simp [opened]), if_neg (by simp [idle]), if_pos (.inr other)]

section
variable {i : Nat} {d tg : List Byte} (holding : (updSlot s).st = 1 ∨ (updSlot s).st = 2) (same : (updSlot s).image = im)
include holding same

/-- A piece of the image being received is judged by its place, its tag and what is held (R438). -/
theorem updPiece_received (tagOk ok : Bool) : updPiece n im i d tg tagOk ok s =
    (if (updSlot s).pieces ≤ i then pieceAnswer n im i 5 s
    else if !tagOk then pieceAnswer n im i 3 (raiseRated .updateRejected 0 1000000000 10 6 0 s)
    else if (updSlot s).got.contains i then pieceAnswer n im i 2 s
    else if !ok then pieceAnswer n im i 7 s
    else pieceAnswer n im i 0 (takePiece i d tg s)) := by
  have ours : ¬ (((updSlot s).st ≠ 1 ∧ (updSlot s).st ≠ 2) ∨ (updSlot s).image ≠ im) := by
    rintro (⟨notReceiving, notWhole⟩ | other)
    · exact holding.elim notReceiving notWhole
    · exact other same
  unfold updPiece
  dsimp only
  rw [if_neg (by simp [opened]), if_neg (by simp [idle]), if_neg ours]

end
end
end

theorem beginSlot_fields (sv pc : Nat) (im ve : Word32) (key : List Byte) (s : State) : ∃ t, beginSlot im ve sv pc key s = t
    ∧ t.boot.updSlot = 1 - s.boot.preferred ∧ t.boot.updSt = 1 ∧ t.boot.headers = s.boot.headers + 1
    ∧ slotOf t (1 - s.boot.preferred) = { image := im, version := ve, svn := sv, pieces := pc, st := 1, key := key }
    ∧ t.boot.flash = tclear s.boot.flash (imageBase (1 - s.boot.preferred)) (imageBase (1 - s.boot.preferred) + 0x1000000)
    ∧ t.boot.preferred = s.boot.preferred ∧ t.boot.rollback = s.boot.rollback :=
  ⟨_, rfl, rfl, rfl, rfl,
    (slotOf_modSlot (f := fun _ => { image := im, version := ve, svn := sv, pieces := pc, st := 1, key := key }) (s := s)
      (slot_listed (show 1 ≠ 0 by decide)) :), rfl, rfl, rfl⟩

theorem abortSlot_receiving {s : State} (receiving : (updSlot s).st = 1) : abortSlot s = { s with boot := { s.boot with
    slots := tset {} s.boot.slots s.boot.updSlot {}
    updSt := 0
    headers := s.boot.headers + 1 } } := if_pos receiving

theorem activate_whole {p : Path} {s : State} (idle : s.boot.activating = none) (whole : (updSlot s).st = 2)
    (all : (updSlot s).got.length = (updSlot s).pieces) :
    activate p s = { s with boot := { s.boot with activating := some s.boot.updSlot, updSt := 3, actPath := some p } } :=
  if_neg (by simp [idle, whole, received, all])

section
variable {k : Nat} {c : ImageCheck} {s : State} (safe : s.flt.safe = false) (runs : s.boot.activating = some k)
include safe runs

/-- The activation is over (R439). -/
def activationOver (s : State) : State :=
  { s with boot := { s.boot with activating := none, actPath := none, headers := s.boot.headers + 1 } }

theorem activated_verified (good : imageOk s (slotOf s k) c = true) : activated c s =
    audit s.boot.actPath 0x13 (slotOf s k).image (BitVec.ofNat 64 ((slotOf s k).version.toNat + (slotOf s k).svn * 2 ^ 32))
      (modBoot (fun b => { b with preferred := k, updSt := 4 }) (modSlot k (fun y => { y with st := 3, attempts := 0 }) (activationOver s))) := by
  have good' : imageOk (newHeader (modBoot (fun b => { b with activating := none, actPath := none }) s)) (slotOf s k) c = true := good
  unfold activated
  rw [runs]
  refine (if_neg (by simp [safe])).trans ?_
  dsimp only
  rw [good', if_pos rfl]
  rfl

theorem activated_failed (bad : imageOk s (slotOf s k) c = false) : activated c s =
    sendFault (mkMsg s .updateRejected 10 6 0)
      (modBoot (fun b => { b with updSt := 5 }) (modSlot k (fun y => { y with st := 4 }) (activationOver s))) := by
  have bad' : imageOk (newHeader (modBoot (fun b => { b with activating := none, actPath := none }) s)) (slotOf s k) c = false := bad
  unfold activated
  rw [runs]
  refine (if_neg (by simp [safe])).trans ?_
  dsimp only
  rw [bad', if_neg (by decide), show newHeader (modBoot (fun b => { b with activating := none, actPath := none }) s) = activationOver s from rfl,
    raise_mild (by decide), mkMsg_congr (s := s) rfl]
  rfl

end

/-- Settles O46: a begin and a piece by the slot that receives, an activation by what the check found. -/
theorem firmwareIsReceivedCheckedAndActivated : Obligations.FirmwareIsReceivedCheckedAndActivated := by
  unfold Obligations.FirmwareIsReceivedCheckedAndActivated
  refine ⟨?begin_, ?begun, ?again, ?piece, ?other, ?beyond, ?query, ?abort, ?ctrlAbort, ?activate, ?verified, ?failed, ?noRight⟩
  case begin_ =>
    exact fun n sv pc im ve key s opened idle free least most svn => congrArg Host.Outcome.next (updBegin_new opened idle free least most svn)
  case begun => exact fun sv pc im ve key s => beginSlot_fields sv pc im ve key s
  case again =>
    exact fun n sv pc im ve key ok s opened idle receiving same => congrArg Host.Outcome.next (updBegin_again opened idle ok receiving same)
  case piece =>
    intro n i im d tg s opened idle holding same within
    have judged := updPiece_received (i := i) (d := d) (tg := tg) opened idle holding same
    refine ⟨fun new => ?_, fun held => ?_, ?_⟩
    · refine congrArg Host.Outcome.next ((judged true true).trans ?_)
      rw [if_neg (Nat.not_le.mpr within), if_neg (by decide), if_neg (by rw [new]; decide), if_neg (by decide)]
    · refine congrArg Host.Outcome.next ((judged true true).trans ?_)
      rw [if_neg (Nat.not_le.mpr within), if_neg (by decide), if_pos held]
    · refine congrArg Host.Outcome.next ((judged false true).trans ?_)
      rw [if_neg (Nat.not_le.mpr within), if_pos (by decide)]
  case other => exact fun n i im d tg a b s opened idle other => congrArg Host.Outcome.next (updPiece_other opened idle a b other)
  case beyond =>
    exact fun n i im d tg a b s opened idle receiving same beyond =>
      congrArg Host.Outcome.next ((updPiece_received opened idle (.inl receiving) same a b).trans (if_pos beyond))
  case query => exact fun n s opened => congrArg Host.Outcome.next (if_pos opened)
  case abort =>
    exact fun n s opened installer receiving =>
      congrArg Host.Outcome.next ((if_pos (by simp [opened, fromInstaller, installer])).trans (abortSlot_receiving receiving))
  case ctrlAbort =>
    intro p s right receiving
    refine congrArg Host.Outcome.next ((iWrite_installer right).trans ?_)
    rw [abortSlot_receiving receiving]
    rfl
  case activate =>
    intro p s right idle whole all
    refine congrArg Host.Outcome.next ((iWrite_installer right).trans ?_)
    rw [activate_whole idle whole all]
    rfl
  case verified =>
    intro k c s safe runs good
    refine ⟨_, congrArg Host.Outcome.next (activated_verified safe runs good), ?_⟩
    have slot : slotOf (modSlot k (fun y => { y with st := 3, attempts := 0 }) (activationOver s)) k = { slotOf s k with st := 3, attempts := 0 } :=
      slotOf_modSlot (slot_listed (by simp))
    obtain ⟨-, number⟩ := audit_jobs s.boot.actPath 0x13 (slotOf s k).image (BitVec.ofNat 64 ((slotOf s k).version.toNat + (slotOf s k).svn * 2 ^ 32))
      (modBoot (fun b => { b with preferred := k, updSt := 4 }) (modSlot k (fun y => { y with st := 3, attempts := 0 }) (activationOver s)))
    have boot := (audit_keep s.boot.actPath 0x13 (slotOf s k).image
      (BitVec.ofNat 64 ((slotOf s k).version.toNat + (slotOf s k).svn * 2 ^ 32))
      (modBoot (fun b => { b with preferred := k, updSt := 4 }) (modSlot k (fun y => { y with st := 3, attempts := 0 }) (activationOver s)))).boot rfl
    have kept := (congrArg (fun b => tget ({} : FwSlot) (Boot.slots b) k) boot).trans slot
    exact ⟨congrArg Boot.preferred boot, congrArg Boot.updSt boot, (congrArg Boot.activating boot).trans rfl, congrArg FwSlot.st kept,
      congrArg FwSlot.attempts kept, (congrArg FwSlot.image kept).trans rfl, (congrArg Boot.rollback boot).trans rfl, number⟩
  case failed =>
    intro k c s safe runs bad
    have slot : slotOf (modSlot k (fun y => { y with st := 4 }) (activationOver s)) k = { slotOf s k with st := 4 } :=
      slotOf_modSlot (slot_listed (by simp))
    exact ⟨_, congrArg Host.Outcome.next (activated_failed safe runs bad), rfl, rfl, congrArg FwSlot.st slot, rfl, rfl, rfl⟩
  case noRight =>
    exact fun p s noRight => ⟨congrArg Host.Outcome.next (iWrite_refused noRight), congrArg Host.Outcome.next (iWrite_refused noRight)⟩

end Sys2Proof.Machine
end

section
/-! SUPPORT. The messages that reach control space (R443 to R447): a session's, a local die's in MGT slots, and its SPDM fragments. -/

namespace Sys2Proof.Machine

open Sys2Proof

/-! ### A session's messages -/

theorem regReads_length (p : Path) : ∀ (k a : Nat) (s : State), (regReads p k a s).1.length = k
  | 0, _, _ => rfl
  | k + 1, a, s => congrArg (· + 1) (regReads_length p k (a + 4) (regRead p a s).2)

theorem csAnswers_open {s : State} (opened : s.flt.safe = true ∨ 5 ≤ s.boot.phase) : csAnswers s = true := by
  rcases opened with safe | booted
  · simp [csAnswers, safe]
  · exact csAnswers_booted booted

section
variable {n a : Nat} {s : State}

theorem execCsRead_answered {k : Nat} (session : (sessionOf s n).isSome = true) (opened : s.flt.safe = true ∨ 5 ≤ s.boot.phase)
    (least : 1 ≤ k) (most : k ≤ 256) : execCsRead n a k s =
      .next (emit (.control (.session n) false (regReads (.session n) k a s).1) (regReads (.session n) k a s).2) :=
  congrArg Host.Outcome.next (if_pos (by simp [session, csAnswers_open opened, least, most]))

theorem execCsRead_refused {k : Nat} (refused : k = 0 ∨ 256 < k ∨ sessionOf s n = none) : execCsRead n a k s = .next s := by
  refine congrArg Host.Outcome.next (if_neg ?_)
  rcases refused with none_ | many | closed
  · simp [none_]
  · simp [Nat.not_le.mpr many]
  · simp [closed]

theorem execCsWrite_answered {ds : List Word32} (session : (sessionOf s n).isSome = true) (opened : s.flt.safe = true ∨ 5 ≤ s.boot.phase)
    (least : 1 ≤ ds.length) (most : ds.length ≤ 256) (still : (sessionOf (regWrites (.session n) ds a s) n).isSome = true) :
    execCsWrite n a ds s = .next (emit (.control (.session n) true []) (regWrites (.session n) ds a s)) :=
  congrArg Host.Outcome.next ((if_pos (by simp [session, csAnswers_open opened, least, most])).trans (if_pos still))

theorem execCsWrite_tooLong {ds : List Word32} (many : 256 < ds.length) : execCsWrite n a ds s = .next s :=
  congrArg Host.Outcome.next (if_neg (by simp [Nat.not_le.mpr many]))

end

/-! ### A die's accesses in MGT slots -/

theorem mgtRead_answered {n k a : Nat} {tag : BitVec 12} {s : State} (up : siteLinkUp s n = true) (booted : 5 ≤ s.boot.phase) :
    mgtRead n k a tag s = mgtAnswer n k tag (regRead (.mgt n) a s).1 (regRead (.mgt n) a s).2 :=
  if_pos (by rw [up, csAnswers_booted booted]; rfl)

theorem mgtWrite_answered {n k a : Nat} {tag : BitVec 12} {d : Word32} {s : State} (up : siteLinkUp s n = true) (booted : 5 ≤ s.boot.phase) :
    mgtWrite n k a tag d s = mgtAnswer n k tag 0 (regWrite (.mgt n) a d s) :=
  if_pos (by rw [up, csAnswers_booted booted]; rfl)

section
variable {n a k src : Nat} {tag : BitVec 12} {m : MrMsg} {s : State} (safe : s.flt.safe = false)
include safe

theorem execMgtCsRead_waiting (waits : mgtWaiting n (isMgtRead n a tag) s = some (src, m, k)) :
    execMgtCsRead n a tag s = .next (mgtRead n k a tag (takeRx (ssOf n) cMGT src m s)) := by
  unfold execMgtCsRead
  rw [waits]
  exact congrArg Host.Outcome.next (if_neg (by simp [safe]))

theorem execMgtCsWrite_waiting {d : Word32} (waits : mgtWaiting n (isMgtWrite n a tag d) s = some (src, m, k)) :
    execMgtCsWrite n a tag d s = .next (mgtWrite n k a tag d (takeRx (ssOf n) cMGT src m s)) := by
  unfold execMgtCsWrite
  rw [waits]
  exact congrArg Host.Outcome.next (if_neg (by simp [safe]))

end

theorem execMgtCsRead_idle {n a : Nat} {tag : BitVec 12} {s : State} (idle : mgtWaiting n (isMgtRead n a tag) s = none) :
    execMgtCsRead n a tag s = .next s := by
  unfold execMgtCsRead
  rw [idle]

/-! ### SPDM fragments -/

/-- The lines of a message that have come before (R445). -/
def fragLines (n m length : Nat) (s : State) : Tab (Option Line) :=
  (s.csp.frags.find? (fun f => f.site == n && f.msg == m && f.length == length)).elim [] (·.got)

/-- The fragments of other messages. -/
def otherFrags (n m : Nat) (s : State) : List Frag := s.csp.frags.filter (fun f => !(f.site == n && f.msg == m))

section
variable {n m : Nat} {s : State} (up : siteLinkUp s n = true) (booted : 3 ≤ s.boot.phase)
include up booted

/-- One line joins its message. -/
theorem spdmFrag_line {line length : Nat} (x : Line) (least : 1 ≤ length) (most : length ≤ 8192) (fits : line + 1 ≤ (length + 63) / 64) :
    spdmFrag n m line length [x] s = modCsp (fun c => { c with
      frags := if (List.range ((length + 63) / 64)).all (fun k => (tget none (tset none (fragLines n m length s) line (some x)) k).isSome)
        then otherFrags n m s
        else { site := n, msg := m, length := length, got := tset none (fragLines n m length s) line (some x) } :: otherFrags n m s }) s := by
  have within : ¬ (length < 1 ∨ 8192 < length ∨ 1 < 1 ∨ 3 < 1 ∨ (length + 63) / 64 < line + 1) := by omega
  refine (if_neg ?_).trans rfl
  rw [up, portOpen_booted booted]
  exact fun long => within (of_decide_eq_true long)

theorem spdmFrag_whole (x : Line) :
    spdmFrag n m 0 64 [x] s = { s with csp := { s.csp with frags := s.csp.frags.filter (fun f => !(f.site == n && f.msg == m)) } } := by
  have whole : (List.range ((64 + 63) / 64)).all (fun k => (tget none (tset none (fragLines n m 64 s) 0 (some x)) k).isSome) = true := by
    show ((tget none (tset none (fragLines n m 64 s) 0 (some x)) 0).isSome && true) = true
    rw [tget_tset_self _ _ (Option.some_ne_none x)]
    rfl
  rw [spdmFrag_line up booted x (by decide) (by decide) (by decide), whole]
  rfl

theorem spdmFrag_first (x : Line) (empty : s.csp.frags = []) :
    spdmFrag n m 1 128 [x] s = { s with csp := { s.csp with frags := [{ site := n, msg := m, length := 128, got := [(1, some x)] }] } } := by
  have lines : fragLines n m 128 s = [] := by
    unfold fragLines
    rw [empty]
    rfl
  have others : otherFrags n m s = [] := by
    unfold otherFrags
    rw [empty]
    rfl
  have missing : (List.range ((128 + 63) / 64)).all (fun k => (tget none (tset none ([] : Tab (Option Line)) 1 (some x)) k).isSome) = false := rfl
  rw [spdmFrag_line up booted x (by decide) (by decide) (by decide), lines, others, missing]
  rfl

end

theorem spdmFrag_refused {n m line length : Nat} {ds : List Line} {s : State} (refused : length = 0 ∨ 8192 < length ∨ ds = [] ∨ 3 < ds.length) :
    spdmFrag n m line length ds s = s := by
  have tooLong : length < 1 ∨ 8192 < length ∨ ds.length < 1 ∨ 3 < ds.length ∨ (length + 63) / 64 < line + ds.length := by
    rcases refused with none_ | long | empty | many
    · exact .inl (by omega)
    · exact .inr (.inl long)
    · exact .inr (.inr (.inl (by rw [empty]; decide)))
    · exact .inr (.inr (.inr (.inl many)))
  exact if_pos (by rw [decide_eq_true tooLong, Bool.or_true])

/-- Settles O47: each message by its path, its count and what answers it. -/
theorem messagesReachControlSpace : Obligations.MessagesReachControlSpace := by
  unfold Obligations.MessagesReachControlSpace
  refine ⟨?read, fun p k a s => rfl, ?notRead, ?write, ?writes, ?tooLong, ?mgtRead, ?mgtWrite, ?mgtIdle, ?saved, ?new, ?whole, ?first, ?refused⟩
  case read =>
    exact fun n a k s session opened least most => ⟨_, rfl, execCsRead_answered session opened least most, regReads_length _ _ _ _⟩
  case notRead => exact fun n a k s refused => execCsRead_refused refused
  case write =>
    rintro n a d t s session opened rfl still
    exact execCsWrite_answered (ds := [d]) session opened (by simp) (by simp) still
  case writes =>
    rintro n a ds t s session opened least most rfl still
    exact execCsWrite_answered session opened least most still
  case tooLong => exact fun n a ds s many => execCsWrite_tooLong many
  case mgtRead =>
    rintro n a k src tag m u s safe waits rfl up booted
    exact (execMgtCsRead_waiting safe waits).trans (congrArg Host.Outcome.next (mgtRead_answered up booted))
  case mgtWrite =>
    rintro n a k src tag d m u s safe waits rfl up booted
    exact (execMgtCsWrite_waiting safe waits).trans (congrArg Host.Outcome.next (mgtWrite_answered up booted))
  case mgtIdle => exact fun n a tag s idle => execMgtCsRead_idle idle
  case saved =>
    exact fun n a tag w v s live saved => ⟨congrArg Host.Outcome.next (sbRead_saved live saved),
      fun d => congrArg Host.Outcome.next (sbWrite_saved live saved)⟩
  case new =>
    exact fun n a tag d s live answers new => ⟨congrArg Host.Outcome.next (sbRead_new live new answers),
      congrArg Host.Outcome.next (sbWrite_new live new answers)⟩
  case whole => exact fun n m x s up booted => congrArg Host.Outcome.next (spdmFrag_whole up booted x)
  case first => exact fun n m x s up booted empty => congrArg Host.Outcome.next (spdmFrag_first up booted x empty)
  case refused => exact fun n m l k ds s refused => congrArg Host.Outcome.next (spdmFrag_refused refused)

end Sys2Proof.Machine
end


section
/-! SUPPORT. Single registers: what a read shows, latches and clears, and what a write does by its path's right (R443, R448 to R451). -/

namespace Sys2Proof.Machine

open Sys2Proof

/-! ### Reads -/

theorem readable_open {s : State} {a : Nat} (safe : s.flt.safe = false) (booted : 5 ≤ s.boot.phase) (light : s.boot.dark = false) :
    readable s a = true := by
  unfold readable
  rw [safe, light, decide_eq_true booted]
  rfl

theorem heldBits_full {s : State} {p : Path} {a : Nat} {r : Reg} (right : holds s p r.right = true) : heldBits s p a r = 0xFFFFFFFF := if_pos right

theorem latched_empty {s : State} {p : Path} {a : Nat} (empty : s.csp.latches = []) : latched s p a = none := by
  unfold latched
  rw [empty]
  rfl

section
variable {p : Path} {a : Nat} {r : Reg} {s : State}

theorem regRead_none (hidden : readable s a = false ∨ regAt s a = none) : regRead p a s = (0, s) := by
  have nothing : (if readable s a then regAt s a else none) = none := by
    rcases hidden with closed | reserved
    · exact if_neg (by rw [closed]; decide)
    · rw [reserved]
      exact ite_self none
  unfold regRead
  rw [nothing]

theorem regRead_unheld (reg : regAt s a = some r) (unheld : heldBits s p a r = 0) : regRead p a s = (0, s) := by
  cases open_ : readable s a with
  | false => exact regRead_none (.inl open_)
  | true =>
    unfold regRead
    rw [open_, if_pos rfl, reg]
    exact if_pos (.inl unheld)

/-- A read through a path that holds some bit shows the latched value, or else the register's, and latches or clears. -/
theorem regRead_held (open_ : readable s a = true) (reg : regAt s a = some r) (shown : r.acc ≠ .wo) (held : heldBits s p a r ≠ 0) :
    regRead p a s = (((latched s p a).getD (BitVec.ofNat 32 r.val)) &&& heldBits s p a r,
      if r.acc = .rc then rcClear a (if r.lo then latchHi p a s else s) else (if r.lo then latchHi p a s else s)) := by
  unfold regRead
  rw [open_, if_pos rfl, reg]
  exact if_neg (fun bad => bad.elim held shown)

theorem execRcRead_clears (open_ : readable s a = true) (reg : regAt s a = some r) (rc : r.acc = .rc) (single : r.lo = false)
    (held : heldBits s p a r ≠ 0) :
    execRcRead p a s = .next { rcClear a s with
      out := .control p false [((latched s p a).getD (BitVec.ofNat 32 r.val)) &&& heldBits s p a r] :: (rcClear a s).out } := by
  unfold execRcRead
  rw [reg, regRead_held open_ reg (by rw [rc]; decide) held, single]
  simp only [rc]
  rfl

theorem execLoReadLatch_latches (open_ : readable s a = true) (reg : regAt s a = some r) (shown : r.acc ≠ .wo) (keeps : r.acc ≠ .rc)
    (low : r.lo = true) (held : heldBits s p a r ≠ 0) :
    execLoReadLatch p a s = .next (emit (.control p false [((latched s p a).getD (BitVec.ofNat 32 r.val)) &&& heldBits s p a r]) (latchHi p a s)) := by
  unfold execLoReadLatch
  rw [reg, regRead_held open_ reg shown held]
  simp only [low, if_neg keeps]
  rfl

/-- A latch replaces the one of its path and address. -/
theorem latchHi_eq {h : Reg} (high : regAt s (a + 4) = some h) :
    latchHi p a s = modCsp (fun c => { c with
      latches := (p, a + 4, BitVec.ofNat 32 h.val) :: c.latches.filter (fun x => !(x.1 == p && x.2.1 == a + 4)) }) s := by
  unfold latchHi
  rw [high]

theorem latchHi_first {h : Reg} (high : regAt s (a + 4) = some h) (empty : s.csp.latches = []) :
    latchHi p a s = { s with csp := { s.csp with latches := [(p, a + 4, BitVec.ofNat 32 h.val)] } } :=
  (latchHi_eq high).trans (congrArg (fun ls : List (Path × Nat × Word32) => { s with csp := { s.csp with
    latches := (p, a + 4, BitVec.ofNat 32 h.val) :: ls.filter (fun x => !(x.1 == p && x.2.1 == a + 4)) } }) empty)

end

theorem latched_head {s : State} {p : Path} {a : Nat} {v : Word32} {rest : List (Path × Nat × Word32)} (head : s.csp.latches = (p, a, v) :: rest) :
    latched s p a = some v := by
  unfold latched
  rw [head, List.find?_cons_of_pos (by simp)]
  rfl

/-- The count of violations of memory, as one RC register of an operator. -/
theorem regAt_memViolations (s : State) : regAt s 0x060020 = some { acc := .rc, val := s.mem.violations.toNat } := rfl

theorem execRcRead_memViolations {p : Path} {s : State} (safe : s.flt.safe = false) (booted : 5 ≤ s.boot.phase) (light : s.boot.dark = false)
    (right : holds s p .o = true) (empty : s.csp.latches = []) :
    execRcRead p 0x060020 s = .next { s with
      mem := { s.mem with violations := 0 }
      out := .control p false [BitVec.ofNat 32 s.mem.violations.toNat] :: s.out } := by
  have full : heldBits s p 0x060020 { acc := .rc, val := s.mem.violations.toNat } = BitVec.allOnes 32 := heldBits_full right
  rw [execRcRead_clears (readable_open safe booted light) (regAt_memViolations s) rfl rfl (by rw [full]; decide), full, latched_empty empty,
    BitVec.and_allOnes]
  rfl

theorem regAt_serialLo (s : State) : regAt s 0x000008 = some { val := s.part.serial.toNat % 2 ^ 32, lo := true } := rfl

theorem regAt_serialHi (s : State) : regAt s (0x000008 + 4) = some { val := s.part.serial.toNat / 2 ^ 32 % 2 ^ 32 } := rfl

theorem execLoReadLatch_serial {p : Path} {s : State} (safe : s.flt.safe = false) (booted : 5 ≤ s.boot.phase) (light : s.boot.dark = false)
    (right : holds s p .o = true) (empty : s.csp.latches = []) :
    execLoReadLatch p 0x000008 s = .next { s with
      csp := { s.csp with latches := [(p, 0x00000C, BitVec.ofNat 32 (s.part.serial.toNat / 2 ^ 32 % 2 ^ 32))] }
      out := .control p false [BitVec.ofNat 32 (s.part.serial.toNat % 2 ^ 32)] :: s.out } := by
  have full : heldBits s p 0x000008 { val := s.part.serial.toNat % 2 ^ 32, lo := true } = BitVec.allOnes 32 := heldBits_full right
  rw [execLoReadLatch_latches (readable_open safe booted light) (regAt_serialLo s) (show Acc.ro ≠ Acc.wo by decide) (show Acc.ro ≠ Acc.rc by decide) rfl
      (by rw [full]; decide),
    full, latched_empty empty, BitVec.and_allOnes, latchHi_first (regAt_serialHi s) empty]
  rfl

/-! ### Writes -/

theorem csOpen_iff {s : State} : csOpen s = true ↔ 5 ≤ s.boot.phase ∧ s.flt.safe = false ∧ s.boot.dark = false := by
  unfold csOpen
  simp [and_assoc]

theorem writable_open {s : State} {p : Path} {r : Right} {a : Nat} (right : mayWrite s p r = true) : writable s a = true := by
  unfold mayWrite at right
  obtain ⟨opened, -⟩ := (Bool.and_eq_true _ _).mp right
  obtain ⟨booted, safe, light⟩ := csOpen_iff.mp opened
  unfold writable
  rw [safe, light, decide_eq_true booted]
  rfl

theorem writable_safe {s : State} {a : Nat} (safe : s.flt.safe = true) (notAck : a ≠ 0x100004) (notUnfreeze : a ≠ 0x100028) : writable s a = false := by
  unfold writable
  rw [safe, beq_false_of_ne notAck, beq_false_of_ne notUnfreeze]
  rfl

section
variable {p : Path} {a : Nat} {d : Word32} {s : State}

theorem regWrite_closed (closed : a % 4 ≠ 0 ∨ writable s a = false) : regWrite p a d s = s := if_pos closed

theorem opened_of (aligned : a % 4 = 0) (open_ : writable s a = true) : ¬ (a % 4 ≠ 0 ∨ writable s a = false) := by
  rw [aligned, open_]
  decide

theorem regWrite_selector {bits : Nat} (aligned : a % 4 = 0) (open_ : writable s a = true) (selector : selectorBits a = some bits) :
    regWrite p a d s = if mayWrite s p .o && !selReserved a d then setSel a bits d s else s := by
  unfold regWrite
  rw [if_neg (opened_of aligned open_), selector]

theorem regWrite_staged {sl : Slate} {r : Right} {bits : Word32} (aligned : a % 4 = 0) (open_ : writable s a = true) (plain : selectorBits a = none)
    (staged : slateOf a = some (sl, r, bits)) :
    regWrite p a d s = if mayWrite s p r && !queueBound s sl a then stage p sl a (d &&& bits) s else s := by
  unfold regWrite
  rw [if_neg (opened_of aligned open_), plain, staged]

theorem regWrite_millstone (open_ : writable s 0x06000C = true) :
    regWrite p 0x06000C d s = if mayWrite s p .o && !(decide (12 ≤ fld d 0 4)) then setSel 0x06000C 0xF d s else s :=
  regWrite_selector rfl open_ rfl

theorem regWrite_millstone_reserved (reserved : 12 ≤ fld d 0 4) : regWrite p 0x06000C d s = s := by
  cases open_ : writable s 0x06000C with
  | false => exact regWrite_closed (.inr open_)
  | true =>
    rw [regWrite_millstone open_, decide_eq_true reserved]
    exact if_neg (by simp)

theorem regWrite_millstone_noRight (noRight : mayWrite s p .o = false) : regWrite p 0x06000C d s = s := by
  cases open_ : writable s 0x06000C with
  | false => exact regWrite_closed (.inr open_)
  | true =>
    rw [regWrite_millstone open_, noRight]
    exact if_neg (by simp)

theorem regWrite_millstone_taken (right : mayWrite s p .o = true) (legal : fld d 0 4 < 12) : regWrite p 0x06000C d s = setSel 0x06000C 0xF d s := by
  rw [regWrite_millstone (writable_open right), right, decide_eq_false (Nat.not_le.mpr legal)]
  rfl

theorem regWrite_clapper (open_ : writable s 0x030034 = true) :
    regWrite p 0x030034 d s = if mayWrite s p .i && !queueBound s .tcClapper 0x030034 then stage p .tcClapper 0x030034 (d &&& 0x1FFF) s else s :=
  regWrite_staged rfl open_ rfl rfl

theorem regWrite_clapper_noRight (noRight : mayWrite s p .i = false) : regWrite p 0x030034 d s = s := by
  cases open_ : writable s 0x030034 with
  | false => exact regWrite_closed (.inr open_)
  | true =>
    rw [regWrite_clapper open_, noRight]
    exact if_neg (by simp)

theorem stage_first {sl : Slate} {v : Word32} (empty : s.csp.staged = []) :
    stage p sl a v s = { s with csp := { s.csp with staged := [{ path := p, slate := sl, vals := [(a, v)] }] } } := by
  unfold stage
  rw [empty]
  rfl

theorem regWrite_clapper_staged (right : mayWrite s p .i = true) (empty : s.csp.staged = []) :
    regWrite p 0x030034 d s = { s with csp := { s.csp with staged := [{ path := p, slate := .tcClapper, vals := [(0x030034, d &&& 0x1FFF)] }] } } := by
  rw [regWrite_clapper (writable_open right), right]
  exact stage_first empty

theorem regWrite_dispatch (open_ : writable s 0x070004 = true) :
    regWrite p 0x070004 d s = iWrite p 0x070004 d.toNat (modBlk (fun x => { x with dispatch := d &&& 0xFF03 })) s :=
  (if_neg (opened_of rfl open_)).trans rfl

theorem regWrite_flashAddr (open_ : writable s 0x020060 = true) :
    regWrite p 0x020060 d s = iWrite p 0x020060 d.toNat (modBoot (fun b => { b with flashAddr := d &&& 0x3FFFFFF })) s :=
  (if_neg (opened_of rfl open_)).trans rfl

theorem regWrite_dispatch_noRight (noRight : mayWrite s p .i = false) : regWrite p 0x070004 d s = s := by
  cases open_ : writable s 0x070004 with
  | false => exact regWrite_closed (.inr open_)
  | true => rw [regWrite_dispatch open_, iWrite_refused noRight]

end

/-- Settles O48: reads through `regRead_held`, writes by the kind of the register and the path's right. -/
theorem registersAreReadLatchedClearedAndWritten : Obligations.RegistersAreReadLatchedClearedAndWritten := by
  unfold Obligations.RegistersAreReadLatchedClearedAndWritten
  refine ⟨?rc, ?violations, ?serial, ?latch, ?hidden, ?unheld, ?reserved, ?selector, ?staged, ?dispatch, ?flash, ?closed, ?safe, ?noRight⟩
  case rc => exact fun p a r s open_ reg rc single held => execRcRead_clears open_ reg rc single held
  case violations => exact fun p s safe booted light right empty => execRcRead_memViolations safe booted light right empty
  case serial => exact fun p s safe booted light right empty => execLoReadLatch_serial safe booted light right empty
  case latch =>
    intro p a r h s open_ reg shown keeps low held high
    refine ⟨_, execLoReadLatch_latches open_ reg shown keeps low held, ?_, ?_⟩ <;> rw [latchHi_eq high]
    · exact latched_head rfl
    · rfl
  case hidden => exact fun p a s hidden => regRead_none hidden
  case unheld => exact fun p a r s reg unheld => regRead_unheld reg unheld
  case reserved => exact fun p d s reserved => congrArg Host.Outcome.next (regWrite_millstone_reserved reserved)
  case selector => exact fun p d s right legal => congrArg Host.Outcome.next (regWrite_millstone_taken right legal)
  case staged => exact fun p d s right empty => congrArg Host.Outcome.next (regWrite_clapper_staged right empty)
  case dispatch =>
    exact fun p d s right => congrArg Host.Outcome.next ((regWrite_dispatch (writable_open right)).trans (iWrite_installer right))
  case flash =>
    exact fun p d s right => congrArg Host.Outcome.next ((regWrite_flashAddr (writable_open right)).trans (iWrite_installer right))
  case closed => exact fun p a d s closed => congrArg Host.Outcome.next (regWrite_closed closed)
  case safe =>
    exact fun p a d s safe notAck notUnfreeze => congrArg Host.Outcome.next (regWrite_closed (.inr (writable_safe safe notAck notUnfreeze)))
  case noRight =>
    exact fun p d s noO noI => ⟨congrArg Host.Outcome.next (regWrite_millstone_noRight noO),
      congrArg Host.Outcome.next (regWrite_clapper_noRight noI), congrArg Host.Outcome.next (regWrite_dispatch_noRight noI)⟩

end Sys2Proof.Machine
end


section
/-! SUPPORT. Slates from their commit to their boundary, and the dailies (R452 to R454, R460, R461). -/

namespace Sys2Proof.Machine

open Sys2Proof

/-! ### Commits -/

section
variable {p : Path} {a i sel : Nat} {d : Word32} {sl : Slate} {s : State}

theorem commitWrite_operator (row : commitsOf s a = [(i, .o, sl, sel)]) :
    commitWrite p a d s = if mayWrite s p .o && bit d i then commit p sl sel s else s := by
  unfold commitWrite
  rw [row]
  rfl

theorem commitWrite_installer (row : commitsOf s a = [(i, .i, sl, sel)]) :
    commitWrite p a d s = iWrite p a d.toNat (fun s => if bit d i then commit p sl sel s else s) s := by
  unfold commitWrite
  rw [row]
  rfl

theorem commit_none (empty : s.csp.staged = []) : commit p sl sel s = s := by
  unfold commit
  rw [empty]
  rfl

/-- The one staged set, of the path and the slate, goes whole to the committed ones. -/
theorem commit_only {x : Staged} (only : s.csp.staged = [x]) (path : x.path = p) (slate : x.slate = sl) :
    commit p sl sel s = { s with csp := { s.csp with
      staged := []
      committed := s.csp.committed ++ [{ path := p, slate := sl, sel := sel, vals := x.vals, tick := s.now, role := roleCode (pathRole s p), key := pathKey s p }] } } := by
  have own : (x.path == p && x.slate == sl) = true := by rw [path, slate]; simp
  have found : s.csp.staged.find? (fun x => x.path == p && x.slate == sl) = some x := by
    rw [only]
    exact List.find?_cons_of_pos own
  have rest : s.csp.staged.filter (fun y => !(y.path == p && y.slate == sl)) = [] := by
    rw [only]
    exact List.filter_cons_of_neg (by rw [own]; decide)
  unfold commit modCsp
  rw [found]
  dsimp only
  rw [rest]

end

theorem execSlateCommit_open {p : Path} {a : Nat} {d : Word32} {s : State} (open_ : writable s a = true) :
    execSlateCommit p a d s = .next (commitWrite p a d s) := congrArg Host.Outcome.next (if_pos open_)

theorem commitsOf_job (s : State) : commitsOf s 0x0100FC = [(0, .o, .roleJob, selOf s 0x010040 8)] := rfl

theorem commitsOf_clapper (s : State) : commitsOf s 0x0300FC = [(0, .i, .tcClapper, 0)] := rfl

theorem execSlateCommit_job {p : Path} {s : State} (right : mayWrite s p .o = true) :
    execSlateCommit p 0x0100FC 1 s = .next (commit p .roleJob (selOf s 0x010040 8) s) := by
  rw [execSlateCommit_open (writable_open right), commitWrite_operator (commitsOf_job s), right]
  rfl

theorem execSlateCommit_job_noRight {p : Path} {d : Word32} {s : State} (noRight : mayWrite s p .o = false) : execSlateCommit p 0x0100FC d s = .next s := by
  refine congrArg Host.Outcome.next ?_
  rw [commitWrite_operator (commitsOf_job s), noRight]
  exact ite_self s

theorem execSlateCommit_clapper {p : Path} {s : State} (right : mayWrite s p .i = true) :
    execSlateCommit p 0x0300FC 1 s = .next (audit (some p) 0x10 0x0300FC 1 (commit p .tcClapper 0 s)) := by
  rw [execSlateCommit_open (writable_open right), commitWrite_installer (commitsOf_clapper s), iWrite_installer right]
  rfl

/-! ### Boundaries -/

section
variable {c : CommitSet} {s : State} (only : s.csp.committed = [c])
include only

/-- A set at its boundary leaves the committed ones and takes effect or not (R454). -/
theorem slateApply_due (safe : s.flt.safe = false) (light : s.boot.dark = false) (due : c.tick + 1000 ≤ s.tc.lastBoundary) :
    slateApply s = applySet c { s with csp := { s.csp with committed := [] } } := by
  have sets : s.csp.committed.filter (fun c => decide (c.tick + 1000 ≤ s.tc.lastBoundary)) = [c] := by
    rw [only]
    exact List.filter_cons_of_pos (decide_eq_true due)
  have rest : s.csp.committed.filter (fun c => !decide (c.tick + 1000 ≤ s.tc.lastBoundary)) = [] := by
    rw [only]
    exact List.filter_cons_of_neg (by rw [decide_eq_true due]; decide)
  unfold slateApply modCsp
  rw [safe, light]
  dsimp only
  rw [sets, rest]
  rfl

theorem slateApply_waits (later : s.tc.lastBoundary < c.tick + 1000) : slateApply s = s := by
  have late : decide (c.tick + 1000 ≤ s.tc.lastBoundary) = false := decide_eq_false (Nat.not_le.mpr later)
  have sets : s.csp.committed.filter (fun c => decide (c.tick + 1000 ≤ s.tc.lastBoundary)) = [] := by
    rw [only]
    exact List.filter_cons_of_neg (by rw [late]; decide)
  have rest : s.csp.committed.filter (fun c => !decide (c.tick + 1000 ≤ s.tc.lastBoundary)) = s.csp.committed := by
    rw [only]
    exact List.filter_cons_of_pos (by rw [late]; decide)
  unfold slateApply modCsp
  dsimp only
  rw [sets, rest]
  exact ite_self s

end

theorem applySet_legal {c : CommitSet} {s : State} (legal : setLegal s c = true) : applySet c s = applyEffect c (auditSet c s) := if_pos legal

theorem applySet_illegal {c : CommitSet} {s : State} (illegal : setLegal s c = false) : applySet c s = s := if_neg (by rw [illegal]; decide)

/-- A set of one value is judged by that value. -/
theorem setLegal_one {c : CommitSet} {a : Nat} {v : Word32} (s : State) (one : c.vals = [(a, v)]) : setLegal s c = valueLegal s a v := by
  unfold setLegal
  rw [one]
  exact Bool.and_true _

theorem CommitSet.at_one {c : CommitSet} {a : Nat} {v : Word32} (one : c.vals = [(a, v)]) : c.at a = some v.toNat := by
  unfold CommitSet.at
  rw [one, List.find?_cons_of_pos (by simp)]
  rfl

theorem applySet_clapper {c : CommitSet} {v : Word32} {s : State} (slate : c.slate = .tcClapper) (one : c.vals = [(0x030034, v)]) (legal : v ≠ 0x1000) :
    applySet c s = modTc (fun t => { t with clapOffset := sgn 13 v.toNat })
      (pushAudit { role := c.role, session := auditSession c.path, action := 0x10, object := 0x030034, detail := v.setWidth 64, key := c.key } s) := by
  have audited : auditSet c s
      = pushAudit { role := c.role, session := auditSession c.path, action := 0x10, object := 0x030034, detail := v.setWidth 64, key := c.key } s := by
    unfold auditSet
    rw [slate, one]
    rfl
  rw [applySet_legal ((setLegal_one s one).trans (bne_iff_ne.mpr legal)), audited]
  unfold applyEffect
  rw [slate, CommitSet.at_one one]

theorem applySet_jobCap {c : CommitSet} {s : State} (slate : c.slate = .gafJobCap) (one : c.vals = [(0x0F0034, 200)]) :
    applySet c s = divide (modGaf (fun g => { g with jobCap := tset 0xFFF g.jobCap c.sel 200 }) s) := by
  have audited : auditSet c s = s := by
    unfold auditSet
    rw [slate]
    rfl
  rw [applySet_legal ((setLegal_one s one).trans rfl), audited]
  unfold applyEffect
  rw [slate, CommitSet.at_one one]
  rfl

/-! ### Dailies -/

theorem sat32_zero (w : Word32) : sat32 w 0 = w := by
  unfold sat32
  rw [if_neg (show ¬ (2 ^ 32 ≤ w.toNat + 0) from Nat.not_le.mpr w.isLt)]
  exact BitVec.add_zero w

section
variable {s : State}

/-- The state once the milliseconds that went by are counted as missed (R460). -/
def dailyCounted (s : State) : State :=
  modTel (fun t => { t with
    done := s.tc.timecode.toNat / 1000000
    missed := sat32 t.missed (s.tc.timecode.toNat / 1000000 - s.tel.done - 1) }) s

theorem daily_early (early : s.tc.timecode.toNat / 1000000 ≤ s.tel.done) : daily s = s :=
  if_pos (by rw [decide_eq_true early, Bool.or_true])

theorem daily_runs (runs : telRuns s = true) (later : s.tel.done < s.tc.timecode.toNat / 1000000) :
    daily s = if bankFenced s 7 then modTel (fun t => { t with missed := sat32 t.missed 1 }) (dailyCounted s)
      else modTel (fun t => { t with seq := s.tel.seq + 1, head := (t.head + 1) % 64 })
        (dailyWrite (dailyCounted s) (s.tel.seq + 1) (dailyBase s.tel.head) 253 (ownerTurn 4 0 7 (dailyCounted s))) :=
  if_neg (by rw [runs, decide_eq_false (Nat.not_le.mpr later)]; decide)

/-- The first millisecond after the last daily leaves nothing missed. -/
theorem dailyCounted_next (next : s.tc.timecode.toNat / 1000000 = s.tel.done + 1) :
    dailyCounted s = { s with tel := { s.tel with done := s.tc.timecode.toNat / 1000000 } } := by
  have none_ : sat32 s.tel.missed (s.tc.timecode.toNat / 1000000 - s.tel.done - 1) = s.tel.missed := by
    rw [show s.tc.timecode.toNat / 1000000 - s.tel.done - 1 = 0 by omega, sat32_zero]
  exact congrArg (fun m => { s with tel := { s.tel with done := s.tc.timecode.toNat / 1000000, missed := m } }) none_

end

/-- The lines of a daily leave telemetry's own state. -/
theorem dailyWrite_tel (old : State) (seq : Word64) (base : Nat) (s : State) :
    (dailyWrite old seq base 253 (ownerTurn 4 0 7 s)).tel = s.tel :=
  ((dailyWrite_keep old seq base 253 (ownerTurn 4 0 7 s)).tel rfl).trans ((ownerTurn_keep 4 0 7 s).tel rfl)

/-- Settles O49: commits by row, boundaries by `slateApply_due`, dailies by `daily_runs`. -/
theorem slatesCommitAndApplyAndDailiesAreWritten : Obligations.SlatesCommitAndApplyAndDailiesAreWritten := by
  unfold Obligations.SlatesCommitAndApplyAndDailiesAreWritten
  refine ⟨?job, ?clapper, ?nothing, ?noRight, ?offset, ?ignored, ?waits, ?cap, ?written, ?fenced, ?early⟩
  case job => exact fun p x s right only path slate => (execSlateCommit_job right).trans (congrArg Host.Outcome.next (commit_only only path slate))
  case clapper =>
    intro p x s right only path slate
    exact (execSlateCommit_clapper right).trans (congrArg (fun u => Host.Outcome.next (audit (some p) 0x10 0x0300FC 1 u)) (commit_only only path slate))
  case nothing => exact fun p s right empty => (execSlateCommit_job right).trans (congrArg Host.Outcome.next (commit_none empty))
  case noRight => exact fun p d s noRight => execSlateCommit_job_noRight noRight
  case offset =>
    rintro c v u s safe light only due slate one legal rfl
    exact congrArg Host.Outcome.next ((slateApply_due only safe light due).trans (applySet_clapper slate one legal))
  case ignored =>
    intro c s safe light only due illegal
    exact congrArg Host.Outcome.next ((slateApply_due only safe light due).trans (applySet_illegal illegal))
  case waits => exact fun c s only later => congrArg Host.Outcome.next (slateApply_waits only later)
  case cap =>
    intro c s safe light only due slate one
    exact congrArg Host.Outcome.next ((slateApply_due only safe light due).trans (applySet_jobCap slate one))
  case written =>
    intro s runs next free
    refine ⟨_, _, rfl, rfl, congrArg Host.Outcome.next ?_⟩
    rw [daily_runs runs (by omega), free, dailyCounted_next next]
    unfold modTel
    rw [dailyWrite_tel]
    rfl
  case fenced =>
    intro s runs later fenced
    refine ⟨_, congrArg Host.Outcome.next (daily_runs runs later), ?_⟩
    rw [fenced]
    exact ⟨rfl, rfl, rfl⟩
  case early => exact fun s early => congrArg Host.Outcome.next (daily_early early)

end Sys2Proof.Machine
end


section
/-! SUPPORT. Reels: their frames, their splices, their starts and their swaps (R47 to R54, R59, R97 to R100). -/

namespace Sys2Proof.Machine

open Sys2Proof

/-! ### What fetching for a frame leaves -/

/-- The circuits lit, the state of the next slot, and the pins. -/
def reelShown (s : State) : List Circuit × SlotState × Pins := (s.slu.lit, s.slu.next, s.pins)

theorem poolRead_pins (off : Nat) (v : Verdict) (s : State) : (poolRead off v s).2.pins = s.pins := by
  have stack : (stackRead off v s).2.pins = s.pins := (stackRead_keep off v s).pins rfl
  simp only [poolRead, poolCheck]
  split
  · split
    · exact stack
    · rw [raise_mild (by decide)]
      exact stack
  · rw [(modMs_keep _ _ _).pins rfl, stack]
  · exact stack

theorem poolRead_reelShown (off : Nat) (v : Verdict) (s : State) : reelShown (poolRead off v s).2 = reelShown s := by
  unfold reelShown
  rw [poolRead_pins, (poolRead_keep off v s).slu rfl]

theorem fetchLines_reelShown (errs : List (Nat × Verdict)) (st sel m : Nat) (d : FeedDef) :
    ∀ (n : Nat) (s : State), reelShown (fetchLines errs st sel m d n s) = reelShown s
  | 0, _ => rfl
  | n + 1, s => by
    rw [fetchLines]
    split
    · rfl
    · exact (fetchLines_reelShown errs st sel m d n _).trans (poolRead_reelShown _ _ _)

theorem fetchFrame_reelShown (slot k : Nat) (short : List (Nat × Nat × Nat)) (errs : List (Nat × Verdict)) (s : State) :
    reelShown (fetchFrame slot k short errs s) = reelShown s := by
  unfold fetchFrame
  refine foldl_keeps reelShown (fun s m => ?_) _ s
  dsimp only
  split
  · rfl
  · refine foldl_keeps reelShown (fun s sel => ?_) _ s
    split
    · exact fetchLines_reelShown _ _ _ _ _ _ _
    · rfl

/-! ### Frames -/

theorem modTc_slack {s u : State} (f : Tc → Tab Slack) (same : u.tc = s.tc) :
    ∃ y, (modTc (fun t => { t with slack := f t }) u).tc = { s.tc with slack := y } :=
  ⟨f s.tc, by unfold modTc; rw [same]⟩

theorem slackMeasure_tc (len : Nat) (x : SlackSample) (s : State) : ∃ y, (slackMeasure len x s).tc = { s.tc with slack := y } := by
  unfold slackMeasure
  split
  · exact ⟨s.tc.slack, rfl⟩
  · refine modTc_slack _ ?_
    split
    · rfl
    · exact (standEnd_keep _ _ _ _).tc rfl

theorem slackMeasures_tc (len : Nat) : ∀ (xs : List SlackSample) (s : State),
    ∃ y, (xs.foldl (fun s x => slackMeasure len x s) s).tc = { s.tc with slack := y }
  | [], s => ⟨s.tc.slack, rfl⟩
  | x :: xs, s => by
    obtain ⟨y, first⟩ := slackMeasure_tc len x s
    obtain ⟨z, rest⟩ := slackMeasures_tc len xs (slackMeasure len x s)
    exact ⟨z, rest.trans (by rw [first])⟩

/-- The step of the frame's numbers at its boundary. -/
theorem boundary_tc {k start : Nat} {s u : State} (before : ∃ y, u.tc = { s.tc with slack := y }) :
    ∃ y, (modTc (fun t => { t with frame := k + 1, frameNo := t.frameNo + 1, lastBoundary := start }) u).tc
      = { s.tc with frame := k + 1, frameNo := s.tc.frameNo + 1, lastBoundary := start, slack := y } := by
  obtain ⟨y, before⟩ := before
  refine ⟨y, ?_⟩
  unfold modTc
  rw [before]

/-- A frame moves only the frame's numbers and the slack measured in the timecode block (R51, R60). -/
theorem beginFrame_tc (env : FrameEnv) (s : State) : ∃ y, (beginFrame env s).tc = { s.tc with
    frame := s.tc.frame + 1
    frameNo := s.tc.frameNo + 1
    lastBoundary := s.tc.passStart + s.tc.frame * frameLen s s.tc.activeSlot
    slack := y } := by
  unfold beginFrame
  dsimp only
  rw [(streamDrain_keep _).tc rfl, (syncStreams_keep _).tc rfl, (mstFrame_keep _).tc rfl]
  refine boundary_tc ?_
  rw [(fetchFrame_keep _ _ _ _ _).tc rfl, (accFrame_keep _).tc rfl, (mstSent_keep _ _).tc rfl, (gripFlow_keep _).tc rfl, (gripSent_keep _ _).tc rfl,
    foldl_keeps (fun u => u.tc) ?gaps, foldl_keeps (fun u => u.tc) ?returns, foldl_keeps (fun u => u.tc) ?sends]
  case gaps =>
    intro u f
    split
    · exact (gapDrop_keep _ _ _).tc rfl
    · rfl
  case returns => exact fun u c => (readReturn_keep _ _ _).tc rfl
  case sends => exact fun u st => foldl_keeps (fun u => u.tc) (fun u p => (transmit_keep _ _ _ _ _ _).tc rfl) _ u
  obtain ⟨y, measured⟩ := slackMeasures_tc (frameLen s s.tc.activeSlot) env.slack
    (((env.slack.filter (fun x => !x.prepared)).map (·.station)).foldl (fun s st => slackMissAt st s) (darken s))
  refine ⟨y, measured.trans ?_⟩
  rw [foldl_keeps (fun u => u.tc) (fun u st => (slackMissAt_keep _ _).tc rfl), (darken_keep s).tc rfl]

theorem frameBoundary_active {env : FrameEnv} {s : State} (safe : s.flt.safe = false) (active : reelActive s = true)
    (left : s.tc.frame < passFrames s s.tc.activeSlot) (due : s.tc.passStart + s.tc.frame * frameLen s s.tc.activeSlot ≤ s.now) :
    frameBoundary env s = beginFrame env s := by
  unfold frameBoundary
  rw [if_neg (by rw [safe]; decide), if_pos active, if_pos ⟨left, due⟩]

/-- The boundary of no reel: every 2,048 ticks of the timecode (R454). -/
theorem frameBoundary_idle {env : FrameEnv} {s : State} (safe : s.flt.safe = false) (idle : reelActive s = false)
    (due : s.tc.idleDone < s.tc.timecode.toNat / 2048) :
    frameBoundary env s
      = mstFrame (modTc (fun t => { t with idleDone := t.timecode.toNat / 2048, frameNo := t.frameNo + 1, lastBoundary := s.now }) (accFrame s)) := by
  unfold frameBoundary
  rw [safe, idle]
  exact if_pos due

theorem frameBoundary_idle_fields {env : FrameEnv} {s : State} (safe : s.flt.safe = false) (idle : reelActive s = false)
    (due : s.tc.idleDone < s.tc.timecode.toNat / 2048) :
    ∃ t, frameBoundary env s = t
      ∧ t.tc = { s.tc with idleDone := s.tc.timecode.toNat / 2048, frameNo := s.tc.frameNo + 1, lastBoundary := s.now }
      ∧ t.slu = s.slu ∧ t.pod = s.pod ∧ t.tsi = s.tsi ∧ t.out = s.out := by
  refine ⟨_, frameBoundary_idle safe idle due, ?_, ?_, ?_, ?_, ?_⟩
  · rw [(mstFrame_keep _).tc rfl]
    unfold modTc
    rw [(accFrame_keep s).tc rfl]
  · exact ((mstFrame_keep _).slu rfl).trans ((accFrame_keep s).slu rfl)
  · exact ((mstFrame_keep _).pod rfl).trans ((accFrame_keep s).pod rfl)
  · exact ((mstFrame_keep _).tsi rfl).trans ((accFrame_keep s).tsi rfl)
  · exact ((mstFrame_keep _).out rfl).trans ((accFrame_keep s).out rfl)

/-! ### Passes -/

theorem sourcePulse_out {t : Nat} {s : State} (source : s.tc.clapMode = 2) :
    (sourcePulse t s).pins.clapOut = true ∧ (sourcePulse t s).tc.clapFall = some (t + 16) := by
  unfold sourcePulse
  rw [if_pos source]
  exact ⟨rfl, rfl⟩

/-- A pass begins in the dark and leaves the next slot as it was. -/
theorem beginPass_reel (t : Nat) (s : State) : (beginPass t s).slu.lit = [] ∧ (beginPass t s).slu.next = s.slu.next := by
  unfold beginPass
  dsimp only
  rw [(syncStreams_keep _).slu rfl]
  generalize pulsed : sourcePulse t _ = u
  have same : u.slu = { s.slu with lit := [] } := by
    rw [← pulsed]
    exact (sourcePulse_keep _ _).slu rfl
  have shown : reelShown (prefetch u) = reelShown u := fetchFrame_reelShown _ _ _ _ _
  obtain ⟨lit, rest⟩ := Prod.mk.inj shown
  obtain ⟨next, -⟩ := Prod.mk.inj rest
  rw [lit, next, same]
  exact ⟨rfl, rfl⟩

/-- In source mode a pass begins with the pulse on CLAP_OUT (R55). -/
theorem beginPass_pulse {t : Nat} {s : State} (source : s.tc.clapMode = 2) :
    (beginPass t s).pins.clapOut = true ∧ (beginPass t s).tc.clapFall = some (t + 16) := by
  unfold beginPass
  dsimp only
  rw [(syncStreams_keep _).pins rfl, (syncStreams_keep _).tc rfl, (prefetch_keep _).tc rfl]
  generalize pulsed : sourcePulse t _ = u
  have out : u.pins.clapOut = true ∧ u.tc.clapFall = some (t + 16) := by
    rw [← pulsed]
    exact sourcePulse_out source
  have shown : reelShown (prefetch u) = reelShown u := fetchFrame_reelShown _ _ _ _ _
  obtain ⟨-, rest⟩ := Prod.mk.inj shown
  obtain ⟨-, pins⟩ := Prod.mk.inj rest
  rw [pins]
  exact out

/-! ### Splices -/

/-- The pass that the splice ends, counted (R51). -/
def passCounted (s : State) : State := modTc (fun t => { t with passCount := t.passCount + 1, spliceTime := t.timecode }) s

section
variable {s : State} (safe : s.flt.safe = false) (ended : passFrames s s.tc.activeSlot ≤ s.tc.frame)
  (due : s.tc.passStart + passFrames s s.tc.activeSlot * frameLen s s.tc.activeSlot + s.tc.spliceLen ≤ s.now)
include safe ended due

theorem spliceDue_of (active : reelActive s = true) :
    ¬ ((s.flt.safe || !reelActive s || decide (s.tc.frame < passFrames s s.tc.activeSlot)
      || decide (s.now < s.tc.passStart + passFrames s s.tc.activeSlot * frameLen s s.tc.activeSlot + s.tc.spliceLen)) = true) := by
  rw [safe, active, decide_eq_false (Nat.not_lt.mpr ended), decide_eq_false (Nat.not_lt.mpr due)]
  decide

theorem splice_running (running : s.tc.reel = .running) (unarmed : s.tc.swapArm = false) :
    splice s = routeSwap (beginPass (nextSplice s) (undarken (passCounted s))) := by
  have active : reelActive s = true := by
    unfold reelActive
    rw [running]
    rfl
  have goesOn : ¬ (passCounted s).tc.reel = .stopping := by
    show ¬ s.tc.reel = .stopping
    rw [running]
    decide
  have unready : swapReady (passCounted s) (nextSplice s) = false := by
    unfold swapReady
    rw [show (passCounted s).tc.swapArm = s.tc.swapArm from rfl, unarmed]
    rfl
  refine (if_neg (spliceDue_of safe ended due active)).trans ((if_neg goesOn).trans ?_)
  exact congrArg (fun u => routeSwap (beginPass (nextSplice s) (undarken u))) (if_neg (show ¬ swapReady (passCounted s) (nextSplice s) = true by rw [unready]; decide))

theorem splice_stopping (stopping : s.tc.reel = .stopping) :
    splice s = routeSwap (undarken (endReel (sourcePulse (nextSplice s) (passCounted s)))) := by
  have active : reelActive s = true := by
    unfold reelActive
    rw [stopping]
    rfl
  exact (if_neg (spliceDue_of safe ended due active)).trans (if_pos stopping)

theorem splice_running_fields (running : s.tc.reel = .running) (unarmed : s.tc.swapArm = false) :
    ∃ t, splice s = t
      ∧ t.tc.passStart = nextSplice s ∧ t.tc.frame = 0 ∧ t.tc.spliceNo = s.tc.spliceNo + 1 ∧ t.tc.passCount = s.tc.passCount + 1
      ∧ t.tc.spliceTime = s.tc.timecode ∧ t.tc.spliceLen = (16 + tget 0 s.tc.pulls (s.tc.spliceNo + 1)).toNat
      ∧ t.tc.reel = .running ∧ t.tc.activeSlot = s.tc.activeSlot ∧ t.slu.lit = []
      ∧ (s.tc.clapMode = 2 → t.pins.clapOut = true ∧ t.tc.clapFall = some (t.tc.passStart + 16)) := by
  refine ⟨_, splice_running safe ended due running unarmed, ?_⟩
  obtain ⟨x, begun⟩ := beginPass_tc (nextSplice s) (undarken (passCounted s))
  obtain ⟨dark, -⟩ := beginPass_reel (nextSplice s) (undarken (passCounted s))
  have pulse := beginPass_pulse (t := nextSplice s) (s := undarken (passCounted s))
  rw [(routeSwap_keep _).tc rfl, (routeSwap_keep _).slu rfl, (routeSwap_keep _).pins rfl]
  generalize beginPass (nextSplice s) (undarken (passCounted s)) = b at begun dark pulse ⊢
  have began : b.tc.passStart = nextSplice s := by rw [begun]
  refine ⟨began, ?_, ?_, ?_, ?_, ?_, ?_, ?_, dark, fun source => ?_⟩
  case refine_8 =>
    rw [began]
    exact pulse source
  all_goals rw [begun]
  · rfl
  · rfl
  · rfl
  · rfl
  · exact running
  · rfl

theorem splice_stopping_fields (stopping : s.tc.reel = .stopping) :
    ∃ t, splice s = t
      ∧ t.tc = { s.tc with
          passCount := s.tc.passCount + 1
          spliceTime := s.tc.timecode
          reel := .noReel
          kept := true
          frame := 0
          clapSeen := []
          clapFall := t.tc.clapFall
          pulls := []
          idleDone := s.tc.timecode.toNat / 2048 }
      ∧ t.slu.lit = [] ∧ t.mem = s.mem ∧ (s.tc.clapMode = 2 → t.pins.clapOut = true) := by
  refine ⟨_, splice_stopping safe ended due stopping, ?_⟩
  obtain ⟨x, pulsed⟩ := sourcePulse_fields (nextSplice s) (passCounted s)
  have mem : (sourcePulse (nextSplice s) (passCounted s)).mem = s.mem := (sourcePulse_keep _ _).mem rfl
  have out := fun source => (sourcePulse_out (t := nextSplice s) (s := passCounted s) source).1
  rw [(routeSwap_keep _).tc rfl, (routeSwap_keep _).slu rfl, (routeSwap_keep _).pins rfl, (routeSwap_keep _).mem rfl]
  generalize sourcePulse (nextSplice s) (passCounted s) = u at pulsed mem out ⊢
  refine ⟨?_, rfl, mem, out⟩
  show (endReel u).tc = { s.tc with
    passCount := s.tc.passCount + 1
    spliceTime := s.tc.timecode
    reel := .noReel
    kept := true
    frame := 0
    clapSeen := []
    clapFall := u.tc.clapFall
    pulls := []
    idleDone := s.tc.timecode.toNat / 2048 }
  unfold endReel modSlu modTc
  rw [pulsed]
  rfl

end

/-! ### Starts -/

theorem exchange_tc (s : State) : (exchange s).tc = { s.tc with
    activeSlot := 1 - s.tc.activeSlot, swapArm := false, swapDeferred := false, kept := false, passCount := 0 } := by
  unfold exchange
  dsimp only
  refine ((contChange_keep _ _ ?enrolled).tc rfl).trans ?_
  case enrolled => exact fun _ => List.prefix_rfl
  unfold modSlu modTc
  rw [(carryOver_keep s).tc rfl]

theorem exchange_next (s : State) : (exchange s).slu.next = .empty := by
  unfold exchange
  dsimp only
  refine (congrArg (·.next) ((contChange_keep _ _ ?enrolled).slu rfl)).trans ?_
  case enrolled => exact fun _ => List.prefix_rfl
  rfl

section
variable {s : State}

theorem startReel_follow (follow : s.tc.clapMode = 1) :
    startReel s = clapStart (modTc (fun t => { t with reel := .waiting, startWait := some s.now, startRefused := false }) s) := if_pos follow

theorem startReel_free (free : s.tc.clapMode ≠ 1) :
    startReel s = beginPass s.now (undarken (modTc (fun t => { t with reel := .running, startRefused := false, kept := false, run := 0 }) s)) :=
  if_neg free

/-- In follow mode the reel waits for its pulse (R59). -/
theorem startReel_follow_fields (follow : s.tc.clapMode = 1) :
    (startReel s).tc = { s.tc with
      reel := .waiting, startWait := some s.now, startRefused := false
      clapState := .acquiring, run := 0, relock := 0, clapSeen := [], closeNo := s.tc.spliceNo + 1, pulls := [] }
    ∧ (startReel s).slu = s.slu ∧ (startReel s).mem = s.mem := by
  rw [startReel_follow follow]
  unfold clapStart
  rw [(standEnd_keep _ _ _ _).tc rfl, (standEnd_keep _ _ _ _).slu rfl, (standEnd_keep _ _ _ _).mem rfl]
  exact ⟨rfl, rfl, rfl⟩

/-- In the other modes the first pass begins now (R54). -/
theorem startReel_free_fields (free : s.tc.clapMode ≠ 1) :
    (startReel s).tc.reel = .running ∧ (startReel s).tc.passStart = s.now ∧ (startReel s).tc.frame = 0
    ∧ (startReel s).tc.spliceTime = s.tc.timecode ∧ (startReel s).tc.passCount = s.tc.passCount
    ∧ (startReel s).tc.activeSlot = s.tc.activeSlot ∧ (startReel s).tc.startRefused = false ∧ (startReel s).tc.kept = false
    ∧ (startReel s).slu.next = s.slu.next := by
  rw [startReel_free free]
  obtain ⟨-, next⟩ := beginPass_reel s.now (undarken (modTc (fun t => { t with reel := .running, startRefused := false, kept := false, run := 0 }) s))
  obtain ⟨x, begun⟩ := beginPass_tc s.now (undarken (modTc (fun t => { t with reel := .running, startRefused := false, kept := false, run := 0 }) s))
  rw [next, begun]
  exact ⟨rfl, rfl, rfl, rfl, rfl, rfl, rfl, rfl, rfl⟩

/-- A reel that names no owned station may start, and any reel in table mode. -/
theorem notOwned_of_allowed {table owned : Bool} (allowed : (table || !owned) = true) : ¬ (!table && owned) = true := by
  cases table <;> cases owned <;> simp at allowed ⊢

theorem reelStart_taken (none_ : s.tc.reel = .noReel) (passed : s.slu.next = .passed)
    (allowed : (s.slu.tableMode || !reelOwned s (1 - s.tc.activeSlot)) = true) : reelStart s = startReel (pointersFirst (exchange s)) :=
  (if_neg (not_not_intro none_)).trans ((if_pos passed).trans (if_neg (notOwned_of_allowed allowed)))

theorem reelStart_kept (none_ : s.tc.reel = .noReel) (empty : s.slu.next = .empty) (kept : s.tc.kept = true)
    (allowed : (s.slu.tableMode || !reelOwned s s.tc.activeSlot) = true) : reelStart s = startReel (pointersFirst s) := by
  have unchecked : s.slu.next ≠ .passed := by rw [empty]; decide
  exact (if_neg (not_not_intro none_)).trans ((if_neg unchecked).trans ((if_pos ⟨empty, kept⟩).trans (if_neg (notOwned_of_allowed allowed))))

theorem reelStart_refused (active : s.tc.reel ≠ .noReel) : reelStart s = modTc (fun t => { t with startRefused := true }) s := if_pos active

theorem reelStop_running (running : s.tc.reel = .running) : reelStop s = modTc (fun t => { t with reel := .stopping }) s := by
  unfold reelStop
  rw [running]

/-! ### Swaps -/

theorem swapArm_waits (none_ : s.slu.swap = .none) (passed : s.slu.next = .passed) (slots : s.slu.tableMode = false)
    (unowned : s.slu.affected.any (stationOwned s) = false) :
    swapArm s = { s with
      tc := { s.tc with swapArm := true, armTick := s.now }
      slu := { s.slu with swap := .waiting, reason := 0, drained := s.now } } := by
  unfold swapArm
  rw [if_neg (by rw [none_]; decide), if_neg (not_not_intro passed), if_neg (by rw [unowned]; simp)]
  exact if_neg (by rw [slots]; decide)

theorem swapArm_unchecked (none_ : s.slu.swap = .none) (unchecked : s.slu.next ≠ .passed) :
    swapArm s = { s with
      tc := { s.tc with swapArm := false }
      slu := { s.slu with swap := .refused, reason := 2 } } := by
  unfold swapArm
  rw [if_neg (by rw [none_]; decide)]
  exact if_pos unchecked

/-- With no affected station the drain ends at once (R100). -/
theorem drainEnd_unaffected (draining : s.slu.swap = .draining) (unaffected : s.slu.affected = []) :
    drainEnd s = { s with slu := { s.slu with swap := .waiting, drained := s.now } } := by
  unfold drainEnd
  rw [if_neg (not_not_intro draining), unaffected]
  exact if_pos rfl

theorem execSwapCancel_armed {p : Path} (right : mayWrite s p .o = true) (armed : s.slu.swap = .draining ∨ s.slu.swap = .waiting) :
    execSwapCancel p s = .next { s with
      tc := { s.tc with swapArm := false, swapDeferred := false }
      slu := { s.slu with swap := .none, reason := 3 } } :=
  congrArg Host.Outcome.next ((if_pos right).trans ((if_pos armed).trans (withdraw_armed armed)))

end

/-- Settles O2: frames by `beginFrame_tc`, splices and starts by what a pass that begins leaves. -/
theorem reelsStartRunSwapAndStop : Obligations.ReelsStartRunSwapAndStop := by
  unfold Obligations.ReelsStartRunSwapAndStop
  refine ⟨?frame, ?idle, ?splice, ?stop, ?start, ?again, ?refused, ?stopping, ?arm, ?unchecked, ?cancel, ?drained⟩
  case frame =>
    intro env s safe active left due
    obtain ⟨y, numbers⟩ := beginFrame_tc env s
    refine ⟨_, congrArg Host.Outcome.next (frameBoundary_active safe active left due), ?_⟩
    rw [numbers]
  case idle =>
    intro env s safe idle due
    obtain ⟨t, next, fields⟩ := frameBoundary_idle_fields (env := env) safe idle due
    exact ⟨t, congrArg Host.Outcome.next next, fields⟩
  case splice =>
    intro s safe running ended unarmed due
    obtain ⟨t, next, fields⟩ := splice_running_fields safe ended due running unarmed
    exact ⟨t, congrArg Host.Outcome.next next, fields⟩
  case stop =>
    intro s safe stopping ended due
    obtain ⟨t, next, fields⟩ := splice_stopping_fields safe ended due stopping
    exact ⟨t, congrArg Host.Outcome.next next, fields⟩
  case start =>
    intro p s right none_ passed allowed
    refine ⟨_, congrArg Host.Outcome.next ((if_pos right).trans (reelStart_taken none_ passed allowed)), ?_⟩
    have tc : (pointersFirst (exchange s)).tc = _ := exchange_tc s
    have next : (pointersFirst (exchange s)).slu.next = .empty := exchange_next s
    have now : (pointersFirst (exchange s)).now = s.now := (exchange_keep s).now rfl
    generalize pointersFirst (exchange s) = u at tc next now ⊢
    have mode : u.tc.clapMode = s.tc.clapMode := by rw [tc]
    by_cases follow : s.tc.clapMode = 1
    · obtain ⟨waits, slu, -⟩ := startReel_follow_fields (mode.trans follow)
      rw [waits, slu, next, tc, now]
      exact ⟨rfl, rfl, rfl, rfl, fun _ => ⟨rfl, rfl, rfl⟩, fun free => absurd follow free⟩
    · obtain ⟨reel, passStart, frame, spliceTime, -, slot, refused, kept, same⟩ := startReel_free_fields (fun f => follow (mode.symm.trans f))
      rw [slot, refused, kept, same, reel, passStart, frame, spliceTime, next, now, tc]
      exact ⟨rfl, rfl, rfl, rfl, fun f => absurd f follow, fun _ => ⟨rfl, rfl, rfl, rfl⟩⟩
  case again =>
    intro p s right none_ empty kept allowed
    refine ⟨_, congrArg Host.Outcome.next ((if_pos right).trans (reelStart_kept none_ empty kept allowed)), ?_⟩
    by_cases follow : s.tc.clapMode = 1
    · obtain ⟨waits, slu, mem⟩ := startReel_follow_fields (s := pointersFirst s) follow
      rw [waits, slu, mem]
      exact ⟨rfl, rfl, fun _ => ⟨rfl, rfl, rfl, rfl⟩, fun free => absurd follow free⟩
    · obtain ⟨reel, passStart, frame, -, count, slot, refused, -, -⟩ := startReel_free_fields (s := pointersFirst s) follow
      rw [slot, refused, reel, passStart, frame, count]
      exact ⟨rfl, rfl, fun f => absurd f follow, fun _ => ⟨rfl, rfl, rfl, rfl⟩⟩
  case refused => exact fun p s right active => congrArg Host.Outcome.next ((if_pos right).trans (reelStart_refused active))
  case stopping => exact fun p s right running => congrArg Host.Outcome.next ((if_pos right).trans (reelStop_running running))
  case arm =>
    exact fun p s right none_ passed slots unowned =>
      congrArg Host.Outcome.next ((if_pos right).trans (swapArm_waits none_ passed slots unowned))
  case unchecked => exact fun p s right none_ unchecked => congrArg Host.Outcome.next ((if_pos right).trans (swapArm_unchecked none_ unchecked))
  case cancel => exact fun p s right armed => execSwapCancel_armed right armed
  case drained => exact fun s draining unaffected => congrArg Host.Outcome.next (drainEnd_unaffected draining unaffected)

end Sys2Proof.Machine
end
